-- ==== Sys2Proof/Word.lean ====
section
/-! DEFINITION. Word.lean: the machine's word types and its clock. Registers are 32-bit words, frame and memory cells are
bytes (R14, R15); the core clock runs at 1.40 GHz (R33). -/
namespace Sys2Proof

/-- One byte of a frame or of host memory. -/
abbrev Byte := BitVec 8

/-- One 32-bit register word. -/
abbrev Word := BitVec 32

/-- Core clocks per second: 1.40 GHz (R33, R435). -/
def clockHz : Nat := 1400000000

/-- Core clocks per millisecond. -/
def clocksPerMs : Nat := 1400000

/-- Core clocks per microsecond. -/
def clocksPerUs : Nat := 1400

end Sys2Proof
end

