-- ==== Sys2Proof/Syntax.lean ====
section
/-! DEFINITION. Syntax.lean: the commands the block takes, one constructor for each row of the command table, with the
row's operands. `dt` counts the core clocks that pass between the command before and this one: a row that the block's
clocks bring about (a timer, an edge, a frame, a completed access) carries it, a write or read of the host does not. -/
namespace Sys2Proof

/-- The ways the host side is lost (R159). -/
inductive HostLoss
  | perst | hotReset | linkDown | d3hotToD0
deriving DecidableEq, Repr

/-- The configuration the host gives the function as the link comes up (R154, R180, R619): MSI-X Enable, the function mask,
Bus Master Enable, and in bytes the Max Payload Size and the Max Read Request Size. -/
structure PcieCfg where
  msixEn : Bool
  fnMask : Bool
  busMaster : Bool
  mps : Nat
  mrrs : Nat
deriving DecidableEq, Repr

/-- Registers of the function's configuration space (R153, R155, R156): the type 0 header, and those of the capabilities
whose fields this manual names. -/
inductive CfgReg
  | ids | command | revisionClass | headerType | bar (k : Nat) | subsystem | interruptPin | capabilities (k : Nat)
  | powerManagement | deviceCapabilities | deviceCapabilities2 | deviceControl | deviceControl2 | linkCapabilities | linkControl | msixControl
  | aerStatus | aerMask | aerSeverity | serialLow | serialHigh
deriving DecidableEq, Repr

/-- The host's accesses to MSI-X, to configuration space and to the user page of BAR2 (R153 to R158, R180, R675): the mask bit of
a vector, or the function mask (`none`), is lifted; a DWORD of the MSI-X table or of the PBA is read, one of the table written;
a configuration register is read or written; a whole slot or a DWORD of the user page is read. -/
inductive PciAccess
  | unmask (vector : Option Nat)
  | tableRead (dword : Nat)
  | tableWrite (dword : Nat) (value : Word)
  | pbaRead (dword : Nat)
  | cfgRead (r : CfgReg)
  | cfgWrite (r : CfgReg) (value : Word)
  | pageSlot (slot : Nat)
  | pageDword (dword : Nat)
deriving DecidableEq, Repr

/-- A link training that ends (R207): its port, and the taps that it has settled lane by lane, as the tap fields of
PRT_LANE_CFG hold them. -/
structure Training where
  port : Nat
  taps : List Nat
deriving DecidableEq, Repr

/-- A rising edge of a mains input (R438): the core clocks for which the input was low before it, and stays high after it. -/
structure EdgeLevels where
  low : Nat
  high : Nat
deriving DecidableEq, Repr

/-- A received preemption fragment (R236): whether it starts a frame, its frame and fragment counts in order or not as
the MAC merge sublayer sees them, and its bytes; those of the last fragment end with the frame check sequence of the frame,
and of any other `crcOk` says that its own check is right; a code error fell within it (R216). -/
structure Fragment where
  start : Bool
  frameCount : Nat
  fragCount : Nat
  bytes : List Byte
  last : Bool
  crcOk : Bool
  codeError : Bool
deriving DecidableEq, Repr

/-- The conditions a link reports (R210): signal, block lock, alignment lock, FEC lock, local fault, remote fault. -/
structure LinkCond where
  signal : Bool
  blockLock : Bool
  alignLock : Bool
  fecLock : Bool
  localFault : Bool
  remoteFault : Bool
deriving DecidableEq, Repr

/-- What the voters see at clock 490 (R699 to R702): for each of the three copies whether its decision descriptor is the
fault-free one (two descriptors with a fault differ from each other), whether no majority of the copies requested the
same state write, and the TCAM row in which the pass's search found a parity error, if any (R712). -/
structure VoteFaults where
  ok0 : Bool
  ok1 : Bool
  ok2 : Bool
  writeDisagree : Bool
  tcamParity : Option Nat
deriving DecidableEq, Repr

/-- A shaper whose rate or burst is written (R414): a port's, or a queue's of a port. -/
inductive ShaperTarget
  | port (p : Nat)
  | queue (p q : Nat)
deriving DecidableEq, Repr

/-- A data channel of the Drayman: receive or transmit channel `c`. -/
inductive DataChan
  | rx (c : Nat)
  | tx (c : Nat)
deriving DecidableEq, Repr

/-- Any channel of the Drayman. -/
inductive DryChan
  | rx (c : Nat)
  | tx (c : Nat)
  | err (e : Nat)
deriving DecidableEq, Repr

/-- The word an ECC check concerns (R709): its class, hearth (15 none), table number or bank, and index. -/
structure EccWord where
  cls : Nat
  hearth : Nat
  table : Nat
  index : Nat
deriving DecidableEq, Repr

/-- One poll of the monitors (R716): temperatures in hundredths of a degree, voltages in mV, process-monitor counts;
`none` for a sensor that does not answer. -/
structure Readings where
  temps : List (Option Int)
  volts : List (Option Nat)
  procs : List (Option Nat)
deriving DecidableEq, Repr

/-- The commands. -/
inductive Instr
  /-- COLD_RESET (R140): Power-on or RESET_N low resets everything but OTP and leaves the device in DORMANT. Operand: power-on (`false`) or RESET_N driven low (`true`). -/
  | coldReset (byPin : Bool)
  /-- RESET_N_RISE (R146): RESET_N rises and the first-second sequence starts: PLL lock, OTP read and Ostler start from mask ROM. -/
  | resetNRise (dt : Nat)
  /-- SUPPLY_BROWNOUT (R742): VDD_CORE or VDD_1V8 falls below its level for more than 2 µs, and the device holds itself in cold reset. -/
  | supplyBrownout (dt : Nat)
  /-- SUPPLY_RECOVERED (R742): Both rails have been back above their levels with RESET_N high for 10 ms, and the device leaves reset as after POWER_ON. -/
  | supplyRecovered (dt : Nat) (resetNHigh : Bool)
  /-- REFCLK_LOST (R746): An SD_REFCLK or PORCH_REFCLK has no edge for 1 µs or is off frequency; the clock is marked lost and its lanes lose lock. Operand: reference clock 0 to 3: SD_REFCLK of that quadrant, 4: PORCH_REFCLK, 5: PCIE_REFCLK. -/
  | refclkLost (dt : Nat) (clk : Nat)
  /-- REFCLK_RESTORED (R746): A lost reference clock has been back for 1 ms; it is marked present and its ports retrain. -/
  | refclkRestored (dt : Nat) (clk : Nat)
  /-- CORE_REFCLK_LOST (R747): CLK_REF is lost; the core PLL runs on and a CRITICAL record is written. -/
  | coreRefclkLost (dt : Nat)
  /-- CORE_PLL_HOLDOVER_EXPIRY (R747): CLK_REF has not returned within 100 µs, and the device holds itself in cold reset until the clock is stable. -/
  | corePllHoldoverExpiry (dt : Nat)
  /-- BOOT_FLASH_SELECT (R87): After cold reset the loader reads both slot HEADERs and starts loading the best slot. -/
  | bootFlashSelect (dt : Nat)
  /-- VERIFICATION_COMPLETE (R79): The Ostler ends verification of a loaded image with a result; the image becomes active or shadow-ready, or is erased. -/
  | verificationComplete (dt : Nat)
  /-- FULL_LOAD (R83): FRG_CTL.OP FULL_LOAD opens a full load in DORMANT or QUIESCED. -/
  | fullLoad
  /-- SHADOW_LOAD (R85): FRG_CTL.OP SHADOW_LOAD opens a shadow load while running. -/
  | shadowLoad
  /-- ABORT (R93): FRG_CTL.OP ABORT ends a load or verification, or discards an unarmed or armed shadow bank. -/
  | frgAbort
  /-- ARM_COMMIT (R106): FRG_CTL.OP ARM_COMMIT arms the commit of the masked hearths at the given phase instant. -/
  | armCommit
  /-- DISARM (R111): FRG_CTL.OP DISARM cancels an armed commit. -/
  | disarm
  /-- ROLLBACK (R115): FRG_CTL.OP ROLLBACK arms a commit back to the previous bank. -/
  | rollback
  /-- FLUSH_OLD (R114): FRG_CTL.OP FLUSH_OLD drops the old-generation frames in DRAINING and meets the barrier. -/
  | flushOld
  /-- BOOT_FLASH (R90): FRG_CTL.OP BOOT_FLASH runs slot selection and load without a reset. -/
  | bootFlash
  /-- FRG_LOAD_PORT_WRITE (R91): A 32-bit write to FRG_LOAD_PORT delivers the next image bytes of an open load. -/
  | frgLoadPortWrite (value : Word)
  /-- TEMPER_COMMIT (R107): At the armed instant the masked hearths commit to the new bank in one core clock. -/
  | temperCommit (dt : Nat)
  /-- TEMPER_RELEASE (R113): The drain barrier is met and the old bank of every hearth is released. -/
  | temperRelease (dt : Nat)
  /-- TEMPER_DRAIN_TIMEOUT (R114): FRG_DRAIN_TIMEOUT passes without the barrier, and the FLUSH or WAIT policy applies. -/
  | temperDrainTimeout (dt : Nat)
  /-- DRAIN (R130): GLB_CTL.CMD DRAIN moves RUN to DRAINING. -/
  | drain
  /-- RESUME (R126): GLB_CTL.CMD RESUME moves DRAINING to RUN or QUIESCED to WAKING. -/
  | resume
  /-- END_WAKING (R129): GLB_CTL.CMD END_WAKING moves WAKING to RUN. -/
  | endWaking
  /-- ENTER_SAFE (R137): GLB_CTL.CMD ENTER_SAFE sets the SAFE latch with cause HOST. -/
  | enterSafe
  /-- CLEAR_SAFE (R136): GLB_CTL.CMD CLEAR_SAFE clears the SAFE latch when no monitor is beyond its clear threshold. -/
  | clearSafe
  /-- ENTER_DIAG (R138): GLB_CTL.CMD ENTER_DIAG enters DIAGNOSTIC from DORMANT or QUIESCED. -/
  | enterDiag
  /-- END_DIAG (R138): GLB_CTL.CMD END_DIAG leaves DIAGNOSTIC for QUIESCED or DORMANT. -/
  | endDiag
  /-- WAKE_TIMER_EXPIRY (R129): GLB_WAKE_ELAPSED reaches GLB_WAKE_MS and the base state becomes RUN. -/
  | wakeTimerExpiry (dt : Nat)
  /-- GLB_WAKE_MS_WRITE (R129): A write of GLB_WAKE_MS during WAKING applies at once and may end WAKING on the next clock. -/
  | glbWakeMsWrite (value : Word)
  /-- DRAIN_COMPLETE (R133): All queues and paths hold only management frames, and DRAINING becomes QUIESCED. -/
  | drainComplete (dt : Nat)
  /-- DRAIN_TIMEOUT (R133): GLB_DRAIN_TIMEOUT passes; remaining frames are dropped and the device enters QUIESCED. -/
  | drainTimeout (dt : Nat)
  /-- WARM_RESET (R140): GLB_RESET.WARM starts a warm reset that drops frames and keeps the Forging and tables. -/
  | warmReset
  /-- WARM_RESET_COMPLETE (R140): The warm reset completes and the device enters WAKING. -/
  | warmResetComplete (dt : Nat)
  /-- HEARTH_RESET (R140): A bit of GLB_HRST resets a hearth's decision path, FIFOs, egress stage and port queues. -/
  | hearthReset (mask : Nat)
  /-- HEARTH_RESET_COMPLETE (R140): A hearth reset completes within 50 µs. -/
  | hearthResetComplete (dt : Nat) (h : Nat)
  /-- PORT_RESET (R140): Setting a GLB_PORT_RST bit holds a port in reset and drops its queued frames. -/
  | portReset (port : Nat)
  /-- PORT_RESET_RELEASE (R205): Clearing a GLB_PORT_RST bit releases the port, checks its mode and starts training. -/
  | portResetRelease (port : Nat)
  /-- FUNCTION_LEVEL_RESET (R140): A PCIe FLR resets the HIF registers, MSI-X table, Drayman and Porter host state. -/
  | functionLevelReset
  /-- HOST_LINK_LOSS (R159): PERST_N low, a hot reset, leaving DL_Active or D3hot to D0 acts as a function-level reset. -/
  | hostLinkLoss (cause : HostLoss)
  /-- D3HOT_ENTRY (R160): The function enters D3hot and the Drayman stops writing host memory. -/
  | d3hotEntry
  /-- FRAME_ARRIVAL (R48): A frame's start-of-frame delimiter arrives at a port; it is stamped and its body streams into cells. -/
  | frameArrival (dt : Nat) (port : Nat) (express : Bool) (bytes : List Byte)
  /-- FRAME_RECEIVE_END (R216): The last byte of a received frame arrives and the MAC applies its length and FCS checks. -/
  | frameReceiveEnd (dt : Nat) (port : Nat) (codeError : Bool)
  /-- MAC_CONTROL_FRAME (R222): A received EtherType 0x8808 frame is consumed by the MAC and handled by opcode. -/
  | macControlFrame (dt : Nat) (port : Nat)
  /-- PAUSE_TIMER_EXPIRY (R225): The pause timer reaches 0 and transmission resumes under the gate states of that moment. -/
  | pauseTimerExpiry (dt : Nat) (port : Nat)
  /-- MM_FRAGMENT_RECEIVED (R236): A preemption fragment is received and reassembled or ended with MM_REASSEMBLY_ERR. -/
  | mmFragmentReceived (dt : Nat) (port : Nat) (frag : Fragment)
  /-- VERIFY_MPACKET_RECEIVED (R231): A received verify mPacket is answered with a respond mPacket. -/
  | verifyMpacketReceived (dt : Nat) (port : Nat)
  /-- RESPOND_MPACKET_RECEIVED (R232): A respond mPacket moves the verify state to SUCCEEDED and activates preemption. -/
  | respondMpacketReceived (dt : Nat) (port : Nat)
  /-- VERIFY_TIMER_EXPIRY (R232): The verify timer expires; another verify mPacket is sent or the state becomes FAILED. -/
  | verifyTimerExpiry (dt : Nat) (port : Nat)
  /-- LINK_CONDITION_CHANGE (R210): A link condition (signal, lock, alignment, fault) changes and the hold timer starts. -/
  | linkConditionChange (dt : Nat) (port : Nat) (cond : LinkCond)
  /-- LINK_HOLD_EXPIRY (R212): The change has persisted for its hold time and the link is reported up or down. -/
  | linkHoldExpiry (dt : Nat) (port : Nat)
  /-- AUTONEG_RESOLVED (R206): Auto-negotiation resolves; link training follows or AN_MISMATCH restarts it. -/
  | autonegResolved (dt : Nat) (port : Nat) (mode : Nat)
  /-- LINK_TRAINING_COMPLETE (R207): Link training settles its taps and the link may come up. -/
  | linkTrainingComplete (dt : Nat) (done : Training)
  /-- DECISION_PASS_START (R36): A hearth takes one frame into its decision path by the precedence of sources. -/
  | decisionPassStart (dt : Nat) (h : Nat)
  /-- VOTE (R701): At clock 490 the copies' descriptors are voted and the decision is released, recomputed or dropped. -/
  | vote (dt : Nat) (h : Nat) (faults : VoteFaults)
  /-- QUEUE_SELECTION (R420): When the transmitter can start a frame, the calendar scan selects an eligible queue's head copy. -/
  | queueSelection (dt : Nat) (port : Nat)
  /-- TRANSMIT_END (R404): A copy's last byte is transmitted and its charges are returned. -/
  | transmitEnd (dt : Nat) (port : Nat)
  /-- LEDGER_LINE_BOUNDARY (R461): A ledger's position passes into the next line and its gates and hold change. -/
  | ledgerLineBoundary (dt : Nat) (port : Nat)
  /-- LEDGER_START (R466): A ledger reaches its start S and leaves INIT_GATES. -/
  | ledgerStart (dt : Nat) (port : Nat)
  /-- STREAM_GATE_LINE_START (R479): A stream gate enters a new line and its octet count restarts. -/
  | streamGateLineStart (dt : Nat) (gate : Nat)
  /-- LDG_BASE_SUB_WRITE (R467): A write of LDG_BASE_SUB applies the other bank's base and resolves its start again. -/
  | ldgBaseSubWrite (port : Nat) (value : Word)
  /-- MAINS_EDGE (R438): A qualified rising edge at MAINS_REF_A or B becomes a phase sample. -/
  | mainsEdge (dt : Nat) (src : Nat) (edge : EdgeLevels)
  /-- MAINS_LOSS_TIMEOUT (R440): No candidate is accepted for LOSS_CYCLES periods and the mains source is lost. -/
  | mainsLossTimeout (dt : Nat) (src : Nat)
  /-- PHS_MSG_POST (R441): The host posts a phase sample by writing PHS_MSG_POST. -/
  | phsMsgPost (value : Word)
  /-- MSG_LOSS_TIMEOUT (R442): No MSG sample is accepted for PHS_MSG_LOSS_MS and MSG is lost. -/
  | msgLossTimeout (dt : Nat)
  /-- PHASE_WRAP (R434): The phase passes 16,777,215, returns to 0 and the cycle count increments. -/
  | phaseWrap (dt : Nat)
  /-- LATCH_PHASE (R493): PHS_CMD.OP LATCH latches the phase instant and device time together. -/
  | latchPhase
  /-- SET_CYCLE (R455): PHS_CMD.OP SET_CYCLE sets the cycle count at the next wrap. -/
  | setCycle
  /-- REALIGN (R454): PHS_CMD.OP REALIGN sets the phase clock to q at the next accepted sample. -/
  | realign
  /-- TIMED_ACTION_ARM (R483): A write of PHS_TA_CTL arms or disarms a timed-action slot. -/
  | timedActionArm (slot : Nat) (value : Word)
  /-- TIMED_ACTION_FIRE (R484): The phase instant reaches an armed action and it fires. -/
  | timedActionFire (dt : Nat) (slot : Nat)
  /-- GPIO_PULSE_END (R759): A timed GPIO pulse ends and the pin returns to PIN_GPIO_OUT. -/
  | gpioPulseEnd (dt : Nat) (pin : Nat)
  /-- TIM_SMP_POST (R507): The host posts a time sample for domain A or B. -/
  | timSmpPost (value : Word)
  /-- TRACKER_LOSS_TIMEOUT (R510): A tracker has accepted no sample for TIM_LOSS_MS and enters IDLE. -/
  | trackerLossTimeout (dt : Nat) (domainB : Bool)
  /-- LATCH (R493): TIM_CMD.OP LATCH copies device time into TIM_LAT registers. -/
  | latch
  /-- STEP_REL (R523): TIM_CMD.OP STEP_REL adds or subtracts the step value from device time. -/
  | stepRel (neg : Bool)
  /-- SET_ABS (R523): TIM_CMD.OP SET_ABS sets device time to the step value. -/
  | setAbs
  /-- SWITCH (R520): TIM_CMD.OP SWITCH makes the named tracking tracker govern. -/
  | switchDomain (domainB : Bool)
  /-- TIM_CTL_WRITE (R514): A write of TIM_CTL may start the servo without a change of rate or put tracker B in IDLE. -/
  | timCtlWrite (value : Word)
  /-- CLK10M_MEASUREMENT (R516): After 1,000,000 CLK10M_IN edges the integral term is set from the measured time. -/
  | clk10mMeasurement (dt : Nat)
  /-- PPS_IN_EDGE (R528): A rising edge at PPS_IN latches device time and may post a domain-A sample. -/
  | ppsInEdge (dt : Nat)
  /-- PPS_OUT_SECOND (R526): Device time reaches a whole second and PPS_OUT rises. -/
  | ppsOutSecond (dt : Nat)
  /-- PPS_OUT_PULSE_END (R526): PPS_OUT has been high for WIDTH_MS and falls. -/
  | ppsOutPulseEnd (dt : Nat)
  /-- TXTS_RECORD_READ (R498): A read of TIM_TXTS_W3 removes the transmit stamp record. -/
  | txtsRecordRead
  /-- UTC_OFFSET_SET (R529): A write of TIM_UTC_OFFSET changes the Guestbook calendar offset. -/
  | utcOffsetSet (value : Word)
  /-- KIXON_FRAME_CHECK (R559): The fabric block takes a queued Kixon frame and checks version, length, fabric, tag, type and sequence. -/
  | kixonFrameCheck (dt : Nat)
  /-- HELLO (R561): A received HELLO is answered with a HELLO_ACK, and a new NONCE restarts the handshake. -/
  | hello (dt : Nat)
  /-- HELLO_ACK (R561): A HELLO_ACK that echoes the NONCE makes the port LINKED. -/
  | helloAck (dt : Nat)
  /-- HELLO_TIMER (R561): Every 100 ms in state HELLO another HELLO is sent. -/
  | helloTimer (dt : Nat) (port : Nat)
  /-- DELAY_REQ_TIMER (R562): Every 1,000 ms a LINKED port sends a DELAY_REQ. -/
  | delayReqTimer (dt : Nat) (port : Nat)
  /-- DELAY_REQ (R562): A received DELAY_REQ is answered with a DELAY_RESP. -/
  | delayReq (dt : Nat)
  /-- DELAY_RESP (R562): A received DELAY_RESP updates the port's link delay. -/
  | delayResp (dt : Nat)
  /-- TIME_INTERVAL (R564): Every INTERVAL_MS an active Keeper sends TIME frames on every LINKED port. -/
  | timeInterval (dt : Nat)
  /-- TIME (R567): A received TIME frame updates the standing and upstream and yields time and phase samples and a relay. -/
  | timeFrame (dt : Nat)
  /-- UPSTREAM_CANDIDATE_EXPIRY (R566): A port receives no accepted TIME frame for 3 × INTERVAL_MS and ceases to be a candidate. -/
  | upstreamCandidateExpiry (dt : Nat) (port : Nat)
  /-- TRIGGER (R572): A received TRIGGER frame is acted on once and relayed. -/
  | trigger (dt : Nat)
  /-- KEY_SWITCH_INSTANT (R573): At a KEY_SWITCH trigger's instant the standby key set becomes active. -/
  | keySwitchInstant (dt : Nat)
  /-- HEARTBEAT (R579): A HEARTBEAT that passes the checks restarts the Keeper-loss watch. -/
  | heartbeat (dt : Nat)
  /-- HB_LOSS_TIMEOUT (R579): No heartbeat for FAB_HB_LOSS_MS sets HB_LOST and clears the standing. -/
  | hbLossTimeout (dt : Nat)
  /-- KIXON_HOST_MESSAGE (R560): A checked frame of a host type is queued to the host or to the join queue. -/
  | kixonHostMessage (dt : Nat)
  /-- JOIN_QUEUE_DELIVERY (R150): A waiting join request is delivered to the host when the KIXON bucket allows. -/
  | joinQueueDelivery (dt : Nat)
  /-- TAKEOVER (R585): FAB_CMD.OP TAKEOVER makes a STANDBY Keeper ACTIVE with a higher term. -/
  | takeover
  /-- STEP_DOWN (R585): FAB_CMD.OP STEP_DOWN makes an ACTIVE Keeper STANDBY. -/
  | stepDown
  /-- SEND_TRIGGER (R571): FAB_CMD.OP SEND_TRIGGER makes the active Keeper act on and send a trigger. -/
  | sendTrigger
  /-- TRIGGER_REPEAT (R571): 1 ms after the previous copy, the Keeper sends the next copy of its trigger. -/
  | triggerRepeat (dt : Nat)
  /-- KEY_SWITCH (R584): FAB_CMD.OP KEY_SWITCH swaps the active and standby key sets. -/
  | keySwitch
  /-- REHELLO (R561): FAB_CMD.OP REHELLO restarts the handshake on the named port. -/
  | rehello (port : Nat)
  /-- FAB_SELF_WRITE (R548): The one permitted host write of FAB_SELF.DEVICE_ID on an unassigned Lodge. -/
  | fabSelfWrite (value : Word)
  /-- FAB_PORT_CFG_WRITE (R561): Clearing FAB_PORT_CFG.EN takes the port out of the fabric to DOWN. -/
  | fabPortCfgWrite (port : Nat) (value : Word)
  /-- READ (R355): TBL_CMD opcode READ copies an entry image into TBL_DATA. -/
  | tblRead (ctx table h : Nat) (bank : Bool)
  /-- WRITE (R355): TBL_CMD opcode WRITE writes TBL_DATA into an entry. -/
  | tblWrite (ctx table h : Nat) (bank : Bool)
  /-- LOOKUP (R355): TBL_CMD opcode LOOKUP finds a key in a hashed table. -/
  | tblLookup (ctx table h : Nat) (bank : Bool)
  /-- INSERT (R355): TBL_CMD opcode INSERT adds an absent key through the mover. -/
  | tblInsert (ctx table h : Nat) (bank : Bool)
  /-- UPDATE (R355): TBL_CMD opcode UPDATE rewrites the entry with the key in place. -/
  | tblUpdate (ctx table h : Nat) (bank : Bool)
  /-- DELETE (R355): TBL_CMD opcode DELETE invalidates the entry with the key. -/
  | tblDelete (ctx table h : Nat) (bank : Bool)
  /-- HIT_SCAN (R338): TBL_CMD opcode HIT_SCAN returns and clears the hit bits of 32 entries. -/
  | hitScan (ctx table h : Nat) (bank : Bool)
  /-- AGE (R339): TBL_CMD opcode AGE deletes an idle dynamic FDB entry. -/
  | tblAge (ctx table h : Nat) (bank : Bool)
  /-- FLUSH (R356): TBL_CMD opcode FLUSH invalidates matching dynamic FDB entries. -/
  | tblFlush (ctx table h : Nat) (bank : Bool)
  /-- TBL_CMD_COMPLETE (R353): A table command completes, writes its result and clears BUSY. -/
  | tblCmdComplete (dt : Nat) (ctx : Nat)
  /-- MOVER_INSERTION (R329): The mover works a pending insertion through a chain of moves. -/
  | moverInsertion (dt : Nat) (h table : Nat)
  /-- TBL_NOTE_W3_READ (R333): A read of TBL_NOTE_W3 removes the notification record. -/
  | tblNoteW3Read (h : Nat)
  /-- HTH_EXC_CAP_READ (R265): A read of HTH_EXC_CAP clears and re-arms the exception capture. -/
  | hthExcCapRead (h : Nat)
  /-- FRAGMENT_ENTRY_EXPIRY (R271): A fragment-table entry expires LIFETIME_MS after its write. -/
  | fragmentEntryExpiry (dt : Nat) (h set way : Nat)
  /-- TMPL_READ (R369): FRY_TMPL_CMD OP READ reads a template image. -/
  | tmplRead (index : Nat)
  /-- TMPL_WRITE (R369): FRY_TMPL_CMD OP WRITE writes a template in one core clock. -/
  | tmplWrite (index : Nat)
  /-- TMPL_CMD_COMPLETE (R369): A template command completes and sets TMPL_DONE. -/
  | tmplCmdComplete (dt : Nat)
  /-- METER_BACKGROUND_REFRESH (R408): The background refresh updates a meter with zero bytes. -/
  | meterBackgroundRefresh (dt : Nat) (h meter : Nat)
  /-- SHAPER_RATE_WRITE (R414): A write of a shaper's rate or burst resets its level. -/
  | shaperRateWrite (target : ShaperTarget) (burst : Bool) (value : Word)
  /-- TM_REGION_WRITE (R405): A write of a region or queue limit changes the admission limits and the shared size. -/
  | tmRegionWrite (addr : Nat) (value : Word)
  /-- QUEUE_SAMPLE (R429): Every PERIOD_US all queues are sampled into their histograms. -/
  | queueSample (dt : Nat)
  /-- ALLOC (R601): POR_CMD OP ALLOC takes a room from a pool's cache. -/
  | porAlloc (pool owner : Nat)
  /-- FREE (R606): POR_CMD OP FREE releases an owner's hold on a room. -/
  | porFree (owner : Nat)
  /-- SHARE (R607): POR_CMD OP SHARE adds owners to a held room. -/
  | porShare (owner : Nat)
  /-- QUERY (R609): POR_CMD OP QUERY returns a room's owner mask. -/
  | porQuery
  /-- POR_CMD_COMPLETE (R609): A Porter command completes and sets CMD_DONE. -/
  | porCmdComplete (dt : Nat)
  /-- POOL_ENABLE (R599): A write of POR_POOL_CTL with EN 1 enables a pool, with INIT clearing its masks. -/
  | poolEnable (pool : Nat) (init : Bool)
  /-- POOL_DISABLE (R600): A write of EN 0 disables a pool after its cache is spilled. -/
  | poolDisable (pool : Nat)
  /-- CACHE_REFILL (R597): A pool cache at 16 or less reads up to 32 handles from its ring. -/
  | cacheRefill (dt : Nat) (pool : Nat)
  /-- CACHE_SPILL (R597): A pool cache at 48 or more writes 32 handles to its ring tail. -/
  | cacheSpill (dt : Nat) (pool : Nat)
  /-- RETURN_QUEUE_RECORD (R610): A record read from the return queue is applied as a free or share. -/
  | returnQueueRecord (dt : Nat)
  /-- PORTER_DMA_ERR (R611): A failed read of a free ring or the return queue stops it. -/
  | porterDmaErr (dt : Nat) (target : Nat)
  /-- CHANNEL_ENABLE (R622): A write of EN 1 starts a data channel at FIRST. -/
  | channelEnable (chan : DataChan)
  /-- DESCRIPTORS_POSTED (R622): A write of DRY_*_POSTED gives the channel more descriptors. -/
  | descriptorsPosted (chan : DataChan) (value : Word)
  /-- DESCRIPTOR_FETCH (R624): A descriptor read completes or halts the channel with FETCH_ERR or BAD_LINK. -/
  | descriptorFetch (dt : Nat) (chan : DataChan) (error : Bool)
  /-- STOP (R647): A write of STOP stops a channel or errand at its next boundary. -/
  | dryStop (chan : DryChan)
  /-- CHANNEL_STOPPED (R647): A stopping channel reaches its boundary and becomes STOPPED. -/
  | channelStopped (dt : Nat) (chan : DryChan)
  /-- RESUME_CHANNEL (R651): A write of RESUME returns a stopped or halted channel to RUNNING. -/
  | resumeChannel (chan : DryChan)
  /-- CHANNEL_DISABLE (R647): A write of EN 0 stops and disables a data channel. -/
  | channelDisable (chan : DataChan)
  /-- RX_COPY_HANDOVER (R627): A host copy is handed to its receive channel once descriptors are ready. -/
  | rxCopyHandover (dt : Nat) (ring : Nat)
  /-- RX_ROOM_ALLOCATION (R603): The Drayman's write reaches a new room and the Porter allocates it. -/
  | rxRoomAllocation (dt : Nat) (ring : Nat)
  /-- RX_COPY_COMPLETE (R628): A copy's data and descriptors are written and its first STATUS last. -/
  | rxCopyComplete (dt : Nat) (ring : Nat)
  /-- RX_INT_MOD_TIMER (R630): INT_USEC after the first unreported completion, COMPLETE is set. -/
  | rxIntModTimer (dt : Nat) (ring : Nat)
  /-- TX_FRAME_READ (R633): A transmit frame's segments are read and the frame enters its hearth. -/
  | txFrameRead (dt : Nat) (chan : Nat)
  /-- TX_DESCRIPTOR_COMPLETE (R634): A transmit descriptor's reads complete; rooms are freed and STATUS written. -/
  | txDescriptorComplete (dt : Nat) (chan : Nat)
  /-- DMA_READ_ERROR (R649): A read completes with an error and the channel or errand halts. -/
  | dmaReadError (dt : Nat) (chan : DryChan)
  /-- ERRAND_START (R636): A write of DRY_ERR_CTL.START starts an errand at PC 0. -/
  | errandStart (e : Nat)
  /-- MOVE (R640): Errand instruction MOVE copies COUNT bytes. -/
  | errandMove (dt : Nat) (e : Nat)
  /-- LOOP (R642): Errand instruction LOOP increments ITER and jumps or falls through. -/
  | errandLoop (dt : Nat) (e : Nat)
  /-- WAIT (R643): Errand instruction WAIT begins waiting on a flag, time or phase. -/
  | errandWait (dt : Nat) (e : Nat)
  /-- WAIT_COMPLETE (R643): A WAIT's condition holds and the next instruction starts. -/
  | waitComplete (dt : Nat) (e : Nat)
  /-- WAIT_TIMEOUT (R643): TIMEOUT_US passes first and the errand halts. -/
  | waitTimeout (dt : Nat) (e : Nat)
  /-- SIGNAL (R644): Errand instruction SIGNAL writes its code, optionally a host word and an interrupt. -/
  | errandSignal (dt : Nat) (e : Nat)
  /-- FENCE (R645): Errand instruction FENCE waits for the errand's reads and writes. -/
  | errandFence (dt : Nat) (e : Nat)
  /-- END (R646): Errand instruction END stops the errand with state DONE. -/
  | errandEnd (dt : Nat) (e : Nat)
  /-- SNAPSHOT (R664): A write of TAL_SNAP_CMD latches the selected counter groups. -/
  | snapshot (mask : Word)
  /-- TAL_CLEAR (R662): A write of TAL_CLEAR zeroes the live values of the selected groups. -/
  | talClear (mask : Word)
  /-- START (R667): TAL_HV_CMD OP START begins a harvest. -/
  | harvestStart (snapFirst : Bool)
  /-- HARVEST_ABORT (R671): TAL_HV_CMD OP ABORT ends a harvest at a counter boundary. -/
  | harvestAbort
  /-- HARVEST_COMPLETE (R669): The reader writes data, header and STATUS and the harvest ends. -/
  | harvestComplete (dt : Nat)
  /-- TAL_RD_SEL_WRITE (R673): A write of TAL_RD_SEL captures one counter into TAL_RD_HI and LO. -/
  | talRdSelWrite (value : Word)
  /-- EVENT_RAISE (R682): A block raises an event; it passes its bucket into the input queue or is suppressed. -/
  | eventRaise (dt : Nat) (code unit arg0 arg1 : Nat)
  /-- SUMMARY_TIMER (R684): GBK_SUM_MS after the first suppression a summary record is placed. -/
  | summaryTimer (dt : Nat) (code : Nat)
  /-- LOG_PLACEMENT (R686): The writer takes one event from the input queue and places its record. -/
  | logPlacement (dt : Nat)
  /-- GBK_RD_SEQ_WRITE (R689): A write of GBK_RD_SEQ captures the first record at or after the SEQ. -/
  | gbkRdSeqWrite (value : Word)
  /-- CLEAR (R690): GBK_CMD OP CLEAR removes non-CRITICAL records before GBK_CMD_ARG. -/
  | gbkClear
  /-- CLEAR_ALL (R690): GBK_CMD OP CLEAR_ALL removes every record. -/
  | gbkClearAll
  /-- SPILL_BATCH (R693): Up to 16 records are written to the spill ring when it has room. -/
  | spillBatch (dt : Nat)
  /-- PING (R187): Mailbox opcode PING echoes its request words. -/
  | ping (tag len : Nat)
  /-- GET_VERSION (R187): Mailbox opcode GET_VERSION returns ROM and patch versions. -/
  | getVersion (tag len : Nat)
  /-- AVS_STATUS (R187): Mailbox opcode AVS_STATUS returns the VDD_CORE setpoint and state. -/
  | avsStatus (tag len : Nat)
  /-- OTP_KEY_HASH (R187): Mailbox opcode OTP_KEY_HASH programs a key slot's hash. -/
  | otpKeyHash (tag len : Nat)
  /-- OTP_REVOKE (R187): Mailbox opcode OTP_REVOKE revokes a key slot. -/
  | otpRevoke (tag len : Nat)
  /-- OTP_IMAGE_KEY (R187): Mailbox opcode OTP_IMAGE_KEY programs the image key. -/
  | otpImageKey (tag len : Nat)
  /-- OTP_RAISE_SECVER (R76): Mailbox opcode OTP_RAISE_SECVER blows the next SECVER fuse bit. -/
  | otpRaiseSecver (tag len : Nat)
  /-- MBX_COMPLETION (R182): The Ostler writes its response and clears BUSY. -/
  | mbxCompletion (dt : Nat) (readBackOk : Bool)
  /-- MBX_TIMEOUT (R185): A command stays BUSY beyond HIF_MBX_TIMEOUT and ends with TIMEOUT. -/
  | mbxTimeout (dt : Nat)
  /-- OSTLER_BEAT (R190): The Ostler increments HIF_OSTLER_BEAT every 1 ms. -/
  | ostlerBeat (dt : Nat)
  /-- OSTLER_SILENT (R190): HIF_OSTLER_BEAT is unchanged for 100 ms and OSTLER_SILENT is set. -/
  | ostlerSilent (dt : Nat)
  /-- OSTLER_RESTART (R191): A write of HIF_OSTLER_CTL.RESTART restarts the Ostler from mask ROM. -/
  | ostlerRestart
  /-- GLB_VEC_EOI_WRITE (R179): A write of GLB_VEC_EOI clears a vector's ACTIVE bit. -/
  | glbVecEoiWrite (value : Word)
  /-- MSIX_UNMASK (R180): Lifting the MSI-X mask sends the pending message. Operand: the access that lifts it, or any other to
  the MSI-X table, the PBA or configuration space. -/
  | msixUnmask (access : PciAccess)
  /-- RC_REGISTER_READ (R18): A read of a register with RC fields clears the whole register. -/
  | rcRegisterRead (addr be : Nat)
  /-- UNASSIGNED_READ (R22): A read of an unassigned BAR0 address returns 0 and is logged. -/
  | unassignedRead (addr be : Nat)
  /-- UNALIGNED_READ (R163): A read with unaligned byte enables returns all ones and is logged. -/
  | unalignedRead (addr dwords : Nat)
  /-- BAR2_WRITE (R157): A write to BAR2 is dropped and logged. -/
  | bar2Write (offset : Nat)
  /-- POISONED (R168): A poisoned write to BAR0 or BAR2 is dropped and logged. -/
  | poisoned (bar2 : Bool) (offset : Nat)
  /-- REGISTER_WRITE (R163): A write to a BAR0 register that has no row of its own takes effect by its access codes. -/
  | registerWrite (addr be : Nat) (value : Word)
  /-- FENCE_COPY (R708): HLT_FENCE_CMD OP FENCE fences the named copy. -/
  | fenceCopy (h copy : Nat)
  /-- UNFENCE (R708): HLT_FENCE_CMD OP UNFENCE rejoins a copy whose BIST passed. -/
  | unfence (h : Nat)
  /-- COPY_BIST (R707): The Ostler runs logic BIST of a fenced copy within 100 ms and every 60 s. -/
  | copyBist (dt : Nat) (h : Nat) (passed : Bool)
  /-- SCRUB_ACCESS (R711): The scrubber reads the next ECC word and writes back a corrected value. -/
  | scrubAccess (dt : Nat) (word : EccWord) (errors : Nat)
  /-- TCAM_SCRUB (R712): The scrubber compares a TCAM row with its shadow and repairs it. -/
  | tcamScrub (dt : Nat) (h : Nat) (bank : Bool) (row : Nat) (parityBad shadowBad : Bool)
  /-- SPARE (R713): HLT_BANK_CMD SPARE spares, or withdraws, a buffer bank. -/
  | spare (bank : Nat)
  /-- BANK_SPARED (R713): The sparing copy ends and the bank's number maps to the spare. -/
  | bankSpared (dt : Nat) (bank : Nat)
  /-- BANK_WITHDRAWN (R714): The last cell of a withdrawn bank is freed and the bank leaves the free store. -/
  | bankWithdrawn (dt : Nat) (bank : Nat)
  /-- MONITOR_POLL (R716): Every 10 ms the Ostler polls the sensors and evaluates warning thresholds. -/
  | monitorPoll (dt : Nat) (readings : Readings)
  /-- MONITOR_CRIT (R719): A hardware comparator finds a critical threshold passed. -/
  | monitorCrit (dt : Nat) (volt : Bool) (k : Nat) (value : Int)
  /-- AVS_STEP (R722): At most every 10 ms the Ostler moves the VDD_CORE setpoint 5 mV toward its target. -/
  | avsStep (dt : Nat)
  /-- RUN (R725): HLT_BIST_CTL RUN starts memory BIST in DIAGNOSTIC. -/
  | bistRun (target : Nat)
  /-- BIST_COMPLETE (R725): A memory BIST run ends and reports its result. -/
  | bistComplete (dt : Nat) (failed : Nat)
  /-- QSPI_COMMAND (R755): A write of PIN_QSPI_CMD starts a flash command. -/
  | qspiCommand (value : Word)
  /-- QSPI_DONE (R755): A flash command completes. -/
  | qspiDone (dt : Nat) (data : List Byte)
  /-- I2C_START (R756): PIN_I2C_CMD START begins an I²C transaction. -/
  | i2cStart (i : Nat) (value : Word)
  /-- I2C_DONE (R756): An I²C transaction completes with its result. -/
  | i2cDone (dt : Nat) (i : Nat) (result : Nat) (data : List Byte)
  /-- I2C_DATA_WRITE (R756): A write of PIN_I2C_DATA pushes the transmit FIFO. -/
  | i2cDataWrite (i : Nat) (value : Word)
  /-- I2C_DATA_READ (R756): A read of PIN_I2C_DATA pops the receive FIFO. -/
  | i2cDataRead (i : Nat)
  /-- C22_WRITE (R758): PIN_MDIO_CMD OP C22 WRITE runs a Clause 22 write frame. -/
  | c22Write (phy reg : Nat)
  /-- C22_READ (R758): PIN_MDIO_CMD OP C22 READ runs a Clause 22 read frame. -/
  | c22Read (phy reg : Nat)
  /-- C45_WRITE (R758): PIN_MDIO_CMD OP C45 WRITE runs an address frame and a write frame. -/
  | c45Write (phy dev reg : Nat)
  /-- C45_READ (R758): PIN_MDIO_CMD OP C45 READ runs an address frame and a read frame. -/
  | c45Read (phy dev reg : Nat)
  /-- MDIO_DONE (R758): An MDIO command completes. -/
  | mdioDone (dt : Nat) (noAnswer : Bool) (data : Nat)
  /-- GPIO_EDGE (R760): A rising edge at an enabled input GPIO sets its edge bit. -/
  | gpioEdge (dt : Nat) (pin : Nat)
  /-- LED_STREAM (R761): Every PERIOD_MS the LED stream sends 288 bits and latches. -/
  | ledStream (dt : Nat)
  /-- BYPASS (R762): JTAG instruction BYPASS. -/
  | jtagBypass
  /-- IDCODE (R762): JTAG instruction IDCODE reads 0x1972_4A3B. -/
  | jtagIdcode
  /-- SAMPLE_PRELOAD (R762): JTAG instruction SAMPLE/PRELOAD. -/
  | jtagSamplePreload (pins : List Bool)
  /-- EXTEST (R762): JTAG instruction EXTEST takes the pins from the device logic. -/
  | jtagExtest
  /-- EXTEST_PULSE (R762): JTAG instruction EXTEST_PULSE on the lanes. -/
  | jtagExtestPulse
  /-- EXTEST_TRAIN (R762): JTAG instruction EXTEST_TRAIN on the lanes. -/
  | jtagExtestTrain
  /-- HIGHZ (R762): JTAG instruction HIGHZ floats the pins. -/
  | jtagHighz
  /-- CLAMP (R762): JTAG instruction CLAMP holds the pins. -/
  | jtagClamp
  /-- SLOT_LAST_BYTE_ARRIVED (R83): The last byte of a flash slot read by the loader arrives, the base state becomes VERIFYING and steps 6 to 12 of verification begin. -/
  | slotLastByteArrived (dt : Nat)
  /-- QUADRANT_TRAINING_START (R147): Quadrant q of the front lanes begins link training 50 ms after quadrant q minus 1 began. -/
  | quadrantTrainingStart (dt : Nat) (q : Nat)
  /-- HOST_LINK_UP (R154): The PCIe link trains and enters DL_Active, and HIF_LINK reports LINK_UP with the negotiated speed and width. -/
  | hostLinkUp (dt : Nat) (speed width : Nat) (cfg : PcieCfg)
  /-- CORE_REFCLK_RESTORED (R747): CLK_REF returns: within 100 µs the device continues with CORE_LOST_SEEN held, otherwise after 10 ms of stability it leaves cold reset and boots as from power-on. -/
  | coreRefclkRestored (dt : Nat)
deriving DecidableEq, Repr

end Sys2Proof
end

