-- ==== Sys2Proof/Machine/Types.lean ====
section
/-! DEFINITION. Machine/Types.lean: the plain data the blocks work on: the structure a Forging gives a hearth, table
entries, parse results, decisions, frames and their copies, records, descriptors. -/
namespace Sys2Proof
namespace Machine

/-- A token bucket: its level in units of 1/clockHz of a token, as it stood in core clock `stamp` (R148, R682). -/
structure Bucket where
  level : Nat
  stamp : Nat
deriving DecidableEq, Repr

/-- Output pins that stay high-impedance until their block first drives them (R736). -/
inductive OutPin where
  | tdo | ppsOut | clk10mOut | qspi | avs | mdio | led
deriving DecidableEq, Repr

/-! ### The structure of a hearth, one per bank (R96, R248 to R279) -/

/-- The banked structure of one hearth (R96): parser graph, start states, key layouts, hash profiles, miss actions. -/
structure HearthStruct where
  /-- State records of 256 bits, at most 128 (R250). -/
  graph : List Nat
  /-- Start state of ports 0 to 71; entry 72 is that of port 76 (R248). -/
  starts : List Nat
  /-- Start states of second passes: Layer 2, IPv4, IPv6, not decapsulated (R248, R301). -/
  starts2 : List Nat
  /-- The four field-vector words a fragment entry saves (R268). -/
  saveWords : List Nat
  /-- The eight TCAM key layouts, 64 or 144 selectors each (R275, R276). -/
  layouts : List (List Nat)
  /-- The layout of each parser state (R276). -/
  stateLayout : List Nat
  /-- The miss action word of each layout (R284). -/
  missAction : List Nat
  /-- The key layout of each exact-match table (R278). -/
  emLayouts : List (List Nat)
  /-- The 64 hash profiles (R279). -/
  profiles : List Nat
  /-- Class of each ingress port, entry 72 for port 76 (R274). -/
  portClass : List Nat
  /-- Default bridge domain of each ingress port, entry 72 for port 76 (R318). -/
  portBd : List Nat
deriving DecidableEq, Repr, Inhabited

/-- One exact-match table of a hearth's pool (R94, R341): kind 0 ACTION, 1 REPLICATION; key width in bytes, buckets,
first byte in the pool, and its two hash seeds. -/
structure EmPartition where
  kind : Nat
  keyBytes : Nat
  buckets : Nat
  base : Nat
  seed0 : Nat
  seed1 : Nat
deriving DecidableEq, Repr, Inhabited

/-- One ledger line (R459): gate mask, duration in pu or ns, hold. -/
structure LedgerLine where
  gates : Nat
  dur : Nat
  hold : Bool
deriving DecidableEq, Repr, Inhabited

/-- One ledger bank of a port (R458). `base` is a phase instant under MAINS and ns of device time under PTP. -/
structure LedgerBank where
  mode : Nat
  cycle : Nat
  base : Nat
  initGates : Nat
  initHold : Bool
  lines : List LedgerLine
deriving DecidableEq, Repr, Inhabited

/-- A TCAM entry (R280). -/
structure TcamEntry where
  value : Nat
  mask : Nat
  action : Nat
  valid : Bool
  wide : Bool
deriving DecidableEq, Repr

/-- A Kixon key set (R584): KEY_ID and its 128-bit key. -/
structure KeySet where
  id : Nat
  key : List Byte
deriving DecidableEq, Repr, Inhabited

/-- One initial table entry of a Forging (R69): table number (R314), hearth, index, image words. -/
structure InitEntry where
  table : Nat
  hearth : Nat
  index : Nat
  words : List Nat
deriving DecidableEq, Repr, Inhabited

/-- What section STRUCT says (R69): the structure and the exact-match partitions of each hearth, the queue map, the room
sizes of the Porter's pools, and the Forging fields of the registers that no other section gives. -/
structure StructSection where
  regs : List (Nat × Nat)
  hearths : List HearthStruct
  parts : List (List EmPartition)
  rooms : List Nat
  queueMap : List Nat
  hostQueues : Nat
deriving DecidableEq, Repr, Inhabited

/-- What section LEDGER says (R69): ledger banks with their time bases, stream gates, and the Forging fields of LDG. -/
structure LedgerSection where
  regs : List (Nat × Nat)
  ledgers : List (Nat × LedgerBank)
  gates : List (Nat × List Nat)
deriving DecidableEq, Repr, Inhabited

/-- What the sections of an image say, as the Bennen compiler lays it out (R69: the layout itself is not in the manual). -/
structure Content where
  /-- Registers whose Reset column reads "Forging", by address. -/
  regs : List (Nat × Nat)
  hearths : List HearthStruct
  parts : List (List EmPartition)
  /-- Egress calendars of ports 0 to 75: slots 0 to 15 name a queue, 16 is empty (R82, R419). -/
  calendars : List (List Nat)
  ledgers : List (Nat × LedgerBank)
  /-- Stream gates: gate number and image words (R476). -/
  gates : List (Nat × List Nat)
  entries : List InitEntry
  /-- Room size of each Porter pool in bytes (R82). -/
  rooms : List Nat
  /-- Number of queues each egress port maps to, and of host receive queues (R82). -/
  queueMap : List Nat
  hostQueues : Nat
  /-- The fixed part (R94). -/
  fixedPart : List Byte
  /-- The keys of FABRIC, and whether they unwrap to well-formed Kixon keys (R82). -/
  keys : Option KeySet
  keysOk : Bool
deriving DecidableEq, Repr, Inhabited

/-- A verified Forging: its HEADER fields (R65) and its content. -/
structure Forging where
  role : Nat
  deviceId : Nat
  fabricId : Nat
  secVersion : Nat
  seq : Nat
  slot : Option Nat
  content : Content
deriving DecidableEq, Repr, Inhabited

/-- An open load, or a verification in progress (R83 to R93, R765): a shadow load or a full one, from the host or from
flash slot 0 (A) or 1 (B); the other slot to be tried after this one, if any; the bytes accepted, in image order (of a
slot, all that the loader will read). -/
structure Load where
  shadow : Bool
  slot : Option Nat
  other : Option Nat
  bytes : List Byte
deriving DecidableEq, Repr

/-- An armed commit (R106, R108, R111, R115): hearths, phase instant, the bank they commit to, the loader state it was
armed from, the core clock of its arming, whether it is late and takes place on the next core clock, and the trigger that
armed it. -/
structure Armed where
  mask : List Nat
  instant : Nat
  bank : Nat
  fromState : Nat
  clk : Nat
  now : Bool
  trigger : Option Nat
deriving DecidableEq, Repr

/-- What learning writes (R325, R326, R330): the hearth that took the frame in, bridge domain, MAC address, destination
kind and destination; whether egress learning makes the write. -/
structure Learn where
  hearth : Nat
  bd : Nat
  mac : Nat
  kind : Nat
  dest : Nat
  egress : Bool
deriving DecidableEq, Repr

/-- A chain of moves that the mover of a hashed table makes (R329, R334): the insertion it makes room for, learned or of a table
context with its image, and its key; the ways still to be moved, the end of the chain first, and the free way that the first
of them goes to; moves made; the core clock in which that move locks its buckets, and how far it is: 0 not yet written, 1 both
copies stand, 2 the old copy is gone. -/
structure MoverJob where
  learn : Option Learn
  ctx : Option Nat
  words : List Nat
  key : List Byte
  path : List Nat
  dest : Nat
  count : Nat
  clk : Nat
  step : Nat
deriving DecidableEq, Repr

/-! ### Parsing -/

/-- The first fragmented IP header of a pass (R266 to R268): the 38-byte key, and whether the fragment is a later one. -/
structure FragInfo where
  key : List Byte
  later : Bool
deriving DecidableEq, Repr

/-- What parsing leaves (R256 to R261). -/
structure Parse where
  exc : Nat
  /-- Header classes and byte offsets, outermost first. -/
  stack : List (Nat × Nat)
  fv : List Byte
  endState : Nat
  stopOff : Nat
  bound : Nat
  frag : Option FragInfo
deriving DecidableEq, Repr

/-- The resolved decision fields of an action word (R286). -/
structure Act where
  profile : Nat
  excOk : Bool
  fwdKind : Nat
  dest : Nat
  decap : Bool
  recirc : Bool
  carry : Nat
  queue : Nat
  pcp : Nat
  pcpEn : Bool
  meterEn : Bool
  meter : Nat
  mirrorEn : Bool
  mirrorSession : Nat
  streamEn : Bool
  stream : Nat
  hostQueue : Nat
  reason : Nat
  vlanOp : Nat
  vid : Nat
  mgmt : Bool
  learnDis : Bool
  ptpTc : Bool
  hostCopy : Bool
deriving DecidableEq, Repr

/-! ### Frames, passes and copies -/

/-- A frame in the buffer (R45 to R48, R302). -/
structure Frame where
  /-- The bytes as stored. -/
  bytes : List Byte
  /-- They still end with a frame check sequence (R249). -/
  carriesFcs : Bool
  /-- The last byte has arrived. -/
  whole : Bool
  /-- The frame failed R216 and is dropped. -/
  bad : Bool
  /-- Its frame check sequence as received is right, and its length L as received. -/
  fcsOk : Bool
  rxLen : Nat
  /-- While it arrives: the core clock of its first byte and the cells it has taken (R48, R394); its ingress MAC stops taking
  bytes of it at MAX_LEN (R218). -/
  began : Nat
  taken : Nat
  stopped : Bool
  /-- Received through the preemptable MAC (R237). -/
  preemptable : Bool
  srcPort : Nat
  hostChan : Nat
  tag : Nat
  carry : Nat
  tsReq : Bool
  tsOrigin : Bool
  /-- Ingress stamp and the step sum with it, in units of device time (R495), and the phase stamp (R478). -/
  stamp : Nat
  stepSum : Int
  phase : Nat
  /-- Generation tag, and the hearth that gave it (R99). -/
  gen : Nat
  tagger : Option Nat
  tunValid : Bool
  tunIdx : Nat
  /-- The stored form begins with an IP packet (R376). -/
  ipForm : Bool
  /-- Colour: 0 green, 1 yellow, 2 red (R410). -/
  colour : Nat
  kixon : Bool
  /-- The decision that sent it to a second pass carries MGMT (R132); a cell of it is spoilt (R709). -/
  mgmt : Bool
  spoilt : Bool
  /-- Link delay of the port it came from, in 2⁻¹⁶ ns, for a relayed TIME frame (R569). -/
  upDelay : Nat
deriving DecidableEq, Repr

/-- The Ferry's result for a pass (R372): 0 OK, else the position of its counter in the group FERRY; the tunnel index, the
bytes that decapsulation removes, whether the payload is Ethernet, the entry as read, and whether a follow write is due
with its address, its version and its port. -/
structure FerryRes where
  code : Nat
  tunnel : Nat
  decoded : Bool
  remove : Nat
  eth : Bool
  entry : List Nat
  follow : Bool
  srcIp : Nat
  srcPort : Nat
  v6 : Bool
  gtpu : Bool
deriving DecidableEq, Repr

/-- A pass of a frame through a decision path (R246): the core clock it entered, the stages it has passed (1: 84,
2: 126, 3: 210, 4: 266, 5: 322), and what they have found. -/
structure Pass where
  frame : Nat
  entry : Nat
  stage : Nat
  second : Bool
  recompute : Bool
  /-- The copy that was fenced when the frame entered: it takes no part in this pass (R708). -/
  two : Option Nat
  /-- A read of this pass has met a poisoned entry (R709). -/
  poison : Bool
  parse : Parse
  fv : List Byte
  /-- Metadata of the pass, the winning TCAM index, and FINAL of its action word. -/
  md : Nat
  tcam : Option Nat
  final : Bool
  act : Act
  /-- The decision was replaced by R263 or R264; it is L2_ONLY. -/
  replaced : Bool
  l2Only : Bool
  ferry : Option FerryRes
  /-- The tunnel found by the Ferry is removed; or the frame is punted: queue, reason, tunnel index (R374). -/
  decap : Bool
  punt : Option (Nat × Nat × Nat)
  /-- The stream entry as read, and the replication set as read (R291, R346). -/
  stream : Option (List Nat)
  repl : Option (List Nat)
  /-- Key ETH header, and bridge domain (R318). -/
  keyEth : Option Nat
  bd : Nat
  hash : Nat
  /-- Result of the FDB lookup: destination kind and destination. -/
  fdb : Option (Nat × Nat)
  learn : Option Learn
  /-- The FDB had no room for the source: a BRIDGE decision is flooded (R328). -/
  noRoom : Bool
  /-- Sequence number given or recovered, and whether the stream discards the frame (R346 to R349). -/
  seq : Option Nat
  discard : Bool
  /-- Stream gate: the frame is dropped; the queue value that replaces QUEUE (R479). -/
  gateDrop : Bool
  ipv : Option Nat
  colour : Nat
deriving DecidableEq, Repr

/-- A copy of a frame on a queue (R47), with what the egress stage does to it. -/
structure Copy where
  frame : Nat
  /-- Bytes that stand in place of the frame's stored form: mirror copies made at egress, copies of a frame whose bytes a
  second pass has changed. -/
  base : Option (List Byte)
  tunnel : Option Nat
  mirror : Option Nat
  hearth : Nat
  second : Bool
  reason : Nat
  /-- TUNNEL and TUN_VALID of a receive descriptor (R625). -/
  tunIdx : Nat
  tunValid : Bool
  /-- The tunnel that an IP packet was decapsulated from (R376). -/
  decapTun : Nat
  /-- A mirror copy made for a GRE destination (R425, R428). -/
  gre : Bool
  carry : Nat
  mgmt : Bool
  yellow : Bool
  ipForm : Bool
  /-- Offsets in the stored form: outermost ETH header, the VLAN headers that follow it, the end of the key ETH header and
  its VLAN headers, the first RTAG, the first IP header, the first PTP header. -/
  ethOff : Option Nat
  vlanOffs : List Nat
  keyEnd : Option Nat
  rtagOff : Option Nat
  ipOff : Option Nat
  ptpOff : Option Nat
  /-- Offset of the UDP header that encloses the PTP header, and whether it lies over IPv6. -/
  udpOff : Option (Nat × Bool)
  vlanOp : Nat
  vid : Nat
  pcp : Option Nat
  encode : Option Nat
  decode : Bool
  ptpTc : Bool
  hash : Nat
  learn : Option Learn
  /-- The conditions of R537 that the decision settles hold. -/
  cut : Bool
  /-- Cells it occupies, and what it charged to its queue, the shared counts and the management pool (R401). -/
  cells : Nat
  shared : Nat
  pool : Nat
  /-- Core clock of its admission. -/
  entered : Nat
  /-- The open interval in which WINDOW_HOLD last counted it, by the moment it closes (R470). -/
  heldIn : Option Nat
  /-- A recomputation: the pass that is repeated (R703). -/
  again : Option Pass
deriving DecidableEq, Repr

/-- A copy on the wire (R404, R420): its queue, the bytes sent without frame check sequence (one list for each outer
fragment, R386), the length the wire carries in all, the part sent before `from`, the core clock `from` which it is being
sent, whether it goes through the preemptable MAC, whether its frame check sequence is to be inverted (R49), its egress
stamp, whether it was sent past its window on purpose (R470), the bank of the ledger it was selected under (R109), the
fragment count of its last continuation fragment (R234), and the group of the tunnel it was encapsulated for (R392). -/
structure Sending where
  copy : Copy
  queue : Nat
  out : List (List Byte)
  len : Nat
  sent : Nat
  fromClk : Nat
  pre : Bool
  invert : Bool
  stamp : Nat
  overrun : Bool
  bank : Nat
  frag : Nat
  group : Option Nat
deriving DecidableEq, Repr

/-- A transmitter: the copy on the wire, the suspended preemptable one, the core clock from which the next may start, and the
frames of the last transmission as the MAC sent them (R219). -/
structure Tx where
  cur : Option Sending
  susp : Option Sending
  freeClk : Nat
  last : List (List Byte)
deriving DecidableEq, Repr

/-- A fragment-table entry (R268): its key, the four saved words, and the core clocks at which it was written and
expires. -/
structure FragEntry where
  key : List Byte
  saved : List Byte
  written : Nat
  expires : Nat
deriving DecidableEq, Repr

/-- A shaper (R413): its level in 2⁻¹⁶ bytes as it stood at core clock `stamp`. -/
structure Shaper where
  level : Int
  stamp : Nat
deriving DecidableEq, Repr

/-- A preemptable frame in reassembly (R236): bytes so far, whether a code error fell within them (R216), its frame count,
the next fragment count, and its stamps. -/
structure Reasm where
  bytes : List Byte
  codeError : Bool
  frameCount : Nat
  nextFrag : Nat
  stamp : Nat
  stepSum : Int
  phase : Nat
deriving DecidableEq, Repr

/-! ### Porter and Drayman (chapters 14, 15) -/

/-- A copy being written into rooms (R602, R603): its bytes as delivered, the headroom before them and the owners of its rooms,
the pool its rooms come from with their size and number, the handles taken so far in order, the bytes written, and the writes
made to its descriptors (R628). -/
structure RxWork where
  copy : Copy
  data : List Byte
  head : Nat
  owners : Nat
  pool : Nat
  size : Nat
  need : Nat
  rooms : List Nat
  written : Nat
  wrote : Nat
deriving DecidableEq, Repr

/-- A receive channel: descriptors read ahead (address, NEXT), oldest first; whether CUR is FIRST rather than a NEXT; the
copy in progress; completions since COMPLETE was last set, and the core clock of the first of them (R630); the first drop of
R629 has been recorded; EN = 0 has been written, and the channel is to be disabled at its boundary. -/
structure RxChan where
  ahead : List (Nat × Nat)
  atFirst : Bool
  work : Option RxWork
  count : Nat
  since : Option Nat
  dropSeen : Bool
  disabling : Bool
deriving DecidableEq, Repr

/-- A transmit descriptor that has been read: its address and its 64 bytes; whether its segments have been read; the error
kind it completes with (0 none), and REMAIN, the bytes that no read was made for (R649). -/
structure TxDesc where
  addr : Nat
  bytes : List Byte
  read : Bool
  kind : Nat
  remain : Nat
deriving DecidableEq, Repr

/-- A frame that a transmit channel gathers: the first descriptor's bytes, the descriptors read and their bytes, the error
found; the cells it has taken, and whether it found none (R394). -/
structure TxFrame where
  head : List Byte
  descs : Nat
  body : List Byte
  kind : Nat
  cells : Nat
  lost : Bool
deriving DecidableEq, Repr

/-- A transmit channel: descriptors read ahead, oldest first; the frame being gathered; the bytes read so far of the first
descriptor not yet read; whether the rest of a failed frame is being skipped (R651). -/
structure TxChan where
  ahead : List TxDesc
  atFirst : Bool
  frame : Option TxFrame
  part : List Byte
  skip : Bool
  disabling : Bool
deriving DecidableEq, Repr

/-- An errand: core clock at which its WAIT began, and of its last look at the flag; PC of the LOOP that last jumped; address of
its last host write; the words of the MOVE or WAIT in progress, none outside one, and the words that the MOVE has copied. -/
structure ErrSt where
  waitClk : Option Nat
  look : Nat
  loopPc : Option Nat
  lastWrite : Option Nat
  words : List Nat
  moved : Nat
deriving DecidableEq, Repr

/-! ### The fabric (chapter 13) -/

/-- A fabric port (R557, R559, R561, R562, R566): its NONCE and the last one received; receive and transmit sequence
numbers; core clock of its last HELLO; its last DELAY_REQ: number, core clock, and egress stamp with step sum once sent; the
measured delay; the last accepted TIME frame: core clock, TERM, KEEPER_ID, HOPS. -/
structure FabPort where
  nonce : Nat
  peer : Option Nat
  rxSeq : Nat
  txSeq : Nat
  helloClk : Nat
  reqId : Nat
  reqClk : Nat
  reqSent : Option (Nat × Int)
  measured : Option Nat
  time : Option (Nat × Nat × Nat × Nat)
deriving DecidableEq, Repr

/-- The copies of a trigger that the Keeper has still to send: payload, number left, core clock of the last (R571). -/
structure TrigSend where
  payload : List Byte
  left : Nat
  clk : Nat
deriving DecidableEq, Repr

end Machine
end Sys2Proof
end

