-- ==== Sys2Proof/Config.lean ====
section
/-! DEFINITION. Config.lean: what an implementation fixes and the manual leaves open: constants without a body, so that
nothing can be proved of their values. Each is named in a log entry. -/
namespace Sys2Proof
namespace Config

/-- Core clocks that a FLUSH takes, by the count of free values taken (R355 gives the most; log entry 82). -/
opaque flushSpan : Nat → BitVec 32

/-- Which way of a bucket the mover tries first, by the count of free values taken (R329 names no order; log entry 20). -/
opaque moverWay : Nat → Nat

/-- The identification of a hearth's first outer IPv4 datagram (R384 gives the counter no start; log entry 21). -/
opaque outerId : Nat → BitVec 16

/-- The symmetric hash of a frame with neither an IP nor an ETH header, by its number (R317 gives it no input; log
entry 22). -/
opaque hashless : Nat → BitVec 16

/-- The key under which a replication set stands in a replication table (R291 and R342 give no encoding; log entry 23). -/
opaque setKey : Nat → List (BitVec 8)

/-- The sequence number of an R-TAG inserted into a frame that has none (R351 gives it no number; log entry 24). -/
opaque noSeq : Nat → BitVec 16

/-- A link delay that FAB_PORT_DELAY cannot hold, as the register shows it (R562 states none; log entry 25). -/
opaque wideDelay : Nat → BitVec 32

/-- A NONCE of the device's random generator, by the count of free values taken (R561; log entry 26). -/
opaque nonce : Nat → BitVec 64

/-- REMAIN when a read completes with an error (R649: how many reads have been issued by then is not stated), by the
count of free values taken; taken modulo the bytes of the descriptor or MOVE (log entry 27). -/
opaque dmaRemain : Nat → BitVec 32

/-- Free cells that a bank being spared or withdrawn holds, by bank and core clock (R713, R714: which cells frames occupy is
not stated; log entry 28); taken modulo the cells of a bank and one. -/
opaque bankFree : Nat → Nat → BitVec 16

/-- Which frame occupies a cell, by bank, cell and the count of free values taken (log entry 28). -/
opaque cellFrame : Nat → Nat → Nat → BitVec 32

/-- Which word the scrubber reads last in a pass over the memories (R711 gives no order; log entry 29). -/
opaque scrubLast : EccWord → Bool

/-- The buffer bank in which a failing memory BIST found its fault (R725; log entry 30). -/
opaque bistBank : Nat → BitVec 6

/-- What a destructive memory BIST leaves in the tables (R138, R725; log entry 30). -/
opaque bistLeaves : Nat → List (Nat × List Nat)

/-- The target of R722's characterisation table in mV, by mean process-monitor count and hottest temperature in hundredths
of a degree (its content is not in the manual; log entry 31). -/
opaque avsTarget : Nat → Int → BitVec 16

/-- The valid range of a process monitor's count (R723 gives no numbers; log entry 31). -/
opaque procValid : Nat → Bool

/-- The versions of the Ostler's mask ROM and of its patch, and the state of the patch (R187; log entry 32); the state is
taken modulo 3. -/
opaque romVersion : BitVec 32
opaque patchVersion : BitVec 32
opaque patchState : BitVec 2

/-- What programming that a restart of the Ostler breaks off leaves blown, by the count of free values taken: the octets of
a hash or key, `none` where no bit was blown (R191; log entry 33). -/
opaque otpPartial : Nat → Option (List (BitVec 8))

/-- What the plaintext of section STRUCT says (R69: the layout inside the sections is not in the manual; log entry 34). Of a
part of it that has arrived, this is what the part places. The same holds of the sections below. -/
opaque structSection : List (BitVec 8) → Machine.StructSection

/-- What the plaintext of section CALENDAR says: the calendars of ports 0 to 75 (R69; log entry 34). -/
opaque calendarSection : List (BitVec 8) → List (List Nat)

/-- What the plaintext of section LEDGER says (R69; log entry 34). -/
opaque ledgerSection : List (BitVec 8) → Machine.LedgerSection

/-- What the plaintext of section TIMING says: fields of PHS and TIM registers (R69; log entry 34). -/
opaque timingSection : List (BitVec 8) → List (Nat × Nat)

/-- What the plaintext of section ADMIT says: fields of GLB registers (R69; log entry 34). -/
opaque admitSection : List (BitVec 8) → List (Nat × Nat)

/-- What the plaintext of section TABLES says: initial entries (R69; log entry 34). -/
opaque tablesSection : List (BitVec 8) → List Machine.InitEntry

/-- The fixed part of a HEADER and a section STRUCT as COMPAT_DIGEST covers it (R94 gives no encoding; log entry 34). -/
opaque fixedPart : List (BitVec 8) → List (BitVec 8) → List (BitVec 8)

/-- The key set that unwrapped FABRIC material holds, none where it is not well-formed (R82, R584; log entry 34). -/
opaque keySet : List (BitVec 8) → Option Machine.KeySet

/-- Bytes of a flash slot read so far, by core clock (R88 gives no rate; log entry 35). -/
opaque slotRead : Nat → BitVec 32

/-- Bytes of the transmit FIFO that an I²C transaction which fails has taken (R756 states none; log entry 36), by the count
of free values taken; taken modulo WLEN and one. -/
opaque i2cTaken : Nat → BitVec 6

/-- The level at the ball of a GPIO input, by core clock and pin (what the board drives; log entry 37). -/
opaque gpioLevel : Nat → Nat → Bool

/-- Bits in error that the pattern checker of a port finds on a lane, from a core clock on, in so many core clocks: what the lane
brings is free (R244). -/
opaque patternErrors : Nat → Nat → Nat → Nat → Nat

/-- The Device Serial Number, and the Subsystem Vendor ID (bits 15 to 0) and Subsystem ID, none where OTP holds none: what OTP
holds of them from manufacture (R153, R155; log entry 86). -/
opaque deviceSerial : BitVec 64
opaque otpSubsystem : Option (BitVec 32)

/-- Frames that a hearth's host FIFO holds when it is full (R633 states no depth; log entry 87). -/
opaque hostFifoDepth : Nat

/-- Whether CLK10M_IN runs within ±1,000 ppm of 10 MHz in a core clock (PIN_CLK_STATUS.CLK10M_OK): nothing that the block
is told says so (log entry 39). -/
opaque clk10mOk : Nat → Bool

end Config
end Sys2Proof
end

