-- ==== Sys2Proof/Machine/Bits.lean ====
section
/-! DEFINITION. Machine/Bits.lean: bit fields, signs, byte order and the check codes the spec names (CRC-32 of the frame
check sequence, CRC-32C of the table hash, the ones' complement sum of IP headers). -/
namespace Sys2Proof
namespace Machine

/-- Bits `lo + w - 1 … lo` of `n`. -/
def bits (n lo w : Nat) : Nat := (n >>> lo) % 2 ^ w

/-- Bit `i` of `n`. -/
def bitAt (n i : Nat) : Bool := n.testBit i

/-- `n` with bits `lo + w - 1 … lo` replaced by the low bits of `v`. -/
def setBits (n lo w v : Nat) : Nat :=
  (n >>> (lo + w)) * 2 ^ (lo + w) + (v % 2 ^ w) * 2 ^ lo + n % 2 ^ lo

/-- One bit as a number. -/
def b2n (b : Bool) : Nat := if b then 1 else 0

/-- Two's complement value of a `w`-bit field. -/
def toSigned (w n : Nat) : Int :=
  if n % 2 ^ w < 2 ^ (w - 1) then Int.ofNat (n % 2 ^ w) else Int.ofNat (n % 2 ^ w) - 2 ^ w

/-- The `w`-bit two's complement field that holds `i`. -/
def ofSigned (w : Nat) (i : Int) : Nat := (i % 2 ^ w).toNat

/-- Clamp to an interval. -/
def clampI (x lo hi : Int) : Int := if x < lo then lo else if hi < x then hi else x

/-- Clamp a count to an interval. -/
def clampN (x lo hi : Nat) : Nat := if x < lo then lo else if hi < x then hi else x

/-- Arithmetic shift right (rounds toward minus infinity). -/
def asr (x : Int) (k : Nat) : Int := x / 2 ^ k

/-- The `n` bytes of `v`, least significant first (R14). -/
def leBytes : Nat → Nat → List Byte
  | 0, _ => []
  | n + 1, v => BitVec.ofNat 8 v :: leBytes n (v / 256)

/-- The `n` bytes of `v`, most significant first (network order). -/
def beBytes (n v : Nat) : List Byte := (leBytes n v).reverse

/-- The number that little-endian bytes hold. -/
def ofLe : List Byte → Nat
  | [] => 0
  | b :: t => b.toNat + 256 * ofLe t

/-- The number that big-endian bytes hold. -/
def ofBe (l : List Byte) : Nat := l.foldl (fun a b => a * 256 + b.toNat) 0

/-- Bytes `off … off + n - 1` of `l` as a big-endian number; bytes beyond the end read as 0. -/
def beAt (l : List Byte) (off n : Nat) : Nat :=
  (List.range n).foldl (fun a i => a * 256 + (l.getD (off + i) 0).toNat) 0

/-- Bytes `off … off + n - 1` of `l` as a little-endian number; bytes beyond the end read as 0. -/
def leAt (l : List Byte) (off n : Nat) : Nat :=
  (List.range n).foldr (fun i a => (l.getD (off + i) 0).toNat + 256 * a) 0

/-- `l` with the bytes from `off` on replaced by `b`; bytes beyond the end of `l` are not added. -/
def patch (l : List Byte) (off : Nat) (b : List Byte) : List Byte :=
  (l.take off ++ b ++ l.drop (off + b.length)).take l.length

/-- The list cut or filled with zeros to exactly `n` bytes. -/
def fitBytes (n : Nat) (l : List Byte) : List Byte := (l ++ List.replicate n 0).take n

/-- One bit step of a reflected 32-bit CRC with polynomial `poly`. -/
def crcBit (poly c : Nat) : Nat := if c % 2 = 1 then (c / 2) ^^^ poly else c / 2

/-- One byte step of a reflected 32-bit CRC. -/
def crcByte (poly c : Nat) (b : Byte) : Nat :=
  (List.range 8).foldl (fun c _ => crcBit poly c) (c ^^^ b.toNat)

/-- CRC-32 of IEEE 802.3, the frame check sequence (R216, R219). -/
def crc32 (l : List Byte) : Nat := (l.foldl (crcByte 0xEDB88320) 0xFFFFFFFF) ^^^ 0xFFFFFFFF

/-- CRC-32C (Castagnoli) with the given starting register (R316, R317). -/
def crc32cFrom (init : Nat) (l : List Byte) : Nat := l.foldl (crcByte 0x82F63B78) init

/-- Sum of the 16-bit big-endian words of `l`, an odd last byte padded with 0. -/
def sum16 : List Byte → Nat
  | [] => 0
  | [a] => a.toNat * 256
  | a :: b :: t => a.toNat * 256 + b.toNat + sum16 t

/-- Fold a sum to 16 bits with end-around carry. -/
def fold16 (x : Nat) : Nat :=
  let y := x % 65536 + x / 65536
  let z := y % 65536 + y / 65536
  z % 65536 + z / 65536

/-- The Internet checksum of `l` (RFC 1071). -/
def inetChecksum (l : List Byte) : Nat := 65535 - fold16 (sum16 l)

/-- RFC 1624 incremental update of checksum `c` when the bytes `old` become `new` (R503). -/
def csumUpdate (c : Nat) (old new : List Byte) : Nat :=
  65535 - fold16 ((65535 - c) + (sum16 (old.map (fun b => ~~~b))) + sum16 new)

/-- Ceiling division. -/
def ceilDiv (a b : Nat) : Nat := (a + b - 1) / b

/-- Number of set bits among the low `w` bits. -/
def popcount (w n : Nat) : Nat := (List.range w).countP (fun i => n.testBit i)

/-- Indices of the set bits among the low `w` bits, ascending. -/
def setBitsOf (w n : Nat) : List Nat := (List.range w).filter (fun i => n.testBit i)

end Machine
end Sys2Proof
end

