-- ==== Sys2Proof/Machine/RegMap.lean ====
section
/-! DEFINITION. Machine/RegMap.lean: the register map of BAR0, block by block, from the register chapters' offset and
field tables (R15, R16): for every register its address and instances, and for every field its place. Masks hold the
access codes of R17 and the reset column of R24. The values stand in State; this file only says where. -/
namespace Sys2Proof
namespace Machine

/-- A field of a register: the register's BAR0 address, the field's lowest bit and its width. -/
structure Fld where
  addr : Nat
  lo : Nat
  width : Nat
deriving DecidableEq, Repr

/-- A register, or an array of registers in one or two dimensions (R15), with one mask per access code (R17):
`rw` bits the host may write (RW, RWK), `kept` RWK bits, `rc` bits cleared by a read (R18), `wo` strobes,
`forging` bits loaded from the active Forging (R24), and the value after cold reset. -/
structure RegDef where
  base : Nat
  stride1 : Nat
  count1 : Nat
  stride2 : Nat
  count2 : Nat
  rw : Nat
  kept : Nat
  rc : Nat
  wo : Nat
  forging : Nat
  reset : Nat
deriving DecidableEq, Repr

/-- Does the register array `d` have an instance at BAR0 address `a`? -/
def regHit (a : Nat) (d : RegDef) : Bool :=
  if a < d.base then false
  else
    let o := a - d.base
    if d.stride1 = 0 then o == 0
    else
      let i := o / d.stride1
      let r := o % d.stride1
      if d.stride2 = 0 then (r == 0) && decide (i < d.count1)
      else (r % d.stride2 == 0) && decide (r / d.stride2 < d.count2) && decide (i < d.count1)

/-! ### Register addresses -/
namespace A
def GLB_ID : Nat := 0x0
def GLB_MODE : Nat := 0x4
def GLB_COND : Nat := 0x8
def GLB_CTL : Nat := 0xC
def GLB_CTL_STATUS : Nat := 0x10
def GLB_SAFE_CAUSE : Nat := 0x14
def GLB_WAKE_MS : Nat := 0x18
def GLB_WAKE_ELAPSED : Nat := 0x1C
def GLB_RESET : Nat := 0x20
def GLB_HRST : Nat := 0x24
def GLB_RST_CAUSE : Nat := 0x28
def GLB_DRAIN_TIMEOUT : Nat := 0x2C
def GLB_DRAIN_FLUSHED : Nat := 0x30
def GLB_PORT_RST_0 : Nat := 0x40
def GLB_PORT_RST_1 : Nat := 0x44
def GLB_PORT_RST_2 : Nat := 0x48
def GLB_ADMIT_RATE (i : Nat) : Nat := 0x80 + 0x4 * i
def GLB_ADMIT_BURST (i : Nat) : Nat := 0xA0 + 0x4 * i
def GLB_ADMIT_DROP (i : Nat) : Nat := 0xC0 + 0x4 * i
def GLB_INT_SUM_BLK : Nat := 0x100
def GLB_INT_SUM_PORT (i : Nat) : Nat := 0x104 + 0x4 * i
def GLB_INT_SUM_RXCH (i : Nat) : Nat := 0x110 + 0x4 * i
def GLB_INT_SUM_TXCH (i : Nat) : Nat := 0x118 + 0x4 * i
def GLB_INT_SUM_ERRAND : Nat := 0x120
def GLB_INT_STAT : Nat := 0x124
def GLB_INT_EN : Nat := 0x128
def GLB_VEC_PEND (i : Nat) : Nat := 0x130 + 0x4 * i
def GLB_VEC_ACTIVE (i : Nat) : Nat := 0x140 + 0x4 * i
def GLB_VEC_EOI : Nat := 0x150
def FRG_CTL : Nat := 0x10000
def FRG_STATUS : Nat := 0x10004
def FRG_LOAD_LEN : Nat := 0x10008
def FRG_LOAD_COUNT : Nat := 0x1000C
def FRG_COMMIT_CYCLE_HI : Nat := 0x10010
def FRG_COMMIT_CYCLE_LO : Nat := 0x10014
def FRG_COMMIT_PHASE : Nat := 0x10018
def FRG_TEMPER_CTL : Nat := 0x1001C
def FRG_DRAIN_TIMEOUT : Nat := 0x10020
def FRG_LATE_PU : Nat := 0x10024
def FRG_OLDGEN_FRAMES (i : Nat) : Nat := 0x10030 + 0x4 * i
def FRG_ACT_ID_HI : Nat := 0x10040
def FRG_ACT_ID_LO : Nat := 0x10044
def FRG_SHD_ID_HI : Nat := 0x10048
def FRG_SHD_ID_LO : Nat := 0x1004C
def FRG_FLUSHED : Nat := 0x10050
def FRG_BOOT : Nat := 0x10054
def FRG_OTP : Nat := 0x10058
def FRG_INT_STAT : Nat := 0x10060
def FRG_INT_EN : Nat := 0x10064
def FRG_LOAD_PORT (i : Nat) : Nat := 0x18000 + 0x4 * i
def HIF_LINK : Nat := 0x20000
def HIF_ACC_ERR_STAT : Nat := 0x20004
def HIF_ACC_ERR_ADDR : Nat := 0x20008
def HIF_ACC_ERR_COUNT : Nat := 0x2000C
def HIF_INT_STAT : Nat := 0x20010
def HIF_INT_EN : Nat := 0x20014
def HIF_OSTLER_BEAT : Nat := 0x20020
def HIF_OSTLER_CTL : Nat := 0x20024
def HIF_MBX_TIMEOUT : Nat := 0x20028
def HIF_MBX_REQ (i : Nat) : Nat := 0x20100 + 0x4 * i
def HIF_MBX_CMD : Nat := 0x20140
def HIF_MBX_STATUS : Nat := 0x20144
def HIF_MBX_RSP (i : Nat) : Nat := 0x20180 + 0x4 * i
def HIF_VEC_MAP (i : Nat) : Nat := 0x20400 + 0x4 * i
def PRT_MODE (i : Nat) : Nat := 0x40000 + 0x400 * i
def PRT_STATUS (i : Nat) : Nat := 0x40004 + 0x400 * i
def PRT_MAC_CFG (i : Nat) : Nat := 0x40008 + 0x400 * i
def PRT_LINK_TIMERS (i : Nat) : Nat := 0x4000C + 0x400 * i
def PRT_PREEMPT (i : Nat) : Nat := 0x40010 + 0x400 * i
def PRT_PREEMPT_STATUS (i : Nat) : Nat := 0x40014 + 0x400 * i
def PRT_PAUSE_STATUS (i : Nat) : Nat := 0x40018 + 0x400 * i
def PRT_TS_RX_ADJ (i : Nat) : Nat := 0x40020 + 0x400 * i
def PRT_TS_TX_ADJ (i : Nat) : Nat := 0x40024 + 0x400 * i
def PRT_INT_STAT (i : Nat) : Nat := 0x40030 + 0x400 * i
def PRT_INT_EN (i : Nat) : Nat := 0x40034 + 0x400 * i
def PRT_LOOPBACK (i : Nat) : Nat := 0x40040 + 0x400 * i
def PRT_PRBS_CFG (i : Nat) : Nat := 0x40044 + 0x400 * i
def PRT_DIAG_RATE (i : Nat) : Nat := 0x40048 + 0x400 * i
def PRT_PRBS_ERR (i : Nat) (j : Nat) : Nat := 0x40060 + 0x400 * i + 0x4 * j
def PRT_LANE_CFG (i : Nat) (j : Nat) : Nat := 0x40080 + 0x400 * i + 0x4 * j
def HTH_INT_STAT (i : Nat) : Nat := 0x80000 + 0x10000 * i
def HTH_INT_EN (i : Nat) : Nat := 0x80004 + 0x10000 * i
def HTH_EXC_POLICY (i : Nat) : Nat := 0x80100 + 0x10000 * i
def HTH_FRAG_CFG (i : Nat) : Nat := 0x80104 + 0x10000 * i
def HTH_FRAG_USED (i : Nat) : Nat := 0x80108 + 0x10000 * i
def HTH_EXC_CAP_OFF (i : Nat) : Nat := 0x80110 + 0x10000 * i
def HTH_EXC_CAP (i : Nat) : Nat := 0x80114 + 0x10000 * i
def TBL_CMD (i : Nat) : Nat := 0xC0000 + 0x400 * i
def TBL_STATUS (i : Nat) : Nat := 0xC0004 + 0x400 * i
def TBL_INDEX (i : Nat) : Nat := 0xC0008 + 0x400 * i
def TBL_RESULT_INDEX (i : Nat) : Nat := 0xC000C + 0x400 * i
def TBL_DATA (i : Nat) (j : Nat) : Nat := 0xC0100 + 0x400 * i + 0x4 * j
def TBL_INT_STAT : Nat := 0xC1000
def TBL_INT_EN : Nat := 0xC1004
def TBL_LEARN_CFG : Nat := 0xC1008
def TBL_MOVER_CFG : Nat := 0xC100C
def TBL_LAG_SEED : Nat := 0xC1010
def TBL_NOTE_W0 (i : Nat) : Nat := 0xC1100 + 0x10 * i
def TBL_NOTE_W1 (i : Nat) : Nat := 0xC1104 + 0x10 * i
def TBL_NOTE_W2 (i : Nat) : Nat := 0xC1108 + 0x10 * i
def TBL_NOTE_W3 (i : Nat) : Nat := 0xC110C + 0x10 * i
def TBL_NOTE_LEVEL (i : Nat) : Nat := 0xC1140 + 0x4 * i
def FRY_INT_STAT : Nat := 0xD0000
def FRY_INT_EN : Nat := 0xD0004
def FRY_CHECK_KEY : Nat := 0xD0008
def FRY_FAIL_ACT : Nat := 0xD000C
def FRY_PUNT_QUEUE_0 : Nat := 0xD0010
def FRY_PUNT_QUEUE_1 : Nat := 0xD0014
def FRY_PEER_RATE : Nat := 0xD0018
def FRY_PEER_BURST : Nat := 0xD001C
def FRY_PEER_DROP : Nat := 0xD0020
def FRY_LOCAL_ADDR (i : Nat) (j : Nat) : Nat := 0xD0100 + 0x10 * i + 0x4 * j
def FRY_LOCAL_VALID : Nat := 0xD0200
def FRY_LOCAL_V6 : Nat := 0xD0204
def FRY_TMPL_CMD : Nat := 0xD0400
def FRY_TMPL_STATUS : Nat := 0xD0404
def FRY_TMPL_DATA (i : Nat) : Nat := 0xD0440 + 0x4 * i
def TM_INT_STAT : Nat := 0xE0000
def TM_INT_EN : Nat := 0xE0004
def TM_HEADROOM : Nat := 0xE0008
def TM_MGMT_POOL : Nat := 0xE000C
def TM_SHARED_SIZE : Nat := 0xE0010
def TM_SHARED_USED : Nat := 0xE0014
def TM_MGMT_USED : Nat := 0xE0018
def TM_CELLS_USED : Nat := 0xE001C
def TM_METER_ADJ : Nat := 0xE0020
def TM_SAMPLE_CFG : Nat := 0xE0024
def TM_PORT_CFG (i : Nat) : Nat := 0xE1000 + 0x400 * i
def TM_PORT_LIMIT (i : Nat) : Nat := 0xE1004 + 0x400 * i
def TM_PORT_USED (i : Nat) : Nat := 0xE1008 + 0x400 * i
def TM_PORT_SHP_RATE (i : Nat) : Nat := 0xE100C + 0x400 * i
def TM_PORT_SHP_BURST (i : Nat) : Nat := 0xE1010 + 0x400 * i
def TM_PORT_SHP_LEVEL (i : Nat) : Nat := 0xE1014 + 0x400 * i
def TM_CAL_STATUS (i : Nat) : Nat := 0xE1018 + 0x400 * i
def TM_CAL_LEN (i : Nat) : Nat := 0xE101C + 0x400 * i
def TM_QMAP_0 (i : Nat) : Nat := 0xE1020 + 0x400 * i
def TM_QMAP_1 (i : Nat) : Nat := 0xE1024 + 0x400 * i
def TM_QGATED (i : Nat) : Nat := 0xE1028 + 0x400 * i
def TM_Q_MIN (i : Nat) (j : Nat) : Nat := 0xE1100 + 0x400 * i + 0x20 * j
def TM_Q_MAX (i : Nat) (j : Nat) : Nat := 0xE1104 + 0x400 * i + 0x20 * j
def TM_Q_SHP_RATE (i : Nat) (j : Nat) : Nat := 0xE1108 + 0x400 * i + 0x20 * j
def TM_Q_SHP_BURST (i : Nat) (j : Nat) : Nat := 0xE110C + 0x400 * i + 0x20 * j
def TM_Q_SHP_LEVEL (i : Nat) (j : Nat) : Nat := 0xE1110 + 0x400 * i + 0x20 * j
def TM_Q_DEPTH (i : Nat) (j : Nat) : Nat := 0xE1114 + 0x400 * i + 0x20 * j
def TM_Q_WATERMARK (i : Nat) (j : Nat) : Nat := 0xE1118 + 0x400 * i + 0x20 * j
def TM_Q_SOJ_MAX (i : Nat) (j : Nat) : Nat := 0xE111C + 0x400 * i + 0x20 * j
def TM_MIR_CFG (i : Nat) : Nat := 0xFC000 + 0x80 * i
def TM_MIR_TRUNC (i : Nat) : Nat := 0xFC004 + 0x80 * i
def TM_MIR_NH_MAC_LO (i : Nat) : Nat := 0xFC008 + 0x80 * i
def TM_MIR_NH_MAC_HI (i : Nat) : Nat := 0xFC00C + 0x80 * i
def TM_MIR_DEV_MAC_LO (i : Nat) : Nat := 0xFC010 + 0x80 * i
def TM_MIR_DEV_MAC_HI (i : Nat) : Nat := 0xFC014 + 0x80 * i
def TM_MIR_IP (i : Nat) : Nat := 0xFC018 + 0x80 * i
def TM_MIR_KEY (i : Nat) : Nat := 0xFC01C + 0x80 * i
def TM_MIR_SRC_IP (i : Nat) (j : Nat) : Nat := 0xFC020 + 0x80 * i + 0x4 * j
def TM_MIR_DST_IP (i : Nat) (j : Nat) : Nat := 0xFC030 + 0x80 * i + 0x4 * j
def LDG_INT_STAT : Nat := 0x100000
def LDG_INT_EN : Nat := 0x100004
def LDG_COMMIT_MARGIN : Nat := 0x100008
def LDG_LINE_SEL : Nat := 0x10000C
def LDG_LINE_W0 : Nat := 0x100010
def LDG_LINE_W1 : Nat := 0x100014
def LDG_PORT_CFG (i : Nat) : Nat := 0x101000 + 0x40 * i
def LDG_PORT_INFO (i : Nat) : Nat := 0x101004 + 0x40 * i
def LDG_CYCLE (i : Nat) : Nat := 0x101008 + 0x40 * i
def LDG_STATUS (i : Nat) : Nat := 0x10100C + 0x40 * i
def LDG_ACT_START_HI (i : Nat) : Nat := 0x101010 + 0x40 * i
def LDG_ACT_START_LO (i : Nat) : Nat := 0x101014 + 0x40 * i
def LDG_ACT_START_SUB (i : Nat) : Nat := 0x101018 + 0x40 * i
def LDG_BASE_HI (i : Nat) : Nat := 0x10101C + 0x40 * i
def LDG_BASE_LO (i : Nat) : Nat := 0x101020 + 0x40 * i
def LDG_BASE_SUB (i : Nat) : Nat := 0x101024 + 0x40 * i
def PHS_INT_STAT : Nat := 0x120000
def PHS_INT_EN : Nat := 0x120004
def PHS_CTL : Nat := 0x120008
def PHS_STATUS : Nat := 0x12000C
def PHS_CMD : Nat := 0x120010
def PHS_CMD_STATUS : Nat := 0x120014
def PHS_FREQ : Nat := 0x120018
def PHS_FREQ_EST : Nat := 0x12001C
def PHS_PERIOD_NS : Nat := 0x120020
def PHS_FREQ_LIMITS : Nat := 0x120024
def PHS_QUAL_CFG : Nat := 0x120028
def PHS_SLEW_MAX : Nat := 0x12002C
def PHS_REF_OFFSET (i : Nat) : Nat := 0x120030 + 0x4 * i
def PHS_MSG_LOSS_MS : Nat := 0x120038
def PHS_LAT_CYCLE_HI : Nat := 0x120040
def PHS_LAT_CYCLE_LO : Nat := 0x120044
def PHS_LAT_PHASE : Nat := 0x120048
def PHS_LAT_SEC_HI : Nat := 0x12004C
def PHS_LAT_SEC_LO : Nat := 0x120050
def PHS_LAT_NS : Nat := 0x120054
def PHS_LAT_FRAC : Nat := 0x120058
def PHS_MSG_CYCLE_HI : Nat := 0x120060
def PHS_MSG_CYCLE_LO : Nat := 0x120064
def PHS_MSG_PHASE : Nat := 0x120068
def PHS_MSG_SEC_HI : Nat := 0x12006C
def PHS_MSG_SEC_LO : Nat := 0x120070
def PHS_MSG_NS : Nat := 0x120074
def PHS_MSG_POST : Nat := 0x120078
def PHS_SET_CYCLE_HI : Nat := 0x120080
def PHS_SET_CYCLE_LO : Nat := 0x120084
def PHS_TA_FIRED : Nat := 0x120090
def PHS_TA_CYCLE_HI (i : Nat) : Nat := 0x120100 + 0x20 * i
def PHS_TA_CYCLE_LO (i : Nat) : Nat := 0x120104 + 0x20 * i
def PHS_TA_PHASE (i : Nat) : Nat := 0x120108 + 0x20 * i
def PHS_TA_CTL (i : Nat) : Nat := 0x12010C + 0x20 * i
def PHS_TA_ARG (i : Nat) : Nat := 0x120110 + 0x20 * i
def PHS_TA_STATUS (i : Nat) : Nat := 0x120114 + 0x20 * i
def PHS_TA_LATE (i : Nat) : Nat := 0x120118 + 0x20 * i
def TIM_INT_STAT : Nat := 0x130000
def TIM_INT_EN : Nat := 0x130004
def TIM_CTL : Nat := 0x130008
def TIM_STATUS : Nat := 0x13000C
def TIM_CMD : Nat := 0x130010
def TIM_CMD_STATUS : Nat := 0x130014
def TIM_LAT_SEC_HI : Nat := 0x130020
def TIM_LAT_SEC_LO : Nat := 0x130024
def TIM_LAT_NS : Nat := 0x130028
def TIM_LAT_FRAC : Nat := 0x13002C
def TIM_STEP_SEC_HI : Nat := 0x130030
def TIM_STEP_SEC_LO : Nat := 0x130034
def TIM_STEP_NS : Nat := 0x130038
def TIM_STEP_FRAC : Nat := 0x13003C
def TIM_SMP_OFF_HI : Nat := 0x130040
def TIM_SMP_OFF_LO : Nat := 0x130044
def TIM_SMP_SEC_LO : Nat := 0x130048
def TIM_SMP_NS : Nat := 0x13004C
def TIM_SMP_POST : Nat := 0x130050
def TIM_SERVO_GAIN : Nat := 0x130060
def TIM_SERVO_LIMIT : Nat := 0x130064
def TIM_FREQ_ADJ : Nat := 0x130068
def TIM_FREQ_NOW : Nat := 0x13006C
def TIM_JUMP_THR : Nat := 0x130070
def TIM_LOCK_THR : Nat := 0x130074
def TIM_LOSS_MS : Nat := 0x130078
def TIM_FILT_CFG : Nat := 0x13007C
def TIM_BIAS_HI : Nat := 0x130080
def TIM_BIAS_LO : Nat := 0x130084
def TIM_FILT_A_HI : Nat := 0x130088
def TIM_FILT_A_LO : Nat := 0x13008C
def TIM_FILT_B_HI : Nat := 0x130090
def TIM_FILT_B_LO : Nat := 0x130094
def TIM_UTC_OFFSET : Nat := 0x1300A0
def TIM_PPS_CFG : Nat := 0x1300A4
def TIM_PPS_IN_ADJ : Nat := 0x1300A8
def TIM_PPS_CAP_SEC_HI : Nat := 0x1300B0
def TIM_PPS_CAP_SEC_LO : Nat := 0x1300B4
def TIM_PPS_CAP_NS : Nat := 0x1300B8
def TIM_PPS_CAP_FRAC : Nat := 0x1300BC
def TIM_TXTS_W0 : Nat := 0x130100
def TIM_TXTS_W1 : Nat := 0x130104
def TIM_TXTS_W2 : Nat := 0x130108
def TIM_TXTS_W3 : Nat := 0x13010C
def TIM_TXTS_LEVEL : Nat := 0x130110
def TIM_PORT_CFG (i : Nat) : Nat := 0x131000 + 0x10 * i
def TIM_PORT_PDELAY (i : Nat) : Nat := 0x131004 + 0x10 * i
def FAB_INT_STAT : Nat := 0x140000
def FAB_INT_EN : Nat := 0x140004
def FAB_CTL : Nat := 0x140008
def FAB_STATUS : Nat := 0x14000C
def FAB_CMD : Nat := 0x140010
def FAB_CMD_STATUS : Nat := 0x140014
def FAB_ETYPE : Nat := 0x140018
def FAB_MAC_LO : Nat := 0x14001C
def FAB_MAC_HI : Nat := 0x140020
def FAB_DEV_MAC_LO : Nat := 0x140024
def FAB_DEV_MAC_HI : Nat := 0x140028
def FAB_SELF : Nat := 0x14002C
def FAB_FABRIC_ID : Nat := 0x140030
def FAB_TERM : Nat := 0x140034
def FAB_TIME_CFG : Nat := 0x140038
def FAB_HB_LOSS_MS : Nat := 0x14003C
def FAB_KEYS : Nat := 0x140040
def FAB_TRIG_CTL : Nat := 0x140044
def FAB_TRIG_CYCLE_HI : Nat := 0x140048
def FAB_TRIG_CYCLE_LO : Nat := 0x14004C
def FAB_TRIG_PHASE : Nat := 0x140050
def FAB_TRIG_ARG : Nat := 0x140054
def FAB_TRIG_FSEQ_HI : Nat := 0x140058
def FAB_TRIG_FSEQ_LO : Nat := 0x14005C
def FAB_TRIG_LEAD : Nat := 0x140060
def FAB_TRIG_LAST_ID : Nat := 0x140064
def FAB_TRIG_LAST_RES : Nat := 0x140068
def FAB_JOIN_LEVEL : Nat := 0x14006C
def FAB_PORT_CFG (i : Nat) : Nat := 0x141000 + 0x20 * i
def FAB_PORT_STATUS (i : Nat) : Nat := 0x141004 + 0x20 * i
def FAB_PORT_DELAY (i : Nat) : Nat := 0x141008 + 0x20 * i
def FAB_PORT_DELAY_FIX (i : Nat) : Nat := 0x14100C + 0x20 * i
def POR_INT_STAT : Nat := 0x150000
def POR_INT_EN : Nat := 0x150004
def POR_CTL : Nat := 0x150008
def POR_CMD : Nat := 0x150010
def POR_CMD_HANDLE : Nat := 0x150014
def POR_CMD_ARG : Nat := 0x150018
def POR_CMD_STATUS : Nat := 0x15001C
def POR_CMD_RESULT : Nat := 0x150020
def POR_RET_BASE_HI : Nat := 0x150030
def POR_RET_BASE_LO : Nat := 0x150034
def POR_RET_SIZE : Nat := 0x150038
def POR_RET_HEAD : Nat := 0x15003C
def POR_RET_TAIL : Nat := 0x150040
def POR_RET_CTL : Nat := 0x150044
def POR_RX_STARVED (i : Nat) : Nat := 0x150050 + 0x4 * i
def POR_POOL_SIZE (i : Nat) : Nat := 0x150100 + 0x40 * i
def POR_POOL_CTL (i : Nat) : Nat := 0x150104 + 0x40 * i
def POR_POOL_FIRST (i : Nat) : Nat := 0x150108 + 0x40 * i
def POR_POOL_COUNT (i : Nat) : Nat := 0x15010C + 0x40 * i
def POR_POOL_BASE_HI (i : Nat) : Nat := 0x150110 + 0x40 * i
def POR_POOL_BASE_LO (i : Nat) : Nat := 0x150114 + 0x40 * i
def POR_RING_BASE_HI (i : Nat) : Nat := 0x150118 + 0x40 * i
def POR_RING_BASE_LO (i : Nat) : Nat := 0x15011C + 0x40 * i
def POR_RING_SIZE (i : Nat) : Nat := 0x150120 + 0x40 * i
def POR_RING_HEAD (i : Nat) : Nat := 0x150124 + 0x40 * i
def POR_RING_TAIL (i : Nat) : Nat := 0x150128 + 0x40 * i
def POR_POOL_CACHE (i : Nat) : Nat := 0x15012C + 0x40 * i
def POR_POOL_FREE (i : Nat) : Nat := 0x150130 + 0x40 * i
def POR_RX_CFG (i : Nat) : Nat := 0x150400 + 0x4 * i
def DRY_CTL : Nat := 0x160000
def DRY_LIMITS : Nat := 0x160004
def DRY_RX_CFG (i : Nat) : Nat := 0x161000 + 0x40 * i
def DRY_RX_CTL (i : Nat) : Nat := 0x161004 + 0x40 * i
def DRY_RX_STATUS (i : Nat) : Nat := 0x161008 + 0x40 * i
def DRY_RX_FIRST_HI (i : Nat) : Nat := 0x16100C + 0x40 * i
def DRY_RX_FIRST_LO (i : Nat) : Nat := 0x161010 + 0x40 * i
def DRY_RX_CUR_HI (i : Nat) : Nat := 0x161014 + 0x40 * i
def DRY_RX_CUR_LO (i : Nat) : Nat := 0x161018 + 0x40 * i
def DRY_RX_POSTED (i : Nat) : Nat := 0x16101C + 0x40 * i
def DRY_RX_DONE (i : Nat) : Nat := 0x161020 + 0x40 * i
def DRY_RX_INT_MOD (i : Nat) : Nat := 0x161024 + 0x40 * i
def DRY_RX_INT_STAT (i : Nat) : Nat := 0x161028 + 0x40 * i
def DRY_RX_INT_EN (i : Nat) : Nat := 0x16102C + 0x40 * i
def DRY_TX_CFG (i : Nat) : Nat := 0x162000 + 0x40 * i
def DRY_TX_CTL (i : Nat) : Nat := 0x162004 + 0x40 * i
def DRY_TX_STATUS (i : Nat) : Nat := 0x162008 + 0x40 * i
def DRY_TX_FIRST_HI (i : Nat) : Nat := 0x16200C + 0x40 * i
def DRY_TX_FIRST_LO (i : Nat) : Nat := 0x162010 + 0x40 * i
def DRY_TX_CUR_HI (i : Nat) : Nat := 0x162014 + 0x40 * i
def DRY_TX_CUR_LO (i : Nat) : Nat := 0x162018 + 0x40 * i
def DRY_TX_POSTED (i : Nat) : Nat := 0x16201C + 0x40 * i
def DRY_TX_DONE (i : Nat) : Nat := 0x162020 + 0x40 * i
def DRY_TX_INT_STAT (i : Nat) : Nat := 0x162028 + 0x40 * i
def DRY_TX_INT_EN (i : Nat) : Nat := 0x16202C + 0x40 * i
def DRY_ERR_CFG (i : Nat) : Nat := 0x163000 + 0x40 * i
def DRY_ERR_CTL (i : Nat) : Nat := 0x163004 + 0x40 * i
def DRY_ERR_STATUS (i : Nat) : Nat := 0x163008 + 0x40 * i
def DRY_ERR_PROG_HI (i : Nat) : Nat := 0x16300C + 0x40 * i
def DRY_ERR_PROG_LO (i : Nat) : Nat := 0x163010 + 0x40 * i
def DRY_ERR_ITER (i : Nat) : Nat := 0x163014 + 0x40 * i
def DRY_ERR_REMAIN (i : Nat) : Nat := 0x163018 + 0x40 * i
def DRY_ERR_SIGNAL (i : Nat) : Nat := 0x16301C + 0x40 * i
def DRY_ERR_INT_STAT (i : Nat) : Nat := 0x163028 + 0x40 * i
def DRY_ERR_INT_EN (i : Nat) : Nat := 0x16302C + 0x40 * i
def TAL_INT_STAT : Nat := 0x180000
def TAL_INT_EN : Nat := 0x180004
def TAL_CTL : Nat := 0x180008
def TAL_SNAP_CMD : Nat := 0x18000C
def TAL_SNAP_SEQ : Nat := 0x180010
def TAL_SNAP_MASK : Nat := 0x180014
def TAL_SNAP_SRC : Nat := 0x180018
def TAL_SNAP_SEC_HI : Nat := 0x18001C
def TAL_SNAP_SEC_LO : Nat := 0x180020
def TAL_SNAP_NS : Nat := 0x180024
def TAL_SNAP_FRAC : Nat := 0x180028
def TAL_SNAP_CYCLE_HI : Nat := 0x18002C
def TAL_SNAP_CYCLE_LO : Nat := 0x180030
def TAL_SNAP_PHASE : Nat := 0x180034
def TAL_CLEAR : Nat := 0x180038
def TAL_HV_CMD : Nat := 0x180040
def TAL_HV_MASK : Nat := 0x180044
def TAL_HV_ADDR_HI : Nat := 0x180048
def TAL_HV_ADDR_LO : Nat := 0x18004C
def TAL_HV_LIMIT : Nat := 0x180050
def TAL_HV_STATUS : Nat := 0x180054
def TAL_HV_SEQ : Nat := 0x180058
def TAL_HV_PROGRESS : Nat := 0x18005C
def TAL_RD_SEL : Nat := 0x180060
def TAL_RD_HI : Nat := 0x180064
def TAL_RD_LO : Nat := 0x180068
def TAL_UP_GROUP_EN : Nat := 0x180070
def TAL_UP_WIN_CFG (i : Nat) : Nat := 0x180080 + 0x10 * i
def TAL_UP_WIN_FIRST (i : Nat) : Nat := 0x180084 + 0x10 * i
def TAL_UP_WIN_SPAN (i : Nat) : Nat := 0x180088 + 0x10 * i
def GBK_INT_STAT : Nat := 0x190000
def GBK_INT_EN : Nat := 0x190004
def GBK_STATUS : Nat := 0x190008
def GBK_SEQ_NEXT : Nat := 0x19000C
def GBK_SEQ_OLDEST : Nat := 0x190010
def GBK_CMD : Nat := 0x190014
def GBK_CMD_ARG : Nat := 0x190018
def GBK_SUM_MS : Nat := 0x190040
def GBK_RD_SEQ : Nat := 0x190050
def GBK_RD_STATUS : Nat := 0x190054
def GBK_SPILL_CTL : Nat := 0x190080
def GBK_SPILL_BASE_HI : Nat := 0x190084
def GBK_SPILL_BASE_LO : Nat := 0x190088
def GBK_SPILL_SIZE : Nat := 0x19008C
def GBK_SPILL_HEAD : Nat := 0x190090
def GBK_SPILL_TAIL : Nat := 0x190094
def GBK_RL_RATE (i : Nat) : Nat := 0x190020 + 0x4 * i
def GBK_RL_BURST (i : Nat) : Nat := 0x190030 + 0x4 * i
def GBK_RD_W (i : Nat) : Nat := 0x190060 + 0x4 * i
def HLT_INT_STAT : Nat := 0x1A0000
def HLT_INT_EN : Nat := 0x1A0004
def HLT_FENCE_CFG : Nat := 0x1A0008
def HLT_FENCE : Nat := 0x1A000C
def HLT_FENCE_CMD : Nat := 0x1A0010
def HLT_FENCE_STATUS : Nat := 0x1A0014
def HLT_SCRUB_CFG : Nat := 0x1A0020
def HLT_SCRUB_STATUS : Nat := 0x1A0024
def HLT_ECC_CAP : Nat := 0x1A0028
def HLT_ECC_CAP_ADDR : Nat := 0x1A002C
def HLT_BANK_CFG : Nat := 0x1A0030
def HLT_BANK_MAP : Nat := 0x1A0034
def HLT_BANK_CMD : Nat := 0x1A0040
def HLT_TEMP_THR : Nat := 0x1A0180
def HLT_TEMP_LOW_THR : Nat := 0x1A0184
def HLT_VOLT_THR : Nat := 0x1A0188
def HLT_ALERT_CTL : Nat := 0x1A01C0
def HLT_MON_STATUS : Nat := 0x1A01C4
def HLT_AVS_CTL : Nat := 0x1A0200
def HLT_AVS_STATUS : Nat := 0x1A0204
def HLT_PMON_AVG : Nat := 0x1A0208
def HLT_BIST_CTL : Nat := 0x1A0300
def HLT_BIST_STATUS : Nat := 0x1A0304
def HLT_BANK_WD (i : Nat) : Nat := 0x1A0038 + 0x4 * i
def HLT_TEMP (i : Nat) : Nat := 0x1A0100 + 0x4 * i
def HLT_VOLT (i : Nat) : Nat := 0x1A0140 + 0x4 * i
def PIN_INT_STAT : Nat := 0x1B0000
def PIN_INT_EN : Nat := 0x1B0004
def PIN_CLK_STATUS : Nat := 0x1B0008
def PIN_GPIO_DIR : Nat := 0x1B0010
def PIN_GPIO_OUT : Nat := 0x1B0014
def PIN_GPIO_IN : Nat := 0x1B0018
def PIN_GPIO_TIMED : Nat := 0x1B001C
def PIN_GPIO_EDGE : Nat := 0x1B0020
def PIN_GPIO_EDGE_EN : Nat := 0x1B0024
def PIN_LED_CFG : Nat := 0x1B0030
def PIN_MDIO_CFG : Nat := 0x1B0180
def PIN_MDIO_CMD : Nat := 0x1B0184
def PIN_MDIO_DATA : Nat := 0x1B0188
def PIN_MDIO_STATUS : Nat := 0x1B018C
def PIN_QSPI_CFG : Nat := 0x1B0200
def PIN_QSPI_CMD : Nat := 0x1B0204
def PIN_QSPI_ADDR : Nat := 0x1B0208
def PIN_QSPI_STATUS : Nat := 0x1B020C
def PIN_LED_HOST (i : Nat) : Nat := 0x1B0040 + 0x4 * i
def PIN_QSPI_BUF (i : Nat) : Nat := 0x1B0400 + 0x4 * i
def PIN_I2C_CFG (i : Nat) : Nat := 0x1B0100 + 0x20 * i
def PIN_I2C_CMD (i : Nat) : Nat := 0x1B0104 + 0x20 * i
def PIN_I2C_STATUS (i : Nat) : Nat := 0x1B0108 + 0x20 * i
def PIN_I2C_DATA (i : Nat) : Nat := 0x1B010C + 0x20 * i
end A

/-! ### Fields -/
namespace F
def GLB_ID_PART : Fld := ⟨0x0, 16, 16⟩
def GLB_ID_GRADE : Fld := ⟨0x0, 8, 2⟩
def GLB_ID_REV : Fld := ⟨0x0, 0, 4⟩
def GLB_MODE_ROLE : Fld := ⟨0x4, 16, 2⟩
def GLB_MODE_BASE : Fld := ⟨0x4, 8, 4⟩
def GLB_MODE_MODE : Fld := ⟨0x4, 0, 4⟩
def GLB_COND_FORGING_ACTIVE : Fld := ⟨0x8, 15, 1⟩
def GLB_COND_VOLT_WARN : Fld := ⟨0x8, 14, 1⟩
def GLB_COND_TEMP_WARN : Fld := ⟨0x8, 13, 1⟩
def GLB_COND_KEEPER_LOST : Fld := ⟨0x8, 12, 1⟩
def GLB_COND_OSTLER_SILENT : Fld := ⟨0x8, 11, 1⟩
def GLB_COND_SPARES_EXHAUSTED : Fld := ⟨0x8, 10, 1⟩
def GLB_COND_FENCED : Fld := ⟨0x8, 9, 1⟩
def GLB_COND_PHASE_VALID : Fld := ⟨0x8, 8, 1⟩
def GLB_COND_TIME_VALID : Fld := ⟨0x8, 7, 1⟩
def GLB_COND_TIME_LOST : Fld := ⟨0x8, 6, 1⟩
def GLB_COND_PHASE_LOST : Fld := ⟨0x8, 5, 1⟩
def GLB_COND_BUDGETS : Fld := ⟨0x8, 4, 1⟩
def GLB_COND_TEMPERING : Fld := ⟨0x8, 3, 1⟩
def GLB_COND_HOLDOVER : Fld := ⟨0x8, 2, 1⟩
def GLB_COND_DEGRADED : Fld := ⟨0x8, 1, 1⟩
def GLB_COND_SAFE : Fld := ⟨0x8, 0, 1⟩
def GLB_CTL_CMD : Fld := ⟨0xC, 0, 4⟩
def GLB_CTL_STATUS_DRAIN_TIMED_OUT : Fld := ⟨0x10, 9, 1⟩
def GLB_CTL_STATUS_DIAG_DESTRUCTIVE : Fld := ⟨0x10, 8, 1⟩
def GLB_CTL_STATUS_RESULT : Fld := ⟨0x10, 0, 8⟩
def GLB_SAFE_CAUSE_HOST : Fld := ⟨0x14, 2, 1⟩
def GLB_SAFE_CAUSE_VOLT_CRIT : Fld := ⟨0x14, 1, 1⟩
def GLB_SAFE_CAUSE_TEMP_CRIT : Fld := ⟨0x14, 0, 1⟩
def GLB_WAKE_MS_WAKE_MS : Fld := ⟨0x18, 0, 16⟩
def GLB_WAKE_ELAPSED_ELAPSED_MS : Fld := ⟨0x1C, 0, 16⟩
def GLB_RESET_WARM : Fld := ⟨0x20, 0, 1⟩
def GLB_HRST_HEARTH : Fld := ⟨0x24, 0, 4⟩
def GLB_RST_CAUSE_HEARTH : Fld := ⟨0x28, 4, 4⟩
def GLB_RST_CAUSE_FLR : Fld := ⟨0x28, 3, 1⟩
def GLB_RST_CAUSE_WARM : Fld := ⟨0x28, 2, 1⟩
def GLB_RST_CAUSE_PIN : Fld := ⟨0x28, 1, 1⟩
def GLB_RST_CAUSE_POWER_ON : Fld := ⟨0x28, 0, 1⟩
def GLB_DRAIN_TIMEOUT_TIMEOUT_MS : Fld := ⟨0x2C, 0, 16⟩
def GLB_DRAIN_FLUSHED_FLUSHED : Fld := ⟨0x30, 0, 32⟩
def GLB_PORT_RST_0_PORTS_0_31 : Fld := ⟨0x40, 0, 32⟩
def GLB_PORT_RST_1_PORTS_32_63 : Fld := ⟨0x44, 0, 32⟩
def GLB_PORT_RST_2_PORTS_64_75 : Fld := ⟨0x48, 0, 12⟩
def GLB_ADMIT_RATE_RATE (i : Nat) : Fld := ⟨0x80 + 0x4 * i, 0, 24⟩
def GLB_ADMIT_BURST_BURST (i : Nat) : Fld := ⟨0xA0 + 0x4 * i, 0, 16⟩
def GLB_ADMIT_DROP_DROPS (i : Nat) : Fld := ⟨0xC0 + 0x4 * i, 0, 32⟩
def GLB_INT_SUM_BLK_ANY_TXCH : Fld := ⟨0x100, 26, 1⟩
def GLB_INT_SUM_BLK_ANY_RXCH : Fld := ⟨0x100, 25, 1⟩
def GLB_INT_SUM_BLK_ANY_PORT : Fld := ⟨0x100, 24, 1⟩
def GLB_INT_SUM_BLK_HEARTH : Fld := ⟨0x100, 16, 4⟩
def GLB_INT_SUM_BLK_BLOCK : Fld := ⟨0x100, 0, 15⟩
def GLB_INT_SUM_RXCH_LINES (i : Nat) : Fld := ⟨0x110 + 0x4 * i, 0, 32⟩
def GLB_INT_SUM_TXCH_LINES (i : Nat) : Fld := ⟨0x118 + 0x4 * i, 0, 32⟩
def GLB_INT_SUM_ERRAND_ANY_ERRAND : Fld := ⟨0x120, 27, 1⟩
def GLB_INT_SUM_ERRAND_LINES : Fld := ⟨0x120, 0, 32⟩
def GLB_INT_STAT_BUDGET_DROP : Fld := ⟨0x124, 5, 1⟩
def GLB_INT_STAT_WAKE_END : Fld := ⟨0x124, 4, 1⟩
def GLB_INT_STAT_QUIESCED : Fld := ⟨0x124, 3, 1⟩
def GLB_INT_STAT_WARM_DONE : Fld := ⟨0x124, 2, 1⟩
def GLB_INT_STAT_SAFE_SET : Fld := ⟨0x124, 1, 1⟩
def GLB_INT_STAT_MODE_CHANGE : Fld := ⟨0x124, 0, 1⟩
def GLB_INT_EN_BUDGET_DROP : Fld := ⟨0x128, 5, 1⟩
def GLB_INT_EN_WAKE_END : Fld := ⟨0x128, 4, 1⟩
def GLB_INT_EN_QUIESCED : Fld := ⟨0x128, 3, 1⟩
def GLB_INT_EN_WARM_DONE : Fld := ⟨0x128, 2, 1⟩
def GLB_INT_EN_SAFE_SET : Fld := ⟨0x128, 1, 1⟩
def GLB_INT_EN_MODE_CHANGE : Fld := ⟨0x128, 0, 1⟩
def GLB_VEC_PEND_PEND (i : Nat) : Fld := ⟨0x130 + 0x4 * i, 0, 32⟩
def GLB_VEC_ACTIVE_ACTIVE (i : Nat) : Fld := ⟨0x140 + 0x4 * i, 0, 32⟩
def GLB_VEC_EOI_VECTOR : Fld := ⟨0x150, 0, 7⟩
def FRG_CTL_OP : Fld := ⟨0x10000, 0, 4⟩
def FRG_STATUS_DRAIN_LATE : Fld := ⟨0x10004, 25, 1⟩
def FRG_STATUS_LATE : Fld := ⟨0x10004, 24, 1⟩
def FRG_STATUS_OLDGEN_LIVE : Fld := ⟨0x10004, 20, 4⟩
def FRG_STATUS_ACTIVE_BANK : Fld := ⟨0x10004, 16, 4⟩
def FRG_STATUS_RESULT : Fld := ⟨0x10004, 8, 8⟩
def FRG_STATUS_STATE : Fld := ⟨0x10004, 0, 4⟩
def FRG_LOAD_LEN_LOAD_LEN : Fld := ⟨0x10008, 0, 32⟩
def FRG_LOAD_COUNT_LOAD_COUNT : Fld := ⟨0x1000C, 0, 32⟩
def FRG_COMMIT_CYCLE_HI_CYCLE_HI : Fld := ⟨0x10010, 0, 8⟩
def FRG_COMMIT_CYCLE_LO_CYCLE_LO : Fld := ⟨0x10014, 0, 32⟩
def FRG_COMMIT_PHASE_PHASE : Fld := ⟨0x10018, 0, 24⟩
def FRG_TEMPER_CTL_DRAIN_POLICY : Fld := ⟨0x1001C, 5, 1⟩
def FRG_TEMPER_CTL_LATE_POLICY : Fld := ⟨0x1001C, 4, 1⟩
def FRG_TEMPER_CTL_HEARTH_MASK : Fld := ⟨0x1001C, 0, 4⟩
def FRG_DRAIN_TIMEOUT_TIMEOUT_MS : Fld := ⟨0x10020, 0, 16⟩
def FRG_LATE_PU_LATE_PU : Fld := ⟨0x10024, 0, 32⟩
def FRG_OLDGEN_FRAMES_FRAMES (i : Nat) : Fld := ⟨0x10030 + 0x4 * i, 0, 32⟩
def FRG_ACT_ID_HI_ID_HI : Fld := ⟨0x10040, 0, 32⟩
def FRG_ACT_ID_LO_ID_LO : Fld := ⟨0x10044, 0, 32⟩
def FRG_SHD_ID_HI_ID_HI : Fld := ⟨0x10048, 0, 32⟩
def FRG_SHD_ID_LO_ID_LO : Fld := ⟨0x1004C, 0, 32⟩
def FRG_FLUSHED_FLUSHED : Fld := ⟨0x10050, 0, 32⟩
def FRG_BOOT_SLOT_USED : Fld := ⟨0x10054, 16, 1⟩
def FRG_BOOT_RESULT_B : Fld := ⟨0x10054, 8, 8⟩
def FRG_BOOT_RESULT_A : Fld := ⟨0x10054, 0, 8⟩
def FRG_OTP_SECVER : Fld := ⟨0x10058, 8, 8⟩
def FRG_OTP_IMAGE_KEY_SET : Fld := ⟨0x10058, 5, 1⟩
def FRG_OTP_REVOKE_1 : Fld := ⟨0x10058, 4, 1⟩
def FRG_OTP_REVOKE_0 : Fld := ⟨0x10058, 3, 1⟩
def FRG_OTP_SLOT_1_SET : Fld := ⟨0x10058, 1, 1⟩
def FRG_OTP_SLOT_0_SET : Fld := ⟨0x10058, 0, 1⟩
def FRG_INT_STAT_DRAIN_TIMEOUT : Fld := ⟨0x10060, 6, 1⟩
def FRG_INT_STAT_LATE : Fld := ⟨0x10060, 5, 1⟩
def FRG_INT_STAT_RELEASED : Fld := ⟨0x10060, 4, 1⟩
def FRG_INT_STAT_COMMITTED : Fld := ⟨0x10060, 3, 1⟩
def FRG_INT_STAT_VERIFY_FAIL : Fld := ⟨0x10060, 2, 1⟩
def FRG_INT_STAT_VERIFIED : Fld := ⟨0x10060, 1, 1⟩
def FRG_INT_STAT_LOAD_DONE : Fld := ⟨0x10060, 0, 1⟩
def FRG_INT_EN_DRAIN_TIMEOUT : Fld := ⟨0x10064, 6, 1⟩
def FRG_INT_EN_LATE : Fld := ⟨0x10064, 5, 1⟩
def FRG_INT_EN_RELEASED : Fld := ⟨0x10064, 4, 1⟩
def FRG_INT_EN_COMMITTED : Fld := ⟨0x10064, 3, 1⟩
def FRG_INT_EN_VERIFY_FAIL : Fld := ⟨0x10064, 2, 1⟩
def FRG_INT_EN_VERIFIED : Fld := ⟨0x10064, 1, 1⟩
def FRG_INT_EN_LOAD_DONE : Fld := ⟨0x10064, 0, 1⟩
def FRG_LOAD_PORT_DATA (i : Nat) : Fld := ⟨0x18000 + 0x4 * i, 0, 32⟩
def HIF_LINK_FN_MASK : Fld := ⟨0x20000, 18, 1⟩
def HIF_LINK_MSIX_EN : Fld := ⟨0x20000, 17, 1⟩
def HIF_LINK_LINK_UP : Fld := ⟨0x20000, 16, 1⟩
def HIF_LINK_WIDTH : Fld := ⟨0x20000, 4, 6⟩
def HIF_LINK_SPEED : Fld := ⟨0x20000, 0, 4⟩
def HIF_ACC_ERR_STAT_LOCKED_WRITE : Fld := ⟨0x20004, 10, 1⟩
def HIF_ACC_ERR_STAT_MBX_BUSY : Fld := ⟨0x20004, 9, 1⟩
def HIF_ACC_ERR_STAT_POISONED : Fld := ⟨0x20004, 8, 1⟩
def HIF_ACC_ERR_STAT_BAR2_WRITE : Fld := ⟨0x20004, 7, 1⟩
def HIF_ACC_ERR_STAT_RESET_BUSY : Fld := ⟨0x20004, 6, 1⟩
def HIF_ACC_ERR_STAT_LOAD_PORT_DROP : Fld := ⟨0x20004, 5, 1⟩
def HIF_ACC_ERR_STAT_UNASSIGNED_WRITE : Fld := ⟨0x20004, 4, 1⟩
def HIF_ACC_ERR_STAT_UNASSIGNED_READ : Fld := ⟨0x20004, 3, 1⟩
def HIF_ACC_ERR_STAT_UNALIGNED_WRITE : Fld := ⟨0x20004, 2, 1⟩
def HIF_ACC_ERR_STAT_UNALIGNED_READ : Fld := ⟨0x20004, 1, 1⟩
def HIF_ACC_ERR_STAT_NARROW_WRITE : Fld := ⟨0x20004, 0, 1⟩
def HIF_ACC_ERR_ADDR_BAR2 : Fld := ⟨0x20008, 31, 1⟩
def HIF_ACC_ERR_ADDR_KIND : Fld := ⟨0x20008, 24, 4⟩
def HIF_ACC_ERR_ADDR_OFFSET : Fld := ⟨0x20008, 0, 24⟩
def HIF_ACC_ERR_COUNT_COUNT : Fld := ⟨0x2000C, 0, 32⟩
def HIF_INT_STAT_OSTLER_SILENT : Fld := ⟨0x20010, 2, 1⟩
def HIF_INT_STAT_ACC_ERR : Fld := ⟨0x20010, 1, 1⟩
def HIF_INT_STAT_MBX_DONE : Fld := ⟨0x20010, 0, 1⟩
def HIF_INT_EN_OSTLER_SILENT : Fld := ⟨0x20014, 2, 1⟩
def HIF_INT_EN_ACC_ERR : Fld := ⟨0x20014, 1, 1⟩
def HIF_INT_EN_MBX_DONE : Fld := ⟨0x20014, 0, 1⟩
def HIF_OSTLER_BEAT_BEAT : Fld := ⟨0x20020, 0, 32⟩
def HIF_OSTLER_CTL_RESTART : Fld := ⟨0x20024, 0, 1⟩
def HIF_MBX_TIMEOUT_TIMEOUT_MS : Fld := ⟨0x20028, 0, 16⟩
def HIF_MBX_REQ_DATA (i : Nat) : Fld := ⟨0x20100 + 0x4 * i, 0, 32⟩
def HIF_MBX_CMD_TAG : Fld := ⟨0x20140, 24, 8⟩
def HIF_MBX_CMD_LENGTH : Fld := ⟨0x20140, 16, 5⟩
def HIF_MBX_CMD_OPCODE : Fld := ⟨0x20140, 0, 16⟩
def HIF_MBX_STATUS_TAG : Fld := ⟨0x20144, 24, 8⟩
def HIF_MBX_STATUS_RESULT : Fld := ⟨0x20144, 16, 8⟩
def HIF_MBX_STATUS_RSP_LEN : Fld := ⟨0x20144, 8, 5⟩
def HIF_MBX_STATUS_OVERRUN : Fld := ⟨0x20144, 1, 1⟩
def HIF_MBX_STATUS_BUSY : Fld := ⟨0x20144, 0, 1⟩
def HIF_MBX_RSP_DATA (i : Nat) : Fld := ⟨0x20180 + 0x4 * i, 0, 32⟩
def HIF_VEC_MAP_VEC3 (i : Nat) : Fld := ⟨0x20400 + 0x4 * i, 24, 7⟩
def HIF_VEC_MAP_VEC2 (i : Nat) : Fld := ⟨0x20400 + 0x4 * i, 16, 7⟩
def HIF_VEC_MAP_VEC1 (i : Nat) : Fld := ⟨0x20400 + 0x4 * i, 8, 7⟩
def HIF_VEC_MAP_VEC0 (i : Nat) : Fld := ⟨0x20400 + 0x4 * i, 0, 7⟩
def PRT_MODE_LT_EN (i : Nat) : Fld := ⟨0x40000 + 0x400 * i, 5, 1⟩
def PRT_MODE_AN_EN (i : Nat) : Fld := ⟨0x40000 + 0x400 * i, 4, 1⟩
def PRT_MODE_MODE (i : Nat) : Fld := ⟨0x40000 + 0x400 * i, 0, 4⟩
def PRT_STATUS_MODE_ERR_CAUSE (i : Nat) : Fld := ⟨0x40004 + 0x400 * i, 13, 3⟩
def PRT_STATUS_MODE_ERR (i : Nat) : Fld := ⟨0x40004 + 0x400 * i, 12, 1⟩
def PRT_STATUS_ABSORBED (i : Nat) : Fld := ⟨0x40004 + 0x400 * i, 11, 1⟩
def PRT_STATUS_REMOTE_FAULT (i : Nat) : Fld := ⟨0x40004 + 0x400 * i, 10, 1⟩
def PRT_STATUS_LOCAL_FAULT (i : Nat) : Fld := ⟨0x40004 + 0x400 * i, 9, 1⟩
def PRT_STATUS_FEC_LOCK (i : Nat) : Fld := ⟨0x40004 + 0x400 * i, 8, 1⟩
def PRT_STATUS_ALIGN_LOCK (i : Nat) : Fld := ⟨0x40004 + 0x400 * i, 7, 1⟩
def PRT_STATUS_BLOCK_LOCK (i : Nat) : Fld := ⟨0x40004 + 0x400 * i, 6, 1⟩
def PRT_STATUS_SIGNAL (i : Nat) : Fld := ⟨0x40004 + 0x400 * i, 5, 1⟩
def PRT_STATUS_AN_DONE (i : Nat) : Fld := ⟨0x40004 + 0x400 * i, 4, 1⟩
def PRT_STATUS_PAUSED (i : Nat) : Fld := ⟨0x40004 + 0x400 * i, 3, 1⟩
def PRT_STATUS_IN_RESET (i : Nat) : Fld := ⟨0x40004 + 0x400 * i, 2, 1⟩
def PRT_STATUS_TRAINING (i : Nat) : Fld := ⟨0x40004 + 0x400 * i, 1, 1⟩
def PRT_STATUS_LINK_UP (i : Nat) : Fld := ⟨0x40004 + 0x400 * i, 0, 1⟩
def PRT_MAC_CFG_PAUSE_RX_EN (i : Nat) : Fld := ⟨0x40008 + 0x400 * i, 17, 1⟩
def PRT_MAC_CFG_DOWN_HOLD (i : Nat) : Fld := ⟨0x40008 + 0x400 * i, 16, 1⟩
def PRT_MAC_CFG_MAX_LEN (i : Nat) : Fld := ⟨0x40008 + 0x400 * i, 0, 14⟩
def PRT_LINK_TIMERS_UP_HOLD_MS (i : Nat) : Fld := ⟨0x4000C + 0x400 * i, 8, 8⟩
def PRT_LINK_TIMERS_DOWN_HOLD_MS (i : Nat) : Fld := ⟨0x4000C + 0x400 * i, 0, 8⟩
def PRT_PREEMPT_PMASK (i : Nat) : Fld := ⟨0x40010 + 0x400 * i, 16, 16⟩
def PRT_PREEMPT_VERIFY_TIME_MS (i : Nat) : Fld := ⟨0x40010 + 0x400 * i, 8, 8⟩
def PRT_PREEMPT_ADD_FRAG_SIZE (i : Nat) : Fld := ⟨0x40010 + 0x400 * i, 6, 2⟩
def PRT_PREEMPT_VERIFY_LIMIT (i : Nat) : Fld := ⟨0x40010 + 0x400 * i, 3, 3⟩
def PRT_PREEMPT_VERIFY_DIS (i : Nat) : Fld := ⟨0x40010 + 0x400 * i, 1, 1⟩
def PRT_PREEMPT_EN (i : Nat) : Fld := ⟨0x40010 + 0x400 * i, 0, 1⟩
def PRT_PREEMPT_STATUS_ACTIVE (i : Nat) : Fld := ⟨0x40014 + 0x400 * i, 3, 1⟩
def PRT_PREEMPT_STATUS_VERIFY_STATE (i : Nat) : Fld := ⟨0x40014 + 0x400 * i, 0, 3⟩
def PRT_PAUSE_STATUS_QUANTA (i : Nat) : Fld := ⟨0x40018 + 0x400 * i, 0, 16⟩
def PRT_TS_RX_ADJ_ADJ (i : Nat) : Fld := ⟨0x40020 + 0x400 * i, 0, 32⟩
def PRT_TS_TX_ADJ_ADJ (i : Nat) : Fld := ⟨0x40024 + 0x400 * i, 0, 32⟩
def PRT_INT_STAT_PRBS_ERR (i : Nat) : Fld := ⟨0x40030 + 0x400 * i, 7, 1⟩
def PRT_INT_STAT_REMOTE_FAULT (i : Nat) : Fld := ⟨0x40030 + 0x400 * i, 6, 1⟩
def PRT_INT_STAT_MODE_ERR (i : Nat) : Fld := ⟨0x40030 + 0x400 * i, 5, 1⟩
def PRT_INT_STAT_AN_MISMATCH (i : Nat) : Fld := ⟨0x40030 + 0x400 * i, 4, 1⟩
def PRT_INT_STAT_PAUSE_IN_WINDOW (i : Nat) : Fld := ⟨0x40030 + 0x400 * i, 3, 1⟩
def PRT_INT_STAT_VERIFY_DONE (i : Nat) : Fld := ⟨0x40030 + 0x400 * i, 2, 1⟩
def PRT_INT_STAT_LINK_DOWN (i : Nat) : Fld := ⟨0x40030 + 0x400 * i, 1, 1⟩
def PRT_INT_STAT_LINK_UP (i : Nat) : Fld := ⟨0x40030 + 0x400 * i, 0, 1⟩
def PRT_INT_EN_PRBS_ERR (i : Nat) : Fld := ⟨0x40034 + 0x400 * i, 7, 1⟩
def PRT_INT_EN_REMOTE_FAULT (i : Nat) : Fld := ⟨0x40034 + 0x400 * i, 6, 1⟩
def PRT_INT_EN_MODE_ERR (i : Nat) : Fld := ⟨0x40034 + 0x400 * i, 5, 1⟩
def PRT_INT_EN_AN_MISMATCH (i : Nat) : Fld := ⟨0x40034 + 0x400 * i, 4, 1⟩
def PRT_INT_EN_PAUSE_IN_WINDOW (i : Nat) : Fld := ⟨0x40034 + 0x400 * i, 3, 1⟩
def PRT_INT_EN_VERIFY_DONE (i : Nat) : Fld := ⟨0x40034 + 0x400 * i, 2, 1⟩
def PRT_INT_EN_LINK_DOWN (i : Nat) : Fld := ⟨0x40034 + 0x400 * i, 1, 1⟩
def PRT_INT_EN_LINK_UP (i : Nat) : Fld := ⟨0x40034 + 0x400 * i, 0, 1⟩
def PRT_LOOPBACK_KIND (i : Nat) : Fld := ⟨0x40040 + 0x400 * i, 0, 3⟩
def PRT_PRBS_CFG_LANE_MASK (i : Nat) : Fld := ⟨0x40044 + 0x400 * i, 8, 8⟩
def PRT_PRBS_CFG_INVERT (i : Nat) : Fld := ⟨0x40044 + 0x400 * i, 6, 1⟩
def PRT_PRBS_CFG_CHK_EN (i : Nat) : Fld := ⟨0x40044 + 0x400 * i, 5, 1⟩
def PRT_PRBS_CFG_GEN_EN (i : Nat) : Fld := ⟨0x40044 + 0x400 * i, 4, 1⟩
def PRT_PRBS_CFG_PATTERN (i : Nat) : Fld := ⟨0x40044 + 0x400 * i, 0, 4⟩
def PRT_DIAG_RATE_PAM4 (i : Nat) : Fld := ⟨0x40048 + 0x400 * i, 16, 1⟩
def PRT_DIAG_RATE_RATE_MBD (i : Nat) : Fld := ⟨0x40048 + 0x400 * i, 0, 16⟩
def PRT_PRBS_ERR_ERRORS (i : Nat) (j : Nat) : Fld := ⟨0x40060 + 0x400 * i + 0x4 * j, 0, 32⟩
def PRT_LANE_CFG_TX_POST (i : Nat) (j : Nat) : Fld := ⟨0x40080 + 0x400 * i + 0x4 * j, 24, 8⟩
def PRT_LANE_CFG_TX_MAIN (i : Nat) (j : Nat) : Fld := ⟨0x40080 + 0x400 * i + 0x4 * j, 16, 8⟩
def PRT_LANE_CFG_TX_PRE (i : Nat) (j : Nat) : Fld := ⟨0x40080 + 0x400 * i + 0x4 * j, 10, 6⟩
def PRT_LANE_CFG_TX_DST (i : Nat) (j : Nat) : Fld := ⟨0x40080 + 0x400 * i + 0x4 * j, 5, 3⟩
def PRT_LANE_CFG_RX_SRC (i : Nat) (j : Nat) : Fld := ⟨0x40080 + 0x400 * i + 0x4 * j, 2, 3⟩
def PRT_LANE_CFG_RX_INV (i : Nat) (j : Nat) : Fld := ⟨0x40080 + 0x400 * i + 0x4 * j, 1, 1⟩
def PRT_LANE_CFG_TX_INV (i : Nat) (j : Nat) : Fld := ⟨0x40080 + 0x400 * i + 0x4 * j, 0, 1⟩
def HTH_INT_STAT_HEALTH (i : Nat) : Fld := ⟨0x80000 + 0x10000 * i, 8, 8⟩
def HTH_INT_STAT_BAD_DEST (i : Nat) : Fld := ⟨0x80000 + 0x10000 * i, 3, 1⟩
def HTH_INT_STAT_RECIRC_EXCESS (i : Nat) : Fld := ⟨0x80000 + 0x10000 * i, 2, 1⟩
def HTH_INT_STAT_FRAG_FULL (i : Nat) : Fld := ⟨0x80000 + 0x10000 * i, 1, 1⟩
def HTH_INT_STAT_EXC_CAPTURED (i : Nat) : Fld := ⟨0x80000 + 0x10000 * i, 0, 1⟩
def HTH_INT_STAT_HEALTH_UNRELIABLE (i : Nat) : Fld := ⟨0x80000 + 0x10000 * i, 14, 1⟩
def HTH_INT_STAT_HEALTH_ECC_UNCORR (i : Nat) : Fld := ⟨0x80000 + 0x10000 * i, 13, 1⟩
def HTH_INT_STAT_HEALTH_TCAM_PARITY (i : Nat) : Fld := ⟨0x80000 + 0x10000 * i, 12, 1⟩
def HTH_INT_STAT_HEALTH_RECOMPUTE_DROP (i : Nat) : Fld := ⟨0x80000 + 0x10000 * i, 11, 1⟩
def HTH_INT_STAT_HEALTH_FENCED (i : Nat) : Fld := ⟨0x80000 + 0x10000 * i, 10, 1⟩
def HTH_INT_STAT_HEALTH_OUTVOTED (i : Nat) : Fld := ⟨0x80000 + 0x10000 * i, 9, 1⟩
def HTH_INT_STAT_HEALTH_MISMATCH (i : Nat) : Fld := ⟨0x80000 + 0x10000 * i, 8, 1⟩
def HTH_INT_EN_HEALTH (i : Nat) : Fld := ⟨0x80004 + 0x10000 * i, 8, 8⟩
def HTH_INT_EN_BAD_DEST (i : Nat) : Fld := ⟨0x80004 + 0x10000 * i, 3, 1⟩
def HTH_INT_EN_RECIRC_EXCESS (i : Nat) : Fld := ⟨0x80004 + 0x10000 * i, 2, 1⟩
def HTH_INT_EN_FRAG_FULL (i : Nat) : Fld := ⟨0x80004 + 0x10000 * i, 1, 1⟩
def HTH_INT_EN_EXC_CAPTURED (i : Nat) : Fld := ⟨0x80004 + 0x10000 * i, 0, 1⟩
def HTH_EXC_POLICY_PUNT_QUEUE (i : Nat) : Fld := ⟨0x80100 + 0x10000 * i, 16, 6⟩
def HTH_EXC_POLICY_L2_QUEUE (i : Nat) : Fld := ⟨0x80100 + 0x10000 * i, 8, 4⟩
def HTH_EXC_POLICY_DEPTH_ACT (i : Nat) : Fld := ⟨0x80100 + 0x10000 * i, 2, 2⟩
def HTH_EXC_POLICY_LEN_ACT (i : Nat) : Fld := ⟨0x80100 + 0x10000 * i, 1, 1⟩
def HTH_FRAG_CFG_EN (i : Nat) : Fld := ⟨0x80104 + 0x10000 * i, 8, 1⟩
def HTH_FRAG_CFG_LIFETIME_MS (i : Nat) : Fld := ⟨0x80104 + 0x10000 * i, 0, 7⟩
def HTH_FRAG_USED_USED (i : Nat) : Fld := ⟨0x80108 + 0x10000 * i, 0, 14⟩
def HTH_EXC_CAP_OFF_OFFSET (i : Nat) : Fld := ⟨0x80110 + 0x10000 * i, 0, 9⟩
def HTH_EXC_CAP_EXC (i : Nat) : Fld := ⟨0x80114 + 0x10000 * i, 24, 8⟩
def HTH_EXC_CAP_SRC_PORT (i : Nat) : Fld := ⟨0x80114 + 0x10000 * i, 17, 7⟩
def HTH_EXC_CAP_PASS (i : Nat) : Fld := ⟨0x80114 + 0x10000 * i, 16, 1⟩
def HTH_EXC_CAP_DEPTH (i : Nat) : Fld := ⟨0x80114 + 0x10000 * i, 11, 5⟩
def HTH_EXC_CAP_STATE (i : Nat) : Fld := ⟨0x80114 + 0x10000 * i, 4, 7⟩
def HTH_EXC_CAP_VALID (i : Nat) : Fld := ⟨0x80114 + 0x10000 * i, 0, 1⟩
def TBL_CMD_TABLE (i : Nat) : Fld := ⟨0xC0000 + 0x400 * i, 8, 8⟩
def TBL_CMD_HEARTH (i : Nat) : Fld := ⟨0xC0000 + 0x400 * i, 6, 2⟩
def TBL_CMD_BANK (i : Nat) : Fld := ⟨0xC0000 + 0x400 * i, 4, 1⟩
def TBL_CMD_OPCODE (i : Nat) : Fld := ⟨0xC0000 + 0x400 * i, 0, 4⟩
def TBL_STATUS_MOVES (i : Nat) : Fld := ⟨0xC0004 + 0x400 * i, 16, 8⟩
def TBL_STATUS_RESULT (i : Nat) : Fld := ⟨0xC0004 + 0x400 * i, 8, 8⟩
def TBL_STATUS_OVERRUN (i : Nat) : Fld := ⟨0xC0004 + 0x400 * i, 1, 1⟩
def TBL_STATUS_BUSY (i : Nat) : Fld := ⟨0xC0004 + 0x400 * i, 0, 1⟩
def TBL_INDEX_INDEX (i : Nat) : Fld := ⟨0xC0008 + 0x400 * i, 0, 20⟩
def TBL_RESULT_INDEX_INDEX (i : Nat) : Fld := ⟨0xC000C + 0x400 * i, 0, 20⟩
def TBL_DATA_DATA (i : Nat) (j : Nat) : Fld := ⟨0xC0100 + 0x400 * i + 0x4 * j, 0, 32⟩
def TBL_INT_STAT_LAG_NO_MEMBER : Fld := ⟨0xC1000, 10, 1⟩
def TBL_INT_STAT_NOTE_OVERFLOW : Fld := ⟨0xC1000, 9, 1⟩
def TBL_INT_STAT_LEARN_FAILED : Fld := ⟨0xC1000, 8, 1⟩
def TBL_INT_STAT_NOTE : Fld := ⟨0xC1000, 4, 4⟩
def TBL_INT_STAT_CMD_DONE : Fld := ⟨0xC1000, 0, 4⟩
def TBL_INT_EN_LAG_NO_MEMBER : Fld := ⟨0xC1004, 10, 1⟩
def TBL_INT_EN_NOTE_OVERFLOW : Fld := ⟨0xC1004, 9, 1⟩
def TBL_INT_EN_LEARN_FAILED : Fld := ⟨0xC1004, 8, 1⟩
def TBL_INT_EN_NOTE : Fld := ⟨0xC1004, 4, 4⟩
def TBL_INT_EN_CMD_DONE : Fld := ⟨0xC1004, 0, 4⟩
def TBL_LEARN_CFG_LEARN_EN : Fld := ⟨0xC1008, 4, 4⟩
def TBL_LEARN_CFG_NOTE_EN : Fld := ⟨0xC1008, 0, 4⟩
def TBL_MOVER_CFG_MAX_MOVES : Fld := ⟨0xC100C, 0, 5⟩
def TBL_LAG_SEED_SEED : Fld := ⟨0xC1010, 0, 32⟩
def TBL_NOTE_W0_VALID (i : Nat) : Fld := ⟨0xC1100 + 0x10 * i, 31, 1⟩
def TBL_NOTE_W0_KIND (i : Nat) : Fld := ⟨0xC1100 + 0x10 * i, 28, 3⟩
def TBL_NOTE_W0_EGRESS (i : Nat) : Fld := ⟨0xC1100 + 0x10 * i, 27, 1⟩
def TBL_NOTE_W0_BD (i : Nat) : Fld := ⟨0xC1100 + 0x10 * i, 0, 12⟩
def TBL_NOTE_W1_MAC_LO (i : Nat) : Fld := ⟨0xC1104 + 0x10 * i, 0, 32⟩
def TBL_NOTE_W2_MAC_HI (i : Nat) : Fld := ⟨0xC1108 + 0x10 * i, 0, 16⟩
def TBL_NOTE_W3_DEST_KIND (i : Nat) : Fld := ⟨0xC110C + 0x10 * i, 20, 3⟩
def TBL_NOTE_W3_DEST (i : Nat) : Fld := ⟨0xC110C + 0x10 * i, 0, 20⟩
def TBL_NOTE_LEVEL_LEVEL (i : Nat) : Fld := ⟨0xC1140 + 0x4 * i, 0, 11⟩
def FRY_INT_STAT_ENCAP_INVALID : Fld := ⟨0xD0000, 5, 1⟩
def FRY_INT_STAT_TOO_BIG : Fld := ⟨0xD0000, 4, 1⟩
def FRY_INT_STAT_PEER_DROP : Fld := ⟨0xD0000, 3, 1⟩
def FRY_INT_STAT_STALE_GEN : Fld := ⟨0xD0000, 2, 1⟩
def FRY_INT_STAT_UNKNOWN_TUNNEL : Fld := ⟨0xD0000, 1, 1⟩
def FRY_INT_STAT_TMPL_DONE : Fld := ⟨0xD0000, 0, 1⟩
def FRY_INT_EN_ENCAP_INVALID : Fld := ⟨0xD0004, 5, 1⟩
def FRY_INT_EN_TOO_BIG : Fld := ⟨0xD0004, 4, 1⟩
def FRY_INT_EN_PEER_DROP : Fld := ⟨0xD0004, 3, 1⟩
def FRY_INT_EN_STALE_GEN : Fld := ⟨0xD0004, 2, 1⟩
def FRY_INT_EN_UNKNOWN_TUNNEL : Fld := ⟨0xD0004, 1, 1⟩
def FRY_INT_EN_TMPL_DONE : Fld := ⟨0xD0004, 0, 1⟩
def FRY_CHECK_KEY_KEY : Fld := ⟨0xD0008, 0, 4⟩
def FRY_FAIL_ACT_PEER_MISMATCH : Fld := ⟨0xD000C, 4, 1⟩
def FRY_FAIL_ACT_GTP_SIGNAL : Fld := ⟨0xD000C, 3, 1⟩
def FRY_FAIL_ACT_BAD_CHECK : Fld := ⟨0xD000C, 2, 1⟩
def FRY_FAIL_ACT_STALE_GEN : Fld := ⟨0xD000C, 1, 1⟩
def FRY_FAIL_ACT_UNKNOWN_TUNNEL : Fld := ⟨0xD000C, 0, 1⟩
def FRY_PUNT_QUEUE_0_QUEUE_3 : Fld := ⟨0xD0010, 24, 6⟩
def FRY_PUNT_QUEUE_0_QUEUE_2 : Fld := ⟨0xD0010, 16, 6⟩
def FRY_PUNT_QUEUE_0_QUEUE_1 : Fld := ⟨0xD0010, 8, 6⟩
def FRY_PUNT_QUEUE_0_QUEUE_0 : Fld := ⟨0xD0010, 0, 6⟩
def FRY_PUNT_QUEUE_1_QUEUE_3 : Fld := ⟨0xD0014, 24, 6⟩
def FRY_PUNT_QUEUE_1_QUEUE_2 : Fld := ⟨0xD0014, 16, 6⟩
def FRY_PUNT_QUEUE_1_QUEUE_1 : Fld := ⟨0xD0014, 8, 6⟩
def FRY_PUNT_QUEUE_1_QUEUE_0 : Fld := ⟨0xD0014, 0, 6⟩
def FRY_PEER_RATE_RATE : Fld := ⟨0xD0018, 0, 24⟩
def FRY_PEER_BURST_BURST : Fld := ⟨0xD001C, 0, 16⟩
def FRY_PEER_DROP_DROPS : Fld := ⟨0xD0020, 0, 32⟩
def FRY_LOCAL_ADDR_ADDR (i : Nat) (j : Nat) : Fld := ⟨0xD0100 + 0x10 * i + 0x4 * j, 0, 32⟩
def FRY_LOCAL_VALID_VALID : Fld := ⟨0xD0200, 0, 16⟩
def FRY_LOCAL_V6_V6 : Fld := ⟨0xD0204, 0, 16⟩
def FRY_TMPL_CMD_INDEX : Fld := ⟨0xD0400, 3, 9⟩
def FRY_TMPL_CMD_OP : Fld := ⟨0xD0400, 0, 2⟩
def FRY_TMPL_STATUS_RESULT : Fld := ⟨0xD0404, 8, 8⟩
def FRY_TMPL_STATUS_OVERRUN : Fld := ⟨0xD0404, 1, 1⟩
def FRY_TMPL_STATUS_BUSY : Fld := ⟨0xD0404, 0, 1⟩
def FRY_TMPL_DATA_DATA (i : Nat) : Fld := ⟨0xD0440 + 0x4 * i, 0, 32⟩
def TM_INT_STAT_MIRROR_DROP : Fld := ⟨0xE0000, 4, 1⟩
def TM_INT_STAT_MGMT_ADMIT : Fld := ⟨0xE0000, 3, 1⟩
def TM_INT_STAT_ADMIT_DROP : Fld := ⟨0xE0000, 2, 1⟩
def TM_INT_STAT_OVERCOMMIT : Fld := ⟨0xE0000, 1, 1⟩
def TM_INT_STAT_NOCELL : Fld := ⟨0xE0000, 0, 1⟩
def TM_INT_EN_MIRROR_DROP : Fld := ⟨0xE0004, 4, 1⟩
def TM_INT_EN_MGMT_ADMIT : Fld := ⟨0xE0004, 3, 1⟩
def TM_INT_EN_ADMIT_DROP : Fld := ⟨0xE0004, 2, 1⟩
def TM_INT_EN_OVERCOMMIT : Fld := ⟨0xE0004, 1, 1⟩
def TM_INT_EN_NOCELL : Fld := ⟨0xE0004, 0, 1⟩
def TM_HEADROOM_CELLS : Fld := ⟨0xE0008, 0, 19⟩
def TM_MGMT_POOL_CELLS : Fld := ⟨0xE000C, 0, 19⟩
def TM_SHARED_SIZE_CELLS : Fld := ⟨0xE0010, 0, 19⟩
def TM_SHARED_USED_CELLS : Fld := ⟨0xE0014, 0, 19⟩
def TM_MGMT_USED_CELLS : Fld := ⟨0xE0018, 0, 19⟩
def TM_CELLS_USED_CELLS : Fld := ⟨0xE001C, 0, 19⟩
def TM_METER_ADJ_ADJ_0 : Fld := ⟨0xE0020, 0, 6⟩
def TM_METER_ADJ_ADJ_1 : Fld := ⟨0xE0020, 8, 6⟩
def TM_METER_ADJ_ADJ_2 : Fld := ⟨0xE0020, 16, 6⟩
def TM_METER_ADJ_ADJ_3 : Fld := ⟨0xE0020, 24, 6⟩
def TM_SAMPLE_CFG_DELAY_BASE : Fld := ⟨0xE0024, 28, 4⟩
def TM_SAMPLE_CFG_DEPTH_BASE : Fld := ⟨0xE0024, 24, 4⟩
def TM_SAMPLE_CFG_PERIOD_US : Fld := ⟨0xE0024, 0, 16⟩
def TM_PORT_CFG_EMIRROR_EN (i : Nat) : Fld := ⟨0xE1000 + 0x400 * i, 3, 1⟩
def TM_PORT_CFG_EMIRROR_SESSION (i : Nat) : Fld := ⟨0xE1000 + 0x400 * i, 0, 3⟩
def TM_PORT_LIMIT_LIMIT (i : Nat) : Fld := ⟨0xE1004 + 0x400 * i, 0, 19⟩
def TM_PORT_USED_USED (i : Nat) : Fld := ⟨0xE1008 + 0x400 * i, 0, 19⟩
def TM_PORT_SHP_RATE_EN (i : Nat) : Fld := ⟨0xE100C + 0x400 * i, 31, 1⟩
def TM_PORT_SHP_RATE_RESET_FULL (i : Nat) : Fld := ⟨0xE100C + 0x400 * i, 30, 1⟩
def TM_PORT_SHP_RATE_RATE_EXP (i : Nat) : Fld := ⟨0xE100C + 0x400 * i, 16, 5⟩
def TM_PORT_SHP_RATE_RATE_MANT (i : Nat) : Fld := ⟨0xE100C + 0x400 * i, 0, 16⟩
def TM_PORT_SHP_BURST_BURST (i : Nat) : Fld := ⟨0xE1010 + 0x400 * i, 0, 24⟩
def TM_PORT_SHP_LEVEL_LEVEL (i : Nat) : Fld := ⟨0xE1014 + 0x400 * i, 0, 26⟩
def TM_CAL_STATUS_BANK (i : Nat) : Fld := ⟨0xE1018 + 0x400 * i, 31, 1⟩
def TM_CAL_STATUS_PTR_P (i : Nat) : Fld := ⟨0xE1018 + 0x400 * i, 16, 12⟩
def TM_CAL_STATUS_PTR_X (i : Nat) : Fld := ⟨0xE1018 + 0x400 * i, 0, 12⟩
def TM_CAL_LEN_LEN (i : Nat) : Fld := ⟨0xE101C + 0x400 * i, 0, 13⟩
def TM_QMAP_0_QUEUE_0 (i : Nat) : Fld := ⟨0xE1020 + 0x400 * i, 0, 4⟩
def TM_QMAP_0_QUEUE_1 (i : Nat) : Fld := ⟨0xE1020 + 0x400 * i, 4, 4⟩
def TM_QMAP_0_QUEUE_2 (i : Nat) : Fld := ⟨0xE1020 + 0x400 * i, 8, 4⟩
def TM_QMAP_0_QUEUE_3 (i : Nat) : Fld := ⟨0xE1020 + 0x400 * i, 12, 4⟩
def TM_QMAP_0_QUEUE_4 (i : Nat) : Fld := ⟨0xE1020 + 0x400 * i, 16, 4⟩
def TM_QMAP_0_QUEUE_5 (i : Nat) : Fld := ⟨0xE1020 + 0x400 * i, 20, 4⟩
def TM_QMAP_0_QUEUE_6 (i : Nat) : Fld := ⟨0xE1020 + 0x400 * i, 24, 4⟩
def TM_QMAP_0_QUEUE_7 (i : Nat) : Fld := ⟨0xE1020 + 0x400 * i, 28, 4⟩
def TM_QMAP_1_QUEUE_8 (i : Nat) : Fld := ⟨0xE1024 + 0x400 * i, 0, 4⟩
def TM_QMAP_1_QUEUE_9 (i : Nat) : Fld := ⟨0xE1024 + 0x400 * i, 4, 4⟩
def TM_QMAP_1_QUEUE_10 (i : Nat) : Fld := ⟨0xE1024 + 0x400 * i, 8, 4⟩
def TM_QMAP_1_QUEUE_11 (i : Nat) : Fld := ⟨0xE1024 + 0x400 * i, 12, 4⟩
def TM_QMAP_1_QUEUE_12 (i : Nat) : Fld := ⟨0xE1024 + 0x400 * i, 16, 4⟩
def TM_QMAP_1_QUEUE_13 (i : Nat) : Fld := ⟨0xE1024 + 0x400 * i, 20, 4⟩
def TM_QMAP_1_QUEUE_14 (i : Nat) : Fld := ⟨0xE1024 + 0x400 * i, 24, 4⟩
def TM_QMAP_1_QUEUE_15 (i : Nat) : Fld := ⟨0xE1024 + 0x400 * i, 28, 4⟩
def TM_QGATED_GATED (i : Nat) : Fld := ⟨0xE1028 + 0x400 * i, 0, 16⟩
def TM_Q_MIN_MIN (i : Nat) (j : Nat) : Fld := ⟨0xE1100 + 0x400 * i + 0x20 * j, 0, 19⟩
def TM_Q_MAX_DYN (i : Nat) (j : Nat) : Fld := ⟨0xE1104 + 0x400 * i + 0x20 * j, 31, 1⟩
def TM_Q_MAX_ALPHA (i : Nat) (j : Nat) : Fld := ⟨0xE1104 + 0x400 * i + 0x20 * j, 24, 4⟩
def TM_Q_MAX_YELLOW (i : Nat) (j : Nat) : Fld := ⟨0xE1104 + 0x400 * i + 0x20 * j, 20, 4⟩
def TM_Q_MAX_MAX (i : Nat) (j : Nat) : Fld := ⟨0xE1104 + 0x400 * i + 0x20 * j, 0, 19⟩
def TM_Q_SHP_RATE_VALUE (i : Nat) (j : Nat) : Fld := ⟨0xE1108 + 0x400 * i + 0x20 * j, 0, 32⟩
def TM_Q_SHP_BURST_BURST (i : Nat) (j : Nat) : Fld := ⟨0xE110C + 0x400 * i + 0x20 * j, 0, 24⟩
def TM_Q_SHP_LEVEL_LEVEL (i : Nat) (j : Nat) : Fld := ⟨0xE1110 + 0x400 * i + 0x20 * j, 0, 26⟩
def TM_Q_DEPTH_DEPTH (i : Nat) (j : Nat) : Fld := ⟨0xE1114 + 0x400 * i + 0x20 * j, 0, 19⟩
def TM_Q_WATERMARK_MARK (i : Nat) (j : Nat) : Fld := ⟨0xE1118 + 0x400 * i + 0x20 * j, 0, 19⟩
def TM_Q_SOJ_MAX_NS (i : Nat) (j : Nat) : Fld := ⟨0xE111C + 0x400 * i + 0x20 * j, 0, 32⟩
def TM_MIR_CFG_EN (i : Nat) : Fld := ⟨0xFC000 + 0x80 * i, 31, 1⟩
def TM_MIR_CFG_KIND (i : Nat) : Fld := ⟨0xFC000 + 0x80 * i, 29, 2⟩
def TM_MIR_CFG_OUTER_V6 (i : Nat) : Fld := ⟨0xFC000 + 0x80 * i, 28, 1⟩
def TM_MIR_CFG_VLAN_EN (i : Nat) : Fld := ⟨0xFC000 + 0x80 * i, 27, 1⟩
def TM_MIR_CFG_DEST_PORT (i : Nat) : Fld := ⟨0xFC000 + 0x80 * i, 20, 7⟩
def TM_MIR_CFG_QUEUE (i : Nat) : Fld := ⟨0xFC000 + 0x80 * i, 16, 4⟩
def TM_MIR_CFG_HOST_QUEUE (i : Nat) : Fld := ⟨0xFC000 + 0x80 * i, 10, 6⟩
def TM_MIR_TRUNC_SAMPLE_N (i : Nat) : Fld := ⟨0xFC004 + 0x80 * i, 16, 16⟩
def TM_MIR_TRUNC_TRUNC_LEN (i : Nat) : Fld := ⟨0xFC004 + 0x80 * i, 0, 14⟩
def TM_MIR_NH_MAC_LO_MAC_LO (i : Nat) : Fld := ⟨0xFC008 + 0x80 * i, 0, 32⟩
def TM_MIR_NH_MAC_HI_VLAN_TCI (i : Nat) : Fld := ⟨0xFC00C + 0x80 * i, 16, 16⟩
def TM_MIR_NH_MAC_HI_MAC_HI (i : Nat) : Fld := ⟨0xFC00C + 0x80 * i, 0, 16⟩
def TM_MIR_DEV_MAC_LO_MAC_LO (i : Nat) : Fld := ⟨0xFC010 + 0x80 * i, 0, 32⟩
def TM_MIR_DEV_MAC_HI_MAC_HI (i : Nat) : Fld := ⟨0xFC014 + 0x80 * i, 0, 16⟩
def TM_MIR_IP_KEY_EN (i : Nat) : Fld := ⟨0xFC018 + 0x80 * i, 16, 1⟩
def TM_MIR_IP_DSCP (i : Nat) : Fld := ⟨0xFC018 + 0x80 * i, 8, 6⟩
def TM_MIR_IP_TTL (i : Nat) : Fld := ⟨0xFC018 + 0x80 * i, 0, 8⟩
def TM_MIR_KEY_KEY (i : Nat) : Fld := ⟨0xFC01C + 0x80 * i, 0, 32⟩
def TM_MIR_SRC_IP_ADDR (i : Nat) (j : Nat) : Fld := ⟨0xFC020 + 0x80 * i + 0x4 * j, 0, 32⟩
def TM_MIR_DST_IP_ADDR (i : Nat) (j : Nat) : Fld := ⟨0xFC030 + 0x80 * i + 0x4 * j, 0, 32⟩
def LDG_INT_STAT_RATE_OVERRUN : Fld := ⟨0x100000, 3, 1⟩
def LDG_INT_STAT_WINDOW_TOO_LONG : Fld := ⟨0x100000, 2, 1⟩
def LDG_INT_STAT_BASE_REFUSED : Fld := ⟨0x100000, 1, 1⟩
def LDG_INT_STAT_LATE_START : Fld := ⟨0x100000, 0, 1⟩
def LDG_INT_EN_RATE_OVERRUN : Fld := ⟨0x100004, 3, 1⟩
def LDG_INT_EN_WINDOW_TOO_LONG : Fld := ⟨0x100004, 2, 1⟩
def LDG_INT_EN_BASE_REFUSED : Fld := ⟨0x100004, 1, 1⟩
def LDG_INT_EN_LATE_START : Fld := ⟨0x100004, 0, 1⟩
def LDG_COMMIT_MARGIN_PU : Fld := ⟨0x100008, 0, 24⟩
def LDG_LINE_SEL_PORT : Fld := ⟨0x10000C, 16, 7⟩
def LDG_LINE_SEL_BANK : Fld := ⟨0x10000C, 12, 1⟩
def LDG_LINE_SEL_LINE : Fld := ⟨0x10000C, 0, 10⟩
def LDG_LINE_W0_HOLD : Fld := ⟨0x100010, 24, 1⟩
def LDG_LINE_W0_DUR_M1 : Fld := ⟨0x100010, 0, 24⟩
def LDG_LINE_W1_GATES : Fld := ⟨0x100014, 0, 16⟩
def LDG_PORT_CFG_OVERRUN_ALLOW (i : Nat) : Fld := ⟨0x101000 + 0x40 * i, 16, 16⟩
def LDG_PORT_INFO_INIT_GATES (i : Nat) : Fld := ⟨0x101004 + 0x40 * i, 16, 16⟩
def LDG_PORT_INFO_INIT_HOLD (i : Nat) : Fld := ⟨0x101004 + 0x40 * i, 15, 1⟩
def LDG_PORT_INFO_MODE (i : Nat) : Fld := ⟨0x101004 + 0x40 * i, 13, 2⟩
def LDG_PORT_INFO_NLINES (i : Nat) : Fld := ⟨0x101004 + 0x40 * i, 0, 11⟩
def LDG_CYCLE_CYCLE (i : Nat) : Fld := ⟨0x101008 + 0x40 * i, 0, 32⟩
def LDG_STATUS_STARTED (i : Nat) : Fld := ⟨0x10100C + 0x40 * i, 31, 1⟩
def LDG_STATUS_LATE_START (i : Nat) : Fld := ⟨0x10100C + 0x40 * i, 30, 1⟩
def LDG_STATUS_BANK (i : Nat) : Fld := ⟨0x10100C + 0x40 * i, 29, 1⟩
def LDG_STATUS_HOLD (i : Nat) : Fld := ⟨0x10100C + 0x40 * i, 28, 1⟩
def LDG_STATUS_LINE (i : Nat) : Fld := ⟨0x10100C + 0x40 * i, 16, 10⟩
def LDG_STATUS_GATES (i : Nat) : Fld := ⟨0x10100C + 0x40 * i, 0, 16⟩
def LDG_ACT_START_HI_START_HI (i : Nat) : Fld := ⟨0x101010 + 0x40 * i, 0, 16⟩
def LDG_ACT_START_LO_START_LO (i : Nat) : Fld := ⟨0x101014 + 0x40 * i, 0, 32⟩
def LDG_ACT_START_SUB_START_SUB (i : Nat) : Fld := ⟨0x101018 + 0x40 * i, 0, 30⟩
def LDG_BASE_HI_BASE_HI (i : Nat) : Fld := ⟨0x10101C + 0x40 * i, 0, 16⟩
def LDG_BASE_LO_BASE_LO (i : Nat) : Fld := ⟨0x101020 + 0x40 * i, 0, 32⟩
def LDG_BASE_SUB_BASE_SUB (i : Nat) : Fld := ⟨0x101024 + 0x40 * i, 0, 30⟩
def PHS_INT_STAT_REALIGNED : Fld := ⟨0x120000, 7, 1⟩
def PHS_INT_STAT_TA_LATE : Fld := ⟨0x120000, 6, 1⟩
def PHS_INT_STAT_TA_FIRED : Fld := ⟨0x120000, 5, 1⟩
def PHS_INT_STAT_FAR : Fld := ⟨0x120000, 4, 1⟩
def PHS_INT_STAT_SRC_SWITCH : Fld := ⟨0x120000, 3, 1⟩
def PHS_INT_STAT_REGAINED : Fld := ⟨0x120000, 2, 1⟩
def PHS_INT_STAT_LOST : Fld := ⟨0x120000, 1, 1⟩
def PHS_INT_STAT_VALID : Fld := ⟨0x120000, 0, 1⟩
def PHS_INT_EN_REALIGNED : Fld := ⟨0x120004, 7, 1⟩
def PHS_INT_EN_TA_LATE : Fld := ⟨0x120004, 6, 1⟩
def PHS_INT_EN_TA_FIRED : Fld := ⟨0x120004, 5, 1⟩
def PHS_INT_EN_FAR : Fld := ⟨0x120004, 4, 1⟩
def PHS_INT_EN_SRC_SWITCH : Fld := ⟨0x120004, 3, 1⟩
def PHS_INT_EN_REGAINED : Fld := ⟨0x120004, 2, 1⟩
def PHS_INT_EN_LOST : Fld := ⟨0x120004, 1, 1⟩
def PHS_INT_EN_VALID : Fld := ⟨0x120004, 0, 1⟩
def PHS_CTL_BW : Fld := ⟨0x120008, 6, 3⟩
def PHS_CTL_NOM_60 : Fld := ⟨0x120008, 5, 1⟩
def PHS_CTL_ALT_EN : Fld := ⟨0x120008, 4, 1⟩
def PHS_CTL_SRC_ALT : Fld := ⟨0x120008, 2, 2⟩
def PHS_CTL_SRC_PRI : Fld := ⟨0x120008, 0, 2⟩
def PHS_STATUS_FAR : Fld := ⟨0x12000C, 12, 4⟩
def PHS_STATUS_QUAL : Fld := ⟨0x12000C, 8, 4⟩
def PHS_STATUS_LIMITS_BAD : Fld := ⟨0x12000C, 5, 1⟩
def PHS_STATUS_SLEWING : Fld := ⟨0x12000C, 4, 1⟩
def PHS_STATUS_LOCKED : Fld := ⟨0x12000C, 3, 1⟩
def PHS_STATUS_NONE : Fld := ⟨0x12000C, 2, 1⟩
def PHS_STATUS_SRC_USED : Fld := ⟨0x12000C, 0, 2⟩
def PHS_CMD_OP : Fld := ⟨0x120010, 0, 4⟩
def PHS_CMD_STATUS_PENDING : Fld := ⟨0x120014, 8, 1⟩
def PHS_CMD_STATUS_RESULT : Fld := ⟨0x120014, 0, 8⟩
def PHS_FREQ_HZ : Fld := ⟨0x120018, 0, 32⟩
def PHS_FREQ_EST_HZ : Fld := ⟨0x12001C, 0, 32⟩
def PHS_PERIOD_NS_NS : Fld := ⟨0x120020, 0, 32⟩
def PHS_FREQ_LIMITS_F_MAX : Fld := ⟨0x120024, 16, 16⟩
def PHS_FREQ_LIMITS_F_MIN : Fld := ⟨0x120024, 0, 16⟩
def PHS_QUAL_CFG_EDGE_WIN : Fld := ⟨0x120028, 24, 8⟩
def PHS_QUAL_CFG_DEGLITCH_US : Fld := ⟨0x120028, 16, 8⟩
def PHS_QUAL_CFG_LOSS_CYCLES : Fld := ⟨0x120028, 8, 8⟩
def PHS_QUAL_CFG_QUAL_CYCLES : Fld := ⟨0x120028, 0, 8⟩
def PHS_SLEW_MAX_PU : Fld := ⟨0x12002C, 0, 24⟩
def PHS_REF_OFFSET_OFFSET (i : Nat) : Fld := ⟨0x120030 + 0x4 * i, 0, 24⟩
def PHS_MSG_LOSS_MS_MS : Fld := ⟨0x120038, 0, 16⟩
def PHS_LAT_CYCLE_HI_CYCLE_HI : Fld := ⟨0x120040, 0, 8⟩
def PHS_LAT_CYCLE_LO_CYCLE_LO : Fld := ⟨0x120044, 0, 32⟩
def PHS_LAT_PHASE_PHASE : Fld := ⟨0x120048, 0, 24⟩
def PHS_LAT_SEC_HI_SEC_HI : Fld := ⟨0x12004C, 0, 16⟩
def PHS_LAT_SEC_LO_SEC_LO : Fld := ⟨0x120050, 0, 32⟩
def PHS_LAT_NS_NS : Fld := ⟨0x120054, 0, 30⟩
def PHS_LAT_FRAC_FRAC : Fld := ⟨0x120058, 0, 16⟩
def PHS_MSG_CYCLE_HI_CYCLE_HI : Fld := ⟨0x120060, 0, 8⟩
def PHS_MSG_CYCLE_LO_CYCLE_LO : Fld := ⟨0x120064, 0, 32⟩
def PHS_MSG_PHASE_PHASE : Fld := ⟨0x120068, 0, 24⟩
def PHS_MSG_SEC_HI_SEC_HI : Fld := ⟨0x12006C, 0, 16⟩
def PHS_MSG_SEC_LO_SEC_LO : Fld := ⟨0x120070, 0, 32⟩
def PHS_MSG_NS_NS : Fld := ⟨0x120074, 0, 30⟩
def PHS_MSG_POST_POST : Fld := ⟨0x120078, 0, 1⟩
def PHS_SET_CYCLE_HI_CYCLE_HI : Fld := ⟨0x120080, 0, 8⟩
def PHS_SET_CYCLE_LO_CYCLE_LO : Fld := ⟨0x120084, 0, 32⟩
def PHS_TA_FIRED_FIRED : Fld := ⟨0x120090, 0, 32⟩
def PHS_TA_CYCLE_HI_CYCLE_HI (i : Nat) : Fld := ⟨0x120100 + 0x20 * i, 0, 8⟩
def PHS_TA_CYCLE_LO_CYCLE_LO (i : Nat) : Fld := ⟨0x120104 + 0x20 * i, 0, 32⟩
def PHS_TA_PHASE_PHASE (i : Nat) : Fld := ⟨0x120108 + 0x20 * i, 0, 24⟩
def PHS_TA_CTL_ARM (i : Nat) : Fld := ⟨0x12010C + 0x20 * i, 31, 1⟩
def PHS_TA_CTL_LATE_POLICY (i : Nat) : Fld := ⟨0x12010C + 0x20 * i, 30, 1⟩
def PHS_TA_CTL_REPEAT (i : Nat) : Fld := ⟨0x12010C + 0x20 * i, 10, 16⟩
def PHS_TA_CTL_KIND (i : Nat) : Fld := ⟨0x12010C + 0x20 * i, 0, 4⟩
def PHS_TA_ARG_ARG (i : Nat) : Fld := ⟨0x120110 + 0x20 * i, 0, 32⟩
def PHS_TA_STATUS_MISSED (i : Nat) : Fld := ⟨0x120114 + 0x20 * i, 16, 16⟩
def PHS_TA_STATUS_DISCARDED (i : Nat) : Fld := ⟨0x120114 + 0x20 * i, 2, 1⟩
def PHS_TA_STATUS_LATE (i : Nat) : Fld := ⟨0x120114 + 0x20 * i, 1, 1⟩
def PHS_TA_STATUS_FIRED (i : Nat) : Fld := ⟨0x120114 + 0x20 * i, 0, 1⟩
def PHS_TA_LATE_LATE_PU (i : Nat) : Fld := ⟨0x120118 + 0x20 * i, 0, 32⟩
def TIM_INT_STAT_PPS_IN : Fld := ⟨0x130000, 8, 1⟩
def TIM_INT_STAT_TXTS_OVERFLOW : Fld := ⟨0x130000, 7, 1⟩
def TIM_INT_STAT_TXTS : Fld := ⟨0x130000, 6, 1⟩
def TIM_INT_STAT_REGAINED : Fld := ⟨0x130000, 5, 1⟩
def TIM_INT_STAT_LOST : Fld := ⟨0x130000, 4, 1⟩
def TIM_INT_STAT_SWITCH : Fld := ⟨0x130000, 3, 1⟩
def TIM_INT_STAT_JUMP : Fld := ⟨0x130000, 2, 1⟩
def TIM_INT_STAT_LOCKED : Fld := ⟨0x130000, 1, 1⟩
def TIM_INT_STAT_VALID : Fld := ⟨0x130000, 0, 1⟩
def TIM_INT_EN_PPS_IN : Fld := ⟨0x130004, 8, 1⟩
def TIM_INT_EN_TXTS_OVERFLOW : Fld := ⟨0x130004, 7, 1⟩
def TIM_INT_EN_TXTS : Fld := ⟨0x130004, 6, 1⟩
def TIM_INT_EN_REGAINED : Fld := ⟨0x130004, 5, 1⟩
def TIM_INT_EN_LOST : Fld := ⟨0x130004, 4, 1⟩
def TIM_INT_EN_SWITCH : Fld := ⟨0x130004, 3, 1⟩
def TIM_INT_EN_JUMP : Fld := ⟨0x130004, 2, 1⟩
def TIM_INT_EN_LOCKED : Fld := ⟨0x130004, 1, 1⟩
def TIM_INT_EN_VALID : Fld := ⟨0x130004, 0, 1⟩
def TIM_CTL_CLK10M_IN_EN : Fld := ⟨0x130008, 8, 1⟩
def TIM_CTL_CLK10M_OUT_EN : Fld := ⟨0x130008, 7, 1⟩
def TIM_CTL_PPS_IN_EN : Fld := ⟨0x130008, 6, 1⟩
def TIM_CTL_PPS_OUT_EN : Fld := ⟨0x130008, 5, 1⟩
def TIM_CTL_SRC_A : Fld := ⟨0x130008, 3, 2⟩
def TIM_CTL_DUAL : Fld := ⟨0x130008, 2, 1⟩
def TIM_CTL_SERVO_EN : Fld := ⟨0x130008, 1, 1⟩
def TIM_STATUS_JUMP_B : Fld := ⟨0x13000C, 11, 1⟩
def TIM_STATUS_JUMP_A : Fld := ⟨0x13000C, 10, 1⟩
def TIM_STATUS_SLEWING : Fld := ⟨0x13000C, 9, 1⟩
def TIM_STATUS_LOCKED : Fld := ⟨0x13000C, 8, 1⟩
def TIM_STATUS_STATE_B : Fld := ⟨0x13000C, 4, 2⟩
def TIM_STATUS_STATE_A : Fld := ⟨0x13000C, 2, 2⟩
def TIM_STATUS_GOV : Fld := ⟨0x13000C, 0, 1⟩
def TIM_CMD_NEG : Fld := ⟨0x130010, 5, 1⟩
def TIM_CMD_DOMAIN : Fld := ⟨0x130010, 4, 1⟩
def TIM_CMD_OP : Fld := ⟨0x130010, 0, 4⟩
def TIM_CMD_STATUS_RESULT : Fld := ⟨0x130014, 0, 8⟩
def TIM_LAT_SEC_HI_SEC_HI : Fld := ⟨0x130020, 0, 16⟩
def TIM_LAT_SEC_LO_SEC_LO : Fld := ⟨0x130024, 0, 32⟩
def TIM_LAT_NS_NS : Fld := ⟨0x130028, 0, 30⟩
def TIM_LAT_FRAC_FRAC : Fld := ⟨0x13002C, 0, 16⟩
def TIM_STEP_SEC_HI_SEC_HI : Fld := ⟨0x130030, 0, 16⟩
def TIM_STEP_SEC_LO_SEC_LO : Fld := ⟨0x130034, 0, 32⟩
def TIM_STEP_NS_NS : Fld := ⟨0x130038, 0, 30⟩
def TIM_STEP_FRAC_FRAC : Fld := ⟨0x13003C, 0, 16⟩
def TIM_SMP_OFF_HI_OFF_HI : Fld := ⟨0x130040, 0, 32⟩
def TIM_SMP_OFF_LO_OFF_LO : Fld := ⟨0x130044, 0, 32⟩
def TIM_SMP_SEC_LO_SEC_LO : Fld := ⟨0x130048, 0, 32⟩
def TIM_SMP_NS_NS : Fld := ⟨0x13004C, 0, 30⟩
def TIM_SMP_POST_DOMAIN : Fld := ⟨0x130050, 1, 1⟩
def TIM_SMP_POST_POST : Fld := ⟨0x130050, 0, 1⟩
def TIM_SERVO_GAIN_KP : Fld := ⟨0x130060, 16, 16⟩
def TIM_SERVO_GAIN_KI : Fld := ⟨0x130060, 0, 16⟩
def TIM_SERVO_LIMIT_LIMIT : Fld := ⟨0x130064, 0, 21⟩
def TIM_FREQ_ADJ_ADJ : Fld := ⟨0x130068, 0, 32⟩
def TIM_FREQ_NOW_ADJ : Fld := ⟨0x13006C, 0, 32⟩
def TIM_JUMP_THR_NS : Fld := ⟨0x130070, 0, 20⟩
def TIM_LOCK_THR_NS : Fld := ⟨0x130074, 0, 16⟩
def TIM_LOSS_MS_MS : Fld := ⟨0x130078, 0, 16⟩
def TIM_FILT_CFG_FILT_SHIFT : Fld := ⟨0x13007C, 28, 4⟩
def TIM_FILT_CFG_BIAS_SLEW : Fld := ⟨0x13007C, 0, 20⟩
def TIM_BIAS_HI_VALUE : Fld := ⟨0x130080, 0, 32⟩
def TIM_BIAS_LO_VALUE : Fld := ⟨0x130084, 0, 32⟩
def TIM_FILT_A_HI_VALUE : Fld := ⟨0x130088, 0, 32⟩
def TIM_FILT_A_LO_VALUE : Fld := ⟨0x13008C, 0, 32⟩
def TIM_FILT_B_HI_VALUE : Fld := ⟨0x130090, 0, 32⟩
def TIM_FILT_B_LO_VALUE : Fld := ⟨0x130094, 0, 32⟩
def TIM_UTC_OFFSET_SECONDS : Fld := ⟨0x1300A0, 0, 16⟩
def TIM_PPS_CFG_WIDTH_MS : Fld := ⟨0x1300A4, 0, 10⟩
def TIM_PPS_IN_ADJ_ADJ : Fld := ⟨0x1300A8, 0, 32⟩
def TIM_PPS_CAP_SEC_HI_SEC_HI : Fld := ⟨0x1300B0, 0, 16⟩
def TIM_PPS_CAP_SEC_LO_SEC_LO : Fld := ⟨0x1300B4, 0, 32⟩
def TIM_PPS_CAP_NS_NS : Fld := ⟨0x1300B8, 0, 30⟩
def TIM_PPS_CAP_FRAC_FRAC : Fld := ⟨0x1300BC, 0, 16⟩
def TIM_TXTS_W0_VALID : Fld := ⟨0x130100, 31, 1⟩
def TIM_TXTS_W0_PORT : Fld := ⟨0x130100, 16, 7⟩
def TIM_TXTS_W0_TAG : Fld := ⟨0x130100, 0, 16⟩
def TIM_TXTS_W1_SEC_HI : Fld := ⟨0x130104, 16, 16⟩
def TIM_TXTS_W1_FRAC : Fld := ⟨0x130104, 0, 16⟩
def TIM_TXTS_W2_SEC_LO : Fld := ⟨0x130108, 0, 32⟩
def TIM_TXTS_W3_NS : Fld := ⟨0x13010C, 0, 30⟩
def TIM_TXTS_LEVEL_LEVEL : Fld := ⟨0x130110, 0, 11⟩
def TIM_PORT_CFG_TC_MODE (i : Nat) : Fld := ⟨0x131000 + 0x10 * i, 0, 1⟩
def TIM_PORT_PDELAY_PDELAY (i : Nat) : Fld := ⟨0x131004 + 0x10 * i, 0, 32⟩
def FAB_INT_STAT_HOPS_EXCEEDED : Fld := ⟨0x140000, 12, 1⟩
def FAB_INT_STAT_JOIN_FULL : Fld := ⟨0x140000, 11, 1⟩
def FAB_INT_STAT_TRIG_REFUSED : Fld := ⟨0x140000, 10, 1⟩
def FAB_INT_STAT_TRIG_ACTED : Fld := ⟨0x140000, 9, 1⟩
def FAB_INT_STAT_STEPPED_DOWN : Fld := ⟨0x140000, 8, 1⟩
def FAB_INT_STAT_STANDING_CHANGE : Fld := ⟨0x140000, 7, 1⟩
def FAB_INT_STAT_HB_REGAINED : Fld := ⟨0x140000, 6, 1⟩
def FAB_INT_STAT_HB_LOST : Fld := ⟨0x140000, 5, 1⟩
def FAB_INT_STAT_UP_CHANGE : Fld := ⟨0x140000, 4, 1⟩
def FAB_INT_STAT_REPLAY : Fld := ⟨0x140000, 3, 1⟩
def FAB_INT_STAT_BAD_TAG : Fld := ⟨0x140000, 2, 1⟩
def FAB_INT_STAT_PORT_UNLINKED : Fld := ⟨0x140000, 1, 1⟩
def FAB_INT_STAT_PORT_LINKED : Fld := ⟨0x140000, 0, 1⟩
def FAB_INT_EN_HOPS_EXCEEDED : Fld := ⟨0x140004, 12, 1⟩
def FAB_INT_EN_JOIN_FULL : Fld := ⟨0x140004, 11, 1⟩
def FAB_INT_EN_TRIG_REFUSED : Fld := ⟨0x140004, 10, 1⟩
def FAB_INT_EN_TRIG_ACTED : Fld := ⟨0x140004, 9, 1⟩
def FAB_INT_EN_STEPPED_DOWN : Fld := ⟨0x140004, 8, 1⟩
def FAB_INT_EN_STANDING_CHANGE : Fld := ⟨0x140004, 7, 1⟩
def FAB_INT_EN_HB_REGAINED : Fld := ⟨0x140004, 6, 1⟩
def FAB_INT_EN_HB_LOST : Fld := ⟨0x140004, 5, 1⟩
def FAB_INT_EN_UP_CHANGE : Fld := ⟨0x140004, 4, 1⟩
def FAB_INT_EN_REPLAY : Fld := ⟨0x140004, 3, 1⟩
def FAB_INT_EN_BAD_TAG : Fld := ⟨0x140004, 2, 1⟩
def FAB_INT_EN_PORT_UNLINKED : Fld := ⟨0x140004, 1, 1⟩
def FAB_INT_EN_PORT_LINKED : Fld := ⟨0x140004, 0, 1⟩
def FAB_CTL_TX_QUEUE : Fld := ⟨0x140008, 20, 4⟩
def FAB_CTL_HOST_QUEUE : Fld := ⟨0x140008, 14, 6⟩
def FAB_CTL_PHASE_FEED : Fld := ⟨0x140008, 1, 1⟩
def FAB_STATUS_KEEPER_STATE : Fld := ⟨0x14000C, 30, 2⟩
def FAB_STATUS_HB_LOST : Fld := ⟨0x14000C, 29, 1⟩
def FAB_STATUS_UP_VALID : Fld := ⟨0x14000C, 28, 1⟩
def FAB_STATUS_STANDING_VALID : Fld := ⟨0x14000C, 27, 1⟩
def FAB_STATUS_UP_PORT : Fld := ⟨0x14000C, 16, 7⟩
def FAB_STATUS_STANDING_KEEPER : Fld := ⟨0x14000C, 0, 11⟩
def FAB_CMD_PORT : Fld := ⟨0x140010, 8, 7⟩
def FAB_CMD_OP : Fld := ⟨0x140010, 0, 4⟩
def FAB_CMD_STATUS_RESULT : Fld := ⟨0x140014, 0, 8⟩
def FAB_ETYPE_ETYPE : Fld := ⟨0x140018, 0, 16⟩
def FAB_MAC_LO_MAC_LO : Fld := ⟨0x14001C, 0, 32⟩
def FAB_MAC_HI_MAC_HI : Fld := ⟨0x140020, 0, 16⟩
def FAB_DEV_MAC_LO_MAC_LO : Fld := ⟨0x140024, 0, 32⟩
def FAB_DEV_MAC_HI_MAC_HI : Fld := ⟨0x140028, 0, 16⟩
def FAB_SELF_DEVICE_ID : Fld := ⟨0x14002C, 0, 16⟩
def FAB_FABRIC_ID_FABRIC_ID : Fld := ⟨0x140030, 0, 32⟩
def FAB_TERM_TERM : Fld := ⟨0x140034, 0, 32⟩
def FAB_TIME_CFG_INTERVAL_MS : Fld := ⟨0x140038, 16, 16⟩
def FAB_TIME_CFG_MAX_HOPS : Fld := ⟨0x140038, 0, 6⟩
def FAB_HB_LOSS_MS_MS : Fld := ⟨0x14003C, 0, 16⟩
def FAB_KEYS_STANDBY_LOADED : Fld := ⟨0x140040, 8, 1⟩
def FAB_KEYS_STANDBY_ID : Fld := ⟨0x140040, 4, 4⟩
def FAB_KEYS_ACTIVE_ID : Fld := ⟨0x140040, 0, 4⟩
def FAB_TRIG_CTL_LATE_POLICY : Fld := ⟨0x140044, 31, 1⟩
def FAB_TRIG_CTL_REPEAT : Fld := ⟨0x140044, 4, 3⟩
def FAB_TRIG_CTL_KIND : Fld := ⟨0x140044, 0, 4⟩
def FAB_TRIG_CYCLE_HI_CYCLE_HI : Fld := ⟨0x140048, 0, 8⟩
def FAB_TRIG_CYCLE_LO_CYCLE_LO : Fld := ⟨0x14004C, 0, 32⟩
def FAB_TRIG_PHASE_PHASE : Fld := ⟨0x140050, 0, 24⟩
def FAB_TRIG_ARG_ARG : Fld := ⟨0x140054, 0, 32⟩
def FAB_TRIG_FSEQ_HI_FSEQ : Fld := ⟨0x140058, 0, 32⟩
def FAB_TRIG_FSEQ_LO_FSEQ : Fld := ⟨0x14005C, 0, 32⟩
def FAB_TRIG_LEAD_PU : Fld := ⟨0x140060, 0, 24⟩
def FAB_TRIG_LAST_ID_TRIG_ID : Fld := ⟨0x140064, 0, 32⟩
def FAB_TRIG_LAST_RES_KIND : Fld := ⟨0x140068, 8, 4⟩
def FAB_TRIG_LAST_RES_RESULT : Fld := ⟨0x140068, 0, 8⟩
def FAB_JOIN_LEVEL_LEVEL : Fld := ⟨0x14006C, 0, 12⟩
def FAB_PORT_CFG_DELAY_FIX_EN (i : Nat) : Fld := ⟨0x141000 + 0x20 * i, 1, 1⟩
def FAB_PORT_CFG_EN (i : Nat) : Fld := ⟨0x141000 + 0x20 * i, 0, 1⟩
def FAB_PORT_STATUS_STATE (i : Nat) : Fld := ⟨0x141004 + 0x20 * i, 30, 2⟩
def FAB_PORT_STATUS_DELAY_VALID (i : Nat) : Fld := ⟨0x141004 + 0x20 * i, 29, 1⟩
def FAB_PORT_STATUS_UPSTREAM (i : Nat) : Fld := ⟨0x141004 + 0x20 * i, 28, 1⟩
def FAB_PORT_STATUS_NEIGHBOUR_LINK (i : Nat) : Fld := ⟨0x141004 + 0x20 * i, 16, 7⟩
def FAB_PORT_STATUS_NEIGHBOUR_ID (i : Nat) : Fld := ⟨0x141004 + 0x20 * i, 0, 16⟩
def FAB_PORT_DELAY_DELAY (i : Nat) : Fld := ⟨0x141008 + 0x20 * i, 0, 32⟩
def FAB_PORT_DELAY_FIX_DELAY (i : Nat) : Fld := ⟨0x14100C + 0x20 * i, 0, 32⟩
def POR_INT_STAT_DMA_ERR : Fld := ⟨0x150000, 6, 1⟩
def POR_INT_STAT_CFG_REFUSED : Fld := ⟨0x150000, 5, 1⟩
def POR_INT_STAT_STARVED : Fld := ⟨0x150000, 4, 1⟩
def POR_INT_STAT_RX_ABORT : Fld := ⟨0x150000, 3, 1⟩
def POR_INT_STAT_BAD_FREE : Fld := ⟨0x150000, 2, 1⟩
def POR_INT_STAT_ALLOC_FAIL : Fld := ⟨0x150000, 1, 1⟩
def POR_INT_STAT_CMD_DONE : Fld := ⟨0x150000, 0, 1⟩
def POR_INT_EN_DMA_ERR : Fld := ⟨0x150004, 6, 1⟩
def POR_INT_EN_CFG_REFUSED : Fld := ⟨0x150004, 5, 1⟩
def POR_INT_EN_STARVED : Fld := ⟨0x150004, 4, 1⟩
def POR_INT_EN_RX_ABORT : Fld := ⟨0x150004, 3, 1⟩
def POR_INT_EN_BAD_FREE : Fld := ⟨0x150004, 2, 1⟩
def POR_INT_EN_ALLOC_FAIL : Fld := ⟨0x150004, 1, 1⟩
def POR_INT_EN_CMD_DONE : Fld := ⟨0x150004, 0, 1⟩
def POR_CTL_DMA_PRI : Fld := ⟨0x150008, 8, 3⟩
def POR_CTL_RESUME_LEVEL : Fld := ⟨0x150008, 0, 7⟩
def POR_CMD_OWNER : Fld := ⟨0x150010, 8, 4⟩
def POR_CMD_POOL : Fld := ⟨0x150010, 4, 3⟩
def POR_CMD_OP : Fld := ⟨0x150010, 0, 4⟩
def POR_CMD_HANDLE_HANDLE : Fld := ⟨0x150014, 0, 32⟩
def POR_CMD_ARG_ARG : Fld := ⟨0x150018, 0, 16⟩
def POR_CMD_STATUS_RESULT : Fld := ⟨0x15001C, 8, 8⟩
def POR_CMD_STATUS_OVERRUN : Fld := ⟨0x15001C, 1, 1⟩
def POR_CMD_STATUS_BUSY : Fld := ⟨0x15001C, 0, 1⟩
def POR_CMD_RESULT_RESULT : Fld := ⟨0x150020, 0, 32⟩
def POR_RET_BASE_HI_ADDR_HI : Fld := ⟨0x150030, 0, 32⟩
def POR_RET_BASE_LO_ADDR_LO : Fld := ⟨0x150034, 6, 26⟩
def POR_RET_SIZE_SIZE : Fld := ⟨0x150038, 0, 5⟩
def POR_RET_HEAD_HEAD : Fld := ⟨0x15003C, 0, 32⟩
def POR_RET_TAIL_TAIL : Fld := ⟨0x150040, 0, 32⟩
def POR_RET_CTL_EN : Fld := ⟨0x150044, 0, 1⟩
def POR_RX_STARVED_RINGS (i : Nat) : Fld := ⟨0x150050 + 0x4 * i, 0, 32⟩
def POR_POOL_SIZE_BYTES (i : Nat) : Fld := ⟨0x150100 + 0x40 * i, 0, 15⟩
def POR_POOL_CTL_INIT (i : Nat) : Fld := ⟨0x150104 + 0x40 * i, 1, 1⟩
def POR_POOL_CTL_EN (i : Nat) : Fld := ⟨0x150104 + 0x40 * i, 0, 1⟩
def POR_POOL_FIRST_FIRST (i : Nat) : Fld := ⟨0x150108 + 0x40 * i, 0, 20⟩
def POR_POOL_COUNT_COUNT (i : Nat) : Fld := ⟨0x15010C + 0x40 * i, 0, 21⟩
def POR_POOL_BASE_HI_ADDR_HI (i : Nat) : Fld := ⟨0x150110 + 0x40 * i, 0, 32⟩
def POR_POOL_BASE_LO_ADDR_LO (i : Nat) : Fld := ⟨0x150114 + 0x40 * i, 7, 25⟩
def POR_RING_BASE_HI_ADDR_HI (i : Nat) : Fld := ⟨0x150118 + 0x40 * i, 0, 32⟩
def POR_RING_BASE_LO_ADDR_LO (i : Nat) : Fld := ⟨0x15011C + 0x40 * i, 6, 26⟩
def POR_RING_SIZE_SIZE (i : Nat) : Fld := ⟨0x150120 + 0x40 * i, 0, 5⟩
def POR_RING_HEAD_HEAD (i : Nat) : Fld := ⟨0x150124 + 0x40 * i, 0, 32⟩
def POR_RING_TAIL_TAIL (i : Nat) : Fld := ⟨0x150128 + 0x40 * i, 0, 32⟩
def POR_POOL_CACHE_LEVEL (i : Nat) : Fld := ⟨0x15012C + 0x40 * i, 0, 7⟩
def POR_POOL_FREE_FREE (i : Nat) : Fld := ⟨0x150130 + 0x40 * i, 0, 21⟩
def POR_RX_CFG_POOLS (i : Nat) : Fld := ⟨0x150400 + 0x4 * i, 16, 8⟩
def POR_RX_CFG_OWNERS (i : Nat) : Fld := ⟨0x150400 + 0x4 * i, 0, 16⟩
def DRY_CTL_RX_RELAXED : Fld := ⟨0x160000, 0, 1⟩
def DRY_LIMITS_RD_BURST : Fld := ⟨0x160004, 16, 10⟩
def DRY_LIMITS_WR_BURST : Fld := ⟨0x160004, 0, 10⟩
def DRY_RX_CFG_HEADROOM (i : Nat) : Fld := ⟨0x161000 + 0x40 * i, 16, 3⟩
def DRY_RX_CFG_PRI (i : Nat) : Fld := ⟨0x161000 + 0x40 * i, 0, 3⟩
def DRY_RX_CTL_RESUME (i : Nat) : Fld := ⟨0x161004 + 0x40 * i, 2, 1⟩
def DRY_RX_CTL_STOP (i : Nat) : Fld := ⟨0x161004 + 0x40 * i, 1, 1⟩
def DRY_RX_CTL_EN (i : Nat) : Fld := ⟨0x161004 + 0x40 * i, 0, 1⟩
def DRY_RX_STATUS_KIND (i : Nat) : Fld := ⟨0x161008 + 0x40 * i, 8, 4⟩
def DRY_RX_STATUS_STATE (i : Nat) : Fld := ⟨0x161008 + 0x40 * i, 0, 3⟩
def DRY_RX_FIRST_HI_ADDR_HI (i : Nat) : Fld := ⟨0x16100C + 0x40 * i, 0, 32⟩
def DRY_RX_FIRST_LO_ADDR_LO (i : Nat) : Fld := ⟨0x161010 + 0x40 * i, 6, 26⟩
def DRY_RX_CUR_HI_ADDR (i : Nat) : Fld := ⟨0x161014 + 0x40 * i, 0, 32⟩
def DRY_RX_CUR_LO_ADDR (i : Nat) : Fld := ⟨0x161018 + 0x40 * i, 0, 32⟩
def DRY_RX_POSTED_POSTED (i : Nat) : Fld := ⟨0x16101C + 0x40 * i, 0, 32⟩
def DRY_RX_DONE_DONE (i : Nat) : Fld := ⟨0x161020 + 0x40 * i, 0, 32⟩
def DRY_RX_INT_MOD_INT_USEC (i : Nat) : Fld := ⟨0x161024 + 0x40 * i, 8, 16⟩
def DRY_RX_INT_MOD_INT_COUNT (i : Nat) : Fld := ⟨0x161024 + 0x40 * i, 0, 8⟩
def DRY_RX_INT_STAT_NOTICE (i : Nat) : Fld := ⟨0x161028 + 0x40 * i, 3, 1⟩
def DRY_RX_INT_STAT_STOPPED (i : Nat) : Fld := ⟨0x161028 + 0x40 * i, 2, 1⟩
def DRY_RX_INT_STAT_HALTED (i : Nat) : Fld := ⟨0x161028 + 0x40 * i, 1, 1⟩
def DRY_RX_INT_STAT_COMPLETE (i : Nat) : Fld := ⟨0x161028 + 0x40 * i, 0, 1⟩
def DRY_RX_INT_EN_NOTICE (i : Nat) : Fld := ⟨0x16102C + 0x40 * i, 3, 1⟩
def DRY_RX_INT_EN_STOPPED (i : Nat) : Fld := ⟨0x16102C + 0x40 * i, 2, 1⟩
def DRY_RX_INT_EN_HALTED (i : Nat) : Fld := ⟨0x16102C + 0x40 * i, 1, 1⟩
def DRY_RX_INT_EN_COMPLETE (i : Nat) : Fld := ⟨0x16102C + 0x40 * i, 0, 1⟩
def DRY_TX_CFG_PRI (i : Nat) : Fld := ⟨0x162000 + 0x40 * i, 0, 3⟩
def DRY_TX_CTL_RESUME (i : Nat) : Fld := ⟨0x162004 + 0x40 * i, 2, 1⟩
def DRY_TX_CTL_STOP (i : Nat) : Fld := ⟨0x162004 + 0x40 * i, 1, 1⟩
def DRY_TX_CTL_EN (i : Nat) : Fld := ⟨0x162004 + 0x40 * i, 0, 1⟩
def DRY_TX_STATUS_KIND (i : Nat) : Fld := ⟨0x162008 + 0x40 * i, 8, 4⟩
def DRY_TX_STATUS_STATE (i : Nat) : Fld := ⟨0x162008 + 0x40 * i, 0, 3⟩
def DRY_TX_FIRST_HI_ADDR_HI (i : Nat) : Fld := ⟨0x16200C + 0x40 * i, 0, 32⟩
def DRY_TX_FIRST_LO_ADDR_LO (i : Nat) : Fld := ⟨0x162010 + 0x40 * i, 6, 26⟩
def DRY_TX_CUR_HI_ADDR (i : Nat) : Fld := ⟨0x162014 + 0x40 * i, 0, 32⟩
def DRY_TX_CUR_LO_ADDR (i : Nat) : Fld := ⟨0x162018 + 0x40 * i, 0, 32⟩
def DRY_TX_POSTED_POSTED (i : Nat) : Fld := ⟨0x16201C + 0x40 * i, 0, 32⟩
def DRY_TX_DONE_DONE (i : Nat) : Fld := ⟨0x162020 + 0x40 * i, 0, 32⟩
def DRY_TX_INT_STAT_NOTICE (i : Nat) : Fld := ⟨0x162028 + 0x40 * i, 3, 1⟩
def DRY_TX_INT_STAT_STOPPED (i : Nat) : Fld := ⟨0x162028 + 0x40 * i, 2, 1⟩
def DRY_TX_INT_STAT_HALTED (i : Nat) : Fld := ⟨0x162028 + 0x40 * i, 1, 1⟩
def DRY_TX_INT_STAT_COMPLETE (i : Nat) : Fld := ⟨0x162028 + 0x40 * i, 0, 1⟩
def DRY_TX_INT_EN_NOTICE (i : Nat) : Fld := ⟨0x16202C + 0x40 * i, 3, 1⟩
def DRY_TX_INT_EN_STOPPED (i : Nat) : Fld := ⟨0x16202C + 0x40 * i, 2, 1⟩
def DRY_TX_INT_EN_HALTED (i : Nat) : Fld := ⟨0x16202C + 0x40 * i, 1, 1⟩
def DRY_TX_INT_EN_COMPLETE (i : Nat) : Fld := ⟨0x16202C + 0x40 * i, 0, 1⟩
def DRY_ERR_CFG_PRI (i : Nat) : Fld := ⟨0x163000 + 0x40 * i, 0, 3⟩
def DRY_ERR_CTL_RESUME (i : Nat) : Fld := ⟨0x163004 + 0x40 * i, 2, 1⟩
def DRY_ERR_CTL_STOP (i : Nat) : Fld := ⟨0x163004 + 0x40 * i, 1, 1⟩
def DRY_ERR_CTL_START (i : Nat) : Fld := ⟨0x163004 + 0x40 * i, 0, 1⟩
def DRY_ERR_STATUS_PC (i : Nat) : Fld := ⟨0x163008 + 0x40 * i, 16, 16⟩
def DRY_ERR_STATUS_KIND (i : Nat) : Fld := ⟨0x163008 + 0x40 * i, 8, 4⟩
def DRY_ERR_STATUS_STATE (i : Nat) : Fld := ⟨0x163008 + 0x40 * i, 0, 3⟩
def DRY_ERR_PROG_HI_ADDR_HI (i : Nat) : Fld := ⟨0x16300C + 0x40 * i, 0, 32⟩
def DRY_ERR_PROG_LO_ADDR_LO (i : Nat) : Fld := ⟨0x163010 + 0x40 * i, 5, 27⟩
def DRY_ERR_ITER_ITER (i : Nat) : Fld := ⟨0x163014 + 0x40 * i, 0, 32⟩
def DRY_ERR_REMAIN_REMAIN (i : Nat) : Fld := ⟨0x163018 + 0x40 * i, 0, 32⟩
def DRY_ERR_SIGNAL_CODE (i : Nat) : Fld := ⟨0x16301C + 0x40 * i, 0, 16⟩
def DRY_ERR_INT_STAT_NOTICE (i : Nat) : Fld := ⟨0x163028 + 0x40 * i, 3, 1⟩
def DRY_ERR_INT_STAT_STOPPED (i : Nat) : Fld := ⟨0x163028 + 0x40 * i, 2, 1⟩
def DRY_ERR_INT_STAT_HALTED (i : Nat) : Fld := ⟨0x163028 + 0x40 * i, 1, 1⟩
def DRY_ERR_INT_STAT_COMPLETE (i : Nat) : Fld := ⟨0x163028 + 0x40 * i, 0, 1⟩
def DRY_ERR_INT_EN_NOTICE (i : Nat) : Fld := ⟨0x16302C + 0x40 * i, 3, 1⟩
def DRY_ERR_INT_EN_STOPPED (i : Nat) : Fld := ⟨0x16302C + 0x40 * i, 2, 1⟩
def DRY_ERR_INT_EN_HALTED (i : Nat) : Fld := ⟨0x16302C + 0x40 * i, 1, 1⟩
def DRY_ERR_INT_EN_COMPLETE (i : Nat) : Fld := ⟨0x16302C + 0x40 * i, 0, 1⟩
def TAL_INT_STAT_HV_REFUSED : Fld := ⟨0x180000, 3, 1⟩
def TAL_INT_STAT_OVERTAKEN : Fld := ⟨0x180000, 2, 1⟩
def TAL_INT_STAT_HV_DONE : Fld := ⟨0x180000, 1, 1⟩
def TAL_INT_STAT_SNAPSHOT : Fld := ⟨0x180000, 0, 1⟩
def TAL_INT_EN_HV_REFUSED : Fld := ⟨0x180004, 3, 1⟩
def TAL_INT_EN_OVERTAKEN : Fld := ⟨0x180004, 2, 1⟩
def TAL_INT_EN_HV_DONE : Fld := ⟨0x180004, 1, 1⟩
def TAL_INT_EN_SNAPSHOT : Fld := ⟨0x180004, 0, 1⟩
def TAL_CTL_DMA_PRI : Fld := ⟨0x180008, 0, 3⟩
def TAL_SNAP_CMD_MASK : Fld := ⟨0x18000C, 0, 32⟩
def TAL_SNAP_SEQ_SEQ : Fld := ⟨0x180010, 0, 32⟩
def TAL_SNAP_MASK_MASK : Fld := ⟨0x180014, 0, 32⟩
def TAL_SNAP_SRC_SRC : Fld := ⟨0x180018, 0, 3⟩
def TAL_SNAP_SEC_HI_SEC_HI : Fld := ⟨0x18001C, 0, 16⟩
def TAL_SNAP_SEC_LO_SEC_LO : Fld := ⟨0x180020, 0, 32⟩
def TAL_SNAP_NS_NS : Fld := ⟨0x180024, 0, 30⟩
def TAL_SNAP_FRAC_FRAC : Fld := ⟨0x180028, 0, 16⟩
def TAL_SNAP_CYCLE_HI_CYCLE_HI : Fld := ⟨0x18002C, 0, 8⟩
def TAL_SNAP_CYCLE_LO_CYCLE_LO : Fld := ⟨0x180030, 0, 32⟩
def TAL_SNAP_PHASE_PHASE : Fld := ⟨0x180034, 0, 24⟩
def TAL_CLEAR_MASK : Fld := ⟨0x180038, 0, 32⟩
def TAL_HV_CMD_SNAP_FIRST : Fld := ⟨0x180040, 2, 1⟩
def TAL_HV_CMD_OP : Fld := ⟨0x180040, 0, 2⟩
def TAL_HV_MASK_MASK : Fld := ⟨0x180044, 0, 32⟩
def TAL_HV_ADDR_HI_ADDR_HI : Fld := ⟨0x180048, 0, 32⟩
def TAL_HV_ADDR_LO_ADDR_LO : Fld := ⟨0x18004C, 6, 26⟩
def TAL_HV_LIMIT_BYTES : Fld := ⟨0x180050, 0, 32⟩
def TAL_HV_STATUS_RESULT : Fld := ⟨0x180054, 8, 8⟩
def TAL_HV_STATUS_BUSY : Fld := ⟨0x180054, 0, 1⟩
def TAL_HV_SEQ_SEQ : Fld := ⟨0x180058, 0, 32⟩
def TAL_HV_PROGRESS_COUNT : Fld := ⟨0x18005C, 0, 22⟩
def TAL_RD_SEL_GROUP : Fld := ⟨0x180060, 27, 5⟩
def TAL_RD_SEL_LATCHED : Fld := ⟨0x180060, 26, 1⟩
def TAL_RD_SEL_BAD : Fld := ⟨0x180060, 25, 1⟩
def TAL_RD_SEL_INDEX : Fld := ⟨0x180060, 0, 20⟩
def TAL_RD_HI_VALUE : Fld := ⟨0x180064, 0, 32⟩
def TAL_RD_LO_VALUE : Fld := ⟨0x180068, 0, 32⟩
def TAL_UP_GROUP_EN_EN : Fld := ⟨0x180070, 0, 32⟩
def TAL_UP_WIN_CFG_EN (i : Nat) : Fld := ⟨0x180080 + 0x10 * i, 31, 1⟩
def TAL_UP_WIN_CFG_LATCHED (i : Nat) : Fld := ⟨0x180080 + 0x10 * i, 30, 1⟩
def TAL_UP_WIN_CFG_GROUP (i : Nat) : Fld := ⟨0x180080 + 0x10 * i, 0, 5⟩
def TAL_UP_WIN_FIRST_FIRST (i : Nat) : Fld := ⟨0x180084 + 0x10 * i, 0, 20⟩
def TAL_UP_WIN_SPAN_SLOT (i : Nat) : Fld := ⟨0x180088 + 0x10 * i, 16, 13⟩
def TAL_UP_WIN_SPAN_COUNT (i : Nat) : Fld := ⟨0x180088 + 0x10 * i, 0, 14⟩
def GBK_INT_STAT_SPILL_MISSED : Fld := ⟨0x190000, 5, 1⟩
def GBK_INT_STAT_SPILL : Fld := ⟨0x190000, 4, 1⟩
def GBK_INT_STAT_CRITICAL_LOST : Fld := ⟨0x190000, 3, 1⟩
def GBK_INT_STAT_LOG_FULL : Fld := ⟨0x190000, 2, 1⟩
def GBK_INT_STAT_CRITICAL : Fld := ⟨0x190000, 1, 1⟩
def GBK_INT_STAT_RECORD : Fld := ⟨0x190000, 0, 1⟩
def GBK_INT_EN_SPILL_MISSED : Fld := ⟨0x190004, 5, 1⟩
def GBK_INT_EN_SPILL : Fld := ⟨0x190004, 4, 1⟩
def GBK_INT_EN_CRITICAL_LOST : Fld := ⟨0x190004, 3, 1⟩
def GBK_INT_EN_LOG_FULL : Fld := ⟨0x190004, 2, 1⟩
def GBK_INT_EN_CRITICAL : Fld := ⟨0x190004, 1, 1⟩
def GBK_INT_EN_RECORD : Fld := ⟨0x190004, 0, 1⟩
def GBK_STATUS_CRIT_COUNT : Fld := ⟨0x190008, 16, 15⟩
def GBK_STATUS_COUNT : Fld := ⟨0x190008, 0, 15⟩
def GBK_SEQ_NEXT_SEQ : Fld := ⟨0x19000C, 0, 32⟩
def GBK_SEQ_OLDEST_SEQ : Fld := ⟨0x190010, 0, 32⟩
def GBK_CMD_OP : Fld := ⟨0x190014, 0, 2⟩
def GBK_CMD_ARG_SEQ : Fld := ⟨0x190018, 0, 32⟩
def GBK_SUM_MS_MS : Fld := ⟨0x190040, 0, 16⟩
def GBK_RD_SEQ_SEQ : Fld := ⟨0x190050, 0, 32⟩
def GBK_RD_STATUS_FOUND : Fld := ⟨0x190054, 0, 1⟩
def GBK_SPILL_CTL_DMA_PRI : Fld := ⟨0x190080, 8, 3⟩
def GBK_SPILL_CTL_MIN_SEV : Fld := ⟨0x190080, 4, 2⟩
def GBK_SPILL_CTL_EN : Fld := ⟨0x190080, 0, 1⟩
def GBK_SPILL_BASE_HI_ADDR_HI : Fld := ⟨0x190084, 0, 32⟩
def GBK_SPILL_BASE_LO_ADDR_LO : Fld := ⟨0x190088, 6, 26⟩
def GBK_SPILL_SIZE_SIZE : Fld := ⟨0x19008C, 0, 5⟩
def GBK_SPILL_HEAD_HEAD : Fld := ⟨0x190090, 0, 32⟩
def GBK_SPILL_TAIL_TAIL : Fld := ⟨0x190094, 0, 32⟩
def GBK_RL_RATE_RATE (i : Nat) : Fld := ⟨0x190020 + 0x4 * i, 0, 16⟩
def GBK_RL_BURST_BURST (i : Nat) : Fld := ⟨0x190030 + 0x4 * i, 0, 16⟩
def GBK_RD_W_DATA (i : Nat) : Fld := ⟨0x190060 + 0x4 * i, 0, 32⟩
def HLT_INT_STAT_BIST_DONE : Fld := ⟨0x1A0000, 8, 1⟩
def HLT_INT_STAT_AVS_LIMIT : Fld := ⟨0x1A0000, 7, 1⟩
def HLT_INT_STAT_VOLT_WARN : Fld := ⟨0x1A0000, 6, 1⟩
def HLT_INT_STAT_TEMP_WARN : Fld := ⟨0x1A0000, 5, 1⟩
def HLT_INT_STAT_BANK : Fld := ⟨0x1A0000, 4, 1⟩
def HLT_INT_STAT_ECC_UNCORR : Fld := ⟨0x1A0000, 3, 1⟩
def HLT_INT_STAT_UNRELIABLE : Fld := ⟨0x1A0000, 2, 1⟩
def HLT_INT_STAT_FENCED : Fld := ⟨0x1A0000, 1, 1⟩
def HLT_INT_STAT_MISMATCH : Fld := ⟨0x1A0000, 0, 1⟩
def HLT_INT_EN_BIST_DONE : Fld := ⟨0x1A0004, 8, 1⟩
def HLT_INT_EN_AVS_LIMIT : Fld := ⟨0x1A0004, 7, 1⟩
def HLT_INT_EN_VOLT_WARN : Fld := ⟨0x1A0004, 6, 1⟩
def HLT_INT_EN_TEMP_WARN : Fld := ⟨0x1A0004, 5, 1⟩
def HLT_INT_EN_BANK : Fld := ⟨0x1A0004, 4, 1⟩
def HLT_INT_EN_ECC_UNCORR : Fld := ⟨0x1A0004, 3, 1⟩
def HLT_INT_EN_UNRELIABLE : Fld := ⟨0x1A0004, 2, 1⟩
def HLT_INT_EN_FENCED : Fld := ⟨0x1A0004, 1, 1⟩
def HLT_INT_EN_MISMATCH : Fld := ⟨0x1A0004, 0, 1⟩
def HLT_FENCE_CFG_RECOMP_QUEUE : Fld := ⟨0x1A0008, 28, 4⟩
def HLT_FENCE_CFG_THRESH : Fld := ⟨0x1A0008, 16, 8⟩
def HLT_FENCE_CFG_WINDOW_MS : Fld := ⟨0x1A0008, 0, 16⟩
def HLT_FENCE_FENCED_0 : Fld := ⟨0x1A000C, 3, 1⟩
def HLT_FENCE_COPY_0 : Fld := ⟨0x1A000C, 0, 2⟩
def HLT_FENCE_FENCED_1 : Fld := ⟨0x1A000C, 7, 1⟩
def HLT_FENCE_COPY_1 : Fld := ⟨0x1A000C, 4, 2⟩
def HLT_FENCE_FENCED_2 : Fld := ⟨0x1A000C, 11, 1⟩
def HLT_FENCE_COPY_2 : Fld := ⟨0x1A000C, 8, 2⟩
def HLT_FENCE_FENCED_3 : Fld := ⟨0x1A000C, 15, 1⟩
def HLT_FENCE_COPY_3 : Fld := ⟨0x1A000C, 12, 2⟩
def HLT_FENCE_CMD_COPY : Fld := ⟨0x1A0010, 8, 2⟩
def HLT_FENCE_CMD_HEARTH : Fld := ⟨0x1A0010, 4, 2⟩
def HLT_FENCE_CMD_OP : Fld := ⟨0x1A0010, 0, 2⟩
def HLT_FENCE_STATUS_RESULT : Fld := ⟨0x1A0014, 16, 8⟩
def HLT_FENCE_STATUS_BIST_0 : Fld := ⟨0x1A0014, 0, 2⟩
def HLT_FENCE_STATUS_BIST_1 : Fld := ⟨0x1A0014, 4, 2⟩
def HLT_FENCE_STATUS_BIST_2 : Fld := ⟨0x1A0014, 8, 2⟩
def HLT_FENCE_STATUS_BIST_3 : Fld := ⟨0x1A0014, 12, 2⟩
def HLT_SCRUB_CFG_TCAM_MS : Fld := ⟨0x1A0020, 16, 16⟩
def HLT_SCRUB_CFG_PERIOD_S : Fld := ⟨0x1A0020, 0, 12⟩
def HLT_SCRUB_STATUS_PASSES : Fld := ⟨0x1A0024, 0, 32⟩
def HLT_ECC_CAP_VALID : Fld := ⟨0x1A0028, 31, 1⟩
def HLT_ECC_CAP_CLASS : Fld := ⟨0x1A0028, 28, 3⟩
def HLT_ECC_CAP_HEARTH : Fld := ⟨0x1A0028, 24, 4⟩
def HLT_ECC_CAP_TABLE : Fld := ⟨0x1A0028, 16, 8⟩
def HLT_ECC_CAP_ADDR_INDEX : Fld := ⟨0x1A002C, 0, 20⟩
def HLT_BANK_CFG_WINDOW_S : Fld := ⟨0x1A0030, 16, 16⟩
def HLT_BANK_CFG_CORR_THRESH : Fld := ⟨0x1A0030, 0, 16⟩
def HLT_BANK_MAP_USED_0 : Fld := ⟨0x1A0034, 7, 1⟩
def HLT_BANK_MAP_BANK_0 : Fld := ⟨0x1A0034, 0, 6⟩
def HLT_BANK_MAP_USED_1 : Fld := ⟨0x1A0034, 15, 1⟩
def HLT_BANK_MAP_BANK_1 : Fld := ⟨0x1A0034, 8, 6⟩
def HLT_BANK_MAP_USED_2 : Fld := ⟨0x1A0034, 23, 1⟩
def HLT_BANK_MAP_BANK_2 : Fld := ⟨0x1A0034, 16, 6⟩
def HLT_BANK_MAP_USED_3 : Fld := ⟨0x1A0034, 31, 1⟩
def HLT_BANK_MAP_BANK_3 : Fld := ⟨0x1A0034, 24, 6⟩
def HLT_BANK_CMD_BANK : Fld := ⟨0x1A0040, 8, 6⟩
def HLT_BANK_CMD_SPARE : Fld := ⟨0x1A0040, 0, 1⟩
def HLT_TEMP_THR_CLEAR : Fld := ⟨0x1A0180, 24, 8⟩
def HLT_TEMP_THR_CRIT : Fld := ⟨0x1A0180, 16, 8⟩
def HLT_TEMP_THR_WARN : Fld := ⟨0x1A0180, 8, 8⟩
def HLT_TEMP_LOW_THR_VALUE : Fld := ⟨0x1A0184, 0, 24⟩
def HLT_VOLT_THR_CLEAR_PCT : Fld := ⟨0x1A0188, 16, 8⟩
def HLT_VOLT_THR_CRIT_PCT : Fld := ⟨0x1A0188, 8, 8⟩
def HLT_VOLT_THR_WARN_PCT : Fld := ⟨0x1A0188, 0, 8⟩
def HLT_ALERT_CTL_SOURCES : Fld := ⟨0x1A01C0, 0, 4⟩
def HLT_MON_STATUS_TEMP_FAILED : Fld := ⟨0x1A01C4, 16, 16⟩
def HLT_MON_STATUS_STATE : Fld := ⟨0x1A01C4, 0, 16⟩
def HLT_AVS_CTL_MODE : Fld := ⟨0x1A0200, 31, 1⟩
def HLT_AVS_CTL_FIXED_MV : Fld := ⟨0x1A0200, 0, 10⟩
def HLT_AVS_STATUS_TARGET_MV : Fld := ⟨0x1A0204, 16, 10⟩
def HLT_AVS_STATUS_SETPOINT_MV : Fld := ⟨0x1A0204, 0, 10⟩
def HLT_PMON_AVG_COUNT : Fld := ⟨0x1A0208, 0, 32⟩
def HLT_BIST_CTL_TARGET : Fld := ⟨0x1A0300, 8, 5⟩
def HLT_BIST_CTL_RUN : Fld := ⟨0x1A0300, 0, 1⟩
def HLT_BIST_STATUS_FAILED : Fld := ⟨0x1A0304, 8, 5⟩
def HLT_BIST_STATUS_STATE : Fld := ⟨0x1A0304, 0, 2⟩
def HLT_BANK_WD_BANKS (i : Nat) : Fld := ⟨0x1A0038 + 0x4 * i, 0, 32⟩
def HLT_TEMP_CENTI_C (i : Nat) : Fld := ⟨0x1A0100 + 0x4 * i, 0, 16⟩
def HLT_VOLT_MV (i : Nat) : Fld := ⟨0x1A0140 + 0x4 * i, 0, 16⟩
def PIN_INT_STAT_REFCLK : Fld := ⟨0x1B0000, 5, 1⟩
def PIN_INT_STAT_QSPI_DONE : Fld := ⟨0x1B0000, 4, 1⟩
def PIN_INT_STAT_MDIO_DONE : Fld := ⟨0x1B0000, 3, 1⟩
def PIN_INT_STAT_I2C1_DONE : Fld := ⟨0x1B0000, 2, 1⟩
def PIN_INT_STAT_I2C0_DONE : Fld := ⟨0x1B0000, 1, 1⟩
def PIN_INT_STAT_GPIO : Fld := ⟨0x1B0000, 0, 1⟩
def PIN_INT_EN_REFCLK : Fld := ⟨0x1B0004, 5, 1⟩
def PIN_INT_EN_QSPI_DONE : Fld := ⟨0x1B0004, 4, 1⟩
def PIN_INT_EN_MDIO_DONE : Fld := ⟨0x1B0004, 3, 1⟩
def PIN_INT_EN_I2C1_DONE : Fld := ⟨0x1B0004, 2, 1⟩
def PIN_INT_EN_I2C0_DONE : Fld := ⟨0x1B0004, 1, 1⟩
def PIN_INT_EN_GPIO : Fld := ⟨0x1B0004, 0, 1⟩
def PIN_CLK_STATUS_CORE_LOST_SEEN : Fld := ⟨0x1B0008, 7, 1⟩
def PIN_CLK_STATUS_CLK10M_OK : Fld := ⟨0x1B0008, 6, 1⟩
def PIN_CLK_STATUS_PCIE_OK : Fld := ⟨0x1B0008, 5, 1⟩
def PIN_CLK_STATUS_PORCH_OK : Fld := ⟨0x1B0008, 4, 1⟩
def PIN_CLK_STATUS_SD_OK : Fld := ⟨0x1B0008, 0, 4⟩
def PIN_GPIO_DIR_DIR : Fld := ⟨0x1B0010, 0, 16⟩
def PIN_GPIO_OUT_OUT : Fld := ⟨0x1B0014, 0, 16⟩
def PIN_GPIO_IN_IN : Fld := ⟨0x1B0018, 0, 16⟩
def PIN_GPIO_TIMED_TIMED : Fld := ⟨0x1B001C, 0, 16⟩
def PIN_GPIO_EDGE_EDGE : Fld := ⟨0x1B0020, 0, 16⟩
def PIN_GPIO_EDGE_EN_EDGE_EN : Fld := ⟨0x1B0024, 0, 16⟩
def PIN_LED_CFG_EN : Fld := ⟨0x1B0030, 31, 1⟩
def PIN_LED_CFG_INVERT : Fld := ⟨0x1B0030, 30, 1⟩
def PIN_LED_CFG_PERIOD_MS : Fld := ⟨0x1B0030, 16, 8⟩
def PIN_LED_CFG_CLK_KHZ : Fld := ⟨0x1B0030, 0, 16⟩
def PIN_MDIO_CFG_NO_PREAMBLE : Fld := ⟨0x1B0180, 8, 1⟩
def PIN_MDIO_CFG_RATE : Fld := ⟨0x1B0180, 0, 2⟩
def PIN_MDIO_CMD_OP : Fld := ⟨0x1B0184, 30, 2⟩
def PIN_MDIO_CMD_PHYAD : Fld := ⟨0x1B0184, 21, 5⟩
def PIN_MDIO_CMD_REGAD : Fld := ⟨0x1B0184, 16, 5⟩
def PIN_MDIO_CMD_C45_REG : Fld := ⟨0x1B0184, 0, 16⟩
def PIN_MDIO_DATA_DATA : Fld := ⟨0x1B0188, 0, 16⟩
def PIN_MDIO_STATUS_RESULT : Fld := ⟨0x1B018C, 8, 8⟩
def PIN_MDIO_STATUS_OVERRUN : Fld := ⟨0x1B018C, 1, 1⟩
def PIN_MDIO_STATUS_BUSY : Fld := ⟨0x1B018C, 0, 1⟩
def PIN_QSPI_CFG_CLK : Fld := ⟨0x1B0200, 0, 2⟩
def PIN_QSPI_CMD_QUAD : Fld := ⟨0x1B0204, 31, 1⟩
def PIN_QSPI_CMD_ADDR_EN : Fld := ⟨0x1B0204, 30, 1⟩
def PIN_QSPI_CMD_ADDR4 : Fld := ⟨0x1B0204, 29, 1⟩
def PIN_QSPI_CMD_WRITE : Fld := ⟨0x1B0204, 28, 1⟩
def PIN_QSPI_CMD_DUMMY : Fld := ⟨0x1B0204, 24, 4⟩
def PIN_QSPI_CMD_LEN : Fld := ⟨0x1B0204, 15, 9⟩
def PIN_QSPI_CMD_OPCODE : Fld := ⟨0x1B0204, 0, 8⟩
def PIN_QSPI_ADDR_ADDR : Fld := ⟨0x1B0208, 0, 32⟩
def PIN_QSPI_STATUS_RESULT : Fld := ⟨0x1B020C, 8, 8⟩
def PIN_QSPI_STATUS_OVERRUN : Fld := ⟨0x1B020C, 1, 1⟩
def PIN_QSPI_STATUS_BUSY : Fld := ⟨0x1B020C, 0, 1⟩
def PIN_LED_HOST_HOST (i : Nat) : Fld := ⟨0x1B0040 + 0x4 * i, 0, 32⟩
def PIN_QSPI_BUF_DATA (i : Nat) : Fld := ⟨0x1B0400 + 0x4 * i, 0, 32⟩
def PIN_I2C_CFG_EN (i : Nat) : Fld := ⟨0x1B0100 + 0x20 * i, 31, 1⟩
def PIN_I2C_CFG_SMB_TIMEOUT (i : Nat) : Fld := ⟨0x1B0100 + 0x20 * i, 8, 1⟩
def PIN_I2C_CFG_SPEED (i : Nat) : Fld := ⟨0x1B0100 + 0x20 * i, 0, 2⟩
def PIN_I2C_CMD_ADDR (i : Nat) : Fld := ⟨0x1B0104 + 0x20 * i, 24, 7⟩
def PIN_I2C_CMD_WLEN (i : Nat) : Fld := ⟨0x1B0104 + 0x20 * i, 16, 6⟩
def PIN_I2C_CMD_RLEN (i : Nat) : Fld := ⟨0x1B0104 + 0x20 * i, 8, 6⟩
def PIN_I2C_CMD_START (i : Nat) : Fld := ⟨0x1B0104 + 0x20 * i, 0, 1⟩
def PIN_I2C_STATUS_TX_LEVEL (i : Nat) : Fld := ⟨0x1B0108 + 0x20 * i, 24, 6⟩
def PIN_I2C_STATUS_RX_LEVEL (i : Nat) : Fld := ⟨0x1B0108 + 0x20 * i, 16, 6⟩
def PIN_I2C_STATUS_RESULT (i : Nat) : Fld := ⟨0x1B0108 + 0x20 * i, 8, 8⟩
def PIN_I2C_STATUS_OVERRUN (i : Nat) : Fld := ⟨0x1B0108 + 0x20 * i, 1, 1⟩
def PIN_I2C_STATUS_BUSY (i : Nat) : Fld := ⟨0x1B0108 + 0x20 * i, 0, 1⟩
def PIN_I2C_DATA_DATA (i : Nat) : Fld := ⟨0x1B010C + 0x20 * i, 0, 8⟩
end F

def regsGLB0 : List RegDef := [
  ⟨0x0, 0x0, 1, 0x0, 1, 0x0, 0x0, 0x0, 0x0, 0x0, 0x97240001⟩ /- GLB_ID -/,
  ⟨0x4, 0x0, 1, 0x0, 1, 0x0, 0x0, 0x0, 0x0, 0x0, 0x30000⟩ /- GLB_MODE -/,
  ⟨0x8, 0x0, 1, 0x0, 1, 0x0, 0x0, 0x0, 0x0, 0x0, 0x0⟩ /- GLB_COND -/,
  ⟨0xC, 0x0, 1, 0x0, 1, 0x0, 0x0, 0x0, 0xF, 0x0, 0x0⟩ /- GLB_CTL -/,
  ⟨0x10, 0x0, 1, 0x0, 1, 0x0, 0x0, 0x0, 0x0, 0x0, 0x0⟩ /- GLB_CTL_STATUS -/,
  ⟨0x14, 0x0, 1, 0x0, 1, 0x0, 0x0, 0x0, 0x0, 0x0, 0x0⟩ /- GLB_SAFE_CAUSE -/,
  ⟨0x18, 0x0, 1, 0x0, 1, 0xFFFF, 0x0, 0x0, 0x0, 0xFFFF, 0x0⟩ /- GLB_WAKE_MS -/,
  ⟨0x1C, 0x0, 1, 0x0, 1, 0x0, 0x0, 0x0, 0x0, 0x0, 0x0⟩ /- GLB_WAKE_ELAPSED -/,
  ⟨0x20, 0x0, 1, 0x0, 1, 0x0, 0x0, 0x0, 0x1, 0x0, 0x0⟩ /- GLB_RESET -/,
  ⟨0x24, 0x0, 1, 0x0, 1, 0x0, 0x0, 0x0, 0xF, 0x0, 0x0⟩ /- GLB_HRST -/,
  ⟨0x28, 0x0, 1, 0x0, 1, 0x0, 0x0, 0xFF, 0x0, 0x0, 0x0⟩ /- GLB_RST_CAUSE -/,
  ⟨0x2C, 0x0, 1, 0x0, 1, 0xFFFF, 0xFFFF, 0x0, 0x0, 0x0, 0x5DC⟩ /- GLB_DRAIN_TIMEOUT -/,
  ⟨0x30, 0x0, 1, 0x0, 1, 0x0, 0x0, 0xFFFFFFFF, 0x0, 0x0, 0x0⟩ /- GLB_DRAIN_FLUSHED -/,
  ⟨0x40, 0x0, 1, 0x0, 1, 0xFFFFFFFF, 0xFFFFFFFF, 0x0, 0x0, 0x0, 0x0⟩ /- GLB_PORT_RST_0 -/,
  ⟨0x44, 0x0, 1, 0x0, 1, 0xFFFFFFFF, 0xFFFFFFFF, 0x0, 0x0, 0x0, 0x0⟩ /- GLB_PORT_RST_1 -/,
  ⟨0x48, 0x0, 1, 0x0, 1, 0xFFF, 0xFFF, 0x0, 0x0, 0x0, 0x0⟩ /- GLB_PORT_RST_2 -/,
  ⟨0x80, 0x4, 8, 0x0, 1, 0xFFFFFF, 0x0, 0x0, 0x0, 0xFFFFFF, 0x0⟩ /- GLB_ADMIT_RATE -/,
  ⟨0xA0, 0x4, 8, 0x0, 1, 0xFFFF, 0x0, 0x0, 0x0, 0xFFFF, 0x0⟩ /- GLB_ADMIT_BURST -/,
  ⟨0xC0, 0x4, 8, 0x0, 1, 0x0, 0x0, 0xFFFFFFFF, 0x0, 0x0, 0x0⟩ /- GLB_ADMIT_DROP -/,
  ⟨0x100, 0x0, 1, 0x0, 1, 0x0, 0x0, 0x0, 0x0, 0x0, 0x0⟩ /- GLB_INT_SUM_BLK -/,
  ⟨0x104, 0x4, 3, 0x0, 1, 0x0, 0x0, 0x0, 0x0, 0x0, 0x0⟩ /- GLB_INT_SUM_PORT -/,
  ⟨0x110, 0x4, 2, 0x0, 1, 0x0, 0x0, 0x0, 0x0, 0x0, 0x0⟩ /- GLB_INT_SUM_RXCH -/,
  ⟨0x118, 0x4, 2, 0x0, 1, 0x0, 0x0, 0x0, 0x0, 0x0, 0x0⟩ /- GLB_INT_SUM_TXCH -/,
  ⟨0x120, 0x0, 1, 0x0, 1, 0x0, 0x0, 0x0, 0x0, 0x0, 0x0⟩ /- GLB_INT_SUM_ERRAND -/]
def regsGLB1 : List RegDef := [
  ⟨0x124, 0x0, 1, 0x0, 1, 0x0, 0x0, 0x3F, 0x0, 0x0, 0x0⟩ /- GLB_INT_STAT -/,
  ⟨0x128, 0x0, 1, 0x0, 1, 0x3F, 0x0, 0x0, 0x0, 0x0, 0x0⟩ /- GLB_INT_EN -/,
  ⟨0x130, 0x4, 4, 0x0, 1, 0x0, 0x0, 0x0, 0x0, 0x0, 0x0⟩ /- GLB_VEC_PEND -/,
  ⟨0x140, 0x4, 4, 0x0, 1, 0x0, 0x0, 0x0, 0x0, 0x0, 0x0⟩ /- GLB_VEC_ACTIVE -/,
  ⟨0x150, 0x0, 1, 0x0, 1, 0x0, 0x0, 0x0, 0x7F, 0x0, 0x0⟩ /- GLB_VEC_EOI -/]
def regsGLB : List RegDef := regsGLB0 ++ regsGLB1

def regsFRG : List RegDef := [
  ⟨0x10000, 0x0, 1, 0x0, 1, 0x0, 0x0, 0x0, 0xF, 0x0, 0x0⟩ /- FRG_CTL -/,
  ⟨0x10004, 0x0, 1, 0x0, 1, 0x0, 0x0, 0x0, 0x0, 0x0, 0x0⟩ /- FRG_STATUS -/,
  ⟨0x10008, 0x0, 1, 0x0, 1, 0xFFFFFFFF, 0x0, 0x0, 0x0, 0x0, 0x0⟩ /- FRG_LOAD_LEN -/,
  ⟨0x1000C, 0x0, 1, 0x0, 1, 0x0, 0x0, 0x0, 0x0, 0x0, 0x0⟩ /- FRG_LOAD_COUNT -/,
  ⟨0x10010, 0x0, 1, 0x0, 1, 0xFF, 0x0, 0x0, 0x0, 0x0, 0x0⟩ /- FRG_COMMIT_CYCLE_HI -/,
  ⟨0x10014, 0x0, 1, 0x0, 1, 0xFFFFFFFF, 0x0, 0x0, 0x0, 0x0, 0x0⟩ /- FRG_COMMIT_CYCLE_LO -/,
  ⟨0x10018, 0x0, 1, 0x0, 1, 0xFFFFFF, 0x0, 0x0, 0x0, 0x0, 0x0⟩ /- FRG_COMMIT_PHASE -/,
  ⟨0x1001C, 0x0, 1, 0x0, 1, 0x3F, 0x0, 0x0, 0x0, 0x0, 0xF⟩ /- FRG_TEMPER_CTL -/,
  ⟨0x10020, 0x0, 1, 0x0, 1, 0xFFFF, 0xFFFF, 0x0, 0x0, 0x0, 0x5DC⟩ /- FRG_DRAIN_TIMEOUT -/,
  ⟨0x10024, 0x0, 1, 0x0, 1, 0x0, 0x0, 0x0, 0x0, 0x0, 0x0⟩ /- FRG_LATE_PU -/,
  ⟨0x10030, 0x4, 4, 0x0, 1, 0x0, 0x0, 0x0, 0x0, 0x0, 0x0⟩ /- FRG_OLDGEN_FRAMES -/,
  ⟨0x10040, 0x0, 1, 0x0, 1, 0x0, 0x0, 0x0, 0x0, 0x0, 0x0⟩ /- FRG_ACT_ID_HI -/,
  ⟨0x10044, 0x0, 1, 0x0, 1, 0x0, 0x0, 0x0, 0x0, 0x0, 0x0⟩ /- FRG_ACT_ID_LO -/,
  ⟨0x10048, 0x0, 1, 0x0, 1, 0x0, 0x0, 0x0, 0x0, 0x0, 0x0⟩ /- FRG_SHD_ID_HI -/,
  ⟨0x1004C, 0x0, 1, 0x0, 1, 0x0, 0x0, 0x0, 0x0, 0x0, 0x0⟩ /- FRG_SHD_ID_LO -/,
  ⟨0x10050, 0x0, 1, 0x0, 1, 0x0, 0x0, 0xFFFFFFFF, 0x0, 0x0, 0x0⟩ /- FRG_FLUSHED -/,
  ⟨0x10054, 0x0, 1, 0x0, 1, 0x1FFFF, 0x1FFFF, 0x0, 0x0, 0x0, 0x0⟩ /- FRG_BOOT -/,
  ⟨0x10058, 0x0, 1, 0x0, 1, 0x0, 0x0, 0x0, 0x0, 0x0, 0x0⟩ /- FRG_OTP -/,
  ⟨0x10060, 0x0, 1, 0x0, 1, 0x0, 0x0, 0x7F, 0x0, 0x0, 0x0⟩ /- FRG_INT_STAT -/,
  ⟨0x10064, 0x0, 1, 0x0, 1, 0x7F, 0x0, 0x0, 0x0, 0x0, 0x0⟩ /- FRG_INT_EN -/,
  ⟨0x18000, 0x4, 1024, 0x0, 1, 0x0, 0x0, 0x0, 0xFFFFFFFF, 0x0, 0x0⟩ /- FRG_LOAD_PORT -/]

def regsHIF : List RegDef := [
  ⟨0x20000, 0x0, 1, 0x0, 1, 0x0, 0x0, 0x0, 0x0, 0x0, 0x0⟩ /- HIF_LINK -/,
  ⟨0x20004, 0x0, 1, 0x0, 1, 0x0, 0x0, 0x7FF, 0x0, 0x0, 0x0⟩ /- HIF_ACC_ERR_STAT -/,
  ⟨0x20008, 0x0, 1, 0x0, 1, 0x0, 0x0, 0x0, 0x0, 0x0, 0x0⟩ /- HIF_ACC_ERR_ADDR -/,
  ⟨0x2000C, 0x0, 1, 0x0, 1, 0x0, 0x0, 0xFFFFFFFF, 0x0, 0x0, 0x0⟩ /- HIF_ACC_ERR_COUNT -/,
  ⟨0x20010, 0x0, 1, 0x0, 1, 0x0, 0x0, 0x7, 0x0, 0x0, 0x0⟩ /- HIF_INT_STAT -/,
  ⟨0x20014, 0x0, 1, 0x0, 1, 0x7, 0x0, 0x0, 0x0, 0x0, 0x0⟩ /- HIF_INT_EN -/,
  ⟨0x20020, 0x0, 1, 0x0, 1, 0x0, 0x0, 0x0, 0x0, 0x0, 0x0⟩ /- HIF_OSTLER_BEAT -/,
  ⟨0x20024, 0x0, 1, 0x0, 1, 0x0, 0x0, 0x0, 0x1, 0x0, 0x0⟩ /- HIF_OSTLER_CTL -/,
  ⟨0x20028, 0x0, 1, 0x0, 1, 0xFFFF, 0xFFFF, 0x0, 0x0, 0x0, 0x1F4⟩ /- HIF_MBX_TIMEOUT -/,
  ⟨0x20100, 0x4, 16, 0x0, 1, 0xFFFFFFFF, 0x0, 0x0, 0x0, 0x0, 0x0⟩ /- HIF_MBX_REQ -/,
  ⟨0x20140, 0x0, 1, 0x0, 1, 0x0, 0x0, 0x0, 0xFF1FFFFF, 0x0, 0x0⟩ /- HIF_MBX_CMD -/,
  ⟨0x20144, 0x0, 1, 0x0, 1, 0x0, 0x0, 0x0, 0x0, 0x0, 0x0⟩ /- HIF_MBX_STATUS -/,
  ⟨0x20180, 0x4, 16, 0x0, 1, 0x0, 0x0, 0x0, 0x0, 0x0, 0x0⟩ /- HIF_MBX_RSP -/,
  ⟨0x20400, 0x4, 3, 0x0, 1, 0x7F7F7F7F, 0x0, 0x0, 0x0, 0x0, 0x0⟩ /- HIF_VEC_MAP -/,
  ⟨0x2040C, 0x0, 1, 0x0, 1, 0x007F7F7F, 0x0, 0x0, 0x0, 0x0, 0x0⟩ /- HIF_VEC_MAP_3: source 15 is none (R175) -/,
  ⟨0x20410, 0x0, 1, 0x0, 1, 0x7F7F7F7F, 0x0, 0x0, 0x0, 0x0, 0x0⟩ /- HIF_VEC_MAP_4 -/,
  ⟨0x20414, 0x4, 3, 0x0, 1, 0x0, 0x0, 0x0, 0x0, 0x0, 0x0⟩ /- HIF_VEC_MAP_5 to 7: sources 20 to 31 are none -/,
  ⟨0x20420, 0x4, 19, 0x0, 1, 0x7F7F7F7F, 0x0, 0x0, 0x0, 0x0, 0x0⟩ /- HIF_VEC_MAP_8 to 26 -/,
  ⟨0x2046C, 0x4, 5, 0x0, 1, 0x0, 0x0, 0x0, 0x0, 0x0, 0x0⟩ /- HIF_VEC_MAP_27 to 31: sources 108 to 127 are none -/,
  ⟨0x20480, 0x4, 36, 0x0, 1, 0x7F7F7F7F, 0x0, 0x0, 0x0, 0x0, 0x0⟩ /- HIF_VEC_MAP_32 to 67 -/]

def regsPRT : List RegDef := [
  ⟨0x40000, 0x400, 76, 0x0, 1, 0x3F, 0x0, 0x0, 0x0, 0x3F, 0x0⟩ /- PRT_MODE -/,
  ⟨0x40004, 0x400, 76, 0x0, 1, 0x0, 0x0, 0x0, 0x0, 0x0, 0x0⟩ /- PRT_STATUS -/,
  ⟨0x40008, 0x400, 72, 0x0, 1, 0x33FFF, 0x0, 0x0, 0x0, 0x33FFF, 0x0⟩ /- PRT_MAC_CFG -/,
  ⟨0x4000C, 0x400, 72, 0x0, 1, 0xFFFF, 0x0, 0x0, 0x0, 0x0, 0xA00⟩ /- PRT_LINK_TIMERS -/,
  ⟨0x40010, 0x400, 72, 0x0, 1, 0xFFFFFFFB, 0x0, 0x0, 0x0, 0xFFFF0001, 0xA18⟩ /- PRT_PREEMPT -/,
  ⟨0x40014, 0x400, 72, 0x0, 1, 0x0, 0x0, 0x0, 0x0, 0x0, 0x0⟩ /- PRT_PREEMPT_STATUS -/,
  ⟨0x40018, 0x400, 72, 0x0, 1, 0x0, 0x0, 0x0, 0x0, 0x0, 0x0⟩ /- PRT_PAUSE_STATUS -/,
  ⟨0x40020, 0x400, 72, 0x0, 1, 0xFFFFFFFF, 0xFFFFFFFF, 0x0, 0x0, 0x0, 0x0⟩ /- PRT_TS_RX_ADJ -/,
  ⟨0x40024, 0x400, 72, 0x0, 1, 0xFFFFFFFF, 0xFFFFFFFF, 0x0, 0x0, 0x0, 0x0⟩ /- PRT_TS_TX_ADJ -/,
  ⟨0x40030, 0x400, 72, 0x0, 1, 0x0, 0x0, 0xFF, 0x0, 0x0, 0x0⟩ /- PRT_INT_STAT -/,
  ⟨0x40034, 0x400, 72, 0x0, 1, 0xFF, 0x0, 0x0, 0x0, 0x0, 0x0⟩ /- PRT_INT_EN -/,
  ⟨0x40040, 0x400, 72, 0x0, 1, 0x7, 0x0, 0x0, 0x0, 0x0, 0x0⟩ /- PRT_LOOPBACK -/,
  ⟨0x40044, 0x400, 72, 0x0, 1, 0xFF7F, 0x0, 0x0, 0x0, 0x0, 0x0⟩ /- PRT_PRBS_CFG -/,
  ⟨0x40048, 0x400, 72, 0x0, 1, 0x1FFFF, 0x0, 0x0, 0x0, 0x0, 0x0⟩ /- PRT_DIAG_RATE -/,
  ⟨0x40060, 0x400, 72, 0x4, 8, 0x0, 0x0, 0xFFFFFFFF, 0x0, 0x0, 0x0⟩ /- PRT_PRBS_ERR -/,
  ⟨0x40080, 0x400, 72, 0x4, 8, 0xFFFFFCFF, 0x0, 0x0, 0x0, 0xFFFFFCFF, 0x0⟩ /- PRT_LANE_CFG -/]

def regsHTH : List RegDef := [
  ⟨0x80000, 0x10000, 4, 0x0, 1, 0x0, 0x0, 0xFF0F, 0x0, 0x0, 0x0⟩ /- HTH_INT_STAT -/,
  ⟨0x80004, 0x10000, 4, 0x0, 1, 0xFF0F, 0x0, 0x0, 0x0, 0x0, 0x0⟩ /- HTH_INT_EN -/,
  ⟨0x80100, 0x10000, 4, 0x0, 1, 0x3F0F0E, 0x3F0F0E, 0x0, 0x0, 0x0, 0x0⟩ /- HTH_EXC_POLICY -/,
  ⟨0x80104, 0x10000, 4, 0x0, 1, 0x17F, 0x17F, 0x0, 0x0, 0x0, 0x11E⟩ /- HTH_FRAG_CFG -/,
  ⟨0x80108, 0x10000, 4, 0x0, 1, 0x0, 0x0, 0x0, 0x0, 0x0, 0x0⟩ /- HTH_FRAG_USED -/,
  ⟨0x80110, 0x10000, 4, 0x0, 1, 0x0, 0x0, 0x0, 0x0, 0x0, 0x0⟩ /- HTH_EXC_CAP_OFF -/,
  ⟨0x80114, 0x10000, 4, 0x0, 1, 0x0, 0x0, 0xFFFFFFF1, 0x0, 0x0, 0x0⟩ /- HTH_EXC_CAP -/]

def regsTBL : List RegDef := [
  ⟨0xC0000, 0x400, 4, 0x0, 1, 0x0, 0x0, 0x0, 0xFFDF, 0x0, 0x0⟩ /- TBL_CMD -/,
  ⟨0xC0004, 0x400, 4, 0x0, 1, 0x0, 0x0, 0x0, 0x0, 0x0, 0x0⟩ /- TBL_STATUS -/,
  ⟨0xC0008, 0x400, 4, 0x0, 1, 0xFFFFF, 0x0, 0x0, 0x0, 0x0, 0x0⟩ /- TBL_INDEX -/,
  ⟨0xC000C, 0x400, 4, 0x0, 1, 0x0, 0x0, 0x0, 0x0, 0x0, 0x0⟩ /- TBL_RESULT_INDEX -/,
  ⟨0xC0100, 0x400, 4, 0x4, 100, 0xFFFFFFFF, 0x0, 0x0, 0x0, 0x0, 0x0⟩ /- TBL_DATA -/,
  ⟨0xC1000, 0x0, 1, 0x0, 1, 0x0, 0x0, 0x7FF, 0x0, 0x0, 0x0⟩ /- TBL_INT_STAT -/,
  ⟨0xC1004, 0x0, 1, 0x0, 1, 0x7FF, 0x0, 0x0, 0x0, 0x0, 0x0⟩ /- TBL_INT_EN -/,
  ⟨0xC1008, 0x0, 1, 0x0, 1, 0xFF, 0xFF, 0x0, 0x0, 0x0, 0xF0⟩ /- TBL_LEARN_CFG -/,
  ⟨0xC100C, 0x0, 1, 0x0, 1, 0x1F, 0x1F, 0x0, 0x0, 0x0, 0x8⟩ /- TBL_MOVER_CFG -/,
  ⟨0xC1010, 0x0, 1, 0x0, 1, 0xFFFFFFFF, 0xFFFFFFFF, 0x0, 0x0, 0x0, 0x0⟩ /- TBL_LAG_SEED -/,
  ⟨0xC1100, 0x10, 4, 0x0, 1, 0x0, 0x0, 0x0, 0x0, 0x0, 0x0⟩ /- TBL_NOTE_W0 -/,
  ⟨0xC1104, 0x10, 4, 0x0, 1, 0x0, 0x0, 0x0, 0x0, 0x0, 0x0⟩ /- TBL_NOTE_W1 -/,
  ⟨0xC1108, 0x10, 4, 0x0, 1, 0x0, 0x0, 0x0, 0x0, 0x0, 0x0⟩ /- TBL_NOTE_W2 -/,
  ⟨0xC110C, 0x10, 4, 0x0, 1, 0x0, 0x0, 0x7FFFFF, 0x0, 0x0, 0x0⟩ /- TBL_NOTE_W3 -/,
  ⟨0xC1140, 0x4, 4, 0x0, 1, 0x0, 0x0, 0x0, 0x0, 0x0, 0x0⟩ /- TBL_NOTE_LEVEL -/]

def regsFRY : List RegDef := [
  ⟨0xD0000, 0x0, 1, 0x0, 1, 0x0, 0x0, 0x3F, 0x0, 0x0, 0x0⟩ /- FRY_INT_STAT -/,
  ⟨0xD0004, 0x0, 1, 0x0, 1, 0x3F, 0x0, 0x0, 0x0, 0x0, 0x0⟩ /- FRY_INT_EN -/,
  ⟨0xD0008, 0x0, 1, 0x0, 1, 0xF, 0xF, 0x0, 0x0, 0x0, 0x0⟩ /- FRY_CHECK_KEY -/,
  ⟨0xD000C, 0x0, 1, 0x0, 1, 0x1F, 0x1F, 0x0, 0x0, 0x0, 0x9⟩ /- FRY_FAIL_ACT -/,
  ⟨0xD0010, 0x0, 1, 0x0, 1, 0x3F3F3F3F, 0x3F3F3F3F, 0x0, 0x0, 0x0, 0x0⟩ /- FRY_PUNT_QUEUE_0 -/,
  ⟨0xD0014, 0x0, 1, 0x0, 1, 0x3F3F3F3F, 0x3F3F3F3F, 0x0, 0x0, 0x0, 0x0⟩ /- FRY_PUNT_QUEUE_1 -/,
  ⟨0xD0018, 0x0, 1, 0x0, 1, 0xFFFFFF, 0xFFFFFF, 0x0, 0x0, 0x0, 0x3E8⟩ /- FRY_PEER_RATE -/,
  ⟨0xD001C, 0x0, 1, 0x0, 1, 0xFFFF, 0xFFFF, 0x0, 0x0, 0x0, 0x40⟩ /- FRY_PEER_BURST -/,
  ⟨0xD0020, 0x0, 1, 0x0, 1, 0x0, 0x0, 0xFFFFFFFF, 0x0, 0x0, 0x0⟩ /- FRY_PEER_DROP -/,
  ⟨0xD0100, 0x10, 16, 0x4, 4, 0xFFFFFFFF, 0xFFFFFFFF, 0x0, 0x0, 0x0, 0x0⟩ /- FRY_LOCAL_ADDR -/,
  ⟨0xD0200, 0x0, 1, 0x0, 1, 0xFFFF, 0xFFFF, 0x0, 0x0, 0x0, 0x0⟩ /- FRY_LOCAL_VALID -/,
  ⟨0xD0204, 0x0, 1, 0x0, 1, 0xFFFF, 0xFFFF, 0x0, 0x0, 0x0, 0x0⟩ /- FRY_LOCAL_V6 -/,
  ⟨0xD0400, 0x0, 1, 0x0, 1, 0x0, 0x0, 0x0, 0xFFB, 0x0, 0x0⟩ /- FRY_TMPL_CMD -/,
  ⟨0xD0404, 0x0, 1, 0x0, 1, 0x0, 0x0, 0x0, 0x0, 0x0, 0x0⟩ /- FRY_TMPL_STATUS -/,
  ⟨0xD0440, 0x4, 16, 0x0, 1, 0xFFFFFFFF, 0x0, 0x0, 0x0, 0x0, 0x0⟩ /- FRY_TMPL_DATA -/]

def regsTM0 : List RegDef := [
  ⟨0xE0000, 0x0, 1, 0x0, 1, 0x0, 0x0, 0x1F, 0x0, 0x0, 0x0⟩ /- TM_INT_STAT -/,
  ⟨0xE0004, 0x0, 1, 0x0, 1, 0x1F, 0x0, 0x0, 0x0, 0x0, 0x0⟩ /- TM_INT_EN -/,
  ⟨0xE0008, 0x0, 1, 0x0, 1, 0x7FFFF, 0x7FFFF, 0x0, 0x0, 0x0, 0x2000⟩ /- TM_HEADROOM -/,
  ⟨0xE000C, 0x0, 1, 0x0, 1, 0x7FFFF, 0x7FFFF, 0x0, 0x0, 0x0, 0x800⟩ /- TM_MGMT_POOL -/,
  ⟨0xE0010, 0x0, 1, 0x0, 1, 0x0, 0x0, 0x0, 0x0, 0x0, 0x0⟩ /- TM_SHARED_SIZE -/,
  ⟨0xE0014, 0x0, 1, 0x0, 1, 0x0, 0x0, 0x0, 0x0, 0x0, 0x0⟩ /- TM_SHARED_USED -/,
  ⟨0xE0018, 0x0, 1, 0x0, 1, 0x0, 0x0, 0x0, 0x0, 0x0, 0x0⟩ /- TM_MGMT_USED -/,
  ⟨0xE001C, 0x0, 1, 0x0, 1, 0x0, 0x0, 0x0, 0x0, 0x0, 0x0⟩ /- TM_CELLS_USED -/,
  ⟨0xE0020, 0x0, 1, 0x0, 1, 0x3F3F3F3F, 0x3F3F3F3F, 0x0, 0x0, 0x0, 0x0⟩ /- TM_METER_ADJ -/,
  ⟨0xE0024, 0x0, 1, 0x0, 1, 0xFF00FFFF, 0xFF00FFFF, 0x0, 0x0, 0x0, 0x80000064⟩ /- TM_SAMPLE_CFG -/,
  ⟨0xE1000, 0x400, 72, 0x0, 1, 0xF, 0x0, 0x0, 0x0, 0xF, 0x0⟩ /- TM_PORT_CFG -/,
  ⟨0xE1004, 0x400, 77, 0x0, 1, 0x7FFFF, 0x0, 0x0, 0x0, 0x7FFFF, 0x0⟩ /- TM_PORT_LIMIT -/,
  ⟨0xE1008, 0x400, 77, 0x0, 1, 0x0, 0x0, 0x0, 0x0, 0x0, 0x0⟩ /- TM_PORT_USED -/,
  ⟨0xE100C, 0x400, 77, 0x0, 1, 0xC01FFFFF, 0x0, 0x0, 0x0, 0xC01FFFFF, 0x0⟩ /- TM_PORT_SHP_RATE -/,
  ⟨0xE1010, 0x400, 77, 0x0, 1, 0xFFFFFF, 0x0, 0x0, 0x0, 0xFFFFFF, 0x0⟩ /- TM_PORT_SHP_BURST -/,
  ⟨0xE1014, 0x400, 77, 0x0, 1, 0x0, 0x0, 0x0, 0x0, 0x0, 0x0⟩ /- TM_PORT_SHP_LEVEL -/,
  ⟨0xE1018, 0x400, 76, 0x0, 1, 0x0, 0x0, 0x0, 0x0, 0x0, 0x0⟩ /- TM_CAL_STATUS -/,
  ⟨0xE101C, 0x400, 76, 0x0, 1, 0x0, 0x0, 0x0, 0x0, 0x1FFF, 0x0⟩ /- TM_CAL_LEN -/,
  ⟨0xE1020, 0x400, 76, 0x0, 1, 0x0, 0x0, 0x0, 0x0, 0xFFFFFFFF, 0x0⟩ /- TM_QMAP_0 -/,
  ⟨0xE1024, 0x400, 76, 0x0, 1, 0x0, 0x0, 0x0, 0x0, 0xFFFFFFFF, 0x0⟩ /- TM_QMAP_1 -/,
  ⟨0xE1028, 0x400, 76, 0x0, 1, 0x0, 0x0, 0x0, 0x0, 0xFFFF, 0x0⟩ /- TM_QGATED -/,
  ⟨0xE1100, 0x400, 77, 0x20, 16, 0x7FFFF, 0x0, 0x0, 0x0, 0x7FFFF, 0x0⟩ /- TM_Q_MIN -/,
  ⟨0xF4300, 0x20, 48, 0x0, 1, 0x7FFFF, 0x0, 0x0, 0x0, 0x7FFFF, 0x0⟩ /- TM_Q_MIN -/,
  ⟨0xE1104, 0x400, 77, 0x20, 16, 0x8FF7FFFF, 0x0, 0x0, 0x0, 0x8FF7FFFF, 0x0⟩ /- TM_Q_MAX -/]
def regsTM1 : List RegDef := [
  ⟨0xF4304, 0x20, 48, 0x0, 1, 0x8FF7FFFF, 0x0, 0x0, 0x0, 0x8FF7FFFF, 0x0⟩ /- TM_Q_MAX -/,
  ⟨0xE1108, 0x400, 77, 0x20, 16, 0xC01FFFFF, 0x0, 0x0, 0x0, 0xC01FFFFF, 0x0⟩ /- TM_Q_SHP_RATE -/,
  ⟨0xF4308, 0x20, 48, 0x0, 1, 0xC01FFFFF, 0x0, 0x0, 0x0, 0xC01FFFFF, 0x0⟩ /- TM_Q_SHP_RATE -/,
  ⟨0xE110C, 0x400, 77, 0x20, 16, 0xFFFFFF, 0x0, 0x0, 0x0, 0xFFFFFF, 0x0⟩ /- TM_Q_SHP_BURST -/,
  ⟨0xF430C, 0x20, 48, 0x0, 1, 0xFFFFFF, 0x0, 0x0, 0x0, 0xFFFFFF, 0x0⟩ /- TM_Q_SHP_BURST -/,
  ⟨0xE1110, 0x400, 77, 0x20, 16, 0x0, 0x0, 0x0, 0x0, 0x0, 0x0⟩ /- TM_Q_SHP_LEVEL -/,
  ⟨0xF4310, 0x20, 48, 0x0, 1, 0x0, 0x0, 0x0, 0x0, 0x0, 0x0⟩ /- TM_Q_SHP_LEVEL -/,
  ⟨0xE1114, 0x400, 77, 0x20, 16, 0x0, 0x0, 0x0, 0x0, 0x0, 0x0⟩ /- TM_Q_DEPTH -/,
  ⟨0xF4314, 0x20, 48, 0x0, 1, 0x0, 0x0, 0x0, 0x0, 0x0, 0x0⟩ /- TM_Q_DEPTH -/,
  ⟨0xE1118, 0x400, 77, 0x20, 16, 0x0, 0x0, 0x7FFFF, 0x0, 0x0, 0x0⟩ /- TM_Q_WATERMARK -/,
  ⟨0xF4318, 0x20, 48, 0x0, 1, 0x0, 0x0, 0x7FFFF, 0x0, 0x0, 0x0⟩ /- TM_Q_WATERMARK -/,
  ⟨0xE111C, 0x400, 77, 0x20, 16, 0x0, 0x0, 0xFFFFFFFF, 0x0, 0x0, 0x0⟩ /- TM_Q_SOJ_MAX -/,
  ⟨0xF431C, 0x20, 48, 0x0, 1, 0x0, 0x0, 0xFFFFFFFF, 0x0, 0x0, 0x0⟩ /- TM_Q_SOJ_MAX -/,
  ⟨0xFC000, 0x80, 8, 0x0, 1, 0xFFFFFC00, 0x0, 0x0, 0x0, 0xFFFFFC00, 0x0⟩ /- TM_MIR_CFG -/,
  ⟨0xFC004, 0x80, 8, 0x0, 1, 0xFFFF3FFF, 0x0, 0x0, 0x0, 0xFFFF3FFF, 0x0⟩ /- TM_MIR_TRUNC -/,
  ⟨0xFC008, 0x80, 8, 0x0, 1, 0xFFFFFFFF, 0x0, 0x0, 0x0, 0xFFFFFFFF, 0x0⟩ /- TM_MIR_NH_MAC_LO -/,
  ⟨0xFC00C, 0x80, 8, 0x0, 1, 0xFFFFFFFF, 0x0, 0x0, 0x0, 0xFFFFFFFF, 0x0⟩ /- TM_MIR_NH_MAC_HI -/,
  ⟨0xFC010, 0x80, 8, 0x0, 1, 0xFFFFFFFF, 0x0, 0x0, 0x0, 0xFFFFFFFF, 0x0⟩ /- TM_MIR_DEV_MAC_LO -/,
  ⟨0xFC014, 0x80, 8, 0x0, 1, 0xFFFF, 0x0, 0x0, 0x0, 0xFFFF, 0x0⟩ /- TM_MIR_DEV_MAC_HI -/,
  ⟨0xFC018, 0x80, 8, 0x0, 1, 0x13FFF, 0x0, 0x0, 0x0, 0x13FFF, 0x0⟩ /- TM_MIR_IP -/,
  ⟨0xFC01C, 0x80, 8, 0x0, 1, 0xFFFFFFFF, 0x0, 0x0, 0x0, 0xFFFFFFFF, 0x0⟩ /- TM_MIR_KEY -/,
  ⟨0xFC020, 0x80, 8, 0x4, 4, 0xFFFFFFFF, 0x0, 0x0, 0x0, 0xFFFFFFFF, 0x0⟩ /- TM_MIR_SRC_IP -/,
  ⟨0xFC030, 0x80, 8, 0x4, 4, 0xFFFFFFFF, 0x0, 0x0, 0x0, 0xFFFFFFFF, 0x0⟩ /- TM_MIR_DST_IP -/]
def regsTM : List RegDef := regsTM0 ++ regsTM1

def regsLDG : List RegDef := [
  ⟨0x100000, 0x0, 1, 0x0, 1, 0x0, 0x0, 0xF, 0x0, 0x0, 0x0⟩ /- LDG_INT_STAT -/,
  ⟨0x100004, 0x0, 1, 0x0, 1, 0xF, 0x0, 0x0, 0x0, 0x0, 0x0⟩ /- LDG_INT_EN -/,
  ⟨0x100008, 0x0, 1, 0x0, 1, 0xFFFFFF, 0xFFFFFF, 0x0, 0x0, 0x0, 0x40000⟩ /- LDG_COMMIT_MARGIN -/,
  ⟨0x10000C, 0x0, 1, 0x0, 1, 0x7F13FF, 0x0, 0x0, 0x0, 0x0, 0x0⟩ /- LDG_LINE_SEL -/,
  ⟨0x100010, 0x0, 1, 0x0, 1, 0x0, 0x0, 0x0, 0x0, 0x0, 0x0⟩ /- LDG_LINE_W0 -/,
  ⟨0x100014, 0x0, 1, 0x0, 1, 0x0, 0x0, 0x0, 0x0, 0x0, 0x0⟩ /- LDG_LINE_W1 -/,
  ⟨0x101000, 0x40, 72, 0x0, 1, 0xFFFF0000, 0x0, 0x0, 0x0, 0xFFFF0000, 0x0⟩ /- LDG_PORT_CFG -/,
  ⟨0x101004, 0x40, 72, 0x0, 1, 0x0, 0x0, 0x0, 0x0, 0xFFFFE7FF, 0x0⟩ /- LDG_PORT_INFO -/,
  ⟨0x101008, 0x40, 72, 0x0, 1, 0x0, 0x0, 0x0, 0x0, 0xFFFFFFFF, 0x0⟩ /- LDG_CYCLE -/,
  ⟨0x10100C, 0x40, 72, 0x0, 1, 0x0, 0x0, 0x0, 0x0, 0x0, 0xFFFF⟩ /- LDG_STATUS -/,
  ⟨0x101010, 0x40, 72, 0x0, 1, 0x0, 0x0, 0x0, 0x0, 0x0, 0x0⟩ /- LDG_ACT_START_HI -/,
  ⟨0x101014, 0x40, 72, 0x0, 1, 0x0, 0x0, 0x0, 0x0, 0x0, 0x0⟩ /- LDG_ACT_START_LO -/,
  ⟨0x101018, 0x40, 72, 0x0, 1, 0x0, 0x0, 0x0, 0x0, 0x0, 0x0⟩ /- LDG_ACT_START_SUB -/,
  ⟨0x10101C, 0x40, 72, 0x0, 1, 0xFFFF, 0x0, 0x0, 0x0, 0xFFFF, 0x0⟩ /- LDG_BASE_HI -/,
  ⟨0x101020, 0x40, 72, 0x0, 1, 0xFFFFFFFF, 0x0, 0x0, 0x0, 0xFFFFFFFF, 0x0⟩ /- LDG_BASE_LO -/,
  ⟨0x101024, 0x40, 72, 0x0, 1, 0x3FFFFFFF, 0x0, 0x0, 0x0, 0x3FFFFFFF, 0x0⟩ /- LDG_BASE_SUB -/]

def regsPHS0 : List RegDef := [
  ⟨0x120000, 0x0, 1, 0x0, 1, 0x0, 0x0, 0xFF, 0x0, 0x0, 0x0⟩ /- PHS_INT_STAT -/,
  ⟨0x120004, 0x0, 1, 0x0, 1, 0xFF, 0x0, 0x0, 0x0, 0x0, 0x0⟩ /- PHS_INT_EN -/,
  ⟨0x120008, 0x0, 1, 0x0, 1, 0x1FF, 0x0, 0x0, 0x0, 0x1FF, 0x0⟩ /- PHS_CTL -/,
  ⟨0x12000C, 0x0, 1, 0x0, 1, 0x0, 0x0, 0x0, 0x0, 0x0, 0x4⟩ /- PHS_STATUS -/,
  ⟨0x120010, 0x0, 1, 0x0, 1, 0x0, 0x0, 0x0, 0xF, 0x0, 0x0⟩ /- PHS_CMD -/,
  ⟨0x120014, 0x0, 1, 0x0, 1, 0x0, 0x0, 0x0, 0x0, 0x0, 0x0⟩ /- PHS_CMD_STATUS -/,
  ⟨0x120018, 0x0, 1, 0x0, 1, 0x0, 0x0, 0x0, 0x0, 0x0, 0x0⟩ /- PHS_FREQ -/,
  ⟨0x12001C, 0x0, 1, 0x0, 1, 0x0, 0x0, 0x0, 0x0, 0x0, 0x0⟩ /- PHS_FREQ_EST -/,
  ⟨0x120020, 0x0, 1, 0x0, 1, 0x0, 0x0, 0x0, 0x0, 0x0, 0x0⟩ /- PHS_PERIOD_NS -/,
  ⟨0x120024, 0x0, 1, 0x0, 1, 0xFFFFFFFF, 0x0, 0x0, 0x0, 0xFFFFFFFF, 0x0⟩ /- PHS_FREQ_LIMITS -/,
  ⟨0x120028, 0x0, 1, 0x0, 1, 0xFFFFFFFF, 0x0, 0x0, 0x0, 0xFFFFFFFF, 0x0⟩ /- PHS_QUAL_CFG -/,
  ⟨0x12002C, 0x0, 1, 0x0, 1, 0xFFFFFF, 0x0, 0x0, 0x0, 0xFFFFFF, 0x0⟩ /- PHS_SLEW_MAX -/,
  ⟨0x120030, 0x4, 2, 0x0, 1, 0xFFFFFF, 0x0, 0x0, 0x0, 0xFFFFFF, 0x0⟩ /- PHS_REF_OFFSET -/,
  ⟨0x120038, 0x0, 1, 0x0, 1, 0xFFFF, 0x0, 0x0, 0x0, 0xFFFF, 0x0⟩ /- PHS_MSG_LOSS_MS -/,
  ⟨0x120040, 0x0, 1, 0x0, 1, 0x0, 0x0, 0x0, 0x0, 0x0, 0x0⟩ /- PHS_LAT_CYCLE_HI -/,
  ⟨0x120044, 0x0, 1, 0x0, 1, 0x0, 0x0, 0x0, 0x0, 0x0, 0x0⟩ /- PHS_LAT_CYCLE_LO -/,
  ⟨0x120048, 0x0, 1, 0x0, 1, 0x0, 0x0, 0x0, 0x0, 0x0, 0x0⟩ /- PHS_LAT_PHASE -/,
  ⟨0x12004C, 0x0, 1, 0x0, 1, 0x0, 0x0, 0x0, 0x0, 0x0, 0x0⟩ /- PHS_LAT_SEC_HI -/,
  ⟨0x120050, 0x0, 1, 0x0, 1, 0x0, 0x0, 0x0, 0x0, 0x0, 0x0⟩ /- PHS_LAT_SEC_LO -/,
  ⟨0x120054, 0x0, 1, 0x0, 1, 0x0, 0x0, 0x0, 0x0, 0x0, 0x0⟩ /- PHS_LAT_NS -/,
  ⟨0x120058, 0x0, 1, 0x0, 1, 0x0, 0x0, 0x0, 0x0, 0x0, 0x0⟩ /- PHS_LAT_FRAC -/,
  ⟨0x120060, 0x0, 1, 0x0, 1, 0xFF, 0x0, 0x0, 0x0, 0x0, 0x0⟩ /- PHS_MSG_CYCLE_HI -/,
  ⟨0x120064, 0x0, 1, 0x0, 1, 0xFFFFFFFF, 0x0, 0x0, 0x0, 0x0, 0x0⟩ /- PHS_MSG_CYCLE_LO -/,
  ⟨0x120068, 0x0, 1, 0x0, 1, 0xFFFFFF, 0x0, 0x0, 0x0, 0x0, 0x0⟩ /- PHS_MSG_PHASE -/]
def regsPHS1 : List RegDef := [
  ⟨0x12006C, 0x0, 1, 0x0, 1, 0xFFFF, 0x0, 0x0, 0x0, 0x0, 0x0⟩ /- PHS_MSG_SEC_HI -/,
  ⟨0x120070, 0x0, 1, 0x0, 1, 0xFFFFFFFF, 0x0, 0x0, 0x0, 0x0, 0x0⟩ /- PHS_MSG_SEC_LO -/,
  ⟨0x120074, 0x0, 1, 0x0, 1, 0x3FFFFFFF, 0x0, 0x0, 0x0, 0x0, 0x0⟩ /- PHS_MSG_NS -/,
  ⟨0x120078, 0x0, 1, 0x0, 1, 0x0, 0x0, 0x0, 0x1, 0x0, 0x0⟩ /- PHS_MSG_POST -/,
  ⟨0x120080, 0x0, 1, 0x0, 1, 0xFF, 0x0, 0x0, 0x0, 0x0, 0x0⟩ /- PHS_SET_CYCLE_HI -/,
  ⟨0x120084, 0x0, 1, 0x0, 1, 0xFFFFFFFF, 0x0, 0x0, 0x0, 0x0, 0x0⟩ /- PHS_SET_CYCLE_LO -/,
  ⟨0x120090, 0x0, 1, 0x0, 1, 0x0, 0x0, 0xFFFFFFFF, 0x0, 0x0, 0x0⟩ /- PHS_TA_FIRED -/,
  ⟨0x120100, 0x20, 32, 0x0, 1, 0xFF, 0x0, 0x0, 0x0, 0x0, 0x0⟩ /- PHS_TA_CYCLE_HI -/,
  ⟨0x120104, 0x20, 32, 0x0, 1, 0xFFFFFFFF, 0x0, 0x0, 0x0, 0x0, 0x0⟩ /- PHS_TA_CYCLE_LO -/,
  ⟨0x120108, 0x20, 32, 0x0, 1, 0xFFFFFF, 0x0, 0x0, 0x0, 0x0, 0x0⟩ /- PHS_TA_PHASE -/,
  ⟨0x12010C, 0x20, 32, 0x0, 1, 0xC3FFFC0F, 0x0, 0x0, 0x0, 0x0, 0x0⟩ /- PHS_TA_CTL -/,
  ⟨0x120110, 0x20, 32, 0x0, 1, 0xFFFFFFFF, 0x0, 0x0, 0x0, 0x0, 0x0⟩ /- PHS_TA_ARG -/,
  ⟨0x120114, 0x20, 32, 0x0, 1, 0x0, 0x0, 0xFFFF0007, 0x0, 0x0, 0x0⟩ /- PHS_TA_STATUS -/,
  ⟨0x120118, 0x20, 32, 0x0, 1, 0x0, 0x0, 0x0, 0x0, 0x0, 0x0⟩ /- PHS_TA_LATE -/]
def regsPHS : List RegDef := regsPHS0 ++ regsPHS1

def regsTIM0 : List RegDef := [
  ⟨0x130000, 0x0, 1, 0x0, 1, 0x0, 0x0, 0x1FF, 0x0, 0x0, 0x0⟩ /- TIM_INT_STAT -/,
  ⟨0x130004, 0x0, 1, 0x0, 1, 0x1FF, 0x0, 0x0, 0x0, 0x0, 0x0⟩ /- TIM_INT_EN -/,
  ⟨0x130008, 0x0, 1, 0x0, 1, 0x1FE, 0x0, 0x0, 0x0, 0x1FE, 0x0⟩ /- TIM_CTL -/,
  ⟨0x13000C, 0x0, 1, 0x0, 1, 0x0, 0x0, 0x0, 0x0, 0x0, 0x0⟩ /- TIM_STATUS -/,
  ⟨0x130010, 0x0, 1, 0x0, 1, 0x0, 0x0, 0x0, 0x3F, 0x0, 0x0⟩ /- TIM_CMD -/,
  ⟨0x130014, 0x0, 1, 0x0, 1, 0x0, 0x0, 0x0, 0x0, 0x0, 0x0⟩ /- TIM_CMD_STATUS -/,
  ⟨0x130020, 0x0, 1, 0x0, 1, 0x0, 0x0, 0x0, 0x0, 0x0, 0x0⟩ /- TIM_LAT_SEC_HI -/,
  ⟨0x130024, 0x0, 1, 0x0, 1, 0x0, 0x0, 0x0, 0x0, 0x0, 0x0⟩ /- TIM_LAT_SEC_LO -/,
  ⟨0x130028, 0x0, 1, 0x0, 1, 0x0, 0x0, 0x0, 0x0, 0x0, 0x0⟩ /- TIM_LAT_NS -/,
  ⟨0x13002C, 0x0, 1, 0x0, 1, 0x0, 0x0, 0x0, 0x0, 0x0, 0x0⟩ /- TIM_LAT_FRAC -/,
  ⟨0x130030, 0x0, 1, 0x0, 1, 0xFFFF, 0x0, 0x0, 0x0, 0x0, 0x0⟩ /- TIM_STEP_SEC_HI -/,
  ⟨0x130034, 0x0, 1, 0x0, 1, 0xFFFFFFFF, 0x0, 0x0, 0x0, 0x0, 0x0⟩ /- TIM_STEP_SEC_LO -/,
  ⟨0x130038, 0x0, 1, 0x0, 1, 0x3FFFFFFF, 0x0, 0x0, 0x0, 0x0, 0x0⟩ /- TIM_STEP_NS -/,
  ⟨0x13003C, 0x0, 1, 0x0, 1, 0xFFFF, 0x0, 0x0, 0x0, 0x0, 0x0⟩ /- TIM_STEP_FRAC -/,
  ⟨0x130040, 0x0, 1, 0x0, 1, 0xFFFFFFFF, 0x0, 0x0, 0x0, 0x0, 0x0⟩ /- TIM_SMP_OFF_HI -/,
  ⟨0x130044, 0x0, 1, 0x0, 1, 0xFFFFFFFF, 0x0, 0x0, 0x0, 0x0, 0x0⟩ /- TIM_SMP_OFF_LO -/,
  ⟨0x130048, 0x0, 1, 0x0, 1, 0xFFFFFFFF, 0x0, 0x0, 0x0, 0x0, 0x0⟩ /- TIM_SMP_SEC_LO -/,
  ⟨0x13004C, 0x0, 1, 0x0, 1, 0x3FFFFFFF, 0x0, 0x0, 0x0, 0x0, 0x0⟩ /- TIM_SMP_NS -/,
  ⟨0x130050, 0x0, 1, 0x0, 1, 0x0, 0x0, 0x0, 0x3, 0x0, 0x0⟩ /- TIM_SMP_POST -/,
  ⟨0x130060, 0x0, 1, 0x0, 1, 0xFFFFFFFF, 0x0, 0x0, 0x0, 0xFFFFFFFF, 0x0⟩ /- TIM_SERVO_GAIN -/,
  ⟨0x130064, 0x0, 1, 0x0, 1, 0x1FFFFF, 0x0, 0x0, 0x0, 0x1FFFFF, 0x0⟩ /- TIM_SERVO_LIMIT -/,
  ⟨0x130068, 0x0, 1, 0x0, 1, 0xFFFFFFFF, 0x0, 0x0, 0x0, 0x0, 0x0⟩ /- TIM_FREQ_ADJ -/,
  ⟨0x13006C, 0x0, 1, 0x0, 1, 0x0, 0x0, 0x0, 0x0, 0x0, 0x0⟩ /- TIM_FREQ_NOW -/,
  ⟨0x130070, 0x0, 1, 0x0, 1, 0xFFFFF, 0x0, 0x0, 0x0, 0xFFFFF, 0x0⟩ /- TIM_JUMP_THR -/]
def regsTIM1 : List RegDef := [
  ⟨0x130074, 0x0, 1, 0x0, 1, 0xFFFF, 0x0, 0x0, 0x0, 0xFFFF, 0x0⟩ /- TIM_LOCK_THR -/,
  ⟨0x130078, 0x0, 1, 0x0, 1, 0xFFFF, 0x0, 0x0, 0x0, 0xFFFF, 0x0⟩ /- TIM_LOSS_MS -/,
  ⟨0x13007C, 0x0, 1, 0x0, 1, 0xF00FFFFF, 0x0, 0x0, 0x0, 0xF00FFFFF, 0x0⟩ /- TIM_FILT_CFG -/,
  ⟨0x130080, 0x0, 1, 0x0, 1, 0x0, 0x0, 0x0, 0x0, 0x0, 0x0⟩ /- TIM_BIAS_HI -/,
  ⟨0x130084, 0x0, 1, 0x0, 1, 0x0, 0x0, 0x0, 0x0, 0x0, 0x0⟩ /- TIM_BIAS_LO -/,
  ⟨0x130088, 0x0, 1, 0x0, 1, 0x0, 0x0, 0x0, 0x0, 0x0, 0x0⟩ /- TIM_FILT_A_HI -/,
  ⟨0x13008C, 0x0, 1, 0x0, 1, 0x0, 0x0, 0x0, 0x0, 0x0, 0x0⟩ /- TIM_FILT_A_LO -/,
  ⟨0x130090, 0x0, 1, 0x0, 1, 0x0, 0x0, 0x0, 0x0, 0x0, 0x0⟩ /- TIM_FILT_B_HI -/,
  ⟨0x130094, 0x0, 1, 0x0, 1, 0x0, 0x0, 0x0, 0x0, 0x0, 0x0⟩ /- TIM_FILT_B_LO -/,
  ⟨0x1300A0, 0x0, 1, 0x0, 1, 0xFFFF, 0x0, 0x0, 0x0, 0xFFFF, 0x0⟩ /- TIM_UTC_OFFSET -/,
  ⟨0x1300A4, 0x0, 1, 0x0, 1, 0x3FF, 0x0, 0x0, 0x0, 0x0, 0x64⟩ /- TIM_PPS_CFG -/,
  ⟨0x1300A8, 0x0, 1, 0x0, 1, 0xFFFFFFFF, 0xFFFFFFFF, 0x0, 0x0, 0x0, 0x0⟩ /- TIM_PPS_IN_ADJ -/,
  ⟨0x1300B0, 0x0, 1, 0x0, 1, 0x0, 0x0, 0x0, 0x0, 0x0, 0x0⟩ /- TIM_PPS_CAP_SEC_HI -/,
  ⟨0x1300B4, 0x0, 1, 0x0, 1, 0x0, 0x0, 0x0, 0x0, 0x0, 0x0⟩ /- TIM_PPS_CAP_SEC_LO -/,
  ⟨0x1300B8, 0x0, 1, 0x0, 1, 0x0, 0x0, 0x0, 0x0, 0x0, 0x0⟩ /- TIM_PPS_CAP_NS -/,
  ⟨0x1300BC, 0x0, 1, 0x0, 1, 0x0, 0x0, 0x0, 0x0, 0x0, 0x0⟩ /- TIM_PPS_CAP_FRAC -/,
  ⟨0x130100, 0x0, 1, 0x0, 1, 0x0, 0x0, 0x0, 0x0, 0x0, 0x0⟩ /- TIM_TXTS_W0 -/,
  ⟨0x130104, 0x0, 1, 0x0, 1, 0x0, 0x0, 0x0, 0x0, 0x0, 0x0⟩ /- TIM_TXTS_W1 -/,
  ⟨0x130108, 0x0, 1, 0x0, 1, 0x0, 0x0, 0x0, 0x0, 0x0, 0x0⟩ /- TIM_TXTS_W2 -/,
  ⟨0x13010C, 0x0, 1, 0x0, 1, 0x0, 0x0, 0x3FFFFFFF, 0x0, 0x0, 0x0⟩ /- TIM_TXTS_W3 -/,
  ⟨0x130110, 0x0, 1, 0x0, 1, 0x0, 0x0, 0x0, 0x0, 0x0, 0x0⟩ /- TIM_TXTS_LEVEL -/,
  ⟨0x131000, 0x10, 72, 0x0, 1, 0x1, 0x1, 0x0, 0x0, 0x0, 0x0⟩ /- TIM_PORT_CFG -/,
  ⟨0x131004, 0x10, 72, 0x0, 1, 0xFFFFFFFF, 0xFFFFFFFF, 0x0, 0x0, 0x0, 0x0⟩ /- TIM_PORT_PDELAY -/]
def regsTIM : List RegDef := regsTIM0 ++ regsTIM1

def regsFAB0 : List RegDef := [
  ⟨0x140000, 0x0, 1, 0x0, 1, 0x0, 0x0, 0x1FFF, 0x0, 0x0, 0x0⟩ /- FAB_INT_STAT -/,
  ⟨0x140004, 0x0, 1, 0x0, 1, 0x1FFF, 0x0, 0x0, 0x0, 0x0, 0x0⟩ /- FAB_INT_EN -/,
  ⟨0x140008, 0x0, 1, 0x0, 1, 0xFFC002, 0x0, 0x0, 0x0, 0xFFC002, 0x0⟩ /- FAB_CTL -/,
  ⟨0x14000C, 0x0, 1, 0x0, 1, 0x0, 0x0, 0x0, 0x0, 0x0, 0x0⟩ /- FAB_STATUS -/,
  ⟨0x140010, 0x0, 1, 0x0, 1, 0x0, 0x0, 0x0, 0x7F0F, 0x0, 0x0⟩ /- FAB_CMD -/,
  ⟨0x140014, 0x0, 1, 0x0, 1, 0x0, 0x0, 0x0, 0x0, 0x0, 0x0⟩ /- FAB_CMD_STATUS -/,
  ⟨0x140018, 0x0, 1, 0x0, 1, 0xFFFF, 0xFFFF, 0x0, 0x0, 0x0, 0x88B5⟩ /- FAB_ETYPE -/,
  ⟨0x14001C, 0x0, 1, 0x0, 1, 0xFFFFFFFF, 0xFFFFFFFF, 0x0, 0x0, 0x0, 0x73000001⟩ /- FAB_MAC_LO -/,
  ⟨0x140020, 0x0, 1, 0x0, 1, 0xFFFF, 0xFFFF, 0x0, 0x0, 0x0, 0xB1E⟩ /- FAB_MAC_HI -/,
  ⟨0x140024, 0x0, 1, 0x0, 1, 0xFFFFFFFF, 0x0, 0x0, 0x0, 0xFFFFFFFF, 0x0⟩ /- FAB_DEV_MAC_LO -/,
  ⟨0x140028, 0x0, 1, 0x0, 1, 0xFFFF, 0x0, 0x0, 0x0, 0xFFFF, 0x0⟩ /- FAB_DEV_MAC_HI -/,
  ⟨0x14002C, 0x0, 1, 0x0, 1, 0xFFFF, 0xFFFF, 0x0, 0x0, 0xFFFF, 0x0⟩ /- FAB_SELF -/,
  ⟨0x140030, 0x0, 1, 0x0, 1, 0x0, 0x0, 0x0, 0x0, 0xFFFFFFFF, 0x0⟩ /- FAB_FABRIC_ID -/,
  ⟨0x140034, 0x0, 1, 0x0, 1, 0x0, 0x0, 0x0, 0x0, 0x0, 0x0⟩ /- FAB_TERM -/,
  ⟨0x140038, 0x0, 1, 0x0, 1, 0xFFFF003F, 0x0, 0x0, 0x0, 0xFFFF003F, 0x0⟩ /- FAB_TIME_CFG -/,
  ⟨0x14003C, 0x0, 1, 0x0, 1, 0xFFFF, 0x0, 0x0, 0x0, 0xFFFF, 0x0⟩ /- FAB_HB_LOSS_MS -/,
  ⟨0x140040, 0x0, 1, 0x0, 1, 0x0, 0x0, 0x0, 0x0, 0x0, 0x0⟩ /- FAB_KEYS -/,
  ⟨0x140044, 0x0, 1, 0x0, 1, 0x8000007F, 0x0, 0x0, 0x0, 0x0, 0x30⟩ /- FAB_TRIG_CTL -/,
  ⟨0x140048, 0x0, 1, 0x0, 1, 0xFF, 0x0, 0x0, 0x0, 0x0, 0x0⟩ /- FAB_TRIG_CYCLE_HI -/,
  ⟨0x14004C, 0x0, 1, 0x0, 1, 0xFFFFFFFF, 0x0, 0x0, 0x0, 0x0, 0x0⟩ /- FAB_TRIG_CYCLE_LO -/,
  ⟨0x140050, 0x0, 1, 0x0, 1, 0xFFFFFF, 0x0, 0x0, 0x0, 0x0, 0x0⟩ /- FAB_TRIG_PHASE -/,
  ⟨0x140054, 0x0, 1, 0x0, 1, 0xFFFFFFFF, 0x0, 0x0, 0x0, 0x0, 0x0⟩ /- FAB_TRIG_ARG -/,
  ⟨0x140058, 0x0, 1, 0x0, 1, 0xFFFFFFFF, 0x0, 0x0, 0x0, 0x0, 0x0⟩ /- FAB_TRIG_FSEQ_HI -/,
  ⟨0x14005C, 0x0, 1, 0x0, 1, 0xFFFFFFFF, 0x0, 0x0, 0x0, 0x0, 0x0⟩ /- FAB_TRIG_FSEQ_LO -/]
def regsFAB1 : List RegDef := [
  ⟨0x140060, 0x0, 1, 0x0, 1, 0xFFFFFF, 0xFFFFFF, 0x0, 0x0, 0x0, 0x400000⟩ /- FAB_TRIG_LEAD -/,
  ⟨0x140064, 0x0, 1, 0x0, 1, 0x0, 0x0, 0x0, 0x0, 0x0, 0x0⟩ /- FAB_TRIG_LAST_ID -/,
  ⟨0x140068, 0x0, 1, 0x0, 1, 0x0, 0x0, 0x0, 0x0, 0x0, 0x0⟩ /- FAB_TRIG_LAST_RES -/,
  ⟨0x14006C, 0x0, 1, 0x0, 1, 0x0, 0x0, 0x0, 0x0, 0x0, 0x0⟩ /- FAB_JOIN_LEVEL -/,
  ⟨0x141000, 0x20, 72, 0x0, 1, 0x3, 0x0, 0x0, 0x0, 0x3, 0x0⟩ /- FAB_PORT_CFG -/,
  ⟨0x141004, 0x20, 72, 0x0, 1, 0x0, 0x0, 0x0, 0x0, 0x0, 0x0⟩ /- FAB_PORT_STATUS -/,
  ⟨0x141008, 0x20, 72, 0x0, 1, 0x0, 0x0, 0x0, 0x0, 0x0, 0x0⟩ /- FAB_PORT_DELAY -/,
  ⟨0x14100C, 0x20, 72, 0x0, 1, 0xFFFFFFFF, 0x0, 0x0, 0x0, 0xFFFFFFFF, 0x0⟩ /- FAB_PORT_DELAY_FIX -/]
def regsFAB : List RegDef := regsFAB0 ++ regsFAB1

def regsPOR0 : List RegDef := [
  ⟨0x150000, 0x0, 1, 0x0, 1, 0x0, 0x0, 0x7F, 0x0, 0x0, 0x0⟩ /- POR_INT_STAT -/,
  ⟨0x150004, 0x0, 1, 0x0, 1, 0x7F, 0x0, 0x0, 0x0, 0x0, 0x0⟩ /- POR_INT_EN -/,
  ⟨0x150008, 0x0, 1, 0x0, 1, 0x77F, 0x77F, 0x0, 0x0, 0x0, 0x610⟩ /- POR_CTL -/,
  ⟨0x150010, 0x0, 1, 0x0, 1, 0x0, 0x0, 0x0, 0xF7F, 0x0, 0x0⟩ /- POR_CMD -/,
  ⟨0x150014, 0x0, 1, 0x0, 1, 0xFFFFFFFF, 0x0, 0x0, 0x0, 0x0, 0x0⟩ /- POR_CMD_HANDLE -/,
  ⟨0x150018, 0x0, 1, 0x0, 1, 0xFFFF, 0x0, 0x0, 0x0, 0x0, 0x0⟩ /- POR_CMD_ARG -/,
  ⟨0x15001C, 0x0, 1, 0x0, 1, 0x0, 0x0, 0x0, 0x0, 0x0, 0x0⟩ /- POR_CMD_STATUS -/,
  ⟨0x150020, 0x0, 1, 0x0, 1, 0x0, 0x0, 0x0, 0x0, 0x0, 0x0⟩ /- POR_CMD_RESULT -/,
  ⟨0x150030, 0x0, 1, 0x0, 1, 0xFFFFFFFF, 0xFFFFFFFF, 0x0, 0x0, 0x0, 0x0⟩ /- POR_RET_BASE_HI -/,
  ⟨0x150034, 0x0, 1, 0x0, 1, 0xFFFFFFC0, 0xFFFFFFC0, 0x0, 0x0, 0x0, 0x0⟩ /- POR_RET_BASE_LO -/,
  ⟨0x150038, 0x0, 1, 0x0, 1, 0x1F, 0x1F, 0x0, 0x0, 0x0, 0x6⟩ /- POR_RET_SIZE -/,
  ⟨0x15003C, 0x0, 1, 0x0, 1, 0xFFFFFFFF, 0xFFFFFFFF, 0x0, 0x0, 0x0, 0x0⟩ /- POR_RET_HEAD -/,
  ⟨0x150040, 0x0, 1, 0x0, 1, 0xFFFFFFFF, 0xFFFFFFFF, 0x0, 0x0, 0x0, 0x0⟩ /- POR_RET_TAIL -/,
  ⟨0x150044, 0x0, 1, 0x0, 1, 0x1, 0x0, 0x0, 0x0, 0x0, 0x0⟩ /- POR_RET_CTL -/,
  ⟨0x150050, 0x4, 2, 0x0, 1, 0x0, 0x0, 0x0, 0x0, 0x0, 0x0⟩ /- POR_RX_STARVED -/,
  ⟨0x150100, 0x40, 8, 0x0, 1, 0x0, 0x0, 0x0, 0x0, 0x7FFF, 0x0⟩ /- POR_POOL_SIZE -/,
  ⟨0x150104, 0x40, 8, 0x0, 1, 0x1, 0x0, 0x0, 0x2, 0x0, 0x0⟩ /- POR_POOL_CTL -/,
  ⟨0x150108, 0x40, 8, 0x0, 1, 0xFFFFF, 0xFFFFF, 0x0, 0x0, 0x0, 0x0⟩ /- POR_POOL_FIRST -/,
  ⟨0x15010C, 0x40, 8, 0x0, 1, 0x1FFFFF, 0x1FFFFF, 0x0, 0x0, 0x0, 0x0⟩ /- POR_POOL_COUNT -/,
  ⟨0x150110, 0x40, 8, 0x0, 1, 0xFFFFFFFF, 0xFFFFFFFF, 0x0, 0x0, 0x0, 0x0⟩ /- POR_POOL_BASE_HI -/,
  ⟨0x150114, 0x40, 8, 0x0, 1, 0xFFFFFF80, 0xFFFFFF80, 0x0, 0x0, 0x0, 0x0⟩ /- POR_POOL_BASE_LO -/,
  ⟨0x150118, 0x40, 8, 0x0, 1, 0xFFFFFFFF, 0xFFFFFFFF, 0x0, 0x0, 0x0, 0x0⟩ /- POR_RING_BASE_HI -/,
  ⟨0x15011C, 0x40, 8, 0x0, 1, 0xFFFFFFC0, 0xFFFFFFC0, 0x0, 0x0, 0x0, 0x0⟩ /- POR_RING_BASE_LO -/,
  ⟨0x150120, 0x40, 8, 0x0, 1, 0x1F, 0x1F, 0x0, 0x0, 0x0, 0x6⟩ /- POR_RING_SIZE -/]
def regsPOR1 : List RegDef := [
  ⟨0x150124, 0x40, 8, 0x0, 1, 0xFFFFFFFF, 0xFFFFFFFF, 0x0, 0x0, 0x0, 0x0⟩ /- POR_RING_HEAD -/,
  ⟨0x150128, 0x40, 8, 0x0, 1, 0xFFFFFFFF, 0xFFFFFFFF, 0x0, 0x0, 0x0, 0x0⟩ /- POR_RING_TAIL -/,
  ⟨0x15012C, 0x40, 8, 0x0, 1, 0x0, 0x0, 0x0, 0x0, 0x0, 0x0⟩ /- POR_POOL_CACHE -/,
  ⟨0x150130, 0x40, 8, 0x0, 1, 0x0, 0x0, 0x0, 0x0, 0x0, 0x0⟩ /- POR_POOL_FREE -/,
  ⟨0x150400, 0x4, 64, 0x0, 1, 0xFFFFFF, 0xFFFFFF, 0x0, 0x0, 0x0, 0xFF0001⟩ /- POR_RX_CFG -/]
def regsPOR : List RegDef := regsPOR0 ++ regsPOR1

def regsDRY0 : List RegDef := [
  ⟨0x160000, 0x0, 1, 0x0, 1, 0x1, 0x0, 0x0, 0x0, 0x0, 0x0⟩ /- DRY_CTL -/,
  ⟨0x160004, 0x0, 1, 0x0, 1, 0x0, 0x0, 0x0, 0x0, 0x0, 0x1000080⟩ /- DRY_LIMITS -/,
  ⟨0x161000, 0x40, 64, 0x0, 1, 0x70007, 0x0, 0x0, 0x0, 0x0, 0x4⟩ /- DRY_RX_CFG -/,
  ⟨0x161004, 0x40, 64, 0x0, 1, 0x1, 0x0, 0x0, 0x6, 0x0, 0x0⟩ /- DRY_RX_CTL -/,
  ⟨0x161008, 0x40, 64, 0x0, 1, 0x0, 0x0, 0x0, 0x0, 0x0, 0x0⟩ /- DRY_RX_STATUS -/,
  ⟨0x16100C, 0x40, 64, 0x0, 1, 0xFFFFFFFF, 0x0, 0x0, 0x0, 0x0, 0x0⟩ /- DRY_RX_FIRST_HI -/,
  ⟨0x161010, 0x40, 64, 0x0, 1, 0xFFFFFFC0, 0x0, 0x0, 0x0, 0x0, 0x0⟩ /- DRY_RX_FIRST_LO -/,
  ⟨0x161014, 0x40, 64, 0x0, 1, 0x0, 0x0, 0x0, 0x0, 0x0, 0x0⟩ /- DRY_RX_CUR_HI -/,
  ⟨0x161018, 0x40, 64, 0x0, 1, 0x0, 0x0, 0x0, 0x0, 0x0, 0x0⟩ /- DRY_RX_CUR_LO -/,
  ⟨0x16101C, 0x40, 64, 0x0, 1, 0xFFFFFFFF, 0x0, 0x0, 0x0, 0x0, 0x0⟩ /- DRY_RX_POSTED -/,
  ⟨0x161020, 0x40, 64, 0x0, 1, 0x0, 0x0, 0x0, 0x0, 0x0, 0x0⟩ /- DRY_RX_DONE -/,
  ⟨0x161024, 0x40, 64, 0x0, 1, 0xFFFFFF, 0x0, 0x0, 0x0, 0x0, 0x1⟩ /- DRY_RX_INT_MOD -/,
  ⟨0x161028, 0x40, 64, 0x0, 1, 0x0, 0x0, 0xF, 0x0, 0x0, 0x0⟩ /- DRY_RX_INT_STAT -/,
  ⟨0x16102C, 0x40, 64, 0x0, 1, 0xF, 0x0, 0x0, 0x0, 0x0, 0x0⟩ /- DRY_RX_INT_EN -/,
  ⟨0x162000, 0x40, 64, 0x0, 1, 0x7, 0x0, 0x0, 0x0, 0x0, 0x4⟩ /- DRY_TX_CFG -/,
  ⟨0x162004, 0x40, 64, 0x0, 1, 0x1, 0x0, 0x0, 0x6, 0x0, 0x0⟩ /- DRY_TX_CTL -/,
  ⟨0x162008, 0x40, 64, 0x0, 1, 0x0, 0x0, 0x0, 0x0, 0x0, 0x0⟩ /- DRY_TX_STATUS -/,
  ⟨0x16200C, 0x40, 64, 0x0, 1, 0xFFFFFFFF, 0x0, 0x0, 0x0, 0x0, 0x0⟩ /- DRY_TX_FIRST_HI -/,
  ⟨0x162010, 0x40, 64, 0x0, 1, 0xFFFFFFC0, 0x0, 0x0, 0x0, 0x0, 0x0⟩ /- DRY_TX_FIRST_LO -/,
  ⟨0x162014, 0x40, 64, 0x0, 1, 0x0, 0x0, 0x0, 0x0, 0x0, 0x0⟩ /- DRY_TX_CUR_HI -/,
  ⟨0x162018, 0x40, 64, 0x0, 1, 0x0, 0x0, 0x0, 0x0, 0x0, 0x0⟩ /- DRY_TX_CUR_LO -/,
  ⟨0x16201C, 0x40, 64, 0x0, 1, 0xFFFFFFFF, 0x0, 0x0, 0x0, 0x0, 0x0⟩ /- DRY_TX_POSTED -/,
  ⟨0x162020, 0x40, 64, 0x0, 1, 0x0, 0x0, 0x0, 0x0, 0x0, 0x0⟩ /- DRY_TX_DONE -/,
  ⟨0x162028, 0x40, 64, 0x0, 1, 0x0, 0x0, 0xF, 0x0, 0x0, 0x0⟩ /- DRY_TX_INT_STAT -/]
def regsDRY1 : List RegDef := [
  ⟨0x16202C, 0x40, 64, 0x0, 1, 0xF, 0x0, 0x0, 0x0, 0x0, 0x0⟩ /- DRY_TX_INT_EN -/,
  ⟨0x163000, 0x40, 16, 0x0, 1, 0x7, 0x0, 0x0, 0x0, 0x0, 0x2⟩ /- DRY_ERR_CFG -/,
  ⟨0x163004, 0x40, 16, 0x0, 1, 0x0, 0x0, 0x0, 0x7, 0x0, 0x0⟩ /- DRY_ERR_CTL -/,
  ⟨0x163008, 0x40, 16, 0x0, 1, 0x0, 0x0, 0x0, 0x0, 0x0, 0x0⟩ /- DRY_ERR_STATUS -/,
  ⟨0x16300C, 0x40, 16, 0x0, 1, 0xFFFFFFFF, 0x0, 0x0, 0x0, 0x0, 0x0⟩ /- DRY_ERR_PROG_HI -/,
  ⟨0x163010, 0x40, 16, 0x0, 1, 0xFFFFFFE0, 0x0, 0x0, 0x0, 0x0, 0x0⟩ /- DRY_ERR_PROG_LO -/,
  ⟨0x163014, 0x40, 16, 0x0, 1, 0x0, 0x0, 0x0, 0x0, 0x0, 0x0⟩ /- DRY_ERR_ITER -/,
  ⟨0x163018, 0x40, 16, 0x0, 1, 0x0, 0x0, 0x0, 0x0, 0x0, 0x0⟩ /- DRY_ERR_REMAIN -/,
  ⟨0x16301C, 0x40, 16, 0x0, 1, 0x0, 0x0, 0x0, 0x0, 0x0, 0x0⟩ /- DRY_ERR_SIGNAL -/,
  ⟨0x163028, 0x40, 16, 0x0, 1, 0x0, 0x0, 0xF, 0x0, 0x0, 0x0⟩ /- DRY_ERR_INT_STAT -/,
  ⟨0x16302C, 0x40, 16, 0x0, 1, 0xF, 0x0, 0x0, 0x0, 0x0, 0x0⟩ /- DRY_ERR_INT_EN -/]
def regsDRY : List RegDef := regsDRY0 ++ regsDRY1

def regsTAL0 : List RegDef := [
  ⟨0x180000, 0x0, 1, 0x0, 1, 0x0, 0x0, 0xF, 0x0, 0x0, 0x0⟩ /- TAL_INT_STAT -/,
  ⟨0x180004, 0x0, 1, 0x0, 1, 0xF, 0x0, 0x0, 0x0, 0x0, 0x0⟩ /- TAL_INT_EN -/,
  ⟨0x180008, 0x0, 1, 0x0, 1, 0x7, 0x7, 0x0, 0x0, 0x0, 0x3⟩ /- TAL_CTL -/,
  ⟨0x18000C, 0x0, 1, 0x0, 1, 0x0, 0x0, 0x0, 0xFFFFFFFF, 0x0, 0x0⟩ /- TAL_SNAP_CMD -/,
  ⟨0x180010, 0x0, 1, 0x0, 1, 0x0, 0xFFFFFFFF, 0x0, 0x0, 0x0, 0x0⟩ /- TAL_SNAP_SEQ -/,
  ⟨0x180014, 0x0, 1, 0x0, 1, 0x0, 0x0, 0x0, 0x0, 0x0, 0x0⟩ /- TAL_SNAP_MASK -/,
  ⟨0x180018, 0x0, 1, 0x0, 1, 0x0, 0x0, 0x0, 0x0, 0x0, 0x0⟩ /- TAL_SNAP_SRC -/,
  ⟨0x18001C, 0x0, 1, 0x0, 1, 0x0, 0x0, 0x0, 0x0, 0x0, 0x0⟩ /- TAL_SNAP_SEC_HI -/,
  ⟨0x180020, 0x0, 1, 0x0, 1, 0x0, 0x0, 0x0, 0x0, 0x0, 0x0⟩ /- TAL_SNAP_SEC_LO -/,
  ⟨0x180024, 0x0, 1, 0x0, 1, 0x0, 0x0, 0x0, 0x0, 0x0, 0x0⟩ /- TAL_SNAP_NS -/,
  ⟨0x180028, 0x0, 1, 0x0, 1, 0x0, 0x0, 0x0, 0x0, 0x0, 0x0⟩ /- TAL_SNAP_FRAC -/,
  ⟨0x18002C, 0x0, 1, 0x0, 1, 0x0, 0x0, 0x0, 0x0, 0x0, 0x0⟩ /- TAL_SNAP_CYCLE_HI -/,
  ⟨0x180030, 0x0, 1, 0x0, 1, 0x0, 0x0, 0x0, 0x0, 0x0, 0x0⟩ /- TAL_SNAP_CYCLE_LO -/,
  ⟨0x180034, 0x0, 1, 0x0, 1, 0x0, 0x0, 0x0, 0x0, 0x0, 0x0⟩ /- TAL_SNAP_PHASE -/,
  ⟨0x180038, 0x0, 1, 0x0, 1, 0x0, 0x0, 0x0, 0xFFFFFFFF, 0x0, 0x0⟩ /- TAL_CLEAR -/,
  ⟨0x180040, 0x0, 1, 0x0, 1, 0x0, 0x0, 0x0, 0x7, 0x0, 0x0⟩ /- TAL_HV_CMD -/,
  ⟨0x180044, 0x0, 1, 0x0, 1, 0xFFFFFFFF, 0x0, 0x0, 0x0, 0x0, 0x0⟩ /- TAL_HV_MASK -/,
  ⟨0x180048, 0x0, 1, 0x0, 1, 0xFFFFFFFF, 0x0, 0x0, 0x0, 0x0, 0x0⟩ /- TAL_HV_ADDR_HI -/,
  ⟨0x18004C, 0x0, 1, 0x0, 1, 0xFFFFFFC0, 0x0, 0x0, 0x0, 0x0, 0x0⟩ /- TAL_HV_ADDR_LO -/,
  ⟨0x180050, 0x0, 1, 0x0, 1, 0xFFFFFFFF, 0x0, 0x0, 0x0, 0x0, 0x0⟩ /- TAL_HV_LIMIT -/,
  ⟨0x180054, 0x0, 1, 0x0, 1, 0x0, 0x0, 0x0, 0x0, 0x0, 0x0⟩ /- TAL_HV_STATUS -/,
  ⟨0x180058, 0x0, 1, 0x0, 1, 0x0, 0x0, 0x0, 0x0, 0x0, 0x0⟩ /- TAL_HV_SEQ -/,
  ⟨0x18005C, 0x0, 1, 0x0, 1, 0x0, 0x0, 0x0, 0x0, 0x0, 0x0⟩ /- TAL_HV_PROGRESS -/,
  ⟨0x180060, 0x0, 1, 0x0, 1, 0xFC0FFFFF, 0x0, 0x0, 0x0, 0x0, 0x0⟩ /- TAL_RD_SEL -/]
def regsTAL1 : List RegDef := [
  ⟨0x180064, 0x0, 1, 0x0, 1, 0x0, 0x0, 0x0, 0x0, 0x0, 0x0⟩ /- TAL_RD_HI -/,
  ⟨0x180068, 0x0, 1, 0x0, 1, 0x0, 0x0, 0x0, 0x0, 0x0, 0x0⟩ /- TAL_RD_LO -/,
  ⟨0x180070, 0x0, 1, 0x0, 1, 0xFFFFFFFF, 0x0, 0x0, 0x0, 0x0, 0x0⟩ /- TAL_UP_GROUP_EN -/,
  ⟨0x180080, 0x10, 8, 0x0, 1, 0xC000001F, 0x0, 0x0, 0x0, 0x0, 0x0⟩ /- TAL_UP_WIN_CFG -/,
  ⟨0x180084, 0x10, 8, 0x0, 1, 0xFFFFF, 0x0, 0x0, 0x0, 0x0, 0x0⟩ /- TAL_UP_WIN_FIRST -/,
  ⟨0x180088, 0x10, 8, 0x0, 1, 0x1FFF3FFF, 0x0, 0x0, 0x0, 0x0, 0x0⟩ /- TAL_UP_WIN_SPAN -/]
def regsTAL : List RegDef := regsTAL0 ++ regsTAL1

def regsGBK0 : List RegDef := [
  ⟨0x190000, 0x0, 1, 0x0, 1, 0x0, 0x0, 0x3F, 0x0, 0x0, 0x0⟩ /- GBK_INT_STAT -/,
  ⟨0x190004, 0x0, 1, 0x0, 1, 0x3F, 0x0, 0x0, 0x0, 0x0, 0x0⟩ /- GBK_INT_EN -/,
  ⟨0x190008, 0x0, 1, 0x0, 1, 0x0, 0x0, 0x0, 0x0, 0x0, 0x0⟩ /- GBK_STATUS -/,
  ⟨0x19000C, 0x0, 1, 0x0, 1, 0x0, 0xFFFFFFFF, 0x0, 0x0, 0x0, 0x0⟩ /- GBK_SEQ_NEXT -/,
  ⟨0x190010, 0x0, 1, 0x0, 1, 0x0, 0x0, 0x0, 0x0, 0x0, 0x0⟩ /- GBK_SEQ_OLDEST -/,
  ⟨0x190014, 0x0, 1, 0x0, 1, 0x0, 0x0, 0x0, 0x3, 0x0, 0x0⟩ /- GBK_CMD -/,
  ⟨0x190018, 0x0, 1, 0x0, 1, 0xFFFFFFFF, 0x0, 0x0, 0x0, 0x0, 0x0⟩ /- GBK_CMD_ARG -/,
  ⟨0x190040, 0x0, 1, 0x0, 1, 0xFFFF, 0xFFFF, 0x0, 0x0, 0x0, 0x3E8⟩ /- GBK_SUM_MS -/,
  ⟨0x190050, 0x0, 1, 0x0, 1, 0xFFFFFFFF, 0x0, 0x0, 0x0, 0x0, 0x0⟩ /- GBK_RD_SEQ -/,
  ⟨0x190054, 0x0, 1, 0x0, 1, 0x0, 0x0, 0x0, 0x0, 0x0, 0x0⟩ /- GBK_RD_STATUS -/,
  ⟨0x190080, 0x0, 1, 0x0, 1, 0x731, 0x0, 0x0, 0x0, 0x0, 0x200⟩ /- GBK_SPILL_CTL -/,
  ⟨0x190084, 0x0, 1, 0x0, 1, 0xFFFFFFFF, 0xFFFFFFFF, 0x0, 0x0, 0x0, 0x0⟩ /- GBK_SPILL_BASE_HI -/,
  ⟨0x190088, 0x0, 1, 0x0, 1, 0xFFFFFFC0, 0xFFFFFFC0, 0x0, 0x0, 0x0, 0x0⟩ /- GBK_SPILL_BASE_LO -/,
  ⟨0x19008C, 0x0, 1, 0x0, 1, 0x1F, 0x1F, 0x0, 0x0, 0x0, 0x6⟩ /- GBK_SPILL_SIZE -/,
  ⟨0x190090, 0x0, 1, 0x0, 1, 0xFFFFFFFF, 0xFFFFFFFF, 0x0, 0x0, 0x0, 0x0⟩ /- GBK_SPILL_HEAD -/,
  ⟨0x190094, 0x0, 1, 0x0, 1, 0xFFFFFFFF, 0xFFFFFFFF, 0x0, 0x0, 0x0, 0x0⟩ /- GBK_SPILL_TAIL -/,
  ⟨0x190020, 0x0, 1, 0x0, 1, 0xFFFF, 0xFFFF, 0x0, 0x0, 0x0, 0xA⟩ /- GBK_RL_RATE -/,
  ⟨0x190024, 0x0, 1, 0x0, 1, 0xFFFF, 0xFFFF, 0x0, 0x0, 0x0, 0x14⟩ /- GBK_RL_RATE -/,
  ⟨0x190028, 0x0, 1, 0x0, 1, 0xFFFF, 0xFFFF, 0x0, 0x0, 0x0, 0x32⟩ /- GBK_RL_RATE -/,
  ⟨0x19002C, 0x0, 1, 0x0, 1, 0xFFFF, 0xFFFF, 0x0, 0x0, 0x0, 0xFFFF⟩ /- GBK_RL_RATE -/,
  ⟨0x190030, 0x0, 1, 0x0, 1, 0xFFFF, 0xFFFF, 0x0, 0x0, 0x0, 0x20⟩ /- GBK_RL_BURST -/,
  ⟨0x190034, 0x0, 1, 0x0, 1, 0xFFFF, 0xFFFF, 0x0, 0x0, 0x0, 0x40⟩ /- GBK_RL_BURST -/,
  ⟨0x190038, 0x0, 1, 0x0, 1, 0xFFFF, 0xFFFF, 0x0, 0x0, 0x0, 0x80⟩ /- GBK_RL_BURST -/,
  ⟨0x19003C, 0x0, 1, 0x0, 1, 0xFFFF, 0xFFFF, 0x0, 0x0, 0x0, 0x400⟩ /- GBK_RL_BURST -/]
def regsGBK1 : List RegDef := [
  ⟨0x190060, 0x4, 8, 0x0, 1, 0x0, 0x0, 0x0, 0x0, 0x0, 0x0⟩ /- GBK_RD_W -/]
def regsGBK : List RegDef := regsGBK0 ++ regsGBK1

def regsHLT0 : List RegDef := [
  ⟨0x1A0000, 0x0, 1, 0x0, 1, 0x0, 0x0, 0x1FF, 0x0, 0x0, 0x0⟩ /- HLT_INT_STAT -/,
  ⟨0x1A0004, 0x0, 1, 0x0, 1, 0x1FF, 0x0, 0x0, 0x0, 0x0, 0x0⟩ /- HLT_INT_EN -/,
  ⟨0x1A0008, 0x0, 1, 0x0, 1, 0xF0FFFFFF, 0xF0FFFFFF, 0x0, 0x0, 0x0, 0xF00403E8⟩ /- HLT_FENCE_CFG -/,
  ⟨0x1A000C, 0x0, 1, 0x0, 1, 0xBBBB, 0xBBBB, 0x0, 0x0, 0x0, 0x0⟩ /- HLT_FENCE -/,
  ⟨0x1A0010, 0x0, 1, 0x0, 1, 0x0, 0x0, 0x0, 0x333, 0x0, 0x0⟩ /- HLT_FENCE_CMD -/,
  ⟨0x1A0014, 0x0, 1, 0x0, 1, 0x0, 0x0, 0x0, 0x0, 0x0, 0x0⟩ /- HLT_FENCE_STATUS -/,
  ⟨0x1A0020, 0x0, 1, 0x0, 1, 0xFFFF0FFF, 0xFFFF0FFF, 0x0, 0x0, 0x0, 0x3E8003C⟩ /- HLT_SCRUB_CFG -/,
  ⟨0x1A0024, 0x0, 1, 0x0, 1, 0x0, 0x0, 0x0, 0x0, 0x0, 0x0⟩ /- HLT_SCRUB_STATUS -/,
  ⟨0x1A0028, 0x0, 1, 0x0, 1, 0x0, 0x0, 0xFFFF0000, 0x0, 0x0, 0x0⟩ /- HLT_ECC_CAP -/,
  ⟨0x1A002C, 0x0, 1, 0x0, 1, 0x0, 0x0, 0x0, 0x0, 0x0, 0x0⟩ /- HLT_ECC_CAP_ADDR -/,
  ⟨0x1A0030, 0x0, 1, 0x0, 1, 0xFFFFFFFF, 0xFFFFFFFF, 0x0, 0x0, 0x0, 0x3C0010⟩ /- HLT_BANK_CFG -/,
  ⟨0x1A0034, 0x0, 1, 0x0, 1, 0x0, 0xBFBFBFBF, 0x0, 0x0, 0x0, 0x0⟩ /- HLT_BANK_MAP -/,
  ⟨0x1A0040, 0x0, 1, 0x0, 1, 0x0, 0x0, 0x0, 0x3F01, 0x0, 0x0⟩ /- HLT_BANK_CMD -/,
  ⟨0x1A0180, 0x0, 1, 0x0, 1, 0xFFFFFF00, 0x0, 0x0, 0x0, 0x0, 0x5A695F00⟩ /- HLT_TEMP_THR -/,
  ⟨0x1A0184, 0x0, 1, 0x0, 1, 0xFFFFFF, 0x0, 0x0, 0x0, 0x0, 0xF6FB⟩ /- HLT_TEMP_LOW_THR -/,
  ⟨0x1A0188, 0x0, 1, 0x0, 1, 0xFFFFFF, 0x0, 0x0, 0x0, 0x0, 0x143C1E⟩ /- HLT_VOLT_THR -/,
  ⟨0x1A01C0, 0x0, 1, 0x0, 1, 0xF, 0x0, 0x0, 0x0, 0x0, 0xF⟩ /- HLT_ALERT_CTL -/,
  ⟨0x1A01C4, 0x0, 1, 0x0, 1, 0x0, 0x0, 0x0, 0x0, 0x0, 0x0⟩ /- HLT_MON_STATUS -/,
  ⟨0x1A0200, 0x0, 1, 0x0, 1, 0x800003FF, 0x800003FF, 0x0, 0x0, 0x0, 0x2EE⟩ /- HLT_AVS_CTL -/,
  ⟨0x1A0204, 0x0, 1, 0x0, 1, 0x0, 0x0, 0x0, 0x0, 0x0, 0x2EE02EE⟩ /- HLT_AVS_STATUS -/,
  ⟨0x1A0208, 0x0, 1, 0x0, 1, 0x0, 0x0, 0x0, 0x0, 0x0, 0x0⟩ /- HLT_PMON_AVG -/,
  ⟨0x1A0300, 0x0, 1, 0x0, 1, 0x1F00, 0x0, 0x0, 0x1, 0x0, 0x0⟩ /- HLT_BIST_CTL -/,
  ⟨0x1A0304, 0x0, 1, 0x0, 1, 0x0, 0x0, 0x0, 0x0, 0x0, 0x0⟩ /- HLT_BIST_STATUS -/,
  ⟨0x1A0038, 0x4, 2, 0x0, 1, 0x0, 0xFFFFFFFF, 0x0, 0x0, 0x0, 0x0⟩ /- HLT_BANK_WD -/]
def regsHLT1 : List RegDef := [
  ⟨0x1A0100, 0x4, 16, 0x0, 1, 0x0, 0x0, 0x0, 0x0, 0x0, 0x0⟩ /- HLT_TEMP -/,
  ⟨0x1A0140, 0x4, 12, 0x0, 1, 0x0, 0x0, 0x0, 0x0, 0x0, 0x0⟩ /- HLT_VOLT -/]
def regsHLT : List RegDef := regsHLT0 ++ regsHLT1

def regsPIN : List RegDef := [
  ⟨0x1B0000, 0x0, 1, 0x0, 1, 0x0, 0x0, 0x3F, 0x0, 0x0, 0x0⟩ /- PIN_INT_STAT -/,
  ⟨0x1B0004, 0x0, 1, 0x0, 1, 0x3F, 0x0, 0x0, 0x0, 0x0, 0x0⟩ /- PIN_INT_EN -/,
  ⟨0x1B0008, 0x0, 1, 0x0, 1, 0x0, 0x0, 0x80, 0x0, 0x0, 0x0⟩ /- PIN_CLK_STATUS -/,
  ⟨0x1B0010, 0x0, 1, 0x0, 1, 0xFFFF, 0xFFFF, 0x0, 0x0, 0x0, 0x0⟩ /- PIN_GPIO_DIR -/,
  ⟨0x1B0014, 0x0, 1, 0x0, 1, 0xFFFF, 0xFFFF, 0x0, 0x0, 0x0, 0x0⟩ /- PIN_GPIO_OUT -/,
  ⟨0x1B0018, 0x0, 1, 0x0, 1, 0x0, 0x0, 0x0, 0x0, 0x0, 0x0⟩ /- PIN_GPIO_IN -/,
  ⟨0x1B001C, 0x0, 1, 0x0, 1, 0xFFFF, 0xFFFF, 0x0, 0x0, 0x0, 0x0⟩ /- PIN_GPIO_TIMED -/,
  ⟨0x1B0020, 0x0, 1, 0x0, 1, 0x0, 0x0, 0xFFFF, 0x0, 0x0, 0x0⟩ /- PIN_GPIO_EDGE -/,
  ⟨0x1B0024, 0x0, 1, 0x0, 1, 0xFFFF, 0x0, 0x0, 0x0, 0x0, 0x0⟩ /- PIN_GPIO_EDGE_EN -/,
  ⟨0x1B0030, 0x0, 1, 0x0, 1, 0xC0FFFFFF, 0x0, 0x0, 0x0, 0x0, 0x1403E8⟩ /- PIN_LED_CFG -/,
  ⟨0x1B0180, 0x0, 1, 0x0, 1, 0x103, 0x0, 0x0, 0x0, 0x0, 0x0⟩ /- PIN_MDIO_CFG -/,
  ⟨0x1B0184, 0x0, 1, 0x0, 1, 0x0, 0x0, 0x0, 0xC3FFFFFF, 0x0, 0x0⟩ /- PIN_MDIO_CMD -/,
  ⟨0x1B0188, 0x0, 1, 0x0, 1, 0xFFFF, 0x0, 0x0, 0x0, 0x0, 0x0⟩ /- PIN_MDIO_DATA -/,
  ⟨0x1B018C, 0x0, 1, 0x0, 1, 0x0, 0x0, 0x0, 0x0, 0x0, 0x0⟩ /- PIN_MDIO_STATUS -/,
  ⟨0x1B0200, 0x0, 1, 0x0, 1, 0x3, 0x0, 0x0, 0x0, 0x0, 0x2⟩ /- PIN_QSPI_CFG -/,
  ⟨0x1B0204, 0x0, 1, 0x0, 1, 0x0, 0x0, 0x0, 0xFFFF80FF, 0x0, 0x0⟩ /- PIN_QSPI_CMD -/,
  ⟨0x1B0208, 0x0, 1, 0x0, 1, 0xFFFFFFFF, 0x0, 0x0, 0x0, 0x0, 0x0⟩ /- PIN_QSPI_ADDR -/,
  ⟨0x1B020C, 0x0, 1, 0x0, 1, 0x0, 0x0, 0x0, 0x0, 0x0, 0x0⟩ /- PIN_QSPI_STATUS -/,
  ⟨0x1B0040, 0x4, 5, 0x0, 1, 0xFFFFFFFF, 0x0, 0x0, 0x0, 0x0, 0x0⟩ /- PIN_LED_HOST -/,
  ⟨0x1B0400, 0x4, 64, 0x0, 1, 0xFFFFFFFF, 0x0, 0x0, 0x0, 0x0, 0x0⟩ /- PIN_QSPI_BUF -/,
  ⟨0x1B0100, 0x20, 2, 0x0, 1, 0x80000103, 0x0, 0x0, 0x0, 0x0, 0x0⟩ /- PIN_I2C_CFG -/,
  ⟨0x1B0104, 0x20, 2, 0x0, 1, 0x0, 0x0, 0x0, 0x7F3F3F01, 0x0, 0x0⟩ /- PIN_I2C_CMD -/,
  ⟨0x1B0108, 0x20, 2, 0x0, 1, 0x0, 0x0, 0x0, 0x0, 0x0, 0x0⟩ /- PIN_I2C_STATUS -/,
  ⟨0x1B010C, 0x20, 2, 0x0, 1, 0xFF, 0x0, 0x0, 0x0, 0x0, 0x0⟩ /- PIN_I2C_DATA -/]

/-- The registers of the block that BAR0 address `a` lies in (R16). -/
def regsOfBlock (a : Nat) : List RegDef :=
  if a < 0x10000 then regsGLB else if a < 0x20000 then regsFRG else if a < 0x40000 then regsHIF
  else if a < 0x80000 then regsPRT else if a < 0xC0000 then regsHTH else if a < 0xD0000 then regsTBL
  else if a < 0xE0000 then regsFRY else if a < 0x100000 then regsTM else if a < 0x120000 then regsLDG
  else if a < 0x130000 then regsPHS else if a < 0x140000 then regsTIM else if a < 0x150000 then regsFAB
  else if a < 0x160000 then regsPOR else if a < 0x180000 then regsDRY else if a < 0x190000 then regsTAL
  else if a < 0x1A0000 then regsGBK else if a < 0x1B0000 then regsHLT else if a < 0x1C0000 then regsPIN else []

/-- The register at BAR0 address `a`, if the address is assigned (R22). -/
def regAt (a : Nat) : Option RegDef := (regsOfBlock a).find? (regHit a)

/-- The value after cold reset of the register at `a` (R24); 0 for a field loaded from the Forging (R169) and for an
address that is not assigned. -/
def regReset (a : Nat) : BitVec 32 :=
  match regAt a with
  | some d => BitVec.ofNat 32 d.reset
  | none => 0

end Machine
end Sys2Proof
end

