-- ==== Sys2Proof/Machine/Sparse.lean ====
section
/-! DEFINITION. Machine/Sparse.lean: sparse arrays. An array of state indexed by a number (registers by address, host
memory by byte address, counters, table entries, ports) is a list of (key, value) pairs in one canonical form: keys
strictly rising, and no entry equal to what an unlisted key reads as. So equal arrays are equal data. -/
namespace Sys2Proof
namespace Machine

variable {α : Type}

/-- The value at `k`; `d` says what an unlisted key reads as. -/
def sget (d : Nat → α) : List (Nat × α) → Nat → α
  | [], k => d k
  | (k', v) :: t, k => if k' = k then v else sget d t k

/-- Drop every entry of key `k`. -/
def sdel : List (Nat × α) → Nat → List (Nat × α)
  | [], _ => []
  | (k', v) :: t, k => if k' = k then sdel t k else (k', v) :: sdel t k

/-- Put the pair in its place among rising keys. -/
def sins : List (Nat × α) → Nat → α → List (Nat × α)
  | [], k, v => [(k, v)]
  | (k', v') :: t, k, v => if k < k' then (k, v) :: (k', v') :: t else (k', v') :: sins t k v

/-- Set the value at `k`; writing what an unlisted key reads as removes the entry. -/
def sput [DecidableEq α] (d : Nat → α) (m : List (Nat × α)) (k : Nat) (v : α) : List (Nat × α) :=
  if v = d k then sdel m k else sins (sdel m k) k v

/-- The canonical form: keys strictly rising from `lo`, no entry equal to its default. -/
def scanon [DecidableEq α] (d : Nat → α) : Nat → List (Nat × α) → Bool
  | _, [] => true
  | lo, (k, v) :: t => decide (lo ≤ k) && decide (v ≠ d k) && scanon d (k + 1) t

/-- Set every pair of the list `l`, in order. -/
def sputs [DecidableEq α] (d : Nat → α) (m : List (Nat × α)) (l : List (Nat × α)) : List (Nat × α) :=
  l.foldl (fun m p => sput d m p.1 p.2) m

/-- Keep only the entries whose key satisfies `p`; every other key reads as its default again. -/
def skeep (p : Nat → Bool) (m : List (Nat × α)) : List (Nat × α) := m.filter (fun e => p e.1)

/-- Change the value of every listed entry; one that comes to its default is no longer listed. -/
def smap [DecidableEq α] (d : Nat → α) (g : Nat → α → α) (m : List (Nat × α)) : List (Nat × α) :=
  (m.map (fun e => (e.1, g e.1 e.2))).filter (fun e => e.2 != d e.1)

end Machine
end Sys2Proof
end

