-- ==== Sys2Proof/Machine/State.lean ====
section
/-! DEFINITION. Machine/State.lean: everything the specification lets the device hold, as plain data, and the state after
reset. A register has its one home in `regs`; what a register only shows (a queue's depth, a FIFO's head, the mode) is
computed when it is read. What no register shows (frames, tables, history, timers) stands in a structure per block. -/
namespace Sys2Proof
namespace Machine

/-- A fault. `illFormed`: the operands of the command name a port, hearth, channel or the like that the device does not
have, so that no such command can reach it (safe: nothing runs; raised by the frame of every command, `command`). -/
inductive Fault
  | illFormed
deriving DecidableEq, Repr

/-- A refusal. `notModelled` is answered only by the arm of a command that has no meaning yet (safe: nothing runs). -/
inductive Refusal
  | notModelled (mnemonic : String)
deriving DecidableEq, Repr

/-! ### GLB: modes and resets (chapter 03) -/

/-- The mode controller. -/
structure Glb where
  /-- Base state, encoded as in R121, R122. -/
  base : Nat
  /-- The mode last reported, for MODE_CHANGE (R125). -/
  shown : Nat
  /-- Core clock in which WAKING was last entered (R129). -/
  wakeClk : Nat
  /-- WAKING has been entered since cold reset: GLB_WAKE_ELAPSED counts (R129). -/
  woken : Bool
  /-- Core clock of the DRAIN command (R133). -/
  drainClk : Nat
  /-- DIAGNOSTIC was entered from QUIESCED (R138). -/
  diagFromQuiesced : Bool
  /-- A warm reset is in progress (R170). -/
  warmBusy : Bool
  /-- The warm reset in progress leads to WAKING (R126); 0 leads to DORMANT. -/
  warmToWaking : Bool
  /-- Hearths in reset (R140). -/
  hearthRst : List Nat
  /-- The first-second sequence has begun since cold reset (R146). -/
  started : Bool
  /-- The boot from flash that follows a cold reset has not begun (R87). -/
  bootDue : Bool
  /-- What holds the device in cold reset: RESET_N low, a supply (R742), the core clock (R747). -/
  heldPin : Bool
  heldSupply : Bool
  heldClock : Bool
  /-- CLK_REF lost at this core clock (R747). -/
  coreLost : Option Nat
  /-- Quadrants of the front lanes whose training has begun (R147), and the core clock of the last one. -/
  quadrants : Nat
  quadClk : Nat
  /-- Admission buckets of the device's classes 0 to 4 (R148). -/
  admitLevel : List (Nat × Bucket)
  /-- Classes whose first drop of this WAKING has been recorded (event BUDGET_DROP). -/
  admitSeen : List Nat
  /-- Registers written in a core clock whose new value comes into force with the next one (R129, R152, R405): address,
  core clock of the write, value before it. -/
  was : List (Nat × Nat × Nat)
  /-- Output pins that their block has driven since RESET_N was low; the others are high-impedance (R736). -/
  driven : List OutPin
deriving DecidableEq, Repr

/-! ### FRG: Forgings and tempering (chapter 02) -/

/-- The Forging loader and the generations. -/
structure Frg where
  /-- The Forging whose structures fill each bank (R96). -/
  bank0 : Option Forging
  bank1 : Option Forging
  /-- The active Forging: that of the generation all hearths last agreed on (R98, R115). -/
  active : Option Forging
  /-- Active bank of each hearth (R99): the hearths that run bank 1. -/
  onBank1 : List Nat
  /-- Bank of the generation that all hearths ran when the shadow load began. -/
  oldBank : Nat
  /-- A shadow load has been accepted and its bank is neither released nor discarded (R105). -/
  tempering : Bool
  /-- The load in progress (R765). -/
  load : Option Load
  /-- The commit or rollback that is armed (R106). -/
  armed : Option Armed
  /-- Core clock of the last hearth commit (R114). -/
  commitClk : Nat
  /-- The drain timeout has been acted on since the last hearth commit (R114). -/
  timeoutDone : Bool
  /-- TIMING of the shadow's Forging is in force (R98). -/
  timingNew : Bool
  /-- The Forging whose ADMIT section was last loaded (R98). -/
  admitFrom : Option Forging
  /-- Contents of the QSPI flash by offset; an unlisted byte reads 0xFF. -/
  flash : List (Nat × Byte)
deriving DecidableEq, Repr

/-! ### HIF: host interface and Ostler (chapter 04) -/

/-- The host interface and the mailbox. -/
structure Hif where
  /-- Bus Master Enable and D3hot of the function (R160, R667). -/
  busMaster : Bool
  d3hot : Bool
  /-- Max Payload Size and Max Read Request Size in configuration space, in bytes (R619). -/
  mps : Nat
  mrrs : Nat
  /-- Vectors whose mask bit in the MSI-X table is clear (all are masked after reset, PCIe), ascending. -/
  unmasked : List Nat
  /-- Pending bits of the PBA, ascending (R180). -/
  pba : List Nat
  /-- Messages sent, newest first (R178). -/
  sent : List Nat
  /-- DWORDs of the MSI-X table other than the mask bits, by DWORD number; an unlisted one is 0 (R158). -/
  msix : List (Nat × Nat)
  /-- What the host has written to the BARs, by their number, and its other writable fields of configuration space: Command,
  Device Control, Device Control 2 and Link Control (R153 to R156). -/
  bars : List (Nat × Nat)
  cmdBits : Nat
  devBits : Nat
  dev2Bits : Nat
  linkBits : Nat
  /-- Non-Fatal Error Detected of Device Status; Uncorrectable Error Status, Mask and Severity of Advanced Error Reporting;
  ERR_NONFATAL messages sent (R155, R168). -/
  devError : Bool
  aerStatus : Nat
  aerMask : Nat
  aerSeverity : Nat
  errSent : Nat
  /-- The link is in DL_Active (R159). -/
  dlActive : Bool
  /-- Core clock of the last change of HIF_OSTLER_BEAT (R190). -/
  beatClk : Nat
  /-- OSTLER_SILENT stands (R190). -/
  ostlerSilent : Bool
  /-- The Ostler does not answer until it has restarted (R191). -/
  restarting : Bool
  /-- The command in progress: opcode, tag, length, request words, core clock of the doorbell; and, oldest first, those
  that the Ostler still runs to completion although their answer is discarded (R185, R186). -/
  mbxCmd : Option (Nat × Nat × Nat × List Nat × Nat)
  mbxOld : List (Nat × Nat × Nat × List Nat × Nat)
  /-- OTP contents (R74): hash of each key slot (48 bytes) when programmed, revoked slots, fuses of SECVER blown,
  the image key (32 bytes) when programmed, the grade, the subsystem identifiers. -/
  keyHash0 : Option (List Byte)
  keyHash1 : Option (List Byte)
  revoked0 : Bool
  revoked1 : Bool
  secver : Nat
  imageKey : Option (List Byte)
  grade : Nat
  /-- AVSBus transactions since cold reset (R187). -/
  avsCount : Nat
  /-- What the last host read returned: its data words. -/
  readData : List Nat
deriving DecidableEq, Repr

/-! ### GBK: the Guestbook (chapter 17) -/

/-- An event that has passed its bucket and waits for the writer (R685). -/
structure GbkEvent where
  code : Nat
  unit : Nat
  arg0 : Nat
  arg1 : Nat
  unset : Bool
  time : List Byte
  /-- Core clock in which it was raised. -/
  clk : Nat
deriving DecidableEq, Repr

/-- A record of the log (R678). -/
structure GbkRecord where
  seq : Nat
  code : Nat
  sev : Nat
  unset : Bool
  summary : Bool
  unit : Nat
  time : List Byte
  arg0 : Nat
  arg1 : Nat
  /-- Core clock of its placement; MARK.VALID is set in the next one (R687). -/
  put : Nat
deriving DecidableEq, Repr

/-- The suppression of one code (R683): pending count, core clocks of the first and the last suppressed occurrence. -/
structure Suppressed where
  count : Nat
  first : Nat
  last : Nat
deriving DecidableEq, Repr

/-- The Guestbook. -/
structure Gbk where
  /-- Buckets by code (R682); unlisted: full since cold reset. -/
  buckets : List (Nat × Bucket)
  /-- Suppressed occurrences by code (R683). -/
  suppressed : List (Nat × Suppressed)
  /-- The input queue, oldest first (R685). -/
  queue : List GbkEvent
  /-- The log, oldest first (R686). -/
  log : List GbkRecord
  /-- LOG_FULL has been written since the log was last empty or cleared (R688). -/
  fullSeen : Bool
  /-- SEQ from which on records are still to be spilled (R692, R695). -/
  spillNext : Nat
  /-- Records not spilled, awaiting the SPILL_MISSED record (R695). -/
  spillMissed : Nat
  /-- Core clock in which the writer last placed a record (R685, R767). -/
  wrote : Option Nat
deriving DecidableEq, Repr

/-! ### TAL: the Tally (chapter 16) -/

/-- A harvest in progress (R667 to R670): its parameters, the snapshot in force when it began, the core clock of START, the
groups overtaken, the counters written, and whether the header but for STATUS is. -/
structure Harvest where
  mask : Nat
  addr : Nat
  snapSeq : Nat
  snapWords : List Nat
  source : Nat
  clk : Nat
  overtaken : Nat
  written : Nat
  header : Bool
deriving DecidableEq, Repr

/-- The Tally: live and latched counters by global index, unlisted counters reading 0 (R654, R664). -/
structure Tal where
  /-- Live value of each counter that is not 0 (R654). -/
  live : List (Nat × Nat)
  /-- Live values at the beginning of this core clock (R662). -/
  begun : List (Nat × Nat)
  /-- Latched value of each counter that is not 0 (R664). -/
  latched : List (Nat × Nat)
  /-- The harvest in progress (R667). -/
  harvest : Option Harvest
  /-- Core clock and selector of the last snapshot, for requests of the same core clock (R666). -/
  snapClk : Option Nat
  /-- The groups that the snapshots of this core clock latch, until it ends (R664, R666). -/
  relatch : Nat
deriving DecidableEq, Repr

/-! ### TIM and PHS: device time and the mains phase clock (chapters 10, 11) -/

/-- A tracker (R510): its filtered offset F in 2⁻¹⁶ ns, samples accepted since it left IDLE, core clock of the last
accepted sample, and whether it has accepted one since TIME_VALID was set. Its state stands in TIM_STATUS. -/
structure Tracker where
  f : Int
  count : Nat
  last : Option Nat
  used : Bool
deriving DecidableEq, Repr

/-- Device time, its servo and its pins (chapter 11). -/
structure Tim where
  /-- Device time in units of 1/timeUnit ns (R11, R491). -/
  t : Nat
  /-- Device time counts (from step 2 of R146 on, R490). -/
  running : Bool
  /-- The frequency adjustment in force, in 2⁻¹⁰ ppb (R491). -/
  adj : Int
  /-- GLB_COND.TIME_VALID, set by the first step (R524). -/
  valid : Bool
  /-- GLB_COND.TIME_LOST (R522). -/
  lost : Bool
  /-- Cumulative step sum, in units of 1/timeUnit ns (R495, R523). -/
  stepSum : Int
  /-- Device time at the last step, and core clock of it (R509). -/
  stepT : Option Nat
  /-- The tracker of domain A, and that of domain B (R510). -/
  trkA : Tracker
  trkB : Tracker
  /-- bias in 2⁻¹⁶ ns, and the core clock from which its slew is counted (R521). -/
  bias : Int
  biasClk : Nat
  /-- Integral term in 2⁻²⁴ ppb (R513). -/
  integ : Int
  /-- |e − bias| of the governing tracker's last four accepted samples, in 2⁻¹⁶ ns, newest first (R515). -/
  recent : List Nat
  /-- TIME_LOCKED has been written since TIME_VALID or the last loss (R515). -/
  lockedSeen : Bool
  /-- Device time at the last measurement of CLK10M_IN (R516). -/
  clk10m : Option Nat
  /-- PPS_OUT: level, core clock of its rise, last whole second taken into account (R526). -/
  ppsHigh : Bool
  ppsClk : Nat
  ppsSec : Nat
  /-- CLK10M_OUT after a step: device time at which a high phase in progress ends, and that of the first rising edge (R527). -/
  outFall : Nat
  outRise : Nat
  /-- The transmit stamp FIFO: port, tag, stamp; oldest first (R498). -/
  txts : List (Nat × Nat × Nat)
deriving DecidableEq, Repr

/-- A stretch of time over which neither rate changed (R441): its first core clock, device time and frequency adjustment
there, and the phase rate. -/
structure Stretch where
  clk : Nat
  t : Nat
  adj : Int
  rate : Nat
deriving DecidableEq, Repr

/-- A mains input (R438 to R440): core clock of the last accepted candidate, last period, consecutive good periods; the
last separation counted as missing edges. -/
structure MainsIn where
  last : Option Nat
  period : Option Nat
  run : Nat
  gap : Bool
deriving DecidableEq, Repr

/-- The mains phase clock (R433 to R455). Qualification, farness, lock and the source in use stand in PHS_STATUS. -/
structure Phs where
  /-- Phase instant times 2⁴⁸ plus the fraction below one pu (R434). -/
  acc : Nat
  /-- Rate in 2⁻⁴⁸ pu per core clock (R435); 0 until the clock starts. -/
  rate : Nat
  /-- The clock has started (R433). -/
  running : Bool
  /-- PHASE_VALID (R448). -/
  valid : Bool
  /-- PHASE_LOST (R450). -/
  lost : Bool
  /-- Integral term of the loop, in pu (R446). -/
  fint : Int
  /-- The mains inputs A and B (R440). -/
  mainsA : MainsIn
  mainsB : MainsIn
  /-- The last two accepted MSG samples, newest first: device time, instant, core clock of acceptance (R442). -/
  msg : List (Nat × Nat × Nat)
  /-- Error in pu of the latest sample of each source (R445). -/
  errs : List (Nat × Int)
  /-- Magnitudes of the last four errors accepted since the source in use came into use, newest first (R449). -/
  recent : List Nat
  /-- Rates of the last 16 accepted samples, newest first (R451). -/
  rates : List Nat
  /-- A SET_CYCLE, and a REALIGN, wait for their wrap or sample (R454, R455). -/
  setPending : Bool
  realignPending : Bool
  /-- Cycle and core clock of the last wrap acted on (R444, R455). -/
  wrapCycle : Nat
  wrapClk : Nat
  /-- Stretches of constant rates, newest first (R441). -/
  hist : List Stretch
  /-- Timed-action slots that fire as late ones on the core clock after the one given (R485). -/
  taNow : List (Nat × Nat)
  /-- PHS_FREQ_LIMITS has been written, by a Forging or by the host (R436). -/
  limitsSet : Bool
deriving DecidableEq, Repr

/-! ### LDG: ledgers and stream gates (chapter 10) -/

/-- A port's ledger bank with its resolved start S (R464): a phase instant, or ns of device time in PTP mode; one that
SET_CYCLE has moved may lie below 0 (R455). `waits`: its reference moment has come, but its time base was not valid (R464). -/
structure Ledger where
  bank : LedgerBank
  start : Option Int
  late : Bool
  waits : Bool
deriving DecidableEq, Repr

/-- A stream gate of one bank (R476): the image words, its resolved start, and the count of R479: the occurrence of a
line it belongs to and the bytes passed in it; `waits` as for a ledger. -/
structure StreamGate where
  words : List Nat
  start : Option Int
  late : Bool
  waits : Bool
  occ : Nat
  bytes : Nat
deriving DecidableEq, Repr

/-- Ledgers and stream gates. -/
structure Ldg where
  /-- Ledgers by 2 × port + bank. -/
  ledgers : List (Nat × Ledger)
  /-- Stream gates by 2 × gate + bank. -/
  gates : List (Nat × StreamGate)
deriving DecidableEq, Repr

/-! ### FAB: the fabric (chapter 13) -/

/-- The fabric block. -/
structure Fab where
  /-- HB_LOST: the Keeper's heartbeats have stopped; the core clock from which their absence is counted (R579). -/
  hbLost : Bool
  hbClk : Nat
  /-- The receive queue: frames that wait for the checks of R559, oldest first (R558). -/
  rx : List Nat
  /-- Frames that have passed every check and wait to be handled, oldest first (R560). -/
  passed : List Nat
  /-- The ports that hold a handshake (R561). -/
  ports : List (Nat × FabPort)
  /-- The standing (TERM, KEEPER_ID), and the last trigger acted on under it (R565, R572). -/
  standing : Option (Nat × Nat)
  /-- The last trigger acted on under the standing pair (R572). -/
  lastTrig : Option Nat
  /-- The highest TERM seen since cold reset (R585). -/
  maxTerm : Option Nat
  /-- TIME_SEQ of the last interval, and its core clock (R564). -/
  timeSeq : Nat
  timeClk : Nat
  /-- The key sets in force and in waiting (R584). -/
  keyActive : Option KeySet
  keyStandby : Option KeySet
  /-- A trigger whose copies are being sent. -/
  trig : Option TrigSend
  /-- What triggers have armed, by TRIG_ID: a timed-action slot, or 32 for a commit (R573). -/
  armedBy : List (Nat × Nat)
  /-- The instants of the armed KEY_SWITCHes, in the order in which they were armed (R573). -/
  keySwitch : List Nat
  /-- Join requests that wait for the host, oldest first (R150). -/
  join : List Nat
  /-- The host has written FAB_SELF since the Forging gave it (R548). -/
  selfSet : Bool
deriving DecidableEq, Repr

/-! ### POR and DRY: the Porter and the Drayman (chapters 14, 15) -/

/-- The Porter. -/
structure Por where
  /-- Owner masks by room slot; an unlisted mask is 0 (R591). -/
  masks : List (Nat × Nat)
  /-- Cached handles of each pool, the longest in the cache first; those returned to a full cache, whose writes to the ring
  wait (R597). -/
  caches : List (Nat × List Nat)
  extra : List (Nat × List Nat)
  /-- Core clock from which each pool may take its next operation (R612). -/
  next : List (Nat × Nat)
  /-- Records of the return queue that have been read and not yet applied (R610). -/
  records : List (List Byte)
  /-- The pool whose allocation starved each starved ring (R605). -/
  starvedBy : List (Nat × Nat)
  /-- Pools whose first EMPTY has been recorded (event POOL_EMPTY). -/
  emptySeen : List Nat
  /-- The command in progress: operation, pool, owner (R609). -/
  cmd : Option (Nat × Nat × Nat)
deriving DecidableEq, Repr

/-- The Drayman's channels. -/
structure Dry where
  /-- Receive channels that have been used (R621). -/
  rx : List (Nat × RxChan)
  /-- Transmit channels that have been used (R621). -/
  tx : List (Nat × TxChan)
  /-- Errands that have been used (R635). -/
  err : List (Nat × ErrSt)
  /-- The requester that each priority level granted last, for reads and for writes (R618). -/
  rdTurn : List (Nat × Nat)
  wrTurn : List (Nat × Nat)
deriving DecidableEq, Repr

/-! ### HLT: health (chapter 18) -/

/-- A bank being spared (R713): its number, the spare, core clock of step 1. -/
structure Sparing where
  bank : Nat
  spare : Nat
  clk : Nat
deriving DecidableEq, Repr

/-- Voting, error correction, sparing, monitors. -/
structure Hlt where
  /-- Core clocks of the outvotes of copy c of hearth h within the window, newest first, under 3h + c (R704). -/
  outvotes : List (Nat × List Nat)
  /-- Core clocks of RECOMPUTE_DROP of hearth h within the window, newest first (R705). -/
  drops : List (Nat × List Nat)
  /-- Core clock of the last HEARTH_UNRELIABLE of hearth h (R705). -/
  unreliable : List (Nat × Option Nat)
  /-- Words that an uncorrectable error has poisoned (R709). -/
  poison : List EccWord
  /-- Core clocks of the corrected errors of each buffer bank within the window, newest first (R713). -/
  corrected : List (Nat × List Nat)
  /-- Banks being spared (R713). -/
  sparing : List Sparing
  /-- Banks that are being withdrawn, whose cells are not all free yet (R714). -/
  withdrawing : List Nat
  /-- State of each temperature sensor and voltage monitor: 0 NORMAL, 1 WARN, 2 CRIT (R718). -/
  tempState : List (Nat × Nat)
  voltState : List (Nat × Nat)
  /-- Last reading of each temperature sensor, in hundredths of a degree, and of each voltage monitor, in mV (R716). -/
  temps : List (Nat × Int)
  volts : List (Nat × Nat)
  /-- ALERT_N is driven low (R720). -/
  alert : Bool
  /-- A process monitor reads outside its valid range (R723). -/
  procBad : Bool
  /-- Core clock of the last AVS step (R722). -/
  avsClk : Option Nat
  /-- Classes of the memory BIST run in progress, by bit (R725). -/
  bistTarget : Nat
deriving DecidableEq, Repr

/-! ### PIN: board signals (chapter 19) -/

/-- An I²C controller: transmit and receive FIFO, and the transaction in progress (address, WLEN, RLEN). -/
structure I2c where
  tx : List Byte
  rx : List Byte
  cmd : Option (Nat × Nat × Nat)
deriving DecidableEq, Repr

/-- A running pulse of a timed output (R483, R759): its level, and the core clock at which it ends. -/
structure Pulse where
  high : Bool
  ends : Nat
deriving DecidableEq, Repr

/-- Board signals and management buses. -/
structure Pin where
  i2c0 : I2c
  i2c1 : I2c
  /-- MDIO command in progress: operation, PHY, register or device, Clause 45 register (R758). -/
  mdio : Option (Nat × Nat × Nat × Nat)
  /-- QSPI command word in progress (R755). -/
  qspi : Option Nat
  /-- Running pulses by GPIO pin. -/
  pulses : List (Nat × Pulse)
  /-- Core clock of the last LED stream, and its 288 bits as sent (R761). -/
  ledClk : Option Nat
  led : List Bool
  /-- Core clock of the last frame received or sent on a port, plus 1; 0 when none (R761). -/
  activity : List (Nat × Nat)
  /-- The JTAG instruction in force (R762): 0 BYPASS, 1 IDCODE, 2 SAMPLE/PRELOAD, 3 EXTEST, 4 EXTEST_PULSE,
  5 EXTEST_TRAIN, 6 HIGHZ, 7 CLAMP; what its data register holds; the levels preloaded for the pins; whether the pins
  are taken from the device's logic. -/
  jtag : Nat
  jtagData : Nat
  preload : List Bool
  pinsTaken : Bool
deriving DecidableEq, Repr

/-! ### PRT: ports (chapter 05) -/

/-- A port 0 to 71. -/
structure PortSt where
  /-- Mode, auto-negotiation and training in force (R204). -/
  mode : Nat
  anEn : Bool
  ltEn : Bool
  /-- The taps that training settled, lane by lane, are in use (R202). -/
  trained : Bool
  taps : List Nat
  /-- Lane configuration taken at the last release from reset, lane by lane: its polarity and lane order are in force (R204). -/
  lanes : List Nat
  /-- What auto-negotiation advertises: the mode, and symmetric PAUSE (R206, R208). -/
  advert : Option (Nat × Bool)
  /-- What the link reports, and the core clock since which the link differs from PRT_STATUS.LINK_UP (R210, R212). -/
  cond : LinkCond
  holdClk : Option Nat
  /-- Core clock of the last AN_MISMATCH event (R206). -/
  anEvent : Option Nat
  /-- Pause timer: quanta loaded, and the core clock of loading (R224); loss seen in this pause (R227); parts of a ns not
  yet counted, in 1/7 ns. -/
  quanta : Nat
  pauseClk : Nat
  lossSeen : Bool
  pauseRem : Nat
  lossRem : Nat
  /-- Verify mPackets sent, and the core clock of the last (R232); mPackets that wait for the wire (0 verify, 1 respond). -/
  verifySent : Nat
  verifyClk : Nat
  mpk : List Nat
  /-- Frames being received, newest first; a MAC Control frame received whole; the frame in reassembly (R236). -/
  rx : List Nat
  /-- A MAC Control frame received whole (R222). -/
  ctl : Option (List Byte)
  /-- The frame in reassembly (R236). -/
  reasm : Option Reasm
deriving DecidableEq, Repr

/-- A port before any Forging. -/
def PortSt.cold : PortSt :=
  { mode := 0, anEn := false, ltEn := false, trained := false, taps := [], lanes := [], advert := none
    cond := { signal := false, blockLock := false, alignLock := false, fecLock := false, localFault := false
              remoteFault := false }
    holdClk := none, anEvent := none, quanta := 0, pauseClk := 0, lossSeen := false, pauseRem := 0, lossRem := 0
    verifySent := 0, verifyClk := 0, mpk := [], rx := [], ctl := none, reasm := none }

/-! ### The data path: buffer, hearths, queues, transmitters (chapters 01, 06, 09) -/

/-- The data path. -/
structure Dp where
  /-- Frames in the buffer by number, and the number of the next. -/
  frames : List (Nat × Frame)
  next : Nat
  /-- Ingress FIFO of each port: frames waiting, oldest first (R36). -/
  ingress : List (Nat × List Nat)
  /-- Port that each hearth's round robin took last (R36). -/
  robin : List (Nat × Nat)
  /-- Frames waiting at the recirculation port of each hearth, with the pass to be repeated (R50, R703). -/
  recirc : List (Nat × List (Nat × Option Pass))
  /-- Host FIFO of each hearth (R633). -/
  host : List (Nat × List Nat)
  /-- Passes in each decision path, oldest first (R35). -/
  pipe : List (Nat × List Pass)
  /-- Queues: 16 × port + queue, and 1216 + queue on port 76. -/
  queues : List (Nat × List Copy)
  /-- Transmitters of ports 0 to 75. -/
  tx : List (Nat × Tx)
  /-- Fragment tables: 8192 × hearth + 4 × set + way (R268). -/
  frags : List (Nat × FragEntry)
deriving DecidableEq, Repr

/-! ### TBL and FRY: tables, templates (chapters 07, 08) -/

/-- A table command in progress: opcode, table, hearth, bank (R353); once the arbiter has taken it: its core clock, the first entry
that a FLUSH has not come to, and the core clocks that the FLUSH takes (R356). -/
structure TblCmd where
  op : Nat
  table : Nat
  h : Nat
  bank : Bool
  clk : Nat
  next : Nat
  span : Nat
deriving DecidableEq, Repr

/-- The tables reached through TBL, the mover and the notification FIFOs. -/
structure Tab where
  /-- Entry images by table, hearth, bank and index (`Machine.entryKey`); an unlisted entry is all zeros. The images of
  meters and shapers are followed by their hidden remainders (R408, R413). -/
  mem : List (Nat × List Nat)
  /-- Pending insertions of each hearth's FDB mover, oldest first (R329). -/
  mover : List (Nat × List Learn)
  /-- Notification records of each hearth, oldest first (R333). -/
  notes : List (Nat × List (List Nat))
  /-- Chains of moves in progress, by 16 × hearth + table, and the core clock in which each table's last move began (R329). -/
  moves : List (Nat × MoverJob)
  moved : List (Nat × Nat)
  /-- Core clock of the last egress learning write of each hearth, plus 1 (R331). -/
  taught : List (Nat × Nat)
  /-- Command in progress of each context, and the context whose command the arbiter runs (R352). -/
  cmds : List (Nat × TblCmd)
  turn : Option Nat
deriving DecidableEq, Repr

/-- The Ferry's own state. -/
structure Fry where
  /-- Template images (R368). -/
  templates : List (Nat × List Nat)
  /-- Template command in progress: operation and index. -/
  cmd : Option (Nat × Nat)
  /-- The PEER_CHANGE bucket (R380). -/
  peer : Bucket
  /-- Outer IPv4 datagrams each hearth's egress stage has built (R384). -/
  ipCount : List (Nat × Nat)
deriving DecidableEq, Repr

/-- The traffic manager's hidden state. -/
structure Tmg where
  /-- Shapers: 0 to 1279 of queues, 1280 + port of ports (R413). -/
  shapers : List (Nat × Shaper)
  /-- Candidates of each mirror session since it was enabled (R427). -/
  mirrorSeen : List (Nat × Nat)
  /-- Core clock of the last sampling (R429). -/
  sampleClk : Nat
  /-- Charges returned, by core clock: port, queue, cells, shared cells, cells of the management pool (R403). -/
  back : List (Nat × Nat × Nat × Nat × Nat × Nat)
  /-- Core clock and hearth of the last vote, core clock and port of the last selection (R403, R416). -/
  lastVote : Nat × Nat
  lastSel : Nat × Nat
deriving DecidableEq, Repr

/-- The state of the device. -/
structure State where
  /-- Every register of BAR0 by address; an unlisted register holds its reset value (`regReset`). -/
  regs : List (Nat × BitVec 32)
  /-- Status bits set in this core clock, by the address of their register: a clearing read of the same core clock keeps them
  (R18). -/
  fresh : List (Nat × Nat)
  /-- Host memory, by 64-bit bus address; an unlisted byte reads 0. -/
  mem : List Host.Cell
  /-- Core clocks since cold reset. -/
  clk : Nat
  glb : Glb
  frg : Frg
  hif : Hif
  tal : Tal
  gbk : Gbk
  tim : Tim
  phs : Phs
  ldg : Ldg
  fab : Fab
  por : Por
  dry : Dry
  hlt : Hlt
  pin : Pin
  prt : List (Nat × PortSt)
  dp : Dp
  tab : Tab
  fry : Fry
  tmg : Tmg
  /-- Counts the free values taken (the model's own; see Config). -/
  free : Nat
  /-- Commands waiting, first in first out. -/
  pending : List Instr
deriving DecidableEq, Repr

/-! ### Reset -/

/-- A tracker in IDLE (R510). -/
def Tracker.idle : Tracker := { f := 0, count := 0, last := none, used := false }

/-- The mode controller after cold reset (R122, R140). -/
def Glb.cold : Glb :=
  { base := 0, shown := 0, wakeClk := 0, woken := false, drainClk := 0, diagFromQuiesced := false, warmBusy := false
    warmToWaking := false, hearthRst := [], started := false, bootDue := false, heldPin := false, heldSupply := false, heldClock := false
    coreLost := none, quadrants := 0, quadClk := 0, admitLevel := [], admitSeen := [], was := [], driven := [] }

/-- The Forging loader after cold reset: no Forging in any bank (R86, R140); the flash blank (DESIGN CHOICE, log entry 4). -/
def Frg.cold : Frg :=
  { bank0 := none, bank1 := none, active := none, onBank1 := [], oldBank := 0, tempering := false, load := none
    armed := none, commitClk := 0, timeoutDone := false, timingNew := false, admitFrom := none, flash := [] }

/-- The severities that are fatal at reset: Data Link Protocol, Surprise Down, Flow Control Protocol, Receiver Overflow, Malformed
TLP and Uncorrectable Internal Error (PCI Express; log entry 86, PRESUMED). -/
def aerSeverityReset : Nat := 0x462030

/-- The host interface after cold reset; OTP blank (DESIGN CHOICE, log entry 4). -/
def Hif.cold : Hif :=
  { busMaster := false, d3hot := false, mps := 128, mrrs := 512, unmasked := [], pba := [], sent := [], msix := [], bars := []
    cmdBits := 0, devBits := 0, dev2Bits := 0, linkBits := 0, devError := false, aerStatus := 0, aerMask := 0, aerSeverity := aerSeverityReset
    errSent := 0, dlActive := false, beatClk := 0, ostlerSilent := false
    restarting := false, mbxCmd := none, mbxOld := [], keyHash0 := none, keyHash1 := none, revoked0 := false
    revoked1 := false, secver := 0, imageKey := none, grade := 0, avsCount := 0, readData := [] }

/-- An empty Guestbook (R686). -/
def Gbk.cold : Gbk :=
  { buckets := [], suppressed := [], queue := [], log := [], fullSeen := false, spillNext := 0, spillMissed := 0
    wrote := none }

/-- Every counter 0 (R662). -/
def Tal.cold : Tal := { live := [], begun := [], latched := [], harvest := none, snapClk := none, relatch := 0 }

/-- Device time 0, not yet counting (R490). -/
def Tim.cold : Tim :=
  { t := 0, running := false, adj := 0, valid := false, lost := false, stepSum := 0, stepT := none, trkA := Tracker.idle
    trkB := Tracker.idle, bias := 0, biasClk := 0, integ := 0, recent := [], lockedSeen := false, clk10m := none
    ppsHigh := false, ppsClk := 0, ppsSec := 0, outFall := 0, outRise := 0, txts := [] }

/-- The phase clock not yet started (R433). -/
def Phs.cold : Phs :=
  { acc := 0, rate := 0, running := false, valid := false, lost := false, fint := 0
    mainsA := { last := none, period := none, run := 0, gap := false }, mainsB := { last := none, period := none, run := 0, gap := false }
    msg := [], errs := [], recent := [], rates := [], setPending := false, realignPending := false, wrapCycle := 0
    wrapClk := 0, hist := [], taNow := [], limitsSet := false }

/-- No ledgers. -/
def Ldg.cold : Ldg := { ledgers := [], gates := [] }

/-- Nothing voted out, nothing spared (R698, R713). -/
def Hlt.cold : Hlt :=
  { outvotes := [], drops := [], unreliable := [], poison := [], corrected := [], sparing := [], withdrawing := []
    tempState := [], voltState := [], temps := [], volts := [], alert := false, procBad := false, avsClk := none, bistTarget := 0 }

/-- Buses idle, every pin at its input or reset level (R755 to R762). -/
def Pin.cold : Pin :=
  { i2c0 := { tx := [], rx := [], cmd := none }, i2c1 := { tx := [], rx := [], cmd := none }, mdio := none, qspi := none
    pulses := [], ledClk := none, led := [], activity := [], jtag := 1, jtagData := 0, preload := [], pinsTaken := false }

/-- No fabric (R565, R585). -/
def Fab.cold : Fab :=
  { hbLost := false, hbClk := 0, rx := [], passed := [], ports := [], standing := none, lastTrig := none, maxTerm := none
    timeSeq := 0, timeClk := 0, keyActive := none, keyStandby := none, trig := none, armedBy := [], keySwitch := []
    join := [], selfSet := false }

/-- No room held, no handle cached (R615). -/
def Por.cold : Por := { masks := [], caches := [], extra := [], next := [], records := [], starvedBy := [], emptySeen := [], cmd := none }

/-- Every channel disabled (R652). -/
def Dry.cold : Dry := { rx := [], tx := [], err := [], rdTurn := [], wrTurn := [] }

/-- An empty data path. -/
def Dp.cold : Dp :=
  { frames := [], next := 0, ingress := [], robin := [], recirc := [], host := [], pipe := [], queues := [], tx := []
    frags := [] }

/-- Empty tables. -/
def Tab.cold : Tab := { mem := [], mover := [], notes := [], moves := [], moved := [], taught := [], cmds := [], turn := none }

/-- No templates (R368); the PEER_CHANGE bucket is full at its burst of 64 frames (R380). -/
def Fry.cold : Fry := { templates := [], cmd := none, peer := { level := 64 * clockHz, stamp := 0 }, ipCount := [] }

/-- Shapers at their start. -/
def Tmg.cold : Tmg := { shapers := [], mirrorSeen := [], sampleClk := 0, back := [], lastVote := (0, 0), lastSel := (0, 0) }

/-- The device right after the power-on cold reset (R140, R146): GLB_RST_CAUSE.POWER_ON is 1, RESET_N is about to rise. -/
def State.reset : State :=
  { regs := [(0x28, 1)], fresh := [], mem := [], clk := 0, glb := Glb.cold, frg := Frg.cold, hif := Hif.cold, tal := Tal.cold
    gbk := Gbk.cold, tim := Tim.cold, phs := Phs.cold, ldg := Ldg.cold, fab := Fab.cold, por := Por.cold, dry := Dry.cold, hlt := Hlt.cold, pin := Pin.cold
    prt := [], dp := Dp.cold, tab := Tab.cold, fry := Fry.cold, tmg := Tmg.cold
    free := 0, pending := [] }

end Machine
end Sys2Proof
end

