-- ==== Sys2Proof/WellFormed.lean ====
section
/-! DEFINITION. WellFormed.lean: the commands whose operands name something the device has: a port, a hearth, a channel, an
address of its space, a value that fits the field that carries it. No other command can reach the device. -/
namespace Sys2Proof

/-- A DWORD of BAR0 (R156). -/
def barAddr (a : Nat) : Bool := decide (a < 0x1000000) && a % 4 == 0

/-- A DWORD of BAR2 (R156). -/
def userAddr (a : Nat) : Bool := decide (a < 0x10000) && a % 4 == 0

/-- A region or limit register of the traffic manager (R405): TM_HEADROOM, TM_MGMT_POOL, TM_PORT_LIMIT of a port, TM_Q_MIN or
TM_Q_MAX of a queue; port 76 has 64 queues, each other port 16. -/
def regionAddr (a : Nat) : Bool :=
  a == 0xE0008 || a == 0xE000C
    || (decide (0xE1000 ≤ a) && decide (a < 0xF4900) &&
      (let p := min 76 ((a - 0xE1000) / 0x400)
       let o := a - 0xE1000 - 0x400 * p
       o == 4 || (decide (0x100 ≤ o) && decide (o < if p = 76 then 0x900 else 0x300) && (o % 0x20 == 0 || o % 0x20 == 4))))

/-- A shaper of a port 0 to 76 or of one of its queues. -/
def shaperTargetOk : ShaperTarget → Bool
  | .port p => decide (p < 77)
  | .queue p q => decide (p < 77) && decide (q < if p = 76 then 64 else 16)

/-- Channels 0 to 63, errands 0 to 15 (R617). -/
def dataChanOk : DataChan → Bool
  | .rx c => decide (c < 64)
  | .tx c => decide (c < 64)
def dryChanOk : DryChan → Bool
  | .rx c => decide (c < 64)
  | .tx c => decide (c < 64)
  | .err e => decide (e < 16)

/-- A vector 0 to 127, or the function mask. -/
def vectorOk : Option Nat → Bool
  | some v => decide (v < 128)
  | none => true

/-- A configuration register that the function has: six BAR registers, ten capabilities. -/
def cfgOk : CfgReg → Bool
  | .bar k => decide (k < 6)
  | .capabilities k => decide (k < 10)
  | _ => true

/-- The table has 512 DWORDs, the PBA four (R156). -/
def pciOk : PciAccess → Bool
  | .unmask v => vectorOk v
  | .tableRead k | .tableWrite k _ => decide (k < 512)
  | .pbaRead k => decide (k < 4)
  | .pageSlot n => decide (n < 8192)
  | .pageDword k => decide (k < 16384)
  | .cfgRead r | .cfgWrite r _ => cfgOk r

/-- A TCAM row 0 to 16,383, if one is named. -/
def votersOk (f : VoteFaults) : Bool :=
  match f.tcamParity with
  | some r => decide (r < 16384)
  | none => true

/-- An ECC word: class 0 to 4, hearth 0 to 15, table or bank and index as HLT_ECC_CAP holds them. -/
def eccOk (w : EccWord) : Bool :=
  decide (w.cls < 5) && decide (w.hearth < 16) && decide (w.table < 256) && decide (w.index < 0x100000)

/-- A poll of 16 temperature sensors, 12 voltage monitors and 32 process monitors (R716). -/
def readingsOk (r : Readings) : Bool := r.temps.length == 16 && r.volts.length == 12 && r.procs.length == 32

/-- Do the operands of a command name ports, hearths, channels and the like that the device has? -/
def wellFormed (c : Instr) : Bool :=
  match c with
  | .coldReset _ => true
  | .resetNRise _ => true
  | .supplyBrownout _ => true
  | .supplyRecovered _ _ => true
  | .refclkLost _ clk => decide (clk < 6)
  | .refclkRestored _ clk => decide (clk < 6)
  | .coreRefclkLost _ => true
  | .corePllHoldoverExpiry _ => true
  | .bootFlashSelect _ => true
  | .verificationComplete _ => true
  | .fullLoad => true
  | .shadowLoad => true
  | .frgAbort => true
  | .armCommit => true
  | .disarm => true
  | .rollback => true
  | .flushOld => true
  | .bootFlash => true
  | .frgLoadPortWrite _ => true
  | .temperCommit _ => true
  | .temperRelease _ => true
  | .temperDrainTimeout _ => true
  | .drain => true
  | .resume => true
  | .endWaking => true
  | .enterSafe => true
  | .clearSafe => true
  | .enterDiag => true
  | .endDiag => true
  | .wakeTimerExpiry _ => true
  | .glbWakeMsWrite _ => true
  | .drainComplete _ => true
  | .drainTimeout _ => true
  | .warmReset => true
  | .warmResetComplete _ => true
  | .hearthReset mask => decide (mask < 16)
  | .hearthResetComplete _ h => decide (h < 4)
  | .portReset port => decide (port < 76)
  | .portResetRelease port => decide (port < 76)
  | .functionLevelReset => true
  | .hostLinkLoss _ => true
  | .d3hotEntry => true
  | .frameArrival _ port _ _ => decide (port < 72)
  | .frameReceiveEnd _ port _ => decide (port < 72)
  | .macControlFrame _ port => decide (port < 72)
  | .pauseTimerExpiry _ port => decide (port < 72)
  | .mmFragmentReceived _ port frag => decide (port < 72) && decide (frag.frameCount < 4) && decide (frag.fragCount < 4)
  | .verifyMpacketReceived _ port => decide (port < 72)
  | .respondMpacketReceived _ port => decide (port < 72)
  | .verifyTimerExpiry _ port => decide (port < 72)
  | .linkConditionChange _ port _ => decide (port < 72)
  | .linkHoldExpiry _ port => decide (port < 72)
  | .autonegResolved _ port mode => decide (port < 72) && decide (mode < 16)
  | .linkTrainingComplete _ x => decide (x.port < 72) && decide (x.taps.length ≤ 8) && x.taps.all (fun t => decide (t < 2 ^ 22))
  | .decisionPassStart _ h => decide (h < 4)
  | .vote _ h faults => decide (h < 4) && votersOk faults
  | .queueSelection _ port => decide (port < 76)
  | .transmitEnd _ port => decide (port < 76)
  | .ledgerLineBoundary _ port => decide (port < 72)
  | .ledgerStart _ port => decide (port < 72)
  | .streamGateLineStart _ gate => decide (gate < 4096)
  | .ldgBaseSubWrite port _ => decide (port < 72)
  | .mainsEdge _ src _ => decide (src < 2)
  | .mainsLossTimeout _ src => decide (src < 2)
  | .phsMsgPost _ => true
  | .msgLossTimeout _ => true
  | .phaseWrap _ => true
  | .latchPhase => true
  | .setCycle => true
  | .realign => true
  | .timedActionArm slot _ => decide (slot < 32)
  | .timedActionFire _ slot => decide (slot < 32)
  | .gpioPulseEnd _ pin => decide (pin < 16)
  | .timSmpPost _ => true
  | .trackerLossTimeout _ _ => true
  | .latch => true
  | .stepRel _ => true
  | .setAbs => true
  | .switchDomain _ => true
  | .timCtlWrite _ => true
  | .clk10mMeasurement _ => true
  | .ppsInEdge _ => true
  | .ppsOutSecond _ => true
  | .ppsOutPulseEnd _ => true
  | .txtsRecordRead => true
  | .utcOffsetSet _ => true
  | .kixonFrameCheck _ => true
  | .hello _ => true
  | .helloAck _ => true
  | .helloTimer _ port => decide (port < 72)
  | .delayReqTimer _ port => decide (port < 72)
  | .delayReq _ => true
  | .delayResp _ => true
  | .timeInterval _ => true
  | .timeFrame _ => true
  | .upstreamCandidateExpiry _ port => decide (port < 72)
  | .trigger _ => true
  | .keySwitchInstant _ => true
  | .heartbeat _ => true
  | .hbLossTimeout _ => true
  | .kixonHostMessage _ => true
  | .joinQueueDelivery _ => true
  | .takeover => true
  | .stepDown => true
  | .sendTrigger => true
  | .triggerRepeat _ => true
  | .keySwitch => true
  | .rehello port => decide (port < 128)
  | .fabSelfWrite _ => true
  | .fabPortCfgWrite port _ => decide (port < 72)
  | .tblRead ctx table h _ => decide (ctx < 4) && decide (table < 256) && decide (h < 4)
  | .tblWrite ctx table h _ => decide (ctx < 4) && decide (table < 256) && decide (h < 4)
  | .tblLookup ctx table h _ => decide (ctx < 4) && decide (table < 256) && decide (h < 4)
  | .tblInsert ctx table h _ => decide (ctx < 4) && decide (table < 256) && decide (h < 4)
  | .tblUpdate ctx table h _ => decide (ctx < 4) && decide (table < 256) && decide (h < 4)
  | .tblDelete ctx table h _ => decide (ctx < 4) && decide (table < 256) && decide (h < 4)
  | .hitScan ctx table h _ => decide (ctx < 4) && decide (table < 256) && decide (h < 4)
  | .tblAge ctx table h _ => decide (ctx < 4) && decide (table < 256) && decide (h < 4)
  | .tblFlush ctx table h _ => decide (ctx < 4) && decide (table < 256) && decide (h < 4)
  | .tblCmdComplete _ ctx => decide (ctx < 4)
  | .moverInsertion _ h table => decide (h < 4) && decide (table ≤ 8)
  | .tblNoteW3Read h => decide (h < 4)
  | .hthExcCapRead h => decide (h < 4)
  | .fragmentEntryExpiry _ h set way => decide (h < 4) && decide (set < 2048) && decide (way < 4)
  | .tmplRead index => decide (index < 512)
  | .tmplWrite index => decide (index < 512)
  | .tmplCmdComplete _ => true
  | .meterBackgroundRefresh _ h meter => decide (h < 4) && decide (meter < 32768)
  | .shaperRateWrite target _ _ => shaperTargetOk target
  | .tmRegionWrite addr _ => regionAddr addr
  | .queueSample _ => true
  | .porAlloc pool owner => decide (pool < 8) && decide (owner < 16)
  | .porFree owner => decide (owner < 16)
  | .porShare owner => decide (owner < 16)
  | .porQuery => true
  | .porCmdComplete _ => true
  | .poolEnable pool _ => decide (pool < 8)
  | .poolDisable pool => decide (pool < 8)
  | .cacheRefill _ pool => decide (pool < 8)
  | .cacheSpill _ pool => decide (pool < 8)
  | .returnQueueRecord _ => true
  | .porterDmaErr _ target => decide (target ≤ 8)
  | .channelEnable chan => dataChanOk chan
  | .descriptorsPosted chan _ => dataChanOk chan
  | .descriptorFetch _ chan _ => dataChanOk chan
  | .dryStop chan => dryChanOk chan
  | .channelStopped _ chan => dryChanOk chan
  | .resumeChannel chan => dryChanOk chan
  | .channelDisable chan => dataChanOk chan
  | .rxCopyHandover _ ring => decide (ring < 64)
  | .rxRoomAllocation _ ring => decide (ring < 64)
  | .rxCopyComplete _ ring => decide (ring < 64)
  | .rxIntModTimer _ ring => decide (ring < 64)
  | .txFrameRead _ chan => decide (chan < 64)
  | .txDescriptorComplete _ chan => decide (chan < 64)
  | .dmaReadError _ chan => dryChanOk chan
  | .errandStart e => decide (e < 16)
  | .errandMove _ e => decide (e < 16)
  | .errandLoop _ e => decide (e < 16)
  | .errandWait _ e => decide (e < 16)
  | .waitComplete _ e => decide (e < 16)
  | .waitTimeout _ e => decide (e < 16)
  | .errandSignal _ e => decide (e < 16)
  | .errandFence _ e => decide (e < 16)
  | .errandEnd _ e => decide (e < 16)
  | .snapshot _ => true
  | .talClear _ => true
  | .harvestStart _ => true
  | .harvestAbort => true
  | .harvestComplete _ => true
  | .talRdSelWrite _ => true
  | .eventRaise _ code unit arg0 arg1 => decide (code < 65536) && decide (unit < 0x100000000) && decide (arg0 < 0x100000000) && decide (arg1 < 0x100000000)
  | .summaryTimer _ code => decide (code < 65536)
  | .logPlacement _ => true
  | .gbkRdSeqWrite _ => true
  | .gbkClear => true
  | .gbkClearAll => true
  | .spillBatch _ => true
  | .ping tag len => decide (tag < 256) && decide (len < 32)
  | .getVersion tag len => decide (tag < 256) && decide (len < 32)
  | .avsStatus tag len => decide (tag < 256) && decide (len < 32)
  | .otpKeyHash tag len => decide (tag < 256) && decide (len < 32)
  | .otpRevoke tag len => decide (tag < 256) && decide (len < 32)
  | .otpImageKey tag len => decide (tag < 256) && decide (len < 32)
  | .otpRaiseSecver tag len => decide (tag < 256) && decide (len < 32)
  | .mbxCompletion _ _ => true
  | .mbxTimeout _ => true
  | .ostlerBeat _ => true
  | .ostlerSilent _ => true
  | .ostlerRestart => true
  | .glbVecEoiWrite _ => true
  | .msixUnmask access => pciOk access
  | .rcRegisterRead addr be => barAddr addr && decide (be < 16)
  | .unassignedRead addr be => barAddr addr && decide (be < 16)
  | .unalignedRead addr dwords => barAddr addr && decide (1 ≤ dwords) && decide (dwords ≤ 1024) && decide (addr + 4 * dwords ≤ 0x1000000)
  | .bar2Write offset => userAddr offset
  | .poisoned bar2 offset => (if bar2 then userAddr offset else barAddr offset)
  | .registerWrite addr be _ => barAddr addr && decide (be < 16)
  | .fenceCopy h copy => decide (h < 4) && decide (copy < 3)
  | .unfence h => decide (h < 4)
  | .copyBist _ h _ => decide (h < 4)
  | .scrubAccess _ word errors => eccOk word && decide (errors < 4)
  | .tcamScrub _ h _ row _ _ => decide (h < 4) && decide (row < 16384)
  | .spare bank => decide (bank < 64)
  | .bankSpared _ bank => decide (bank < 64)
  | .bankWithdrawn _ bank => decide (bank < 64)
  | .monitorPoll _ readings => readingsOk readings
  | .monitorCrit _ volt k _ => decide (k < if volt then 12 else 16)
  | .avsStep _ => true
  | .bistRun target => decide (target < 32)
  | .bistComplete _ failed => decide (failed < 32)
  | .qspiCommand _ => true
  | .qspiDone _ data => decide (data.length ≤ 256)
  | .i2cStart i _ => decide (i < 2)
  | .i2cDone _ i result data => decide (i < 2) && decide (result ≤ 5) && decide (data.length ≤ 32)
  | .i2cDataWrite i _ => decide (i < 2)
  | .i2cDataRead i => decide (i < 2)
  | .c22Write phy reg => decide (phy < 32) && decide (reg < 32)
  | .c22Read phy reg => decide (phy < 32) && decide (reg < 32)
  | .c45Write phy dev reg => decide (phy < 32) && decide (dev < 32) && decide (reg < 65536)
  | .c45Read phy dev reg => decide (phy < 32) && decide (dev < 32) && decide (reg < 65536)
  | .mdioDone _ _ data => decide (data < 65536)
  | .gpioEdge _ pin => decide (pin < 16)
  | .ledStream _ => true
  | .jtagBypass => true
  | .jtagIdcode => true
  | .jtagSamplePreload _ => true
  | .jtagExtest => true
  | .jtagExtestPulse => true
  | .jtagExtestTrain => true
  | .jtagHighz => true
  | .jtagClamp => true
  | .slotLastByteArrived _ => true
  | .quadrantTrainingStart _ q => decide (q < 4)
  | .hostLinkUp _ speed width cfg => decide (1 ≤ speed) && decide (speed ≤ 5) && [1, 2, 4, 8].contains width && [128, 256, 512].contains cfg.mps && [128, 256, 512, 1024, 2048, 4096].contains cfg.mrrs
  | .coreRefclkRestored _ => true

end Sys2Proof
end

