-- ==== Sys2Proof/Machine/Ops.lean ====
section
/-! DEFINITION. Machine/Ops.lean: the operations every command is built of: registers and fields, host memory, counters,
the clock, records of the Guestbook, interrupts, and the frame of a command's meaning. -/
namespace Sys2Proof
namespace Machine

/-! ### Registers (R15 to R17) -/

/-- The value a register holds. -/
def rget (s : State) (a : Nat) : Nat := (sget regReset s.regs a).toNat

/-- Set a register. -/
def rput (a v : Nat) (s : State) : State := { s with regs := sput regReset s.regs a (BitVec.ofNat 32 v) }

/-- The value of a field. -/
def fget (s : State) (f : Fld) : Nat := bits (rget s f.addr) f.lo f.width

/-- Set a field; the register's other bits stay. -/
def fput (f : Fld) (v : Nat) (s : State) : State := rput f.addr (setBits (rget s f.addr) f.lo f.width v) s

/-- Is a one-bit field 1? -/
def fbit (s : State) (f : Fld) : Bool := fget s f == 1

/-- No status bit is set. -/
def freshDefault (_ : Nat) : Nat := 0

/-- Set status bits of a register (an INT_STAT, an RC field): bits already 1 stay, and a clearing read of this core clock keeps
them (R18). -/
def forBits (a m : Nat) (s : State) : State :=
  rput a (rget s a ||| m) { s with fresh := sput freshDefault s.fresh a (sget freshDefault s.fresh a ||| m) }

/-- Set bit `i` of an INT_STAT register. -/
def setInt (a i : Nat) (s : State) : State := forBits a (2 ^ i) s

/-- The value of the register at `a` that is in force: in the core clock of a write that takes effect with the next one, the
value before it (R129, R152, R405). -/
def rgetInForce (s : State) (a : Nat) : Nat :=
  match s.glb.was.find? (fun e => e.1 == a && e.2.1 == s.clk) with
  | some e => e.2.2
  | none => rget s a

/-- The value in force of a field. -/
def fgetInForce (s : State) (f : Fld) : Nat := bits (rgetInForce s f.addr) f.lo f.width

/-- The register at `a` is about to be written, and its value stays in force to the end of this core clock. -/
def keepInForce (a : Nat) (s : State) : State :=
  let l := s.glb.was.filter (fun e => e.2.1 == s.clk)
  { s with glb := { s.glb with was := if l.any (fun e => e.1 == a) then l else l ++ [(a, s.clk, rget s a)] } }

/-- A clearing read of this core clock leaves in field `f` what `g` makes of what it left so far (R18). -/
def keepFresh (f : Fld) (g : Nat → Nat) (s : State) : State :=
  let w := sget freshDefault s.fresh f.addr
  { s with fresh := sput freshDefault s.fresh f.addr (setBits w f.lo f.width (g (bits w f.lo f.width))) }

/-- Add to a counting field that saturates and clears on read. -/
def faddSat (f : Fld) (n : Nat) (s : State) : State :=
  let add := fun k => min (k + n) (2 ^ f.width - 1)
  fput f (add (fget s f)) (keepFresh f add s)

/-- A field that clears on read holds the greatest value since the last read. -/
def fmax (f : Fld) (v : Nat) (s : State) : State := fput f (max v (fget s f)) (keepFresh f (max v) s)

/-- A register that clears on read captures the value `v`. -/
def capture (a v : Nat) (s : State) : State := rput a v { s with fresh := sput freshDefault s.fresh a v }

/-- Add to a counting field that wraps. -/
def faddWrap (f : Fld) (n : Nat) (s : State) : State := fput f ((fget s f + n) % 2 ^ f.width) s

/-- A 64-bit value held in two registers (R26). -/
def rget64 (s : State) (hi lo : Nat) : Nat := rget s hi * 2 ^ 32 + rget s lo

/-- Set a 64-bit value held in two registers. -/
def rput64 (hi lo v : Nat) (s : State) : State := rput lo (v % 2 ^ 32) (rput hi (v / 2 ^ 32) s)

/-- A word of ones. -/
def full : Nat := 0xFFFFFFFF

/-- The bits of register `a` that a host write sets (access RW and RWK, R17). -/
def rwMask (a : Nat) : Nat := match regAt a with | some d => d.rw | none => 0

/-- The RW fields of register `a` take the bits of `v`; its other fields stay (R166). -/
def writeRw (a v : Nat) (s : State) : State :=
  let m := rwMask a
  rput a ((rget s a &&& (full ^^^ m)) ||| (v &&& m)) s

/-! ### Host memory (R14) -/

/-- What a byte of host memory reads as when nothing has written it (DESIGN CHOICE, log entry 3). -/
def memDefault (_ : Nat) : Byte := 0

/-- One byte of host memory. -/
def memByte (s : State) (a : Nat) : Byte := sget memDefault s.mem (a % 2 ^ 64)

/-- `n` bytes of host memory. -/
def memRead (s : State) (a n : Nat) : List Byte := (List.range n).map (fun i => memByte s (a + i))

/-- Write bytes to host memory. -/
def memWrite (a : Nat) : List Byte → State → State
  | [], s => s
  | b :: t, s => memWrite (a + 1) t { s with mem := sput memDefault s.mem (a % 2 ^ 64) b }

/-- Does the memory stand in its canonical form? -/
def memWf (m : List Host.Cell) : Bool := scanon memDefault 0 m

/-! ### Counters (R654 to R656) -/

/-- Counters of each group, by group ID (R656). -/
def groupSizes : List Nat :=
  [1728, 60, 131072, 52, 524288, 131072, 393216, 1048576, 262144, 80, 7680, 308, 786432, 4, 24, 40960, 5760, 12288, 9,
   15, 648, 12, 72, 128, 192, 256, 48, 64, 16]

/-- The number of counters of group `g`. -/
def groupSize (g : Nat) : Nat := groupSizes.getD g 0

/-- The first counter of group `g` among all counters. -/
def groupBase (g : Nat) : Nat := (groupSizes.take g).foldl (· + ·) 0

/-- What an unlisted counter reads. -/
def ctrDefault (_ : Nat) : Nat := 0

/-- The live value of counter `i` of group `g`. -/
def ctr (s : State) (g i : Nat) : Nat := sget ctrDefault s.tal.live (groupBase g + i)

/-- Add `n` to counter `i` of group `g`, modulo 2⁶⁴ (R654). -/
def bumpN (g i n : Nat) (s : State) : State :=
  { s with tal := { s.tal with live := sput ctrDefault s.tal.live (groupBase g + i) ((ctr s g i + n) % 2 ^ 64) } }

/-- Add 1 to counter `i` of group `g`. -/
def bump (g i : Nat) (s : State) : State := bumpN g i 1 s

/-! ### Token buckets (R148, R682) -/

/-- The level in core clock `now` of a bucket of `rate` tokens per second and `burst` tokens. -/
def bucketLevel (rate burst now : Nat) (b : Bucket) : Nat := min (burst * clockHz) (b.level + rate * (now - b.stamp))

/-- Take one token when there is one. -/
def bucketTake (rate burst now : Nat) (b : Bucket) : Bool × Bucket :=
  let l := bucketLevel rate burst now b
  if clockHz ≤ l then (true, { level := l - clockHz, stamp := now }) else (false, { level := l, stamp := now })

/-! ### Device time (R11, R491) -/

/-- Units of device time in one ns: a core clock of 5/7 ns, adjusted in steps of 2⁻¹⁰ ppb, is a whole number of units. -/
def timeUnit : Nat := 7 * 1024 * 1000000000

/-- Units of device time in one second. -/
def secUnits : Nat := 1000000000 * timeUnit

/-- Device time wraps after 2⁴⁸ seconds. -/
def timeMod : Nat := 2 ^ 48 * secUnits

/-- What one core clock adds to device time at adjustment `a`, in 2⁻¹⁰ ppb. -/
def clockStep (a : Int) : Nat := (5 * (1024 * 1000000000 + a)).toNat

/-- Seconds, ns and 2⁻¹⁶ ns of a device time. -/
def timeSec (t : Nat) : Nat := t / secUnits
def timeNs (t : Nat) : Nat := t % secUnits / timeUnit
def timeFrac (t : Nat) : Nat := t % timeUnit * 65536 / timeUnit

/-- Device time in whole ns. -/
def timeWholeNs (t : Nat) : Nat := t / timeUnit

/-- Write seconds, ns and fraction of a device time into four registers that begin at `a` (TIM_LAT and its like). -/
def latchTime (a t : Nat) (s : State) : State :=
  rput (a + 12) (timeFrac t) (rput (a + 8) (timeNs t) (rput (a + 4) (timeSec t % 2 ^ 32) (rput a (timeSec t / 2 ^ 32) s)))

/-- Write cycle and phase of an instant into three registers that begin at `a` (PHS_LAT and its like). -/
def latchInstant (a x : Nat) (s : State) : State :=
  rput (a + 8) (x % 2 ^ 24) (rput (a + 4) (x / 2 ^ 24 % 2 ^ 32) (rput a (x / 2 ^ 56 % 256) s))

/-- The phase instant held in three registers that begin at `a`. -/
def instantAt (s : State) (a : Nat) : Nat :=
  (rget s a % 256) * 2 ^ 56 + rget s (a + 4) * 2 ^ 24 + rget s (a + 8) % 2 ^ 24

/-- A 12-byte stamp record (R494). -/
def stampRecord (t : Nat) : List Byte := leBytes 4 (timeNs t) ++ leBytes 2 (timeFrac t) ++ leBytes 6 (timeSec t)

/-- Phase instant of the phase clock: 40-bit cycle above 24-bit phase (R10). -/
def phaseInstant (s : State) : Nat := s.phs.acc / 2 ^ 48

/-- Core clocks pass: device time and the phase clock run (R434, R491). -/
def passClocks (n : Nat) (s : State) : State :=
  { s with
    clk := s.clk + n
    tim := if s.tim.running then { s.tim with t := (s.tim.t + n * clockStep s.tim.adj) % timeMod } else s.tim
    phs := { s.phs with acc := (s.phs.acc + n * s.phs.rate) % 2 ^ 112 } }

/-! ### The Guestbook's input (R676 to R685) -/

/-- The codes of severity WARNING, ERROR and CRITICAL; every other assigned code is INFO (the events tables). -/
def warnCodes : List Nat :=
  [0x0003, 0x0004, 0x0006, 0x0008, 0x0009, 0x000A, 0x0105, 0x0106, 0x0201, 0x0204, 0x0207, 0x0302, 0x0304, 0x0306,
   0x0307, 0x0308, 0x0402, 0x0403, 0x0404, 0x0405, 0x0406, 0x0501, 0x0502, 0x0503, 0x0504, 0x0505, 0x0602, 0x0603,
   0x0605, 0x0608, 0x0802, 0x0902, 0x0905, 0x0906, 0x0908, 0x0A03, 0x0A04, 0x0A05, 0x0A07, 0x0A08, 0x0B02, 0x0B03,
   0x0B04, 0x0B06, 0x0B08, 0x0B09, 0x0B0C, 0x0B0D, 0x0B0F, 0x0C01, 0x0C02, 0x0C03, 0x0C04, 0x0C05, 0x0D02, 0x0E01,
   0x0E02, 0x0F02, 0x0F03, 0x0F41, 0x0F48, 0x0F4B, 0x0F4D, 0x0F50, 0x0F51, 0x0FC0, 0x0FC3]
def errorCodes : List Nat :=
  [0x0102, 0x0107, 0x0108, 0x0202, 0x0203, 0x0206, 0x0303, 0x0701, 0x0702, 0x0B0B, 0x0C06, 0x0D01, 0x0D03, 0x0F44,
   0x0F46, 0x0F49, 0x0F4A, 0x0F52]
def critCodes : List Nat := [0x0007, 0x0109, 0x0F4C, 0x0F4E, 0x0FC2]
/-- The INFO codes. -/
def infoCodes : List Nat :=
  [0x0001, 0x0002, 0x0005, 0x0101, 0x0103, 0x0104, 0x0205, 0x0301, 0x0305, 0x0401, 0x0506, 0x0601, 0x0604, 0x0606,
   0x0607, 0x0609, 0x0703, 0x0704, 0x0705, 0x0801, 0x0901, 0x0903, 0x0904, 0x0907, 0x0909, 0x090A, 0x0A01, 0x0A02,
   0x0A06, 0x0A09, 0x0B01, 0x0B05, 0x0B07, 0x0B0A, 0x0B0E, 0x0D04, 0x0E03, 0x0F01, 0x0F40, 0x0F42, 0x0F43, 0x0F45,
   0x0F47, 0x0F4F, 0x0FC1]

/-- The severity of a code (R676). -/
def severityOf (code : Nat) : Nat :=
  if warnCodes.contains code then 1 else if errorCodes.contains code then 2 else if critCodes.contains code then 3 else 0

/-- The bucket of a code since cold reset: full at the default burst of its severity (R682). -/
def gbkBucketDefault (code : Nat) : Bucket :=
  { level := ([32, 64, 128, 1024].getD (severityOf code) 0) * clockHz, stamp := 0 }

/-- Unlisted codes have suppressed nothing. -/
def suppressedDefault (_ : Nat) : Suppressed := { count := 0, first := 0, last := 0 }

/-- Year, month and day of a day counted from 1970-01-01, on the proleptic Gregorian calendar (R681). -/
def civilDate (days : Nat) : Nat × Nat × Nat :=
  let z := days + 719468
  let era := z / 146097
  let doe := z % 146097
  let yoe := (doe - doe / 1460 + doe / 36524 - doe / 146096) / 365
  let doy := doe - (365 * yoe + yoe / 4 - yoe / 100)
  let mp := (5 * doy + 2) / 153
  let d := doy - (153 * mp + 2) / 5 + 1
  let m := if mp < 10 then mp + 3 else mp - 9
  (yoe + era * 400 + (if m ≤ 2 then 1 else 0), m, d)

/-- UTC seconds after 9999-12-31 23:59:59. -/
def utcLimit : Int := 253402300800

/-- The ns elapsed since the last cold reset, from the core clock alone (R681). -/
def monoNs (s : State) : Nat := s.clk * 5 / 7

/-- TIME_UNSET and the TIME field of a record raised now (R679, R681). -/
def recordTime (s : State) : Bool × List Byte :=
  let utc : Int := Int.ofNat (timeSec s.tim.t) - toSigned 16 (rget s A.TIM_UTC_OFFSET)
  if s.tim.valid ∧ 0 ≤ utc ∧ utc < utcLimit then
    let u := utc.toNat
    let (y, mo, d) := civilDate (u / 86400)
    let r := u % 86400
    (false, leBytes 2 y ++ [BitVec.ofNat 8 mo, BitVec.ofNat 8 d, BitVec.ofNat 8 (r / 3600), BitVec.ofNat 8 (r % 3600 / 60),
      BitVec.ofNat 8 (r % 60), 0] ++ leBytes 4 (timeNs s.tim.t))
  else (true, leBytes 8 (monoNs s) ++ leBytes 4 0)

/-- The Tally groups and positions of the Guestbook's counters (R697). -/
def gbkCtr (i : Nat) (s : State) : State := bump 28 i s

/-- The place of a code among the events of one core clock: ascending (R685), but TEMP_CRIT and VOLT_CRIT stand before
SAFE_ENTER (R719). -/
def eventKey (code : Nat) : Nat := if code = 0x0F4C ∨ code = 0x0F4E then 2 * 0x0007 - 1 else 2 * code

/-- Events that pass in one core clock are taken in the order of their keys (R685). -/
def insertEvent (e : GbkEvent) : List GbkEvent → List GbkEvent
  | [] => [e]
  | x :: t => if x.clk = e.clk ∧ eventKey e.code < eventKey x.code then e :: x :: t else x :: insertEvent e t

/-- An event is lost because 64 events wait (R685). -/
def overflowed (code : Nat) (s : State) : State :=
  let s := gbkCtr 11 s
  if severityOf code = 3 then setInt A.GBK_INT_STAT 3 (gbkCtr 10 s) else s

/-- An event that passed its bucket enters the input queue; when more than 64 events would wait, the last in order is lost
(R685). -/
def enterQueue (code unit arg0 arg1 : Nat) (s : State) : State :=
  let w := recordTime s
  let e : GbkEvent :=
    { code := code, unit := unit, arg0 := arg0 % 2 ^ 32, arg1 := arg1 % 2 ^ 32, unset := w.1, time := w.2
      clk := s.clk }
  let q := insertEvent e s.gbk.queue
  let s := { s with gbk := { s.gbk with queue := q.take 64 } }
  match q.drop 64 with
  | [] => s
  | x :: _ => overflowed x.code s

/-- A suppressed occurrence (R683). -/
def suppress (code : Nat) (s : State) : State :=
  let p := sget suppressedDefault s.gbk.suppressed code
  let p' : Suppressed :=
    { count := min (p.count + 1) (2 ^ 32 - 1), first := if p.count = 0 then s.clk else p.first, last := s.clk }
  gbkCtr 4 { s with gbk := { s.gbk with suppressed := sput suppressedDefault s.gbk.suppressed code p' } }

/-- Raise an event: it passes its code's bucket into the input queue, or is suppressed (R682, R683). -/
def raise (code unit arg0 arg1 : Nat) (s : State) : State :=
  let sev := severityOf code
  let rate := fgetInForce s (F.GBK_RL_RATE_RATE sev)
  if rate = 0xFFFF then enterQueue code unit arg0 arg1 s
  else
    let r := bucketTake rate (fgetInForce s (F.GBK_RL_BURST_BURST sev)) s.clk (sget gbkBucketDefault s.gbk.buckets code)
    let s := { s with gbk := { s.gbk with buckets := sput gbkBucketDefault s.gbk.buckets code r.2 } }
    if r.1 then enterQueue code unit arg0 arg1 s else suppress code s

/-- UNIT of a record that names none (R678). -/
def noUnit : Nat := 0xFF

/-- A signed number as a 32-bit argument of a record. -/
def sArg (x : Int) : Nat := ofSigned 32 x

/-! ### Access errors (R171 to R173) -/

/-- Kinds of access error: the bit numbers of HIF_ACC_ERR_STAT. -/
def errNarrowWrite : Nat := 0
def errUnalignedRead : Nat := 1
def errUnalignedWrite : Nat := 2
def errUnassignedRead : Nat := 3
def errUnassignedWrite : Nat := 4
def errLoadPortDrop : Nat := 5
def errResetBusy : Nat := 6
def errBar2Write : Nat := 7
def errPoisoned : Nat := 8
def errMbxBusy : Nat := 9
def errLockedWrite : Nat := 10

/-- An access error of a kind at offset `off` of BAR0 or BAR2 (R171, R172). -/
def accErr (bar2 : Bool) (kind off : Nat) (s : State) : State :=
  let s := if rget s A.HIF_ACC_ERR_STAT = 0 then
    rput A.HIF_ACC_ERR_ADDR (b2n bar2 * 2 ^ 31 + kind * 2 ^ 24 + off % 2 ^ 24) s else s
  let s := faddSat F.HIF_ACC_ERR_COUNT_COUNT 1 (setInt A.HIF_ACC_ERR_STAT kind s)
  raise 0x0201 noUnit kind off (setInt A.HIF_INT_STAT 1 s)

/-- A write of the register at `a` is dropped because of the state of the device (R173). -/
def lockedWrite (a : Nat) (s : State) : State := accErr false errLockedWrite a s

end Machine
end Sys2Proof
end

