-- ==== Sys2Proof/Machine/Flags.lean ====
section
/-! DEFINITION. Machine/Flags.lean: what the device computes from its state at every moment: conditions and mode (R121 to
R125), interrupt lines, vectors and MSI-X messages (R174 to R181), the ALERT_N pin (R720). -/
namespace Sys2Proof
namespace Machine

/-! ### Base states and modes (R121, R122) -/

def bDormant : Nat := 0
def bLoading : Nat := 1
def bVerifying : Nat := 2
def bWaking : Nat := 3
def bRun : Nat := 4
def mTempering : Nat := 5
def mHoldover : Nat := 6
def mDegraded : Nat := 7
def bDraining : Nat := 8
def bQuiesced : Nat := 9
def mSafe : Nat := 10
def bDiagnostic : Nat := 11

/-- The SAFE latch: set with a cause, cleared with all of them (R134, R136). -/
def safeLatch (s : State) : Bool := rget s A.GLB_SAFE_CAUSE != 0

/-- GLB_COND.FENCED: some hearth runs on two copies. -/
def anyFenced (s : State) : Bool := (rget s A.HLT_FENCE &&& 0x8888) != 0

/-- GLB_COND.SPARES_EXHAUSTED: all four spare banks are in use. -/
def sparesExhausted (s : State) : Bool := (rget s A.HLT_BANK_MAP &&& 0x80808080) == 0x80808080

def condDegraded (s : State) : Bool := anyFenced s || sparesExhausted s || s.hif.ostlerSilent
def condHoldover (s : State) : Bool := s.phs.lost || s.tim.lost
def condTempering (s : State) : Bool := s.frg.tempering

/-- A temperature monitor is in WARN or CRIT (R719). -/
def tempWarn (s : State) : Bool := s.hlt.tempState.any (fun e => e.2 != 0)
/-- A voltage monitor is in WARN or CRIT (R719). -/
def voltWarn (s : State) : Bool := s.hlt.voltState.any (fun e => e.2 != 0)

/-- The admission budgets are in force (R151). -/
def budgets (s : State) : Bool := s.glb.base == bWaking

/-- The device's role: that of the active Forging, 3 when there is none. -/
def roleOf (s : State) : Nat := match s.frg.active with | some f => f.role | none => 3

/-- The bits of GLB_COND. -/
def condBits (s : State) : List Bool :=
  [safeLatch s, condDegraded s, condHoldover s, condTempering s, budgets s, s.phs.lost, s.tim.lost, s.tim.valid,
   s.phs.valid, anyFenced s, sparesExhausted s, s.hif.ostlerSilent, s.fab.hbLost && roleOf s == 2, tempWarn s, voltWarn s,
   s.frg.active.isSome]

/-- Bits as a number, the first the least significant. -/
def bitsNum : List Bool → Nat
  | [] => 0
  | b :: t => b2n b + 2 * bitsNum t

/-- GLB_COND. -/
def condWord (s : State) : Nat := bitsNum (condBits s)

/-- GLB_MODE.MODE (R124). -/
def modeOf (s : State) : Nat :=
  let b := s.glb.base
  if safeLatch s ∧ b ≠ bDormant ∧ b ≠ bLoading ∧ b ≠ bVerifying ∧ b ≠ bDiagnostic then mSafe
  else if b = bRun then
    if condDegraded s then mDegraded
    else if condHoldover s then mHoldover
    else if condTempering s then mTempering
    else bRun
  else b

/-! ### Interrupt lines and vectors (R174 to R177) -/

/-- The number of the source whose INT_STAT lies at an address (R175). -/
def sourceAt (a : Nat) : Option Nat :=
  if a = A.GLB_INT_STAT then some 0 else if a = A.FRG_INT_STAT then some 1 else if a = A.HIF_INT_STAT then some 2
  else if a = A.TBL_INT_STAT then some 3 else if a = A.FRY_INT_STAT then some 4 else if a = A.TM_INT_STAT then some 5
  else if a = A.LDG_INT_STAT then some 6 else if a = A.PHS_INT_STAT then some 7 else if a = A.TIM_INT_STAT then some 8
  else if a = A.FAB_INT_STAT then some 9 else if a = A.POR_INT_STAT then some 10 else if a = A.TAL_INT_STAT then some 11
  else if a = A.GBK_INT_STAT then some 12 else if a = A.HLT_INT_STAT then some 13 else if a = A.PIN_INT_STAT then some 14
  else if 0x80000 ≤ a ∧ a < 0xC0000 ∧ a % 0x10000 = 0 then some (16 + (a - 0x80000) / 0x10000)
  else if 0x40030 ≤ a ∧ a < 0x40030 + 0x400 * 76 ∧ (a - 0x40030) % 0x400 = 0 then some (32 + (a - 0x40030) / 0x400)
  else if 0x161028 ≤ a ∧ a < 0x162028 ∧ (a - 0x161028) % 0x40 = 0 then some (128 + (a - 0x161028) / 0x40)
  else if 0x162028 ≤ a ∧ a < 0x163028 ∧ (a - 0x162028) % 0x40 = 0 then some (192 + (a - 0x162028) / 0x40)
  else if 0x163028 ≤ a ∧ a < 0x163428 ∧ (a - 0x163028) % 0x40 = 0 then some (256 + (a - 0x163028) / 0x40)
  else none

/-- The source of a listed register whose line is 1: its INT_STAT meets the INT_EN that follows it (R174). -/
def lineOf (s : State) (e : Nat × BitVec 32) : Option Nat :=
  match sourceAt e.1 with
  | some n => if e.2.toNat &&& (sget (fun _ => (0 : BitVec 32)) s.regs (e.1 + 4)).toNat = 0 then none else some n
  | none => none

/-- The sources whose line is 1. -/
def linesUp (s : State) : List Nat := s.regs.filterMap (lineOf s)

/-- The vector that a source is mapped to (R176). -/
def vectorOf (s : State) (src : Nat) : Nat := bits (rget s (A.HIF_VEC_MAP (src / 4))) (8 * (src % 4)) 7

/-- The vectors whose condition is 1 (R177). -/
def vectorsUp (s : State) : List Nat := (linesUp s).map (vectorOf s)

/-- The ACTIVE bit of a vector (R178). -/
def vecActive (s : State) (v : Nat) : Bool := bitAt (rget s (A.GLB_VEC_ACTIVE (v / 32))) (v % 32)

def msixEnabled (s : State) : Bool := fbit s F.HIF_LINK_MSIX_EN

/-- Send a vector's message, or hold it as a pending bit while it is masked (R180). -/
def sendMsg (v : Nat) (s : State) : State :=
  if fbit s F.HIF_LINK_FN_MASK ∨ ¬ s.hif.unmasked.contains v then
    { s with hif := { s.hif with pba := if s.hif.pba.contains v then s.hif.pba else s.hif.pba ++ [v] } }
  else { s with hif := { s.hif with sent := v :: s.hif.sent } }

/-- Signal a vector whose ACTIVE bit is 0 (R178). -/
def signal (s : State) (v : Nat) : State :=
  if vecActive s v then s else sendMsg v (forBits (A.GLB_VEC_ACTIVE (v / 32)) (2 ^ (v % 32)) s)

/-- Signal every vector whose condition is 1 (R178); with MSI-X not enabled, none (R180). -/
def deliver (s : State) : State := if msixEnabled s then (vectorsUp s).foldl signal s else s

/-! ### What follows every command -/

/-- A change of the reported mode sets MODE_CHANGE and raises its event (R125). -/
def modeChange (s : State) : State :=
  let m := modeOf s
  if m = s.glb.shown then s
  else raise 0x0001 noUnit s.glb.shown m (setInt A.GLB_INT_STAT 0 { s with glb := { s.glb with shown := m } })

/-- Does any source enabled in HLT_ALERT_CTL, or the SAFE latch, hold (R720)? -/
def alertWanted (s : State) : Bool :=
  let e := rget s A.HLT_ALERT_CTL
  (bitAt e 0 && (tempWarn s || voltWarn s)) || (bitAt e 1 && anyFenced s) || (bitAt e 2 && sparesExhausted s)
    || (bitAt e 3 && s.hif.ostlerSilent) || safeLatch s

/-- Drive or release ALERT_N (R720). -/
def alertPin (s : State) : State :=
  let w := alertWanted s
  if w = s.hlt.alert then s
  else
    let s := { s with hlt := { s.hlt with alert := w } }
    if w then bump 27 52 s else s

/-- The block of an output pin drives it now (R736): the QSPI pins from the reading of the flash on, the AVSBus pins from the
start of the Ostler on, MDIO with its first command, the others by their enables. TDO follows the JTAG instructions. -/
def drives (s : State) : OutPin → Bool
  | .tdo => false
  | .ppsOut => fbit s F.TIM_CTL_PPS_OUT_EN
  | .clk10mOut => fbit s F.TIM_CTL_CLK10M_OUT_EN
  | .qspi => (s.glb.started && !s.glb.bootDue) || s.pin.qspi.isSome
  | .avs => s.glb.started
  | .mdio => s.pin.mdio.isSome
  | .led => fbit s F.PIN_LED_CFG_EN

/-- Output pins that their block drives for the first time leave the high-impedance state (R736). -/
def driveOutputs (s : State) : State :=
  let new := [OutPin.ppsOut, .clk10mOut, .qspi, .avs, .mdio, .led].filter (fun x => drives s x && !s.glb.driven.contains x)
  { s with glb := { s.glb with driven := s.glb.driven ++ new } }

/-- What the device does at the end of every command: pins first driven leave the high-impedance state, a mode change is recorded,
ALERT_N follows its sources, and vectors are signalled. -/
def settle (s : State) : State := deliver (alertPin (modeChange (driveOutputs s)))

/-! ### The frame of every command -/

/-- The device is held in cold reset (R140, R742, R747). -/
def held (s : State) : Bool := s.glb.heldPin || s.glb.heldSupply || s.glb.heldClock

/-- The state that a command's effect `f` leaves once the device has settled; the queue of waiting commands is its
sender's, and no effect changes it. -/
def after (f : State → State) (s : State) : State := { settle (f s) with pending := s.pending }

/-- A command whose operands name something the device has takes effect, and the device settles; a device held in cold
reset takes no command. -/
def command (c : Instr) (s : State) (f : State → State) : Host.Outcome State Fault Refusal :=
  if wellFormed c then .next (if held s then s else after f s) else .fault .illFormed

/-- A warm reset is in progress, and the block at `a` is not GLB or HIF: writes are dropped (R170). -/
def resetBusy (s : State) (a : Nat) : Bool := s.glb.warmBusy && decide (0x10000 ≤ a) && !decide (0x20000 ≤ a ∧ a < 0x40000)

/-- A host write to the register at `a`: while a warm reset is in progress, blocks other than GLB and HIF drop it (R170),
and in D3hot the function takes no memory request (R160). -/
def hostCmd (c : Instr) (a : Nat) (s : State) (f : State → State) : Host.Outcome State Fault Refusal :=
  command c s (fun s => if s.hif.d3hot then s else if resetBusy s a then accErr false errResetBusy a s else f s)

/-- A host read: in D3hot no data comes back (R160). -/
def hostRead (c : Instr) (s : State) (f : State → State) : Host.Outcome State Fault Refusal :=
  command c s (fun s => if s.hif.d3hot then { s with hif := { s.hif with readData := [] } } else f s)

/-- A command at the reset and supply pins, which a device held in cold reset takes too. -/
def pinCommand (c : Instr) (s : State) (f : State → State) : Host.Outcome State Fault Refusal :=
  if wellFormed c then .next (after f s) else .fault .illFormed

end Machine
end Sys2Proof
end

