-- ==== Sys2Proof/Machine/Tally.lean ====
section
/-! DEFINITION. Machine/Tally.lean: snapshots, clearing, harvests, the capture window and the user page of the Tally
(chapter 16, R654 to R675). -/
namespace Sys2Proof
namespace Machine

/-- A selector without its reserved bits (R657). -/
def selector (m : Nat) : Nat := m % 2 ^ 29

/-- Does selector `m` select the group of the counter with global index `k`? -/
def selects (m k : Nat) : Bool :=
  (List.range 29).any (fun g => bitAt m g && decide (groupBase g ≤ k) && decide (k < groupBase g + groupSize g))

/-- Latch the selected groups: the latched value of each of their counters is its live value (R664). -/
def latchGroups (m : Nat) (t : Tal) : List (Nat × Nat) :=
  sputs ctrDefault (skeep (fun k => !selects m k) t.latched) (t.live.filter (fun e => selects m e.1))

/-- The groups that a selector selects, in ascending ID. -/
def groupsOf (m : Nat) : List Nat := (List.range 29).filter (fun g => bitAt m g)

/-- The number of counters that a selector selects. -/
def selCount (m : Nat) : Nat := (groupsOf m).foldl (fun n g => n + groupSize g) 0

/-- Global index of the `i`th counter of a harvest of the given groups. -/
def harvestKey : List Nat → Nat → Nat
  | [], i => i
  | g :: t, i => if i < groupSize g then groupBase g + i else harvestKey t (i - groupSize g)

/-- The group that the `i`th counter of a harvest lies in, and the place of its first counter. -/
def harvestGroup : List Nat → Nat → Nat → Option (Nat × Nat)
  | [], _, _ => none
  | g :: t, at', i => if i < groupSize g then some (g, at') else harvestGroup t (at' + groupSize g) (i - groupSize g)

/-- Counters that the reader has gathered: one per core clock since START. -/
def harvestGathered (h : Harvest) (clk : Nat) : Nat := min (selCount h.mask) (clk - h.clk)

/-- An event of the Tally: its record carries the numbers of the harvest and of the snapshot. -/
def talEvent (code : Nat) (s : State) : State := raise code noUnit (rget s A.TAL_HV_SEQ) (rget s A.TAL_SNAP_SEQ) s

/-- A snapshot falls in a harvest: a group whose values the reader has begun but not finished writing is overtaken (R670). -/
def overtake (m : Nat) (s : State) : State :=
  match s.tal.harvest with
  | none => s
  | some h =>
    match harvestGroup (groupsOf h.mask) 0 h.written with
    | none => s
    | some (g, first) =>
      if first < h.written ∧ bitAt m g then
        talEvent 0x0E01 (setInt A.TAL_INT_STAT 2 (bump 27 57
          { s with tal := { s.tal with harvest := some { h with overtaken := h.overtaken ||| 2 ^ g } } }))
      else s

/-- The core clock ends: what its snapshots latched are the live values as they stand now (R664, R487). -/
def endClock (s : State) : State :=
  if s.tal.relatch = 0 then s
  else { s with tal := { s.tal with latched := latchGroups s.tal.relatch s.tal, relatch := 0 } }

/-- The groups of `a` that `b` does not name. -/
def groupsLess (a b : Nat) : Nat := a ^^^ (a &&& b)

/-- A snapshot of the groups of a selector; `src` is 1 REGISTER, 2 TIMED, 4 KEEPER (R665, R666). -/
def takeSnapshot (mask src : Nat) (s : State) : State :=
  let m := selector mask
  if m = 0 then s
  else
    let again := s.tal.snapClk == some s.clk
    let fresh := if again then groupsLess m (rget s A.TAL_SNAP_MASK) else m
    let s := if fresh = 0 then s else overtake fresh s
    let s := { s with tal := { s.tal with latched := latchGroups m s.tal, snapClk := some s.clk, relatch := s.tal.relatch ||| m } }
    let s := if again then rput A.TAL_SNAP_MASK (rget s A.TAL_SNAP_MASK ||| m) (forBits A.TAL_SNAP_SRC src s)
      else
        rput A.TAL_SNAP_SRC src (rput A.TAL_SNAP_MASK m (rput A.TAL_SNAP_SEQ ((rget s A.TAL_SNAP_SEQ + 1) % 2 ^ 32) s))
    let s := latchInstant A.TAL_SNAP_CYCLE_HI (phaseInstant s) (latchTime A.TAL_SNAP_SEC_HI s.tim.t s)
    setInt A.TAL_INT_STAT 0 s

/-- SNAPSHOT (R664 to R666): a write of TAL_SNAP_CMD. -/
def execSnapshot (mask : Word) (s : State) : Host.Outcome State Fault Refusal :=
  hostCmd (.snapshot mask) A.TAL_SNAP_CMD s (takeSnapshot mask.toNat 1)

/-- What counter `k` has counted in this core clock. -/
def countedNow (t : Tal) (k : Nat) : Nat := (sget ctrDefault t.live k + 2 ^ 64 - sget ctrDefault t.begun k) % 2 ^ 64

/-- Set every live value of the selected groups to 0; the increments of this core clock are applied after the clearing (R662). -/
def clearGroups (m : Nat) (s : State) : State :=
  let t := s.tal
  let kept := ((t.live ++ t.begun).filter (fun e => selects m e.1)).map (fun e => (e.1, countedNow t e.1))
  { s with tal := { t with live := sputs ctrDefault (skeep (fun k => !selects m k) t.live) kept
                           begun := skeep (fun k => !selects m k) t.begun } }

/-- A core clock begins. -/
def beginClock (s : State) : State := { s with fresh := [], tal := { s.tal with begun := s.tal.live } }

/-- TAL_CLEAR (R662). -/
def execTalClear (mask : Word) (s : State) : Host.Outcome State Fault Refusal :=
  hostCmd (.talClear mask) A.TAL_CLEAR s (clearGroups (selector mask.toNat))

/-- A Forging becomes active by a full load: every group but PHASE, TIME, HEALTH and GUESTBOOK is cleared, live and
latched (R663). -/
def clearForLoad (s : State) : State :=
  let m := 2 ^ 29 - 1 - 2 ^ 18 - 2 ^ 19 - 2 ^ 27 - 2 ^ 28
  { s with tal := { s.tal with live := skeep (fun k => !selects m k) s.tal.live
                               begun := skeep (fun k => !selects m k) s.tal.begun
                               latched := skeep (fun k => !selects m k) s.tal.latched
                               relatch := groupsLess s.tal.relatch m } }

/-- A START is refused (R667). -/
def harvestRefuse (result : Nat) (s : State) : State :=
  talEvent 0x0E03 (setInt A.TAL_INT_STAT 3 (fput F.TAL_HV_STATUS_RESULT result s))

/-- START (R667). -/
def harvestStart (snapFirst : Bool) (s : State) : State :=
  let mask := rget s A.TAL_HV_MASK
  if s.tal.harvest.isSome then harvestRefuse 1 s
  else if selector mask = 0 then harvestRefuse 3 s
  else if rget s A.TAL_HV_LIMIT < 64 + 8 * selCount mask then harvestRefuse 2 s
  else if s.hif.d3hot ∨ ¬ s.hif.busMaster then harvestRefuse 5 s
  else
    let s := if snapFirst then takeSnapshot mask 1 s else s
    let words := (List.range 7).map (fun k => rget s (A.TAL_SNAP_SEC_HI + 4 * k))
    let h : Harvest :=
      { mask := mask, addr := rget64 s A.TAL_HV_ADDR_HI A.TAL_HV_ADDR_LO, snapSeq := rget s A.TAL_SNAP_SEQ
        snapWords := words, source := rget s A.TAL_SNAP_SRC, clk := s.clk, overtaken := 0, written := 0, header := false }
    fput F.TAL_HV_PROGRESS_COUNT 0 (fput F.TAL_HV_STATUS_BUSY 1 (fput F.TAL_HV_STATUS_RESULT 0
      { s with tal := { s.tal with harvest := some h } }))

/-- START (R667). -/
def execHarvestStart (snapFirst : Bool) (s : State) : Host.Outcome State Fault Refusal :=
  hostCmd (.harvestStart snapFirst) A.TAL_HV_CMD s (harvestStart snapFirst)

/-- Bytes 0 to 59 of the header (R668). -/
def harvestHeader (h : Harvest) (s : State) : List Byte :=
  let w := fun k => h.snapWords.getD k 0
  leBytes 4 (rget s A.TAL_HV_SEQ) ++ leBytes 4 h.snapSeq ++ leBytes 4 h.mask ++ leBytes 4 h.overtaken
    ++ leBytes 4 (w 2) ++ leBytes 2 (w 3) ++ leBytes 4 (w 1) ++ leBytes 2 (w 0)
    ++ leBytes 8 ((w 4 % 256) * 2 ^ 56 + w 5 * 2 ^ 24 + w 6)
    ++ [BitVec.ofNat 8 h.source, 0] ++ leBytes 2 (if roleOf s = 0 ∨ roleOf s = 3 then 0xFFFF else fget s F.FAB_SELF_DEVICE_ID)
    ++ leBytes 4 (8 * selCount h.mask) ++ List.replicate 16 0

/-- A harvest ends at a counter boundary, and what it has written stands (R671). -/
def harvestAbort (s : State) : State :=
  match s.tal.harvest with
  | none => s
  | some h =>
    fput F.TAL_HV_PROGRESS_COUNT h.written (fput F.TAL_HV_STATUS_BUSY 0 (fput F.TAL_HV_STATUS_RESULT 4
      { s with tal := { s.tal with harvest := none } }))

/-- HARVEST_ABORT (R671). -/
def execHarvestAbort (s : State) : Host.Outcome State Fault Refusal := hostCmd .harvestAbort A.TAL_HV_CMD s harvestAbort

/-- A reset ends a harvest (R671). -/
def harvestReset (s : State) : State :=
  if s.tal.harvest.isSome then talEvent 0x0E02 (harvestAbort s) else s

/-- Capture the counter that a value of TAL_RD_SEL names (R673). -/
def captureCounter (v : Nat) (s : State) : State :=
  let g := bits v 27 5
  let i := bits v 0 20
  let ok := decide (g ≤ 28) && decide (i < groupSize g)
  let n := if ok then sget ctrDefault (if bitAt v 26 then s.tal.latched else s.tal.live) (groupBase g + i) else 0
  let s := rput A.TAL_RD_SEL (setBits (setBits v 20 5 0) 25 1 (b2n (!ok))) s
  rput64 A.TAL_RD_HI A.TAL_RD_LO n s

/-- TAL_RD_SEL_WRITE (R673). -/
def execTalRdSelWrite (value : Word) (s : State) : Host.Outcome State Fault Refusal :=
  hostCmd (.talRdSelWrite value) A.TAL_RD_SEL s (captureCounter value.toNat)

/-- Does window `w` map slot `n` of the user page (R674)? -/
def windowMaps (s : State) (n w : Nat) : Bool :=
  let first := fget s (F.TAL_UP_WIN_SPAN_SLOT w)
  fbit s (F.TAL_UP_WIN_CFG_EN w) && decide (first ≤ n) && decide (n < first + fget s (F.TAL_UP_WIN_SPAN_COUNT w))
    && decide (n < 8192)

/-- The value that slot `n` of the user page shows (R674). -/
def userSlot (s : State) (n : Nat) : Nat :=
  match (List.range 8).find? (windowMaps s n) with
  | none => 0
  | some w =>
    let g := fget s (F.TAL_UP_WIN_CFG_GROUP w)
    let i := fget s (F.TAL_UP_WIN_FIRST_FIRST w) + (n - fget s (F.TAL_UP_WIN_SPAN_SLOT w))
    if bitAt (rget s A.TAL_UP_GROUP_EN) g ∧ i < groupSize g then
      sget ctrDefault (if fbit s (F.TAL_UP_WIN_CFG_LATCHED w) then s.tal.latched else s.tal.live) (groupBase g + i)
    else 0

end Machine
end Sys2Proof
end

