-- ==== Sys2Proof/Machine/Phase.lean ====
section
/-! DEFINITION. Machine/Phase.lean: the mains phase clock, its references and its loop, and the lateness of timed actions
(chapter 10, R433 to R457, R482 to R485). -/
namespace Sys2Proof
namespace Machine

/-! ### Limits and rates (R435, R436) -/

/-- Do the written limits break R436? -/
def limitsBad (s : State) : Bool :=
  let lo := fget s F.PHS_FREQ_LIMITS_F_MIN
  let hi := fget s F.PHS_FREQ_LIMITS_F_MAX
  !(decide (45000 ≤ lo) && decide (lo < hi) && decide (hi ≤ 65000))

/-- F_MIN and F_MAX in force, in mHz. -/
def fMin (s : State) : Nat := if limitsBad s then 45000 else fget s F.PHS_FREQ_LIMITS_F_MIN
def fMax (s : State) : Nat := if limitsBad s then 65000 else fget s F.PHS_FREQ_LIMITS_F_MAX

/-- The slowest and the fastest rate within the limits, in 2⁻⁴⁸ pu per core clock. -/
def rateMin (s : State) : Nat := ceilDiv (fMin s * 2 ^ 72) (1000 * clockHz)
def rateMax (s : State) : Nat := fMax s * 2 ^ 72 / (1000 * clockHz)

/-- The nominal frequency that NOM_60 selects, in Hz. -/
def fNom (s : State) : Nat := if fbit s F.PHS_CTL_NOM_60 then 60 else 50

/-- Record a new stretch of constant rates; stretches that ended more than 100 ms ago are dropped (R441). -/
def pushHist (s : State) : State :=
  let cur : Stretch := { clk := s.clk, t := s.tim.t, adj := s.tim.adj, rate := s.phs.rate }
  let young := s.phs.hist.takeWhile (fun x => decide (s.clk < x.clk + 150000000))
  let old := (s.phs.hist.drop young.length).take 1
  { s with phs := { s.phs with hist := cur :: (young ++ old) } }

/-- Set the phase rate, clamped to the limits (R435). -/
def setRate (r : Nat) (s : State) : State :=
  pushHist { s with phs := { s.phs with rate := clampN r (rateMin s) (rateMax s) } }

/-- Set the phase clock to an instant in one core clock. -/
def setInstant (x : Nat) (s : State) : State :=
  { s with phs := { s.phs with acc := (x % 2 ^ 64) * 2 ^ 48, wrapCycle := x % 2 ^ 64 / 2 ^ 24, wrapClk := s.clk } }

/-- The phase clock starts, at (0, 0) and the nominal frequency (R434); it starts once. -/
def startPhase (s : State) : State :=
  if s.phs.running then s
  else setRate (fNom s * 2 ^ 72 / clockHz) (setInstant 0 { s with phs := { s.phs with running := true } })

/-- 2⁻⁴⁸ pu that passed since device time `t`, going back through the stretches (R441). `e` is the device time at which
the stretch looked at ends. -/
def puSince (t : Nat) : Nat → Nat → List Stretch → Nat
  | _, _, [] => 0
  | e, eclk, x :: rest =>
    if x.t ≤ t then (if t < e then (e - t) * x.rate / clockStep x.adj else 0)
    else
      (eclk - x.clk) * x.rate
        + (match rest with
           | [] => 0
           | y :: _ => puSince t (y.t + (x.clk - y.clk) * clockStep y.adj) x.clk rest)

/-- The instant of the phase clock at device time `t`. -/
def instantAtTime (s : State) (t : Nat) : Nat :=
  let d := puSince t s.tim.t s.clk s.phs.hist
  (s.phs.acc + 2 ^ 112 - d % 2 ^ 112) % 2 ^ 112 / 2 ^ 48

/-- ns that `d` pu last at the rate in force (R456). -/
def puToNs (s : State) (d : Nat) : Nat := if s.phs.rate = 0 then 0 else d * 2 ^ 48 * 5 / (7 * s.phs.rate)

/-! ### Timed actions: late ones (R482 to R485) -/

/-- The instant of slot `t`. -/
def taInstant (s : State) (t : Nat) : Nat := instantAt s (A.PHS_TA_CYCLE_HI t)

/-- Is slot `t` armed? -/
def taArmed (s : State) (t : Nat) : Bool := fbit s (F.PHS_TA_CTL_ARM t)

/-- Slot `t` is late, its instant lying `x` before the instant `now`: LATE_POLICY applies (R485). -/
def taLate (t now : Nat) (s : State) : State :=
  if fbit s (F.PHS_TA_CTL_LATE_POLICY t) then
    raise 0x0909 t (rget s (A.PHS_TA_ARG t)) 0
      (forBits (A.PHS_TA_STATUS t) 4 (fput (F.PHS_TA_CTL_ARM t) 0 s))
  else
    let d := min (now - taInstant s t) (2 ^ 32 - 1)
    let s := rput (A.PHS_TA_LATE t) d (forBits (A.PHS_TA_STATUS t) 2 s)
    let s := { s with phs := { s.phs with taNow := s.phs.taNow.filter (fun e => e.1 != t) ++ [(t, s.clk)] } }
    raise 0x0908 t d 0 (setInt A.PHS_INT_STAT 6 s)

/-- Every armed action whose instant lies from `lo` on and before `now` is late (R485). -/
def taLateAll (lo now : Nat) (s : State) : State :=
  (List.range 32).foldl (fun s t =>
    if taArmed s t ∧ lo ≤ taInstant s t ∧ taInstant s t < now then taLate t now s else s) s

/-! ### Sources (R437, R445) -/

def srcQual (s : State) (i : Nat) : Bool := bitAt (rget s A.PHS_STATUS) (8 + i)
def srcFar (s : State) (i : Nat) : Bool := bitAt (rget s A.PHS_STATUS) (12 + i)
def setQual (i : Nat) (b : Bool) (s : State) : State := rput A.PHS_STATUS (setBits (rget s A.PHS_STATUS) (8 + i) 1 (b2n b)) s
def setFar (i : Nat) (b : Bool) (s : State) : State := rput A.PHS_STATUS (setBits (rget s A.PHS_STATUS) (12 + i) 1 (b2n b)) s

/-- The source in use, if any. -/
def srcUsed (s : State) : Option Nat := if fbit s F.PHS_STATUS_NONE then none else some (fget s F.PHS_STATUS_SRC_USED)

/-- The source that R445 chooses. -/
def srcChoice (s : State) : Option Nat :=
  let ok := fun i => srcQual s i && !srcFar s i
  let pri := fget s F.PHS_CTL_SRC_PRI
  let alt := fget s F.PHS_CTL_SRC_ALT
  if ok pri then some pri else if fbit s F.PHS_CTL_ALT_EN && ok alt then some alt else none

/-- The error of the latest sample of a source. -/
def srcErr (s : State) (i : Nat) : Int := sget (fun _ => (0 : Int)) s.phs.errs i

/-- The mean of the rates of the last 16 accepted samples (R451). -/
def meanRate (s : State) : Nat :=
  if s.phs.rates = [] then s.phs.rate else s.phs.rates.foldl (· + ·) 0 / s.phs.rates.length

/-- The two words of a record that carry an error or a step in pu, as a signed 64-bit number (the events of chapter 10 name
no format; log entry 78). -/
def puLow (e : Int) : Nat := ofSigned 64 e % 2 ^ 32
def puHigh (e : Int) : Nat := ofSigned 64 e / 2 ^ 32

/-- Choose the source in use again; report a switch, a loss or a return (R445, R449 to R451). -/
def chooseSource (s : State) : State :=
  let old := srcUsed s
  let new := srcChoice s
  if new = old then s
  else
    let s := fput F.PHS_STATUS_SLEWING 0 (fput F.PHS_STATUS_LOCKED 0 { s with phs := { s.phs with recent := [] } })
    match new with
    | none =>
      let s := fput F.PHS_STATUS_NONE 1 s
      if s.phs.valid ∧ ¬ s.phs.lost then
        let s := setRate (meanRate s) { s with phs := { s.phs with lost := true } }
        let e := srcErr s (old.getD 0)
        raise 0x0902 (old.getD noUnit) (puLow e) (puHigh e) (bump 18 7 (setInt A.PHS_INT_STAT 1 s))
      else s
    | some i =>
      let s := fput F.PHS_STATUS_SRC_USED i (fput F.PHS_STATUS_NONE 0 s)
      match old with
      | some _ => raise 0x0904 i (puLow (srcErr s i)) (puHigh (srcErr s i)) (setInt A.PHS_INT_STAT 3 s)
      | none =>
        if s.phs.lost then
          raise 0x0903 i (puLow (srcErr s i)) (puHigh (srcErr s i)) (setInt A.PHS_INT_STAT 2 { s with phs := { s.phs with lost := false } })
        else s

/-- Put the error of a source's latest sample on record, and find whether the source is far (R445, R453). -/
def noteError (i : Nat) (e : Int) (s : State) : State :=
  let s := { s with phs := { s.phs with errs := sput (fun _ => (0 : Int)) s.phs.errs i e } }
  let far := s.phs.valid && decide (2 ≤ i) && (decide (e > 2 ^ 23) || decide (e < -(2 ^ 23)))
  if far = srcFar s i then s
  else
    let s := setFar i far s
    if far then raise 0x0905 i (puLow e) (puHigh e) (setInt A.PHS_INT_STAT 4 s) else s

/-- The latest errors of MSG and NOMINAL are judged again: PHASE_VALID has become 1 (R445). -/
def judgeFar (s : State) : State := chooseSource (noteError 3 (srcErr s 3) (noteError 2 (srcErr s 2) s))

/-- The error of the latest sample of source `i` is now 0: the phase clock has been set to it (R449). -/
def clearError (i : Nat) (s : State) : State :=
  setFar i false { s with phs := { s.phs with errs := sput (fun _ => (0 : Int)) s.phs.errs i 0 } }

/-! ### The loop (R446 to R449, R454) -/

/-- kp_shift and ki_shift of a bandwidth (R447). -/
def loopGains (bw : Nat) : Nat × Nat :=
  [(1, 4), (3, 8), (5, 12), (7, 16), (9, 20)].getD (min bw 4) (9, 20)

/-- PHS_FREQ_EST of a reference period of `num` / `den` core clocks: Hz with 16 fraction bits. -/
def freqEst (num den : Nat) : Nat := if num = 0 then 0 else clockHz * 65536 * den / num % 2 ^ 32

/-- The rate of (2²⁴ + adj) pu in a reference period of `num` / `den` core clocks. -/
def loopRate (adj : Int) (num den : Nat) : Nat := if num = 0 then 0 else (2 ^ 24 + adj).toNat * 2 ^ 48 * den / num

/-- Count a sample of the source in use: LOCKED, and the rates of the last 16 samples (R449, R451). -/
def noteSample (e : Nat) (s : State) : State :=
  let recent := (e :: s.phs.recent).take 4
  let s := { s with phs := { s.phs with recent := recent, rates := (s.phs.rate :: s.phs.rates).take 16 } }
  fput F.PHS_STATUS_LOCKED (b2n (recent.length == 4 && recent.all (fun x => decide (x ≤ 4096)))) s

/-- Set the phase clock to the reference instant of a sample (R448, R454): `q` is the reference's instant now. -/
def phaseSet (q num den : Nat) (s : State) : State :=
  let s := setRate (loopRate 0 num den) (setInstant q { s with phs := { s.phs with fint := 0, recent := [] } })
  noteSample 0 (fput F.PHS_STATUS_SLEWING 0 (rput A.PHS_FREQ_EST (freqEst num den) s))

/-- The loop at an accepted sample of the source in use (R446). -/
def loopUpdate (e : Int) (num den : Nat) (s : State) : State :=
  let (kp, ki) := loopGains (fget s F.PHS_CTL_BW)
  let lim : Int := Int.ofNat (rget s A.PHS_SLEW_MAX % 2 ^ 24)
  let fint := clampI (s.phs.fint - asr e ki) (-lim) lim
  let raw := -(asr e kp) + fint
  let adj := clampI raw (-lim) lim
  let slew := decide (adj ≠ raw)
  let s := setRate (loopRate adj num den) { s with phs := { s.phs with fint := fint } }
  let s := fput F.PHS_STATUS_SLEWING (b2n slew) (rput A.PHS_FREQ_EST (freqEst num den) s)
  noteSample e.natAbs (if slew then bump 18 8 s else s)

/-- The source that a pending REALIGN waits for (R454). -/
def realignTarget (s : State) : Option Nat :=
  let pri := fget s F.PHS_CTL_SRC_PRI
  let alt := fget s F.PHS_CTL_SRC_ALT
  if srcQual s pri then some pri else if fbit s F.PHS_CTL_ALT_EN && srcQual s alt then some alt else none

/-- The first lock of the phase clock (R448). -/
def phaseLock (i q num den : Nat) (s : State) : State :=
  let s := phaseSet q num den s
  let s := setInt A.PHS_INT_STAT 0 { s with phs := { s.phs with valid := true } }
  let s := judgeFar (raise 0x0901 i 0 0 (clearError i s))
  taLateAll 0 (phaseInstant s) s

/-- REALIGN takes effect (R454). -/
def phaseRealign (i : Nat) (e : Int) (q num den : Nat) (s : State) : State :=
  let p := phaseInstant s
  let first := !s.phs.valid
  let s := phaseSet q num den { s with phs := { s.phs with realignPending := false } }
  let s := fput F.PHS_CMD_STATUS_PENDING (b2n s.phs.setPending) s
  let s := raise 0x0906 i (puLow (-e)) (puHigh (-e)) (setInt A.PHS_INT_STAT 7 (clearError i s))
  let s := if first then judgeFar (raise 0x0901 i 0 0 (setInt A.PHS_INT_STAT 0 { s with phs := { s.phs with valid := true } })) else s
  let s := chooseSource s
  let s := fput F.PHS_STATUS_LOCKED 0 { s with phs := { s.phs with recent := [0] } }
  if first then taLateAll 0 (phaseInstant s) s
  else if p < phaseInstant s then taLateAll p (phaseInstant s) s else s

/-- An accepted sample of source `i`: error `e`, reference instant `q` now, reference period `num` / `den` core clocks
(R445 to R448, R454). -/
def phaseSample (i : Nat) (e : Int) (q num den : Nat) (s : State) : State :=
  let s := noteError i e s
  if s.phs.realignPending ∧ realignTarget s = some i then phaseRealign i e q num den s
  else
    let s := chooseSource s
    if srcUsed s = some i then (if s.phs.valid then loopUpdate e num den s else phaseLock i q num den s) else s

/-! ### Mains inputs (R438 to R440) -/

def mainsIn (s : State) (x : Nat) : MainsIn := if x = 0 then s.phs.mainsA else s.phs.mainsB
def setMains (x : Nat) (m : MainsIn) (s : State) : State :=
  if x = 0 then { s with phs := { s.phs with mainsA := m } } else { s with phs := { s.phs with mainsB := m } }

/-- The error of a candidate: the phase's distance from the input's offset (R438). -/
def mainsError (s : State) (x : Nat) : Int :=
  let off := rget s (A.PHS_REF_OFFSET x) % 2 ^ 24
  toSigned 24 ((phaseInstant s + 2 ^ 24 - off) % 2 ^ 24)

/-- The edge window in pu (R439, R442). -/
def edgeWin (s : State) : Nat := fget s F.PHS_QUAL_CFG_EDGE_WIN * 4096

/-- Is a period of `p` core clocks between 1/F_MAX and 1/F_MIN? -/
def periodOk (s : State) (p : Nat) : Bool :=
  decide (1000 * clockHz ≤ p * fMax s) && decide (p * fMin s ≤ 1000 * clockHz)

/-- An accepted candidate: period, qualification (R440). The count starts again with the period that begins at the
candidate that closes a separation of missing edges, so that on an input that is not qualified the next separation is a
period however long it is. -/
def mainsAccept (x : Nat) (s : State) : State :=
  let m := mainsIn s x
  match m.last with
  | none => setMains x { m with last := some s.clk } s
  | some l =>
    let sep := s.clk - l
    let missing := (srcQual s x || !m.gap) && match m.period with | some p => decide (3 * p < 2 * sep) | none => false
    if missing then setMains x { m with last := some s.clk, run := 0, gap := true } s
    else if periodOk s sep then
      let s := setMains x { last := some s.clk, period := some sep, run := m.run + 1, gap := false } s
      if max 1 (fget s F.PHS_QUAL_CFG_QUAL_CYCLES) ≤ m.run + 1 then setQual x true s else s
    else setQual x false (setMains x { last := some s.clk, period := some sep, run := 0, gap := false } s)

/-- An edge with the input low for `low` core clocks before it and high for `high` after it is a candidate (R438). -/
def deglitched (s : State) (low high : Nat) : Bool :=
  let d := max 1 (fget s F.PHS_QUAL_CFG_DEGLITCH_US) * clocksPerUs
  decide (d ≤ low) && decide (d ≤ high)

/-- A candidate at MAINS_REF_x (R438 to R440). -/
def mainsEdge (x : Nat) (s : State) : State :=
  if ¬ s.phs.running then s
  else
    let s := bump 18 x s
    let e := mainsError s x
    if srcUsed s = some x ∧ fbit s F.PHS_STATUS_LOCKED ∧ edgeWin s < e.natAbs then bump 18 (2 + x) s
    else
      let s := chooseSource (mainsAccept x s)
      match (mainsIn s x).period with
      | some p => phaseSample x e ((Int.ofNat (phaseInstant s) - e) % 2 ^ 64).toNat p 1 s
      | none => s

/-- No candidate for LOSS_CYCLES periods: the input is lost (R440). -/
def mainsLoss (x : Nat) (s : State) : State :=
  let m := mainsIn s x
  match m.last, m.period with
  | some l, some p =>
    if l + max 1 (fget s F.PHS_QUAL_CFG_LOSS_CYCLES) * p ≤ s.clk then
      chooseSource (setQual x false (setMains x { m with run := 0 } s))
    else s
  | _, _ => s

/-! ### Messages (R441 to R443) -/

/-- A sample that the reference instant `q` held at device time `t` (units of 1/timeUnit ns). -/
def msgSample (q t : Nat) (s : State) : State :=
  let now := s.tim.t
  if now < t ∨ t + 100000000 * timeUnit < now then bump 18 5 s
  else
    let p := instantAtTime s t
    let e := toSigned 64 ((p + 2 ^ 64 - q % 2 ^ 64) % 2 ^ 64)
    if srcUsed s = some 2 ∧ fbit s F.PHS_STATUS_LOCKED ∧ edgeWin s < e.natAbs then
      bump 18 5 (chooseSource (noteError 2 e s))
    else
      let s := bump 18 4 s
      let prev := s.phs.msg.head?
      let s := { s with phs := { s.phs with msg := ((t, q, s.clk) :: s.phs.msg).take 2 } }
      let qNow := (q + phaseInstant s + 2 ^ 64 - p % 2 ^ 64) % 2 ^ 64
      match prev with
      | none => chooseSource (noteError 2 e s)
      | some (t1, q1, _) =>
        let dt := t - t1
        let dq := q - q1
        let ok := decide (t1 < t) && decide (q1 < q) && decide (fMin s * dt * 2 ^ 24 ≤ dq * 1000 * secUnits)
          && decide (dq * 1000 * secUnits ≤ fMax s * dt * 2 ^ 24)
        let s := setQual 2 ok s
        if ok then phaseSample 2 e qNow (2 ^ 24 * dt) (dq * clockStep s.tim.adj) s else chooseSource (noteError 2 e s)

/-- No sample for PHS_MSG_LOSS_MS: MSG is lost (R442). -/
def msgLoss (s : State) : State :=
  match s.phs.msg.head? with
  | some (_, _, c) =>
    if srcQual s 2 ∧ c + max 1 (fget s F.PHS_MSG_LOSS_MS_MS) * clocksPerMs ≤ s.clk then
      chooseSource (setQual 2 false s)
    else s
  | none => s

/-! ### Nominal phase (R444) -/

/-- NOMINAL qualifies when TIME_VALID becomes 1. -/
def nominalQualify (s : State) : State :=
  if s.tim.valid then (if s.phs.running then chooseSource (setQual 3 true s) else setQual 3 true s) else s

/-- The sample of NOMINAL in this core clock, qualified or not. -/
def nominalSample (s : State) : State :=
  let f := fNom s
  let q := s.tim.t * f * 2 ^ 24 / secUnits % 2 ^ 64
  let e := toSigned 64 ((phaseInstant s + 2 ^ 64 - q) % 2 ^ 64)
  phaseSample 3 e q secUnits (f * clockStep s.tim.adj) s

/-! ### Wraps and commands (R434, R454, R455) -/

/-- Move the resolved starts of all MAINS ledgers and stream gates by the same number of cycles (R455). -/
def shiftStarts (old new : Nat) (s : State) : State :=
  let mv := fun (x : Int) => x + (Int.ofNat new - Int.ofNat old) * 2 ^ 24
  { s with ldg := { s.ldg with
    ledgers := s.ldg.ledgers.map (fun e => (e.1, if e.2.bank.mode = 1 then { e.2 with start := e.2.start.map mv } else e.2))
    gates := s.ldg.gates.map (fun e =>
      (e.1, if bits (e.2.words.getD 0 0) 29 2 = 1 then { e.2 with start := e.2.start.map mv } else e.2)) } }

/-- A pending SET_CYCLE takes effect at a wrap (R455). -/
def applySetCycle (s : State) : State :=
  if s.phs.setPending then
    let new := (rget s A.PHS_SET_CYCLE_HI % 256) * 2 ^ 32 + rget s A.PHS_SET_CYCLE_LO
    let old := phaseInstant s / 2 ^ 24
    let s := shiftStarts old new { s with phs := { s.phs with
      acc := new * 2 ^ 72 + s.phs.acc % 2 ^ 72, wrapCycle := new, setPending := false } }
    raise 0x0907 noUnit (new % 2 ^ 32) (new / 2 ^ 32) (fput F.PHS_CMD_STATUS_PENDING (b2n s.phs.realignPending) s)
  else s

/-- The phase has passed 16,777,215 since the last wrap acted on: the length of the cycle is reported, a pending
SET_CYCLE applies, and NOMINAL yields a sample (R434, R444, R455). -/
def phaseWrap (s : State) : State :=
  let c := phaseInstant s / 2 ^ 24
  if c = s.phs.wrapCycle ∨ ¬ s.phs.running then s
  else
    let s := rput A.PHS_PERIOD_NS (min ((s.clk - s.phs.wrapClk) * 5 / 7) (2 ^ 32 - 1)) s
    nominalSample (applySetCycle { s with phs := { s.phs with wrapCycle := c, wrapClk := s.clk } })

/-- PHS_CMD.OP = LATCH (R493). -/
def latchPhaseOp (s : State) : State :=
  fput F.PHS_CMD_STATUS_RESULT 0 (latchTime A.PHS_LAT_SEC_HI s.tim.t (latchInstant A.PHS_LAT_CYCLE_HI (phaseInstant s) s))

/-- PHS_CMD.OP = SET_CYCLE (R455); 4 is the loader's state ARMED. -/
def setCycleOp (s : State) : State :=
  if (List.range 32).any (taArmed s) ∨ fget s F.FRG_STATUS_STATE = 4 then fput F.PHS_CMD_STATUS_RESULT 1 s
  else fput F.PHS_CMD_STATUS_PENDING 1 (fput F.PHS_CMD_STATUS_RESULT 0 { s with phs := { s.phs with setPending := true } })

/-- PHS_CMD.OP = REALIGN (R454). -/
def realignOp (s : State) : State :=
  if (realignTarget s).isNone then fput F.PHS_CMD_STATUS_RESULT 2 s
  else fput F.PHS_CMD_STATUS_PENDING 1 (fput F.PHS_CMD_STATUS_RESULT 0 { s with phs := { s.phs with realignPending := true } })

/-- PHS_STATUS.LIMITS_BAD: values have been written, and they break R436. -/
def limitsBadShown (s : State) : Bool := s.phs.limitsSet && limitsBad s

/-- A host write of PHS_FREQ_LIMITS; the rate in force is clamped to the new limits (R435, R436). -/
def writeLimits (v : Nat) (s : State) : State :=
  let s := writeRw A.PHS_FREQ_LIMITS v { s with phs := { s.phs with limitsSet := true } }
  if s.phs.running then setRate s.phs.rate s else s

/-- PHS_FREQ: Hz with 16 fraction bits (R435). -/
def phsFreq (s : State) : Nat := s.phs.rate * clockHz / 2 ^ 56 % 2 ^ 32

end Machine
end Sys2Proof
end

