-- ==== Sys2Proof/Machine/Ledger.lean ====
section
/-! DEFINITION. Machine/Ledger.lean: ledgers and stream gates: positions, gates and hold in force, remaining windows,
and the resolution of starts (chapter 10, R458 to R480). -/
namespace Sys2Proof
namespace Machine

/-- The hearth that owns a port (R38); port 76 has none. -/
def ownerOf (p : Nat) : Nat := if p < 64 then p / 16 else if p < 72 then (p - 64) / 2 else (p - 72) % 4

/-- The active bank of a hearth (R99). -/
def bankOf (s : State) (h : Nat) : Nat := b2n (s.frg.onBank1.contains h)

/-- Does some hearth run bank `b`? -/
def bankRuns (s : State) (b : Nat) : Bool := (List.range 4).any (fun h => bankOf s h == b)

/-- The bank whose calendar and ledger a port uses (R101). -/
def portBank (s : State) (p : Nat) : Nat := bankOf s (ownerOf p)

/-- An unlisted ledger bank: MODE OFF. -/
def ledgerDefault (_ : Nat) : Ledger :=
  { bank := { mode := 0, cycle := 0, base := 0, initGates := 0xFFFF, initHold := false, lines := [] }, start := none, late := false
    waits := false }

/-- The ledger of port `p` in bank `b`. -/
def ledgerOf (s : State) (p b : Nat) : Ledger := sget ledgerDefault s.ldg.ledgers (2 * p + b)

def putLedger (p b : Nat) (l : Ledger) (s : State) : State :=
  { s with ldg := { s.ldg with ledgers := sput ledgerDefault s.ldg.ledgers (2 * p + b) l } }

/-! ### Positions (R461 to R463) -/

/-- The time x of a ledger in mode `mode`: the phase instant, or ns of device time. -/
def ledgerNow (s : State) (mode : Nat) : Nat := if mode = 2 then timeWholeNs s.tim.t else phaseInstant s

/-- The cycle C of a ledger. -/
def cycleOf (mode cycle : Nat) : Nat := if mode = 2 then cycle else cycle * 2 ^ 24

/-- Make the lines' durations sum to the cycle: lines beyond it are never in force, and the last one lasts to its end
(R461). `left` is what remains of the cycle. -/
def fitLines : List LedgerLine → Nat → List LedgerLine
  | [], _ => []
  | [l], left => if left = 0 then [] else [{ l with dur := left }]
  | l :: t, left => if left = 0 then [] else { l with dur := min l.dur left } :: fitLines t (left - min l.dur left)

/-- The line in force at offset `o`, counted from `j` on (R461). -/
def lineFrom : List LedgerLine → Nat → Nat → Nat
  | [], _, j => j - 1
  | l :: t, o, j => if o < l.dur then j else lineFrom t (o - l.dur) (j + 1)

/-- The time since a start at moment `x`; `none` before it (R461, R463). -/
def sinceStart (st : Int) (x : Nat) : Option Nat := if Int.ofNat x < st then none else some (Int.ofNat x - st).toNat

/-- What a ledger says at time `x` (R460 to R463): gates, hold, line in force, whether S has been reached. -/
def ledgerAt (l : Ledger) (x : Nat) : Nat × Bool × Nat × Bool :=
  if l.bank.mode = 0 then (0xFFFF, false, 0, false)
  else
    match l.start.bind (sinceStart · x) with
    | none => (l.bank.initGates, l.bank.initHold, 0, false)
    | some d =>
      let c := cycleOf l.bank.mode l.bank.cycle
      let j := lineFrom (fitLines l.bank.lines c) (d % c) 0
      match l.bank.lines[j]? with
      | some ln => (ln.gates, ln.hold, j, true)
      | none => (0xFFFF, false, 0, true)

/-- The ledger of bank `b` of port `p`, as it stands now. Ports without a ledger have every gate open. -/
def portLedgerIn (s : State) (p b : Nat) : Nat × Bool × Nat × Bool :=
  let l := ledgerOf s p b
  if p < 72 then ledgerAt l (ledgerNow s l.bank.mode) else (0xFFFF, false, 0, false)

/-- The ledger that port `p` runs. -/
def portLedger (s : State) (p : Nat) : Nat × Bool × Nat × Bool := portLedgerIn s p (portBank s p)

/-- Is the gate of queue `q` of port `p` open? -/
def gateOpen (s : State) (p q : Nat) : Bool := bitAt (portLedger s p).1 q

/-- Does the ledger of port `p` assert hold (R474)? -/
def ledgerHold (s : State) (p : Nat) : Bool := (portLedger s p).2.1

/-! ### Windows (R469, R472) -/

/-- How long gate `q` stays open from the start of the lines on: the sum up to the first line that closes it, and whether
it closes at all. -/
def openRun (q : Nat) : List LedgerLine → Nat × Bool
  | [] => (0, false)
  | l :: t => if bitAt l.gates q then let (n, c) := openRun q t; (l.dur + n, c) else (0, true)

/-- The lines from offset `o` on, the first one shortened by what has passed of it. -/
def linesFrom : List LedgerLine → Nat → List LedgerLine
  | [], _ => []
  | l :: t, o => if o < l.dur then { l with dur := l.dur - o } :: t else linesFrom t (o - l.dur)

/-- The time, in the ledger's own units, until gate `q` next closes; `none` when it never does (R469). -/
def windowUnits (l : Ledger) (x q : Nat) : Option Nat :=
  if l.bank.mode = 0 then none
  else
    let c := cycleOf l.bank.mode l.bank.cycle
    let ls := fitLines l.bank.lines c
    let cyc := openRun q ls
    match l.start with
    | none => if bitAt l.bank.initGates q then none else some 0
    | some st =>
      match sinceStart st x with
      | none => if bitAt l.bank.initGates q then (if cyc.2 then some ((st - Int.ofNat x).toNat + cyc.1) else none) else some 0
      | some d =>
        let (n, closes) := openRun q (linesFrom ls (d % c))
        if closes then some n else if cyc.2 then some (n + cyc.1) else none

/-- The remaining window W of queue `q` of port `p`, in units of 1/7 ns; `none` is unbounded (R456, R469). -/
def windowNs7 (s : State) (p q : Nat) : Option Nat :=
  let l := ledgerOf s p (portBank s p)
  if p < 72 then
    match windowUnits l (ledgerNow s l.bank.mode) q with
    | none => none
    | some n =>
      if l.bank.mode = 2 then some (7 * n)
      else if s.phs.rate = 0 then none else some (n * 2 ^ 48 * 5 / s.phs.rate)
  else none

/-- The longest run of lines with gate `q` open, over two cycles laid end to end (R472). -/
def longestOpen (q : Nat) : List LedgerLine → Nat → Nat → Nat
  | [], run, best => max run best
  | l :: t, run, best => if bitAt l.gates q then longestOpen q t (run + l.dur) best else longestOpen q t 0 (max run best)

/-- The longest interval, in the bank's units, during which gate `q` stays open; `none` is unbounded (R472). -/
def longestWindow (b : LedgerBank) (q : Nat) : Option Nat :=
  if b.mode = 0 then none
  else
    let ls := fitLines b.lines (cycleOf b.mode b.cycle)
    if ls.all (fun l => bitAt l.gates q) then none else some (longestOpen q (ls ++ ls) 0 0)

/-! ### Starts (R464 to R467) -/

/-- The start of a time base resolved at reference moment `r` with margin `m` (R464): S, and whether k is 1 or more. -/
def resolveStart (base cycle r m : Nat) : Nat × Bool :=
  if r + m ≤ base ∨ cycle = 0 then (base, false)
  else (base + ceilDiv (r + m - base) cycle * cycle, true)

/-- The commit margin in the units of a mode (R464). -/
def marginOf (s : State) (mode : Nat) : Nat :=
  let m := fget s F.LDG_COMMIT_MARGIN_PU
  if mode = 2 then puToNs s m else m

/-- Is the time base of a mode valid (R464)? -/
def baseValid (s : State) (mode : Nat) : Bool := if mode = 1 then s.phs.valid else if mode = 2 then s.tim.valid else false

/-- A start came late (R464): the flag is the bank's own; the interrupt and the record are common. -/
def lateStart (unit arg : Nat) (s : State) : State := raise 0x0801 unit arg 0 (setInt A.LDG_INT_STAT 0 s)

/-- Resolve the start of port `p`'s ledger in bank `b` now; it waits when its time base is not valid (R464). -/
def resolveLedger (p b : Nat) (s : State) : State :=
  let l := ledgerOf s p b
  if l.bank.mode = 0 then s
  else if baseValid s l.bank.mode then
    let (st, late) := resolveStart l.bank.base (cycleOf l.bank.mode l.bank.cycle) (ledgerNow s l.bank.mode)
      (marginOf s l.bank.mode)
    let s := putLedger p b { l with start := some (Int.ofNat st), late := late, waits := false } s
    if late then lateStart p 0 s else s
  else putLedger p b { l with start := none, late := false, waits := true } s

/-! ### Stream gates (R476 to R480) -/

/-- A stream gate with image words `w`, its start not resolved. -/
def newGate (w : List Nat) : StreamGate := { words := w, start := none, late := false, waits := false, occ := 0, bytes := 0 }

def gateDefault (_ : Nat) : StreamGate := newGate []

/-- Stream gate `g` of bank `b`. -/
def gateOf (s : State) (g b : Nat) : StreamGate := sget gateDefault s.ldg.gates (2 * g + b)

def putGate (g b : Nat) (x : StreamGate) (s : State) : State :=
  { s with ldg := { s.ldg with gates := sput gateDefault s.ldg.gates (2 * g + b) x } }

def gateValid (w : List Nat) : Bool := bitAt (w.getD 0 0) 31
def gateMode (w : List Nat) : Nat := bits (w.getD 0 0) 29 2
def gateLines (w : List Nat) : Nat := bits (w.getD 0 0) 0 6
def gateBase (w : List Nat) : Nat :=
  if gateMode w = 2 then ((w.getD 1 0 % 65536) * 2 ^ 32 + w.getD 2 0) * 1000000000 + w.getD 3 0 % 2 ^ 30
  else (w.getD 1 0 % 256) * 2 ^ 56 + w.getD 2 0 * 2 ^ 24 + w.getD 3 0 % 2 ^ 24

/-- Line `i` of a gate as a ledger line: gate 0 open or not. -/
def gateLine (w : List Nat) (i : Nat) : LedgerLine :=
  let a := w.getD (16 + 2 * i) 0
  { gates := bits a 31 1, dur := bits a 0 24 + 1, hold := false }

/-- Resolve the start of a stream gate now (R464, R465). -/
def resolveGate (g b : Nat) (s : State) : State :=
  let x := gateOf s g b
  let m := gateMode x.words
  if ¬ gateValid x.words ∨ m = 0 then s
  else if baseValid s m then
    let (st, late) := resolveStart (gateBase x.words) (cycleOf m (x.words.getD 4 0)) (ledgerNow s m) (marginOf s m)
    let s := putGate g b { x with start := some (Int.ofNat st), late := late, waits := false, occ := 0, bytes := 0 } s
    if late then lateStart noUnit g s else s
  else putGate g b { x with start := none, late := false, waits := true } s

/-- What a stream gate says at time `x` (R461, R463, R476): open, the line's words, and the occurrence of the line. -/
def gateAt (g : StreamGate) (x : Nat) : Bool × Nat × Nat × Nat :=
  let w := g.words
  let m := gateMode w
  if m = 0 then (true, 0, 0, 0)
  else
    match g.start.bind (sinceStart · x) with
    | none => (bitAt (w.getD 0 0) 28, 0, 0, 0)
    | some d =>
      let c := cycleOf m (w.getD 4 0)
      let ls := fitLines ((List.range (gateLines w)).map (gateLine w)) c
      let j := lineFrom ls (d % c) 0
      let a := w.getD (16 + 2 * j) 0
      (bitAt a 31, a, w.getD (17 + 2 * j) 0 % 2 ^ 24, d / c * 64 + j + 1)

/-- STREAM_GATE_LINE_START (R479): the octet count of gate `g` in bank `b` restarts when its line has changed. -/
def gateLineStart (g b : Nat) (s : State) : State :=
  let x := gateOf s g b
  let (_, _, _, occ) := gateAt x (ledgerNow s (gateMode x.words))
  if occ = 0 ∨ occ = x.occ ∨ ¬ gateValid x.words then s else putGate g b { x with occ := occ, bytes := 0 } s

/-! ### Resolutions of many (R464, R465) -/

/-- Every ledger and stream gate of a bank, the ports being those of the given hearths. -/
def resolveBank (hs : List Nat) (b : Nat) (s : State) : State :=
  let s := (List.range 72).foldl (fun s p => if hs.contains (ownerOf p) then resolveLedger p b s else s) s
  (s.ldg.gates.map Prod.fst).foldl (fun s k => if k % 2 = b then resolveGate (k / 2) b s else s) s

/-- The ledgers and stream gates that wait for a valid time base are resolved at the moment it becomes valid (R464); one whose
reference moment has not come does not wait (R465). -/
def resolveWaiting (s : State) : State :=
  let s := (s.ldg.ledgers.filter (fun e => e.2.waits)).foldl (fun s e =>
    if baseValid s e.2.bank.mode then resolveLedger (e.1 / 2) (e.1 % 2) s else s) s
  (s.ldg.gates.filter (fun e => e.2.waits)).foldl (fun s e =>
    if baseValid s (gateMode e.2.words) then resolveGate (e.1 / 2) (e.1 % 2) s else s) s

/-- A base as three register fields: seconds or cycle above, ns or phase below (R467, R476). -/
def baseHi (mode base : Nat) : Nat := if mode = 2 then base / 1000000000 / 2 ^ 32 % 65536 else base / 2 ^ 56 % 256
def baseLo (mode base : Nat) : Nat := if mode = 2 then base / 1000000000 % 2 ^ 32 else base / 2 ^ 24 % 2 ^ 32
def baseSub (mode base : Nat) : Nat := if mode = 2 then base % 1000000000 else base % 2 ^ 24

/-- A start as its registers show it: a phase instant is a 64-bit value (R433). -/
def startShown (mode : Nat) (st : Int) : Nat := if mode = 2 then st.toNat else (st % 2 ^ 64).toNat

/-- The base that three fields hold. -/
def baseOf (mode hi lo sub : Nat) : Nat :=
  if mode = 2 then ((hi % 65536) * 2 ^ 32 + lo) * 1000000000 + sub % 2 ^ 30 else (hi % 256) * 2 ^ 56 + lo * 2 ^ 24 + sub % 2 ^ 24

/-- LDG_BASE of every port show the base of the bank its hearth does not run (R467). -/
def showBases (s : State) : State :=
  (List.range 72).foldl (fun s p =>
    let b := (ledgerOf s p (1 - portBank s p)).bank
    rput (A.LDG_BASE_SUB p) (baseSub b.mode b.base) (rput (A.LDG_BASE_LO p) (baseLo b.mode b.base)
      (rput (A.LDG_BASE_HI p) (baseHi b.mode b.base) s))) s

/-- A write of LDG_BASE_SUB of port `p` (R467); 3, 4 and 5 are the loader's states SHADOW_READY, ARMED and PARTIAL. In
SHADOW_READY no command that commits the bank has been accepted, so the reference moment of its start has not come (R465). -/
def writeBaseSub (p v : Nat) (s : State) : State :=
  let st := fget s F.FRG_STATUS_STATE
  let b := 1 - portBank s p
  let committed := s.frg.tempering && decide (portBank s p ≠ s.frg.oldBank)
  if st = 3 ∨ st = 4 ∨ (st = 5 ∧ ¬ committed) then
    let s := rput (A.LDG_BASE_SUB p) (v % 2 ^ 30) s
    let l := ledgerOf s p b
    let base := baseOf l.bank.mode (rget s (A.LDG_BASE_HI p)) (rget s (A.LDG_BASE_LO p)) (v % 2 ^ 30)
    let s := putLedger p b { l with bank := { l.bank with base := base }, start := none, late := false, waits := false } s
    if st = 3 then s else resolveLedger p b s
  else setInt A.LDG_INT_STAT 1 s

/-! ### What the LDG registers show -/

def ldgInfo (s : State) (p : Nat) : Nat :=
  let b := (ledgerOf s p (portBank s p)).bank
  if b.mode = 0 ∧ b.lines = [] then 0
  else b.initGates * 2 ^ 16 + b2n b.initHold * 2 ^ 15 + b.mode * 2 ^ 13 + b.lines.length

def ldgCycle (s : State) (p : Nat) : Nat := (ledgerOf s p (portBank s p)).bank.cycle

def ldgStatus (s : State) (p : Nat) : Nat :=
  let (g, h, j, st) := portLedger s p
  b2n st * 2 ^ 31 + b2n (ledgerOf s p (portBank s p)).late * 2 ^ 30 + portBank s p * 2 ^ 29 + b2n h * 2 ^ 28 + j * 2 ^ 16 + g

/-- LDG_ACT_START of port `p`: HI, LO or SUB as `k` is 0, 1 or 2. -/
def ldgActStart (s : State) (p k : Nat) : Nat :=
  let l := ledgerOf s p (portBank s p)
  match l.start with
  | none => 0
  | some st =>
    let x := startShown l.bank.mode st
    if k = 0 then baseHi l.bank.mode x else if k = 1 then baseLo l.bank.mode x else baseSub l.bank.mode x

/-- LDG_LINE_W0 and W1 of the line that LDG_LINE_SEL names. -/
def ldgLine (s : State) (k : Nat) : Nat :=
  let sel := rget s A.LDG_LINE_SEL
  match (ledgerOf s (bits sel 16 7) (bits sel 12 1)).bank.lines[bits sel 0 10]? with
  | none => 0
  | some l => if k = 0 then b2n l.hold * 2 ^ 24 + (l.dur - 1) else l.gates

end Machine
end Sys2Proof
end

