-- ==== Sys2Proof/Machine/Buffer.lean ====
section
/-! DEFINITION. Machine/Buffer.lean: ports, frames, copies, queues and their charges, admission (R394 to R406), the
budgets of WAKING (R148 to R152), shapers (R413 to R416). -/
namespace Sys2Proof
namespace Machine

/-! ### Ports -/

def portDefault (_ : Nat) : PortSt := PortSt.cold

/-- The state of port `p`. -/
def portSt (s : State) (p : Nat) : PortSt := sget portDefault s.prt p

def putPort (p : Nat) (x : PortSt) (s : State) : State := { s with prt := sput portDefault s.prt p x }

/-- Rate of a port mode in units of 100 Mb/s (R194, R197, R199). -/
def modeRate (m : Nat) : Nat := [0, 100, 250, 500, 1000, 2000, 4000, 0, 10, 10, 25, 100].getD m 0

/-- Lanes of a port mode (R194, R197). -/
def modeLanes (m : Nat) : Nat := [0, 1, 1, 1, 2, 4, 8, 0, 1, 1, 1, 1].getD m 0

/-- Rate of port `p` in units of 100 Mb/s; recirculation ports run at 100 Gb/s (R199). -/
def portRate (s : State) (p : Nat) : Nat := if p < 72 then modeRate (portSt s p).mode else 1000

/-- Link reported up; recirculation ports always are (R199). -/
def linkUp (s : State) (p : Nat) : Bool := if p < 72 then fbit s (F.PRT_STATUS_LINK_UP p) else true

/-- GLB_PORT_RST holds the port in reset (R140). -/
def portHeld (s : State) (p : Nat) : Bool := bitAt (rget s (A.GLB_PORT_RST_0 + 4 * (p / 32))) (p % 32)

/-- Frames bound for this port meet a reset (R142). -/
def inReset (s : State) (p : Nat) : Bool := p != 76 && (portHeld s p || s.glb.hearthRst.contains (ownerOf p))

/-- Preemption is active on a port (R230). -/
def preemptActive (s : State) (p : Nat) : Bool := p < 72 && fbit s (F.PRT_PREEMPT_STATUS_ACTIVE p)

/-- Queue `q` of port `p` is preemptable (R229). -/
def preemptable (s : State) (p q : Nat) : Bool := bitAt (fget s (F.PRT_PREEMPT_PMASK p)) q

/-- Time in 1/7 ns that `n` bytes take at `r` × 100 Mb/s, rounded up. -/
def wireNs7 (r n : Nat) : Nat := if r = 0 then 0 else ceilDiv (n * 8 * 7 * 10) r

/-- Core clocks that `n` bytes take at `r` × 100 Mb/s, rounded up. -/
def wireClocks (r n : Nat) : Nat := if r = 0 then 0 else ceilDiv (n * 8 * 7 * 10) (5 * r)

/-! ### Structures of a generation -/

/-- The Forging whose structures bank `b` holds. -/
def bankForging (s : State) (b : Nat) : Option Forging := if b = 0 then s.frg.bank0 else s.frg.bank1

/-- The structure of hearth `h` in bank `b` (R96). -/
def structOf (s : State) (h b : Nat) : Option HearthStruct :=
  match bankForging s b with
  | some f => f.content.hearths[h]?
  | none => none

/-- The calendar of port `p` in bank `b` (R418). -/
def calendarOf (s : State) (p b : Nat) : List Nat :=
  match bankForging s b with
  | some f => f.content.calendars.getD p []
  | none => []

/-- The physical queue that value `v` names on port `p` (R397). -/
def physQueue (s : State) (p v : Nat) : Nat :=
  if p = 76 then v else bits (rget s (A.TM_QMAP_0 p + 4 * (v / 8))) (4 * (v % 8)) 4

/-- Is queue `q` of port `p` GATED (R398)? -/
def gatedQ (s : State) (p q : Nat) : Bool := p < 72 && bitAt (fget s (F.TM_QGATED_GATED p)) q

/-! ### Frames -/

/-- Frame `i` of the buffer. -/
def frameOf (s : State) (i : Nat) : Option Frame := (s.dp.frames.find? (fun e => e.1 == i)).map Prod.snd

def putFrame (i : Nat) (f : Frame) (s : State) : State :=
  { s with dp := { s.dp with frames := sins (sdel s.dp.frames i) i f } }

/-- A new frame enters the buffer: its number and the state. -/
def addFrame (f : Frame) (s : State) : Nat × State :=
  (s.dp.next, { s with dp := { s.dp with frames := s.dp.frames ++ [(s.dp.next, f)], next := s.dp.next + 1 } })

/-- L of a frame, its frame check sequence included where it no longer carries one. -/
def frameLen (f : Frame) : Nat := if f.carriesFcs then f.bytes.length else f.bytes.length + 4

/-- Cells of `n` bytes (R46). -/
def cellsFor (n : Nat) : Nat := ceilDiv n 256

/-- The frame numbers whose bodies something still refers to (R47). -/
def bodyRefs (s : State) : List Nat :=
  s.fab.rx ++ s.fab.passed ++ s.fab.join ++ (s.dry.rx.filterMap (fun e => e.2.work.map (fun w => w.copy.frame)))
    ++ (s.dp.ingress.map (fun e => e.2)).flatten
    ++ (s.dp.recirc.map (fun e => e.2.map Prod.fst)).flatten ++ (s.dp.host.map (fun e => e.2)).flatten
    ++ (s.dp.pipe.map (fun e => e.2.map (fun p => p.frame))).flatten
    ++ (s.dp.queues.map (fun e => e.2.map (fun c => c.frame))).flatten
    ++ (s.dp.tx.map (fun e => (e.2.cur.toList ++ e.2.susp.toList).map (fun x => x.copy.frame))).flatten

/-- The frame numbers that something still refers to: a reception goes on to its end whatever becomes of the body. -/
def liveFrames (s : State) : List Nat := (s.prt.map (fun e => e.2.rx)).flatten ++ bodyRefs s

/-- Cells that a frame holds: those it has taken while it arrives (R46, R48). -/
def frameCells (f : Frame) : Nat := if f.whole then cellsFor f.bytes.length else f.taken

/-- TM_CELLS_USED: cells out of the free store. -/
def cellsUsed (s : State) : Nat :=
  let live := bodyRefs s
  ((s.dp.frames.filter (fun e => live.contains e.1)).map (fun e => frameCells e.2)).foldl (· + ·) 0
    + (s.dry.tx.map (fun e => match e.2.frame with | some f => f.cells | none => 0)).foldl (· + ·) 0

/-- Cells of the banks withdrawn from the free store (R714). -/
def cellsWithdrawn (s : State) : Nat := 6144 * (popcount 32 (rget s (A.HLT_BANK_WD 0)) + popcount 32 (rget s (A.HLT_BANK_WD 1)))

/-- Free cells that no allocation can reach while their banks are spared or withdrawn (R713, R714). -/
def cellsHeldBack (s : State) : Nat :=
  (s.hlt.sparing.map (fun x => x.bank) ++ s.hlt.withdrawing).foldl (fun n b => n + (Config.bankFree b s.clk).toNat % 6145) 0

/-- Are `n` cells free (R394)? -/
def cellsFree (s : State) (n : Nat) : Bool := decide (cellsUsed s + cellsWithdrawn s + cellsHeldBack s + n ≤ 393216)

/-- A fresh frame record for bytes received from a port. -/
def newFrame (bytes : List Byte) (src : Nat) : Frame :=
  { bytes := bytes, carriesFcs := true, whole := false, bad := false, fcsOk := true, rxLen := bytes.length, began := 0, taken := 0, stopped := false, preemptable := false, srcPort := src, hostChan := 0x7F
    tag := 0, carry := 0, tsReq := false, tsOrigin := false, stamp := 0, stepSum := 0, phase := 0, gen := 0, tagger := none
    tunValid := false, tunIdx := 0, ipForm := false, colour := 0, kixon := false, mgmt := false, spoilt := false, upDelay := 0 }

/-- Cells return to the free store when nothing refers to their frame (R47, R48). -/
def freeCells (s : State) : State :=
  let live := liveFrames s
  { s with dp := { s.dp with frames := s.dp.frames.filter (fun e => live.contains e.1) } }

/-- Frames of the older generation that hearth `h` tagged and that remain (R112). -/
def oldFrames (s : State) (h : Nat) : Nat :=
  s.dp.frames.countP (fun e => e.2.tagger == some h && e.2.gen != bankOf s h)

/-! ### Lists by hearth and port -/

def lget {α : Type} (m : List (Nat × List α)) (k : Nat) : List α := sget (fun _ => []) m k
def lput {α : Type} [DecidableEq α] (m : List (Nat × List α)) (k : Nat) (l : List α) : List (Nat × List α) :=
  sput (fun _ => []) m k l

def ingressOf (s : State) (p : Nat) : List Nat := lget s.dp.ingress p
def putIngress (p : Nat) (l : List Nat) (s : State) : State := { s with dp := { s.dp with ingress := lput s.dp.ingress p l } }
def pipeOf (s : State) (h : Nat) : List Pass := lget s.dp.pipe h
def putPipe (h : Nat) (l : List Pass) (s : State) : State := { s with dp := { s.dp with pipe := lput s.dp.pipe h l } }
def recircOf (s : State) (h : Nat) : List (Nat × Option Pass) := lget s.dp.recirc h
def putRecirc (h : Nat) (l : List (Nat × Option Pass)) (s : State) : State :=
  { s with dp := { s.dp with recirc := lput s.dp.recirc h l } }
def hostFifo (s : State) (h : Nat) : List Nat := lget s.dp.host h
def putHostFifo (h : Nat) (l : List Nat) (s : State) : State := { s with dp := { s.dp with host := lput s.dp.host h l } }

/-- The number of queue `q` of port `p` among all queues (R656). -/
def qkey (p q : Nat) : Nat := 16 * p + q
/-- Port and queue of a queue number. -/
def qport (k : Nat) : Nat := if 1216 ≤ k then 76 else k / 16
def qnum (k : Nat) : Nat := if 1216 ≤ k then k - 1216 else k % 16

def queueOf (s : State) (k : Nat) : List Copy := lget s.dp.queues k
def putQueue (k : Nat) (l : List Copy) (s : State) : State := { s with dp := { s.dp with queues := lput s.dp.queues k l } }

def txDefault (_ : Nat) : Tx := { cur := none, susp := none, freeClk := 0, last := [] }
def txOf (s : State) (p : Nat) : Tx := sget txDefault s.dp.tx p
def putTx (p : Nat) (x : Tx) (s : State) : State := { s with dp := { s.dp with tx := sput txDefault s.dp.tx p x } }

/-- Bytes a copy is stored as, without frame check sequence. -/
def copyBase (s : State) (c : Copy) : List Byte :=
  match c.base with
  | some b => b
  | none =>
    match frameOf s c.frame with
    | some f => if f.carriesFcs then f.bytes.take (f.bytes.length - 4) else f.bytes
    | none => []

/-- L of a copy as stored (R432). -/
def copyLen (s : State) (c : Copy) : Nat :=
  match c.base with
  | some b => b.length + 4
  | none => match frameOf s c.frame with | some f => f.bytes.length | none => 0

/-! ### Admission -/

/-- The shared region that the fields `get` leave, and whether the other regions overcommit the buffer (R395, R396, R715). -/
def sharedBy (get : Fld → Nat) : Nat × Bool :=
  let mins := (List.range 1280).foldl (fun n k => n + get (F.TM_Q_MIN_MIN (qport k) (qnum k))) 0
  let used := get F.TM_HEADROOM_CELLS + get F.TM_MGMT_POOL_CELLS + mins
  let all := 393216 - 6144 * (popcount 32 (get ⟨A.HLT_BANK_WD 0, 0, 32⟩) + popcount 32 (get ⟨A.HLT_BANK_WD 1, 0, 32⟩))
  if used ≤ all then (all - used, false) else (0, true)

/-- TM_SHARED_SIZE, which follows a write at once (R405). -/
def sharedSize (s : State) : Nat × Bool := sharedBy (fget s)

/-- Charges returned in this core clock, which the tests of this core clock still see (R403): to queue `q` of port `p`, to
that port's shared count, to the shared count, to the management pool. -/
def stillCharged (s : State) (f : Nat → Nat → Nat → Nat → Nat → Nat) : Nat :=
  s.tmg.back.foldl (fun n e => if e.1 = s.clk then
    (match e.2 with | (p, q, cells, shared, pool) => n + f p q cells shared pool) else n) 0
def testDepth (s : State) (p q : Nat) : Nat :=
  fget s (F.TM_Q_DEPTH_DEPTH p q) + stillCharged s (fun a b cells _ _ => if a = p ∧ b = q then cells else 0)
def testPort (s : State) (p : Nat) : Nat :=
  fget s (F.TM_PORT_USED_USED p) + stillCharged s (fun a _ _ shared _ => if a = p then shared else 0)
def testShared (s : State) : Nat := fget s F.TM_SHARED_USED_CELLS + stillCharged s (fun _ _ _ shared _ => shared)
def testMgmt (s : State) : Nat := fget s F.TM_MGMT_USED_CELLS + stillCharged s (fun _ _ _ _ pool => pool)

/-- lim of R402: the dynamic or static limit, reduced for yellow copies. -/
def queueLimit (s : State) (p q : Nat) (yellow : Bool) : Nat :=
  let lim :=
    if fgetInForce s (F.TM_Q_MAX_DYN p q) = 1 then
      let a := clampI (toSigned 4 (fgetInForce s (F.TM_Q_MAX_ALPHA p q))) (-4) 3
      let free := (sharedBy (fgetInForce s)).1 - testShared s
      if 0 ≤ a then free * 2 ^ a.toNat else free / 2 ^ (-a).toNat
    else fgetInForce s (F.TM_Q_MAX_MAX p q)
  if yellow then lim * min 8 (fgetInForce s (F.TM_Q_MAX_YELLOW p q)) / 8 else lim

/-- The threshold test of R402, with the counts of R403 and the limits in force (R405): `none` refuses; else the cells
charged to the shared counts and to the pool. -/
def thresholds (s : State) (p q c : Nat) (mgmt yellow : Bool) : Option (Nat × Nat) :=
  let qd := testDepth s p q
  let mn := fgetInForce s (F.TM_Q_MIN_MIN p q)
  if qd + c ≤ mn then some (0, 0)
  else
    let csh := qd + c - max qd mn
    let lim := queueLimit s p q yellow
    if qd + c ≤ mn + lim ∧ testPort s p + csh ≤ fgetInForce s (F.TM_PORT_LIMIT_LIMIT p)
        ∧ testShared s + csh ≤ (sharedBy (fgetInForce s)).1 then some (csh, 0)
    else if mgmt ∧ testMgmt s + c ≤ fgetInForce s F.TM_MGMT_POOL_CELLS then some (0, c)
    else none

/-- A copy enters queue `q` of port `p` with its charges (R401). -/
def enqueue (p q : Nat) (c : Copy) (sh pool : Nat) (s : State) : State :=
  let k := qkey p q
  let d := fget s (F.TM_Q_DEPTH_DEPTH p q) + c.cells
  let s := fmax (F.TM_Q_WATERMARK_MARK p q) d (fput (F.TM_Q_DEPTH_DEPTH p q) d s)
  let s := fput (F.TM_PORT_USED_USED p) (fget s (F.TM_PORT_USED_USED p) + sh) s
  let s := fput F.TM_SHARED_USED_CELLS (fget s F.TM_SHARED_USED_CELLS + sh) s
  let s := fput F.TM_MGMT_USED_CELLS (fget s F.TM_MGMT_USED_CELLS + pool) s
  let s := bumpN 10 (6 * k + 1) (copyLen s c) (bump 10 (6 * k) s)
  let s := if 0 < pool then setInt A.TM_INT_STAT 3 (bump 10 (6 * k + 5) s) else s
  putQueue k (queueOf s k ++ [{ c with shared := sh, pool := pool, entered := s.clk }]) s

/-- A copy's charges are returned (R404); the tests of this core clock do not see it yet (R403). -/
def returnCharges (p q : Nat) (c : Copy) (s : State) : State :=
  let s := { s with tmg := { s.tmg with back := s.tmg.back.filter (fun e => e.1 == s.clk) ++ [(s.clk, p, q, c.cells, c.shared, c.pool)] } }
  let s := fput (F.TM_Q_DEPTH_DEPTH p q) (fget s (F.TM_Q_DEPTH_DEPTH p q) - c.cells) s
  let s := fput (F.TM_PORT_USED_USED p) (fget s (F.TM_PORT_USED_USED p) - c.shared) s
  let s := fput F.TM_SHARED_USED_CELLS (fget s F.TM_SHARED_USED_CELLS - c.shared) s
  fput F.TM_MGMT_USED_CELLS (fget s F.TM_MGMT_USED_CELLS - c.pool) s

/-- A copy of a management stream (R132); mirror copies never are (R402). -/
def isMgmt (s : State) (c : Copy) : Bool :=
  c.mirror.isNone && (c.mgmt || (match frameOf s c.frame with | some f => f.kixon | none => false))

/-- In SAFE a front port takes and sends only management streams (R135). -/
def safeBlocks (s : State) (p : Nat) : Bool := p < 64 && modeOf s == mSafe

/-- In SAFE a copy of a frame from port `src` is refused on port `p` (R135): either is a front port; of a second pass, whose
frame a front port took before, only where it is bound for a front port. -/
def safeRefuses (s : State) (src p : Nat) (c : Copy) : Bool :=
  !isMgmt s c && (safeBlocks s p || (safeBlocks s src && !c.second))

/-- A mirror copy was refused (R428). -/
def mirrorDrop (m : Nat) (s : State) : State :=
  raise 0x0705 noUnit m 0 (setInt A.TM_INT_STAT 4 (bump 14 (3 * m + 2) s))

/-- A copy refused by a test of R400, counted in counter `i` of group `g`; a mirror copy counts in its session (R428). -/
def refuse (c : Copy) (g i : Nat) (s : State) : State :=
  match c.mirror with
  | some m => mirrorDrop m s
  | none => bump g i s

/-- Admit or refuse a copy to queue `q` of port `p` (R400, R403); the answer says whether it was admitted. -/
def admitCopy (p q : Nat) (c : Copy) (s : State) : Bool × State :=
  let src := match frameOf s c.frame with | some f => f.srcPort | none => 76
  let mgmt := isMgmt s c
  if inReset s p then (false, refuse c 11 (4 * p) s)
  else if p < 72 ∧ ¬ linkUp s p ∧ ¬ fbit s (F.PRT_MAC_CFG_DOWN_HOLD p) then (false, refuse c 0 (24 * p + 13) s)
  else if (s.glb.base = bDraining ∨ s.glb.base = bQuiesced) ∧ ¬ mgmt ∧ ¬ c.second then (false, refuse c 11 (4 * src + 2) s)
  else if safeRefuses s src p c then (false, refuse c 11 (4 * p + 1) s)
  else
    match thresholds s p q c.cells mgmt (c.yellow || c.mirror.isSome) with
    | some (sh, pool) => (true, enqueue p q c sh pool s)
    | none =>
      match c.mirror with
      | some m => (false, mirrorDrop m s)
      | none =>
        (false, raise 0x0703 c.hearth p q (setInt A.TM_INT_STAT 2 (bump 10 (6 * qkey p q + 4) s)))

/-- Drop the copies of queue `k` that `f` names, each counted by `count`. -/
def dropQueued (k : Nat) (f : Copy → Bool) (count : Copy → State → State) (s : State) : State :=
  let l := queueOf s k
  let s := putQueue k (l.filter (fun c => !f c)) s
  (l.filter f).foldl (fun s c => count c (returnCharges (qport k) (qnum k) c s)) s

/-- Drop copies from every queue. -/
def dropEverywhere (f : Nat → Copy → Bool) (count : Nat → Copy → State → State) (s : State) : State :=
  (s.dp.queues.map Prod.fst).foldl (fun s k => dropQueued k (f k) (count k) s) s

/-- Every copy of frame `i` is dropped from the queues and from the fabric; one on a wire ends inverted (R48, R49, R394). -/
def dropFrame (i : Nat) (f : Frame) (s : State) : State :=
  let s := dropEverywhere (fun _ c => c.frame == i) (fun _ _ s => s) s
  putFrame i { f with bad := true }
    { s with fab := { s.fab with rx := s.fab.rx.filter (· != i), passed := s.fab.passed.filter (· != i)
                                 join := s.fab.join.filter (· != i) } }

/-- A frame that arrives at port `p` finds no free cell (R394). -/
def noCell (p : Nat) (s : State) : State := raise 0x0701 p 0 0 (setInt A.TM_INT_STAT 0 (bump 11 (4 * p + 3) s))

/-- The core clock in which arriving frame `f` takes its next cell, when there is one to take (R48). -/
def nextCellClk (s : State) (f : Frame) : Option Nat :=
  if f.whole ∨ f.bad ∨ cellsFor f.bytes.length ≤ f.taken then none
  else some (f.began + wireClocks (portRate s f.srcPort) (256 * f.taken + 1))

/-- Arriving frame `i` takes `n` cells, or is dropped for want of them: what it has taken returns (R394). -/
def takeCells (i n : Nat) (s : State) : State :=
  match frameOf s i with
  | none => s
  | some f =>
    if f.bad ∨ n = 0 then s
    else if ¬ (bodyRefs s).contains i then putFrame i { f with taken := f.taken + n } s
    else if cellsFree s n then putFrame i { f with taken := f.taken + n } s
    else noCell f.srcPort (dropFrame i { f with taken := 0 } s)

/-! ### The budgets of WAKING (R148 to R152) -/

/-- A budget that has not been drawn on since WAKING was entered is full (R149). -/
def admitFull (_ : Nat) : Bucket := { level := 2 ^ 64, stamp := 0 }

/-- The bucket of class `k`: one for the device, or one for each hearth in classes 5 and 6 (R148). -/
def admitKey (k h : Nat) : Nat := if k < 5 then 8 * k else 8 * k + 1 + h

/-- Take a token of class `k` at the rate and burst in force (R152); a drop is counted (R149). -/
def admitBudget (k h : Nat) (s : State) : Bool × State :=
  let rate := fgetInForce s (F.GLB_ADMIT_RATE_RATE k)
  if ¬ budgets s ∨ rate = 0xFFFFFF then (true, s)
  else
    let r := bucketTake rate (fgetInForce s (F.GLB_ADMIT_BURST_BURST k)) s.clk (sget admitFull s.glb.admitLevel (admitKey k h))
    let s := { s with glb := { s.glb with admitLevel := sput admitFull s.glb.admitLevel (admitKey k h) r.2 } }
    if r.1 then (true, s)
    else
      let s := setInt A.GLB_INT_STAT 5 (faddSat (F.GLB_ADMIT_DROP_DROPS (k % 8)) 1 s)
      if s.glb.admitSeen.contains k then (false, suppress 0x000A s)
      else (false, raise 0x000A noUnit k 0 { s with glb := { s.glb with admitSeen := s.glb.admitSeen ++ [k] } })

/-! ### Shapers (R413 to R416) -/

/-- The rate in b/s that a rate word gives. -/
def rateWord (w : Nat) : Nat := bits w 0 16 * 2 ^ bits w 16 5

/-- 2⁻¹⁶ bytes gained in `n` core clocks at `r` b/s (R408, R413). -/
def gain16 (r n : Nat) : Nat := n * r * 65536 / (8 * clockHz)

def shaperDefault (_ : Nat) : Shaper := { level := 0, stamp := 0 }

/-- Registers of shaper `i`: queue shapers 0 to 1279, port shapers from 1280 on. -/
def shaperRate (s : State) (i : Nat) : Nat :=
  if i < 1280 then rget s (A.TM_Q_SHP_RATE (qport i) (qnum i)) else rget s (A.TM_PORT_SHP_RATE (i - 1280))
def shaperBurst (s : State) (i : Nat) : Nat :=
  if i < 1280 then fget s (F.TM_Q_SHP_BURST_BURST (qport i) (qnum i)) else fget s (F.TM_PORT_SHP_BURST_BURST (i - 1280))

/-- The level of shaper `i` now, in 2⁻¹⁶ bytes (R413). -/
def shaperLevel (s : State) (i : Nat) : Int :=
  let x := sget shaperDefault s.tmg.shapers i
  min (Int.ofNat (shaperBurst s i) * 65536) (x.level + Int.ofNat (gain16 (rateWord (shaperRate s i)) (s.clk - x.stamp)))

def setShaper (i : Nat) (l : Int) (s : State) : State :=
  { s with tmg := { s.tmg with shapers := sput shaperDefault s.tmg.shapers i { level := l, stamp := s.clk } } }

/-- Is shaper `i` eligible (R413)? -/
def shaperOk (s : State) (i : Nat) : Bool := !bitAt (shaperRate s i) 31 || decide (0 ≤ shaperLevel s i)

/-- A copy of `n` bytes on the wire is selected (R413). -/
def shaperTake (i n : Nat) (s : State) : State :=
  if bitAt (shaperRate s i) 31 then setShaper i (shaperLevel s i - Int.ofNat n * 65536) s else s

/-- A write of rate or burst resets the level (R414). -/
def shaperReset (i : Nat) (s : State) : State :=
  setShaper i (if bitAt (shaperRate s i) 30 then Int.ofNat (shaperBurst s i) * 65536 else 0) s

end Machine
end Sys2Proof
end

