-- ==== Sys2Proof/Machine/Rooms.lean ====
section
/-! DEFINITION. Machine/Rooms.lean: the Porter's pools, free rings, caches and starved receive rings as registers and state hold
them (chapter 14, R590 to R605). -/
namespace Sys2Proof
namespace Machine

/-! ### Pools (R590 to R599) -/

/-- The device may read and write host memory (R160). -/
def dmaOn (s : State) : Bool := s.hif.busMaster && !s.hif.d3hot

/-- A 64-bit address held in two registers. -/
def addr64 (s : State) (hi lo : Nat) : Nat := rget s hi * 2 ^ 32 + rget s lo

def poolEn (s : State) (k : Nat) : Bool := fbit s (F.POR_POOL_CTL_EN k)
def poolCount (s : State) (k : Nat) : Nat := fget s (F.POR_POOL_COUNT_COUNT k)
def poolFirst (s : State) (k : Nat) : Nat := fget s (F.POR_POOL_FIRST_FIRST k)
def poolRoom (s : State) (k : Nat) : Nat := fget s (F.POR_POOL_SIZE_BYTES k)

/-- Entries of pool `k`'s free ring (R595). -/
def ringSize (s : State) (k : Nat) : Nat := 2 ^ clampN (fget s (F.POR_RING_SIZE_SIZE k)) 6 21

/-- Handles that the free ring holds: TAIL − HEAD modulo 2³². -/
def ringLevel (s : State) (k : Nat) : Nat := (rget s (A.POR_RING_TAIL k) + 2 ^ 32 - rget s (A.POR_RING_HEAD k)) % 2 ^ 32

/-- Address of ring entry number `n`. -/
def ringAddr (s : State) (k n : Nat) : Nat := addr64 s (A.POR_RING_BASE_HI k) (A.POR_RING_BASE_LO k) + 4 * (n % ringSize s k)

def cacheOf (s : State) (k : Nat) : List Nat := lget s.por.caches k
def putCache (k : Nat) (l : List Nat) (s : State) : State := { s with por := { s.por with caches := lput s.por.caches k l } }

/-- Handles returned to a full cache, whose writes to the ring wait. -/
def overOf (s : State) (k : Nat) : List Nat := lget s.por.extra k
def putOver (k : Nat) (l : List Nat) (s : State) : State := { s with por := { s.por with extra := lput s.por.extra k l } }

/-- POR_POOL_FREE (R598). -/
def poolFree (s : State) (k : Nat) : Nat := (cacheOf s k).length + (overOf s k).length + ringLevel s k

/-- The parts of a handle (R593). -/
def handlePool (x : Nat) : Nat := bits x 29 3
def handleIndex (x : Nat) : Nat := bits x 0 20

/-- A handle is valid but for its pool being enabled (R594, R600). -/
def handleFits (s : State) (x : Nat) : Bool := bits x 20 9 == 0 && decide (handleIndex x < poolCount s (handlePool x))

/-- A handle is valid (R594). -/
def handleValid (s : State) (x : Nat) : Bool := poolEn s (handlePool x) && handleFits s x

/-- The owner-mask slot of a handle (R591). -/
def slotOf (s : State) (x : Nat) : Nat := (poolFirst s (handlePool x) + handleIndex x) % 2 ^ 20

/-- Address of the room a handle names (R590). -/
def roomAddr (s : State) (x : Nat) : Nat :=
  let k := handlePool x
  addr64 s (A.POR_POOL_BASE_HI k) (A.POR_POOL_BASE_LO k) + handleIndex x * poolRoom s k

def roomMask (s : State) (x : Nat) : Nat := sget (fun _ => 0) s.por.masks (slotOf s x)
def putMask (x m : Nat) (s : State) : State :=
  { s with por := { s.por with masks := sput (fun _ => 0) s.por.masks (slotOf s x) (m % 65536) } }

/-- Handles are written at the tail of pool `k`'s ring (R597). -/
def writeTail (k : Nat) : List Nat → State → State
  | [], s => s
  | x :: rest, s =>
    let t := rget s (A.POR_RING_TAIL k)
    writeTail k rest (rput (A.POR_RING_TAIL k) ((t + 1) % 2 ^ 32) (memWrite (ringAddr s k t) (leBytes 4 x) s))

/-- Counter `i` of pool `k`. -/
def poolCtr (k i : Nat) (s : State) : State := bump 22 (9 * k + i) s

/-! ### Starved rings (R605) -/

/-- The pools that ring `r` names, and its owner set (R602). -/
def ringPools (s : State) (r : Nat) : List Nat := setBitsOf 8 (fget s (F.POR_RX_CFG_POOLS r))
def ringOwners (s : State) (r : Nat) : Nat :=
  let o := fget s (F.POR_RX_CFG_OWNERS r)
  if o = 0 ∨ 4 < popcount 16 o then 1 else o

/-- RESUME_LEVEL. -/
def resumeLevel (s : State) : Nat := clampN (fget s F.POR_CTL_RESUME_LEVEL) 1 64

def starved (s : State) (r : Nat) : Bool := bitAt (rget s (A.POR_RX_STARVED (r / 32))) (r % 32)

def setStarved (r : Nat) (b : Bool) (s : State) : State :=
  let a := A.POR_RX_STARVED (r / 32)
  rput a (setBits (rget s a) (r % 32) 1 (b2n b)) s

/-- The pool that starved ring `r` (8: none that it names was enabled) has rooms again. -/
def refilled (s : State) (r k : Nat) : Bool :=
  if k < 8 then decide (resumeLevel s ≤ (cacheOf s k).length)
  else (ringPools s r).any (fun j => poolEn s j && decide (resumeLevel s ≤ (cacheOf s j).length))

/-- Every ring whose pool has reached RESUME_LEVEL ceases to be starved; tested at each core clock (R605). -/
def unstarve (s : State) : State :=
  let back := s.por.starvedBy.filter (fun e => refilled s e.1 e.2)
  back.foldl (fun s e => setStarved e.1 false { s with por := { s.por with
    starvedBy := s.por.starvedBy.filter (fun x => x.1 != e.1) } }) s

/-- Ring `r` becomes starved, by pool `k`. -/
def starve (r k : Nat) (s : State) : State :=
  setInt A.POR_INT_STAT 4 (setStarved r true { s with por := { s.por with starvedBy := sins (sdel s.por.starvedBy r) r k } })

end Machine
end Sys2Proof
end

