-- ==== Sys2Proof/Machine/Tables.lean ====
section
/-! DEFINITION. Machine/Tables.lean: the forwarding tables as the data path reads and writes them (chapter 07): entries,
hashes, the FDB and its learning, the mover, bridge domains, LAGs, streams. -/
namespace Sys2Proof
namespace Machine

/-! ### Tables and entries (R314, R315) -/

def tFdb : Nat := 0x00
def tTcam : Nat := 0x10
def tMeter : Nat := 0x11
def tTunnel : Nat := 0x20
def tStream : Nat := 0x21
def tBd : Nat := 0x22
def tFlood : Nat := 0x23
def tLag : Nat := 0x24
def tGate : Nat := 0x25
def tGroup : Nat := 0x26

/-- The templates, which have no number among the tables, as a poisoned word names them (DESIGN CHOICE, log entry 81). -/
def tTemplate : Nat := 0x40

/-- The key of entry `i` of table `t`; `h` and `b` are 0 where the table has one instance. -/
def entryKey (t h b i : Nat) : Nat := ((t * 4 + h) * 2 + b) * 2 ^ 20 + i

def entryDefault (_ : Nat) : List Nat := []

/-- The image of an entry. -/
def entryAt (s : State) (t h b i : Nat) : List Nat := sget entryDefault s.tab.mem (entryKey t h b i)

/-- Store an image; one of zeros is not listed. -/
def putEntry (t h b i : Nat) (w : List Nat) (s : State) : State :=
  { s with tab := { s.tab with
      mem := sput entryDefault s.tab.mem (entryKey t h b i) (if w.all (· == 0) then [] else w) } }

/-- Word `k` of an image. -/
def ew (w : List Nat) (k : Nat) : Nat := w.getD k 0

/-- An image with word `k` replaced. -/
def ewSet (k v : Nat) (w : List Nat) : List Nat := (w ++ List.replicate (k + 1 - w.length) 0).set k v

/-- The first uncorrectable error since HLT_ECC_CAP was read is captured. -/
def eccCapture (w : EccWord) (s : State) : State :=
  if bitAt (rget s A.HLT_ECC_CAP) 31 then s
  else
    rput A.HLT_ECC_CAP_ADDR (w.index % 2 ^ 20)
      (capture A.HLT_ECC_CAP (2 ^ 31 + w.cls % 8 * 2 ^ 28 + w.hearth % 16 * 2 ^ 24 + w.table % 256 * 2 ^ 16) s)

/-- The poisoned word of entry `i` of table `t`; hearth 15 stands for a table that all hearths share (R709). -/
def poisonAt (s : State) (t h i : Nat) : Option EccWord :=
  s.hlt.poison.find? (fun w => w.table == t && w.index == i && (w.hearth == h || h == 15))

/-- Does a list of reads (table, hearth, index) meet a poisoned entry? -/
def anyPoison (s : State) (l : List (Nat × Nat × Nat)) : Bool := l.any (fun x => (poisonAt s x.1 x.2.1 x.2.2).isSome)

/-- The exact-match table `t` (1 to 8) of hearth `h`, where the partition has it (R94, R341). -/
def partOf (s : State) (h t : Nat) : Option EmPartition :=
  match s.frg.active with
  | none => none
  | some f => ((f.content.parts.getD h [])[t - 1]?).bind (fun p => if p.buckets = 0 then none else some p)

/-! ### Hashes (R316) -/

/-- CRC-32C with the seed in place of the initial value. -/
def crc32c (seed : Nat) (l : List Byte) : Nat := crc32cFrom seed l ^^^ 0xFFFFFFFF

/-- What a hashed table's search needs: buckets, seeds, key words. -/
structure HashSpec where
  buckets : Nat
  seed0 : Nat
  seed1 : Nat
  keyWords : Nat
deriving DecidableEq, Repr

/-- The hashing of table `t` of hearth `h`. -/
def hashSpec (s : State) (h t : Nat) : Option HashSpec :=
  if t = tFdb then some { buckets := 65536, seed0 := 0x9E3779B9, seed1 := 0x7F4A7C15, keyWords := 2 }
  else (partOf s h t).map (fun p => { buckets := p.buckets, seed0 := p.seed0, seed1 := p.seed1, keyWords := p.keyBytes / 4 })

/-- The two candidate buckets of a key. -/
def candidates (p : HashSpec) (key : List Byte) : Nat × Nat :=
  let b0 := crc32c p.seed0 key &&& (p.buckets - 1)
  let b1 := crc32c p.seed1 key &&& (p.buckets - 1)
  (b0, if b1 = b0 then b0 ^^^ 1 else b1)

/-- The key that an image holds (R318, R319, R342). -/
def imageKey (t : Nat) (p : HashSpec) (w : List Nat) : List Byte :=
  if t = tFdb then beBytes 2 (bits (ew w 1) 16 12) ++ beBytes 2 (ew w 1 % 65536) ++ beBytes 4 (ew w 0)
  else ((List.range p.keyWords).map (fun j => beBytes 4 (ew w (1 + j)))).flatten

/-- The word that holds VALID and the hit bits of a hashed table. -/
def validWord (t : Nat) : Nat := if t = tFdb then 2 else 0

/-- Is the image VALID? -/
def imageValid (t : Nat) (w : List Nat) : Bool := bitAt (ew w (validWord t)) 31

def waysOf (b : Nat) : List Nat := [4 * b, 4 * b + 1, 4 * b + 2, 4 * b + 3]

/-- The index of a key: ways 0 to 3 of b0, then of b1. -/
def findKey (s : State) (h t : Nat) (key : List Byte) : Option Nat :=
  match hashSpec s h t with
  | none => none
  | some p =>
    let (b0, b1) := candidates p key
    (waysOf b0 ++ waysOf b1).find? (fun i =>
      let w := entryAt s t h 0 i
      imageValid t w && imageKey t p w == key)

/-- The first way of a bucket that is not VALID. -/
def freeWay (s : State) (h t b : Nat) : Option Nat := (waysOf b).find? (fun i => !imageValid t (entryAt s t h 0 i))

/-! ### The mover's chains (R329, R334) -/

/-- The other candidate bucket of the entry at index `i`. -/
def otherBucket (s : State) (h t : Nat) (p : HashSpec) (i : Nat) : Nat :=
  let (b0, b1) := candidates p (imageKey t p (entryAt s t h 0 i))
  if i / 4 = b0 then b1 else b0

/-- The buckets one move further from each bucket of the frontier, with the entries moved, newest first. -/
def chainStep (s : State) (h t : Nat) (p : HashSpec) (rot : Nat) (front : List (Nat × List Nat)) (seen : List Nat) :
    List (Nat × List Nat) × List Nat :=
  front.foldl (fun acc e =>
    (List.range 4).foldl (fun acc w =>
      let i := 4 * e.1 + (w + rot) % 4
      let y := otherBucket s h t p i
      if acc.2.contains y then acc else (acc.1 ++ [(y, i :: e.2)], acc.2 ++ [y])) acc) ([], seen)

/-- A shortest chain of at most `n` moves that reaches a bucket with a free way. -/
def findChain (s : State) (h t : Nat) (p : HashSpec) (rot : Nat) :
    Nat → List (Nat × List Nat) → List Nat → Option (Nat × List Nat)
  | 0, _, _ => none
  | n + 1, front, seen =>
    let (next, seen) := chainStep s h t p rot front seen
    match next.findSome? (fun e => (freeWay s h t e.1).map (fun f => (f, e.2))) with
    | some r => some r
    | none => findChain s h t p rot n next seen

/-- The chain in progress of table `t` of hearth `h`. -/
def jobKey (h t : Nat) : Nat := 16 * h + t
def jobOf (s : State) (h t : Nat) : Option MoverJob := (s.tab.moves.find? (fun e => e.1 == jobKey h t)).map Prod.snd

/-- The buckets that the move in progress has locked (R334). -/
def lockedBuckets (s : State) (h t : Nat) : List Nat :=
  match jobOf s h t with
  | some j => if j.clk ≤ s.clk then [j.path.headD 0 / 4, j.dest / 4] else []
  | none => []

/-- The way that holds the other copy of the entry at index `i` while both stand (R334, R335). -/
def otherCopy (s : State) (h t i : Nat) : Option Nat :=
  match jobOf s h t with
  | some j =>
    if j.step ≠ 1 then none
    else if i = j.path.headD 0 then some j.dest
    else if i = j.dest then some (j.path.headD 0)
    else none
  | none => none

/-- Learning writes the entry at index `i` of hearth `h`'s FDB, in both copies while both stand (R335). -/
def learnWrite (h i : Nat) (w : List Nat) (s : State) : State :=
  match otherCopy s h tFdb i with
  | some k => putEntry tFdb h 0 k w (putEntry tFdb h 0 i w s)
  | none => putEntry tFdb h 0 i w s

/-- TBL_MOVER_CFG.MAX_MOVES. -/
def maxMoves (s : State) : Nat := clampN (fget s F.TBL_MOVER_CFG_MAX_MOVES) 1 16

/-! ### Learning (R325 to R333) -/

/-- The FDB key of a bridge domain and a MAC address (R318). -/
def fdbKey (bd mac : Nat) : List Byte := beBytes 2 bd ++ beBytes 6 mac

/-- Counter `i` of FDB_LEARN of hearth `h` (R359). -/
def fdbCtr (h i : Nat) (s : State) : State := bump 3 (13 * h + i) s

/-- The image that learning writes (R319). -/
def learnedImage (l : Learn) : List Nat :=
  [l.mac % 2 ^ 32, l.bd * 2 ^ 16 + l.mac / 2 ^ 32,
   2 ^ 31 + b2n l.egress * 2 ^ 27 + 2 ^ 25 + l.kind * 2 ^ 20 + l.dest, 0]

/-- A notification of hearth `h` (R333): KIND 1 NEW, 2 MOVE, 3 NO_ROOM. -/
def notify (h kind : Nat) (l : Learn) (s : State) : State :=
  if bitAt (fget s F.TBL_LEARN_CFG_NOTE_EN) h then
    let (ok, s) := admitBudget 6 h s
    let q := lget s.tab.notes h
    if ¬ ok then s
    else if 1024 ≤ q.length then raise 0x0503 h l.bd 0 (setInt A.TBL_INT_STAT 9 (fdbCtr h 7 s))
    else
      let r := [2 ^ 31 + kind * 2 ^ 28 + b2n l.egress * 2 ^ 27 + l.bd, l.mac % 2 ^ 32, l.mac / 2 ^ 32, l.kind * 2 ^ 20 + l.dest]
      let s := if q = [] then setInt A.TBL_INT_STAT (4 + h) s else s
      { s with tab := { s.tab with notes := lput s.tab.notes h (q ++ [r]) } }
  else s

/-- A new key is written into way `i` of hearth `h`'s FDB. -/
def learnNew (h i : Nat) (l : Learn) (s : State) : State :=
  notify h 1 l (fdbCtr h (b2n l.egress) (putEntry tFdb h 0 i (learnedImage l) s))

/-- Learning finds its key at index `i` (R327). -/
def learnKnown (h i : Nat) (l : Learn) (s : State) : State :=
  let w := entryAt s tFdb h 0 i
  let hit := ew w 2 ||| 2 ^ 25
  if bits (ew w 2) 20 3 = l.kind ∧ bits (ew w 2) 0 20 = l.dest then learnWrite h i (ewSet 2 hit w) s
  else if bitAt (ew w 2) 24 then
    raise 0x0502 h l.bd 0 (fdbCtr h 3 (learnWrite h i (ewSet 2 hit w) s))
  else
    let v := setBits (setBits (setBits hit 27 1 (b2n l.egress)) 20 3 l.kind) 0 20 l.dest
    notify h 2 l (fdbCtr h 2 (learnWrite h i (ewSet 2 v w) s))

/-- Pass a key to the mover of hearth `h`'s FDB (R328, R329). -/
def moverAdd (h : Nat) (l : Learn) (s : State) : State :=
  let q := lget s.tab.mover h
  if 64 ≤ q.length then fdbCtr h 6 s else { s with tab := { s.tab with mover := lput s.tab.mover h (q ++ [l]) } }

/-- Learning in hearth `h` (R327, R328): whether there was no room, and the state. A way of a locked bucket is not free (R336). -/
def learnIn (h : Nat) (l : Learn) (s : State) : Bool × State :=
  match findKey s h tFdb (fdbKey l.bd l.mac) with
  | some i => (false, learnKnown h i l s)
  | none =>
    match hashSpec s h tFdb with
    | none => (false, s)
    | some p =>
      let (b0, b1) := candidates p (fdbKey l.bd l.mac)
      match (waysOf b0 ++ waysOf b1).find? (fun i =>
          !imageValid tFdb (entryAt s tFdb h 0 i) && !(lockedBuckets s h tFdb).contains (i / 4)) with
      | some i => (false, learnNew h i l s)
      | none => (true, moverAdd h l (fdbCtr h 4 s))

/-- A destination lookup (R320, R337): DEST_KIND and DEST, and DST_HIT is set. -/
def fdbLookup (h bd mac : Nat) (s : State) : Option (Nat × Nat) × State :=
  match findKey s h tFdb (fdbKey bd mac) with
  | none => (none, s)
  | some i =>
    let w := entryAt s tFdb h 0 i
    (some (bits (ew w 2) 20 3, bits (ew w 2) 0 20), putEntry tFdb h 0 i (ewSet 2 (ew w 2 ||| 2 ^ 26) w) s)

/-! ### Bridge domains, flood lists, LAGs (R321 to R324) -/

/-- The ports below 72 that three bitmap words name. -/
def bitmapPorts (w0 w1 w2 : Nat) : List Nat :=
  setBitsOf 32 w0 ++ (setBitsOf 32 w1).map (· + 32) ++ (setBitsOf 8 w2).map (· + 64)

def bdWords (s : State) (bd : Nat) : List Nat := entryAt s tBd 0 0 bd
def bdValid (s : State) (bd : Nat) : Bool := bitAt (ew (bdWords s bd) 3) 31
def bdLearn (s : State) (bd : Nat) : Bool := bitAt (ew (bdWords s bd) 3) 30
def bdFloodList (s : State) (bd : Nat) : Nat := bits (ew (bdWords s bd) 3) 0 12
def bdMembers (s : State) (bd : Nat) : List Nat :=
  bitmapPorts (ew (bdWords s bd) 0) (ew (bdWords s bd) 1) (ew (bdWords s bd) 2)

/-- The tunnels of flood list `n`; list 0 names none (R321, R323). -/
def floodTunnels (s : State) (n : Nat) : List Nat :=
  if n = 0 then []
  else let w := entryAt s tFlood 0 0 n; (List.range (min 64 (bits (ew w 0) 0 7))).map (fun i => bits (ew w (1 + i)) 0 20)

/-- The members of a LAG image: its first N (R324). -/
def lagMembersOf (w : List Nat) : List Nat := (List.range (bits (ew w 0) 0 5)).map (fun m => bits (ew w (1 + m / 4)) (8 * (m % 4)) 7)

/-- The members of LAG `g`, none when it is not VALID. -/
def lagMembers (s : State) (g : Nat) : List Nat :=
  let w := entryAt s tLag 0 0 g
  if bitAt (ew w 0) 31 then lagMembersOf w else []

/-- The LAG that port `p` is a member of. -/
def lagOf (s : State) (p : Nat) : Option Nat := (List.range 64).find? (fun g => (lagMembers s g).contains p)

/-- The member that a copy to LAG `g` takes on symmetric hash `x` (R324). -/
def lagPick (s : State) (g x : Nat) : Option Nat :=
  let up := (lagMembers s g).filter (fun p => linkUp s p)
  if up = [] then none else up[x % up.length]?

/-- A copy to a LAG finds no member up (R324). -/
def lagNoMember (h bd : Nat) (s : State) : State := raise 0x0504 h bd 0 (setInt A.TBL_INT_STAT 10 (fdbCtr h 12 s))

/-- Replace the members of LAGs among flooded ports by one member each (R322, step 2). -/
def collapseLags (s : State) (x : Nat) (ports : List Nat) : List (Option Nat) × List Nat :=
  let lags := (List.range 64).filter (fun g => (lagMembers s g).any (fun p => ports.contains p))
  (lags.map (fun g => lagPick s g x), ports.filter (fun p => !lags.any (fun g => (lagMembers s g).contains p)))

/-! ### The symmetric hash (R317) -/

/-- The symmetric hash of its inputs a, b, p, q, t. -/
def symHash (seed a b p q t : Nat) : Nat :=
  let (a, b, p, q) := if b < a ∨ (a = b ∧ q < p) then (b, a, q, p) else (a, b, p, q)
  let c := crc32c seed (beBytes 16 a ++ beBytes 16 b ++ beBytes 2 p ++ beBytes 2 q ++ beBytes 2 t)
  (c >>> 16) ^^^ (c &&& 0xFFFF)

/-! ### Streams (R345 to R350) -/

/-- Counter `i` of STREAM_CB of stream `x`. -/
def streamCtr (x i : Nat) (s : State) : State := bump 6 (6 * x + i) s

/-- Device µs as the recovery function counts them (R345). -/
def nowUs (s : State) : Nat := s.clk / clocksPerUs % 2 ^ 32

/-- What sequence recovery decides (R349). -/
structure Recovery where
  hist : Nat
  recSeq : Nat
  accepted : Bool
  rogue : Bool
  outOfOrder : Bool
deriving DecidableEq, Repr

/-- R349 on a history of `hl` bits that is not reset. -/
def recover (matchAlgo : Bool) (hl hist rec sq : Nat) : Recovery :=
  if hist = 0 then { hist := 1, recSeq := sq, accepted := true, rogue := false, outOfOrder := false }
  else if matchAlgo then
    if sq = rec then { hist := hist, recSeq := rec, accepted := false, rogue := false, outOfOrder := false }
    else { hist := hist, recSeq := sq, accepted := true, rogue := false, outOfOrder := false }
  else
    let d := toSigned 16 (sq + 65536 - rec)
    if Int.ofNat hl ≤ d ∨ d ≤ -Int.ofNat hl then { hist := hist, recSeq := rec, accepted := false, rogue := true, outOfOrder := false }
    else if 0 < d then
      { hist := (hist * 2 ^ d.toNat + 1) % 2 ^ hl, recSeq := sq, accepted := true, rogue := false, outOfOrder := false }
    else if bitAt hist (-d).toNat then { hist := hist, recSeq := rec, accepted := false, rogue := false, outOfOrder := false }
    else { hist := hist ||| 2 ^ (-d).toNat, recSeq := rec, accepted := true, rogue := false, outOfOrder := true }

/-- Sequence generation and recovery at clock 210 (R346 to R350): the frame's number, whether it is discarded. -/
def streamUpdate (h x : Nat) (tag : Option Nat) (s : State) : Option Nat × Bool × State :=
  let w := entryAt s tStream 0 0 x
  let gen := bits (ew w 2) 0 16
  let (seq, w) :=
    if bitAt (ew w 0) 3 then (some gen, ewSet 2 (setBits (ew w 2) 0 16 (gen + 1)) w) else (tag, w)
  if ¬ bitAt (ew w 0) 0 then (seq, false, putEntry tStream 0 0 x w s)
  else
    match tag with
    | none => (seq, false, streamCtr x 5 (putEntry tStream 0 0 x w s))
    | some sq =>
      let hl := clampN (bits (ew w 1) 8 6) 1 32
      let hist := ew w 3 % 2 ^ hl
      let now := nowUs s
      let idle := (now + 2 ^ 32 - ew w 4 % 2 ^ 32) % 2 ^ 32
      let reset := decide (1000 * max 1 (bits (ew w 1) 0 8) < idle) && hist != 0
      let r := recover (bitAt (ew w 1) 14) hl (if reset then 0 else hist) (bits (ew w 2) 16 16) sq
      let w := ewSet 3 r.hist (ewSet 2 (setBits (ew w 2) 16 16 r.recSeq) w)
      let w := if r.accepted then ewSet 4 now w else w
      let s := putEntry tStream 0 0 x w s
      let s := if reset then raise 0x0506 h x 0 (streamCtr x 4 s) else s
      let s := if r.accepted then streamCtr x 0 s else streamCtr x 1 s
      let s := if r.outOfOrder then streamCtr x 2 s else s
      let s := if r.rogue then raise 0x0505 h x 0 (streamCtr x 3 s) else s
      (seq, !r.accepted, s)

end Machine
end Sys2Proof
end

