-- ==== Sys2Proof/Machine/TableCmds.lean ====
section
/-! DEFINITION. Machine/TableCmds.lean: the table command interface (R352 to R358): which tables and opcodes are valid,
what an image may hold, and what each command does when it completes. -/
namespace Sys2Proof
namespace Machine

/-! ### Results (R357) -/

def resOk : Nat := 0x00
def resNotFound : Nat := 0x01
def resExists : Nat := 0x02
def resNoRoom : Nat := 0x03
def resBadTable : Nat := 0x04
def resBadIndex : Nat := 0x05
def resBadOpcode : Nat := 0x06
def resBadEntry : Nat := 0x07
def resRefused : Nat := 0x08
def resWrongMode : Nat := 0x09
def resHit : Nat := 0x0A
def resStatic : Nat := 0x0B

/-! ### Tables -/

/-- Table `t` of hearth `h` exists (R314). -/
def tableOk (s : State) (t h : Nat) : Bool :=
  t == tFdb || (decide (1 ≤ t ∧ t ≤ 8) && (partOf s h t).isSome) || t == tTcam || t == tMeter || decide (0x20 ≤ t ∧ t ≤ 0x26)

/-- Tables with one instance in each hearth. -/
def perHearth (t : Nat) : Bool := decide (t < 0x20)

/-- The number of entries of a table (R314). -/
def tableSize (s : State) (t h : Nat) : Nat :=
  if t = tFdb then 262144
  else if t ≤ 8 then (match partOf s h t with | some p => 4 * p.buckets | none => 0)
  else if t = tTcam then 16384 else if t = tMeter then 32768 else if t = tTunnel then 1048576
  else if t = tStream ∨ t = tGroup then 65536 else if t = tLag then 64 else 4096

/-- The words of an image of a table. -/
def imageWords (s : State) (t h : Nat) : Nat :=
  if t = tFdb then 4
  else if t ≤ 8 then
    (match partOf s h t with | some p => 1 + p.keyBytes / 4 + (if p.kind = 0 then 8 else 4) | none => 0)
  else if t = tTcam then 50 else if t = tMeter then 8 else if t = tTunnel then 16 else if t = tStream then 8
  else if t = tBd then 4 else if t = tFlood then 65 else if t = tLag then 5 else if t = tGate then 80 else 4

/-- Does the opcode work on the table (R355, R768)? -/
def opcodeOk (op t : Nat) : Bool :=
  if op ≤ 2 then true else if op ≤ 7 then decide (t ≤ 8) else t == tFdb

/-! ### What an image may hold (BAD_ENTRY) -/

/-- Every word is 0 in the reserved bits that the masks name, from word `k` on. -/
def reservedOk (w : List Nat) : Nat → List Nat → Bool
  | _, [] => true
  | k, m :: t => (ew w k &&& m == 0) && reservedOk w (k + 1) t

/-- The reserved bits of an action word whose word 0 is word `k` (R286). -/
def actionOk (w : List Nat) (k : Nat) : Bool := reservedOk w k [full, full, full, 0x1FFFFFFF]

/-- Is a payload of a template's kind (R360)? -/
def payloadAllowed (kind pl : Nat) : Bool := if kind = 1 then pl == 0 else if kind = 2 then pl != 0 else true

def templateAt (s : State) (i : Nat) : List Nat := sget (fun _ => []) s.fry.templates i
def tmplValid (w : List Nat) : Bool := bitAt (ew w 0) 31
def tmplKind (w : List Nat) : Nat := bits (ew w 0) 29 2
def tmplV6 (w : List Nat) : Bool := bitAt (ew w 0) 28

/-- The conditions of R367 that involve no template. -/
def tunnelFieldsOk (w : List Nat) : Bool :=
  reservedOk w 0 [0x80, 0xC000, 0x1FFF, 0, 0xFFFF] && reservedOk w 9 (List.replicate 7 full)
    && decide (bits (ew w 0) 0 7 ≤ 71) && decide (576 ≤ bits (ew w 1) 0 14 ∧ bits (ew w 1) 0 14 ≤ 10218)

/-- R367: may the tunnel image be written? -/
def tunnelOk (s : State) (w : List Nat) : Bool :=
  let t := templateAt s (bits (ew w 0) 8 9)
  tunnelFieldsOk w && tmplValid t && payloadAllowed (tmplKind t) (bits (ew w 0) 25 2)
    && (!bitAt (ew w 2) 13 || tmplKind t == 0) && (tmplV6 t || (ew w 5 == 0 && ew w 6 == 0 && ew w 7 == 0))

/-- R324: may the LAG image be written to LAG `g`? -/
def lagOk (s : State) (g : Nat) (w : List Nat) : Bool :=
  if bitAt (ew w 0) 31 then
    let n := bits (ew w 0) 0 5
    (ew w 0 &&& 0x7FFFFFE0 == 0) && decide (1 ≤ n ∧ n ≤ 16) &&
      (lagMembersOf w).all (fun p => decide (p ≤ 71) &&
        (match lagOf s p with | some g' => g' == g | none => true)
          && (List.range 64).all (fun g' => g' == g || !(lagMembers s g').contains p))
  else true

/-- R476: may the stream gate image be written? -/
def gateOk (w : List Nat) : Bool :=
  let m := gateMode w
  let n := gateLines w
  reservedOk w 0 [0x0FFFFFC0, 0xFFFF0000, 0, 0xC0000000] && reservedOk w 8 (List.replicate 8 full)
    && decide (m ≠ 3) && decide (1 ≤ n ∧ n ≤ 32)
    && (if m = 1 then decide (1 ≤ ew w 4 ∧ ew w 4 ≤ 64) else if m = 2 then decide (1000 ≤ ew w 4 ∧ ew w 4 ≤ 1000000000) else true)
    && (List.range n).all (fun i => reservedOk w (16 + 2 * i) [0x03000000, 0xFF000000])

/-- May the image `w` be written to entry `i` of a table (BAD_ENTRY otherwise)? -/
def imageOk (s : State) (t h i : Nat) (w : List Nat) : Bool :=
  if t = tFdb then reservedOk w 0 [0, 0xF0000000, 0x70800000, full]
  else if t ≤ 8 then
    match partOf s h t with
    | none => false
    | some p =>
      let k := 1 + p.keyBytes / 4
      reservedOk w 0 [0x3FFFFFFF] && (if p.kind = 0 then actionOk w k else reservedOk w (k + 2) [0xFFFF0000, 0x7FFFF000])
  else if t = tTcam then
    actionOk w 40 && reservedOk w 48 [0xFFFFFFFC, full]
  else if t = tMeter then
    reservedOk w 0 [0x3FE00000, 0xFFE00000, 0xFF000000, 0xFF000000, 0xFE000000, 0xFE000000, 0, full]
  else if t = tTunnel then tunnelOk s w
  else if t = tStream then reservedOk w 0 [0x0003FFF0, 0, 0, 0, 0, full, full, full]
  else if t = tBd then reservedOk w 0 [0, 0, 0xFFFFFF00, 0x3FFFF000]
  else if t = tFlood then
    let n := bits (ew w 0) 0 7
    reservedOk w 0 [0xFFFFFF80] && decide (n ≤ 64) && reservedOk w 1 (List.replicate n 0xFFF00000)
  else if t = tLag then lagOk s i w
  else if t = tGate then gateOk w
  else reservedOk w 0 [0x3FE00000, 0xFF000000, 0xFC000000]

/-! ### Which writes the banks take (REFUSED) -/

/-- A wide TCAM entry that is VALID stands at index `i`. -/
def tcamWideAt (s : State) (h b i : Nat) : Bool := ew (entryAt s tTcam h b i) 48 % 4 == 3

/-- R310, R311. -/
def tcamWriteOk (s : State) (h b i : Nat) (w : List Nat) : Bool :=
  let st := fget s F.FRG_STATUS_STATE
  let wide := bitAt (ew w 48) 1
  let room := if i % 2 = 1 then !wide && !tcamWideAt s h b (i - 1) else wide || !tcamWideAt s h b i
  room && (b == bankOf s h || (decide (3 ≤ st ∧ st ≤ 5) && bankOf s h == s.frg.oldBank))

/-- R477. -/
def gateWriteOk (s : State) (b : Nat) : Bool :=
  let st := fget s F.FRG_STATUS_STATE
  (List.range 4).any (fun h => bankOf s h == b) || st == 3 || st == 4

/-- The bank of a table that a command names. -/
def bankFor (t : Nat) (bank : Bool) : Nat := if t = tTcam ∨ t = tGate then b2n bank else 0

/-! ### Reading and writing images -/

/-- The image of a stream gate as READ returns it (R476). -/
def gateImage (s : State) (g b : Nat) : List Nat :=
  let x := gateOf s g b
  let m := gateMode x.words
  match x.start with
  | none => fitN 80 (ewSet 5 0 x.words)
  | some st =>
    let y := startShown m st
    fitN 80 (ewSet 7 (baseSub m y) (ewSet 6 (baseLo m y)
      (ewSet 5 (2 ^ 31 + b2n x.late * 2 ^ 30 + baseHi m y) x.words)))
where
  fitN (n : Nat) (w : List Nat) : List Nat := (w ++ List.replicate n 0).take n

/-- The image that READ returns (R355; a wide TCAM entry gives 100 words, R282). -/
def readImage (s : State) (t h b i : Nat) : List Nat :=
  let cut := fun n w => ((w : List Nat) ++ List.replicate n 0).take n
  if t = tGate then gateImage s i b
  else if t = tFlood ∧ i = 0 then List.replicate 65 0
  else if t = tTcam ∧ i % 2 = 0 ∧ tcamWideAt s h b i then
    cut 50 (entryAt s t h b i) ++ cut 50 (entryAt s t h b (i + 1))
  else cut (imageWords s t h) (entryAt s t h b i)

/-- The level of a tunnel-group shaper after a write (R414, R415). -/
def groupWritten (s : State) (w : List Nat) : List Nat :=
  [ew w 0, ew w 1, if bitAt (ew w 0) 30 then ew w 1 else 0, s.clk % 2 ^ 32, 0]

/-- The host writes entry `i`: its poison ends (R709). -/
def hostEntry (t h i : Nat) (w : List Nat) (s : State) : State :=
  putEntry t h 0 i w { s with hlt := { s.hlt with
    poison := s.hlt.poison.filter (fun x => x.table != t || x.index != i || (perHearth t && x.hearth != h)) } }

/-- A stream gate is written into bank `b`: its start is resolved at the WRITE where a hearth runs the bank or its commit is
armed; otherwise the command that commits the bank is still to come (R465, R476; 4 is the loader's state ARMED). -/
def writeGate (i b : Nat) (w : List Nat) (s : State) : State :=
  let s := putGate i b (newGate (ewSet 7 0 (ewSet 6 0 (ewSet 5 0 w)))) s
  if bankRuns s b ∨ fget s F.FRG_STATUS_STATE = 4 then resolveGate i b s else s

/-- The words of one TCAM row as stored: a VALUE bit whose MASK bit is 0 is 0 (R281). -/
def maskedRow (w : List Nat) : List Nat := (List.range 20).map (fun k => ew w k &&& ew w (20 + k)) ++ w.drop 20

/-- Place an image in an entry, as a WRITE does and as the initial entries of a Forging are placed (R766). -/
def placeEntry (t h b i : Nat) (w : List Nat) (s : State) : State :=
  if t = tGate then writeGate i b w s
  else if t = tTcam then
    if bitAt (ew w 48) 1 then putEntry t h b (i + 1) (maskedRow ((w.drop 50).take 40)) (putEntry t h b i (maskedRow (w.take 50)) s)
    else putEntry t h b i (maskedRow (w.take 50)) s
  else if t = tMeter then hostEntry t h i (ewSet 9 0 (ewSet 8 0 (ewSet 6 (s.clk % 2 ^ 32) w))) s
  else if t = tGroup then hostEntry t 0 i (groupWritten s w) s
  else hostEntry t (if perHearth t then h else 0) i w s

/-! ### Commands (R353 to R358) -/

/-- TBL_DATA words of a context. -/
def dataWords (s : State) (c n : Nat) : List Nat := (List.range n).map (fun k => rget s (A.TBL_DATA c k))

/-- Write result words into TBL_DATA from word 0 on. -/
def putData (c : Nat) (w : List Nat) (s : State) : State :=
  w.zipIdx.foldl (fun s e => rput (A.TBL_DATA c e.2) e.1 s) s

/-- Core clocks that a FLUSH takes at most: 2 ms (R355). -/
def flushMost : Nat := 2 * clocksPerMs

/-- The arbiter takes the command of context `c`: its clock starts (R352). -/
def tblTake (c : Nat) (s : State) : State :=
  match s.tab.cmds.find? (fun e => e.1 == c) with
  | none => { s with tab := { s.tab with turn := none } }
  | some (_, x) =>
    { s with
      free := if x.op = 9 then s.free + 1 else s.free
      tab := { s.tab with
        turn := some c
        cmds := sins (sdel s.tab.cmds c) c { x with clk := s.clk, next := 0, span := (Config.flushSpan s.free).toNat % (flushMost + 1) } } }

/-- The contexts after `c` in ring order (R352). -/
def tblRing (c : Nat) : List Nat := [(c + 1) % 4, (c + 2) % 4, (c + 3) % 4, c]

/-- The arbiter goes on to the next context in ring order after `c` that has a command waiting (R352). -/
def tblNext (c : Nat) (s : State) : State :=
  match (tblRing c).find? (fun k => s.tab.cmds.any (fun e => e.1 == k)) with
  | some k => tblTake k s
  | none => { s with tab := { s.tab with turn := none } }

/-- A command is issued to context `c`: TBL_CMD is written (R353, R354, R173); an idle arbiter takes it. -/
def tblIssue (op t h : Nat) (bank : Bool) (c : Nat) (s : State) : State :=
  if fbit s (F.TBL_STATUS_BUSY c) then lockedWrite (A.TBL_CMD c) (fput (F.TBL_STATUS_OVERRUN c) 1 s)
  else
    let s := { fput (F.TBL_STATUS_OVERRUN c) 0 (fput (F.TBL_STATUS_BUSY c) 1 s) with
      tab := { s.tab with cmds := sins (sdel s.tab.cmds c) c { op := op, table := t, h := h, bank := bank, clk := 0, next := 0, span := 0 } } }
    if s.tab.turn.isNone then tblTake c s else s

/-- The command of context `c` ends with a result: RESULT, then BUSY and CMD_DONE (R353); the arbiter goes on (R352). -/
def tblFinish (c r : Nat) (s : State) : State :=
  tblNext c (setInt A.TBL_INT_STAT c (fput (F.TBL_STATUS_BUSY c) 0 (fput (F.TBL_STATUS_RESULT c) r
    { s with tab := { s.tab with cmds := sdel s.tab.cmds c } })))

/-- READ; one that meets a poisoned entry returns it and captures it (R709). -/
def tblDoRead (c t h b : Nat) (s : State) : Nat × State :=
  let i := fget s (F.TBL_INDEX_INDEX c)
  if tableSize s t h ≤ i then (resBadIndex, s)
  else
    let s := match poisonAt s t (if perHearth t then h else 15) i with
      | some w => eccCapture w s
      | none => s
    (resOk, putData c (readImage s t (if perHearth t then h else 0) b i) s)

/-- WRITE. -/
def tblDoWrite (c t h b : Nat) (s : State) : Nat × State :=
  let i := fget s (F.TBL_INDEX_INDEX c)
  let wide := t == tTcam && bitAt (rget s (A.TBL_DATA c 48)) 1
  let w := dataWords s c (if wide then 100 else imageWords s t h)
  if tableSize s t h ≤ i ∨ (t = tFlood ∧ i = 0) then (resBadIndex, s)
  else if (t = tTcam ∧ ¬ tcamWriteOk s h b i w) ∨ (t = tGate ∧ ¬ gateWriteOk s b) then (resRefused, s)
  else if ¬ imageOk s t h i w then (resBadEntry, s)
  else (resOk, placeEntry t h b i w s)

/-- The key that TBL_DATA of context `c` holds. -/
def dataKey (s : State) (c t h : Nat) : List Byte :=
  match hashSpec s h t with
  | some p => imageKey t p (dataWords s c (1 + p.keyWords))
  | none => []

/-- LOOKUP. -/
def tblDoLookup (c t h : Nat) (s : State) : Nat × State :=
  match findKey s h t (dataKey s c t h) with
  | none => (resNotFound, s)
  | some i => (resOk, fput (F.TBL_RESULT_INDEX_INDEX c) i (putData c (readImage s t h 0 i) s))

/-- UPDATE. -/
def tblDoUpdate (c t h : Nat) (s : State) : Nat × State :=
  let w := dataWords s c (imageWords s t h)
  if ¬ imageOk s t h 0 w then (resBadEntry, s)
  else
    match findKey s h t (dataKey s c t h) with
    | none => (resNotFound, s)
    | some i => (resOk, hostEntry t h i w s)

/-- Invalidate the entry at index `i` of a hashed table. -/
def invalidate (t h i : Nat) (s : State) : State :=
  let w := entryAt s t h 0 i
  let v := validWord t
  putEntry t h 0 i (ewSet v (setBits (ew w v) 31 1 0) w) s

/-- DELETE. -/
def tblDoDelete (c t h : Nat) (s : State) : Nat × State :=
  match findKey s h t (dataKey s c t h) with
  | none => (resNotFound, s)
  | some i => (resOk, invalidate t h i s)

/-- HIT_SCAN (R338). -/
def tblDoHitScan (c t h : Nat) (s : State) : Nat × State :=
  let i := fget s (F.TBL_INDEX_INDEX c)
  if tableSize s t h ≤ i ∨ i % 32 ≠ 0 then (resBadIndex, s)
  else
    let v := validWord t
    let hit := if t = tFdb then 25 else 30
    let word := fun k => ew (entryAt s t h 0 (i + k)) v
    let a := bitsNum ((List.range 32).map (fun k => bitAt (word k) hit))
    let b := if t = tFdb then bitsNum ((List.range 32).map (fun k => bitAt (word k) 26)) else 0
    let clear := fun (s : State) k =>
      let w := entryAt s t h 0 (i + k)
      let x := setBits (ew w v) hit 1 0
      putEntry t h 0 (i + k) (ewSet v (if t = tFdb then setBits x 26 1 0 else x) w) s
    (resOk, putData c [a, b] ((List.range 32).foldl clear s))

/-- AGE (R339). -/
def tblDoAge (c h : Nat) (s : State) : Nat × State :=
  let i := fget s (F.TBL_INDEX_INDEX c)
  let x := ew (entryAt s tFdb h 0 i) 2
  if tableSize s tFdb h ≤ i then (resBadIndex, s)
  else if ¬ bitAt x 31 then (resNotFound, s)
  else if bitAt x 24 then (resStatic, s)
  else if bitAt x 25 then (resHit, s)
  else (resOk, invalidate tFdb h i s)

/-- Does an FDB image match the criteria of a FLUSH (R356)? -/
def flushMatch (d0 d1 : Nat) (w : List Nat) : Bool :=
  bitAt (ew w 2) 31 && (!bitAt (ew w 2) 24 || bitAt d0 14) && (!bitAt d0 12 || bits (ew w 1) 16 12 == bits d0 0 12)
    && (!bitAt d0 13 || bits (ew w 2) 0 23 == bits d1 0 23)

/-- A read of TBL_NOTE_W3 of hearth `h` removes the record (R333). -/
def notePop (h : Nat) (s : State) : State :=
  let q := lget s.tab.notes h
  { s with hif := { s.hif with readData := [ew (q.headD []) 3] }, tab := { s.tab with notes := lput s.tab.notes h q.tail } }

/-- The word `k` of the oldest notification of hearth `h`, as TBL_NOTE_Wk shows it. -/
def noteWord (s : State) (h k : Nat) : Nat := ew ((lget s.tab.notes h).headD []) k

/-! ### Templates (R368, R369) -/

/-- R369: may the template image be written? -/
def templateOk (w : List Nat) : Bool :=
  reservedOk w 0 [0x3F00, 0, 0, 0, 0, 0, 0x00FF0000] && reservedOk w 15 [full] && decide (tmplKind w ≠ 3)
    && decide (bits (ew w 6) 24 8 ≤ (if tmplV6 w then 128 else 32))
    && (tmplV6 w || (List.range 3).all (fun i => ew w (7 + i) == 0 && ew w (11 + i) == 0))

/-- FRY_TMPL_CMD is written (R369). -/
def tmplIssue (op i : Nat) (s : State) : State :=
  if fbit s F.FRY_TMPL_STATUS_BUSY then lockedWrite A.FRY_TMPL_CMD (fput F.FRY_TMPL_STATUS_OVERRUN 1 s)
  else
    { fput F.FRY_TMPL_STATUS_OVERRUN 0 (fput F.FRY_TMPL_STATUS_BUSY 1 s) with fry := { s.fry with cmd := some (op, i) } }

/-- What a template command does and answers. -/
def tmplDo (op i : Nat) (s : State) : Nat × State :=
  if s.frg.active.isNone then (resWrongMode, s)
  else if op = 0 then (resOk, s)
  else if op = 3 then (resBadOpcode, s)
  else if op = 1 then
    let s := match poisonAt s tTemplate 15 i with
      | some w => eccCapture w s
      | none => s
    (resOk, (List.range 16).foldl (fun s k => rput (A.FRY_TMPL_DATA k) (ew (templateAt s i) k) s) s)
  else
    let w := (List.range 16).map (fun k => rget s (A.FRY_TMPL_DATA k))
    if templateOk w then
      (resOk, { s with hlt := { s.hlt with poison := s.hlt.poison.filter (fun x => x.table != tTemplate || x.index != i) }
                       fry := { s.fry with
        templates := sput (fun _ => []) s.fry.templates i (if w.all (· == 0) then [] else w) } })
    else (resBadEntry, s)

/-- A template command completes. -/
def tmplComplete (s : State) : State :=
  match s.fry.cmd with
  | none => s
  | some (op, i) =>
    let (r, s) := tmplDo op i { s with fry := { s.fry with cmd := none } }
    setInt A.FRY_INT_STAT 0 (fput F.FRY_TMPL_STATUS_BUSY 0 (fput F.FRY_TMPL_STATUS_RESULT r s))

end Machine
end Sys2Proof
end

