-- ==== Sys2Proof/Machine/Mover.lean ====
section
/-! DEFINITION. Machine/Mover.lean: the movers of the hashed tables, move by move (R329, R334 to R336), the FLUSH sweep (R356),
and the completion of table commands (R352 to R358). -/
namespace Sys2Proof
namespace Machine

/-! ### Insertions (R329) -/

def putJob (h t : Nat) (j : MoverJob) (s : State) : State :=
  { s with tab := { s.tab with
      moves := sins (sdel s.tab.moves (jobKey h t)) (jobKey h t) j
      moved := sins (sdel s.tab.moved (jobKey h t)) (jobKey h t) j.clk } }

def dropJob (h t : Nat) (s : State) : State := { s with tab := { s.tab with moves := sdel s.tab.moves (jobKey h t) } }

/-- The first core clock in which table `t` of hearth `h` may begin a move: 4 after its last (R329). -/
def moveFrom (s : State) (h t : Nat) : Nat :=
  match s.tab.moved.find? (fun e => e.1 == jobKey h t) with
  | some (_, c) => max s.clk (c + 4)
  | none => s.clk

/-- The insertion of job `j` finds way `i` free: its entry is written (R329). -/
def insertDone (h t i : Nat) (j : MoverJob) (s : State) : State :=
  match j.learn, j.ctx with
  | some l, _ => learnNew h i l s
  | none, some c =>
    tblFinish c resOk (fput (F.TBL_STATUS_MOVES c) j.count (fput (F.TBL_RESULT_INDEX_INDEX c) i (hostEntry t h i j.words s)))
  | none, none => s

/-- The insertion of job `j` finds no chain: LEARN_FAILED and a NO_ROOM notification, or the command's result (R329, R357). -/
def insertFails (h : Nat) (j : MoverJob) (s : State) : State :=
  match j.learn, j.ctx with
  | some l, _ => raise 0x0501 h l.bd 0 (setInt A.TBL_INT_STAT 8 (notify h 3 l (fdbCtr h 5 s)))
  | none, some c => tblFinish c resNoRoom (fput (F.TBL_STATUS_MOVES c) j.count s)
  | none, none => s

/-- The insertion of job `j` finds its key present: a learned one is dropped (R329, step 1). -/
def insertPresent (j : MoverJob) (s : State) : State :=
  match j.ctx with
  | some c => tblFinish c resExists (fput (F.TBL_STATUS_MOVES c) j.count s)
  | none => s

/-- The mover works an insertion (R329): its entry goes into a free way of b0 or b1, or a chain of moves that frees one begins. -/
def insertBegin (h t : Nat) (j : MoverJob) (s : State) : State :=
  if (findKey s h t j.key).isSome then insertPresent j s
  else
    match hashSpec s h t with
    | none => insertFails h j s
    | some p =>
      let (b0, b1) := candidates p j.key
      match (waysOf b0 ++ waysOf b1).find? (fun i => !imageValid t (entryAt s t h 0 i)) with
      | some i => insertDone h t i j s
      | none =>
        let rot := Config.moverWay s.free
        let s := { s with free := s.free + 1 }
        match findChain s h t p rot (maxMoves s) [(b0, []), (b1, [])] [b0, b1] with
        | none => insertFails h j s
        | some (f, path) => putJob h t { j with path := path, dest := f, clk := moveFrom s h t, step := 0 } s

/-- A learned insertion as the mover takes it. -/
def learnJob (l : Learn) : MoverJob :=
  { learn := some l, ctx := none, words := [], key := fdbKey l.bd l.mac, path := [], dest := 0, count := 0, clk := 0, step := 0 }

/-- The mover takes its oldest pending insertion, when it makes no other (R329). Only an FDB has any. -/
def moverStep (h t : Nat) (s : State) : State :=
  match lget s.tab.mover h with
  | [] => s
  | l :: rest =>
    if t ≠ tFdb ∨ (jobOf s h t).isSome then s
    else insertBegin h tFdb (learnJob l) { s with tab := { s.tab with mover := lput s.tab.mover h rest } }

/-! ### Moves (R334) -/

/-- The hit bits of an entry's word. -/
def hitMask (t : Nat) : Nat := if t = tFdb then 2 ^ 25 + 2 ^ 26 else 2 ^ 30

/-- The move that comes next still frees a way: its entry stands, its other bucket is that of the free way, and that way is free. -/
def moveStands (s : State) (h t : Nat) (j : MoverJob) (i : Nat) : Bool :=
  match hashSpec s h t with
  | some p => imageValid t (entryAt s t h 0 i) && !imageValid t (entryAt s t h 0 j.dest) && otherBucket s h t p i == j.dest / 4
  | none => false

/-- The next step of the move in progress (R334): the entry is written whole into the free way; the old way is invalidated and
its hit bits are ORed into the new copy; the chain goes on, or its insertion is written. A chain that a write has meanwhile
broken is looked for again. -/
def moveNext (h t : Nat) (s : State) : State :=
  match jobOf s h t with
  | none => s
  | some j =>
    match j.path with
    | [] => insertBegin h t j (dropJob h t s)
    | i :: rest =>
      if j.step = 0 then
        if moveStands s h t j i then putJob h t { j with step := 1 } (putEntry t h 0 j.dest (entryAt s t h 0 i) s)
        else insertBegin h t j (dropJob h t s)
      else if j.step = 1 then
        let v := validWord t
        let w := entryAt s t h 0 i
        let n := entryAt s t h 0 j.dest
        putJob h t { j with step := 2 } (putEntry t h 0 j.dest (ewSet v (ew n v ||| (ew w v &&& hitMask t)) n)
          (putEntry t h 0 i (ewSet v (setBits (ew w v) 31 1 0) w) s))
      else
        match rest with
        | [] => insertDone h t i { j with count := j.count + 1 } (dropJob h t s)
        | _ => putJob h t { j with path := rest, dest := i, count := j.count + 1, clk := j.clk + 4, step := 0 } s

/-- The place of the next step of a move among what the core clocks bring: step 2 of R334 before the writes of its clock, steps 3
and 4 after the learning writes of theirs (R335) and before the reads. -/
def movePlace (j : MoverJob) : Nat := 16 * (j.clk + 1 + j.step) + (if j.step = 0 then 0 else 5)

/-- A move in progress is completed at once; with `all`, its whole chain is. -/
def moveToEnd (h t : Nat) (all : Bool) : Nat → State → State
  | 0, s => s
  | n + 1, s =>
    match jobOf s h t with
    | some j => if ¬ all ∧ j.step = 2 then s else moveToEnd h t all n (moveNext h t s)
    | none => s

/-! ### FLUSH (R356) -/

/-- The core clock in which a FLUSH comes to entry `i`: it sweeps the table in ascending order at an even pace, which is free (DESIGN
CHOICE, log entry 82). -/
def flushClk (x : TblCmd) (i : Nat) : Nat := x.clk + x.span * i / 262144

/-- The entries that the FLUSH of context `c` has still to invalidate, as the table stands. -/
def flushLeft (c : Nat) (x : TblCmd) (s : State) : List Nat :=
  let d0 := rget s (A.TBL_DATA c 0)
  let d1 := rget s (A.TBL_DATA c 1)
  let base := entryKey tFdb x.h 0 0
  (s.tab.mem.filter (fun e => decide (base + x.next ≤ e.1 ∧ e.1 < base + 262144 ∧ s.clk ≤ flushClk x (e.1 - base)) && flushMatch d0 d1 e.2)).map
    (fun e => e.1 - base)

/-- The command that the arbiter runs, when it is a FLUSH that sweeps. -/
def flushRuns (s : State) : Option (Nat × TblCmd) :=
  match s.tab.turn with
  | some c => (s.tab.cmds.find? (fun e => e.1 == c)).bind (fun e => if e.2.op = 9 ∧ e.2.table = tFdb ∧ s.frg.active.isSome then some e else none)
  | none => none

/-- The place of the next entry that a FLUSH invalidates. -/
def flushPlace (s : State) : Option Nat :=
  (flushRuns s).bind (fun e => ((flushLeft e.1 e.2 s).head?).map (fun i => 16 * flushClk e.2 i + 5))

/-- The FLUSH comes to its next entry. -/
def flushNext (s : State) : State :=
  match flushRuns s with
  | none => s
  | some (c, x) =>
    match flushLeft c x s with
    | [] => s
    | i :: _ =>
      invalidate tFdb x.h i { s with tab := { s.tab with cmds := sins (sdel s.tab.cmds c) c { x with next := i + 1 } } }

/-- A FLUSH completes: what it has not come to is invalidated now. -/
def tblDoFlush (c : Nat) (x : TblCmd) (s : State) : Nat × State :=
  (resOk, (flushLeft c x s).foldl (fun s i => invalidate tFdb x.h i s) s)

/-! ### Completion (R352 to R358) -/

/-- INSERT: through the mover, ahead of its pending insertions (R329). -/
def tblDoInsert (c t h : Nat) (s : State) : State :=
  let w := dataWords s c (imageWords s t h)
  if ¬ imageOk s t h 0 w then tblFinish c resBadEntry s
  else
    insertBegin h t { learn := none, ctx := some c, words := w, key := dataKey s c t h, path := [], dest := 0, count := 0, clk := 0, step := 0 } s

/-- What a command does and answers (R355, R357, R768); INSERT has its own way. -/
def tblDo (c op t h : Nat) (bank : Bool) (x : TblCmd) (s : State) : Nat × State :=
  if op = 0 then (resOk, s)
  else if 9 < op then (resBadOpcode, s)
  else if s.frg.active.isNone then (resWrongMode, s)
  else if ¬ tableOk s t h then (resBadTable, s)
  else if ¬ opcodeOk op t then (resBadOpcode, s)
  else if op = 1 then tblDoRead c t h (bankFor t bank) s
  else if op = 2 then tblDoWrite c t h (bankFor t bank) s
  else if op = 3 then tblDoLookup c t h s
  else if op = 5 then tblDoUpdate c t h s
  else if op = 6 then tblDoDelete c t h s
  else if op = 7 then tblDoHitScan c t h s
  else if op = 8 then tblDoAge c h s
  else tblDoFlush c x s

/-- The buckets of a hashed table that a command addresses (R336). -/
def tblBuckets (s : State) (c : Nat) (x : TblCmd) : List Nat :=
  let b := fget s (F.TBL_INDEX_INDEX c) / 4
  if x.op = 1 ∨ x.op = 2 ∨ x.op = 8 then [b]
  else if x.op = 7 then (List.range 8).map (b + ·)
  else
    match hashSpec s x.h x.table with
    | some p => let (b0, b1) := candidates p (dataKey s c x.table x.h); [b0, b1]
    | none => []

/-- The command waits: it addresses a locked bucket, or, an INSERT, the mover makes another insertion (R329, R336). -/
def tblWaits (s : State) (c : Nat) (x : TblCmd) : Bool :=
  let locked := lockedBuckets s x.h x.table
  decide (x.table ≤ 8) && (jobOf s x.h x.table).isSome
    && (x.op == 4 || (x.op == 9 && locked != []) || (tblBuckets s c x).any (fun b => locked.contains b))

/-- The command that the arbiter runs completes (R352, R353); an INSERT that needs moves completes with its last (log entry 82). -/
def tblComplete (c : Nat) (s : State) : State :=
  match s.tab.cmds.find? (fun e => e.1 == c) with
  | none => s
  | some (_, x) =>
    if s.tab.turn ≠ some c ∨ tblWaits s c x then s
    else
      let s := if x.op = 4 then fput (F.TBL_STATUS_MOVES c) 0 s else s
      if x.op = 4 ∧ s.frg.active.isSome ∧ tableOk s x.table x.h ∧ opcodeOk 4 x.table then tblDoInsert c x.table x.h s
      else
        let (r, s) := tblDo c x.op x.table x.h x.bank x s
        tblFinish c r s

end Machine
end Sys2Proof
end

