-- ==== Sys2Proof/Machine/Parser.lean ====
section
/-! DEFINITION. Machine/Parser.lean: the parser walk, fragments, keys and the TCAM match of chapter 06 (R248 to R287), as
functions of a frame's bytes and of the structure the Forging gives. -/
namespace Sys2Proof
namespace Machine

/-! ### Header classes (R255) and exception flags (R261) -/

def clsGeneric : Nat := 0
def clsEth : Nat := 1
def clsVlan : Nat := 2
def clsRtag : Nat := 3
def clsIpv4 : Nat := 5
def clsIpv6 : Nat := 6
def clsIpv6Ext : Nat := 7
def clsIpv6Frag : Nat := 8
def clsUdp : Nat := 9
def clsTcp : Nat := 10
def clsGtpu : Nat := 13
def clsGtpuExt : Nat := 14
def clsVxlan : Nat := 15
def clsGre : Nat := 16
def clsPtp : Nat := 17
def clsKixon : Nat := 18

def excDepth : Nat := 0
def excLen : Nat := 1
def excFrag : Nat := 2
def excFragNoHdr : Nat := 3
def excCsum : Nat := 4
def excUnknownNext : Nat := 5

/-- Byte `i` of the frame as a parser reads it: 0 at or beyond the initial bound and beyond the window (R249, R253). -/
def winByte (f : List Byte) (bound0 i : Nat) : Nat :=
  if i < bound0 ∧ i < 256 then (f.getD i 0).toNat else 0

/-- `n` window bytes from `o`, most significant first. -/
def winBe (f : List Byte) (bound0 o n : Nat) : Nat :=
  (List.range n).foldl (fun a i => a * 256 + winByte f bound0 (o + i)) 0

/-- `w` bits from bit offset `b` of the header at `o`, counted from the most significant bit of its byte 0 (R250). -/
def winBits (f : List Byte) (bound0 o b w : Nat) : Nat :=
  bits (winBe f bound0 (o + b / 8) 3) (24 - b % 8 - w) w

/-- A state record's fields (R250). -/
def srClass (r : Nat) : Nat := bits r 250 6
def srLenMode (r : Nat) : Nat := bits r 248 2
def srLenBase (r : Nat) : Nat := bits r 240 8
def srLenOff (r : Nat) : Nat := bits r 229 11
def srLenWidth (r : Nat) : Nat := bits r 225 4 + 1
def srLenShift (r : Nat) : Nat := bits r 223 2
def srSelOff (r : Nat) : Nat := bits r 212 11
def srSelWidth (r : Nat) : Nat := bits r 208 4 + 1
def srTrans (r i : Nat) : Nat := bits r (168 - 40 * i) 40
def srDefault (r : Nat) : Nat := bits r 40 8
def srExt (r i : Nat) : Nat := bits r (20 - 20 * i) 20

/-- The CLASS length of a header (R255), given how its bytes read. -/
def classLength (rd : Nat → Nat) (c : Nat) : Nat :=
  if c = 1 then 14 else if c = 2 then 4 else if c = 3 then 6 else if c = 4 then 28
  else if c = 5 then 4 * (rd 0 % 16)
  else if c = 6 then 40
  else if c = 7 then 8 * (rd 1 + 1)
  else if c = 8 then 8 else if c = 9 then 8
  else if c = 10 then 4 * (rd 12 / 16)
  else if c = 11 then 8 else if c = 12 then 8
  else if c = 13 then (if rd 0 % 8 ≠ 0 then 12 else 8)
  else if c = 14 then 4 * rd 0
  else if c = 15 then 8
  else if c = 16 then 4 + 4 * (bits (rd 0) 7 1 + bits (rd 0) 5 1 + bits (rd 0) 4 1)
  else if c = 17 then 34
  else 0

/-- The length of the header of record `r` at `o` (R252). LEN_MODE 3 is reserved and fails the consistency check. -/
def headerLength (f : List Byte) (bound0 r o : Nat) : Nat :=
  if srLenMode r = 0 then srLenBase r
  else if srLenMode r = 1 then
    srLenBase r + (winBits f bound0 o (srLenOff r) (srLenWidth r)) * 2 ^ srLenShift r
  else classLength (fun i => winByte f bound0 (o + i)) (srClass r)

/-- The select field of record `r` at `o`, `len` being the header's length (R251). -/
def selectField (f : List Byte) (bound0 r o len : Nat) : Nat :=
  if srSelOff r ≠ 0x7FF then winBits f bound0 o (srSelOff r) (srSelWidth r)
  else if srClass r = clsGtpu then
    (if bits (winByte f bound0 o) 2 1 = 1 then winByte f bound0 (o + 11) else 0)
  else winByte f bound0 (o + len - 1)

/-- A transition that a used record entry takes on select value `v`: its NEXT, when it matches (R251). -/
def transMatch (t v : Nat) : Option Nat :=
  if t % 256 = 0xFF then none
  else if (v &&& bits t 8 16) = bits t 24 16 then some (t % 256) else none

/-- The next state on select value `v`, and whether UNKNOWN_NEXT is set (R251, R261). -/
def nextState (r v : Nat) : Nat × Bool :=
  let ts := (List.range 4).map (fun i => srTrans r i)
  match ts.findSome? (fun t => transMatch t v) with
  | some n => (n, false)
  | none => (srDefault r, ts.any (fun t => t % 256 ≠ 0xFF) && srDefault r == 0x80)

/-- Is the IPv4 header at `o` a fragment (R266)? -/
def ipv4IsFrag (f : List Byte) (bound0 o : Nat) : Bool :=
  decide (bits (winBe f bound0 (o + 6) 2) 0 14 ≠ 0)

/-- Bytes between the end of a datagram and the bound that R260 lets be padding. -/
def isPadding (stack : List (Nat × Nat)) (o d bound : Nat) : Bool :=
  match stack.getLast? with
  | some (c, _) => (c == 1 || c == 2 || c == 3) && decide (d < 46) && decide (bound - (o + d) ≤ 46 - d)
  | none => false

/-- The checks of R259 on a header of class `c` and length `len` at `o`: `none` is a conflict, else the new bound. -/
def lengthCheck (f : List Byte) (bound0 : Nat) (stack : List (Nat × Nat)) (underFrag : Bool)
    (c o len bound : Nat) : Option Nat :=
  let rd := fun i => winByte f bound0 (o + i)
  let be2 := fun i => winBe f bound0 (o + i) 2
  if bound < o + len then none
  else if c = clsIpv4 then
    let t := be2 2
    if rd 0 % 16 < 5 ∨ t < 4 * (rd 0 % 16) then none
    else if underFrag then some bound
    else if bound < o + t then none
    else if o + t < bound ∧ ¬ isPadding stack o t bound then none
    else some (o + t)
  else if c = clsIpv6 then
    let p := be2 4
    if p = 0 then none
    else if underFrag then some bound
    else if bound < o + 40 + p then none
    else if o + 40 + p < bound ∧ ¬ isPadding stack o (40 + p) bound then none
    else some (o + 40 + p)
  else if c = clsUdp ∧ ¬ underFrag then
    let u := be2 4
    if u < 8 ∨ o + u ≠ bound then none else some (o + u)
  else if c = clsGtpu ∧ ¬ underFrag then
    if o + 8 + be2 2 ≠ bound then none else some bound
  else if c = clsGtpuExt then
    if rd 0 = 0 then none else some bound
  else if c = clsTcp then
    if rd 12 / 16 < 5 then none else some bound
  else some bound

/-- Does the IPv4 header at `o` fail its checksum (R261)? -/
def ipv4CsumBad (f : List Byte) (bound0 o len : Nat) : Bool :=
  fold16 (sum16 ((List.range len).map (fun i => BitVec.ofNat 8 (winByte f bound0 (o + i))))) != 0xFFFF

/-- Copy `len` header bytes into the field vector (R256). -/
def extractTo (f : List Byte) (bound0 o e : Nat) (fv : List Byte) : List Byte :=
  patch fv (4 * (e % 64))
    ((List.range (bits e 6 6)).map (fun i => BitVec.ofNat 8 (winByte f bound0 (o + bits e 12 8 + i))))

/-- The fragment key of an IPv4 fragment at `o` (R268). -/
def fragKey4 (f : List Byte) (bound0 o : Nat) : List Byte :=
  let w := fun i n => (List.range n).map (fun k => BitVec.ofNat 8 (winByte f bound0 (o + i + k)))
  [4] ++ List.replicate 12 0 ++ w 12 4 ++ List.replicate 12 0 ++ w 16 4 ++ w 9 1 ++ [0, 0] ++ w 4 2

/-- The fragment key of an IPv6 fragment: IPv6 header at `o6`, IPV6_FRAG header at `o` (R268). -/
def fragKey6 (f : List Byte) (bound0 o6 o : Nat) : List Byte :=
  let w := fun b i n => (List.range n).map (fun k => BitVec.ofNat 8 (winByte f bound0 (b + i + k)))
  [6] ++ w o6 8 16 ++ w o6 24 16 ++ w o 0 1 ++ w o 4 4

/-- The last IPv6 header of the stack. -/
def lastV6 (stack : List (Nat × Nat)) : Nat :=
  match (stack.filter (fun e => e.1 == clsIpv6)).getLast? with
  | some (_, o) => o
  | none => 0

/-- What one accepted header adds to the fragment state (R266, R267): only the first fragmented IP header is acted on. -/
def fragStep (f : List Byte) (bound0 : Nat) (stack : List (Nat × Nat)) (c o : Nat) (old : Option FragInfo) :
    Option FragInfo :=
  match old with
  | some i => some i
  | none =>
    if c = clsIpv4 ∧ ipv4IsFrag f bound0 o then
      some { key := fragKey4 f bound0 o, later := decide (bits (winBe f bound0 (o + 6) 2) 0 13 ≠ 0) }
    else if c = clsIpv6Frag then
      some { key := fragKey6 f bound0 (lastV6 stack) o
             later := decide (bits (winBe f bound0 (o + 2) 2) 3 13 ≠ 0) }
    else none

/-- Set bit `b` of an exception word. -/
def excSet (e b : Nat) : Nat := e ||| 2 ^ b

/-- The walk of the parser graph (R254 to R261). `fuel` counts the visits still allowed: 32 at the start (R258). -/
def parseWalk (graph : List Nat) (f : List Byte) (bound0 : Nat) :
    Nat → Nat → Nat → Bool → Parse → Parse
  | 0, _, off, _, p => { p with exc := excSet p.exc excDepth, stopOff := off }
  | fuel + 1, st, off, under, p =>
    let r := graph.getD st 0
    let len := headerLength f bound0 r off
    let c := srClass r
    let branch := c == clsGeneric && len == 0
    let p := { p with endState := st }
    if branch = false ∧ p.stack.length = 16 then { p with exc := excSet p.exc excDepth, stopOff := off }
    else if 256 < off + len then { p with exc := excSet p.exc excDepth, stopOff := off }
    else
      match lengthCheck f bound0 p.stack under c off len p.bound with
      | none => { p with exc := excSet p.exc excLen, stopOff := off }
      | some nb =>
        let exc := if c = clsIpv4 ∧ ipv4CsumBad f bound0 off len then excSet p.exc excCsum else p.exc
        let stack := if branch then p.stack else p.stack ++ [(c, off)]
        let fv := extractTo f bound0 off (srExt r 1) (extractTo f bound0 off (srExt r 0) p.fv)
        let frag := fragStep f bound0 p.stack c off p.frag
        let fresh := p.frag.isNone && frag.isSome
        let exc := if fresh then excSet exc excFrag else exc
        let under' := under || (c == clsIpv4 && ipv4IsFrag f bound0 off) || c == clsIpv6Frag
        let p := { p with exc := exc, stack := stack, fv := fv, frag := frag, bound := nb, stopOff := off + len }
        if fresh ∧ (frag.map (fun i => i.later)).getD false then p
        else
          let (n, unk) := nextState r (selectField f bound0 r off len)
          let p := if unk then { p with exc := excSet p.exc excUnknownNext } else p
          if n = 0x80 then p else parseWalk graph f bound0 fuel n (off + len) under' p

/-- Parse a pass: from `start`, with the bound of R249. -/
def parseFrame (hs : HearthStruct) (f : List Byte) (bound0 start : Nat) : Parse :=
  parseWalk hs.graph f bound0 32 start 0 false
    { exc := 0, stack := [], fv := List.replicate 256 0, endState := start, stopOff := 0, bound := bound0, frag := none }

/-- HDR_SEEN (R257). -/
def hdrSeen (p : Parse) : Nat :=
  p.stack.foldl (fun a e => if e.1 < 32 then a ||| 2 ^ e.1 else a) 0

/-- First header of a class in the stack: its offset. -/
def firstHdr (p : Parse) (c : Nat) : Option Nat := (p.stack.find? (fun e => e.1 == c)).map Prod.snd

/-- Last header of a class in the stack: its offset. -/
def lastHdr (p : Parse) (c : Nat) : Option Nat := ((p.stack.filter (fun e => e.1 == c)).getLast?).map Prod.snd

/-! ### Keys (R274 to R278) -/

/-- What a pass brings besides its bytes (R274, R302). -/
structure PassMeta where
  srcPort : Nat
  pass : Nat
  tunValid : Bool
  tunIdx : Nat
  portClass : Nat
  carry : Nat
  hostChan : Nat
deriving DecidableEq, Repr

/-- The 128 bits of metadata (R274). -/
def metaWord (m : PassMeta) (p : Parse) (layout : Nat) : Nat :=
  let z := setBits 0 121 7 m.srcPort
  let z := setBits z 120 1 m.pass
  let z := setBits z 112 8 p.exc
  let z := setBits z 107 5 p.stack.length
  let z := setBits z 100 7 p.endState
  let z := setBits z 99 1 (b2n m.tunValid)
  let z := setBits z 79 20 m.tunIdx
  let z := setBits z 63 16 m.portClass
  let z := setBits z 47 16 m.carry
  let z := setBits z 40 7 m.hostChan
  let z := setBits z 8 32 (hdrSeen p)
  setBits z 5 3 layout

/-- The byte a selector places in a key (R275). -/
def selByte (fv : List Byte) (md sel : Nat) : Byte :=
  if sel < 0x100 then fv.getD sel 0
  else if sel < 0x110 then BitVec.ofNat 8 (bits md (120 - 8 * (sel - 0x100)) 8)
  else 0

/-- The bytes that a key layout selects. -/
def keyBytes (layout : List Nat) (fv : List Byte) (md : Nat) : List Byte := layout.map (selByte fv md)

/-- The TCAM key: metadata above the selected bytes (R277). -/
def tcamKey (layout : List Nat) (fv : List Byte) (md : Nat) : Nat :=
  md * 2 ^ (8 * layout.length) + ofBe (keyBytes layout fv md)

/-! ### The TCAM (R280 to R284) -/

/-- Does a 640-bit entry half match 640 key bits (R281)? -/
def halfMatch (e : TcamEntry) (key : Nat) : Bool := (key ^^^ e.value) &&& e.mask == 0

/-- The lowest-index match among one bank's entries, listed by rising index (R282, R283). -/
def tcamSearch (wide : Bool) (key : Nat) (all : List (Nat × TcamEntry)) : List (Nat × TcamEntry) → Option (Nat × TcamEntry)
  | [] => none
  | (i, e) :: t =>
    if e.valid && (e.wide == wide) &&
        (if wide then
          (i % 2 == 0) && halfMatch e (key / 2 ^ 640) &&
            (match all.find? (fun x => x.1 == i + 1) with
             | some (_, e2) => halfMatch e2 (key % 2 ^ 640)
             | none => true)
         else halfMatch e key)
    then some (i, e) else tcamSearch wide key all t

/-! ### The action word (R286, R287) -/

/-- The fields of an action word (R286). -/
def actOf (w : Nat) : Act :=
  { profile := bits w 241 6, excOk := bitAt w 240, fwdKind := bits w 237 3, dest := bits w 217 20
    decap := bitAt w 216, recirc := bitAt w 215, carry := bits w 199 16, queue := bits w 195 4, pcp := bits w 192 3
    pcpEn := bitAt w 191, meterEn := bitAt w 190, meter := bits w 175 15, mirrorEn := bitAt w 174
    mirrorSession := bits w 171 3, streamEn := bitAt w 170, stream := bits w 154 16, hostQueue := bits w 148 6
    reason := bits w 143 5, vlanOp := bits w 141 2, vid := bits w 129 12, mgmt := bitAt w 128, learnDis := bitAt w 127
    ptpTc := bitAt w 126, hostCopy := bitAt w 125 }

/-- Copy the groups that a result word sets, each whole (R286, R287). -/
def mergeAct (d : Act) (w : Nat) : Act :=
  let r := actOf w
  let g := fun i => bitAt w (247 + i)
  let d := if g 0 then { d with fwdKind := r.fwdKind, dest := r.dest, decap := r.decap, recirc := r.recirc, carry := r.carry } else d
  let d := if g 1 then { d with queue := r.queue, pcp := r.pcp, pcpEn := r.pcpEn } else d
  let d := if g 2 then { d with meterEn := r.meterEn, meter := r.meter } else d
  let d := if g 3 then { d with mirrorEn := r.mirrorEn, mirrorSession := r.mirrorSession } else d
  let d := if g 4 then { d with streamEn := r.streamEn, stream := r.stream } else d
  let d := if g 5 then { d with hostQueue := r.hostQueue, reason := r.reason, hostCopy := r.hostCopy } else d
  let d := if g 6 then { d with vlanOp := r.vlanOp, vid := r.vid } else d
  if g 7 then { d with mgmt := r.mgmt, learnDis := r.learnDis, ptpTc := r.ptpTc } else d

/-- The exact-match lookups a profile enables, in order: (lookup, table) (R279, R287). -/
def profileLookups (p : Nat) : List Nat :=
  ((List.range 4).filter (fun i => bitAt p (28 + i))).map (fun i => bits p (25 - 3 * i) 3)

def profFdbEn (p : Nat) : Bool := bitAt p 15
def profFdbInner (p : Nat) : Bool := bitAt p 14
def profLearnEn (p : Nat) : Bool := bitAt p 13
def profFerryEn (p : Nat) : Bool := bitAt p 12

/-- The admission class of a host-bound reason (R148, R286). -/
def reasonClass (reason : Nat) : Nat :=
  if reason = 1 then 0 else if reason = 2 then 1 else if reason = 3 then 3
  else if 0x10 ≤ reason ∧ reason ≤ 0x17 then 2 else 4

end Machine
end Sys2Proof
end

