-- ==== Sys2Proof/Machine/Ferry.lean ====
section
/-! DEFINITION. Machine/Ferry.lean: the Ferry's checks on a tunnelled frame (R371 to R380) and the encapsulation of a copy
(R383 to R386). -/
namespace Sys2Proof
namespace Machine

/-! ### Identifiers (R362 to R364) -/

/-- The check nibble of a TEID or GRE key (R363). -/
def checkNibble (key id : Nat) : Nat := (List.range 7).foldl (fun c i => c ^^^ bits id (4 + 4 * i) 4) key

/-- Tunnel index and generation of an identifier; kind 1 is VXLAN (R362). -/
def idIndex (kind id : Nat) : Nat := if kind = 1 then bits id 4 20 else bits id 12 20
def idGen (kind id : Nat) : Nat := if kind = 1 then bits id 0 4 else bits id 4 8

/-- R364. -/
def genMatches (kind id gen : Nat) : Bool := if kind = 1 then idGen 1 id == gen % 16 else idGen kind id == gen

/-- The address of version `v6` that four words hold from word `k` of `w` on (R367). -/
def wordsAddr (v6 : Bool) (w : List Nat) (k : Nat) : Nat :=
  if v6 then ((ew w k * 2 ^ 32 + ew w (k + 1)) * 2 ^ 32 + ew w (k + 2)) * 2 ^ 32 + ew w (k + 3) else ew w (k + 3)

/-- Is an address one of the valid local addresses of its version (R370)? -/
def isLocalAddr (s : State) (v6 : Bool) (a : Nat) : Bool :=
  (List.range 16).any (fun n =>
    bitAt (fget s F.FRY_LOCAL_VALID_VALID) n && bitAt (fget s F.FRY_LOCAL_V6_V6) n == v6
      && wordsAddr v6 ((List.range 4).map (fun w => rget s (A.FRY_LOCAL_ADDR n w))) 0 == a)

/-- Is an address within a template's prefix (R378)? -/
def inPrefix (t : List Nat) (a : Nat) : Bool :=
  let n := if tmplV6 t then 128 else 32
  let k := n - min n (bits (ew t 6) 24 8)
  a / 2 ^ k == wordsAddr (tmplV6 t) t 11 / 2 ^ k

/-! ### Entry fields (R366) -/

def tunValid (w : List Nat) : Bool := bitAt (ew w 0) 31
def tunDecap (w : List Nat) : Bool := bitAt (ew w 0) 30
def tunEncap (w : List Nat) : Bool := bitAt (ew w 0) 29
def tunPolicy (w : List Nat) : Nat := bits (ew w 0) 27 2
def tunPayload (w : List Nat) : Nat := bits (ew w 0) 25 2
def tunGen (w : List Nat) : Nat := bits (ew w 0) 17 8
def tunTemplate (w : List Nat) : Nat := bits (ew w 0) 8 9
def tunPort (w : List Nat) : Nat := bits (ew w 0) 0 7
def tunGroup (w : List Nat) : Nat := bits (ew w 1) 16 16
def tunMtu (w : List Nat) : Nat := bits (ew w 1) 0 14
def tunBd (w : List Nat) : Nat := bits (ew w 2) 20 12

def tunnelAt (s : State) (i : Nat) : List Nat := entryAt s tTunnel 0 0 i

/-! ### The checks (R371 to R373) -/

/-- What the checks look at: kind (3: a fragmented IP header), offset of the tunnel header, of the outer IP header, and
its version. -/
structure Candidate where
  kind : Nat
  off : Nat
  ip : Nat
  v6 : Bool
deriving DecidableEq, Repr

/-- The kind of a tunnel header class (R360). -/
def tunnelKind (c : Nat) : Option Nat :=
  if c = clsGtpu then some 0 else if c = clsVxlan then some 1 else if c = clsGre then some 2 else none

/-- The headers before the first tunnel header, and that header. -/
def splitTunnel : List (Nat × Nat) → List (Nat × Nat) → Option (List (Nat × Nat) × Nat × Nat)
  | [], _ => none
  | (c, o) :: t, seen =>
    match tunnelKind c with
    | some k => some (seen, k, o)
    | none => splitTunnel t (seen ++ [(c, o)])

/-- A protocol or next header that may carry a tunnel: UDP or GRE. -/
def tunnelProto (p : Nat) : Bool := p == 17 || p == 47

/-- The first fragmented IP header whose protocol, or next header, is 17 or 47 (R266, R371): offset and version. -/
def fragHeader (f : List Byte) (n : Nat) : List (Nat × Nat) → Option (Nat × Bool)
  | [] => none
  | (c, o) :: t =>
    if c = clsIpv4 ∧ ipv4IsFrag f n o ∧ tunnelProto (beAt f (o + 9) 1) then some (o, false)
    else if c = clsIpv6 ∧ (t.takeWhile (fun e => e.1 == clsIpv6Ext || e.1 == clsIpv6Frag)).any
        (fun e => e.1 == clsIpv6Frag && tunnelProto (beAt f e.2 1))
    then some (o, true)
    else fragHeader f n t

/-- The IP header directly before a tunnel header: before the UDP header that carries it, where there is one, and before the
extension headers of an IPv6 header (R371; log entry 85). The headers before the tunnel header come innermost first. -/
def ipBefore (kind : Nat) (rev : List (Nat × Nat)) : Option (Nat × Nat) :=
  let l := match kind, rev with
    | 2, l => l
    | _, (c, o) :: t => if c = clsUdp then t else (c, o) :: t
    | _, [] => []
  let ext := l.takeWhile (fun e => e.1 == clsIpv6Ext || e.1 == clsIpv6Frag)
  match l.drop ext.length with
  | (c, o) :: _ => if c = clsIpv6 ∨ (c = clsIpv4 ∧ ext = []) then some (c, o) else none
  | [] => none

/-- The tunnel candidate of a pass (R371). -/
def candidate (f : List Byte) (n : Nat) (p : Parse) : Option Candidate :=
  match splitTunnel p.stack [] with
  | some (before, k, o) =>
    match ipBefore k before.reverse with
    | some (c, ip) => some { kind := k, off := o, ip := ip, v6 := c == clsIpv6 }
    | none => none
  | none =>
    if ¬ bitAt p.exc excFrag then none
    else (fragHeader f n p.stack).map (fun e => { kind := 3, off := 0, ip := e.1, v6 := e.2 })

/-- Does the tunnel header meet the receipt column of R361? -/
def tunnelHeaderOk (f : List Byte) (kind o : Nat) : Bool :=
  if kind = 0 then bits (beAt f o 1) 4 4 == 3
  else if kind = 1 then bitAt (beAt f o 1) 3
  else let w := beAt f o 2; bitAt w 13 && (w &&& 0x4FFF == 0)

/-- The local identifier of a frame. -/
def tunnelId (f : List Byte) (kind o : Nat) : Nat :=
  if kind = 0 then beAt f (o + 4) 4
  else if kind = 1 then beAt f (o + 4) 3
  else beAt f (o + 4 + (if bitAt (beAt f o 1) 7 then 4 else 0)) 4

/-- The first byte after the tunnel header at `o` and the extension headers that follow it (R373). -/
def payloadStart (f : List Byte) (o : Nat) (stack : List (Nat × Nat)) : Nat :=
  match stack.dropWhile (fun e => e.2 != o || (tunnelKind e.1).isNone) with
  | [] => o
  | (c, _) :: rest =>
    let o1 := o + classLength (fun i => beAt f (o + i) 1) c
    (rest.takeWhile (fun e => e.1 == clsGtpuExt)).foldl (fun a e => a + 4 * beAt f e.2 1) o1

/-- R373, for a payload that the table of R360 allows the header's kind. -/
def payloadOk (f : List Byte) (bound kind o at_ pl : Nat) : Bool :=
  let nib := if at_ < bound then beAt f at_ 1 / 16 else 0
  let ipOk := if pl = 1 then nib == 4 else if pl = 2 then nib == 6 else nib == 4 || nib == 6
  if ¬ payloadAllowed kind pl then false
  else if pl = 0 then decide (at_ + 14 ≤ bound)
  else ipOk && (kind != 2 || beAt f (o + 2) 2 == (if nib = 4 then 0x0800 else 0x86DD))

/-- The outer addresses and the UDP source port of a frame. -/
def outerSrc (f : List Byte) (c : Candidate) : Nat := if c.v6 then beAt f (c.ip + 8) 16 else beAt f (c.ip + 12) 4
def outerDst (f : List Byte) (c : Candidate) : Nat := if c.v6 then beAt f (c.ip + 24) 16 else beAt f (c.ip + 16) 4

/-- Is the outer IP header of a candidate a fragment (R266)? -/
def outerIsFrag (f : List Byte) (n : Nat) (c : Candidate) (stack : List (Nat × Nat)) : Bool :=
  if c.v6 then
    ((stack.dropWhile (fun e => e.2 != c.ip || e.1 != clsIpv6)).drop 1).takeWhile (fun e => e.1 == clsIpv6Ext || e.1 == clsIpv6Frag)
      |>.any (fun e => e.1 == clsIpv6Frag)
  else ipv4IsFrag f n c.ip

/-- A result that stops the checks. -/
def ferryStop (code tunnel : Nat) (decoded : Bool) (entry : List Nat) : FerryRes :=
  { code := code, tunnel := tunnel, decoded := decoded, remove := 0, eth := false, entry := entry, follow := false, srcIp := 0
    srcPort := 0, v6 := false, gtpu := false }

/-- The checks of R372 from step 4 on. -/
def ferryTunnel (s : State) (f : List Byte) (p : Parse) (c : Candidate) : FerryRes :=
  let id := tunnelId f c.kind c.off
  let i := idIndex c.kind id
  let e := tunnelAt s i
  let t := templateAt s (tunTemplate e)
  if ¬ tunnelHeaderOk f c.kind c.off then ferryStop 4 0 false []
  else if c.kind = 0 ∧ beAt f (c.off + 1) 1 ≠ 255 then ferryStop 5 0 false []
  else if c.kind ≠ 1 ∧ checkNibble (fget s F.FRY_CHECK_KEY_KEY) id ≠ bits id 0 4 then ferryStop 6 0 false []
  else if ¬ (tunValid e ∧ tunDecap e ∧ tmplValid t) then ferryStop 7 i true e
  else if tmplKind t ≠ c.kind ∨ tmplV6 t ≠ c.v6 then ferryStop 8 i true e
  else if ¬ genMatches c.kind id (tunGen e) then ferryStop 9 i true e
  else
    let src := outerSrc f c
    let port := beAt f (c.off - 8) 2
    let same := wordsAddr c.v6 e 5 == src && (c.kind != 0 || bits (ew e 4) 16 16 == port)
    let follow := !same && tunPolicy e == 1 && inPrefix t src
    if ¬ same ∧ ¬ follow then ferryStop (if tunPolicy e = 2 then 11 else 10) i true e
    else
      let start := payloadStart f c.off p.stack
      if ¬ payloadOk f p.bound c.kind c.off start (tunPayload e) then ferryStop 12 i true e
      else
        { code := 0, tunnel := i, decoded := true, remove := start, eth := tunPayload e == 0, entry := e, follow := follow
          srcIp := src, srcPort := port, v6 := c.v6, gtpu := c.kind == 0 }

/-- The Ferry's result for a pass (R371, R372); `n` is the bound at the start of the pass. -/
def ferryCheck (s : State) (f : List Byte) (n : Nat) (p : Parse) : Option FerryRes :=
  match candidate f n p with
  | none => none
  | some c =>
    if ¬ isLocalAddr s c.v6 (outerDst f c) then some (ferryStop 1 0 false [])
    else if ¬ c.v6 ∧ ipv4CsumBad f n c.ip (4 * (beAt f c.ip 1 % 16)) then some (ferryStop 2 0 false [])
    else if outerIsFrag f n c p.stack ∨ c.kind = 3 then some (ferryStop 3 0 false [])
    else some (ferryTunnel s f p c)

/-! ### Counters, punts, the PEER_CHANGE bucket -/

/-- Counter `i` of FERRY of hearth `h` (R392). -/
def ferryCtr (h i : Nat) (s : State) : State := bump 9 (20 * h + i) s

/-- The reason of a result (R388); 0 where it has none. -/
def ferryReason (code : Nat) : Nat :=
  if code = 7 then 0x10 else if code = 9 then 0x11 else if code = 6 then 0x12 else if code = 11 then 0x13
  else if code = 3 then 0x14 else if code = 5 then 0x16 else if code = 10 then 0x17 else 0

/-- The host queue of a Ferry reason (FRY_PUNT_QUEUE). -/
def puntQueue (s : State) (reason : Nat) : Nat :=
  let k := reason - 0x10
  bits (rget s (if k < 4 then A.FRY_PUNT_QUEUE_0 else A.FRY_PUNT_QUEUE_1)) (8 * (k % 4)) 6

/-- Is a failed result punted (R372, R374)? -/
def ferryPunts (s : State) (code : Nat) : Bool :=
  if code = 3 ∨ code = 11 then true
  else if code = 5 then fbit s F.FRY_FAIL_ACT_GTP_SIGNAL
  else if code = 6 then fbit s F.FRY_FAIL_ACT_BAD_CHECK
  else if code = 7 then fbit s F.FRY_FAIL_ACT_UNKNOWN_TUNNEL
  else if code = 9 then fbit s F.FRY_FAIL_ACT_STALE_GEN
  else if code = 10 then fbit s F.FRY_FAIL_ACT_PEER_MISMATCH
  else false

/-- Interrupt and record of a result (the events table of chapter 08). -/
def ferryNote (h code tunnel : Nat) (s : State) : State :=
  if code = 7 then raise 0x0601 h tunnel 0 (setInt A.FRY_INT_STAT 1 s)
  else if code = 9 then raise 0x0602 h tunnel 0 (setInt A.FRY_INT_STAT 2 s)
  else if code = 6 then raise 0x0603 h tunnel 0 s
  else if code = 10 then raise 0x0605 h tunnel 0 s
  else if code = 11 then raise 0x0606 h tunnel 0 s
  else if code = 3 then raise 0x0609 h tunnel 0 s
  else s

/-- A frame of result PEER_CHANGE takes a token (R380); a rate of all ones is unlimited. -/
def peerTake (s : State) : Bool × State :=
  let rate := fget s F.FRY_PEER_RATE_RATE
  if rate = 0xFFFFFF then (true, s)
  else
    let r := bucketTake rate (fget s F.FRY_PEER_BURST_BURST) s.clk s.fry.peer
    let s := { s with fry := { s.fry with peer := r.2 } }
    if r.1 then (true, s) else (false, setInt A.FRY_INT_STAT 3 (faddSat F.FRY_PEER_DROP_DROPS 1 s))

/-- A write of FRY_PEER_RATE or FRY_PEER_BURST keeps the level, cut to the new burst (R380). -/
def peerRetune (write : State → State) (s : State) : State :=
  let l := bucketLevel (fget s F.FRY_PEER_RATE_RATE) (fget s F.FRY_PEER_BURST_BURST) s.clk s.fry.peer
  let s := write s
  { s with fry := { s.fry with peer := { level := min l (fget s F.FRY_PEER_BURST_BURST * clockHz), stamp := s.clk } } }

/-- The follow write at clock 266 (R379). -/
def followWrite (h : Nat) (r : FerryRes) (s : State) : State :=
  let w := tunnelAt s r.tunnel
  if tunValid w = tunValid r.entry ∧ tunGen w = tunGen r.entry ∧ tunPolicy w = tunPolicy r.entry then
    let w := if r.gtpu then ewSet 4 (setBits (ew w 4) 16 16 r.srcPort) w else w
    let a := r.srcIp
    let w := ewSet 5 (a / 2 ^ 96) (ewSet 6 (a / 2 ^ 64 % 2 ^ 32) (ewSet 7 (a / 2 ^ 32 % 2 ^ 32) (ewSet 8 (a % 2 ^ 32) w)))
    raise 0x0604 h r.tunnel 0 (ferryCtr h 13 (putEntry tTunnel 0 0 r.tunnel w s))
  else ferryCtr h 14 s

/-! ### Encapsulation (R383 to R386) -/

/-- A MAC address held in a low word and the low half of another. -/
def wordsMac (lo hi : Nat) : List Byte := beBytes 2 (hi % 65536) ++ beBytes 4 lo

/-- The delivery header of an IP payload (R376), from the template of the tunnel it came out of. -/
def deliveryHeader (t : List Nat) (payload : List Byte) : List Byte :=
  wordsMac (ew t 5) (ew t 6) ++ wordsMac (ew t 3) (ew t 4) ++ beBytes 2 (if beAt payload 0 1 / 16 = 6 then 0x86DD else 0x0800)

/-- What an IP payload gives the outer header: version nibble, traffic class byte, DF. -/
def ipNibble (p : List Byte) : Nat := beAt p 0 1 / 16
def ipTos (p : List Byte) : Nat := if ipNibble p = 6 then bits (beAt p 0 2) 4 8 else beAt p 1 1
def ipDf (p : List Byte) : Bool := ipNibble p == 4 && bitAt (beAt p 6 1) 6

/-- An IPv4 header with its checksum. -/
def ipv4Header (tos len ident flags ttl proto src dst : Nat) : List Byte :=
  let h := fun (c : Nat) => ([0x45] : List Byte) ++ beBytes 1 tos ++ beBytes 2 len ++ beBytes 2 ident ++ beBytes 2 flags
    ++ beBytes 1 ttl ++ beBytes 1 proto ++ beBytes 2 c ++ beBytes 4 src ++ beBytes 4 dst
  h (inetChecksum (h 0))

/-- An IPv6 header. -/
def ipv6Header (tc flow len nh hop src dst : Nat) : List Byte :=
  beBytes 4 (6 * 2 ^ 28 + tc * 2 ^ 20 + flow % 2 ^ 20) ++ beBytes 2 len ++ beBytes 1 nh ++ beBytes 1 hop ++ beBytes 16 src
    ++ beBytes 16 dst

/-- The UDP checksum of a datagram, its pseudo-header included (RFC 768, RFC 8200). -/
def udpChecksum (v6 : Bool) (src dst : Nat) (udp : List Byte) : Nat :=
  let n := if v6 then 16 else 4
  let c := inetChecksum (beBytes n src ++ beBytes n dst ++ beBytes 4 17 ++ beBytes 4 udp.length ++ udp)
  if c = 0 then 0xFFFF else c

/-- The tunnel header and the payload (R384). -/
def tunnelBody (e t : List Nat) (payload : List Byte) : List Byte :=
  let peer := ew e 3
  if tmplKind t = 0 then
    let qfi := bitAt (ew e 2) 13
    let opt := if qfi then beBytes 3 0 ++ [0x85] ++ [0x01, BitVec.ofNat 8 (bits (ew t 0) 20 1 * 16), BitVec.ofNat 8 (bits (ew e 2) 14 6), 0] else []
    (if qfi then [0x34] else [0x30]) ++ [0xFF] ++ beBytes 2 (opt.length + payload.length) ++ beBytes 4 peer ++ opt ++ payload
  else if tmplKind t = 1 then [0x08, 0, 0, 0] ++ beBytes 3 (peer % 2 ^ 24) ++ [0] ++ payload
  else beBytes 2 0x2000 ++ beBytes 2 (if ipNibble payload = 6 then 0x86DD else 0x0800) ++ beBytes 4 peer ++ payload

/-- The payload of the outer IP header: UDP around GTP-U and VXLAN, GRE bare (R384). -/
def outerPayload (e t : List Nat) (hash : Nat) (payload : List Byte) : List Byte :=
  let body := tunnelBody e t payload
  if tmplKind t = 2 then body
  else
    let v6 := tmplV6 t
    let sport := if bitAt (ew t 0) 23 then 49152 + hash % 16384 else bits (ew t 4) 16 16
    let head := fun (c : Nat) => beBytes 2 sport ++ beBytes 2 (bits (ew e 4) 16 16) ++ beBytes 2 (8 + body.length) ++ beBytes 2 c
    if bitAt (ew t 0) 24 then
      head (udpChecksum v6 (wordsAddr v6 t 7) (wordsAddr v6 e 5) (head 0 ++ body)) ++ body
    else head 0 ++ body

/-- The outer Ethernet header (R384). -/
def outerEth (t : List Nat) : List Byte :=
  wordsMac (ew t 1) (ew t 2) ++ wordsMac (ew t 3) (ew t 4)
    ++ (if bitAt (ew t 0) 27 then beBytes 2 0x8100 ++ beBytes 2 (bits (ew t 2) 16 16) else [])
    ++ beBytes 2 (if tmplV6 t then 0x86DD else 0x0800)

/-- Is a payload in agreement with PAYLOAD (step 2 of R383, R373)? -/
def encapPayloadOk (pl : Nat) (p : List Byte) : Bool :=
  if pl = 0 then decide (14 ≤ p.length)
  else if pl = 1 then ipNibble p == 4 else if pl = 2 then ipNibble p == 6 else ipNibble p == 4 || ipNibble p == 6

/-- Step 1 of R383 (R766). -/
def encapValid (e t : List Nat) : Bool :=
  tunValid e && tunEncap e && tmplValid t && payloadAllowed (tmplKind t) (tunPayload e) && (!bitAt (ew e 2) 13 || tmplKind t == 0)

/-- The outer frames of an encapsulation without frame check sequence, one or two (R384, R385); `none`: TOO_BIG. -/
def encapFrames (e t : List Nat) (hash ident : Nat) (payload : List Byte) : Option (List (List Byte)) :=
  let v6 := tmplV6 t
  let isIp := tunPayload e != 0
  let tos := (if bitAt (ew t 0) 21 ∧ isIp then ipTos payload / 4 else bits (ew t 0) 14 6) * 4 + (if isIp then ipTos payload % 4 else 0)
  let ttl := if bits (ew t 0) 0 8 = 0 then 64 else bits (ew t 0) 0 8
  let proto := if tmplKind t = 2 then 47 else 17
  let src := wordsAddr v6 t 7
  let dst := wordsAddr v6 e 5
  let body := outerPayload e t hash payload
  let dfm := bits (ew t 0) 25 2
  let df := if dfm = 0 then false else if dfm = 2 then (tunPayload e != 0) && ipDf payload else true
  let mtu := tunMtu e
  if v6 then
    if mtu < 40 + body.length then none
    else some [outerEth t ++ ipv6Header tos (if bitAt (ew t 0) 22 then hash else 0) body.length proto ttl src dst ++ body]
  else
    let d := 20 + body.length
    let v4 := fun (flags : Nat) (part : List Byte) => outerEth t ++ ipv4Header tos (20 + part.length) ident flags ttl proto src dst ++ part
    let fr := (mtu - 20) / 8 * 8
    if d ≤ mtu then some [v4 (b2n df * 0x4000) body]
    else if ¬ df ∧ d - 20 ≤ fr + (mtu - 20) then some [v4 0x2000 (body.take fr), v4 (fr / 8) (body.drop fr)]
    else none

end Machine
end Sys2Proof
end

