-- ==== Sys2Proof/Machine/Decide.lean ====
section
/-! DEFINITION. Machine/Decide.lean: the stages of a pass through a decision path (R246): parsing and the fragment table at
clock 84, the TCAM at 126, exact-match, FDB, Ferry and stream reads at 210, learning at 266, gates and meters at 322. -/
namespace Sys2Proof
namespace Machine

/-! ### What a pass reads -/

/-- Counter `i` of HEARTH_PARSE of hearth `h` (R313). -/
def parseCtr (h i : Nat) (s : State) : State := bump 1 (15 * h + i) s

/-- The structure of hearth `h` that a frame of generation `g` uses (R100); an empty one where no Forging fills the bank. -/
def hearthOf (s : State) (h g : Nat) : HearthStruct := (structOf s h g).getD default

/-- Entry of a per-port list for an ingress port: ports 0 to 71, then port 76. -/
def portIdx (p : Nat) : Nat := if p = 76 then 72 else p

/-- The bound at the start of a pass (R249). -/
def boundOf (f : Frame) : Nat := if f.carriesFcs then f.bytes.length - 4 else f.bytes.length

/-- The start state of a pass (R248, R301). -/
def startState (hs : HearthStruct) (f : Frame) (second : Bool) : Nat :=
  if ¬ second then hs.starts.getD (portIdx f.srcPort) 0
  else if ¬ f.tunValid then hs.starts2.getD 3 0
  else if ¬ f.ipForm then hs.starts2.getD 0 0
  else if beAt f.bytes 0 1 / 16 = 4 then hs.starts2.getD 1 0 else hs.starts2.getD 2 0

/-- The metadata of a pass (R274), but for EXC bits that come later. -/
def passMeta (hs : HearthStruct) (f : Frame) (second : Bool) : PassMeta :=
  { srcPort := f.srcPort, pass := b2n second, tunValid := f.tunValid, tunIdx := f.tunIdx
    portClass := hs.portClass.getD (portIdx f.srcPort) 0, carry := f.carry, hostChan := f.hostChan }

/-- The action that does nothing but drop. -/
def dropAct : Act := { actOf 0 with fwdKind := 5 }

/-- A fresh pass. -/
def newPass (i : Nat) (clk : Nat) (second : Bool) (two : Option Nat) (again : Option Pass) : Pass :=
  let p : Pass :=
    { frame := i, entry := clk, stage := 0, second := second, recompute := false, two := two, poison := false
      parse := { exc := 0, stack := [], fv := [], endState := 0, stopOff := 0, bound := 0, frag := none }
      fv := [], md := 0, tcam := none, final := false, act := dropAct, replaced := false, l2Only := false, ferry := none
      decap := false, punt := none, stream := none, repl := none, keyEth := none, bd := 0, hash := 0, fdb := none
      learn := none, noRoom := false, seq := none, discard := false, gateDrop := false, ipv := none, colour := 0 }
  match again with
  | none => p
  | some q => { p with second := q.second, recompute := true, seq := q.seq, discard := q.discard, gateDrop := q.gateDrop
                       ipv := q.ipv, colour := q.colour }

/-! ### Clock 84: exceptions and fragments (R261, R265 to R273) -/

/-- The fragment key's first entry of its set. -/
def fragSet (h : Nat) (key : List Byte) : Nat := 8192 * h + 4 * (crc32c 0xFFFFFFFF key &&& 2047)

def fragAt (s : State) (i : Nat) : Option FragEntry := (s.dp.frags.find? (fun e => e.1 == i)).map Prod.snd

def putFrag (i : Nat) (e : FragEntry) (s : State) : State :=
  { s with dp := { s.dp with frags := sins (sdel s.dp.frags i) i e } }

/-- The unexpired way that holds a key (R269, R270). -/
def fragFind (s : State) (h : Nat) (key : List Byte) : Option Nat :=
  (List.range 4).findSome? (fun w =>
    match fragAt s (fragSet h key + w) with
    | some e => if e.key = key ∧ s.clk < e.expires then some (fragSet h key + w) else none
    | none => none)

/-- The first way of a key's set that is free or expired. -/
def fragFree (s : State) (h : Nat) (key : List Byte) : Option Nat :=
  (List.range 4).findSome? (fun w =>
    match fragAt s (fragSet h key + w) with
    | some e => if e.expires ≤ s.clk then some (fragSet h key + w) else none
    | none => some (fragSet h key + w))

/-- The lifetime of an entry in core clocks (R271). -/
def fragLife (s : State) (h : Nat) : Nat := clampN (fget s (F.HTH_FRAG_CFG_LIFETIME_MS h)) 1 65 * clocksPerMs

/-- The saved words of a field vector, and a field vector with saved words written back (R268, R270). -/
def saveFv (hs : HearthStruct) (fv : List Byte) : List Byte :=
  (hs.saveWords.map (fun w => (fv.drop (4 * w)).take 4)).flatten
def restoreFv (hs : HearthStruct) (saved fv : List Byte) : List Byte :=
  (hs.saveWords.zipIdx).foldl (fun fv e => patch fv (4 * e.1) ((saved.drop (4 * e.2)).take 4)) fv

/-- Record of a parse exception: hearth, ingress port, flags. -/
def parseEvent (code h : Nat) (f : Frame) (exc : Nat) (s : State) : State := raise code h f.srcPort exc s

/-- A first fragment writes its entry (R269). -/
def fragWrite (hs : HearthStruct) (h : Nat) (key fv : List Byte) (f : Frame) (exc : Nat) (s : State) : State :=
  if ¬ fbit s (F.HTH_FRAG_CFG_EN h) then s
  else
    let e : FragEntry := { key := key, saved := saveFv hs fv, written := s.clk, expires := s.clk + fragLife s h }
    match fragFind s h key with
    | some i => putFrag i e s
    | none =>
      match fragFree s h key with
      | some i => parseCtr h 6 (putFrag i e s)
      | none => parseEvent 0x0403 h f exc (setInt (A.HTH_INT_STAT h) 1 (parseCtr h 9 s))

/-- Fragment handling of a pass: the field vector and the exception flags after it (R269, R270). -/
def fragPass (hs : HearthStruct) (h : Nat) (f : Frame) (p : Parse) (s : State) : List Byte × Nat × State :=
  match p.frag with
  | none => (p.fv, p.exc, s)
  | some g =>
    if ¬ g.later then (p.fv, p.exc, fragWrite hs h g.key p.fv f p.exc s)
    else
      match (fragFind s h g.key).bind (fragAt s) with
      | some e => (restoreFv hs e.saved p.fv, p.exc, parseCtr h 7 s)
      | none => (p.fv, excSet p.exc excFragNoHdr, parseCtr h 8 s)

/-- The exception capture (R265). -/
def excCapture (h : Nat) (f : Frame) (second : Bool) (p : Parse) (s : State) : State :=
  let hit := bitAt p.exc excDepth || bitAt p.exc excLen || bitAt p.exc excUnknownNext
  if hit ∧ ¬ fbit s (F.HTH_EXC_CAP_VALID h) then
    let w := p.exc % 256 * 2 ^ 24 + f.srcPort * 2 ^ 17 + b2n second * 2 ^ 16 + p.stack.length * 2 ^ 11 + p.endState * 2 ^ 4 + 1
    setInt (A.HTH_INT_STAT h) 0 (capture (A.HTH_EXC_CAP h) w (rput (A.HTH_EXC_CAP_OFF h) p.stopOff s))
  else s

/-- What clock 84 counts: passes and flags. -/
def countParse (h : Nat) (f : Frame) (p : Parse) (s : State) : State :=
  let s := parseCtr h 0 s
  let s := if bitAt p.exc excDepth then parseEvent 0x0401 h f p.exc (parseCtr h 1 s) else s
  let s := if bitAt p.exc excLen then parseEvent 0x0402 h f p.exc s else s
  let s := if bitAt p.exc excUnknownNext then parseCtr h 4 s else s
  if bitAt p.exc excCsum then parseCtr h 5 s else s

/-- Clock 84. -/
def stage84 (h : Nat) (f : Frame) (p : Pass) (s : State) : Pass × State :=
  let hs := hearthOf s h f.gen
  let q := parseFrame hs f.bytes (boundOf f) (startState hs f p.second)
  let s := excCapture h f p.second q (countParse h f q s)
  let (fv, exc, s) := fragPass hs h f q s
  ({ p with parse := { q with exc := exc }, fv := fv }, s)

/-! ### Clock 126: the TCAM (R276 to R285) -/

/-- A number from the words of an image, least significant first. -/
def wordsNum (w : List Nat) : Nat := w.foldr (fun x a => x + 2 ^ 32 * a) 0

/-- A TCAM image as an entry (R280). -/
def tcamEntry (w : List Nat) : TcamEntry :=
  { value := wordsNum (w.take 20), mask := wordsNum ((w.drop 20).take 20), action := wordsNum ((w.drop 40).take 8)
    valid := bitAt (ew w 48) 0, wide := bitAt (ew w 48) 1 }

/-- The listed entries of a TCAM bank by rising index. -/
def tcamEntries (s : State) (h b : Nat) : List (Nat × TcamEntry) :=
  let base := entryKey tTcam h b 0
  (s.tab.mem.filter (fun e => decide (base ≤ e.1 ∧ e.1 < base + 16384))).map (fun e => (e.1 - base, tcamEntry e.2))

/-- Clock 126: the search, its action word and its count (R276, R283, R284, R297). -/
def stage126 (h : Nat) (f : Frame) (p : Pass) (s : State) : Pass × State :=
  let hs := hearthOf s h f.gen
  let layout := hs.stateLayout.getD p.parse.endState 0
  let sel := hs.layouts.getD layout []
  let md := metaWord (passMeta hs f p.second) p.parse layout
  let entries := tcamEntries s h f.gen
  match tcamSearch (sel.length == 144) (tcamKey sel p.fv md) entries entries with
  | some (i, e) =>
    ({ p with md := md, tcam := some i, act := actOf e.action, final := bitAt e.action 255 },
     bump 2 ((2 * h + f.gen) * 16384 + i) s)
  | none =>
    let w := hs.missAction.getD layout 0
    ({ p with md := md, tcam := none, act := actOf w, final := bitAt w 255 }, parseCtr h 10 s)

/-! ### Clock 210: lookups and the decision (R287) -/

/-- Bytes of an entry of an exact-match table (R341). -/
def emEntryBytes (q : EmPartition) : Nat := ceilDiv (4 + q.keyBytes + (if q.kind = 0 then 32 else 16)) 16 * 16

/-- One exact-match lookup: the image found, with HIT set and the hit counted (R337, R658). -/
def emLookup (h t : Nat) (key : List Byte) (s : State) : Option (List Nat) × State :=
  match partOf s h (t + 1), findKey s h (t + 1) key with
  | some q, some i =>
    let w := entryAt s (t + 1) h 0 i
    let slot := (q.base + i * emEntryBytes q) / 32
    (some w, bump 4 (131072 * h + slot) (putEntry (t + 1) h 0 i (ewSet 0 (ew w 0 ||| 2 ^ 30) w) s))
  | _, _ => (none, s)

/-- The result word of an ACTION entry (R342). -/
def emResult (s : State) (h t : Nat) (w : List Nat) : Option Nat :=
  match partOf s h (t + 1) with
  | some q => if q.kind = 0 then some (wordsNum ((w.drop (1 + q.keyBytes / 4)).take 8)) else none
  | none => none

/-- The lookups of a profile, in order, merged into the decision (R287). -/
def emLookups (hs : HearthStruct) (h : Nat) (fv : List Byte) (md : Nat) (final : Bool) : List Nat → Act → State → Act × State
  | [], d, s => (d, s)
  | t :: rest, d, s =>
    let (r, s) := emLookup h t (keyBytes (hs.emLayouts.getD t []) fv md) s
    match r.bind (emResult s h t) with
    | some w => emLookups hs h fv md final rest (if final then d else mergeAct d w) s
    | none => emLookups hs h fv md final rest d s

/-- The decision that R263 or R264 puts in place of the resolved one; `none` where neither applies. The hash profile stays that of
the winning word: learning follows it. -/
def replacedAct (s : State) (h exc : Nat) (a : Act) : Option (Act × Bool) :=
  let base := { actOf 0 with profile := a.profile }
  let host := { base with fwdKind := 4, hostQueue := fget s (F.HTH_EXC_POLICY_PUNT_QUEUE h) }
  let drop := { base with fwdKind := 5 }
  if bitAt exc excLen then
    some (if fbit s (F.HTH_EXC_POLICY_LEN_ACT h) then { host with reason := 6 } else drop, false)
  else if bitAt exc excDepth ∧ ¬ a.excOk then
    let k := fget s (F.HTH_EXC_POLICY_DEPTH_ACT h)
    if k = 1 then some (drop, false)
    else if k = 2 then some ({ host with reason := 5 }, false)
    else some ({ base with queue := fget s (F.HTH_EXC_POLICY_L2_QUEUE h) }, true)
  else none

/-- A BAD_DEST count (R313). -/
def badDest (h : Nat) (f : Frame) (exc : Nat) (s : State) : State := parseEvent 0x0406 h f exc (parseCtr h 14 s)

/-- The key ETH header of the FDB lookup (R318). -/
def keyEthOf (p : Parse) (inner : Bool) : Option Nat := if inner then lastHdr p clsEth else firstHdr p clsEth

/-- The VLAN headers that directly follow the header at offset `o`. -/
def vlansAfter (stack : List (Nat × Nat)) (o : Nat) : List Nat :=
  (((stack.dropWhile (fun e => e.2 != o)).drop 1).takeWhile (fun e => e.1 == clsVlan)).map Prod.snd

/-- This pass decapsulates a Layer-2 tunnel and so reveals the key ETH header (R318). -/
def reveals (p : Pass) (key : Nat) : Option (List Nat) :=
  match p.ferry with
  | some r => if p.decap ∧ r.eth ∧ r.remove ≤ key then some r.entry else none
  | none => none

/-- The bridge domain of a frame (R318). -/
def bridgeDomain (s : State) (hs : HearthStruct) (f : Frame) (p : Pass) (key : Nat) : Nat :=
  let port := hs.portBd.getD (portIdx f.srcPort) 0
  match reveals p key with
  | some e => tunBd e
  | none =>
    if f.tunValid ∧ ¬ f.ipForm then tunBd (tunnelAt s f.tunIdx)
    else
      match vlansAfter p.parse.stack key with
      | v :: _ => if beAt f.bytes v 2 % 4096 = 0 then port else beAt f.bytes v 2 % 4096
      | [] => port

/-- A frame came from a tunnel (R320): its tunnel. -/
def fromTunnel (f : Frame) (p : Pass) : Option Nat :=
  match p.decap, p.ferry with
  | true, some r => if r.eth then some r.tunnel else if f.tunValid then some f.tunIdx else none
  | _, _ => if f.tunValid then some f.tunIdx else none

/-- The symmetric hash of a pass (R317). -/
def passHash (s : State) (f : Frame) (p : Parse) (key : Option Nat) : Nat :=
  let seed := rget s A.TBL_LAG_SEED
  let b := f.bytes
  match (p.stack.filter (fun e => e.1 == clsIpv4 || e.1 == clsIpv6)).getLast? with
  | some (c, o) =>
    let l4 := (p.stack.dropWhile (fun e => e.2 != o || e.1 != c)).find? (fun e => e.1 == clsUdp || e.1 == clsTcp)
    let (sp, dp) :=
      match l4 with
      | some (_, u) => if bitAt p.exc excFrag then (0, 0) else (beAt b u 2, beAt b (u + 2) 2)
      | none => (0, 0)
    if c = clsIpv6 then symHash seed (beAt b (o + 8) 16) (beAt b (o + 24) 16) sp dp (beAt b (o + 6) 1)
    else symHash seed (beAt b (o + 12) 4) (beAt b (o + 16) 4) sp dp (beAt b (o + 9) 1)
  | none =>
    match key with
    | some o => symHash seed (beAt b (o + 6) 6) (beAt b o 6) 0 0 (beAt b (o + 12) 2)
    | none => (Config.hashless s.dp.next).toNat

/-- What the Ferry makes of the decision (R299, R304, R371 to R374). -/
def ferryPass (h : Nat) (f : Frame) (ferryEn : Bool) (p : Pass) (s : State) : Pass × State :=
  let r := if ferryEn then ferryCheck s f.bytes (boundOf f) p.parse else none
  let p := { p with ferry := r }
  if ¬ p.act.decap ∨ p.replaced then (p, s)
  else if p.second ∧ f.tunValid then (p, parseEvent 0x0405 h f p.parse.exc (parseCtr h 13 s))
  else
    match r with
    | none => (p, badDest h f p.parse.exc s)
    | some r =>
      if r.code = 0 then ({ p with decap := true }, s)
      else if r.code = 1 then (p, s)
      else if ferryPunts s r.code then
        let k := ferryReason r.code
        ({ p with act := { p.act with recirc := false }, punt := some (puntQueue s k, k, if r.decoded then r.tunnel else 0) }, s)
      else ({ p with act := { p.act with fwdKind := 5, recirc := false } }, s)

/-- The R-TAG sequence number of a frame: that of the first RTAG header in the stack (R349). -/
def rtagSeq (f : Frame) (p : Parse) : Option Nat := (firstHdr p clsRtag).map (fun o => beAt f.bytes (o + 2) 2)

/-- The length L of a frame as it stands at the start of pass `p`: after decapsulation without a frame check sequence (R7, R407). -/
def passLen (f : Frame) (p : Pass) : Nat := if p.second && f.tunValid then f.bytes.length else frameLen f

/-- The stream functions at clock 210 (R346 to R350, R659). -/
def streamPass (h : Nat) (f : Frame) (p : Pass) (s : State) : Pass × State :=
  if ¬ p.act.streamEn ∨ p.act.recirc then (p, s)
  else
    let x := p.act.stream
    let w := entryAt s tStream 0 0 x
    let p := { p with stream := if bitAt (ew w 0) 31 then some w else none }
    if p.recompute then (p, s)
    else
      let s := bumpN 5 (2 * x + 1) (passLen f p) (bump 5 (2 * x) s)
      if bitAt (ew w 0) 31 then
        let (sq, d, s) := streamUpdate h x (rtagSeq f p.parse) s
        ({ p with seq := sq, discard := d }, s)
      else (p, s)

/-- The exact-match table of hearth `h` that holds replication sets (R291). -/
def replTable (s : State) (h : Nat) : Option Nat :=
  (List.range 8).find? (fun t => ((partOf s h (t + 1)).map (fun q => q.kind)) == some 1)

/-- The table and the index of replication set `set`. -/
def replEntry (s : State) (h set : Nat) : Option (Nat × Nat) :=
  match replTable s h with
  | none => none
  | some t => (partOf s h (t + 1)).bind (fun q =>
      (findKey s h (t + 1) (fitBytes q.keyBytes (Config.setKey set))).map (fun i => (t, i)))

/-- The replication set that a decision reads (R291, R348): its four words, or `none` where the table has no such set. -/
def replicationSet (h set : Nat) (s : State) : Option (List Nat) × State :=
  match replTable s h with
  | none => (none, s)
  | some t =>
    match partOf s h (t + 1) with
    | none => (none, s)
    | some q =>
      let (r, s) := emLookup h t (fitBytes q.keyBytes (Config.setKey set)) s
      (r.map (fun w => (w.drop (1 + q.keyBytes / 4)).take 4), s)

/-- The replication set that a pass names: SPLIT, DEST, or that of the FDB entry found (R291, R320, R348). -/
def replOf (p : Pass) : Option Nat :=
  let plain :=
    if p.act.fwdKind = 3 then some (p.act.dest % 65536)
    else
      match p.act.fwdKind, p.fdb with
      | 0, some (3, d) => some (d % 65536)
      | _, _ => none
  match p.stream with
  | some w => if bitAt (ew w 1) 15 then some (bits (ew w 1) 16 16) else plain
  | none => plain

/-- The read of the replication set. -/
def replPass (h : Nat) (p : Pass) (s : State) : Pass × State :=
  match replOf p with
  | some x => let (r, s) := replicationSet h x s; ({ p with repl := r }, s)
  | none => (p, s)

/-- The entries of class TABLE that clock 210 reads (R709): table, hearth (15 for one that all hearths share), index. -/
def reads210 (s : State) (h : Nat) (f : Frame) (hs : HearthStruct) (lookups : List Nat) (p : Pass) : List (Nat × Nat × Nat) :=
  let ems := lookups.filterMap (fun t =>
    (findKey s h (t + 1) (keyBytes (hs.emLayouts.getD t []) p.fv p.md)).map (fun i => (t + 1, h, i)))
  let fdb := match p.keyEth with
    | some o => if p.fdb.isSome then (findKey s h tFdb (fdbKey p.bd (beAt f.bytes o 6))).toList.map (fun i => (tFdb, h, i)) else []
    | none => []
  let stream := if p.act.streamEn ∧ ¬ p.act.recirc then [(tStream, 15, p.act.stream)] else []
  let tun := match p.ferry with
    | some r => if r.decoded then [(tTunnel, 15, r.tunnel), (tTemplate, 15, tunTemplate r.entry)] else []
    | none => []
  let repl := match replOf p with
    | some x => (replEntry s h x).toList.map (fun e => (e.1 + 1, h, e.2))
    | none => []
  ems ++ fdb ++ stream ++ tun ++ repl

/-- Clock 210. -/
def stage210 (h : Nat) (f : Frame) (p : Pass) (s : State) : Pass × State :=
  let hs := hearthOf s h f.gen
  let prof := hs.profiles.getD p.act.profile 0
  let old := s
  let (d, s) := emLookups hs h p.fv p.md p.final (profileLookups prof) p.act s
  let r := replacedAct s h p.parse.exc d
  let p := { p with act := (r.map Prod.fst).getD d, replaced := r.isSome, l2Only := (r.map Prod.snd).getD false }
  let s := if bitAt p.parse.exc excLen then
    parseCtr h (if fbit s (F.HTH_EXC_POLICY_LEN_ACT h) then 3 else 2) s else s
  let (p, s) := ferryPass h f (profFerryEn prof) p s
  let key := keyEthOf p.parse (profFdbInner prof && !p.l2Only)
  let p := { p with keyEth := key, bd := (key.map (bridgeDomain s hs f p)).getD 0, hash := passHash s f p.parse key }
  let (fdb, s) :=
    match key with
    | some o => if profFdbEn prof ∨ p.l2Only then fdbLookup h p.bd (beAt f.bytes o 6) s else (none, s)
    | none => (none, s)
  let (p, s) := streamPass h f { p with fdb := fdb } s
  let poison := old.hlt.poison != [] && anyPoison old (reads210 old h f hs (profileLookups prof) p)
  replPass h { p with poison := poison } s

/-! ### Clock 266: learning and follow writes (R325, R326, R379) -/

/-- Base state WAKING or RUN (R325); 3 and 4 are their codes. -/
def learnsNow (s : State) : Bool := s.glb.base == bWaking || s.glb.base == bRun

/-- What a pass learns, when it meets R325. -/
def learnOf (s : State) (h : Nat) (f : Frame) (p : Pass) : Option Learn :=
  let prof := (hearthOf s h f.gen).profiles.getD p.act.profile 0
  match p.keyEth with
  | none => none
  | some o =>
    let src := beAt f.bytes (o + 6) 6
    if learnsNow s ∧ bitAt (fget s F.TBL_LEARN_CFG_LEARN_EN) h ∧ profLearnEn prof ∧ ¬ p.act.learnDis
        ∧ ¬ bitAt p.parse.exc excLen ∧ f.srcPort ≠ 76 ∧ ¬ bitAt src 40 ∧ src ≠ 0 ∧ bdValid s p.bd ∧ bdLearn s p.bd then
      let (k, d) :=
        match fromTunnel f p with
        | some t => (1, t)
        | none => match lagOf s f.srcPort with | some g => (2, g) | none => (0, f.srcPort)
      some { hearth := h, bd := p.bd, mac := src, kind := k, dest := d, egress := false }
    else none

/-- Clock 266. -/
def stage266 (h : Nat) (f : Frame) (p : Pass) (s : State) : Pass × State :=
  let (noRoom, s) :=
    match learnOf s h f p with
    | some l => learnIn h l s
    | none => (false, s)
  let p := { p with learn := learnOf s h f p, noRoom := noRoom }
  match p.ferry with
  | some r => if p.decap ∧ r.follow then (p, followWrite h r s) else (p, s)
  | none => (p, s)

/-! ### Clock 322: stream gates and meters (R407 to R412, R477 to R480) -/

/-- Counter `i` of STREAM_GATE of gate `g`. -/
def gateCtr (g i : Nat) (s : State) : State := bump 17 (3 * g + i) s

/-- The test of a frame of length `n` against a stream gate (R479): dropped, and the queue value that replaces QUEUE. -/
def gateTest (g : Nat) (f : Frame) (n : Nat) (s : State) : Bool × Option Nat × State :=
  let x := gateOf s g f.gen
  if ¬ gateValid x.words then (false, none, s)
  else
    let (isOpen, a, octets, occ) := gateAt x (if gateMode x.words = 2 then timeWholeNs f.stamp else f.phase)
    if ¬ isOpen then (true, none, gateCtr g 1 s)
    else
      let used := if occ = x.occ then x.bytes else 0
      if octets ≠ 0 ∧ octets < used + n then
        (true, none, gateCtr g 2 (putGate g f.gen { x with occ := occ, bytes := used } s))
      else
        (false, if bitAt a 30 then some (bits a 26 4) else none,
         gateCtr g 0 (putGate g f.gen { x with occ := occ, bytes := used + n } s))

/-- The levels of a meter now, in 2⁻¹⁶ bytes: committed and peak (R408). -/
def meterLevels (s : State) (w : List Nat) : Nat × Nat :=
  let n := (s.clk + 2 ^ 32 - ew w 6 % 2 ^ 32) % 2 ^ 32
  (min (bits (ew w 2) 0 24 * 65536) (ew w 4 * 65536 + ew w 8 + gain16 (rateWord (ew w 0)) n),
   min (bits (ew w 3) 0 24 * 65536) (ew w 5 * 65536 + ew w 9 + gain16 (rateWord (ew w 1)) n))

/-- A meter image with new levels, stamped now. -/
def meterPut (s : State) (w : List Nat) (tc tp : Nat) : List Nat :=
  ewSet 9 (tp % 65536) (ewSet 8 (tc % 65536) (ewSet 6 (s.clk % 2 ^ 32) (ewSet 5 (tp / 65536) (ewSet 4 (tc / 65536) w))))

/-- The colour of R409 and what it takes from the two buckets, all in 2⁻¹⁶ bytes. -/
def meterColour (enable aware : Bool) (pre tc tp b : Nat) : Nat × Nat × Nat :=
  if ¬ enable then (0, tc, tp)
  else if (aware ∧ pre = 2) ∨ tp < b then (2, tc, tp)
  else if (aware ∧ pre = 1) ∨ tc < b then (1, tc, tp - b)
  else (0, tc - b, tp - b)

/-- The input colour of a colour-aware meter (R411). -/
def preColour (f : Frame) (p : Pass) : Nat :=
  if p.second then f.colour
  else match firstHdr p.parse clsVlan with | some o => if bitAt (beAt f.bytes o 1) 4 then 1 else 0 | none => 0

/-- An update of meter `m` of hearth `h` (R407 to R409, R432): the colour. -/
def meterUpdate (h m : Nat) (f : Frame) (p : Pass) (s : State) : Nat × State :=
  let w := entryAt s tMeter h 0 m
  let b := passLen f p + bits (rget s A.TM_METER_ADJ) (8 * h) 6
  let (tc, tp) := meterLevels s w
  let (col, tc, tp) := meterColour (bitAt (ew w 0) 31) (bitAt (ew w 0) 30) (preColour f p) tc tp (b * 65536)
  let k := 6 * (32768 * h + m) + 2 * col
  (col, bumpN 12 (k + 1) b (bump 12 k (putEntry tMeter h 0 m (meterPut s w tc tp) s)))

/-- The background refresh of a meter: an update with no bytes (R408). -/
def meterRefresh (h m : Nat) (s : State) : State :=
  let w := entryAt s tMeter h 0 m
  let (tc, tp) := meterLevels s w
  putEntry tMeter h 0 m (meterPut s w tc tp) s

/-- The stream gate of a pass, in the pass R346 names. -/
def gatePass (f : Frame) (p : Pass) (s : State) : Pass × State :=
  match p.stream with
  | some w =>
    if p.recompute ∨ ¬ bitAt (ew w 0) 30 then (p, s)
    else
      let poison := p.poison || (poisonAt s tGate 15 (bits (ew w 0) 18 12)).isSome
      let (d, q, s) := gateTest (bits (ew w 0) 18 12) f (passLen f p) s
      ({ p with gateDrop := d, ipv := q, poison := poison }, s)
  | none => (p, s)

/-- Clock 322. -/
def stage322 (h : Nat) (f : Frame) (p : Pass) (s : State) : Pass × State :=
  let (p, s) := gatePass f p s
  if p.recompute then (p, s)
  else if p.act.meterEn ∧ ¬ p.gateDrop then
    let poison := p.poison || (poisonAt s tMeter h p.act.meter).isSome
    let (c, s) := meterUpdate h p.act.meter f p s
    ({ p with colour := c, poison := poison }, s)
  else ({ p with colour := if p.second then f.colour else 0 }, s)

/-! ### The stages in order -/

/-- The core clock, counted from the entry, at which the stage after `k` takes place (R246). -/
def stageClock (k : Nat) : Nat := [84, 126, 210, 266, 322].getD k 490

/-- A received Kixon frame (R549, R558) takes a pass but is not searched. -/
def stageOf (k h : Nat) (f : Frame) (p : Pass) (s : State) : Pass × State :=
  if k = 0 then stage84 h f p s
  else if f.kixon then (p, s)
  else if k = 1 then stage126 h f p s
  else if k = 2 then stage210 h f p s
  else if k = 3 then stage266 h f p s
  else stage322 h f p s

/-- The place of a pass's next stage among those of the device: by core clock; within one, the table writes of clock 266 come
before everything that reads a table (R247); then by hearth (R346, R379, R479). Moves and a FLUSH take the places 0 and 5 of a
core clock. -/
def duePlace (h : Nat) (p : Pass) : Nat := 16 * (p.entry + stageClock p.stage) + (if p.stage = 3 then 1 else 6) + h % 4

/-- The passes with a stage to come, each with its place, its hearth and its number there. -/
def duePasses (s : State) (h : Nat) : List (Nat × Nat × Nat) :=
  ((pipeOf s h).zipIdx.filter (fun e => decide (e.1.stage < 5))).map (fun e => (duePlace h e.1, h, e.2))

/-- The arriving frames with a cell to take, each with its place, after every stage of its core clock, and its number; 4 stands
where a stage has its hearth (R48). -/
def dueCells (s : State) : List (Nat × Nat × Nat) :=
  s.dp.frames.filterMap (fun e => (nextCellClk s e.2).map (fun c => (16 * c + 10, 4, e.1)))

/-- The moves in progress, each with the place of its next step, and the next entry of a FLUSH (R334, R356); 5 and 6 stand where
a stage has its hearth. -/
def dueTables (s : State) : List (Nat × Nat × Nat) :=
  s.tab.moves.map (fun e => (movePlace e.2, 5, e.1)) ++ (flushPlace s).toList.map (fun p => (p, 6, 0))

/-- Run the next stage of pass number `i` of hearth `h`, take the next cell of arriving frame `i`, make the next step of a move
or of a FLUSH. -/
def runStage (h i : Nat) (s : State) : State :=
  if h = 4 then takeCells i 1 s
  else if h = 5 then moveNext (i / 16) (i % 16) s
  else if h = 6 then flushNext s
  else
  match (pipeOf s h)[i]? with
  | none => s
  | some p =>
    match frameOf s p.frame with
    | none => putPipe h ((pipeOf s h).set i { p with stage := p.stage + 1 }) s
    | some f =>
      let (q, s) := stageOf p.stage h f p s
      putPipe h ((pipeOf s h).set i { q with stage := p.stage + 1 }) s

/-- The earlier of two stages in place; the first of them where the places are the same. -/
def firstDue (best : Option (Nat × Nat × Nat)) (e : Nat × Nat × Nat) : Option (Nat × Nat × Nat) :=
  match best with
  | none => some e
  | some b => if e.1 < b.1 then some e else some b

/-- The stage or the cell that is due first in the device: its place, hearth, pass. -/
def nextDue (s : State) : Option (Nat × Nat × Nat) := ((List.range 4).flatMap (duePasses s) ++ dueCells s ++ dueTables s).foldl firstDue none

/-- The stages still to come of all passes, the cells still to be taken, the steps of moves and of a FLUSH, at most. -/
def stagesLeft (s : State) : Nat :=
  (s.dp.pipe.map (fun e => (e.2.map (fun p => 5 - p.stage)).foldl (· + ·) 0)).foldl (· + ·) 0
    + (s.dp.frames.map (fun e => cellsFor e.2.bytes.length - e.2.taken)).foldl (· + ·) 0
    + 100 * s.tab.moves.length + (if (flushRuns s).isSome then s.tab.mem.length else 0)

/-- The stages of places below `limit` take place, each in its own core clock; at most `n` of them. -/
def runDue (limit : Nat) : Nat → State → State
  | 0, s => s
  | n + 1, s =>
    match nextDue s with
    | none => s
    | some (d, h, i) => if limit ≤ d then s else runDue limit n (runStage h i (passClocks (d / 16 - s.clk) s))

/-- `dt` core clocks pass. The stages of the core clock that is reached take place when it has passed, so that what is
written in it comes before what they read (R247). -/
def elapse (dt : Nat) (s : State) : State :=
  let target := s.clk + dt
  let s := runDue (16 * target) (stagesLeft s) s
  passClocks (target - s.clk) s

/-- The table writes that the stages of this core clock make, before a command of the same core clock that reads what they
write or that comes after them (R247, R331). -/
def tableWrites (s : State) : State := runDue (16 * s.clk + 6) (stagesLeft s) s

/-- Every stage of this core clock, before a command that reads a table in it (R247). -/
def stagesNow (s : State) : State := runDue (16 * s.clk + 16) (stagesLeft s) s

end Machine
end Sys2Proof
end

