-- ==== Sys2Proof/Machine/Vote.lean ====
section
/-! DEFINITION. Machine/Vote.lean: the edits of a frame (R296, R351), the vote and what it releases (R286 to R306, R320 to
R324, R381, R423 to R428, R556, R558, R698 to R705). -/
namespace Sys2Proof
namespace Machine

/-! ### Edits -/

/-- Cut `n` bytes out at `o`. -/
def cutAt (o n : Nat) (b : List Byte) : List Byte := b.take o ++ b.drop (o + n)

/-- Insert bytes at `o`. -/
def insertAt (o : Nat) (x b : List Byte) : List Byte := b.take o ++ x ++ b.drop o

/-- Write a priority code point into the tag at `v`. -/
def setPcp (v : Nat) (pcp : Option Nat) (b : List Byte) : List Byte :=
  match pcp with
  | none => b
  | some c => patch b v (beBytes 2 (setBits (beAt b v 2) 13 3 c))

/-- VLAN_OP and PCP (R286, R296) on a frame whose outermost ETH header is at `eth`, followed by VLAN headers at `vlans`. -/
def vlanEdit (op vid : Nat) (pcp : Option Nat) (eth : Option Nat) (vlans : List Nat) (b : List Byte) : List Byte :=
  match eth with
  | none => b
  | some e =>
    if op = 1 then insertAt (e + 12) (beBytes 2 0x8100 ++ beBytes 2 (pcp.getD 0 * 8192 + vid % 4096)) b
    else
      match vlans with
      | [] => b
      | v :: rest =>
        if op = 2 then
          let c := cutAt (v - 2) 4 b
          if rest = [] then c else setPcp v pcp c
        else if op = 3 then setPcp v pcp (patch b v (beBytes 2 (setBits (beAt b v 2) 0 12 vid)))
        else setPcp v pcp b

/-- DECODE and ENCODE (R351): the first R-TAG removed, a new one inserted at the end `k` of the key ETH header and its VLAN
headers. -/
def rtagEdit (decode : Option Nat) (encode : Option Nat) (k : Option Nat) (b : List Byte) : List Byte :=
  let c := match decode with | some o => cutAt (o - 2) 6 b | none => b
  match encode, k with
  | some n, some e =>
    let e := match decode with | some o => if o < e then e - 6 else e | none => e
    insertAt (e - 2) (beBytes 2 0xF1C1 ++ beBytes 2 0 ++ beBytes 2 n) c
  | _, _ => c

/-! ### Copies -/

/-- A planned copy: port, queue of that port, copy. -/
abbrev Planned := Nat × Nat × Copy

/-- The bytes that decapsulation removes in this pass. -/
def removed (p : Pass) : Nat := if p.decap then (match p.ferry with | some r => r.remove | none => 0) else 0

/-- The stored form of the frame after the vote (R375). -/
def storedBytes (f : Frame) (p : Pass) : List Byte :=
  if p.decap then (f.bytes.take (boundOf f)).drop (removed p) else f.bytes

/-- The copy that every destination starts from: what the egress stage needs to know of the decision. -/
def baseCopy (h : Nat) (f : Frame) (p : Pass) : Copy :=
  let rem := removed p
  let stack : List (Nat × Nat) := (p.parse.stack.filter (fun e => decide (rem ≤ e.2))).map (fun e => (e.1, e.2 - rem))
  let eth : Bool := match p.decap, p.ferry with | true, some r => r.eth | _, _ => false
  let ipForm := if p.decap then !eth else f.ipForm
  let first : Nat → Option Nat := fun c => (stack.find? (fun e => e.1 == c)).map Prod.snd
  let ethOff := match first clsEth with | some o => some o | none => if eth then some 0 else none
  let ptp := first clsPtp
  let before : List (Nat × Nat) := match ptp with | some o => stack.takeWhile (fun e => decide (e.2 < o)) | none => []
  let udp := (before.filter (fun e => e.1 == clsUdp)).getLast?
  let ip := (before.filter (fun e => e.1 == clsIpv4 || e.1 == clsIpv6)).getLast?
  let seq := match p.stream with
    | some w => if bitAt (ew w 0) 2 then some (p.seq.getD (Config.noSeq p.frame).toNat) else none
    | none => none
  let dec : Bool := match p.stream with | some w => bitAt (ew w 0) 1 | none => false
  { frame := p.frame, base := none, tunnel := none, mirror := none, hearth := h, second := p.second, reason := 0
    tunIdx := match p.decap, p.ferry with | true, some r => r.tunnel | _, _ => f.tunIdx
    tunValid := p.decap || f.tunValid
    decapTun := match p.decap, p.ferry with | true, some r => r.tunnel | _, _ => f.tunIdx
    gre := false, carry := p.act.carry, mgmt := p.act.mgmt, yellow := p.colour == 1, ipForm := ipForm
    ethOff := if ipForm then none else ethOff
    vlanOffs := match ethOff with | some o => vlansAfter stack o | none => []
    keyEnd := p.keyEth.bind (fun o => if rem ≤ o then some (o - rem + 14 + 4 * (vlansAfter p.parse.stack o).length) else none)
    rtagOff := first clsRtag
    ipOff := (stack.find? (fun e => e.1 == clsIpv4 || e.1 == clsIpv6)).map Prod.snd
    ptpOff := ptp
    udpOff := udp.map (fun e => (e.2, match ip with | some (c, _) => c == clsIpv6 | none => false))
    vlanOp := p.act.vlanOp, vid := p.act.vid, pcp := if p.act.pcpEn then some p.act.pcp else none
    encode := seq, decode := dec, ptpTc := p.act.ptpTc, hash := p.hash
    learn := p.learn.map (fun l => { l with egress := true })
    cut := false, cells := cellsFor (storedBytes f p).length, shared := 0, pool := 0, entered := 0, heldIn := none, again := none }

/-- May a copy to queue `q` of port `port` be cut through (R537)? -/
def cutOk (s : State) (f : Frame) (p : Pass) (port q : Nat) (c : Copy) : Bool :=
  !p.second && decide (f.srcPort < 64) && decide (port < 72) && decide (portRate s port ≤ portRate s f.srcPort)
    && !gatedQ s port q && c.tunnel.isNone && c.encode.isNone && !f.preemptable

/-- A forwarded copy to port `port`. -/
def portCopy (s : State) (f : Frame) (p : Pass) (c : Copy) (port : Nat) : Planned :=
  let q := physQueue s port (p.ipv.getD p.act.queue)
  (port, q, { c with cut := cutOk s f p port q c })

/-- A copy for the host. -/
def hostCopy (c : Copy) (queue reason : Nat) : Planned := (76, queue, { c with reason := reason, learn := none, ptpTc := false })

/-- A copy into tunnel `t` (R381). -/
def tunnelCopy (h : Nat) (p : Pass) (c : Copy) (t : Nat) (s : State) : List Planned × State :=
  let e := tunnelAt s t
  if tunValid e ∧ tunEncap e then
    ([(tunPort e, physQueue s (tunPort e) (p.ipv.getD p.act.queue), { c with tunnel := some t })], s)
  else ([], raise 0x0608 h t 0 (setInt A.FRY_INT_STAT 5 (ferryCtr h 16 s)))

/-- Copies into several tunnels. -/
def tunnelCopies (h : Nat) (p : Pass) (c : Copy) : List Nat → State → List Planned × State
  | [], s => ([], s)
  | t :: rest, s =>
    let (a, s) := tunnelCopy h p c t s
    let (b, s) := tunnelCopies h p c rest s
    (a ++ b, s)

/-- A copy to LAG `g` (R324). -/
def lagCopy (h : Nat) (f : Frame) (p : Pass) (c : Copy) (g : Nat) (s : State) : List Planned × State :=
  match lagPick s g p.hash with
  | some port => ([portCopy s f p c port], s)
  | none => ([], lagNoMember h p.bd s)

/-- The copies of a flooded frame (R322). R246 names no clock for the reads of BD, FLOOD_LIST and LAG entries that forwarding makes:
they are made at the vote (DESIGN CHOICE, log entry 84). -/
def floodCopies (h : Nat) (f : Frame) (p : Pass) (c : Copy) (s : State) : List Planned × State :=
  let s := fdbCtr h 8 s
  let (ok, s) := admitBudget 5 h s
  if ¬ ok then ([], s)
  else
    let own := match lagOf s f.srcPort with | some g => lagMembers s g | none => []
    let ports := (bdMembers s p.bd).filter (fun q => q != f.srcPort && !own.contains q)
    let (lags, rest) := collapseLags s p.hash ports
    let s := lags.foldl (fun s x => if x.isNone then lagNoMember h p.bd s else s) s
    let plain := (rest ++ lags.filterMap id).map (portCopy s f p c)
    if (fromTunnel f p).isSome then (plain, s)
    else let (t, s) := tunnelCopies h p c (floodTunnels s (bdFloodList s p.bd)) s; (plain ++ t, s)

/-- The copies of a replication set (R291). -/
def replCopies (h : Nat) (f : Frame) (p : Pass) (c : Copy) (s : State) : List Planned × State :=
  match p.repl with
  | none => ([], badDest h f p.parse.exc s)
  | some w =>
    let ports := (bitmapPorts (ew w 0) (ew w 1) (ew w 2)).filter (fun q => !(bitAt (ew w 3) 31 && q == f.srcPort))
    let host := if bitAt (ew w 2) 12 ∧ ¬ (bitAt (ew w 3) 31 ∧ f.srcPort = 76) then [hostCopy c p.act.hostQueue p.act.reason] else []
    let (t, s) := tunnelCopies h p c (floodTunnels s (bits (ew w 3) 0 12)) s
    (ports.map (portCopy s f p c) ++ t ++ host, s)

/-- The copies of a BRIDGE decision (R288, R320). -/
def bridgeCopies (h : Nat) (f : Frame) (p : Pass) (c : Copy) (s : State) : List Planned × State :=
  if p.keyEth.isNone then ([], badDest h f p.parse.exc s)
  else if ¬ bdValid s p.bd then ([], fdbCtr h 11 s)
  else
    match p.fdb with
    | none => floodCopies h f p c s
    | some (k, d) =>
      if p.noRoom then floodCopies h f p c s
      else if k = 0 then
        if d = f.srcPort then ([], fdbCtr h 9 s)
        else if 71 < d then ([], badDest h f p.parse.exc s)
        else ([portCopy s f p c d], s)
      else if k = 1 then
        if (fromTunnel f p).isSome then ([], fdbCtr h 10 s) else tunnelCopy h p c d s
      else if k = 2 then
        if (lagMembers s d).contains f.srcPort then ([], fdbCtr h 9 s) else lagCopy h f p c d s
      else if k = 3 then replCopies h f p c s
      else if k = 4 then ([], s)
      else ([], badDest h f p.parse.exc s)

/-- The forwarded copies of a decision (R288 to R292, R348). -/
def forwardCopies (h : Nat) (f : Frame) (p : Pass) (c : Copy) (s : State) : List Planned × State :=
  let split : Bool := match p.stream with | some w => bitAt (ew w 1) 15 | none => false
  let k := p.act.fwdKind
  if split then replCopies h f p c s
  else if k = 0 then bridgeCopies h f p c s
  else if k = 1 then
    let d := p.act.dest % 128
    if 71 < d then ([], badDest h f p.parse.exc (setInt (A.HTH_INT_STAT h) 3 s)) else ([portCopy s f p c d], s)
  else if k = 2 then tunnelCopy h p c p.act.dest s
  else if k = 3 then replCopies h f p c s
  else if k = 4 then ([hostCopy c p.act.hostQueue p.act.reason], s)
  else if k = 5 then ([], s)
  else ([], badDest h f p.parse.exc s)

/-! ### Mirror sessions (R423 to R428) -/

def mirrorSeen (s : State) (m : Nat) : Nat := sget (fun _ => 0) s.tmg.mirrorSeen m

/-- A candidate of session `m`: sampled in or out (R427). -/
def mirrorTake (m : Nat) (s : State) : Bool × State :=
  let n := fget s (F.TM_MIR_TRUNC_SAMPLE_N m)
  let k := mirrorSeen s m
  let s := { s with tmg := { s.tmg with mirrorSeen := sput (fun _ => 0) s.tmg.mirrorSeen m (k + 1) } }
  if n < 2 ∨ k % n = 0 then (true, bump 14 (3 * m) s) else (false, bump 14 (3 * m + 1) s)

/-- The copy that session `m` makes of `c`, whose stored form is what the session carries (R423 to R425, R428). -/
def mirrorCopy (m : Nat) (c : Copy) (s : State) : List Planned × State :=
  let kind := fget s (F.TM_MIR_CFG_KIND m)
  if ¬ fbit s (F.TM_MIR_CFG_EN m) ∨ kind = 3 then ([], s)
  else
    let (take, s) := mirrorTake m s
    let port := fget s (F.TM_MIR_CFG_DEST_PORT m)
    let c := { c with tunnel := none, mirror := some m, gre := kind == 2, reason := 0, learn := none, mgmt := false, vlanOp := 0, pcp := none
                      encode := none, decode := false, ptpTc := false, cut := false }
    if ¬ take then ([], s)
    else if kind = 1 then ([(76, fget s (F.TM_MIR_CFG_HOST_QUEUE m), c)], s)
    else if 71 < port then ([], mirrorDrop m s)
    else ([(port, physQueue s port (fget s (F.TM_MIR_CFG_QUEUE m)), c)], s)

/-! ### Admission of what is planned -/

/-- Test and queue one planned copy; a copy for the host passes its WAKING budget first (R149, R400). -/
def admitPlanned (x : Planned) (s : State) : State :=
  let (port, q, c) := x
  if port = 76 then
    let (ok, s) := admitBudget (reasonClass c.reason) c.hearth s
    if ok then (admitCopy 76 q c s).2 else s
  else (admitCopy port q c s).2

/-- Planned copies in ascending port order (R403). -/
def inPortOrder (l : List Planned) : List Planned := ((List.range 77).map (fun p => l.filter (fun x => x.1 == p))).flatten

def admitAll (l : List Planned) (s : State) : State := (inPortOrder l).foldl (fun s x => admitPlanned x s) s

/-! ### The Ferry's counts at the vote (R374, R375, R380, R392, R660) -/

/-- Counts and records of the Ferry's result; whether a PEER_CHANGE frame found a token. -/
def ferryCounts (h : Nat) (f : Frame) (p : Pass) (s : State) : Bool × State :=
  match p.ferry with
  | none => (true, s)
  | some r =>
    if ¬ p.act.decap ∨ p.replaced ∨ (p.second ∧ f.tunValid) then (true, s)
    else
      let s := ferryNote h r.code r.tunnel (ferryCtr h r.code s)
      if r.code = 0 then
        let g := tunGroup r.entry
        (true, bump 7 r.tunnel (bumpN 8 (4 * g + 1) (frameLen f) (bump 8 (4 * g) s)))
      else if r.code = 11 then peerTake s
      else (true, s)

/-! ### Release -/

/-- The frame that the copy for the recirculation port refers to, and what it carries into its second pass (R300, R302);
VLAN_OP is applied as it re-enters (`reenter`). -/
def recircFrame (f : Frame) (p : Pass) (c : Copy) : Frame :=
  { f with
    bytes := storedBytes f p
    carriesFcs := f.carriesFcs && !p.decap
    ipForm := c.ipForm, tunValid := p.decap, tunIdx := if p.decap then c.tunIdx else 0, carry := p.act.carry
    colour := p.colour }

/-- Release of a decision at its vote: mirror copies, host copies, forwarded copies (R286 to R305, R410). A second pass that asks for
a third is dropped, with the bytes that it decapsulates removed for the copies it still makes (R51, R305). -/
def releaseFrame (h : Nat) (f : Frame) (p : Pass) (s : State) : State :=
  let (peerOk, s) := ferryCounts h f p s
  if f.bad then s
  else
    let stored := storedBytes f p
    let c0 := baseCopy h f p
    let snap := if p.act.recirc ∧ ¬ p.second ∧ p.punt.isNone then some (if p.decap then stored else stored.take (boundOf f)) else none
    let c := { c0 with base := snap }
    let (mir, s) := if p.act.mirrorEn then mirrorCopy p.act.mirrorSession c s else ([], s)
    let host := if p.act.hostCopy then [hostCopy c p.act.hostQueue p.act.reason] else []
    let s := if p.colour = 2 then raise 0x0704 h p.act.meter 0 (bump 13 h s) else s
    let excess : Bool := p.act.recirc && p.second && p.punt.isNone
    let s := if excess then parseEvent 0x0404 h f p.parse.exc (setInt (A.HTH_INT_STAT h) 2 (parseCtr h 12 s)) else s
    if p.colour = 2 ∨ p.gateDrop ∨ p.discard ∨ excess then
      admitAll (mir ++ host) (putFrame p.frame { f with bytes := stored, carriesFcs := f.carriesFcs && !p.decap } s)
    else
      match p.punt with
      | some (q, reason, t) =>
        let pc := { c0 with reason := reason, vlanOp := 0, pcp := none, encode := none, decode := false, ptpTc := false, learn := none
                            tunIdx := t }
        admitAll (mir ++ host ++ (if peerOk then [(76, q, pc)] else [])) s
      | none =>
        if p.act.recirc then
          let g := recircFrame f p c0
          let rc := { c0 with learn := none, cells := cellsFor g.bytes.length }
          admitAll (mir ++ host ++ [(72 + h, physQueue s (72 + h) p.act.queue, rc)]) (putFrame p.frame g s)
        else
          let s := putFrame p.frame { f with bytes := stored, carriesFcs := f.carriesFcs && !p.decap } s
          let (fwd, s) := forwardCopies h f p c s
          admitAll (mir ++ host ++ fwd) s

/-- The Kixon copies of a frame that the host sends (R556): the ports its LINK field names. -/
def hostKixon (h : Nat) (f : Frame) (p : Pass) (s : State) : State :=
  let link := beAt f.bytes 24 1
  let type := beAt f.bytes 15 1
  let linked := (List.range 72).filter (fun q => fbit s (F.FAB_PORT_CFG_EN q) && fget s (F.FAB_PORT_STATUS_STATE q) == 2)
  let ports :=
    if link = 0x7F then linked
    else if link = 0x7E then linked.filter (fun q => fbit s (F.FAB_PORT_STATUS_UPSTREAM q))
    else linked.filter (fun q => q == link)
  if ¬ (0x20 ≤ type ∧ type ≤ 0x3F) ∨ (0x2B ≤ type ∧ type ≤ 0x2F) ∨ ports = [] then bump 21 1 s
  else
    let c := { baseCopy h f p with mgmt := true, vlanOp := 0, pcp := none, ptpTc := false }
    admitAll (ports.map (fun q => (q, physQueue s q (fget s F.FAB_CTL_TX_QUEUE), c))) s

/-- The entries of class TABLE that the release of a decision reads: table, hearth (15 for one that all hearths share), index. -/
def votedReads (s : State) (p : Pass) : List (Nat × Nat × Nat) :=
  let flood := p.act.fwdKind == 0 && p.fdb.isNone || p.noRoom
  let tuns := (if p.act.fwdKind = 2 then [p.act.dest] else []) ++ (match p.fdb with | some (1, t) => [t] | _ => [])
    ++ (if flood then floodTunnels s (bdFloodList s p.bd) else [])
    ++ (match p.repl with | some w => floodTunnels s (bits (ew w 3) 0 12) | none => [])
  let lists := (if flood then [bdFloodList s p.bd] else []) ++ (match p.repl with | some w => [bits (ew w 3) 0 12] | none => [])
  let lag := match p.fdb with | some (2, g) => [(tLag, 15, g)] | _ => []
  (if p.act.fwdKind = 0 ∧ p.keyEth.isSome then [(tBd, 15, p.bd)] else []) ++ lag
    ++ (tuns.map (fun t => (tTunnel, 15, t))) ++ (lists.filter (· != 0)).map (fun n => (tFlood, 15, n))

/-- A read of the pass, or one that its release makes, meets a poisoned entry (R709). -/
def readsPoison (s : State) (p : Pass) : Bool := p.poison || (s.hlt.poison != [] && anyPoison s (votedReads s p))

/-- Kixon hardware is on (R139). -/
def kixonOn (s : State) : Bool :=
  s.glb.base == bWaking || s.glb.base == bRun || s.glb.base == bDraining || s.glb.base == bQuiesced

/-- A voted frame leaves the decision path; a Kixon frame is dropped uncounted while Kixon hardware is off (R550). -/
def releasePass (h : Nat) (p : Pass) (s : State) : State :=
  match frameOf s p.frame with
  | none => s
  | some f =>
    if f.kixon ∧ f.srcPort = 76 then hostKixon h f p s
    else if f.kixon then
      if ¬ kixonOn s then s
      else if 256 ≤ s.fab.rx.length then bump 21 0 s else { s with fab := { s.fab with rx := s.fab.rx ++ [p.frame] } }
    else if f.spoilt ∨ readsPoison s p then bump 27 40 s
    else releaseFrame h f p s

/-! ### The vote (R699 to R705) -/

/-- Counter `i` of hearth `h` in HEALTH, and a HEALTH bit of its HTH_INT_STAT (R726). -/
def healthCtr (h i : Nat) (s : State) : State := bump 27 (8 * h + i) s
def healthInt (h i : Nat) (s : State) : State := setInt (A.HTH_INT_STAT h) (8 + i) s

def fencedNow (s : State) (h : Nat) : Bool := bitAt (rget s A.HLT_FENCE) (4 * h + 3)
def fencedCopy (s : State) (h : Nat) : Nat := bits (rget s A.HLT_FENCE) (4 * h) 2
def fencedNo (s : State) (h : Nat) : Option Nat := if fencedNow s h then some (fencedCopy s h) else none

/-- THRESH and WINDOW_MS in core clocks (R704). -/
def fenceThresh (s : State) : Nat := max 1 (fget s F.HLT_FENCE_CFG_THRESH)
def fenceWindow (s : State) : Nat := max 1 (fget s F.HLT_FENCE_CFG_WINDOW_MS) * clocksPerMs

/-- Copy `c` of hearth `h` is fenced (R704). -/
def fence (h c : Nat) (s : State) : State :=
  let s := rput A.HLT_FENCE (setBits (rget s A.HLT_FENCE) (4 * h) 4 (8 + c)) s
  let s := rput A.HLT_FENCE_STATUS (setBits (rget s A.HLT_FENCE_STATUS) (4 * h) 2 0) s
  raise 0x0F41 h c 0 (bump 27 45 (setInt A.HLT_INT_STAT 1 (healthInt h 2 s)))

/-- Copy `c` of hearth `h` is outvoted (R704). -/
def outvote (h c : Nat) (s : State) : State :=
  let s := healthInt h 1 (healthCtr h (1 + c) s)
  let l := (s.clk :: lget s.hlt.outvotes (3 * h + c)).filter (fun t => decide (s.clk < t + fenceWindow s))
  let s := { s with hlt := { s.hlt with outvotes := lput s.hlt.outvotes (3 * h + c) l } }
  if fenceThresh s ≤ l.length ∧ ¬ fencedNow s h then
    fence h c { s with hlt := { s.hlt with outvotes := lput s.hlt.outvotes (3 * h + c) [] } }
  else s

/-- HEARTH_UNRELIABLE has been recorded for hearth `h` within the window (R705). -/
def unreliableRecent (s : State) (h : Nat) : Bool :=
  match sget (fun _ => none) s.hlt.unreliable h with
  | some t => decide (s.clk < t + fenceWindow s)
  | none => false

/-- A frame is lost to a recomputation (R702, R703, R705). -/
def recomputeDrop (h : Nat) (s : State) : State :=
  let s := setInt (A.HTH_INT_STAT h) 11 (healthCtr h 5 s)
  let l := (s.clk :: lget s.hlt.drops h).filter (fun t => decide (s.clk < t + fenceWindow s))
  let s := { s with hlt := { s.hlt with drops := lput s.hlt.drops h l } }
  if fenceThresh s < l.length ∧ ¬ unreliableRecent s h then
    raise 0x0F44 h l.length 0 (setInt A.HLT_INT_STAT 2 (healthInt h 6
      { s with hlt := { s.hlt with unreliable := sput (fun _ => none) s.hlt.unreliable h (some s.clk) } }))
  else s

/-- VOTE_MISMATCH (R701, R702). -/
def voteMismatch (h c : Nat) (s : State) : State :=
  raise 0x0F40 h c 0 (setInt A.HLT_INT_STAT 0 (healthInt h 0 (healthCtr h 0 s)))

/-- A frame is recomputed, or lost when it already was (R702, R703). -/
def recompute (h : Nat) (p : Pass) (s : State) : State :=
  match frameOf s p.frame with
  | none => s
  | some f =>
    if p.recompute then recomputeDrop h s
    else
      let port := 72 + h
      let q := physQueue s port (fget s F.HLT_FENCE_CFG_RECOMP_QUEUE)
      let c := { baseCopy h f { p with decap := false } with
        learn := none, again := some p, cells := cellsFor f.bytes.length, second := true, mgmt := p.act.mgmt, yellow := p.colour == 1 }
      let (ok, s) := admitCopy port q c (healthCtr h 4 s)
      if ok then s else recomputeDrop h s

/-- A TCAM row of hearth `h` is repaired from its shadow (R712). -/
def tcamRepaired (h row : Nat) (s : State) : State := raise 0x0F47 h row 0 (bump 27 42 s)

/-- The vote on a pass (R701, R702, R712); `ok0` to `ok2` say which copies are right. -/
def votePass (h : Nat) (p : Pass) (x : VoteFaults) (s : State) : State :=
  let s := if x.writeDisagree then bump 27 47 s else s
  match x.tcamParity with
  | some row => recompute h p (tcamRepaired h row (healthInt h 4 (healthCtr h 6 s)))
  | none =>
  let ok := fun c => if c = 0 then x.ok0 else if c = 1 then x.ok1 else x.ok2
  if p.two.isSome ∨ fencedNow s h then
    let s := healthCtr h 7 s
    let voters := (List.range 3).filter (fun c => some c != p.two && some c != fencedNo s h)
    if voters.all ok ∧ ¬ x.writeDisagree then releasePass h p s
    else recompute h p (voteMismatch h 3 s)
  else
    let bad := (List.range 3).filter (fun c => !ok c)
    match bad with
    | [] => releasePass h p (if x.writeDisagree then voteMismatch h 3 s else s)
    | [c] => outvote h c (releasePass h p (voteMismatch h c s))
    | _ => recompute h p (voteMismatch h 3 s)

/-- A hearth of a higher number has voted in this core clock: hearth `h` comes too late in it (R403). -/
def voteMissed (s : State) (h : Nat) : Bool := s.tmg.lastVote.1 == s.clk && decide (h < s.tmg.lastVote.2)

/-- VOTE (R701): the oldest pass of the hearth, 490 core clocks after its entry. The hearths that vote in one core clock do
so in their order (R403; log entry 77). -/
def voteFront (h : Nat) (x : VoteFaults) (s : State) : State :=
  match pipeOf s h with
  | [] => s
  | p :: rest =>
    if p.stage < 5 ∨ s.clk < p.entry + 490 ∨ voteMissed s h then s
    else freeCells (votePass h p x (putPipe h rest { s with tmg := { s.tmg with lastVote := (s.clk, h) } }))

end Machine
end Sys2Proof
end

