-- ==== Sys2Proof/Machine/Elapse.lean ====
section
/-! DEFINITION. Machine/Elapse.lean: the passing of core clocks as every command sees it: the stages of the decision paths
take place in their clocks, and what is counted by time is counted: the time a pause takes from a port (R224 to R227) and the
bits in error of a pattern (R244). -/
namespace Sys2Proof
namespace Machine

/-! ### PAUSE (R224 to R227) -/

/-- Core clocks that a pause of port `p` lasts from the end of its PAUSE frame on: quanta of 512 bit times (R224). -/
def pauseClocks (s : State) (p : Nat) : Nat :=
  let r := portRate s p
  if r = 0 then 0 else ceilDiv ((portSt s p).quanta * 35840) (5 * r)

/-- The pause timer of port `p` is not 0 (R225). -/
def paused (s : State) (p : Nat) : Bool := decide (s.clk < (portSt s p).pauseClk + pauseClocks s p)

/-- PRT_PAUSE_STATUS.QUANTA: quanta left, a begun one counting whole. -/
def pauseQuanta (s : State) (p : Nat) : Nat :=
  let x := portSt s p
  x.quanta - 5 * (s.clk - x.pauseClk) * portRate s p / 35840

/-- Queue `q` of port `p` is gated: its ledger closes it in at least one line (R227). -/
def closesSomewhere (s : State) (p q : Nat) : Bool :=
  let b := (ledgerOf s p (portBank s p)).bank
  b.mode != 0 && b.lines.any (fun l => !bitAt l.gates q)

/-- A gated queue of port `p` that holds a copy has its gate open (R227). -/
def windowPasses (s : State) (p : Nat) : Bool :=
  (List.range 16).any (fun q => closesSomewhere s p q && gateOpen s p q && !(queueOf s (qkey p q)).isEmpty)

/-- Counting of the next `dt` core clocks of port `p`'s pause: paused time, and window time lost. -/
def pauseCount (dt p : Nat) (s : State) : State :=
  let x := portSt s p
  let n := min dt (x.pauseClk + pauseClocks s p - s.clk)
  if n = 0 then s
  else
    let lost := (List.range n).countP (fun i => windowPasses (passClocks i s) p)
    let a := x.pauseRem + 5 * n
    let b := x.lossRem + 5 * lost
    let s := bumpN 0 (24 * p + 15) (b / 7) (bumpN 0 (24 * p + 14) (a / 7) s)
    let seen := x.lossSeen || decide (0 < lost)
    let s := putPort p { x with pauseRem := a % 7, lossRem := b % 7, lossSeen := seen } s
    if seen ∧ ¬ x.lossSeen then raise 0x0307 p 0 0 (setInt (A.PRT_INT_STAT p) 3 s) else s

/-- Counting of the next `dt` core clocks of every pause. -/
def pauseCounts (dt : Nat) (s : State) : State :=
  (s.prt.filter (fun e => e.2.quanta != 0)).foldl (fun s e => pauseCount dt e.1 s) s

/-! ### Loopbacks (R242, R243) -/

/-- PRT_LOOPBACK.KIND of port `p` as it acts: in DIAGNOSTIC only (R242); reserved values act as NONE. -/
def loopKind (s : State) (p : Nat) : Nat :=
  let k := fget s (F.PRT_LOOPBACK_KIND p)
  if p < 72 ∧ s.glb.base = bDiagnostic ∧ k < 5 then k else 0

/-- What port `p` transmits comes back to its own receiver: MAC_LOCAL, PCS_LOCAL, PMA_NEAR (R243). -/
def localLoop (s : State) (p : Nat) : Bool := decide (1 ≤ loopKind s p) && decide (loopKind s p ≤ 3)

/-! ### Pattern checks (R242, R244) -/

/-- The pattern that a pattern register names, as it acts: 1 to 6 PRBS, 7 SSPRQ on PAM4 only; 0 none. -/
def patternOf (s : State) (p : Nat) : Nat :=
  let n := fget s (F.PRT_PRBS_CFG_PATTERN p)
  if s.glb.base = bDiagnostic ∧ n < 8 ∧ (n < 7 ∨ fbit s (F.PRT_DIAG_RATE_PAM4 p)) then n else 0

/-- Lane `k` of the group of port `p` is selected by LANE_MASK. -/
def patternLane (s : State) (p k : Nat) : Bool :=
  decide (k < modeLanes (portSt s p).mode) && bitAt (fget s (F.PRT_PRBS_CFG_LANE_MASK p)) k

/-- The generator of port `p` sends its pattern on lane `k`. -/
def generates (s : State) (p k : Nat) : Bool := fbit s (F.PRT_PRBS_CFG_GEN_EN p) && patternLane s p k && patternOf s p != 0

/-- The checker of port `p` checks lane `k`. -/
def checks (s : State) (p k : Nat) : Bool := fbit s (F.PRT_PRBS_CFG_CHK_EN p) && patternLane s p k && patternOf s p != 0

/-- Bits in error that the checker finds on lane `k` in the next `dt` core clocks: none where the lane's own pattern comes back
inside the SerDes (R243); from the partner, what the lane brings, which is free (log entry 80). -/
def patternErrors (s : State) (p k dt : Nat) : Nat :=
  if loopKind s p = 3 ∧ generates s p k then 0 else Config.patternErrors p k s.clk dt

/-- The checker of lane `k` counts (R244). -/
def patternCount (dt p k : Nat) (s : State) : State :=
  let n := if checks s p k then patternErrors s p k dt else 0
  if n = 0 then s else setInt (A.PRT_INT_STAT p) 7 (faddSat (F.PRT_PRBS_ERR_ERRORS p k) n s)

/-- Every checker counts (R242, R244). -/
def patternCounts (dt : Nat) (s : State) : State :=
  if s.glb.base = bDiagnostic then
    (List.range 72).foldl (fun s p => (List.range 8).foldl (fun s k => patternCount dt p k s) s) s
  else s

/-! ### Commands that clocks bring about -/

/-- `dt` core clocks pass: starved rings whose pools have rooms again are so no more (R605), this one ends, pauses and pattern
errors are counted, stages take place (R246, R664). -/
def passTime (dt : Nat) (s : State) : State :=
  if dt = 0 then s else beginClock (elapse dt (patternCounts dt (pauseCounts dt (endClock (stagesNow (unstarve s))))))

/-- A command that the clocks or the outside bring about, `dt` core clocks after the command before it. -/
def timed (c : Instr) (dt : Nat) (s : State) (f : State → State) : Host.Outcome State Fault Refusal :=
  command c s (fun s => f (passTime dt s))

/-- One core clock passes with no command; a device held in cold reset does not count it. -/
def idleClock (s : State) : State := if held s then s else after (passTime 1) s

end Machine
end Sys2Proof
end

