-- ==== Sys2Proof/Machine/Guestbook.lean ====
section
/-! DEFINITION. Machine/Guestbook.lean: the log of the Guestbook, its summaries, its reading and clearing, its spill
(chapter 17, R676 to R697, R767). Raising an event is in Ops. -/
namespace Sys2Proof
namespace Machine

/-- Records the log holds at most, and non-CRITICAL ones (R686). -/
def logSlots : Nat := 16384
def logMinor : Nat := 15360

/-- `a` lies at or after `b` in SEQ order (R680). -/
def seqAtOrAfter (a b : Nat) : Bool := decide ((a + 2 ^ 32 - b % 2 ^ 32) % 2 ^ 32 < 2 ^ 31)

/-- `a` lies before `b` in SEQ order (R680). -/
def seqBefore (a b : Nat) : Bool :=
  let d := (b + 2 ^ 32 - a % 2 ^ 32) % 2 ^ 32
  decide (0 < d) && decide (d < 2 ^ 31)

/-- The 32 bytes of a record (R678); `lap` is the LAP bit, set in the spill ring only. -/
def recordBytes (r : GbkRecord) (lap : Bool) : List Byte :=
  leBytes 4 r.seq ++ leBytes 2 r.code ++ [BitVec.ofNat 8 (r.sev + 4 * b2n r.unset + 8 * b2n r.summary), BitVec.ofNat 8 r.unit]
    ++ fitBytes 12 r.time ++ leBytes 4 r.arg0 ++ leBytes 4 r.arg1 ++ leBytes 4 (2 ^ 31 + 2 ^ 30 * b2n lap)

/-- MARK.VALID of a record of the log: it is set in the core clock after the placement (R687). -/
def validNow (s : State) (r : GbkRecord) : Bool := decide (r.put < s.clk)

/-- Take the first record that satisfies `p` out of the log. -/
def takeOut (p : GbkRecord → Bool) : List GbkRecord → Option (GbkRecord × List GbkRecord)
  | [] => none
  | r :: t =>
    if p r then some (r, t)
    else
      match takeOut p t with
      | some (x, t') => some (x, r :: t')
      | none => none

/-- The spill is enabled and takes records of severity `sev` (R692). -/
def spillWants (s : State) (sev : Nat) : Bool :=
  fbit s F.GBK_SPILL_CTL_EN && decide (fget s F.GBK_SPILL_CTL_MIN_SEV ≤ sev)

/-- A record leaves the log before it was spilled (R695). -/
def missSpill (r : GbkRecord) (s : State) : State :=
  if spillWants s r.sev && seqAtOrAfter r.seq s.gbk.spillNext then
    gbkCtr 13 { s with gbk := { s.gbk with spillMissed := s.gbk.spillMissed + 1 } }
  else s

/-- A record enters the log and takes the next SEQ (R680, R686, R687). -/
def enterLog (r : GbkRecord) (log : List GbkRecord) (s : State) : State :=
  let q := rget s A.GBK_SEQ_NEXT
  let s := { s with gbk := { s.gbk with log := log ++ [{ r with seq := q, put := s.clk }] } }
  let s := rput A.GBK_SEQ_NEXT ((q + 1) % 2 ^ 32) s
  let s := gbkCtr r.sev s
  let s := if r.unset then gbkCtr 14 s else s
  let s := setInt A.GBK_INT_STAT 0 s
  if r.sev = 3 then setInt A.GBK_INT_STAT 1 s else s

/-- A record is displaced from the log (R686, R688). -/
def displace (old : GbkRecord) (s : State) : State :=
  let s := missSpill old (gbkCtr (6 + old.sev) s)
  if s.gbk.fullSeen then s
  else
    raise 0x0F02 noUnit 0 0 (setInt A.GBK_INT_STAT 2 { s with gbk := { s.gbk with fullSeen := true } })

/-- Place a record by the first rule of R686 that applies. -/
def placeRecord (r : GbkRecord) (s : State) : State :=
  let log := s.gbk.log
  let minor := log.countP (fun x => x.sev != 3)
  if log.length < logSlots ∧ (r.sev = 3 ∨ minor < logMinor) then enterLog r log s
  else
    match takeOut (fun x => decide (x.sev < r.sev)) log with
    | some (old, rest) => displace old (enterLog r rest s)
    | none =>
      match (if r.sev = 3 then none else takeOut (fun x => x.sev == r.sev) log) with
      | some (old, rest) => displace old (enterLog r rest s)
      | none => if r.sev = 3 then setInt A.GBK_INT_STAT 3 (gbkCtr 10 s) else gbkCtr 9 s

/-- The record of a queued event; its SEQ is given as it enters the log. -/
def eventRecord (e : GbkEvent) : GbkRecord :=
  { seq := 0, code := e.code, sev := severityOf e.code, unset := e.unset, summary := false, unit := e.unit, time := e.time
    arg0 := e.arg0, arg1 := e.arg1, put := 0 }

/-- The writer takes the event at the front of the input queue and places it (R685, R686). -/
def placeNext (s : State) : State :=
  match s.gbk.queue with
  | [] => s
  | e :: t => placeRecord (eventRecord e) { s with gbk := { s.gbk with queue := t, wrote := some s.clk } }

/-- Place the events that wait, as a warm reset does before it completes (R691). -/
def placeAll : List GbkEvent → State → State
  | [], s => s
  | _ :: t, s => placeAll t (placeNext s)

/-- EVENT_RAISE (R682): any block's event reaches its bucket. -/
def execEventRaise (dt code unit arg0 arg1 : Nat) (s : State) : Host.Outcome State Fault Refusal :=
  timed (.eventRaise dt code unit arg0 arg1) dt s (raise code unit arg0 arg1)

/-- GBK_SUM_MS in core clocks; 0 acts as 1. -/
def sumClocks (s : State) : Nat := max 1 (fget s F.GBK_SUM_MS_MS) * clocksPerMs

/-- The summary timer of a code has run (R684). -/
def summaryDue (s : State) (p : Suppressed) : Bool := p.count != 0 && decide (p.first + sumClocks s ≤ s.clk)

/-- The summary of `code` is due, and comes before every other that is: the timers run out in the order in which they were
started, those of one core clock in ascending code order (R767). -/
def summaryNext (s : State) (code : Nat) : Bool :=
  let p := sget suppressedDefault s.gbk.suppressed code
  summaryDue s p && s.gbk.suppressed.all (fun e =>
    !summaryDue s e.2 || decide (p.first < e.2.first) || (p.first == e.2.first && decide (code ≤ e.1)))

/-- The writer has placed nothing in this core clock yet. -/
def writerFree (s : State) : Bool := s.gbk.wrote != some s.clk

/-- LOG_PLACEMENT (R685 to R688): one event in a core clock, and none in one in which a summary is due (R767). -/
def execLogPlacement (dt : Nat) (s : State) : Host.Outcome State Fault Refusal :=
  timed (.logPlacement dt) dt s (fun s =>
    if writerFree s ∧ ¬ s.gbk.suppressed.any (fun e => summaryDue s e.2) then placeNext s else s)

/-- Place the summary of a code whose timer has run (R684, R767). -/
def placeSummary (code : Nat) (s : State) : State :=
  let p := sget suppressedDefault s.gbk.suppressed code
  let w := recordTime s
  let r : GbkRecord :=
    { seq := 0, code := code, sev := severityOf code, unset := w.1, summary := true, unit := noUnit, time := w.2
      put := 0, arg0 := p.count, arg1 := min ((p.last - p.first) / clocksPerMs) (2 ^ 32 - 1) }
  let s := { s with gbk := { s.gbk with
    suppressed := sput suppressedDefault s.gbk.suppressed code (suppressedDefault code), wrote := some s.clk } }
  placeRecord r (gbkCtr 5 s)

/-- SUMMARY_TIMER (R684): the summary is placed when it comes next and the writer has placed nothing in this core clock. -/
def execSummaryTimer (dt code : Nat) (s : State) : Host.Outcome State Fault Refusal :=
  timed (.summaryTimer dt code) dt s (fun s => if summaryNext s code ∧ writerFree s then placeSummary code s else s)

/-- Write the words of a captured record (R689). -/
def putWords (a : Nat) (l : List Byte) (s : State) : State :=
  (List.range 8).foldl (fun s k => rput (a + 4 * k) (leAt l (4 * k) 4) s) s

/-- Capture the first valid record at or after a SEQ (R689). -/
def captureRecord (v : Nat) (s : State) : State :=
  let s := rput A.GBK_RD_SEQ v s
  match s.gbk.log.find? (fun r => validNow s r && seqAtOrAfter r.seq v) with
  | some r => fput F.GBK_RD_STATUS_FOUND 1 (putWords (A.GBK_RD_W 0) (recordBytes r false) s)
  | none => fput F.GBK_RD_STATUS_FOUND 0 s

/-- GBK_RD_SEQ_WRITE (R689). -/
def execGbkRdSeqWrite (value : Word) (s : State) : Host.Outcome State Fault Refusal :=
  hostCmd (.gbkRdSeqWrite value) A.GBK_RD_SEQ s (captureRecord value.toNat)

/-- Remove the records that satisfy `p`, but for one placed in this core clock (R690); `op` is the command carried in the
record. -/
def clearLog (op : Nat) (want : GbkRecord → Bool) (s : State) : State :=
  let p := fun r => want r && validNow s r
  let gone := s.gbk.log.filter p
  let s := gone.foldl (fun s r => missSpill r s) s
  let s := { s with gbk := { s.gbk with log := s.gbk.log.filter (fun r => !p r), fullSeen := false } }
  raise 0x0F01 noUnit op gone.length (bumpN 28 15 gone.length s)

/-- GBK_CMD.OP = CLEAR (R690). -/
def gbkClearOp (s : State) : State :=
  clearLog 1 (fun r => r.sev != 3 && seqBefore r.seq (rget s A.GBK_CMD_ARG)) s

/-- GBK_CMD.OP = CLEAR_ALL (R690). -/
def gbkClearAllOp (s : State) : State := clearLog 2 (fun _ => true) s

/-- CLEAR (R690). -/
def execGbkClear (s : State) : Host.Outcome State Fault Refusal := hostCmd .gbkClear A.GBK_CMD s gbkClearOp

/-- CLEAR_ALL (R690). -/
def execGbkClearAll (s : State) : Host.Outcome State Fault Refusal := hostCmd .gbkClearAll A.GBK_CMD s gbkClearAllOp

/-- Records of the spill ring, 2^SIZE with SIZE from 6 to 20 (R692). -/
def spillSize (s : State) : Nat := 2 ^ clampN (fget s F.GBK_SPILL_SIZE_SIZE) 6 20

/-- Address of the spill ring. -/
def spillBase (s : State) : Nat := rget64 s A.GBK_SPILL_BASE_HI A.GBK_SPILL_BASE_LO

/-- Write the records of a batch, numbered from `n` on: bytes 0 to 27 of each, then the MARK words (R693, R694). -/
def spillWrite (base size n : Nat) (rs : List GbkRecord) (s : State) : State :=
  let at' := fun i => base + 32 * ((n + i) % size)
  let lap := fun i => (n + i) / size % 2 == 0
  let ix := rs.zipIdx
  let s := ix.foldl (fun s e => memWrite (at' e.2) ((recordBytes e.1 (lap e.2)).take 28) s) s
  ix.foldl (fun s e => memWrite (at' e.2 + 28) ((recordBytes e.1 (lap e.2)).drop 28) s) s

/-- The codes of a severity. -/
def codesOf (sev : Nat) : List Nat :=
  if sev = 0 then infoCodes else if sev = 1 then warnCodes else if sev = 2 then errorCodes else critCodes

/-- A write of a rate or burst of severity `sev` applies to every bucket of it from the next core clock on. -/
def gbkRetune (sev a v : Nat) (s : State) : State :=
  let rate := fgetInForce s (F.GBK_RL_RATE_RATE sev)
  let burst := fgetInForce s (F.GBK_RL_BURST_BURST sev)
  let s := writeRw a v (keepInForce a s)
  let settled := fun (m : List (Nat × Bucket)) c =>
    sput gbkBucketDefault m c { level := bucketLevel rate burst s.clk (sget gbkBucketDefault m c), stamp := s.clk }
  { s with gbk := { s.gbk with buckets := (codesOf sev).foldl settled s.gbk.buckets } }

/-- Valid records of the log. -/
def heldRecords (s : State) : List GbkRecord := s.gbk.log.filter (validNow s)

/-- GBK_STATUS: records held, CRITICAL ones above (R686). -/
def gbkStatus (s : State) : Nat := (heldRecords s).countP (fun r => r.sev == 3) * 2 ^ 16 + (heldRecords s).length

/-- GBK_SEQ_OLDEST. -/
def gbkOldest (s : State) : Nat := match (heldRecords s).head? with | some r => r.seq | none => rget s A.GBK_SEQ_NEXT

end Machine
end Sys2Proof
end

