-- ==== Sys2Proof/Machine/Crypto.lean ====
section
/-! DEFINITION. Machine/Crypto.lean: the published algorithms the manual names: AES (FIPS 197), AES-CMAC (RFC 4493, R552),
AES key unwrap (RFC 3394, R584), AES-256-GCM (R70), SHA-384 (FIPS 180-4, R74) and ECDSA over P-384 (FIPS 186, R71). -/
namespace Sys2Proof
namespace Machine

/-! ### AES -/

/-- Multiplication by x in GF(2⁸) modulo x⁸ + x⁴ + x³ + x + 1. -/
def xtime (a : Nat) : Nat := if 128 ≤ a then (2 * a) % 256 ^^^ 0x1B else 2 * a

/-- Multiplication in GF(2⁸). -/
def gmul8 (a b : Nat) : Nat :=
  ((List.range 8).foldl (fun (p : Nat × Nat) i => (if b.testBit i then p.1 ^^^ p.2 else p.1, xtime p.2)) (0, a)).1

/-- The inverse in GF(2⁸): a²⁵⁴; 0 of 0. -/
def ginv8 (a : Nat) : Nat :=
  let a2 := gmul8 a a; let a3 := gmul8 a2 a; let a6 := gmul8 a3 a3; let a12 := gmul8 a6 a6
  let a15 := gmul8 a12 a3; let a30 := gmul8 a15 a15; let a60 := gmul8 a30 a30; let a120 := gmul8 a60 a60
  let a126 := gmul8 a120 a6; let a127 := gmul8 a126 a
  gmul8 a127 a127

/-- Rotate a byte left. -/
def rotl8 (a k : Nat) : Nat := (a * 2 ^ k + a / 2 ^ (8 - k)) % 256

/-- The S-box. -/
def sbox (a : Nat) : Nat :=
  let b := ginv8 a
  b ^^^ rotl8 b 1 ^^^ rotl8 b 2 ^^^ rotl8 b 3 ^^^ rotl8 b 4 ^^^ 0x63

/-- The inverse S-box. -/
def sboxInv (a : Nat) : Nat := ginv8 (rotl8 a 1 ^^^ rotl8 a 3 ^^^ rotl8 a 6 ^^^ 5)

/-- Exclusive or of two byte strings. -/
def xorBytes (a b : List Nat) : List Nat := List.zipWith (· ^^^ ·) a b

/-- The key schedule, newest word first: words of four bytes. -/
def expandKey (nk : Nat) : Nat → Nat → Nat → List (List Nat) → List (List Nat)
  | 0, _, _, w => w
  | n + 1, i, rcon, w =>
    let prev := w.headD []
    let back := w.getD (nk - 1) []
    let t :=
      if i % nk = 0 then xorBytes ((prev.drop 1 ++ prev.take 1).map sbox) [rcon, 0, 0, 0]
      else if 6 < nk ∧ i % nk = 4 then prev.map sbox
      else prev
    expandKey nk n (i + 1) (if i % nk = 0 then xtime rcon else rcon) (xorBytes back t :: w)

/-- Cut a list into pieces of `n`, at most `k` of them. -/
def pieces {α : Type} (n : Nat) : Nat → List α → List (List α)
  | 0, _ => []
  | k + 1, l => if l.isEmpty then [] else l.take n :: pieces n k (l.drop n)

/-- The round keys of a key of 16 or 32 bytes. -/
def roundKeys (key : List Nat) : List (List Nat) :=
  let nk := key.length / 4
  let words := (expandKey nk (4 * (nk + 7) - nk) nk 1 (pieces 4 nk key).reverse).reverse
  (pieces 4 (nk + 7) words).map List.flatten

/-- Byte `4c + r` of the result is byte `4((c + r) mod 4) + r`. -/
def shiftRows (s : List Nat) : List Nat :=
  (List.range 16).map (fun i => s.getD (4 * ((i / 4 + i % 4) % 4) + i % 4) 0)
def shiftRowsInv (s : List Nat) : List Nat :=
  (List.range 16).map (fun i => s.getD (4 * ((i / 4 + 4 - i % 4) % 4) + i % 4) 0)

/-- One column times the matrix with first row `m`. -/
def mixColumn (m c : List Nat) : List Nat :=
  (List.range 4).map (fun r => (List.range 4).foldl (fun a j => a ^^^ gmul8 (m.getD ((j + 4 - r) % 4) 0) (c.getD j 0)) 0)
def mixColumns (m s : List Nat) : List Nat := ((pieces 4 4 s).map (mixColumn m)).flatten

/-- AES encryption of one block of 16 bytes. -/
def aesEnc (key blk : List Nat) : List Nat :=
  match roundKeys key with
  | [] => blk
  | k0 :: ks =>
    let n := ks.length
    (ks.zipIdx).foldl (fun s e =>
      let t := shiftRows (s.map sbox)
      xorBytes (if e.2 + 1 = n then t else mixColumns [2, 3, 1, 1] t) e.1) (xorBytes blk k0)

/-- AES decryption of one block. -/
def aesDec (key blk : List Nat) : List Nat :=
  match (roundKeys key).reverse with
  | [] => blk
  | k0 :: ks =>
    let n := ks.length
    (ks.zipIdx).foldl (fun s e =>
      let t := xorBytes ((shiftRowsInv s).map sboxInv) e.1
      if e.2 + 1 = n then t else mixColumns [14, 11, 13, 9] t) (xorBytes blk k0)

def toNats (l : List Byte) : List Nat := l.map (fun b => b.toNat)
def toByteList (l : List Nat) : List Byte := l.map (fun n => BitVec.ofNat 8 n)

/-- A number as bytes, most significant first. -/
def natBe (n v : Nat) : List Nat := toNats (beBytes n v)
def ofNatBe (l : List Nat) : Nat := l.foldl (fun a b => a * 256 + b) 0

/-! ### AES-CMAC (RFC 4493) -/

/-- Doubling in GF(2¹²⁸) (the subkeys). -/
def cmacDouble (l : List Nat) : List Nat :=
  let v := ofNatBe l
  natBe 16 (if v < 2 ^ 127 then 2 * v else (2 * v) % 2 ^ 128 ^^^ 0x87)

/-- AES-CMAC of a message under a 16-byte key. -/
def aesCmac (key msg : List Byte) : List Byte :=
  let k := toNats key
  let m := toNats msg
  let k1 := cmacDouble (aesEnc k (List.replicate 16 0))
  let n := max 1 (ceilDiv m.length 16)
  let lead := m.take (16 * (n - 1))
  let tail := m.drop (16 * (n - 1))
  let last := if tail.length = 16 then xorBytes tail k1
    else xorBytes (tail ++ [0x80] ++ List.replicate (15 - tail.length) 0) (cmacDouble k1)
  let c := (pieces 16 n lead).foldl (fun c b => aesEnc k (xorBytes c b)) (List.replicate 16 0)
  toByteList (aesEnc k (xorBytes c last))

/-! ### AES key unwrap (RFC 3394) -/

/-- The steps of the unwrapping, from step `t` downwards, on A and the blocks R₁ … Rₙ. -/
def unwrapSteps (kek : List Nat) (n : Nat) : Nat → List Nat → List (List Nat) → List Nat × List (List Nat)
  | 0, a, r => (a, r)
  | t + 1, a, r =>
    let i := t % n
    let b := aesDec kek (xorBytes a (natBe 8 (t + 1)) ++ r.getD i [])
    unwrapSteps kek n t (b.take 8) (r.set i (b.drop 8))

/-- The key that a wrapped key holds, when its integrity check holds. -/
def keyUnwrap (kek wrapped : List Byte) : Option (List Byte) :=
  let c := pieces 8 (wrapped.length / 8) (toNats wrapped)
  let n := c.length - 1
  if wrapped.length % 8 ≠ 0 ∨ n < 2 then none
  else
    let (a, r) := unwrapSteps (toNats kek) n (6 * n) (c.headD []) (c.drop 1)
    if a = List.replicate 8 0xA6 then some (toByteList r.flatten) else none

/-! ### AES-256-GCM -/

/-- Multiplication in GF(2¹²⁸) as GCM numbers it: the first bit is the most significant. -/
def gmul128 (x y : Nat) : Nat :=
  ((List.range 128).foldl (fun (p : Nat × Nat) i =>
    (if x.testBit (127 - i) then p.1 ^^^ p.2 else p.1,
     if p.2 % 2 = 1 then p.2 / 2 ^^^ 0xE1000000000000000000000000000000 else p.2 / 2)) (0, y)).1

/-- GHASH over whole blocks of 16 bytes. -/
def ghash (h : Nat) (blocks : List (List Nat)) : Nat :=
  blocks.foldl (fun y b => gmul128 (y ^^^ ofNatBe (b ++ List.replicate (16 - b.length) 0)) h) 0

/-- The plaintext of the first bytes of a message with a 12-byte nonce, its tag not checked: counter mode from block 2 on. -/
def gcmStream (key iv data : List Byte) : List Byte :=
  let k := toNats key
  let d := toNats data
  toByteList (((pieces 16 (ceilDiv d.length 16) d).zipIdx).map (fun e =>
    xorBytes e.1 (aesEnc k (toNats iv ++ natBe 4 (e.2 + 2))))).flatten

/-- Decryption of a message with a 12-byte nonce, additional data and a 16-byte tag; `none` where the tag fails. -/
def gcmDecrypt (key iv aad data tag : List Byte) : Option (List Byte) :=
  let k := toNats key
  let h := ofNatBe (aesEnc k (List.replicate 16 0))
  let block := fun (c : Nat) => aesEnc k (toNats iv ++ natBe 4 c)
  let d := toNats data
  let a := toNats aad
  let dp := pieces 16 (ceilDiv d.length 16) d
  let s := ghash h (pieces 16 (ceilDiv a.length 16) a ++ dp ++ [natBe 8 (8 * a.length) ++ natBe 8 (8 * d.length)])
  if toNats tag = xorBytes (natBe 16 s) (block 1) then
    some (toByteList ((dp.zipIdx).map (fun e => xorBytes e.1 (block (e.2 + 2)))).flatten)
  else none

/-! ### SHA-384 -/

def rotr64 (x k : Nat) : Nat := x / 2 ^ k ||| (x * 2 ^ (64 - k)) % 2 ^ 64

/-- The first `n` primes from `p` on, by trial division. -/
def primesFrom : Nat → Nat → Nat → List Nat
  | 0, _, _ => []
  | _, 0, _ => []
  | fuel + 1, n + 1, p =>
    if (List.range (Nat.sqrt p - 1)).all (fun d => p % (d + 2) != 0) then p :: primesFrom fuel n (p + 1)
    else primesFrom fuel (n + 1) (p + 1)

/-- The integer cube root of `x`, at most `2 ^ k`, by its bits from the top. -/
def cubeRoot (x : Nat) : Nat → Nat → Nat
  | 0, r => r
  | k + 1, r => let c := r + 2 ^ k; cubeRoot x k (if c * c * c ≤ x then c else r)

/-- The 80 constants: the first 64 bits of the fractions of the cube roots of the first 80 primes. -/
def sha512K : List Nat := (primesFrom 500 80 2).map (fun p => cubeRoot (p * 2 ^ 192) 68 0 % 2 ^ 64)

/-- The initial value of SHA-384: the fractions of the square roots of the ninth to sixteenth primes. -/
def sha384Init : List Nat := ((primesFrom 100 16 2).drop 8).map (fun p => Nat.sqrt (p * 2 ^ 128) % 2 ^ 64)

/-- The message schedule, newest word first. -/
def shaSchedule : Nat → List Nat → List Nat
  | 0, w => w
  | n + 1, w =>
    let a := w.getD 1 0
    let b := w.getD 14 0
    let s1 := rotr64 a 19 ^^^ rotr64 a 61 ^^^ (a / 2 ^ 6)
    let s0 := rotr64 b 1 ^^^ rotr64 b 8 ^^^ (b / 2 ^ 7)
    shaSchedule n ((s1 + w.getD 6 0 + s0 + w.getD 15 0) % 2 ^ 64 :: w)

/-- One round. -/
def shaRound (v : List Nat) (kw : Nat) : List Nat :=
  let a := v.getD 0 0; let b := v.getD 1 0; let c := v.getD 2 0; let d := v.getD 3 0
  let e := v.getD 4 0; let f := v.getD 5 0; let g := v.getD 6 0; let h := v.getD 7 0
  let s1 := rotr64 e 14 ^^^ rotr64 e 18 ^^^ rotr64 e 41
  let ch := (e &&& f) ^^^ ((2 ^ 64 - 1 - e) &&& g)
  let t1 := h + s1 + ch + kw
  let s0 := rotr64 a 28 ^^^ rotr64 a 34 ^^^ rotr64 a 39
  let mj := (a &&& b) ^^^ (a &&& c) ^^^ (b &&& c)
  [(t1 + s0 + mj) % 2 ^ 64, a, b, c, (d + t1) % 2 ^ 64, e, f, g]

/-- One block of 128 bytes. -/
def shaBlock (h : List Nat) (blk : List Nat) : List Nat :=
  let w := (shaSchedule 64 ((pieces 8 16 blk).map ofNatBe).reverse).reverse
  let v := (List.zipWith (· + ·) sha512K w).foldl shaRound h
  List.zipWith (fun a b => (a + b) % 2 ^ 64) h v

/-- SHA-384. -/
def sha384 (msg : List Byte) : List Byte :=
  let m := toNats msg
  let n := m.length
  let total := ceilDiv (n + 17) 128 * 128
  let padded := m ++ [0x80] ++ List.replicate (total - n - 17) 0 ++ natBe 16 (8 * n)
  (toByteList (((pieces 128 (total / 128) padded).foldl shaBlock sha384Init).flatMap (natBe 8))).take 48

/-! ### ECDSA over P-384 -/

def p384 : Nat := 2 ^ 384 - 2 ^ 128 - 2 ^ 96 + 2 ^ 32 - 1
def p384N : Nat := 0xFFFFFFFFFFFFFFFFFFFFFFFFFFFFFFFFFFFFFFFFFFFFFFFFC7634D81F4372DDF581A0DB248B0A77AECEC196ACCC52973
def p384B : Nat := 0xB3312FA7E23EE7E4988E056BE3F82D19181D9C6EFE8141120314088F5013875AC656398D8A2ED19D2A85C8EDD3EC2AEF
def p384Gx : Nat := 0xAA87CA22BE8B05378EB1C71EF320AD746E1D3B628BA79B9859F741E082542A385502F25DBF55296C3A545E3872760AB7
def p384Gy : Nat := 0x3617DE4A96262C6F5D9E98BF9292DC29F8F41DBD289A147CE9DA3113B5F0B8C00A60B1CE1D7E819D7A431D7C90EA0E5F

/-- `a ^ e mod m` over the low `k` bits of `e`. -/
def powMod (m : Nat) : Nat → Nat → Nat → Nat
  | 0, _, _ => 1
  | k + 1, a, e => (if e % 2 = 1 then a * powMod m k (a * a % m) (e / 2) else powMod m k (a * a % m) (e / 2)) % m

/-- Inverse modulo a prime of 384 bits. -/
def invMod (m a : Nat) : Nat := powMod m 384 (a % m) (m - 2)

/-- Addition of points; `none` is the point at infinity. -/
def p384Add : Option (Nat × Nat) → Option (Nat × Nat) → Option (Nat × Nat)
  | none, q => q
  | p, none => p
  | some (x1, y1), some (x2, y2) =>
    if x1 = x2 ∧ (y1 + y2) % p384 = 0 then none
    else
      let l := if x1 = x2 then (3 * x1 * x1 + (p384 - 3)) * invMod p384 (2 * y1) % p384
        else (y2 + p384 - y1) * invMod p384 (x2 + p384 - x1) % p384
      let x3 := (l * l + 2 * p384 - x1 - x2) % p384
      some (x3, (l * (x1 + p384 - x3) + p384 - y1) % p384)

/-- Multiple of a point by the low `n` bits of `k`. -/
def p384Mul : Nat → Nat → Option (Nat × Nat) → Option (Nat × Nat)
  | 0, _, _ => none
  | n + 1, k, p =>
    let r := p384Mul n (k / 2) (p384Add p p)
    if k % 2 = 1 then p384Add p r else r

/-- Verification of the signature (r, s) over a digest with public key (x, y), all as big-endian bytes. -/
def ecdsaVerify (pub sig digest : List Byte) : Bool :=
  let x := ofBe (pub.take 48)
  let y := ofBe ((pub.drop 48).take 48)
  let r := ofBe (sig.take 48)
  let t := ofBe ((sig.drop 48).take 48)
  let onCurve := x < p384 ∧ y < p384 ∧ (y * y) % p384 = (x * x * x + (p384 - 3) * x + p384B) % p384
  if ¬ onCurve ∨ r = 0 ∨ t = 0 ∨ p384N ≤ r ∨ p384N ≤ t then false
  else
    let w := invMod p384N t
    let e := ofBe digest
    match p384Add (p384Mul 384 (e * w % p384N) (some (p384Gx, p384Gy))) (p384Mul 384 (r * w % p384N) (some (x, y))) with
    | none => false
    | some (px, _) => px % p384N == r

end Machine
end Sys2Proof
end

