-- ==== Sys2Proof/Machine/Time.lean ====
section
/-! DEFINITION. Machine/Time.lean: device time: samples, trackers, the servo, domains, steps, and the pulse and clock
pins (chapter 11, R489 to R530). -/
namespace Sys2Proof
namespace Machine

/-! ### The servo's settings -/

/-- lim in ppb (TIM_SERVO_LIMIT). -/
def servoLimit (s : State) : Nat := clampN (fget s F.TIM_SERVO_LIMIT_LIMIT) 1 2000000

/-- The loss time of a tracker in core clocks. -/
def lossClocks (s : State) : Nat := max 1 (fget s F.TIM_LOSS_MS_MS) * clocksPerMs

/-- Set the frequency adjustment, in 2⁻¹⁰ ppb (R491). -/
def setAdj (a : Int) (s : State) : State :=
  if a = s.tim.adj then s else pushHist { s with tim := { s.tim with adj := a } }

/-- `x` in 2⁻²⁴ ppb clamped to ±lim and taken in 2⁻¹⁰ ppb. -/
def clampAdj (s : State) (x : Int) : Int :=
  let lim : Int := Int.ofNat (servoLimit s)
  asr (clampI x (-(lim * 2 ^ 24)) (lim * 2 ^ 24)) 14

/-- The adjustment of TIM_FREQ_ADJ, clamped to ±lim (R514). -/
def hostAdj (s : State) : Int :=
  let lim : Int := Int.ofNat (servoLimit s) * 1024
  clampI (toSigned 32 (rget s A.TIM_FREQ_ADJ)) (-lim) lim

/-- TIM_STATUS.SLEWING shows whether an adjustment, in 2⁻²⁴ ppb, is beyond ±lim and so clamped (R513). -/
def noteSlew (x : Int) (s : State) : State :=
  fput F.TIM_STATUS_SLEWING (b2n (decide (servoLimit s * 2 ^ 24 < x.natAbs))) s

/-- The servo is off: a is TIM_FREQ_ADJ (R514). -/
def followHostAdj (s : State) : State :=
  if fbit s F.TIM_CTL_SERVO_EN then s else setAdj (hostAdj s) (noteSlew (toSigned 32 (rget s A.TIM_FREQ_ADJ) * 2 ^ 14) s)

/-- TIME_LOST stands: a is −integ, clamped (R522). -/
def followInteg (s : State) : State :=
  if fbit s F.TIM_CTL_SERVO_EN then setAdj (clampAdj s (-s.tim.integ)) (noteSlew s.tim.integ s) else s

/-! ### Trackers (R510) -/

def trk (s : State) (d : Nat) : Tracker := if d = 0 then s.tim.trkA else s.tim.trkB
def setTrk (d : Nat) (k : Tracker) (s : State) : State :=
  if d = 0 then { s with tim := { s.tim with trkA := k } } else { s with tim := { s.tim with trkB := k } }

/-- State of a tracker: 0 IDLE, 1 ACQUIRING, 2 TRACKING. -/
def trkState (s : State) (d : Nat) : Nat := if d = 0 then fget s F.TIM_STATUS_STATE_A else fget s F.TIM_STATUS_STATE_B
def setTrkState (d v : Nat) (s : State) : State := fput (if d = 0 then F.TIM_STATUS_STATE_A else F.TIM_STATUS_STATE_B) v s
def setJump (d : Nat) (b : Bool) (s : State) : State := fput (if d = 0 then F.TIM_STATUS_JUMP_A else F.TIM_STATUS_JUMP_B) (b2n b) s

/-- The governing tracker (R517). -/
def gov (s : State) : Nat := fget s F.TIM_STATUS_GOV

/-- ns of an offset in 2⁻¹⁶ ns. -/
def offNs (x : Int) : Int := asr x 16

/-- A tracker enters IDLE. -/
def idleTrk (d : Nat) (s : State) : State :=
  let s := setTrkState d 0 (setTrk d { trk s d with count := 0 } s)
  if gov s = d then fput F.TIM_STATUS_LOCKED 0 { s with tim := { s.tim with recent := [] } } else s

/-- TIME_LOST is set when the governing tracker is IDLE, has accepted a sample since TIME_VALID, and none within
TIM_LOSS_MS (R522). -/
def checkLost (s : State) : State :=
  let k := trk s (gov s)
  let old : Bool := match k.last with | some c => decide (c + lossClocks s ≤ s.clk) | none => false
  if s.tim.valid ∧ ¬ s.tim.lost ∧ trkState s (gov s) = 0 ∧ k.used ∧ old then
    let s := { s with tim := { s.tim with lost := true, lockedSeen := false } }
    let s := followInteg s
    raise 0x0A05 (gov s) (puLow (offNs s.tim.bias)) (puHigh (offNs s.tim.bias)) (setInt A.TIM_INT_STAT 4 s)
  else s

/-- TIME_LOST clears (R522). -/
def clearLost (s : State) : State :=
  if s.tim.lost then
    raise 0x0A06 (gov s) (puLow (offNs s.tim.bias)) (puHigh (offNs s.tim.bias)) (setInt A.TIM_INT_STAT 5 { s with tim := { s.tim with lost := false } })
  else s

/-- A switch of the governing tracker (R519). -/
def switchTo (d : Nat) (s : State) : State :=
  let f := (trk s d).f
  let s := { s with tim := { s.tim with bias := f, biasClk := s.clk, recent := [] } }
  let s := bump 19 6 (fput F.TIM_STATUS_LOCKED 0 (fput F.TIM_STATUS_GOV d s))
  let s := raise 0x0A04 d (puLow (offNs f)) (puHigh (offNs f)) (setInt A.TIM_INT_STAT 3 s)
  clearLost s

/-- The automatic switch: DUAL is 1 and the other tracker is TRACKING (R519). -/
def autoSwitch (s : State) : State :=
  let other := 1 - gov s
  if fbit s F.TIM_CTL_DUAL ∧ trkState s other = 2 then switchTo other s else s

/-- bias moves toward 0 (R521). -/
def slewBias (s : State) : State :=
  let d : Int := Int.ofNat (fget s F.TIM_FILT_CFG_BIAS_SLEW * 65536 * (s.clk - s.tim.biasClk) / clockHz)
  let b := s.tim.bias
  let b' := if 0 ≤ b then (if b ≤ d then 0 else b - d) else (if -b ≤ d then 0 else b + d)
  { s with tim := { s.tim with bias := b', biasClk := s.clk } }

/-- LOCKED is 1: TRACKING, and the last four errors within TIM_LOCK_THR (R515). -/
def relock (s : State) : State :=
  let d := gov s
  let thr := fget s F.TIM_LOCK_THR_NS * 65536
  let ok := trkState s d == 2 && s.tim.recent.length == 4 && s.tim.recent.all (fun n => decide (n ≤ thr))
  let s := fput F.TIM_STATUS_LOCKED (b2n ok) s
  if ok ∧ ¬ s.tim.lockedSeen then
    raise 0x0A02 d (puLow (offNs s.tim.bias)) (puHigh (offNs s.tim.bias)) (setInt A.TIM_INT_STAT 1 { s with tim := { s.tim with lockedSeen := true } })
  else s

/-- The governing tracker has accepted a sample of error `x` from bias. -/
def checkLock (x : Int) (s : State) : State :=
  relock { s with tim := { s.tim with recent := (x.natAbs :: s.tim.recent).take 4 } }

/-- The servo at an accepted sample of the governing tracker (R513). -/
def servoUpdate (e : Int) (s : State) : State :=
  if fbit s F.TIM_CTL_SERVO_EN then
    let x := e - s.tim.bias
    let kp : Int := Int.ofNat (fget s F.TIM_SERVO_GAIN_KP)
    let ki : Int := Int.ofNat (fget s F.TIM_SERVO_GAIN_KI)
    let lim : Int := Int.ofNat (servoLimit s) * 2 ^ 24
    let integ := clampI (s.tim.integ + ki * x) (-lim) lim
    let raw := -(kp * x + integ)
    noteSlew raw (setAdj (clampAdj s raw) { s with tim := { s.tim with integ := integ } })
  else s

/-- A tracker accepts a sample (R510, R513, R515, R521, R522). -/
def acceptSample (d : Nat) (e : Int) (s : State) : State :=
  let k := trk s d
  let f := if k.count = 0 then e else k.f + asr (e - k.f) (fget s F.TIM_FILT_CFG_FILT_SHIFT)
  let n := min (k.count + 1) 4
  let s := setTrk d { f := f, count := n, last := some s.clk, used := true } s
  let s := setJump d false (bump 19 d (setTrkState d (if n = 4 then 2 else 1) s))
  if gov s = d then
    let s := slewBias (clearLost s)
    checkLock (e - s.tim.bias) (servoUpdate e s)
  else s

/-- A tracker refuses a sample (R511); when it governs, R519 may switch. -/
def refuseSample (d : Nat) (e : Int) (s : State) : State :=
  let s := setInt A.TIM_INT_STAT 2 (setJump d true (bump 19 (2 + d) s))
  let s := raise 0x0A03 d (puLow (offNs (e - (trk s d).f))) (puHigh (offNs (e - (trk s d).f))) s
  if gov s = d then autoSwitch s else s

/-- A sample of domain `d`: offset `e` in 2⁻¹⁶ ns, which held at device time `t` (R509 to R512). -/
def timeSample (d : Nat) (e : Int) (t : Nat) (s : State) : State :=
  let now := s.tim.t
  let beforeStep : Bool := match s.tim.stepT with | some ts => decide (t < ts) | none => false
  if ¬ s.tim.valid ∨ now < t ∨ t + secUnits < now ∨ beforeStep then bump 19 4 s
  else
    let thr : Int := Int.ofNat (max 1 (fget s F.TIM_JUMP_THR_NS) * 65536)
    let dev := (e - (trk s d).f).natAbs
    let devB := (e - s.tim.bias).natAbs
    if (trkState s d = 2 ∧ thr < dev) ∨ (s.tim.lost ∧ gov s = d ∧ thr < devB) then refuseSample d e s
    else acceptSample d e s

/-- The device time whose seconds' low 32 bits and ns are given: the one nearest before or after now (R507). -/
def fullTime (s : State) (secLo ns : Nat) : Nat :=
  let now := timeSec s.tim.t
  let d := toSigned 32 ((secLo + 2 ^ 32 - now % 2 ^ 32) % 2 ^ 32)
  (Int.ofNat now + d).toNat * secUnits + ns * timeUnit

/-- TIM_SMP_POST (R507, R508). -/
def smpPost (v : Nat) (s : State) : State :=
  if ¬ bitAt v 0 then s
  else
    let d := bits v 1 1
    let src := fget s F.TIM_CTL_SRC_A
    if (d = 0 ∧ (src = 1 ∨ src = 2)) ∨ (d = 1 ∧ ¬ fbit s F.TIM_CTL_DUAL) then bump 19 5 s
    else
      timeSample d (toSigned 64 (rget64 s A.TIM_SMP_OFF_HI A.TIM_SMP_OFF_LO))
        (fullTime s (rget s A.TIM_SMP_SEC_LO) (rget s A.TIM_SMP_NS % 2 ^ 30)) s

/-- TIM_SMP_POST (R507). -/
def execTimSmpPost (value : Word) (s : State) : Host.Outcome State Fault Refusal :=
  hostCmd (.timSmpPost value) A.TIM_SMP_POST s (smpPost value.toNat)

/-- No accepted sample for TIM_LOSS_MS: the tracker enters IDLE (R510), and R519 or R522 follow. -/
def trackerLoss (d : Nat) (s : State) : State :=
  let k := trk s d
  let old : Bool := match k.last with | some c => decide (c + lossClocks s ≤ s.clk) | none => false
  if ¬ old then s
  else if trkState s d = 0 then checkLost s
  else
    let s := idleTrk d s
    if gov s = d then
      let s := autoSwitch s
      checkLost s
    else s

/-- TRACKER_LOSS_TIMEOUT (R510). -/
def execTrackerLossTimeout (dt : Nat) (domainB : Bool) (s : State) : Host.Outcome State Fault Refusal :=
  timed (.trackerLossTimeout dt domainB) dt s (trackerLoss (b2n domainB))

/-! ### Commands (R493, R520, R523) -/

/-- TIM_CMD.OP = LATCH (R493). -/
def latchTimeOp (s : State) : State := fput F.TIM_CMD_STATUS_RESULT 0 (latchTime A.TIM_LAT_SEC_HI s.tim.t s)

/-- LATCH (R493). -/
def execLatch (s : State) : Host.Outcome State Fault Refusal := hostCmd .latch A.TIM_CMD s latchTimeOp

/-- TIM_CMD.OP = SWITCH (R520). -/
def switchOp (d : Nat) (s : State) : State :=
  if d ≠ gov s ∧ trkState s d = 2 then switchTo d (fput F.TIM_CMD_STATUS_RESULT 0 s) else fput F.TIM_CMD_STATUS_RESULT 1 s

/-- SWITCH (R520). -/
def execSwitchDomain (domainB : Bool) (s : State) : Host.Outcome State Fault Refusal :=
  hostCmd (.switchDomain domainB) A.TIM_CMD s (switchOp (b2n domainB))

/-- The device time that four registers from `a` on hold. -/
def timeAt (s : State) (a : Nat) : Nat :=
  ((rget s a % 65536) * 2 ^ 32 + rget s (a + 4)) * secUnits + rget s (a + 8) % 2 ^ 30 * timeUnit
    + rget s (a + 12) % 65536 * timeUnit / 65536

/-- Units of device time in 50 ns, half a period of CLK10M_OUT (R527). -/
def halfTick : Nat := 50 * timeUnit

/-- The level of CLK10M_OUT (R527): high for the first half of each 100 ns of device time; after a step, until the first rising
edge that keeps both phases whole, low but for the rest of a high phase that the step fell into. -/
def clk10mOut (s : State) : Bool :=
  fbit s F.TIM_CTL_CLK10M_OUT_EN && decide (s.tim.t < s.tim.outFall) ||
    fbit s F.TIM_CTL_CLK10M_OUT_EN && decide (s.tim.outRise ≤ s.tim.t) && decide (s.tim.t % (2 * halfTick) < halfTick)

/-- What is left at a step of the high phase of CLK10M_OUT. -/
def highLeft (s : State) : Nat :=
  if ¬ clk10mOut s then 0
  else if s.tim.t < s.tim.outFall then s.tim.outFall - s.tim.t
  else halfTick - s.tim.t % (2 * halfTick)

/-- Device time steps to `t` (R523, R524). -/
def stepTime (t : Nat) (s : State) : State :=
  let d : Int := Int.ofNat t - Int.ofNat s.tim.t
  let first := !s.tim.valid
  let s := { s with tim := { s.tim with t := t, stepSum := s.tim.stepSum + d, stepT := some t, valid := true
                                        ppsSec := timeSec t, outFall := t + highLeft s
                                        outRise := ceilDiv (t + halfTick) (2 * halfTick) * (2 * halfTick) } }
  let s := pushHist s
  let s := idleTrk 1 (idleTrk 0 s)
  let s := { s with tim := { s.tim with bias := 0, biasClk := s.clk } }
  let s := bump 19 7 s
  let s := if first then raise 0x0A01 (gov s) (puLow (d / Int.ofNat timeUnit)) (puHigh (d / Int.ofNat timeUnit)) (setInt A.TIM_INT_STAT 0 s) else s
  let ns := d / Int.ofNat timeUnit
  let s := raise 0x0A07 (gov s) (puLow ns) (puHigh ns) s
  resolveWaiting (if first then nominalQualify s else s)

/-- TIM_CMD.OP = SET_ABS (R523). -/
def setAbsOp (s : State) : State :=
  if 1000000000 ≤ rget s A.TIM_STEP_NS % 2 ^ 30 then fput F.TIM_CMD_STATUS_RESULT 2 s
  else stepTime (timeAt s A.TIM_STEP_SEC_HI) (fput F.TIM_CMD_STATUS_RESULT 0 s)

/-- SET_ABS (R523). -/
def execSetAbs (s : State) : Host.Outcome State Fault Refusal := hostCmd .setAbs A.TIM_CMD s setAbsOp

/-- TIM_CMD.OP = STEP_REL (R523). -/
def stepRelOp (neg : Bool) (s : State) : State :=
  let v := timeAt s A.TIM_STEP_SEC_HI
  let t : Int := if neg then Int.ofNat s.tim.t - Int.ofNat v else Int.ofNat s.tim.t + Int.ofNat v
  if 1000000000 ≤ rget s A.TIM_STEP_NS % 2 ^ 30 ∨ t < 0 ∨ Int.ofNat timeMod ≤ t then fput F.TIM_CMD_STATUS_RESULT 2 s
  else stepTime t.toNat (fput F.TIM_CMD_STATUS_RESULT 0 s)

/-- STEP_REL (R523). -/
def execStepRel (neg : Bool) (s : State) : Host.Outcome State Fault Refusal := hostCmd (.stepRel neg) A.TIM_CMD s (stepRelOp neg)

/-! ### TIM_CTL (R514, R517) -/

/-- A change of TIM_CTL: the servo takes over without a change of rate, or tracker B goes to IDLE. -/
def timCtlChanged (old : Nat) (s : State) : State :=
  let new := rget s A.TIM_CTL
  let s := if bitAt new 1 ∧ ¬ bitAt old 1 then { s with tim := { s.tim with integ := -(s.tim.adj * 2 ^ 14) } } else s
  let s := followHostAdj s
  let s := if bitAt new 5 ∧ ¬ bitAt old 5 then { s with tim := { s.tim with ppsSec := timeSec s.tim.t } } else s
  if ¬ bitAt new 2 ∧ bitAt old 2 then
    let s := idleTrk 1 s
    if gov s = 1 then checkLost (idleTrk 0 (fput F.TIM_STATUS_GOV 0 s)) else s
  else s

/-- Write TIM_CTL. -/
def writeTimCtl (v : Nat) (s : State) : State := timCtlChanged (rget s A.TIM_CTL) (rput A.TIM_CTL (v &&& 0x1FE) s)

/-- TIM_CTL_WRITE (R514). -/
def execTimCtlWrite (value : Word) (s : State) : Host.Outcome State Fault Refusal :=
  hostCmd (.timCtlWrite value) A.TIM_CTL s (writeTimCtl value.toNat)

/-! ### Pulse and clock pins (R516, R526, R528) -/

/-- 1,000,000 rising edges of CLK10M_IN have passed since the last measurement (R516). -/
def clk10mMeasure (s : State) : State :=
  if ¬ fbit s F.TIM_CTL_CLK10M_IN_EN then { s with tim := { s.tim with clk10m := none } }
  else
    let s' := { s with tim := { s.tim with clk10m := some s.tim.t } }
    match s.tim.clk10m with
    | none => s'
    | some t0 =>
      let d := (Int.ofNat s.tim.t - Int.ofNat t0) * 2 ^ 24 * 10 / Int.ofNat timeUnit - 10 ^ 9 * 2 ^ 24
      let lim : Int := Int.ofNat (servoLimit s) * 2 ^ 24
      if lim < Int.ofNat d.natAbs then bump 19 14 s'
      else
        let s := { s' with tim := { s'.tim with integ := d } }
        if s.tim.lost then followInteg s else s

/-- CLK10M_MEASUREMENT (R516). -/
def execClk10mMeasurement (dt : Nat) (s : State) : Host.Outcome State Fault Refusal :=
  timed (.clk10mMeasurement dt) dt s clk10mMeasure

/-- A rising edge at PPS_IN (R528). -/
def ppsInEdge (s : State) : State :=
  if ¬ fbit s F.TIM_CTL_PPS_IN_EN then s
  else
    let adj := toSigned 32 (rget s A.TIM_PPS_IN_ADJ) * Int.ofNat timeUnit / 65536
    let t := ((Int.ofNat s.tim.t - adj) % Int.ofNat timeMod).toNat
    let s := bump 19 13 (setInt A.TIM_INT_STAT 8 (latchTime A.TIM_PPS_CAP_SEC_HI t s))
    if fget s F.TIM_CTL_SRC_A = 2 then
      let r := t % secUnits
      let e : Int := if 2 * r < secUnits then Int.ofNat r else Int.ofNat r - Int.ofNat secUnits
      timeSample 0 (e * 65536 / Int.ofNat timeUnit) t s
    else s

/-- PPS_IN_EDGE (R528). -/
def execPpsInEdge (dt : Nat) (s : State) : Host.Outcome State Fault Refusal := timed (.ppsInEdge dt) dt s ppsInEdge

/-- Device time has reached a whole second: PPS_OUT rises (R526). -/
def ppsOutSecond (s : State) : State :=
  if fbit s F.TIM_CTL_PPS_OUT_EN ∧ s.tim.valid ∧ s.tim.ppsSec < timeSec s.tim.t then
    { s with tim := { s.tim with ppsHigh := true, ppsClk := s.clk, ppsSec := timeSec s.tim.t } }
  else s

/-- PPS_OUT_SECOND (R526). -/
def execPpsOutSecond (dt : Nat) (s : State) : Host.Outcome State Fault Refusal := timed (.ppsOutSecond dt) dt s ppsOutSecond

/-- PPS_OUT has been high for WIDTH_MS and falls (R526). -/
def ppsOutEnd (s : State) : State :=
  if s.tim.ppsHigh ∧ s.tim.ppsClk + clampN (fget s F.TIM_PPS_CFG_WIDTH_MS) 1 999 * clocksPerMs ≤ s.clk then
    { s with tim := { s.tim with ppsHigh := false } }
  else s

/-- PPS_OUT_PULSE_END (R526). -/
def execPpsOutPulseEnd (dt : Nat) (s : State) : Host.Outcome State Fault Refusal :=
  timed (.ppsOutPulseEnd dt) dt s ppsOutEnd

/-! ### Transmit stamps and UTC (R497, R498, R529) -/

/-- One record enters the transmit stamp FIFO (R497, R498). -/
def pushTxStamp (port tag t : Nat) (s : State) : State :=
  if 1024 ≤ s.tim.txts.length then raise 0x0A08 port 0 0 (setInt A.TIM_INT_STAT 7 (bump 19 12 s))
  else
    let was := s.tim.txts == []
    let s := bump 19 11 { s with tim := { s.tim with txts := s.tim.txts ++ [(port, tag, t)] } }
    if was then setInt A.TIM_INT_STAT 6 s else s

/-- Word `k` of the record at the head of the transmit stamp FIFO; 0 when it is empty. -/
def txStampWord (s : State) (k : Nat) : Nat :=
  match s.tim.txts with
  | [] => 0
  | (p, tag, t) :: _ =>
    if k = 0 then 2 ^ 31 + p * 2 ^ 16 + tag % 2 ^ 16
    else if k = 1 then timeSec t / 2 ^ 32 % 2 ^ 16 * 2 ^ 16 + timeFrac t
    else if k = 2 then timeSec t % 2 ^ 32 else timeNs t

/-- A read of TIM_TXTS_W3 returns its word and removes the record (R498). -/
def txtsPop (s : State) : State :=
  { s with hif := { s.hif with readData := [txStampWord s 3] }, tim := { s.tim with txts := s.tim.txts.drop 1 } }

/-- TXTS_RECORD_READ (R498). -/
def execTxtsRecordRead (s : State) : Host.Outcome State Fault Refusal := hostRead .txtsRecordRead s txtsPop

/-- A write of TIM_UTC_OFFSET (R529). -/
def writeUtcOffset (v : Nat) (s : State) : State :=
  raise 0x0A09 noUnit (v % 65536) 0 (rput A.TIM_UTC_OFFSET (v % 65536) s)

/-- UTC_OFFSET_SET (R529). -/
def execUtcOffsetSet (value : Word) (s : State) : Host.Outcome State Fault Refusal :=
  hostCmd (.utcOffsetSet value) A.TIM_UTC_OFFSET s (writeUtcOffset value.toNat)

/-! ### The phase clock's commands that may make PHASE_VALID 1 -/

/-- Run a phase operation, and resolve the starts that waited for PHASE_VALID when it makes it 1 (R464). -/
def withValid (f : State → State) (s : State) : State :=
  let s' := f s
  if s'.phs.valid ∧ ¬ s.phs.valid then resolveWaiting s' else s'

/-- MAINS_EDGE (R438). -/
def execMainsEdge (dt src : Nat) (edge : EdgeLevels) (s : State) : Host.Outcome State Fault Refusal :=
  timed (.mainsEdge dt src edge) dt s (fun s => if deglitched s edge.low edge.high then withValid (mainsEdge src) s else s)

/-- MAINS_LOSS_TIMEOUT (R440). -/
def execMainsLossTimeout (dt src : Nat) (s : State) : Host.Outcome State Fault Refusal :=
  timed (.mainsLossTimeout dt src) dt s (withValid (mainsLoss src))

/-- The fabric feeds MSG: the role is LODGE and FAB_CTL.PHASE_FEED is 1 (R443). -/
def msgFromFabric (s : State) : Bool := roleOf s == 2 && fbit s F.FAB_CTL_PHASE_FEED

/-- A write of PHS_MSG_POST (R441, R443). -/
def msgPost (v : Nat) (s : State) : State :=
  if ¬ bitAt v 0 ∨ ¬ s.phs.running then s
  else if msgFromFabric s then bump 18 6 s
  else
    let t := ((rget s A.PHS_MSG_SEC_HI % 65536) * 2 ^ 32 + rget s A.PHS_MSG_SEC_LO) * secUnits
      + rget s A.PHS_MSG_NS % 2 ^ 30 * timeUnit
    withValid (msgSample (instantAt s A.PHS_MSG_CYCLE_HI) t) s

/-- PHS_MSG_POST (R441). -/
def execPhsMsgPost (value : Word) (s : State) : Host.Outcome State Fault Refusal :=
  hostCmd (.phsMsgPost value) A.PHS_MSG_POST s (msgPost value.toNat)

/-- MSG_LOSS_TIMEOUT (R442). -/
def execMsgLossTimeout (dt : Nat) (s : State) : Host.Outcome State Fault Refusal :=
  timed (.msgLossTimeout dt) dt s (withValid msgLoss)

/-- PHASE_WRAP (R434). -/
def execPhaseWrap (dt : Nat) (s : State) : Host.Outcome State Fault Refusal :=
  timed (.phaseWrap dt) dt s (withValid phaseWrap)

/-- LATCH_PHASE (R493). -/
def execLatchPhase (s : State) : Host.Outcome State Fault Refusal := hostCmd .latchPhase A.PHS_CMD s latchPhaseOp

/-- SET_CYCLE (R455). -/
def execSetCycle (s : State) : Host.Outcome State Fault Refusal := hostCmd .setCycle A.PHS_CMD s setCycleOp

/-- REALIGN (R454). -/
def execRealign (s : State) : Host.Outcome State Fault Refusal := hostCmd .realign A.PHS_CMD s realignOp

end Machine
end Sys2Proof
end

