-- ==== Sys2Proof/Machine/Mac.lean ====
section
/-! DEFINITION. Machine/Mac.lean: the MAC of a port: stamps (R239, R240), frames as they are taken in and sent (R48, R215 to
R219), the states of the verify procedure (R230 to R232), lanes and modes (R192 to
R205). -/
namespace Sys2Proof
namespace Machine

/-- Frames are taken and sent (R139). -/
def trafficOn (s : State) : Bool := kixonOn s

/-! ### Groups of lanes and modes (R192 to R205) -/

/-- SerDes lanes have power (R139). -/
def powered (s : State) : Bool := s.glb.base != bDormant && s.glb.base != bLoading && s.glb.base != bVerifying

/-- Status bits of a port. -/
def modeErr (s : State) (p : Nat) : Bool := fbit s (F.PRT_STATUS_MODE_ERR p)
def absorbed (s : State) (p : Nat) : Bool := fbit s (F.PRT_STATUS_ABSORBED p)

/-- Lane `l` belongs to the group of port `q`, a front port in force below it (R193). -/
def inGroup (s : State) (q l : Nat) : Bool :=
  decide (q < l) && decide (l < q + modeLanes (portSt s q).mode) && !modeErr s q

/-- Some lower-numbered port holds lane `l`. -/
def laneTaken (s : State) (below l : Nat) : Bool := (List.range below).any (fun q => inGroup s q l)

/-- A list is a permutation of 0 to its length − 1. -/
def isPerm (l : List Nat) : Bool := (List.range l.length).all (fun i => l.contains i)

/-- TX_DST and RX_SRC of a lane's configuration word (R200). -/
def laneDst (w : Nat) : Nat := bits w 5 3
def laneSrc (w : Nat) : Nat := bits w 2 3

/-- The lane map of a group whose lanes are configured so is good (R201). -/
def laneMapOk (l : List Nat) : Bool := isPerm (l.map laneDst) && isPerm (l.map laneSrc)

/-- The configuration words of the first `n` lanes of port `p`. -/
def laneWords (s : State) (p n : Nat) : List Nat := (List.range n).map (fun k => rget s (A.PRT_LANE_CFG p k))

/-- The taps of a configuration word: TX_POST, TX_MAIN, TX_PRE. -/
def lanesTaps (l : List Nat) : List Nat := l.map (fun w => bits w 10 22)

/-- The taps that lane `k` of port `p` uses: those that training has settled, while it runs those it started from, and else those
of the register (R202). -/
def tapsInUse (s : State) (p k : Nat) : Nat :=
  let x := portSt s p
  if x.trained ∨ (x.ltEn ∧ fbit s (F.PRT_STATUS_TRAINING p)) then x.taps.getD k 0 else bits (rget s (A.PRT_LANE_CFG p k)) 10 22

/-- The modes that port `p` takes (R198). -/
def rightKind (p m : Nat) : Bool := if p < 64 then decide (1 ≤ m) && decide (m ≤ 6) else decide (8 ≤ m) && decide (m ≤ 11)

/-- The cause for which port `p` refuses mode `m` with lanes configured as `l`; 0 when it takes it (R205). -/
def modeCause (s : State) (p m : Nat) (l : List Nat) : Nat :=
  let n := modeLanes m
  if m = 0 then 0
  else if ¬ rightKind p m then 3
  else if p < 64 ∧ p % n ≠ 0 then 1
  else if p < 64 ∧ (List.range n).any (fun i => laneTaken s p (p + i)) then 2
  else if ¬ laneMapOk l then 4
  else 0

/-- PRT_STATUS of a port whose mode is refused (R205). -/
def setModeErr (p cause : Nat) (s : State) : State :=
  let s := fput (F.PRT_STATUS_MODE_ERR_CAUSE p) cause (fput (F.PRT_STATUS_MODE_ERR p) 1 s)
  raise 0x0303 p cause 0 (setInt (A.PRT_INT_STAT p) 5 s)

/-- A tempering has made a Forging active: the check of every port out of reset is repeated on what is in force (R205). -/
def recheckPorts (s : State) : State :=
  (List.range 72).foldl (fun s p =>
    let x := portSt s p
    let cause := modeCause s p x.mode x.lanes
    if cause = 0 ∨ portHeld s p then s else setModeErr p cause s) s

/-! ### Stamps (R239, R240, R478, R495) -/

/-- A device time moved by units. -/
def stampAdd (t : Nat) (d : Int) : Nat := ((Int.ofNat t + d) % Int.ofNat timeMod).toNat

/-- A time-stamp adjustment, in 2⁻¹⁶ ns, as units of device time. -/
def adjUnits (v : Nat) : Int := toSigned 32 v * 109375000

/-- What device time gains while `n` bits pass on port `p`: a core clock is 5/7 ns and the rate is in units of 100 Mb/s. -/
def bitUnits (s : State) (p n : Nat) : Nat :=
  if s.tim.running ∧ portRate s p ≠ 0 then n * 14 * clockStep s.tim.adj / portRate s p else 0

/-- The receive stamp of a frame whose start-of-frame delimiter passes now on port `p`. -/
def rxStamp (s : State) (p : Nat) : Nat := stampAdd s.tim.t (-adjUnits (rget s (A.PRT_TS_RX_ADJ p)))

/-- The transmit stamp of a frame that port `p` starts now: its start-of-frame delimiter, or SMD, passes 56 bits later. -/
def txStamp (s : State) (p : Nat) : Nat :=
  stampAdd s.tim.t (Int.ofNat (bitUnits s p 56) + adjUnits (rget s (A.PRT_TS_TX_ADJ p)))

/-! ### The verify procedure (R230 to R232) -/

def verifyState (s : State) (p : Nat) : Nat := fget s (F.PRT_PREEMPT_STATUS_VERIFY_STATE p)

/-- VERIFY_STATE takes a value; preemption is active in SUCCEEDED and UNVERIFIED (R230). -/
def setVerify (p v : Nat) (s : State) : State :=
  fput (F.PRT_PREEMPT_STATUS_ACTIVE p) (b2n (v == 3 || v == 5)) (fput (F.PRT_PREEMPT_STATUS_VERIFY_STATE p) v s)

/-- A verify mPacket is sent and the timer starts. -/
def sendVerify (p : Nat) (s : State) : State :=
  let x := portSt s p
  putPort p { x with mpk := x.mpk ++ [0], verifySent := x.verifySent + 1, verifyClk := s.clk } s

/-- The verify procedure follows EN, VERIFY_DIS and the link (R232, steps 1, 2 and 6). Setting VERIFY_DIS in FAILED enters UNVERIFIED,
and clearing it in UNVERIFIED starts the procedure (log entry 79). -/
def verifyUpdate (p : Nat) (s : State) : State :=
  let v := verifyState s p
  if ¬ fbit s (F.PRT_PREEMPT_EN p) then setVerify p 0 s
  else if ¬ linkUp s p then setVerify p 1 s
  else if fbit s (F.PRT_PREEMPT_VERIFY_DIS p) then setVerify p 5 s
  else if v = 0 ∨ v = 1 ∨ v = 5 then sendVerify p (putPort p { portSt s p with verifySent := 0 } (setVerify p 2 s))
  else s

/-- EN of every port has been loaded (R203, R232). -/
def verifyAll (s : State) : State := (List.range 72).foldl (fun s p => verifyUpdate p s) s

/-- Something arrives on port `p`: the port takes it from the medium only with its link up. -/
def takes (s : State) (p : Nat) : Bool := trafficOn s && linkUp s p

/-- A verify mPacket that port `p` has taken: a respond mPacket answers it, or it is dropped (R231). -/
def verifyTaken (p : Nat) (s : State) : State :=
  let x := portSt s p
  if fbit s (F.PRT_PREEMPT_EN p) then putPort p { x with mpk := x.mpk ++ [1] } s else bump 0 (24 * p + 19) s

/-- A respond mPacket that port `p` has taken (R231; R232, step 3). -/
def respondTaken (p : Nat) (s : State) : State :=
  if ¬ fbit s (F.PRT_PREEMPT_EN p) then bump 0 (24 * p + 19) s
  else if verifyState s p = 2 then raise 0x0305 p 0 0 (setInt (A.PRT_INT_STAT p) 2 (setVerify p 3 s))
  else s

/-- A verify mPacket arrives on port `p` (R231). -/
def verifyReceived (p : Nat) (s : State) : State := if takes s p then verifyTaken p s else s

/-- A respond mPacket arrives on port `p` (R232, step 3). -/
def respondReceived (p : Nat) (s : State) : State := if takes s p then respondTaken p s else s

/-! ### Frames as the MAC sends and takes them (R48, R215 to R222) -/

/-- The frame check sequence that received bytes end with is right. -/
def fcsRight (b : List Byte) : Bool :=
  decide (4 ≤ b.length) && b.drop (b.length - 4) == leBytes 4 (crc32 (b.take (b.length - 4)))

/-- A frame as the MAC sends it: padded with zeros to 64 bytes and ended with its frame check sequence, inverted when it is
ended so (R49, R219). -/
def macFrame (invert : Bool) (b : List Byte) : List Byte :=
  let d := b ++ List.replicate (60 - b.length) 0
  let c := crc32 d
  d ++ leBytes 4 (if invert then 2 ^ 32 - 1 - c else c)

/-- The counter of PORT_MAC that R216 gives a received frame, if it is to be dropped. -/
def macDrop (f : Frame) (codeError : Bool) : Option Nat :=
  if f.rxLen < 64 then some (if f.fcsOk then 2 else 3)
  else if f.stopped then some 4
  else if codeError then some 6
  else if ¬ f.fcsOk then some 5
  else none

/-- A frame's start on port `p`: its headers enter the ingress FIFO and it takes its first cell; a MAC Control frame goes no
further than the MAC, and a frame that finds no free cell is dropped (R394). The MAC takes no byte beyond MAX_LEN (R218). The
answer is its number. -/
def arrive (p : Nat) (b : List Byte) (pre : Bool) (stamp : Nat) (step : Int) (phase : Nat) (s : State) : Nat × State :=
  let most := clampN (fget s (F.PRT_MAC_CFG_MAX_LEN p)) 64 10240
  let f : Frame := { newFrame (b.take most) p with
    fcsOk := fcsRight b, rxLen := b.length, stopped := decide (most < b.length), began := s.clk, taken := min 1 b.length
    preemptable := pre, stamp := stamp, stepSum := step, phase := phase }
  let control := beAt b 12 2 == 0x8808
  let room := cellsFree s 1
  let none_ := { f with bytes := [], taken := 0 }
  let (i, s) := addFrame (if control then none_ else if room then f else { none_ with bad := true }) s
  let x := portSt s p
  let s := putPort p { x with rx := i :: x.rx, ctl := if control then some b else x.ctl } s
  let s := { s with pin := { s.pin with activity := sput (fun _ => 0) s.pin.activity p (s.clk + 1) } }
  if control then (i, s)
  else if ¬ room then (i, noCell p s)
  else if s.glb.hearthRst.contains (ownerOf p) then (i, s)
  else (i, putIngress p (ingressOf s p ++ [i]) s)

/-- Frame `i`, received on port `p`, is at its end: it has taken its cells (R48), and is dropped or received (R216). -/
def receiveEnd (p i : Nat) (codeError : Bool) (s : State) : State :=
  let x := portSt s p
  let s := putPort p { x with rx := x.rx.filter (· != i) } s
  let s := match frameOf s i with | some f => takeCells i (cellsFor f.bytes.length - f.taken) s | none => s
  match frameOf s i with
  | none => s
  | some f =>
    let control := f.bytes == [] && !f.bad
    match macDrop f codeError with
    | some k =>
      let s := bump 0 (24 * p + k) s
      let s := if f.bad then s else dropFrame i { f with whole := true } s
      if control then putPort p { portSt s p with ctl := none } s else s
    | none =>
      let s := bumpN 0 (24 * p + 1) f.rxLen (bump 0 (24 * p) s)
      if f.bad then s else putFrame i { f with whole := true } s

/-- The receptions `l` on port `p` end with a failed frame check sequence (R214). -/
def failAll (p : Nat) (l : List Nat) (s : State) : State :=
  l.foldl (fun s i => match frameOf s i with | some f => receiveEnd p i false (putFrame i { f with fcsOk := false } s) | none => s) s

end Machine
end Sys2Proof
end

