-- ==== Sys2Proof/Machine/Egress.lean ====
section
/-! DEFINITION. Machine/Egress.lean: the egress stage and the transmitters: what a copy looks like on the wire (R219 to
R221, R296, R351, R376, R383 to R387, R424 to R426, R499 to R506, R557), which copy is selected (R413 to R422, R468 to
R471), preemption (R229 to R234) and the end of a transmission (R49, R330, R404). -/
namespace Sys2Proof
namespace Machine

/-! ### The residence time (R501) -/

/-- The time from stamp `i` to stamp `e` less the change of the step sum, in 2⁻¹⁶ ns (R501). -/
def elapsed16 (e i : Nat) (d : Int) : Int := (Int.ofNat e - Int.ofNat i - d) * 65536 / Int.ofNat timeUnit

/-! ### The residence correction (R499 to R506) -/

/-- Write bytes of a PTP header and adjust the enclosing UDP checksum (R503). -/
def ptpPatch (udp : Option (Nat × Bool)) (o : Nat) (new b : List Byte) : List Byte :=
  let c := patch b o new
  match udp with
  | none => c
  | some (u, v6) =>
    let x := beAt c (u + 6) 2
    if ¬ v6 ∧ x = 0 then c
    else
      let y := csumUpdate x ((b.drop o).take new.length) new
      patch c (u + 6) (beBytes 2 (if v6 ∧ y = 0 then 0xFFFF else y))

/-- Add `r` to the correctionField of the PTP header at `o` (R501): the bytes, and whether the field saturated. -/
def addCorrection (udp : Option (Nat × Bool)) (o : Nat) (r : Int) (b : List Byte) : List Byte × Bool :=
  let f := beAt b (o + 8) 8
  let x := toSigned 64 f + r
  if f = 2 ^ 63 - 1 ∨ 2 ^ 63 - 1 < x then (ptpPatch udp (o + 8) (beBytes 8 (2 ^ 63 - 1)) b, true)
  else (ptpPatch udp (o + 8) (beBytes 8 (ofSigned 64 x)) b, false)

/-- Corrected and counted (R501). -/
def correct (udp : Option (Nat × Bool)) (o : Nat) (r : Int) (b : List Byte) (s : State) : List Byte × State :=
  let (c, sat) := addCorrection udp o r b
  (c, bump 19 (if sat then 9 else 8) s)

/-- TC_MODE and TIM_PORT_PDELAY of a frame's SRC_PORT (R500); a frame from port 76 has none. -/
def tcMode (s : State) (p : Nat) : Bool := p < 72 && bitAt (rget s (A.TIM_PORT_CFG p)) 0
def tcDelay (s : State) (p : Nat) : Int := if p < 72 then Int.ofNat (rget s (A.TIM_PORT_PDELAY p)) else 0

/-- What the transmission of copy `c` of frame `f` on port `p` writes into its PTP header (R499 to R506). -/
def ptpFix (p : Nat) (c : Copy) (f : Frame) (b : List Byte) (s : State) : List Byte × State :=
  if 71 < p ∨ c.mirror.isSome then (b, s)
  else
    let none_ := (b, if c.ptpTc then bump 19 10 s else s)
    match c.ptpOff with
    | none => none_
    | some o =>
      let type := beAt b o 1 % 16
      let e := txStamp s p
      if beAt b (o + 1) 1 % 16 ≠ 2 then none_
      else if f.tsOrigin then
        if type = 0 then
          correct c.udpOff o (Int.ofNat (timeFrac e))
            (ptpPatch c.udpOff (o + 34) (beBytes 6 (timeSec e) ++ beBytes 4 (timeNs e)) b) s
        else (b, s)
      else if ¬ c.ptpTc then (b, s)
      else
        let r := elapsed16 e f.stamp (s.tim.stepSum - f.stepSum)
        if tcMode s f.srcPort then if type = 0 then correct c.udpOff o (r + tcDelay s f.srcPort) b s else (b, s)
        else if type ≤ 3 then correct c.udpOff o r b s else (b, s)

/-! ### What a copy is sent as -/

/-- A copy's stored form with the delivery header that an IP packet is given for every destination but a tunnel of IP payload;
it comes from the template of the tunnel that it was decapsulated from (R376). -/
def delivered (s : State) (c : Copy) (b : List Byte) : List Byte :=
  if c.ipForm then deliveryHeader (templateAt s (tunTemplate (tunnelAt s c.decapTun))) b ++ b else b

/-- The edits of a copy (R296, R351, R376). -/
def editCopy (s : State) (c : Copy) (b : List Byte) : List Byte :=
  if c.ipForm then vlanEdit c.vlanOp c.vid c.pcp (some 0) [] (rtagEdit none c.encode (some 14) (delivered s c b))
  else
    vlanEdit c.vlanOp c.vid c.pcp c.ethOff c.vlanOffs (rtagEdit (if c.decode then c.rtagOff else none) c.encode c.keyEnd b)

/-- What the egress stage makes of a copy: the frames on the wire without frame check sequence, the copy before any outer
header; what stops it: 0 nothing, 1 ENCAP_INVALID, 2 ENCAP_PAYLOAD, 3 TOO_BIG, 4 TX_OVERSIZE_DROP. -/
structure TxPlan where
  fate : Nat
  out : List (List Byte)
  carried : List Byte
deriving DecidableEq, Repr

/-- L of a frame on the wire: what the MAC pads it to (R219). A recirculated frame below 64 bytes, which no MAC pads, counts as
one of 64, so that its frame rate equals that of a 100 Gb/s MAC (R199; log entry 79). -/
def wireLen (b : List Byte) : Nat := max 64 (b.length + 4)

/-- Bytes that the frames take on the wire, 20 more than L each (R8, R386, R413). -/
def wireTotal (out : List (List Byte)) : Nat := (out.map (fun b => wireLen b + 20)).foldl (· + ·) 0

/-- The identification of the next outer IPv4 datagram of hearth `h` (R384). -/
def ipIdent (s : State) (h : Nat) : Nat := ((Config.outerId h).toNat + sget (fun _ => 0) s.fry.ipCount h) % 65536

/-- One outer IPv4 datagram more. -/
def ipNext (h : Nat) (s : State) : State :=
  { s with fry := { s.fry with ipCount := sput (fun _ => 0) s.fry.ipCount h (sget (fun _ => 0) s.fry.ipCount h + 1) } }

/-- A mirror copy cut to TRUNC_LEN (R426). -/
def truncated (s : State) (m : Nat) (b : List Byte) : List Byte :=
  let n := fget s (F.TM_MIR_TRUNC_TRUNC_LEN m)
  if n = 0 then b else b.take (max 64 n)

/-- An address of a mirror session (R367): the last word of an IPv4 address, all four of an IPv6 address. -/
def mirrorAddr (s : State) (v6 : Bool) (a : Nat → Nat) : Nat :=
  if v6 then ((rget s (a 0) * 2 ^ 32 + rget s (a 1)) * 2 ^ 32 + rget s (a 2)) * 2 ^ 32 + rget s (a 3) else rget s (a 3)

/-- A GRE mirror copy (R425, R426). -/
def greFrame (s : State) (h m : Nat) (b : List Byte) : List Byte :=
  let v6 := fbit s (F.TM_MIR_CFG_OUTER_V6 m)
  let eth := wordsMac (rget s (A.TM_MIR_NH_MAC_LO m)) (rget s (A.TM_MIR_NH_MAC_HI m))
    ++ wordsMac (rget s (A.TM_MIR_DEV_MAC_LO m)) (rget s (A.TM_MIR_DEV_MAC_HI m))
    ++ (if fbit s (F.TM_MIR_CFG_VLAN_EN m) then beBytes 2 0x8100 ++ beBytes 2 (fget s (F.TM_MIR_NH_MAC_HI_VLAN_TCI m)) else [])
    ++ beBytes 2 (if v6 then 0x86DD else 0x0800)
  let key := fbit s (F.TM_MIR_IP_KEY_EN m)
  let gre := beBytes 2 (if key then 0x2000 else 0) ++ beBytes 2 0x6558 ++ (if key then beBytes 4 (rget s (A.TM_MIR_KEY m)) else [])
  let ttl := let t := fget s (F.TM_MIR_IP_TTL m); if t = 0 then 64 else t
  let tos := fget s (F.TM_MIR_IP_DSCP m) * 4
  let src := mirrorAddr s v6 (A.TM_MIR_SRC_IP m)
  let dst := mirrorAddr s v6 (A.TM_MIR_DST_IP m)
  let room := 10240 - 4 - eth.length - gre.length - (if v6 then 40 else 20)
  let body := gre ++ b.take room
  if v6 then eth ++ ipv6Header tos 0 body.length 47 ttl src dst ++ body
  else eth ++ ipv4Header tos (20 + body.length) (ipIdent s h) 0 ttl 47 src dst ++ body

/-- The plan of a copy into a Ferry tunnel (R383). -/
def tunnelPlan (s : State) (p t : Nat) (c : Copy) (b : List Byte) : TxPlan :=
  let e := tunnelAt s t
  let m := templateAt s (tunTemplate e)
  let edited := editCopy s c b
  let payload := if tunPayload e = 0 then edited
    else if c.ipForm then b else match c.ipOff with | some o => b.drop o | none => []
  if ¬ encapValid e m then { fate := 1, out := [], carried := edited }
  else if ¬ encapPayloadOk (tunPayload e) payload then { fate := 2, out := [], carried := edited }
  else
    match encapFrames e m c.hash (ipIdent s (ownerOf p)) payload with
    | none => { fate := 3, out := [], carried := edited }
    | some out => { fate := 0, out := out, carried := edited }

/-- The plan of a copy on port `p` whose stored form is `b`. -/
def planCopy (s : State) (p : Nat) (c : Copy) (b : List Byte) : TxPlan :=
  match c.tunnel with
  | some t => tunnelPlan s p t c b
  | none =>
    let out :=
      match c.mirror with
      | some m =>
        let x := truncated s m (delivered s c b)
        if c.gre then greFrame s (ownerOf p) m x else x
      | none => if p < 72 then editCopy s c b else b
    { fate := if 71 < p ∨ out.length + 4 ≤ 10240 then 0 else 4, out := [out], carried := out }

/-! ### Kixon frames on the wire (R557, R562, R564, R569) -/

def fabDefault (_ : Nat) : FabPort :=
  { nonce := 0, peer := none, rxSeq := 0, txSeq := 0, helloClk := 0, reqId := 0, reqClk := 0, reqSent := none
    measured := none, time := none }

/-- The fabric's state of port `p`. -/
def fabPort (s : State) (p : Nat) : FabPort := sget fabDefault s.fab.ports p

def putFabPort (p : Nat) (x : FabPort) (s : State) : State :=
  { s with fab := { s.fab with ports := sput fabDefault s.fab.ports p x } }

/-- A wire stamp (R555). -/
def wireStamp (t : Nat) : List Byte := beBytes 6 (timeSec t) ++ beBytes 4 (timeNs t) ++ beBytes 2 (timeFrac t)

/-- What the transmission writes into the payload of a hardware frame: t1 of a DELAY_REQ is recorded, T3 of a DELAY_RESP,
ORIGIN and INSTANT of a TIME frame that leaves the Keeper, CORR of a relayed one. -/
def kixonPayload (p : Nat) (f : Frame) (b : List Byte) (s : State) : List Byte × State :=
  let type := beAt b 15 1
  let e := txStamp s p
  if f.srcPort ≠ 77 then (b, s)
  else if type = 0x03 then
    let x := fabPort s p
    (b, if x.reqId % 65536 = beAt b 32 2 then putFabPort p { x with reqSent := some (e, s.tim.stepSum) } s else s)
  else if type = 0x04 then (patch b 52 (wireStamp (stampAdd e (f.stepSum - s.tim.stepSum))), s)
  else if type = 0x10 then
    if beAt b 38 1 = 0 then
      let x := if bitAt (beAt b 39 1) 1 then phaseInstant s else 0
      (patch (patch b 44 (wireStamp e)) 64 (beBytes 5 (x / 2 ^ 24) ++ beBytes 3 x), bump 21 2 s)
    else
      let r := elapsed16 e f.stamp (s.tim.stepSum - f.stepSum)
      (patch b 56 (beBytes 8 (ofSigned 64 (toSigned 64 (beAt b 56 8) + Int.ofNat f.upDelay + r))), bump 21 3 s)
  else (b, s)

/-- The hop fields and the tag of a Kixon frame sent on port `p` (R557). -/
def kixonFix (p : Nat) (f : Frame) (b : List Byte) (s : State) : List Byte × State :=
  let (b, s) := kixonPayload p f b s
  let x := fabPort s p
  let len := beAt b 16 2
  let id := match s.fab.keyActive with | some k => k.id | none => 0
  let key := match s.fab.keyActive with | some k => k.key | none => []
  let b := patch b 14 (beBytes 1 (16 + id))
  let b := patch b 18 (beBytes 4 (rget s A.FAB_FABRIC_ID) ++ beBytes 2 (rget s A.FAB_SELF) ++ beBytes 1 p)
  let b := patch b 26 (beBytes 6 (x.txSeq + 1))
  let tag := (aesCmac key ((b.drop 14).take (18 + len))).take 8
  (patch b (32 + len) tag, bump 20 (9 * p + 1) (putFabPort p { x with txSeq := x.txSeq + 1 } s))

/-! ### Tunnel-group shapers (R413 to R416) -/

/-- The level of group `g` in 2⁻¹⁶ bytes now. -/
def groupLevel (s : State) (g : Nat) : Int :=
  let w := entryAt s tGroup 0 0 g
  let n := (s.clk + 2 ^ 32 - ew w 3 % 2 ^ 32) % 2 ^ 32
  min (Int.ofNat (bits (ew w 1) 0 24) * 65536)
    (toSigned 26 (ew w 2) * 65536 + Int.ofNat (ew w 4) + Int.ofNat (gain16 (rateWord (ew w 0)) n))

def groupOk (s : State) (g : Nat) : Bool := !bitAt (ew (entryAt s tGroup 0 0 g) 0) 31 || decide (0 ≤ groupLevel s g)

def groupTake (g n : Nat) (s : State) : State :=
  let w := entryAt s tGroup 0 0 g
  if bitAt (ew w 0) 31 then
    let l := groupLevel s g - Int.ofNat n * 65536
    putEntry tGroup 0 0 g [ew w 0, ew w 1, ofSigned 26 (l / 65536), s.clk % 2 ^ 32, (l % 65536).toNat] s
  else s

/-- The group of the tunnel a copy goes into. -/
def copyGroup (s : State) (c : Copy) : Option Nat := c.tunnel.map (fun t => tunGroup (tunnelAt s t))

/-! ### Windows and eligibility (R413, R419, R468 to R471) -/

/-- The window test of copy `c` at the head of queue `q`: it may start; it would run past its window on purpose. -/
def windowOk (s : State) (p q : Nat) (c : Copy) : Bool × Bool :=
  if ¬ gatedQ s p q then (true, false)
  else
    match windowNs7 s p q with
    | none => (true, false)
    | some w =>
      if preemptActive s p ∧ preemptable s p q then
        (decide (wireNs7 (portRate s p) (64 * (1 + fget s (F.PRT_PREEMPT_ADD_FRAG_SIZE p)) + 8) ≤ w), false)
      else if wireNs7 (portRate s p) (wireTotal (planCopy s p c (copyBase s c)).out) ≤ w then (true, false)
      else if bitAt (fget s (F.LDG_PORT_CFG_OVERRUN_ALLOW p)) q then (true, true)
      else (false, false)

/-- The head copy is ready: its frame is whole, or it may be cut through (R48, R398, R537). -/
def headReady (s : State) (c : Copy) : Bool :=
  match frameOf s c.frame with
  | some f => f.whole || c.cut
  | none => false

/-- The transmitter of port `p` may start a frame: its link is up, and no local fault makes it send remote fault ordered sets
nor a received remote fault idles (R211, R419). -/
def txOpen (s : State) (p : Nat) : Bool :=
  linkUp s p && (decide (71 < p) || (!(portSt s p).cond.localFault && !(portSt s p).cond.remoteFault))

/-- Queue `q` of port `p` is eligible but for its window (R419). -/
def queueReady (s : State) (p q : Nat) : Bool :=
  match queueOf s (qkey p q) with
  | [] => false
  | c :: _ =>
    headReady s c && gateOpen s p q && shaperOk s (qkey p q) && shaperOk s (1280 + p)
      && (match copyGroup s c with | some g => groupOk s g | none => true) && !paused s p && txOpen s p && trafficOn s

/-- Queue `q` of port `p` is eligible (R419). -/
def eligible (s : State) (p q : Nat) : Bool :=
  match queueOf s (qkey p q) with
  | [] => false
  | c :: _ => queueReady s p q && (windowOk s p q c).1

/-- The moment at which the open interval of gate `q` ends, in the ledger's units. -/
def closing (s : State) (p q : Nat) : Option Nat :=
  let l := ledgerOf s p (portBank s p)
  (windowUnits l (ledgerNow s l.bank.mode) q).map (fun n => ledgerNow s l.bank.mode + n)

/-- WINDOW_HOLD counts a copy held at the head of queue `q`, once for each open interval (R470, R471). -/
def noteHold (p q : Nat) (s : State) : State :=
  match queueOf s (qkey p q) with
  | [] => s
  | c :: rest =>
    if queueReady s p q ∧ ¬ (windowOk s p q c).1 ∧ c.heldIn ≠ closing s p q then
      putQueue (qkey p q) ({ c with heldIn := closing s p q } :: rest) (bump 16 (5 * qkey p q) s)
    else s

def noteHolds (p : Nat) (s : State) : State := if p < 72 then (List.range 16).foldl (fun s q => noteHold p q s) s else s

/-- The first slot in ring order from the pointer on whose queue is eligible and of the class: slot and queue (R420). -/
def scan (cal : List Nat) (ptr : Nat) (ok : Nat → Bool) : Option (Nat × Nat) :=
  let n := cal.length
  ((List.range n).map (fun k => (ptr + k) % n)).findSome? (fun i =>
    let q := cal.getD i 16
    if q < 16 ∧ ok q then some (i, q) else none)

/-! ### Starting a transmission -/

/-- A copy leaves queue `k` for its transmitter or the Drayman: what its queue counts (R432). -/
def leaveQueue (k : Nat) (c : Copy) (rest : List Copy) (s : State) : State :=
  bumpN 10 (6 * k + 3) (copyLen s c) (bump 10 (6 * k + 2) (putQueue k rest s))

/-- The transmission of a copy of queue `k` starts: its sojourn (R431). -/
def noteSojourn (k : Nat) (c : Copy) (s : State) : State :=
  let ns := min ((s.clk - c.entered) * 5 / 7) (2 ^ 32 - 1)
  fmax (F.TM_Q_SOJ_MAX_NS (qport k) (qnum k)) ns s

/-- A copy that the egress stage does not send (R221, R383, R387). -/
def stopCopy (p q fate : Nat) (c : Copy) (s : State) : State :=
  let s := returnCharges p q c s
  let h := ownerOf p
  let t := c.tunnel.getD 0
  if fate = 1 then raise 0x0608 h t 0 (setInt A.FRY_INT_STAT 5 (ferryCtr h 16 s))
  else if fate = 2 then ferryCtr h 17 s
  else if fate = 3 then
    let s := raise 0x0607 h t 0 (setInt A.FRY_INT_STAT 4 (ferryCtr h 19 s))
    admitPlanned (76, puntQueue s 0x15,
      { c with tunnel := none, reason := 0x15, tunIdx := t, learn := none, ptpTc := false, cut := false
               heldIn := none }) s
  else bump 0 (24 * p + 22) s

/-- The egress mirror copy of a copy transmitted on a port 0 to 71 (R423, R424). -/
def egressMirror (p : Nat) (c : Copy) (carried : List Byte) (s : State) : State :=
  if 71 < p ∨ c.mirror.isSome ∨ ¬ fbit s (F.TM_PORT_CFG_EMIRROR_EN p) then s
  else
    let (l, s) := mirrorCopy (fget s (F.TM_PORT_CFG_EMIRROR_SESSION p)) { c with base := some carried, ipForm := false } s
    admitAll l s

/-- What an encapsulated copy counts when its headers are built (R385, R392), and the identification it used (R384). -/
def encapCounts (p : Nat) (c : Copy) (out : List (List Byte)) (s : State) : State :=
  let h := ownerOf p
  match c.tunnel, c.mirror with
  | some t, _ =>
    let s := ferryCtr h 15 s
    let s := if 1 < out.length then ferryCtr h 18 s else s
    if tmplV6 (templateAt s (tunTemplate (tunnelAt s t))) then s else ipNext h s
  | none, some m =>
    if c.gre ∧ ¬ fbit s (F.TM_MIR_CFG_OUTER_V6 m) then ipNext h s else s
  | none, none => s

/-- The shapers that govern a copy lose what it takes on the wire (R413). -/
def chargeShapers (p q : Nat) (c : Copy) (n : Nat) (s : State) : State :=
  let s := shaperTake (1280 + p) n (shaperTake (qkey p q) n s)
  match copyGroup s c with
  | some g => groupTake g n s
  | none => s

/-- The bytes of a copy as sent: Kixon fields, or the residence correction and the edits. A mirror copy carries none of the
fields that its transmission writes (R424, R499). -/
def finalPlan (p : Nat) (c : Copy) (f : Frame) (s : State) : TxPlan × State :=
  if f.kixon ∧ p < 72 ∧ c.mirror.isNone then
    let (b, s) := kixonFix p f (copyBase s c) s
    ({ fate := 0, out := [b], carried := copyBase s c }, s)
  else
    let (b, s) := ptpFix p c f (copyBase s c) s
    ({ planCopy s p c b with carried := (planCopy s p c (copyBase s c)).carried }, s)

/-- The head copy of queue `q` of port `p` is selected: it goes onto the wire, or the egress stage stops it. The two fragments of
R385 go back to back as one transmission, which a pause that begins under the first does not part (R225, R386; log entry 79). -/
def sendHead (p q : Nat) (pre : Bool) (s : State) : State :=
  match queueOf s (qkey p q) with
  | [] => s
  | c :: rest =>
    match frameOf s c.frame with
    | none => returnCharges p q c (putQueue (qkey p q) rest s)
    | some f =>
      let fate := if f.kixon ∧ c.mirror.isNone then 0 else (planCopy s p c (copyBase s c)).fate
      let past := (windowOk s p q c).2
      if fate ≠ 0 ∧ (fate ≠ 4 ∨ f.whole) then stopCopy p q fate c (leaveQueue (qkey p q) c rest s)
      else
        let (plan, s) := finalPlan p c f s
        let n := wireTotal plan.out
        let group := copyGroup s c
        let s := chargeShapers p q c n (noteSojourn (qkey p q) c (leaveQueue (qkey p q) c rest s))
        let s := egressMirror p c plan.carried (encapCounts p c plan.out s)
        let s := if past then bump 16 (5 * qkey p q + 1) s else s
        let x : Sending :=
          { copy := c, queue := q, out := plan.out, len := n - 20, sent := 0, fromClk := s.clk, pre := pre
            invert := plan.fate == 4 || f.bad, stamp := txStamp s p, overrun := past
            bank := portBank s p, frag := 3, group := group }
        let t := txOf s p
        putTx p { t with cur := some x, freeClk := s.clk + wireClocks (portRate s p) n }
          { s with tmg := { s.tmg with lastSel := (s.clk, p) } }

/-! ### Preemption (R229 to R234, R471) -/

/-- Data bytes of a sending that have left, a begun byte counting whole. -/
def sentBytes (s : State) (p : Nat) (x : Sending) : Nat :=
  let r := portRate s p
  min (x.len - x.sent) (ceilDiv (5 * r * (s.clk - x.fromClk)) 560 - 8)

/-- Is the sending of port `p` still on the wire? -/
def onWire (s : State) (p : Nat) (x : Sending) : Bool :=
  decide (s.clk < x.fromClk + wireClocks (portRate s p) (x.len - x.sent + 8))

/-- Where the frames of a transmission begin and end, 20 bytes apart (R386). -/
def frameSpans : List (List Byte) → Nat → List (Nat × Nat)
  | [], _ => []
  | b :: t, n => (n, n + wireLen b) :: frameSpans t (n + wireLen b + 20)

/-- Where the frame of a transmission that holds its byte `n` begins. -/
def spanStart (x : Sending) (n : Nat) : Nat :=
  (frameSpans x.out 0).foldl (fun a e => if e.1 ≤ n then e.1 else a) 0

/-- Cut the preemptable frame on the wire at the first point R233 allows, in bytes from `sent` on: `none` when there is none. Of
two outer fragments sent back to back, each is a frame of its own. -/
def cutPoint (s : State) (p : Nat) (x : Sending) : Option Nat :=
  let now := x.sent + sentBytes s p x
  let least := 64 * (1 + fget s (F.PRT_PREEMPT_ADD_FRAG_SIZE p)) - 4
  (frameSpans x.out 0).findSome? (fun e =>
    let d := max now (max e.1 x.sent + least)
    if d + 64 ≤ e.2 then some (d - x.sent) else none)

/-- Preempt the frame on the wire of port `p`. -/
def preempt (p : Nat) (s : State) : State :=
  let t := txOf s p
  match t.cur with
  | none => s
  | some x =>
    if ¬ x.pre ∨ ¬ preemptActive s p ∨ ¬ onWire s p x ∨ paused s p then s
    else
      match cutPoint s p x with
      | none => s
      | some d =>
        let frag := if spanStart x x.sent = spanStart x (x.sent + d) then x.frag else 3
        putTx p { t with cur := none, susp := some { x with sent := x.sent + d, frag := frag }
                         freeClk := x.fromClk + wireClocks (portRate s p) (d + 24) } s

/-- The suspended frame of port `p` resumes with a continuation fragment; fragment counts run modulo 4 (R234). -/
def resumeFrame (p : Nat) (x : Sending) (s : State) : State :=
  putTx p { txOf s p with cur := some { x with fromClk := s.clk, bank := portBank s p, frag := (x.frag + 1) % 4 }, susp := none
                          freeClk := s.clk + wireClocks (portRate s p) (x.len - x.sent + 20) } (bump 0 (24 * p + 16) s)

/-- The suspended frame of port `p` goes on, but in SAFE one of no management stream is dropped (R135). -/
def resumeOrDrop (p : Nat) (x : Sending) (s : State) : State :=
  if safeBlocks s p ∧ ¬ isMgmt s x.copy then
    bump 11 (4 * p + 1) (putTx p { txOf s p with susp := none } (returnCharges p x.queue x.copy s))
  else resumeFrame p x s

/-- What holds while preemption is active: queue `q` may be selected for the express path, or for the preemptable one. -/
def expressOk (s : State) (p q : Nat) : Bool := !preemptable s p q && eligible s p q
def preemptOk (s : State) (p q : Nat) : Bool := preemptable s p q && eligible s p q

/-- Hold is asserted on port `p`, with preemption active (R474). -/
def holdNow (s : State) (p : Nat) : Bool := preemptActive s p && ledgerHold s p

/-! ### Selection (R420, R421) -/

def calendarNow (s : State) (p : Nat) : List Nat := calendarOf s p (portBank s p)

/-- A selection by the pointer in field `f` among the queues `ok`. -/
def selectBy (p : Nat) (f : Fld) (ok : Nat → Bool) (pre : Bool) (s : State) : State :=
  let cal := calendarNow s p
  match scan cal (fget s f) ok with
  | none => s
  | some (i, q) => sendHead p q pre (fput f ((i + 1) % cal.length) s)

/-- The path of preemptable frames: the suspended frame first (R234, R471). -/
def selectPreemptable (p : Nat) (s : State) : State :=
  if holdNow s p ∨ paused s p ∨ ¬ txOpen s p ∨ ¬ trafficOn s then s
  else
    match (txOf s p).susp with
    | some x => if gatedQ s p x.queue ∧ ¬ gateOpen s p x.queue then s else resumeOrDrop p x s
    | none => selectBy p (F.TM_CAL_STATUS_PTR_P p) (preemptOk s p) true s

/-- The transmitter of port `p` is free to start something. -/
def txIdle (s : State) (p : Nat) : Bool := (txOf s p).cur.isNone && decide ((txOf s p).freeClk ≤ s.clk)

/-- A verify or respond mPacket that waits goes onto the wire, as a frame of 64 bytes does (R231, R232); over a loopback the port
receives it itself (R243). -/
def sendMpacket (p : Nat) (s : State) : State :=
  let x := portSt s p
  let s := putTx p { txOf s p with freeClk := s.clk + wireClocks (portRate s p) 84 } (putPort p { x with mpk := x.mpk.drop 1 } s)
  if localLoop s p then (if x.mpk.head? = some 0 then verifyTaken p s else respondTaken p s) else s

/-- A selection on port `p`, 0 to 75 (R420, R421). A pause keeps frames and fragments back, not mPackets (R225; log entry 79). -/
def selectNext (p : Nat) (s : State) : State :=
  let s := noteHolds p s
  if p < 72 ∧ txIdle s p ∧ txOpen s p ∧ (portSt s p).mpk ≠ [] then sendMpacket p s
  else if preemptActive s p then
    let x := scan (calendarNow s p) (fget s (F.TM_CAL_STATUS_PTR_X p)) (expressOk s p)
    let s := if x.isSome then preempt p s else s
    let t := txOf s p
    if t.cur.isSome ∨ s.clk < t.freeClk then s
    else if x.isSome then selectBy p (F.TM_CAL_STATUS_PTR_X p) (expressOk s p) false s
    else selectPreemptable p s
  else
    let t := txOf s p
    if t.cur.isSome ∨ s.clk < t.freeClk then s
    else
      match t.susp with
      | some x => if paused s p ∨ ¬ txOpen s p ∨ ¬ trafficOn s ∨ (gatedQ s p x.queue ∧ ¬ gateOpen s p x.queue) then s else resumeOrDrop p x s
      | none => selectBy p (F.TM_CAL_STATUS_PTR_X p) (eligible s p) false s

/-- A new line of port `p`'s ledger is in force: hold, or the close of a gate, preempts the frame on the wire (R233, R471);
a selected copy whose gate has closed under it is counted (R473). A copy on the wire at a commit completes under the ledger it
was selected under (R109). -/
def lineChange (p : Nat) (s : State) : State :=
  match (txOf s p).cur with
  | none => s
  | some x =>
    let l := portLedgerIn s p x.bank
    let closed := gatedQ s p x.queue && !bitAt l.1 x.queue && onWire s p x
    if x.pre then
      let t := preempt p s
      let cut := (txOf t p).cur.isNone
      if closed ∧ cut then bump 16 (5 * qkey p x.queue + 2) t
      else if l.2.1 then t
      else s
    else if closed ∧ ¬ x.overrun then
      putTx p { txOf s p with cur := some { x with overrun := true } } (setInt A.LDG_INT_STAT 3 (bump 16 (5 * qkey p x.queue + 4) s))
    else s

/-- The time in 1/7 ns that an interval of a ledger bank lasts at the rate in force (R456). -/
def intervalNs7 (s : State) (mode n : Nat) : Option Nat :=
  if mode = 2 then some (7 * n) else if s.phs.rate = 0 then none else some (n * 2 ^ 48 * 5 / s.phs.rate)

/-- The head of queue `q` of port `p` fits no window of the bank that its hearth has committed (R472). -/
def headTooLong (s : State) (p q : Nat) : Bool :=
  let b := (ledgerOf s p (portBank s p)).bank
  match queueOf s (qkey p q), (longestWindow b q).bind (intervalNs7 s b.mode) with
  | c :: _, some w =>
    gatedQ s p q && !(preemptActive s p && preemptable s p q) && !bitAt (fget s (F.LDG_PORT_CFG_OVERRUN_ALLOW p)) q
      && decide (w < wireNs7 (portRate s p) (wireTotal (planCopy s p c (copyBase s c)).out))
  | _, _ => false

/-- Copies that fit no window are dropped from the head of queue `q`, at most `n` (R472). -/
def dropTooLong (p q : Nat) : Nat → State → State
  | 0, s => s
  | n + 1, s =>
    if headTooLong s p q then
      match queueOf s (qkey p q) with
      | c :: rest =>
        dropTooLong p q n (raise 0x0802 p q 0 (setInt A.LDG_INT_STAT 2 (bump 16 (5 * qkey p q + 3)
          (returnCharges p q c (putQueue (qkey p q) rest s)))))
      | [] => s
    else s

/-- R472 for every queue of the ports of the hearths `hs`. -/
def dropTooLongAll (hs : List Nat) (s : State) : State :=
  (List.range 72).foldl (fun s p => if hs.contains (ownerOf p) then
    (List.range 16).foldl (fun s q => dropTooLong p q (queueOf s (qkey p q)).length s) s else s) s

/-- The suspended frame of port `p` is abandoned when `f` names its copy (R114, R238). -/
def dropSuspended (p : Nat) (f : Copy → Bool) (s : State) : State :=
  match (txOf s p).susp with
  | some x => if f x.copy then putTx p { txOf s p with susp := none } (returnCharges p x.queue x.copy s) else s
  | none => s

/-! ### The end of a transmission (R49, R218, R221, R330, R392, R404, R497) -/

/-- Egress learning (R330): one write of a hearth in a core clock (R331); what comes later in that clock teaches nothing (DESIGN
CHOICE, log entry 83). -/
def egressLearn (p : Nat) (c : Copy) (s : State) : State :=
  let h := ownerOf p
  match c.learn with
  | some l =>
    if c.mirror.isNone ∧ l.hearth ≠ h ∧ learnsNow s ∧ sget (fun _ => 0) s.tab.taught h ≠ s.clk + 1 then
      (learnIn h l { s with tab := { s.tab with taught := sput (fun _ => 0) s.tab.taught h (s.clk + 1) } }).2
    else s
  | none => s

/-- L_out of an encapsulated copy (R383, R392): its length before it is cut into fragments. Each further fragment repeats
the outer Ethernet header, its tag and an IPv4 header of 20 bytes, and ends with a frame check sequence of its own (R385). -/
def encapLen (out : List (List Byte)) : Nat :=
  match out with
  | [] => 0
  | b :: rest =>
    let eth := if beAt b 12 2 = 0x8100 then 18 else 14
    (rest.map (fun r => r.length - (eth + 20))).foldl (· + ·) (wireLen b)

/-- A copy transmitted without error on a port 0 to 71. -/
def sentOk (p : Nat) (x : Sending) (f : Frame) (s : State) : State :=
  let n := (x.out.map wireLen).foldl (· + ·) 0
  let s := bumpN 0 (24 * p + 11) n (bumpN 0 (24 * p + 10) x.out.length s)
  let s :=
    match x.group with
    | some g => bumpN 8 (4 * g + 3) (encapLen x.out) (bump 8 (4 * g + 2) s)
    | none => s
  let s := if f.tsReq ∧ x.copy.mirror.isNone ∧ ¬ (f.kixon ∧ f.srcPort = 77) then pushTxStamp p f.tag x.stamp s else s
  egressLearn p x.copy s

/-- A copy ended with an inverted frame check sequence (R49, R218, R221): it teaches as any copy transmitted does (R330). -/
def sentBad (p : Nat) (x : Sending) (s : State) : State :=
  let s := egressLearn p x.copy (bump 0 (24 * p + 23) s)
  if x.out.any (fun b => decide (10240 < b.length + 4)) then bump 0 (24 * p + 22) s else s

/-- VLAN_OP and PCP_EN applied to a frame that enters its second pass; no other byte of it changes (R300). -/
def vlanBefore (c : Copy) (f : Frame) : Frame :=
  let n := if f.carriesFcs then f.bytes.length - 4 else f.bytes.length
  { f with bytes := vlanEdit c.vlanOp c.vid c.pcp c.ethOff c.vlanOffs (f.bytes.take n) ++ f.bytes.drop n }

/-- Ports 72 to 75: the copy re-enters the decision path of its hearth (R50, R300, R404); one to be recomputed re-enters as
it is (R306). -/
def reenter (p : Nat) (x : Sending) (s : State) : State :=
  let h := ownerOf p
  let s := match frameOf s x.copy.frame with
    | some f => putFrame x.copy.frame { (if x.copy.again.isNone then vlanBefore x.copy f else f) with mgmt := x.copy.mgmt } s
    | none => s
  putRecirc h (recircOf s h ++ [(x.copy.frame, x.copy.again)]) s

/-- TRANSMIT_END (R404). A copy whose frame has run out of bytes under cut-through, at MAX_LEN or for want of cells, ends before
its length (R49, R218, R394). -/
def transmitEnd (p : Nat) (s : State) : State :=
  let s := tableWrites s
  let t := txOf s p
  match t.cur with
  | none => s
  | some x =>
    match frameOf s x.copy.frame with
    | none => putTx p { t with cur := none } (returnCharges p x.queue x.copy s)
    | some f =>
      let short := f.stopped || (f.bad && !f.whole)
      let bad := x.invert || f.bad || f.stopped
      if (onWire s p x ∧ ¬ short) ∨ ¬ (f.whole ∨ f.bad ∨ f.stopped) then s
      else
        let free := if short then min t.freeClk (s.clk + wireClocks (portRate s p) 12) else t.freeClk
        let s := returnCharges p x.queue x.copy
          (putTx p { t with cur := none, freeClk := free, last := if p < 72 then x.out.map (macFrame bad) else t.last } s)
        let s := { s with pin := { s.pin with activity := if p < 72 then sput (fun _ => 0) s.pin.activity p (s.clk + 1) else s.pin.activity } }
        let s := if 71 < p then reenter p x s else if bad then sentBad p x s else sentOk p x f s
        freeCells s

/-- A port of a higher number has selected in this core clock: port `p` comes too late in it (R416). -/
def selectMissed (s : State) (p : Nat) : Bool := s.tmg.lastSel.1 == s.clk && decide (p < s.tmg.lastSel.2)

/-- QUEUE_SELECTION (R420). The ports that select in one core clock do so in their order (R416; log entry 77). -/
def execQueueSelection (dt port : Nat) (s : State) : Host.Outcome State Fault Refusal :=
  timed (.queueSelection dt port) dt s (fun s => if selectMissed s port then s else freeCells (selectNext port (tableWrites s)))

/-- TRANSMIT_END (R404). -/
def execTransmitEnd (dt port : Nat) (s : State) : Host.Outcome State Fault Refusal :=
  timed (.transmitEnd dt port) dt s (transmitEnd port)

/-- LEDGER_LINE_BOUNDARY (R461, R462). -/
def execLedgerLineBoundary (dt port : Nat) (s : State) : Host.Outcome State Fault Refusal :=
  timed (.ledgerLineBoundary dt port) dt s (lineChange port)

/-- LEDGER_START (R463, R466): the first line comes into force. -/
def execLedgerStart (dt port : Nat) (s : State) : Host.Outcome State Fault Refusal :=
  timed (.ledgerStart dt port) dt s (fun s => if (portLedger s port).2.2.2 then lineChange port s else s)

/-- LDG_BASE_SUB_WRITE (R467). -/
def execLdgBaseSubWrite (port : Nat) (value : Word) (s : State) : Host.Outcome State Fault Refusal :=
  hostCmd (.ldgBaseSubWrite port value) (A.LDG_BASE_SUB port) s (writeBaseSub port value.toNat)

/-- STREAM_GATE_LINE_START (R479): in both banks of the gate. -/
def execStreamGateLineStart (dt gate : Nat) (s : State) : Host.Outcome State Fault Refusal :=
  timed (.streamGateLineStart dt gate) dt s (fun s => gateLineStart gate 1 (gateLineStart gate 0 s))

end Machine
end Sys2Proof
end

