-- ==== Sys2Proof/Machine/TimedAction.lean ====
section
/-! DEFINITION. Machine/TimedAction.lean: timed actions of the mains phase clock (R482 to R487), and the
pulses of timed outputs (R759). -/
namespace Sys2Proof
namespace Machine

/-! ### Timed actions (R482 to R487) -/

/-- The slot belongs to the fabric block (R482). -/
def fabricSlot (s : State) (t : Nat) : Bool := decide (24 ≤ t) && (roleOf s == 1 || roleOf s == 2)

/-- Slot `t` is armed now; an instant already past makes the action late at once (R485). -/
def taArm (t : Nat) (s : State) : State :=
  let s := fput (F.PHS_TA_CTL_ARM t) 1 s
  if s.phs.valid ∧ taInstant s t < phaseInstant s then taLate t (phaseInstant s) s else s

/-- Slot `t` no longer waits to fire. -/
def taForget (t : Nat) (s : State) : State := { s with phs := { s.phs with taNow := s.phs.taNow.filter (fun e => e.1 != t) } }

/-- A write of PHS_TA_CTL of slot `t` (R483). -/
def writeTaCtl (t v : Nat) (s : State) : State :=
  let s := taForget t (rput (A.PHS_TA_CTL t) (v &&& 0x43FFFC0F) s)
  if bitAt v 31 then taArm t s else s

/-- TIMED_ACTION_ARM (R483): a host write to a slot of the fabric block has no effect (R482). -/
def execTimedActionArm (slot : Nat) (value : Word) (s : State) : Host.Outcome State Fault Refusal :=
  hostCmd (.timedActionArm slot value) (A.PHS_TA_CTL slot) s (fun s =>
    if fabricSlot s slot then lockedWrite (A.PHS_TA_CTL slot) s else writeTaCtl slot value.toNat s)

/-- A pulse at GPIO `pin` for `us` µs, on a timed output (R483, R759). -/
def gpioPulse (pin : Nat) (high : Bool) (us : Nat) (s : State) : State :=
  if bitAt (rget s A.PIN_GPIO_DIR) pin ∧ bitAt (rget s A.PIN_GPIO_TIMED) pin then
    { s with pin := { s.pin with
      pulses := sins (sdel s.pin.pulses pin) pin { high := high, ends := s.clk + max 1 us * clocksPerUs } } }
  else s

/-- The action of a slot (R483). -/
def taAction (t : Nat) (s : State) : State :=
  let arg := rget s (A.PHS_TA_ARG t)
  let k := fget s (F.PHS_TA_CTL_KIND t)
  if k = 1 then takeSnapshot arg (if fabricSlot s t then 4 else 2) s
  else if k = 2 then gpioPulse (bits arg 0 4) (bitAt arg 4) (bits arg 8 24) s
  else if k = 3 then raise 0x090A t t arg s
  else if k = 4 then setInt A.PHS_INT_STAT 5 s
  else s

/-- The instant of slot `t` moves on by multiples of `n` cycles until it lies ahead of `now`; the instants passed over are
counted (R486). -/
def taRepeat (t n now : Nat) (s : State) : State :=
  let x := taInstant s t
  let k := if now < x + n * 2 ^ 24 then 1 else (now - x) / (n * 2 ^ 24) + 1
  let y := (x + k * n * 2 ^ 24) % 2 ^ 64
  faddSat (F.PHS_TA_STATUS_MISSED t) (k - 1)
    (rput (A.PHS_TA_CYCLE_HI t) (y / 2 ^ 56) (rput (A.PHS_TA_CYCLE_LO t) (y / 2 ^ 24 % 2 ^ 32) s))

/-- Slot `t` fires (R484, R486). -/
def taFire (t : Nat) (s : State) : State :=
  let s := taForget t (taAction t (forBits (A.PHS_TA_STATUS t) 1 (forBits A.PHS_TA_FIRED (2 ^ t) s)))
  let n := fget s (F.PHS_TA_CTL_REPEAT t)
  if n = 0 then fput (F.PHS_TA_CTL_ARM t) 0 s else taRepeat t n (phaseInstant s) s

/-- Slot `t` fires in this core clock: it is armed, and the phase has reached its instant (R484); a late one fires on the
core clock after that in which it was found late (R485). -/
def taDue (s : State) (t : Nat) : Bool :=
  s.phs.valid && taArmed s t
    && (match s.phs.taNow.find? (fun e => e.1 == t) with
        | some e => decide (e.2 < s.clk)
        | none => decide (taInstant s t ≤ phaseInstant s))

/-- TIMED_ACTION_FIRE (R484, R485): the slots that are due in one core clock fire in ascending order, so that a lower one that
is still due comes first (R487; log entry 77). -/
def execTimedActionFire (dt slot : Nat) (s : State) : Host.Outcome State Fault Refusal :=
  timed (.timedActionFire dt slot) dt s (fun s =>
    if taDue s slot ∧ ¬ (List.range slot).any (taDue s) then taFire slot s else s)

/-- GPIO_PULSE_END (R759): the pin drives PIN_GPIO_OUT again. -/
def gpioPulseEnd (pin : Nat) (s : State) : State :=
  match s.pin.pulses.find? (fun e => e.1 == pin) with
  | some (_, x) => if x.ends ≤ s.clk then { s with pin := { s.pin with pulses := sdel s.pin.pulses pin } } else s
  | none => s

/-- GPIO_PULSE_END (R759). -/
def execGpioPulseEnd (dt pin : Nat) (s : State) : Host.Outcome State Fault Refusal :=
  timed (.gpioPulseEnd dt pin) dt s (gpioPulseEnd pin)

end Machine
end Sys2Proof
end

