-- ==== Sys2Proof/Machine/Temper.lean ====
section
/-! DEFINITION. Machine/Temper.lean: tempering: arming, commit, the drain barrier, rollback, and what a reset undoes
(chapter 02, R98 to R117). -/
namespace Sys2Proof
namespace Machine

/-! ### Loader states (FRG_STATUS.STATE) and results -/

def frgIdle : Nat := 0
def frgReceiving : Nat := 1
def frgVerifying : Nat := 2
def frgShadowReady : Nat := 3
def frgArmed : Nat := 4
def frgPartial : Nat := 5
def frgDraining : Nat := 6

def frgState (s : State) : Nat := fget s F.FRG_STATUS_STATE
def setFrgState (v : Nat) (s : State) : State := fput F.FRG_STATUS_STATE v s

/-- FRG_STATUS.RESULT. -/
def frgResult (r : Nat) (s : State) : State := fput F.FRG_STATUS_RESULT r s

def frgOk : Nat := 0x00
def frgWrongMode : Nat := 0x0E
def frgAborted : Nat := 0x0F
def frgLateCommit : Nat := 0x10

/-! ### Registers that a Forging gives (R24, R98, R169) -/

/-- The bits of the register at `a` whose Reset column reads "Forging". -/
def forgingMask (a : Nat) : Nat := match regAt a with | some d => d.forging | none => 0

/-- The Forging bits of every register at an address `p` holds of take the values listed, 0 where none is. -/
def loadRegs (p : Nat → Bool) (vals : List (Nat × Nat)) (s : State) : State :=
  let s := (s.regs.filter (fun e => p e.1)).foldl (fun s e =>
    rput e.1 (e.2.toNat &&& (full ^^^ forgingMask e.1)) s) s
  (vals.filter (fun e => p e.1)).foldl (fun s e =>
    let m := forgingMask e.1
    rput e.1 ((rget s e.1 &&& (full ^^^ m)) ||| (e.2 &&& m)) s) s

/-- The registers of section TIMING: the blocks PHS and TIM. -/
def timingReg (a : Nat) : Bool := decide (0x120000 ≤ a ∧ a < 0x140000)

/-- The registers of section ADMIT: GLB_WAKE_MS, GLB_ADMIT_RATE_k and GLB_ADMIT_BURST_k. -/
def admitReg (a : Nat) : Bool := decide (a = A.GLB_WAKE_MS) || decide (A.GLB_ADMIT_RATE 0 ≤ a ∧ a < A.GLB_ADMIT_DROP 0)

/-- TIMING of a Forging takes effect; cycle, phase and the domains' state are kept (R98). -/
def loadTiming (f : Forging) (s : State) : State :=
  let s := timCtlChanged (rget s A.TIM_CTL) (loadRegs timingReg f.content.regs { s with phs := { s.phs with limitsSet := true } })
  if s.phs.running then chooseSource (setRate s.phs.rate s) else s

/-! ### Banks -/

/-- Hearth `h` runs bank `b` from now on. -/
def setBank (h b : Nat) (s : State) : State :=
  let l := s.frg.onBank1.filter (· != h)
  { s with frg := { s.frg with onBank1 := if b = 1 then (List.range 4).filter (fun k => l.contains k || k == h) else l } }

/-- Fill a bank, or empty it. -/
def putBank (b : Nat) (f : Option Forging) (s : State) : State :=
  if b = 0 then { s with frg := { s.frg with bank0 := f } } else { s with frg := { s.frg with bank1 := f } }

/-- The bank of the shadow's Forging. -/
def shadowBank (s : State) : Nat := 1 - s.frg.oldBank

/-- TIMING of bank `b`'s Forging comes into force where it is not already (R98, R115). -/
def timingOf (b : Nat) (s : State) : State :=
  let new : Bool := b != s.frg.oldBank
  match bankForging s b with
  | some f =>
    if new = s.frg.timingNew then s else loadTiming f { s with frg := { s.frg with timingNew := new } }
  | none => s

/-! ### Arming (R106, R108, R111, R115) -/

/-- Commits that the fabric has armed are forgotten (R573). -/
def forgetArmed (k : Nat) (s : State) : State :=
  { s with fab := { s.fab with armedBy := s.fab.armedBy.filter (fun e => e.2 != k) } }

/-- At the acceptance of a command that commits bank `b`, its ledgers are resolved for the hearths it names, and its
stream gates when no hearth runs the bank yet (R465). -/
def resolveArmed (mask : List Nat) (b : Nat) (s : State) : State :=
  if bankRuns s b then
    (List.range 72).foldl (fun s p => if mask.contains (ownerOf p) then resolveLedger p b s else s) s
  else resolveBank mask b s

/-- The bank that a ROLLBACK returns to: in DRAINING the bank that no hearth runs, in PARTIAL that of before. -/
def rollbackBank (s : State) : Nat := if frgState s = frgDraining then 1 - bankOf s 0 else s.frg.oldBank

/-- The hearths that a command would commit to bank `b`. -/
def armMask (s : State) (roll : Bool) (b : Nat) : List Nat :=
  (List.range 4).filter (fun h => bankOf s h != b && (roll || bitAt (fget s F.FRG_TEMPER_CTL_HEARTH_MASK) h))

/-- ARM_COMMIT and ROLLBACK (R106, R108, R115); `trig` is the trigger of the fabric that issued it. -/
def armOp (roll : Bool) (trig : Option Nat) (s : State) : State :=
  let st := frgState s
  let b := if roll then rollbackBank s else shadowBank s
  let mask := armMask s roll b
  let may := if roll then st == frgPartial || st == frgDraining else st == frgShadowReady || st == frgPartial
  if ¬ may ∨ mask = [] then frgResult frgWrongMode s
  else
    let inst := instantAt s A.FRG_COMMIT_CYCLE_HI
    let now := phaseInstant s + fget s F.LDG_COMMIT_MARGIN_PU
    let late := decide (inst < now)
    if late ∧ fbit s F.FRG_TEMPER_CTL_LATE_POLICY then frgResult frgLateCommit s
    else
      let a : Armed := { mask := mask, instant := inst, bank := b, fromState := st, clk := s.clk, now := late, trigger := trig }
      let s := resolveArmed mask b (setFrgState frgArmed (frgResult frgOk { s with frg := { s.frg with armed := some a } }))
      if late then
        let d := min (now - inst) (2 ^ 32 - 1)
        raise 0x0105 noUnit d 0 (rput A.FRG_LATE_PU d (fput F.FRG_STATUS_LATE 1 s))
      else s

/-- ARM_COMMIT (R106). -/
def execArmCommit (s : State) : Host.Outcome State Fault Refusal := hostCmd .armCommit A.FRG_CTL s (armOp false none)

/-- ROLLBACK (R115). -/
def execRollback (s : State) : Host.Outcome State Fault Refusal := hostCmd .rollback A.FRG_CTL s (armOp true none)

/-- Cancel an armed commit (R111). -/
def disarmOp (s : State) : State :=
  match s.frg.armed with
  | some a => forgetArmed 32 (setFrgState a.fromState (frgResult frgOk { s with frg := { s.frg with armed := none } }))
  | none => frgResult frgWrongMode s

/-- DISARM (R111). -/
def execDisarm (s : State) : Host.Outcome State Fault Refusal := hostCmd .disarm A.FRG_CTL s disarmOp

/-! ### The commit (R107, R422, R472) -/

/-- A hearth commits to bank `b`: its ports' calendar pointers go to slot 0, and the commit is recorded. -/
def commitHearth (b h : Nat) (s : State) : State :=
  let s := setBank h b s
  let s := (List.range 76).foldl (fun s p => if ownerOf p = h then
    fput (F.TM_CAL_STATUS_PTR_X p) 0 (fput (F.TM_CAL_STATUS_PTR_P p) 0 s) else s) s
  raise 0x0103 h b 0 s

/-- The armed hearths commit (R107). Of the registers, TIMING alone follows the Forging now and ADMIT at the next WAKING (R98);
every other Forging field, such as PRT_MODE, PRT_MAC_CFG, the limits of TM, its shapers and mirrors, and LDG_PORT_CFG, keeps the
value it has until a full load (DESIGN CHOICE, log entry 76: R24 read alone would load it). -/
def commitArmed (a : Armed) (s : State) : State :=
  let s := forgetArmed 32 (timingOf a.bank { s with frg := { s.frg with armed := none } })
  let s := a.mask.foldl (fun s h => commitHearth a.bank h s) s
  let s := { s with frg := { s.frg with commitClk := s.clk, timeoutDone := false } }
  let s := setInt A.FRG_INT_STAT 3 (if a.now then setInt A.FRG_INT_STAT 5 s else fput F.FRG_STATUS_LATE 0 s)
  let s := if bankRuns s (1 - a.bank) then setFrgState frgPartial s
    else recheckPorts (setFrgState frgDraining { s with frg := { s.frg with active := bankForging s a.bank } })
  freeCells (showBases (dropTooLongAll a.mask s))

/-- The commit that is due: the phase has reached its instant (R107), or it is late and its next core clock has come (R108). -/
def commitDue (s : State) : Option Armed :=
  s.frg.armed.bind (fun a => if (if a.now then a.clk < s.clk else a.instant ≤ phaseInstant s) then some a else none)

/-- TEMPER_COMMIT (R107). -/
def execTemperCommit (dt : Nat) (s : State) : Host.Outcome State Fault Refusal :=
  timed (.temperCommit dt) dt s (fun s => match commitDue s with | some a => commitArmed a s | none => s)

/-! ### The drain barrier (R112 to R114) -/

/-- The bank that no hearth runs leaves the device; tempering ends. -/
def dropBank (b : Nat) (s : State) : State :=
  let s := putBank b none s
  let s := rput64 A.FRG_SHD_ID_HI A.FRG_SHD_ID_LO 0 (fput F.FRG_STATUS_DRAIN_LATE 0 s)
  setFrgState frgIdle { s with frg := { s.frg with tempering := false, armed := none, timingNew := false } }

/-- The old bank of every hearth is released (R113). -/
def releaseOld (s : State) : State := raise 0x0104 noUnit 0 0 (setInt A.FRG_INT_STAT 4 (dropBank (1 - bankOf s 0) s))

/-- The barrier is met (R113). -/
def barrierMet (s : State) : Bool :=
  frgState s == frgDraining && s.frg.armed.isNone && (List.range 4).all (fun h => oldFrames s h == 0)

/-- TEMPER_RELEASE (R113). -/
def execTemperRelease (dt : Nat) (s : State) : Host.Outcome State Fault Refusal :=
  timed (.temperRelease dt) dt s (fun s => if barrierMet s then releaseOld s else s)

/-- Frame `i` belongs to the generation that hearth no longer runs which tagged it. -/
def isOld (s : State) (i : Nat) : Bool :=
  match frameOf s i with
  | some f => match f.tagger with | some h => f.gen != bankOf s h | none => false
  | none => false

/-- FRG_DRAIN_TIMEOUT has passed since the last hearth commit (R114). -/
def drainLate (s : State) : Bool :=
  frgState s == frgDraining && !s.frg.timeoutDone && !barrierMet s
    && decide (s.frg.commitClk + max 1 (fget s F.FRG_DRAIN_TIMEOUT_TIMEOUT_MS) * clocksPerMs ≤ s.clk)

/-! ### Discarding the shadow (R116, R117) -/

/-- The shadow bank is discarded. No hearth runs it. -/
def discardShadow (s : State) : State := forgetArmed 32 (dropBank (shadowBank s) s)

/-- A warm reset during tempering: every hearth returns to the generation of before (R117). -/
def resetRollback (s : State) : State :=
  if s.frg.tempering then
    let b := s.frg.oldBank
    let s := timingOf b s
    let s := (List.range 4).foldl (fun s h => setBank h b s) s
    let s := { s with frg := { s.frg with active := bankForging s b, load := none } }
    raise 0x0107 noUnit 0 0 (showBases (discardShadow s))
  else s

end Machine
end Sys2Proof
end

