-- ==== Sys2Proof/Machine/Fabric.lean ====
section
/-! DEFINITION. Machine/Fabric.lean: the fabric block: Kixon frames, the link handshake and delay, time and triggers, join
requests, the Keeper's state (chapter 13, R547 to R589). -/
namespace Sys2Proof
namespace Machine

/-! ### Fabric ports and the Keeper's state -/

/-- A fabric member (R547). -/
def member (s : State) : Bool := roleOf s == 1 || roleOf s == 2

/-- Port `p` is a fabric port (R549, R550). -/
def isFabricPort (s : State) (p : Nat) : Bool := decide (p < 72) && member s && fbit s (F.FAB_PORT_CFG_EN p)

/-- FAB_PORT_STATUS.STATE: 0 DOWN, 1 HELLO, 2 LINKED. -/
def fabState (s : State) (p : Nat) : Nat := fget s (F.FAB_PORT_STATUS_STATE p)

/-- Fabric ports in state LINKED, ascending. -/
def linkedPorts (s : State) : List Nat := (List.range 72).filter (fun p => isFabricPort s p && fabState s p == 2)

/-- The device is an ACTIVE Keeper (R585). -/
def activeKeeper (s : State) : Bool := roleOf s == 1 && fget s F.FAB_STATUS_KEEPER_STATE == 2

/-- TERM and KEEPER_ID of an ACTIVE Keeper. -/
def ownPair (s : State) : Nat × Nat := (rget s A.FAB_TERM, fget s F.FAB_SELF_DEVICE_ID)

/-- `a` ranks above `b` (R565). -/
def ranksAbove (a b : Nat × Nat) : Bool := decide (b.1 < a.1) || (a.1 == b.1 && decide (a.2 < b.2))

/-- INTERVAL_MS in core clocks, the nearer bound in place of a value outside 10 to 1,000. -/
def timeInterval (s : State) : Nat := clampN (fget s F.FAB_TIME_CFG_INTERVAL_MS) 10 1000 * clocksPerMs

/-- MAX_HOPS; 0 acts as 1. -/
def maxHops (s : State) : Nat := max 1 (fget s F.FAB_TIME_CFG_MAX_HOPS)

/-- A link-delay in 2⁻¹⁶ ns as FAB_PORT_DELAY holds it; wider than the register, it has no stated value (log entry 25). -/
def delayReg (d : Nat) : Nat := if d < 2 ^ 32 then d else (Config.wideDelay d).toNat

/-- The delay in use on port `p`, when it is valid (R562). -/
def fabDelay (s : State) (p : Nat) : Option Nat :=
  if fbit s (F.FAB_PORT_CFG_DELAY_FIX_EN p) then if fabState s p = 2 then some (rget s (A.FAB_PORT_DELAY_FIX p)) else none
  else (fabPort s p).measured

/-! ### Building and sending frames (R551, R556) -/

/-- A Kixon frame before the egress stage has filled in its hop fields (R551, R557). -/
def kixonBytes (s : State) (type : Nat) (payload : List Byte) : List Byte :=
  wordsMac (rget s A.FAB_MAC_LO) (rget s A.FAB_MAC_HI) ++ wordsMac (rget s A.FAB_DEV_MAC_LO) (rget s A.FAB_DEV_MAC_HI)
    ++ beBytes 2 (rget s A.FAB_ETYPE) ++ beBytes 1 0x10 ++ beBytes 1 type ++ beBytes 2 payload.length
    ++ List.replicate 14 0 ++ payload ++ List.replicate 8 0

/-- A copy of a frame as it stands, edited by nothing. -/
def plainCopy (i n h : Nat) : Copy :=
  { frame := i, base := none, tunnel := none, mirror := none, hearth := h, second := false, reason := 0, tunIdx := 0
    tunValid := false, decapTun := 0, gre := false, carry := 0, mgmt := true, yellow := false, ipForm := false, ethOff := none, vlanOffs := []
    keyEnd := none, rtagOff := none, ipOff := none, ptpOff := none, udpOff := none, vlanOp := 0, vid := 0, pcp := none
    encode := none, decode := false, ptpTc := false, hash := 0, learn := none, cut := false, cells := cellsFor n
    shared := 0, pool := 0, entered := 0, heldIn := none, again := none }

/-- Queue a frame of the fabric block on the ports `ps` (R556). -/
def fabQueue (ps : List Nat) (f : Frame) (s : State) : State :=
  if ¬ kixonOn s ∨ ps = [] ∨ ¬ cellsFree s (cellsFor f.bytes.length) then s
  else
    let (i, s) := addFrame f s
    admitAll (ps.map (fun p =>
      (p, physQueue s p (fget s F.FAB_CTL_TX_QUEUE), plainCopy i f.bytes.length (ownerOf p)))) s

/-- A frame that the fabric block originates. -/
def fabFrame (s : State) (type : Nat) (payload : List Byte) : Frame :=
  let b := kixonBytes s type payload
  { newFrame b 77 with carriesFcs := false, whole := true, rxLen := b.length + 4, kixon := true }

/-- Originate a frame on the ports `ps`. -/
def fabSend (ps : List Nat) (type : Nat) (payload : List Byte) (s : State) : State := fabQueue ps (fabFrame s type payload) s

/-- The neighbour of port `p`, for records. -/
def neighbour (s : State) (p : Nat) : Nat := fget s (F.FAB_PORT_STATUS_NEIGHBOUR_ID p)

/-! ### The selected upstream port (R566) -/

/-- Port `p` is a candidate: TERM, KEEPER_ID and HOPS of its latest accepted TIME frame. -/
def upCandidate (s : State) (p : Nat) : Option (Nat × Nat × Nat) :=
  match (fabPort s p).time with
  | some (c, term, kid, hops) =>
    if isFabricPort s p ∧ fabState s p = 2 ∧ (fabDelay s p).isSome ∧ s.clk < c + 3 * timeInterval s then some (term, kid, hops)
    else none
  | none => none

/-- Is candidate `a` to be preferred to `b`, which stands on a lower port? -/
def betterThan (a b : Nat × Nat × Nat) : Bool :=
  ranksAbove (a.1, a.2.1) (b.1, b.2.1) || (a.1 == b.1 && a.2.1 == b.2.1 && decide (a.2.2 < b.2.2))

/-- The port that R566 selects. -/
def bestUp (s : State) : Option Nat :=
  ((List.range 72).foldl (fun (best : Option (Nat × Nat × Nat × Nat)) p =>
    match upCandidate s p, best with
    | some c, some (q, d) => if betterThan c d then some (p, c) else some (q, d)
    | some c, none => some (p, c)
    | none, b => b) none).map Prod.fst

/-- The selected upstream port, if any. -/
def upPort (s : State) : Option Nat := if fbit s F.FAB_STATUS_UP_VALID then some (fget s F.FAB_STATUS_UP_PORT) else none

/-- Select the upstream port again (R566). -/
def chooseUp (s : State) : State :=
  let old := upPort s
  let new := bestUp s
  if new = old then s
  else
    let s := match old with | some p => fput (F.FAB_PORT_STATUS_UPSTREAM p) 0 s | none => s
    match new with
    | some p =>
      let s := fput (F.FAB_PORT_STATUS_UPSTREAM p) 1 (fput F.FAB_STATUS_UP_PORT p (fput F.FAB_STATUS_UP_VALID 1 s))
      raise 0x0B05 p (neighbour s p) 0 (setInt A.FAB_INT_STAT 4 s)
    | none =>
      let s := fput F.FAB_STATUS_UP_PORT 0 (fput F.FAB_STATUS_UP_VALID 0 s)
      raise 0x0B05 noUnit 0 0 (setInt A.FAB_INT_STAT 4 s)

/-- UPSTREAM_CANDIDATE_EXPIRY (R566). -/
def execUpstreamCandidateExpiry (dt port : Nat) (s : State) : Host.Outcome State Fault Refusal :=
  timed (.upstreamCandidateExpiry dt port) dt s (fun s => if (upCandidate s port).isNone then chooseUp s else s)

/-! ### The link handshake (R561) -/

/-- A HELLO is sent on port `p`. -/
def sendHello (p : Nat) (s : State) : State :=
  let x := fabPort s p
  fabSend [p] 0x01 (beBytes 8 x.nonce ++ beBytes 1 (roleOf s) ++ List.replicate 7 0) (putFabPort p { x with helloClk := s.clk } s)

/-- Step 1: the handshake of port `p` starts. -/
def startHello (p : Nat) (s : State) : State :=
  let n := (Config.nonce s.free).toNat
  let s := { s with free := s.free + 1 }
  let s := putFabPort p { fabPort s p with nonce := n, txSeq := 0 } s
  chooseUp (sendHello p (fput (F.FAB_PORT_STATUS_STATE p) 1 s))

/-- Step 4: port `p` goes DOWN. -/
def fabDown (p : Nat) (s : State) : State :=
  let was := fabState s p
  let s := putFabPort p { fabPort s p with rxSeq := 0, peer := none, measured := none, reqSent := none } s
  let s := fput (F.FAB_PORT_STATUS_STATE p) 0 s
  let s := if was = 2 then raise 0x0B02 p (neighbour s p) 0 (setInt A.FAB_INT_STAT 1 s) else s
  chooseUp s

/-- The link of port `p` is reported up (R212): a fabric port starts its handshake. -/
def fabLinkUp (p : Nat) (s : State) : State := if isFabricPort s p then startHello p s else s

/-- The link of port `p` is reported down, or the port is reset. -/
def fabLinkDown (p : Nat) (s : State) : State := if fabState s p = 0 then s else fabDown p s

/-- HELLO_TIMER (R561): 100 ms since the last HELLO. -/
def execHelloTimer (dt port : Nat) (s : State) : Host.Outcome State Fault Refusal :=
  timed (.helloTimer dt port) dt s (fun s =>
    if isFabricPort s port ∧ fabState s port = 1 ∧ (fabPort s port).helloClk + 100 * clocksPerMs ≤ s.clk then
      freeCells (sendHello port s)
    else s)

/-- REHELLO (R561). -/
def rehelloOp (p : Nat) (s : State) : State :=
  if isFabricPort s p then freeCells (startHello p (fput F.FAB_CMD_STATUS_RESULT 0 s)) else fput F.FAB_CMD_STATUS_RESULT 6 s

/-- REHELLO (R561). -/
def execRehello (port : Nat) (s : State) : Host.Outcome State Fault Refusal :=
  hostCmd (.rehello port) A.FAB_CMD s (rehelloOp port)

/-- A write of FAB_PORT_CFG of port `p`: a port that leaves the fabric goes DOWN, one that enters it with its link up
starts its handshake (R561). -/
def writeFabPort (p v : Nat) (s : State) : State :=
  let was := isFabricPort s p
  let s := writeRw (A.FAB_PORT_CFG p) v s
  if was ∧ ¬ isFabricPort s p then fabDown p s
  else if ¬ was ∧ isFabricPort s p ∧ linkUp s p then freeCells (startHello p s)
  else chooseUp s

/-- FAB_PORT_CFG_WRITE (R561). -/
def execFabPortCfgWrite (port : Nat) (value : Word) (s : State) : Host.Outcome State Fault Refusal :=
  hostCmd (.fabPortCfgWrite port value) (A.FAB_PORT_CFG port) s (writeFabPort port value.toNat)

/-- A write of FAB_SELF (R548); while no Forging is active it is taken as its access code allows (R169). -/
def writeFabSelf (v : Nat) (s : State) : State :=
  let id := v % 65536
  if s.frg.active.isNone then writeRw A.FAB_SELF v s
  else if roleOf s = 2 ∧ fget s F.FAB_SELF_DEVICE_ID = 0xFFFF ∧ ¬ s.fab.selfSet ∧ 2 ≤ id ∧ id ≤ 2047 then
    fput F.FAB_SELF_DEVICE_ID id { s with fab := { s.fab with selfSet := true } }
  else lockedWrite A.FAB_SELF s

/-- FAB_SELF_WRITE (R548). -/
def execFabSelfWrite (value : Word) (s : State) : Host.Outcome State Fault Refusal :=
  hostCmd (.fabSelfWrite value) A.FAB_SELF s (writeFabSelf value.toNat)

/-! ### The checks of a received frame (R552 to R554, R559) -/

/-- The loaded key set with this KEY_ID. -/
def keyOf (s : State) (id : Nat) : Option KeySet :=
  (s.fab.keyActive.toList ++ s.fab.keyStandby.toList).find? (fun k => k.id == id)

/-- A TYPE of R554. -/
def typeKnown (t : Nat) : Bool :=
  (decide (1 ≤ t) && decide (t ≤ 4)) || t == 0x10 || t == 0x11 || (decide (0x20 ≤ t) && decide (t ≤ 0x2A))
    || (decide (0x30 ≤ t) && decide (t ≤ 0x3F))

/-- LENGTH fits TYPE (R554). -/
def lengthFits (b : List Byte) (t n : Nat) : Bool :=
  if t = 0x01 ∨ t = 0x02 then n == 16 else if t = 0x03 then n == 8 else if t = 0x04 ∨ t = 0x11 ∨ t = 0x24 then n == 32
  else if t = 0x10 then n == 48 else if t = 0x20 ∨ t = 0x21 then n == 36 else if t = 0x22 then n == 24
  else if t = 0x23 ∨ t = 0x26 then n == 28
  else if t = 0x25 then let c := beAt b 60 2; decide (1 ≤ c) && decide (c ≤ 1024) && n == 32 + c
  else if t = 0x27 then n == 44 else if t = 0x28 then n == 20
  else if t = 0x29 then let c := beAt b 48 1; decide (1 ≤ c) && decide (c ≤ 32) && n == 20 + 32 * c
  else decide (12 ≤ n) && decide (n ≤ 1440)

/-- The tag of a frame verifies under the key set its KEY_ID names (R552). -/
def tagOk (s : State) (b : List Byte) (n : Nat) : Bool :=
  match keyOf s (beAt b 14 1 % 16) with
  | some k => (aesCmac k.key ((b.drop 14).take (18 + n))).take 8 == (b.drop (32 + n)).take 8
  | none => false

/-- The counter, among those of its port, of the first check that a frame on port `p` fails (R559). -/
def checkFails (s : State) (p : Nat) (f : Frame) : Option Nat :=
  let b := f.bytes
  let n := beAt b 16 2
  let t := beAt b 15 1
  if beAt b 14 1 / 16 ≠ 1 then some 2
  else if 1440 < n ∨ f.rxLen < 44 + n then some 3
  else if beAt b 18 4 ≠ rget s A.FAB_FABRIC_ID then some 4
  else if ¬ tagOk s b n then some 5
  else if ¬ typeKnown t then some 6
  else if ¬ lengthFits b t n then some 3
  else if t ≠ 1 ∧ t ≠ 2 ∧ (fabState s p ≠ 2 ∨ beAt b 26 6 ≤ (fabPort s p).rxSeq) then some 7
  else none

/-- The TERM and KEEPER_ID that a TIME, TRIGGER or HEARTBEAT frame carries (R563, R570, R574). -/
def framePair (b : List Byte) : Option (Nat × Nat) :=
  let t := beAt b 15 1
  if t = 0x10 ∨ t = 0x11 then some (beAt b 32 4, beAt b 36 2)
  else if t = 0x23 then some (beAt b 44 4, beAt b 48 2)
  else none

/-- A frame that failed the check counted in counter `i` is dropped. -/
def countFail (p i : Nat) (f : Frame) (s : State) : State :=
  let s := bump 20 (9 * p + i) s
  let id := beAt f.bytes 22 2
  if i = 5 then raise 0x0B03 p id 0 (setInt A.FAB_INT_STAT 2 s)
  else if i = 7 then raise 0x0B04 p id 0 (setInt A.FAB_INT_STAT 3 s)
  else s

/-- A frame that passed every check waits to be handled. -/
def passFrame (i p : Nat) (f : Frame) (s : State) : State :=
  let t := beAt f.bytes 15 1
  let s := if t ≠ 1 ∧ t ≠ 2 then putFabPort p { fabPort s p with rxSeq := beAt f.bytes 26 6 } s else s
  let s := bump 20 (9 * p) s
  let top := match framePair f.bytes, s.fab.maxTerm with
    | some (term, _), some m => some (max term m)
    | some (term, _), none => some term
    | none, m => m
  { s with fab := { s.fab with maxTerm := top, passed := s.fab.passed ++ [i] } }

/-- The frame at the head of the receive queue is checked (R559). -/
def checkHead (s : State) : State :=
  match s.fab.rx with
  | [] => s
  | i :: rest =>
    match frameOf s i with
    | none => { s with fab := { s.fab with rx := rest } }
    | some f =>
      if ¬ f.whole then s
      else
        let s := { s with fab := { s.fab with rx := rest } }
        if f.bad ∨ ¬ kixonOn s then s
        else
          match checkFails s f.srcPort f with
          | some k => countFail f.srcPort k f s
          | none => passFrame i f.srcPort f s

/-- KIXON_FRAME_CHECK (R559). -/
def execKixonFrameCheck (dt : Nat) (s : State) : Host.Outcome State Fault Refusal :=
  timed (.kixonFrameCheck dt) dt s (fun s => freeCells (checkHead s))

/-- The frame at the head of those that passed the checks, when its TYPE is one of `types`. -/
def headFrame (s : State) (ok : Nat → Bool) : Option (Nat × Frame) :=
  match s.fab.passed with
  | [] => none
  | i :: _ => match frameOf s i with
    | some f => if ok (beAt f.bytes 15 1) then some (i, f) else none
    | none => none

/-- The head of the passed frames has been handled. -/
def dropHead (s : State) : State := { s with fab := { s.fab with passed := s.fab.passed.drop 1 } }

/-- Handle the head frame, of one TYPE, by `act` on its port, frame and state; with the Kixon hardware off it is dropped
(R550). -/
def handleHead (type : Nat) (act : Nat → Frame → State → State) (s : State) : State :=
  match headFrame s (· == type) with
  | some (_, f) => freeCells (if kixonOn s then act f.srcPort f (dropHead s) else dropHead s)
  | none => s

/-! ### HELLO and HELLO_ACK (R561) -/

/-- A HELLO on port `p`. -/
def onHello (p : Nat) (f : Frame) (s : State) : State :=
  let n := beAt f.bytes 32 8
  let again := fabState s p == 2 && (fabPort s p).peer != some n
  let s := putFabPort p { fabPort s p with peer := some n } s
  let s := if again then startHello p s else s
  fabSend [p] 0x02 (beBytes 8 n ++ List.replicate 8 0) s

/-- HELLO (R561, steps 1 and 2). -/
def execHello (dt : Nat) (s : State) : Host.Outcome State Fault Refusal :=
  timed (.hello dt) dt s (handleHead 0x01 onHello)

/-- A HELLO_ACK on port `p`. -/
def onHelloAck (p : Nat) (f : Frame) (s : State) : State :=
  let x := fabPort s p
  if fabState s p = 1 ∧ beAt f.bytes 32 8 = x.nonce then
    let s := putFabPort p { x with rxSeq := beAt f.bytes 26 6, measured := none, reqSent := none, reqId := 0, reqClk := s.clk } s
    let s := fput (F.FAB_PORT_STATUS_NEIGHBOUR_LINK p) (beAt f.bytes 24 1)
      (fput (F.FAB_PORT_STATUS_NEIGHBOUR_ID p) (beAt f.bytes 22 2) (fput (F.FAB_PORT_STATUS_STATE p) 2 s))
    chooseUp (raise 0x0B01 p (neighbour s p) 0 (setInt A.FAB_INT_STAT 0 s))
  else s

/-- HELLO_ACK (R561, step 3). -/
def execHelloAck (dt : Nat) (s : State) : Host.Outcome State Fault Refusal :=
  timed (.helloAck dt) dt s (handleHead 0x02 onHelloAck)

/-! ### Link delay (R562) -/

/-- A DELAY_REQ is due on port `p`: the first of a LINKED period at once, the next 1,000 ms after the last. -/
def delayReqDue (s : State) (p : Nat) : Bool :=
  let x := fabPort s p
  isFabricPort s p && fabState s p == 2 && (x.reqId == 0 || decide (x.reqClk + 1000 * clocksPerMs ≤ s.clk))

/-- A DELAY_REQ is sent on port `p`. -/
def sendDelayReq (p : Nat) (s : State) : State :=
  let x := fabPort s p
  let s := putFabPort p { x with reqId := x.reqId + 1, reqClk := s.clk, reqSent := none } s
  fabSend [p] 0x03 (beBytes 2 (x.reqId + 1) ++ List.replicate 6 0) s

/-- DELAY_REQ_TIMER (R562). -/
def execDelayReqTimer (dt port : Nat) (s : State) : Host.Outcome State Fault Refusal :=
  timed (.delayReqTimer dt port) dt s (fun s => if delayReqDue s port then freeCells (sendDelayReq port s) else s)

/-- A DELAY_REQ on port `p` is answered; T3 and the correction for steps are written at the egress stage. -/
def onDelayReq (p : Nat) (f : Frame) (s : State) : State :=
  let g := fabFrame s 0x04 ((f.bytes.drop 32).take 2 ++ List.replicate 6 0 ++ wireStamp f.stamp ++ List.replicate 12 0)
  fabQueue [p] { g with stamp := f.stamp, stepSum := f.stepSum } s

/-- DELAY_REQ (R562). -/
def execDelayReq (dt : Nat) (s : State) : Host.Outcome State Fault Refusal :=
  timed (.delayReq dt) dt s (handleHead 0x03 onDelayReq)

/-- A wire stamp at `o`, in 2⁻¹⁶ ns (R555). -/
def stampAt16 (b : List Byte) (o : Nat) : Nat := (beAt b o 6 * 1000000000 + beAt b (o + 6) 4) * 65536 + beAt b (o + 10) 2

/-- A DELAY_RESP on port `p`. -/
def onDelayResp (p : Nat) (f : Frame) (s : State) : State :=
  let x := fabPort s p
  match x.reqSent with
  | none => s
  | some (t1, step1) =>
    let round := elapsed16 f.stamp t1 (f.stepSum - step1)
    if beAt f.bytes 32 2 ≠ x.reqId % 65536 ∨ round > 100000000 * 65536 then s
    else
      let s := putFabPort p { x with reqSent := none } s
      let d := (round - (Int.ofNat (stampAt16 f.bytes 52) - Int.ofNat (stampAt16 f.bytes 40))) / 2
      if d < 0 then bump 20 (9 * p + 8) s
      else
        let m : Int := match x.measured with
          | none => d
          | some m => Int.ofNat m + (d - Int.ofNat m) / 8
        chooseUp (putFabPort p { fabPort s p with measured := some m.toNat } s)

/-- DELAY_RESP (R562). -/
def execDelayResp (dt : Nat) (s : State) : Host.Outcome State Fault Refusal :=
  timed (.delayResp dt) dt s (handleHead 0x04 onDelayResp)

/-! ### The standing (R565) -/

/-- A frame ranked `pair` arrives: dropped when it ranks below the standing; else the standing takes the higher pair. -/
def acceptPair (pair : Nat × Nat) (s : State) : Bool × State :=
  match s.fab.standing with
  | none => (true, setInt A.FAB_INT_STAT 7 { s with fab := { s.fab with standing := some pair, lastTrig := none } })
  | some old =>
    if ranksAbove old pair then (false, raise 0x0B0D pair.2 pair.1 0 (bump 21 5 s))
    else if ranksAbove pair old then
      (true, setInt A.FAB_INT_STAT 7 { s with fab := { s.fab with standing := some pair, lastTrig := none } })
    else (true, s)

/-- An ACTIVE Keeper becomes STANDBY: no TIME frames, no trigger copies not yet sent (R585). -/
def stepDownNow (s : State) : State :=
  let (t, k) := ownPair s
  raise 0x0B09 k t 0 (fput F.FAB_STATUS_KEEPER_STATE 1 { s with fab := { s.fab with trig := none } })

/-! ### TIME (R563 to R569) -/

/-- FLAGS of a TIME frame. -/
def timeFlags (s : State) : Nat := b2n s.tim.valid + 2 * b2n s.phs.valid

/-- TIME frames leave the Keeper on every LINKED port (R564). -/
def sendTime (s : State) : State :=
  let s := { s with fab := { s.fab with timeSeq := (s.fab.timeSeq + 1) % 2 ^ 32, timeClk := s.clk } }
  let (t, k) := ownPair s
  let payload := beBytes 4 t ++ beBytes 2 k ++ beBytes 1 0 ++ beBytes 1 (timeFlags s) ++ beBytes 4 s.fab.timeSeq
    ++ List.replicate 28 0 ++ beBytes 2 (rget s A.TIM_UTC_OFFSET) ++ List.replicate 6 0
  fabSend (linkedPorts s) 0x10 payload s

/-- TIME_INTERVAL (R564). -/
def execTimeInterval (dt : Nat) (s : State) : Host.Outcome State Fault Refusal :=
  timed (.timeInterval dt) dt s (fun s =>
    if kixonOn s ∧ activeKeeper s ∧ s.fab.timeClk + timeInterval s ≤ s.clk then freeCells (sendTime s) else s)

/-- Units of device time in 2⁻¹⁶ ns. -/
def unit16 : Nat := 109375000

/-- What a TIME frame on the upstream port says to the receivers of time and phase (R567, R568); `d` is the port's delay. -/
def timeFeeds (f : Frame) (d : Nat) (s : State) : State :=
  let b := f.bytes
  let flags := beAt b 39 1
  let corr := toSigned 64 (beAt b 56 8)
  let keeper : Int := (Int.ofNat (stampAt16 b 44) + corr + Int.ofNat d) * Int.ofNat unit16
  let feed := fget s F.TIM_CTL_SRC_A == 1
  let phase := fun (s : State) =>
    if fbit s F.FAB_CTL_PHASE_FEED ∧ bitAt flags 1 ∧ s.phs.running then
      let t := stampAdd f.stamp (-((corr + Int.ofNat d) * Int.ofNat unit16))
      withValid (msgSample (beAt b 64 8) t) (bump 21 4 s)
    else s
  let s :=
    if feed ∧ bitAt flags 0 then
      if s.tim.valid then
        phase (timeSample 0 ((Int.ofNat f.stamp - keeper) / Int.ofNat unit16) f.stamp (bump 21 4 s))
      else
        let s := phase s
        stepTime ((Int.ofNat s.tim.t + keeper - Int.ofNat f.stamp) % Int.ofNat timeMod).toNat s
    else phase s
  if feed ∧ s.tim.valid ∧ beAt b 72 2 ≠ rget s A.TIM_UTC_OFFSET then writeUtcOffset (beAt b 72 2) s else s

/-- A frame exceeds the hop limit (R569). -/
def hopsExceeded (pair : Nat × Nat) (trig : Nat) (s : State) : State :=
  raise 0x0B0F pair.2 pair.1 trig (setInt A.FAB_INT_STAT 12 (bump 21 6 s))

/-- A frame accepted on the upstream port `p` is relayed with HOPS + 1 (R569, R572). -/
def relay (p : Nat) (f : Frame) (d trig : Nat) (s : State) : State :=
  let hops := beAt f.bytes 38 1
  if maxHops s < hops + 1 then hopsExceeded (beAt f.bytes 32 4, beAt f.bytes 36 2) trig s
  else
    let n := beAt f.bytes 16 2
    let payload := patch ((f.bytes.drop 32).take n) 6 (beBytes 1 (hops + 1))
    let g := fabFrame s (beAt f.bytes 15 1) payload
    fabQueue ((linkedPorts s).filter (· != p)) { g with stamp := f.stamp, stepSum := f.stepSum, upDelay := d } s

/-- A TIME frame on port `p`. -/
def onTime (p : Nat) (f : Frame) (s : State) : State :=
  let pair := (beAt f.bytes 32 4, beAt f.bytes 36 2)
  let s := if activeKeeper s ∧ ranksAbove pair (ownPair s) then setInt A.FAB_INT_STAT 8 (stepDownNow s) else s
  let (ok, s) := acceptPair pair s
  if ¬ ok then s
  else
    let s := chooseUp (putFabPort p { fabPort s p with time := some (s.clk, pair.1, pair.2, beAt f.bytes 38 1) } s)
    if activeKeeper s ∨ upPort s ≠ some p then s
    else
      let d := (fabDelay s p).getD 0
      relay p f d 0 (timeFeeds f d s)

/-- TIME (R565 to R569, R585). -/
def execTimeFrame (dt : Nat) (s : State) : Host.Outcome State Fault Refusal :=
  timed (.timeFrame dt) dt s (handleHead 0x10 onTime)

/-! ### Triggers (R570 to R573) -/

/-- The outcome of a trigger: TERM, KEEPER_ID, TRIG_ID, kind and result; results from 3 on are refusals. -/
def trigReport (pair : Nat × Nat) (id kind res : Nat) (s : State) : State :=
  let s := rput A.FAB_TRIG_LAST_RES (kind * 256 + res) (rput A.FAB_TRIG_LAST_ID id s)
  if 3 ≤ res then raise 0x0B0B pair.2 pair.1 id (setInt A.FAB_INT_STAT 10 (bump 21 8 s))
  else raise 0x0B0A pair.2 pair.1 id (setInt A.FAB_INT_STAT 9 (bump 21 7 s))

/-- Remember what trigger `id` armed; nothing armed earlier in the same place remains. -/
def noteArmed (id k : Nat) (s : State) : State :=
  { s with fab := { s.fab with armedBy := (id, k) :: s.fab.armedBy.filter (fun e => e.2 != k) } }

/-- SNAPSHOT: the lowest free slot of 24 to 31 is armed. -/
def trigSnapshot (id inst arg : Nat) (late : Bool) (s : State) : Nat × State :=
  match ((List.range 8).map (· + 24)).find? (fun t => !taArmed s t) with
  | none => (4, s)
  | some t =>
    let s := rput (A.PHS_TA_ARG t) arg (latchInstant (A.PHS_TA_CYCLE_HI t) inst s)
    let s := writeTaCtl t (2 ^ 31 + b2n late * 2 ^ 30 + 1) (noteArmed id t s)
    (if s.phs.taNow.any (fun e => e.1 == t) then 1 else if taArmed s t then 0 else 2, s)

/-- COMMIT and ROLLBACK: the instant, the mask and the policy are written, and the command is issued. -/
def trigCommit (roll : Bool) (id inst arg fseq : Nat) (late : Bool) (s : State) : Nat × State :=
  if rget64 s A.FRG_SHD_ID_HI A.FRG_SHD_ID_LO ≠ fseq then (3, s)
  else
    let s := fput F.FRG_TEMPER_CTL_LATE_POLICY (b2n late) (fput F.FRG_TEMPER_CTL_HEARTH_MASK arg
      (latchInstant A.FRG_COMMIT_CYCLE_HI inst s))
    let s := armOp roll (some id) s
    let r := fget s F.FRG_STATUS_RESULT
    if r = frgOk then
      (match s.frg.armed with | some a => b2n a.now | none => 0, noteArmed id 32 s)
    else (if r = frgLateCommit then 2 else 6, s)

/-- The standby key set becomes active and the active one standby (R584). -/
def swapKeys (s : State) : State :=
  let id := fun (k : Option KeySet) => match k with | some x => x.id | none => noUnit
  let s := { s with fab := { s.fab with keyActive := s.fab.keyStandby, keyStandby := s.fab.keyActive } }
  raise 0x0B0E noUnit (id s.fab.keyActive) (id s.fab.keyStandby) s

/-- KEY_SWITCH: at the instant, or at once when it is late. -/
def trigKeySwitch (inst : Nat) (late : Bool) (s : State) : Nat × State :=
  if s.fab.keyStandby.isNone then (5, s)
  else if inst < phaseInstant s then if late then (2, s) else (1, swapKeys s)
  else (0, { s with fab := { s.fab with keySwitch := s.fab.keySwitch ++ [inst] } })

/-- DISARM of what trigger `id` armed. -/
def trigDisarm (id : Nat) (s : State) : Nat × State :=
  match s.fab.armedBy.find? (fun e => e.1 == id) with
  | none => (7, s)
  | some (_, k) =>
    let s' := { s with fab := { s.fab with armedBy := s.fab.armedBy.filter (fun e => e.2 != k) } }
    if k = 32 then
      match s.frg.armed with
      | some a => if a.trigger = some id then (0, disarmOp s') else (7, s')
      | none => (7, s')
    else if taArmed s k then (0, taForget k (fput (F.PHS_TA_CTL_ARM k) 0 s')) else (7, s')

/-- A trigger acts (R573): its payload holds everything from TERM on. -/
def actTrigger (b : List Byte) (s : State) : State :=
  let kind := beAt b 7 1 % 16
  let late := bitAt (beAt b 7 1) 7
  let id := beAt b 8 4
  let inst := beAt b 12 8
  let arg := beAt b 20 4
  let s := { s with fab := { s.fab with lastTrig := some id } }
  if kind = 0 ∨ 5 < kind then s
  else
    let (r, s) :=
      if kind = 1 then trigSnapshot id inst arg late s
      else if kind = 2 then trigCommit false id inst arg (beAt b 24 8) late s
      else if kind = 3 then trigCommit true id inst arg (beAt b 24 8) late s
      else if kind = 4 then trigKeySwitch inst late s
      else trigDisarm arg s
    trigReport (beAt b 0 4, beAt b 4 2) id kind r s

/-- A TRIGGER frame on port `p` (R572). An ACTIVE Keeper acts on no trigger it receives, nor relays it (R585; DEDUCED, log
entry 56). -/
def onTrigger (p : Nat) (f : Frame) (s : State) : State :=
  let (ok, s) := acceptPair (beAt f.bytes 32 4, beAt f.bytes 36 2) s
  if ¬ ok then s
  else
    let b := (f.bytes.drop 32).take 32
    let id := beAt b 8 4
    let new : Bool := match s.fab.lastTrig with | some k => decide (k < id) | none => true
    if ¬ new then
      let s := bump 21 9 s
      if upPort s = some p ∧ ¬ activeKeeper s then relay p f 0 id s else s
    else if activeKeeper s then s
    else
      let s := actTrigger b s
      if upPort s = some p then relay p f 0 id s else s

/-- TRIGGER (R572). -/
def execTrigger (dt : Nat) (s : State) : Host.Outcome State Fault Refusal :=
  timed (.trigger dt) dt s (handleHead 0x11 onTrigger)

/-- The armed KEY_SWITCH whose instant the phase has reached, the one armed first of several, acts. -/
def keySwitchDue (s : State) : State :=
  match s.fab.keySwitch.find? (fun x => decide (x ≤ phaseInstant s)) with
  | some x =>
    let s := { s with fab := { s.fab with keySwitch := s.fab.keySwitch.erase x } }
    if s.fab.keyStandby.isSome then swapKeys s else s
  | none => s

/-- KEY_SWITCH_INSTANT (R573): the phase has reached the instant. -/
def execKeySwitchInstant (dt : Nat) (s : State) : Host.Outcome State Fault Refusal :=
  timed (.keySwitchInstant dt) dt s keySwitchDue

/-- The payload of the trigger that the FAB_TRIG registers describe. -/
def trigPayload (s : State) (id : Nat) : List Byte :=
  let (t, k) := ownPair s
  let kind := fget s F.FAB_TRIG_CTL_KIND
  beBytes 4 t ++ beBytes 2 k ++ beBytes 1 0 ++ beBytes 1 (b2n (fbit s F.FAB_TRIG_CTL_LATE_POLICY) * 128 + kind)
    ++ beBytes 4 id ++ beBytes 8 (instantAt s A.FAB_TRIG_CYCLE_HI) ++ beBytes 4 (rget s A.FAB_TRIG_ARG)
    ++ beBytes 8 (if kind = 2 ∨ kind = 3 then rget64 s A.FAB_TRIG_FSEQ_HI A.FAB_TRIG_FSEQ_LO else 0)

/-- One copy of the trigger in hand goes out on every LINKED port (R571). -/
def sendTrigCopy (s : State) : State :=
  match s.fab.trig with
  | some x =>
    let s := { s with fab := { s.fab with
      trig := if 1 < x.left then some { x with left := x.left - 1, clk := s.clk } else none } }
    fabSend (linkedPorts s) 0x11 x.payload s
  | none => s

/-- FAB_CMD.OP = SEND_TRIGGER (R571). -/
def sendTriggerOp (s : State) : State :=
  let kind := fget s F.FAB_TRIG_CTL_KIND
  if roleOf s ≠ 1 then fput F.FAB_CMD_STATUS_RESULT 2 s
  else if ¬ activeKeeper s ∨ kind = 0 ∨ 5 < kind then fput F.FAB_CMD_STATUS_RESULT 1 s
  else if kind ≠ 5 ∧ instantAt s A.FAB_TRIG_CYCLE_HI < phaseInstant s + fget s F.FAB_TRIG_LEAD_PU then
    fput F.FAB_CMD_STATUS_RESULT 3 s
  else if s.fab.trig.isSome then fput F.FAB_CMD_STATUS_RESULT 4 s
  else
    let id := (rget s A.FAB_TRIG_LAST_ID + 1) % 2 ^ 32
    let b := trigPayload s id
    let s := actTrigger b (fput F.FAB_CMD_STATUS_RESULT 0 s)
    sendTrigCopy { s with fab := { s.fab with
      trig := some { payload := b, left := max 1 (fget s F.FAB_TRIG_CTL_REPEAT), clk := s.clk } } }

/-- SEND_TRIGGER (R571). -/
def execSendTrigger (s : State) : Host.Outcome State Fault Refusal :=
  hostCmd .sendTrigger A.FAB_CMD s (fun s => freeCells (sendTriggerOp s))

/-- TRIGGER_REPEAT (R571): 1 ms since the previous copy. -/
def execTriggerRepeat (dt : Nat) (s : State) : Host.Outcome State Fault Refusal :=
  timed (.triggerRepeat dt) dt s (fun s =>
    match s.fab.trig with
    | some x => if x.clk + clocksPerMs ≤ s.clk then freeCells (sendTrigCopy s) else s
    | none => s)

/-! ### Heartbeats, host messages, join requests (R150, R560, R579) -/

/-- A HEARTBEAT at the head of the passed frames restarts the watch. -/
def heartbeatSeen (f : Frame) (s : State) : State :=
  let below : Bool := match framePair f.bytes, s.fab.standing with
    | some pair, some old => ranksAbove old pair
    | _, _ => false
  if activeKeeper s ∨ below then s
  else
    let was := s.fab.hbLost
    let s := { s with fab := { s.fab with hbLost := false, hbClk := s.clk } }
    if was then raise 0x0B07 (beAt f.bytes 48 2) (beAt f.bytes 44 4) 0 (setInt A.FAB_INT_STAT 6 s) else s

/-- HB_LOSS_TIMEOUT (R579). -/
def hbLoss (s : State) : State :=
  if member s ∧ kixonOn s ∧ ¬ activeKeeper s ∧ ¬ s.fab.hbLost
      ∧ s.fab.hbClk + max 1 (fget s F.FAB_HB_LOSS_MS_MS) * clocksPerMs ≤ s.clk then
    let (t, k) := s.fab.standing.getD (0, noUnit)
    let s := { s with fab := { s.fab with hbLost := true, standing := none, lastTrig := none } }
    raise 0x0B06 k t 0 (setInt A.FAB_INT_STAT 5 s)
  else s

/-- HB_LOSS_TIMEOUT (R579). -/
def execHbLossTimeout (dt : Nat) (s : State) : Host.Outcome State Fault Refusal := timed (.hbLossTimeout dt) dt s hbLoss

/-- The copy of Kixon frame `i` for the host. -/
def kixonHostCopy (s : State) (i : Nat) : Planned :=
  let (n, p) := match frameOf s i with | some f => (f.bytes.length, f.srcPort) | none => (0, 0)
  (76, fget s F.FAB_CTL_HOST_QUEUE, { plainCopy i n (ownerOf p) with reason := 3 })

/-- A frame of a host type that is not a HEARTBEAT is dispatched (R560). -/
def hostMessage (i : Nat) (f : Frame) (s : State) : State :=
  if beAt f.bytes 15 1 = 0x20 ∧ activeKeeper s then
    if 2048 ≤ s.fab.join.length then raise 0x0B0C f.srcPort (beAt f.bytes 22 2) 0 (setInt A.FAB_INT_STAT 11 (bump 21 11 s))
    else bump 21 10 { s with fab := { s.fab with join := s.fab.join ++ [i] } }
  else admitPlanned (kixonHostCopy s i) s

/-- The head frame, of a host type that `ok` holds of, is dispatched; a HEARTBEAT restarts the watch on its way (R579). With the
Kixon hardware off it is dropped (R550). -/
def hostHead (ok : Nat → Bool) (s : State) : State :=
  match headFrame s ok with
  | some (i, f) =>
    let s := dropHead s
    freeCells (if ¬ kixonOn s then s
      else hostMessage i f (if beAt f.bytes 15 1 = 0x23 then heartbeatSeen f s else s))
  | none => s

/-- HEARTBEAT (R579): the frame itself goes on to the host (R560). -/
def execHeartbeat (dt : Nat) (s : State) : Host.Outcome State Fault Refusal :=
  timed (.heartbeat dt) dt s (hostHead (· == 0x23))

/-- KIXON_HOST_MESSAGE (R560). -/
def execKixonHostMessage (dt : Nat) (s : State) : Host.Outcome State Fault Refusal :=
  timed (.kixonHostMessage dt) dt s (hostHead (fun t => decide (0x20 ≤ t)))

/-- The KIXON bucket of WAKING has a token (R148 to R150). -/
def kixonToken (s : State) : Bool :=
  let rate := fgetInForce s (F.GLB_ADMIT_RATE_RATE 3)
  !budgets s || rate == 0xFFFFFF
    || decide (clockHz ≤ bucketLevel rate (fgetInForce s (F.GLB_ADMIT_BURST_BURST 3)) s.clk (sget admitFull s.glb.admitLevel (admitKey 3 0)))

/-- JOIN_QUEUE_DELIVERY (R150). -/
def execJoinQueueDelivery (dt : Nat) (s : State) : Host.Outcome State Fault Refusal :=
  timed (.joinQueueDelivery dt) dt s (fun s =>
    match s.fab.join with
    | i :: rest =>
      if kixonToken s then freeCells (admitPlanned (kixonHostCopy s i) { s with fab := { s.fab with join := rest } }) else s
    | [] => s)

/-! ### TAKEOVER, STEP_DOWN, KEY_SWITCH (R584, R585) -/

/-- FAB_CMD.OP = TAKEOVER. -/
def takeoverOp (s : State) : State :=
  if roleOf s ≠ 1 then fput F.FAB_CMD_STATUS_RESULT 2 s
  else if activeKeeper s then fput F.FAB_CMD_STATUS_RESULT 1 s
  else
    let term := match s.fab.maxTerm with | some m => (m + 1) % 2 ^ 32 | none => 1
    let s := rput A.FAB_TRIG_LAST_ID 0 (rput A.FAB_TERM term (fput F.FAB_STATUS_KEEPER_STATE 2 (fput F.FAB_CMD_STATUS_RESULT 0 s)))
    let pair := ownPair s
    let s := { s with fab := { s.fab with standing := some pair, lastTrig := none } }
    sendTime (raise 0x0B08 pair.2 pair.1 0 s)

/-- TAKEOVER (R585). -/
def execTakeover (s : State) : Host.Outcome State Fault Refusal :=
  hostCmd .takeover A.FAB_CMD s (fun s => freeCells (takeoverOp s))

/-- FAB_CMD.OP = STEP_DOWN. -/
def stepDownOp (s : State) : State :=
  if roleOf s ≠ 1 then fput F.FAB_CMD_STATUS_RESULT 2 s
  else if ¬ activeKeeper s then fput F.FAB_CMD_STATUS_RESULT 1 s
  else stepDownNow (fput F.FAB_CMD_STATUS_RESULT 0 s)

/-- STEP_DOWN (R585). -/
def execStepDown (s : State) : Host.Outcome State Fault Refusal := hostCmd .stepDown A.FAB_CMD s stepDownOp

/-- FAB_CMD.OP = KEY_SWITCH. -/
def keySwitchOp (s : State) : State :=
  if s.fab.keyStandby.isNone then fput F.FAB_CMD_STATUS_RESULT 5 s else swapKeys (fput F.FAB_CMD_STATUS_RESULT 0 s)

/-- KEY_SWITCH (R584). -/
def execKeySwitch (s : State) : Host.Outcome State Fault Refusal := hostCmd .keySwitch A.FAB_CMD s keySwitchOp

/-! ### The fabric block at WAKING and at a reset -/

/-- WAKING is entered: a Keeper is STANDBY, and the watch for heartbeats starts (R579, R585). -/
def fabricWake (s : State) : State :=
  let s := { s with fab := { s.fab with hbClk := s.clk, trig := none } }
  fput F.FAB_STATUS_KEEPER_STATE (if roleOf s = 1 then 1 else 0) s

/-- The fabric's ports go DOWN with a device reset, and frames in the fabric block are lost. -/
def fabricReset (s : State) : State :=
  let s := (List.range 72).foldl (fun s p => fabLinkDown p s) s
  { s with fab := { s.fab with rx := [], passed := [], join := [], trig := none, keySwitch := [] } }

end Machine
end Sys2Proof
end

