-- ==== Sys2Proof/Machine/Ports.lean ====
section
/-! DEFINITION. Machine/Ports.lean: lanes, modes, links, the MAC, PAUSE, preemption and the port resets (chapter 05, R192
to R245; R140 to R142). -/
namespace Sys2Proof
namespace Machine

/-! ### The verify procedure (R230 to R232) -/

/-- A write of PRT_PREEMPT. -/
def writePreempt (p v : Nat) (s : State) : State := verifyUpdate p (writeRw (A.PRT_PREEMPT p) v s)

/-- VERIFY_TIME_MS in core clocks, and VERIFY_LIMIT. -/
def verifyTime (s : State) (p : Nat) : Nat := clampN (fget s (F.PRT_PREEMPT_VERIFY_TIME_MS p)) 1 128 * clocksPerMs
def verifyLimit (s : State) (p : Nat) : Nat := max 1 (fget s (F.PRT_PREEMPT_VERIFY_LIMIT p))

/-- The verify timer of port `p` expires (R232, steps 4 and 5). -/
def verifyTimer (p : Nat) (s : State) : State :=
  let x := portSt s p
  if verifyState s p ≠ 2 ∨ s.clk < x.verifyClk + verifyTime s p then s
  else if x.verifySent < verifyLimit s p then sendVerify p s
  else raise 0x0306 p 0 0 (setInt (A.PRT_INT_STAT p) 2 (setVerify p 4 s))

/-- VERIFY_TIMER_EXPIRY (R232). -/
def execVerifyTimerExpiry (dt port : Nat) (s : State) : Host.Outcome State Fault Refusal :=
  timed (.verifyTimerExpiry dt port) dt s (verifyTimer port)

/-- VERIFY_MPACKET_RECEIVED (R231). -/
def execVerifyMpacketReceived (dt port : Nat) (s : State) : Host.Outcome State Fault Refusal :=
  timed (.verifyMpacketReceived dt port) dt s (verifyReceived port)

/-- RESPOND_MPACKET_RECEIVED (R232). -/
def execRespondMpacketReceived (dt port : Nat) (s : State) : Host.Outcome State Fault Refusal :=
  timed (.respondMpacketReceived dt port) dt s (respondReceived port)

/-! ### What a port loses (R142, R213, R214, R238) -/

/-- The copies queued on port `p` are dropped, each counted in counter `i` of group `g`. -/
def dropPortQueues (p g i : Nat) (s : State) : State :=
  (List.range 16).foldl (fun s q => dropQueued (qkey p q) (fun _ => true) (fun _ s => bump g i s) s) s

/-- The copy on the wire of port `p` and the suspended one are abandoned; `cnt` says what each counts. -/
def abortTx (p : Nat) (cnt : Sending → State → State) (s : State) : State :=
  let t := txOf s p
  let l := t.cur.toList ++ t.susp.toList
  let s := putTx p { t with cur := none, susp := none, freeClk := s.clk } s
  l.foldl (fun s x => cnt x (returnCharges p x.queue x.copy s)) s

/-! ### The end of a reception (R48, R214, R216 to R218) -/

/-- FRAME_RECEIVE_END (R216): the frame whose reception began first. -/
def execFrameReceiveEnd (dt port : Nat) (codeError : Bool) (s : State) : Host.Outcome State Fault Refusal :=
  timed (.frameReceiveEnd dt port codeError) dt s (fun s =>
    match (portSt s port).rx.getLast? with
    | some i => freeCells (receiveEnd port i codeError s)
    | none => s)

/-- The link of port `p` fails: every frame being received, the one in reassembly too, ends with a failed frame check sequence
(R214). -/
def failReceptions (p : Nat) (s : State) : State :=
  let s := match (portSt s p).reasm with
    | some r => (arrive p r.bytes true r.stamp r.stepSum r.phase s).2
    | none => s
  let s := failAll p (portSt s p).rx.reverse s
  putPort p { portSt s p with rx := [], ctl := none, reasm := none, mpk := [] } s

/-! ### Links (R206 to R214) -/

/-- The training of port `p` may run: a front port waits for its quadrant's turn (R147). -/
def turnCome (s : State) (p : Nat) : Bool := decide (64 ≤ p) || decide (p / 16 < s.glb.quadrants)

/-- The port could run a link: powered, its turn come, out of reset, its mode good, its lanes its own. -/
def linkAble (s : State) (p : Nat) : Bool :=
  powered s && turnCome s p && !portHeld s p && !modeErr s p && !absorbed s p && (portSt s p).mode != 0

/-- Modes with RS-FEC (R194). -/
def hasFec (m : Nat) : Bool := decide (2 ≤ m) && decide (m ≤ 6)

/-- The conditions of R210 hold, and what must precede them is complete (R206, R207). -/
def linkHolds (s : State) (p : Nat) : Bool :=
  let x := portSt s p
  let c := x.cond
  linkAble s p && c.signal && c.blockLock && (c.alignLock || modeLanes x.mode == 1) && (c.fecLock || !hasFec x.mode)
    && !c.localFault && !c.remoteFault && (!x.anEn || (fbit s (F.PRT_STATUS_AN_DONE p) && (!x.ltEn || x.trained)))

/-- What port `p` advertises: its mode with the FEC of R194 and nothing else, on a porch port full duplex only with symmetric PAUSE
when PAUSE_RX_EN is 1 (R206, R208). -/
def advertOf (s : State) (p : Nat) : Option (Nat × Bool) :=
  let x := portSt s p
  if x.anEn ∧ linkAble s p then some (x.mode, x.mode == 9 && fbit s (F.PRT_MAC_CFG_PAUSE_RX_EN p)) else none

/-- Training of port `p` begins, from the taps of its registers (R202, R209). -/
def startTraining (p : Nat) (s : State) : State :=
  let x := portSt s p
  let s := putPort p { x with trained := false, taps := lanesTaps (laneWords s p (modeLanes x.mode)), advert := advertOf s p } s
  fput (F.PRT_STATUS_AN_DONE p) 0 (fput (F.PRT_STATUS_TRAINING p) (b2n (linkAble s p)) s)

/-- The link is reported up (R212). -/
def reportUp (p : Nat) (s : State) : State :=
  let s := putPort p { portSt s p with holdClk := none } s
  let s := fput (F.PRT_STATUS_TRAINING p) 0 (fput (F.PRT_STATUS_LINK_UP p) 1 s)
  let s := raise 0x0301 p 0 0 (setInt (A.PRT_INT_STAT p) 0 s)
  fabLinkUp p (verifyUpdate p s)

/-- The link is reported down (R212 to R214). -/
def reportDown (p : Nat) (s : State) : State :=
  let s := failReceptions p (putPort p { portSt s p with holdClk := none } s)
  let s := bump 0 (24 * p + 21) (fput (F.PRT_STATUS_LINK_UP p) 0 s)
  let s := raise 0x0302 p 0 0 (setInt (A.PRT_INT_STAT p) 1 s)
  let s := if fbit s (F.PRT_MAC_CFG_DOWN_HOLD p) then s else dropPortQueues p 0 (24 * p + 13) s
  let s := abortTx p (fun _ s => bump 0 (24 * p + 12) s) s
  startTraining p (fabLinkDown p (verifyUpdate p s))

/-- Hold time of a rise or a fall of port `p`'s link, in core clocks (R212). -/
def holdTime (s : State) (p : Nat) : Nat :=
  (if linkUp s p then fget s (F.PRT_LINK_TIMERS_DOWN_HOLD_MS p) else fget s (F.PRT_LINK_TIMERS_UP_HOLD_MS p)) * clocksPerMs

/-- The link of port `p` is judged: a change is reported once it has held for its time; a port that cannot run a link is
reported down at once (R212). -/
def judgeLink (p : Nat) (s : State) : State :=
  let holds := linkHolds s p
  let x := portSt s p
  if holds = linkUp s p then putPort p { x with holdClk := none } s
  else if ¬ linkAble s p then reportDown p s
  else
    let since := x.holdClk.getD s.clk
    if since + holdTime s p ≤ s.clk then if holds then reportUp p s else reportDown p s
    else
      let s := if holds then s else failReceptions p s
      putPort p { portSt s p with holdClk := some since } s

/-- PRT_STATUS shows the conditions of R210. -/
def showCond (p : Nat) (s : State) : State :=
  let x := portSt s p
  let c := x.cond
  let s := fput (F.PRT_STATUS_SIGNAL p) (b2n c.signal) (fput (F.PRT_STATUS_BLOCK_LOCK p) (b2n c.blockLock) s)
  let s := fput (F.PRT_STATUS_ALIGN_LOCK p) (b2n (c.alignLock || modeLanes x.mode == 1)) s
  let s := fput (F.PRT_STATUS_FEC_LOCK p) (b2n (c.fecLock || !hasFec x.mode)) s
  fput (F.PRT_STATUS_LOCAL_FAULT p) (b2n c.localFault) (fput (F.PRT_STATUS_REMOTE_FAULT p) (b2n c.remoteFault) s)

/-- The conditions of port `p`'s link change (R210); a remote fault that begins on a port whose link is up is an event. -/
def linkChange (p : Nat) (c : LinkCond) (s : State) : State :=
  let x := portSt s p
  let began := c.remoteFault && !x.cond.remoteFault && linkUp s p
  let s := judgeLink p (showCond p (putPort p { x with cond := c } s))
  if began then raise 0x0308 p 0 0 (setInt (A.PRT_INT_STAT p) 6 s) else s

/-- LINK_CONDITION_CHANGE (R210). -/
def execLinkConditionChange (dt port : Nat) (cond : LinkCond) (s : State) : Host.Outcome State Fault Refusal :=
  timed (.linkConditionChange dt port cond) dt s (fun s => freeCells (linkChange port cond s))

/-- LINK_HOLD_EXPIRY (R212). -/
def execLinkHoldExpiry (dt port : Nat) (s : State) : Host.Outcome State Fault Refusal :=
  timed (.linkHoldExpiry dt port) dt s (fun s => freeCells (judgeLink port s))

/-- Another mode than its own is resolved on a port that auto-negotiates; or an SGMII partner reports another speed than
1,000 Mb/s (R198, R206). -/
def anMismatch (p mode : Nat) (s : State) : State :=
  let x := portSt s p
  let s := setInt (A.PRT_INT_STAT p) 4 (bump 0 (24 * p + 20) s)
  let due : Bool := match x.anEvent with | none => true | some c => decide (c + 60000 * clocksPerMs ≤ s.clk)
  if due then raise 0x0304 p mode 0 (putPort p { x with anEvent := some s.clk } s) else s

/-- Auto-negotiation of port `p` resolves to `mode` (R206 to R208); on an SGMII port the control word reports a speed. -/
def anResolved (p mode : Nat) (s : State) : State :=
  let x := portSt s p
  if ¬ powered s ∨ portHeld s p ∨ absorbed s p then s
  else if x.mode = 8 then
    if mode = 8 then
      if modeErr s p ∧ fget s (F.PRT_STATUS_MODE_ERR_CAUSE p) = 5 then
        judgeLink p (startTraining p (fput (F.PRT_STATUS_MODE_ERR_CAUSE p) 0 (fput (F.PRT_STATUS_MODE_ERR p) 0 s)))
      else s
    else if modeErr s p then s
    else judgeLink p (setModeErr p 5 s)
  else if ¬ linkAble s p ∨ ¬ x.anEn ∨ fbit s (F.PRT_STATUS_AN_DONE p) then s
  else if mode ≠ x.mode then anMismatch p mode s
  else judgeLink p (fput (F.PRT_STATUS_AN_DONE p) 1 s)

/-- AUTONEG_RESOLVED (R206). -/
def execAutonegResolved (dt port mode : Nat) (s : State) : Host.Outcome State Fault Refusal :=
  timed (.autonegResolved dt port mode) dt s (fun s => freeCells (anResolved port mode s))

/-- Link training of port `p` settles the taps of its lanes (R202, R207). -/
def trainingDone (p : Nat) (taps : List Nat) (s : State) : State :=
  let x := portSt s p
  if linkAble s p ∧ x.ltEn ∧ fbit s (F.PRT_STATUS_AN_DONE p) then
    judgeLink p (putPort p { x with trained := true, taps := taps } s)
  else s

/-- LINK_TRAINING_COMPLETE (R207). -/
def execLinkTrainingComplete (dt : Nat) (done : Training) (s : State) : Host.Outcome State Fault Refusal :=
  timed (.linkTrainingComplete dt done) dt s (fun s => freeCells (trainingDone done.port done.taps s))

/-! ### Release from reset (R193, R204, R205) -/

/-- ABSORBED of every front port follows the groups in force; an absorbed port's link is reported down (R193, R212). -/
def absorb (s : State) : State :=
  (List.range 64).foldl (fun s p =>
    let now := laneTaken s p p
    if now = absorbed s p then s else judgeLink p (fput (F.PRT_STATUS_ABSORBED p) (b2n now) s)) s

/-- Mode, auto-negotiation, training and lanes of port `p`, 0 to 71, are taken from its registers and checked (R204, R205). -/
def takeMode (p : Nat) (s : State) : State :=
  let m := fget s (F.PRT_MODE_MODE p)
  let an := fbit s (F.PRT_MODE_AN_EN p) && (decide (p < 64) || m == 9)
  let x := portSt s p
  let s := putPort p { x with mode := 0 } s
  let l := laneWords s p (modeLanes m)
  let cause := modeCause s p m l
  let s := putPort p { portSt s p with mode := m, lanes := l, anEn := an, ltEn := an && decide (p < 64) && fbit s (F.PRT_MODE_LT_EN p) } s
  let s := fput (F.PRT_STATUS_MODE_ERR_CAUSE p) 0 (fput (F.PRT_STATUS_MODE_ERR p) 0 s)
  if cause = 0 then s else setModeErr p cause s

/-- The training of port `p` begins as far as its state allows. -/
def beginPort (p : Nat) (s : State) : State := judgeLink p (startTraining p (showCond p s))

/-- Port `p`, 0 to 71, comes out of reset: its mode is taken and checked, training begins (R205, R209). -/
def releasePort (p : Nat) (s : State) : State := beginPort p (absorb (takeMode p s))

/-! ### What a lane carries (R211, R242 to R244) -/

/-- What the transmitter of a lane sends: nothing, idles and frames, idles alone, remote fault ordered sets, a pattern, what the
receiver takes from the partner. -/
inductive LaneOut
  | off
  | frames
  | idles
  | remoteFault
  | pattern (n : Nat) (inverted : Bool)
  | echo
deriving DecidableEq, Repr

/-- What lane `k` of the group of port `p` sends. -/
def laneOut (s : State) (p k : Nat) : LaneOut :=
  let x := portSt s p
  if ¬ linkAble s p ∨ modeLanes x.mode ≤ k then .off
  else if generates s p k then .pattern (patternOf s p) (fbit s (F.PRT_PRBS_CFG_INVERT p))
  else if loopKind s p = 4 then .echo
  else if loopKind s p = 1 then .idles
  else if x.cond.localFault then .remoteFault
  else if x.cond.remoteFault ∨ ¬ linkUp s p then .idles
  else .frames

/-- Lane rate in MBd in DIAGNOSTIC; 0 stands for the rate of the port's mode (R244). -/
def diagRate (s : State) (p : Nat) : Nat :=
  let r := fget s (F.PRT_DIAG_RATE_RATE_MBD p)
  if s.glb.base = bDiagnostic ∧ r ≠ 0 then clampN r 1250 53125 else 0

/-- PORT_RESET_RELEASE (R205): the bit of GLB_PORT_RST is cleared. -/
def releaseReset (p : Nat) (s : State) : State :=
  if ¬ portHeld s p then s
  else
    let a := A.GLB_PORT_RST_0 + 4 * (p / 32)
    let s := rput a (setBits (rget s a) (p % 32) 1 0) s
    if p < 72 then releasePort p s else s

/-- PORT_RESET_RELEASE (R205). -/
def execPortResetRelease (port : Nat) (s : State) : Host.Outcome State Fault Refusal :=
  hostCmd (.portResetRelease port) (A.GLB_PORT_RST_0 + 4 * (port / 32)) s (fun s => freeCells (releaseReset port s))

/-- A port reset begins (R140, R142, R238). -/
def holdPort (p : Nat) (s : State) : State :=
  if portHeld s p then s
  else
    let s := forBits (A.GLB_PORT_RST_0 + 4 * (p / 32)) (2 ^ (p % 32)) s
    let s := raise 0x0005 p 0 0 (dropPortQueues p 11 (4 * p) s)
    let s := abortTx p (fun x s => if x.pre ∨ 71 < p then bump 11 (4 * p) s else bump 0 (24 * p + 12) s) s
    if 71 < p then s
    else
      let s := putPort p { portSt s p with quanta := 0 } s
      let s := judgeLink p s
      verifyUpdate p (fput (F.PRT_STATUS_TRAINING p) 0 (fput (F.PRT_STATUS_AN_DONE p) 0 (fabLinkDown p (failReceptions p s))))

/-- PORT_RESET (R140): the bit of GLB_PORT_RST is set. -/
def execPortReset (port : Nat) (s : State) : Host.Outcome State Fault Refusal :=
  hostCmd (.portReset port) (A.GLB_PORT_RST_0 + 4 * (port / 32)) s (fun s => freeCells (holdPort port s))

/-! ### Frames arrive (R48, R216, R222, R239) -/

/-- An error ends the frame in reassembly on port `p`. -/
def reasmError (p : Nat) (s : State) : State := bump 0 (24 * p + 18) (putPort p { portSt s p with reasm := none } s)

/-- A frame begins on port `p` (R48): through the express MAC, or unfragmented through the preemptable one,
where it is a start while a frame is in reassembly (R236). -/
def frameStart (p : Nat) (express : Bool) (b : List Byte) (s : State) : State :=
  if ¬ takes s p then s
  else if ¬ express ∧ ¬ fbit s (F.PRT_PREEMPT_EN p) then bump 0 (24 * p + 19) s
  else
    let s := if ¬ express ∧ (portSt s p).reasm.isSome then reasmError p s else s
    (arrive p b (!express) (rxStamp s p) s.tim.stepSum (phaseInstant s) s).2

/-- FRAME_ARRIVAL (R48). -/
def execFrameArrival (dt port : Nat) (express : Bool) (bytes : List Byte) (s : State) : Host.Outcome State Fault Refusal :=
  timed (.frameArrival dt port express bytes) dt s (frameStart port express bytes)

/-! ### MAC Control frames and PAUSE (R222 to R225) -/

/-- A PAUSE frame loads the pause timer of port `p` (R224). -/
def loadPause (p q : Nat) (s : State) : State :=
  let x := portSt s p
  putPort p { x with quanta := q, pauseClk := s.clk, lossSeen := x.lossSeen && paused s p } s

/-- A MAC Control frame received whole on port `p` is handled by its opcode (R222). -/
def macControl (p : Nat) (b : List Byte) (s : State) : State :=
  let op := beAt b 14 2
  if op = 1 ∧ beAt b 0 6 = 0x0180C2000001 then
    let s := bump 0 (24 * p + 7) s
    if fbit s (F.PRT_MAC_CFG_PAUSE_RX_EN p) then loadPause p (beAt b 16 2) s else s
  else if op = 0x0101 then bump 0 (24 * p + 8) s
  else bump 0 (24 * p + 9) s

/-- A MAC Control frame is still being received on port `p`. -/
def controlArriving (s : State) (p : Nat) : Bool :=
  (portSt s p).rx.any (fun i => match frameOf s i with | some f => f.bytes == [] && !f.bad | none => false)

/-- MAC_CONTROL_FRAME (R222). -/
def execMacControlFrame (dt port : Nat) (s : State) : Host.Outcome State Fault Refusal :=
  timed (.macControlFrame dt port) dt s (fun s =>
    match (portSt s port).ctl with
    | some b => if controlArriving s port then s else macControl port b (putPort port { portSt s port with ctl := none } s)
    | none => s)

/-- PAUSE_TIMER_EXPIRY (R225): the timer has reached 0. -/
def execPauseTimerExpiry (dt port : Nat) (s : State) : Host.Outcome State Fault Refusal :=
  timed (.pauseTimerExpiry dt port) dt s (fun s =>
    if paused s port then s else putPort port { portSt s port with quanta := 0, lossSeen := false } s)

/-! ### Reassembly (R236) -/

/-- The frame in reassembly on port `p` is complete: it arrives as a frame received through the preemptable MAC. -/
def reassembled (p : Nat) (r : Reasm) (s : State) : State :=
  let s := putPort p { portSt s p with reasm := none } s
  let (i, s) := arrive p r.bytes true r.stamp r.stepSum r.phase s
  receiveEnd p i r.codeError s

/-- A fragment continues the frame `r` in reassembly. -/
def reasmStep (p : Nat) (r : Reasm) (g : Fragment) (s : State) : State :=
  let r := { r with bytes := r.bytes ++ g.bytes, codeError := r.codeError || g.codeError, nextFrag := (r.nextFrag + 1) % 4 }
  if g.last then reassembled p r s
  else if ¬ g.crcOk then reasmError p s
  else putPort p { portSt s p with reasm := some r } s

/-- A preemption fragment arrives on port `p` (R236). -/
def fragmentReceived (p : Nat) (g : Fragment) (s : State) : State :=
  if ¬ takes s p then s
  else if ¬ fbit s (F.PRT_PREEMPT_EN p) then bump 0 (24 * p + 19) s
  else if g.start then
    let s := if (portSt s p).reasm.isSome then reasmError p s else s
    reasmStep p { bytes := [], codeError := false, frameCount := g.frameCount % 4, nextFrag := 3, stamp := rxStamp s p, stepSum := s.tim.stepSum
                  phase := phaseInstant s } g s
  else
    let s := bump 0 (24 * p + 17) s
    match (portSt s p).reasm with
    | none => reasmError p s
    | some r =>
      if g.frameCount % 4 ≠ r.frameCount ∨ g.fragCount % 4 ≠ r.nextFrag then reasmError p s else reasmStep p r g s

/-- MM_FRAGMENT_RECEIVED (R236). -/
def execMmFragmentReceived (dt port : Nat) (frag : Fragment) (s : State) : Host.Outcome State Fault Refusal :=
  timed (.mmFragmentReceived dt port frag) dt s (fun s => freeCells (fragmentReceived port frag s))

end Machine
end Sys2Proof
end

