-- ==== Sys2Proof/Machine/Hearth.lean ====
section
/-! DEFINITION. Machine/Hearth.lean: which frame a hearth takes into its decision path (R36, R99, R549, R556), the vote,
and the hearth reset (R140 to R145). -/
namespace Sys2Proof
namespace Machine

/-! ### Entry into the decision path (R35, R36, R99) -/

/-- The front and porch ports of hearth `h`. -/
def portsOf (h : Nat) : List Nat := (List.range 16).map (16 * h + ·) ++ [64 + 2 * h, 65 + 2 * h]

/-- The ports of hearth `h` in the order in which its round robin looks at them now. -/
def robinOrder (s : State) (h : Nat) : List Nat :=
  let l := portsOf h
  let last := sget (fun _ => 255) s.dp.robin h
  let after := (l.dropWhile (· != last)).drop 1
  after ++ l.take (l.length - after.length)

/-- The frame is a Kixon frame (R549, R556). -/
def isKixon (s : State) (f : Frame) : Bool :=
  let typed := beAt f.bytes 12 2 == fget s F.FAB_ETYPE_ETYPE
  if f.srcPort = 76 then member s && typed
  else
    isFabricPort s f.srcPort && typed
      && f.bytes.take 6 == wordsMac (rget s A.FAB_MAC_LO) (rget s A.FAB_MAC_HI)

/-- A frame on its first ingress: its generation tag (R99), whether it is Kixon; one from the host is stamped now (R496). -/
def firstIngress (h : Nat) (f : Frame) (s : State) : Frame :=
  let g := { f with gen := bankOf s h, tagger := some h, kixon := isKixon s f }
  if f.srcPort = 76 then { g with stamp := s.tim.t, stepSum := s.tim.stepSum, phase := phaseInstant s } else g

/-- Frame `i` enters the decision path of hearth `h` for the first time. -/
def enterFirst (h i : Nat) (s : State) : State :=
  match frameOf s i with
  | none => s
  | some f =>
    putPipe h (pipeOf s h ++ [newPass i s.clk false (fencedNo s h) none]) (putFrame i (firstIngress h f s) s)

/-- The hearth can take a frame in this core clock. -/
def canTake (s : State) (h : Nat) : Bool :=
  trafficOn s && !s.glb.hearthRst.contains h && !s.glb.warmBusy
    && (match (pipeOf s h).getLast? with | some p => p.entry != s.clk | none => true)

/-- Hearth `h` takes one frame, by the precedence of R36. -/
def takeFrame (h : Nat) (s : State) : State :=
  if ¬ canTake s h then s
  else
    match recircOf s h with
    | (i, again) :: rest =>
      let second := match again with | some q => q.second | none => true
      let s := if again.isNone then parseCtr h 11 s else s
      putPipe h (pipeOf s h ++ [newPass i s.clk second (fencedNo s h) again]) (putRecirc h rest s)
    | [] =>
      match (robinOrder s h).find? (fun p => ingressOf s p != []) with
      | some p =>
        match ingressOf s p with
        | i :: rest =>
          enterFirst h i (putIngress p rest { s with dp := { s.dp with robin := sput (fun _ => 255) s.dp.robin h p } })
        | [] => s
      | none =>
        match hostFifo s h with
        | i :: rest => enterFirst h i (putHostFifo h rest s)
        | [] => s

/-- DECISION_PASS_START (R36). -/
def execDecisionPassStart (dt h : Nat) (s : State) : Host.Outcome State Fault Refusal :=
  timed (.decisionPassStart dt h) dt s (takeFrame h)

/-- VOTE (R701). -/
def execVote (dt h : Nat) (faults : VoteFaults) (s : State) : Host.Outcome State Fault Refusal :=
  timed (.vote dt h faults) dt s (fun s => voteFront h faults (tableWrites s))

/-! ### The hearth reset (R140 to R143, R238) -/

/-- Hearth `h` is in reset from now on: its FIFOs and its decision path are emptied, the queues and the transmitters of its
ports lose what they hold. Its bank, tables and registers stay. -/
def resetHearth (h : Nat) (s : State) : State :=
  let s := { s with glb := { s.glb with hearthRst := if s.glb.hearthRst.contains h then s.glb.hearthRst else s.glb.hearthRst ++ [h] } }
  let s := raise 0x0004 h 0 0 (forBits A.GLB_RST_CAUSE (2 ^ (4 + h)) s)
  let s := putPipe h [] (putRecirc h [] (putHostFifo h [] s))
  (portsOf h ++ [72 + h]).foldl (fun s p =>
    abortTx p (fun _ s => bump 11 (4 * p) s) (dropPortQueues p 11 (4 * p) (putIngress p [] s))) s

/-- A write of GLB_HRST; during a warm reset it is ignored (R141). -/
def hearthResets (mask : Nat) (s : State) : State :=
  if s.glb.warmBusy then s
  else freeCells ((List.range 4).foldl (fun s h => if bitAt mask h then resetHearth h s else s) s)

/-- HEARTH_RESET (R140). -/
def execHearthReset (mask : Nat) (s : State) : Host.Outcome State Fault Refusal :=
  hostCmd (.hearthReset mask) A.GLB_HRST s (hearthResets mask)

/-- HEARTH_RESET_COMPLETE (R140). -/
def execHearthResetComplete (dt h : Nat) (s : State) : Host.Outcome State Fault Refusal :=
  timed (.hearthResetComplete dt h) dt s (fun s =>
    { s with glb := { s.glb with hearthRst := s.glb.hearthRst.filter (· != h) } })

end Machine
end Sys2Proof
end

