-- ==== Sys2Proof/Machine/Dma.lean ====
section
/-! DEFINITION. Machine/Dma.lean: what the Drayman's requesters have to move, and its two arbiters, which grant one burst at a time
(chapters 14 and 15, R59, R597, R617 to R624, R631, R632, R635 to R642). -/
namespace Sys2Proof
namespace Machine

/-! ### Channels and their registers -/

/-- A data channel as a channel. -/
def chanOf : DataChan → DryChan
  | .rx c => .rx c
  | .tx c => .tx c

/-- The registers of a channel begin here. -/
def dryBase : DryChan → Nat
  | .rx c => A.DRY_RX_CFG c
  | .tx c => A.DRY_TX_CFG c
  | .err e => A.DRY_ERR_CFG e

def dryCtl (ch : DryChan) : Nat := dryBase ch + 4
def fEn (ch : DryChan) : Fld := ⟨dryBase ch + 4, 0, 1⟩
def fState (ch : DryChan) : Fld := ⟨dryBase ch + 8, 0, 3⟩
def fKind (ch : DryChan) : Fld := ⟨dryBase ch + 8, 8, 4⟩
def chanEn (s : State) (ch : DryChan) : Bool := fbit s (fEn ch)
def chanState (s : State) (ch : DryChan) : Nat := fget s (fState ch)
def setChan (ch : DryChan) (st : Nat) (s : State) : State := fput (fState ch) st s
def chanInt (ch : DryChan) (i : Nat) (s : State) : State := setInt (dryBase ch + 0x28) i s

/-- The states of a channel (DRY_*_STATUS.STATE). -/
def stDisabled : Nat := 0
def stRunning : Nat := 1
def stStopping : Nat := 2
def stStopped : Nat := 3
def stHalted : Nat := 4
def stWaiting : Nat := 5
def stDone : Nat := 6

def rxDefault (_ : Nat) : RxChan :=
  { ahead := [], atFirst := false, work := none, count := 0, since := none, dropSeen := false, disabling := false }
def txChDefault (_ : Nat) : TxChan := { ahead := [], atFirst := false, frame := none, part := [], skip := false, disabling := false }
def errDefault (_ : Nat) : ErrSt := { waitClk := none, look := 0, loopPc := none, lastWrite := none, words := [], moved := 0 }

def rxCh (s : State) (c : Nat) : RxChan := sget rxDefault s.dry.rx c
def putRx (c : Nat) (x : RxChan) (s : State) : State := { s with dry := { s.dry with rx := sput rxDefault s.dry.rx c x } }
def txCh (s : State) (c : Nat) : TxChan := sget txChDefault s.dry.tx c
def putTxCh (c : Nat) (x : TxChan) (s : State) : State := { s with dry := { s.dry with tx := sput txChDefault s.dry.tx c x } }
def errSt (s : State) (e : Nat) : ErrSt := sget errDefault s.dry.err e
def putErr (e : Nat) (x : ErrSt) (s : State) : State := { s with dry := { s.dry with err := sput errDefault s.dry.err e x } }

/-- Descriptors that a data channel holds: POSTED − DONE (R621). -/
def held32 (s : State) (ch : DataChan) : Nat :=
  (rget s (dryBase (chanOf ch) + 0x1C) + 2 ^ 32 - rget s (dryBase (chanOf ch) + 0x20)) % 2 ^ 32

/-- CUR of a data channel. -/
def curAddr (s : State) (ch : DataChan) : Nat := addr64 s (dryBase (chanOf ch) + 0x14) (dryBase (chanOf ch) + 0x18)

def setCur (ch : DataChan) (a : Nat) (s : State) : State :=
  rput64 (dryBase (chanOf ch) + 0x14) (dryBase (chanOf ch) + 0x18) a s

/-! ### Descriptor lists (R621, R622) -/

/-- Descriptors that the copy in progress on a receive channel needs (R627). -/
def workDescs (x : RxChan) : Nat := match x.work with | some w => ceilDiv w.need 6 | none => 0

/-- Descriptors read ahead, how many of them are in use, and the NEXT of the last (CUR when none is read). -/
def aheadOf (s : State) (ch : DataChan) : Nat × Nat × Nat :=
  match ch with
  | .rx c =>
    let x := rxCh s c
    (x.ahead.length, max 1 (workDescs x), match x.ahead.getLast? with | some e => e.2 | none => curAddr s ch)
  | .tx c =>
    let x := txCh s c
    (x.ahead.length, x.ahead.countP (·.read) + 1,
      match x.ahead.getLast? with | some d => leAt d.bytes 0 8 | none => curAddr s ch)

/-- The next descriptor is FIRST of a list just begun: no NEXT is followed to it. -/
def atFirst (s : State) (ch : DataChan) : Bool :=
  match ch with
  | .rx c => (rxCh s c).atFirst
  | .tx c => (txCh s c).atFirst

/-- The channel has work in progress that needs descriptors while it stops. -/
def midWork (s : State) (ch : DataChan) : Bool :=
  match ch with
  | .rx c => (rxCh s c).work.isSome
  | .tx c => (txCh s c).frame.isSome || (txCh s c).skip

/-- A descriptor read is due (R622). -/
def fetchDue (s : State) (ch : DataChan) : Bool :=
  let st := chanState s (chanOf ch)
  let (n, used, _) := aheadOf s ch
  (st == stRunning || (st == stStopping && midWork s ch)) && dmaOn s && decide (n < held32 s ch) && decide (n < used + 4)

/-! ### Transmit descriptors (R631, R632) -/

/-- A segment: address words, length, ROOM, FREE, and its reserved bits. -/
structure Seg where
  lo : Nat
  hi : Nat
  len : Nat
  room : Bool
  free : Bool
  spare : Nat
deriving DecidableEq, Repr

/-- Segment `i` of a descriptor. -/
def segAt (b : List Byte) (i : Nat) : Seg :=
  let o := 16 + 12 * i
  let f := leAt b (o + 10) 2
  { lo := leAt b o 4, hi := leAt b (o + 4) 4, len := leAt b (o + 8) 2, room := bitAt f 0, free := bitAt f 1, spare := f / 4 }

def segsOf (b : List Byte) : List Seg := [segAt b 0, segAt b 1, segAt b 2]

def descStatus (b : List Byte) : Nat := leAt b 60 4
def descSop (d : TxDesc) : Bool := bitAt (descStatus d.bytes) 30
def descEop (d : TxDesc) : Bool := bitAt (descStatus d.bytes) 29
def descCtl (b : List Byte) : Nat := leAt b 10 1

/-- A reserved field of a descriptor is not 0, or FREE stands without ROOM (R632). -/
def descReserved (b : List Byte) (first : Bool) : Bool :=
  leAt b 14 2 != 0 || leAt b 52 8 != 0 || bits (leAt b 11 1) 4 4 != 0 || (first && descCtl b / 32 != 0)
    || (segsOf b).any (fun g => g.spare != 0 || (g.free && !g.room))

/-- A used ROOM segment is bad: its handle, or its end (R632). -/
def segBad (s : State) (g : Seg) : Bool :=
  g.room && g.len != 0 && (!handleValid s g.lo || decide (poolRoom s (handlePool g.lo) < g.hi + g.len))

/-- The error kind that a descriptor by itself gives its frame: 0, BAD_LEN or BAD_SEG. -/
def descError (s : State) (d : TxDesc) (first : Bool) : Nat :=
  let n := leAt d.bytes 8 2
  if first ∧ ¬ descSop d then 5
  else if descReserved d.bytes first then 5
  else if first ∧ (n < 14 ∨ 10236 < n) then 5
  else if (segsOf d.bytes).any (segBad s) then 6
  else 0

/-- Segments of a descriptor that are used, in order. -/
def usedSegs (b : List Byte) : List Seg := (segsOf b).filter (fun g => g.len != 0)

/-- Bytes that a descriptor's segments name. -/
def segTotal (b : List Byte) : Nat := (segsOf b).foldl (fun n g => n + g.len) 0

/-- Address of byte `o` of a descriptor's data, and the bytes left of its segment. -/
def segSpot (s : State) : List Seg → Nat → Nat × Nat
  | [], _ => (0, 0)
  | g :: rest, o =>
    if o < g.len then ((if g.room then roomAddr s g.lo + g.hi else g.hi * 2 ^ 32 + g.lo) + o, g.len - o)
    else segSpot s rest (o - g.len)

/-- The first descriptor of channel `c` not yet read. -/
def txNext (s : State) (c : Nat) : Option TxDesc := (txCh s c).ahead.find? (fun d => !d.read)

/-- The error that the frame being gathered has at descriptor `d`, 0 for none. -/
def txKind (s : State) (c : Nat) (d : TxDesc) : Nat :=
  match (txCh s c).frame with
  | some f => if f.kind = 0 then descError s d (f.descs == 0) else f.kind
  | none => descError s d true

/-- Channel `c` works on frames: it runs, or comes to its boundary; in a mode without frames of the host it reads none (R139). -/
def txWorks (s : State) (c : Nat) : Bool :=
  let st := chanState s (.tx c)
  dmaOn s && trafficOn s && (st == stRunning || (st == stStopping && midWork s (.tx c)))

/-- The host FIFO of the hearth that the frame of channel `c` names takes no frame more (R633); its depth is not stated (log entry
87). -/
def hostFull (s : State) (c : Nat) (d : TxDesc) : Bool :=
  let h := (match (txCh s c).frame with | some f => descCtl f.head | none => descCtl d.bytes) % 4
  !(hostFifo s h).isEmpty && decide (Config.hostFifoDepth ≤ (hostFifo s h).length)

/-- Descriptor `d` ends a good frame that its hearth cannot take yet (R633). -/
def txWaits (s : State) (c : Nat) (d : TxDesc) : Bool := descEop d && txKind s c d == 0 && hostFull s c d

/-! ### Errand programs -/

/-- PC and ITER of errand `e`. -/
def errPc (s : State) (e : Nat) : Nat := fget s (F.DRY_ERR_STATUS_PC e)
def errIter (s : State) (e : Nat) : Nat := rget s (A.DRY_ERR_ITER e)

/-- The eight words of the instruction in progress: those a MOVE or WAIT began with, else those at PC in host memory. -/
def errWords (s : State) (e : Nat) : List Nat :=
  if (errSt s e).words ≠ [] then (errSt s e).words
  else
    let b := memRead s (addr64 s (A.DRY_ERR_PROG_HI e) (A.DRY_ERR_PROG_LO e) + 32 * errPc s e) 32
    (List.range 8).map (fun k => leAt b (4 * k) 4)

def opMove : Nat := 1
def opLoop : Nat := 2
def opWait : Nat := 3
def opSignal : Nat := 4
def opFence : Nat := 5
def opEnd : Nat := 6

/-- The words of `w` from word `k` on are 0. -/
def restZero (w : List Nat) (k : Nat) : Bool := (w.drop k).all (· == 0)

/-- Fields of a MOVE: spaces (0 HOST, 1 DEV, 2 IMM), fixed addresses, count, effective addresses and immediate value in
pass `iter` (R640). -/
structure Move where
  src : Nat
  dst : Nat
  srcFix : Bool
  dstFix : Bool
  count : Nat
  from_ : Nat
  to_ : Nat
  imm : Nat
deriving DecidableEq, Repr

/-- An address `a` plus `iter` strides, modulo 2^`n`. -/
def strided (n a iter stride : Nat) : Nat := ((Int.ofNat a + Int.ofNat iter * toSigned 32 stride) % 2 ^ n).toNat

/-- The MOVE that words give in pass `iter`. -/
def moveOf (w : List Nat) (iter : Nat) : Move :=
  let w0 := ew w 0
  let src := bits w0 4 2
  let dst := bits w0 6 2
  let at_ (space lo hi stride : Nat) : Nat :=
    if space = 1 then strided 24 lo iter stride else strided 64 (hi * 2 ^ 32 + lo) iter stride
  { src := src, dst := dst, srcFix := bitAt w0 8, dstFix := bitAt w0 9, count := ew w 1
    from_ := at_ src (ew w 2) (ew w 3) (ew w 6), to_ := at_ dst (ew w 4) (ew w 5) (ew w 7)
    imm := strided 32 (ew w 2) iter (ew w 6) }

/-- R639, R640: may the MOVE run? -/
def moveOk (w : List Nat) (iter : Nat) : Bool :=
  let m := moveOf w iter
  bits (ew w 0) 10 22 == 0 && decide (m.src ≤ 2) && decide (m.dst ≤ 1) && m.count % 4 == 0 && decide (4 ≤ m.count)
    && (m.src != 1 || ew w 3 == 0) && (m.dst != 1 || ew w 5 == 0)
    && (if m.src = 2 then m.count == 4 else m.from_ % 4 == 0 && ew w 2 % 4 == 0) && m.to_ % 4 == 0 && ew w 4 % 4 == 0

/-- R639, R642: may the LOOP at `pc` run, in pass `iter` of the loop whose LOOP stands at `last`? -/
def loopOk (w : List Nat) (pc iter : Nat) (last : Option Nat) : Bool :=
  bits (ew w 0) 4 12 == 0 && restZero w 2 && ew w 1 != 0 && decide (bits (ew w 0) 16 16 < pc)
    && (iter == 0 || last == some pc)

/-- R639: may the WAIT run? -/
def waitOk (w : List Nat) : Bool :=
  let kind := bits (ew w 0) 4 2
  bits (ew w 0) 7 25 == 0 && kind != 3 && restZero w 6
    && (kind == 0 || (ew w 4 == 0 && !bitAt (ew w 0) 6
      && (if kind = 1 then decide (ew w 3 < 2 ^ 16) else decide (ew w 2 < 2 ^ 8) && decide (ew w 3 < 2 ^ 24))))

/-- R639, R640, R642: may the instruction in progress run? -/
def instrOk (s : State) (e : Nat) (w : List Nat) : Bool :=
  let op := bits (ew w 0) 0 4
  if op = opMove then moveOk w (errIter s e)
  else if op = opLoop then loopOk w (errPc s e) (errIter s e) (errSt s e).loopPc
  else if op = opWait then waitOk w
  else if op = opSignal then bits (ew w 0) 4 4 == 0 && bits (ew w 0) 10 6 == 0 && restZero w 4
  else if op = opFence ∨ op = opEnd then bits (ew w 0) 4 28 == 0 && restZero w 1
  else false

/-- Source and destination overlap in one space, neither is fixed, and the destination lies above (R641). -/
def downward (m : Move) : Bool :=
  m.src == m.dst && !m.srcFix && !m.dstFix && decide (m.from_ < m.to_) && decide (m.to_ < m.from_ + m.count)

/-- The offset of the `k`th word that is copied. -/
def moveOffset (m : Move) (k : Nat) : Nat := if downward m then m.count - 4 * (k + 1) else 4 * k

/-! ### Bursts (R619) -/

/-- Bytes of a read request and of a write. -/
def readSize (s : State) : Nat := min 256 s.hif.mrrs
def writeSize (s : State) : Nat := min 512 s.hif.mps

/-- Bytes of the burst at address `a` when `n` are left: within its size and its 4 KiB of bus address. -/
def burstLen (size a n : Nat) : Nat := min n (min size (4096 - a % 4096))

/-- Words at one end of a MOVE that a burst of `size` bytes takes from word `k` on; a fixed address is read or written four bytes
at a time. -/
def endWords (m : Move) (size a : Nat) (fix : Bool) : Nat :=
  if fix then 1 else if downward m then min (size / 4) (a % 4096 / 4 + 1) else min (size / 4) ((4096 - a % 4096) / 4)

/-- Words of the next burst of a MOVE of which `k` are copied. -/
def moveBurst (s : State) (m : Move) (k : Nat) : Nat :=
  let o := moveOffset m k
  let r := if m.src = 0 then endWords m (readSize s) (m.from_ + o) m.srcFix else 64
  let w := if m.dst = 0 then endWords m (writeSize s) (m.to_ + o) m.dstFix else 64
  min (m.count / 4 - k) (min r w)

/-! ### The Porter's traffic (R597, R610) -/

/-- Pool `k` is to read handles from its ring. -/
def refillDue (s : State) (k : Nat) : Bool :=
  dmaOn s && poolEn s k && decide ((cacheOf s k).length ≤ 16) && decide (0 < ringLevel s k)

/-- Pool `k` is to write handles to its ring. -/
def spillDue (s : State) (k : Nat) : Bool := dmaOn s && (decide (48 ≤ (cacheOf s k).length) || !(overOf s k).isEmpty)

/-- Records that the return queue holds, and whether some are to be read. -/
def retLevel (s : State) : Nat := (rget s A.POR_RET_TAIL + 2 ^ 32 - rget s A.POR_RET_HEAD) % 2 ^ 32
def retDue (s : State) : Bool := dmaOn s && fbit s F.POR_RET_CTL_EN && s.por.records.isEmpty && decide (0 < retLevel s)

/-! ### What each requester has ready (R617, R618) -/

/-- Transmit channel `c` has bytes of a segment to read. -/
def segDue (s : State) (c : Nat) : Bool :=
  txWorks s c && !(txCh s c).skip &&
    (match txNext s c with
    | some d => txKind s c d == 0 && decide ((txCh s c).part.length < segTotal d.bytes) && !txWaits s c d
    | none => false)

/-- The copy in progress on receive channel `c` has data to write, or descriptors. -/
def rxDue (s : State) (c : Nat) : Bool :=
  dmaOn s && (match (rxCh s c).work with
    | some w => decide (w.written < w.data.length) || decide (w.rooms.length < w.need)
        || decide (ceilDiv w.need 6 ≤ (rxCh s c).ahead.length)
    | none => false)

/-- The first descriptor of transmit channel `c` has its outcome, to be written. -/
def statusDue (s : State) (c : Nat) : Bool :=
  let x := txCh s c
  dmaOn s && (match x.ahead with
    | d :: _ => d.read && (x.frame.isNone || (x.ahead.takeWhile (·.read)).any descEop)
    | [] => false)

/-- Errand `e` carries out the instruction in progress: it runs, or it comes to its boundary within a MOVE (R647). -/
def errWorks (s : State) (e : Nat) : Bool :=
  let st := chanState s (.err e)
  dmaOn s && (st == stRunning || (st == stStopping && decide (0 < (errSt s e).moved)))

/-- A look at a flag is due: every 64 core clocks at one in the device, every 1 µs at one in host memory (R643). -/
def lookDue (s : State) (e : Nat) (host : Bool) : Bool :=
  decide ((errSt s e).look + (if host then clocksPerUs else 64) ≤ s.clk)

/-- The WAIT whose words are `w` looks at a flag in host memory. -/
def hostFlag (w : List Nat) : Bool := bits (ew w 0) 4 2 == 0 && bitAt (ew w 0) 6

/-- Errand `e` has a read of host memory to make: for a MOVE, a flag, or a FENCE. -/
def errReads (s : State) (e : Nat) : Bool :=
  let w := errWords s e
  let op := bits (ew w 0) 0 4
  if chanState s (.err e) = stWaiting then dmaOn s && hostFlag w && lookDue s e true
  else errWorks s e && instrOk s e w && ((op == opMove && (moveOf w (errIter s e)).src == 0) || (op == opWait && hostFlag w)
    || (op == opFence && (errSt s e).lastWrite.isSome))

/-- Errand `e` has a write to host memory to make. -/
def errWrites (s : State) (e : Nat) : Bool :=
  let w := errWords s e
  let op := bits (ew w 0) 0 4
  errWorks s e && instrOk s e w && ((op == opMove && (moveOf w (errIter s e)).dst == 0) || (op == opSignal && bitAt (ew w 0) 9))

/-- The reader of a harvest has counters to write, or the header, or STATUS (R668, R669). -/
def harvestDue (s : State) : Bool :=
  dmaOn s && (match s.tal.harvest with
    | some h => decide (h.written < harvestGathered h s.clk) || h.written == selCount h.mask
    | none => false)

/-- The next batch of the Guestbook's spill: up to 16 records, within one burst, as far as the ring has room (R692, R693). -/
def spillRecords (s : State) : List GbkRecord :=
  let size := spillSize s
  let tail := rget s A.GBK_SPILL_TAIL
  let used := (tail + 2 ^ 32 - rget s A.GBK_SPILL_HEAD) % 2 ^ 32
  let room := min (size - used) (size - tail % size)
  let burst := burstLen (writeSize s) (spillBase s + 32 * (tail % size)) (32 * room) / 32
  if fbit s F.GBK_SPILL_CTL_EN then
    (s.gbk.log.filter (fun r => validNow s r && spillWants s r.sev && seqAtOrAfter r.seq s.gbk.spillNext)).take (min 16 burst)
  else []

/-! ### Arbitration (R59, R618) -/

/-- Numbers of the requesters: receive channels 0 to 63, transmit channels 64 to 127, errands 128 to 143, the Porter, the reader of
the Tally, and the Guestbook's spill. -/
def chanReq : DryChan → Nat
  | .rx c => c
  | .tx c => 64 + c
  | .err e => 128 + e
def porterReq : Nat := 144
def tallyReq : Nat := 145
def spillReq : Nat := 146

/-- The priority of requester `q`: 7 is the highest. -/
def reqPri (s : State) (q : Nat) : Nat :=
  if q < 64 then fget s (F.DRY_RX_CFG_PRI q)
  else if q < 128 then fget s (F.DRY_TX_CFG_PRI (q - 64))
  else if q < 144 then fget s (F.DRY_ERR_CFG_PRI (q - 128))
  else if q = porterReq then fget s F.POR_CTL_DMA_PRI
  else if q = tallyReq then fget s F.TAL_CTL_DMA_PRI
  else fget s F.GBK_SPILL_CTL_DMA_PRI

/-- Requester `q` has a read to make. -/
def readReady (s : State) (q : Nat) : Bool :=
  if q < 64 then fetchDue s (.rx q)
  else if q < 128 then fetchDue s (.tx (q - 64)) || segDue s (q - 64)
  else if q < 144 then errReads s (q - 128)
  else q == porterReq && ((List.range 8).any (refillDue s) || retDue s)

/-- Requester `q` has a write to make. -/
def writeReady (s : State) (q : Nat) : Bool :=
  if q < 64 then rxDue s q
  else if q < 128 then statusDue s (q - 64)
  else if q < 144 then errWrites s (q - 128)
  else if q = porterReq then (List.range 8).any (spillDue s)
  else if q = tallyReq then harvestDue s
  else dmaOn s && !(spillRecords s).isEmpty

/-- Round-robin rank of requester `q` after the last one granted. -/
def robinRank (last q : Nat) : Nat := (q + 146 - last) % 147

/-- An arbiter grants `q`: it is ready, none of a higher level is, and of its level it comes next after the last granted. -/
def granted (s : State) (ready : Nat → Bool) (turn : List (Nat × Nat)) (q : Nat) : Bool :=
  let p := reqPri s q
  let last := sget (fun _ => 146) turn p
  ready q && (List.range 147).all (fun x =>
    !ready x || decide (reqPri s x < p) || (reqPri s x == p && decide (robinRank last q ≤ robinRank last x)))

def readGrant (s : State) (q : Nat) : Bool := granted s (readReady s) s.dry.rdTurn q
def writeGrant (s : State) (q : Nat) : Bool := granted s (writeReady s) s.dry.wrTurn q

/-- Requester `q` takes the burst it was granted. -/
def readTaken (q : Nat) (s : State) : State :=
  { s with dry := { s.dry with rdTurn := sput (fun _ => 146) s.dry.rdTurn (reqPri s q) q } }
def writeTaken (q : Nat) (s : State) : State :=
  { s with dry := { s.dry with wrTurn := sput (fun _ => 146) s.dry.wrTurn (reqPri s q) q } }

end Machine
end Sys2Proof
end

