-- ==== Sys2Proof/Machine/Porter.lean ====
section
/-! DEFINITION. Machine/Porter.lean: the Porter: pools of rooms, free rings and caches, allocation, freeing and sharing, the
command registers and the return queue (chapter 14, R590 to R616). -/
namespace Sys2Proof
namespace Machine

/-! ### Allocation and return (R597, R601) -/

/-- A handle returns to its pool's cache, or when that is full waits for its write to the ring (R597). -/
def returnHandle (x : Nat) (s : State) : State :=
  let k := handlePool x
  let s := { s with por := { s.por with emptySeen := s.por.emptySeen.filter (· != k) } }
  if (cacheOf s k).length < 64 then putCache k (cacheOf s k ++ [x]) s else putOver k (overOf s k ++ [x]) s

/-- Results of the Porter's operations (POR_CMD_STATUS.RESULT). -/
def porOk : Nat := 0
def porEmpty : Nat := 1
def porCacheEmpty : Nat := 2
def porDisabled : Nat := 3
def porDoubleFree : Nat := 4
def porNotOwner : Nat := 5
def porBadHandle : Nat := 6
def porBadOwners : Nat := 7
def porBadOpcode : Nat := 8

/-- Pool `k` takes an operation in this core clock: it has applied none (R612). -/
def poolTurn (s : State) (k : Nat) : Bool := decide (sget (fun _ => 0) s.por.next k ≤ s.clk)

/-- Pool `k` applies `n` operations, one in each core clock from this one on. -/
def usePool (k n : Nat) (s : State) : State :=
  { s with por := { s.por with next := sput (fun _ => 0) s.por.next k (max s.clk (sget (fun _ => 0) s.por.next k) + n) } }

/-- An allocation from pool `k` with the owner set `m`, for `who` (R601): result and handle. -/
def allocRoom (k m who : Nat) (s : State) : Nat × Nat × State :=
  if ¬ poolEn s k then (porDisabled, 0, setInt A.POR_INT_STAT 1 s)
  else
    match cacheOf s k with
    | x :: rest => (porOk, x, poolCtr k 0 (putMask x m (putCache k rest s)))
    | [] =>
      let s := setInt A.POR_INT_STAT 1 s
      if 0 < ringLevel s k then (porCacheEmpty, 0, poolCtr k 2 s)
      else
        let s := poolCtr k 1 s
        if s.por.emptySeen.contains k then (porEmpty, 0, s)
        else (porEmpty, 0, raise 0x0C05 k 0 who { s with por := { s.por with emptySeen := s.por.emptySeen ++ [k] } })

/-- What the records of a room carry: pool, handle, owner and mask. -/
def roomRecord (code x o m : Nat) (s : State) : State := raise code (handlePool x) x (o * 65536 + m) s

/-- An operation names a handle that is not valid (R594). -/
def badHandle (x o : Nat) (s : State) : Nat × State :=
  (porBadHandle, roomRecord 0x0C03 x o 0 (poolCtr (handlePool x) 7 s))

/-- Owner `o` frees the room of handle `x` (R606). -/
def freeRoom (x o : Nat) (s : State) : Nat × State :=
  let k := handlePool x
  let m := roomMask s x
  if ¬ handleFits s x then let (r, s) := badHandle x o s; (r, setInt A.POR_INT_STAT 2 s)
  else if m = 0 then (porDoubleFree, roomRecord 0x0C01 x o m (poolCtr k 5 (setInt A.POR_INT_STAT 2 s)))
  else if ¬ bitAt m o then (porNotOwner, roomRecord 0x0C02 x o m (poolCtr k 6 (setInt A.POR_INT_STAT 2 s)))
  else
    let m' := m - 2 ^ o
    let s := poolCtr k 3 (putMask x m' s)
    (porOk, if m' = 0 then returnHandle x (poolCtr k 4 s) else s)

/-- Owner `o` shares the room of handle `x` with the owners `a` (R607). -/
def shareRoom (x o a : Nat) (s : State) : Nat × State :=
  let m := roomMask s x
  if ¬ handleValid s x then let (r, s) := badHandle x o s; (r, setInt A.POR_INT_STAT 2 s)
  else if m = 0 then (porDoubleFree, setInt A.POR_INT_STAT 2 s)
  else if ¬ bitAt m o then (porNotOwner, setInt A.POR_INT_STAT 2 s)
  else if a = 0 ∨ 4 < popcount 16 (m ||| a) then (porBadOwners, setInt A.POR_INT_STAT 2 s)
  else (porOk, poolCtr (handlePool x) 8 (putMask x (m ||| a) s))

/-! ### Rooms of received copies (R602 to R605) -/

/-- The pool a copy of `n` bytes for ring `r` takes its rooms from, with their size and number; `none` when no named pool
is enabled. -/
def roomsFor (s : State) (r n : Nat) : Option (Nat × Nat × Nat) :=
  let l := ((ringPools s r).filter (poolEn s)).map (fun k => (k, poolRoom s k))
  let fit := l.filter (fun e => decide (n ≤ e.2))
  let least := fit.foldl (fun (b : Option (Nat × Nat)) e => match b with
    | some x => if e.2 < x.2 then some e else some x
    | none => some e) none
  match least with
  | some (k, z) => some (k, z, 1)
  | none =>
    (l.foldl (fun (b : Option (Nat × Nat)) e => match b with
      | some x => if x.2 < e.2 then some e else some x
      | none => some e) none).map (fun e => (e.1, e.2, ceilDiv n e.2))

/-- Rooms taken for a copy are freed as each of its owners. -/
def releaseRooms (owners : Nat) (rooms : List Nat) (s : State) : State :=
  rooms.foldl (fun s x => (setBitsOf 16 owners).foldl (fun s o => (freeRoom x o s).2) s) s

/-- A copy for ring `r` is abandoned after pool `k` failed it: the rooms taken are freed as each owner (R604, R605). -/
def abandonRooms (r k owners : Nat) (rooms : List Nat) (s : State) : State :=
  let s := releaseRooms owners rooms (if k < 8 then usePool k (rooms.length * popcount 16 owners) s else s)
  raise 0x0C04 (if k < 8 then k else noUnit) 0 r (setInt A.POR_INT_STAT 3 (bump 23 (2 * r) s))

/-! ### Refill and spill (R597) -/

/-- The handles of `n` ring entries from number `h` on. -/
def ringRead (s : State) (k h n : Nat) : List Nat := (List.range n).map (fun i => ofLe (memRead s (ringAddr s k (h + i)) 4))

/-- CACHE_REFILL of pool `k`, when the arbiter grants the read. -/
def refillCache (k : Nat) (s : State) : State :=
  let n := min 32 (ringLevel s k)
  if ¬ refillDue s k ∨ ¬ readGrant s porterReq then s
  else
    let s := readTaken porterReq s
    let h := rget s (A.POR_RING_HEAD k)
    rput (A.POR_RING_HEAD k) ((h + n) % 2 ^ 32) (putCache k (cacheOf s k ++ ringRead s k h n) s)

/-- CACHE_REFILL (R597). -/
def execCacheRefill (dt pool : Nat) (s : State) : Host.Outcome State Fault Refusal :=
  timed (.cacheRefill dt pool) dt s (refillCache pool)

/-- CACHE_SPILL of pool `k`, when the arbiter grants the write: a handle that a full cache did not take, or the 32 longest in
the cache. -/
def spillCache (k : Nat) (s : State) : State :=
  if ¬ spillDue s k ∨ ¬ writeGrant s porterReq then s
  else
    let s := writeTaken porterReq s
    match overOf s k with
    | x :: rest => writeTail k [x] (putOver k rest s)
    | [] => writeTail k ((cacheOf s k).take 32) (putCache k ((cacheOf s k).drop 32) s)

/-- CACHE_SPILL (R597). -/
def execCacheSpill (dt pool : Nat) (s : State) : Host.Outcome State Fault Refusal :=
  timed (.cacheSpill dt pool) dt s (spillCache pool)

/-! ### Enabling and disabling pools (R599, R600) -/

/-- Slot ranges [a, a + m) and [b, b + n) overlap. -/
def rangesMeet (a m b n : Nat) : Bool := decide (0 < m ∧ 0 < n) && decide (a < b + n) && decide (b < a + m)

/-- The conditions of R599 let pool `k` be enabled. -/
def poolOk (s : State) (k : Nat) : Bool :=
  let f := poolFirst s k
  let c := poolCount s k
  (match s.frg.active with | some x => decide (k < x.content.rooms.length) | none => false)
    && decide (c ≤ ringSize s k) && decide (f + c ≤ 1048576)
    && (List.range 8).all (fun j => j == k || !poolEn s j || !rangesMeet f c (poolFirst s j) (poolCount s j))
    && decide (ringLevel s k ≤ c)

/-- A write of POR_POOL_CTL with EN = 1. -/
def enablePool (k : Nat) (init : Bool) (s : State) : State :=
  if poolEn s k then s
  else if ¬ poolOk s k then setInt A.POR_INT_STAT 5 s
  else
    let f := poolFirst s k
    let c := poolCount s k
    let s := if init then
      { s with por := { s.por with masks := s.por.masks.filter (fun e => decide (e.1 < f) || decide (f + c ≤ e.1)) } } else s
    fput (F.POR_POOL_CTL_EN k) 1 { s with por := { s.por with emptySeen := s.por.emptySeen.filter (· != k) } }

/-- POOL_ENABLE (R599). -/
def execPoolEnable (pool : Nat) (init : Bool) (s : State) : Host.Outcome State Fault Refusal :=
  hostCmd (.poolEnable pool init) (A.POR_POOL_CTL pool) s (enablePool pool init)

/-- The handles that pool `k` holds on chip are written to the tail. -/
def emptyCache (k : Nat) (s : State) : State := writeTail k (overOf s k ++ cacheOf s k) (putOver k [] (putCache k [] s))

/-- A write of POR_POOL_CTL with EN = 0: the cache goes to the tail first. -/
def disablePool (k : Nat) (s : State) : State :=
  if poolEn s k then fput (F.POR_POOL_CTL_EN k) 0 (emptyCache k s) else s

/-- POOL_DISABLE (R600). -/
def execPoolDisable (pool : Nat) (s : State) : Host.Outcome State Fault Refusal :=
  hostCmd (.poolDisable pool) (A.POR_POOL_CTL pool) s (disablePool pool)

/-! ### The command registers (R609) -/

/-- A write to a register of the command while it is BUSY is dropped. -/
def porBusyWrite (a : Nat) (s : State) : State := lockedWrite a (fput F.POR_CMD_STATUS_OVERRUN 1 s)

/-- A write of POR_CMD starts a command. -/
def porStart (op pool owner : Nat) (s : State) : State :=
  if s.por.cmd.isSome then porBusyWrite A.POR_CMD s
  else
    fput F.POR_CMD_STATUS_OVERRUN 0 (fput F.POR_CMD_STATUS_BUSY 1 { s with por := { s.por with cmd := some (op, pool, owner) } })

/-- What the command does, and its result. -/
def porApply (op pool owner : Nat) (s : State) : Nat × State :=
  let x := rget s A.POR_CMD_HANDLE
  let a := fget s F.POR_CMD_ARG_ARG
  if op = 0 then (porOk, s)
  else if op = 1 then
    if a = 0 ∨ 4 < popcount 16 a then (porBadOwners, s)
    else
      let (r, y, s) := allocRoom pool a owner s
      (r, if r = porOk then rput A.POR_CMD_RESULT y s else s)
  else if op = 2 then freeRoom x owner s
  else if op = 3 then
    let (r, s) := shareRoom x owner a s
    (r, if r = porOk then rput A.POR_CMD_RESULT (roomMask s x) s else s)
  else if op = 4 then
    if handleValid s x then (porOk, rput A.POR_CMD_RESULT (roomMask s x) s) else badHandle x owner s
  else (porBadOpcode, s)

/-- The pool that a command is an operation on. -/
def porPool (op pool : Nat) (s : State) : Nat := if op = 1 then pool else handlePool (rget s A.POR_CMD_HANDLE)

/-- A command completes, when its pool takes an operation in this core clock (R612). -/
def porComplete (s : State) : State :=
  match s.por.cmd with
  | none => s
  | some (op, pool, owner) =>
    let k := porPool op pool s
    let uses := decide (1 ≤ op) && decide (op ≤ 4)
    if uses ∧ ¬ poolTurn s k then s else
    let (r, s) := porApply op pool owner (if uses then usePool k 1 { s with por := { s.por with cmd := none } }
      else { s with por := { s.por with cmd := none } })
    setInt A.POR_INT_STAT 0 (fput F.POR_CMD_STATUS_BUSY 0 (fput F.POR_CMD_STATUS_RESULT r s))

/-- ALLOC (R601, R609). -/
def execPorAlloc (pool owner : Nat) (s : State) : Host.Outcome State Fault Refusal :=
  hostCmd (.porAlloc pool owner) A.POR_CMD s (porStart 1 pool owner)

/-- FREE (R606, R609). -/
def execPorFree (owner : Nat) (s : State) : Host.Outcome State Fault Refusal :=
  hostCmd (.porFree owner) A.POR_CMD s (porStart 2 0 owner)

/-- SHARE (R607, R609). -/
def execPorShare (owner : Nat) (s : State) : Host.Outcome State Fault Refusal :=
  hostCmd (.porShare owner) A.POR_CMD s (porStart 3 0 owner)

/-- QUERY (R609). -/
def execPorQuery (s : State) : Host.Outcome State Fault Refusal := hostCmd .porQuery A.POR_CMD s (porStart 4 0 0)

/-- POR_CMD_COMPLETE (R609). -/
def execPorCmdComplete (dt : Nat) (s : State) : Host.Outcome State Fault Refusal := timed (.porCmdComplete dt) dt s porComplete

/-! ### The return queue (R610, R611) -/

/-- Address of the record at the return queue's head. -/
def retAddr (s : State) : Nat :=
  addr64 s A.POR_RET_BASE_HI A.POR_RET_BASE_LO + 8 * (rget s A.POR_RET_HEAD % 2 ^ clampN (fget s F.POR_RET_SIZE_SIZE) 6 20)

/-- The records of a read of the return queue: up to 32, up to the end of the ring. -/
def retRead (s : State) : List (List Byte) :=
  let size := 2 ^ clampN (fget s F.POR_RET_SIZE_SIZE) 6 20
  let h := rget s A.POR_RET_HEAD
  let n := min (min 32 (retLevel s)) (size - h % size)
  (List.range n).map (fun i => memRead s (retAddr s + 8 * i) 8)

/-- One record of the return queue is applied (R610). -/
def applyRecord (b : List Byte) (s : State) : State :=
  let x := leAt b 0 4
  let c := leAt b 4 1
  let s := if bitAt c 7 then (shareRoom x (c % 16) (leAt b 6 2) s).2 else (freeRoom x (c % 16) s).2
  rput A.POR_RET_HEAD ((rget s A.POR_RET_HEAD + 1) % 2 ^ 32) s

/-- The next record of the return queue is applied, when its pool takes an operation in this core clock (R612); where none has
been read, some are read first, when the arbiter grants the read. -/
def returnRecord (s : State) : State :=
  if ¬ fbit s F.POR_RET_CTL_EN then s
  else if s.por.records = [] ∧ (¬ retDue s ∨ ¬ readGrant s porterReq) then s
  else
    let s := if s.por.records = [] then readTaken porterReq { s with por := { s.por with records := retRead s } } else s
    match s.por.records with
    | [] => s
    | b :: rest =>
      let k := handlePool (leAt b 0 4)
      if poolTurn s k then applyRecord b (usePool k 1 { s with por := { s.por with records := rest } }) else s

/-- RETURN_QUEUE_RECORD (R610). -/
def execReturnQueueRecord (dt : Nat) (s : State) : Host.Outcome State Fault Refusal :=
  timed (.returnQueueRecord dt) dt s returnRecord

/-- A read of pool `k`'s free ring fails, or with 8 one of the return queue (R611). -/
def porterError (k : Nat) (s : State) : State :=
  if k < 8 then
    if ¬ refillDue s k then s
    else
      let a := ringAddr s k (rget s (A.POR_RING_HEAD k))
      raise 0x0C06 k (a % 2 ^ 32) (a / 2 ^ 32) (setInt A.POR_INT_STAT 6 (fput (F.POR_POOL_CTL_EN k) 0 s))
  else if ¬ retDue s then s
  else
    let a := retAddr s
    raise 0x0C06 noUnit (a % 2 ^ 32) (a / 2 ^ 32) (setInt A.POR_INT_STAT 6 (fput F.POR_RET_CTL_EN 0 s))

/-- PORTER_DMA_ERR (R611): pool 0 to 7, or 8 for the return queue. -/
def execPorterDmaErr (dt target : Nat) (s : State) : Host.Outcome State Fault Refusal :=
  timed (.porterDmaErr dt target) dt s (porterError target)

/-! ### Resets (R614) -/

/-- A warm or a function-level reset of the Porter. -/
def porterReset (s : State) : State :=
  let s := (List.range 8).foldl (fun s k => fput (F.POR_POOL_CTL_EN k) 0 (emptyCache k s)) s
  let s := fput F.POR_RET_CTL_EN 0 (rput (A.POR_RX_STARVED 0) 0 (rput (A.POR_RX_STARVED 1) 0 s))
  let s := fput F.POR_CMD_STATUS_BUSY 0 s
  { s with por := { s.por with cmd := none, starvedBy := [], emptySeen := [], records := [] } }

end Machine
end Sys2Proof
end

