-- ==== Sys2Proof/Machine/Drayman.lean ====
section
/-! DEFINITION. Machine/Drayman.lean: the data channels of the Drayman: descriptor lists, received copies, transmitted
frames, stopping, errors, resets (chapter 15, R617 to R634, R647 to R652). -/
namespace Sys2Proof
namespace Machine

/-! ### Channels -/

/-- `n` descriptors complete, and `next` becomes CUR (R622). -/
def takeDone (ch : DataChan) (n next : Nat) (s : State) : State :=
  let a := dryBase (chanOf ch) + 0x20
  setCur ch next (rput a ((rget s a + n) % 2 ^ 32) s)

/-- The channel is to be disabled at its boundary. -/
def setDisabling (ch : DataChan) (b : Bool) (s : State) : State :=
  match ch with
  | .rx c => putRx c { rxCh s c with disabling := b } s
  | .tx c => putTxCh c { txCh s c with disabling := b } s

def isDisabling (s : State) (ch : DataChan) : Bool :=
  match ch with
  | .rx c => (rxCh s c).disabling
  | .tx c => (txCh s c).disabling

/-- Descriptors read ahead are forgotten, but for those of a transmit frame whose segments have been read. -/
def forgetAhead (ch : DataChan) (s : State) : State :=
  match ch with
  | .rx c => putRx c { rxCh s c with ahead := [] } s
  | .tx c => putTxCh c { txCh s c with ahead := (txCh s c).ahead.takeWhile (·.read) } s

/-- A channel or an errand halts with a kind (R624, R648, R649). -/
def haltChan (ch : DryChan) (kind arg : Nat) (s : State) : State :=
  let s := chanInt ch 1 (fput (fKind ch) kind (setChan ch stHalted s))
  match ch with
  | .err e => raise 0x0D03 e kind arg (bump 26 (3 * e + 2) s)
  | .rx c => raise 0x0D01 c kind arg s
  | .tx c => raise 0x0D01 c kind arg s

/-! ### Enabling, posting, fetching (R622 to R624) -/

/-- A write of EN = 1. -/
def enableChan (ch : DataChan) (s : State) : State :=
  let d := chanOf ch
  if chanEn s d then s
  else if chanState s d ≠ stDisabled then setDisabling ch false (fput (fEn d) 1 s)
  else
    let b := dryBase d
    let s := fput (fKind d) 0 (setChan d stRunning (fput (fEn d) 1 s))
    let s := rput (b + 0x20) (rget s (b + 0x1C)) (setCur ch (addr64 s (b + 0xC) (b + 0x10)) s)
    match ch with
    | .rx c => putRx c { rxDefault c with atFirst := true } s
    | .tx c => putTxCh c { txChDefault c with atFirst := true } s

/-- CHANNEL_ENABLE (R622). -/
def execChannelEnable (chan : DataChan) (s : State) : Host.Outcome State Fault Refusal :=
  hostCmd (.channelEnable chan) (dryCtl (chanOf chan)) s (enableChan chan)

/-- A write of POSTED (R622, R623). -/
def postDescriptors (ch : DataChan) (v : Nat) (s : State) : State :=
  let b := dryBase (chanOf ch)
  if 65536 < (v + 2 ^ 32 - rget s (b + 0x20)) % 2 ^ 32 then lockedWrite (b + 0x1C) s else rput (b + 0x1C) v s

/-- DESCRIPTORS_POSTED (R622). -/
def execDescriptorsPosted (chan : DataChan) (value : Word) (s : State) : Host.Outcome State Fault Refusal :=
  hostCmd (.descriptorsPosted chan value) (dryBase (chanOf chan) + 0x1C) s (postDescriptors chan value.toNat)

/-- A descriptor's read completes at address `a`. -/
def storeDesc (ch : DataChan) (a : Nat) (s : State) : State :=
  match ch with
  | .rx c =>
    let x := rxCh s c
    putRx c { x with ahead := x.ahead ++ [(a, ofLe (memRead s a 8))], atFirst := false } s
  | .tx c =>
    let x := txCh s c
    putTxCh c { x with ahead := x.ahead ++ [{ addr := a, bytes := memRead s a 64, read := false, kind := 0, remain := 0 }], atFirst := false } s

/-- The read of the next descriptor completes, when the arbiter grants it, or fails; a bad NEXT halts the channel once no descriptor is left before
it (R624). -/
def fetchDesc (ch : DataChan) (error : Bool) (s : State) : State :=
  if ¬ fetchDue s ch then s
  else
    let (n, _, a) := aheadOf s ch
    let bad := ! atFirst s ch && (a == 0 || a % 64 != 0)
    if bad then (if n = 0 then haltChan (chanOf ch) 4 (a % 2 ^ 32) s else s)
    else if error then haltChan (chanOf ch) 3 (a % 2 ^ 32) s
    else if readGrant s (chanReq (chanOf ch)) then storeDesc ch a (readTaken (chanReq (chanOf ch)) s)
    else s

/-- DESCRIPTOR_FETCH (R624). -/
def execDescriptorFetch (dt : Nat) (chan : DataChan) (error : Bool) (s : State) : Host.Outcome State Fault Refusal :=
  timed (.descriptorFetch dt chan error) dt s (fetchDesc chan error)

/-! ### Stopping (R647, R651) -/

/-- A write of STOP. -/
def stopChan (ch : DryChan) (s : State) : State :=
  let st := chanState s ch
  if st = stRunning ∨ st = stWaiting then setChan ch stStopping s else s

/-- STOP (R647). -/
def execDryStop (chan : DryChan) (s : State) : Host.Outcome State Fault Refusal :=
  hostCmd (.dryStop chan) (dryCtl chan) s (stopChan chan)

/-- A stopping channel has come to its boundary: no copy, no frame and no descriptor is partly done. -/
def atBoundary (s : State) (ch : DryChan) : Bool :=
  match ch with
  | .rx c => (rxCh s c).work.isNone
  | .tx c => (txCh s c).frame.isNone && !(txCh s c).skip && (txCh s c).ahead.all (fun d => !d.read)
  | .err e => (errSt s e).moved == 0

/-- A stopping channel reaches its boundary. -/
def chanStopped (ch : DryChan) (s : State) : State :=
  if chanState s ch ≠ stStopping ∨ ¬ atBoundary s ch then s
  else
    let s := chanInt ch 2 s
    let data (d : DataChan) (s : State) : State :=
      setDisabling d false (setChan ch (if isDisabling s d then stDisabled else stStopped) (forgetAhead d s))
    match ch with
    | .rx c => data (.rx c) s
    | .tx c => data (.tx c) s
    | .err e => setChan ch stStopped (putErr e { errSt s e with waitClk := none, words := [] } s)

/-- CHANNEL_STOPPED (R647). -/
def execChannelStopped (dt : Nat) (chan : DryChan) (s : State) : Host.Outcome State Fault Refusal :=
  timed (.channelStopped dt chan) dt s (chanStopped chan)

/-- A write of RESUME: a stopped channel goes on, and a halted data channel too, from CUR (R647, R651). -/
def resumeChan (ch : DryChan) (s : State) : State :=
  let st := chanState s ch
  let data (d : DataChan) (s : State) : State :=
    if st = stStopped then setChan ch stRunning s
    else if st = stHalted then fput (fKind ch) 0 (setChan ch stRunning (forgetAhead d s))
    else s
  match ch with
  | .rx c => data (.rx c) s
  | .tx c => data (.tx c) s
  | .err _ => if st = stStopped then setChan ch stRunning s else s

/-- RESUME_CHANNEL (R651). -/
def execResumeChannel (chan : DryChan) (s : State) : Host.Outcome State Fault Refusal :=
  hostCmd (.resumeChannel chan) (dryCtl chan) s (resumeChan chan)

/-! ### Received copies (R602 to R605, R625 to R630) -/

/-- The copy at the head of ring `r`'s queue, with those behind it, when its frame is whole. -/
def wholeHead (s : State) (r : Nat) : Option (Copy × List Copy) :=
  match queueOf s (qkey 76 r) with
  | c :: rest => if (match frameOf s c.frame with | some f => f.whole | none => true) then some (c, rest) else none
  | [] => none

/-- A copy of a whole frame. -/
def copyWhole (s : State) (c : Copy) : Bool := match frameOf s c.frame with | some f => f.whole | none => true

/-- Copies of disabled channel `r` are dropped at its queue (R160, R629). -/
def disabledDrop (r : Nat) (s : State) : State :=
  dropQueued (qkey 76 r) (copyWhole s) (fun _ s =>
    let s := bump 24 (3 * r + 2) s
    if (rxCh s r).dropSeen then s else raise 0x0D04 r 0 0 (putRx r { rxCh s r with dropSeen := true } s)) s

/-- A copy as it leaves its egress stage for the host (R626). -/
def hostBytes (s : State) (c : Copy) : List Byte :=
  let b := copyBase s c
  match c.mirror with
  | some m => truncated s m (delivered s c b)
  | none => editCopy s c b

/-- The shapers of ring `r`'s queue and of port 76 let a copy be handed over (R417). -/
def handPaced (s : State) (r : Nat) : Bool := shaperOk s (qkey 76 r) && shaperOk s 1356

/-- The copy at the head of ring `r` leaves its queue for the Drayman: its shapers lose its length and 20 bytes (R413, R417), and
its charges return (R404). -/
def handOver (r : Nat) (c : Copy) (rest : List Copy) (s : State) : State :=
  let n := (hostBytes s c).length + 24
  returnCharges 76 r c (chargeShapers 76 r c n (noteSojourn (qkey 76 r) c (leaveQueue (qkey 76 r) c rest s)))

/-- HEADROOM in bytes (R626). -/
def headroom (s : State) (r : Nat) : Nat := 64 * fget s (F.DRY_RX_CFG_HEADROOM r)

/-- The head copy of ring `r` is dropped, or handed to its channel once that holds descriptors for it. -/
def copyHandover (r : Nat) (s : State) : State :=
  if ¬ chanEn s (.rx r) ∨ s.hif.d3hot then freeCells (disabledDrop r s)
  else if ¬ handPaced s r then s
  else
    match wholeHead s r with
    | none => s
    | some (c, rest) =>
      if starved s r then freeCells (bump 23 (2 * r + 1) (handOver r c rest s))
      else
        let b := hostBytes s c
        match roomsFor s r (headroom s r + b.length) with
        | none => freeCells (starve r 8 (abandonRooms r 8 1 [] (setInt A.POR_INT_STAT 1 (handOver r c rest s))))
        | some (k, z, n) =>
          if chanState s (.rx r) = stRunning ∧ (rxCh s r).work.isNone ∧ dmaOn s ∧ ceilDiv n 6 ≤ held32 s (.rx r) then
            putRx r { rxCh s r with work := some { copy := c, data := b, head := headroom s r, owners := ringOwners s r, pool := k, size := z, need := n
                                                   rooms := [], written := 0, wrote := 0 } }
              (handOver r c rest s)
          else s

/-- RX_COPY_HANDOVER (R627). -/
def execRxCopyHandover (dt ring : Nat) (s : State) : Host.Outcome State Fault Refusal :=
  timed (.rxCopyHandover dt ring) dt s (copyHandover ring)

/-- Where the next byte of a copy is written: the number of its room, and the place in the room (R626). -/
def roomSpot (w : RxWork) : Nat × Nat :=
  let first := w.size - w.head
  if w.written < first then (0, w.head + w.written) else (1 + (w.written - first) / w.size, (w.written - first) % w.size)

/-- A burst of the copy is written into the room it has come to, if that is taken. -/
def writeBurst (r : Nat) (w : RxWork) (s : State) : State :=
  let (i, o) := roomSpot w
  match w.rooms[i]? with
  | none => putRx r { rxCh s r with work := some w } s
  | some x =>
    let a := roomAddr s x + o
    let n := burstLen (writeSize s) a (min (w.data.length - w.written) (w.size - o))
    memWrite a ((w.data.drop w.written).take n) (putRx r { rxCh s r with work := some { w with written := w.written + n } } s)

/-- The Drayman's write of a copy goes on by a burst, when the arbiter grants it; where it reaches a new room, that is allocated
first (R603, R604). -/
def roomAllocation (r : Nat) (s : State) : State :=
  match (rxCh s r).work with
  | none => s
  | some w =>
    let allIn := decide (w.data.length ≤ w.written)
    if allIn ∧ w.need ≤ w.rooms.length ∨ ¬ writeGrant s (chanReq (.rx r)) then s
    else if ¬ allIn ∧ (roomSpot w).1 < w.rooms.length then writeBurst r w (writeTaken (chanReq (.rx r)) s)
    else if ¬ poolTurn s w.pool then s
    else
      let (res, x, s) := allocRoom w.pool w.owners r (usePool w.pool 1 s)
      if res = porOk then writeBurst r { w with rooms := w.rooms ++ [x] } (writeTaken (chanReq (.rx r)) s)
      else freeCells (starve r w.pool (abandonRooms r w.pool w.owners w.rooms (putRx r { rxCh s r with work := none } s)))

/-- RX_ROOM_ALLOCATION (R603). -/
def execRxRoomAllocation (dt ring : Nat) (s : State) : Host.Outcome State Fault Refusal :=
  timed (.rxRoomAllocation dt ring) dt s (roomAllocation ring)

/-- FLAGS of a receive descriptor. -/
def rxFlags (c : Copy) : Nat :=
  (match c.mirror with | some m => m % 8 + 8 | none => 0) + 16 * (c.hearth % 4) + 64 * b2n c.second + 128 * b2n c.mgmt
    + 256 * b2n c.yellow

/-- Bytes 8 to 31 of the first descriptor of a copy (R625). -/
def rxHead (s : State) (w : RxWork) : List Byte :=
  let c := w.copy
  let src := match frameOf s c.frame with | some f => f.srcPort | none => 76
  let stamp := match frameOf s c.frame with | some f => f.stamp | none => 0
  leBytes 2 w.data.length ++ leBytes 1 src ++ leBytes 1 (c.reason % 32)
    ++ leBytes 4 (c.tunIdx % 2 ^ 20 + 2 ^ 20 * b2n c.tunValid) ++ stampRecord stamp ++ leBytes 2 c.carry ++ leBytes 2 (rxFlags c)

/-- Descriptor number `j` of a copy that takes `n`, from byte 8 on. -/
def rxDesc (s : State) (w : RxWork) (j n : Nat) : List Byte :=
  let rooms := (w.rooms.drop (6 * j)).take 6
  let status := 2 ^ 31 + 2 ^ 30 * b2n (j == 0) + 2 ^ 29 * b2n (j + 1 == n) + 2 ^ 26 * rooms.length
  (if j = 0 then rxHead s w else List.replicate 24 0) ++ fitBytes 24 (rooms.map (leBytes 4)).flatten ++ leBytes 4 0
    ++ leBytes 4 status

/-- The writes to the `n` descriptors of a copy, each a burst: the bodies in list order, then the STATUS words in reverse; body
and STATUS of a single one together (R628). -/
def descWrites (s : State) (w : RxWork) (n : Nat) (l : List (Nat × Nat)) : List (Nat × List Byte) :=
  let d := (l.take n).zipIdx.map (fun e => (e.1.1, rxDesc s w e.2 n))
  if n = 1 then d.map (fun e => (e.1 + 8, e.2))
  else d.map (fun e => (e.1 + 8, e.2.take 52)) ++ d.reverse.map (fun e => (e.1 + 60, e.2.drop 52))

/-- A completed copy is reported by the moderation of R630. -/
def rxReport (r : Nat) (s : State) : State :=
  let x := rxCh s r
  if max 1 (fget s (F.DRY_RX_INT_MOD_INT_COUNT r)) ≤ x.count + 1 then
    chanInt (.rx r) 0 (putRx r { x with count := 0, since := none } s)
  else putRx r { x with count := x.count + 1, since := some (x.since.getD s.clk) } s

/-- The last STATUS of a copy that took `n` descriptors is written: the copy is complete. -/
def copyDone (r n : Nat) (w : RxWork) (s : State) : State :=
  let x := rxCh s r
  let s := takeDone (.rx r) n (x.ahead.getD (n - 1) (0, 0)).2 s
  let s := putRx r { x with work := none, ahead := x.ahead.drop n } s
  freeCells (rxReport r (bumpN 24 (3 * r + 1) w.data.length (bump 24 (3 * r) s)))

/-- All data of the copy in progress is written: the next write to its descriptors is made, when the arbiter grants it (R628). -/
def copyComplete (r : Nat) (s : State) : State :=
  let x := rxCh s r
  match x.work with
  | none => s
  | some w =>
    let n := ceilDiv w.need 6
    if w.written < w.data.length ∨ w.rooms.length < w.need ∨ x.ahead.length < n ∨ ¬ writeGrant s (chanReq (.rx r)) then s
    else
      let l := descWrites s w n x.ahead
      let e := l.getD w.wrote (0, [])
      let s := memWrite e.1 e.2 (writeTaken (chanReq (.rx r)) s)
      if w.wrote + 1 < l.length then putRx r { x with work := some { w with wrote := w.wrote + 1 } } s else copyDone r n w s

/-- RX_COPY_COMPLETE (R628). -/
def execRxCopyComplete (dt ring : Nat) (s : State) : Host.Outcome State Fault Refusal :=
  timed (.rxCopyComplete dt ring) dt s (copyComplete ring)

/-- INT_USEC µs have passed since the first completion not yet reported. -/
def rxTimer (r : Nat) (s : State) : State :=
  let x := rxCh s r
  let us := fget s (F.DRY_RX_INT_MOD_INT_USEC r)
  match x.since with
  | some t => if us ≠ 0 ∧ t + us * 1400 ≤ s.clk then chanInt (.rx r) 0 (putRx r { x with count := 0, since := none } s) else s
  | none => s

/-- RX_INT_MOD_TIMER (R630). -/
def execRxIntModTimer (dt ring : Nat) (s : State) : Host.Outcome State Fault Refusal :=
  timed (.rxIntModTimer dt ring) dt s (rxTimer ring)

/-- A write of EN = 0 (R629, R647). -/
def disableChan (ch : DataChan) (s : State) : State :=
  let d := chanOf ch
  if ¬ chanEn s d then s
  else
    let s := fput (fEn d) 0 s
    let st := chanState s d
    let s := if st = stRunning ∨ st = stStopping then setDisabling ch true (setChan d stStopping s)
      else setChan d stDisabled s
    match ch with
    | .rx c => freeCells (disabledDrop c (putRx c { rxCh s c with dropSeen := false } s))
    | .tx _ => s

/-- CHANNEL_DISABLE (R647). -/
def execChannelDisable (chan : DataChan) (s : State) : Host.Outcome State Fault Refusal :=
  hostCmd (.channelDisable chan) (dryCtl (chanOf chan)) s (disableChan chan)

/-- Counter `i` of transmit channel `c`. -/
def txCtr (c i : Nat) (s : State) : State := bump 25 (4 * c + i) s

/-- A good frame of channel `c` enters its hearth, unless it found no free cell (R42, R394, R633). -/
def hostFrame (c : Nat) (f : TxFrame) (s : State) : State :=
  let b := f.body
  let ctl := descCtl f.head
  let h := ctl % 4
  let tag := leAt f.head 12 2
  let s := bumpN 25 (4 * c + 1) b.length (txCtr c 0 s)
  if f.lost then s
  else if s.glb.hearthRst.contains h then s
  else
    let (i, s) := addFrame { newFrame b 76 with
      carriesFcs := false, whole := true, rxLen := b.length + 4, hostChan := c, carry := tag, tag := tag
      tsReq := bitAt ctl 2, tsOrigin := bitAt ctl 3 } s
    putHostFifo h (hostFifo s h ++ [i]) s

/-- The frame of channel `c` ends at descriptor `d` with the error `kind`, or with none (R632). -/
def endFrame (c : Nat) (f : TxFrame) (d : TxDesc) (kind : Nat) (s : State) : State :=
  if kind = 0 then hostFrame c f s else raise 0x0D02 c kind (d.addr % 2 ^ 32) (chanInt (.tx c) 3 (txCtr c 2 s))

/-- `n` bytes of a frame being gathered have been read: they take cells, or the frame finds none and is dropped (R394). -/
def hostCells (f : TxFrame) (n : Nat) (s : State) : TxFrame × State :=
  let need := cellsFor n - f.cells
  if f.lost ∨ need = 0 then (f, s)
  else if cellsFree s need then ({ f with cells := f.cells + need }, s)
  else ({ f with cells := 0, lost := true }, noCell 76 s)

/-- Read descriptors of the frame that has just ended in error carry its kind: those after the last EOP before it. -/
def markKind (kind : Nat) (l : List TxDesc) : List TxDesc :=
  let r := l.takeWhile (·.read)
  let front := (r.dropLast.reverse.dropWhile (fun d => !descEop d)).reverse
  front ++ (r.drop front.length).map (fun d => { d with kind := kind }) ++ l.drop r.length

/-- The rest of a failed frame is skipped: its descriptors complete as ABANDONED up to EOP (R651). -/
def skipDescs : List TxDesc → List TxDesc × Bool
  | [] => ([], true)
  | d :: rest =>
    if d.read then let (l, x) := skipDescs rest; (d :: l, x)
    else
      let d' := { d with read := true, kind := 7, remain := segTotal d.bytes }
      if descEop d then (d' :: rest, false) else let (l, x) := skipDescs rest; (d' :: l, x)

/-- The first descriptor not yet read becomes `d`. -/
def putRead (d : TxDesc) : List TxDesc → List TxDesc
  | [] => []
  | x :: rest => if x.read then x :: putRead d rest else d :: rest

/-- Descriptor `d` of channel `c` is done with, `b` of its bytes read: a frame that it ends is complete. -/
def descRead (c : Nat) (f : TxFrame) (d : TxDesc) (b : List Byte) (kind : Nat) (s : State) : State :=
  let x := txCh s c
  let f := { f with descs := f.descs + 1, body := if kind = 0 then f.body ++ b else f.body }
  let kind := if kind = 0 ∧ descEop d ∧ leAt f.head 8 2 ≠ f.body.length then 5 else kind
  let l := putRead { d with read := true, remain := segTotal d.bytes - b.length } x.ahead
  if descEop d then
    endFrame c f d kind (putTxCh c { x with ahead := if kind = 0 then l else markKind kind l, frame := none, part := [] } s)
  else putTxCh c { x with ahead := l, frame := some { f with kind := kind }, part := [] } s

/-- Channel `c` reads a burst of its next frame, when the arbiter grants it; a descriptor whose bytes are all read, or that is bad,
is done with (R632, R633). -/
def readFrame (c : Nat) (s : State) : State :=
  let x := txCh s c
  if ¬ txWorks s c then s
  else if x.skip then
    let (l, more) := skipDescs x.ahead
    putTxCh c { x with ahead := l, skip := more } s
  else
    match txNext s c with
    | none => s
    | some d =>
      let f := x.frame.getD { head := d.bytes, descs := 0, body := [], kind := 0, cells := 0, lost := false }
      let k := txKind s c d
      if txWaits s c d then s
      else if k = 0 ∧ x.part.length < segTotal d.bytes then
        if ¬ readGrant s (chanReq (.tx c)) then s
        else
          let (a, left) := segSpot s (usedSegs d.bytes) x.part.length
          let b := x.part ++ memRead s a (burstLen (readSize s) a left)
          let (f, s) := hostCells f (f.body.length + b.length) (readTaken (chanReq (.tx c)) s)
          if b.length < segTotal d.bytes then putTxCh c { x with frame := some f, part := b } s else descRead c f d b 0 s
      else descRead c f d x.part k s

/-- TX_FRAME_READ (R633). -/
def execTxFrameRead (dt chan : Nat) (s : State) : Host.Outcome State Fault Refusal :=
  timed (.txFrameRead dt chan) dt s (readFrame chan)

/-! ### Completion (R608, R634, R649) -/

/-- The segments of a descriptor whose rooms are freed (R608, R634): none after a failed read (R649). -/
def freeing (d : TxDesc) : List Seg :=
  if d.kind = 1 ∨ d.kind = 2 then [] else (segsOf d.bytes).filter (fun g => g.free && g.room && g.len != 0)

/-- The rooms of a descriptor's FREE segments are freed. -/
def freeSegs (d : TxDesc) (s : State) : State :=
  (freeing d).foldl (fun s g => (freeRoom g.lo (leAt d.bytes 11 1 % 16) (usePool (handlePool g.lo) 1 s)).2) s

/-- Descriptor `d` of channel `c` completes with its kind and REMAIN. -/
def completeDesc (c : Nat) (d : TxDesc) (s : State) : State :=
  let status := 2 ^ 31 + (descStatus d.bytes &&& 0x60000000) + (if d.kind = 0 then 0 else 2 ^ 28 + d.kind * 2 ^ 24)
    + d.remain % 2 ^ 24
  let s := takeDone (.tx c) 1 (leAt d.bytes 0 8) (memWrite (d.addr + 60) (leBytes 4 status) (freeSegs d s))
  if bitAt (descCtl d.bytes) 4 then chanInt (.tx c) 0 s else s

/-- The first descriptor of channel `c` completes, when the outcome of its frame is known, the arbiter grants the write and the
pools it frees rooms of take operations (R612, R634). -/
def txComplete (c : Nat) (s : State) : State :=
  let x := txCh s c
  match x.ahead with
  | d :: rest =>
    if ¬ writeGrant s (chanReq (.tx c)) ∨ ¬ (freeing d).all (fun g => poolTurn s (handlePool g.lo)) then s
    else completeDesc c d (putTxCh c { x with ahead := rest } (writeTaken (chanReq (.tx c)) s))
  | [] => s

/-- TX_DESCRIPTOR_COMPLETE (R634). -/
def execTxDescriptorComplete (dt chan : Nat) (s : State) : Host.Outcome State Fault Refusal :=
  timed (.txDescriptorComplete dt chan) dt s (txComplete chan)

/-! ### Read errors (R649) -/

/-- A read for transmit channel `c` completes with an error: one of a segment, or else one of a descriptor. The failed read is the
first whose bytes have not come; REMAIN is 0 where its issue was the last, else what the reads issued after it leave, which is
not stated (log entry 27). -/
def txReadError (c : Nat) (s : State) : State :=
  let x := txCh s c
  if ¬ txWorks s c then s
  else
    match txNext s c with
    | none => fetchDesc (.tx c) true s
    | some d =>
      let total := segTotal d.bytes
      if ¬ segDue s c then s
      else
        let (a, left) := segSpot s (usedSegs d.bytes) x.part.length
        let rest := total - x.part.length - burstLen (readSize s) a left
        let remain := if rest = 0 then 0 else (Config.dmaRemain s.free).toNat % (rest + 1)
        let kind := if rest = 0 then 2 else 1
        let d' := { d with read := true, kind := kind, remain := remain }
        let s := putTxCh c { x with ahead := putRead d' x.ahead, frame := none, part := [], skip := !descEop d }
          (if rest = 0 then s else { s with free := s.free + 1 })
        haltChan (.tx c) kind (d.addr % 2 ^ 32) (txCtr c 3 s)

/-! ### Resets (R652) -/

/-- The copies being written are abandoned. -/
def abandonWorks (s : State) : State :=
  s.dry.rx.foldl (fun s e => match e.2.work with | some w => abandonRooms e.1 w.pool w.owners w.rooms s | none => s) s

/-- A warm or a function-level reset of the Drayman: its registers return to their reset values. -/
def draymanReset (s : State) : State :=
  let s := abandonWorks s
  freeCells { s with
    dry := Dry.cold
    regs := skeep (fun a => decide (a < 0x160000) || decide (0x164000 ≤ a)) s.regs }

end Machine
end Sys2Proof
end

