-- ==== Sys2Proof/Machine/Operands.lean ====
section
/-! DEFINITION. Machine/Operands.lean: the forms of an access operand. A DWORD access to BAR0 or BAR2 carries four byte
enables; they say which bytes are meant, and so the access's class (R163). -/
namespace Sys2Proof
namespace Machine

/-- A full access: all four bytes of the DWORD. -/
def fullBe : Nat := 15

/-- Byte enables of a narrow access: one byte, or one of the two aligned halves (R163). -/
def narrow (be : Nat) : Bool := [1, 2, 4, 8, 3, 12].contains be

/-- The lanes that the byte enables select. -/
def laneMask (be : Nat) : Nat := (List.range 4).foldl (fun m i => if bitAt be i then m + 255 * 2 ^ (8 * i) else m) 0

end Machine
end Sys2Proof
end

