-- ==== Sys2Proof/Machine/Modes.lean ====
section
/-! DEFINITION. Machine/Modes.lean: the base states and their transitions, the commands of GLB_CTL, WAKING, DRAINING, SAFE,
DIAGNOSTIC (chapter 03, R121 to R139), and the flush of an old generation (R114). -/
namespace Sys2Proof
namespace Machine

/-! ### Base states -/

/-- The base state becomes `b`; a change of the reported mode is recorded at once (R125), so that two changes within one
command are two records. -/
def setBase (b : Nat) (s : State) : State := modeChange { s with glb := { s.glb with base := b } }

/-- Results of GLB_CTL_STATUS. -/
def glbResult (r : Nat) (s : State) : State := fput F.GLB_CTL_STATUS_RESULT r s
def glbOk : Nat := 0
def glbWrongMode : Nat := 1
def glbCauseActive : Nat := 2
def glbTemperActive : Nat := 3

/-- The lanes lose their power, or get it: every link is judged (R139, R212). -/
def judgeAll (s : State) : State :=
  (List.range 72).foldl (fun s p =>
    judgeLink p (if linkAble s p then s else fput (F.PRT_STATUS_TRAINING p) 0 s)) s

/-- Every frame leaves the data path: FIFOs, decision paths, queues, transmitters. -/
def emptyPath (s : State) : State :=
  let ks := s.dp.queues.map Prod.fst
  let s := ks.foldl (fun s k => dropQueued k (fun _ => true) (fun _ s => s) s) s
  let s := (List.range 72).foldl (fun s p =>
    putPort p { portSt s p with rx := [], ctl := none, reasm := none, mpk := [] } s) s
  freeCells { s with
    dp := { s.dp with ingress := [], recirc := [], host := [], pipe := [], queues := [], tx := [] }
    fab := { s.fab with rx := [], passed := [], join := [] } }

/-- The Forging leaves the device, and the base state becomes `b`: its banks are empty, its registers read 0 (R169), its keys
are gone, the ports are down (R139). The fragment tables keep their entries until they expire: the manual does not count them
among tables or learned state (DESIGN CHOICE, log entry 72). -/
def discardForging (b : Nat) (s : State) : State :=
  let s := emptyPath s
  let s := verifyAll (loadRegs (fun _ => true) [] s)
  judgeAll (setBase b { s with
    phs := { s.phs with limitsSet := false }
    frg := { s.frg with bank0 := none, bank1 := none, active := none, onBank1 := [], oldBank := 0, tempering := false
                        armed := none, timingNew := false, admitFrom := none }
    fab := { s.fab with keyActive := none, keyStandby := none, selfSet := false, keySwitch := [] }
    ldg := Ldg.cold })

/-! ### WAKING (R126, R129, R149) -/

/-- ADMIT of the active Forging is loaded when the registers hold another's (R98). -/
def loadAdmit (s : State) : State :=
  match s.frg.active with
  | some f =>
    if s.frg.admitFrom = some f then s
    else loadRegs admitReg f.content.regs { s with frg := { s.frg with admitFrom := some f } }
  | none => s

/-- WAKING is entered: its clock starts, every budget is full, the fabric block starts. -/
def enterWaking (s : State) : State :=
  let s := loadAdmit s
  let s := { s with glb := { s.glb with base := bWaking, wakeClk := s.clk, woken := true, admitLevel := [], admitSeen := [] } }
  judgeAll (fabricWake s)

/-- GLB_WAKE_ELAPSED (R129). -/
def wakeElapsed (s : State) : Nat :=
  if s.glb.woken then min ((s.clk - s.glb.wakeClk) / clocksPerMs) 65535 else 0

/-- WAKING ends: the base state is RUN, and no budget holds any more (R151). -/
def endWake (s : State) : State := setInt A.GLB_INT_STAT 4 (setBase bRun s)

/-- GLB_WAKE_ELAPSED has reached GLB_WAKE_MS, on a core clock after the entry into WAKING. -/
def wakeOver (s : State) : Bool :=
  s.glb.base == bWaking && decide (fgetInForce s F.GLB_WAKE_MS_WAKE_MS ≤ wakeElapsed s) && decide (s.glb.wakeClk < s.clk)

/-! ### DRAINING (R130 to R133) -/

/-- A frame of a management stream that waits for a decision path (R132): it is Kixon, or the decision of its first pass
carried MGMT. -/
def fifoMgmt (s : State) (i : Nat) : Bool :=
  match frameOf s i with
  | some f => f.mgmt || f.kixon || isKixon s f
  | none => true

/-- A frame of a management stream, by its decision or, before it, by what its first pass decided (R132). -/
def passMgmt (s : State) (p : Pass) : Bool := fifoMgmt s p.frame || (decide (2 < p.stage) && p.act.mgmt)

/-- Copies that a transmitter of ports 0 to 75 has on the wire or has suspended: their queue still counts them (R404). -/
def txCopies (t : Tx) : List Copy := (t.cur.toList ++ t.susp.toList).map (fun x => x.copy)

/-- Only frames of management streams remain in the queues of ports 0 to 75, the FIFOs and the decision paths (R133). -/
def drained (s : State) : Bool :=
  (s.dp.queues.filter (fun e => decide (e.1 < 1216))).all (fun e => e.2.all (isMgmt s))
    && s.dp.tx.all (fun e => (txCopies e.2).all (isMgmt s))
    && s.dp.pipe.all (fun e => e.2.all (passMgmt s))
    && s.dp.ingress.all (fun e => e.2.all (fifoMgmt s)) && s.dp.host.all (fun e => e.2.all (fifoMgmt s))
    && s.dp.recirc.all (fun e => e.2.all (fun x => fifoMgmt s x.1))

/-- The copies on the wires that `f` names are ended at once, and suspended ones are abandoned (R114, R133). -/
def dropSending (f : State → Copy → Bool) (s : State) : State :=
  (s.dp.tx.map Prod.fst).foldl (fun s p =>
    let s := match (txOf s p).cur with
      | some x => if f s x.copy then putTx p { txOf s p with cur := none, freeClk := s.clk } (returnCharges p x.queue x.copy s) else s
      | none => s
    dropSuspended p (f s) s) s

/-- QUIESCED is entered. -/
def quiesce (s : State) : State := setInt A.GLB_INT_STAT 3 (setBase bQuiesced s)

/-- GLB_DRAIN_TIMEOUT has passed since the DRAIN command. -/
def drainOver (s : State) : Bool :=
  decide (s.glb.drainClk + max 1 (fget s F.GLB_DRAIN_TIMEOUT_TIMEOUT_MS) * clocksPerMs ≤ s.clk)

/-- The frames that remain are dropped and counted, and the drain ends (R133). -/
def drainFlush (s : State) : State :=
  let old := s.dp.frames.length
  let s := dropEverywhere (fun k c => decide (k < 1216) && !isMgmt s c) (fun _ _ s => s) s
  let s := dropSending (fun s c => !isMgmt s c) s
  let keep := fun (l : List Nat) => l.filter (fifoMgmt s)
  let s := freeCells { s with dp := { s.dp with
    ingress := (s.dp.ingress.map (fun e => (e.1, keep e.2))).filter (fun e => e.2 != [])
    host := (s.dp.host.map (fun e => (e.1, keep e.2))).filter (fun e => e.2 != [])
    recirc := (s.dp.recirc.map (fun e => (e.1, e.2.filter (fun x => fifoMgmt s x.1)))).filter (fun e => e.2 != [])
    pipe := (s.dp.pipe.map (fun e => (e.1, e.2.filter (passMgmt s)))).filter (fun e => e.2 != []) } }
  let n := old - s.dp.frames.length
  let s := faddSat F.GLB_DRAIN_FLUSHED_FLUSHED n (fput F.GLB_CTL_STATUS_DRAIN_TIMED_OUT 1 s)
  quiesce (raise 0x0009 noUnit n 0 s)

/-- The transitions that are due in this core clock come before a command (R127). -/
def autoBase (s : State) : State :=
  if wakeOver s then endWake s
  else if s.glb.base = bDraining then
    if drained s then quiesce s else if drainOver s then drainFlush s else s
  else s

/-! ### DIAGNOSTIC (R138) -/

/-- The diagnostic run is stopped, and the base state is that of END_DIAG. -/
def leaveDiag (s : State) : State :=
  let s := fput F.HLT_BIST_STATUS_STATE (if fget s F.HLT_BIST_STATUS_STATE = 1 then 0 else fget s F.HLT_BIST_STATUS_STATE)
    { s with hlt := { s.hlt with bistTarget := 0 } }
  if s.glb.diagFromQuiesced ∧ ¬ fbit s F.GLB_CTL_STATUS_DIAG_DESTRUCTIVE then judgeAll (setBase bQuiesced s)
  else discardForging bDormant s

/-! ### SAFE (R134 to R137) -/

/-- Frames queued or suspended on front ports that are not of management streams are dropped as SAFE is entered (R135). -/
def safeDrop (s : State) : State :=
  if modeOf s = mSafe then
    let s := dropEverywhere (fun k c => decide (qport k < 64) && !isMgmt s c)
      (fun k _ s => bump 11 (4 * qport k + 1) s) s
    freeCells ((List.range 64).foldl (fun s p =>
      match (txOf s p).susp with
      | some x => if isMgmt s x.copy then s else bump 11 (4 * p + 1) (dropSuspended p (fun _ => true) s)
      | none => s) s)
  else s

/-- A cause sets the SAFE latch (R134, R137): bit 0 TEMP_CRIT, 1 VOLT_CRIT, 2 HOST. -/
def setSafe (bit : Nat) (s : State) : State :=
  if bitAt (rget s A.GLB_SAFE_CAUSE) bit then s
  else
    let was := safeLatch s
    let s := forBits A.GLB_SAFE_CAUSE (2 ^ bit) s
    let s := raise 0x0007 noUnit (rget s A.GLB_SAFE_CAUSE) 0 (setInt A.GLB_INT_STAT 1 s)
    let s := if s.glb.base = bDiagnostic ∧ bit < 2 then leaveDiag s else s
    if was then s else safeDrop s

/-! ### Commands of GLB_CTL (R126 to R138) -/

/-- A command is taken after the transitions of this core clock; it is accepted, or its result says why not. -/
def glbCmd (f : State → Option State) (s : State) : State :=
  let s := autoBase s
  match f s with
  | some t => freeCells (glbResult glbOk t)
  | none => glbResult glbWrongMode s

/-- DRAIN. -/
def drainOp (s : State) : State :=
  let s := autoBase s
  if s.glb.base ≠ bRun then glbResult glbWrongMode s
  else if frgState s ≠ frgIdle then glbResult glbTemperActive s
  else glbResult glbOk (fput F.GLB_CTL_STATUS_DRAIN_TIMED_OUT 0
    { s with glb := { s.glb with base := bDraining, drainClk := s.clk } })

/-- DRAIN (R130). -/
def execDrain (s : State) : Host.Outcome State Fault Refusal := hostCmd .drain A.GLB_CTL s drainOp

/-- RESUME. -/
def resumeOp : State → State :=
  glbCmd (fun s =>
    if s.glb.base = bDraining then some (setBase bRun s)
    else if s.glb.base = bQuiesced then some (enterWaking s)
    else none)

/-- RESUME (R126). -/
def execResume (s : State) : Host.Outcome State Fault Refusal := hostCmd .resume A.GLB_CTL s resumeOp

/-- END_WAKING. -/
def endWakingOp : State → State := glbCmd (fun s => if s.glb.base = bWaking then some (endWake s) else none)

/-- END_WAKING (R129). -/
def execEndWaking (s : State) : Host.Outcome State Fault Refusal := hostCmd .endWaking A.GLB_CTL s endWakingOp

/-- ENTER_SAFE. -/
def enterSafeOp : State → State :=
  glbCmd (fun s =>
    if s.glb.base = bWaking ∨ s.glb.base = bRun ∨ s.glb.base = bDraining ∨ s.glb.base = bQuiesced then some (setSafe 2 s)
    else none)

/-- ENTER_SAFE (R137). -/
def execEnterSafe (s : State) : Host.Outcome State Fault Refusal := hostCmd .enterSafe A.GLB_CTL s enterSafeOp

/-- CLEAR_SAFE: refused only while a monitor is beyond its clear threshold (R136). -/
def clearSafeOp (s : State) : State :=
  let s := autoBase s
  if tempWarn s ∨ voltWarn s then glbResult glbCauseActive s
  else
    let was := safeLatch s
    let s := glbResult glbOk (rput A.GLB_SAFE_CAUSE 0 s)
    if was then raise 0x0008 noUnit 0 0 s else s

/-- CLEAR_SAFE (R136). -/
def execClearSafe (s : State) : Host.Outcome State Fault Refusal := hostCmd .clearSafe A.GLB_CTL s clearSafeOp

/-- ENTER_DIAG: no frame is forwarded from now on. -/
def enterDiagOp : State → State :=
  glbCmd (fun s =>
    if s.glb.base = bDormant ∨ s.glb.base = bQuiesced then
      let q := s.glb.base == bQuiesced
      let s := emptyPath (fput F.GLB_CTL_STATUS_DIAG_DESTRUCTIVE 0 s)
      some (judgeAll (setBase bDiagnostic { s with glb := { s.glb with diagFromQuiesced := q } }))
    else none)

/-- ENTER_DIAG (R138). -/
def execEnterDiag (s : State) : Host.Outcome State Fault Refusal := hostCmd .enterDiag A.GLB_CTL s enterDiagOp

/-- END_DIAG. -/
def endDiagOp : State → State := glbCmd (fun s => if s.glb.base = bDiagnostic then some (leaveDiag s) else none)

/-- END_DIAG (R138). -/
def execEndDiag (s : State) : Host.Outcome State Fault Refusal := hostCmd .endDiag A.GLB_CTL s endDiagOp

/-! ### Timers (R129, R133) -/

/-- WAKE_TIMER_EXPIRY (R129). -/
def execWakeTimerExpiry (dt : Nat) (s : State) : Host.Outcome State Fault Refusal :=
  timed (.wakeTimerExpiry dt) dt s (fun s => if wakeOver s then endWake s else s)

/-- GLB_WAKE_MS_WRITE (R129): the value applies at once; the timer sees it on the next core clock. -/
def execGlbWakeMsWrite (value : Word) (s : State) : Host.Outcome State Fault Refusal :=
  hostCmd (.glbWakeMsWrite value) A.GLB_WAKE_MS s (fun s => writeRw A.GLB_WAKE_MS value.toNat (keepInForce A.GLB_WAKE_MS s))

/-- DRAIN_COMPLETE (R133). -/
def execDrainComplete (dt : Nat) (s : State) : Host.Outcome State Fault Refusal :=
  timed (.drainComplete dt) dt s (fun s => if s.glb.base = bDraining ∧ drained s then quiesce s else s)

/-- DRAIN_TIMEOUT (R133). -/
def execDrainTimeout (dt : Nat) (s : State) : Host.Outcome State Fault Refusal :=
  timed (.drainTimeout dt) dt s (fun s =>
    if s.glb.base = bDraining ∧ ¬ drained s ∧ drainOver s then drainFlush s else s)

/-! ### The old generation is flushed (R114) -/

/-- The copies on the wires that `old` names are ended at once, suspended ones are abandoned, and a copy that is being written
into rooms gives them back (R114). -/
def dropUnderway (old : Nat → Bool) (s : State) : State :=
  let s := dropSending (fun _ c => old c.frame) s
  (s.dry.rx.map Prod.fst).foldl (fun s r =>
    match (rxCh s r).work with
    | some w => if old w.copy.frame then releaseRooms w.owners w.rooms (putRx r { rxCh s r with work := none } s) else s
    | none => s) s

/-- Every frame of the old generation still in the device is dropped, wherever it is (R114). Then the barrier is met. -/
def flushOld (s : State) : State :=
  let old := isOld s
  let n := (List.range 4).foldl (fun n h => n + oldFrames s h) 0
  let s := dropEverywhere (fun _ c => old c.frame) (fun _ _ s => s) s
  let s := dropUnderway old s
  let s := { s with
    dp := { s.dp with
      recirc := (s.dp.recirc.map (fun e => (e.1, e.2.filter (fun x => !old x.1)))).filter (fun e => e.2 != [])
      pipe := (s.dp.pipe.map (fun e => (e.1, e.2.filter (fun x => !old x.frame)))).filter (fun e => e.2 != []) }
    fab := { s.fab with rx := s.fab.rx.filter (fun i => !old i), passed := s.fab.passed.filter (fun i => !old i)
                        join := s.fab.join.filter (fun i => !old i) } }
  let s := freeCells s
  let s := { s with dp := { s.dp with frames := s.dp.frames.map (fun e =>
    (e.1, if old e.1 then { e.2 with tagger := none } else e.2)) } }
  let s := raise 0x0106 noUnit n 0 (faddSat F.FRG_FLUSHED_FLUSHED n s)
  releaseOld s

/-- FLUSH_OLD (R114). -/
def flushOldOp (s : State) : State :=
  if frgState s = frgDraining then flushOld (frgResult frgOk s) else frgResult frgWrongMode s

/-- FLUSH_OLD (R114). -/
def execFlushOld (s : State) : Host.Outcome State Fault Refusal := hostCmd .flushOld A.FRG_CTL s flushOldOp

/-- The drain timeout is acted on (R114). -/
def temperTimeout (s : State) : State :=
  let s := setInt A.FRG_INT_STAT 6 { s with frg := { s.frg with timeoutDone := true } }
  if fbit s F.FRG_TEMPER_CTL_DRAIN_POLICY then fput F.FRG_STATUS_DRAIN_LATE 1 s else flushOld s

/-- TEMPER_DRAIN_TIMEOUT (R114). -/
def execTemperDrainTimeout (dt : Nat) (s : State) : Host.Outcome State Fault Refusal :=
  timed (.temperDrainTimeout dt) dt s (fun s => if drainLate s then temperTimeout s else s)

end Machine
end Sys2Proof
end

