-- ==== Sys2Proof/Machine/Queues.lean ====
section
/-! DEFINITION. Machine/Queues.lean: the commands at the regions, the shapers, the meters and the samples of the traffic
manager (chapter 09). -/
namespace Sys2Proof
namespace Machine

/-- METER_BACKGROUND_REFRESH (R408). -/
def execMeterBackgroundRefresh (dt h meter : Nat) (s : State) : Host.Outcome State Fault Refusal :=
  timed (.meterBackgroundRefresh dt h meter) dt s (meterRefresh h meter)

/-- The number of the shaper that a write names, and the address of its rate or burst register. -/
def shaperOf : ShaperTarget → Nat
  | .port p => 1280 + p
  | .queue p q => qkey p q
def shaperReg (burst : Bool) : ShaperTarget → Nat
  | .port p => if burst then A.TM_PORT_SHP_BURST p else A.TM_PORT_SHP_RATE p
  | .queue p q => if burst then A.TM_Q_SHP_BURST p q else A.TM_Q_SHP_RATE p q

/-- A write of a shaper's rate or burst resets its level (R414). -/
def writeShaper (t : ShaperTarget) (burst : Bool) (v : Nat) (s : State) : State :=
  shaperReset (shaperOf t) (writeRw (shaperReg burst t) v s)

/-- SHAPER_RATE_WRITE (R414). -/
def execShaperRateWrite (target : ShaperTarget) (burst : Bool) (value : Word) (s : State) : Host.Outcome State Fault Refusal :=
  hostCmd (.shaperRateWrite target burst value) (shaperReg burst target) s (writeShaper target burst value.toNat)

/-- A write of a region or a limit (R405); regions that come to exceed the buffer are reported (R396). -/
def writeRegion (a v : Nat) (s : State) : State :=
  let was := (sharedSize s).2
  let s := writeRw a v (keepInForce a s)
  if (sharedSize s).2 ∧ ¬ was then raise 0x0702 noUnit 0 0 (setInt A.TM_INT_STAT 1 s) else s

/-- TM_REGION_WRITE (R405). -/
def execTmRegionWrite (addr : Nat) (value : Word) (s : State) : Host.Outcome State Fault Refusal :=
  hostCmd (.tmRegionWrite addr value) addr s (writeRegion addr value.toNat)

/-- The bin of a sample (R430). -/
def sampleBin (base v : Nat) : Nat := if v = 0 then 0 else min 15 (1 + (Nat.log2 v - base))

/-- The samples of queue `k` (R429, R430). -/
def sampleQueue (k : Nat) (s : State) : State :=
  let d := fget s (F.TM_Q_DEPTH_DEPTH (qport k) (qnum k))
  let t := match queueOf s k with | [] => 0 | c :: _ => (s.clk - c.entered) * 5 / 7
  bump 15 (32 * k + 16 + sampleBin (fget s F.TM_SAMPLE_CFG_DELAY_BASE) t)
    (bump 15 (32 * k + sampleBin (fget s F.TM_SAMPLE_CFG_DEPTH_BASE) d) s)

/-- Every PERIOD_US the queues are sampled (R429). -/
def sampleQueues (s : State) : State :=
  let us := fget s F.TM_SAMPLE_CFG_PERIOD_US
  if us = 0 ∨ s.clk < s.tmg.sampleClk + us * clocksPerUs then s
  else (List.range 1280).foldl (fun s k => sampleQueue k s) { s with tmg := { s.tmg with sampleClk := s.clk } }

/-- QUEUE_SAMPLE (R429). -/
def execQueueSample (dt : Nat) (s : State) : Host.Outcome State Fault Refusal :=
  timed (.queueSample dt) dt s sampleQueues

end Machine
end Sys2Proof
end

