-- ==== Sys2Proof/Machine/Health.lean ====
section
/-! DEFINITION. Machine/Health.lean: fencing by command, error-correcting codes and scrubbing, sparing, monitors, adaptive
voltage, memory BIST (chapter 18, R704 to R725). -/
namespace Sys2Proof
namespace Machine

/-- The Ostler does its housekeeping (R60, R190, R191). -/
def ostlerUp (s : State) : Bool := !s.hif.ostlerSilent && !s.hif.restarting

/-! ### Fencing (R704 to R708) -/

def fenceResult (r : Nat) (s : State) : State := rput A.HLT_FENCE_STATUS (setBits (rget s A.HLT_FENCE_STATUS) 16 8 r) s

/-- HLT_FENCE_CMD.OP = FENCE. -/
def fenceOp (h c : Nat) (s : State) : State :=
  if fencedNow s h then fenceResult 1 s else fenceResult 0 (fence h c s)

/-- FENCE (R708). -/
def execFenceCopy (h copy : Nat) (s : State) : Host.Outcome State Fault Refusal :=
  hostCmd (.fenceCopy h copy) A.HLT_FENCE_CMD s (fenceOp h copy)

/-- HLT_FENCE_CMD.OP = UNFENCE. -/
def unfenceOp (h : Nat) (s : State) : State :=
  if ¬ fencedNow s h then fenceResult 2 s
  else if bits (rget s A.HLT_FENCE_STATUS) (4 * h) 2 ≠ 2 then fenceResult 3 s
  else
    let c := fencedCopy s h
    raise 0x0F42 h c 0 (bump 27 46 (fenceResult 0 (rput A.HLT_FENCE (setBits (rget s A.HLT_FENCE) (4 * h) 4 0) s)))

/-- UNFENCE (R708). -/
def execUnfence (h : Nat) (s : State) : Host.Outcome State Fault Refusal :=
  hostCmd (.unfence h) A.HLT_FENCE_CMD s (unfenceOp h)

/-- The Ostler's BIST of hearth `h`'s fenced copy ends (R707). -/
def copyBist (h : Nat) (passed : Bool) (s : State) : State :=
  if ¬ fencedNow s h ∨ ¬ ostlerUp s then s
  else
    let s := rput A.HLT_FENCE_STATUS (setBits (rget s A.HLT_FENCE_STATUS) (4 * h) 2 (if passed then 2 else 3)) s
    let s := bump 27 58 (setInt A.HLT_INT_STAT 8 s)
    raise 0x0F43 h (fencedCopy s h) (b2n passed) (if passed then s else bump 27 59 s)

/-- COPY_BIST (R707). -/
def execCopyBist (dt h : Nat) (passed : Bool) (s : State) : Host.Outcome State Fault Refusal :=
  timed (.copyBist dt h passed) dt s (copyBist h passed)

/-! ### Sparing (R713 to R715) -/

/-- Spare `i` is free. -/
def spareFree (s : State) (i : Nat) : Bool :=
  !bitAt (rget s A.HLT_BANK_MAP) (8 * i + 7) && !s.hlt.sparing.any (fun x => x.spare == i)

/-- Bank `b` has left the free store. -/
def bankGone (s : State) (b : Nat) : Bool := bitAt (rget s (A.HLT_BANK_WD (b / 32))) (b % 32)

/-- Bank `b` meets R713: it is spared, or withdrawn when no spare is left. -/
def spareBank (b : Nat) (s : State) : State :=
  if s.hlt.sparing.any (fun x => x.bank == b) ∨ s.hlt.withdrawing.contains b ∨ bankGone s b then s
  else
    match (List.range 4).find? (spareFree s) with
    | some i => { s with hlt := { s.hlt with sparing := s.hlt.sparing ++ [{ bank := b, spare := i, clk := s.clk }] } }
    | none => { s with hlt := { s.hlt with withdrawing := s.hlt.withdrawing ++ [b] } }

/-- SPARE (R713). -/
def execSpare (bank : Nat) (s : State) : Host.Outcome State Fault Refusal :=
  hostCmd (.spare bank) A.HLT_BANK_CMD s (spareBank bank)

/-- The copy of bank `b` into its spare ends, 24,576 core clocks after it began (R713); the errors corrected in the bank that it
replaces count no more against the number (log entry 81). -/
def bankSpared (b : Nat) (s : State) : State :=
  match s.hlt.sparing.find? (fun x => x.bank == b) with
  | some x =>
    if s.clk < x.clk + 24576 then s
    else
      let s := { s with hlt := { s.hlt with sparing := s.hlt.sparing.filter (fun y => y.bank != b)
                                            corrected := lput s.hlt.corrected b [] } }
      let s := rput A.HLT_BANK_MAP (setBits (rget s A.HLT_BANK_MAP) (8 * x.spare) 8 (128 + b)) s
      let s := raise 0x0F48 b x.spare 0 (bump 27 43 (setInt A.HLT_INT_STAT 4 s))
      if sparesExhausted s then raise 0x0F49 noUnit b 0 s else s
  | none => s

/-- BANK_SPARED (R713). -/
def execBankSpared (dt bank : Nat) (s : State) : Host.Outcome State Fault Refusal :=
  timed (.bankSpared dt bank) dt s (bankSpared bank)

/-- The last cell of a bank that is being withdrawn is free (R714, R715). -/
def bankWithdrawn (b : Nat) (s : State) : State :=
  if ¬ s.hlt.withdrawing.contains b ∨ 393216 < cellsUsed s + cellsWithdrawn s + 6144 then s
  else
    let was := (sharedSize s).2
    let s := { s with hlt := { s.hlt with withdrawing := s.hlt.withdrawing.filter (· != b) } }
    let s := forBits (A.HLT_BANK_WD (b / 32)) (2 ^ (b % 32)) (keepInForce (A.HLT_BANK_WD (b / 32)) s)
    let s := raise 0x0F4A b 0 0 (bump 27 44 (setInt A.HLT_INT_STAT 4 s))
    if (sharedSize s).2 ∧ ¬ was then raise 0x0702 noUnit 0 0 (setInt A.TM_INT_STAT 1 s) else s

/-- BANK_WITHDRAWN (R714). -/
def execBankWithdrawn (dt bank : Nat) (s : State) : Host.Outcome State Fault Refusal :=
  timed (.bankWithdrawn dt bank) dt s (bankWithdrawn bank)

/-! ### Error-correcting codes (R709 to R712) -/

/-- The classes of HLT_ECC_CAP.CLASS. -/
def eccCopy : Nat := 0
def eccDual : Nat := 1
def eccTable : Nat := 2
def eccBuffer : Nat := 3
def eccHost : Nat := 4

/-- The position in HEALTH of a class's corrected errors; its uncorrectable ones follow. -/
def eccCtr (cls : Nat) : Nat := if cls = eccTable then 32 else if cls = eccBuffer then 34 else if cls = eccCopy then 36 else 38

/-- UNIT of a word's record: its hearth, or 0xFF. -/
def eccUnit (w : EccWord) : Nat := if w.hearth < 4 then w.hearth else noUnit

/-- A corrected word (R709, R710, R713). -/
def eccCorrected (w : EccWord) (s : State) : State :=
  let s := raise 0x0F45 (eccUnit w) (w.cls * 256 + w.table) w.index (bump 27 (eccCtr w.cls) s)
  if w.cls = eccBuffer then
    let span := max 1 (fget s F.HLT_BANK_CFG_WINDOW_S) * clockHz
    let l := (s.clk :: lget s.hlt.corrected w.table).filter (fun t => decide (s.clk < t + span))
    let s := { s with hlt := { s.hlt with corrected := lput s.hlt.corrected w.table l } }
    if max 1 (fget s F.HLT_BANK_CFG_CORR_THRESH) < l.length then spareBank w.table s else s
  else s

/-- A poisoned word of a table; a dynamic FDB entry is invalidated instead. -/
def poisonWord (w : EccWord) (s : State) : State :=
  let x := entryAt s tFdb w.hearth 0 w.index
  if w.cls = eccTable ∧ w.table = tFdb ∧ imageValid tFdb x ∧ ¬ bitAt (ew x 2) 24 then
    putEntry tFdb w.hearth 0 w.index (ewSet 2 (setBits (ew x 2) 31 1 0) x) s
  else if s.hlt.poison.contains w then s
  else { s with hlt := { s.hlt with poison := s.hlt.poison ++ [w] } }

/-- The frame of a spoilt cell: each copy not yet started is dropped and counted, those in transmission, a suspended one too, end
with an inverted frame check sequence; copies that are still to be made meet the spoilt cell at the vote or in the fabric
block (R709). -/
def spoilFrame (i : Nat) (s : State) : State :=
  let s := dropEverywhere (fun _ c => c.frame == i) (fun _ _ s => bump 27 40 s) s
  let flip : Sending → Sending := fun x => if x.copy.frame = i then { x with invert := true } else x
  let both : Tx → Tx := fun t => { t with cur := t.cur.map flip, susp := t.susp.map flip }
  let s := { s with dp := { s.dp with tx := s.dp.tx.map (fun (e : Nat × Tx) => (e.1, both e.2)) } }
  let held := (s.fab.rx ++ s.fab.passed ++ s.fab.join).contains i
  let s := { s with fab := { s.fab with rx := s.fab.rx.filter (· != i), passed := s.fab.passed.filter (· != i)
                                        join := s.fab.join.filter (· != i) } }
  match frameOf s i with
  | some f => putFrame i { f with spoilt := true } (if held then bump 27 40 s else s)
  | none => s

/-- An uncorrectable error in a cell of bank `w.table` (R709). -/
def spoilCell (w : EccWord) (s : State) : State :=
  let l := s.dp.frames.map Prod.fst
  let k := (Config.cellFrame w.table w.index s.free).toNat % (l.length + 1)
  let s := { s with free := s.free + 1 }
  spareBank w.table (match l[k]? with | some i => freeCells (spoilFrame i s) | none => s)

/-- A copy of ring `r` in progress meets an uncorrectable word of the cache its rooms come from: it is abandoned as for a failed
allocation (R604, R605). -/
def spoilAllocation (k : Nat) (s : State) : State :=
  match s.dry.rx.find? (fun e => match e.2.work with | some w => w.pool == k | none => false) with
  | some (r, x) =>
    match x.work with
    | some w => freeCells (starve r k (abandonRooms r k w.owners w.rooms (putRx r { x with work := none } s)))
    | none => s
  | none => s

/-- An uncorrectable word of class HOST (R709): of the Guestbook's log, a record is cleared; of the Porter's cache of pool
`index`, or of the Drayman's cache of a channel, the operation is abandoned as a read error of its block. Which memories of
the class are tables 0, 1 and 2 is the model's choice (DESIGN CHOICE, log entry 81). -/
def spoilHost (w : EccWord) (s : State) : State :=
  if w.table = 0 then { s with gbk := { s.gbk with log := s.gbk.log.filter (fun r => r.seq != w.index) } }
  else if w.table = 1 then spoilAllocation (w.index % 8) s
  else if w.index < 64 then fetchDesc (.rx w.index) true s
  else if w.index < 128 then txReadError (w.index - 64) s
  else s

/-- What an uncorrectable word does, by the class of its memory (R709). A word of a memory held twice fails wholly only when
`both` copies of it do. -/
def eccEffect (w : EccWord) (both : Bool) (s : State) : State :=
  if w.cls = eccTable then poisonWord w s
  else if w.cls = eccDual then (if both then poisonWord w s else s)
  else if w.cls = eccBuffer then spoilCell w s
  else if w.cls = eccHost then spoilHost w s
  else s

/-- An uncorrectable word (R709, R710). -/
def eccUncorrectable (w : EccWord) (both : Bool) (s : State) : State :=
  let s := eccCapture w (bump 27 (eccCtr w.cls + 1) s)
  let s := setInt A.HLT_INT_STAT 3 (if w.hearth < 4 then setInt (A.HTH_INT_STAT w.hearth) 13 s else s)
  raise 0x0F46 (eccUnit w) (w.cls * 256 + w.table) w.index (eccEffect w both s)

/-- The scrubber reads a word (R711): 0 no error, 1 corrected, 2 uncorrectable, 3 uncorrectable in both copies. -/
def scrubWord (w : EccWord) (errors : Nat) (s : State) : State :=
  let s := if errors = 0 then s else if errors = 1 then eccCorrected w s else eccUncorrectable w (errors == 3) s
  if Config.scrubLast w then bump 27 41 (rput A.HLT_SCRUB_STATUS ((rget s A.HLT_SCRUB_STATUS + 1) % 2 ^ 32) s) else s

/-- SCRUB_ACCESS (R711). -/
def execScrubAccess (dt : Nat) (word : EccWord) (errors : Nat) (s : State) : Host.Outcome State Fault Refusal :=
  timed (.scrubAccess dt word errors) dt s (scrubWord word errors)

/-- TCAM_SCRUB (R712): a bad row is rewritten from its shadow, whose content is what the model holds. -/
def execTcamScrub (dt h : Nat) (bank : Bool) (row : Nat) (parityBad shadowBad : Bool) (s : State) :
    Host.Outcome State Fault Refusal :=
  timed (.tcamScrub dt h bank row parityBad shadowBad) dt s (fun s =>
    if parityBad ∨ shadowBad then tcamRepaired h (row + 2 ^ 16 * b2n bank) s else s)

/-! ### Monitors (R716 to R721) -/

/-- A signed byte of a threshold register, in hundredths of a degree. -/
def thr100 (s : State) (a lo : Nat) : Int := toSigned 8 (bits (rget s a) lo 8) * 100

/-- The next state of a monitor whose reading passes the critical or the warning threshold, or lies within the clear one. -/
def monNext (old : Nat) (crit warn clear : Bool) : Nat :=
  if crit then 2
  else if warn then max old 1
  else if clear then 0
  else min old 1

/-- The next state of a temperature sensor (R718). -/
def tempNext (s : State) (old : Nat) (c : Int) : Nat :=
  let hi := A.HLT_TEMP_THR
  let lo := A.HLT_TEMP_LOW_THR
  monNext old (decide (thr100 s hi 16 < c) || decide (c < thr100 s lo 8))
    (decide (thr100 s hi 8 < c) || decide (c < thr100 s lo 0))
    (decide (c ≤ thr100 s hi 24) && decide (thr100 s lo 16 ≤ c))

/-- The nominal value of monitor `k`'s rail in mV (R717). -/
def railNominal (s : State) (k : Nat) : Nat :=
  if k < 4 then fget s F.HLT_AVS_STATUS_SETPOINT_MV
  else if k < 6 then 850 else if k < 8 then 750 else if k < 10 then 1200 else if k < 11 then 1800 else 3300

/-- The next state of a voltage monitor (R718): thresholds are in thousandths of the nominal value. -/
def voltNext (s : State) (old k v : Nat) : Nat :=
  let n := railNominal s k
  let dev := 1000 * (if v < n then n - v else v - n)
  monNext old (decide (fget s F.HLT_VOLT_THR_CRIT_PCT * n < dev)) (decide (fget s F.HLT_VOLT_THR_WARN_PCT * n < dev))
    (decide (dev ≤ fget s F.HLT_VOLT_THR_CLEAR_PCT * n))

def monState (s : State) (volt : Bool) (k : Nat) : Nat := sget (fun _ => 0) (if volt then s.hlt.voltState else s.hlt.tempState) k

def putMon (volt : Bool) (k v : Nat) (s : State) : State :=
  if volt then { s with hlt := { s.hlt with voltState := sput (fun _ => 0) s.hlt.voltState k v } }
  else { s with hlt := { s.hlt with tempState := sput (fun _ => 0) s.hlt.tempState k v } }

/-- HLT_MON_STATUS.STATE shows the worst of each kind. -/
def showMon (s : State) : State :=
  let worst : List (Nat × Nat) → Nat := fun l => l.foldl (fun m e => max m e.2) 0
  fput F.HLT_MON_STATUS_STATE (worst s.hlt.tempState + 4 * worst s.hlt.voltState) s

/-- Monitor `k` enters a state with a reading (R719). -/
def monMove (volt : Bool) (k new : Nat) (reading : Int) (s : State) : State :=
  let old := monState s volt k
  let i := 2 * b2n volt
  if new = old then s
  else
    let s := showMon (putMon volt k new s)
    if new = 0 then raise 0x0F4F k (b2n volt) (sArg reading) s
    else if new = 1 then raise (0x0F4B + i) k (sArg reading) 0 (bump 27 (48 + i) (setInt A.HLT_INT_STAT (5 + b2n volt) s))
    else setSafe (b2n volt) (raise (0x0F4C + i) k (sArg reading) 0 (bump 27 (49 + i) (setInt A.HLT_INT_STAT (5 + b2n volt) s)))

/-- A reading of a monitor: the last one is kept, and its register shows it (R716). -/
def noteTemp (k : Nat) (v : Int) (s : State) : State :=
  rput (A.HLT_TEMP k) (ofSigned 16 v) { s with hlt := { s.hlt with temps := sins (sdel s.hlt.temps k) k v } }
def noteVolt (k v : Nat) (s : State) : State :=
  rput (A.HLT_VOLT k) (v % 65536) { s with hlt := { s.hlt with volts := sins (sdel s.hlt.volts k) k v } }

/-- The median of a list of readings: the mean of the middle two when their number is even. -/
def median (l : List Int) : Int :=
  let m := l.mergeSort (fun a b => decide (a ≤ b))
  let n := m.length
  (m.getD ((n - 1) / 2) 0 + m.getD (n / 2) 0) / 2

/-- Sensor `k` of a poll lies more than 15 °C from the median of the others, where others have been read (R721). -/
def outlier (l : List (Nat × Int)) (k : Nat) (c : Int) : Bool :=
  let others := (l.filter (fun e => e.1 != k)).map Prod.snd
  others != [] && (decide (1500 < c - median others) || decide (1500 < median others - c))

/-- The readings of a poll with the sensors' numbers. -/
def answered {α : Type} (l : List (Option α)) : List (Nat × α) := l.zipIdx.filterMap (fun e => e.1.map (fun v => (e.2, v)))

/-- Is sensor `k` marked failed? -/
def tempFailed (s : State) (k : Nat) : Bool := bitAt (fget s F.HLT_MON_STATUS_TEMP_FAILED) k

/-- The sensors marked failed by readings: at most two outliers, those marked before first; a third is real (R721). -/
def failedNow (s : State) (l : List (Nat × Int)) : List Nat :=
  let out := (l.filter (fun e => outlier l e.1 e.2)).map Prod.fst
  (out.filter (tempFailed s) ++ out.filter (fun k => !tempFailed s k)).take 2

/-- A sensor is newly marked failed: its record, and it takes part in no threshold any more. -/
def markFailed (k : Nat) (s : State) : State :=
  let s := showMon (putMon false k 0 s)
  if tempFailed s k then s else raise 0x0F50 k 0 0 (bump 27 60 s)

/-- The sensors `failed` are marked failed, and no other. -/
def markAll (failed : List Nat) (s : State) : State :=
  fput F.HLT_MON_STATUS_TEMP_FAILED (failed.foldl (fun m k => m + 2 ^ k) 0) (failed.foldl (fun s k => markFailed k s) s)

/-- The temperatures of a poll. -/
def pollTemps (l : List (Nat × Int)) (s : State) : State :=
  let failed := failedNow s l
  let s := markAll failed s
  l.foldl (fun s e =>
    let s := noteTemp e.1 e.2 s
    if failed.contains e.1 then s else monMove false e.1 (tempNext s (monState s false e.1) e.2) e.2 s) s

/-- The voltages of a poll. -/
def pollVolts (l : List (Nat × Nat)) (s : State) : State :=
  l.foldl (fun s e =>
    monMove true e.1 (voltNext s (monState s true e.1) e.1 e.2) (Int.ofNat e.2) (noteVolt e.1 e.2 s)) s

/-- The process monitors of a poll: their mean, and whether one lies outside its valid range (R721, R723). -/
def pollProcs (l : List (Nat × Nat)) (s : State) : State :=
  let sum := l.foldl (fun n e => n + e.2) 0
  let s := if l = [] then s else rput A.HLT_PMON_AVG (sum / l.length % 2 ^ 32) s
  let bad := l.filter (fun e => !Config.procValid e.2)
  let s := if bad = [] ∨ s.hlt.procBad then s
    else bad.foldl (fun s e => raise 0x0F50 e.1 1 e.2 (bump 27 60 s)) s
  { s with hlt := { s.hlt with procBad := bad != [] } }

/-- A poll of every sensor (R716): the Ostler makes it. -/
def monitorPoll (r : Readings) (s : State) : State :=
  if ¬ ostlerUp s then s
  else pollProcs (answered r.procs) (pollVolts (answered r.volts) (pollTemps (answered r.temps) s))

/-- MONITOR_POLL (R716). -/
def execMonitorPoll (dt : Nat) (readings : Readings) (s : State) : Host.Outcome State Fault Refusal :=
  timed (.monitorPoll dt readings) dt s (fun s => freeCells (monitorPoll readings s))

/-- What a comparator reads is kept as the monitor's last reading; the Ostler's registers show the polls (R716). -/
def noteCrit (volt : Bool) (k : Nat) (v : Int) (s : State) : State :=
  { s with hlt := if volt then { s.hlt with volts := sins (sdel s.hlt.volts k) k v.toNat }
                  else { s.hlt with temps := sins (sdel s.hlt.temps k) k v } }

/-- A hardware comparator finds a critical threshold passed (R716, R719). A sensor that stands apart from the others' last
readings is marked failed in place of it, so that a single failed sensor does not send the device to SAFE (R721). -/
def monitorCrit (volt : Bool) (k : Nat) (v : Int) (s : State) : State :=
  let old := monState s volt k
  if volt then (if voltNext s old k v.toNat ≠ 2 then s else monMove true k 2 v (noteCrit volt k v s))
  else if tempNext s old v ≠ 2 then s
  else
    let s := noteCrit volt k v s
    let failed := failedNow s s.hlt.temps
    if failed.contains k then markAll failed s else monMove false k 2 v s

/-- MONITOR_CRIT (R719). -/
def execMonitorCrit (dt : Nat) (volt : Bool) (k : Nat) (value : Int) (s : State) : Host.Outcome State Fault Refusal :=
  timed (.monitorCrit dt volt k value) dt s (fun s => freeCells (monitorCrit volt k value s))

/-- The default temperature thresholds of the device's grade (R718). -/
def gradeThresholds (s : State) : State :=
  if s.hif.grade = 1 then rput A.HLT_TEMP_THR 0x64736900 (rput A.HLT_TEMP_LOW_THR 0xD8CED3 s)
  else rput A.HLT_TEMP_THR 0x5A695F00 (rput A.HLT_TEMP_LOW_THR 0x00F6FB s)

/-- Every monitor that has been read is evaluated anew on its last reading, after a warm reset has cleared what the block
reports; one past a critical threshold sets the latch again (R136). -/
def judgeMonitors (s : State) : State :=
  pollVolts s.hlt.volts (pollTemps s.hlt.temps { s with hlt := { s.hlt with tempState := [], voltState := [] } })

/-! ### Adaptive voltage scaling (R722 to R724) -/

/-- The hottest temperature of a sensor that is not marked failed. -/
def hottest (s : State) : Int :=
  match (s.hlt.temps.filter (fun e => !tempFailed s e.1)).map Prod.snd with
  | [] => 0
  | x :: t => t.foldl max x

/-- The setpoint is held (R723). -/
def avsHeld (s : State) : Bool :=
  s.hlt.procBad || (List.range 4).any (fun k => monState s true k != 0) || !ostlerUp s

/-- The target, and whether it had to be clamped (R722, R724). -/
def avsGoal (s : State) : Nat × Bool :=
  let t := if fbit s F.HLT_AVS_CTL_MODE then fget s F.HLT_AVS_CTL_FIXED_MV
    else (Config.avsTarget (rget s A.HLT_PMON_AVG) (hottest s)).toNat
  (clampN t 680 820, decide (t < 680) || decide (820 < t))

/-- The Ostler moves the setpoint by one step (R722). -/
def avsStep (s : State) : State :=
  if (match s.hlt.avsClk with | some t => decide (s.clk < t + 10 * clocksPerMs) | none => false) then s
  else
    let s := { s with hlt := { s.hlt with avsClk := some s.clk } }
    if avsHeld s then bump 27 55 s
    else
      let (t, lim) := avsGoal s
      let fixed := fbit s F.HLT_AVS_CTL_MODE
      let s := fput F.HLT_AVS_STATUS_TARGET_MV t s
      let s := if lim ∧ ¬ fixed then raise 0x0F51 noUnit t 0 (setInt A.HLT_INT_STAT 7 s) else s
      let v := fget s F.HLT_AVS_STATUS_SETPOINT_MV
      let moved (n i : Nat) (s : State) : State :=
        let s := fput F.HLT_AVS_STATUS_SETPOINT_MV n s
        bump 27 i { s with hif := { s.hif with avsCount := s.hif.avsCount + 1 } }
      if v + 5 ≤ t then moved (v + 5) 53 s else if t + 5 ≤ v then moved (v - 5) 54 s else s

/-- AVS_STEP (R722). -/
def execAvsStep (dt : Nat) (s : State) : Host.Outcome State Fault Refusal := timed (.avsStep dt) dt s avsStep

/-! ### Memory BIST (R725) -/

/-- HLT_BIST_CTL.RUN on the classes of `t`: bit 0 COPY, 1 DUAL, 2 TABLE, 3 BUFFER, 4 HOST. -/
def bistRun (t : Nat) (s : State) : State :=
  if s.glb.base ≠ bDiagnostic ∨ fget s F.HLT_BIST_STATUS_STATE = 1 then lockedWrite A.HLT_BIST_CTL s
  else
    let s := fput F.HLT_BIST_STATUS_FAILED 0 (fput F.HLT_BIST_STATUS_STATE 1 (fput F.HLT_BIST_CTL_TARGET t s))
    let s := { s with hlt := { s.hlt with bistTarget := t } }
    if (t &&& 0xD) = 0 then s else fput F.GLB_CTL_STATUS_DIAG_DESTRUCTIVE 1 s

/-- RUN (R725). -/
def execBistRun (target : Nat) (s : State) : Host.Outcome State Fault Refusal :=
  hostCmd (.bistRun target) A.HLT_BIST_CTL s (bistRun target)

/-- What a run over TABLE leaves in the tables: nothing that is stated. -/
def bistOverwrite (s : State) : State :=
  { s with
    tab := { s.tab with mem := sputs entryDefault [] (Config.bistLeaves s.free) }
    free := s.free + 1 }

/-- A memory BIST run ends; `failed` holds the classes in which a memory failed. -/
def bistComplete (failed : Nat) (s : State) : State :=
  if fget s F.HLT_BIST_STATUS_STATE ≠ 1 then s
  else
    let t := s.hlt.bistTarget
    let f := failed &&& t
    let s := if bitAt t 2 then bistOverwrite s else s
    let s := fput F.HLT_BIST_STATUS_FAILED f (fput F.HLT_BIST_STATUS_STATE (if f = 0 then 2 else 3) s)
    let s := bump 27 58 (setInt A.HLT_INT_STAT 8 { s with hlt := { s.hlt with bistTarget := 0 } })
    let s := if f = 0 then s else bump 27 59 s
    let s := (setBitsOf 5 f).foldl (fun s c => raise 0x0F52 noUnit c 0 s) s
    if bitAt f 3 then spareBank (Config.bistBank s.free).toNat { s with free := s.free + 1 } else s

/-- BIST_COMPLETE (R725). -/
def execBistComplete (dt failed : Nat) (s : State) : Host.Outcome State Fault Refusal :=
  timed (.bistComplete dt failed) dt s (bistComplete failed)

end Machine
end Sys2Proof
end

