-- ==== Sys2Proof/Machine/Forging.lean ====
section
/-! DEFINITION. Machine/Forging.lean: the Forging loader: image layout, verification, loads from the host and from flash,
and a Forging becoming active (chapter 02, R64 to R97, R765, R766). -/
namespace Sys2Proof
namespace Machine

/-! ### Results of FRG_STATUS.RESULT -/

def frgBadHeader : Nat := 0x01
def frgBadRevision : Nat := 0x02
def frgBadLength : Nat := 0x03
def frgBadRole : Nat := 0x04
def frgBadDirectory : Nat := 0x05
def frgKeyUnknown : Nat := 0x06
def frgKeyRevoked : Nat := 0x07
def frgBadSignature : Nat := 0x08
def frgOldSecver : Nat := 0x09
def frgDecryptFail : Nat := 0x0A
def frgLimitExceeded : Nat := 0x0B
def frgIncompatible : Nat := 0x0C
def frgTablesNotBanked : Nat := 0x0D
def frgOstlerTimeout : Nat := 0x11

/-! ### The HEADER (R64 to R66) -/

/-- Fields of an image's HEADER. -/
def hdRole (b : List Byte) : Nat := leAt b 9 1
def hdDeviceId (b : List Byte) : Nat := leAt b 10 2
def hdFabricId (b : List Byte) : Nat := leAt b 12 4
def hdTotal (b : List Byte) : Nat := leAt b 16 4
def hdSections (b : List Byte) : Nat := leAt b 20 2
def hdWake (b : List Byte) : Bool := bitAt (leAt b 22 2) 0
def hdSecver (b : List Byte) : Nat := leAt b 24 2
def hdKeySlot (b : List Byte) : Nat := leAt b 26 1
def hdSeq (b : List Byte) : Nat := leAt b 32 8
def hdDigest (b : List Byte) : List Byte := (b.drop 64).take 32

/-- Steps 1 to 4 of R79 on a HEADER: the result of the first that fails. `len` is FRG_LOAD_LEN. -/
def headerSteps (len : Nat) (b : List Byte) : Option Nat :=
  let role := hdRole b
  let dev := hdDeviceId b
  let fab := hdFabricId b
  if b.take 4 ≠ [0x41, 0x46, 0x52, 0x47] ∨ leAt b 4 2 ≠ 1 ∨ leAt b 6 2 ≠ 128 ∨ 1 < hdKeySlot b then some frgBadHeader
  else if leAt b 8 1 ≠ 1 then some frgBadRevision
  else if hdTotal b ≠ len ∨ 2 ^ 28 < hdTotal b ∨ (hdWake b ∧ 2 ^ 22 < hdTotal b) then some frgBadLength
  else if (role = 0 ∧ dev = 0xFFFF ∧ fab = 0) ∨ (role = 1 ∧ dev ≤ 1 ∧ fab ≠ 0)
      ∨ (role = 2 ∧ ((2 ≤ dev ∧ dev ≤ 2047) ∨ dev = 0xFFFF) ∧ fab ≠ 0) then none
  else some frgBadRole

/-! ### The directory (R67 to R69) -/

/-- The end of the directory. -/
def dirEnd (b : List Byte) : Nat := 128 + 48 * hdSections b

/-- Entry `i` of the directory: 48 bytes. -/
def dirEntry (b : List Byte) (i : Nat) : List Byte := (b.drop (128 + 48 * i)).take 48
def secType (e : List Byte) : Nat := leAt e 0 2
def secEnc (e : List Byte) : Bool := bitAt (leAt e 2 2) 0
def secOffset (e : List Byte) : Nat := leAt e 4 4
def secLength (e : List Byte) : Nat := leAt e 8 4

/-- One entry respects R67 and R69: known type, alignment, length, reserved bits, encryption only where it may be. -/
def entryOk (e : List Byte) : Bool :=
  let t := secType e
  ([2, 3, 4, 5, 6, 7, 8, 15].contains t) && decide (leAt e 2 2 ≤ 1) && decide (secOffset e % 64 = 0 ∧ secLength e ≠ 0)
    && decide (leAt e 12 4 = 0 ∧ leAt e 44 4 = 0) && (secEnc e || (e.drop 16).all (· == 0))
    && (if t = 8 then secEnc e else t == 4 || t == 7 || !secEnc e)

/-- The entries lie in ascending order of type, none begins before the section in front of it ends (R68). -/
def entriesOrdered : Nat → Nat → List (List Byte) → Bool
  | _, _, [] => true
  | t, o, e :: rest =>
    decide (t < secType e ∧ o ≤ secOffset e) && entriesOrdered (secType e) (secOffset e + secLength e) rest

/-- The directory's entries. -/
def directory (b : List Byte) : List (List Byte) := (List.range (hdSections b)).map (dirEntry b)

/-- Step 5 of R79: the directory respects R67 to R69. -/
def directoryOk (b : List Byte) : Bool :=
  let d := directory b
  let types := d.map secType
  decide (5 ≤ hdSections b ∧ hdSections b ≤ 8) && d.all entryOk && entriesOrdered 0 (dirEnd b) d
    && [2, 3, 5, 6].all (fun t => types.contains t) && (types.contains 8 == (hdRole b != 0))
    && (match d.getLast? with
        | some e => secType e == 15 && secLength e == 256 && hdTotal b == secOffset e + 256
        | none => false)

/-- Offset of the SIGNATURE section. -/
def sigOffset (b : List Byte) : Nat := hdTotal b - 256

/-! ### Steps 6 to 12 of R79 -/

/-- The bytes of a section as stored. -/
def sectionBytes (b e : List Byte) : List Byte := (b.drop (secOffset e)).take (secLength e)

/-- The plaintext of a section (R73); `none` where the tag fails or no image key is programmed. -/
def plainSection (s : State) (b e : List Byte) : Option (List Byte) :=
  if secEnc e then
    s.hif.imageKey.bind (fun k =>
      gcmDecrypt k ((e.drop 16).take 12) (b.take 128 ++ e.take 16) (sectionBytes b e) ((e.drop 28).take 16))
  else some (sectionBytes b e)

/-- Every section but SIGNATURE with its plaintext (step 10). -/
def plainSections (s : State) (b : List Byte) : List (List Byte) → Option (List (Nat × List Byte))
  | [] => some []
  | e :: rest =>
    if secType e = 15 then plainSections s b rest
    else (plainSection s b e).bind (fun p => (plainSections s b rest).map (fun l => (secType e, p) :: l))

/-- The keys of the FABRIC section: unwrapped under IMAGE_KEY and well-formed (R82, R584). -/
def fabricKeys (s : State) (secs : List (Nat × List Byte)) : Option KeySet × Bool :=
  match secs.find? (fun e => e.1 == 8) with
  | none => (none, true)
  | some (_, p) =>
    match (s.hif.imageKey.bind (fun k => keyUnwrap k p)).bind Config.keySet with
    | some k => if k.id < 16 ∧ k.key.length = 16 then (some k, true) else (none, false)
    | none => (none, false)

/-- What the sections whose plaintext `sec` gives say (R69): each holds what the table of R69 names, and a section that the
image does not have gives nothing. Registers of PHS and TIM come from TIMING, those of ADMIT from ADMIT, those of LDG from
LEDGER, and every other one from STRUCT (log entry 34). -/
def sectionsSay (head : List Byte) (sec : Nat → Option (List Byte)) : Content :=
  let st : StructSection := ((sec 2).map Config.structSection).getD default
  let ld : LedgerSection := ((sec 4).map Config.ledgerSection).getD default
  let ldgReg := fun a => decide (0x100000 ≤ a ∧ a < 0x120000)
  let other := st.regs.filter (fun e => !timingReg e.1 && !admitReg e.1 && !ldgReg e.1)
  { regs := other ++ ld.regs.filter (fun e => ldgReg e.1)
      ++ ((sec 5).map Config.timingSection |>.getD []).filter (fun e => timingReg e.1)
      ++ ((sec 6).map Config.admitSection |>.getD []).filter (fun e => admitReg e.1)
    hearths := st.hearths, parts := st.parts, calendars := ((sec 3).map Config.calendarSection).getD []
    ledgers := ld.ledgers, gates := ld.gates, entries := ((sec 7).map Config.tablesSection).getD []
    rooms := st.rooms, queueMap := st.queueMap, hostQueues := st.hostQueues
    fixedPart := Config.fixedPart (head.take 128) ((sec 2).getD []), keys := none, keysOk := true }

/-- What the image says (R69). -/
def imageContent (s : State) (b : List Byte) (secs : List (Nat × List Byte)) : Content :=
  let (k, ok) := fabricKeys s secs
  { sectionsSay b (fun t => (secs.find? (fun e => e.1 == t)).map Prod.snd) with keys := k, keysOk := ok }

/-- The plaintext of section `t` as far as the first bytes `b` of an image hold it (R77): an encrypted one is decrypted as it
arrives, before its tag can be checked. -/
def arrivedSection (s : State) (b : List Byte) (t : Nat) : Option (List Byte) :=
  match (directory b).find? (fun e => secType e == t) with
  | none => none
  | some e =>
    if secEnc e then s.hif.imageKey.map (fun k => gcmStream k ((e.drop 16).take 12) (sectionBytes b e))
    else some (sectionBytes b e)

/-- The Forging an image holds. -/
def imageForging (slot : Option Nat) (b : List Byte) (c : Content) : Forging :=
  { role := hdRole b, deviceId := hdDeviceId b, fabricId := hdFabricId b, secVersion := hdSecver b, seq := hdSeq b
    slot := slot, content := c }

/-- Steps 6 to 9: key, revocation, signature, security version. -/
def signatureSteps (s : State) (b : List Byte) : Option Nat :=
  let sig := (b.drop (sigOffset b)).take 256
  let pub := sig.take 97
  let hash := if hdKeySlot b = 0 then s.hif.keyHash0 else s.hif.keyHash1
  let revoked := if hdKeySlot b = 0 then s.hif.revoked0 else s.hif.revoked1
  if hash ≠ some (sha384 pub) then some frgKeyUnknown
  else if revoked then some frgKeyRevoked
  else if pub.head? ≠ some 4 ∨ ¬ ecdsaVerify (pub.drop 1) ((sig.drop 100).take 96) (sha384 (b.take (sigOffset b))) then
    some frgBadSignature
  else if hdSecver b < s.hif.secver then some frgOldSecver
  else none

/-! ### The consistency check (R82) -/

/-- A state record is one the parser may walk (R250, R255, R256). `n` is the number of states. LEN_MODE 3, which R250 only calls
reserved, fails the check (DESIGN CHOICE, log entry 71). -/
def stateRecordOk (n r : Nat) : Bool :=
  let next := fun x => decide (x < n) || x == 0x80
  (List.range 4).all (fun i => let x := srTrans r i % 256; next x || x == 0xFF) && next (srDefault r)
    && decide (srLenMode r ≠ 3) && decide (srClass r ≤ 18) && (srLenMode r != 2 || decide (1 ≤ srClass r ∧ srClass r ≤ 17))
    && (List.range 2).all (fun i => let e := srExt r i; decide (bits e 6 6 = 0 ∨ 4 * bits e 0 6 + bits e 6 6 ≤ 256))

/-- Selectors of a key layout (R275). -/
def selectorOk (x : Nat) : Bool := decide (x < 0x110) || x == 0x1FF

/-- A hearth's structure. -/
def hearthStructOk (h : HearthStruct) : Bool :=
  decide (h.graph.length ≤ 128) && h.graph.all (stateRecordOk h.graph.length)
    && (h.layouts ++ h.emLayouts).all (fun l => l.all selectorOk)

/-- Exact-match partitions of one hearth (R82, R341): at most 8 tables in at most 4 MiB. -/
def entryBytes (p : EmPartition) : Nat := ceilDiv (4 + p.keyBytes + (if p.kind = 0 then 32 else 16)) 16 * 16
def partsOk (l : List EmPartition) : Bool :=
  decide (l.length ≤ 8) && decide ((l.map (fun p => 4 * p.buckets * entryBytes p)).foldl (· + ·) 0 ≤ 2 ^ 22)

/-- A ledger bank. -/
def ledgerBankOk (b : LedgerBank) : Bool :=
  decide (b.lines.length ≤ 1024) && b.lines.all (fun l => decide (1 ≤ l.dur ∧ l.dur ≤ 2 ^ 24)) && decide (b.mode ≤ 2)
    && (b.mode != 1 || decide (1 ≤ b.cycle ∧ b.cycle ≤ 64))
    && (b.mode != 2 || decide (1000 ≤ b.cycle ∧ b.cycle ≤ 1000000000))

/-- The size of a table under a Forging's partitions. -/
def sizeUnder (c : Content) (t h : Nat) : Nat :=
  if 1 ≤ t ∧ t ≤ 8 then 4 * (((c.parts.getD h [])[t - 1]?).map EmPartition.buckets).getD 0
  else if t = tFdb then 262144 else if t = tTcam then 16384 else if t = tMeter then 32768 else if t = tTunnel then 1048576
  else if t = tStream ∨ t = tGroup then 65536 else if t = tLag then 64
  else if t = tBd ∨ t = tFlood ∨ t = tGate then 4096 else 0

/-- An initial entry lies within its table; a wide TCAM entry is even and has the odd entry above it to itself, a flood list holds at most 64 tunnels, a tunnel
meets the conditions of R367 that involve no template (R82, R766). -/
def initEntryOk (c : Content) (e : InitEntry) : Bool :=
  decide (e.hearth < 4 ∧ e.index < sizeUnder c e.table e.hearth)
    && (e.table != tTcam || !bitAt (ew e.words 48) 1 ||
        (e.index % 2 == 0 && !c.entries.any (fun x => x.table == tTcam && x.hearth == e.hearth && x.index == e.index + 1)))
    && (e.table != tFlood || decide (e.index ≠ 0 ∧ bits (ew e.words 0) 0 7 ≤ 64))
    && (e.table != tTunnel || tunnelFieldsOk e.words)

/-- The consistency check. -/
def consistent (b : List Byte) (c : Content) : Bool :=
  c.hearths.all hearthStructOk && c.parts.all partsOk
    && decide (c.queueMap.length = 76) && c.queueMap.all (· == 16) && c.hostQueues == 64
    && c.calendars.all (fun l => decide (l.length ≤ 4096) && l.all (fun q => decide (q ≤ 16)))
    && c.ledgers.all (fun e => decide (e.1 < 72) && ledgerBankOk e.2)
    && c.gates.all (fun e => decide (e.1 < 4096) && decide (gateLines e.2 ≤ 32))
    && decide (c.rooms.length ≤ 8) && c.rooms.all (fun n => decide (128 ≤ n ∧ n ≤ 16384 ∧ n % 128 = 0))
    && c.entries.all (initEntryOk c) && ((sha384 c.fixedPart).take 32 == hdDigest b) && c.keysOk

/-! ### Compatibility (R94, R95, R97) -/

/-- The registers of the queue map (TM_QMAP_0 and TM_QMAP_1 of each port) that a Forging gives. -/
def queueMapRegs (c : Content) : List (Nat × Nat) :=
  c.regs.filter (fun e => (List.range 76).any (fun p => e.1 == A.TM_QMAP_0 p || e.1 == A.TM_QMAP_1 p))

/-- Two Forgings have the same fixed part (R94, R95). -/
def samePart (f g : Forging) : Bool :=
  f.content.fixedPart == g.content.fixedPart && queueMapRegs f.content == queueMapRegs g.content &&
  f.role == g.role && f.deviceId == g.deviceId && f.fabricId == g.fabricId && f.content.parts == g.content.parts
    && f.content.queueMap == g.content.queueMap && f.content.hostQueues == g.content.hostQueues
    && f.content.rooms == g.content.rooms

/-- The initial contents hold a table that is not banked (R97). -/
def notBanked (c : Content) : Bool :=
  c.entries.any (fun e => decide (e.table ≤ 8) || e.table == tMeter || e.table == tTunnel)

/-- Step 12 of R79. -/
def shadowStep (s : State) (f : Forging) : Option Nat :=
  match s.frg.active with
  | none => some frgIncompatible
  | some g => if ¬ samePart f g then some frgIncompatible else if notBanked f.content then some frgTablesNotBanked else none

/-- Steps 6 to 12: the result of the first that fails, or the Forging. -/
def verifyImage (s : State) (shadow : Bool) (slot : Option Nat) (b : List Byte) : Nat ⊕ Forging :=
  match signatureSteps s b with
  | some r => .inl r
  | none =>
    match plainSections s b (directory b) with
    | none => .inl frgDecryptFail
    | some secs =>
      let c := imageContent s b secs
      let f := imageForging slot b c
      if ¬ consistent b c then .inl frgLimitExceeded
      else
        match (if shadow then shadowStep s f else none) with
        | some r => .inl r
        | none => .inr f

/-! ### Placing a Forging (R77, R86) -/

/-- Nothing stands in bank `b` of any banked table. -/
def clearBank (b : Nat) (s : State) : State :=
  { s with
    tab := { s.tab with mem := s.tab.mem.filter (fun e =>
      !decide (entryKey tTcam 0 0 0 ≤ e.1 ∧ e.1 < entryKey (tTcam + 1) 0 0 0) || e.1 / 2 ^ 20 % 2 != b) }
    ldg := { s.ldg with ledgers := s.ldg.ledgers.filter (fun e => e.1 % 2 != b)
                        gates := s.ldg.gates.filter (fun e => e.1 % 2 != b) } }

/-- The TCAM entries, ledgers and stream gates of bank `b` are filled, none of the ledgers and gates started yet. -/
def fillTables (b : Nat) (c : Content) (s : State) : State :=
  let s := (c.entries.filter (fun e => e.table == tTcam)).foldl (fun s e =>
    placeEntry tTcam e.hearth b e.index e.words s) s
  let s := c.ledgers.foldl (fun s e => putLedger e.1 b { ledgerDefault 0 with bank := e.2 } s) s
  c.gates.foldl (fun s e =>
    putGate e.1 b (newGate (ewSet 7 0 (ewSet 6 0 (ewSet 5 0 e.2)))) s) s

/-- A bank is filled. -/
def fillBank (b : Nat) (f : Forging) (s : State) : State := fillTables b f.content (clearBank b (putBank b (some f) s))

/-- The banked content that the bytes `b` of an image place as they arrive, once its directory is known (R77, R86): the TCAM
entries, ledgers and stream gates, in bank `k`. What has been placed takes no part in forwarding (R78); STRUCT and CALENDAR,
which nothing shows before verification ends, follow with the Forging. -/
def placeArrived (k : Nat) (b : List Byte) (s : State) : State :=
  if b.length < max 128 (dirEnd b) then s
  else
    let c := sectionsSay b (fun t => if t = 4 ∨ t = 7 then arrivedSection s b t else none)
    fillTables k c (clearBank k s)

/-- The register values of a Forging, those that its HEADER and its Porter pools give included (R547, R548, R590). -/
def forgingRegs (f : Forging) : List (Nat × Nat) :=
  f.content.regs ++ [(A.FAB_FABRIC_ID, f.fabricId), (A.FAB_SELF, f.deviceId)]
    ++ f.content.rooms.zipIdx.map (fun e => (A.POR_POOL_SIZE e.2, e.1))

/-! ### A full load passes (R83, R146, R147, R414, R465, R584, R663) -/

/-- Quadrant `q` of the front ports begins training (R147). -/
def startQuadrant (q : Nat) (s : State) : State :=
  let s := { s with glb := { s.glb with quadrants := q + 1, quadClk := s.clk } }
  (List.range 16).foldl (fun s i => if portHeld s (16 * q + i) then s else beginPort (16 * q + i) s) s

/-- A Forging is active by a full load: the mode of every port out of reset is taken and checked (R205), the porches begin at once
and the front ports by quadrants (R147). -/
def startPorts (s : State) : State :=
  let s := { s with glb := { s.glb with quadrants := 0 } }
  let s := (List.range 72).foldl (fun s p => putPort p { portSt s p with mode := 0, trained := false } s) s
  let s := absorb ((List.range 72).foldl (fun s p => if portHeld s p then s else takeMode p s) s)
  let s := (List.range 8).foldl (fun s i => if portHeld s (64 + i) then s else beginPort (64 + i) s) s
  startQuadrant 0 s

/-- The Forging of a full load becomes active. -/
def activate (f : Forging) (s : State) : State :=
  let was := (sharedSize s).2
  let s := loadRegs (fun _ => true) (forgingRegs f) s
  let s := { s with
    phs := { s.phs with limitsSet := true }
    tmg := { s.tmg with mirrorSeen := [] }
    frg := { s.frg with active := some f, bank1 := none, onBank1 := [], oldBank := 0, tempering := false
                        armed := none, timingNew := false, admitFrom := some f }
    fab := { s.fab with keyActive := f.content.keys, keyStandby := none, selfSet := false } }
  let s := fillBank 0 f (clearBank 1 s)
  let s := (f.content.entries.filter (fun e => e.table != tTcam)).foldl (fun s e =>
    placeEntry e.table e.hearth 0 e.index e.words s) s
  let s := (List.range 1357).foldl (fun s i => shaperReset i s) (clearForLoad s)
  let s := if (sharedSize s).2 ∧ ¬ was then raise 0x0702 noUnit 0 0 (setInt A.TM_INT_STAT 1 s) else s
  let s := verifyAll s
  let s := timCtlChanged (rget s A.TIM_CTL) s
  let s := chooseSource (if s.phs.running then setRate s.phs.rate s else startPhase s)
  let s := showBases (resolveBank [0, 1, 2, 3] 0 s)
  let s := raise 0x0101 noUnit (f.seq % 2 ^ 32) (f.seq / 2 ^ 32) s
  enterWaking (startPorts (setBase bWaking s))

/-- A shadow load passes verification: the shadow bank is filled (R86, R98). -/
def shadowReady (f : Forging) (s : State) : State :=
  let s := showBases (fillBank (shadowBank s) f s)
  let s := rput64 A.FRG_SHD_ID_HI A.FRG_SHD_ID_LO f.seq (setFrgState frgShadowReady s)
  match f.content.keys with
  | some k =>
    if (s.fab.keyActive.map KeySet.id) = some k.id then s else { s with fab := { s.fab with keyStandby := some k } }
  | none => s

/-! ### Flash (R87 to R90) -/

/-- A byte of the flash that nothing has programmed reads 0xFF (log entry 4). -/
def flashDefault (_ : Nat) : Byte := 0xFF

/-- `n` bytes of the flash from offset `a`. -/
def flashRead (s : State) (a n : Nat) : List Byte := (List.range n).map (fun i => sget flashDefault s.frg.flash (a + i))

/-- Flash offset of slot A (0) or B (1). -/
def slotOffset (k : Nat) : Nat := 0x10000 + 0x400000 * k

/-- The HEADER of a slot. -/
def slotHeader (s : State) (k : Nat) : List Byte := flashRead s (slotOffset k) 128

/-- Steps 1 to 4 on a slot's HEADER, FRG_LOAD_LEN being its own TOTAL_LENGTH (R88); one of fewer than 128 bytes fails step 1
(R79). -/
def slotSteps (s : State) (k : Nat) : Option Nat :=
  if hdTotal (slotHeader s k) < 128 then some frgBadHeader else headerSteps (hdTotal (slotHeader s k)) (slotHeader s k)

/-- The result of a slot's last verification is shown. -/
def slotResult (k r : Nat) (s : State) : State :=
  fput (if k = 0 then F.FRG_BOOT_RESULT_A else F.FRG_BOOT_RESULT_B) r s

/-- A load is opened. -/
def openLoad (l : Load) (s : State) : State :=
  rput A.FRG_LOAD_COUNT 0 (setFrgState frgReceiving { s with frg := { s.frg with load := some l } })

/-- Tables and learned state leave the device, the insertions of the movers that learning asked for among it (R84). No template is
VALID either (R766). A poisoned word stays so until the host writes it (R709). -/
def dropTables (s : State) : State :=
  { s with
    tab := { s.tab with mem := [], mover := [], notes := [], moves := s.tab.moves.filter (fun e => e.2.learn.isNone) }
    fry := { s.fry with templates := [] } }

/-- The first byte of a full load is accepted (R83, R84). -/
def firstByte (s : State) : State := dropTables (discardForging bLoading s)

/-- The slots that a boot may load, in the order in which it tries them (R87). -/
def bootOrder (s : State) : List Nat :=
  let ok := fun k => (slotSteps s k).isNone && hdWake (slotHeader s k)
  if ok 0 ∧ ok 1 then (if hdSeq (slotHeader s 0) < hdSeq (slotHeader s 1) then [1, 0] else [0, 1])
  else if ok 0 then [0] else if ok 1 then [1] else []

/-- The loader begins to read a slot: its first bytes, with HEADER and directory, are accepted. -/
def startSlot (k : Nat) (other : Option Nat) (s : State) : State :=
  let n := hdTotal (slotHeader s k)
  let s := openLoad { shadow := false, slot := some k, other := other, bytes := flashRead s (slotOffset k) n } s
  firstByte (rput A.FRG_LOAD_LEN n s)

/-- The directory of the slot being read is good (step 5). -/
def slotDirOk (s : State) : Bool :=
  match s.frg.load with
  | some l => decide (dirEnd l.bytes ≤ l.bytes.length) && directoryOk l.bytes
  | none => true

/-- Bytes accepted by the open load (R765); of a slot still being read, some number that is not stated, HEADER and directory at
least (log entry 35). -/
def loadCount (s : State) : Nat :=
  match s.frg.load with
  | some l =>
    if l.slot.isSome ∧ frgState s = frgReceiving then
      max (min (dirEnd l.bytes) l.bytes.length) (1 + (Config.slotRead s.clk).toNat % l.bytes.length)
    else rget s A.FRG_LOAD_COUNT
  | none => rget s A.FRG_LOAD_COUNT

/-- A load ends with a result, and what it has placed is erased (R80, R93). -/
def endLoad (r : Nat) (s : State) : State :=
  match s.frg.load with
  | none => s
  | some l =>
    let s := setFrgState frgIdle (frgResult r (rput A.FRG_LOAD_COUNT (loadCount s) { s with frg := { s.frg with load := none } }))
    if l.shadow then clearBank (shadowBank s) { s with frg := { s.frg with tempering := false } }
    else if s.glb.base = bLoading ∨ s.glb.base = bVerifying then setBase bDormant (clearBank 0 s)
    else s

/-- Verification fails (R80): the load ends, and the failure is recorded. -/
def failRecords (r : Nat) (s : State) : State := raise 0x0102 noUnit r 0 (setInt A.FRG_INT_STAT 2 s)

/-- A slot fails verification: the record, and the other slot where there is one (R89). -/
def slotFailed (l : Load) (r : Nat) (next : Nat → State → State) (s : State) : State :=
  match l.slot with
  | none => s
  | some k =>
    let s := raise 0x0108 k r 0 (slotResult k r s)
    match l.other with
    | some k' => next k' s
    | none => raise 0x0109 noUnit 0 0 s

/-- A load fails verification with result `r`; `next` begins the other slot. -/
def failWith (next : Nat → State → State) (r : Nat) (s : State) : State :=
  match s.frg.load with
  | none => s
  | some l => slotFailed l r next (failRecords r (endLoad r s))

/-- The last slot of a boot begins. -/
def startLast (k : Nat) (s : State) : State :=
  let s := startSlot k none s
  if slotDirOk s then s else failWith (fun _ s => s) frgBadDirectory s

/-- A load fails verification (R80, R89). -/
def failLoad (r : Nat) (s : State) : State := failWith startLast r s

/-- A slot begins, with the other one behind it. -/
def startBoot (k : Nat) (other : Option Nat) (s : State) : State :=
  let s := startSlot k other s
  if slotDirOk s then s else failLoad frgBadDirectory s

/-- The HEADERs of both slots are read and checked (R87, R88). -/
def readHeaders (s : State) : State :=
  (List.range 2).foldl (fun s k =>
    let s := rput A.FRG_LOAD_LEN (hdTotal (slotHeader s k)) s
    match slotSteps s k with
    | some r => slotResult k r s
    | none => s) s

/-- The boot from flash: the HEADERs are read, and the first slot begins, or there is none (R87, R89, R90). -/
def bootSelect (s : State) : State :=
  let s := readHeaders s
  match bootOrder s with
  | k :: rest => startBoot k rest.head? s
  | [] =>
    let s := frgResult ((slotSteps s 1).getD frgOk) s
    if s.glb.base = bQuiesced then s else raise 0x0109 noUnit 0 0 s

/-- The last byte of an image has arrived (R79, R83): LOAD_DONE, and VERIFYING is entered. A step that has failed, or whose
bytes have not come, ends verification there; else steps 6 to 12 begin. -/
def lastByte (failed : Option Nat) (s : State) : State :=
  match s.frg.load with
  | none => s
  | some l =>
    let s := setFrgState frgVerifying (setInt A.FRG_INT_STAT 0 s)
    let s := if l.shadow then s else setBase bVerifying s
    match failed with
    | some r => failLoad r s
    | none =>
      if l.bytes.length < 128 then failLoad frgBadHeader s
      else if l.bytes.length < dirEnd l.bytes then failLoad frgBadDirectory s
      else s

/-! ### Commands of FRG_CTL (R83 to R93, R765) -/

/-- FULL_LOAD. -/
def fullLoadOp (s : State) : State :=
  if frgState s = frgIdle ∧ (s.glb.base = bDormant ∨ s.glb.base = bQuiesced) then
    openLoad { shadow := false, slot := none, other := none, bytes := [] } (frgResult frgOk s)
  else frgResult frgWrongMode s

/-- FULL_LOAD (R83). -/
def execFullLoad (s : State) : Host.Outcome State Fault Refusal := hostCmd .fullLoad A.FRG_CTL s fullLoadOp

/-- SHADOW_LOAD. -/
def shadowLoadOp (s : State) : State :=
  if frgState s = frgIdle ∧ s.glb.base = bRun ∧ ¬ safeLatch s then
    let b := bankOf s 0
    let s := { s with frg := { s.frg with oldBank := b, tempering := true, timingNew := false } }
    openLoad { shadow := true, slot := none, other := none, bytes := [] } (clearBank (1 - b) (frgResult frgOk s))
  else frgResult frgWrongMode s

/-- SHADOW_LOAD (R85). -/
def execShadowLoad (s : State) : Host.Outcome State Fault Refusal := hostCmd .shadowLoad A.FRG_CTL s shadowLoadOp

/-- ABORT (R93, R116, R765). -/
def abortOp (s : State) : State :=
  if s.frg.load.isSome then endLoad frgAborted s
  else if frgState s = frgShadowReady ∨ (frgState s = frgArmed ∧ s.frg.armed.map Armed.fromState = some frgShadowReady) then
    frgResult frgAborted (discardShadow s)
  else frgResult frgWrongMode s

/-- ABORT (R93, R116). -/
def execFrgAbort (s : State) : Host.Outcome State Fault Refusal := hostCmd .frgAbort A.FRG_CTL s (fun s => freeCells (abortOp s))

/-- BOOT_FLASH. -/
def bootFlashOp (s : State) : State :=
  if frgState s = frgIdle ∧ (s.glb.base = bDormant ∨ s.glb.base = bQuiesced) then
    freeCells (bootSelect (frgResult frgOk { s with glb := { s.glb with bootDue := false } }))
  else frgResult frgWrongMode s

/-- BOOT_FLASH (R90, R765). -/
def execBootFlash (s : State) : Host.Outcome State Fault Refusal := hostCmd .bootFlash A.FRG_CTL s bootFlashOp

/-- BOOT_FLASH_SELECT (R87): the boot that a cold reset leads to. A load that the host has opened keeps the loader. -/
def execBootFlashSelect (dt : Nat) (s : State) : Host.Outcome State Fault Refusal :=
  timed (.bootFlashSelect dt) dt s (fun s =>
    if ¬ s.glb.bootDue then s
    else
      let s := { s with glb := { s.glb with bootDue := false } }
      if frgState s = frgIdle ∧ s.glb.base = bDormant then freeCells (bootSelect s) else s)

/-! ### The byte stream (R77, R79, R91, R92) -/

/-- The checks that newly arrived bytes make possible: steps 1 to 4 at byte 128, step 5 at the directory's end. -/
def earlySteps (len old : Nat) (b : List Byte) : Option Nat :=
  let n := b.length
  if n < 128 then none
  else
    match (if old < 128 then headerSteps len b else none) with
    | some r => some r
    | none => if old < max 128 (dirEnd b) ∧ dirEnd b ≤ n ∧ ¬ directoryOk b then some frgBadDirectory else none

/-- Bytes are accepted by an open load from the host. The length is that of FRG_LOAD_LEN at each write, so that a host write
to it while the load is open changes the load's length (DESIGN CHOICE, log entry 73: R173 does not lock it). -/
def acceptBytes (l : Load) (new : List Byte) (s : State) : State :=
  let len := rget s A.FRG_LOAD_LEN
  let b := l.bytes ++ new
  let s := if l.bytes = [] ∧ ¬ l.shadow then firstByte s else s
  let s := rput A.FRG_LOAD_COUNT b.length { s with frg := { s.frg with load := some { l with bytes := b } } }
  let failed := earlySteps len l.bytes.length b
  let s := if failed.isNone then placeArrived (if l.shadow then shadowBank s else 0) b s else s
  if len ≤ b.length then lastByte failed s
  else match failed with | some r => failLoad r s | none => s

/-- A full load whose first byte has not come takes no byte any more once the base state has left DORMANT and QUIESCED, by a
RESUME or an ENTER_DIAG: R126 has no way from there to LOADING (DESIGN CHOICE, log entry 74). -/
def loadShut (s : State) (l : Load) : Bool :=
  !l.shadow && l.bytes.isEmpty && s.glb.base != bDormant && s.glb.base != bQuiesced

/-- A write of 32 bits arrives at FRG_LOAD_PORT, at offset `a` of BAR0. One past the end fails the load as a verification that
fails does, with its record and its status bit (DESIGN CHOICE, log entry 75: R92 names the result only). -/
def loadPortOp (a v : Nat) (s : State) : State :=
  let drop := accErr false errLoadPortDrop a
  match s.frg.load with
  | some l =>
    if frgState s ≠ frgReceiving ∨ l.slot.isSome ∨ loadShut s l then drop s
    else
      let room := rget s A.FRG_LOAD_LEN - l.bytes.length
      if room = 0 then failLoad frgBadLength (drop s)
      else acceptBytes l ((leBytes 4 v).take room) s
  | none => drop s

/-- FRG_LOAD_PORT_WRITE (R91, R92). -/
def execFrgLoadPortWrite (value : Word) (s : State) : Host.Outcome State Fault Refusal :=
  hostCmd (.frgLoadPortWrite value) (A.FRG_LOAD_PORT 0) s (fun s => freeCells (loadPortOp (A.FRG_LOAD_PORT 0) value.toNat s))

/-- SLOT_LAST_BYTE_ARRIVED (R83, R88): the slot has been read to its end. -/
def execSlotLastByteArrived (dt : Nat) (s : State) : Host.Outcome State Fault Refusal :=
  timed (.slotLastByteArrived dt) dt s (fun s =>
    match s.frg.load with
    | some l =>
      if frgState s = frgReceiving ∧ l.slot.isSome then
        freeCells (lastByte none (placeArrived 0 l.bytes (rput A.FRG_LOAD_COUNT l.bytes.length s)))
      else s
    | none => s)

/-! ### The end of verification (R79 to R81) -/

/-- Verification passes. -/
def passLoad (l : Load) (f : Forging) (s : State) : State :=
  let s := setInt A.FRG_INT_STAT 1 (frgResult frgOk { s with frg := { s.frg with load := none } })
  if l.shadow then shadowReady f s
  else
    let s := setFrgState frgIdle s
    activate f (match l.slot with | some k => fput F.FRG_BOOT_SLOT_USED k (slotResult k frgOk s) | none => s)

/-- The Ostler ends verification; one that does not answer verifies nothing (R60). -/
def verifyEnd (s : State) : State :=
  match s.frg.load with
  | none => s
  | some l =>
    if frgState s ≠ frgVerifying then s
    else if ¬ ostlerUp s then failLoad frgOstlerTimeout s
    else
      match verifyImage s l.shadow l.slot l.bytes with
      | .inl r => failLoad r s
      | .inr f => passLoad l f s

/-- VERIFICATION_COMPLETE (R79 to R83). -/
def execVerificationComplete (dt : Nat) (s : State) : Host.Outcome State Fault Refusal :=
  timed (.verificationComplete dt) dt s (fun s => freeCells (verifyEnd s))

/-- QUADRANT_TRAINING_START (R147): quadrant `q` begins, 50 ms or more after the quadrant before it. -/
def execQuadrantTrainingStart (dt : Nat) (q : Nat) (s : State) : Host.Outcome State Fault Refusal :=
  timed (.quadrantTrainingStart dt q) dt s (fun s =>
    if 0 < q ∧ q = s.glb.quadrants ∧ s.glb.quadClk + 50 * clocksPerMs ≤ s.clk ∧ powered s then freeCells (startQuadrant q s)
    else s)

end Machine
end Sys2Proof
end

