-- ==== Sys2Proof/Machine/Resets.lean ====
section
/-! DEFINITION. Machine/Resets.lean: cold, warm and function-level reset, the start of the first-second sequence, the
supplies and CLK_REF (chapter 03, R140 to R147; R742, R747). -/
namespace Sys2Proof
namespace Machine

/-! ### Cold reset (R140, R146) -/

/-- Everything is as after power-on but OTP, and what is no part of the device or not reset by it: flash, host memory, the
JTAG port, what holds the device in reset. -/
def coldReset (s : State) : State :=
  { State.reset with
    regs := []
    mem := s.mem
    pending := s.pending
    free := s.free
    glb := { Glb.cold with heldPin := s.glb.heldPin, heldSupply := s.glb.heldSupply
                           heldClock := s.glb.heldClock || s.glb.coreLost.isSome }
    frg := { Frg.cold with flash := s.frg.flash }
    hif := { Hif.cold with keyHash0 := s.hif.keyHash0, keyHash1 := s.hif.keyHash1, revoked0 := s.hif.revoked0
                           revoked1 := s.hif.revoked1, secver := s.hif.secver, imageKey := s.hif.imageKey
                           grade := s.hif.grade }
    pin := { Pin.cold with jtag := s.pin.jtag, jtagData := s.pin.jtagData, preload := s.pin.preload
                           pinsTaken := s.pin.pinsTaken } }

/-- COLD_RESET (R140): power-on, or RESET_N driven low. -/
def execColdReset (byPin : Bool) (s : State) : Host.Outcome State Fault Refusal :=
  pinCommand (.coldReset byPin) s (fun s =>
    let s := coldReset s
    let s := { s with glb := { s.glb with heldPin := true } }
    forBits A.GLB_RST_CAUSE (if byPin then 2 else 1) s)

/-- The first-second sequence begins (R146): the PLLs lock, OTP is read, the Ostler starts. -/
def startUp (s : State) : State :=
  if held s ∨ s.glb.started then s
  else
    let s := { s with
      glb := { s.glb with started := true, bootDue := true }
      tim := { s.tim with running := true }
      hif := { s.hif with beatClk := s.clk } }
    let s := fput F.PIN_CLK_STATUS_PORCH_OK 1 (fput F.PIN_CLK_STATUS_SD_OK 0xF (gradeThresholds s))
    raise 0x0002 noUnit (rget s A.GLB_RST_CAUSE) 0 s

/-- Time passes where the device is not held. -/
def passFree (dt : Nat) (s : State) : State := if held s then s else passTime dt s

/-- RESET_N_RISE (R146). -/
def execResetNRise (dt : Nat) (s : State) : Host.Outcome State Fault Refusal :=
  pinCommand (.resetNRise dt) s (fun s =>
    let s := passFree dt s
    startUp { s with glb := { s.glb with heldPin := false } })

/-- SUPPLY_BROWNOUT (R742). -/
def execSupplyBrownout (dt : Nat) (s : State) : Host.Outcome State Fault Refusal :=
  pinCommand (.supplyBrownout dt) s (fun s =>
    let s := coldReset (passFree dt s)
    { s with glb := { s.glb with heldSupply := true } })

/-- SUPPLY_RECOVERED (R742): the device leaves reset where RESET_N is high. -/
def execSupplyRecovered (dt : Nat) (resetNHigh : Bool) (s : State) : Host.Outcome State Fault Refusal :=
  pinCommand (.supplyRecovered dt resetNHigh) s (fun s =>
    let s := passFree dt s
    if s.glb.heldSupply then
      startUp (forBits A.GLB_RST_CAUSE 1 { s with glb := { s.glb with heldSupply := false, heldPin := !resetNHigh } })
    else s)

/-! ### CLK_REF (R747) -/

/-- CORE_REFCLK_LOST (R747). -/
def execCoreRefclkLost (dt : Nat) (s : State) : Host.Outcome State Fault Refusal :=
  timed (.coreRefclkLost dt) dt s (fun s =>
    if s.glb.coreLost.isSome then s
    else raise 0x0FC2 noUnit 0 0 { s with glb := { s.glb with coreLost := some s.clk } })

/-- 100 µs in core clocks: how long the core PLL runs on. -/
def pllHoldover : Nat := 140000

/-- CLK_REF has been away for longer than the core PLL runs on. -/
def pllOver (s : State) : Bool :=
  match s.glb.coreLost with
  | some c => decide (c + pllHoldover ≤ s.clk)
  | none => false

/-- CORE_PLL_HOLDOVER_EXPIRY (R747). -/
def execCorePllHoldoverExpiry (dt : Nat) (s : State) : Host.Outcome State Fault Refusal :=
  timed (.corePllHoldoverExpiry dt) dt s (fun s => if pllOver s then coldReset s else s)

/-- CORE_REFCLK_RESTORED (R747): in time the device goes on; else it boots as from power-on. -/
def execCoreRefclkRestored (dt : Nat) (s : State) : Host.Outcome State Fault Refusal :=
  pinCommand (.coreRefclkRestored dt) s (fun s =>
    let s := passFree dt s
    let s := if pllOver s then coldReset s else s
    if s.glb.heldClock then startUp (forBits A.GLB_RST_CAUSE 1 { s with glb := { s.glb with heldClock := false } })
    else if s.glb.coreLost.isSome then
      forBits A.PIN_CLK_STATUS 128 { s with glb := { s.glb with coreLost := none } }
    else s)

/-! ### Registers at a warm or function-level reset (R25, R161) -/

/-- Registers that show what a warm reset keeps: they are not reset (log entry 40). -/
def keepsWhole (a : Nat) : Bool :=
  [A.GLB_RST_CAUSE, A.HIF_LINK, A.PHS_STATUS, A.PHS_FREQ_EST, A.PHS_PERIOD_NS, A.TIM_STATUS, A.PIN_CLK_STATUS,
   A.PIN_GPIO_IN].contains a
    || (decide (A.PRT_STATUS 0 ≤ a ∧ a < A.PRT_STATUS 0 + 0x400 * 72) &&
        ((a - A.PRT_STATUS 0) % 0x400 == 0 || (a - A.PRT_PREEMPT_STATUS 0) % 0x400 == 0))

/-- The value of the register at `a` after a reset that keeps RWK fields and the fields a Forging gives (R25). -/
def keptValue (a v : Nat) : Nat :=
  if keepsWhole a then v
  else
    match regAt a with
    | some d => let m := d.kept ||| d.forging; (v &&& m) ||| (d.reset &&& (full ^^^ m))
    | none => v

/-- The registers at addresses that `p` holds of are reset. -/
def resetRegs (p : Nat → Bool) (s : State) : State :=
  { s with regs := smap regReset (fun a v => if p a then BitVec.ofNat 32 (keptValue a v.toNat) else v) s.regs }

/-- The mailbox forgets its command; what the Ostler has taken it still finishes (R186). -/
def clearMailbox (s : State) : State :=
  { s with hif := { s.hif with mbxCmd := none, mbxOld := s.hif.mbxOld ++ s.hif.mbxCmd.toList } }

/-! ### Warm reset (R117, R119, R140, R141, R170) -/

/-- Table and template commands in progress are completed (R358); of a chain for a learned key, the move in progress is (R329). -/
def finishTables (s : State) : State :=
  let s := tableWrites s
  let s := s.tab.moves.foldl (fun s e => moveToEnd (e.1 / 16) (e.1 % 16) e.2.ctx.isSome 100 s) s
  let s := { s with tab := { s.tab with moves := [] } }
  let s := (List.range 4).foldl (fun s _ =>
    match s.tab.turn with
    | some c =>
      let s := tblComplete c s
      s.tab.moves.foldl (fun s e => moveToEnd (e.1 / 16) (e.1 % 16) true 100 s) s
    | none => s) s
  tmplComplete s

/-- Word 3 of every stream is cleared: elimination history; GEN_SEQ stays (R140). -/
def clearElimination (s : State) : State :=
  let lo := entryKey tStream 0 0 0
  let hits := (s.tab.mem.map Prod.fst).filter (fun k => decide (lo ≤ k ∧ k < lo + 65536))
  hits.foldl (fun s k => putEntry tStream 0 0 (k - lo) (ewSet 3 0 (entryAt s tStream 0 0 (k - lo))) s) s

/-- What the data path, the ports and the blocks hold in passing is lost. -/
def purge (s : State) : State :=
  let s := emptyPath s
  let s := { s with
    dp := { s.dp with frags := [] }
    tab := { s.tab with mover := [], notes := [] }
    tim := { s.tim with txts := [] }
    phs := { s.phs with taNow := [], setPending := false, realignPending := false }
    prt := smap portDefault (fun _ x => { x with quanta := 0, mpk := [] }) s.prt
    pin := { s.pin with i2c0 := Pin.cold.i2c0, i2c1 := Pin.cold.i2c1, mdio := none, qspi := none } }
  clearElimination s

/-- The load or the shadow that a warm reset finds is given up (R117, R119). -/
def warmLoader (s : State) : State :=
  let s := resetRollback s
  if s.frg.load.isSome then endLoad frgAborted s else s

/-- The registers of every block are reset, and what follows them follows. -/
def warmRegs (s : State) : State :=
  let old := rget s A.TIM_CTL
  let s := forBits A.GLB_RST_CAUSE 4 (resetRegs (fun _ => true) s)
  let s := chooseSource (setRate s.phs.rate (timCtlChanged old s))
  (List.range 72).foldl (fun s p => verifyUpdate p s) (gradeThresholds s)

/-- WARM_RESET. -/
def warmOp (s : State) : State :=
  if s.glb.warmBusy then s
  else
    let s := placeAll s.gbk.queue (finishTables (harvestReset s))
    let s := if s.glb.base = bDiagnostic then leaveDiag s else s
    let s := warmLoader s
    let on := s.glb.base != bDormant
    let s := porterReset (draymanReset (fabricReset (purge s)))
    let s := warmRegs (clearMailbox s)
    raise 0x0003 noUnit 0 0 { s with glb := { s.glb with warmBusy := true, warmToWaking := on, hearthRst := [] } }

/-- WARM_RESET (R140). -/
def execWarmReset (s : State) : Host.Outcome State Fault Refusal := hostCmd .warmReset A.GLB_RESET s warmOp

/-- The warm reset completes: WAKING is entered, or DORMANT stays; fabric ports whose links are up start again. -/
def warmDone (s : State) : State :=
  if ¬ s.glb.warmBusy then s
  else
    let s := judgeMonitors (purge s)
    let s := { s with glb := { s.glb with warmBusy := false } }
    let s := if s.glb.warmToWaking then
        (List.range 72).foldl (fun s p => if linkUp s p then fabLinkUp p s else s) (enterWaking s)
      else s
    setInt A.GLB_INT_STAT 2 s

/-- WARM_RESET_COMPLETE (R140). -/
def execWarmResetComplete (dt : Nat) (s : State) : Host.Outcome State Fault Refusal :=
  timed (.warmResetComplete dt) dt s (fun s => freeCells (warmDone s))

/-! ### Function-level reset (R140, R144, R159 to R161) -/

/-- The registers of HIF. -/
def hifReg (a : Nat) : Bool := decide (0x20000 ≤ a ∧ a < 0x30000)

/-- The function is reset: HIF, MSI-X, mailbox, Drayman, Porter host state; spills and harvests stop. -/
def functionReset (s : State) : State :=
  let s := clearMailbox (harvestReset s)
  let s := porterReset (draymanReset s)
  let s := fput F.GBK_SPILL_CTL_EN 0 { s with tim := { s.tim with txts := [] } }
  let s := if frgState s = frgReceiving ∧ s.frg.load.isSome then abortOp s else s
  let s := (List.range 4).foldl (fun s k => rput (A.GLB_VEC_ACTIVE k) 0 s) s
  let s := rput A.HIF_LINK 0 (resetRegs hifReg s)
  let s := { s with hif := { s.hif with unmasked := [], pba := [], msix := [], busMaster := false, d3hot := false, mps := 128
                                        mrrs := 512, bars := [], cmdBits := 0, devBits := 0, dev2Bits := 0, devError := false } }
  freeCells (raise 0x0006 noUnit 0 0 (forBits A.GLB_RST_CAUSE 8 s))

/-- FUNCTION_LEVEL_RESET (R140). -/
def execFunctionLevelReset (s : State) : Host.Outcome State Fault Refusal := command .functionLevelReset s functionReset

/-- The host side is lost (R159): what it does is a function-level reset; unless the function only comes out of D3hot, the
link is down. -/
def hostLoss (cause : HostLoss) (s : State) : State :=
  if cause = .d3hotToD0 ∧ ¬ s.hif.d3hot then s
  else
    let s := functionReset (raise 0x0207 noUnit
      (match cause with | .perst => 0 | .hotReset => 1 | .linkDown => 2 | .d3hotToD0 => 3) 0 s)
    if cause = .d3hotToD0 then s
    else
      let s := { s with hif := { s.hif with dlActive := false } }
      if cause = .perst then
        { s with hif := { s.hif with linkBits := 0, aerStatus := 0, aerMask := 0, aerSeverity := aerSeverityReset } }
      else s

/-- HOST_LINK_LOSS (R159). -/
def execHostLinkLoss (cause : HostLoss) (s : State) : Host.Outcome State Fault Refusal :=
  command (.hostLinkLoss cause) s (hostLoss cause)

/-- D3HOT_ENTRY (R160). -/
def execD3hotEntry (s : State) : Host.Outcome State Fault Refusal :=
  command .d3hotEntry s (fun s => { s with hif := { s.hif with d3hot := true } })

end Machine
end Sys2Proof
end

