-- ==== Sys2Proof/Machine/Pins.lean ====
section
/-! DEFINITION. Machine/Pins.lean: reference clocks, flash commands, I²C, MDIO, GPIO, the LED stream and JTAG (chapter 19,
R746, R755 to R762). -/
namespace Sys2Proof
namespace Machine

/-! ### Reference clocks (R746) -/

/-- The ports whose lanes reference clock `k` feeds: a quadrant's, or the porch ports for 4. -/
def fedPorts (k : Nat) : List Nat := if k < 4 then (List.range 16).map (16 * k + ·) else (List.range 8).map (64 + ·)

/-- The bit of PIN_CLK_STATUS of a reference clock. -/
def clkOk (s : State) (k : Nat) : Bool := bitAt (rget s A.PIN_CLK_STATUS) k
def setClkOk (k : Nat) (b : Bool) (s : State) : State :=
  rput A.PIN_CLK_STATUS (setBits (rget s A.PIN_CLK_STATUS) k 1 (b2n b)) s

/-- A reference clock is lost: its lanes lose lock. PCIE_REFCLK, 5 here, takes the link out of DL_Active. -/
def refclkLost (k : Nat) (s : State) : State :=
  if ¬ clkOk s k then s
  else if k = 5 then
    let s := setClkOk k false s
    if s.hif.dlActive then hostLoss .linkDown s else s
  else
    let s := raise 0x0FC0 k 0 0 (setInt A.PIN_INT_STAT 5 (setClkOk k false s))
    (fedPorts k).foldl (fun s p =>
      linkChange p { (portSt s p).cond with blockLock := false, alignLock := false, fecLock := false } s) s

/-- REFCLK_LOST (R746). -/
def execRefclkLost (dt : Nat) (clk : Nat) (s : State) : Host.Outcome State Fault Refusal :=
  timed (.refclkLost dt clk) dt s (fun s => freeCells (refclkLost clk s))

/-- A reference clock is back: its ports train again. -/
def refclkRestored (k : Nat) (s : State) : State :=
  if clkOk s k then s
  else if k = 5 then setClkOk k true s
  else (fedPorts k).foldl (fun s p => if linkUp s p then s else startTraining p s)
    (raise 0x0FC1 k 0 0 (setClkOk k true s))

/-- REFCLK_RESTORED (R746). -/
def execRefclkRestored (dt : Nat) (clk : Nat) (s : State) : Host.Outcome State Fault Refusal :=
  timed (.refclkRestored dt clk) dt s (refclkRestored clk)

/-! ### Flash commands (R755) -/

def qspiOk : Nat := 0
def qspiBootOwns : Nat := 1
def qspiBadLen : Nat := 2

/-- The loader is reading flash (R87, R90). -/
def loaderReads (s : State) : Bool :=
  match s.frg.load with
  | some l => l.slot.isSome && frgState s == frgReceiving
  | none => false

/-- A flash command ends. -/
def qspiEnd (r : Nat) (s : State) : State :=
  setInt A.PIN_INT_STAT 4 (fput F.PIN_QSPI_STATUS_BUSY 0 (fput F.PIN_QSPI_STATUS_RESULT r
    { s with pin := { s.pin with qspi := none } }))

/-- PIN_QSPI_CMD is written. -/
def qspiStart (v : Nat) (s : State) : State :=
  if fbit s F.PIN_QSPI_STATUS_BUSY then lockedWrite A.PIN_QSPI_CMD (fput F.PIN_QSPI_STATUS_OVERRUN 1 s)
  else
    let s := fput F.PIN_QSPI_STATUS_OVERRUN 0 s
    if loaderReads s then qspiEnd qspiBootOwns s
    else if 256 < bits v 15 9 then qspiEnd qspiBadLen s
    else fput F.PIN_QSPI_STATUS_BUSY 1 { s with pin := { s.pin with qspi := some v } }

/-- QSPI_COMMAND (R755). -/
def execQspiCommand (value : Word) (s : State) : Host.Outcome State Fault Refusal :=
  hostCmd (.qspiCommand value) A.PIN_QSPI_CMD s (qspiStart value.toNat)

/-- Byte `i` of PIN_QSPI_BUF. -/
def qspiByte (s : State) (i : Nat) : Byte := BitVec.ofNat 8 (bits (rget s (A.PIN_QSPI_BUF (i / 4))) (8 * (i % 4)) 8)
def putQspiByte (i : Nat) (b : Byte) (s : State) : State :=
  let a := A.PIN_QSPI_BUF (i / 4)
  rput a (setBits (rget s a) (8 * (i % 4)) 8 b.toNat) s

/-- Set one byte of the flash. -/
def putFlash (a : Nat) (b : Byte) (s : State) : State :=
  { s with frg := { s.frg with flash := sput flashDefault s.frg.flash a b } }

/-- Every byte of the flash from `a` on, `n` of them, is erased. -/
def eraseFlash (a n : Nat) (s : State) : State :=
  { s with frg := { s.frg with flash := skeep (fun k => decide (k < a) || decide (a + n ≤ k)) s.frg.flash } }

/-- What the flash does with a command (PRESUMED, the JEDEC instructions of such parts; log entry 38): 02h and 12h program
a page of 256 bytes, 20h and 21h erase 4 KiB, D8h and DCh 64 KiB, 60h and C7h all. -/
def flashActs (op addr n : Nat) (s : State) : State :=
  if op = 0x02 ∨ op = 0x12 then
    (List.range n).foldl (fun s i =>
      let a := addr / 256 * 256 + (addr + i) % 256
      putFlash a (sget flashDefault s.frg.flash a &&& qspiByte s i) s) s
  else if op = 0x20 ∨ op = 0x21 then eraseFlash (addr / 0x1000 * 0x1000) 0x1000 s
  else if op = 0xD8 ∨ op = 0xDC then eraseFlash (addr / 0x10000 * 0x10000) 0x10000 s
  else if op = 0x60 ∨ op = 0xC7 then eraseFlash 0 (2 ^ 32) s
  else s

/-- The command in progress completes; `data` is what the flash answers. Quad Output Fast Read, 6Ch, answers its contents
(R754). -/
def qspiDone (data : List Byte) (s : State) : State :=
  match s.pin.qspi with
  | none => s
  | some v =>
    let n := bits v 15 9
    let op := bits v 0 8
    let addr := if bitAt v 30 then (if bitAt v 29 then rget s A.PIN_QSPI_ADDR else rget s A.PIN_QSPI_ADDR % 2 ^ 24) else 0
    let got := if op = 0x6C then flashRead s addr n else data.take n
    let s := if bitAt v 28 ∨ n = 0 then flashActs op addr n s
      else got.zipIdx.foldl (fun s e => putQspiByte e.2 e.1 s) s
    qspiEnd qspiOk s

/-- QSPI_DONE (R755). -/
def execQspiDone (dt : Nat) (data : List Byte) (s : State) : Host.Outcome State Fault Refusal :=
  timed (.qspiDone dt data) dt s (qspiDone data)

/-! ### I²C (R756, R757) -/

def i2cOf (s : State) (i : Nat) : I2c := if i = 0 then s.pin.i2c0 else s.pin.i2c1
def setI2c (i : Nat) (x : I2c) (s : State) : State :=
  let s := if i = 0 then { s with pin := { s.pin with i2c0 := x } } else { s with pin := { s.pin with i2c1 := x } }
  fput (F.PIN_I2C_STATUS_TX_LEVEL i) x.tx.length (fput (F.PIN_I2C_STATUS_RX_LEVEL i) x.rx.length s)

def i2cBadLen : Nat := 6
def i2cStuck : Nat := 5

/-- A transaction ends. -/
def i2cEnd (i r : Nat) (s : State) : State :=
  setInt A.PIN_INT_STAT (1 + i) (fput (F.PIN_I2C_STATUS_BUSY i) 0 (fput (F.PIN_I2C_STATUS_RESULT i) r s))

/-- A write of controller `i` at `a` is dropped while it is BUSY. -/
def i2cBusyWrite (i a : Nat) (s : State) : State := lockedWrite a (fput (F.PIN_I2C_STATUS_OVERRUN i) 1 s)

/-- PIN_I2C_CMD_i is written; without START, or with the controller disabled, nothing begins. -/
def i2cStart (i v : Nat) (s : State) : State :=
  let x := i2cOf s i
  let w := bits v 16 6
  let r := bits v 8 6
  if fbit s (F.PIN_I2C_STATUS_BUSY i) then i2cBusyWrite i (A.PIN_I2C_CMD i) s
  else if ¬ bitAt v 0 ∨ ¬ fbit s (F.PIN_I2C_CFG_EN i) then s
  else
    let s := fput (F.PIN_I2C_STATUS_OVERRUN i) 0 s
    if 32 < w ∨ 32 < r ∨ x.tx.length < w then i2cEnd i i2cBadLen s
    else fput (F.PIN_I2C_STATUS_BUSY i) 1 (setI2c i { x with cmd := some (bits v 24 7, w, r) } s)

/-- I2C_START (R756). -/
def execI2cStart (i : Nat) (value : Word) (s : State) : Host.Outcome State Fault Refusal :=
  hostCmd (.i2cStart i value) (A.PIN_I2C_CMD i) s (i2cStart i value.toNat)

/-- The transaction of controller `i` completes with a result and the bytes read. -/
def i2cDone (i r : Nat) (data : List Byte) (s : State) : State :=
  let x := i2cOf s i
  match x.cmd with
  | none => s
  | some (_, w, n) =>
    let taken := if r = 0 then w else (Config.i2cTaken s.free).toNat % (w + 1)
    let s := if r = 0 then s else { s with free := s.free + 1 }
    let rx := if r = 0 then (x.rx ++ data.take n).take 32 else x.rx
    let s := setI2c i { tx := x.tx.drop taken, rx := rx, cmd := none } s
    i2cEnd i r (if r = i2cStuck then raise 0x0FC3 i 0 0 s else s)

/-- I2C_DONE (R756, R757). -/
def execI2cDone (dt : Nat) (i : Nat) (result : Nat) (data : List Byte) (s : State) : Host.Outcome State Fault Refusal :=
  timed (.i2cDone dt i result data) dt s (i2cDone i result data)

/-- A byte is pushed into the transmit FIFO; a full one takes none. -/
def i2cPush (i v : Nat) (s : State) : State :=
  let x := i2cOf s i
  if fbit s (F.PIN_I2C_STATUS_BUSY i) then i2cBusyWrite i (A.PIN_I2C_DATA i) s
  else if 32 ≤ x.tx.length then lockedWrite (A.PIN_I2C_DATA i) s
  else setI2c i { x with tx := x.tx ++ [BitVec.ofNat 8 v] } s

/-- I2C_DATA_WRITE (R756). -/
def execI2cDataWrite (i : Nat) (value : Word) (s : State) : Host.Outcome State Fault Refusal :=
  hostCmd (.i2cDataWrite i value) (A.PIN_I2C_DATA i) s (i2cPush i value.toNat)

/-- A read of PIN_I2C_DATA pops the receive FIFO; an empty one reads 0. -/
def i2cPop (i : Nat) (s : State) : Nat × State :=
  let x := i2cOf s i
  ((x.rx.headD 0).toNat, setI2c i { x with rx := x.rx.tail } s)

/-- I2C_DATA_READ (R756). -/
def execI2cDataRead (i : Nat) (s : State) : Host.Outcome State Fault Refusal :=
  hostRead (.i2cDataRead i) s (fun s =>
    let (v, s) := i2cPop i s
    { s with hif := { s.hif with readData := [v] } })

/-! ### MDIO (R758) -/

/-- PIN_MDIO_CMD is written: operation 0 C22 WRITE, 1 C22 READ, 2 C45 WRITE, 3 C45 READ. -/
def mdioStart (op phy reg c45 : Nat) (s : State) : State :=
  if fbit s F.PIN_MDIO_STATUS_BUSY then lockedWrite A.PIN_MDIO_CMD (fput F.PIN_MDIO_STATUS_OVERRUN 1 s)
  else fput F.PIN_MDIO_STATUS_OVERRUN 0 (fput F.PIN_MDIO_STATUS_BUSY 1
    { s with pin := { s.pin with mdio := some (op, phy, reg, c45) } })

/-- C22_WRITE (R758). -/
def execC22Write (phy reg : Nat) (s : State) : Host.Outcome State Fault Refusal :=
  hostCmd (.c22Write phy reg) A.PIN_MDIO_CMD s (mdioStart 0 phy reg 0)

/-- C22_READ (R758). -/
def execC22Read (phy reg : Nat) (s : State) : Host.Outcome State Fault Refusal :=
  hostCmd (.c22Read phy reg) A.PIN_MDIO_CMD s (mdioStart 1 phy reg 0)

/-- C45_WRITE (R758). -/
def execC45Write (phy dev reg : Nat) (s : State) : Host.Outcome State Fault Refusal :=
  hostCmd (.c45Write phy dev reg) A.PIN_MDIO_CMD s (mdioStart 2 phy dev reg)

/-- C45_READ (R758). -/
def execC45Read (phy dev reg : Nat) (s : State) : Host.Outcome State Fault Refusal :=
  hostCmd (.c45Read phy dev reg) A.PIN_MDIO_CMD s (mdioStart 3 phy dev reg)

/-- The MDIO command completes; `data` is what the PHY answers to a read. -/
def mdioDone (noAnswer : Bool) (data : Nat) (s : State) : State :=
  match s.pin.mdio with
  | none => s
  | some (op, _, _, _) =>
    let s := { s with pin := { s.pin with mdio := none } }
    let read := op % 2 == 1
    let s := if read then fput F.PIN_MDIO_DATA_DATA (if noAnswer then 0xFFFF else data) s else s
    setInt A.PIN_INT_STAT 3 (fput F.PIN_MDIO_STATUS_BUSY 0 (fput F.PIN_MDIO_STATUS_RESULT (b2n (read && noAnswer)) s))

/-- MDIO_DONE (R758). -/
def execMdioDone (dt : Nat) (noAnswer : Bool) (data : Nat) (s : State) : Host.Outcome State Fault Refusal :=
  timed (.mdioDone dt noAnswer data) dt s (mdioDone noAnswer data)

/-! ### GPIO and LEDs (R759 to R761) -/

/-- A rising edge at GPIO `n`. -/
def gpioEdge (n : Nat) (s : State) : State :=
  if bitAt (rget s A.PIN_GPIO_DIR) n ∨ ¬ bitAt (rget s A.PIN_GPIO_EDGE_EN) n then s
  else setInt A.PIN_INT_STAT 0 (forBits A.PIN_GPIO_EDGE (2 ^ n) s)

/-- GPIO_EDGE (R760). -/
def execGpioEdge (dt : Nat) (pin : Nat) (s : State) : Host.Outcome State Fault Refusal :=
  timed (.gpioEdge dt pin) dt s (gpioEdge pin)

/-- The level that GPIO `n` has at its ball. -/
def gpioPin (s : State) (n : Nat) : Bool :=
  if bitAt (rget s A.PIN_GPIO_DIR) n then
    match s.pin.pulses.find? (fun e => e.1 == n) with
    | some (_, x) => x.high
    | none => bitAt (rget s A.PIN_GPIO_OUT) n
  else Config.gpioLevel s.clk n

/-- The four bits of port `p` in the LED stream, most significant first. -/
def ledBits (s : State) (p : Nat) : List Bool :=
  let act := sget (fun _ => 0) s.pin.activity p
  let w := rget s (A.PIN_LED_HOST (p / 16))
  [linkUp s p, act != 0 && decide (s.clk < act + 50 * clocksPerMs), bitAt w (2 * (p % 16) + 1), bitAt w (2 * (p % 16))]

/-- Core clocks from the start of one stream to that of the next. -/
def ledPeriod (s : State) : Nat :=
  max (max 1 (fget s F.PIN_LED_CFG_PERIOD_MS) * clocksPerMs)
    (ceilDiv (289 * clocksPerMs) (clampN (fget s F.PIN_LED_CFG_CLK_KHZ) 100 10000))

/-- The LED stream is due. -/
def ledDue (s : State) : Bool :=
  fbit s F.PIN_LED_CFG_EN && (match s.pin.ledClk with | none => true | some c => decide (c + ledPeriod s ≤ s.clk))

/-- The LED stream sends 288 bits. -/
def ledStream (s : State) : State :=
  if ledDue s then
    let inv := fbit s F.PIN_LED_CFG_INVERT
    let l := ((List.range 72).reverse.flatMap (ledBits s)).map (fun b => b != inv)
    { s with pin := { s.pin with led := l, ledClk := some s.clk } }
  else s

/-- LED_STREAM (R761). -/
def execLedStream (dt : Nat) (s : State) : Host.Outcome State Fault Refusal := timed (.ledStream dt) dt s ledStream

/-! ### JTAG (R762) -/

/-- Every link and the PCIe link drop. -/
def dropLinks (s : State) : State :=
  if held s then s
  else
    let s := (List.range 72).foldl (fun s p => linkChange p PortSt.cold.cond s) s
    freeCells (if s.hif.dlActive then hostLoss .linkDown s else s)

/-- A JTAG instruction is in force: what BYPASS and IDCODE put into their data register, and whether the instruction takes
the pins from the device's logic. -/
def jtagOp (n : Nat) (data : Option Nat) (takes : Bool) (s : State) : State :=
  let was := s.pin.pinsTaken
  let s := { s with
    pin := { s.pin with jtag := n, jtagData := data.getD s.pin.jtagData, pinsTaken := takes }
    glb := { s.glb with driven := if s.glb.driven.contains .tdo then s.glb.driven else s.glb.driven ++ [.tdo] } }
  if takes ∧ ¬ was then dropLinks s else s

/-- BYPASS (R762). -/
def execJtagBypass (s : State) : Host.Outcome State Fault Refusal := pinCommand .jtagBypass s (jtagOp 0 (some 0) false)

/-- IDCODE (R762). -/
def execJtagIdcode (s : State) : Host.Outcome State Fault Refusal := pinCommand .jtagIdcode s (jtagOp 1 (some 0x19724A3B) false)

/-- SAMPLE/PRELOAD (R762): the levels for the pins are preloaded. -/
def execJtagSamplePreload (pins : List Bool) (s : State) : Host.Outcome State Fault Refusal :=
  pinCommand (.jtagSamplePreload pins) s (fun s =>
    let s := jtagOp 2 none false s
    { s with pin := { s.pin with preload := pins } })

/-- EXTEST (R762). -/
def execJtagExtest (s : State) : Host.Outcome State Fault Refusal := pinCommand .jtagExtest s (jtagOp 3 none true)

/-- EXTEST_PULSE (R762). -/
def execJtagExtestPulse (s : State) : Host.Outcome State Fault Refusal := pinCommand .jtagExtestPulse s (jtagOp 4 none true)

/-- EXTEST_TRAIN (R762). -/
def execJtagExtestTrain (s : State) : Host.Outcome State Fault Refusal := pinCommand .jtagExtestTrain s (jtagOp 5 none true)

/-- HIGHZ (R762). -/
def execJtagHighz (s : State) : Host.Outcome State Fault Refusal := pinCommand .jtagHighz s (jtagOp 6 none true)

/-- CLAMP (R762). -/
def execJtagClamp (s : State) : Host.Outcome State Fault Refusal := pinCommand .jtagClamp s (jtagOp 7 none true)

end Machine
end Sys2Proof
end

