-- ==== Sys2Proof/Machine/Mailbox.lean ====
section
/-! DEFINITION. Machine/Mailbox.lean: the Ostler's mailbox, its heartbeat and its restart (chapter 04, R182 to R191). -/
namespace Sys2Proof
namespace Machine

/-! ### Commands and results (R187, R188) -/

def opPing : Nat := 0x0001
def opGetVersion : Nat := 0x0002
def opAvsStatus : Nat := 0x0003
def opOtpKeyHash : Nat := 0x0010
def opOtpRevoke : Nat := 0x0011
def opOtpImageKey : Nat := 0x0012
def opOtpRaiseSecver : Nat := 0x0013

def mbxOk : Nat := 0
def mbxBadOpcode : Nat := 1
def mbxBadLength : Nat := 2
def mbxBadArg : Nat := 3
def mbxRefused : Nat := 4
def mbxAlreadySet : Nat := 5
def mbxOtpFail : Nat := 6
def mbxTimedOut : Nat := 7

/-- HIF_MBX_CMD is written: the doorbell. A write while BUSY is dropped (R183). -/
def mbxDoorbell (op tag len : Nat) (s : State) : State :=
  if fbit s F.HIF_MBX_STATUS_BUSY then accErr false errMbxBusy A.HIF_MBX_CMD (fput F.HIF_MBX_STATUS_OVERRUN 1 s)
  else
    let words := (List.range 16).map (fun k => rget s (A.HIF_MBX_REQ k))
    fput F.HIF_MBX_STATUS_OVERRUN 0 (fput F.HIF_MBX_STATUS_BUSY 1
      { s with hif := { s.hif with mbxCmd := some (op, tag, len, words, s.clk) } })

/-- PING (R187). -/
def execPing (tag len : Nat) (s : State) : Host.Outcome State Fault Refusal :=
  hostCmd (.ping tag len) A.HIF_MBX_CMD s (mbxDoorbell opPing tag len)

/-- GET_VERSION (R187). -/
def execGetVersion (tag len : Nat) (s : State) : Host.Outcome State Fault Refusal :=
  hostCmd (.getVersion tag len) A.HIF_MBX_CMD s (mbxDoorbell opGetVersion tag len)

/-- AVS_STATUS (R187). -/
def execAvsStatus (tag len : Nat) (s : State) : Host.Outcome State Fault Refusal :=
  hostCmd (.avsStatus tag len) A.HIF_MBX_CMD s (mbxDoorbell opAvsStatus tag len)

/-- OTP_KEY_HASH (R187). -/
def execOtpKeyHash (tag len : Nat) (s : State) : Host.Outcome State Fault Refusal :=
  hostCmd (.otpKeyHash tag len) A.HIF_MBX_CMD s (mbxDoorbell opOtpKeyHash tag len)

/-- OTP_REVOKE (R187). -/
def execOtpRevoke (tag len : Nat) (s : State) : Host.Outcome State Fault Refusal :=
  hostCmd (.otpRevoke tag len) A.HIF_MBX_CMD s (mbxDoorbell opOtpRevoke tag len)

/-- OTP_IMAGE_KEY (R187). -/
def execOtpImageKey (tag len : Nat) (s : State) : Host.Outcome State Fault Refusal :=
  hostCmd (.otpImageKey tag len) A.HIF_MBX_CMD s (mbxDoorbell opOtpImageKey tag len)

/-- OTP_RAISE_SECVER (R76, R187). -/
def execOtpRaiseSecver (tag len : Nat) (s : State) : Host.Outcome State Fault Refusal :=
  hostCmd (.otpRaiseSecver tag len) A.HIF_MBX_CMD s (mbxDoorbell opOtpRaiseSecver tag len)

/-! ### Checks (R188) -/

/-- The request length of a command; `none` for PING, which takes any. -/
def mbxLength (op : Nat) : Option Nat :=
  if op = opPing then none else if op = opOtpKeyHash then some 13 else if op = opOtpRevoke then some 1
  else if op = opOtpImageKey then some 8 else if op = opOtpRaiseSecver then some 1 else some 0

/-- Is the opcode one of R187? -/
def mbxKnown (op : Nat) : Bool := [1, 2, 3, 0x10, 0x11, 0x12, 0x13].contains op

/-- Key hash of slot `k`, and whether the slot is revoked. -/
def slotHash (s : State) (k : Nat) : Option (List Byte) := if k = 0 then s.hif.keyHash0 else s.hif.keyHash1
def slotRevoked (s : State) (k : Nat) : Bool := if k = 0 then s.hif.revoked0 else s.hif.revoked1

/-- Some temperature monitor reads below 0 or above 85 degrees. -/
def otpTooHotOrCold (s : State) : Bool :=
  (List.range 16).any (fun k =>
    let t := toSigned 16 (rget s (A.HLT_TEMP k) % 65536)
    decide (t < 0) || decide (8500 < t))

/-- SECURITY_VERSION of the active Forging; 0, which no N is, without one (R76). -/
def activeVersion (s : State) : Nat := match s.frg.active with | some f => f.secVersion | none => 0

/-- What refuses a command (R188): its result. -/
def mbxRefusal (s : State) (op len : Nat) (w : List Nat) : Option Nat :=
  let a := w.headD 0
  let k := a % 2
  if ¬ mbxKnown op then some mbxBadOpcode
  else if 16 < len ∨ (mbxLength op).getD len ≠ len then some mbxBadLength
  else if (op = opOtpKeyHash ∧ (slotHash s k).isSome) ∨ (op = opOtpImageKey ∧ s.hif.imageKey.isSome) then
    some mbxAlreadySet
  else if op = opOtpRevoke ∧ (slotHash s k).isNone then some mbxBadArg
  else if op = opOtpRevoke ∧ ((slotHash s (1 - k)).isNone ∨ slotRevoked s (1 - k)) then some mbxRefused
  else if op = opOtpRaiseSecver ∧ (a % 128 ≠ s.hif.secver + 1 ∨ 64 < a % 128
      ∨ activeVersion s < a % 128) then some mbxRefused
  else if 0x10 ≤ op ∧ otpTooHotOrCold s then some mbxRefused
  else none

/-! ### Effects (R74, R184, R187, R189) -/

/-- The octets that words hold, four in each (R184). -/
def wordOctets (w : List Nat) : List Byte := w.flatMap (leBytes 4)

def setSlotHash (k : Nat) (h : Option (List Byte)) (s : State) : State :=
  if k = 0 then { s with hif := { s.hif with keyHash0 := h } } else { s with hif := { s.hif with keyHash1 := h } }
def setRevoked (k : Nat) (s : State) : State :=
  if k = 0 then { s with hif := { s.hif with revoked0 := true } } else { s with hif := { s.hif with revoked1 := true } }

/-- OTP is programmed; a hash that does not read back matches no key (R189), a key that does not is what the fuses hold
(log entry 33), and a single bit that does not is not blown. -/
def otpProgram (op : Nat) (w : List Nat) (ok : Bool) (s : State) : State :=
  let k := w.headD 0 % 2
  if op = opOtpKeyHash then setSlotHash k (some (if ok then wordOctets ((w.drop 1).take 12) else [])) s
  else if op = opOtpImageKey then
    if ok then { s with hif := { s.hif with imageKey := some (wordOctets (w.take 8)) } }
    else { s with hif := { s.hif with imageKey := Config.otpPartial s.free }, free := s.free + 1 }
  else if ¬ ok then s
  else if op = opOtpRevoke then setRevoked k s
  else { s with hif := { s.hif with secver := s.hif.secver + 1 } }

/-- The Ostler runs a command: its result and response words. -/
def mbxRun (op len : Nat) (w : List Nat) (readBackOk : Bool) (s : State) : Nat × List Nat × State :=
  match mbxRefusal s op len w with
  | some r => (r, [], s)
  | none =>
    if op = opPing then (mbxOk, w.take len, s)
    else if op = opGetVersion then
      (mbxOk, [Config.romVersion.toNat, if Config.patchState.toNat % 3 = 0 then 0 else Config.patchVersion.toNat,
        Config.patchState.toNat % 3], s)
    else if op = opAvsStatus then
      (mbxOk, [fget s F.HLT_AVS_STATUS_SETPOINT_MV, s.hif.avsCount % 2 ^ 32, b2n s.hlt.procBad], s)
    else
      let s := otpProgram op w readBackOk s
      if readBackOk then (mbxOk, [], raise 0x0205 noUnit op 0 s) else (mbxOtpFail, [], raise 0x0206 noUnit op 0 s)

/-- A command ends: the response, RSP_LEN, RESULT, TAG, BUSY, MBX_DONE (R182). -/
def mbxEnd (tag r : Nat) (rsp : List Nat) (s : State) : State :=
  let s := rsp.zipIdx.foldl (fun s e => rput (A.HIF_MBX_RSP e.2) e.1 s) { s with hif := { s.hif with mbxCmd := none } }
  let s := fput F.HIF_MBX_STATUS_TAG tag (fput F.HIF_MBX_STATUS_RESULT r (fput F.HIF_MBX_STATUS_RSP_LEN rsp.length s))
  setInt A.HIF_INT_STAT 0 (fput F.HIF_MBX_STATUS_BUSY 0 s)

/-- The Ostler ends the command it runs: one whose answer is discarded first. -/
def mbxComplete (ok : Bool) (s : State) : State :=
  if s.hif.restarting then s
  else
    match s.hif.mbxOld with
    | (op, _, len, w, _) :: rest => (mbxRun op len w ok { s with hif := { s.hif with mbxOld := rest } }).2.2
    | [] =>
      match s.hif.mbxCmd with
      | some (op, tag, len, w, _) =>
        let (r, rsp, s) := mbxRun op len w ok s
        mbxEnd tag r rsp s
      | none => s

/-- MBX_COMPLETION (R182, R187 to R189). -/
def execMbxCompletion (dt : Nat) (readBackOk : Bool) (s : State) : Host.Outcome State Fault Refusal :=
  timed (.mbxCompletion dt readBackOk) dt s (mbxComplete readBackOk)

/-! ### Silence (R185, R190) -/

/-- The Ostler is silent. -/
def setSilent (s : State) : State :=
  if s.hif.ostlerSilent then s
  else raise 0x0203 noUnit 0 0 (bump 27 56 (setInt A.HIF_INT_STAT 2 { s with hif := { s.hif with ostlerSilent := true } }))

/-- A command has been BUSY for too long (R185): it ends without an answer; the Ostler may still finish it. -/
def mbxTimeout (s : State) : State :=
  match s.hif.mbxCmd with
  | none => s
  | some c =>
    let s := fput F.HIF_MBX_STATUS_RESULT mbxTimedOut (fput F.HIF_MBX_STATUS_BUSY 0
      { s with hif := { s.hif with mbxCmd := none, mbxOld := s.hif.mbxOld ++ [c] } })
    setSilent (raise 0x0202 noUnit c.1 c.2.1 (setInt A.HIF_INT_STAT 0 s))

/-- HIF_MBX_TIMEOUT has passed. -/
def mbxLate (s : State) : Bool :=
  match s.hif.mbxCmd with
  | some (_, _, _, _, t) => decide (t + max 1 (fget s F.HIF_MBX_TIMEOUT_TIMEOUT_MS) * clocksPerMs < s.clk)
  | none => false

/-- MBX_TIMEOUT (R185). -/
def execMbxTimeout (dt : Nat) (s : State) : Host.Outcome State Fault Refusal :=
  timed (.mbxTimeout dt) dt s (fun s => if mbxLate s then mbxTimeout s else s)

/-- The heartbeat goes on. -/
def ostlerBeat (s : State) : State :=
  let s := rput A.HIF_OSTLER_BEAT ((rget s A.HIF_OSTLER_BEAT + 1) % 2 ^ 32) s
  { s with hif := { s.hif with
      beatClk := s.clk, restarting := false
      ostlerSilent := s.hif.ostlerSilent && fbit s F.HIF_MBX_STATUS_BUSY } }

/-- OSTLER_BEAT (R190). -/
def execOstlerBeat (dt : Nat) (s : State) : Host.Outcome State Fault Refusal := timed (.ostlerBeat dt) dt s ostlerBeat

/-- OSTLER_SILENT (R190): no beat for 100 ms. -/
def execOstlerSilent (dt : Nat) (s : State) : Host.Outcome State Fault Refusal :=
  timed (.ostlerSilent dt) dt s (fun s => if s.hif.beatClk + 100 * clocksPerMs ≤ s.clk then setSilent s else s)

/-! ### Restart (R191) -/

/-- What a command broken off leaves in OTP: its fuse bits may be partly blown (log entry 33). -/
def otpBroken (c : Nat × Nat × Nat × List Nat × Nat) (s : State) : State :=
  match c with
  | (op, _, len, w, _) =>
    if op < 0x10 ∨ (mbxRefusal s op len w).isSome then s
    else
      let s' := { s with free := s.free + 1 }
      match Config.otpPartial s.free with
      | none => s'
      | some l =>
        if op = opOtpKeyHash then setSlotHash (w.headD 0 % 2) (some (fitBytes 48 l)) s'
        else if op = opOtpImageKey then { s' with hif := { s'.hif with imageKey := some (fitBytes 32 l) } }
        else otpProgram op w true s'

/-- The Ostler restarts: what it was doing ends. -/
def ostlerRestart (s : State) : State :=
  let s := mbxTimeout s
  let s := s.hif.mbxOld.foldl (fun s c => otpBroken c s) s
  let s := raise 0x0204 noUnit 0 0 { s with hif := { s.hif with mbxOld := [], restarting := true } }
  if frgState s = frgVerifying then freeCells (failLoad frgOstlerTimeout s) else s

/-- OSTLER_RESTART (R191). -/
def execOstlerRestart (s : State) : Host.Outcome State Fault Refusal := hostCmd .ostlerRestart A.HIF_OSTLER_CTL s ostlerRestart

end Machine
end Sys2Proof
end

