-- ==== Sys2Proof/Machine/View.lean ====
section
/-! DEFINITION. Machine/View.lean: what a read of each register of BAR0 shows (R17, R167). A register shows what it holds,
but for those listed here, which show what the block's state is at the moment of the read. -/
namespace Sys2Proof
namespace Machine

/-- The instance number of the register at `a` in an array that begins at `base`. -/
def inst (a base stride : Nat) : Nat := (a - base) / stride

/-- Is `a` in the array of `n` registers, `stride` apart, that begins at `base`? -/
def isInst (a base stride n : Nat) : Bool :=
  decide (base ≤ a) && (a - base) % stride == 0 && decide ((a - base) / stride < n)

/-- The value `v` put into field `f` of `w`. -/
def withFld (w : Nat) (f : Fld) (v : Nat) : Nat := setBits w f.lo f.width v

/-! ### GLB (R121 to R125, R129, R181) -/

/-- Lines of `n` sources from `first` on, as a number. -/
def lineBits (s : State) (first n : Nat) : Nat := bitsNum ((List.range n).map (fun i => (linesUp s).contains (first + i)))

/-- GLB_INT_SUM_BLK (R181). -/
def sumBlk (s : State) : Nat :=
  let any (lo hi : Nat) : Nat := b2n ((linesUp s).any (fun x => decide (lo ≤ x ∧ x < hi)))
  lineBits s 0 15 + lineBits s 16 4 * 2 ^ 16 + any 32 108 * 2 ^ 24 + any 128 192 * 2 ^ 25 + any 192 256 * 2 ^ 26
    + any 256 272 * 2 ^ 27

/-- Registers of the GLB block. -/
def viewGlb (s : State) (a : Nat) : Nat :=
  if a = A.GLB_ID then 0x9724 * 2 ^ 16 + s.hif.grade % 4 * 2 ^ 8 + 1
  else if a = A.GLB_MODE then roleOf s * 2 ^ 16 + s.glb.base * 2 ^ 8 + modeOf s
  else if a = A.GLB_COND then condWord s
  else if a = A.GLB_WAKE_ELAPSED then wakeElapsed s
  else if a = A.GLB_INT_SUM_BLK then sumBlk s
  else if 0x104 ≤ a ∧ a < 0x110 then lineBits s (32 + 32 * inst a 0x104 4) (if a = 0x10C then 12 else 32)
  else if 0x110 ≤ a ∧ a < 0x120 then lineBits s (128 + 32 * inst a 0x110 4) 32
  else if a = A.GLB_INT_SUM_ERRAND then lineBits s 256 16
  else if isInst a (A.GLB_VEC_PEND 0) 4 4 then
    bitsNum ((List.range 32).map (fun i => (vectorsUp s).contains (32 * inst a (A.GLB_VEC_PEND 0) 4 + i)))
  else rget s a

/-! ### FRG (R74, R96, R112) -/

/-- FRG_OTP (R74). -/
def otpWord (s : State) : Nat :=
  b2n s.hif.keyHash0.isSome + 2 * b2n s.hif.keyHash1.isSome + 8 * b2n s.hif.revoked0 + 16 * b2n s.hif.revoked1
    + 32 * b2n s.hif.imageKey.isSome + s.hif.secver * 2 ^ 8

/-- FORGING_SEQ of the active Forging; 0 with none. -/
def activeSeq (s : State) : Nat := match s.frg.active with | some f => f.seq | none => 0

/-- Registers of the FRG block. -/
def viewFrg (s : State) (a : Nat) : Nat :=
  if a = A.FRG_STATUS then
    withFld (withFld (rget s a) F.FRG_STATUS_OLDGEN_LIVE (bitsNum ((List.range 4).map (fun h => oldFrames s h != 0))))
      F.FRG_STATUS_ACTIVE_BANK (bitsNum ((List.range 4).map (fun h => bankOf s h == 1)))
  else if a = A.FRG_LOAD_COUNT then loadCount s
  else if isInst a (A.FRG_OLDGEN_FRAMES 0) 4 4 then oldFrames s (inst a (A.FRG_OLDGEN_FRAMES 0) 4)
  else if a = A.FRG_ACT_ID_HI then activeSeq s / 2 ^ 32
  else if a = A.FRG_ACT_ID_LO then activeSeq s % 2 ^ 32
  else if a = A.FRG_OTP then otpWord s
  else rget s a

/-! ### PRT, HTH (R199, R225, R265 to R271) -/

/-- Registers of the port blocks. -/
def viewPrt (s : State) (a : Nat) : Nat :=
  let p := inst a 0x40000 0x400
  let o := a % 0x400
  if o = 4 then
    if p < 72 then withFld (withFld (rget s a) (F.PRT_STATUS_PAUSED p) (b2n (paused s p))) (F.PRT_STATUS_IN_RESET p) (b2n (inReset s p))
    else 1 + 4 * b2n (inReset s p)
  else if o = 0 ∧ 71 < p then 0xE
  else if o = 0x18 then pauseQuanta s p
  else rget s a

/-- HTH_FRAG_USED: entries of hearth `h` that have not expired. -/
def fragUsed (s : State) (h : Nat) : Nat := s.dp.frags.countP (fun e => e.1 / 8192 == h && decide (s.clk < e.2.expires))

/-- Registers of the hearth blocks. -/
def viewHth (s : State) (a : Nat) : Nat := if a % 0x10000 = 0x108 then fragUsed s (inst a 0x80000 0x10000) else rget s a

/-! ### TBL, TM, LDG (R333, R395, R413, R418, R462) -/

/-- Registers of the TBL block. -/
def viewTbl (s : State) (a : Nat) : Nat :=
  if 0xC1100 ≤ a ∧ a < 0xC1140 then noteWord s (inst a 0xC1100 0x10) (a % 0x10 / 4)
  else if 0xC1140 ≤ a ∧ a < 0xC1150 then (lget s.tab.notes (inst a 0xC1140 4)).length
  else rget s a

/-- A shaper's level in bytes, signed, as its register shows it (R413). -/
def levelWord (s : State) (i : Nat) : Nat := ofSigned 26 (shaperLevel s i / 65536)

/-- Registers of the TM block. -/
def viewTm (s : State) (a : Nat) : Nat :=
  let p := min 76 (inst a 0xE1000 0x400)
  let o := a - 0xE1000 - 0x400 * p
  if a = A.TM_SHARED_SIZE then (sharedSize s).1
  else if a = A.TM_CELLS_USED then cellsUsed s
  else if a < 0xE1000 ∨ 0xFC000 ≤ a then rget s a
  else if o = 0x14 then levelWord s (1280 + p)
  else if o = 0x18 then withFld (rget s a) (F.TM_CAL_STATUS_BANK p) (portBank s p)
  else if o = 0x1C then (calendarOf s p (portBank s p)).length
  else if 0x100 ≤ o ∧ o % 0x20 = 0x10 then levelWord s (qkey p ((o - 0x100) / 0x20))
  else rget s a

/-- Registers of the LDG block. -/
def viewLdg (s : State) (a : Nat) : Nat :=
  let p := inst a 0x101000 0x40
  let o := (a - 0x101000) % 0x40
  if a = A.LDG_LINE_W0 then ldgLine s 0
  else if a = A.LDG_LINE_W1 then ldgLine s 1
  else if a < 0x101000 then rget s a
  else if o = 4 then ldgInfo s p
  else if o = 8 then ldgCycle s p
  else if o = 0xC then ldgStatus s p
  else if o = 0x10 then ldgActStart s p 0
  else if o = 0x14 then ldgActStart s p 1
  else if o = 0x18 then ldgActStart s p 2
  else rget s a

/-! ### PHS, TIM (R435, R491, R498, R510, R521) -/

/-- Registers of the PHS block. -/
def viewPhs (s : State) (a : Nat) : Nat :=
  if a = A.PHS_STATUS then withFld (rget s a) F.PHS_STATUS_LIMITS_BAD (b2n (limitsBadShown s))
  else if a = A.PHS_FREQ then phsFreq s
  else rget s a

/-- The upper or lower half of a signed 64-bit value. -/
def half64 (hi : Bool) (x : Int) : Nat := if hi then ofSigned 64 x / 2 ^ 32 else ofSigned 64 x % 2 ^ 32

/-- Registers of the TIM block. -/
def viewTim (s : State) (a : Nat) : Nat :=
  if a = A.TIM_FREQ_NOW then ofSigned 32 s.tim.adj
  else if a = A.TIM_BIAS_HI then half64 true (slewBias s).tim.bias
  else if a = A.TIM_BIAS_LO then half64 false (slewBias s).tim.bias
  else if a = A.TIM_FILT_A_HI then half64 true s.tim.trkA.f
  else if a = A.TIM_FILT_A_LO then half64 false s.tim.trkA.f
  else if a = A.TIM_FILT_B_HI then half64 true s.tim.trkB.f
  else if a = A.TIM_FILT_B_LO then half64 false s.tim.trkB.f
  else if 0x130100 ≤ a ∧ a < 0x130110 then txStampWord s ((a - 0x130100) / 4)
  else if a = A.TIM_TXTS_LEVEL then s.tim.txts.length
  else rget s a

/-! ### FAB (R562, R565, R579, R584) -/

/-- FAB_STATUS. -/
def fabStatus (s : State) : Nat :=
  let w := withFld (rget s A.FAB_STATUS) F.FAB_STATUS_HB_LOST (b2n s.fab.hbLost)
  match s.fab.standing with
  | some (_, k) => withFld (withFld w F.FAB_STATUS_STANDING_VALID 1) F.FAB_STATUS_STANDING_KEEPER k
  | none => withFld (withFld w F.FAB_STATUS_STANDING_VALID 0) F.FAB_STATUS_STANDING_KEEPER 0

/-- FAB_TERM: the term of the standing, or an ACTIVE Keeper's own. -/
def fabTerm (s : State) : Nat :=
  if activeKeeper s then rget s A.FAB_TERM else match s.fab.standing with | some (t, _) => t | none => 0

/-- FAB_KEYS: no key material is ever shown. -/
def fabKeys (s : State) : Nat :=
  (match s.fab.keyActive with | some k => k.id % 16 | none => 0)
    + (match s.fab.keyStandby with | some k => k.id % 16 * 16 + 256 | none => 0)

/-- Registers of the FAB block; on a STANDALONE device every one reads 0. -/
def viewFab (s : State) (a : Nat) : Nat :=
  let p := inst a 0x141000 0x20
  let o := (a - 0x141000) % 0x20
  if roleOf s = 0 then 0
  else if a = A.FAB_STATUS then fabStatus s
  else if a = A.FAB_TERM then fabTerm s
  else if a = A.FAB_KEYS then fabKeys s
  else if a = A.FAB_JOIN_LEVEL then s.fab.join.length
  else if a < 0x141000 then rget s a
  else if o = 4 then withFld (rget s a) (F.FAB_PORT_STATUS_DELAY_VALID p) (b2n (fabDelay s p).isSome)
  else if o = 8 then match fabDelay s p with | some d => delayReg d | none => 0
  else rget s a

/-! ### POR, TAL, GBK, PIN (R597, R598, R669, R686, R760) -/

/-- Registers of the POR block. -/
def viewPor (s : State) (a : Nat) : Nat :=
  let k := inst a 0x150100 0x40
  if isInst a (A.POR_POOL_CACHE 0) 0x40 8 then (cacheOf s k).length
  else if isInst a (A.POR_POOL_FREE 0) 0x40 8 then poolFree s k % 2 ^ 21
  else rget s a

/-- Registers of the TAL block. -/
def viewTal (s : State) (a : Nat) : Nat :=
  if a = A.TAL_HV_PROGRESS then match s.tal.harvest with | some h => h.written | none => rget s a
  else rget s a

/-- Registers of the GBK block. -/
def viewGbk (s : State) (a : Nat) : Nat :=
  if a = A.GBK_STATUS then gbkStatus s else if a = A.GBK_SEQ_OLDEST then gbkOldest s else rget s a

/-- Registers of the PIN block. -/
def viewPin (s : State) (a : Nat) : Nat :=
  if a = A.PIN_GPIO_IN then bitsNum ((List.range 16).map (gpioPin s))
  else if a = A.PIN_CLK_STATUS then withFld (rget s a) F.PIN_CLK_STATUS_CLK10M_OK (b2n (Config.clk10mOk s.clk))
  else if a = A.PIN_I2C_DATA 0 then (i2cPop 0 s).1
  else if a = A.PIN_I2C_DATA 1 then (i2cPop 1 s).1
  else rget s a

/-! ### All blocks (R16) -/

/-- What a read of the register at `a` shows. -/
def regView (s : State) (a : Nat) : Nat :=
  if a < 0x10000 then viewGlb s a
  else if a < 0x20000 then viewFrg s a
  else if a < 0x40000 then rget s a
  else if a < 0x80000 then viewPrt s a
  else if a < 0xC0000 then viewHth s a
  else if a < 0xD0000 then viewTbl s a
  else if a < 0xE0000 then rget s a
  else if a < 0x100000 then viewTm s a
  else if a < 0x120000 then viewLdg s a
  else if a < 0x130000 then viewPhs s a
  else if a < 0x140000 then viewTim s a
  else if a < 0x150000 then viewFab s a
  else if a < 0x160000 then viewPor s a
  else if a = A.DRY_LIMITS then min 256 s.hif.mrrs * 2 ^ 16 + min 512 s.hif.mps
  else if a < 0x180000 then rget s a
  else if a < 0x190000 then viewTal s a
  else if a < 0x1A0000 then viewGbk s a
  else if a < 0x1B0000 then rget s a
  else viewPin s a

end Machine
end Sys2Proof
end

