-- ==== Sys2Proof/Machine/Access.lean ====
section
/-! DEFINITION. Machine/Access.lean: reads and writes of BAR0: what a full 32-bit write does in each block, the side effects
of reads, and the access classes of R163. The host's accesses and an errand's (R638) go through here. -/
namespace Sys2Proof
namespace Machine

/-! ### Reads (R18, R333, R498, R756) -/

/-- A read of the register at `a`: what it shows, and what it clears or removes. -/
def regRead (a : Nat) (s : State) : Nat × State :=
  let v := regView s a
  let rc := match regAt a with | some d => d.rc | none => 0
  let kept := sget freshDefault s.fresh a
  let s := rput a ((rget s a &&& (full ^^^ rc)) ||| (kept &&& rc)) s
  let s := if a = A.TIM_TXTS_W3 then txtsPop s
    else if 0xC1100 ≤ a ∧ a < 0xC1140 ∧ a % 0x10 = 0xC then notePop (inst a 0xC1100 0x10) s
    else if a = A.PIN_I2C_DATA 0 then (i2cPop 0 s).2
    else if a = A.PIN_I2C_DATA 1 then (i2cPop 1 s).2
    else s
  (v, s)

/-! ### Writes, block by block -/

/-- A write while a block is busy is dropped, and its OVERRUN is set (R354). -/
def overrun (f : Fld) (a : Nat) (s : State) : State := lockedWrite a (fput f 1 s)

/-- A write of the rate or burst of class `k` at `a`: the new value is in force from the next core clock on, and the level it
finds is cut to a new burst (R152). -/
def admitRetune (k a v : Nat) (s : State) : State :=
  let rate := fgetInForce s (F.GLB_ADMIT_RATE_RATE k)
  let burst := fgetInForce s (F.GLB_ADMIT_BURST_BURST k)
  let s := writeRw a v (keepInForce a s)
  if ¬ budgets s then s
  else
    { s with glb := { s.glb with admitLevel := (if k < 5 then [0] else List.range 4).foldl (fun m h =>
        sput admitFull m (admitKey k h)
          { level := bucketLevel rate burst s.clk (sget admitFull m (admitKey k h)), stamp := s.clk }) s.glb.admitLevel } }

/-- GLB_CTL.CMD (R126 to R138); a command that is not assigned is refused. -/
def writeGlbCtl (cmd : Nat) : State → State :=
  if cmd = 0 then id else if cmd = 1 then drainOp else if cmd = 2 then resumeOp else if cmd = 3 then endWakingOp
  else if cmd = 4 then enterSafeOp else if cmd = 5 then clearSafeOp else if cmd = 6 then enterDiagOp
  else if cmd = 7 then endDiagOp else glbCmd (fun _ => none)

/-- GLB_PORT_RST_i: ports whose bit is set are held, those whose bit is clear are released, in ascending order (R140, R205). -/
def writePortRst (i v : Nat) (s : State) : State :=
  let ports := (List.range 32).filter (fun b => decide (32 * i + b < 76))
  let s := ports.foldl (fun s b => if bitAt v b then holdPort (32 * i + b) s else s) s
  freeCells (ports.foldl (fun s b => if bitAt v b then s else releaseReset (32 * i + b) s) s)

/-- GLB_VEC_EOI (R179). -/
def vecEoi (v : Nat) (s : State) : State :=
  let n := bits v 0 7
  rput (A.GLB_VEC_ACTIVE (n / 32)) (setBits (rget s (A.GLB_VEC_ACTIVE (n / 32))) (n % 32) 1 0) s

def writeGlb (a v : Nat) (s : State) : State :=
  if a = A.GLB_CTL then writeGlbCtl (bits v 0 4) s
  else if a = A.GLB_RESET then (if bitAt v 0 then warmOp s else s)
  else if a = A.GLB_HRST then hearthResets (bits v 0 4) s
  else if isInst a A.GLB_PORT_RST_0 4 3 then writePortRst (inst a A.GLB_PORT_RST_0 4) v s
  else if isInst a (A.GLB_ADMIT_RATE 0) 4 8 then admitRetune (inst a (A.GLB_ADMIT_RATE 0) 4) a v s
  else if isInst a (A.GLB_ADMIT_BURST 0) 4 8 then admitRetune (inst a (A.GLB_ADMIT_BURST 0) 4) a v s
  else if a = A.GLB_VEC_EOI then vecEoi v s
  else writeRw a v s

/-- FRG_CTL.OP (R83 to R116); an operation that is not assigned is refused. -/
def writeFrgCtl (op : Nat) (s : State) : State :=
  if op = 0 then s else if op = 1 then fullLoadOp s else if op = 2 then shadowLoadOp s
  else if op = 3 then freeCells (abortOp s) else if op = 4 then armOp false none s else if op = 5 then disarmOp s
  else if op = 6 then armOp true none s else if op = 7 then flushOldOp s else if op = 8 then bootFlashOp s
  else frgResult frgWrongMode s

def writeFrg (a v : Nat) (s : State) : State :=
  if a = A.FRG_CTL then writeFrgCtl (bits v 0 4) s
  else if 0x18000 ≤ a then freeCells (loadPortOp a v s)
  else writeRw a v s

def writeHif (a v : Nat) (s : State) : State :=
  if a = A.HIF_OSTLER_CTL then (if bitAt v 0 then ostlerRestart s else s)
  else if a = A.HIF_MBX_CMD then mbxDoorbell (bits v 0 16) (bits v 24 8) (bits v 16 5) s
  else if isInst a (A.HIF_MBX_REQ 0) 4 16 ∧ fbit s F.HIF_MBX_STATUS_BUSY then
    accErr false errMbxBusy a (fput F.HIF_MBX_STATUS_OVERRUN 1 s)
  else writeRw a v s

/-- The blocks of absorbed ports take lane settings only (R193); those of ports 72 to 75 are read-only (R199). When DOWN_HOLD_MS is
cleared on a port whose link is reported down, the frames it holds stay queued (DESIGN CHOICE, log entry 79). -/
def writePrt (a v : Nat) (s : State) : State :=
  let p := inst a 0x40000 0x400
  let o := a % 0x400
  if 71 < p then s
  else if absorbed s p ∧ ¬ (0x80 ≤ o ∧ o < 0xA0) then lockedWrite a s
  else if o = 0x10 then writePreempt p v s
  else writeRw a v s

def writeTbl (a v : Nat) (s : State) : State :=
  let c := inst a 0xC0000 0x400
  let o := a % 0x400
  if 0xC1000 ≤ a then writeRw a v s
  else if o = 0 then tblIssue (bits v 0 4) (bits v 8 8) (bits v 6 2) (bitAt v 4) c s
  else if fbit s (F.TBL_STATUS_BUSY c) ∧ rwMask a ≠ 0 then overrun (F.TBL_STATUS_OVERRUN c) a s
  else writeRw a v s

def writeFry (a v : Nat) (s : State) : State :=
  if a = A.FRY_TMPL_CMD then tmplIssue (bits v 0 2) (bits v 3 9) s
  else if isInst a (A.FRY_TMPL_DATA 0) 4 16 ∧ fbit s F.FRY_TMPL_STATUS_BUSY then overrun F.FRY_TMPL_STATUS_OVERRUN a s
  else if a = A.FRY_PEER_RATE ∨ a = A.FRY_PEER_BURST then peerRetune (writeRw a v) s
  else writeRw a v s

/-- TM_MIR_CFG of session `m`: enabling it starts its count of candidates again (R427). -/
def writeMirror (m v : Nat) (s : State) : State :=
  let was := fbit s (F.TM_MIR_CFG_EN m)
  let s := writeRw (A.TM_MIR_CFG m) v s
  if ¬ was ∧ fbit s (F.TM_MIR_CFG_EN m) then { s with tmg := { s.tmg with mirrorSeen := sdel s.tmg.mirrorSeen m } } else s

def writeTm (a v : Nat) (s : State) : State :=
  let p := min 76 (inst a 0xE1000 0x400)
  let o := a - 0xE1000 - 0x400 * p
  let q := (o - 0x100) / 0x20
  if isInst a (A.TM_MIR_CFG 0) 0x80 8 then writeMirror (inst a (A.TM_MIR_CFG 0) 0x80) v s
  else if 0xFC000 ≤ a then writeRw a v s
  else if a = A.TM_HEADROOM ∨ a = A.TM_MGMT_POOL then writeRegion a v s
  else if a < 0xE1000 then writeRw a v s
  else if o = 4 then writeRegion a v s
  else if o = 0xC then writeShaper (.port p) false v s
  else if o = 0x10 then writeShaper (.port p) true v s
  else if o < 0x100 then writeRw a v s
  else if o % 0x20 = 0 ∨ o % 0x20 = 4 then writeRegion a v s
  else if o % 0x20 = 8 then writeShaper (.queue p q) false v s
  else if o % 0x20 = 0xC then writeShaper (.queue p q) true v s
  else writeRw a v s

def writeLdg (a v : Nat) (s : State) : State :=
  if isInst a (A.LDG_BASE_SUB 0) 0x40 72 then writeBaseSub (inst a (A.LDG_BASE_SUB 0) 0x40) v s else writeRw a v s

/-- PHS_CMD.OP. -/
def writePhsCmd (op : Nat) (s : State) : State :=
  if op = 0 then s else if op = 1 then latchPhaseOp s else if op = 2 then setCycleOp s else if op = 3 then realignOp s
  else fput F.PHS_CMD_STATUS_RESULT 3 s

/-- The registers of the timed-action slots: a slot of the fabric block takes no host write (R482). -/
def writeTa (a v : Nat) (s : State) : State :=
  let t := inst a (A.PHS_TA_CYCLE_HI 0) 0x20
  if fabricSlot s t then (if rwMask a = 0 then s else lockedWrite a s)
  else if a = A.PHS_TA_CTL t then writeTaCtl t v s
  else writeRw a v s

def writePhs (a v : Nat) (s : State) : State :=
  if a = A.PHS_CMD then writePhsCmd (bits v 0 4) s
  else if a = A.PHS_MSG_POST then msgPost v s
  else if a = A.PHS_CTL then (if s.phs.running then chooseSource (writeRw a v s) else writeRw a v s)
  else if a = A.PHS_FREQ_LIMITS then writeLimits v s
  else if A.PHS_TA_CYCLE_HI 0 ≤ a then writeTa a v s
  else writeRw a v s

/-- TIM_CMD. -/
def writeTimCmd (v : Nat) (s : State) : State :=
  let op := bits v 0 4
  if op = 0 then s else if op = 1 then latchTimeOp s else if op = 2 then stepRelOp (bitAt v 5) s
  else if op = 3 then setAbsOp s else if op = 4 then switchOp (bits v 4 1) s
  else fput F.TIM_CMD_STATUS_RESULT 3 s

def writeTim (a v : Nat) (s : State) : State :=
  if a = A.TIM_CTL then writeTimCtl v s
  else if a = A.TIM_CMD then writeTimCmd v s
  else if a = A.TIM_SMP_POST then smpPost v s
  else if a = A.TIM_FREQ_ADJ ∨ a = A.TIM_SERVO_LIMIT then followHostAdj (writeRw a v s)
  else if a = A.TIM_LOCK_THR then relock (writeRw a v s)
  else if a = A.TIM_UTC_OFFSET then writeUtcOffset v s
  else writeRw a v s

/-- FAB_CMD. -/
def writeFabCmd (v : Nat) (s : State) : State :=
  let op := bits v 0 4
  if op = 0 then s else if op = 1 then freeCells (takeoverOp s) else if op = 2 then stepDownOp s
  else if op = 3 then freeCells (sendTriggerOp s) else if op = 4 then keySwitchOp s
  else if op = 5 then rehelloOp (bits v 8 7) s
  else fput F.FAB_CMD_STATUS_RESULT 1 s

def writeFab (a v : Nat) (s : State) : State :=
  if a = A.FAB_CMD then writeFabCmd v s
  else if a = A.FAB_SELF then writeFabSelf v s
  else if isInst a (A.FAB_PORT_CFG 0) 0x20 72 then writeFabPort (inst a (A.FAB_PORT_CFG 0) 0x20) v s
  else writeRw a v s

/-- Registers of pool `k`: address, count and ring of an enabled pool take no write (R173, R596). -/
def writePool (k a v : Nat) (s : State) : State :=
  if a = A.POR_POOL_CTL k then (if bitAt v 0 then enablePool k (bitAt v 1) s else disablePool k s)
  else if poolEn s k ∧ rwMask a ≠ 0 then lockedWrite a s
  else writeRw a v s

def writePor (a v : Nat) (s : State) : State :=
  if a = A.POR_CMD then porStart (bits v 0 4) (bits v 4 3) (bits v 8 4) s
  else if (a = A.POR_CMD_HANDLE ∨ a = A.POR_CMD_ARG) ∧ s.por.cmd.isSome then porBusyWrite a s
  else if a = A.POR_RET_CTL then writeRw a v { s with por := { s.por with records := [] } }
  else if a = A.POR_RET_HEAD ∧ fbit s F.POR_RET_CTL_EN then lockedWrite a s
  else if 0x150100 ≤ a ∧ a < 0x150300 then writePool (inst a 0x150100 0x40) a v s
  else writeRw a v s

/-- A write of DRY_ERR_CTL.START (R636). -/
def errStart (e : Nat) (s : State) : State :=
  let st := chanState s (.err e)
  if st = stDisabled ∨ st = stStopped ∨ st = stHalted ∨ st = stDone then
    let s := rput (A.DRY_ERR_ITER e) 0 (fput (F.DRY_ERR_STATUS_PC e) 0 (fput (fKind (.err e)) 0 s))
    putErr e (errDefault e) (setChan (.err e) stRunning s)
  else s

/-- The strobes STOP and RESUME of a channel's control register. -/
def writeStrobes (ch : DryChan) (v : Nat) (s : State) : State :=
  let s := if bitAt v 1 then stopChan ch s else s
  if bitAt v 2 then resumeChan ch s else s

/-- Registers of the DRY block (R622, R636, R647). -/
def writeDry (a v : Nat) (s : State) : State :=
  let n := a % 0x1000 / 0x40
  let o := a % 0x40
  let data (d : DataChan) : State :=
    if o = 4 then writeStrobes (chanOf d) v (if bitAt v 0 then enableChan d s else disableChan d s)
    else if o = 0x1C then postDescriptors d v s
    else writeRw a v s
  if a < 0x161000 then writeRw a v s
  else if a < 0x162000 then data (.rx n)
  else if a < 0x163000 then data (.tx n)
  else if o = 4 then writeStrobes (.err n) v (if bitAt v 0 then errStart n s else s)
  else writeRw a v s

def writeTal (a v : Nat) (s : State) : State :=
  if a = A.TAL_SNAP_CMD then takeSnapshot v 1 s
  else if a = A.TAL_CLEAR then clearGroups (selector v) s
  else if a = A.TAL_HV_CMD then
    if bits v 0 2 = 1 then harvestStart (bitAt v 2) s else if bits v 0 2 = 2 then harvestAbort s else s
  else if a = A.TAL_SNAP_SEQ then lockedWrite a s
  else if (a = A.TAL_HV_MASK ∨ a = A.TAL_HV_ADDR_HI ∨ a = A.TAL_HV_ADDR_LO ∨ a = A.TAL_HV_LIMIT) ∧ s.tal.harvest.isSome then
    lockedWrite a s
  else if a = A.TAL_RD_SEL then captureCounter v s
  else writeRw a v s

/-- GBK_SPILL_CTL: enabling the spill begins with the next record to be placed (R692). -/
def writeSpillCtl (v : Nat) (s : State) : State :=
  let was := fbit s F.GBK_SPILL_CTL_EN
  let s := writeRw A.GBK_SPILL_CTL v s
  if ¬ was ∧ fbit s F.GBK_SPILL_CTL_EN then
    { s with gbk := { s.gbk with spillNext := rget s A.GBK_SEQ_NEXT, spillMissed := 0 } }
  else s

def writeGbk (a v : Nat) (s : State) : State :=
  if a = A.GBK_SEQ_NEXT then lockedWrite a s
  else if a = A.GBK_CMD then (if bits v 0 2 = 1 then gbkClearOp s else if bits v 0 2 = 2 then gbkClearAllOp s else s)
  else if isInst a (A.GBK_RL_RATE 0) 4 4 then gbkRetune (inst a (A.GBK_RL_RATE 0) 4) a v s
  else if isInst a (A.GBK_RL_BURST 0) 4 4 then gbkRetune (inst a (A.GBK_RL_BURST 0) 4) a v s
  else if a = A.GBK_RD_SEQ then captureRecord v s
  else if a = A.GBK_SPILL_CTL then writeSpillCtl v s
  else if (a = A.GBK_SPILL_BASE_HI ∨ a = A.GBK_SPILL_BASE_LO ∨ a = A.GBK_SPILL_SIZE ∨ a = A.GBK_SPILL_TAIL)
      ∧ fbit s F.GBK_SPILL_CTL_EN then lockedWrite a s
  else writeRw a v s

def writeHlt (a v : Nat) (s : State) : State :=
  if a = A.HLT_FENCE_CMD then
    if bits v 0 2 = 1 then (if bits v 8 2 < 3 then fenceOp (bits v 4 2) (bits v 8 2) s else s)
    else if bits v 0 2 = 2 then unfenceOp (bits v 4 2) s else s
  else if a = A.HLT_BANK_CMD then (if bitAt v 0 then spareBank (bits v 8 6) s else s)
  else if a = A.HLT_BANK_MAP ∨ a = A.HLT_BANK_WD 0 ∨ a = A.HLT_BANK_WD 1 then lockedWrite a s
  else if a = A.HLT_BIST_CTL ∧ bitAt v 0 then bistRun (bits v 8 5) s
  else writeRw a v s

def writePin (a v : Nat) (s : State) : State :=
  if a = A.PIN_QSPI_CMD then qspiStart v s
  else if (a = A.PIN_QSPI_ADDR ∨ isInst a (A.PIN_QSPI_BUF 0) 4 64) ∧ fbit s F.PIN_QSPI_STATUS_BUSY then
    overrun F.PIN_QSPI_STATUS_OVERRUN a s
  else if a = A.PIN_I2C_CMD 0 then i2cStart 0 v s
  else if a = A.PIN_I2C_CMD 1 then i2cStart 1 v s
  else if a = A.PIN_I2C_DATA 0 then i2cPush 0 v s
  else if a = A.PIN_I2C_DATA 1 then i2cPush 1 v s
  else if a = A.PIN_MDIO_CMD then mdioStart (bits v 30 2) (bits v 21 5) (bits v 16 5) (bits v 0 16) s
  else if a = A.PIN_MDIO_DATA ∧ fbit s F.PIN_MDIO_STATUS_BUSY then overrun F.PIN_MDIO_STATUS_OVERRUN a s
  else writeRw a v s

/-- A full 32-bit write to the register at `a` (R16). -/
def regWrite (a v : Nat) (s : State) : State :=
  if a < 0x10000 then writeGlb a v s
  else if a < 0x20000 then writeFrg a v s
  else if a < 0x40000 then writeHif a v s
  else if a < 0x80000 then writePrt a v s
  else if a < 0xC0000 then writeRw a v s
  else if a < 0xD0000 then writeTbl a v s
  else if a < 0xE0000 then writeFry a v s
  else if a < 0x100000 then writeTm a v s
  else if a < 0x120000 then writeLdg a v s
  else if a < 0x130000 then writePhs a v s
  else if a < 0x140000 then writeTim a v s
  else if a < 0x150000 then writeFab a v s
  else if a < 0x160000 then writePor a v s
  else if a < 0x180000 then writeDry a v s
  else if a < 0x190000 then writeTal a v s
  else if a < 0x1A0000 then writeGbk a v s
  else if a < 0x1B0000 then writeHlt a v s
  else writePin a v s

/-! ### Access classes (R22, R163, R165, R170) -/

/-- A read of one DWORD: what comes back, and what it does. -/
def dwordRead (a be : Nat) (s : State) : Nat × State :=
  if be = fullBe ∨ narrow be then
    match regAt a with
    | some _ => let (v, s) := regRead a s; (v &&& laneMask be, s)
    | none => (0, accErr false errUnassignedRead a s)
  else if be = 0 then (0, s)
  else (full, accErr false errUnalignedRead a s)

/-- A write of one DWORD. -/
def dwordWrite (a be v : Nat) (s : State) : State :=
  if be = 0 then s
  else if be = fullBe ∨ narrow be then
    if (regAt a).isNone then accErr false errUnassignedWrite a s
    else if be ≠ fullBe then accErr false errNarrowWrite a s
    else if resetBusy s a then accErr false errResetBusy a s
    else regWrite a v s
  else accErr false errUnalignedWrite a s

/-- What the host's read brings back. -/
def answer (l : List Nat) (s : State) : State := { s with hif := { s.hif with readData := l } }

end Machine
end Sys2Proof
end

