-- ==== Sys2Proof/Machine/HostIf.lean ====
section
/-! DEFINITION. Machine/HostIf.lean: the commands at the host's link, its accesses to BAR0 and BAR2, and MSI-X (chapter 04). -/
namespace Sys2Proof
namespace Machine

/-! ### Accesses (R18, R22, R157, R163, R168) -/

/-- RC_REGISTER_READ (R18, R163): a read of one DWORD of BAR0 that holds a register. -/
def execRcRegisterRead (addr be : Nat) (s : State) : Host.Outcome State Fault Refusal :=
  hostRead (.rcRegisterRead addr be) s (fun s => let (v, s) := dwordRead addr be s; answer [v] s)

/-- UNASSIGNED_READ (R22): a read of one DWORD of BAR0 that holds none. -/
def execUnassignedRead (addr be : Nat) (s : State) : Host.Outcome State Fault Refusal :=
  hostRead (.unassignedRead addr be) s (fun s => let (v, s) := dwordRead addr be s; answer [v] s)

/-- UNALIGNED_READ (R163, R171): a request of `dwords` DWORDs whose byte enables are not full, narrow or empty. -/
def execUnalignedRead (addr dwords : Nat) (s : State) : Host.Outcome State Fault Refusal :=
  hostRead (.unalignedRead addr dwords) s (fun s =>
    answer (List.replicate dwords full) (accErr false errUnalignedRead addr s))

/-- BAR2_WRITE (R157). -/
def execBar2Write (offset : Nat) (s : State) : Host.Outcome State Fault Refusal :=
  hostCmd (.bar2Write offset) 0 s (accErr true errBar2Write offset)

/-- A poisoned request is reported through Advanced Error Reporting (R168): Poisoned TLP Received, bit 12 of Uncorrectable Error
Status, and an ERR_NONFATAL message where it is neither masked nor made fatal and Device Control enables it (PCI Express; log
entry 86, PRESUMED). -/
def aerPoisoned (s : State) : State :=
  let msg := !bitAt s.hif.aerMask 12 && !bitAt s.hif.aerSeverity 12 && bitAt s.hif.devBits 1
  { s with hif := { s.hif with devError := true, aerStatus := s.hif.aerStatus ||| 2 ^ 12, errSent := s.hif.errSent + b2n msg } }

/-- POISONED (R168). -/
def execPoisoned (bar2 : Bool) (offset : Nat) (s : State) : Host.Outcome State Fault Refusal :=
  hostCmd (.poisoned bar2 offset) 0 s (fun s => aerPoisoned (accErr bar2 errPoisoned offset s))

/-- REGISTER_WRITE (R163, R166). -/
def execRegisterWrite (addr be : Nat) (value : Word) (s : State) : Host.Outcome State Fault Refusal :=
  hostCmd (.registerWrite addr be value) 0 s (dwordWrite addr be value.toNat)

/-! ### Vectors (R179, R180) -/

/-- GLB_VEC_EOI_WRITE (R179). -/
def execGlbVecEoiWrite (value : Word) (s : State) : Host.Outcome State Fault Refusal :=
  hostCmd (.glbVecEoiWrite value) A.GLB_VEC_EOI s (vecEoi value.toNat)

/-- Pending messages whose masks are lifted are sent. -/
def sendPending (s : State) : State :=
  if fbit s F.HIF_LINK_FN_MASK ∨ ¬ msixEnabled s then s
  else
    let go := s.hif.pba.filter (fun v => s.hif.unmasked.contains v)
    { s with hif := { s.hif with
      pba := s.hif.pba.filter (fun v => !s.hif.unmasked.contains v), sent := go.reverse ++ s.hif.sent } }

/-- A vector's mask bit, or the function mask, is cleared. -/
def unmask (v : Option Nat) (s : State) : State :=
  match v with
  | none => sendPending (fput F.HIF_LINK_FN_MASK 0 s)
  | some n => if s.hif.d3hot ∨ s.hif.unmasked.contains n then s
      else sendPending { s with hif := { s.hif with unmasked := s.hif.unmasked ++ [n] } }

/-! ### The MSI-X table and the PBA (R156, R158) -/

/-- DWORD `k` of the table: entry k / 4 has its message address, low then high, its data, and its mask bit. -/
def tableDword (s : State) (k : Nat) : Nat :=
  if k % 4 = 3 then b2n (!s.hif.unmasked.contains (k / 4)) else sget (fun _ => 0) s.hif.msix k

/-- The host writes DWORD `k`: the mask bit of an entry, or a part of its message. Address bits 1 and 0 are 0. -/
def tablePut (k v : Nat) (s : State) : State :=
  if k % 4 = 3 then
    if bitAt v 0 then { s with hif := { s.hif with unmasked := s.hif.unmasked.filter (· != k / 4) } }
    else unmask (some (k / 4)) s
  else
    { s with hif := { s.hif with msix := sput (fun _ => 0) s.hif.msix k (if k % 4 = 0 then v / 4 * 4 else v) } }

/-- DWORD `k` of the PBA. -/
def pbaDword (s : State) (k : Nat) : Nat :=
  (List.range 32).foldl (fun n b => n + b2n (s.hif.pba.contains (32 * k + b)) * 2 ^ b) 0

/-! ### Configuration space (R153, R155, R156) -/

/-- The bits of BAR register `k` that the host writes, given by the BAR's size, and its type bits (R156). -/
def barMask (k : Nat) : Nat := if k = 0 then 0xFF000000 else if k = 2 then 0xFFFF0000 else if k = 4 then 0xFFFFC000 else full
def barType (k : Nat) : Nat := if k = 2 then 0xC else if k % 2 = 0 then 0x4 else 0

/-- The function's capabilities by their PCI identifiers (R155): Power Management, PCI Express, MSI-X, and the extended ones. -/
def capabilityIds : List Nat := [0x01, 0x10, 0x11, 0x0001, 0x0003, 0x0019, 0x0026, 0x002A, 0x0027, 0x0025]

/-- A payload or request size as Device Control codes it: 128 bytes times two to the code. -/
def sizeCode (n : Nat) : Nat := if n ≤ 128 then 0 else if n ≤ 256 then 1 else if n ≤ 512 then 2 else if n ≤ 1024 then 3
  else if n ≤ 2048 then 4 else 5

/-- What a configuration register shows. Fields of a capability stand where PCI Express puts them (log entry 86, PRESUMED). -/
def cfgView (s : State) : CfgReg → Nat
  | .ids => 0x97241E73
  | .command => 0x00100000 + s.hif.cmdBits + 4 * b2n s.hif.busMaster
  | .revisionClass => 0x02800000 + regView s A.GLB_ID % 256
  | .headerType => 0
  | .bar k => sget (fun _ => 0) s.hif.bars k + barType k
  | .subsystem => match Config.otpSubsystem with | some w => w.toNat | none => 0x97241E73
  | .interruptPin => 0
  | .capabilities k => capabilityIds[k]?.getD 0
  | .powerManagement => if s.hif.d3hot then 3 else 0
  | .deviceCapabilities => 0x10008022
  | .deviceCapabilities2 => 0x2001F
  | .deviceControl => (if s.hif.devError then 0x20000 else 0) + s.hif.devBits + sizeCode s.hif.mps * 32 + sizeCode s.hif.mrrs * 4096
  | .deviceControl2 => s.hif.dev2Bits
  | .linkCapabilities => 0x885
  | .linkControl => s.hif.linkBits
  | .msixControl => 127 * 2 ^ 16 + b2n (msixEnabled s) * 2 ^ 31 + b2n (fbit s F.HIF_LINK_FN_MASK) * 2 ^ 30
  | .aerStatus => s.hif.aerStatus
  | .aerMask => s.hif.aerMask
  | .aerSeverity => s.hif.aerSeverity
  | .serialLow => Config.deviceSerial.toNat % 2 ^ 32
  | .serialHigh => Config.deviceSerial.toNat / 2 ^ 32

/-- What a write of a configuration register does; the others take no write. -/
def cfgPut (r : CfgReg) (v : Nat) (s : State) : State :=
  match r with
  | .command => { s with hif := { s.hif with busMaster := bitAt v 2, cmdBits := v &&& 0x542 } }
  | .bar k => { s with hif := { s.hif with bars := sput (fun _ => 0) s.hif.bars k (v &&& barMask k) } }
  | .deviceControl =>
    let m := bits v 5 3
    let q := bits v 12 3
    { s with hif := { s.hif with
      devBits := v &&& 0x91F, devError := s.hif.devError && !bitAt v 17
      mps := if m ≤ 2 then 128 * 2 ^ m else s.hif.mps, mrrs := if q ≤ 5 then 128 * 2 ^ q else s.hif.mrrs } }
  | .deviceControl2 => { s with hif := { s.hif with dev2Bits := v &&& 0x101F } }
  | .linkControl => { s with hif := { s.hif with linkBits := v &&& 0x2 } }
  | .msixControl => sendPending (fput F.HIF_LINK_FN_MASK (bits v 30 1) (fput F.HIF_LINK_MSIX_EN (bits v 31 1) s))
  | .aerStatus => { s with hif := { s.hif with aerStatus := s.hif.aerStatus &&& (full ^^^ v) } }
  | .aerMask => { s with hif := { s.hif with aerMask := v } }
  | .aerSeverity => { s with hif := { s.hif with aerSeverity := v } }
  | _ => s

/-- The two DWORDs of slot `n` of the user page, the low one first, of one core clock (R675). -/
def slotDwords (s : State) (n : Nat) : List Nat := [userSlot s n % 2 ^ 32, userSlot s n / 2 ^ 32]

/-- One of the host's accesses; in D3hot the BARs take none, configuration requests are answered (R160). -/
def pciAccess (a : PciAccess) (s : State) : State :=
  let shown (l : List Nat) : State := { s with hif := { s.hif with readData := l } }
  match a with
  | .unmask v => unmask v s
  | .tableRead k => if s.hif.d3hot then shown [] else shown [tableDword s k]
  | .tableWrite k v => if s.hif.d3hot then s else tablePut k v.toNat s
  | .pbaRead k => if s.hif.d3hot then shown [] else shown [pbaDword s k]
  | .cfgRead r => shown [cfgView s r]
  | .cfgWrite r v => cfgPut r v.toNat s
  | .pageSlot n => if s.hif.d3hot then shown [] else shown (slotDwords s n)
  | .pageDword k => if s.hif.d3hot then shown [] else shown [(slotDwords s (k / 2)).getD (k % 2) 0]

/-- MSIX_UNMASK (R180), and the host's other accesses to MSI-X, configuration space and the user page (log entry 86). -/
def execMsixUnmask (access : PciAccess) (s : State) : Host.Outcome State Fault Refusal :=
  command (.msixUnmask access) s (pciAccess access)

/-! ### The link (R154, R619) -/

/-- The link enters DL_Active, and the host configures the function; messages whose mask this lifts are sent. -/
def hostLinkUp (speed width : Nat) (c : PcieCfg) (s : State) : State :=
  let s := fput F.HIF_LINK_LINK_UP 1 (fput F.HIF_LINK_SPEED speed (fput F.HIF_LINK_WIDTH width s))
  let s := fput F.HIF_LINK_MSIX_EN (b2n c.msixEn) (fput F.HIF_LINK_FN_MASK (b2n c.fnMask) s)
  let s := fput F.PIN_CLK_STATUS_PCIE_OK 1 s
  sendPending { s with hif := { s.hif with busMaster := c.busMaster, mps := c.mps, mrrs := c.mrrs, dlActive := true } }

/-- HOST_LINK_UP (R154). -/
def execHostLinkUp (dt speed width : Nat) (cfg : PcieCfg) (s : State) : Host.Outcome State Fault Refusal :=
  timed (.hostLinkUp dt speed width cfg) dt s (hostLinkUp speed width cfg)

end Machine
end Sys2Proof
end

