-- ==== Sys2Proof/Machine/Errands.lean ====
section
/-! DEFINITION. Machine/Errands.lean: errands: programs in host memory that the Drayman runs (chapter 15, R635 to R646), and
reads of the Drayman that fail (R649). -/
namespace Sys2Proof
namespace Machine

/-- Errand `e` halts with a kind, its PC at the instruction (R648). -/
def errHalt (e kind : Nat) (s : State) : State := haltChan (.err e) kind (errPc s e) s

/-- The instruction in progress is complete, and the next one starts. -/
def errNext (e : Nat) (s : State) : State :=
  bump 26 (3 * e + 1) (fput (F.DRY_ERR_STATUS_PC e) ((errPc s e + 1) % 65536)
    (putErr e { errSt s e with words := [], moved := 0 } s))

/-- An errand carries out the instruction in progress when it is `op`; one that may not run halts it (R637, R639). -/
def errStep (e op : Nat) (act : List Nat → State → State) (s : State) : State :=
  if ¬ errWorks s e then s
  else
    let w := errWords s e
    if ¬ instrOk s e w then errHalt e 8 s
    else if bits (ew w 0) 0 4 = op then act w s
    else s

/-- The arbiters grant errand `e` what it has ready: the read of host memory, and the write, where it has one to make (R618). -/
def errGrant (e : Nat) (s : State) : Bool :=
  (!errReads s e || readGrant s (chanReq (.err e))) && (!errWrites s e || writeGrant s (chanReq (.err e)))

/-- Errand `e` takes what it was granted. -/
def errTaken (e : Nat) (s : State) : State :=
  let t := if errReads s e then readTaken (chanReq (.err e)) s else s
  if errWrites s e then writeTaken (chanReq (.err e)) t else t

/-! ### Device accesses (R638) -/

/-- The DRY block, which no errand reaches. -/
def dryBlock (a : Nat) : Bool := decide (0x160000 ≤ a ∧ a < 0x180000)

/-- Is the full write of `v` at `a` logged as an access error? -/
def writeFails (a v : Nat) (s : State) : Bool :=
  fget (dwordWrite a 15 v (fput F.HIF_ACC_ERR_COUNT_COUNT 0 s)) F.HIF_ACC_ERR_COUNT_COUNT != 0

/-- A read by an errand: the value, whether the errand halts with DEV_ERR, and the state after it. -/
def devRead (a : Nat) (s : State) : Nat × Bool × State :=
  if dryBlock a then (0, true, s)
  else
    let (v, t) := dwordRead a 15 s
    (v, (regAt a).isNone, t)

/-- A write by an errand. -/
def devWrite (a v : Nat) (s : State) : Bool × State :=
  if dryBlock a then (true, s) else (writeFails a v s, dwordWrite a 15 v s)

/-! ### MOVE (R640, R641) -/

/-- Copy the word at offset `o`; whether it meets a DEV_ERR. -/
def copyWord (e : Nat) (m : Move) (o : Nat) (s : State) : Bool × State :=
  let a := m.from_ + (if m.srcFix then 0 else o)
  let b := m.to_ + (if m.dstFix then 0 else o)
  let (v, bad, s) := if m.src = 2 then (m.imm, false, s) else if m.src = 1 then devRead (a % 2 ^ 24) s
    else (ofLe (memRead s a 4), false, s)
  if bad then (true, s)
  else if m.dst = 1 then devWrite (b % 2 ^ 24) v s
  else (false, putErr e { errSt s e with lastWrite := some (b % 2 ^ 64) } (memWrite b (leBytes 4 v) s))

/-- Copy `n` words from the `k`th on; the words copied in all, whether a DEV_ERR ended the copy, and the state. A copy
whose errand a device write has ended goes no further. -/
def copyWords (e : Nat) (m : Move) : Nat → Nat → State → Nat × Bool × State
  | 0, k, s => (k, false, s)
  | n + 1, k, s =>
    let (bad, t) := copyWord e m (moveOffset m k) s
    if bad then (k, true, t)
    else if ¬ errWorks t e then (k + 1, false, t)
    else copyWords e m n (k + 1) t

/-- REMAIN of a MOVE that a DEV_ERR ends at word `k` of a burst that ends at word `n` (R649): how far its reads from host memory
have gone by then is not stated (log entry 27). -/
def haltRemain (m : Move) (k n : Nat) (s : State) : Nat × State :=
  if m.src = 0 then ((Config.dmaRemain s.free).toNat % (m.count - 4 * n + 1), { s with free := s.free + 1 })
  else (m.count - 4 * (k + 1), s)

/-- MOVE: its next burst, when the arbiters grant it (R59, R637, R640). -/
def moveOp (e : Nat) (w : List Nat) (s : State) : State :=
  let m := moveOf w (errIter s e)
  let k := (errSt s e).moved
  let n := moveBurst s m k
  if ¬ errGrant e s then s
  else
    let s := errTaken e s
    let (k', bad, s) := copyWords e m n k (putErr e { errSt s e with words := w, moved := k + n } s)
    let s := bumpN 26 (3 * e) (4 * (k' - k)) s
    if bad then
      let (r, s) := haltRemain m k' (k + n) s
      errHalt e 9 (rput (A.DRY_ERR_REMAIN e) r s)
    else if errWorks s e ∧ m.count ≤ 4 * k' then errNext e s
    else s

/-- MOVE (R640). -/
def execErrandMove (dt e : Nat) (s : State) : Host.Outcome State Fault Refusal :=
  timed (.errandMove dt e) dt s (errStep e opMove (moveOp e))

/-! ### LOOP (R642) -/

/-- LOOP. -/
def loopOp (e : Nat) (w : List Nat) (s : State) : State :=
  let pc := errPc s e
  let i := errIter s e + 1
  if i < ew w 1 then
    bump 26 (3 * e + 1) (fput (F.DRY_ERR_STATUS_PC e) (bits (ew w 0) 16 16) (rput (A.DRY_ERR_ITER e) i
      (putErr e { errSt s e with loopPc := some pc } s)))
  else errNext e (rput (A.DRY_ERR_ITER e) 0 (putErr e { errSt s e with loopPc := none } s))

/-- LOOP (R642). -/
def execErrandLoop (dt e : Nat) (s : State) : Host.Outcome State Fault Refusal :=
  timed (.errandLoop dt e) dt s (errStep e opLoop (loopOp e))

/-! ### WAIT (R643) -/

/-- Look whether a WAIT's condition holds: the answer, whether the look meets a DEV_ERR, and the state after it. -/
def waitLook (w : List Nat) (s : State) : Bool × Bool × State :=
  let kind := bits (ew w 0) 4 2
  if kind = 0 then
    let ok (v : Nat) : Bool := (v &&& ew w 3) == ew w 4
    if bitAt (ew w 0) 6 then (ok (ofLe (memRead s (ew w 2 * 2 ^ 32 + ew w 1) 4)), false, s)
    else
      let (v, bad, t) := devRead (ew w 1 % 2 ^ 24 / 4 * 4) s
      (ok v && !bad, bad, t)
  else if kind = 1 then
    (decide (((ew w 3 * 2 ^ 32 + ew w 2) * 1000000000 + ew w 1) * timeUnit ≤ s.tim.t), false, s)
  else (s.phs.valid && decide (ew w 2 * 2 ^ 56 + ew w 1 * 2 ^ 24 + ew w 3 ≤ phaseInstant s), false, s)

/-- WAIT: complete at once when its condition already holds. -/
def waitOp (e : Nat) (w : List Nat) (s : State) : State :=
  if ¬ errGrant e s then s
  else
    let (ok, bad, t) := waitLook w (errTaken e s)
    if bad then errHalt e 9 t
    else if ok then errNext e t
    else setChan (.err e) stWaiting (putErr e { errSt t e with waitClk := some t.clk, look := t.clk, words := w } t)

/-- WAIT (R643). -/
def execErrandWait (dt e : Nat) (s : State) : Host.Outcome State Fault Refusal :=
  timed (.errandWait dt e) dt s (errStep e opWait (waitOp e))

/-- A WAIT is over: its words are forgotten. -/
def waitOver (e : Nat) (s : State) : State := putErr e { errSt s e with waitClk := none, words := [] } s

/-- A waiting errand looks at its condition, a flag at the pace of R643, and goes on when it holds; a flag in host memory is read
when the arbiter grants it. -/
def waitComplete (e : Nat) (s : State) : State :=
  let w := errWords s e
  let flag := bits (ew w 0) 4 2 == 0
  if chanState s (.err e) ≠ stWaiting ∨ (flag ∧ ¬ lookDue s e (hostFlag w)) ∨ (hostFlag w ∧ (¬ dmaOn s ∨ ¬ errGrant e s)) then s
  else
    let (ok, bad, t) := waitLook w (errTaken e s)
    if bad then errHalt e 9 (waitOver e t)
    else if ok then errNext e (setChan (.err e) stRunning (waitOver e t))
    else putErr e { errSt t e with look := t.clk } t

/-- WAIT_COMPLETE (R643). -/
def execWaitComplete (dt e : Nat) (s : State) : Host.Outcome State Fault Refusal :=
  timed (.waitComplete dt e) dt s (waitComplete e)

/-- TIMEOUT_US has passed, and a time or an instant waited for has not come. -/
def waitTimeout (e : Nat) (s : State) : State :=
  let w := errWords s e
  let come := bits (ew w 0) 4 2 != 0 && (waitLook w s).1
  match (errSt s e).waitClk with
  | some c =>
    if chanState s (.err e) = stWaiting ∧ ew w 5 ≠ 0 ∧ c + ew w 5 * clocksPerUs ≤ s.clk ∧ ¬ come then
      errHalt e 10 (waitOver e s)
    else s
  | none => s

/-- WAIT_TIMEOUT (R643). -/
def execWaitTimeout (dt e : Nat) (s : State) : Host.Outcome State Fault Refusal :=
  timed (.waitTimeout dt e) dt s (waitTimeout e)

/-! ### SIGNAL, FENCE, END (R644 to R646) -/

/-- SIGNAL, when the arbiter grants its write. -/
def signalOp (e : Nat) (w : List Nat) (s : State) : State :=
  if ¬ errGrant e s then s
  else
  let s := errTaken e s
  let s := fput (F.DRY_ERR_SIGNAL_CODE e) (bits (ew w 0) 16 16) s
  let a := ew w 3 * 2 ^ 32 + ew w 2
  let s := if bitAt (ew w 0) 9 then
      memWrite a (leBytes 4 (ew w 1)) (putErr e { errSt s e with lastWrite := some a } s)
    else s
  errNext e (if bitAt (ew w 0) 8 then chanInt (.err e) 3 s else s)

/-- SIGNAL (R644). -/
def execErrandSignal (dt e : Nat) (s : State) : Host.Outcome State Fault Refusal :=
  timed (.errandSignal dt e) dt s (errStep e opSignal (signalOp e))

/-- FENCE: the reads and writes before it have completed, each with its instruction; its zero-length read waits for its grant. -/
def fenceStep (e : Nat) (s : State) : State := if errGrant e s then errNext e (errTaken e s) else s

/-- FENCE (R645). -/
def execErrandFence (dt e : Nat) (s : State) : Host.Outcome State Fault Refusal :=
  timed (.errandFence dt e) dt s (errStep e opFence (fun _ => fenceStep e))

/-- END (R646); the PC stays at it. -/
def endOp (e : Nat) (s : State) : State := bump 26 (3 * e + 1) (chanInt (.err e) 0 (setChan (.err e) stDone s))

/-- END (R646). -/
def execErrandEnd (dt e : Nat) (s : State) : Host.Outcome State Fault Refusal :=
  timed (.errandEnd dt e) dt s (errStep e opEnd (fun _ s => endOp e s))

/-- ERRAND_START (R636). -/
def execErrandStart (e : Nat) (s : State) : Host.Outcome State Fault Refusal :=
  hostCmd (.errandStart e) (A.DRY_ERR_CTL e) s (errStart e)

/-! ### Reads that fail (R649) -/

/-- The read of the next burst of a MOVE fails: what the bursts before it wrote stands; REMAIN is 0 where its issue was the last,
else what the reads issued after it leave, which is not stated (log entry 27). -/
def moveReadError (e : Nat) (w : List Nat) (s : State) : State :=
  let m := moveOf w (errIter s e)
  let k := (errSt s e).moved
  let rest := m.count - 4 * (k + moveBurst s m k)
  if rest = 0 then errHalt e 2 (rput (A.DRY_ERR_REMAIN e) 0 s)
  else errHalt e 1 (rput (A.DRY_ERR_REMAIN e) ((Config.dmaRemain s.free).toNat % (rest + 1)) { s with free := s.free + 1 })

/-- A read for errand `e` fails: one of its MOVE, of its flag or of its FENCE, or else one of an instruction. -/
def errReadError (e : Nat) (s : State) : State :=
  let w := errWords s e
  let op := bits (ew w 0) 0 4
  if chanState s (.err e) = stWaiting then if errReads s e then errHalt e 1 (waitOver e s) else s
  else if ¬ errWorks s e then s
  else if ¬ errReads s e then (if (errSt s e).words = [] then errHalt e 3 s else s)
  else if op = opMove then moveReadError e w s
  else errHalt e 1 s

/-- DMA_READ_ERROR (R649): a receive channel reads descriptors only. -/
def execDmaReadError (dt : Nat) (chan : DryChan) (s : State) : Host.Outcome State Fault Refusal :=
  timed (.dmaReadError dt chan) dt s (fun s =>
    match chan with
    | .rx c => fetchDesc (.rx c) true s
    | .tx c => txReadError c s
    | .err e => errReadError e s)

end Machine
end Sys2Proof
end

