-- ==== Sys2Proof/Machine/Reader.lean ====
section
/-! DEFINITION. Machine/Reader.lean: what the Tally's reader and the Guestbook's spill write into host memory, a burst at each grant
of the Drayman's write arbiter (R618, R667 to R671, R692 to R696). -/
namespace Sys2Proof
namespace Machine

/-- The reader's next burst of counter data: latched values in order, as they stand now (R668, R670). -/
def harvestData (h : Harvest) (s : State) : State :=
  let a := h.addr + 64 + 8 * h.written
  let n := burstLen (writeSize s) a (8 * (harvestGathered h s.clk - h.written)) / 8
  let data := (List.range n).flatMap (fun i => leBytes 8 (sget ctrDefault s.tal.latched (harvestKey (groupsOf h.mask) (h.written + i))))
  memWrite a data { s with tal := { s.tal with harvest := some { h with written := h.written + n } } }

/-- STATUS is written, and the harvest ends (R669). -/
def harvestEnd (h : Harvest) (s : State) : State :=
  let s := memWrite (h.addr + 60) (leBytes 4 (2 ^ 31)) { s with tal := { s.tal with harvest := none } }
  setInt A.TAL_INT_STAT 1 (faddWrap F.TAL_HV_SEQ_SEQ 1 (fput F.TAL_HV_PROGRESS_COUNT h.written
    (fput F.TAL_HV_STATUS_BUSY 0 (fput F.TAL_HV_STATUS_RESULT 0 s))))

/-- The reader's next write: all counter data first, then bytes 0 to 59 of the header, then STATUS (R669). -/
def harvestWrite (s : State) : State :=
  match s.tal.harvest with
  | none => s
  | some h =>
    if ¬ writeGrant s tallyReq then s
    else
      let s := writeTaken tallyReq s
      if h.written < selCount h.mask then harvestData h s
      else if h.header then harvestEnd h s
      else memWrite h.addr (harvestHeader h s) { s with tal := { s.tal with harvest := some { h with header := true } } }

/-- HARVEST_COMPLETE (R668, R669): the reader's next write. -/
def execHarvestComplete (dt : Nat) (s : State) : Host.Outcome State Fault Refusal :=
  timed (.harvestComplete dt) dt s harvestWrite

/-- The Guestbook spills its next batch (R692 to R696). -/
def spillBatch (s : State) : State :=
  let rs := spillRecords s
  if rs = [] ∨ ¬ writeGrant s spillReq then s
  else
    let tail := rget s A.GBK_SPILL_TAIL
    let missed := s.gbk.spillMissed
    let s := spillWrite (spillBase s) (spillSize s) tail rs (writeTaken spillReq s)
    let s := rput A.GBK_SPILL_TAIL ((tail + rs.length) % 2 ^ 32) s
    let s := bumpN 28 12 rs.length (setInt A.GBK_INT_STAT 4 s)
    let next := match rs.getLast? with | some r => (r.seq + 1) % 2 ^ 32 | none => s.gbk.spillNext
    let s := { s with gbk := { s.gbk with spillNext := next, spillMissed := 0 } }
    if missed = 0 then s else raise 0x0F03 noUnit missed 0 (setInt A.GBK_INT_STAT 5 s)

/-- SPILL_BATCH (R693). -/
def execSpillBatch (dt : Nat) (s : State) : Host.Outcome State Fault Refusal :=
  timed (.spillBatch dt) dt s spillBatch

end Machine
end Sys2Proof
end

