-- ==== Sys2Proof/Machine/TableRows.lean ====
section
/-! DEFINITION. Machine/TableRows.lean: the commands at the tables, the fragment table, the templates (chapters 06 to 08). -/
namespace Sys2Proof
namespace Machine

/-- READ (R355). -/
def execTblRead (ctx table h : Nat) (bank : Bool) (s : State) : Host.Outcome State Fault Refusal :=
  hostCmd (.tblRead ctx table h bank) (A.TBL_CMD ctx) s (tblIssue 1 table h bank ctx)

/-- WRITE (R355). -/
def execTblWrite (ctx table h : Nat) (bank : Bool) (s : State) : Host.Outcome State Fault Refusal :=
  hostCmd (.tblWrite ctx table h bank) (A.TBL_CMD ctx) s (tblIssue 2 table h bank ctx)

/-- LOOKUP (R355). -/
def execTblLookup (ctx table h : Nat) (bank : Bool) (s : State) : Host.Outcome State Fault Refusal :=
  hostCmd (.tblLookup ctx table h bank) (A.TBL_CMD ctx) s (tblIssue 3 table h bank ctx)

/-- INSERT (R355). -/
def execTblInsert (ctx table h : Nat) (bank : Bool) (s : State) : Host.Outcome State Fault Refusal :=
  hostCmd (.tblInsert ctx table h bank) (A.TBL_CMD ctx) s (tblIssue 4 table h bank ctx)

/-- UPDATE (R355). -/
def execTblUpdate (ctx table h : Nat) (bank : Bool) (s : State) : Host.Outcome State Fault Refusal :=
  hostCmd (.tblUpdate ctx table h bank) (A.TBL_CMD ctx) s (tblIssue 5 table h bank ctx)

/-- DELETE (R355). -/
def execTblDelete (ctx table h : Nat) (bank : Bool) (s : State) : Host.Outcome State Fault Refusal :=
  hostCmd (.tblDelete ctx table h bank) (A.TBL_CMD ctx) s (tblIssue 6 table h bank ctx)

/-- HIT_SCAN (R338). -/
def execHitScan (ctx table h : Nat) (bank : Bool) (s : State) : Host.Outcome State Fault Refusal :=
  hostCmd (.hitScan ctx table h bank) (A.TBL_CMD ctx) s (tblIssue 7 table h bank ctx)

/-- AGE (R339). -/
def execTblAge (ctx table h : Nat) (bank : Bool) (s : State) : Host.Outcome State Fault Refusal :=
  hostCmd (.tblAge ctx table h bank) (A.TBL_CMD ctx) s (tblIssue 8 table h bank ctx)

/-- FLUSH (R356). -/
def execTblFlush (ctx table h : Nat) (bank : Bool) (s : State) : Host.Outcome State Fault Refusal :=
  hostCmd (.tblFlush ctx table h bank) (A.TBL_CMD ctx) s (tblIssue 9 table h bank ctx)

/-- A table command completes after what the stages of its core clock write: a READ or LOOKUP sees that clock's table, a write
comes after the data path's (R247, R358, R379); only a HIT_SCAN comes before the hits of its clock, which are kept for the next
(R338). -/
def tblInOrder (c : Nat) (s : State) : State :=
  match s.tab.cmds.find? (fun e => e.1 == c) with
  | some (_, x) => tblComplete c (if x.op = 7 then s else if x.op = 1 ∨ x.op = 3 then stagesNow s else tableWrites s)
  | none => s

/-- TBL_CMD_COMPLETE (R353). -/
def execTblCmdComplete (dt ctx : Nat) (s : State) : Host.Outcome State Fault Refusal :=
  timed (.tblCmdComplete dt ctx) dt s (tblInOrder ctx)

/-- MOVER_INSERTION (R329). -/
def execMoverInsertion (dt h table : Nat) (s : State) : Host.Outcome State Fault Refusal :=
  timed (.moverInsertion dt h table) dt s (fun s => moverStep h table (tableWrites s))

/-- TBL_NOTE_W3_READ (R333). -/
def execTblNoteW3Read (h : Nat) (s : State) : Host.Outcome State Fault Refusal :=
  hostRead (.tblNoteW3Read h) s (notePop h)

/-- A read of HTH_EXC_CAP of hearth `h` clears the capture and re-arms it (R265), unless it was made in this core clock (R18). -/
def excCapRead (h : Nat) (s : State) : State :=
  rput (A.HTH_EXC_CAP h) (sget freshDefault s.fresh (A.HTH_EXC_CAP h)) { s with hif := { s.hif with readData := [rget s (A.HTH_EXC_CAP h)] } }

/-- HTH_EXC_CAP_READ (R265). -/
def execHthExcCapRead (h : Nat) (s : State) : Host.Outcome State Fault Refusal :=
  hostRead (.hthExcCapRead h) s (excCapRead h)

/-- An entry of the fragment table whose lifetime has passed leaves it (R271). -/
def fragExpire (i : Nat) (s : State) : State :=
  match fragAt s i with
  | some e => if e.expires ≤ s.clk then { s with dp := { s.dp with frags := sdel s.dp.frags i } } else s
  | none => s

/-- FRAGMENT_ENTRY_EXPIRY (R271). -/
def execFragmentEntryExpiry (dt h set way : Nat) (s : State) : Host.Outcome State Fault Refusal :=
  timed (.fragmentEntryExpiry dt h set way) dt s (fragExpire (8192 * h + 4 * set + way))

/-- TMPL_READ (R369). -/
def execTmplRead (index : Nat) (s : State) : Host.Outcome State Fault Refusal :=
  hostCmd (.tmplRead index) A.FRY_TMPL_CMD s (tmplIssue 1 index)

/-- TMPL_WRITE (R369). -/
def execTmplWrite (index : Nat) (s : State) : Host.Outcome State Fault Refusal :=
  hostCmd (.tmplWrite index) A.FRY_TMPL_CMD s (tmplIssue 2 index)

/-- TMPL_CMD_COMPLETE (R369). -/
def execTmplCmdComplete (dt : Nat) (s : State) : Host.Outcome State Fault Refusal :=
  timed (.tmplCmdComplete dt) dt s tmplComplete

end Machine
end Sys2Proof
end

