-- ==== Sys2Proof/Machine/Dispatch.lean ====
section
/-! DEFINITION. Machine/Dispatch.lean: what each command does, one arm per constructor. -/
namespace Sys2Proof
namespace Machine

/-- The effect of a command on everything but the queue. -/
def exec (i : Instr) (s : State) : Host.Outcome State Fault Refusal :=
  match i with
  | .coldReset byPin => Sys2Proof.Machine.execColdReset byPin s
  | .resetNRise dt => Sys2Proof.Machine.execResetNRise dt s
  | .supplyBrownout dt => Sys2Proof.Machine.execSupplyBrownout dt s
  | .supplyRecovered dt resetNHigh => Sys2Proof.Machine.execSupplyRecovered dt resetNHigh s
  | .refclkLost dt clk => Sys2Proof.Machine.execRefclkLost dt clk s
  | .refclkRestored dt clk => Sys2Proof.Machine.execRefclkRestored dt clk s
  | .coreRefclkLost dt => Sys2Proof.Machine.execCoreRefclkLost dt s
  | .corePllHoldoverExpiry dt => Sys2Proof.Machine.execCorePllHoldoverExpiry dt s
  | .bootFlashSelect dt => Sys2Proof.Machine.execBootFlashSelect dt s
  | .verificationComplete dt => Sys2Proof.Machine.execVerificationComplete dt s
  | .fullLoad => Sys2Proof.Machine.execFullLoad s
  | .shadowLoad => Sys2Proof.Machine.execShadowLoad s
  | .frgAbort => Sys2Proof.Machine.execFrgAbort s
  | .armCommit => Sys2Proof.Machine.execArmCommit s
  | .disarm => Sys2Proof.Machine.execDisarm s
  | .rollback => Sys2Proof.Machine.execRollback s
  | .flushOld => Sys2Proof.Machine.execFlushOld s
  | .bootFlash => Sys2Proof.Machine.execBootFlash s
  | .frgLoadPortWrite value => Sys2Proof.Machine.execFrgLoadPortWrite value s
  | .temperCommit dt => Sys2Proof.Machine.execTemperCommit dt s
  | .temperRelease dt => Sys2Proof.Machine.execTemperRelease dt s
  | .temperDrainTimeout dt => Sys2Proof.Machine.execTemperDrainTimeout dt s
  | .drain => Sys2Proof.Machine.execDrain s
  | .resume => Sys2Proof.Machine.execResume s
  | .endWaking => Sys2Proof.Machine.execEndWaking s
  | .enterSafe => Sys2Proof.Machine.execEnterSafe s
  | .clearSafe => Sys2Proof.Machine.execClearSafe s
  | .enterDiag => Sys2Proof.Machine.execEnterDiag s
  | .endDiag => Sys2Proof.Machine.execEndDiag s
  | .wakeTimerExpiry dt => Sys2Proof.Machine.execWakeTimerExpiry dt s
  | .glbWakeMsWrite value => Sys2Proof.Machine.execGlbWakeMsWrite value s
  | .drainComplete dt => Sys2Proof.Machine.execDrainComplete dt s
  | .drainTimeout dt => Sys2Proof.Machine.execDrainTimeout dt s
  | .warmReset => Sys2Proof.Machine.execWarmReset s
  | .warmResetComplete dt => Sys2Proof.Machine.execWarmResetComplete dt s
  | .hearthReset mask => Sys2Proof.Machine.execHearthReset mask s
  | .hearthResetComplete dt h => Sys2Proof.Machine.execHearthResetComplete dt h s
  | .portReset port => Sys2Proof.Machine.execPortReset port s
  | .portResetRelease port => Sys2Proof.Machine.execPortResetRelease port s
  | .functionLevelReset => Sys2Proof.Machine.execFunctionLevelReset s
  | .hostLinkLoss cause => Sys2Proof.Machine.execHostLinkLoss cause s
  | .d3hotEntry => Sys2Proof.Machine.execD3hotEntry s
  | .frameArrival dt port express bytes => Sys2Proof.Machine.execFrameArrival dt port express bytes s
  | .frameReceiveEnd dt port codeError => Sys2Proof.Machine.execFrameReceiveEnd dt port codeError s
  | .macControlFrame dt port => Sys2Proof.Machine.execMacControlFrame dt port s
  | .pauseTimerExpiry dt port => Sys2Proof.Machine.execPauseTimerExpiry dt port s
  | .mmFragmentReceived dt port frag => Sys2Proof.Machine.execMmFragmentReceived dt port frag s
  | .verifyMpacketReceived dt port => Sys2Proof.Machine.execVerifyMpacketReceived dt port s
  | .respondMpacketReceived dt port => Sys2Proof.Machine.execRespondMpacketReceived dt port s
  | .verifyTimerExpiry dt port => Sys2Proof.Machine.execVerifyTimerExpiry dt port s
  | .linkConditionChange dt port cond => Sys2Proof.Machine.execLinkConditionChange dt port cond s
  | .linkHoldExpiry dt port => Sys2Proof.Machine.execLinkHoldExpiry dt port s
  | .autonegResolved dt port mode => Sys2Proof.Machine.execAutonegResolved dt port mode s
  | .linkTrainingComplete dt done => Sys2Proof.Machine.execLinkTrainingComplete dt done s
  | .decisionPassStart dt h => Sys2Proof.Machine.execDecisionPassStart dt h s
  | .vote dt h faults => Sys2Proof.Machine.execVote dt h faults s
  | .queueSelection dt port => Sys2Proof.Machine.execQueueSelection dt port s
  | .transmitEnd dt port => Sys2Proof.Machine.execTransmitEnd dt port s
  | .ledgerLineBoundary dt port => Sys2Proof.Machine.execLedgerLineBoundary dt port s
  | .ledgerStart dt port => Sys2Proof.Machine.execLedgerStart dt port s
  | .streamGateLineStart dt gate => Sys2Proof.Machine.execStreamGateLineStart dt gate s
  | .ldgBaseSubWrite port value => Sys2Proof.Machine.execLdgBaseSubWrite port value s
  | .mainsEdge dt src edge => Sys2Proof.Machine.execMainsEdge dt src edge s
  | .mainsLossTimeout dt src => Sys2Proof.Machine.execMainsLossTimeout dt src s
  | .phsMsgPost value => Sys2Proof.Machine.execPhsMsgPost value s
  | .msgLossTimeout dt => Sys2Proof.Machine.execMsgLossTimeout dt s
  | .phaseWrap dt => Sys2Proof.Machine.execPhaseWrap dt s
  | .latchPhase => Sys2Proof.Machine.execLatchPhase s
  | .setCycle => Sys2Proof.Machine.execSetCycle s
  | .realign => Sys2Proof.Machine.execRealign s
  | .timedActionArm slot value => Sys2Proof.Machine.execTimedActionArm slot value s
  | .timedActionFire dt slot => Sys2Proof.Machine.execTimedActionFire dt slot s
  | .gpioPulseEnd dt pin => Sys2Proof.Machine.execGpioPulseEnd dt pin s
  | .timSmpPost value => Sys2Proof.Machine.execTimSmpPost value s
  | .trackerLossTimeout dt domainB => Sys2Proof.Machine.execTrackerLossTimeout dt domainB s
  | .latch => Sys2Proof.Machine.execLatch s
  | .stepRel neg => Sys2Proof.Machine.execStepRel neg s
  | .setAbs => Sys2Proof.Machine.execSetAbs s
  | .switchDomain domainB => Sys2Proof.Machine.execSwitchDomain domainB s
  | .timCtlWrite value => Sys2Proof.Machine.execTimCtlWrite value s
  | .clk10mMeasurement dt => Sys2Proof.Machine.execClk10mMeasurement dt s
  | .ppsInEdge dt => Sys2Proof.Machine.execPpsInEdge dt s
  | .ppsOutSecond dt => Sys2Proof.Machine.execPpsOutSecond dt s
  | .ppsOutPulseEnd dt => Sys2Proof.Machine.execPpsOutPulseEnd dt s
  | .txtsRecordRead => Sys2Proof.Machine.execTxtsRecordRead s
  | .utcOffsetSet value => Sys2Proof.Machine.execUtcOffsetSet value s
  | .kixonFrameCheck dt => Sys2Proof.Machine.execKixonFrameCheck dt s
  | .hello dt => Sys2Proof.Machine.execHello dt s
  | .helloAck dt => Sys2Proof.Machine.execHelloAck dt s
  | .helloTimer dt port => Sys2Proof.Machine.execHelloTimer dt port s
  | .delayReqTimer dt port => Sys2Proof.Machine.execDelayReqTimer dt port s
  | .delayReq dt => Sys2Proof.Machine.execDelayReq dt s
  | .delayResp dt => Sys2Proof.Machine.execDelayResp dt s
  | .timeInterval dt => Sys2Proof.Machine.execTimeInterval dt s
  | .timeFrame dt => Sys2Proof.Machine.execTimeFrame dt s
  | .upstreamCandidateExpiry dt port => Sys2Proof.Machine.execUpstreamCandidateExpiry dt port s
  | .trigger dt => Sys2Proof.Machine.execTrigger dt s
  | .keySwitchInstant dt => Sys2Proof.Machine.execKeySwitchInstant dt s
  | .heartbeat dt => Sys2Proof.Machine.execHeartbeat dt s
  | .hbLossTimeout dt => Sys2Proof.Machine.execHbLossTimeout dt s
  | .kixonHostMessage dt => Sys2Proof.Machine.execKixonHostMessage dt s
  | .joinQueueDelivery dt => Sys2Proof.Machine.execJoinQueueDelivery dt s
  | .takeover => Sys2Proof.Machine.execTakeover s
  | .stepDown => Sys2Proof.Machine.execStepDown s
  | .sendTrigger => Sys2Proof.Machine.execSendTrigger s
  | .triggerRepeat dt => Sys2Proof.Machine.execTriggerRepeat dt s
  | .keySwitch => Sys2Proof.Machine.execKeySwitch s
  | .rehello port => Sys2Proof.Machine.execRehello port s
  | .fabSelfWrite value => Sys2Proof.Machine.execFabSelfWrite value s
  | .fabPortCfgWrite port value => Sys2Proof.Machine.execFabPortCfgWrite port value s
  | .tblRead ctx table h bank => Sys2Proof.Machine.execTblRead ctx table h bank s
  | .tblWrite ctx table h bank => Sys2Proof.Machine.execTblWrite ctx table h bank s
  | .tblLookup ctx table h bank => Sys2Proof.Machine.execTblLookup ctx table h bank s
  | .tblInsert ctx table h bank => Sys2Proof.Machine.execTblInsert ctx table h bank s
  | .tblUpdate ctx table h bank => Sys2Proof.Machine.execTblUpdate ctx table h bank s
  | .tblDelete ctx table h bank => Sys2Proof.Machine.execTblDelete ctx table h bank s
  | .hitScan ctx table h bank => Sys2Proof.Machine.execHitScan ctx table h bank s
  | .tblAge ctx table h bank => Sys2Proof.Machine.execTblAge ctx table h bank s
  | .tblFlush ctx table h bank => Sys2Proof.Machine.execTblFlush ctx table h bank s
  | .tblCmdComplete dt ctx => Sys2Proof.Machine.execTblCmdComplete dt ctx s
  | .moverInsertion dt h table => Sys2Proof.Machine.execMoverInsertion dt h table s
  | .tblNoteW3Read h => Sys2Proof.Machine.execTblNoteW3Read h s
  | .hthExcCapRead h => Sys2Proof.Machine.execHthExcCapRead h s
  | .fragmentEntryExpiry dt h set way => Sys2Proof.Machine.execFragmentEntryExpiry dt h set way s
  | .tmplRead index => Sys2Proof.Machine.execTmplRead index s
  | .tmplWrite index => Sys2Proof.Machine.execTmplWrite index s
  | .tmplCmdComplete dt => Sys2Proof.Machine.execTmplCmdComplete dt s
  | .meterBackgroundRefresh dt h meter => Sys2Proof.Machine.execMeterBackgroundRefresh dt h meter s
  | .shaperRateWrite target burst value => Sys2Proof.Machine.execShaperRateWrite target burst value s
  | .tmRegionWrite addr value => Sys2Proof.Machine.execTmRegionWrite addr value s
  | .queueSample dt => Sys2Proof.Machine.execQueueSample dt s
  | .porAlloc pool owner => Sys2Proof.Machine.execPorAlloc pool owner s
  | .porFree owner => Sys2Proof.Machine.execPorFree owner s
  | .porShare owner => Sys2Proof.Machine.execPorShare owner s
  | .porQuery => Sys2Proof.Machine.execPorQuery s
  | .porCmdComplete dt => Sys2Proof.Machine.execPorCmdComplete dt s
  | .poolEnable pool init => Sys2Proof.Machine.execPoolEnable pool init s
  | .poolDisable pool => Sys2Proof.Machine.execPoolDisable pool s
  | .cacheRefill dt pool => Sys2Proof.Machine.execCacheRefill dt pool s
  | .cacheSpill dt pool => Sys2Proof.Machine.execCacheSpill dt pool s
  | .returnQueueRecord dt => Sys2Proof.Machine.execReturnQueueRecord dt s
  | .porterDmaErr dt target => Sys2Proof.Machine.execPorterDmaErr dt target s
  | .channelEnable chan => Sys2Proof.Machine.execChannelEnable chan s
  | .descriptorsPosted chan value => Sys2Proof.Machine.execDescriptorsPosted chan value s
  | .descriptorFetch dt chan error => Sys2Proof.Machine.execDescriptorFetch dt chan error s
  | .dryStop chan => Sys2Proof.Machine.execDryStop chan s
  | .channelStopped dt chan => Sys2Proof.Machine.execChannelStopped dt chan s
  | .resumeChannel chan => Sys2Proof.Machine.execResumeChannel chan s
  | .channelDisable chan => Sys2Proof.Machine.execChannelDisable chan s
  | .rxCopyHandover dt ring => Sys2Proof.Machine.execRxCopyHandover dt ring s
  | .rxRoomAllocation dt ring => Sys2Proof.Machine.execRxRoomAllocation dt ring s
  | .rxCopyComplete dt ring => Sys2Proof.Machine.execRxCopyComplete dt ring s
  | .rxIntModTimer dt ring => Sys2Proof.Machine.execRxIntModTimer dt ring s
  | .txFrameRead dt chan => Sys2Proof.Machine.execTxFrameRead dt chan s
  | .txDescriptorComplete dt chan => Sys2Proof.Machine.execTxDescriptorComplete dt chan s
  | .dmaReadError dt chan => Sys2Proof.Machine.execDmaReadError dt chan s
  | .errandStart e => Sys2Proof.Machine.execErrandStart e s
  | .errandMove dt e => Sys2Proof.Machine.execErrandMove dt e s
  | .errandLoop dt e => Sys2Proof.Machine.execErrandLoop dt e s
  | .errandWait dt e => Sys2Proof.Machine.execErrandWait dt e s
  | .waitComplete dt e => Sys2Proof.Machine.execWaitComplete dt e s
  | .waitTimeout dt e => Sys2Proof.Machine.execWaitTimeout dt e s
  | .errandSignal dt e => Sys2Proof.Machine.execErrandSignal dt e s
  | .errandFence dt e => Sys2Proof.Machine.execErrandFence dt e s
  | .errandEnd dt e => Sys2Proof.Machine.execErrandEnd dt e s
  | .snapshot mask => Sys2Proof.Machine.execSnapshot mask s
  | .talClear mask => Sys2Proof.Machine.execTalClear mask s
  | .harvestStart snapFirst => Sys2Proof.Machine.execHarvestStart snapFirst s
  | .harvestAbort => Sys2Proof.Machine.execHarvestAbort s
  | .harvestComplete dt => Sys2Proof.Machine.execHarvestComplete dt s
  | .talRdSelWrite value => Sys2Proof.Machine.execTalRdSelWrite value s
  | .eventRaise dt code unit arg0 arg1 => Sys2Proof.Machine.execEventRaise dt code unit arg0 arg1 s
  | .summaryTimer dt code => Sys2Proof.Machine.execSummaryTimer dt code s
  | .logPlacement dt => Sys2Proof.Machine.execLogPlacement dt s
  | .gbkRdSeqWrite value => Sys2Proof.Machine.execGbkRdSeqWrite value s
  | .gbkClear => Sys2Proof.Machine.execGbkClear s
  | .gbkClearAll => Sys2Proof.Machine.execGbkClearAll s
  | .spillBatch dt => Sys2Proof.Machine.execSpillBatch dt s
  | .ping tag len => Sys2Proof.Machine.execPing tag len s
  | .getVersion tag len => Sys2Proof.Machine.execGetVersion tag len s
  | .avsStatus tag len => Sys2Proof.Machine.execAvsStatus tag len s
  | .otpKeyHash tag len => Sys2Proof.Machine.execOtpKeyHash tag len s
  | .otpRevoke tag len => Sys2Proof.Machine.execOtpRevoke tag len s
  | .otpImageKey tag len => Sys2Proof.Machine.execOtpImageKey tag len s
  | .otpRaiseSecver tag len => Sys2Proof.Machine.execOtpRaiseSecver tag len s
  | .mbxCompletion dt readBackOk => Sys2Proof.Machine.execMbxCompletion dt readBackOk s
  | .mbxTimeout dt => Sys2Proof.Machine.execMbxTimeout dt s
  | .ostlerBeat dt => Sys2Proof.Machine.execOstlerBeat dt s
  | .ostlerSilent dt => Sys2Proof.Machine.execOstlerSilent dt s
  | .ostlerRestart => Sys2Proof.Machine.execOstlerRestart s
  | .glbVecEoiWrite value => Sys2Proof.Machine.execGlbVecEoiWrite value s
  | .msixUnmask access => Sys2Proof.Machine.execMsixUnmask access s
  | .rcRegisterRead addr be => Sys2Proof.Machine.execRcRegisterRead addr be s
  | .unassignedRead addr be => Sys2Proof.Machine.execUnassignedRead addr be s
  | .unalignedRead addr dwords => Sys2Proof.Machine.execUnalignedRead addr dwords s
  | .bar2Write offset => Sys2Proof.Machine.execBar2Write offset s
  | .poisoned bar2 offset => Sys2Proof.Machine.execPoisoned bar2 offset s
  | .registerWrite addr be value => Sys2Proof.Machine.execRegisterWrite addr be value s
  | .fenceCopy h copy => Sys2Proof.Machine.execFenceCopy h copy s
  | .unfence h => Sys2Proof.Machine.execUnfence h s
  | .copyBist dt h passed => Sys2Proof.Machine.execCopyBist dt h passed s
  | .scrubAccess dt word errors => Sys2Proof.Machine.execScrubAccess dt word errors s
  | .tcamScrub dt h bank row parityBad shadowBad => Sys2Proof.Machine.execTcamScrub dt h bank row parityBad shadowBad s
  | .spare bank => Sys2Proof.Machine.execSpare bank s
  | .bankSpared dt bank => Sys2Proof.Machine.execBankSpared dt bank s
  | .bankWithdrawn dt bank => Sys2Proof.Machine.execBankWithdrawn dt bank s
  | .monitorPoll dt readings => Sys2Proof.Machine.execMonitorPoll dt readings s
  | .monitorCrit dt volt k value => Sys2Proof.Machine.execMonitorCrit dt volt k value s
  | .avsStep dt => Sys2Proof.Machine.execAvsStep dt s
  | .bistRun target => Sys2Proof.Machine.execBistRun target s
  | .bistComplete dt failed => Sys2Proof.Machine.execBistComplete dt failed s
  | .qspiCommand value => Sys2Proof.Machine.execQspiCommand value s
  | .qspiDone dt data => Sys2Proof.Machine.execQspiDone dt data s
  | .i2cStart n value => Sys2Proof.Machine.execI2cStart n value s
  | .i2cDone dt n result data => Sys2Proof.Machine.execI2cDone dt n result data s
  | .i2cDataWrite n value => Sys2Proof.Machine.execI2cDataWrite n value s
  | .i2cDataRead n => Sys2Proof.Machine.execI2cDataRead n s
  | .c22Write phy reg => Sys2Proof.Machine.execC22Write phy reg s
  | .c22Read phy reg => Sys2Proof.Machine.execC22Read phy reg s
  | .c45Write phy dev reg => Sys2Proof.Machine.execC45Write phy dev reg s
  | .c45Read phy dev reg => Sys2Proof.Machine.execC45Read phy dev reg s
  | .mdioDone dt noAnswer data => Sys2Proof.Machine.execMdioDone dt noAnswer data s
  | .gpioEdge dt pin => Sys2Proof.Machine.execGpioEdge dt pin s
  | .ledStream dt => Sys2Proof.Machine.execLedStream dt s
  | .jtagBypass => Sys2Proof.Machine.execJtagBypass s
  | .jtagIdcode => Sys2Proof.Machine.execJtagIdcode s
  | .jtagSamplePreload pins => Sys2Proof.Machine.execJtagSamplePreload pins s
  | .jtagExtest => Sys2Proof.Machine.execJtagExtest s
  | .jtagExtestPulse => Sys2Proof.Machine.execJtagExtestPulse s
  | .jtagExtestTrain => Sys2Proof.Machine.execJtagExtestTrain s
  | .jtagHighz => Sys2Proof.Machine.execJtagHighz s
  | .jtagClamp => Sys2Proof.Machine.execJtagClamp s
  | .slotLastByteArrived dt => Sys2Proof.Machine.execSlotLastByteArrived dt s
  | .quadrantTrainingStart dt q => Sys2Proof.Machine.execQuadrantTrainingStart dt q s
  | .hostLinkUp dt speed width cfg => Sys2Proof.Machine.execHostLinkUp dt speed width cfg s
  | .coreRefclkRestored dt => Sys2Proof.Machine.execCoreRefclkRestored dt s

end Machine
end Sys2Proof
end

