-- ==== Sys2Proof/Safety.lean ====
section
/-! DEFINITION. Safety.lean: the words that statements use: a step that answers a next state, a device that takes host
commands, a device at rest, and what the end of a command may change beside the command's own effect. -/
namespace Sys2Proof
namespace Machine

/-- A step that answers a next state: no fault, no refusal. -/
def StepSafe (s : State) : Prop := ∃ t, step s = .next t

/-- The device takes a host write to the register at `a`: it is not held in cold reset (R140), its function is not in D3hot
(R160), and no warm reset keeps the register's block busy (R170). -/
def HostReady (s : State) (a : Nat) : Prop := held s = false ∧ s.hif.d3hot = false ∧ resetBusy s a = false

/-- `u` is the state in which a command with elapsed time `dt` acts on `s`: the device is not held in cold reset, and the
time has passed. -/
def Elapsed (dt : Nat) (s u : State) : Prop := held s = false ∧ passTime dt s = u

/-- No timer has moved the base state: the wake time is not over, and a drain is neither complete nor out of time (R129, R133). -/
abbrev SteadyBase (s : State) : Prop :=
  wakeOver s = false ∧ (s.glb.base = bDraining → drained s = false ∧ drainOver s = false)

/-- A vote at which every copy, every write and every TCAM row is right. -/
def noFaults : VoteFaults := { ok0 := true, ok1 := true, ok2 := true, writeDisagree := false, tcamParity := none }

/-- The command of table context `c`, when the arbiter runs it and nothing keeps it waiting (R336, R352). -/
def runningCmd (s : State) (c : Nat) : Option TblCmd :=
  if s.tab.turn = some c then ((s.tab.cmds.find? (fun e => e.1 == c)).map Prod.snd).filter (fun x => !tblWaits s c x) else none

/-- A device at rest: the mode last recorded is the mode its conditions give (R124, R125), ALERT_N follows its sources
(R720), and with MSI-X enabled every vector whose condition is 1 has been signalled (R178). -/
def Settled (s : State) : Prop :=
  s.glb.shown = modeOf s ∧ s.hlt.alert = alertWanted s ∧ (msixEnabled s = true → ∀ v ∈ vectorsUp s, vecActive s v = true)

/-- The registers that the end of a command writes by itself: MODE_CHANGE (R125), the Guestbook's interrupt status, and the
ACTIVE bits of the vectors (R178). -/
def settleRegs : List Nat :=
  [A.GLB_INT_STAT, A.GBK_INT_STAT, A.GLB_VEC_ACTIVE 0, A.GLB_VEC_ACTIVE 1, A.GLB_VEC_ACTIVE 2, A.GLB_VEC_ACTIVE 3]

/-- `t` is the state `u` that a command's own effect leaves, but for what the end of every command does: the mode recorded,
the output pins that are now driven named, ALERT_N driven or released and counted, an event recorded, vectors signalled, messages sent or held. -/
structure SettledFrom (u t : State) : Prop where
  rest : t = { u with regs := t.regs, fresh := t.fresh, tal := t.tal, gbk := t.gbk, glb := t.glb, hlt := t.hlt, hif := t.hif,
                      pending := t.pending }
  reg : ∀ r, r ∉ settleRegs → rget t r = rget u r
  talRest : t.tal = { u.tal with live := t.tal.live }
  ctr : ∀ g i, g < 27 → groupBase g + i < groupBase 27 → ctr t g i = ctr u g i
  glbRest : t.glb = { u.glb with shown := t.glb.shown, driven := t.glb.driven }
  hltRest : t.hlt = { u.hlt with alert := t.hlt.alert }
  hifRest : t.hif = { u.hif with pba := t.hif.pba, sent := t.hif.sent }

/-! ### What a command may change -/

/-- The parts of the state. The last five are parts of parts: the base state, which resets and holds are in force, which
Forgings fill the banks, the registers of GLB and FRG but those that follow what goes on, and those of HIF and PRT; a command that changes one of them
changes the part that holds it. -/
inductive Part
  | regs
  | mem
  | clk
  | glb
  | frg
  | hif
  | tal
  | gbk
  | tim
  | phs
  | ldg
  | fab
  | por
  | dry
  | hlt
  | pin
  | prt
  | dp
  | tab
  | fry
  | tmg
  | free
  | pending
  | base
  | rst
  | act
  | low
  | mid
deriving DecidableEq, Repr

/-- Which resets, holds and starts are in force. -/
def resetsOf (s : State) : Bool × Bool × List Nat × Bool × Bool × Bool × Bool × Bool × Option Nat :=
  (s.glb.warmBusy, s.glb.warmToWaking, s.glb.hearthRst, s.glb.started, s.glb.bootDue,
    s.glb.heldPin, s.glb.heldSupply, s.glb.heldClock, s.glb.coreLost)

/-- Which Forgings fill the banks and which of them is active. -/
def forgingsOf (s : State) : Option Forging × Option Forging × Option Forging × List Nat × Nat × Bool :=
  (s.frg.bank0, s.frg.bank1, s.frg.active, s.frg.onBank1, s.frg.oldBank, s.frg.tempering)

/-- Registers of GLB that follow what goes on: those that the end of every command may write, and the counts of what the
budgets of WAKING drop (R148). -/
def followRegs : List Nat := settleRegs ++ (List.range 8).map A.GLB_ADMIT_DROP

/-- The other registers of the blocks GLB and FRG. -/
def lowOf (s : State) (a : Nat) : Nat := if a < 0x20000 ∧ a ∉ followRegs then rget s a else 0

/-- The registers of the blocks HIF and PRT. -/
def midOf (s : State) (a : Nat) : Nat := if 0x20000 ≤ a ∧ a < 0x80000 then rget s a else 0

/-- `t` agrees with `s` in one part of the state. -/
def SamePart : Part → State → State → Prop
  | .regs, s, t => (t.regs, t.fresh) = (s.regs, s.fresh)
  | .mem, s, t => t.mem = s.mem
  | .clk, s, t => t.clk = s.clk
  | .glb, s, t => t.glb = s.glb
  | .frg, s, t => t.frg = s.frg
  | .hif, s, t => t.hif = s.hif
  | .tal, s, t => t.tal = s.tal
  | .gbk, s, t => t.gbk = s.gbk
  | .tim, s, t => t.tim = s.tim
  | .phs, s, t => t.phs = s.phs
  | .ldg, s, t => t.ldg = s.ldg
  | .fab, s, t => t.fab = s.fab
  | .por, s, t => t.por = s.por
  | .dry, s, t => t.dry = s.dry
  | .hlt, s, t => t.hlt = s.hlt
  | .pin, s, t => t.pin = s.pin
  | .prt, s, t => t.prt = s.prt
  | .dp, s, t => t.dp = s.dp
  | .tab, s, t => t.tab = s.tab
  | .fry, s, t => t.fry = s.fry
  | .tmg, s, t => t.tmg = s.tmg
  | .free, s, t => t.free = s.free
  | .pending, s, t => t.pending = s.pending
  | .base, s, t => t.glb.base = s.glb.base
  | .rst, s, t => resetsOf t = resetsOf s
  | .act, s, t => forgingsOf t = forgingsOf s
  | .low, s, t => lowOf t = lowOf s
  | .mid, s, t => midOf t = midOf s

/-- `t` agrees with `s` in every part of the state that is not in `T`. -/
def Agree (T : List Part) (s t : State) : Prop := ∀ p, p ∉ T → SamePart p s t

/-- What the end of every command, an event recorded and an interrupt set may change. -/
def atOnce : List Part := [.regs, .glb, .hif, .tal, .gbk, .hlt]

/-- What the passing of core clocks before a command may change as well. -/
def overTime : List Part := [.clk, .tim, .phs, .ldg, .fab, .por, .prt, .dp, .tab, .tmg, .free, .mid] ++ atOnce

/-- The parts of the state that a command may change: those its rule names, those that the end of every command may
change, and for a command that core clocks precede those that their passing may change. A register that the command does not
write keeps its value all the same; the statements about the command say which. -/
def touches : Instr → List Part
  | .d3hotEntry | .hthExcCapRead _ => atOnce
  | .latchPhase | .latch | .utcOffsetSet _ | .dryStop _ | .snapshot _ | .talClear _ | .harvestStart _
  | .harvestAbort | .talRdSelWrite _ | .gbkRdSeqWrite _ | .gbkClear | .gbkClearAll | .ping _ _ | .getVersion _ _
  | .avsStatus _ _ | .otpKeyHash _ _ | .otpRevoke _ _ | .otpImageKey _ _ | .otpRaiseSecver _ _ | .msixUnmask _
  | .unalignedRead _ _ | .bar2Write _ | .poisoned _ _ | .fenceCopy _ _ | .unfence _ | .spare _ => [.mid] ++ atOnce
  | .i2cDataRead _ => [.pin] ++ atOnce
  | .tblNoteW3Read _ => [.tab] ++ atOnce
  | .txtsRecordRead => [.tim] ++ atOnce
  | .resumeChannel _ | .errandStart _ => [.dry, .mid] ++ atOnce
  | .stepDown | .keySwitch | .fabSelfWrite _ => [.fab, .mid] ++ atOnce
  | .tmplRead _ | .tmplWrite _ => [.fry, .mid] ++ atOnce
  | .glbWakeMsWrite _ | .tmRegionWrite _ _ | .descriptorsPosted _ _ | .glbVecEoiWrite _ | .bistRun _ =>
    [.low, .mid] ++ atOnce
  | .qspiCommand _ | .i2cStart _ _ | .i2cDataWrite _ _ | .c22Write _ _ | .c22Read _ _ | .c45Write _ _ _
  | .c45Read _ _ _ => [.pin, .mid] ++ atOnce
  | .ldgBaseSubWrite _ _ => [.ldg, .mid] ++ atOnce
  | .setCycle | .realign | .timedActionArm _ _ => [.phs, .mid] ++ atOnce
  | .porAlloc _ _ | .porFree _ | .porShare _ | .porQuery | .poolEnable _ _ => [.por, .mid] ++ atOnce
  | .switchDomain _ => [.tim, .mid] ++ atOnce
  | .takeover => [.fab, .dp, .mid] ++ atOnce
  | .fullLoad => [.frg, .low, .mid] ++ atOnce
  | .channelEnable _ => [.dry, .low, .mid] ++ atOnce
  | .shaperRateWrite _ _ _ => [.tmg, .low, .mid] ++ atOnce
  | .phsMsgPost _ => [.phs, .ldg, .mid] ++ atOnce
  | .timSmpPost _ | .timCtlWrite _ => [.tim, .phs, .mid] ++ atOnce
  | .poolDisable _ => [.mem, .por, .mid] ++ atOnce
  | .tblRead _ _ _ _ | .tblWrite _ _ _ _ | .tblLookup _ _ _ _ | .tblInsert _ _ _ _ | .tblUpdate _ _ _ _
  | .tblDelete _ _ _ _ | .hitScan _ _ _ _ | .tblAge _ _ _ _ | .tblFlush _ _ _ _ => [.tab, .free, .mid] ++ atOnce
  | .channelDisable _ => [.dry, .dp, .tmg, .mid] ++ atOnce
  | .disarm => [.frg, .fab, .low, .mid] ++ atOnce
  | .armCommit | .rollback => [.frg, .ldg, .low, .mid] ++ atOnce
  | .rehello _ | .fabPortCfgWrite _ _ => [.fab, .dp, .free, .mid] ++ atOnce
  | .stepRel _ | .setAbs => [.tim, .phs, .ldg, .mid] ++ atOnce
  | .hearthReset _ => [.dp, .tmg, .rst, .low, .mid] ++ atOnce
  | .drain | .endWaking | .clearSafe => [.dp, .tmg, .base, .low, .mid] ++ atOnce
  | .rcRegisterRead _ _ | .unassignedRead _ _ => [.tim, .pin, .tab, .low, .mid] ++ atOnce
  | .shadowLoad => [.frg, .ldg, .tab, .act, .low, .mid] ++ atOnce
  | .sendTrigger => [.frg, .phs, .ldg, .fab, .dp, .low, .mid] ++ atOnce
  | .portReset _ | .portResetRelease _ => [.fab, .pin, .prt, .dp, .tmg, .free, .low, .mid] ++ atOnce
  | .flushOld => [.frg, .fab, .por, .dry, .dp, .tmg, .act, .low, .mid] ++ atOnce
  | .frgAbort => [.frg, .ldg, .fab, .dp, .tab, .base, .act, .low, .mid] ++ atOnce
  | .enterDiag => [.fab, .pin, .prt, .dp, .tmg, .free, .base, .low, .mid] ++ atOnce
  | .resume => [.frg, .fab, .pin, .prt, .dp, .tmg, .free, .base, .low, .mid] ++ atOnce
  | .refclkRestored _ _ | .frameReceiveEnd _ _ _ | .macControlFrame _ _ | .pauseTimerExpiry _ _
  | .verifyMpacketReceived _ _ | .respondMpacketReceived _ _ | .verifyTimerExpiry _ _ | .decisionPassStart _ _
  | .ledgerLineBoundary _ _ | .ledgerStart _ _ | .streamGateLineStart _ _ | .mainsEdge _ _ _
  | .mainsLossTimeout _ _ | .msgLossTimeout _ | .phaseWrap _ | .trackerLossTimeout _ _ | .clk10mMeasurement _
  | .ppsInEdge _ | .ppsOutSecond _ | .ppsOutPulseEnd _ | .kixonFrameCheck _ | .hello _ | .helloAck _
  | .helloTimer _ _ | .delayReqTimer _ _ | .delayReq _ | .delayResp _ | .timeInterval _ | .timeFrame _
  | .upstreamCandidateExpiry _ _ | .keySwitchInstant _ | .heartbeat _ | .hbLossTimeout _ | .kixonHostMessage _
  | .joinQueueDelivery _ | .triggerRepeat _ | .tblCmdComplete _ _ | .moverInsertion _ _ _
  | .fragmentEntryExpiry _ _ _ _ | .meterBackgroundRefresh _ _ _ | .queueSample _ | .porCmdComplete _
  | .porterDmaErr _ _ | .errandEnd _ _ | .eventRaise _ _ _ _ _ | .summaryTimer _ _ | .logPlacement _
  | .mbxCompletion _ _ | .mbxTimeout _ | .ostlerBeat _ | .ostlerSilent _ | .copyBist _ _ _ | .tcamScrub _ _ _ _ _ _
  | .bankSpared _ _ | .bankWithdrawn _ _ | .avsStep _ | .bistComplete _ _ | .gpioEdge _ _ | .hostLinkUp _ _ _ _ =>
    overTime
  | .cacheRefill _ _ | .returnQueueRecord _ | .descriptorFetch _ _ _ | .channelStopped _ _ | .rxCopyHandover _ _
  | .rxIntModTimer _ _ | .txFrameRead _ _ | .dmaReadError _ _ | .errandLoop _ _ | .errandFence _ _
  | .scrubAccess _ _ _ => [.dry] ++ overTime
  | .frameArrival _ _ _ _ | .mmFragmentReceived _ _ _ | .linkConditionChange _ _ _ | .linkHoldExpiry _ _
  | .autonegResolved _ _ _ | .linkTrainingComplete _ _ | .transmitEnd _ _ | .timedActionFire _ _
  | .gpioPulseEnd _ _ | .i2cDone _ _ _ _ | .mdioDone _ _ _ | .ledStream _ | .quadrantTrainingStart _ _ =>
    [.pin] ++ overTime
  | .vote _ _ _ | .tmplCmdComplete _ => [.fry] ++ overTime
  | .resetNRise _ | .coreRefclkLost _ | .hearthResetComplete _ _ => [.rst] ++ overTime
  | .functionLevelReset | .hostLinkLoss _ =>
    [.mem, .frg, .tim, .ldg, .fab, .por, .dry, .dp, .tab, .base, .act, .low, .mid] ++ atOnce
  | .wakeTimerExpiry _ | .drainComplete _ => [.base] ++ overTime
  | .enterSafe | .endDiag =>
    [.frg, .phs, .ldg, .fab, .pin, .prt, .dp, .tmg, .free, .base, .act, .low, .mid] ++ atOnce
  | .qspiDone _ _ => [.frg, .pin] ++ overTime
  | .trigger _ => [.frg, .low] ++ overTime
  | .queueSelection _ _ => [.fry, .low] ++ overTime
  | .supplyRecovered _ _ => [.rst, .low] ++ overTime
  | .cacheSpill _ _ | .rxRoomAllocation _ _ | .rxCopyComplete _ _ | .txDescriptorComplete _ _ | .errandSignal _ _
  | .harvestComplete _ | .spillBatch _ => [.mem, .dry] ++ overTime
  | .drainTimeout _ => [.base, .low] ++ overTime
  | .temperCommit _ | .temperRelease _ => [.frg, .act, .low] ++ overTime
  | .errandWait _ _ | .waitComplete _ _ | .waitTimeout _ _ => [.dry, .pin, .low] ++ overTime
  | .frgLoadPortWrite _ | .ostlerRestart =>
    [.frg, .phs, .ldg, .fab, .pin, .prt, .dp, .tab, .fry, .tmg, .free, .base, .act, .low, .mid] ++ atOnce
  | .temperDrainTimeout _ => [.frg, .dry, .act, .low] ++ overTime
  | .bootFlash =>
    [.frg, .phs, .ldg, .fab, .pin, .prt, .dp, .tab, .fry, .tmg, .free, .base, .rst, .act, .low, .mid] ++ atOnce
  | .monitorPoll _ _ | .monitorCrit _ _ _ _ => [.frg, .pin, .base, .act, .low] ++ overTime
  | .jtagBypass | .jtagIdcode | .jtagSamplePreload _ | .jtagExtest | .jtagExtestPulse | .jtagExtestTrain
  | .jtagHighz | .jtagClamp =>
    [.mem, .frg, .tim, .ldg, .fab, .por, .dry, .pin, .prt, .dp, .tab, .tmg, .free, .base, .act, .low, .mid] ++ atOnce
  | .verificationComplete _ | .slotLastByteArrived _ => [.frg, .pin, .fry, .base, .act, .low] ++ overTime
  | .warmResetComplete _ => [.frg, .pin, .base, .rst, .act, .low] ++ overTime
  | .coldReset _ =>
    [.clk, .frg, .tim, .phs, .ldg, .fab, .por, .dry, .pin, .prt, .dp, .tab, .fry, .tmg, .base, .rst, .act, .low, .mid] ++ atOnce
  | .bootFlashSelect _ => [.frg, .pin, .fry, .base, .rst, .act, .low] ++ overTime
  | .refclkLost _ _ => [.mem, .frg, .dry, .pin, .base, .act, .low] ++ overTime
  | .supplyBrownout _ | .corePllHoldoverExpiry _ | .coreRefclkRestored _ =>
    [.frg, .dry, .pin, .fry, .base, .rst, .act, .low] ++ overTime
  | .warmReset | .errandMove _ _ | .registerWrite _ _ _ =>
    [.mem, .frg, .dry, .pin, .fry, .base, .rst, .act, .low] ++ overTime

end Machine
end Sys2Proof
end

