-- ==== Sys2Proof/Certificates/Slice0/Obligations.lean ====
section
/-! DEFINITION. Certificates/Slice0/Obligations.lean: what is claimed of the model, one proposition a claim. In the clauses of
the families `s` is the state before the command, `u` the state once the clocks the command waits for have passed, and `t` the
state after it; each clause gives where its command completes and what it then leaves. -/

open Sys2Proof Sys2Proof.Machine

/-- A step at a state with command `c` in front of its queue is `exec c` on the state with the queue's rest (how a block
takes its commands). -/
def Obligations.StepRunsTheFrontCommand : Prop :=
  ∀ (c : Instr) (rest : List Instr) (s : State), step { s with pending := c :: rest } = exec c { s with pending := rest }

/-- With no command waiting one core clock passes (the model's choice, log entry 1): a device held in cold reset stays as it is;
any other is one clock further, in the state that the passing of the clock gives but for what the end of every command does,
and it has settled. -/
def Obligations.AnEmptyQueueLetsAClockPass : Prop :=
  ∀ s : State, s.pending = [] → ∃ t, step s = .next t ∧ t.pending = [] ∧ (held s = true → t = s) ∧
    (held s = false → SettledFrom (passTime 1 s) t ∧ t.clk = s.clk + 1 ∧ Settled t)

/-- The state after the power-on cold reset: the base state is DORMANT and so is the mode, core clock 0 stands, neither a pin
nor a supply nor a clock holds the device, GLB_RST_CAUSE is 1 and every other register holds its reset value, the buffer, the tables and both Forging
banks are empty, no Forging is active and no load is open, device time and the phase clock are not valid, every counter is 0,
every Drayman data channel is DISABLED, no front port's link is up, the Guestbook holds no record and no command waits. -/
def Obligations.StateAfterReset : Prop :=
  State.reset.glb.base = bDormant ∧ modeOf State.reset = bDormant ∧ held State.reset = false ∧ State.reset.clk = 0 ∧
  rget State.reset A.GLB_RST_CAUSE = 1 ∧ (∀ r, r ≠ A.GLB_RST_CAUSE → rget State.reset r = (regReset r).toNat) ∧
  State.reset.dp = Dp.cold ∧ State.reset.tab = Tab.cold ∧ State.reset.frg.bank0 = none ∧ State.reset.frg.bank1 = none ∧
  State.reset.frg.active = none ∧ State.reset.frg.load = none ∧ State.reset.tim.valid = false ∧
  State.reset.phs.valid = false ∧ (∀ g i, ctr State.reset g i = 0) ∧
  (∀ c, c < 64 → chanState State.reset (.rx c) = stDisabled ∧ chanState State.reset (.tx c) = stDisabled) ∧
  (∀ p, p < 72 → linkUp State.reset p = false) ∧ State.reset.gbk.log = [] ∧ State.reset.pending = []

/-- The state after reset meets the invariants that every step keeps: the device is at rest, the base state is one of the eight,
and host memory is in its canonical form. -/
def Obligations.ResetMeetsTheInvariants : Prop :=
  Settled State.reset ∧ State.reset.glb.base ∈ [bDormant, bLoading, bVerifying, bWaking, bRun, bDraining, bQuiesced, bDiagnostic] ∧
    memWf State.reset.mem = true

/-- Every command whose operands name what the device has answers a next state, and every other stops as ill formed: no
ordinary data ends a run. -/
def Obligations.WellFormedCommandsComplete : Prop :=
  ∀ (c : Instr) (s : State), (wellFormed c = true → ∃ t, exec c s = .next t) ∧
    (wellFormed c = false → exec c s = .fault .illFormed)

/-- A command leaves the queue as it is (a command adds no command, the model's reading of a block). -/
def Obligations.CommandsKeepTheQueue : Prop :=
  ∀ (c : Instr) (s t : State), exec c s = .next t → t.pending = s.pending

/-- A device held in cold reset takes no command but those of its reset pin, its supplies, the return of its core clock and
its JTAG port: every other leaves it as it is. -/
def Obligations.AHeldDeviceTakesPinsOnly : Prop :=
  ∀ (c : Instr) (s : State), held s = true → wellFormed c = true →
    match c with
    | .coldReset _ | .resetNRise _ | .supplyBrownout _ | .supplyRecovered _ _ | .coreRefclkRestored _ | .jtagBypass
    | .jtagIdcode | .jtagSamplePreload _ | .jtagExtest | .jtagExtestPulse | .jtagExtestTrain | .jtagHighz | .jtagClamp => True
    | _ => exec c s = .next s

/-- The device is at rest after every step that starts from a device at rest: the mode last recorded is the mode its conditions
give, ALERT_N stands as its sources ask, and with MSI-X enabled every vector whose condition is 1 is active. -/
def Obligations.EveryStepSettles : Prop :=
  ∀ s t : State, Settled s → step s = .next t → Settled t

/-- Every step keeps the canonical form of host memory (the model's form of it): addresses rise strictly, none is listed with
the value an unlisted one reads as. -/
def Obligations.EveryStepKeepsMemoryCanonical : Prop :=
  ∀ s t : State, memWf s.mem = true → step s = .next t → memWf t.mem = true

/-- Every step keeps the base state one of DORMANT, LOADING, VERIFYING, WAKING, RUN, DRAINING, QUIESCED and DIAGNOSTIC. -/
def Obligations.EveryStepKeepsALegalBaseState : Prop :=
  ∀ s t : State, s.glb.base ∈ [bDormant, bLoading, bVerifying, bWaking, bRun, bDraining, bQuiesced, bDiagnostic] →
    step s = .next t → t.glb.base ∈ [bDormant, bLoading, bVerifying, bWaking, bRun, bDraining, bQuiesced, bDiagnostic]

/-- The frame of every command: what it changes lies in the parts of the state that `touches` names for it; every other part,
is as before (`touches` lists the parts, `SamePart` says what each of them is). -/
def Obligations.CommandsTouchOnlyTheirParts : Prop :=
  ∀ (c : Instr) (s t : State), exec c s = .next t → Agree (touches c) s t

/-- The frame over registers of host commands that act at once: beside the registers named for each, the four registers that an
access error writes and those that the end of every command writes, no register changes. -/
def Obligations.HostCommandsKeepOtherRegisters : Prop :=
  ∀ (v : Word) (h i j k : Nat) (d : DryChan) (a : PciAccess) (b : Bool) (c : Instr) (L : List Nat) (s t : State),
    (c, L) ∈ [
      (Instr.glbWakeMsWrite v, [A.GLB_WAKE_MS]),
      (.glbVecEoiWrite v, []),
      (.msixUnmask a, [A.HIF_LINK]),
      (.latch, [A.TIM_CMD_STATUS, A.TIM_LAT_SEC_HI, A.TIM_LAT_SEC_LO, A.TIM_LAT_NS, A.TIM_LAT_FRAC]),
      (.utcOffsetSet v, [A.TIM_UTC_OFFSET]),
      (.txtsRecordRead, []),
      (.latchPhase, [A.PHS_CMD_STATUS, A.PHS_LAT_SEC_HI, A.PHS_LAT_SEC_LO, A.PHS_LAT_NS, A.PHS_LAT_FRAC, A.PHS_LAT_CYCLE_HI,
        A.PHS_LAT_CYCLE_LO, A.PHS_LAT_PHASE]),
      (.setCycle, [A.PHS_CMD_STATUS]),
      (.tblNoteW3Read h, []),
      (.hthExcCapRead h, [A.HTH_EXC_CAP h]),
      (.tblRead i j h b, [A.TBL_STATUS i]),
      (.tmplRead i, [A.FRY_TMPL_STATUS]),
      (.porAlloc i j, [A.POR_CMD_STATUS]),
      (.porFree i, [A.POR_CMD_STATUS]),
      (.porShare i, [A.POR_CMD_STATUS]),
      (.porQuery, [A.POR_CMD_STATUS]),
      (.dryStop d, [dryBase d + 8]),
      (.talClear v, []),
      (.talRdSelWrite v, [A.TAL_RD_SEL, A.TAL_RD_HI, A.TAL_RD_LO]),
      (.gbkRdSeqWrite v, A.GBK_RD_SEQ :: A.GBK_RD_STATUS :: (List.range 8).map A.GBK_RD_W),
      (.gbkClear, []),
      (.gbkClearAll, []),
      (.ping i j, [A.HIF_MBX_STATUS]),
      (.fabSelfWrite v, [A.FAB_SELF]),
      (.unfence h, [A.HLT_FENCE, A.HLT_FENCE_STATUS]),
      (.i2cDataRead i, [A.PIN_I2C_STATUS i]),
      (.i2cDataWrite i v, [A.PIN_I2C_STATUS i]),
      (.c22Read j k, [A.PIN_MDIO_STATUS])] →
    exec c s = .next t →
    ∀ r, r ∉ settleRegs → r ∉ L → r ∉ [A.HIF_ACC_ERR_STAT, A.HIF_ACC_ERR_ADDR, A.HIF_ACC_ERR_COUNT, A.HIF_INT_STAT] →
      rget t r = rget s r

/-- Host memory (the model's form of it, log entry 3): the bytes written read back, every other byte reads as before, and the
canonical form is kept. -/
def Obligations.MemoryKeepsWhatIsWritten : Prop :=
  ∀ (a : Nat) (l : List Byte) (s : State), l.length ≤ 2 ^ 64 → memRead (memWrite a l s) a l.length = l ∧
    (∀ x, (∀ i, i < l.length → x % 2 ^ 64 ≠ (a + i) % 2 ^ 64) → memByte (memWrite a l s) x = memByte s x) ∧
    (memWf s.mem = true → memWf (memWrite a l s).mem = true)

/-- R720: ALERT_N is driven low while a monitor enabled in HLT_ALERT_CTL is in WARN or CRIT, or while a condition enabled there
holds: FENCED, SPARES_EXHAUSTED, OSTLER_SILENT, or the SAFE latch, which always asserts; it is released otherwise. -/
def Obligations.AlertFollowsItsSources : Prop :=
  ∀ (c : Instr) (s t : State), held s = false → exec c s = .next t →
    (t.hlt.alert = true ↔
      (bitAt (rget t A.HLT_ALERT_CTL) 0 = true ∧ ∃ e, (e ∈ t.hlt.tempState ∨ e ∈ t.hlt.voltState) ∧ e.2 ≠ 0) ∨
      (bitAt (rget t A.HLT_ALERT_CTL) 1 = true ∧ ∃ h, h < 4 ∧ bitAt (rget t A.HLT_FENCE) (4 * h + 3) = true) ∨
      (bitAt (rget t A.HLT_ALERT_CTL) 2 = true ∧ ∀ q, q < 4 → bitAt (rget t A.HLT_BANK_MAP) (8 * q + 7) = true) ∨
      (bitAt (rget t A.HLT_ALERT_CTL) 3 = true ∧ t.hif.ostlerSilent = true) ∨ rget t A.GLB_SAFE_CAUSE ≠ 0)

/-- When an RC register is read, RW fields that share the register are unaffected; its RC fields clear, but for the conditions
that have occurred in the core clock of the read (unless the register is one that the end of the command itself writes). -/
def Obligations.ReadsLeaveWritableFields : Prop :=
  ∀ (a be : Nat) (d : RegDef) (s : State), wellFormed (.rcRegisterRead a be) = true → regAt a = some d → d.rc ≠ 0 →
    held s = false → s.hif.d3hot = false → (be = fullBe ∨ narrow be = true) → ∃ t, exec (.rcRegisterRead a be) s = .next t ∧
      rget t a &&& d.rw = rget s a &&& d.rw ∧
      (a ∉ settleRegs → rget t a &&& d.rc = sget freshDefault s.fresh a &&& d.rc)

/-- A cold reset, by power-on or by RESET_N low, resets everything of the device and keeps the OTP contents only: every register
but GLB_RST_CAUSE holds its reset value, GLB_RST_CAUSE says which of the two it was, the base state is DORMANT, the mode
controller, the loader, the ports, the data path, the tables, the templates, the shapers, the ledgers, the phase clock, device
time, the Kixon fabric, the Porter, the Drayman, the counters, the Guestbook and the monitors are in their first states, no Forging
is loaded, and the device is held until RESET_N rises. The key hashes, revocations, security version, image key and speed grade
in OTP are as before; so are the flash and host memory, which are no part of the device. -/
def Obligations.ColdResetKeepsOnlyOtp : Prop :=
  ∀ (byPin : Bool) (s : State), ∃ t, exec (.coldReset byPin) s = .next t ∧
    t.glb.base = bDormant ∧ t.glb.heldPin = true ∧ t.glb.started = false ∧ t.glb.warmBusy = false ∧ t.glb.quadrants = 0 ∧
    t.clk = 0 ∧ t.prt = [] ∧ t.dp = Dp.cold ∧ t.tab = Tab.cold ∧ t.fry = Fry.cold ∧ t.tmg = Tmg.cold ∧ t.ldg = Ldg.cold ∧
    t.phs = Phs.cold ∧ t.tim = Tim.cold ∧ t.fab = Fab.cold ∧ t.por = Por.cold ∧ t.dry = Dry.cold ∧ t.tal = Tal.cold ∧
    t.gbk = Gbk.cold ∧ t.hlt = Hlt.cold ∧ t.frg = { Frg.cold with flash := s.frg.flash } ∧
    t.hif.keyHash0 = s.hif.keyHash0 ∧ t.hif.keyHash1 = s.hif.keyHash1 ∧
    t.hif.revoked0 = s.hif.revoked0 ∧ t.hif.revoked1 = s.hif.revoked1 ∧ t.hif.secver = s.hif.secver ∧
    t.hif.imageKey = s.hif.imageKey ∧ t.hif.grade = s.hif.grade ∧ t.hif.busMaster = false ∧ t.hif.d3hot = false ∧
    t.hif.unmasked = [] ∧ t.hif.mbxCmd = none ∧ t.hif.ostlerSilent = false ∧ t.mem = s.mem ∧
    rget t A.GLB_RST_CAUSE = (if byPin then 2 else 1) ∧ ∀ r, r ≠ A.GLB_RST_CAUSE → rget t r = (regReset r).toNat

/-- Into and out of cold reset by pin, supply and core clock. RESET_N rises on a device nothing else holds: it starts up, with a
boot due and device time running. A supply fails: a device that was not held is reset and held. The supply recovers with RESET_N
high: the device starts up with POWER_ON as its cause. CLK_REF is lost: the clock of the loss is kept and the device goes on. It
stays away for 140,000 core clocks, as long as the core PLL runs on: the device is reset and held. It returns before: the loss is
over, PIN_CLK_STATUS.CORE_LOST_SEEN is 1 and the data path and the tables are untouched. -/
def Obligations.ResetPinSuppliesAndCoreClock : Prop :=
  (∀ (dt : Nat) (s : State), s.glb.heldPin = true → s.glb.heldSupply = false → s.glb.heldClock = false →
    s.glb.started = false → ∃ t, exec (.resetNRise dt) s = .next t ∧
      held t = false ∧ t.glb.started = true ∧ t.glb.bootDue = true ∧ t.tim.running = true ∧ t.clk = s.clk ∧
      fget t F.PIN_CLK_STATUS_SD_OK = 15 ∧ fget t F.PIN_CLK_STATUS_PORCH_OK = 1 ∧
      rget t A.GLB_RST_CAUSE = rget s A.GLB_RST_CAUSE ∧ t.mem = s.mem ∧ t.dp = s.dp ∧ t.tab = s.tab) ∧
  (∀ (dt : Nat) (s : State), held s = false → ∃ t, exec (.supplyBrownout dt) s = .next t ∧
      t.glb.heldSupply = true ∧ held t = true ∧ t.glb.base = bDormant ∧ t.clk = 0 ∧ t.dp = Dp.cold ∧ t.tab = Tab.cold ∧
      t.frg.active = none) ∧
  (∀ (dt : Nat) (s : State), s.glb.heldSupply = true → s.glb.heldClock = false → s.glb.started = false →
    ∃ t, exec (.supplyRecovered dt true) s = .next t ∧
      held t = false ∧ t.glb.started = true ∧ t.tim.running = true ∧ bitAt (rget t A.GLB_RST_CAUSE) 0 = true ∧
      t.mem = s.mem) ∧
  (∀ (dt : Nat) (s : State), held s = false → (passTime dt s).glb.coreLost = none →
    ∃ t, exec (.coreRefclkLost dt) s = .next t ∧
      t.glb.coreLost = some (passTime dt s).clk ∧ held t = held (passTime dt s) ∧ t.dp = (passTime dt s).dp) ∧
  (∀ (dt c : Nat) (s : State), held s = false → (passTime dt s).glb.coreLost = some c →
    c + 140000 ≤ (passTime dt s).clk → ∃ t, exec (.corePllHoldoverExpiry dt) s = .next t ∧
      held t = true ∧ t.glb.heldClock = true ∧ t.glb.base = bDormant ∧ t.clk = 0 ∧ t.dp = Dp.cold ∧ t.tab = Tab.cold) ∧
  (∀ (dt c : Nat) (s : State), held s = false → (passTime dt s).glb.coreLost = some c →
    (passTime dt s).clk < c + 140000 → (passTime dt s).glb.heldClock = false →
    ∃ t, exec (.coreRefclkRestored dt) s = .next t ∧
      t.glb.coreLost = none ∧ fget t F.PIN_CLK_STATUS_CORE_LOST_SEEN = 1 ∧ t.clk = (passTime dt s).clk ∧
      t.dp = (passTime dt s).dp ∧ t.tab = (passTime dt s).tab)

/-- Resets that are not cold, and the host's link. A warm reset begins: the device is busy with it, no hearth is in reset and no
load is open. It ends: the device is no longer busy, and is in WAKING if it had a Forging. A function-level reset, or the loss
of the host's link, gives up the mailbox command, leaves D3hot, takes bus mastering from the function, masks every vector and
empties the stamp FIFO; the phase clock, templates, pins and ports are untouched, and where the link itself is lost HIF_LINK shows
it down. The function enters D3hot, and no register but those the end of a command writes changes. The link comes up at a speed
and width, which HIF_LINK shows with the MSI-X state that the host configures. -/
def Obligations.WarmAndFunctionResets : Prop :=
  (∀ s : State, HostReady s A.GLB_RESET → s.glb.warmBusy = false → ∃ t, exec .warmReset s = .next t ∧
    t.glb.warmBusy = true ∧ t.glb.hearthRst = [] ∧ t.frg.load = none) ∧
  (∀ (dt : Nat) (s : State), held s = false → (passTime dt s).glb.warmBusy = true →
    ∃ t, exec (.warmResetComplete dt) s = .next t ∧ t.glb.warmBusy = false ∧
      ((passTime dt s).glb.warmToWaking = true → t.glb.base = bWaking)) ∧
  (∀ s : State, held s = false → ∃ t, exec .functionLevelReset s = .next t ∧
    t.hif.mbxCmd = none ∧ t.hif.d3hot = false ∧ t.hif.busMaster = false ∧ t.hif.unmasked = [] ∧
    t.tim.txts = [] ∧ t.phs = s.phs ∧ t.fry = s.fry ∧ t.pin = s.pin ∧ t.prt = s.prt) ∧
  (∀ (cause : HostLoss) (s : State), held s = false → (cause = .d3hotToD0 → s.hif.d3hot = true) →
    ∃ t, exec (.hostLinkLoss cause) s = .next t ∧
      t.hif.mbxCmd = none ∧ t.hif.d3hot = false ∧ t.hif.busMaster = false ∧ t.hif.unmasked = [] ∧ t.tim.txts = [] ∧
      t.phs = s.phs ∧ t.fry = s.fry ∧ t.pin = s.pin ∧ t.prt = s.prt ∧
      (cause ≠ .d3hotToD0 → t.hif.dlActive = false ∧ fget t F.HIF_LINK_LINK_UP = 0 ∧ fget t F.HIF_LINK_SPEED = 0 ∧
        fget t F.HIF_LINK_WIDTH = 0)) ∧
  (∀ s : State, held s = false → ∃ t, exec .d3hotEntry s = .next t ∧
    t.hif.d3hot = true ∧ t.mem = s.mem ∧ t.dp = s.dp ∧ t.tab = s.tab ∧ t.frg = s.frg ∧
    ∀ r, r ∉ settleRegs → rget t r = rget s r) ∧
  (∀ (dt speed width : Nat) (cfg : PcieCfg) (s : State), wellFormed (.hostLinkUp dt speed width cfg) = true →
    held s = false → ∃ t, exec (.hostLinkUp dt speed width cfg) s = .next t ∧
      fget t F.HIF_LINK_LINK_UP = 1 ∧ fget t F.HIF_LINK_SPEED = speed ∧ fget t F.HIF_LINK_WIDTH = width ∧
      fget t F.HIF_LINK_MSIX_EN = b2n cfg.msixEn ∧ fget t F.HIF_LINK_FN_MASK = b2n cfg.fnMask ∧
      fget t F.PIN_CLK_STATUS_PCIE_OK = 1 ∧ t.hif.busMaster = cfg.busMaster ∧ t.hif.mps = cfg.mps ∧
      t.hif.mrrs = cfg.mrrs ∧ t.hif.dlActive = true ∧ t.dp = (passTime dt s).dp)

/-- How loads begin and take bytes. FULL_LOAD in DORMANT or QUIESCED and SHADOW_LOAD in RUN open a load with no bytes; the
second begins a tempering beside the active Forging. ABORT while a load is open gives it up and leaves the active Forging.
BOOT_FLASH, and the boot that is due after a cold reset, open the load of the first slot in boot order, where a slot has passed
its header steps, and the device is LOADING. A word at the load port joins the bytes of the load it is for, and
FRG_LOAD_COUNT counts them; with the first bytes of a full load no Forging is active or in a bank any more and the device is
LOADING. -/
def Obligations.ForgingLoadsOpenAndTakeBytes : Prop :=
  (∀ s : State, HostReady s A.FRG_CTL → frgState s = frgIdle → (s.glb.base = bDormant ∨ s.glb.base = bQuiesced) →
    ∃ t, exec .fullLoad s = .next t ∧
      t.frg.load = some { shadow := false, slot := none, other := none, bytes := [] } ∧
      fget t F.FRG_STATUS_RESULT = frgOk ∧ rget t A.FRG_LOAD_COUNT = 0 ∧
      t.frg.active = s.frg.active ∧ t.glb.base = s.glb.base ∧ t.dp = s.dp ∧ t.tab = s.tab) ∧
  (∀ s : State, HostReady s A.FRG_CTL → frgState s = frgIdle → s.glb.base = bRun → safeLatch s = false →
    ∃ t, exec .shadowLoad s = .next t ∧
      t.frg.load = some { shadow := true, slot := none, other := none, bytes := [] } ∧
      t.frg.tempering = true ∧ t.frg.oldBank = bankOf s 0 ∧ t.frg.onBank1 = s.frg.onBank1 ∧
      fget t F.FRG_STATUS_RESULT = frgOk ∧ rget t A.FRG_LOAD_COUNT = 0 ∧
      t.frg.active = s.frg.active ∧ t.glb.base = s.glb.base ∧ t.dp = s.dp) ∧
  (∀ s : State, HostReady s A.FRG_CTL → s.frg.load.isSome = true → ∃ t, exec .frgAbort s = .next t ∧
      t.frg.load = none ∧ frgState t = frgIdle ∧ fget t F.FRG_STATUS_RESULT = frgAborted ∧
      t.frg.active = s.frg.active) ∧
  (∀ (s : State) (k : Nat) (rest : List Nat), HostReady s A.FRG_CTL → frgState s = frgIdle →
    (s.glb.base = bDormant ∨ s.glb.base = bQuiesced) → bootOrder (readHeaders s) = k :: rest →
    slotDirOk (startSlot k rest.head? (readHeaders s)) = true →
    ∃ t l, exec .bootFlash s = .next t ∧ t.frg.load = some l ∧ l.slot = some k ∧ l.shadow = false ∧
      frgState t = frgReceiving ∧ t.frg.active = none ∧ t.glb.base = bLoading) ∧
  (∀ (dt : Nat) (s : State) (k : Nat) (rest : List Nat), held s = false → (passTime dt s).glb.bootDue = true →
    frgState (passTime dt s) = frgIdle → (passTime dt s).glb.base = bDormant →
    bootOrder (readHeaders (passTime dt s)) = k :: rest →
    slotDirOk (startSlot k rest.head? (readHeaders (passTime dt s))) = true →
    ∃ t l, exec (.bootFlashSelect dt) s = .next t ∧ t.glb.bootDue = false ∧ t.frg.load = some l ∧ l.slot = some k ∧
      frgState t = frgReceiving ∧ t.glb.base = bLoading) ∧
  (∀ (value : Word) (l : Load) (s : State), HostReady s (A.FRG_LOAD_PORT 0) → s.frg.load = some l → loadShut s l = false →
    frgState s = frgReceiving → l.slot = none → l.bytes.length + 4 < 128 →
    l.bytes.length + 4 < rget s A.FRG_LOAD_LEN → ∃ t, exec (.frgLoadPortWrite value) s = .next t ∧
      t.frg.load = some { l with bytes := l.bytes ++ leBytes 4 value.toNat } ∧
      rget t A.FRG_LOAD_COUNT = l.bytes.length + 4 ∧
      (l.shadow = true → t.frg.active = s.frg.active ∧ t.glb.base = s.glb.base) ∧
      (l.shadow = false → l.bytes = [] → t.frg.active = none ∧ t.frg.bank0 = none ∧ t.frg.bank1 = none ∧
        t.glb.base = bLoading))

/-- How loads end. The last byte of a slot's image, whose header and directory are whole, puts the loader and the device in
VERIFYING. When the Ostler has verified a load, the image that fails a step leaves the loader IDLE with that step's result and
the active Forging as it was; an image that passes stands in the shadow bank with the loader in SHADOW_READY (a shadow load), or
is the active Forging with the loader IDLE and the device WAKING (a full load). -/
def Obligations.ForgingLoadsEnd : Prop :=
  (∀ (dt : Nat) (l : Load) (s : State), held s = false → (passTime dt s).frg.load = some l →
    frgState (passTime dt s) = frgReceiving → l.slot.isSome = true → l.shadow = false → 128 ≤ l.bytes.length →
    dirEnd l.bytes ≤ l.bytes.length → ∃ t, exec (.slotLastByteArrived dt) s = .next t ∧
      frgState t = frgVerifying ∧ t.glb.base = bVerifying ∧ t.frg.load = some l) ∧
  (∀ (dt : Nat) (l : Load) (s : State), held s = false → (passTime dt s).frg.load = some l → l.slot = none →
    frgState (passTime dt s) = frgVerifying → ostlerUp (passTime dt s) = true →
    ∃ t, exec (.verificationComplete dt) s = .next t ∧ t.frg.load = none ∧
      match verifyImage (passTime dt s) l.shadow l.slot l.bytes with
      | .inl r => frgState t = frgIdle ∧ fget t F.FRG_STATUS_RESULT = r % 256 ∧
          t.frg.active = (passTime dt s).frg.active
      | .inr f => if l.shadow then frgState t = frgShadowReady ∧ bankForging t (shadowBank t) = some f ∧
            t.frg.active = (passTime dt s).frg.active
          else frgState t = frgIdle ∧ t.frg.active = some f ∧ t.glb.base = bWaking)

/-- The commands and events of a tempering. ARM_COMMIT from SHADOW_READY or PARTIAL, and ROLLBACK from PARTIAL or DRAINING, in time
before their instant, arm the hearths of their mask for their bank and change neither bank nor data path. DISARM takes the
armed commit back and the loader to the state it was armed from. An armed commit that is due moves the hearths of its mask to its
bank, each other hearth stays with its own, and both banks keep their Forgings. FLUSH_OLD in DRAINING, and the barrier once it is
met, end the tempering: the loader is IDLE and the bank that no hearth runs is empty. At the drain timeout the loader says
DRAIN_LATE and goes on, or ends the tempering as FLUSH_OLD does, as DRAIN_POLICY tells. -/
def Obligations.TemperingCommandsAndCommit : Prop :=
  (∀ s : State, HostReady s A.FRG_CTL → (frgState s = frgShadowReady ∨ frgState s = frgPartial) →
    armMask s false (shadowBank s) ≠ [] →
    phaseInstant s + fget s F.LDG_COMMIT_MARGIN_PU ≤ instantAt s A.FRG_COMMIT_CYCLE_HI →
    ∃ t, exec .armCommit s = .next t ∧
      t.frg.armed = some { mask := armMask s false (shadowBank s), instant := instantAt s A.FRG_COMMIT_CYCLE_HI
                           bank := shadowBank s, fromState := frgState s, clk := s.clk, now := false, trigger := none } ∧
      forgingsOf t = forgingsOf s ∧ t.dp = s.dp ∧ t.tab = s.tab) ∧
  (∀ s : State, HostReady s A.FRG_CTL → (frgState s = frgPartial ∨ frgState s = frgDraining) →
    armMask s true (rollbackBank s) ≠ [] →
    phaseInstant s + fget s F.LDG_COMMIT_MARGIN_PU ≤ instantAt s A.FRG_COMMIT_CYCLE_HI →
    ∃ t, exec .rollback s = .next t ∧
      t.frg.armed = some { mask := armMask s true (rollbackBank s), instant := instantAt s A.FRG_COMMIT_CYCLE_HI
                           bank := rollbackBank s, fromState := frgState s, clk := s.clk, now := false, trigger := none } ∧
      forgingsOf t = forgingsOf s ∧ t.dp = s.dp ∧ t.tab = s.tab) ∧
  (∀ (a : Armed) (s : State), HostReady s A.FRG_CTL → s.frg.armed = some a → a.fromState < 16 →
    ∃ t, exec .disarm s = .next t ∧
      t.frg.armed = none ∧ frgState t = a.fromState ∧ fget t F.FRG_STATUS_RESULT = frgOk ∧
      forgingsOf t = forgingsOf s ∧ t.dp = s.dp ∧ t.tab = s.tab) ∧
  (∀ s : State, HostReady s A.FRG_CTL → frgState s = frgDraining → ∃ t, exec .flushOld s = .next t ∧
      frgState t = frgIdle ∧ t.frg.tempering = false ∧ bankForging t (1 - bankOf t 0) = none ∧
      t.frg.onBank1 = s.frg.onBank1) ∧
  (∀ (dt : Nat) (a : Armed) (s : State), held s = false → commitDue (passTime dt s) = some a →
    ∃ t, exec (.temperCommit dt) s = .next t ∧
      t.frg.armed = none ∧ (a.bank < 2 → ∀ h, h < 4 → bankOf t h =
        if a.mask.contains h then a.bank else bankOf (passTime dt s) h) ∧
      t.frg.bank0 = (passTime dt s).frg.bank0 ∧ t.frg.bank1 = (passTime dt s).frg.bank1) ∧
  (∀ (dt : Nat) (s : State), held s = false → barrierMet (passTime dt s) = true →
    ∃ t, exec (.temperRelease dt) s = .next t ∧
      frgState t = frgIdle ∧ t.frg.tempering = false ∧ bankForging t (1 - bankOf t 0) = none ∧
      t.frg.onBank1 = (passTime dt s).frg.onBank1 ∧ t.dp = (passTime dt s).dp) ∧
  (∀ (dt : Nat) (s : State), held s = false → drainLate (passTime dt s) = true →
    ∃ t, exec (.temperDrainTimeout dt) s = .next t ∧ t.frg.timeoutDone = true ∧
      (fbit (passTime dt s) F.FRG_TEMPER_CTL_DRAIN_POLICY = true →
        fget t F.FRG_STATUS_DRAIN_LATE = 1 ∧ t.frg.tempering = (passTime dt s).frg.tempering ∧
          t.dp = (passTime dt s).dp) ∧
      (fbit (passTime dt s) F.FRG_TEMPER_CTL_DRAIN_POLICY = false →
        frgState t = frgIdle ∧ t.frg.tempering = false))

/-- The commands of GLB_CTL, each in the base states that take it and while no timer has moved the base state. DRAIN in RUN with
no load or tempering under way: the device is DRAINING from now. RESUME: from DRAINING back to RUN, from QUIESCED to WAKING.
END_WAKING: from WAKING to RUN. ENTER_SAFE in WAKING, RUN, DRAINING and QUIESCED: the SAFE latch holds with the command as a
cause, and the base state stays. CLEAR_SAFE while no monitor is in WARN or CRIT: the SAFE latch is clear and the base state stays.
ENTER_DIAG in DORMANT and QUIESCED: the device is in DIAGNOSTIC and remembers which of the two it came from. END_DIAG: the device
is in QUIESCED if it came from there and no destructive test was run, and otherwise in DORMANT without a Forging. Each
reports OK, and but for the last leaves the tables as they are. -/
def Obligations.ModeCommandsMoveTheBaseState : Prop :=
  (∀ s : State, HostReady s A.GLB_CTL → s.glb.base = bRun → frgState s = frgIdle → ∃ t, exec .drain s = .next t ∧
    t.glb.base = bDraining ∧ t.glb.drainClk = s.clk ∧ fget t F.GLB_CTL_STATUS_RESULT = glbOk ∧
    fget t F.GLB_CTL_STATUS_DRAIN_TIMED_OUT = 0 ∧ t.dp = s.dp ∧ t.tab = s.tab) ∧
  (∀ s : State, HostReady s A.GLB_CTL → s.glb.base = bDraining → drained s = false → drainOver s = false →
    ∃ t, exec .resume s = .next t ∧ t.glb.base = bRun ∧ fget t F.GLB_CTL_STATUS_RESULT = glbOk ∧ t.tab = s.tab) ∧
  (∀ s : State, HostReady s A.GLB_CTL → s.glb.base = bQuiesced → ∃ t, exec .resume s = .next t ∧
    t.glb.base = bWaking ∧ fget t F.GLB_CTL_STATUS_RESULT = glbOk ∧ t.tab = s.tab) ∧
  (∀ s : State, HostReady s A.GLB_CTL → s.glb.base = bWaking → wakeOver s = false → ∃ t, exec .endWaking s = .next t ∧
    t.glb.base = bRun ∧ fget t F.GLB_CTL_STATUS_RESULT = glbOk ∧ t.tab = s.tab) ∧
  (∀ s : State, HostReady s A.GLB_CTL → SteadyBase s →
    (s.glb.base = bWaking ∨ s.glb.base = bRun ∨ s.glb.base = bDraining ∨ s.glb.base = bQuiesced) →
    ∃ t, exec .enterSafe s = .next t ∧ safeLatch t = true ∧ bitAt (rget t A.GLB_SAFE_CAUSE) 2 = true ∧
      t.glb.base = s.glb.base ∧ fget t F.GLB_CTL_STATUS_RESULT = glbOk ∧ t.tab = s.tab) ∧
  (∀ s : State, HostReady s A.GLB_CTL → SteadyBase s → tempWarn s = false → voltWarn s = false →
    ∃ t, exec .clearSafe s = .next t ∧ safeLatch t = false ∧ fget t F.GLB_CTL_STATUS_RESULT = glbOk ∧
      t.glb.base = s.glb.base ∧ t.dp = s.dp ∧ t.tab = s.tab) ∧
  (∀ s : State, HostReady s A.GLB_CTL → (s.glb.base = bDormant ∨ s.glb.base = bQuiesced) →
    ∃ t, exec .enterDiag s = .next t ∧
      t.glb.base = bDiagnostic ∧ t.glb.diagFromQuiesced = (s.glb.base == bQuiesced) ∧
      fget t F.GLB_CTL_STATUS_RESULT = glbOk ∧ t.tab = s.tab) ∧
  (∀ s : State, HostReady s A.GLB_CTL → s.glb.base = bDiagnostic → ∃ t, exec .endDiag s = .next t ∧
    fget t F.GLB_CTL_STATUS_RESULT = glbOk ∧
    (s.glb.diagFromQuiesced = true ∧ fbit s F.GLB_CTL_STATUS_DIAG_DESTRUCTIVE = false →
      t.glb.base = bQuiesced ∧ t.tab = s.tab) ∧
    (s.glb.diagFromQuiesced = false ∨ fbit s F.GLB_CTL_STATUS_DIAG_DESTRUCTIVE = true →
      t.glb.base = bDormant ∧ t.frg.active = none))

/-- What ends WAKING and DRAINING with time. The wake timer runs out: RUN. All but management traffic has left: QUIESCED, with the
data path as it is. The drain timeout comes first: QUIESCED, with DRAIN_TIMED_OUT set and the ingress FIFOs, the FIFOs of the
host and the queues of ports 0 to 75 free of all but management frames. A write of GLB_WAKE_MS stores its 16 bits and changes no
register but that one and those that the end of a command writes. -/
def Obligations.TimersMoveTheBaseState : Prop :=
  (∀ (dt : Nat) (s : State), held s = false → wakeOver (passTime dt s) = true →
    ∃ t, exec (.wakeTimerExpiry dt) s = .next t ∧ t.glb.base = bRun ∧ t.dp = (passTime dt s).dp ∧
      t.tab = (passTime dt s).tab ∧ t.frg = (passTime dt s).frg) ∧
  (∀ (dt : Nat) (s : State), held s = false → (passTime dt s).glb.base = bDraining → drained (passTime dt s) = true →
    ∃ t, exec (.drainComplete dt) s = .next t ∧ t.glb.base = bQuiesced ∧ t.dp = (passTime dt s).dp ∧
      t.tab = (passTime dt s).tab ∧ t.frg = (passTime dt s).frg) ∧
  (∀ (dt : Nat) (s : State), held s = false → (passTime dt s).glb.base = bDraining → drained (passTime dt s) = false →
    drainOver (passTime dt s) = true → ∃ t, exec (.drainTimeout dt) s = .next t ∧ t.glb.base = bQuiesced ∧
      fget t F.GLB_CTL_STATUS_DRAIN_TIMED_OUT = 1 ∧
      (∀ p, (ingressOf t p).all (fifoMgmt t) = true) ∧ (∀ h, (hostFifo t h).all (fifoMgmt t) = true) ∧
      (∀ k, k < 1216 → (queueOf t k).all (isMgmt t) = true) ∧
      t.tab = (passTime dt s).tab ∧ t.frg = (passTime dt s).frg) ∧
  (∀ (value : Word) (s : State), HostReady s A.GLB_WAKE_MS → ∃ t, exec (.glbWakeMsWrite value) s = .next t ∧
    fget t F.GLB_WAKE_MS_WAKE_MS = value.toNat % 65536 ∧ t.glb.base = s.glb.base ∧ t.dp = s.dp ∧ t.tab = s.tab ∧
    ∀ r, r ≠ A.GLB_WAKE_MS → r ∉ settleRegs → rget t r = rget s r)

/-- Resets of a hearth and of a port, and the power-up of the quadrants. A write of GLB_HRST puts the hearths of its mask into
reset with nothing in their decision paths and in their FIFOs from the host and from recirculation; the other hearths stay as
they were, and the end of a hearth's reset takes it alone out. A bit of GLB_PORT_RST set holds its port, and cleared releases it.
None of these moves the base state. 50 ms after a quadrant's training began the next quadrant's begins. -/
def Obligations.HearthAndPortResets : Prop :=
  (∀ (mask : Nat) (s : State), mask < 16 → HostReady s A.GLB_HRST → s.glb.warmBusy = false →
    ∃ t, exec (.hearthReset mask) s = .next t ∧ (∀ h, h < 4 → bitAt mask h = true → h ∈ t.glb.hearthRst ∧ pipeOf t h = [] ∧ recircOf t h = [] ∧ hostFifo t h = []) ∧
      (∀ h, bitAt mask h = false → (h ∈ t.glb.hearthRst ↔ h ∈ s.glb.hearthRst)) ∧ t.glb.base = s.glb.base ∧ t.tab = s.tab) ∧
  (∀ (dt h : Nat) (s u : State), h < 4 → Elapsed dt s u → ∃ t, exec (.hearthResetComplete dt h) s = .next t ∧
    t.glb.hearthRst = u.glb.hearthRst.filter (· != h) ∧ t.dp = u.dp ∧ t.tab = u.tab) ∧
  (∀ (p : Nat) (s : State), p < 76 → HostReady s (A.GLB_PORT_RST_0 + 4 * (p / 32)) → portHeld s p = false →
    ∃ t, exec (.portReset p) s = .next t ∧ portHeld t p = true ∧ t.glb.base = s.glb.base) ∧
  (∀ (p : Nat) (s : State), p < 76 → HostReady s (A.GLB_PORT_RST_0 + 4 * (p / 32)) → portHeld s p = true →
    ∃ t, exec (.portResetRelease p) s = .next t ∧ portHeld t p = false ∧ t.glb.base = s.glb.base) ∧
  (∀ (dt q : Nat) (s u : State), q < 4 → Elapsed dt s u → 0 < q → q = u.glb.quadrants →
    u.glb.quadClk + 50 * clocksPerMs ≤ u.clk → powered u = true →
    ∃ t, exec (.quadrantTrainingStart dt q) s = .next t ∧ t.glb.quadrants = q + 1 ∧ t.glb.quadClk = u.clk)

/-- Frames and MAC Control frames of a front port. A frame that starts at a port that takes frames joins those being received,
with its length and its check as they are, and, with a cell free, its hearth not in reset and no MAC Control frame, enters the
ingress FIFO. The oldest frame being received ends: it is counted by the reason it is dropped for, or as received with its bytes. A
PAUSE frame to 01-80-C2-00-00-01, taken in, loads the pause timer and is counted. When the timer has run out the quanta are
gone. -/
def Obligations.PortsReceiveFrames : Prop :=
  (∀ (dt p : Nat) (bytes : List Byte) (s u : State), p < 72 → Elapsed dt s u → takes u p = true →
    ∃ t f, exec (.frameArrival dt p true bytes) s = .next t ∧ (portSt t p).rx = u.dp.next :: (portSt u p).rx ∧
      (u.dp.next, f) ∈ t.dp.frames ∧ f.srcPort = p ∧ f.preemptable = false ∧ f.rxLen = bytes.length ∧
      f.fcsOk = fcsRight bytes ∧
      (cellsFree u 1 = true → beAt bytes 12 2 ≠ 0x8808 → u.glb.hearthRst.contains (ownerOf p) = false →
        ingressOf t p = ingressOf u p ++ [u.dp.next])) ∧
  (∀ (dt p i : Nat) (e : Bool) (f : Frame) (s u : State), p < 72 → Elapsed dt s u →
    (portSt u p).rx.getLast? = some i → frameOf u i = some f →
    ∃ t, exec (.frameReceiveEnd dt p e) s = .next t ∧
      match macDrop f e with
      | some k => ctr t 0 (24 * p + k) = (ctr u 0 (24 * p + k) + 1) % 2 ^ 64
      | none => ctr t 0 (24 * p) = (ctr u 0 (24 * p) + 1) % 2 ^ 64 ∧
          ctr t 0 (24 * p + 1) = (ctr u 0 (24 * p + 1) + f.rxLen) % 2 ^ 64) ∧
  (∀ (dt p : Nat) (b : List Byte) (s u : State), p < 72 → Elapsed dt s u → (portSt u p).ctl = some b →
    controlArriving u p = false → beAt b 14 2 = 1 → beAt b 0 6 = 0x0180C2000001 →
    fbit u (F.PRT_MAC_CFG_PAUSE_RX_EN p) = true → ∃ t, exec (.macControlFrame dt p) s = .next t ∧
      (portSt t p).quanta = beAt b 16 2 ∧ (portSt t p).pauseClk = u.clk ∧ (portSt t p).ctl = none ∧
      ctr t 0 (24 * p + 7) = (ctr u 0 (24 * p + 7) + 1) % 2 ^ 64) ∧
  (∀ (dt p : Nat) (s u : State), p < 72 → Elapsed dt s u → paused u p = false →
    ∃ t, exec (.pauseTimerExpiry dt p) s = .next t ∧ (portSt t p).quanta = 0 ∧ (portSt t p).lossSeen = false ∧
      t.dp = u.dp ∧ t.tab = u.tab)

/-- The MAC merge sublayer of a port on which preemption is enabled. An intact first fragment of several opens a reassembly with
its bytes; a later fragment is counted. A verify mPacket is answered by a respond mPacket; a respond mPacket that comes while
verification waits for one ends it with success; a verify timer that runs out sends again or, at its limit, fails. -/
def Obligations.MacMergeFollowsItsMpackets : Prop :=
  (∀ (dt p : Nat) (g : Fragment) (s u : State), p < 72 → g.frameCount < 4 → g.fragCount < 4 → Elapsed dt s u →
    takes u p = true → fbit u (F.PRT_PREEMPT_EN p) = true → g.start = true → g.last = false → g.crcOk = true →
    (portSt u p).reasm = none → ∃ t r, exec (.mmFragmentReceived dt p g) s = .next t ∧ (portSt t p).reasm = some r ∧
      r.bytes = g.bytes ∧ r.frameCount = g.frameCount ∧ r.nextFrag = 0) ∧
  (∀ (dt p : Nat) (g : Fragment) (s u : State), p < 72 → g.frameCount < 4 → g.fragCount < 4 → Elapsed dt s u →
    takes u p = true → fbit u (F.PRT_PREEMPT_EN p) = true → g.start = false →
    ∃ t, exec (.mmFragmentReceived dt p g) s = .next t ∧
      ctr t 0 (24 * p + 17) = (ctr u 0 (24 * p + 17) + 1) % 2 ^ 64) ∧
  (∀ (dt p : Nat) (s u : State), p < 72 → Elapsed dt s u → takes u p = true → fbit u (F.PRT_PREEMPT_EN p) = true →
    ∃ t, exec (.verifyMpacketReceived dt p) s = .next t ∧ (portSt t p).mpk = (portSt u p).mpk ++ [1] ∧ t.tab = u.tab) ∧
  (∀ (dt p : Nat) (s u : State), p < 72 → Elapsed dt s u → takes u p = true → fbit u (F.PRT_PREEMPT_EN p) = true →
    verifyState u p = 2 → ∃ t, exec (.respondMpacketReceived dt p) s = .next t ∧ verifyState t p = 3 ∧
      fget t (F.PRT_PREEMPT_STATUS_ACTIVE p) = 1 ∧ bitAt (rget t (A.PRT_INT_STAT p)) 2 = true ∧ t.dp = u.dp ∧ t.tab = u.tab) ∧
  (∀ (dt p : Nat) (s u : State), p < 72 → Elapsed dt s u → verifyState u p = 2 →
    (portSt u p).verifyClk + verifyTime u p ≤ u.clk → ∃ t, exec (.verifyTimerExpiry dt p) s = .next t ∧ t.tab = u.tab ∧
      if (portSt u p).verifySent < verifyLimit u p then (portSt t p).mpk = (portSt u p).mpk ++ [0] ∧
        (portSt t p).verifySent = (portSt u p).verifySent + 1 ∧ (portSt t p).verifyClk = u.clk ∧ verifyState t p = 2
      else verifyState t p = 4 ∧ fget t (F.PRT_PREEMPT_STATUS_ACTIVE p) = 0)

/-- The link of a front port. Its conditions are taken over; when all that its mode asks for has held for the hold time it is
up; auto-negotiation that resolves to the port's mode is done, and to another is counted as a mismatch; link training ends,
and the taps it settled are in effect. -/
def Obligations.LinksFollowTheirConditions : Prop :=
  (∀ (dt p : Nat) (c : LinkCond) (s u : State), p < 72 → Elapsed dt s u →
    ∃ t, exec (.linkConditionChange dt p c) s = .next t ∧ (portSt t p).cond = c) ∧
  (∀ (dt p : Nat) (s u : State), p < 72 → Elapsed dt s u → linkHolds u p = true → linkUp u p = false →
    (portSt u p).holdClk.getD u.clk + holdTime u p ≤ u.clk → ∃ t, exec (.linkHoldExpiry dt p) s = .next t ∧
      linkUp t p = true) ∧
  (∀ (dt p m : Nat) (s u : State), p < 72 → m < 16 → Elapsed dt s u → linkAble u p = true → (portSt u p).anEn = true →
    fbit u (F.PRT_STATUS_AN_DONE p) = false → linkUp u p = false → (portSt u p).mode ≠ 8 →
    ∃ t, exec (.autonegResolved dt p m) s = .next t ∧
      if m = (portSt u p).mode then fget t (F.PRT_STATUS_AN_DONE p) = 1
      else ctr t 0 (24 * p + 20) = (ctr u 0 (24 * p + 20) + 1) % 2 ^ 64) ∧
  (∀ (dt p : Nat) (taps : List Nat) (s u : State), wellFormed (.linkTrainingComplete dt ⟨p, taps⟩) = true → Elapsed dt s u →
    linkAble u p = true → (portSt u p).ltEn = true → fbit u (F.PRT_STATUS_AN_DONE p) = true → linkUp u p = false →
    ∃ t, exec (.linkTrainingComplete dt ⟨p, taps⟩) s = .next t ∧ (portSt t p).trained = true ∧ (portSt t p).taps = taps)

/-- Decision paths. A pass starts at the end of the hearth's path: a recirculating frame goes before one that waits at a port, and
the ports take turns. Once the table writes due by its clock have been made, a vote whose time has come takes the oldest pass off
the path; a Kixon frame of a front port goes to the Keeper's FIFO; of any other frame that three agreeing copies decided and
no poisoned entry spoils, the data path is what the release of the decision makes of it; a copy that is outvoted as
often as HLT_FENCE_CFG.THRESH allows is fenced. -/
def Obligations.DecisionPathsTakeAndVote : Prop :=
  (∀ (dt h i : Nat) (again : Option Pass) (rest : List (Nat × Option Pass)) (s u : State), h < 4 → Elapsed dt s u →
    canTake u h = true → recircOf u h = (i, again) :: rest → ∃ t q, exec (.decisionPassStart dt h) s = .next t ∧
      pipeOf t h = pipeOf u h ++ [q] ∧ q.frame = i ∧ q.entry = u.clk ∧ q.stage = 0 ∧ q.recompute = again.isSome ∧
      recircOf t h = rest ∧ t.tab = u.tab) ∧
  (∀ (dt h p i : Nat) (rest : List Nat) (f : Frame) (s u : State), h < 4 → Elapsed dt s u → canTake u h = true →
    recircOf u h = [] → (robinOrder u h).find? (fun p => ingressOf u p != []) = some p → ingressOf u p = i :: rest →
    frameOf u i = some f → ∃ t, exec (.decisionPassStart dt h) s = .next t ∧
      pipeOf t h = pipeOf u h ++ [newPass i u.clk false (fencedNo u h) none] ∧ ingressOf t p = rest ∧
      sget (fun _ => 255) t.dp.robin h = p ∧ t.tab = u.tab) ∧
  (∀ (dt h : Nat) (x : VoteFaults) (p : Pass) (rest : List Pass) (s u w : State), h < 4 → votersOk x = true →
    Elapsed dt s u → tableWrites u = w → pipeOf w h = p :: rest → 5 ≤ p.stage → p.entry + 490 ≤ w.clk →
    voteMissed w h = false → ∃ t, exec (.vote dt h x) s = .next t ∧ pipeOf t h = rest) ∧
  (∀ (dt h : Nat) (p : Pass) (rest : List Pass) (f : Frame) (s u w : State), h < 4 → Elapsed dt s u →
    tableWrites u = w → pipeOf w h = p :: rest → 5 ≤ p.stage → p.entry + 490 ≤ w.clk → voteMissed w h = false →
    p.two = none → fencedNow w h = false → frameOf w p.frame = some f → f.kixon = true → f.srcPort ≠ 76 →
    w.fab.rx.length < 256 → ∃ t, exec (.vote dt h noFaults) s = .next t ∧ pipeOf t h = rest ∧
      t.fab.rx = w.fab.rx ++ [p.frame]) ∧
  (∀ (dt h : Nat) (p : Pass) (rest : List Pass) (f : Frame) (s u w v : State), h < 4 → Elapsed dt s u →
    tableWrites u = w → pipeOf w h = p :: rest → 5 ≤ p.stage → p.entry + 490 ≤ w.clk → voteMissed w h = false →
    p.two = none → fencedNow w h = false → frameOf w p.frame = some f → f.kixon = false →
    putPipe h rest { w with tmg := { w.tmg with lastVote := (w.clk, h) } } = v → f.spoilt = false → readsPoison v p = false →
    ∃ t, exec (.vote dt h noFaults) s = .next t ∧ t.dp = (freeCells (releaseFrame h f p v)).dp) ∧
  (∀ (dt h : Nat) (x : VoteFaults) (p : Pass) (rest : List Pass) (s u w : State), h < 4 → Elapsed dt s u →
    tableWrites u = w → pipeOf w h = p :: rest → 5 ≤ p.stage → p.entry + 490 ≤ w.clk → voteMissed w h = false →
    p.two = none → fencedNow w h = false → fenceThresh w = 1 → x = { noFaults with ok1 := false } →
    ∃ t, exec (.vote dt h x) s = .next t ∧ pipeOf t h = rest ∧
      fencedNow t h = true ∧ fencedCopy t h = 1)

/-- Transmission. Once the table writes due by its clock have been made, a port that is idle sends the mPacket that waits; else the
calendar picks a queue, the pointer moves past its slot and the head of the queue is on the wire. A frame whose end has left a
front port is off it and counted, as sent with its frames or as ended with a bad check. A line of the ledger that closes under an
express frame marks it overrun and counts it; a preemptable one is cut at the next point where the hold or the closed gate of
its ledger asks for it. -/
def Obligations.PortsTransmitByTheCalendar : Prop :=
  (∀ (dt p : Nat) (s u w : State), p < 72 → Elapsed dt s u → selectMissed u p = false → tableWrites u = w →
    txIdle w p = true → txOpen w p = true → localLoop w p = false → (portSt w p).mpk ≠ [] →
    ∃ t, exec (.queueSelection dt p) s = .next t ∧ (portSt t p).mpk = (portSt w p).mpk.drop 1 ∧
      (txOf t p).freeClk = w.clk + wireClocks (portRate w p) 84 ∧ (txOf t p).cur = none) ∧
  (∀ (dt p i q : Nat) (c : Copy) (rest : List Copy) (f : Frame) (s u v w : State), p < 76 → Elapsed dt s u →
    selectMissed u p = false → noteHolds p (tableWrites u) = v → txIdle v p = true → (portSt v p).mpk = [] →
    preemptActive v p = false → (txOf v p).susp = none →
    scan (calendarNow v p) (fget v (F.TM_CAL_STATUS_PTR_X p)) (eligible v p) = some (i, q) →
    fput (F.TM_CAL_STATUS_PTR_X p) ((i + 1) % (calendarNow v p).length) v = w →
    queueOf w (qkey p q) = c :: rest → frameOf w c.frame = some f → (planCopy w p c (copyBase w c)).fate = 0 →
    ∃ t x l, exec (.queueSelection dt p) s = .next t ∧ (txOf t p).cur = some x ∧ x.copy = c ∧ x.queue = q ∧
      x.fromClk = w.clk ∧ x.bank = portBank w p ∧ queueOf t (qkey p q) = rest ++ l ∧
      fget t (F.TM_CAL_STATUS_PTR_X p) = (i + 1) % (calendarNow v p).length % 4096) ∧
  (∀ (dt p : Nat) (x : Sending) (f : Frame) (s u w : State), p < 72 → Elapsed dt s u → tableWrites u = w →
    (txOf w p).cur = some x → frameOf w x.copy.frame = some f → onWire w p x = false → f.whole = true →
    ∃ t, exec (.transmitEnd dt p) s = .next t ∧ (txOf t p).cur = none ∧
      if x.invert = true ∨ f.bad = true ∨ f.stopped = true then
        ctr t 0 (24 * p + 23) = (ctr w 0 (24 * p + 23) + 1) % 2 ^ 64
      else ctr t 0 (24 * p + 10) = (ctr w 0 (24 * p + 10) + x.out.length) % 2 ^ 64) ∧
  (∀ (dt p : Nat) (x : Sending) (s u : State), p < 72 → Elapsed dt s u → (txOf u p).cur = some x → x.pre = false →
    gatedQ u p x.queue = true → bitAt (portLedgerIn u p x.bank).1 x.queue = false → onWire u p x = true →
    x.overrun = false → ∃ t, exec (.ledgerLineBoundary dt p) s = .next t ∧
      (txOf t p).cur = some { x with overrun := true } ∧
      ctr t 16 (5 * qkey p x.queue + 4) = (ctr u 16 (5 * qkey p x.queue + 4) + 1) % 2 ^ 64 ∧ t.tab = u.tab ∧
      t.prt = u.prt) ∧
  (∀ (dt p d : Nat) (x : Sending) (s u : State), p < 72 → Elapsed dt s u → (portLedger u p).2.2.2 = true →
    (txOf u p).cur = some x → x.pre = true → preemptActive u p = true → onWire u p x = true → paused u p = false →
    cutPoint u p x = some d →
    ((portLedgerIn u p x.bank).2.1 = true ∨ gatedQ u p x.queue = true ∧ bitAt (portLedgerIn u p x.bank).1 x.queue = false) →
    ∃ t y, exec (.ledgerStart dt p) s = .next t ∧ (txOf t p).cur = none ∧ (txOf t p).susp = some y ∧
      y.sent = x.sent + d ∧ y.copy = x.copy ∧ y.queue = x.queue ∧ y.out = x.out ∧ t.tab = u.tab ∧ t.prt = u.prt)

/-- Gates and the base of a shadow ledger. A stream gate whose ledger has entered another occurrence of a line forgets the octets of
the last one. A write of LDG_BASE_SUB is taken while a shadow stands ready or is armed; while none is, it sets the refused bit of
LDG_INT_STAT and changes no other register and no ledger. -/
def Obligations.GatesAndLedgerBases : Prop :=
  (∀ (dt g b occ : Nat) (s u : State), g < 4096 → b < 2 → Elapsed dt s u → gateValid (gateOf u g b).words = true →
    (gateAt (gateOf u g b) (ledgerNow u (gateMode (gateOf u g b).words))).2.2.2 = occ → occ ≠ 0 →
    occ ≠ (gateOf u g b).occ → ∃ t, exec (.streamGateLineStart dt g) s = .next t ∧
      gateOf t g b = { gateOf u g b with occ := occ, bytes := 0 } ∧ t.dp = u.dp ∧ t.tab = u.tab) ∧
  (∀ (p : Nat) (v : Word) (s : State), p < 72 → HostReady s (A.LDG_BASE_SUB p) →
    (frgState s = frgShadowReady ∨ frgState s = frgArmed) → ∃ t, exec (.ldgBaseSubWrite p v) s = .next t ∧
      rget t (A.LDG_BASE_SUB p) = v.toNat % 2 ^ 30 ∧ t.dp = s.dp ∧ t.tab = s.tab ∧ t.frg = s.frg) ∧
  (∀ (p : Nat) (v : Word) (s : State), p < 72 → HostReady s (A.LDG_BASE_SUB p) → frgState s < 3 →
    ∃ t, exec (.ldgBaseSubWrite p v) s = .next t ∧ bitAt (rget t A.LDG_INT_STAT) 1 = true ∧ t.ldg = s.ldg ∧
      t.dp = s.dp ∧ t.tab = s.tab ∧ ∀ r, r ≠ A.LDG_INT_STAT → r ∉ settleRegs → rget t r = rget s r)

/-- The references of the phase clock, while it runs. An edge of a mains input that stands for the deglitch time on both sides
counts and, but for the source in use, becomes the input's last edge; one that does not stand so changes neither the phase
clock nor a counter. An edge outside the window of the source in use, while that source is locked, counts as an edge and as an
outlier and leaves the phase clock as it is. An input without edges for its loss time is no longer qualified. A message sample
whose time is not past is kept with the time it came, and counts; a MSG input without samples for its loss time is no longer
qualified and keeps its last samples. -/
def Obligations.PhaseReferencesAreFollowed : Prop :=
  (∀ (dt x low high : Nat) (s u : State), x < 2 → Elapsed dt s u → u.phs.running = true → deglitched u low high = true →
    srcUsed u ≠ some x → ∃ t, exec (.mainsEdge dt x ⟨low, high⟩) s = .next t ∧ (mainsIn t x).last = some u.clk ∧
      ctr t 18 x = (ctr u 18 x + 1) % 2 ^ 64) ∧
  (∀ (dt x low high : Nat) (s u : State), x < 2 → Elapsed dt s u → deglitched u low high = false →
    ∃ t, exec (.mainsEdge dt x ⟨low, high⟩) s = .next t ∧ t.phs = u.phs ∧ ctr t 18 x = ctr u 18 x) ∧
  (∀ (dt x low high : Nat) (s u : State), x < 2 → Elapsed dt s u → u.phs.running = true → deglitched u low high = true →
    srcUsed u = some x → fbit u F.PHS_STATUS_LOCKED = true → edgeWin u < (mainsError u x).natAbs →
    ∃ t, exec (.mainsEdge dt x ⟨low, high⟩) s = .next t ∧ t.phs = u.phs ∧ ctr t 18 x = (ctr u 18 x + 1) % 2 ^ 64 ∧
      ctr t 18 (2 + x) = (ctr u 18 (2 + x) + 1) % 2 ^ 64) ∧
  (∀ (dt x l p : Nat) (s u : State), x < 2 → Elapsed dt s u → (mainsIn u x).last = some l → (mainsIn u x).period = some p →
    l + max 1 (fget u F.PHS_QUAL_CFG_LOSS_CYCLES) * p ≤ u.clk → ∃ t, exec (.mainsLossTimeout dt x) s = .next t ∧
      srcQual t x = false ∧ (mainsIn t x).run = 0 ∧ t.dp = u.dp ∧ t.tab = u.tab) ∧
  (∀ (v : Word) (m : Nat) (s : State), HostReady s A.PHS_MSG_POST → bitAt v.toNat 0 = true → s.phs.running = true →
    msgFromFabric s = false →
    ((rget s A.PHS_MSG_SEC_HI % 65536) * 2 ^ 32 + rget s A.PHS_MSG_SEC_LO) * secUnits
      + rget s A.PHS_MSG_NS % 2 ^ 30 * timeUnit = m →
    m ≤ s.tim.t → s.tim.t ≤ m + 100000000 * timeUnit → srcUsed s ≠ some 2 →
    ∃ t, exec (.phsMsgPost v) s = .next t ∧ t.phs.msg.head? = some (m, instantAt s A.PHS_MSG_CYCLE_HI, s.clk) ∧
      ctr t 18 4 = (ctr s 18 4 + 1) % 2 ^ 64) ∧
  (∀ (dt a b c : Nat) (s u : State), Elapsed dt s u → u.phs.msg.head? = some (a, b, c) → srcQual u 2 = true →
    c + max 1 (fget u F.PHS_MSG_LOSS_MS_MS) * clocksPerMs ≤ u.clk → ∃ t, exec (.msgLossTimeout dt) s = .next t ∧
      t.phs.msg = u.phs.msg ∧ srcQual t 2 = false ∧ t.dp = u.dp ∧ t.tab = u.tab)

/-- The phase clock's commands and its wrap. LATCH takes the phase instant; SET_CYCLE with no slot armed and no tempering armed,
and REALIGN with a qualified source, wait as pending. At a wrap of the running clock, with NOMINAL not qualified, the length of
the cycle is reported in ns and a pending SET_CYCLE gives the clock its cycle and is no longer pending. -/
def Obligations.PhaseCommandsAndTheWrap : Prop :=
  (∀ s : State, HostReady s A.PHS_CMD → ∃ t, exec .latchPhase s = .next t ∧
    instantAt t A.PHS_LAT_CYCLE_HI = phaseInstant s % 2 ^ 64 ∧ fget t F.PHS_CMD_STATUS_RESULT = 0 ∧ t.phs = s.phs ∧
    t.tim = s.tim ∧ t.dp = s.dp) ∧
  (∀ s : State, HostReady s A.PHS_CMD → (List.range 32).any (taArmed s) = false → fget s F.FRG_STATUS_STATE ≠ 4 →
    ∃ t, exec .setCycle s = .next t ∧ t.phs = { s.phs with setPending := true } ∧
      fget t F.PHS_CMD_STATUS_RESULT = 0 ∧ fget t F.PHS_CMD_STATUS_PENDING = 1) ∧
  (∀ s : State, HostReady s A.PHS_CMD → (realignTarget s).isSome = true → ∃ t, exec .realign s = .next t ∧
    t.phs = { s.phs with realignPending := true } ∧ fget t F.PHS_CMD_STATUS_RESULT = 0 ∧
    fget t F.PHS_CMD_STATUS_PENDING = 1) ∧
  (∀ (dt : Nat) (s u : State), Elapsed dt s u → u.phs.running = true → phaseInstant u / 2 ^ 24 ≠ u.phs.wrapCycle →
    srcQual u 3 = false → ∃ t, exec (.phaseWrap dt) s = .next t ∧
      rget t A.PHS_PERIOD_NS = min ((u.clk - u.phs.wrapClk) * 5 / 7) (2 ^ 32 - 1) ∧ t.phs.wrapClk = u.clk ∧
      t.phs.setPending = false ∧
      if u.phs.setPending = true then
        t.phs.acc = ((rget u A.PHS_SET_CYCLE_HI % 256) * 2 ^ 32 + rget u A.PHS_SET_CYCLE_LO) * 2 ^ 72
          + u.phs.acc % 2 ^ 72
      else t.phs.acc = u.phs.acc ∧ t.phs.wrapCycle = phaseInstant u / 2 ^ 24)

/-- Timed actions and their pulses. A write to a slot of the host's arms or disarms it with its kind and repeat count, where it
is not armed late. A slot that is due, none lower being due with it, fires; with REPEAT 0 it shows that it fired and is armed no
more. A pulse whose time is over ends. -/
def Obligations.TimedActionsArmAndFire : Prop :=
  (∀ (k : Nat) (v : Word) (s : State), k < 32 → HostReady s (A.PHS_TA_CTL k) → fabricSlot s k = false →
    (bitAt v.toNat 31 = true → s.phs.valid = true → phaseInstant s ≤ taInstant s k) →
    ∃ t, exec (.timedActionArm k v) s = .next t ∧ taArmed t k = bitAt v.toNat 31 ∧
      fget t (F.PHS_TA_CTL_KIND k) = bits v.toNat 0 4 ∧
      fget t (F.PHS_TA_CTL_REPEAT k) = bits v.toNat 10 16 ∧
      t.phs = { s.phs with taNow := s.phs.taNow.filter (fun e => e.1 != k) } ∧ t.dp = s.dp) ∧
  (∀ (dt k : Nat) (s u : State), k < 32 → Elapsed dt s u → taDue u k = true →
    (List.range k).any (taDue u) = false → fget u (F.PHS_TA_CTL_REPEAT k) = 0 →
    ∃ t, exec (.timedActionFire dt k) s = .next t ∧ taArmed t k = false ∧ fget t (F.PHS_TA_STATUS_FIRED k) = 1 ∧
      bitAt (rget t A.PHS_TA_FIRED) k = true ∧ t.phs.taNow = u.phs.taNow.filter (fun e => e.1 != k) ∧ t.dp = u.dp ∧ t.tab = u.tab) ∧
  (∀ (dt pin j : Nat) (x : Pulse) (s u : State), pin < 16 → Elapsed dt s u →
    u.pin.pulses.find? (fun e => e.1 == pin) = some (j, x) → x.ends ≤ u.clk →
    ∃ t, exec (.gpioPulseEnd dt pin) s = .next t ∧ t.pin = { u.pin with pulses := sdel u.pin.pulses pin } ∧
      t.dp = u.dp ∧ t.tab = u.tab)

/-- R486, for a slot that is due, none lower being due with it. When REPEAT is 0, ARM is cleared when the action fires. When REPEAT
is n, it stays armed and the instant advances by n cycles, or by the least further multiple of n cycles that puts it ahead of the
clock, and MISSED counts, up to its limit, the instants passed over. -/
def Obligations.TimedActionsRepeat : Prop :=
  (∀ (dt k : Nat) (s u : State), k < 32 → Elapsed dt s u → taDue u k = true →
    (List.range k).any (taDue u) = false → fget u (F.PHS_TA_CTL_REPEAT k) = 0 → ∃ t, exec (.timedActionFire dt k) s = .next t ∧
      taArmed t k = false ∧ fget t (F.PHS_TA_STATUS_MISSED k) = fget u (F.PHS_TA_STATUS_MISSED k)) ∧
  (∀ (dt k n j : Nat) (s u : State), k < 32 → Elapsed dt s u → taDue u k = true →
    (List.range k).any (taDue u) = false → fget u (F.PHS_TA_CTL_REPEAT k) = n → n ≠ 0 →
    phaseInstant u < taInstant u k + (j + 1) * n * 2 ^ 24 → (j ≠ 0 → taInstant u k + j * n * 2 ^ 24 ≤ phaseInstant u) →
    ∃ t, exec (.timedActionFire dt k) s = .next t ∧ taArmed t k = true ∧ fget t (F.PHS_TA_STATUS_FIRED k) = 1 ∧
      taInstant t k = (taInstant u k + (j + 1) * n * 2 ^ 24) % 2 ^ 64 ∧
      fget t (F.PHS_TA_STATUS_MISSED k) = min (fget u (F.PHS_TA_STATUS_MISSED k) + j) (2 ^ 16 - 1))

/-- Trackers of device time. A sample of the host's, in time and with no step waiting, for a domain that does not track yet, is
counted and moves its tracker on; the fourth makes it track. A tracker without samples for the loss time becomes IDLE. SWITCH to
a tracking domain makes it govern and starts the bias at its filtered offset, and device time does not jump. An edge of
CLK10M_IN is remembered with its time while the input is enabled, and device time does not change. -/
def Obligations.TrackersFollowTheirSamples : Prop :=
  (∀ (v : Word) (d m : Nat) (s : State), HostReady s A.TIM_SMP_POST → bitAt v.toNat 0 = true → bits v.toNat 1 1 = d →
    (d = 0 → fget s F.TIM_CTL_SRC_A = 0) → (d = 1 → fbit s F.TIM_CTL_DUAL = true) → s.tim.valid = true →
    fullTime s (rget s A.TIM_SMP_SEC_LO) (rget s A.TIM_SMP_NS % 2 ^ 30) = m → m ≤ s.tim.t → s.tim.t ≤ m + secUnits →
    s.tim.stepT = none → trkState s d ≠ 2 → s.tim.lost = false → ∃ t, exec (.timSmpPost v) s = .next t ∧
      (trk t d).count = min ((trk s d).count + 1) 4 ∧ (trk t d).last = some s.clk ∧ (trk t d).used = true ∧
      trkState t d = (if 3 ≤ (trk s d).count then 2 else 1) ∧ ctr t 19 d = (ctr s 19 d + 1) % 2 ^ 64) ∧
  (∀ (dt c : Nat) (b : Bool) (s u : State), Elapsed dt s u → (trk u (b2n b)).last = some c → c + lossClocks u ≤ u.clk →
    trkState u (b2n b) ≠ 0 → ∃ t, exec (.trackerLossTimeout dt b) s = .next t ∧ trkState t (b2n b) = 0 ∧
      t.tim.t = u.tim.t ∧ t.dp = u.dp ∧ t.tab = u.tab) ∧
  (∀ (b : Bool) (s : State), HostReady s A.TIM_CMD → b2n b ≠ gov s → trkState s (b2n b) = 2 →
    ∃ t, exec (.switchDomain b) s = .next t ∧ gov t = b2n b ∧ t.tim.bias = (trk s (b2n b)).f ∧ t.tim.t = s.tim.t ∧
      fget t F.TIM_CMD_STATUS_RESULT = 0 ∧ ctr t 19 6 = (ctr s 19 6 + 1) % 2 ^ 64) ∧
  (∀ (dt : Nat) (s u : State), Elapsed dt s u → ∃ t, exec (.clk10mMeasurement dt) s = .next t ∧
    t.tim.clk10m = (if fbit u F.TIM_CTL_CLK10M_IN_EN = true then some u.tim.t else none) ∧ t.tim.t = u.tim.t)

/-- Device time and its registers. LATCH copies the device time's seconds and nanoseconds and changes no clock; TIM_CTL takes its
writable bits; TIM_UTC_OFFSET takes its 16 bits. -/
def Obligations.DeviceTimeCommands : Prop :=
  (∀ s : State, HostReady s A.TIM_CMD → ∃ t, exec .latch s = .next t ∧ t.tim = s.tim ∧
    rget t A.TIM_LAT_SEC_LO = timeSec s.tim.t % 2 ^ 32 ∧ rget t A.TIM_LAT_NS = timeNs s.tim.t % 2 ^ 32 ∧
    fget t F.TIM_CMD_STATUS_RESULT = 0 ∧ t.phs = s.phs ∧ t.dp = s.dp) ∧
  (∀ (v : Word) (s : State), HostReady s A.TIM_CTL → ∃ t, exec (.timCtlWrite v) s = .next t ∧
    rget t A.TIM_CTL = v.toNat &&& 0x1FE ∧ t.tim.t = s.tim.t ∧ t.dp = s.dp ∧ t.tab = s.tab) ∧
  (∀ (v : Word) (s : State), HostReady s A.TIM_UTC_OFFSET → ∃ t, exec (.utcOffsetSet v) s = .next t ∧
    rget t A.TIM_UTC_OFFSET = v.toNat % 65536 ∧ t.tim = s.tim ∧ t.dp = s.dp ∧ t.tab = s.tab)

/-- R523. SET_ABS sets device time to the value of the TIM_STEP registers, STEP_REL adds or subtracts it; the change is made in the
command's own core clock and is added to the cumulative step sum, the time is valid, the bias is 0 and both trackers are IDLE. A
value of 10⁹ ns or more in the nanoseconds, a result below 0 and one beyond the seconds' 48 bits are refused with BAD_VALUE, and
time does not change. -/
def Obligations.StepsOfDeviceTime : Prop :=
  (∀ (c : Instr) (x : Int) (s : State), (c, x) ∈ [(Instr.setAbs, Int.ofNat (timeAt s A.TIM_STEP_SEC_HI)),
      (.stepRel false, Int.ofNat s.tim.t + Int.ofNat (timeAt s A.TIM_STEP_SEC_HI)),
      (.stepRel true, Int.ofNat s.tim.t - Int.ofNat (timeAt s A.TIM_STEP_SEC_HI))] →
    HostReady s A.TIM_CMD → rget s A.TIM_STEP_NS % 2 ^ 30 < 1000000000 → 0 ≤ x → x < Int.ofNat timeMod →
    ∃ t, exec c s = .next t ∧ Int.ofNat t.tim.t = x ∧ t.tim.stepSum = s.tim.stepSum + (x - Int.ofNat s.tim.t) ∧
      t.clk = s.clk ∧ t.tim.valid = true ∧ t.tim.bias = 0 ∧ trkState t 0 = 0 ∧ trkState t 1 = 0 ∧
      fget t F.TIM_CMD_STATUS_RESULT = 0 ∧ ctr t 19 7 = (ctr s 19 7 + 1) % 2 ^ 64 ∧ t.dp = s.dp ∧ t.tab = s.tab) ∧
  (∀ (c : Instr) (s : State), c ∈ [Instr.setAbs, .stepRel false, .stepRel true] → HostReady s A.TIM_CMD →
    1000000000 ≤ rget s A.TIM_STEP_NS % 2 ^ 30 →
    ∃ t, exec c s = .next t ∧ fget t F.TIM_CMD_STATUS_RESULT = 2 ∧ t.tim = s.tim) ∧
  (∀ (neg : Bool) (x : Int) (s : State), HostReady s A.TIM_CMD →
    x = (if neg = true then Int.ofNat s.tim.t - Int.ofNat (timeAt s A.TIM_STEP_SEC_HI)
      else Int.ofNat s.tim.t + Int.ofNat (timeAt s A.TIM_STEP_SEC_HI)) → (x < 0 ∨ Int.ofNat timeMod ≤ x) →
    ∃ t, exec (.stepRel neg) s = .next t ∧ fget t F.TIM_CMD_STATUS_RESULT = 2 ∧ t.tim = s.tim)

/-- Pulses per second and transmit stamps. An enabled edge at PPS_IN with no adjustment latches the device time and is counted; the
output rises at a whole second it has not shown yet and falls after its width; reading a stamp record's last word answers that
word and takes the record off the FIFO. -/
def Obligations.PulsesAndStamps : Prop :=
  (∀ (dt : Nat) (s u : State), Elapsed dt s u → fbit u F.TIM_CTL_PPS_IN_EN = true → rget u A.TIM_PPS_IN_ADJ = 0 →
    u.tim.t < timeMod → ∃ t, exec (.ppsInEdge dt) s = .next t ∧
      rget t A.TIM_PPS_CAP_NS = timeNs u.tim.t % 2 ^ 32 ∧ rget t A.TIM_PPS_CAP_SEC_LO = timeSec u.tim.t % 2 ^ 32 ∧
      bitAt (rget t A.TIM_INT_STAT) 8 = true ∧ ctr t 19 13 = (ctr u 19 13 + 1) % 2 ^ 64) ∧
  (∀ (dt : Nat) (s u : State), Elapsed dt s u → fbit u F.TIM_CTL_PPS_OUT_EN = true → u.tim.valid = true →
    u.tim.ppsSec < timeSec u.tim.t → ∃ t, exec (.ppsOutSecond dt) s = .next t ∧
      t.tim = { u.tim with ppsHigh := true, ppsClk := u.clk, ppsSec := timeSec u.tim.t } ∧ t.dp = u.dp) ∧
  (∀ (dt : Nat) (s u : State), Elapsed dt s u → u.tim.ppsHigh = true →
    u.tim.ppsClk + clampN (fget u F.TIM_PPS_CFG_WIDTH_MS) 1 999 * clocksPerMs ≤ u.clk →
    ∃ t, exec (.ppsOutPulseEnd dt) s = .next t ∧ t.tim = { u.tim with ppsHigh := false } ∧ t.dp = u.dp) ∧
  (∀ (x : Nat × Nat × Nat) (rest : List (Nat × Nat × Nat)) (s : State), held s = false → s.hif.d3hot = false →
    s.tim.txts = x :: rest → ∃ t, exec .txtsRecordRead s = .next t ∧ t.hif.readData = [txStampWord s 3] ∧
      t.tim = { s.tim with txts := rest } ∧ t.dp = s.dp ∧ t.tab = s.tab)

/-- Kixon frames and the handshake, with the Kixon hardware on. A whole good frame at the head of the Keeper's queue is counted by
the first check it fails, or passed on; a HELLO on a port that is not LINKED leaves the neighbour's nonce; a HELLO_ACK with this
side's nonce links the port with the neighbour's number and sequence. A port in HELLO says HELLO again after 100 ms; a delay
request that is due is numbered; one received is answered by a new frame; its response gives the first measurement of the link's
delay. REHELLO on a fabric port starts the handshake with a new nonce. -/
def Obligations.KixonFramesAndTheHandshake : Prop :=
  (∀ (dt i : Nat) (rest : List Nat) (f : Frame) (s u : State), Elapsed dt s u → u.fab.rx = i :: rest →
    frameOf u i = some f → f.whole = true → f.bad = false → f.srcPort < 72 → kixonOn u = true →
    ∃ t, exec (.kixonFrameCheck dt) s = .next t ∧ t.fab.rx = rest ∧
      match checkFails u f.srcPort f with
      | some k => ctr t 20 (9 * f.srcPort + k) = (ctr u 20 (9 * f.srcPort + k) + 1) % 2 ^ 64 ∧ t.fab.passed = u.fab.passed
      | none => ctr t 20 (9 * f.srcPort) = (ctr u 20 (9 * f.srcPort) + 1) % 2 ^ 64 ∧ t.fab.passed = u.fab.passed ++ [i]) ∧
  (∀ (dt i : Nat) (f : Frame) (s u : State), Elapsed dt s u → kixonOn u = true → headFrame u (· == 0x01) = some (i, f) →
    fabState u f.srcPort ≠ 2 → ∃ t, exec (.hello dt) s = .next t ∧ t.fab.passed = u.fab.passed.drop 1 ∧
      (fabPort t f.srcPort).peer = some (beAt f.bytes 32 8)) ∧
  (∀ (dt i : Nat) (f : Frame) (s u : State), Elapsed dt s u → kixonOn u = true → headFrame u (· == 0x02) = some (i, f) →
    f.srcPort < 72 → fabState u f.srcPort = 1 → beAt f.bytes 32 8 = (fabPort u f.srcPort).nonce → ∃ t, exec (.helloAck dt) s = .next t ∧
      t.fab.passed = u.fab.passed.drop 1 ∧ fabState t f.srcPort = 2 ∧ neighbour t f.srcPort = beAt f.bytes 22 2 ∧
      (fabPort t f.srcPort).rxSeq = beAt f.bytes 26 6 ∧ bitAt (rget t A.FAB_INT_STAT) 0 = true) ∧
  (∀ (dt p : Nat) (s u : State), p < 72 → Elapsed dt s u → isFabricPort u p = true → fabState u p = 1 →
    (fabPort u p).helloClk + 100 * clocksPerMs ≤ u.clk → ∃ t, exec (.helloTimer dt p) s = .next t ∧
      (fabPort t p).helloClk = u.clk ∧ fabState t p = 1) ∧
  (∀ (dt p : Nat) (s u : State), p < 72 → Elapsed dt s u → delayReqDue u p = true →
    ∃ t, exec (.delayReqTimer dt p) s = .next t ∧ (fabPort t p).reqId = (fabPort u p).reqId + 1 ∧
      (fabPort t p).reqClk = u.clk) ∧
  (∀ (dt i : Nat) (f : Frame) (s u : State), Elapsed dt s u → headFrame u (· == 0x03) = some (i, f) → kixonOn u = true →
    cellsFree u 1 = true → ∃ t, exec (.delayReq dt) s = .next t ∧
      t.fab = { u.fab with passed := u.fab.passed.drop 1 } ∧ t.dp.next = u.dp.next + 1) ∧
  (∀ (dt i t1 : Nat) (d1 d : Int) (f : Frame) (s u : State), Elapsed dt s u → kixonOn u = true → headFrame u (· == 0x04) = some (i, f) →
    (fabPort u f.srcPort).reqSent = some (t1, d1) → beAt f.bytes 32 2 = (fabPort u f.srcPort).reqId % 65536 →
    elapsed16 f.stamp t1 (f.stepSum - d1) ≤ 100000000 * 65536 →
    (elapsed16 f.stamp t1 (f.stepSum - d1) - (Int.ofNat (stampAt16 f.bytes 52) - Int.ofNat (stampAt16 f.bytes 40))) / 2 = d →
    0 ≤ d → (fabPort u f.srcPort).measured = none → ∃ t, exec (.delayResp dt) s = .next t ∧
      (fabPort t f.srcPort).measured = some d.toNat ∧ (fabPort t f.srcPort).reqSent = none) ∧
  (∀ (p : Nat) (s : State), p < 128 → HostReady s A.FAB_CMD → isFabricPort s p = true → ∃ t, exec (.rehello p) s = .next t ∧
    fabState t p = 1 ∧ (fabPort t p).nonce = (Config.nonce s.free).toNat ∧ (fabPort t p).txSeq = 0 ∧
    fget t F.FAB_CMD_STATUS_RESULT = 0)

/-- Time, triggers and heartbeats in the fabric, with the Kixon hardware on. An active Keeper sends TIME at its interval; the first
TIME frame a member takes sets the standing pair and makes its port a candidate; when a port's candidacy is over, the upstream
port is the best of the candidates. A new trigger of the standing pair is the last one known, and one of a known kind is reported.
A heartbeat with no standing pair ends the Keeper's loss and goes on; its absence for the loss time is that loss. A join request
waits for an active Keeper in the join queue, and leaves it with a token. -/
def Obligations.FabricTimeTriggersAndHeartbeats : Prop :=
  (∀ (dt : Nat) (s u : State), Elapsed dt s u → kixonOn u = true → activeKeeper u = true →
    u.fab.timeClk + Machine.timeInterval u ≤ u.clk → ∃ t, exec (.timeInterval dt) s = .next t ∧
      t.fab = { u.fab with timeSeq := (u.fab.timeSeq + 1) % 2 ^ 32, timeClk := u.clk }) ∧
  (∀ (dt i : Nat) (f : Frame) (s u : State), Elapsed dt s u → kixonOn u = true → headFrame u (· == 0x10) = some (i, f) →
    activeKeeper u = false → u.fab.standing = none → ∃ t, exec (.timeFrame dt) s = .next t ∧
      t.fab.passed = u.fab.passed.drop 1 ∧ t.fab.standing = some (beAt f.bytes 32 4, beAt f.bytes 36 2) ∧
      (fabPort t f.srcPort).time = some (u.clk, beAt f.bytes 32 4, beAt f.bytes 36 2, beAt f.bytes 38 1)) ∧
  (∀ (dt p : Nat) (s u : State), p < 72 → Elapsed dt s u → upCandidate u p = none →
    ∃ t, exec (.upstreamCandidateExpiry dt p) s = .next t ∧ upPort t = bestUp u ∧ t.fab = u.fab) ∧
  (∀ (dt i k id : Nat) (f : Frame) (s u : State), Elapsed dt s u → kixonOn u = true → headFrame u (· == 0x11) = some (i, f) →
    activeKeeper u = false → u.fab.standing = some (beAt f.bytes 32 4, beAt f.bytes 36 2) → u.fab.lastTrig = some k →
    beAt ((f.bytes.drop 32).take 32) 8 4 = id → k < id → ∃ t, exec (.trigger dt) s = .next t ∧
      t.fab.lastTrig = some id ∧ t.fab.passed = u.fab.passed.drop 1 ∧
      (1 ≤ beAt ((f.bytes.drop 32).take 32) 7 1 % 16 → beAt ((f.bytes.drop 32).take 32) 7 1 % 16 ≤ 5 →
        rget t A.FAB_TRIG_LAST_ID = id % 2 ^ 32)) ∧
  (∀ (dt i : Nat) (f : Frame) (s u : State), Elapsed dt s u → kixonOn u = true → headFrame u (· == 0x23) = some (i, f) →
    activeKeeper u = false → u.fab.standing = none → ∃ t, exec (.heartbeat dt) s = .next t ∧
      t.fab = { u.fab with passed := u.fab.passed.drop 1, hbLost := false, hbClk := u.clk } ∧ t.tab = u.tab) ∧
  (∀ (dt : Nat) (s u : State), Elapsed dt s u → member u = true → kixonOn u = true → activeKeeper u = false →
    u.fab.hbLost = false → u.fab.hbClk + max 1 (fget u F.FAB_HB_LOSS_MS_MS) * clocksPerMs ≤ u.clk →
    ∃ t, exec (.hbLossTimeout dt) s = .next t ∧
      t.fab = { u.fab with hbLost := true, standing := none, lastTrig := none } ∧
      bitAt (rget t A.FAB_INT_STAT) 5 = true) ∧
  (∀ (dt i : Nat) (f : Frame) (s u : State), Elapsed dt s u → kixonOn u = true →
    headFrame u (fun t => decide (0x20 ≤ t)) = some (i, f) →
    beAt f.bytes 15 1 = 0x20 → activeKeeper u = true → u.fab.join.length < 2048 →
    ∃ t, exec (.kixonHostMessage dt) s = .next t ∧ t.fab.passed = u.fab.passed.drop 1 ∧
      t.fab.join = u.fab.join ++ [i] ∧ ctr t 21 10 = (ctr u 21 10 + 1) % 2 ^ 64) ∧
  (∀ (dt i : Nat) (rest : List Nat) (s u : State), Elapsed dt s u → u.fab.join = i :: rest → kixonToken u = true →
    ∃ t, exec (.joinQueueDelivery dt) s = .next t ∧ t.fab = { u.fab with join := rest })

/-- The Keeper's commands and the fabric's registers. TAKEOVER makes a standby Keeper active under the term after the highest it has
seen, with its own pair standing and a TIME frame numbered; STEP_DOWN makes it stand by and drops the trigger being sent.
SEND_TRIGGER of a known kind, far enough ahead, is the last trigger known and reported at home, and its further copies wait, one
each millisecond. KEY_SWITCH exchanges the two key sets, and so does an armed one whose instant has come, which then no longer
waits. A device in which a Forging leaves the number open takes it once from FAB_SELF; FAB_PORT_CFG takes its enable bit. -/
def Obligations.KeeperCommands : Prop :=
  (∀ s : State, HostReady s A.FAB_CMD → roleOf s = 1 → activeKeeper s = false → ∃ t, exec .takeover s = .next t ∧
    fget t F.FAB_STATUS_KEEPER_STATE = 2 ∧ fget t F.FAB_CMD_STATUS_RESULT = 0 ∧
    rget t A.FAB_TERM = (match s.fab.maxTerm with | some m => (m + 1) % 2 ^ 32 | none => 1) ∧
    t.fab.standing = some (rget t A.FAB_TERM, fget s F.FAB_SELF_DEVICE_ID) ∧ t.fab.lastTrig = none ∧
    t.fab.timeSeq = (s.fab.timeSeq + 1) % 2 ^ 32) ∧
  (∀ s : State, HostReady s A.FAB_CMD → activeKeeper s = true → ∃ t, exec .stepDown s = .next t ∧
    fget t F.FAB_STATUS_KEEPER_STATE = 1 ∧ fget t F.FAB_CMD_STATUS_RESULT = 0 ∧ t.fab = { s.fab with trig := none } ∧
    t.dp = s.dp) ∧
  (∀ (k : Nat) (s : State), HostReady s A.FAB_CMD → activeKeeper s = true → fget s F.FAB_TRIG_CTL_KIND = k → 1 ≤ k → k ≤ 5 →
    (k ≠ 5 → phaseInstant s + fget s F.FAB_TRIG_LEAD_PU ≤ instantAt s A.FAB_TRIG_CYCLE_HI) → s.fab.trig = none →
    ∃ t, exec .sendTrigger s = .next t ∧ fget t F.FAB_CMD_STATUS_RESULT = 0 ∧
      t.fab.lastTrig = some ((rget s A.FAB_TRIG_LAST_ID + 1) % 2 ^ 32) ∧
      rget t A.FAB_TRIG_LAST_ID = (rget s A.FAB_TRIG_LAST_ID + 1) % 2 ^ 32 ∧
      t.fab.trig.isSome = decide (2 ≤ fget s F.FAB_TRIG_CTL_REPEAT)) ∧
  (∀ (dt : Nat) (x : TrigSend) (s u : State), Elapsed dt s u → u.fab.trig = some x → x.clk + clocksPerMs ≤ u.clk →
    ∃ t, exec (.triggerRepeat dt) s = .next t ∧
      t.fab = { u.fab with trig := if 1 < x.left then some { x with left := x.left - 1, clk := u.clk } else none }) ∧
  (∀ s : State, HostReady s A.FAB_CMD → s.fab.keyStandby.isSome = true → ∃ t, exec .keySwitch s = .next t ∧
    t.fab = { s.fab with keyActive := s.fab.keyStandby, keyStandby := s.fab.keyActive } ∧
    fget t F.FAB_CMD_STATUS_RESULT = 0 ∧ t.dp = s.dp) ∧
  (∀ (dt x : Nat) (s u : State), Elapsed dt s u → u.fab.keySwitch.find? (fun y => decide (y ≤ phaseInstant u)) = some x →
    u.fab.keyStandby.isSome = true → ∃ t, exec (.keySwitchInstant dt) s = .next t ∧
      t.fab = { u.fab with keyActive := u.fab.keyStandby, keyStandby := u.fab.keyActive,
                              keySwitch := u.fab.keySwitch.erase x } ∧ t.dp = u.dp) ∧
  (∀ (v : Word) (s : State), HostReady s A.FAB_SELF → s.frg.active.isSome = true → roleOf s = 2 → fget s F.FAB_SELF_DEVICE_ID = 0xFFFF →
    s.fab.selfSet = false → 2 ≤ v.toNat % 65536 → v.toNat % 65536 ≤ 2047 → ∃ t, exec (.fabSelfWrite v) s = .next t ∧
      fget t F.FAB_SELF_DEVICE_ID = v.toNat % 65536 ∧ t.fab = { s.fab with selfSet := true } ∧ t.dp = s.dp) ∧
  (∀ (p : Nat) (v : Word) (s : State), p < 72 → HostReady s (A.FAB_PORT_CFG p) →
    ∃ t, exec (.fabPortCfgWrite p v) s = .next t ∧ fbit t (F.FAB_PORT_CFG_EN p) = bitAt v.toNat 0)

/-- Table commands. Issued to an idle context, a command makes the context busy, and an idle arbiter takes it. When the command
that the arbiter runs completes, over the tables as the writes due by its clock leave them (for a READ, as all of its clock's
stages leave them), its context is idle with its result and its interrupt. READ returns the entry's image and leaves the tables;
WRITE of a right image stores the data words in one entry and no other; INSERT of a key that is not there writes a free way of its
buckets, and of one that is there changes nothing; DELETE and AGE take the VALID bit. -/
def Obligations.TableCommandsAreIssuedAndCompleted : Prop :=
  (∀ (c table h op : Nat) (bank : Bool) (i : Instr) (s : State), c < 4 → table < 256 → h < 4 →
    HostReady s (A.TBL_CMD c) → fbit s (F.TBL_STATUS_BUSY c) = false →
    (i, op) ∈ [(Instr.tblRead c table h bank, 1), (.tblWrite c table h bank, 2), (.tblLookup c table h bank, 3),
      (.tblInsert c table h bank, 4), (.tblUpdate c table h bank, 5), (.tblDelete c table h bank, 6),
      (.hitScan c table h bank, 7), (.tblAge c table h bank, 8), (.tblFlush c table h bank, 9)] →
    ∃ t x, exec i s = .next t ∧ fget t (F.TBL_STATUS_BUSY c) = 1 ∧ fget t (F.TBL_STATUS_OVERRUN c) = 0 ∧
      (t.tab.cmds.find? (fun e => e.1 == c)).map Prod.snd = some x ∧ x.op = op ∧ x.table = table ∧ x.h = h ∧ x.bank = bank ∧
      t.tab.turn = some (s.tab.turn.getD c) ∧ t.tab.mem = s.tab.mem ∧ t.dp = s.dp) ∧
  (∀ (dt c r : Nat) (x : TblCmd) (s u w v : State), c < 4 → Elapsed dt s u →
    tableWrites u = w → runningCmd w c = some x →
    (u.tab.cmds.find? (fun e => e.1 == c)).map (fun e => e.2.op) = some x.op → x.op ∉ [1, 3, 4, 7] →
    tblDo c x.op x.table x.h x.bank x w = (r, v) →
    ∃ t, exec (.tblCmdComplete dt c) s = .next t ∧ t.tab.mem = v.tab.mem ∧ t.tab.cmds.any (fun e => e.1 == c) = false ∧
      t.tab.turn ≠ some c ∧ fget t (F.TBL_STATUS_BUSY c) = 0 ∧ fget t (F.TBL_STATUS_RESULT c) = r % 256 ∧
      bitAt (rget t A.TBL_INT_STAT) c = true) ∧
  (∀ (dt c r : Nat) (x : TblCmd) (s u v : State), c < 4 → Elapsed dt s u → runningCmd u c = some x → x.op = 7 →
    tblDo c 7 x.table x.h x.bank x u = (r, v) → ∃ t, exec (.tblCmdComplete dt c) s = .next t ∧ t.tab.mem = v.tab.mem ∧
      fget t (F.TBL_STATUS_BUSY c) = 0 ∧ fget t (F.TBL_STATUS_RESULT c) = r % 256 ∧ bitAt (rget t A.TBL_INT_STAT) c = true) ∧
  (∀ (dt c i : Nat) (x : TblCmd) (s u w : State), c < 4 → Elapsed dt s u →
    stagesNow u = w → runningCmd w c = some x →
    (u.tab.cmds.find? (fun e => e.1 == c)).map (fun e => e.2.op) = some x.op → x.op = 1 →
    w.frg.active.isSome = true → tableOk w x.table x.h = true → fget w (F.TBL_INDEX_INDEX c) = i →
    i < tableSize w x.table x.h →
    ∃ t, exec (.tblCmdComplete dt c) s = .next t ∧ fget t (F.TBL_STATUS_RESULT c) = resOk ∧ t.tab.mem = w.tab.mem ∧
      ∀ j, j < (readImage w x.table (if perHearth x.table then x.h else 0) (bankFor x.table x.bank) i).length →
        rget t (A.TBL_DATA c j) =
          ew (readImage w x.table (if perHearth x.table then x.h else 0) (bankFor x.table x.bank) i) j % 2 ^ 32) ∧
  (∀ (dt c i : Nat) (x : TblCmd) (d : List Nat) (s u w : State), c < 4 → Elapsed dt s u →
    tableWrites u = w → runningCmd w c = some x →
    (u.tab.cmds.find? (fun e => e.1 == c)).map (fun e => e.2.op) = some x.op → x.op = 2 →
    w.frg.active.isSome = true → tableOk w x.table x.h = true → x.table ∉ [tGate, tTcam, tMeter, tGroup, tFlood] →
    fget w (F.TBL_INDEX_INDEX c) = i → i < tableSize w x.table x.h → dataWords w c (imageWords w x.table x.h) = d →
    imageOk w x.table x.h i d = true → ∃ t, exec (.tblCmdComplete dt c) s = .next t ∧
      fget t (F.TBL_STATUS_RESULT c) = resOk ∧
      entryAt t x.table (if perHearth x.table then x.h else 0) 0 i = (if d.all (· == 0) then [] else d) ∧
      ∀ j, j ≠ entryKey x.table (if perHearth x.table then x.h else 0) 0 i →
        sget entryDefault t.tab.mem j = sget entryDefault w.tab.mem j) ∧
  (∀ (dt c i b0 b1 : Nat) (x : TblCmd) (p : HashSpec) (d : List Nat) (s u w : State), c < 4 → Elapsed dt s u →
    tableWrites u = w → runningCmd w c = some x →
    (u.tab.cmds.find? (fun e => e.1 == c)).map (fun e => e.2.op) = some x.op → x.op = 4 →
    w.frg.active.isSome = true → tableOk w x.table x.h = true → x.table ≤ 8 →
    dataWords w c (imageWords w x.table x.h) = d → imageOk w x.table x.h 0 d = true →
    findKey w x.h x.table (dataKey w c x.table x.h) = none → hashSpec w x.h x.table = some p →
    candidates p (dataKey w c x.table x.h) = (b0, b1) →
    (waysOf b0 ++ waysOf b1).find? (fun i => !imageValid x.table (entryAt w x.table x.h 0 i)) = some i →
    ∃ t, exec (.tblCmdComplete dt c) s = .next t ∧ fget t (F.TBL_STATUS_RESULT c) = resOk ∧
      fget t (F.TBL_STATUS_MOVES c) = 0 ∧ fget t (F.TBL_RESULT_INDEX_INDEX c) = i ∧
      entryAt t x.table x.h 0 i = (if d.all (· == 0) then [] else d)) ∧
  (∀ (dt c i : Nat) (x : TblCmd) (d : List Nat) (s u w : State), c < 4 → Elapsed dt s u →
    tableWrites u = w → runningCmd w c = some x →
    (u.tab.cmds.find? (fun e => e.1 == c)).map (fun e => e.2.op) = some x.op → x.op = 4 →
    w.frg.active.isSome = true → tableOk w x.table x.h = true → x.table ≤ 8 →
    dataWords w c (imageWords w x.table x.h) = d → imageOk w x.table x.h 0 d = true →
    findKey w x.h x.table (dataKey w c x.table x.h) = some i →
    ∃ t, exec (.tblCmdComplete dt c) s = .next t ∧ fget t (F.TBL_STATUS_RESULT c) = resExists ∧ t.tab.mem = w.tab.mem) ∧
  (∀ (dt c i : Nat) (x : TblCmd) (s u w : State), c < 4 → Elapsed dt s u →
    tableWrites u = w → runningCmd w c = some x →
    (u.tab.cmds.find? (fun e => e.1 == c)).map (fun e => e.2.op) = some x.op → x.op = 6 →
    w.frg.active.isSome = true → tableOk w x.table x.h = true → x.table ≤ 8 →
    findKey w x.h x.table (dataKey w c x.table x.h) = some i →
    ∃ t, exec (.tblCmdComplete dt c) s = .next t ∧ fget t (F.TBL_STATUS_RESULT c) = resOk ∧
      bitAt (ew (entryAt t x.table x.h 0 i) (validWord x.table)) 31 = false) ∧
  (∀ (dt c i : Nat) (x : TblCmd) (s u w : State), c < 4 → Elapsed dt s u →
    tableWrites u = w → runningCmd w c = some x →
    (u.tab.cmds.find? (fun e => e.1 == c)).map (fun e => e.2.op) = some x.op → x.op = 8 → x.table = tFdb →
    w.frg.active.isSome = true → fget w (F.TBL_INDEX_INDEX c) = i → i < tableSize w tFdb x.h →
    bitAt (ew (entryAt w tFdb x.h 0 i) 2) 31 = true → bitAt (ew (entryAt w tFdb x.h 0 i) 2) 24 = false →
    bitAt (ew (entryAt w tFdb x.h 0 i) 2) 25 = false → ∃ t, exec (.tblCmdComplete dt c) s = .next t ∧
      fget t (F.TBL_STATUS_RESULT c) = resOk ∧ bitAt (ew (entryAt t tFdb x.h 0 i) 2) 31 = false)

/-- The other table work, the writes due by its clock having been made. The mover takes the oldest insertion of a hearth: a key that is
there already changes nothing; else it goes into a free way of its buckets, or the chain of moves that frees one begins. Reading
the last word of a notification takes it off; reading the exception capture clears it, but for a capture made in that clock; a
fragment entry whose time is over ends. A template command is taken while none is in progress, and when it completes a right
template has been stored, or one has been read, with its result. A background refresh leaves a meter's stamp at now and no other
entry changed. -/
def Obligations.MoversNotesAndTemplates : Prop :=
  (∀ (dt h : Nat) (l : Learn) (rest : List Learn) (s u w : State), h < 4 → Elapsed dt s u → tableWrites u = w →
    lget w.tab.mover h = l :: rest → jobOf w h tFdb = none → (findKey w h tFdb (fdbKey l.bd l.mac)).isSome = true →
    ∃ t, exec (.moverInsertion dt h tFdb) s = .next t ∧ lget t.tab.mover h = rest ∧ t.tab.mem = w.tab.mem) ∧
  (∀ (dt h i b0 b1 : Nat) (p : HashSpec) (l : Learn) (rest : List Learn) (s u w : State), h < 4 → Elapsed dt s u →
    tableWrites u = w → lget w.tab.mover h = l :: rest → jobOf w h tFdb = none →
    findKey w h tFdb (fdbKey l.bd l.mac) = none → hashSpec w h tFdb = some p → candidates p (fdbKey l.bd l.mac) = (b0, b1) →
    (waysOf b0 ++ waysOf b1).find? (fun i => !imageValid tFdb (entryAt w tFdb h 0 i)) = some i →
    ∃ t, exec (.moverInsertion dt h tFdb) s = .next t ∧ lget t.tab.mover h = rest ∧
      entryAt t tFdb h 0 i = learnedImage l ∧ ∀ j, j ≠ entryKey tFdb h 0 i →
        sget entryDefault t.tab.mem j = sget entryDefault w.tab.mem j) ∧
  (∀ (dt h f b0 b1 : Nat) (p : HashSpec) (path : List Nat) (l : Learn) (rest : List Learn) (s u w : State), h < 4 →
    Elapsed dt s u → tableWrites u = w → lget w.tab.mover h = l :: rest → jobOf w h tFdb = none →
    findKey w h tFdb (fdbKey l.bd l.mac) = none → hashSpec w h tFdb = some p → candidates p (fdbKey l.bd l.mac) = (b0, b1) →
    (waysOf b0 ++ waysOf b1).find? (fun i => !imageValid tFdb (entryAt w tFdb h 0 i)) = none →
    findChain w h tFdb p (Config.moverWay w.free) (maxMoves w) [(b0, []), (b1, [])] [b0, b1] = some (f, path) →
    ∃ t, exec (.moverInsertion dt h tFdb) s = .next t ∧ lget t.tab.mover h = rest ∧ t.tab.mem = w.tab.mem ∧
      jobOf t h tFdb = some { learnJob l with path := path, dest := f, clk := moveFrom w h tFdb }) ∧
  (∀ (h : Nat) (s : State), h < 4 → held s = false → s.hif.d3hot = false → ∃ t, exec (.tblNoteW3Read h) s = .next t ∧
    t.hif.readData = [ew ((lget s.tab.notes h).headD []) 3] ∧ lget t.tab.notes h = (lget s.tab.notes h).tail ∧
    t.tab.mem = s.tab.mem ∧ t.dp = s.dp) ∧
  (∀ (h : Nat) (s : State), h < 4 → held s = false → s.hif.d3hot = false → ∃ t, exec (.hthExcCapRead h) s = .next t ∧
    t.hif.readData = [rget s (A.HTH_EXC_CAP h)] ∧ rget t (A.HTH_EXC_CAP h) = sget freshDefault s.fresh (A.HTH_EXC_CAP h) ∧ t.tab = s.tab ∧ t.dp = s.dp) ∧
  (∀ (dt h set way : Nat) (e : FragEntry) (s u : State), h < 4 → set < 2048 → way < 4 → Elapsed dt s u →
    fragAt u (8192 * h + 4 * set + way) = some e → e.expires ≤ u.clk →
    ∃ t, exec (.fragmentEntryExpiry dt h set way) s = .next t ∧ fragAt t (8192 * h + 4 * set + way) = none ∧
      t.tab = u.tab) ∧
  (∀ (i op : Nat) (c : Instr) (s : State), i < 512 → HostReady s A.FRY_TMPL_CMD →
    fbit s F.FRY_TMPL_STATUS_BUSY = false → (c, op) ∈ [(Instr.tmplRead i, 1), (.tmplWrite i, 2)] →
    ∃ t, exec c s = .next t ∧ fget t F.FRY_TMPL_STATUS_BUSY = 1 ∧ t.fry = { s.fry with cmd := some (op, i) } ∧
      t.dp = s.dp) ∧
  (∀ (dt i : Nat) (w : List Nat) (s u : State), Elapsed dt s u → u.fry.cmd = some (2, i) → u.frg.active.isSome = true →
    (List.range 16).map (fun k => rget u (A.FRY_TMPL_DATA k)) = w → templateOk w = true →
    ∃ t, exec (.tmplCmdComplete dt) s = .next t ∧ fget t F.FRY_TMPL_STATUS_BUSY = 0 ∧
      fget t F.FRY_TMPL_STATUS_RESULT = resOk ∧ t.fry.cmd = none ∧
      templateAt t i = (if w.all (· == 0) then [] else w) ∧ t.tab = u.tab) ∧
  (∀ (dt i : Nat) (s u : State), Elapsed dt s u → u.fry.cmd = some (1, i) → u.frg.active.isSome = true →
    ∃ t, exec (.tmplCmdComplete dt) s = .next t ∧ fget t F.FRY_TMPL_STATUS_RESULT = resOk ∧
      (∀ k, k < 16 → rget t (A.FRY_TMPL_DATA k) = ew (templateAt u i) k % 2 ^ 32) ∧
      t.fry = { u.fry with cmd := none }) ∧
  (∀ (dt h m : Nat) (s u : State), h < 4 → m < 32768 → Elapsed dt s u →
    ∃ t, exec (.meterBackgroundRefresh dt h m) s = .next t ∧ ew (entryAt t tMeter h 0 m) 6 = u.clk % 2 ^ 32 ∧
      (∀ j, j ≠ entryKey tMeter h 0 m → sget entryDefault t.tab.mem j = sget entryDefault u.tab.mem j) ∧ t.dp = u.dp)

/-- Queues. A write of a shaper's rate or burst takes the register's fields and sets its level anew: full where it is enabled, else 0. A
write of a region or limit takes the register's fields and changes no other register but the overcommit status. A sample, once
its period is over, counts the depth of each queue in its bin. -/
def Obligations.ShapersRegionsAndSamples : Prop :=
  (∀ (g : ShaperTarget) (b : Bool) (v : Word) (s : State), shaperTargetOk g = true → HostReady s (shaperReg b g) →
    ∃ t, exec (.shaperRateWrite g b v) s = .next t ∧
      rget t (shaperReg b g) = rget (writeRw (shaperReg b g) v.toNat s) (shaperReg b g) ∧
      sget shaperDefault t.tmg.shapers (shaperOf g) =
        { level := if bitAt (shaperRate t (shaperOf g)) 30 = true then Int.ofNat (shaperBurst t (shaperOf g)) * 65536 else 0
          stamp := s.clk } ∧
      t.dp = s.dp ∧ t.tab = s.tab) ∧
  (∀ (a : Nat) (v : Word) (s : State), regionAddr a = true → HostReady s a → ∃ t, exec (.tmRegionWrite a v) s = .next t ∧
    rget t a = rget (writeRw a v.toNat s) a ∧
    (∀ r, r ≠ a → r ≠ A.TM_INT_STAT → r ∉ settleRegs → rget t r = rget s r) ∧ t.dp = s.dp ∧ t.tab = s.tab) ∧
  (∀ (dt us : Nat) (s u : State), Elapsed dt s u → fget u F.TM_SAMPLE_CFG_PERIOD_US = us → us ≠ 0 →
    u.tmg.sampleClk + us * clocksPerUs ≤ u.clk → ∃ t, exec (.queueSample dt) s = .next t ∧ t.tmg.sampleClk = u.clk ∧
      (∀ k, k < 1280 → ctr t 15 (32 * k + sampleBin (fget u F.TM_SAMPLE_CFG_DEPTH_BASE)
          (fget u (F.TM_Q_DEPTH_DEPTH (qport k) (qnum k)))) =
        (ctr u 15 (32 * k + sampleBin (fget u F.TM_SAMPLE_CFG_DEPTH_BASE)
          (fget u (F.TM_Q_DEPTH_DEPTH (qport k) (qnum k)))) + 1) % 2 ^ 64) ∧ t.dp = u.dp ∧ t.tab = u.tab)

/-- The Porter's commands. A command is taken while none is in progress. When it completes, its pool taking an operation in that
clock, an allocation with one to four owners has taken the first handle of the cache and given its room those owners; a free by
an owner has taken that owner off; a free of a room without owners has failed with DOUBLE_FREE and its interrupt; a query of a
valid handle has reported its owners; neither of these two changes an owner or a cache. -/
def Obligations.PorterCommandsMoveOwners : Prop :=
  (∀ (op pool owner : Nat) (c : Instr) (s : State), HostReady s A.POR_CMD → s.por.cmd = none → pool < 8 → owner < 16 →
    (c, op) ∈ [(Instr.porAlloc pool owner, 1), (.porFree owner, 2), (.porShare owner, 3), (.porQuery, 4)] →
    ∃ t, exec c s = .next t ∧ fget t F.POR_CMD_STATUS_BUSY = 1 ∧ fget t F.POR_CMD_STATUS_OVERRUN = 0 ∧
      t.por = { s.por with cmd := some (op, if op = 1 then pool else 0, if op = 4 then 0 else owner) } ∧ t.mem = s.mem) ∧
  (∀ (dt k o x : Nat) (rest : List Nat) (s u : State), k < 8 → o < 16 → Elapsed dt s u → u.por.cmd = some (1, k, o) →
    poolTurn u k = true → poolEn u k = true → fget u F.POR_CMD_ARG_ARG ≠ 0 → popcount 16 (fget u F.POR_CMD_ARG_ARG) ≤ 4 →
    cacheOf u k = x :: rest → ∃ t, exec (.porCmdComplete dt) s = .next t ∧ fget t F.POR_CMD_STATUS_RESULT = porOk ∧
      rget t A.POR_CMD_RESULT = x % 2 ^ 32 ∧ cacheOf t k = rest ∧ roomMask t x = fget u F.POR_CMD_ARG_ARG % 65536 ∧
      fget t F.POR_CMD_STATUS_BUSY = 0 ∧ ctr t 22 (9 * k) = (ctr u 22 (9 * k) + 1) % 2 ^ 64) ∧
  (∀ (dt o x : Nat) (s u : State), o < 16 → Elapsed dt s u → u.por.cmd = some (2, 0, o) → rget u A.POR_CMD_HANDLE = x →
    poolTurn u (handlePool x) = true → handleFits u x = true → roomMask u x ≠ 0 → bitAt (roomMask u x) o = true →
    ∃ t, exec (.porCmdComplete dt) s = .next t ∧ fget t F.POR_CMD_STATUS_RESULT = porOk ∧
      roomMask t x = (roomMask u x - 2 ^ o) % 65536 ∧ fget t F.POR_CMD_STATUS_BUSY = 0) ∧
  (∀ (dt o x : Nat) (s u : State), o < 16 → Elapsed dt s u → u.por.cmd = some (2, 0, o) → rget u A.POR_CMD_HANDLE = x →
    poolTurn u (handlePool x) = true → handleFits u x = true → roomMask u x = 0 → ∃ t, exec (.porCmdComplete dt) s = .next t ∧
      fget t F.POR_CMD_STATUS_RESULT = porDoubleFree ∧ bitAt (rget t A.POR_INT_STAT) 2 = true ∧
      t.por.cmd = none ∧ t.por.masks = u.por.masks ∧ t.por.caches = u.por.caches ∧ t.mem = u.mem) ∧
  (∀ (dt o x : Nat) (s u : State), Elapsed dt s u → u.por.cmd = some (4, 0, o) → rget u A.POR_CMD_HANDLE = x →
    poolTurn u (handlePool x) = true → handleValid u x = true → ∃ t, exec (.porCmdComplete dt) s = .next t ∧ fget t F.POR_CMD_STATUS_RESULT = porOk ∧
      rget t A.POR_CMD_RESULT = roomMask u x % 2 ^ 32 ∧ t.por.cmd = none ∧ t.por.masks = u.por.masks ∧ t.por.caches = u.por.caches ∧ t.mem = u.mem)

/-- R607, for a handle whose pool takes an operation in that clock. SHARE names a handle, an owner o and an owner mask a; it sets the
mask m of a valid handle to m | a when the owner's bit of m is 1, a is not 0 and m | a has at most four bits; with m 0 it fails with
DOUBLE_FREE, with the owner's bit 0 with NOT_OWNER, and else with BAD_OWNERS; one of a handle that is not valid fails with
BAD_HANDLE. A SHARE that fails changes no mask, no cache and no result. -/
def Obligations.ShareAddsOwners : Prop :=
  ∀ (dt o x m a : Nat) (s u : State), o < 16 → Elapsed dt s u → u.por.cmd = some (3, 0, o) → rget u A.POR_CMD_HANDLE = x →
    poolTurn u (handlePool x) = true → roomMask u x = m → m < 2 ^ 16 → fget u F.POR_CMD_ARG_ARG = a →
    ∃ t, exec (.porCmdComplete dt) s = .next t ∧ fget t F.POR_CMD_STATUS_BUSY = 0 ∧ t.mem = u.mem ∧ t.dp = u.dp ∧
      t.tab = u.tab ∧
      (handleValid u x = true → bitAt m o = true → a ≠ 0 → popcount 16 (m ||| a) ≤ 4 → fget t F.POR_CMD_STATUS_RESULT = porOk ∧
        roomMask t x = m ||| a ∧ rget t A.POR_CMD_RESULT = m ||| a) ∧
      (¬ (handleValid u x = true ∧ bitAt m o = true ∧ a ≠ 0 ∧ popcount 16 (m ||| a) ≤ 4) →
        t.por.cmd = none ∧ t.por.masks = u.por.masks ∧ t.por.caches = u.por.caches ∧
        rget t A.POR_CMD_RESULT = rget u A.POR_CMD_RESULT ∧
        fget t F.POR_CMD_STATUS_RESULT =
          (if handleValid u x = false then porBadHandle else if m = 0 then porDoubleFree else if bitAt m o = false then porNotOwner else porBadOwners))

/-- Pools, caches and rings. A pool that meets the conditions is enabled, with its owners cleared where that is asked, and another is
refused; a pool that is disabled has given what it holds on chip to its ring. A refill that is due and granted takes up to 32
handles from the ring's head; a spill takes a handle that a full cache did not take, or else 32 of the cache, to its tail. The
next record of the return queue, read before or read now, is applied and passed, its pool taking an operation. A read that fails
while it is due stops its pool, or the queue. -/
def Obligations.PoolsCachesAndReturns : Prop :=
  (∀ (k : Nat) (init : Bool) (s : State), k < 8 → HostReady s (A.POR_POOL_CTL k) → poolEn s k = false →
    ∃ t, exec (.poolEnable k init) s = .next t ∧ poolEn t k = poolOk s k ∧
      (poolOk s k = false → bitAt (rget t A.POR_INT_STAT) 5 = true ∧ t.por = s.por) ∧
      (poolOk s k = true → init = true → ∀ j, poolFirst s k ≤ j → j < poolFirst s k + poolCount s k →
        sget (fun _ => 0) t.por.masks j = 0) ∧ t.mem = s.mem) ∧
  (∀ (k : Nat) (s : State), k < 8 → HostReady s (A.POR_POOL_CTL k) → poolEn s k = true →
    ∃ t, exec (.poolDisable k) s = .next t ∧ poolEn t k = false ∧ cacheOf t k = [] ∧ overOf t k = [] ∧
      rget t (A.POR_RING_TAIL k) = (rget s (A.POR_RING_TAIL k) + ((overOf s k).length + (cacheOf s k).length)) % 2 ^ 32 ∧
      t.por.masks = s.por.masks) ∧
  (∀ (dt k n : Nat) (s u : State), k < 8 → Elapsed dt s u → refillDue u k = true → readGrant u porterReq = true →
    min 32 (ringLevel u k) = n → ∃ t, exec (.cacheRefill dt k) s = .next t ∧
      cacheOf t k = cacheOf u k ++ ringRead u k (rget u (A.POR_RING_HEAD k)) n ∧
      rget t (A.POR_RING_HEAD k) = (rget u (A.POR_RING_HEAD k) + n) % 2 ^ 32 ∧ t.mem = u.mem) ∧
  (∀ (dt k : Nat) (s u : State), k < 8 → Elapsed dt s u → spillDue u k = true → writeGrant u porterReq = true →
    overOf u k = [] → ∃ t, exec (.cacheSpill dt k) s = .next t ∧ cacheOf t k = (cacheOf u k).drop 32 ∧
      rget t (A.POR_RING_TAIL k) = (rget u (A.POR_RING_TAIL k) + 32) % 2 ^ 32 ∧ t.por.masks = u.por.masks) ∧
  (∀ (dt k x : Nat) (rest : List Nat) (s u : State), k < 8 → Elapsed dt s u → spillDue u k = true →
    writeGrant u porterReq = true → overOf u k = x :: rest → ∃ t, exec (.cacheSpill dt k) s = .next t ∧
      cacheOf t k = cacheOf u k ∧ overOf t k = rest ∧
      memRead t (ringAddr u k (rget u (A.POR_RING_TAIL k))) 4 = leBytes 4 x ∧
      rget t (A.POR_RING_TAIL k) = (rget u (A.POR_RING_TAIL k) + 1) % 2 ^ 32 ∧ t.por.masks = u.por.masks) ∧
  (∀ (dt x o : Nat) (b : List Byte) (rest : List (List Byte)) (s u : State), Elapsed dt s u →
    fbit u F.POR_RET_CTL_EN = true → (if u.por.records = [] ∧ retDue u = true ∧ readGrant u porterReq = true then
      retRead u else u.por.records) = b :: rest → leAt b 0 4 = x → poolTurn u (handlePool x) = true →
    bitAt (leAt b 4 1) 7 = false → leAt b 4 1 % 16 = o → handleFits u x = true → bitAt (roomMask u x) o = true →
    ∃ t, exec (.returnQueueRecord dt) s = .next t ∧ rget t A.POR_RET_HEAD = (rget u A.POR_RET_HEAD + 1) % 2 ^ 32 ∧
      t.por.records = rest ∧ roomMask t x = (roomMask u x - 2 ^ o) % 65536) ∧
  (∀ (dt k : Nat) (s u : State), k < 8 → Elapsed dt s u → refillDue u k = true → ∃ t, exec (.porterDmaErr dt k) s = .next t ∧
    poolEn t k = false ∧ bitAt (rget t A.POR_INT_STAT) 6 = true ∧ t.por = u.por ∧ t.mem = u.mem) ∧
  (∀ (dt : Nat) (s u : State), Elapsed dt s u → retDue u = true →
    ∃ t, exec (.porterDmaErr dt 8) s = .next t ∧ fbit t F.POR_RET_CTL_EN = false ∧
      bitAt (rget t A.POR_INT_STAT) 6 = true ∧ t.por = u.por ∧ t.mem = u.mem)

/-- Channels of the Drayman. A disabled channel that is enabled runs from its base with nothing held; a post within 65,536 is taken and
another is not. A descriptor read that is due and granted brings the descriptor of its address; one that fails halts the channel.
A channel that runs or waits and is told to stop is stopping; at its boundary it is stopped, or disabled where that was asked, and
reports it; a stopped one resumes, and a halted data channel too, its kind of error cleared; a disabled channel that was running
stops first. -/
def Obligations.ChannelsRunStopAndResume : Prop :=
  (∀ (ch : DataChan) (s : State), dataChanOk ch = true → HostReady s (dryCtl (chanOf ch)) → chanEn s (chanOf ch) = false →
    chanState s (chanOf ch) = stDisabled → ∃ t, exec (.channelEnable ch) s = .next t ∧ chanEn t (chanOf ch) = true ∧
      chanState t (chanOf ch) = stRunning ∧ atFirst t ch = true ∧ held32 t ch = 0 ∧
      curAddr t ch = addr64 s (dryBase (chanOf ch) + 0xC) (dryBase (chanOf ch) + 0x10) ∧ t.mem = s.mem) ∧
  (∀ (ch : DataChan) (v : Word) (s : State), dataChanOk ch = true → HostReady s (dryBase (chanOf ch) + 0x1C) →
    ∃ t, exec (.descriptorsPosted ch v) s = .next t ∧ rget t (dryBase (chanOf ch) + 0x1C) =
      (if (v.toNat + 2 ^ 32 - rget s (dryBase (chanOf ch) + 0x20)) % 2 ^ 32 ≤ 65536 then v.toNat
       else rget s (dryBase (chanOf ch) + 0x1C)) ∧ t.dry = s.dry ∧ t.mem = s.mem) ∧
  (∀ (dt c n k a : Nat) (s u : State), c < 64 → Elapsed dt s u → fetchDue u (.rx c) = true →
    readGrant u (chanReq (.rx c)) = true → aheadOf u (.rx c) = (n, k, a) →
    (atFirst u (.rx c) = true ∨ (a ≠ 0 ∧ a % 64 = 0)) → ∃ t, exec (.descriptorFetch dt (.rx c) false) s = .next t ∧
      (rxCh t c).ahead = (rxCh u c).ahead ++ [(a, ofLe (memRead u a 8))] ∧ t.mem = u.mem) ∧
  (∀ (dt c n k a : Nat) (s u : State), c < 64 → Elapsed dt s u → fetchDue u (.tx c) = true →
    readGrant u (chanReq (.tx c)) = true → aheadOf u (.tx c) = (n, k, a) →
    (atFirst u (.tx c) = true ∨ (a ≠ 0 ∧ a % 64 = 0)) → ∃ t, exec (.descriptorFetch dt (.tx c) false) s = .next t ∧
      (txCh t c).ahead = (txCh u c).ahead ++ [{ addr := a, bytes := memRead u a 64, read := false, kind := 0, remain := 0 }] ∧
      t.mem = u.mem) ∧
  (∀ (dt n k a : Nat) (ch : DataChan) (s u : State), dataChanOk ch = true → Elapsed dt s u → fetchDue u ch = true →
    aheadOf u ch = (n, k, a) → (atFirst u ch = true ∨ (a ≠ 0 ∧ a % 64 = 0)) →
    ∃ t, exec (.descriptorFetch dt ch true) s = .next t ∧ chanState t (chanOf ch) = stHalted ∧
      fget t (fKind (chanOf ch)) = 3 ∧ t.dry = u.dry ∧ t.mem = u.mem) ∧
  (∀ (ch : DryChan) (s : State), dryChanOk ch = true → HostReady s (dryCtl ch) →
    (chanState s ch = stRunning ∨ chanState s ch = stWaiting) → ∃ t, exec (.dryStop ch) s = .next t ∧
      chanState t ch = stStopping ∧ t.dry = s.dry ∧ t.mem = s.mem) ∧
  (∀ (dt : Nat) (ch : DataChan) (s u : State), dataChanOk ch = true → Elapsed dt s u →
    chanState u (chanOf ch) = stStopping → atBoundary u (chanOf ch) = true →
    ∃ t, exec (.channelStopped dt (chanOf ch)) s = .next t ∧
      chanState t (chanOf ch) = (if isDisabling u ch then stDisabled else stStopped) ∧
      bitAt (rget t (dryBase (chanOf ch) + 0x28)) 2 = true ∧ t.mem = u.mem) ∧
  (∀ (dt e : Nat) (s u : State), e < 16 → Elapsed dt s u → chanState u (.err e) = stStopping →
    atBoundary u (.err e) = true →
    ∃ t, exec (.channelStopped dt (.err e)) s = .next t ∧ chanState t (.err e) = stStopped ∧
      (errSt t e).waitClk = none ∧ t.mem = u.mem) ∧
  (∀ (ch : DryChan) (s : State), dryChanOk ch = true → HostReady s (dryCtl ch) → chanState s ch = stStopped →
    ∃ t, exec (.resumeChannel ch) s = .next t ∧ chanState t ch = stRunning ∧ t.dry = s.dry ∧ t.mem = s.mem) ∧
  (∀ (ch : DataChan) (s : State), dataChanOk ch = true → HostReady s (dryCtl (chanOf ch)) →
    chanState s (chanOf ch) = stHalted → ∃ t, exec (.resumeChannel (chanOf ch)) s = .next t ∧
      chanState t (chanOf ch) = stRunning ∧ fget t (fKind (chanOf ch)) = 0 ∧ t.mem = s.mem) ∧
  (∀ (ch : DataChan) (s : State), dataChanOk ch = true → HostReady s (dryCtl (chanOf ch)) → chanEn s (chanOf ch) = true →
    ∃ t, exec (.channelDisable ch) s = .next t ∧ chanEn t (chanOf ch) = false ∧
      chanState t (chanOf ch) = (if chanState s (chanOf ch) = stRunning ∨ chanState s (chanOf ch) = stStopping then stStopping
        else stDisabled) ∧ t.mem = s.mem)

/-- Frames between host memory and the device, a burst at each grant. A copy is handed over, its shapers permitting, to a channel that
runs, has no other in work and holds descriptors for it. The write of the copy goes on by a burst into a room it has, or takes the
next room from its pool, with the ring's owners, and goes on into that; then its descriptors are written in their order, and with
the last the copy is complete and counted. Moderation reports completions after its time. A transmit channel reads its frame by
bursts; with the last byte of a frame of the right length the frame is counted and its descriptor read; a frame in error is
counted as bad at its end. A descriptor whose outcome is known is completed with its status, the pools of the rooms it frees
taking operations. A failed read of a segment halts the channel. -/
def Obligations.FramesCrossTheDrayman : Prop :=
  (∀ (dt r k z n : Nat) (c : Copy) (rest : List Copy) (s u : State), r < 64 → Elapsed dt s u → chanEn u (.rx r) = true →
    handPaced u r = true → wholeHead u r = some (c, rest) → starved u r = false →
    roomsFor u r (headroom u r + (hostBytes u c).length) = some (k, z, n) → chanState u (.rx r) = stRunning →
    (rxCh u r).work = none → dmaOn u = true → ceilDiv n 6 ≤ held32 u (.rx r) →
    ∃ t, exec (.rxCopyHandover dt r) s = .next t ∧ (rxCh t r).work =
        some { copy := c, data := hostBytes u c, head := headroom u r, owners := ringOwners u r, pool := k, size := z, need := n
               rooms := [], written := 0, wrote := 0 } ∧
      queueOf t (qkey 76 r) = rest ∧ t.mem = u.mem) ∧
  (∀ (dt r x i o n : Nat) (w : RxWork) (s u : State), r < 64 → Elapsed dt s u → (rxCh u r).work = some w →
    w.written < w.data.length → writeGrant u (chanReq (.rx r)) = true → roomSpot w = (i, o) → w.rooms[i]? = some x →
    burstLen (writeSize u) (roomAddr u x + o) (min (w.data.length - w.written) (w.size - o)) = n →
    ∃ t, exec (.rxRoomAllocation dt r) s = .next t ∧ (rxCh t r).work = some { w with written := w.written + n } ∧
      memRead t (roomAddr u x + o) n = (w.data.drop w.written).take n ∧ t.por = u.por) ∧
  (∀ (dt r x o n : Nat) (rest : List Nat) (w : RxWork) (s u : State), r < 64 → Elapsed dt s u → (rxCh u r).work = some w →
    w.written < w.data.length → writeGrant u (chanReq (.rx r)) = true → roomSpot w = (w.rooms.length, o) → w.pool < 8 →
    poolTurn u w.pool = true → poolEn u w.pool = true → cacheOf u w.pool = x :: rest →
    burstLen (writeSize u) (roomAddr u x + o) (min (w.data.length - w.written) (w.size - o)) = n →
    ∃ t, exec (.rxRoomAllocation dt r) s = .next t ∧
      (rxCh t r).work = some { w with rooms := w.rooms ++ [x], written := w.written + n } ∧
      memRead t (roomAddr u x + o) n = (w.data.drop w.written).take n ∧
      cacheOf t w.pool = rest ∧ roomMask t x = w.owners % 65536) ∧
  (∀ (dt r n : Nat) (e : Nat × List Byte) (w : RxWork) (s u : State), r < 64 → Elapsed dt s u →
    (rxCh u r).work = some w → w.data.length ≤ w.written → w.need ≤ w.rooms.length → ceilDiv w.need 6 = n →
    n ≤ (rxCh u r).ahead.length → writeGrant u (chanReq (.rx r)) = true →
    (descWrites u w n (rxCh u r).ahead).getD w.wrote (0, []) = e →
    ∃ t, exec (.rxCopyComplete dt r) s = .next t ∧ memRead t e.1 e.2.length = e.2 ∧
      (w.wrote + 1 < (descWrites u w n (rxCh u r).ahead).length →
        (rxCh t r).work = some { w with wrote := w.wrote + 1 } ∧ (rxCh t r).ahead = (rxCh u r).ahead) ∧
      ((descWrites u w n (rxCh u r).ahead).length ≤ w.wrote + 1 → (rxCh t r).work = none ∧
        (rxCh t r).ahead = (rxCh u r).ahead.drop n ∧ ctr t 24 (3 * r) = (ctr u 24 (3 * r) + 1) % 2 ^ 64 ∧
        ctr t 24 (3 * r + 1) = (ctr u 24 (3 * r + 1) + w.data.length) % 2 ^ 64)) ∧
  (∀ (dt r c : Nat) (s u : State), r < 64 → Elapsed dt s u → (rxCh u r).since = some c →
    fget u (F.DRY_RX_INT_MOD_INT_USEC r) ≠ 0 → c + fget u (F.DRY_RX_INT_MOD_INT_USEC r) * 1400 ≤ u.clk →
    ∃ t, exec (.rxIntModTimer dt r) s = .next t ∧ (rxCh t r).count = 0 ∧ (rxCh t r).since = none ∧
      bitAt (rget t (dryBase (.rx r) + 0x28)) 0 = true ∧ t.mem = u.mem) ∧
  (∀ (dt c a n : Nat) (d : TxDesc) (b : List Byte) (s u : State), c < 64 → Elapsed dt s u → txWorks u c = true →
    (txCh u c).skip = false → txNext u c = some d → txWaits u c d = false → txKind u c d = 0 →
    (txCh u c).part.length < segTotal d.bytes → readGrant u (chanReq (.tx c)) = true →
    segSpot u (usedSegs d.bytes) (txCh u c).part.length = (a, n) →
    (txCh u c).part ++ memRead u a (burstLen (readSize u) a n) = b → b.length < segTotal d.bytes →
    ∃ t, exec (.txFrameRead dt c) s = .next t ∧ (txCh t c).part = b ∧ (txCh t c).ahead = (txCh u c).ahead ∧
      t.mem = u.mem) ∧
  (∀ (dt c a n : Nat) (d : TxDesc) (b : List Byte) (f : TxFrame) (s u : State), c < 64 → Elapsed dt s u →
    txWorks u c = true → (txCh u c).skip = false → txNext u c = some d → txWaits u c d = false → txKind u c d = 0 →
    (txCh u c).part.length < segTotal d.bytes → readGrant u (chanReq (.tx c)) = true →
    segSpot u (usedSegs d.bytes) (txCh u c).part.length = (a, n) →
    (txCh u c).part ++ memRead u a (burstLen (readSize u) a n) = b → b.length = segTotal d.bytes → descEop d = true →
    (txCh u c).frame.getD { head := d.bytes, descs := 0, body := [], kind := 0, cells := 0, lost := false } = f →
    leAt f.head 8 2 = f.body.length + b.length → ∃ t, exec (.txFrameRead dt c) s = .next t ∧
      (txCh t c).frame = none ∧ (txCh t c).part = [] ∧
      (txCh t c).ahead = putRead { d with read := true, remain := 0 } (txCh u c).ahead ∧
      ctr t 25 (4 * c) = (ctr u 25 (4 * c) + 1) % 2 ^ 64 ∧
      ctr t 25 (4 * c + 1) = (ctr u 25 (4 * c + 1) + (f.body.length + b.length)) % 2 ^ 64 ∧ t.mem = u.mem) ∧
  (∀ (dt c k : Nat) (d : TxDesc) (s u : State), c < 64 → Elapsed dt s u → txWorks u c = true → (txCh u c).skip = false →
    txNext u c = some d → txKind u c d = k → k ≠ 0 → descEop d = true → ∃ t, exec (.txFrameRead dt c) s = .next t ∧
      (txCh t c).frame = none ∧ ctr t 25 (4 * c + 2) = (ctr u 25 (4 * c + 2) + 1) % 2 ^ 64 ∧
      bitAt (rget t (dryBase (.tx c) + 0x28)) 3 = true ∧ t.dp = u.dp ∧ t.mem = u.mem) ∧
  (∀ (dt c : Nat) (d : TxDesc) (rest : List TxDesc) (s u : State), c < 64 → Elapsed dt s u →
    (txCh u c).ahead = d :: rest → writeGrant u (chanReq (.tx c)) = true →
    (freeing d).all (fun g => poolTurn u (handlePool g.lo)) = true → ∃ t, exec (.txDescriptorComplete dt c) s = .next t ∧
      (txCh t c).ahead = rest ∧ curAddr t (.tx c) = leAt d.bytes 0 8 ∧
      rget t (A.DRY_TX_CFG c + 0x20) = (rget u (A.DRY_TX_CFG c + 0x20) + 1) % 2 ^ 32 ∧
      memRead t (d.addr + 60) 4 = leBytes 4 (2 ^ 31 + (descStatus d.bytes &&& 0x60000000) +
        (if d.kind = 0 then 0 else 2 ^ 28 + d.kind * 2 ^ 24) + d.remain % 2 ^ 24)) ∧
  (∀ (dt c : Nat) (d : TxDesc) (s u : State), c < 64 → Elapsed dt s u → txNext u c = some d → segDue u c = true →
    ∃ t, exec (.dmaReadError dt (.tx c)) s = .next t ∧ chanState t (.tx c) = stHalted ∧ (txCh t c).frame = none ∧
      (txCh t c).skip = !descEop d ∧ bitAt (rget t (dryBase (.tx c) + 0x28)) 1 = true)

/-- Errands. START runs the program from its first instruction. A running errand makes one burst of a MOVE into host memory when the
arbiters grant it, counts its bytes, and with the last burst counts the instruction and goes on; a burst of one word writes the
word of its source, or the immediate one. LOOP goes back while passes are left; a WAIT for a time or an instant that has come goes
on and any other waits from now; one that comes true while it waits goes on, and one whose time is over halts the errand. SIGNAL
gives its code, its interrupt and, when granted, its word in host memory; FENCE goes on when granted. -/
def Obligations.ErrandsRunTheirInstructions : Prop :=
  (∀ (e : Nat) (s : State), e < 16 → HostReady s (A.DRY_ERR_CTL e) →
    chanState s (.err e) ∈ [stDisabled, stStopped, stHalted, stDone] → ∃ t, exec (.errandStart e) s = .next t ∧
      chanState t (.err e) = stRunning ∧ errPc t e = 0 ∧ errIter t e = 0 ∧ t.mem = s.mem) ∧
  (∀ (dt e k n : Nat) (w : List Nat) (m : Move) (s u : State), e < 16 → Elapsed dt s u → errWorks u e = true →
    errWords u e = w → instrOk u e w = true → bits (ew w 0) 0 4 = opMove → moveOf w (errIter u e) = m → m.src ≠ 1 → m.dst = 0 →
    errGrant e u = true → (errSt u e).moved = k → moveBurst u m k = n → ∃ t, exec (.errandMove dt e) s = .next t ∧
      ctr t 26 (3 * e) = (ctr u 26 (3 * e) + 4 * n) % 2 ^ 64 ∧
      (m.count ≤ 4 * (k + n) → errPc t e = (errPc u e + 1) % 65536 ∧ (errSt t e).moved = 0 ∧
        ctr t 26 (3 * e + 1) = (ctr u 26 (3 * e + 1) + 1) % 2 ^ 64) ∧
      (4 * (k + n) < m.count → errPc t e = errPc u e ∧ (errSt t e).moved = k + n) ∧
      (n = 1 → memRead t (m.to_ + (if m.dstFix then 0 else moveOffset m k)) 4 =
        (if m.src = 2 then leBytes 4 m.imm
         else memRead u (m.from_ + (if m.srcFix then 0 else moveOffset m k)) 4))) ∧
  (∀ (dt e : Nat) (w : List Nat) (s u : State), e < 16 → Elapsed dt s u → chanState u (.err e) = stRunning → dmaOn u = true →
    errWords u e = w → instrOk u e w = true → bits (ew w 0) 0 4 = opLoop → ∃ t, exec (.errandLoop dt e) s = .next t ∧
      t.mem = u.mem ∧ if errIter u e + 1 < ew w 1 then errPc t e = bits (ew w 0) 16 16 ∧ errIter t e = errIter u e + 1
        else errPc t e = (errPc u e + 1) % 65536 ∧ errIter t e = 0) ∧
  (∀ (dt e : Nat) (ok : Bool) (w : List Nat) (s u v : State), e < 16 → Elapsed dt s u → chanState u (.err e) = stRunning →
    dmaOn u = true → errWords u e = w → instrOk u e w = true → bits (ew w 0) 0 4 = opWait → bits (ew w 0) 4 2 ≠ 0 →
    waitLook w u = (ok, false, v) → ∃ t, exec (.errandWait dt e) s = .next t ∧ t.mem = u.mem ∧
      if ok = true then errPc t e = (errPc u e + 1) % 65536 ∧ chanState t (.err e) = stRunning
      else errPc t e = errPc u e ∧ chanState t (.err e) = stWaiting ∧ (errSt t e).waitClk = some u.clk) ∧
  (∀ (dt e : Nat) (w : List Nat) (s u v : State), e < 16 → Elapsed dt s u → chanState u (.err e) = stWaiting → dmaOn u = true →
    errWords u e = w → bits (ew w 0) 4 2 ≠ 0 → waitLook w u = (true, false, v) →
    ∃ t, exec (.waitComplete dt e) s = .next t ∧ errPc t e = (errPc u e + 1) % 65536 ∧
      chanState t (.err e) = stRunning ∧ (errSt t e).waitClk = none ∧ t.mem = u.mem) ∧
  (∀ (dt e c : Nat) (w : List Nat) (s u : State), e < 16 → Elapsed dt s u → chanState u (.err e) = stWaiting →
    errWords u e = w → (errSt u e).waitClk = some c → ew w 5 ≠ 0 → c + ew w 5 * clocksPerUs ≤ u.clk →
    (bits (ew w 0) 4 2 = 0 ∨ (waitLook w u).1 = false) → ∃ t, exec (.waitTimeout dt e) s = .next t ∧
      chanState t (.err e) = stHalted ∧ fget t (fKind (.err e)) = 10 ∧ errPc t e = errPc u e ∧ t.mem = u.mem) ∧
  (∀ (dt e : Nat) (w : List Nat) (s u : State), e < 16 → Elapsed dt s u → chanState u (.err e) = stRunning → dmaOn u = true →
    errWords u e = w → instrOk u e w = true → bits (ew w 0) 0 4 = opSignal → errGrant e u = true →
    ∃ t, exec (.errandSignal dt e) s = .next t ∧
      errPc t e = (errPc u e + 1) % 65536 ∧ fget t (F.DRY_ERR_SIGNAL_CODE e) = bits (ew w 0) 16 16 ∧
      (bitAt (ew w 0) 8 = true → bitAt (rget t (dryBase (.err e) + 0x28)) 3 = true) ∧
      if bitAt (ew w 0) 9 = true then memRead t (ew w 3 * 2 ^ 32 + ew w 2) 4 = leBytes 4 (ew w 1) else t.mem = u.mem) ∧
  (∀ (dt e : Nat) (w : List Nat) (s u : State), e < 16 → Elapsed dt s u → chanState u (.err e) = stRunning → dmaOn u = true →
    errWords u e = w → instrOk u e w = true → bits (ew w 0) 0 4 = opFence → errGrant e u = true →
    ∃ t, exec (.errandFence dt e) s = .next t ∧
      errPc t e = (errPc u e + 1) % 65536 ∧ t.mem = u.mem ∧ t.dp = u.dp ∧ t.tab = u.tab)

/-- R646: END stops the errand with state DONE and sets its COMPLETE interrupt status; it changes no memory, table or room. -/
def Obligations.EndStopsTheErrand : Prop :=
  ∀ (dt e : Nat) (w : List Nat) (s u : State), e < 16 → Elapsed dt s u → chanState u (.err e) = stRunning → dmaOn u = true →
    errWords u e = w → instrOk u e w = true → bits (ew w 0) 0 4 = opEnd → ∃ t, exec (.errandEnd dt e) s = .next t ∧
      chanState t (.err e) = stDone ∧ bitAt (rget t (dryBase (.err e) + 0x28)) 0 = true ∧ t.mem = u.mem ∧ t.dp = u.dp ∧
      t.tab = u.tab ∧ t.por = u.por

/-- Counters and their readers. A snapshot, the first of its clock, latches every counter of the data path that it selects and changes
none; TAL_CLEAR leaves the selected ones at what they have counted in its own clock. A harvest begins with a selector, room for its
counters and the bus; each write granted to it takes a burst of counters, then the header, and then the word that says it is
complete; an abort ends it and keeps what it has latched. A write of TAL_RD_SEL captures the counter it names. -/
def Obligations.CountersAreLatchedClearedAndHarvested : Prop :=
  (∀ (m : Word) (s : State), HostReady s A.TAL_SNAP_CMD → (s.tal.live.map Prod.fst).Nodup → selector m.toNat ≠ 0 → s.tal.snapClk ≠ some s.clk →
    ∃ t, exec (.snapshot m) s = .next t ∧
      (∀ g i, g < 27 → i < groupSize g → bitAt m.toNat g = true → sget ctrDefault t.tal.latched (groupBase g + i) = ctr s g i) ∧
      (∀ g i, g < 27 → i < groupSize g → ctr t g i = ctr s g i) ∧ t.tal.snapClk = some s.clk ∧
      rget t A.TAL_SNAP_SEQ = (rget s A.TAL_SNAP_SEQ + 1) % 2 ^ 32 ∧ rget t A.TAL_SNAP_MASK = selector m.toNat ∧
      t.tal.relatch = s.tal.relatch ||| selector m.toNat) ∧
  (∀ (m : Word) (s : State), HostReady s A.TAL_CLEAR → ∃ t, exec (.talClear m) s = .next t ∧
    (∀ g i, g < 27 → i < groupSize g → ctr t g i = (if bitAt m.toNat g then countedNow s.tal (groupBase g + i) else ctr s g i)) ∧
    t.tal.latched = s.tal.latched ∧ t.dp = s.dp ∧ t.tab = s.tab) ∧
  (∀ s : State, HostReady s A.TAL_HV_CMD → s.tal.harvest = none → selector (rget s A.TAL_HV_MASK) ≠ 0 →
    64 + 8 * selCount (rget s A.TAL_HV_MASK) ≤ rget s A.TAL_HV_LIMIT → s.hif.busMaster = true →
    ∃ t h, exec (.harvestStart false) s = .next t ∧ t.tal.harvest = some h ∧ h.mask = rget s A.TAL_HV_MASK ∧
      h.clk = s.clk ∧ h.written = 0 ∧ h.header = false ∧ h.addr = rget64 s A.TAL_HV_ADDR_HI A.TAL_HV_ADDR_LO ∧ fget t F.TAL_HV_STATUS_BUSY = 1 ∧
      fget t F.TAL_HV_STATUS_RESULT = 0 ∧ t.mem = s.mem) ∧
  (∀ s : State, HostReady s A.TAL_HV_CMD → s.tal.harvest.isSome = true → ∃ t, exec .harvestAbort s = .next t ∧
    t.tal.harvest = none ∧ fget t F.TAL_HV_STATUS_BUSY = 0 ∧ fget t F.TAL_HV_STATUS_RESULT = 4 ∧
    t.tal.latched = s.tal.latched) ∧
  (∀ (dt n : Nat) (h : Harvest) (s u : State), Elapsed dt s u → u.tal.harvest = some h → writeGrant u tallyReq = true →
    h.written < selCount h.mask → burstLen (writeSize u) (h.addr + 64 + 8 * h.written)
      (8 * (harvestGathered h u.clk - h.written)) / 8 = n → ∃ t, exec (.harvestComplete dt) s = .next t ∧
      t.tal.harvest = some { h with written := h.written + n } ∧ memRead t (h.addr + 64 + 8 * h.written) (8 * n) =
        (List.range n).flatMap (fun i =>
          leBytes 8 (sget ctrDefault u.tal.latched (harvestKey (groupsOf h.mask) (h.written + i))))) ∧
  (∀ (dt : Nat) (h : Harvest) (s u : State), Elapsed dt s u → u.tal.harvest = some h → writeGrant u tallyReq = true →
    selCount h.mask ≤ h.written → h.header = false → ∃ t, exec (.harvestComplete dt) s = .next t ∧
      t.tal.harvest = some { h with header := true } ∧ memRead t h.addr 60 = harvestHeader h u) ∧
  (∀ (dt : Nat) (h : Harvest) (s u : State), Elapsed dt s u → u.tal.harvest = some h → writeGrant u tallyReq = true →
    selCount h.mask ≤ h.written → h.header = true →
    ∃ t, exec (.harvestComplete dt) s = .next t ∧ t.tal.harvest = none ∧ fget t F.TAL_HV_STATUS_BUSY = 0 ∧
      fget t F.TAL_HV_STATUS_RESULT = 0 ∧ memRead t (h.addr + 60) 4 = leBytes 4 (2 ^ 31) ∧
      bitAt (rget t A.TAL_INT_STAT) 1 = true) ∧
  (∀ (v : Word) (g i : Nat) (s : State), HostReady s A.TAL_RD_SEL → bits v.toNat 27 5 = g → bits v.toNat 0 20 = i →
    g ≤ 28 → i < groupSize g → ∃ t, exec (.talRdSelWrite v) s = .next t ∧
      rget64 t A.TAL_RD_HI A.TAL_RD_LO =
        (if bitAt v.toNat 26 then sget ctrDefault s.tal.latched (groupBase g + i) else ctr s g i) % 2 ^ 64 ∧
      bitAt (rget t A.TAL_RD_SEL) 25 = false ∧ t.tal.latched = s.tal.latched)

/-- The Guestbook. An event of a severity without a limit joins the input queue while that is short. The writer, free in that clock,
places the event at the queue's head while no summary is due, and the summary that comes next, each with the next sequence number
while the log has room. A read finds the first valid record at or after a sequence number; CLEAR takes the valid records that are
not critical and lie before its argument out, CLEAR_ALL every valid one. A spill batch that is granted writes its records and moves
the tail by their number. -/
def Obligations.TheGuestbookKeepsItsRecords : Prop :=
  (∀ (dt code unit a b : Nat) (s u : State), code < 65536 → unit < 2 ^ 32 → a < 2 ^ 32 → b < 2 ^ 32 → Elapsed dt s u →
    fgetInForce u (F.GBK_RL_RATE_RATE (severityOf code)) = 0xFFFF → u.gbk.queue.length < 60 →
    ∃ t e, exec (.eventRaise dt code unit a b) s = .next t ∧ e ∈ t.gbk.queue ∧ e.code = code ∧ e.unit = unit ∧ e.arg0 = a ∧
      e.arg1 = b ∧ e.clk = u.clk ∧ t.dp = u.dp ∧ t.tab = u.tab) ∧
  (∀ (dt : Nat) (e : GbkEvent) (rest : List GbkEvent) (s u : State), Elapsed dt s u → u.gbk.queue = e :: rest →
    writerFree u = true → u.gbk.suppressed.any (fun x => summaryDue u x.2) = false →
    u.gbk.log.length < logSlots → u.gbk.log.countP (fun x => x.sev != 3) < logMinor →
    ∃ t, exec (.logPlacement dt) s = .next t ∧
      t.gbk.log = u.gbk.log ++ [{ eventRecord e with seq := rget u A.GBK_SEQ_NEXT, put := u.clk }] ∧
      rget t A.GBK_SEQ_NEXT = (rget u A.GBK_SEQ_NEXT + 1) % 2 ^ 32) ∧
  (∀ (dt code : Nat) (p : Suppressed) (s u : State), code < 65536 → Elapsed dt s u →
    sget suppressedDefault u.gbk.suppressed code = p → summaryNext u code = true → writerFree u = true →
    u.gbk.log.length < logSlots → u.gbk.log.countP (fun x => x.sev != 3) < logMinor →
    ∃ t r, exec (.summaryTimer dt code) s = .next t ∧ t.gbk.log = u.gbk.log ++ [r] ∧ r.code = code ∧ r.summary = true ∧
      r.arg0 = p.count ∧ r.seq = rget u A.GBK_SEQ_NEXT ∧ rget t A.GBK_SEQ_NEXT = (rget u A.GBK_SEQ_NEXT + 1) % 2 ^ 32) ∧
  (∀ (v : Word) (s : State), HostReady s A.GBK_RD_SEQ → ∃ t, exec (.gbkRdSeqWrite v) s = .next t ∧ t.gbk.log = s.gbk.log ∧
    match s.gbk.log.find? (fun r => validNow s r && seqAtOrAfter r.seq v.toNat) with
    | some r => fget t F.GBK_RD_STATUS_FOUND = 1 ∧
        ∀ k, k < 8 → rget t (A.GBK_RD_W k) = leAt (recordBytes r false) (4 * k) 4 % 2 ^ 32
    | none => fget t F.GBK_RD_STATUS_FOUND = 0 ∧ ∀ k, k < 8 → rget t (A.GBK_RD_W k) = rget s (A.GBK_RD_W k)) ∧
  (∀ s : State, HostReady s A.GBK_CMD → ∃ t, exec .gbkClear s = .next t ∧
    t.gbk.log = s.gbk.log.filter (fun r => !((r.sev != 3 && seqBefore r.seq (rget s A.GBK_CMD_ARG)) && validNow s r)) ∧
    rget t A.GBK_SEQ_NEXT = rget s A.GBK_SEQ_NEXT) ∧
  (∀ s : State, HostReady s A.GBK_CMD → ∃ t, exec .gbkClearAll s = .next t ∧ t.gbk.log = s.gbk.log.filter (fun r => !validNow s r) ∧
    rget t A.GBK_SEQ_NEXT = rget s A.GBK_SEQ_NEXT) ∧
  (∀ (dt : Nat) (r : GbkRecord) (rest : List GbkRecord) (s u : State), Elapsed dt s u → spillRecords u = r :: rest →
    writeGrant u spillReq = true → ∃ t, exec (.spillBatch dt) s = .next t ∧ t.gbk.log = u.gbk.log ∧
      rget t A.GBK_SPILL_TAIL = (rget u A.GBK_SPILL_TAIL + (rest.length + 1)) % 2 ^ 32 ∧
      memRead t (spillBase u + 32 * (rget u A.GBK_SPILL_TAIL % spillSize u)) 32 =
        recordBytes r (rget u A.GBK_SPILL_TAIL / spillSize u % 2 == 0))

/-- The mailbox. A doorbell with no command in progress hands the request to the Ostler; when the Ostler is done the result and the
response are there, PING's being its request and a key hash standing in its slot; a command that takes too long is given up and
the Ostler is silent. A beat counts and ends a restart; without one for 100 ms the Ostler is silent; a restart gives up the
command in progress and forgets those before it. -/
def Obligations.TheMailboxCarriesCommands : Prop :=
  (∀ (tag len op : Nat) (c : Instr) (s : State), tag < 256 → len < 32 → HostReady s A.HIF_MBX_CMD →
    fbit s F.HIF_MBX_STATUS_BUSY = false →
    (c, op) ∈ [(Instr.ping tag len, 0x0001), (.getVersion tag len, 0x0002), (.avsStatus tag len, 0x0003),
      (.otpKeyHash tag len, 0x0010), (.otpRevoke tag len, 0x0011), (.otpImageKey tag len, 0x0012),
      (.otpRaiseSecver tag len, 0x0013)] →
    ∃ t, exec c s = .next t ∧ fget t F.HIF_MBX_STATUS_BUSY = 1 ∧ fget t F.HIF_MBX_STATUS_OVERRUN = 0 ∧
      t.hif.mbxCmd = some (op, tag, len, (List.range 16).map (fun k => rget s (A.HIF_MBX_REQ k)), s.clk) ∧ t.dp = s.dp ∧
      t.tab = s.tab) ∧
  (∀ (dt op tag len c r : Nat) (ok : Bool) (w rsp : List Nat) (s u v : State), Elapsed dt s u → u.hif.restarting = false →
    u.hif.mbxOld = [] → u.hif.mbxCmd = some (op, tag, len, w, c) → mbxRun op len w ok u = (r, rsp, v) →
    ∃ t, exec (.mbxCompletion dt ok) s = .next t ∧ t.hif.mbxCmd = none ∧ fget t F.HIF_MBX_STATUS_BUSY = 0 ∧
      fget t F.HIF_MBX_STATUS_TAG = tag % 256 ∧ fget t F.HIF_MBX_STATUS_RESULT = r % 256 ∧
      bitAt (rget t A.HIF_INT_STAT) 0 = true) ∧
  (∀ (dt tag len c : Nat) (ok : Bool) (w : List Nat) (s u : State), Elapsed dt s u → u.hif.restarting = false →
    u.hif.mbxOld = [] → u.hif.mbxCmd = some (opPing, tag, len, w, c) → w.length = 16 → len ≤ 16 →
    ∃ t, exec (.mbxCompletion dt ok) s = .next t ∧ fget t F.HIF_MBX_STATUS_RESULT = mbxOk ∧
      fget t F.HIF_MBX_STATUS_RSP_LEN = len ∧ ∀ k, k < len → rget t (A.HIF_MBX_RSP k) = ew w k % 2 ^ 32) ∧
  (∀ (dt tag c : Nat) (w : List Nat) (s u : State), Elapsed dt s u → u.hif.restarting = false → u.hif.mbxOld = [] →
    u.hif.mbxCmd = some (opOtpKeyHash, tag, 13, w, c) → slotHash u (w.headD 0 % 2) = none → otpTooHotOrCold u = false →
    ∃ t, exec (.mbxCompletion dt true) s = .next t ∧ fget t F.HIF_MBX_STATUS_RESULT = mbxOk ∧
      slotHash t (w.headD 0 % 2) = some (wordOctets ((w.drop 1).take 12)) ∧
      slotHash t (1 - w.headD 0 % 2) = slotHash u (1 - w.headD 0 % 2)) ∧
  (∀ (dt : Nat) (s u : State), Elapsed dt s u → mbxLate u = true → ∃ t, exec (.mbxTimeout dt) s = .next t ∧
    t.hif.mbxCmd = none ∧ fget t F.HIF_MBX_STATUS_BUSY = 0 ∧ fget t F.HIF_MBX_STATUS_RESULT = mbxTimedOut ∧
    t.hif.ostlerSilent = true ∧ bitAt (rget t A.HIF_INT_STAT) 0 = true) ∧
  (∀ (dt : Nat) (s u : State), Elapsed dt s u → ∃ t, exec (.ostlerBeat dt) s = .next t ∧
    rget t A.HIF_OSTLER_BEAT = (rget u A.HIF_OSTLER_BEAT + 1) % 2 ^ 32 ∧ t.hif.beatClk = u.clk ∧
    t.hif.restarting = false ∧ t.dp = u.dp ∧ t.tab = u.tab) ∧
  (∀ (dt : Nat) (s u : State), Elapsed dt s u → u.hif.beatClk + 100 * clocksPerMs ≤ u.clk →
    ∃ t, exec (.ostlerSilent dt) s = .next t ∧ t.hif.ostlerSilent = true ∧ t.dp = u.dp ∧ t.tab = u.tab) ∧
  (∀ s : State, HostReady s A.HIF_OSTLER_CTL → ∃ t, exec .ostlerRestart s = .next t ∧ t.hif.restarting = true ∧
    t.hif.mbxCmd = none ∧ t.hif.mbxOld = [] ∧ (s.hif.mbxCmd.isSome = true → fget t F.HIF_MBX_STATUS_RESULT = mbxTimedOut))

/-- Register accesses and vectors. A full write of a hearth's register sets its writable bits and changes no other register; a partial
write, one of no register, one to the user page and a poisoned one change nothing but what records them, each under its kind; a
read brings the register's view, its RC fields then holding only what occurred in that clock; a read of no register brings 0 and an
unaligned one all ones, recorded. An end of interrupt clears the vector's bit. Unmasking a vector that waits sends it, by the
entry's mask bit in the table too; masking it again holds it back; the other words of the table and the pending bits are read as
they stand; lifting the function mask leaves it 0. A configuration read brings what its
register shows, and a read of a slot of the user page both halves of the counter that it shows. -/
def Obligations.RegisterAccessesAndVectors : Prop :=
  (∀ (a : Nat) (v : Word) (s : State), HostReady s 0 → 0x80000 ≤ a → a < 0xC0000 → a % 4 = 0 → (regAt a).isSome = true →
    resetBusy s a = false → ∃ t, exec (.registerWrite a 15 v) s = .next t ∧
      rget t a = (rget s a &&& (full ^^^ rwMask a)) ||| (v.toNat &&& rwMask a) ∧
      (∀ r, r ≠ a → r ∉ settleRegs → rget t r = rget s r) ∧ t.dp = s.dp ∧ t.tab = s.tab ∧ t.mem = s.mem) ∧
  (∀ (a be : Nat) (v : Word) (s : State), HostReady s 0 → barAddr a = true → narrow be = true → (regAt a).isSome = true →
    ∃ t, exec (.registerWrite a be v) s = .next t ∧ bitAt (rget t A.HIF_ACC_ERR_STAT) errNarrowWrite = true ∧
      (∀ r, r < 0x20000 ∨ 0x40000 ≤ r → r ∉ settleRegs → rget t r = rget s r) ∧ t.dp = s.dp ∧ t.tab = s.tab) ∧
  (∀ (a : Nat) (v : Word) (s : State), HostReady s 0 → barAddr a = true → regAt a = none →
    ∃ t, exec (.registerWrite a 15 v) s = .next t ∧ bitAt (rget t A.HIF_ACC_ERR_STAT) errUnassignedWrite = true ∧
      (∀ r, r < 0x20000 ∨ 0x40000 ≤ r → r ∉ settleRegs → rget t r = rget s r) ∧ t.dp = s.dp ∧ t.tab = s.tab) ∧
  (∀ (a be : Nat) (d : RegDef) (s : State), held s = false → s.hif.d3hot = false → a < 0x1B0000 → a % 4 = 0 → be < 16 →
    (be = 15 ∨ narrow be = true) → regAt a = some d → a ∉ settleRegs → ∃ t, exec (.rcRegisterRead a be) s = .next t ∧
      t.hif.readData = [regView s a &&& laneMask be] ∧ rget t a = (rget s a &&& (full ^^^ d.rc)) ||| (sget freshDefault s.fresh a &&& d.rc) ∧
      (∀ r, r ≠ a → r ∉ settleRegs → rget t r = rget s r) ∧ t.dp = s.dp) ∧
  (∀ (a be : Nat) (s : State), held s = false → s.hif.d3hot = false → barAddr a = true → be < 16 →
    (be = 15 ∨ narrow be = true) → regAt a = none → ∃ t, exec (.unassignedRead a be) s = .next t ∧ t.hif.readData = [0] ∧
      bitAt (rget t A.HIF_ACC_ERR_STAT) errUnassignedRead = true ∧ t.dp = s.dp ∧ t.tab = s.tab) ∧
  (∀ (a n : Nat) (s : State), held s = false → s.hif.d3hot = false → wellFormed (.unalignedRead a n) = true →
    ∃ t, exec (.unalignedRead a n) s = .next t ∧ t.hif.readData = List.replicate n 0xFFFFFFFF ∧
      bitAt (rget t A.HIF_ACC_ERR_STAT) errUnalignedRead = true ∧ t.dp = s.dp ∧ t.tab = s.tab) ∧
  (∀ (o : Nat) (s : State), HostReady s 0 → userAddr o = true → ∃ t, exec (.bar2Write o) s = .next t ∧
    bitAt (rget t A.HIF_ACC_ERR_STAT) errBar2Write = true ∧ t.dp = s.dp ∧ t.tab = s.tab ∧ t.mem = s.mem) ∧
  (∀ (b : Bool) (o : Nat) (s : State), HostReady s 0 → wellFormed (.poisoned b o) = true →
    ∃ t, exec (.poisoned b o) s = .next t ∧ bitAt (rget t A.HIF_ACC_ERR_STAT) errPoisoned = true ∧ t.dp = s.dp ∧
      t.tab = s.tab ∧ t.mem = s.mem) ∧
  (∀ (v : Word) (s : State), HostReady s A.GLB_VEC_EOI → msixEnabled s = false → ∃ t, exec (.glbVecEoiWrite v) s = .next t ∧
    vecActive t (v.toNat % 128) = false ∧ t.dp = s.dp ∧ t.tab = s.tab) ∧
  (∀ (n : Nat) (a : PciAccess) (s : State), n < 128 → held s = false → s.hif.d3hot = false → n ∉ s.hif.unmasked →
    n ∈ s.hif.pba → msixEnabled s = true → fbit s F.HIF_LINK_FN_MASK = false →
    a ∈ [PciAccess.unmask (some n), .tableWrite (4 * n + 3) 0] → ∃ t, exec (.msixUnmask a) s = .next t ∧
      t.hif.unmasked = s.hif.unmasked ++ [n] ∧ n ∈ t.hif.sent ∧ n ∉ t.hif.pba ∧ t.dp = s.dp ∧ t.tab = s.tab) ∧
  (∀ (k : Nat) (s : State), k < 512 → k % 4 = 3 → held s = false → s.hif.d3hot = false →
    ∃ t, exec (.msixUnmask (.tableWrite k 1)) s = .next t ∧
      t.hif.unmasked = s.hif.unmasked.filter (· != k / 4) ∧ t.dp = s.dp ∧ t.tab = s.tab) ∧
  (∀ (k : Nat) (s : State), k < 512 → held s = false → s.hif.d3hot = false →
    ∃ t, exec (.msixUnmask (.tableRead k)) s = .next t ∧ t.hif.readData = [tableDword s k] ∧ t.dp = s.dp ∧ t.tab = s.tab) ∧
  (∀ (k : Nat) (s : State), k < 4 → held s = false → s.hif.d3hot = false →
    ∃ t, exec (.msixUnmask (.pbaRead k)) s = .next t ∧ t.hif.readData = [pbaDword s k] ∧ t.dp = s.dp ∧ t.tab = s.tab) ∧
  (∀ (n : Nat) (s : State), n < 8192 → held s = false → s.hif.d3hot = false →
    ∃ t, exec (.msixUnmask (.pageSlot n)) s = .next t ∧
      t.hif.readData = [userSlot s n % 2 ^ 32, userSlot s n / 2 ^ 32] ∧ t.dp = s.dp ∧ t.tab = s.tab) ∧
  (∀ s : State, held s = false → ∃ t, exec (.msixUnmask (.unmask none)) s = .next t ∧ fget t F.HIF_LINK_FN_MASK = 0 ∧
    t.dp = s.dp ∧ t.tab = s.tab) ∧
  (∀ (r : CfgReg) (s : State), held s = false → wellFormed (.msixUnmask (.cfgRead r)) = true →
    ∃ t, exec (.msixUnmask (.cfgRead r)) s = .next t ∧ t.hif.readData = [cfgView s r] ∧ t.dp = s.dp ∧ t.tab = s.tab)

/-- Voters and memories. FENCE fences a copy of a hearth that has none fenced, UNFENCE ends that after a BIST that passed, and a BIST of
the fenced copy leaves its outcome; no other hearth's fence changes. A scrub of a sound word changes no table and counts where its
pass ends; one of a broken word is captured where nothing is captured yet. A scrub of a TCAM row changes no table. A bank to
be spared takes the first free spare, or is withdrawn; it is spared after its copy, and withdrawn once its cells can be spared. A
memory BIST runs in DIAGNOSTIC and reports the targets that failed. -/
def Obligations.VotersBanksAndBist : Prop :=
  (∀ (h c : Nat) (s : State), h < 4 → c < 3 → HostReady s A.HLT_FENCE_CMD → fencedNow s h = false →
    ∃ t, exec (.fenceCopy h c) s = .next t ∧ fencedNow t h = true ∧ fencedCopy t h = c ∧
      bits (rget t A.HLT_FENCE_STATUS) 16 8 = 0 ∧ (∀ k, k < 4 → k ≠ h → fencedNow t k = fencedNow s k) ∧ t.dp = s.dp) ∧
  (∀ (h : Nat) (s : State), h < 4 → HostReady s A.HLT_FENCE_CMD → fencedNow s h = true →
    bits (rget s A.HLT_FENCE_STATUS) (4 * h) 2 = 2 → ∃ t, exec (.unfence h) s = .next t ∧ fencedNow t h = false ∧
      bits (rget t A.HLT_FENCE_STATUS) 16 8 = 0 ∧ (∀ k, k < 4 → k ≠ h → fencedNow t k = fencedNow s k) ∧ t.dp = s.dp) ∧
  (∀ (dt h : Nat) (ok : Bool) (s u : State), h < 4 → Elapsed dt s u → fencedNow u h = true → ostlerUp u = true →
    ∃ t, exec (.copyBist dt h ok) s = .next t ∧ bits (rget t A.HLT_FENCE_STATUS) (4 * h) 2 = (if ok then 2 else 3) ∧
      fencedNow t h = true ∧ t.dp = u.dp) ∧
  (∀ (dt : Nat) (w : EccWord) (s u : State), eccOk w = true → Elapsed dt s u → ∃ t, exec (.scrubAccess dt w 0) s = .next t ∧
    t.tab = u.tab ∧ t.dp = u.dp ∧ t.mem = u.mem ∧
    rget t A.HLT_SCRUB_STATUS = (if Config.scrubLast w then (rget u A.HLT_SCRUB_STATUS + 1) % 2 ^ 32
      else rget u A.HLT_SCRUB_STATUS)) ∧
  (∀ (dt n : Nat) (w : EccWord) (s u : State), eccOk w = true → n = 2 ∨ n = 3 → Elapsed dt s u →
    bitAt (rget u A.HLT_ECC_CAP) 31 = false → ∃ t, exec (.scrubAccess dt w n) s = .next t ∧
      rget t A.HLT_ECC_CAP = 2 ^ 31 + w.cls % 8 * 2 ^ 28 + w.hearth % 16 * 2 ^ 24 + w.table % 256 * 2 ^ 16 ∧
      rget t A.HLT_ECC_CAP_ADDR = w.index ∧ bitAt (rget t A.HLT_INT_STAT) 3 = true) ∧
  (∀ (dt h row : Nat) (b p x : Bool) (s u : State), h < 4 → row < 16384 → Elapsed dt s u →
    ∃ t, exec (.tcamScrub dt h b row p x) s = .next t ∧ t.tab = u.tab ∧ t.dp = u.dp ∧ t.frg = u.frg ∧
      ∀ r, r ∉ settleRegs → rget t r = rget u r) ∧
  (∀ (b : Nat) (s : State), b < 64 → HostReady s A.HLT_BANK_CMD → s.hlt.sparing.any (fun x => x.bank == b) = false →
    b ∉ s.hlt.withdrawing → bankGone s b = false → ∃ t, exec (.spare b) s = .next t ∧ t.dp = s.dp ∧
      match (List.range 4).find? (spareFree s) with
      | some i => t.hlt.sparing = s.hlt.sparing ++ [{ bank := b, spare := i, clk := s.clk }] ∧
          t.hlt.withdrawing = s.hlt.withdrawing
      | none => t.hlt.withdrawing = s.hlt.withdrawing ++ [b] ∧ t.hlt.sparing = s.hlt.sparing) ∧
  (∀ (dt b : Nat) (x : Sparing) (s u : State), b < 64 → Elapsed dt s u →
    u.hlt.sparing.find? (fun x => x.bank == b) = some x → x.spare < 4 → x.clk + 24576 ≤ u.clk →
    ∃ t, exec (.bankSpared dt b) s = .next t ∧ bits (rget t A.HLT_BANK_MAP) (8 * x.spare) 8 = 128 + b ∧
      t.hlt.sparing = u.hlt.sparing.filter (fun y => y.bank != b) ∧ t.dp = u.dp) ∧
  (∀ (dt b : Nat) (s u : State), b < 64 → Elapsed dt s u → b ∈ u.hlt.withdrawing →
    cellsUsed u + cellsWithdrawn u + 6144 ≤ 393216 → ∃ t, exec (.bankWithdrawn dt b) s = .next t ∧ bankGone t b = true ∧
      t.hlt.withdrawing = u.hlt.withdrawing.filter (· != b) ∧ t.dp = u.dp) ∧
  (∀ (g : Nat) (s : State), g < 32 → HostReady s A.HLT_BIST_CTL → s.glb.base = bDiagnostic →
    fget s F.HLT_BIST_STATUS_STATE ≠ 1 → ∃ t, exec (.bistRun g) s = .next t ∧ fget t F.HLT_BIST_STATUS_STATE = 1 ∧
      fget t F.HLT_BIST_STATUS_FAILED = 0 ∧ t.hlt.bistTarget = g ∧ t.tab = s.tab) ∧
  (∀ (dt f : Nat) (s u : State), f < 32 → Elapsed dt s u → fget u F.HLT_BIST_STATUS_STATE = 1 →
    ∃ t, exec (.bistComplete dt f) s = .next t ∧ t.hlt.bistTarget = 0 ∧
      fget t F.HLT_BIST_STATUS_STATE = (if f &&& u.hlt.bistTarget = 0 then 2 else 3) ∧
      fget t F.HLT_BIST_STATUS_FAILED = (f &&& u.hlt.bistTarget) % 32 ∧ bitAt (rget t A.HLT_INT_STAT) 8 = true)

/-- Monitors and the core voltage. A poll with the Ostler up stores what the sensors read; a supply that a comparator finds critical is
so from then on and makes SAFE with its cause; a step of the setpoint, 10 ms after the one before, goes 5 mV toward its target
unless it is held or within 5 mV of it. -/
def Obligations.MonitorsAndTheCoreVoltage : Prop :=
  (∀ (dt : Nat) (r : Readings) (s u : State), readingsOk r = true → Elapsed dt s u → ostlerUp u = true →
    ∃ t, exec (.monitorPoll dt r) s = .next t ∧
      (∀ k v, r.temps[k]? = some (some v) → rget t (A.HLT_TEMP k) = ofSigned 16 v) ∧
      (∀ k v, r.volts[k]? = some (some v) → rget t (A.HLT_VOLT k) = v % 65536)) ∧
  (∀ (dt k : Nat) (v : Int) (s u : State), k < 12 → Elapsed dt s u → monState u true k ≠ 2 →
    voltNext u (monState u true k) k v.toNat = 2 → ∃ t, exec (.monitorCrit dt true k v) s = .next t ∧
      monState t true k = 2 ∧ safeLatch t = true ∧ bitAt (rget t A.GLB_SAFE_CAUSE) 1 = true) ∧
  (∀ (dt : Nat) (s u : State), Elapsed dt s u →
    (∀ c, u.hlt.avsClk = some c → c + 10 * clocksPerMs ≤ u.clk) → ∃ t, exec (.avsStep dt) s = .next t ∧
      t.hlt.avsClk = some u.clk ∧ t.dp = u.dp ∧ t.tab = u.tab ∧ fget t F.HLT_AVS_STATUS_SETPOINT_MV =
        (if avsHeld u = true then fget u F.HLT_AVS_STATUS_SETPOINT_MV
         else if fget u F.HLT_AVS_STATUS_SETPOINT_MV + 5 ≤ (avsGoal u).1 then fget u F.HLT_AVS_STATUS_SETPOINT_MV + 5
         else if (avsGoal u).1 + 5 ≤ fget u F.HLT_AVS_STATUS_SETPOINT_MV then fget u F.HLT_AVS_STATUS_SETPOINT_MV - 5
         else fget u F.HLT_AVS_STATUS_SETPOINT_MV))

/-- The pins' controllers. A flash command within its length is taken while none runs and ends with its result and its interrupt; an I2C
transaction is taken while its bytes are there, takes them from one FIFO and leaves what came in the other; a byte written joins
the one FIFO and one read leaves the other; an MDIO frame is taken while none runs, and ends with the data read, all ones where
nothing answers, or with the data register as it was. -/
def Obligations.SerialControllersRunTheirCommands : Prop :=
  (∀ (v : Word) (s : State), HostReady s A.PIN_QSPI_CMD → fbit s F.PIN_QSPI_STATUS_BUSY = false → loaderReads s = false →
    bits v.toNat 15 9 ≤ 256 → ∃ t, exec (.qspiCommand v) s = .next t ∧ t.pin = { s.pin with qspi := some v.toNat } ∧
      fget t F.PIN_QSPI_STATUS_BUSY = 1 ∧ t.frg = s.frg ∧ t.dp = s.dp) ∧
  (∀ (dt v : Nat) (data : List Byte) (s u : State), data.length ≤ 256 → Elapsed dt s u → u.pin.qspi = some v →
    ∃ t, exec (.qspiDone dt data) s = .next t ∧ t.pin = { u.pin with qspi := none } ∧ fget t F.PIN_QSPI_STATUS_BUSY = 0 ∧
      fget t F.PIN_QSPI_STATUS_RESULT = qspiOk ∧ bitAt (rget t A.PIN_INT_STAT) 4 = true ∧
      (bitAt v 28 = false → bits v 15 9 ≠ 0 → t.frg = u.frg)) ∧
  (∀ (i : Nat) (v : Word) (s : State), i < 2 → HostReady s (A.PIN_I2C_CMD i) → fbit s (F.PIN_I2C_STATUS_BUSY i) = false →
    bitAt v.toNat 0 = true → fbit s (F.PIN_I2C_CFG_EN i) = true → bits v.toNat 16 6 ≤ 32 → bits v.toNat 8 6 ≤ 32 →
    bits v.toNat 16 6 ≤ (i2cOf s i).tx.length → ∃ t, exec (.i2cStart i v) s = .next t ∧
      i2cOf t i = { i2cOf s i with cmd := some (bits v.toNat 24 7, bits v.toNat 16 6, bits v.toNat 8 6) } ∧
      fget t (F.PIN_I2C_STATUS_BUSY i) = 1 ∧ t.dp = s.dp) ∧
  (∀ (dt i a w n : Nat) (data : List Byte) (s u : State), i < 2 → data.length ≤ 32 → Elapsed dt s u →
    (i2cOf u i).cmd = some (a, w, n) → ∃ t, exec (.i2cDone dt i 0 data) s = .next t ∧
      i2cOf t i = { tx := (i2cOf u i).tx.drop w, rx := ((i2cOf u i).rx ++ data.take n).take 32, cmd := none } ∧
      fget t (F.PIN_I2C_STATUS_BUSY i) = 0 ∧ fget t (F.PIN_I2C_STATUS_RESULT i) = 0 ∧ t.dp = u.dp) ∧
  (∀ (i : Nat) (v : Word) (s : State), i < 2 → HostReady s (A.PIN_I2C_DATA i) → fbit s (F.PIN_I2C_STATUS_BUSY i) = false →
    (i2cOf s i).tx.length < 32 → ∃ t, exec (.i2cDataWrite i v) s = .next t ∧
      i2cOf t i = { i2cOf s i with tx := (i2cOf s i).tx ++ [BitVec.ofNat 8 v.toNat] } ∧
      fget t (F.PIN_I2C_STATUS_TX_LEVEL i) = (i2cOf s i).tx.length + 1 ∧ t.dp = s.dp) ∧
  (∀ (i : Nat) (b : Byte) (rest : List Byte) (s : State), i < 2 → held s = false → s.hif.d3hot = false →
    (i2cOf s i).rx = b :: rest → ∃ t, exec (.i2cDataRead i) s = .next t ∧ t.hif.readData = [b.toNat] ∧
      i2cOf t i = { i2cOf s i with rx := rest } ∧ t.dp = s.dp) ∧
  (∀ (op phy dev reg : Nat) (c : Instr) (s : State), phy < 32 → dev < 32 → reg < 65536 → (op < 2 → reg < 32) →
    HostReady s A.PIN_MDIO_CMD → fbit s F.PIN_MDIO_STATUS_BUSY = false →
    (c, op) ∈ [(Instr.c22Write phy reg, 0), (.c22Read phy reg, 1), (.c45Write phy dev reg, 2), (.c45Read phy dev reg, 3)] →
    ∃ t, exec c s = .next t ∧ fget t F.PIN_MDIO_STATUS_BUSY = 1 ∧ fget t F.PIN_MDIO_STATUS_OVERRUN = 0 ∧
      t.pin = { s.pin with mdio := some (op, phy, if op < 2 then reg else dev, if op < 2 then 0 else reg) } ∧
      t.dp = s.dp) ∧
  (∀ (dt op a b c d : Nat) (no : Bool) (s u : State), d < 65536 → Elapsed dt s u → u.pin.mdio = some (op, a, b, c) →
    ∃ t, exec (.mdioDone dt no d) s = .next t ∧ t.pin = { u.pin with mdio := none } ∧ fget t F.PIN_MDIO_STATUS_BUSY = 0 ∧
      bitAt (rget t A.PIN_INT_STAT) 3 = true ∧
      fget t F.PIN_MDIO_DATA_DATA = (if op % 2 = 1 then (if no then 0xFFFF else d) else fget u F.PIN_MDIO_DATA_DATA))

/-- Clocks, the LED stream and JTAG. A SerDes reference that is lost takes its ports' locks with it and sets its interrupt; restored, it
counts again, and its ports that are down train anew. The stream shows the 72 ports, the last first. A JTAG instruction is the one
in force, and takes the pins or leaves them; taking them from a running device puts the conditions of its ports back to their
first. -/
def Obligations.ClocksLedsAndJtag : Prop :=
  (∀ (dt k : Nat) (s u : State), k < 5 → Elapsed dt s u → clkOk u k = true → ∃ t, exec (.refclkLost dt k) s = .next t ∧
    clkOk t k = false ∧ bitAt (rget t A.PIN_INT_STAT) 5 = true ∧
    ∀ p, p ∈ fedPorts k → (portSt t p).cond.blockLock = false) ∧
  (∀ (dt k : Nat) (s u : State), k < 5 → Elapsed dt s u → clkOk u k = false → ∃ t, exec (.refclkRestored dt k) s = .next t ∧
    clkOk t k = true ∧ (∀ p, p ∈ fedPorts k → linkUp u p = false → (portSt t p).trained = false) ∧ t.dp = u.dp) ∧
  (∀ (dt : Nat) (s u : State), Elapsed dt s u → clkOk u 5 = true → ∃ t, exec (.refclkLost dt 5) s = .next t ∧
    clkOk t 5 = false ∧ t.dp = u.dp ∧ t.tab = u.tab) ∧
  (∀ (dt : Nat) (s u : State), Elapsed dt s u → clkOk u 5 = false → ∃ t, exec (.refclkRestored dt 5) s = .next t ∧
    clkOk t 5 = true ∧ t.hif.busMaster = u.hif.busMaster ∧ t.dp = u.dp ∧ t.tab = u.tab) ∧
  (∀ (dt : Nat) (s u : State), Elapsed dt s u → ledDue u = true → fbit u F.PIN_LED_CFG_INVERT = false →
    ∃ t, exec (.ledStream dt) s = .next t ∧ t.pin =
      { u.pin with led := (List.range 72).reverse.flatMap (ledBits u), ledClk := some u.clk } ∧ t.dp = u.dp) ∧
  (∀ (pins : List Bool) (c : Instr) (n : Nat) (s : State), (c, n) ∈ [(Instr.jtagBypass, 0), (.jtagIdcode, 1),
      (.jtagSamplePreload pins, 2)] → ∃ t, exec c s = .next t ∧ t.pin.jtag = n ∧ t.pin.pinsTaken = false ∧
    (n = 0 → t.pin.jtagData = 0) ∧ (n = 1 → t.pin.jtagData = 0x19724A3B) ∧ (n = 2 → t.pin.preload = pins) ∧ t.dp = s.dp ∧
    t.tab = s.tab ∧ t.frg = s.frg) ∧
  (∀ (c : Instr) (n : Nat) (s : State), (c, n) ∈ [(Instr.jtagExtest, 3), (.jtagExtestPulse, 4), (.jtagExtestTrain, 5),
      (.jtagHighz, 6), (.jtagClamp, 7)] → ∃ t, exec c s = .next t ∧ t.pin.jtag = n ∧ t.pin.pinsTaken = true ∧
    t.pin.preload = s.pin.preload ∧
    (held s = false → s.pin.pinsTaken = false → ∀ p, p < 72 → (portSt t p).cond = PortSt.cold.cond))

/-- R760. A rising edge at an input GPIO n whose bit in PIN_GPIO_EDGE_EN is 1 sets bit n of PIN_GPIO_EDGE, and with it
PIN_INT_STAT.GPIO, and no other register; an edge at an output, or at an input that is not enabled, does nothing. -/
def Obligations.GpioEdgesAreKept : Prop :=
  (∀ (dt n : Nat) (s u : State), n < 16 → Elapsed dt s u → bitAt (rget u A.PIN_GPIO_DIR) n = false →
    bitAt (rget u A.PIN_GPIO_EDGE_EN) n = true → ∃ t, exec (.gpioEdge dt n) s = .next t ∧
      rget t A.PIN_GPIO_EDGE = rget u A.PIN_GPIO_EDGE ||| 2 ^ n ∧ rget t A.PIN_INT_STAT = rget u A.PIN_INT_STAT ||| 1 ∧
      (∀ r, r ∉ settleRegs → r ≠ A.PIN_GPIO_EDGE → r ≠ A.PIN_INT_STAT → rget t r = rget u r) ∧ t.dp = u.dp) ∧
  (∀ (dt n : Nat) (s u : State), n < 16 → Elapsed dt s u →
    (bitAt (rget u A.PIN_GPIO_DIR) n = true ∨ bitAt (rget u A.PIN_GPIO_EDGE_EN) n = false) →
    ∃ t, exec (.gpioEdge dt n) s = .next t ∧ (∀ r, r ∉ settleRegs → rget t r = rget u r) ∧ t.pin = u.pin)
end

