-- ==== Sys2Proof/Laws/Sparse.lean ====
section
/-! SUPPORT. Laws/Sparse.lean: reading back what was written into a sparse array, and its canonical form. -/
namespace Sys2Proof
namespace Machine

variable {α : Type} [DecidableEq α] {d : Nat → α}

omit [DecidableEq α] in
theorem sget_sdel (m : List (Nat × α)) (k j : Nat) : sget d (sdel m k) j = if k = j then d j else sget d m j := by
  induction m with
  | nil => simp [sdel, sget]
  | cons e t ih =>
    obtain ⟨k', v⟩ := e
    by_cases hk : k' = k
    · subst hk
      have e : sdel ((k', v) :: t) k' = sdel t k' := by simp [sdel]
      rw [e, ih]
      by_cases hj : k' = j <;> simp [sget, hj]
    · by_cases hj : k' = j
      · subst hj; simp [sdel, sget, hk, Ne.symm hk]
      · simp [sdel, sget, hk, hj, ih]

omit [DecidableEq α] in
theorem sget_sins_ne (m : List (Nat × α)) {k j : Nat} (v : α) (h : k ≠ j) : sget d (sins m k v) j = sget d m j := by
  induction m with
  | nil => simp [sins, sget, h]
  | cons e t ih =>
    obtain ⟨k', w⟩ := e
    by_cases hk : k < k' <;> simp [sins, sget, hk, h, ih]

omit [DecidableEq α] in
theorem sget_sins_same (m : List (Nat × α)) (k : Nat) (v : α) (h : ∀ e ∈ m, e.1 ≠ k) :
    sget d (sins m k v) k = v := by
  induction m with
  | nil => simp [sins, sget]
  | cons e t ih =>
    obtain ⟨k', w⟩ := e
    have h1 : k' ≠ k := h (k', w) (by simp)
    have h2 : ∀ e ∈ t, e.1 ≠ k := fun e he => h e (by simp [he])
    by_cases hk : k < k' <;> simp [sins, sget, hk, h1, ih h2]

omit [DecidableEq α] in
theorem sdel_ne (m : List (Nat × α)) (k : Nat) : ∀ e ∈ sdel m k, e.1 ≠ k := by
  induction m with
  | nil => simp [sdel]
  | cons e t ih =>
    obtain ⟨k', w⟩ := e
    by_cases hk : k' = k
    · simpa [sdel, hk] using ih
    · intro e he
      simp only [sdel, hk, if_false, List.mem_cons] at he
      rcases he with rfl | he
      · exact hk
      · exact ih e he

/-- A read after a write: the value written at its key, what was there at every other key; of any list. -/
theorem sget_sput (m : List (Nat × α)) (k j : Nat) (v : α) :
    sget d (sput d m k v) j = if k = j then v else sget d m j := by
  unfold sput
  by_cases hv : v = d k
  · by_cases h : k = j
    · subst h; simp [hv, sget_sdel]
    · simp [hv, sget_sdel, h]
  · by_cases h : k = j
    · subst h; simp [hv, sget_sins_same _ _ _ (sdel_ne m k)]
    · simp [hv, sget_sins_ne _ _ h, sget_sdel, h]

theorem sget_sput_same (m : List (Nat × α)) (k : Nat) (v : α) : sget d (sput d m k v) k = v := by simp [sget_sput]

theorem sget_sput_ne (m : List (Nat × α)) {k j : Nat} (v : α) (h : k ≠ j) :
    sget d (sput d m k v) j = sget d m j := by simp [sget_sput, h]

omit [DecidableEq α] in
theorem sget_any_sdel (d' : Nat → α) (m : List (Nat × α)) {k j : Nat} (h : k ≠ j) :
    sget d' (sdel m k) j = sget d' m j := by
  induction m with
  | nil => rfl
  | cons e t ih =>
    obtain ⟨k', v⟩ := e
    by_cases hk : k' = k
    · subst hk
      rw [show sdel ((k', v) :: t) k' = sdel t k' by simp [sdel], ih]
      simp [sget, h]
    · by_cases hj : k' = j
      · subst hj; simp [sdel, sget, hk]
      · simp [sdel, sget, hk, hj, ih]

/-- Other keys read as before, whatever default the reader takes. -/
theorem sget_any_sput_ne (d' : Nat → α) (m : List (Nat × α)) {k j : Nat} (v : α) (h : k ≠ j) :
    sget d' (sput d m k v) j = sget d' m j := by
  unfold sput
  split
  · exact sget_any_sdel d' m h
  · rw [sget_sins_ne _ _ h, sget_any_sdel d' m h]

theorem scanon_mono : ∀ (m : List (Nat × α)) {lo lo' : Nat}, lo' ≤ lo → scanon d lo m = true → scanon d lo' m = true
  | [], _, _, _, _ => rfl
  | (k, v) :: t, lo, lo', h, hc => by
    simp only [scanon, Bool.and_eq_true, decide_eq_true_eq] at hc ⊢
    exact ⟨⟨by omega, hc.1.2⟩, hc.2⟩

theorem scanon_sdel : ∀ (m : List (Nat × α)) (lo k : Nat), scanon d lo m = true → scanon d lo (sdel m k) = true
  | [], _, _, _ => rfl
  | (k', v) :: t, lo, k, hc => by
    simp only [scanon, Bool.and_eq_true, decide_eq_true_eq] at hc
    by_cases hk : k' = k
    · simp only [sdel, hk, if_true]
      exact scanon_mono _ (by omega) (scanon_sdel t (k' + 1) k hc.2)
    · simp only [sdel, hk, if_false, scanon, Bool.and_eq_true, decide_eq_true_eq]
      exact ⟨hc.1, scanon_sdel t (k' + 1) k hc.2⟩

theorem scanon_sins : ∀ (m : List (Nat × α)) (lo k : Nat) (v : α), lo ≤ k → v ≠ d k → (∀ e ∈ m, e.1 ≠ k) →
    scanon d lo m = true → scanon d lo (sins m k v) = true
  | [], lo, k, v, h, hv, _, _ => by simp [sins, scanon, h, hv]
  | (k', w) :: t, lo, k, v, h, hv, hn, hc => by
    simp only [scanon, Bool.and_eq_true, decide_eq_true_eq] at hc
    have h1 : k' ≠ k := hn (k', w) (by simp)
    have h2 : ∀ e ∈ t, e.1 ≠ k := fun e he => hn e (by simp [he])
    by_cases hk : k < k'
    · simp only [sins, hk, if_true, scanon, Bool.and_eq_true, decide_eq_true_eq]
      exact ⟨⟨h, hv⟩, ⟨by omega, hc.1.2⟩, hc.2⟩
    · simp only [sins, hk, if_false, scanon, Bool.and_eq_true, decide_eq_true_eq]
      exact ⟨hc.1, scanon_sins t (k' + 1) k v (by omega) hv h2 hc.2⟩

/-- A write keeps the canonical form. -/
theorem scanon_sput (m : List (Nat × α)) (lo k : Nat) (v : α) (h : lo ≤ k) (hc : scanon d lo m = true) :
    scanon d lo (sput d m k v) = true := by
  unfold sput
  by_cases hv : v = d k
  · simpa [hv] using scanon_sdel m lo k hc
  · simpa [hv] using scanon_sins (sdel m k) lo k v h hv (sdel_ne m k) (scanon_sdel m lo k hc)

end Machine
end Sys2Proof
end

