-- ==== Sys2Proof/Laws/State.lean ====
section
/-! SUPPORT. Laws/State.lean: what each named update leaves as it was, one lemma per field per update, so that no proof
unfolds a record update. Each is proved by way of an update with a variable in place of the new value, which keeps the
kernel from evaluating that value. -/
namespace Sys2Proof
namespace Machine

/-! ### Record updates -/

theorem withRegs_fresh (s : State) (regs' : List (Nat × BitVec 32)) : ({ s with regs := regs' } : State).fresh = s.fresh := rfl
theorem withRegs_mem (s : State) (regs' : List (Nat × BitVec 32)) : ({ s with regs := regs' } : State).mem = s.mem := rfl
theorem withRegs_clk (s : State) (regs' : List (Nat × BitVec 32)) : ({ s with regs := regs' } : State).clk = s.clk := rfl
theorem withRegs_glb (s : State) (regs' : List (Nat × BitVec 32)) : ({ s with regs := regs' } : State).glb = s.glb := rfl
theorem withRegs_frg (s : State) (regs' : List (Nat × BitVec 32)) : ({ s with regs := regs' } : State).frg = s.frg := rfl
theorem withRegs_hif (s : State) (regs' : List (Nat × BitVec 32)) : ({ s with regs := regs' } : State).hif = s.hif := rfl
theorem withRegs_tal (s : State) (regs' : List (Nat × BitVec 32)) : ({ s with regs := regs' } : State).tal = s.tal := rfl
theorem withRegs_gbk (s : State) (regs' : List (Nat × BitVec 32)) : ({ s with regs := regs' } : State).gbk = s.gbk := rfl
theorem withRegs_tim (s : State) (regs' : List (Nat × BitVec 32)) : ({ s with regs := regs' } : State).tim = s.tim := rfl
theorem withRegs_phs (s : State) (regs' : List (Nat × BitVec 32)) : ({ s with regs := regs' } : State).phs = s.phs := rfl
theorem withRegs_ldg (s : State) (regs' : List (Nat × BitVec 32)) : ({ s with regs := regs' } : State).ldg = s.ldg := rfl
theorem withRegs_fab (s : State) (regs' : List (Nat × BitVec 32)) : ({ s with regs := regs' } : State).fab = s.fab := rfl
theorem withRegs_por (s : State) (regs' : List (Nat × BitVec 32)) : ({ s with regs := regs' } : State).por = s.por := rfl
theorem withRegs_dry (s : State) (regs' : List (Nat × BitVec 32)) : ({ s with regs := regs' } : State).dry = s.dry := rfl
theorem withRegs_hlt (s : State) (regs' : List (Nat × BitVec 32)) : ({ s with regs := regs' } : State).hlt = s.hlt := rfl
theorem withRegs_pin (s : State) (regs' : List (Nat × BitVec 32)) : ({ s with regs := regs' } : State).pin = s.pin := rfl
theorem withRegs_prt (s : State) (regs' : List (Nat × BitVec 32)) : ({ s with regs := regs' } : State).prt = s.prt := rfl
theorem withRegs_dp (s : State) (regs' : List (Nat × BitVec 32)) : ({ s with regs := regs' } : State).dp = s.dp := rfl
theorem withRegs_tab (s : State) (regs' : List (Nat × BitVec 32)) : ({ s with regs := regs' } : State).tab = s.tab := rfl
theorem withRegs_fry (s : State) (regs' : List (Nat × BitVec 32)) : ({ s with regs := regs' } : State).fry = s.fry := rfl
theorem withRegs_tmg (s : State) (regs' : List (Nat × BitVec 32)) : ({ s with regs := regs' } : State).tmg = s.tmg := rfl
theorem withRegs_free (s : State) (regs' : List (Nat × BitVec 32)) : ({ s with regs := regs' } : State).free = s.free := rfl
theorem withRegs_pending (s : State) (regs' : List (Nat × BitVec 32)) : ({ s with regs := regs' } : State).pending = s.pending := rfl

theorem withFresh_regs (s : State) (fresh' : List (Nat × Nat)) : ({ s with fresh := fresh' } : State).regs = s.regs := rfl
theorem withFresh_mem (s : State) (fresh' : List (Nat × Nat)) : ({ s with fresh := fresh' } : State).mem = s.mem := rfl
theorem withFresh_clk (s : State) (fresh' : List (Nat × Nat)) : ({ s with fresh := fresh' } : State).clk = s.clk := rfl
theorem withFresh_glb (s : State) (fresh' : List (Nat × Nat)) : ({ s with fresh := fresh' } : State).glb = s.glb := rfl
theorem withFresh_frg (s : State) (fresh' : List (Nat × Nat)) : ({ s with fresh := fresh' } : State).frg = s.frg := rfl
theorem withFresh_hif (s : State) (fresh' : List (Nat × Nat)) : ({ s with fresh := fresh' } : State).hif = s.hif := rfl
theorem withFresh_tal (s : State) (fresh' : List (Nat × Nat)) : ({ s with fresh := fresh' } : State).tal = s.tal := rfl
theorem withFresh_gbk (s : State) (fresh' : List (Nat × Nat)) : ({ s with fresh := fresh' } : State).gbk = s.gbk := rfl
theorem withFresh_tim (s : State) (fresh' : List (Nat × Nat)) : ({ s with fresh := fresh' } : State).tim = s.tim := rfl
theorem withFresh_phs (s : State) (fresh' : List (Nat × Nat)) : ({ s with fresh := fresh' } : State).phs = s.phs := rfl
theorem withFresh_ldg (s : State) (fresh' : List (Nat × Nat)) : ({ s with fresh := fresh' } : State).ldg = s.ldg := rfl
theorem withFresh_fab (s : State) (fresh' : List (Nat × Nat)) : ({ s with fresh := fresh' } : State).fab = s.fab := rfl
theorem withFresh_por (s : State) (fresh' : List (Nat × Nat)) : ({ s with fresh := fresh' } : State).por = s.por := rfl
theorem withFresh_dry (s : State) (fresh' : List (Nat × Nat)) : ({ s with fresh := fresh' } : State).dry = s.dry := rfl
theorem withFresh_hlt (s : State) (fresh' : List (Nat × Nat)) : ({ s with fresh := fresh' } : State).hlt = s.hlt := rfl
theorem withFresh_pin (s : State) (fresh' : List (Nat × Nat)) : ({ s with fresh := fresh' } : State).pin = s.pin := rfl
theorem withFresh_prt (s : State) (fresh' : List (Nat × Nat)) : ({ s with fresh := fresh' } : State).prt = s.prt := rfl
theorem withFresh_dp (s : State) (fresh' : List (Nat × Nat)) : ({ s with fresh := fresh' } : State).dp = s.dp := rfl
theorem withFresh_tab (s : State) (fresh' : List (Nat × Nat)) : ({ s with fresh := fresh' } : State).tab = s.tab := rfl
theorem withFresh_fry (s : State) (fresh' : List (Nat × Nat)) : ({ s with fresh := fresh' } : State).fry = s.fry := rfl
theorem withFresh_tmg (s : State) (fresh' : List (Nat × Nat)) : ({ s with fresh := fresh' } : State).tmg = s.tmg := rfl
theorem withFresh_free (s : State) (fresh' : List (Nat × Nat)) : ({ s with fresh := fresh' } : State).free = s.free := rfl
theorem withFresh_pending (s : State) (fresh' : List (Nat × Nat)) : ({ s with fresh := fresh' } : State).pending = s.pending := rfl

theorem withMem_regs (s : State) (mem' : List Host.Cell) : ({ s with mem := mem' } : State).regs = s.regs := rfl
theorem withMem_fresh (s : State) (mem' : List Host.Cell) : ({ s with mem := mem' } : State).fresh = s.fresh := rfl
theorem withMem_clk (s : State) (mem' : List Host.Cell) : ({ s with mem := mem' } : State).clk = s.clk := rfl
theorem withMem_glb (s : State) (mem' : List Host.Cell) : ({ s with mem := mem' } : State).glb = s.glb := rfl
theorem withMem_frg (s : State) (mem' : List Host.Cell) : ({ s with mem := mem' } : State).frg = s.frg := rfl
theorem withMem_hif (s : State) (mem' : List Host.Cell) : ({ s with mem := mem' } : State).hif = s.hif := rfl
theorem withMem_tal (s : State) (mem' : List Host.Cell) : ({ s with mem := mem' } : State).tal = s.tal := rfl
theorem withMem_gbk (s : State) (mem' : List Host.Cell) : ({ s with mem := mem' } : State).gbk = s.gbk := rfl
theorem withMem_tim (s : State) (mem' : List Host.Cell) : ({ s with mem := mem' } : State).tim = s.tim := rfl
theorem withMem_phs (s : State) (mem' : List Host.Cell) : ({ s with mem := mem' } : State).phs = s.phs := rfl
theorem withMem_ldg (s : State) (mem' : List Host.Cell) : ({ s with mem := mem' } : State).ldg = s.ldg := rfl
theorem withMem_fab (s : State) (mem' : List Host.Cell) : ({ s with mem := mem' } : State).fab = s.fab := rfl
theorem withMem_por (s : State) (mem' : List Host.Cell) : ({ s with mem := mem' } : State).por = s.por := rfl
theorem withMem_dry (s : State) (mem' : List Host.Cell) : ({ s with mem := mem' } : State).dry = s.dry := rfl
theorem withMem_hlt (s : State) (mem' : List Host.Cell) : ({ s with mem := mem' } : State).hlt = s.hlt := rfl
theorem withMem_pin (s : State) (mem' : List Host.Cell) : ({ s with mem := mem' } : State).pin = s.pin := rfl
theorem withMem_prt (s : State) (mem' : List Host.Cell) : ({ s with mem := mem' } : State).prt = s.prt := rfl
theorem withMem_dp (s : State) (mem' : List Host.Cell) : ({ s with mem := mem' } : State).dp = s.dp := rfl
theorem withMem_tab (s : State) (mem' : List Host.Cell) : ({ s with mem := mem' } : State).tab = s.tab := rfl
theorem withMem_fry (s : State) (mem' : List Host.Cell) : ({ s with mem := mem' } : State).fry = s.fry := rfl
theorem withMem_tmg (s : State) (mem' : List Host.Cell) : ({ s with mem := mem' } : State).tmg = s.tmg := rfl
theorem withMem_free (s : State) (mem' : List Host.Cell) : ({ s with mem := mem' } : State).free = s.free := rfl
theorem withMem_pending (s : State) (mem' : List Host.Cell) : ({ s with mem := mem' } : State).pending = s.pending := rfl

theorem withTal_regs (s : State) (tal' : Tal) : ({ s with tal := tal' } : State).regs = s.regs := rfl
theorem withTal_fresh (s : State) (tal' : Tal) : ({ s with tal := tal' } : State).fresh = s.fresh := rfl
theorem withTal_mem (s : State) (tal' : Tal) : ({ s with tal := tal' } : State).mem = s.mem := rfl
theorem withTal_clk (s : State) (tal' : Tal) : ({ s with tal := tal' } : State).clk = s.clk := rfl
theorem withTal_glb (s : State) (tal' : Tal) : ({ s with tal := tal' } : State).glb = s.glb := rfl
theorem withTal_frg (s : State) (tal' : Tal) : ({ s with tal := tal' } : State).frg = s.frg := rfl
theorem withTal_hif (s : State) (tal' : Tal) : ({ s with tal := tal' } : State).hif = s.hif := rfl
theorem withTal_gbk (s : State) (tal' : Tal) : ({ s with tal := tal' } : State).gbk = s.gbk := rfl
theorem withTal_tim (s : State) (tal' : Tal) : ({ s with tal := tal' } : State).tim = s.tim := rfl
theorem withTal_phs (s : State) (tal' : Tal) : ({ s with tal := tal' } : State).phs = s.phs := rfl
theorem withTal_ldg (s : State) (tal' : Tal) : ({ s with tal := tal' } : State).ldg = s.ldg := rfl
theorem withTal_fab (s : State) (tal' : Tal) : ({ s with tal := tal' } : State).fab = s.fab := rfl
theorem withTal_por (s : State) (tal' : Tal) : ({ s with tal := tal' } : State).por = s.por := rfl
theorem withTal_dry (s : State) (tal' : Tal) : ({ s with tal := tal' } : State).dry = s.dry := rfl
theorem withTal_hlt (s : State) (tal' : Tal) : ({ s with tal := tal' } : State).hlt = s.hlt := rfl
theorem withTal_pin (s : State) (tal' : Tal) : ({ s with tal := tal' } : State).pin = s.pin := rfl
theorem withTal_prt (s : State) (tal' : Tal) : ({ s with tal := tal' } : State).prt = s.prt := rfl
theorem withTal_dp (s : State) (tal' : Tal) : ({ s with tal := tal' } : State).dp = s.dp := rfl
theorem withTal_tab (s : State) (tal' : Tal) : ({ s with tal := tal' } : State).tab = s.tab := rfl
theorem withTal_fry (s : State) (tal' : Tal) : ({ s with tal := tal' } : State).fry = s.fry := rfl
theorem withTal_tmg (s : State) (tal' : Tal) : ({ s with tal := tal' } : State).tmg = s.tmg := rfl
theorem withTal_free (s : State) (tal' : Tal) : ({ s with tal := tal' } : State).free = s.free := rfl
theorem withTal_pending (s : State) (tal' : Tal) : ({ s with tal := tal' } : State).pending = s.pending := rfl

theorem withTime_regs (s : State) (clk' : Nat) (tim' : Tim) (phs' : Phs) : ({ s with clk := clk', tim := tim', phs := phs' } : State).regs = s.regs := rfl
theorem withTime_fresh (s : State) (clk' : Nat) (tim' : Tim) (phs' : Phs) : ({ s with clk := clk', tim := tim', phs := phs' } : State).fresh = s.fresh := rfl
theorem withTime_mem (s : State) (clk' : Nat) (tim' : Tim) (phs' : Phs) : ({ s with clk := clk', tim := tim', phs := phs' } : State).mem = s.mem := rfl
theorem withTime_glb (s : State) (clk' : Nat) (tim' : Tim) (phs' : Phs) : ({ s with clk := clk', tim := tim', phs := phs' } : State).glb = s.glb := rfl
theorem withTime_frg (s : State) (clk' : Nat) (tim' : Tim) (phs' : Phs) : ({ s with clk := clk', tim := tim', phs := phs' } : State).frg = s.frg := rfl
theorem withTime_hif (s : State) (clk' : Nat) (tim' : Tim) (phs' : Phs) : ({ s with clk := clk', tim := tim', phs := phs' } : State).hif = s.hif := rfl
theorem withTime_tal (s : State) (clk' : Nat) (tim' : Tim) (phs' : Phs) : ({ s with clk := clk', tim := tim', phs := phs' } : State).tal = s.tal := rfl
theorem withTime_gbk (s : State) (clk' : Nat) (tim' : Tim) (phs' : Phs) : ({ s with clk := clk', tim := tim', phs := phs' } : State).gbk = s.gbk := rfl
theorem withTime_ldg (s : State) (clk' : Nat) (tim' : Tim) (phs' : Phs) : ({ s with clk := clk', tim := tim', phs := phs' } : State).ldg = s.ldg := rfl
theorem withTime_fab (s : State) (clk' : Nat) (tim' : Tim) (phs' : Phs) : ({ s with clk := clk', tim := tim', phs := phs' } : State).fab = s.fab := rfl
theorem withTime_por (s : State) (clk' : Nat) (tim' : Tim) (phs' : Phs) : ({ s with clk := clk', tim := tim', phs := phs' } : State).por = s.por := rfl
theorem withTime_dry (s : State) (clk' : Nat) (tim' : Tim) (phs' : Phs) : ({ s with clk := clk', tim := tim', phs := phs' } : State).dry = s.dry := rfl
theorem withTime_hlt (s : State) (clk' : Nat) (tim' : Tim) (phs' : Phs) : ({ s with clk := clk', tim := tim', phs := phs' } : State).hlt = s.hlt := rfl
theorem withTime_pin (s : State) (clk' : Nat) (tim' : Tim) (phs' : Phs) : ({ s with clk := clk', tim := tim', phs := phs' } : State).pin = s.pin := rfl
theorem withTime_prt (s : State) (clk' : Nat) (tim' : Tim) (phs' : Phs) : ({ s with clk := clk', tim := tim', phs := phs' } : State).prt = s.prt := rfl
theorem withTime_dp (s : State) (clk' : Nat) (tim' : Tim) (phs' : Phs) : ({ s with clk := clk', tim := tim', phs := phs' } : State).dp = s.dp := rfl
theorem withTime_tab (s : State) (clk' : Nat) (tim' : Tim) (phs' : Phs) : ({ s with clk := clk', tim := tim', phs := phs' } : State).tab = s.tab := rfl
theorem withTime_fry (s : State) (clk' : Nat) (tim' : Tim) (phs' : Phs) : ({ s with clk := clk', tim := tim', phs := phs' } : State).fry = s.fry := rfl
theorem withTime_tmg (s : State) (clk' : Nat) (tim' : Tim) (phs' : Phs) : ({ s with clk := clk', tim := tim', phs := phs' } : State).tmg = s.tmg := rfl
theorem withTime_free (s : State) (clk' : Nat) (tim' : Tim) (phs' : Phs) : ({ s with clk := clk', tim := tim', phs := phs' } : State).free = s.free := rfl
theorem withTime_pending (s : State) (clk' : Nat) (tim' : Tim) (phs' : Phs) : ({ s with clk := clk', tim := tim', phs := phs' } : State).pending = s.pending := rfl

theorem withPrt_regs (s : State) (prt' : List (Nat × PortSt)) : ({ s with prt := prt' } : State).regs = s.regs := rfl
theorem withPrt_fresh (s : State) (prt' : List (Nat × PortSt)) : ({ s with prt := prt' } : State).fresh = s.fresh := rfl
theorem withPrt_mem (s : State) (prt' : List (Nat × PortSt)) : ({ s with prt := prt' } : State).mem = s.mem := rfl
theorem withPrt_clk (s : State) (prt' : List (Nat × PortSt)) : ({ s with prt := prt' } : State).clk = s.clk := rfl
theorem withPrt_glb (s : State) (prt' : List (Nat × PortSt)) : ({ s with prt := prt' } : State).glb = s.glb := rfl
theorem withPrt_frg (s : State) (prt' : List (Nat × PortSt)) : ({ s with prt := prt' } : State).frg = s.frg := rfl
theorem withPrt_hif (s : State) (prt' : List (Nat × PortSt)) : ({ s with prt := prt' } : State).hif = s.hif := rfl
theorem withPrt_tal (s : State) (prt' : List (Nat × PortSt)) : ({ s with prt := prt' } : State).tal = s.tal := rfl
theorem withPrt_gbk (s : State) (prt' : List (Nat × PortSt)) : ({ s with prt := prt' } : State).gbk = s.gbk := rfl
theorem withPrt_tim (s : State) (prt' : List (Nat × PortSt)) : ({ s with prt := prt' } : State).tim = s.tim := rfl
theorem withPrt_phs (s : State) (prt' : List (Nat × PortSt)) : ({ s with prt := prt' } : State).phs = s.phs := rfl
theorem withPrt_ldg (s : State) (prt' : List (Nat × PortSt)) : ({ s with prt := prt' } : State).ldg = s.ldg := rfl
theorem withPrt_fab (s : State) (prt' : List (Nat × PortSt)) : ({ s with prt := prt' } : State).fab = s.fab := rfl
theorem withPrt_por (s : State) (prt' : List (Nat × PortSt)) : ({ s with prt := prt' } : State).por = s.por := rfl
theorem withPrt_dry (s : State) (prt' : List (Nat × PortSt)) : ({ s with prt := prt' } : State).dry = s.dry := rfl
theorem withPrt_hlt (s : State) (prt' : List (Nat × PortSt)) : ({ s with prt := prt' } : State).hlt = s.hlt := rfl
theorem withPrt_pin (s : State) (prt' : List (Nat × PortSt)) : ({ s with prt := prt' } : State).pin = s.pin := rfl
theorem withPrt_dp (s : State) (prt' : List (Nat × PortSt)) : ({ s with prt := prt' } : State).dp = s.dp := rfl
theorem withPrt_tab (s : State) (prt' : List (Nat × PortSt)) : ({ s with prt := prt' } : State).tab = s.tab := rfl
theorem withPrt_fry (s : State) (prt' : List (Nat × PortSt)) : ({ s with prt := prt' } : State).fry = s.fry := rfl
theorem withPrt_tmg (s : State) (prt' : List (Nat × PortSt)) : ({ s with prt := prt' } : State).tmg = s.tmg := rfl
theorem withPrt_free (s : State) (prt' : List (Nat × PortSt)) : ({ s with prt := prt' } : State).free = s.free := rfl
theorem withPrt_pending (s : State) (prt' : List (Nat × PortSt)) : ({ s with prt := prt' } : State).pending = s.pending := rfl

theorem withDp_regs (s : State) (dp' : Dp) : ({ s with dp := dp' } : State).regs = s.regs := rfl
theorem withDp_fresh (s : State) (dp' : Dp) : ({ s with dp := dp' } : State).fresh = s.fresh := rfl
theorem withDp_mem (s : State) (dp' : Dp) : ({ s with dp := dp' } : State).mem = s.mem := rfl
theorem withDp_clk (s : State) (dp' : Dp) : ({ s with dp := dp' } : State).clk = s.clk := rfl
theorem withDp_glb (s : State) (dp' : Dp) : ({ s with dp := dp' } : State).glb = s.glb := rfl
theorem withDp_frg (s : State) (dp' : Dp) : ({ s with dp := dp' } : State).frg = s.frg := rfl
theorem withDp_hif (s : State) (dp' : Dp) : ({ s with dp := dp' } : State).hif = s.hif := rfl
theorem withDp_tal (s : State) (dp' : Dp) : ({ s with dp := dp' } : State).tal = s.tal := rfl
theorem withDp_gbk (s : State) (dp' : Dp) : ({ s with dp := dp' } : State).gbk = s.gbk := rfl
theorem withDp_tim (s : State) (dp' : Dp) : ({ s with dp := dp' } : State).tim = s.tim := rfl
theorem withDp_phs (s : State) (dp' : Dp) : ({ s with dp := dp' } : State).phs = s.phs := rfl
theorem withDp_ldg (s : State) (dp' : Dp) : ({ s with dp := dp' } : State).ldg = s.ldg := rfl
theorem withDp_fab (s : State) (dp' : Dp) : ({ s with dp := dp' } : State).fab = s.fab := rfl
theorem withDp_por (s : State) (dp' : Dp) : ({ s with dp := dp' } : State).por = s.por := rfl
theorem withDp_dry (s : State) (dp' : Dp) : ({ s with dp := dp' } : State).dry = s.dry := rfl
theorem withDp_hlt (s : State) (dp' : Dp) : ({ s with dp := dp' } : State).hlt = s.hlt := rfl
theorem withDp_pin (s : State) (dp' : Dp) : ({ s with dp := dp' } : State).pin = s.pin := rfl
theorem withDp_prt (s : State) (dp' : Dp) : ({ s with dp := dp' } : State).prt = s.prt := rfl
theorem withDp_tab (s : State) (dp' : Dp) : ({ s with dp := dp' } : State).tab = s.tab := rfl
theorem withDp_fry (s : State) (dp' : Dp) : ({ s with dp := dp' } : State).fry = s.fry := rfl
theorem withDp_tmg (s : State) (dp' : Dp) : ({ s with dp := dp' } : State).tmg = s.tmg := rfl
theorem withDp_free (s : State) (dp' : Dp) : ({ s with dp := dp' } : State).free = s.free := rfl
theorem withDp_pending (s : State) (dp' : Dp) : ({ s with dp := dp' } : State).pending = s.pending := rfl

theorem withGlb_regs (s : State) (glb' : Glb) : ({ s with glb := glb' } : State).regs = s.regs := rfl
theorem withGlb_fresh (s : State) (glb' : Glb) : ({ s with glb := glb' } : State).fresh = s.fresh := rfl
theorem withGlb_mem (s : State) (glb' : Glb) : ({ s with glb := glb' } : State).mem = s.mem := rfl
theorem withGlb_clk (s : State) (glb' : Glb) : ({ s with glb := glb' } : State).clk = s.clk := rfl
theorem withGlb_frg (s : State) (glb' : Glb) : ({ s with glb := glb' } : State).frg = s.frg := rfl
theorem withGlb_hif (s : State) (glb' : Glb) : ({ s with glb := glb' } : State).hif = s.hif := rfl
theorem withGlb_tal (s : State) (glb' : Glb) : ({ s with glb := glb' } : State).tal = s.tal := rfl
theorem withGlb_gbk (s : State) (glb' : Glb) : ({ s with glb := glb' } : State).gbk = s.gbk := rfl
theorem withGlb_tim (s : State) (glb' : Glb) : ({ s with glb := glb' } : State).tim = s.tim := rfl
theorem withGlb_phs (s : State) (glb' : Glb) : ({ s with glb := glb' } : State).phs = s.phs := rfl
theorem withGlb_ldg (s : State) (glb' : Glb) : ({ s with glb := glb' } : State).ldg = s.ldg := rfl
theorem withGlb_fab (s : State) (glb' : Glb) : ({ s with glb := glb' } : State).fab = s.fab := rfl
theorem withGlb_por (s : State) (glb' : Glb) : ({ s with glb := glb' } : State).por = s.por := rfl
theorem withGlb_dry (s : State) (glb' : Glb) : ({ s with glb := glb' } : State).dry = s.dry := rfl
theorem withGlb_hlt (s : State) (glb' : Glb) : ({ s with glb := glb' } : State).hlt = s.hlt := rfl
theorem withGlb_pin (s : State) (glb' : Glb) : ({ s with glb := glb' } : State).pin = s.pin := rfl
theorem withGlb_prt (s : State) (glb' : Glb) : ({ s with glb := glb' } : State).prt = s.prt := rfl
theorem withGlb_dp (s : State) (glb' : Glb) : ({ s with glb := glb' } : State).dp = s.dp := rfl
theorem withGlb_tab (s : State) (glb' : Glb) : ({ s with glb := glb' } : State).tab = s.tab := rfl
theorem withGlb_fry (s : State) (glb' : Glb) : ({ s with glb := glb' } : State).fry = s.fry := rfl
theorem withGlb_tmg (s : State) (glb' : Glb) : ({ s with glb := glb' } : State).tmg = s.tmg := rfl
theorem withGlb_free (s : State) (glb' : Glb) : ({ s with glb := glb' } : State).free = s.free := rfl
theorem withGlb_pending (s : State) (glb' : Glb) : ({ s with glb := glb' } : State).pending = s.pending := rfl

theorem withHlt_regs (s : State) (hlt' : Hlt) : ({ s with hlt := hlt' } : State).regs = s.regs := rfl
theorem withHlt_fresh (s : State) (hlt' : Hlt) : ({ s with hlt := hlt' } : State).fresh = s.fresh := rfl
theorem withHlt_mem (s : State) (hlt' : Hlt) : ({ s with hlt := hlt' } : State).mem = s.mem := rfl
theorem withHlt_clk (s : State) (hlt' : Hlt) : ({ s with hlt := hlt' } : State).clk = s.clk := rfl
theorem withHlt_glb (s : State) (hlt' : Hlt) : ({ s with hlt := hlt' } : State).glb = s.glb := rfl
theorem withHlt_frg (s : State) (hlt' : Hlt) : ({ s with hlt := hlt' } : State).frg = s.frg := rfl
theorem withHlt_hif (s : State) (hlt' : Hlt) : ({ s with hlt := hlt' } : State).hif = s.hif := rfl
theorem withHlt_tal (s : State) (hlt' : Hlt) : ({ s with hlt := hlt' } : State).tal = s.tal := rfl
theorem withHlt_gbk (s : State) (hlt' : Hlt) : ({ s with hlt := hlt' } : State).gbk = s.gbk := rfl
theorem withHlt_tim (s : State) (hlt' : Hlt) : ({ s with hlt := hlt' } : State).tim = s.tim := rfl
theorem withHlt_phs (s : State) (hlt' : Hlt) : ({ s with hlt := hlt' } : State).phs = s.phs := rfl
theorem withHlt_ldg (s : State) (hlt' : Hlt) : ({ s with hlt := hlt' } : State).ldg = s.ldg := rfl
theorem withHlt_fab (s : State) (hlt' : Hlt) : ({ s with hlt := hlt' } : State).fab = s.fab := rfl
theorem withHlt_por (s : State) (hlt' : Hlt) : ({ s with hlt := hlt' } : State).por = s.por := rfl
theorem withHlt_dry (s : State) (hlt' : Hlt) : ({ s with hlt := hlt' } : State).dry = s.dry := rfl
theorem withHlt_pin (s : State) (hlt' : Hlt) : ({ s with hlt := hlt' } : State).pin = s.pin := rfl
theorem withHlt_prt (s : State) (hlt' : Hlt) : ({ s with hlt := hlt' } : State).prt = s.prt := rfl
theorem withHlt_dp (s : State) (hlt' : Hlt) : ({ s with hlt := hlt' } : State).dp = s.dp := rfl
theorem withHlt_tab (s : State) (hlt' : Hlt) : ({ s with hlt := hlt' } : State).tab = s.tab := rfl
theorem withHlt_fry (s : State) (hlt' : Hlt) : ({ s with hlt := hlt' } : State).fry = s.fry := rfl
theorem withHlt_tmg (s : State) (hlt' : Hlt) : ({ s with hlt := hlt' } : State).tmg = s.tmg := rfl
theorem withHlt_free (s : State) (hlt' : Hlt) : ({ s with hlt := hlt' } : State).free = s.free := rfl
theorem withHlt_pending (s : State) (hlt' : Hlt) : ({ s with hlt := hlt' } : State).pending = s.pending := rfl

theorem withHif_regs (s : State) (hif' : Hif) : ({ s with hif := hif' } : State).regs = s.regs := rfl
theorem withHif_fresh (s : State) (hif' : Hif) : ({ s with hif := hif' } : State).fresh = s.fresh := rfl
theorem withHif_mem (s : State) (hif' : Hif) : ({ s with hif := hif' } : State).mem = s.mem := rfl
theorem withHif_clk (s : State) (hif' : Hif) : ({ s with hif := hif' } : State).clk = s.clk := rfl
theorem withHif_glb (s : State) (hif' : Hif) : ({ s with hif := hif' } : State).glb = s.glb := rfl
theorem withHif_frg (s : State) (hif' : Hif) : ({ s with hif := hif' } : State).frg = s.frg := rfl
theorem withHif_tal (s : State) (hif' : Hif) : ({ s with hif := hif' } : State).tal = s.tal := rfl
theorem withHif_gbk (s : State) (hif' : Hif) : ({ s with hif := hif' } : State).gbk = s.gbk := rfl
theorem withHif_tim (s : State) (hif' : Hif) : ({ s with hif := hif' } : State).tim = s.tim := rfl
theorem withHif_phs (s : State) (hif' : Hif) : ({ s with hif := hif' } : State).phs = s.phs := rfl
theorem withHif_ldg (s : State) (hif' : Hif) : ({ s with hif := hif' } : State).ldg = s.ldg := rfl
theorem withHif_fab (s : State) (hif' : Hif) : ({ s with hif := hif' } : State).fab = s.fab := rfl
theorem withHif_por (s : State) (hif' : Hif) : ({ s with hif := hif' } : State).por = s.por := rfl
theorem withHif_dry (s : State) (hif' : Hif) : ({ s with hif := hif' } : State).dry = s.dry := rfl
theorem withHif_hlt (s : State) (hif' : Hif) : ({ s with hif := hif' } : State).hlt = s.hlt := rfl
theorem withHif_pin (s : State) (hif' : Hif) : ({ s with hif := hif' } : State).pin = s.pin := rfl
theorem withHif_prt (s : State) (hif' : Hif) : ({ s with hif := hif' } : State).prt = s.prt := rfl
theorem withHif_dp (s : State) (hif' : Hif) : ({ s with hif := hif' } : State).dp = s.dp := rfl
theorem withHif_tab (s : State) (hif' : Hif) : ({ s with hif := hif' } : State).tab = s.tab := rfl
theorem withHif_fry (s : State) (hif' : Hif) : ({ s with hif := hif' } : State).fry = s.fry := rfl
theorem withHif_tmg (s : State) (hif' : Hif) : ({ s with hif := hif' } : State).tmg = s.tmg := rfl
theorem withHif_free (s : State) (hif' : Hif) : ({ s with hif := hif' } : State).free = s.free := rfl
theorem withHif_pending (s : State) (hif' : Hif) : ({ s with hif := hif' } : State).pending = s.pending := rfl

theorem withGbk_regs (s : State) (gbk' : Gbk) : ({ s with gbk := gbk' } : State).regs = s.regs := rfl
theorem withGbk_fresh (s : State) (gbk' : Gbk) : ({ s with gbk := gbk' } : State).fresh = s.fresh := rfl
theorem withGbk_mem (s : State) (gbk' : Gbk) : ({ s with gbk := gbk' } : State).mem = s.mem := rfl
theorem withGbk_clk (s : State) (gbk' : Gbk) : ({ s with gbk := gbk' } : State).clk = s.clk := rfl
theorem withGbk_glb (s : State) (gbk' : Gbk) : ({ s with gbk := gbk' } : State).glb = s.glb := rfl
theorem withGbk_frg (s : State) (gbk' : Gbk) : ({ s with gbk := gbk' } : State).frg = s.frg := rfl
theorem withGbk_hif (s : State) (gbk' : Gbk) : ({ s with gbk := gbk' } : State).hif = s.hif := rfl
theorem withGbk_tal (s : State) (gbk' : Gbk) : ({ s with gbk := gbk' } : State).tal = s.tal := rfl
theorem withGbk_tim (s : State) (gbk' : Gbk) : ({ s with gbk := gbk' } : State).tim = s.tim := rfl
theorem withGbk_phs (s : State) (gbk' : Gbk) : ({ s with gbk := gbk' } : State).phs = s.phs := rfl
theorem withGbk_ldg (s : State) (gbk' : Gbk) : ({ s with gbk := gbk' } : State).ldg = s.ldg := rfl
theorem withGbk_fab (s : State) (gbk' : Gbk) : ({ s with gbk := gbk' } : State).fab = s.fab := rfl
theorem withGbk_por (s : State) (gbk' : Gbk) : ({ s with gbk := gbk' } : State).por = s.por := rfl
theorem withGbk_dry (s : State) (gbk' : Gbk) : ({ s with gbk := gbk' } : State).dry = s.dry := rfl
theorem withGbk_hlt (s : State) (gbk' : Gbk) : ({ s with gbk := gbk' } : State).hlt = s.hlt := rfl
theorem withGbk_pin (s : State) (gbk' : Gbk) : ({ s with gbk := gbk' } : State).pin = s.pin := rfl
theorem withGbk_prt (s : State) (gbk' : Gbk) : ({ s with gbk := gbk' } : State).prt = s.prt := rfl
theorem withGbk_dp (s : State) (gbk' : Gbk) : ({ s with gbk := gbk' } : State).dp = s.dp := rfl
theorem withGbk_tab (s : State) (gbk' : Gbk) : ({ s with gbk := gbk' } : State).tab = s.tab := rfl
theorem withGbk_fry (s : State) (gbk' : Gbk) : ({ s with gbk := gbk' } : State).fry = s.fry := rfl
theorem withGbk_tmg (s : State) (gbk' : Gbk) : ({ s with gbk := gbk' } : State).tmg = s.tmg := rfl
theorem withGbk_free (s : State) (gbk' : Gbk) : ({ s with gbk := gbk' } : State).free = s.free := rfl
theorem withGbk_pending (s : State) (gbk' : Gbk) : ({ s with gbk := gbk' } : State).pending = s.pending := rfl

/-! ### Updates of registers change registers only -/

@[simp] theorem rput_fresh (a v : Nat) (s : State) : (rput a v s).fresh = s.fresh := withRegs_fresh s _
@[simp] theorem rput_mem (a v : Nat) (s : State) : (rput a v s).mem = s.mem := withRegs_mem s _
@[simp] theorem rput_clk (a v : Nat) (s : State) : (rput a v s).clk = s.clk := withRegs_clk s _
@[simp] theorem rput_glb (a v : Nat) (s : State) : (rput a v s).glb = s.glb := withRegs_glb s _
@[simp] theorem rput_frg (a v : Nat) (s : State) : (rput a v s).frg = s.frg := withRegs_frg s _
@[simp] theorem rput_hif (a v : Nat) (s : State) : (rput a v s).hif = s.hif := withRegs_hif s _
@[simp] theorem rput_tal (a v : Nat) (s : State) : (rput a v s).tal = s.tal := withRegs_tal s _
@[simp] theorem rput_gbk (a v : Nat) (s : State) : (rput a v s).gbk = s.gbk := withRegs_gbk s _
@[simp] theorem rput_tim (a v : Nat) (s : State) : (rput a v s).tim = s.tim := withRegs_tim s _
@[simp] theorem rput_phs (a v : Nat) (s : State) : (rput a v s).phs = s.phs := withRegs_phs s _
@[simp] theorem rput_ldg (a v : Nat) (s : State) : (rput a v s).ldg = s.ldg := withRegs_ldg s _
@[simp] theorem rput_fab (a v : Nat) (s : State) : (rput a v s).fab = s.fab := withRegs_fab s _
@[simp] theorem rput_por (a v : Nat) (s : State) : (rput a v s).por = s.por := withRegs_por s _
@[simp] theorem rput_dry (a v : Nat) (s : State) : (rput a v s).dry = s.dry := withRegs_dry s _
@[simp] theorem rput_hlt (a v : Nat) (s : State) : (rput a v s).hlt = s.hlt := withRegs_hlt s _
@[simp] theorem rput_pin (a v : Nat) (s : State) : (rput a v s).pin = s.pin := withRegs_pin s _
@[simp] theorem rput_prt (a v : Nat) (s : State) : (rput a v s).prt = s.prt := withRegs_prt s _
@[simp] theorem rput_dp (a v : Nat) (s : State) : (rput a v s).dp = s.dp := withRegs_dp s _
@[simp] theorem rput_tab (a v : Nat) (s : State) : (rput a v s).tab = s.tab := withRegs_tab s _
@[simp] theorem rput_fry (a v : Nat) (s : State) : (rput a v s).fry = s.fry := withRegs_fry s _
@[simp] theorem rput_tmg (a v : Nat) (s : State) : (rput a v s).tmg = s.tmg := withRegs_tmg s _
@[simp] theorem rput_free (a v : Nat) (s : State) : (rput a v s).free = s.free := withRegs_free s _
@[simp] theorem rput_pending (a v : Nat) (s : State) : (rput a v s).pending = s.pending := withRegs_pending s _

@[simp] theorem fput_fresh (f : Fld) (v : Nat) (s : State) : (fput f v s).fresh = s.fresh := rput_fresh _ _ s
@[simp] theorem fput_mem (f : Fld) (v : Nat) (s : State) : (fput f v s).mem = s.mem := rput_mem _ _ s
@[simp] theorem fput_clk (f : Fld) (v : Nat) (s : State) : (fput f v s).clk = s.clk := rput_clk _ _ s
@[simp] theorem fput_glb (f : Fld) (v : Nat) (s : State) : (fput f v s).glb = s.glb := rput_glb _ _ s
@[simp] theorem fput_frg (f : Fld) (v : Nat) (s : State) : (fput f v s).frg = s.frg := rput_frg _ _ s
@[simp] theorem fput_hif (f : Fld) (v : Nat) (s : State) : (fput f v s).hif = s.hif := rput_hif _ _ s
@[simp] theorem fput_tal (f : Fld) (v : Nat) (s : State) : (fput f v s).tal = s.tal := rput_tal _ _ s
@[simp] theorem fput_gbk (f : Fld) (v : Nat) (s : State) : (fput f v s).gbk = s.gbk := rput_gbk _ _ s
@[simp] theorem fput_tim (f : Fld) (v : Nat) (s : State) : (fput f v s).tim = s.tim := rput_tim _ _ s
@[simp] theorem fput_phs (f : Fld) (v : Nat) (s : State) : (fput f v s).phs = s.phs := rput_phs _ _ s
@[simp] theorem fput_ldg (f : Fld) (v : Nat) (s : State) : (fput f v s).ldg = s.ldg := rput_ldg _ _ s
@[simp] theorem fput_fab (f : Fld) (v : Nat) (s : State) : (fput f v s).fab = s.fab := rput_fab _ _ s
@[simp] theorem fput_por (f : Fld) (v : Nat) (s : State) : (fput f v s).por = s.por := rput_por _ _ s
@[simp] theorem fput_dry (f : Fld) (v : Nat) (s : State) : (fput f v s).dry = s.dry := rput_dry _ _ s
@[simp] theorem fput_hlt (f : Fld) (v : Nat) (s : State) : (fput f v s).hlt = s.hlt := rput_hlt _ _ s
@[simp] theorem fput_pin (f : Fld) (v : Nat) (s : State) : (fput f v s).pin = s.pin := rput_pin _ _ s
@[simp] theorem fput_prt (f : Fld) (v : Nat) (s : State) : (fput f v s).prt = s.prt := rput_prt _ _ s
@[simp] theorem fput_dp (f : Fld) (v : Nat) (s : State) : (fput f v s).dp = s.dp := rput_dp _ _ s
@[simp] theorem fput_tab (f : Fld) (v : Nat) (s : State) : (fput f v s).tab = s.tab := rput_tab _ _ s
@[simp] theorem fput_fry (f : Fld) (v : Nat) (s : State) : (fput f v s).fry = s.fry := rput_fry _ _ s
@[simp] theorem fput_tmg (f : Fld) (v : Nat) (s : State) : (fput f v s).tmg = s.tmg := rput_tmg _ _ s
@[simp] theorem fput_free (f : Fld) (v : Nat) (s : State) : (fput f v s).free = s.free := rput_free _ _ s
@[simp] theorem fput_pending (f : Fld) (v : Nat) (s : State) : (fput f v s).pending = s.pending := rput_pending _ _ s

@[simp] theorem forBits_mem (a m : Nat) (s : State) : (forBits a m s).mem = s.mem := (rput_mem _ _ _).trans (withFresh_mem s _)
@[simp] theorem forBits_clk (a m : Nat) (s : State) : (forBits a m s).clk = s.clk := (rput_clk _ _ _).trans (withFresh_clk s _)
@[simp] theorem forBits_glb (a m : Nat) (s : State) : (forBits a m s).glb = s.glb := (rput_glb _ _ _).trans (withFresh_glb s _)
@[simp] theorem forBits_frg (a m : Nat) (s : State) : (forBits a m s).frg = s.frg := (rput_frg _ _ _).trans (withFresh_frg s _)
@[simp] theorem forBits_hif (a m : Nat) (s : State) : (forBits a m s).hif = s.hif := (rput_hif _ _ _).trans (withFresh_hif s _)
@[simp] theorem forBits_tal (a m : Nat) (s : State) : (forBits a m s).tal = s.tal := (rput_tal _ _ _).trans (withFresh_tal s _)
@[simp] theorem forBits_gbk (a m : Nat) (s : State) : (forBits a m s).gbk = s.gbk := (rput_gbk _ _ _).trans (withFresh_gbk s _)
@[simp] theorem forBits_tim (a m : Nat) (s : State) : (forBits a m s).tim = s.tim := (rput_tim _ _ _).trans (withFresh_tim s _)
@[simp] theorem forBits_phs (a m : Nat) (s : State) : (forBits a m s).phs = s.phs := (rput_phs _ _ _).trans (withFresh_phs s _)
@[simp] theorem forBits_ldg (a m : Nat) (s : State) : (forBits a m s).ldg = s.ldg := (rput_ldg _ _ _).trans (withFresh_ldg s _)
@[simp] theorem forBits_fab (a m : Nat) (s : State) : (forBits a m s).fab = s.fab := (rput_fab _ _ _).trans (withFresh_fab s _)
@[simp] theorem forBits_por (a m : Nat) (s : State) : (forBits a m s).por = s.por := (rput_por _ _ _).trans (withFresh_por s _)
@[simp] theorem forBits_dry (a m : Nat) (s : State) : (forBits a m s).dry = s.dry := (rput_dry _ _ _).trans (withFresh_dry s _)
@[simp] theorem forBits_hlt (a m : Nat) (s : State) : (forBits a m s).hlt = s.hlt := (rput_hlt _ _ _).trans (withFresh_hlt s _)
@[simp] theorem forBits_pin (a m : Nat) (s : State) : (forBits a m s).pin = s.pin := (rput_pin _ _ _).trans (withFresh_pin s _)
@[simp] theorem forBits_prt (a m : Nat) (s : State) : (forBits a m s).prt = s.prt := (rput_prt _ _ _).trans (withFresh_prt s _)
@[simp] theorem forBits_dp (a m : Nat) (s : State) : (forBits a m s).dp = s.dp := (rput_dp _ _ _).trans (withFresh_dp s _)
@[simp] theorem forBits_tab (a m : Nat) (s : State) : (forBits a m s).tab = s.tab := (rput_tab _ _ _).trans (withFresh_tab s _)
@[simp] theorem forBits_fry (a m : Nat) (s : State) : (forBits a m s).fry = s.fry := (rput_fry _ _ _).trans (withFresh_fry s _)
@[simp] theorem forBits_tmg (a m : Nat) (s : State) : (forBits a m s).tmg = s.tmg := (rput_tmg _ _ _).trans (withFresh_tmg s _)
@[simp] theorem forBits_free (a m : Nat) (s : State) : (forBits a m s).free = s.free := (rput_free _ _ _).trans (withFresh_free s _)
@[simp] theorem forBits_pending (a m : Nat) (s : State) : (forBits a m s).pending = s.pending := (rput_pending _ _ _).trans (withFresh_pending s _)

@[simp] theorem setInt_mem (a i : Nat) (s : State) : (setInt a i s).mem = s.mem := forBits_mem _ _ s
@[simp] theorem setInt_clk (a i : Nat) (s : State) : (setInt a i s).clk = s.clk := forBits_clk _ _ s
@[simp] theorem setInt_glb (a i : Nat) (s : State) : (setInt a i s).glb = s.glb := forBits_glb _ _ s
@[simp] theorem setInt_frg (a i : Nat) (s : State) : (setInt a i s).frg = s.frg := forBits_frg _ _ s
@[simp] theorem setInt_hif (a i : Nat) (s : State) : (setInt a i s).hif = s.hif := forBits_hif _ _ s
@[simp] theorem setInt_tal (a i : Nat) (s : State) : (setInt a i s).tal = s.tal := forBits_tal _ _ s
@[simp] theorem setInt_gbk (a i : Nat) (s : State) : (setInt a i s).gbk = s.gbk := forBits_gbk _ _ s
@[simp] theorem setInt_tim (a i : Nat) (s : State) : (setInt a i s).tim = s.tim := forBits_tim _ _ s
@[simp] theorem setInt_phs (a i : Nat) (s : State) : (setInt a i s).phs = s.phs := forBits_phs _ _ s
@[simp] theorem setInt_ldg (a i : Nat) (s : State) : (setInt a i s).ldg = s.ldg := forBits_ldg _ _ s
@[simp] theorem setInt_fab (a i : Nat) (s : State) : (setInt a i s).fab = s.fab := forBits_fab _ _ s
@[simp] theorem setInt_por (a i : Nat) (s : State) : (setInt a i s).por = s.por := forBits_por _ _ s
@[simp] theorem setInt_dry (a i : Nat) (s : State) : (setInt a i s).dry = s.dry := forBits_dry _ _ s
@[simp] theorem setInt_hlt (a i : Nat) (s : State) : (setInt a i s).hlt = s.hlt := forBits_hlt _ _ s
@[simp] theorem setInt_pin (a i : Nat) (s : State) : (setInt a i s).pin = s.pin := forBits_pin _ _ s
@[simp] theorem setInt_prt (a i : Nat) (s : State) : (setInt a i s).prt = s.prt := forBits_prt _ _ s
@[simp] theorem setInt_dp (a i : Nat) (s : State) : (setInt a i s).dp = s.dp := forBits_dp _ _ s
@[simp] theorem setInt_tab (a i : Nat) (s : State) : (setInt a i s).tab = s.tab := forBits_tab _ _ s
@[simp] theorem setInt_fry (a i : Nat) (s : State) : (setInt a i s).fry = s.fry := forBits_fry _ _ s
@[simp] theorem setInt_tmg (a i : Nat) (s : State) : (setInt a i s).tmg = s.tmg := forBits_tmg _ _ s
@[simp] theorem setInt_free (a i : Nat) (s : State) : (setInt a i s).free = s.free := forBits_free _ _ s
@[simp] theorem setInt_pending (a i : Nat) (s : State) : (setInt a i s).pending = s.pending := forBits_pending _ _ s

@[simp] theorem keepFresh_regs (f : Fld) (g : Nat → Nat) (s : State) : (keepFresh f g s).regs = s.regs := withFresh_regs s _
@[simp] theorem keepFresh_mem (f : Fld) (g : Nat → Nat) (s : State) : (keepFresh f g s).mem = s.mem := withFresh_mem s _
@[simp] theorem keepFresh_clk (f : Fld) (g : Nat → Nat) (s : State) : (keepFresh f g s).clk = s.clk := withFresh_clk s _
@[simp] theorem keepFresh_glb (f : Fld) (g : Nat → Nat) (s : State) : (keepFresh f g s).glb = s.glb := withFresh_glb s _
@[simp] theorem keepFresh_frg (f : Fld) (g : Nat → Nat) (s : State) : (keepFresh f g s).frg = s.frg := withFresh_frg s _
@[simp] theorem keepFresh_hif (f : Fld) (g : Nat → Nat) (s : State) : (keepFresh f g s).hif = s.hif := withFresh_hif s _
@[simp] theorem keepFresh_tal (f : Fld) (g : Nat → Nat) (s : State) : (keepFresh f g s).tal = s.tal := withFresh_tal s _
@[simp] theorem keepFresh_gbk (f : Fld) (g : Nat → Nat) (s : State) : (keepFresh f g s).gbk = s.gbk := withFresh_gbk s _
@[simp] theorem keepFresh_tim (f : Fld) (g : Nat → Nat) (s : State) : (keepFresh f g s).tim = s.tim := withFresh_tim s _
@[simp] theorem keepFresh_phs (f : Fld) (g : Nat → Nat) (s : State) : (keepFresh f g s).phs = s.phs := withFresh_phs s _
@[simp] theorem keepFresh_ldg (f : Fld) (g : Nat → Nat) (s : State) : (keepFresh f g s).ldg = s.ldg := withFresh_ldg s _
@[simp] theorem keepFresh_fab (f : Fld) (g : Nat → Nat) (s : State) : (keepFresh f g s).fab = s.fab := withFresh_fab s _
@[simp] theorem keepFresh_por (f : Fld) (g : Nat → Nat) (s : State) : (keepFresh f g s).por = s.por := withFresh_por s _
@[simp] theorem keepFresh_dry (f : Fld) (g : Nat → Nat) (s : State) : (keepFresh f g s).dry = s.dry := withFresh_dry s _
@[simp] theorem keepFresh_hlt (f : Fld) (g : Nat → Nat) (s : State) : (keepFresh f g s).hlt = s.hlt := withFresh_hlt s _
@[simp] theorem keepFresh_pin (f : Fld) (g : Nat → Nat) (s : State) : (keepFresh f g s).pin = s.pin := withFresh_pin s _
@[simp] theorem keepFresh_prt (f : Fld) (g : Nat → Nat) (s : State) : (keepFresh f g s).prt = s.prt := withFresh_prt s _
@[simp] theorem keepFresh_dp (f : Fld) (g : Nat → Nat) (s : State) : (keepFresh f g s).dp = s.dp := withFresh_dp s _
@[simp] theorem keepFresh_tab (f : Fld) (g : Nat → Nat) (s : State) : (keepFresh f g s).tab = s.tab := withFresh_tab s _
@[simp] theorem keepFresh_fry (f : Fld) (g : Nat → Nat) (s : State) : (keepFresh f g s).fry = s.fry := withFresh_fry s _
@[simp] theorem keepFresh_tmg (f : Fld) (g : Nat → Nat) (s : State) : (keepFresh f g s).tmg = s.tmg := withFresh_tmg s _
@[simp] theorem keepFresh_free (f : Fld) (g : Nat → Nat) (s : State) : (keepFresh f g s).free = s.free := withFresh_free s _
@[simp] theorem keepFresh_pending (f : Fld) (g : Nat → Nat) (s : State) : (keepFresh f g s).pending = s.pending := withFresh_pending s _

@[simp] theorem faddSat_mem (f : Fld) (n : Nat) (s : State) : (faddSat f n s).mem = s.mem := (fput_mem _ _ _).trans (keepFresh_mem _ _ s)
@[simp] theorem faddSat_clk (f : Fld) (n : Nat) (s : State) : (faddSat f n s).clk = s.clk := (fput_clk _ _ _).trans (keepFresh_clk _ _ s)
@[simp] theorem faddSat_glb (f : Fld) (n : Nat) (s : State) : (faddSat f n s).glb = s.glb := (fput_glb _ _ _).trans (keepFresh_glb _ _ s)
@[simp] theorem faddSat_frg (f : Fld) (n : Nat) (s : State) : (faddSat f n s).frg = s.frg := (fput_frg _ _ _).trans (keepFresh_frg _ _ s)
@[simp] theorem faddSat_hif (f : Fld) (n : Nat) (s : State) : (faddSat f n s).hif = s.hif := (fput_hif _ _ _).trans (keepFresh_hif _ _ s)
@[simp] theorem faddSat_tal (f : Fld) (n : Nat) (s : State) : (faddSat f n s).tal = s.tal := (fput_tal _ _ _).trans (keepFresh_tal _ _ s)
@[simp] theorem faddSat_gbk (f : Fld) (n : Nat) (s : State) : (faddSat f n s).gbk = s.gbk := (fput_gbk _ _ _).trans (keepFresh_gbk _ _ s)
@[simp] theorem faddSat_tim (f : Fld) (n : Nat) (s : State) : (faddSat f n s).tim = s.tim := (fput_tim _ _ _).trans (keepFresh_tim _ _ s)
@[simp] theorem faddSat_phs (f : Fld) (n : Nat) (s : State) : (faddSat f n s).phs = s.phs := (fput_phs _ _ _).trans (keepFresh_phs _ _ s)
@[simp] theorem faddSat_ldg (f : Fld) (n : Nat) (s : State) : (faddSat f n s).ldg = s.ldg := (fput_ldg _ _ _).trans (keepFresh_ldg _ _ s)
@[simp] theorem faddSat_fab (f : Fld) (n : Nat) (s : State) : (faddSat f n s).fab = s.fab := (fput_fab _ _ _).trans (keepFresh_fab _ _ s)
@[simp] theorem faddSat_por (f : Fld) (n : Nat) (s : State) : (faddSat f n s).por = s.por := (fput_por _ _ _).trans (keepFresh_por _ _ s)
@[simp] theorem faddSat_dry (f : Fld) (n : Nat) (s : State) : (faddSat f n s).dry = s.dry := (fput_dry _ _ _).trans (keepFresh_dry _ _ s)
@[simp] theorem faddSat_hlt (f : Fld) (n : Nat) (s : State) : (faddSat f n s).hlt = s.hlt := (fput_hlt _ _ _).trans (keepFresh_hlt _ _ s)
@[simp] theorem faddSat_pin (f : Fld) (n : Nat) (s : State) : (faddSat f n s).pin = s.pin := (fput_pin _ _ _).trans (keepFresh_pin _ _ s)
@[simp] theorem faddSat_prt (f : Fld) (n : Nat) (s : State) : (faddSat f n s).prt = s.prt := (fput_prt _ _ _).trans (keepFresh_prt _ _ s)
@[simp] theorem faddSat_dp (f : Fld) (n : Nat) (s : State) : (faddSat f n s).dp = s.dp := (fput_dp _ _ _).trans (keepFresh_dp _ _ s)
@[simp] theorem faddSat_tab (f : Fld) (n : Nat) (s : State) : (faddSat f n s).tab = s.tab := (fput_tab _ _ _).trans (keepFresh_tab _ _ s)
@[simp] theorem faddSat_fry (f : Fld) (n : Nat) (s : State) : (faddSat f n s).fry = s.fry := (fput_fry _ _ _).trans (keepFresh_fry _ _ s)
@[simp] theorem faddSat_tmg (f : Fld) (n : Nat) (s : State) : (faddSat f n s).tmg = s.tmg := (fput_tmg _ _ _).trans (keepFresh_tmg _ _ s)
@[simp] theorem faddSat_free (f : Fld) (n : Nat) (s : State) : (faddSat f n s).free = s.free := (fput_free _ _ _).trans (keepFresh_free _ _ s)
@[simp] theorem faddSat_pending (f : Fld) (n : Nat) (s : State) : (faddSat f n s).pending = s.pending := (fput_pending _ _ _).trans (keepFresh_pending _ _ s)

@[simp] theorem fmax_mem (f : Fld) (n : Nat) (s : State) : (fmax f n s).mem = s.mem := (fput_mem _ _ _).trans (keepFresh_mem _ _ s)
@[simp] theorem fmax_clk (f : Fld) (n : Nat) (s : State) : (fmax f n s).clk = s.clk := (fput_clk _ _ _).trans (keepFresh_clk _ _ s)
@[simp] theorem fmax_glb (f : Fld) (n : Nat) (s : State) : (fmax f n s).glb = s.glb := (fput_glb _ _ _).trans (keepFresh_glb _ _ s)
@[simp] theorem fmax_frg (f : Fld) (n : Nat) (s : State) : (fmax f n s).frg = s.frg := (fput_frg _ _ _).trans (keepFresh_frg _ _ s)
@[simp] theorem fmax_hif (f : Fld) (n : Nat) (s : State) : (fmax f n s).hif = s.hif := (fput_hif _ _ _).trans (keepFresh_hif _ _ s)
@[simp] theorem fmax_tal (f : Fld) (n : Nat) (s : State) : (fmax f n s).tal = s.tal := (fput_tal _ _ _).trans (keepFresh_tal _ _ s)
@[simp] theorem fmax_gbk (f : Fld) (n : Nat) (s : State) : (fmax f n s).gbk = s.gbk := (fput_gbk _ _ _).trans (keepFresh_gbk _ _ s)
@[simp] theorem fmax_tim (f : Fld) (n : Nat) (s : State) : (fmax f n s).tim = s.tim := (fput_tim _ _ _).trans (keepFresh_tim _ _ s)
@[simp] theorem fmax_phs (f : Fld) (n : Nat) (s : State) : (fmax f n s).phs = s.phs := (fput_phs _ _ _).trans (keepFresh_phs _ _ s)
@[simp] theorem fmax_ldg (f : Fld) (n : Nat) (s : State) : (fmax f n s).ldg = s.ldg := (fput_ldg _ _ _).trans (keepFresh_ldg _ _ s)
@[simp] theorem fmax_fab (f : Fld) (n : Nat) (s : State) : (fmax f n s).fab = s.fab := (fput_fab _ _ _).trans (keepFresh_fab _ _ s)
@[simp] theorem fmax_por (f : Fld) (n : Nat) (s : State) : (fmax f n s).por = s.por := (fput_por _ _ _).trans (keepFresh_por _ _ s)
@[simp] theorem fmax_dry (f : Fld) (n : Nat) (s : State) : (fmax f n s).dry = s.dry := (fput_dry _ _ _).trans (keepFresh_dry _ _ s)
@[simp] theorem fmax_hlt (f : Fld) (n : Nat) (s : State) : (fmax f n s).hlt = s.hlt := (fput_hlt _ _ _).trans (keepFresh_hlt _ _ s)
@[simp] theorem fmax_pin (f : Fld) (n : Nat) (s : State) : (fmax f n s).pin = s.pin := (fput_pin _ _ _).trans (keepFresh_pin _ _ s)
@[simp] theorem fmax_prt (f : Fld) (n : Nat) (s : State) : (fmax f n s).prt = s.prt := (fput_prt _ _ _).trans (keepFresh_prt _ _ s)
@[simp] theorem fmax_dp (f : Fld) (n : Nat) (s : State) : (fmax f n s).dp = s.dp := (fput_dp _ _ _).trans (keepFresh_dp _ _ s)
@[simp] theorem fmax_tab (f : Fld) (n : Nat) (s : State) : (fmax f n s).tab = s.tab := (fput_tab _ _ _).trans (keepFresh_tab _ _ s)
@[simp] theorem fmax_fry (f : Fld) (n : Nat) (s : State) : (fmax f n s).fry = s.fry := (fput_fry _ _ _).trans (keepFresh_fry _ _ s)
@[simp] theorem fmax_tmg (f : Fld) (n : Nat) (s : State) : (fmax f n s).tmg = s.tmg := (fput_tmg _ _ _).trans (keepFresh_tmg _ _ s)
@[simp] theorem fmax_free (f : Fld) (n : Nat) (s : State) : (fmax f n s).free = s.free := (fput_free _ _ _).trans (keepFresh_free _ _ s)
@[simp] theorem fmax_pending (f : Fld) (n : Nat) (s : State) : (fmax f n s).pending = s.pending := (fput_pending _ _ _).trans (keepFresh_pending _ _ s)

@[simp] theorem capture_mem (a v : Nat) (s : State) : (capture a v s).mem = s.mem := (rput_mem _ _ _).trans (withFresh_mem s _)
@[simp] theorem capture_clk (a v : Nat) (s : State) : (capture a v s).clk = s.clk := (rput_clk _ _ _).trans (withFresh_clk s _)
@[simp] theorem capture_glb (a v : Nat) (s : State) : (capture a v s).glb = s.glb := (rput_glb _ _ _).trans (withFresh_glb s _)
@[simp] theorem capture_frg (a v : Nat) (s : State) : (capture a v s).frg = s.frg := (rput_frg _ _ _).trans (withFresh_frg s _)
@[simp] theorem capture_hif (a v : Nat) (s : State) : (capture a v s).hif = s.hif := (rput_hif _ _ _).trans (withFresh_hif s _)
@[simp] theorem capture_tal (a v : Nat) (s : State) : (capture a v s).tal = s.tal := (rput_tal _ _ _).trans (withFresh_tal s _)
@[simp] theorem capture_gbk (a v : Nat) (s : State) : (capture a v s).gbk = s.gbk := (rput_gbk _ _ _).trans (withFresh_gbk s _)
@[simp] theorem capture_tim (a v : Nat) (s : State) : (capture a v s).tim = s.tim := (rput_tim _ _ _).trans (withFresh_tim s _)
@[simp] theorem capture_phs (a v : Nat) (s : State) : (capture a v s).phs = s.phs := (rput_phs _ _ _).trans (withFresh_phs s _)
@[simp] theorem capture_ldg (a v : Nat) (s : State) : (capture a v s).ldg = s.ldg := (rput_ldg _ _ _).trans (withFresh_ldg s _)
@[simp] theorem capture_fab (a v : Nat) (s : State) : (capture a v s).fab = s.fab := (rput_fab _ _ _).trans (withFresh_fab s _)
@[simp] theorem capture_por (a v : Nat) (s : State) : (capture a v s).por = s.por := (rput_por _ _ _).trans (withFresh_por s _)
@[simp] theorem capture_dry (a v : Nat) (s : State) : (capture a v s).dry = s.dry := (rput_dry _ _ _).trans (withFresh_dry s _)
@[simp] theorem capture_hlt (a v : Nat) (s : State) : (capture a v s).hlt = s.hlt := (rput_hlt _ _ _).trans (withFresh_hlt s _)
@[simp] theorem capture_pin (a v : Nat) (s : State) : (capture a v s).pin = s.pin := (rput_pin _ _ _).trans (withFresh_pin s _)
@[simp] theorem capture_prt (a v : Nat) (s : State) : (capture a v s).prt = s.prt := (rput_prt _ _ _).trans (withFresh_prt s _)
@[simp] theorem capture_dp (a v : Nat) (s : State) : (capture a v s).dp = s.dp := (rput_dp _ _ _).trans (withFresh_dp s _)
@[simp] theorem capture_tab (a v : Nat) (s : State) : (capture a v s).tab = s.tab := (rput_tab _ _ _).trans (withFresh_tab s _)
@[simp] theorem capture_fry (a v : Nat) (s : State) : (capture a v s).fry = s.fry := (rput_fry _ _ _).trans (withFresh_fry s _)
@[simp] theorem capture_tmg (a v : Nat) (s : State) : (capture a v s).tmg = s.tmg := (rput_tmg _ _ _).trans (withFresh_tmg s _)
@[simp] theorem capture_free (a v : Nat) (s : State) : (capture a v s).free = s.free := (rput_free _ _ _).trans (withFresh_free s _)
@[simp] theorem capture_pending (a v : Nat) (s : State) : (capture a v s).pending = s.pending := (rput_pending _ _ _).trans (withFresh_pending s _)

@[simp] theorem faddWrap_fresh (f : Fld) (n : Nat) (s : State) : (faddWrap f n s).fresh = s.fresh := fput_fresh _ _ s
@[simp] theorem faddWrap_mem (f : Fld) (n : Nat) (s : State) : (faddWrap f n s).mem = s.mem := fput_mem _ _ s
@[simp] theorem faddWrap_clk (f : Fld) (n : Nat) (s : State) : (faddWrap f n s).clk = s.clk := fput_clk _ _ s
@[simp] theorem faddWrap_glb (f : Fld) (n : Nat) (s : State) : (faddWrap f n s).glb = s.glb := fput_glb _ _ s
@[simp] theorem faddWrap_frg (f : Fld) (n : Nat) (s : State) : (faddWrap f n s).frg = s.frg := fput_frg _ _ s
@[simp] theorem faddWrap_hif (f : Fld) (n : Nat) (s : State) : (faddWrap f n s).hif = s.hif := fput_hif _ _ s
@[simp] theorem faddWrap_tal (f : Fld) (n : Nat) (s : State) : (faddWrap f n s).tal = s.tal := fput_tal _ _ s
@[simp] theorem faddWrap_gbk (f : Fld) (n : Nat) (s : State) : (faddWrap f n s).gbk = s.gbk := fput_gbk _ _ s
@[simp] theorem faddWrap_tim (f : Fld) (n : Nat) (s : State) : (faddWrap f n s).tim = s.tim := fput_tim _ _ s
@[simp] theorem faddWrap_phs (f : Fld) (n : Nat) (s : State) : (faddWrap f n s).phs = s.phs := fput_phs _ _ s
@[simp] theorem faddWrap_ldg (f : Fld) (n : Nat) (s : State) : (faddWrap f n s).ldg = s.ldg := fput_ldg _ _ s
@[simp] theorem faddWrap_fab (f : Fld) (n : Nat) (s : State) : (faddWrap f n s).fab = s.fab := fput_fab _ _ s
@[simp] theorem faddWrap_por (f : Fld) (n : Nat) (s : State) : (faddWrap f n s).por = s.por := fput_por _ _ s
@[simp] theorem faddWrap_dry (f : Fld) (n : Nat) (s : State) : (faddWrap f n s).dry = s.dry := fput_dry _ _ s
@[simp] theorem faddWrap_hlt (f : Fld) (n : Nat) (s : State) : (faddWrap f n s).hlt = s.hlt := fput_hlt _ _ s
@[simp] theorem faddWrap_pin (f : Fld) (n : Nat) (s : State) : (faddWrap f n s).pin = s.pin := fput_pin _ _ s
@[simp] theorem faddWrap_prt (f : Fld) (n : Nat) (s : State) : (faddWrap f n s).prt = s.prt := fput_prt _ _ s
@[simp] theorem faddWrap_dp (f : Fld) (n : Nat) (s : State) : (faddWrap f n s).dp = s.dp := fput_dp _ _ s
@[simp] theorem faddWrap_tab (f : Fld) (n : Nat) (s : State) : (faddWrap f n s).tab = s.tab := fput_tab _ _ s
@[simp] theorem faddWrap_fry (f : Fld) (n : Nat) (s : State) : (faddWrap f n s).fry = s.fry := fput_fry _ _ s
@[simp] theorem faddWrap_tmg (f : Fld) (n : Nat) (s : State) : (faddWrap f n s).tmg = s.tmg := fput_tmg _ _ s
@[simp] theorem faddWrap_free (f : Fld) (n : Nat) (s : State) : (faddWrap f n s).free = s.free := fput_free _ _ s
@[simp] theorem faddWrap_pending (f : Fld) (n : Nat) (s : State) : (faddWrap f n s).pending = s.pending := fput_pending _ _ s

@[simp] theorem rput64_fresh (hi lo v : Nat) (s : State) : (rput64 hi lo v s).fresh = s.fresh := (rput_fresh _ _ _).trans (rput_fresh _ _ s)
@[simp] theorem rput64_mem (hi lo v : Nat) (s : State) : (rput64 hi lo v s).mem = s.mem := (rput_mem _ _ _).trans (rput_mem _ _ s)
@[simp] theorem rput64_clk (hi lo v : Nat) (s : State) : (rput64 hi lo v s).clk = s.clk := (rput_clk _ _ _).trans (rput_clk _ _ s)
@[simp] theorem rput64_glb (hi lo v : Nat) (s : State) : (rput64 hi lo v s).glb = s.glb := (rput_glb _ _ _).trans (rput_glb _ _ s)
@[simp] theorem rput64_frg (hi lo v : Nat) (s : State) : (rput64 hi lo v s).frg = s.frg := (rput_frg _ _ _).trans (rput_frg _ _ s)
@[simp] theorem rput64_hif (hi lo v : Nat) (s : State) : (rput64 hi lo v s).hif = s.hif := (rput_hif _ _ _).trans (rput_hif _ _ s)
@[simp] theorem rput64_tal (hi lo v : Nat) (s : State) : (rput64 hi lo v s).tal = s.tal := (rput_tal _ _ _).trans (rput_tal _ _ s)
@[simp] theorem rput64_gbk (hi lo v : Nat) (s : State) : (rput64 hi lo v s).gbk = s.gbk := (rput_gbk _ _ _).trans (rput_gbk _ _ s)
@[simp] theorem rput64_tim (hi lo v : Nat) (s : State) : (rput64 hi lo v s).tim = s.tim := (rput_tim _ _ _).trans (rput_tim _ _ s)
@[simp] theorem rput64_phs (hi lo v : Nat) (s : State) : (rput64 hi lo v s).phs = s.phs := (rput_phs _ _ _).trans (rput_phs _ _ s)
@[simp] theorem rput64_ldg (hi lo v : Nat) (s : State) : (rput64 hi lo v s).ldg = s.ldg := (rput_ldg _ _ _).trans (rput_ldg _ _ s)
@[simp] theorem rput64_fab (hi lo v : Nat) (s : State) : (rput64 hi lo v s).fab = s.fab := (rput_fab _ _ _).trans (rput_fab _ _ s)
@[simp] theorem rput64_por (hi lo v : Nat) (s : State) : (rput64 hi lo v s).por = s.por := (rput_por _ _ _).trans (rput_por _ _ s)
@[simp] theorem rput64_dry (hi lo v : Nat) (s : State) : (rput64 hi lo v s).dry = s.dry := (rput_dry _ _ _).trans (rput_dry _ _ s)
@[simp] theorem rput64_hlt (hi lo v : Nat) (s : State) : (rput64 hi lo v s).hlt = s.hlt := (rput_hlt _ _ _).trans (rput_hlt _ _ s)
@[simp] theorem rput64_pin (hi lo v : Nat) (s : State) : (rput64 hi lo v s).pin = s.pin := (rput_pin _ _ _).trans (rput_pin _ _ s)
@[simp] theorem rput64_prt (hi lo v : Nat) (s : State) : (rput64 hi lo v s).prt = s.prt := (rput_prt _ _ _).trans (rput_prt _ _ s)
@[simp] theorem rput64_dp (hi lo v : Nat) (s : State) : (rput64 hi lo v s).dp = s.dp := (rput_dp _ _ _).trans (rput_dp _ _ s)
@[simp] theorem rput64_tab (hi lo v : Nat) (s : State) : (rput64 hi lo v s).tab = s.tab := (rput_tab _ _ _).trans (rput_tab _ _ s)
@[simp] theorem rput64_fry (hi lo v : Nat) (s : State) : (rput64 hi lo v s).fry = s.fry := (rput_fry _ _ _).trans (rput_fry _ _ s)
@[simp] theorem rput64_tmg (hi lo v : Nat) (s : State) : (rput64 hi lo v s).tmg = s.tmg := (rput_tmg _ _ _).trans (rput_tmg _ _ s)
@[simp] theorem rput64_free (hi lo v : Nat) (s : State) : (rput64 hi lo v s).free = s.free := (rput_free _ _ _).trans (rput_free _ _ s)
@[simp] theorem rput64_pending (hi lo v : Nat) (s : State) : (rput64 hi lo v s).pending = s.pending := (rput_pending _ _ _).trans (rput_pending _ _ s)

@[simp] theorem writeRw_fresh (a v : Nat) (s : State) : (writeRw a v s).fresh = s.fresh := rput_fresh _ _ s
@[simp] theorem writeRw_mem (a v : Nat) (s : State) : (writeRw a v s).mem = s.mem := rput_mem _ _ s
@[simp] theorem writeRw_clk (a v : Nat) (s : State) : (writeRw a v s).clk = s.clk := rput_clk _ _ s
@[simp] theorem writeRw_glb (a v : Nat) (s : State) : (writeRw a v s).glb = s.glb := rput_glb _ _ s
@[simp] theorem writeRw_frg (a v : Nat) (s : State) : (writeRw a v s).frg = s.frg := rput_frg _ _ s
@[simp] theorem writeRw_hif (a v : Nat) (s : State) : (writeRw a v s).hif = s.hif := rput_hif _ _ s
@[simp] theorem writeRw_tal (a v : Nat) (s : State) : (writeRw a v s).tal = s.tal := rput_tal _ _ s
@[simp] theorem writeRw_gbk (a v : Nat) (s : State) : (writeRw a v s).gbk = s.gbk := rput_gbk _ _ s
@[simp] theorem writeRw_tim (a v : Nat) (s : State) : (writeRw a v s).tim = s.tim := rput_tim _ _ s
@[simp] theorem writeRw_phs (a v : Nat) (s : State) : (writeRw a v s).phs = s.phs := rput_phs _ _ s
@[simp] theorem writeRw_ldg (a v : Nat) (s : State) : (writeRw a v s).ldg = s.ldg := rput_ldg _ _ s
@[simp] theorem writeRw_fab (a v : Nat) (s : State) : (writeRw a v s).fab = s.fab := rput_fab _ _ s
@[simp] theorem writeRw_por (a v : Nat) (s : State) : (writeRw a v s).por = s.por := rput_por _ _ s
@[simp] theorem writeRw_dry (a v : Nat) (s : State) : (writeRw a v s).dry = s.dry := rput_dry _ _ s
@[simp] theorem writeRw_hlt (a v : Nat) (s : State) : (writeRw a v s).hlt = s.hlt := rput_hlt _ _ s
@[simp] theorem writeRw_pin (a v : Nat) (s : State) : (writeRw a v s).pin = s.pin := rput_pin _ _ s
@[simp] theorem writeRw_prt (a v : Nat) (s : State) : (writeRw a v s).prt = s.prt := rput_prt _ _ s
@[simp] theorem writeRw_dp (a v : Nat) (s : State) : (writeRw a v s).dp = s.dp := rput_dp _ _ s
@[simp] theorem writeRw_tab (a v : Nat) (s : State) : (writeRw a v s).tab = s.tab := rput_tab _ _ s
@[simp] theorem writeRw_fry (a v : Nat) (s : State) : (writeRw a v s).fry = s.fry := rput_fry _ _ s
@[simp] theorem writeRw_tmg (a v : Nat) (s : State) : (writeRw a v s).tmg = s.tmg := rput_tmg _ _ s
@[simp] theorem writeRw_free (a v : Nat) (s : State) : (writeRw a v s).free = s.free := rput_free _ _ s
@[simp] theorem writeRw_pending (a v : Nat) (s : State) : (writeRw a v s).pending = s.pending := rput_pending _ _ s

@[simp] theorem latchTime_fresh (a t : Nat) (s : State) : (latchTime a t s).fresh = s.fresh := (rput_fresh _ _ _).trans ((rput_fresh _ _ _).trans ((rput_fresh _ _ _).trans (rput_fresh _ _ s)))
@[simp] theorem latchTime_mem (a t : Nat) (s : State) : (latchTime a t s).mem = s.mem := (rput_mem _ _ _).trans ((rput_mem _ _ _).trans ((rput_mem _ _ _).trans (rput_mem _ _ s)))
@[simp] theorem latchTime_clk (a t : Nat) (s : State) : (latchTime a t s).clk = s.clk := (rput_clk _ _ _).trans ((rput_clk _ _ _).trans ((rput_clk _ _ _).trans (rput_clk _ _ s)))
@[simp] theorem latchTime_glb (a t : Nat) (s : State) : (latchTime a t s).glb = s.glb := (rput_glb _ _ _).trans ((rput_glb _ _ _).trans ((rput_glb _ _ _).trans (rput_glb _ _ s)))
@[simp] theorem latchTime_frg (a t : Nat) (s : State) : (latchTime a t s).frg = s.frg := (rput_frg _ _ _).trans ((rput_frg _ _ _).trans ((rput_frg _ _ _).trans (rput_frg _ _ s)))
@[simp] theorem latchTime_hif (a t : Nat) (s : State) : (latchTime a t s).hif = s.hif := (rput_hif _ _ _).trans ((rput_hif _ _ _).trans ((rput_hif _ _ _).trans (rput_hif _ _ s)))
@[simp] theorem latchTime_tal (a t : Nat) (s : State) : (latchTime a t s).tal = s.tal := (rput_tal _ _ _).trans ((rput_tal _ _ _).trans ((rput_tal _ _ _).trans (rput_tal _ _ s)))
@[simp] theorem latchTime_gbk (a t : Nat) (s : State) : (latchTime a t s).gbk = s.gbk := (rput_gbk _ _ _).trans ((rput_gbk _ _ _).trans ((rput_gbk _ _ _).trans (rput_gbk _ _ s)))
@[simp] theorem latchTime_tim (a t : Nat) (s : State) : (latchTime a t s).tim = s.tim := (rput_tim _ _ _).trans ((rput_tim _ _ _).trans ((rput_tim _ _ _).trans (rput_tim _ _ s)))
@[simp] theorem latchTime_phs (a t : Nat) (s : State) : (latchTime a t s).phs = s.phs := (rput_phs _ _ _).trans ((rput_phs _ _ _).trans ((rput_phs _ _ _).trans (rput_phs _ _ s)))
@[simp] theorem latchTime_ldg (a t : Nat) (s : State) : (latchTime a t s).ldg = s.ldg := (rput_ldg _ _ _).trans ((rput_ldg _ _ _).trans ((rput_ldg _ _ _).trans (rput_ldg _ _ s)))
@[simp] theorem latchTime_fab (a t : Nat) (s : State) : (latchTime a t s).fab = s.fab := (rput_fab _ _ _).trans ((rput_fab _ _ _).trans ((rput_fab _ _ _).trans (rput_fab _ _ s)))
@[simp] theorem latchTime_por (a t : Nat) (s : State) : (latchTime a t s).por = s.por := (rput_por _ _ _).trans ((rput_por _ _ _).trans ((rput_por _ _ _).trans (rput_por _ _ s)))
@[simp] theorem latchTime_dry (a t : Nat) (s : State) : (latchTime a t s).dry = s.dry := (rput_dry _ _ _).trans ((rput_dry _ _ _).trans ((rput_dry _ _ _).trans (rput_dry _ _ s)))
@[simp] theorem latchTime_hlt (a t : Nat) (s : State) : (latchTime a t s).hlt = s.hlt := (rput_hlt _ _ _).trans ((rput_hlt _ _ _).trans ((rput_hlt _ _ _).trans (rput_hlt _ _ s)))
@[simp] theorem latchTime_pin (a t : Nat) (s : State) : (latchTime a t s).pin = s.pin := (rput_pin _ _ _).trans ((rput_pin _ _ _).trans ((rput_pin _ _ _).trans (rput_pin _ _ s)))
@[simp] theorem latchTime_prt (a t : Nat) (s : State) : (latchTime a t s).prt = s.prt := (rput_prt _ _ _).trans ((rput_prt _ _ _).trans ((rput_prt _ _ _).trans (rput_prt _ _ s)))
@[simp] theorem latchTime_dp (a t : Nat) (s : State) : (latchTime a t s).dp = s.dp := (rput_dp _ _ _).trans ((rput_dp _ _ _).trans ((rput_dp _ _ _).trans (rput_dp _ _ s)))
@[simp] theorem latchTime_tab (a t : Nat) (s : State) : (latchTime a t s).tab = s.tab := (rput_tab _ _ _).trans ((rput_tab _ _ _).trans ((rput_tab _ _ _).trans (rput_tab _ _ s)))
@[simp] theorem latchTime_fry (a t : Nat) (s : State) : (latchTime a t s).fry = s.fry := (rput_fry _ _ _).trans ((rput_fry _ _ _).trans ((rput_fry _ _ _).trans (rput_fry _ _ s)))
@[simp] theorem latchTime_tmg (a t : Nat) (s : State) : (latchTime a t s).tmg = s.tmg := (rput_tmg _ _ _).trans ((rput_tmg _ _ _).trans ((rput_tmg _ _ _).trans (rput_tmg _ _ s)))
@[simp] theorem latchTime_free (a t : Nat) (s : State) : (latchTime a t s).free = s.free := (rput_free _ _ _).trans ((rput_free _ _ _).trans ((rput_free _ _ _).trans (rput_free _ _ s)))
@[simp] theorem latchTime_pending (a t : Nat) (s : State) : (latchTime a t s).pending = s.pending := (rput_pending _ _ _).trans ((rput_pending _ _ _).trans ((rput_pending _ _ _).trans (rput_pending _ _ s)))

@[simp] theorem latchInstant_fresh (a x : Nat) (s : State) : (latchInstant a x s).fresh = s.fresh := (rput_fresh _ _ _).trans ((rput_fresh _ _ _).trans (rput_fresh _ _ s))
@[simp] theorem latchInstant_mem (a x : Nat) (s : State) : (latchInstant a x s).mem = s.mem := (rput_mem _ _ _).trans ((rput_mem _ _ _).trans (rput_mem _ _ s))
@[simp] theorem latchInstant_clk (a x : Nat) (s : State) : (latchInstant a x s).clk = s.clk := (rput_clk _ _ _).trans ((rput_clk _ _ _).trans (rput_clk _ _ s))
@[simp] theorem latchInstant_glb (a x : Nat) (s : State) : (latchInstant a x s).glb = s.glb := (rput_glb _ _ _).trans ((rput_glb _ _ _).trans (rput_glb _ _ s))
@[simp] theorem latchInstant_frg (a x : Nat) (s : State) : (latchInstant a x s).frg = s.frg := (rput_frg _ _ _).trans ((rput_frg _ _ _).trans (rput_frg _ _ s))
@[simp] theorem latchInstant_hif (a x : Nat) (s : State) : (latchInstant a x s).hif = s.hif := (rput_hif _ _ _).trans ((rput_hif _ _ _).trans (rput_hif _ _ s))
@[simp] theorem latchInstant_tal (a x : Nat) (s : State) : (latchInstant a x s).tal = s.tal := (rput_tal _ _ _).trans ((rput_tal _ _ _).trans (rput_tal _ _ s))
@[simp] theorem latchInstant_gbk (a x : Nat) (s : State) : (latchInstant a x s).gbk = s.gbk := (rput_gbk _ _ _).trans ((rput_gbk _ _ _).trans (rput_gbk _ _ s))
@[simp] theorem latchInstant_tim (a x : Nat) (s : State) : (latchInstant a x s).tim = s.tim := (rput_tim _ _ _).trans ((rput_tim _ _ _).trans (rput_tim _ _ s))
@[simp] theorem latchInstant_phs (a x : Nat) (s : State) : (latchInstant a x s).phs = s.phs := (rput_phs _ _ _).trans ((rput_phs _ _ _).trans (rput_phs _ _ s))
@[simp] theorem latchInstant_ldg (a x : Nat) (s : State) : (latchInstant a x s).ldg = s.ldg := (rput_ldg _ _ _).trans ((rput_ldg _ _ _).trans (rput_ldg _ _ s))
@[simp] theorem latchInstant_fab (a x : Nat) (s : State) : (latchInstant a x s).fab = s.fab := (rput_fab _ _ _).trans ((rput_fab _ _ _).trans (rput_fab _ _ s))
@[simp] theorem latchInstant_por (a x : Nat) (s : State) : (latchInstant a x s).por = s.por := (rput_por _ _ _).trans ((rput_por _ _ _).trans (rput_por _ _ s))
@[simp] theorem latchInstant_dry (a x : Nat) (s : State) : (latchInstant a x s).dry = s.dry := (rput_dry _ _ _).trans ((rput_dry _ _ _).trans (rput_dry _ _ s))
@[simp] theorem latchInstant_hlt (a x : Nat) (s : State) : (latchInstant a x s).hlt = s.hlt := (rput_hlt _ _ _).trans ((rput_hlt _ _ _).trans (rput_hlt _ _ s))
@[simp] theorem latchInstant_pin (a x : Nat) (s : State) : (latchInstant a x s).pin = s.pin := (rput_pin _ _ _).trans ((rput_pin _ _ _).trans (rput_pin _ _ s))
@[simp] theorem latchInstant_prt (a x : Nat) (s : State) : (latchInstant a x s).prt = s.prt := (rput_prt _ _ _).trans ((rput_prt _ _ _).trans (rput_prt _ _ s))
@[simp] theorem latchInstant_dp (a x : Nat) (s : State) : (latchInstant a x s).dp = s.dp := (rput_dp _ _ _).trans ((rput_dp _ _ _).trans (rput_dp _ _ s))
@[simp] theorem latchInstant_tab (a x : Nat) (s : State) : (latchInstant a x s).tab = s.tab := (rput_tab _ _ _).trans ((rput_tab _ _ _).trans (rput_tab _ _ s))
@[simp] theorem latchInstant_fry (a x : Nat) (s : State) : (latchInstant a x s).fry = s.fry := (rput_fry _ _ _).trans ((rput_fry _ _ _).trans (rput_fry _ _ s))
@[simp] theorem latchInstant_tmg (a x : Nat) (s : State) : (latchInstant a x s).tmg = s.tmg := (rput_tmg _ _ _).trans ((rput_tmg _ _ _).trans (rput_tmg _ _ s))
@[simp] theorem latchInstant_free (a x : Nat) (s : State) : (latchInstant a x s).free = s.free := (rput_free _ _ _).trans ((rput_free _ _ _).trans (rput_free _ _ s))
@[simp] theorem latchInstant_pending (a x : Nat) (s : State) : (latchInstant a x s).pending = s.pending := (rput_pending _ _ _).trans ((rput_pending _ _ _).trans (rput_pending _ _ s))

/-! ### Counters -/

@[simp] theorem bumpN_regs (g i n : Nat) (s : State) : (bumpN g i n s).regs = s.regs := withTal_regs s _
@[simp] theorem bumpN_fresh (g i n : Nat) (s : State) : (bumpN g i n s).fresh = s.fresh := withTal_fresh s _
@[simp] theorem bumpN_mem (g i n : Nat) (s : State) : (bumpN g i n s).mem = s.mem := withTal_mem s _
@[simp] theorem bumpN_clk (g i n : Nat) (s : State) : (bumpN g i n s).clk = s.clk := withTal_clk s _
@[simp] theorem bumpN_glb (g i n : Nat) (s : State) : (bumpN g i n s).glb = s.glb := withTal_glb s _
@[simp] theorem bumpN_frg (g i n : Nat) (s : State) : (bumpN g i n s).frg = s.frg := withTal_frg s _
@[simp] theorem bumpN_hif (g i n : Nat) (s : State) : (bumpN g i n s).hif = s.hif := withTal_hif s _
@[simp] theorem bumpN_gbk (g i n : Nat) (s : State) : (bumpN g i n s).gbk = s.gbk := withTal_gbk s _
@[simp] theorem bumpN_tim (g i n : Nat) (s : State) : (bumpN g i n s).tim = s.tim := withTal_tim s _
@[simp] theorem bumpN_phs (g i n : Nat) (s : State) : (bumpN g i n s).phs = s.phs := withTal_phs s _
@[simp] theorem bumpN_ldg (g i n : Nat) (s : State) : (bumpN g i n s).ldg = s.ldg := withTal_ldg s _
@[simp] theorem bumpN_fab (g i n : Nat) (s : State) : (bumpN g i n s).fab = s.fab := withTal_fab s _
@[simp] theorem bumpN_por (g i n : Nat) (s : State) : (bumpN g i n s).por = s.por := withTal_por s _
@[simp] theorem bumpN_dry (g i n : Nat) (s : State) : (bumpN g i n s).dry = s.dry := withTal_dry s _
@[simp] theorem bumpN_hlt (g i n : Nat) (s : State) : (bumpN g i n s).hlt = s.hlt := withTal_hlt s _
@[simp] theorem bumpN_pin (g i n : Nat) (s : State) : (bumpN g i n s).pin = s.pin := withTal_pin s _
@[simp] theorem bumpN_prt (g i n : Nat) (s : State) : (bumpN g i n s).prt = s.prt := withTal_prt s _
@[simp] theorem bumpN_dp (g i n : Nat) (s : State) : (bumpN g i n s).dp = s.dp := withTal_dp s _
@[simp] theorem bumpN_tab (g i n : Nat) (s : State) : (bumpN g i n s).tab = s.tab := withTal_tab s _
@[simp] theorem bumpN_fry (g i n : Nat) (s : State) : (bumpN g i n s).fry = s.fry := withTal_fry s _
@[simp] theorem bumpN_tmg (g i n : Nat) (s : State) : (bumpN g i n s).tmg = s.tmg := withTal_tmg s _
@[simp] theorem bumpN_free (g i n : Nat) (s : State) : (bumpN g i n s).free = s.free := withTal_free s _
@[simp] theorem bumpN_pending (g i n : Nat) (s : State) : (bumpN g i n s).pending = s.pending := withTal_pending s _

@[simp] theorem bump_regs (g i : Nat) (s : State) : (bump g i s).regs = s.regs := bumpN_regs _ _ _ s
@[simp] theorem bump_fresh (g i : Nat) (s : State) : (bump g i s).fresh = s.fresh := bumpN_fresh _ _ _ s
@[simp] theorem bump_mem (g i : Nat) (s : State) : (bump g i s).mem = s.mem := bumpN_mem _ _ _ s
@[simp] theorem bump_clk (g i : Nat) (s : State) : (bump g i s).clk = s.clk := bumpN_clk _ _ _ s
@[simp] theorem bump_glb (g i : Nat) (s : State) : (bump g i s).glb = s.glb := bumpN_glb _ _ _ s
@[simp] theorem bump_frg (g i : Nat) (s : State) : (bump g i s).frg = s.frg := bumpN_frg _ _ _ s
@[simp] theorem bump_hif (g i : Nat) (s : State) : (bump g i s).hif = s.hif := bumpN_hif _ _ _ s
@[simp] theorem bump_gbk (g i : Nat) (s : State) : (bump g i s).gbk = s.gbk := bumpN_gbk _ _ _ s
@[simp] theorem bump_tim (g i : Nat) (s : State) : (bump g i s).tim = s.tim := bumpN_tim _ _ _ s
@[simp] theorem bump_phs (g i : Nat) (s : State) : (bump g i s).phs = s.phs := bumpN_phs _ _ _ s
@[simp] theorem bump_ldg (g i : Nat) (s : State) : (bump g i s).ldg = s.ldg := bumpN_ldg _ _ _ s
@[simp] theorem bump_fab (g i : Nat) (s : State) : (bump g i s).fab = s.fab := bumpN_fab _ _ _ s
@[simp] theorem bump_por (g i : Nat) (s : State) : (bump g i s).por = s.por := bumpN_por _ _ _ s
@[simp] theorem bump_dry (g i : Nat) (s : State) : (bump g i s).dry = s.dry := bumpN_dry _ _ _ s
@[simp] theorem bump_hlt (g i : Nat) (s : State) : (bump g i s).hlt = s.hlt := bumpN_hlt _ _ _ s
@[simp] theorem bump_pin (g i : Nat) (s : State) : (bump g i s).pin = s.pin := bumpN_pin _ _ _ s
@[simp] theorem bump_prt (g i : Nat) (s : State) : (bump g i s).prt = s.prt := bumpN_prt _ _ _ s
@[simp] theorem bump_dp (g i : Nat) (s : State) : (bump g i s).dp = s.dp := bumpN_dp _ _ _ s
@[simp] theorem bump_tab (g i : Nat) (s : State) : (bump g i s).tab = s.tab := bumpN_tab _ _ _ s
@[simp] theorem bump_fry (g i : Nat) (s : State) : (bump g i s).fry = s.fry := bumpN_fry _ _ _ s
@[simp] theorem bump_tmg (g i : Nat) (s : State) : (bump g i s).tmg = s.tmg := bumpN_tmg _ _ _ s
@[simp] theorem bump_free (g i : Nat) (s : State) : (bump g i s).free = s.free := bumpN_free _ _ _ s
@[simp] theorem bump_pending (g i : Nat) (s : State) : (bump g i s).pending = s.pending := bumpN_pending _ _ _ s

@[simp] theorem gbkCtr_regs (i : Nat) (s : State) : (gbkCtr i s).regs = s.regs := bump_regs _ _ s
@[simp] theorem gbkCtr_fresh (i : Nat) (s : State) : (gbkCtr i s).fresh = s.fresh := bump_fresh _ _ s
@[simp] theorem gbkCtr_mem (i : Nat) (s : State) : (gbkCtr i s).mem = s.mem := bump_mem _ _ s
@[simp] theorem gbkCtr_clk (i : Nat) (s : State) : (gbkCtr i s).clk = s.clk := bump_clk _ _ s
@[simp] theorem gbkCtr_glb (i : Nat) (s : State) : (gbkCtr i s).glb = s.glb := bump_glb _ _ s
@[simp] theorem gbkCtr_frg (i : Nat) (s : State) : (gbkCtr i s).frg = s.frg := bump_frg _ _ s
@[simp] theorem gbkCtr_hif (i : Nat) (s : State) : (gbkCtr i s).hif = s.hif := bump_hif _ _ s
@[simp] theorem gbkCtr_gbk (i : Nat) (s : State) : (gbkCtr i s).gbk = s.gbk := bump_gbk _ _ s
@[simp] theorem gbkCtr_tim (i : Nat) (s : State) : (gbkCtr i s).tim = s.tim := bump_tim _ _ s
@[simp] theorem gbkCtr_phs (i : Nat) (s : State) : (gbkCtr i s).phs = s.phs := bump_phs _ _ s
@[simp] theorem gbkCtr_ldg (i : Nat) (s : State) : (gbkCtr i s).ldg = s.ldg := bump_ldg _ _ s
@[simp] theorem gbkCtr_fab (i : Nat) (s : State) : (gbkCtr i s).fab = s.fab := bump_fab _ _ s
@[simp] theorem gbkCtr_por (i : Nat) (s : State) : (gbkCtr i s).por = s.por := bump_por _ _ s
@[simp] theorem gbkCtr_dry (i : Nat) (s : State) : (gbkCtr i s).dry = s.dry := bump_dry _ _ s
@[simp] theorem gbkCtr_hlt (i : Nat) (s : State) : (gbkCtr i s).hlt = s.hlt := bump_hlt _ _ s
@[simp] theorem gbkCtr_pin (i : Nat) (s : State) : (gbkCtr i s).pin = s.pin := bump_pin _ _ s
@[simp] theorem gbkCtr_prt (i : Nat) (s : State) : (gbkCtr i s).prt = s.prt := bump_prt _ _ s
@[simp] theorem gbkCtr_dp (i : Nat) (s : State) : (gbkCtr i s).dp = s.dp := bump_dp _ _ s
@[simp] theorem gbkCtr_tab (i : Nat) (s : State) : (gbkCtr i s).tab = s.tab := bump_tab _ _ s
@[simp] theorem gbkCtr_fry (i : Nat) (s : State) : (gbkCtr i s).fry = s.fry := bump_fry _ _ s
@[simp] theorem gbkCtr_tmg (i : Nat) (s : State) : (gbkCtr i s).tmg = s.tmg := bump_tmg _ _ s
@[simp] theorem gbkCtr_free (i : Nat) (s : State) : (gbkCtr i s).free = s.free := bump_free _ _ s
@[simp] theorem gbkCtr_pending (i : Nat) (s : State) : (gbkCtr i s).pending = s.pending := bump_pending _ _ s

theorem withLive_begun (s : State) (l : List (Nat × Nat)) : ({ s with tal := { s.tal with live := l } } : State).tal.begun = s.tal.begun := rfl
@[simp] theorem bumpN_begun (g i n : Nat) (s : State) : (bumpN g i n s).tal.begun = s.tal.begun := withLive_begun s _
@[simp] theorem bump_begun (g i : Nat) (s : State) : (bump g i s).tal.begun = s.tal.begun := bumpN_begun _ _ _ s
@[simp] theorem gbkCtr_begun (i : Nat) (s : State) : (gbkCtr i s).tal.begun = s.tal.begun := bump_begun _ _ s
theorem withLive_latched (s : State) (l : List (Nat × Nat)) : ({ s with tal := { s.tal with live := l } } : State).tal.latched = s.tal.latched := rfl
@[simp] theorem bumpN_latched (g i n : Nat) (s : State) : (bumpN g i n s).tal.latched = s.tal.latched := withLive_latched s _
@[simp] theorem bump_latched (g i : Nat) (s : State) : (bump g i s).tal.latched = s.tal.latched := bumpN_latched _ _ _ s
@[simp] theorem gbkCtr_latched (i : Nat) (s : State) : (gbkCtr i s).tal.latched = s.tal.latched := bump_latched _ _ s
theorem withLive_harvest (s : State) (l : List (Nat × Nat)) : ({ s with tal := { s.tal with live := l } } : State).tal.harvest = s.tal.harvest := rfl
@[simp] theorem bumpN_harvest (g i n : Nat) (s : State) : (bumpN g i n s).tal.harvest = s.tal.harvest := withLive_harvest s _
@[simp] theorem bump_harvest (g i : Nat) (s : State) : (bump g i s).tal.harvest = s.tal.harvest := bumpN_harvest _ _ _ s
@[simp] theorem gbkCtr_harvest (i : Nat) (s : State) : (gbkCtr i s).tal.harvest = s.tal.harvest := bump_harvest _ _ s
theorem withLive_snapClk (s : State) (l : List (Nat × Nat)) : ({ s with tal := { s.tal with live := l } } : State).tal.snapClk = s.tal.snapClk := rfl
@[simp] theorem bumpN_snapClk (g i n : Nat) (s : State) : (bumpN g i n s).tal.snapClk = s.tal.snapClk := withLive_snapClk s _
@[simp] theorem bump_snapClk (g i : Nat) (s : State) : (bump g i s).tal.snapClk = s.tal.snapClk := bumpN_snapClk _ _ _ s
@[simp] theorem gbkCtr_snapClk (i : Nat) (s : State) : (gbkCtr i s).tal.snapClk = s.tal.snapClk := bump_snapClk _ _ s
theorem withLive_relatch (s : State) (l : List (Nat × Nat)) : ({ s with tal := { s.tal with live := l } } : State).tal.relatch = s.tal.relatch := rfl
@[simp] theorem bumpN_relatch (g i n : Nat) (s : State) : (bumpN g i n s).tal.relatch = s.tal.relatch := withLive_relatch s _
@[simp] theorem bump_relatch (g i : Nat) (s : State) : (bump g i s).tal.relatch = s.tal.relatch := bumpN_relatch _ _ _ s
@[simp] theorem gbkCtr_relatch (i : Nat) (s : State) : (gbkCtr i s).tal.relatch = s.tal.relatch := bump_relatch _ _ s

/-! ### Core clocks -/

@[simp] theorem passClocks_regs (n : Nat) (s : State) : (passClocks n s).regs = s.regs := withTime_regs s _ _ _
@[simp] theorem passClocks_fresh (n : Nat) (s : State) : (passClocks n s).fresh = s.fresh := withTime_fresh s _ _ _
@[simp] theorem passClocks_mem (n : Nat) (s : State) : (passClocks n s).mem = s.mem := withTime_mem s _ _ _
@[simp] theorem passClocks_glb (n : Nat) (s : State) : (passClocks n s).glb = s.glb := withTime_glb s _ _ _
@[simp] theorem passClocks_frg (n : Nat) (s : State) : (passClocks n s).frg = s.frg := withTime_frg s _ _ _
@[simp] theorem passClocks_hif (n : Nat) (s : State) : (passClocks n s).hif = s.hif := withTime_hif s _ _ _
@[simp] theorem passClocks_tal (n : Nat) (s : State) : (passClocks n s).tal = s.tal := withTime_tal s _ _ _
@[simp] theorem passClocks_gbk (n : Nat) (s : State) : (passClocks n s).gbk = s.gbk := withTime_gbk s _ _ _
@[simp] theorem passClocks_ldg (n : Nat) (s : State) : (passClocks n s).ldg = s.ldg := withTime_ldg s _ _ _
@[simp] theorem passClocks_fab (n : Nat) (s : State) : (passClocks n s).fab = s.fab := withTime_fab s _ _ _
@[simp] theorem passClocks_por (n : Nat) (s : State) : (passClocks n s).por = s.por := withTime_por s _ _ _
@[simp] theorem passClocks_dry (n : Nat) (s : State) : (passClocks n s).dry = s.dry := withTime_dry s _ _ _
@[simp] theorem passClocks_hlt (n : Nat) (s : State) : (passClocks n s).hlt = s.hlt := withTime_hlt s _ _ _
@[simp] theorem passClocks_pin (n : Nat) (s : State) : (passClocks n s).pin = s.pin := withTime_pin s _ _ _
@[simp] theorem passClocks_prt (n : Nat) (s : State) : (passClocks n s).prt = s.prt := withTime_prt s _ _ _
@[simp] theorem passClocks_dp (n : Nat) (s : State) : (passClocks n s).dp = s.dp := withTime_dp s _ _ _
@[simp] theorem passClocks_tab (n : Nat) (s : State) : (passClocks n s).tab = s.tab := withTime_tab s _ _ _
@[simp] theorem passClocks_fry (n : Nat) (s : State) : (passClocks n s).fry = s.fry := withTime_fry s _ _ _
@[simp] theorem passClocks_tmg (n : Nat) (s : State) : (passClocks n s).tmg = s.tmg := withTime_tmg s _ _ _
@[simp] theorem passClocks_free (n : Nat) (s : State) : (passClocks n s).free = s.free := withTime_free s _ _ _
@[simp] theorem passClocks_pending (n : Nat) (s : State) : (passClocks n s).pending = s.pending := withTime_pending s _ _ _

theorem withTime_clk (s : State) (c : Nat) (t : Tim) (p : Phs) : ({ s with clk := c, tim := t, phs := p } : State).clk = c := rfl
@[simp] theorem passClocks_clk (n : Nat) (s : State) : (passClocks n s).clk = s.clk + n := withTime_clk s _ _ _

/-! ### Ports and the data path -/

@[simp] theorem putPort_regs (p : Nat) (x : PortSt) (s : State) : (putPort p x s).regs = s.regs := withPrt_regs s _
@[simp] theorem putPort_fresh (p : Nat) (x : PortSt) (s : State) : (putPort p x s).fresh = s.fresh := withPrt_fresh s _
@[simp] theorem putPort_mem (p : Nat) (x : PortSt) (s : State) : (putPort p x s).mem = s.mem := withPrt_mem s _
@[simp] theorem putPort_clk (p : Nat) (x : PortSt) (s : State) : (putPort p x s).clk = s.clk := withPrt_clk s _
@[simp] theorem putPort_glb (p : Nat) (x : PortSt) (s : State) : (putPort p x s).glb = s.glb := withPrt_glb s _
@[simp] theorem putPort_frg (p : Nat) (x : PortSt) (s : State) : (putPort p x s).frg = s.frg := withPrt_frg s _
@[simp] theorem putPort_hif (p : Nat) (x : PortSt) (s : State) : (putPort p x s).hif = s.hif := withPrt_hif s _
@[simp] theorem putPort_tal (p : Nat) (x : PortSt) (s : State) : (putPort p x s).tal = s.tal := withPrt_tal s _
@[simp] theorem putPort_gbk (p : Nat) (x : PortSt) (s : State) : (putPort p x s).gbk = s.gbk := withPrt_gbk s _
@[simp] theorem putPort_tim (p : Nat) (x : PortSt) (s : State) : (putPort p x s).tim = s.tim := withPrt_tim s _
@[simp] theorem putPort_phs (p : Nat) (x : PortSt) (s : State) : (putPort p x s).phs = s.phs := withPrt_phs s _
@[simp] theorem putPort_ldg (p : Nat) (x : PortSt) (s : State) : (putPort p x s).ldg = s.ldg := withPrt_ldg s _
@[simp] theorem putPort_fab (p : Nat) (x : PortSt) (s : State) : (putPort p x s).fab = s.fab := withPrt_fab s _
@[simp] theorem putPort_por (p : Nat) (x : PortSt) (s : State) : (putPort p x s).por = s.por := withPrt_por s _
@[simp] theorem putPort_dry (p : Nat) (x : PortSt) (s : State) : (putPort p x s).dry = s.dry := withPrt_dry s _
@[simp] theorem putPort_hlt (p : Nat) (x : PortSt) (s : State) : (putPort p x s).hlt = s.hlt := withPrt_hlt s _
@[simp] theorem putPort_pin (p : Nat) (x : PortSt) (s : State) : (putPort p x s).pin = s.pin := withPrt_pin s _
@[simp] theorem putPort_dp (p : Nat) (x : PortSt) (s : State) : (putPort p x s).dp = s.dp := withPrt_dp s _
@[simp] theorem putPort_tab (p : Nat) (x : PortSt) (s : State) : (putPort p x s).tab = s.tab := withPrt_tab s _
@[simp] theorem putPort_fry (p : Nat) (x : PortSt) (s : State) : (putPort p x s).fry = s.fry := withPrt_fry s _
@[simp] theorem putPort_tmg (p : Nat) (x : PortSt) (s : State) : (putPort p x s).tmg = s.tmg := withPrt_tmg s _
@[simp] theorem putPort_free (p : Nat) (x : PortSt) (s : State) : (putPort p x s).free = s.free := withPrt_free s _
@[simp] theorem putPort_pending (p : Nat) (x : PortSt) (s : State) : (putPort p x s).pending = s.pending := withPrt_pending s _

@[simp] theorem putIngress_regs (p : Nat) (l : List Nat) (s : State) : (putIngress p l s).regs = s.regs := withDp_regs s _
@[simp] theorem putIngress_fresh (p : Nat) (l : List Nat) (s : State) : (putIngress p l s).fresh = s.fresh := withDp_fresh s _
@[simp] theorem putIngress_mem (p : Nat) (l : List Nat) (s : State) : (putIngress p l s).mem = s.mem := withDp_mem s _
@[simp] theorem putIngress_clk (p : Nat) (l : List Nat) (s : State) : (putIngress p l s).clk = s.clk := withDp_clk s _
@[simp] theorem putIngress_glb (p : Nat) (l : List Nat) (s : State) : (putIngress p l s).glb = s.glb := withDp_glb s _
@[simp] theorem putIngress_frg (p : Nat) (l : List Nat) (s : State) : (putIngress p l s).frg = s.frg := withDp_frg s _
@[simp] theorem putIngress_hif (p : Nat) (l : List Nat) (s : State) : (putIngress p l s).hif = s.hif := withDp_hif s _
@[simp] theorem putIngress_tal (p : Nat) (l : List Nat) (s : State) : (putIngress p l s).tal = s.tal := withDp_tal s _
@[simp] theorem putIngress_gbk (p : Nat) (l : List Nat) (s : State) : (putIngress p l s).gbk = s.gbk := withDp_gbk s _
@[simp] theorem putIngress_tim (p : Nat) (l : List Nat) (s : State) : (putIngress p l s).tim = s.tim := withDp_tim s _
@[simp] theorem putIngress_phs (p : Nat) (l : List Nat) (s : State) : (putIngress p l s).phs = s.phs := withDp_phs s _
@[simp] theorem putIngress_ldg (p : Nat) (l : List Nat) (s : State) : (putIngress p l s).ldg = s.ldg := withDp_ldg s _
@[simp] theorem putIngress_fab (p : Nat) (l : List Nat) (s : State) : (putIngress p l s).fab = s.fab := withDp_fab s _
@[simp] theorem putIngress_por (p : Nat) (l : List Nat) (s : State) : (putIngress p l s).por = s.por := withDp_por s _
@[simp] theorem putIngress_dry (p : Nat) (l : List Nat) (s : State) : (putIngress p l s).dry = s.dry := withDp_dry s _
@[simp] theorem putIngress_hlt (p : Nat) (l : List Nat) (s : State) : (putIngress p l s).hlt = s.hlt := withDp_hlt s _
@[simp] theorem putIngress_pin (p : Nat) (l : List Nat) (s : State) : (putIngress p l s).pin = s.pin := withDp_pin s _
@[simp] theorem putIngress_prt (p : Nat) (l : List Nat) (s : State) : (putIngress p l s).prt = s.prt := withDp_prt s _
@[simp] theorem putIngress_tab (p : Nat) (l : List Nat) (s : State) : (putIngress p l s).tab = s.tab := withDp_tab s _
@[simp] theorem putIngress_fry (p : Nat) (l : List Nat) (s : State) : (putIngress p l s).fry = s.fry := withDp_fry s _
@[simp] theorem putIngress_tmg (p : Nat) (l : List Nat) (s : State) : (putIngress p l s).tmg = s.tmg := withDp_tmg s _
@[simp] theorem putIngress_free (p : Nat) (l : List Nat) (s : State) : (putIngress p l s).free = s.free := withDp_free s _
@[simp] theorem putIngress_pending (p : Nat) (l : List Nat) (s : State) : (putIngress p l s).pending = s.pending := withDp_pending s _

@[simp] theorem putPipe_regs (h : Nat) (l : List Pass) (s : State) : (putPipe h l s).regs = s.regs := withDp_regs s _
@[simp] theorem putPipe_fresh (h : Nat) (l : List Pass) (s : State) : (putPipe h l s).fresh = s.fresh := withDp_fresh s _
@[simp] theorem putPipe_mem (h : Nat) (l : List Pass) (s : State) : (putPipe h l s).mem = s.mem := withDp_mem s _
@[simp] theorem putPipe_clk (h : Nat) (l : List Pass) (s : State) : (putPipe h l s).clk = s.clk := withDp_clk s _
@[simp] theorem putPipe_glb (h : Nat) (l : List Pass) (s : State) : (putPipe h l s).glb = s.glb := withDp_glb s _
@[simp] theorem putPipe_frg (h : Nat) (l : List Pass) (s : State) : (putPipe h l s).frg = s.frg := withDp_frg s _
@[simp] theorem putPipe_hif (h : Nat) (l : List Pass) (s : State) : (putPipe h l s).hif = s.hif := withDp_hif s _
@[simp] theorem putPipe_tal (h : Nat) (l : List Pass) (s : State) : (putPipe h l s).tal = s.tal := withDp_tal s _
@[simp] theorem putPipe_gbk (h : Nat) (l : List Pass) (s : State) : (putPipe h l s).gbk = s.gbk := withDp_gbk s _
@[simp] theorem putPipe_tim (h : Nat) (l : List Pass) (s : State) : (putPipe h l s).tim = s.tim := withDp_tim s _
@[simp] theorem putPipe_phs (h : Nat) (l : List Pass) (s : State) : (putPipe h l s).phs = s.phs := withDp_phs s _
@[simp] theorem putPipe_ldg (h : Nat) (l : List Pass) (s : State) : (putPipe h l s).ldg = s.ldg := withDp_ldg s _
@[simp] theorem putPipe_fab (h : Nat) (l : List Pass) (s : State) : (putPipe h l s).fab = s.fab := withDp_fab s _
@[simp] theorem putPipe_por (h : Nat) (l : List Pass) (s : State) : (putPipe h l s).por = s.por := withDp_por s _
@[simp] theorem putPipe_dry (h : Nat) (l : List Pass) (s : State) : (putPipe h l s).dry = s.dry := withDp_dry s _
@[simp] theorem putPipe_hlt (h : Nat) (l : List Pass) (s : State) : (putPipe h l s).hlt = s.hlt := withDp_hlt s _
@[simp] theorem putPipe_pin (h : Nat) (l : List Pass) (s : State) : (putPipe h l s).pin = s.pin := withDp_pin s _
@[simp] theorem putPipe_prt (h : Nat) (l : List Pass) (s : State) : (putPipe h l s).prt = s.prt := withDp_prt s _
@[simp] theorem putPipe_tab (h : Nat) (l : List Pass) (s : State) : (putPipe h l s).tab = s.tab := withDp_tab s _
@[simp] theorem putPipe_fry (h : Nat) (l : List Pass) (s : State) : (putPipe h l s).fry = s.fry := withDp_fry s _
@[simp] theorem putPipe_tmg (h : Nat) (l : List Pass) (s : State) : (putPipe h l s).tmg = s.tmg := withDp_tmg s _
@[simp] theorem putPipe_free (h : Nat) (l : List Pass) (s : State) : (putPipe h l s).free = s.free := withDp_free s _
@[simp] theorem putPipe_pending (h : Nat) (l : List Pass) (s : State) : (putPipe h l s).pending = s.pending := withDp_pending s _

@[simp] theorem putRecirc_regs (h : Nat) (l : List (Nat × Option Pass)) (s : State) : (putRecirc h l s).regs = s.regs := withDp_regs s _
@[simp] theorem putRecirc_fresh (h : Nat) (l : List (Nat × Option Pass)) (s : State) : (putRecirc h l s).fresh = s.fresh := withDp_fresh s _
@[simp] theorem putRecirc_mem (h : Nat) (l : List (Nat × Option Pass)) (s : State) : (putRecirc h l s).mem = s.mem := withDp_mem s _
@[simp] theorem putRecirc_clk (h : Nat) (l : List (Nat × Option Pass)) (s : State) : (putRecirc h l s).clk = s.clk := withDp_clk s _
@[simp] theorem putRecirc_glb (h : Nat) (l : List (Nat × Option Pass)) (s : State) : (putRecirc h l s).glb = s.glb := withDp_glb s _
@[simp] theorem putRecirc_frg (h : Nat) (l : List (Nat × Option Pass)) (s : State) : (putRecirc h l s).frg = s.frg := withDp_frg s _
@[simp] theorem putRecirc_hif (h : Nat) (l : List (Nat × Option Pass)) (s : State) : (putRecirc h l s).hif = s.hif := withDp_hif s _
@[simp] theorem putRecirc_tal (h : Nat) (l : List (Nat × Option Pass)) (s : State) : (putRecirc h l s).tal = s.tal := withDp_tal s _
@[simp] theorem putRecirc_gbk (h : Nat) (l : List (Nat × Option Pass)) (s : State) : (putRecirc h l s).gbk = s.gbk := withDp_gbk s _
@[simp] theorem putRecirc_tim (h : Nat) (l : List (Nat × Option Pass)) (s : State) : (putRecirc h l s).tim = s.tim := withDp_tim s _
@[simp] theorem putRecirc_phs (h : Nat) (l : List (Nat × Option Pass)) (s : State) : (putRecirc h l s).phs = s.phs := withDp_phs s _
@[simp] theorem putRecirc_ldg (h : Nat) (l : List (Nat × Option Pass)) (s : State) : (putRecirc h l s).ldg = s.ldg := withDp_ldg s _
@[simp] theorem putRecirc_fab (h : Nat) (l : List (Nat × Option Pass)) (s : State) : (putRecirc h l s).fab = s.fab := withDp_fab s _
@[simp] theorem putRecirc_por (h : Nat) (l : List (Nat × Option Pass)) (s : State) : (putRecirc h l s).por = s.por := withDp_por s _
@[simp] theorem putRecirc_dry (h : Nat) (l : List (Nat × Option Pass)) (s : State) : (putRecirc h l s).dry = s.dry := withDp_dry s _
@[simp] theorem putRecirc_hlt (h : Nat) (l : List (Nat × Option Pass)) (s : State) : (putRecirc h l s).hlt = s.hlt := withDp_hlt s _
@[simp] theorem putRecirc_pin (h : Nat) (l : List (Nat × Option Pass)) (s : State) : (putRecirc h l s).pin = s.pin := withDp_pin s _
@[simp] theorem putRecirc_prt (h : Nat) (l : List (Nat × Option Pass)) (s : State) : (putRecirc h l s).prt = s.prt := withDp_prt s _
@[simp] theorem putRecirc_tab (h : Nat) (l : List (Nat × Option Pass)) (s : State) : (putRecirc h l s).tab = s.tab := withDp_tab s _
@[simp] theorem putRecirc_fry (h : Nat) (l : List (Nat × Option Pass)) (s : State) : (putRecirc h l s).fry = s.fry := withDp_fry s _
@[simp] theorem putRecirc_tmg (h : Nat) (l : List (Nat × Option Pass)) (s : State) : (putRecirc h l s).tmg = s.tmg := withDp_tmg s _
@[simp] theorem putRecirc_free (h : Nat) (l : List (Nat × Option Pass)) (s : State) : (putRecirc h l s).free = s.free := withDp_free s _
@[simp] theorem putRecirc_pending (h : Nat) (l : List (Nat × Option Pass)) (s : State) : (putRecirc h l s).pending = s.pending := withDp_pending s _

@[simp] theorem putHostFifo_regs (h : Nat) (l : List Nat) (s : State) : (putHostFifo h l s).regs = s.regs := withDp_regs s _
@[simp] theorem putHostFifo_fresh (h : Nat) (l : List Nat) (s : State) : (putHostFifo h l s).fresh = s.fresh := withDp_fresh s _
@[simp] theorem putHostFifo_mem (h : Nat) (l : List Nat) (s : State) : (putHostFifo h l s).mem = s.mem := withDp_mem s _
@[simp] theorem putHostFifo_clk (h : Nat) (l : List Nat) (s : State) : (putHostFifo h l s).clk = s.clk := withDp_clk s _
@[simp] theorem putHostFifo_glb (h : Nat) (l : List Nat) (s : State) : (putHostFifo h l s).glb = s.glb := withDp_glb s _
@[simp] theorem putHostFifo_frg (h : Nat) (l : List Nat) (s : State) : (putHostFifo h l s).frg = s.frg := withDp_frg s _
@[simp] theorem putHostFifo_hif (h : Nat) (l : List Nat) (s : State) : (putHostFifo h l s).hif = s.hif := withDp_hif s _
@[simp] theorem putHostFifo_tal (h : Nat) (l : List Nat) (s : State) : (putHostFifo h l s).tal = s.tal := withDp_tal s _
@[simp] theorem putHostFifo_gbk (h : Nat) (l : List Nat) (s : State) : (putHostFifo h l s).gbk = s.gbk := withDp_gbk s _
@[simp] theorem putHostFifo_tim (h : Nat) (l : List Nat) (s : State) : (putHostFifo h l s).tim = s.tim := withDp_tim s _
@[simp] theorem putHostFifo_phs (h : Nat) (l : List Nat) (s : State) : (putHostFifo h l s).phs = s.phs := withDp_phs s _
@[simp] theorem putHostFifo_ldg (h : Nat) (l : List Nat) (s : State) : (putHostFifo h l s).ldg = s.ldg := withDp_ldg s _
@[simp] theorem putHostFifo_fab (h : Nat) (l : List Nat) (s : State) : (putHostFifo h l s).fab = s.fab := withDp_fab s _
@[simp] theorem putHostFifo_por (h : Nat) (l : List Nat) (s : State) : (putHostFifo h l s).por = s.por := withDp_por s _
@[simp] theorem putHostFifo_dry (h : Nat) (l : List Nat) (s : State) : (putHostFifo h l s).dry = s.dry := withDp_dry s _
@[simp] theorem putHostFifo_hlt (h : Nat) (l : List Nat) (s : State) : (putHostFifo h l s).hlt = s.hlt := withDp_hlt s _
@[simp] theorem putHostFifo_pin (h : Nat) (l : List Nat) (s : State) : (putHostFifo h l s).pin = s.pin := withDp_pin s _
@[simp] theorem putHostFifo_prt (h : Nat) (l : List Nat) (s : State) : (putHostFifo h l s).prt = s.prt := withDp_prt s _
@[simp] theorem putHostFifo_tab (h : Nat) (l : List Nat) (s : State) : (putHostFifo h l s).tab = s.tab := withDp_tab s _
@[simp] theorem putHostFifo_fry (h : Nat) (l : List Nat) (s : State) : (putHostFifo h l s).fry = s.fry := withDp_fry s _
@[simp] theorem putHostFifo_tmg (h : Nat) (l : List Nat) (s : State) : (putHostFifo h l s).tmg = s.tmg := withDp_tmg s _
@[simp] theorem putHostFifo_free (h : Nat) (l : List Nat) (s : State) : (putHostFifo h l s).free = s.free := withDp_free s _
@[simp] theorem putHostFifo_pending (h : Nat) (l : List Nat) (s : State) : (putHostFifo h l s).pending = s.pending := withDp_pending s _

@[simp] theorem putFrame_regs (i : Nat) (f : Frame) (s : State) : (putFrame i f s).regs = s.regs := withDp_regs s _
@[simp] theorem putFrame_fresh (i : Nat) (f : Frame) (s : State) : (putFrame i f s).fresh = s.fresh := withDp_fresh s _
@[simp] theorem putFrame_mem (i : Nat) (f : Frame) (s : State) : (putFrame i f s).mem = s.mem := withDp_mem s _
@[simp] theorem putFrame_clk (i : Nat) (f : Frame) (s : State) : (putFrame i f s).clk = s.clk := withDp_clk s _
@[simp] theorem putFrame_glb (i : Nat) (f : Frame) (s : State) : (putFrame i f s).glb = s.glb := withDp_glb s _
@[simp] theorem putFrame_frg (i : Nat) (f : Frame) (s : State) : (putFrame i f s).frg = s.frg := withDp_frg s _
@[simp] theorem putFrame_hif (i : Nat) (f : Frame) (s : State) : (putFrame i f s).hif = s.hif := withDp_hif s _
@[simp] theorem putFrame_tal (i : Nat) (f : Frame) (s : State) : (putFrame i f s).tal = s.tal := withDp_tal s _
@[simp] theorem putFrame_gbk (i : Nat) (f : Frame) (s : State) : (putFrame i f s).gbk = s.gbk := withDp_gbk s _
@[simp] theorem putFrame_tim (i : Nat) (f : Frame) (s : State) : (putFrame i f s).tim = s.tim := withDp_tim s _
@[simp] theorem putFrame_phs (i : Nat) (f : Frame) (s : State) : (putFrame i f s).phs = s.phs := withDp_phs s _
@[simp] theorem putFrame_ldg (i : Nat) (f : Frame) (s : State) : (putFrame i f s).ldg = s.ldg := withDp_ldg s _
@[simp] theorem putFrame_fab (i : Nat) (f : Frame) (s : State) : (putFrame i f s).fab = s.fab := withDp_fab s _
@[simp] theorem putFrame_por (i : Nat) (f : Frame) (s : State) : (putFrame i f s).por = s.por := withDp_por s _
@[simp] theorem putFrame_dry (i : Nat) (f : Frame) (s : State) : (putFrame i f s).dry = s.dry := withDp_dry s _
@[simp] theorem putFrame_hlt (i : Nat) (f : Frame) (s : State) : (putFrame i f s).hlt = s.hlt := withDp_hlt s _
@[simp] theorem putFrame_pin (i : Nat) (f : Frame) (s : State) : (putFrame i f s).pin = s.pin := withDp_pin s _
@[simp] theorem putFrame_prt (i : Nat) (f : Frame) (s : State) : (putFrame i f s).prt = s.prt := withDp_prt s _
@[simp] theorem putFrame_tab (i : Nat) (f : Frame) (s : State) : (putFrame i f s).tab = s.tab := withDp_tab s _
@[simp] theorem putFrame_fry (i : Nat) (f : Frame) (s : State) : (putFrame i f s).fry = s.fry := withDp_fry s _
@[simp] theorem putFrame_tmg (i : Nat) (f : Frame) (s : State) : (putFrame i f s).tmg = s.tmg := withDp_tmg s _
@[simp] theorem putFrame_free (i : Nat) (f : Frame) (s : State) : (putFrame i f s).free = s.free := withDp_free s _
@[simp] theorem putFrame_pending (i : Nat) (f : Frame) (s : State) : (putFrame i f s).pending = s.pending := withDp_pending s _

@[simp] theorem freeCells_regs  (s : State) : (freeCells  s).regs = s.regs := withDp_regs s _
@[simp] theorem freeCells_fresh  (s : State) : (freeCells  s).fresh = s.fresh := withDp_fresh s _
@[simp] theorem freeCells_mem  (s : State) : (freeCells  s).mem = s.mem := withDp_mem s _
@[simp] theorem freeCells_clk  (s : State) : (freeCells  s).clk = s.clk := withDp_clk s _
@[simp] theorem freeCells_glb  (s : State) : (freeCells  s).glb = s.glb := withDp_glb s _
@[simp] theorem freeCells_frg  (s : State) : (freeCells  s).frg = s.frg := withDp_frg s _
@[simp] theorem freeCells_hif  (s : State) : (freeCells  s).hif = s.hif := withDp_hif s _
@[simp] theorem freeCells_tal  (s : State) : (freeCells  s).tal = s.tal := withDp_tal s _
@[simp] theorem freeCells_gbk  (s : State) : (freeCells  s).gbk = s.gbk := withDp_gbk s _
@[simp] theorem freeCells_tim  (s : State) : (freeCells  s).tim = s.tim := withDp_tim s _
@[simp] theorem freeCells_phs  (s : State) : (freeCells  s).phs = s.phs := withDp_phs s _
@[simp] theorem freeCells_ldg  (s : State) : (freeCells  s).ldg = s.ldg := withDp_ldg s _
@[simp] theorem freeCells_fab  (s : State) : (freeCells  s).fab = s.fab := withDp_fab s _
@[simp] theorem freeCells_por  (s : State) : (freeCells  s).por = s.por := withDp_por s _
@[simp] theorem freeCells_dry  (s : State) : (freeCells  s).dry = s.dry := withDp_dry s _
@[simp] theorem freeCells_hlt  (s : State) : (freeCells  s).hlt = s.hlt := withDp_hlt s _
@[simp] theorem freeCells_pin  (s : State) : (freeCells  s).pin = s.pin := withDp_pin s _
@[simp] theorem freeCells_prt  (s : State) : (freeCells  s).prt = s.prt := withDp_prt s _
@[simp] theorem freeCells_tab  (s : State) : (freeCells  s).tab = s.tab := withDp_tab s _
@[simp] theorem freeCells_fry  (s : State) : (freeCells  s).fry = s.fry := withDp_fry s _
@[simp] theorem freeCells_tmg  (s : State) : (freeCells  s).tmg = s.tmg := withDp_tmg s _
@[simp] theorem freeCells_free  (s : State) : (freeCells  s).free = s.free := withDp_free s _
@[simp] theorem freeCells_pending  (s : State) : (freeCells  s).pending = s.pending := withDp_pending s _

@[simp] theorem putQueue_regs (k : Nat) (l : List Copy) (s : State) : (putQueue k l s).regs = s.regs := withDp_regs s _
@[simp] theorem putQueue_fresh (k : Nat) (l : List Copy) (s : State) : (putQueue k l s).fresh = s.fresh := withDp_fresh s _
@[simp] theorem putQueue_mem (k : Nat) (l : List Copy) (s : State) : (putQueue k l s).mem = s.mem := withDp_mem s _
@[simp] theorem putQueue_clk (k : Nat) (l : List Copy) (s : State) : (putQueue k l s).clk = s.clk := withDp_clk s _
@[simp] theorem putQueue_glb (k : Nat) (l : List Copy) (s : State) : (putQueue k l s).glb = s.glb := withDp_glb s _
@[simp] theorem putQueue_frg (k : Nat) (l : List Copy) (s : State) : (putQueue k l s).frg = s.frg := withDp_frg s _
@[simp] theorem putQueue_hif (k : Nat) (l : List Copy) (s : State) : (putQueue k l s).hif = s.hif := withDp_hif s _
@[simp] theorem putQueue_tal (k : Nat) (l : List Copy) (s : State) : (putQueue k l s).tal = s.tal := withDp_tal s _
@[simp] theorem putQueue_gbk (k : Nat) (l : List Copy) (s : State) : (putQueue k l s).gbk = s.gbk := withDp_gbk s _
@[simp] theorem putQueue_tim (k : Nat) (l : List Copy) (s : State) : (putQueue k l s).tim = s.tim := withDp_tim s _
@[simp] theorem putQueue_phs (k : Nat) (l : List Copy) (s : State) : (putQueue k l s).phs = s.phs := withDp_phs s _
@[simp] theorem putQueue_ldg (k : Nat) (l : List Copy) (s : State) : (putQueue k l s).ldg = s.ldg := withDp_ldg s _
@[simp] theorem putQueue_fab (k : Nat) (l : List Copy) (s : State) : (putQueue k l s).fab = s.fab := withDp_fab s _
@[simp] theorem putQueue_por (k : Nat) (l : List Copy) (s : State) : (putQueue k l s).por = s.por := withDp_por s _
@[simp] theorem putQueue_dry (k : Nat) (l : List Copy) (s : State) : (putQueue k l s).dry = s.dry := withDp_dry s _
@[simp] theorem putQueue_hlt (k : Nat) (l : List Copy) (s : State) : (putQueue k l s).hlt = s.hlt := withDp_hlt s _
@[simp] theorem putQueue_pin (k : Nat) (l : List Copy) (s : State) : (putQueue k l s).pin = s.pin := withDp_pin s _
@[simp] theorem putQueue_prt (k : Nat) (l : List Copy) (s : State) : (putQueue k l s).prt = s.prt := withDp_prt s _
@[simp] theorem putQueue_tab (k : Nat) (l : List Copy) (s : State) : (putQueue k l s).tab = s.tab := withDp_tab s _
@[simp] theorem putQueue_fry (k : Nat) (l : List Copy) (s : State) : (putQueue k l s).fry = s.fry := withDp_fry s _
@[simp] theorem putQueue_tmg (k : Nat) (l : List Copy) (s : State) : (putQueue k l s).tmg = s.tmg := withDp_tmg s _
@[simp] theorem putQueue_free (k : Nat) (l : List Copy) (s : State) : (putQueue k l s).free = s.free := withDp_free s _
@[simp] theorem putQueue_pending (k : Nat) (l : List Copy) (s : State) : (putQueue k l s).pending = s.pending := withDp_pending s _

/-! ### Host memory -/

@[simp] theorem memWrite_regs (a : Nat) (l : List Byte) (s : State) : (memWrite a l s).regs = s.regs := by
  induction l generalizing a s with
  | nil => rfl
  | cons b t ih => exact (ih _ _).trans (withMem_regs s _)
@[simp] theorem memWrite_fresh (a : Nat) (l : List Byte) (s : State) : (memWrite a l s).fresh = s.fresh := by
  induction l generalizing a s with
  | nil => rfl
  | cons b t ih => exact (ih _ _).trans (withMem_fresh s _)
@[simp] theorem memWrite_clk (a : Nat) (l : List Byte) (s : State) : (memWrite a l s).clk = s.clk := by
  induction l generalizing a s with
  | nil => rfl
  | cons b t ih => exact (ih _ _).trans (withMem_clk s _)
@[simp] theorem memWrite_glb (a : Nat) (l : List Byte) (s : State) : (memWrite a l s).glb = s.glb := by
  induction l generalizing a s with
  | nil => rfl
  | cons b t ih => exact (ih _ _).trans (withMem_glb s _)
@[simp] theorem memWrite_frg (a : Nat) (l : List Byte) (s : State) : (memWrite a l s).frg = s.frg := by
  induction l generalizing a s with
  | nil => rfl
  | cons b t ih => exact (ih _ _).trans (withMem_frg s _)
@[simp] theorem memWrite_hif (a : Nat) (l : List Byte) (s : State) : (memWrite a l s).hif = s.hif := by
  induction l generalizing a s with
  | nil => rfl
  | cons b t ih => exact (ih _ _).trans (withMem_hif s _)
@[simp] theorem memWrite_tal (a : Nat) (l : List Byte) (s : State) : (memWrite a l s).tal = s.tal := by
  induction l generalizing a s with
  | nil => rfl
  | cons b t ih => exact (ih _ _).trans (withMem_tal s _)
@[simp] theorem memWrite_gbk (a : Nat) (l : List Byte) (s : State) : (memWrite a l s).gbk = s.gbk := by
  induction l generalizing a s with
  | nil => rfl
  | cons b t ih => exact (ih _ _).trans (withMem_gbk s _)
@[simp] theorem memWrite_tim (a : Nat) (l : List Byte) (s : State) : (memWrite a l s).tim = s.tim := by
  induction l generalizing a s with
  | nil => rfl
  | cons b t ih => exact (ih _ _).trans (withMem_tim s _)
@[simp] theorem memWrite_phs (a : Nat) (l : List Byte) (s : State) : (memWrite a l s).phs = s.phs := by
  induction l generalizing a s with
  | nil => rfl
  | cons b t ih => exact (ih _ _).trans (withMem_phs s _)
@[simp] theorem memWrite_ldg (a : Nat) (l : List Byte) (s : State) : (memWrite a l s).ldg = s.ldg := by
  induction l generalizing a s with
  | nil => rfl
  | cons b t ih => exact (ih _ _).trans (withMem_ldg s _)
@[simp] theorem memWrite_fab (a : Nat) (l : List Byte) (s : State) : (memWrite a l s).fab = s.fab := by
  induction l generalizing a s with
  | nil => rfl
  | cons b t ih => exact (ih _ _).trans (withMem_fab s _)
@[simp] theorem memWrite_por (a : Nat) (l : List Byte) (s : State) : (memWrite a l s).por = s.por := by
  induction l generalizing a s with
  | nil => rfl
  | cons b t ih => exact (ih _ _).trans (withMem_por s _)
@[simp] theorem memWrite_dry (a : Nat) (l : List Byte) (s : State) : (memWrite a l s).dry = s.dry := by
  induction l generalizing a s with
  | nil => rfl
  | cons b t ih => exact (ih _ _).trans (withMem_dry s _)
@[simp] theorem memWrite_hlt (a : Nat) (l : List Byte) (s : State) : (memWrite a l s).hlt = s.hlt := by
  induction l generalizing a s with
  | nil => rfl
  | cons b t ih => exact (ih _ _).trans (withMem_hlt s _)
@[simp] theorem memWrite_pin (a : Nat) (l : List Byte) (s : State) : (memWrite a l s).pin = s.pin := by
  induction l generalizing a s with
  | nil => rfl
  | cons b t ih => exact (ih _ _).trans (withMem_pin s _)
@[simp] theorem memWrite_prt (a : Nat) (l : List Byte) (s : State) : (memWrite a l s).prt = s.prt := by
  induction l generalizing a s with
  | nil => rfl
  | cons b t ih => exact (ih _ _).trans (withMem_prt s _)
@[simp] theorem memWrite_dp (a : Nat) (l : List Byte) (s : State) : (memWrite a l s).dp = s.dp := by
  induction l generalizing a s with
  | nil => rfl
  | cons b t ih => exact (ih _ _).trans (withMem_dp s _)
@[simp] theorem memWrite_tab (a : Nat) (l : List Byte) (s : State) : (memWrite a l s).tab = s.tab := by
  induction l generalizing a s with
  | nil => rfl
  | cons b t ih => exact (ih _ _).trans (withMem_tab s _)
@[simp] theorem memWrite_fry (a : Nat) (l : List Byte) (s : State) : (memWrite a l s).fry = s.fry := by
  induction l generalizing a s with
  | nil => rfl
  | cons b t ih => exact (ih _ _).trans (withMem_fry s _)
@[simp] theorem memWrite_tmg (a : Nat) (l : List Byte) (s : State) : (memWrite a l s).tmg = s.tmg := by
  induction l generalizing a s with
  | nil => rfl
  | cons b t ih => exact (ih _ _).trans (withMem_tmg s _)
@[simp] theorem memWrite_free (a : Nat) (l : List Byte) (s : State) : (memWrite a l s).free = s.free := by
  induction l generalizing a s with
  | nil => rfl
  | cons b t ih => exact (ih _ _).trans (withMem_free s _)
@[simp] theorem memWrite_pending (a : Nat) (l : List Byte) (s : State) : (memWrite a l s).pending = s.pending := by
  induction l generalizing a s with
  | nil => rfl
  | cons b t ih => exact (ih _ _).trans (withMem_pending s _)

end Machine
end Sys2Proof
end

