-- ==== Sys2Proof/Laws/Ops.lean ====
section
/-! SUPPORT. Laws/Ops.lean: registers, fields, host memory and counters read back after an update; what raising an event and
reporting an access error can do. -/
namespace Sys2Proof
namespace Machine

/-! ### Registers -/

theorem rget_rput (a v b : Nat) (s : State) : rget (rput a v s) b = if a = b then v % 2 ^ 32 else rget s b := by
  unfold rget rput
  by_cases h : a = b
  · subst h; simp [sget_sput_same]
  · simp [sget_sput_ne _ _ h, h]

@[simp] theorem rget_rput_same (a v : Nat) (s : State) : rget (rput a v s) a = v % 2 ^ 32 := by simp [rget_rput]

theorem rget_rput_ne {a b : Nat} (v : Nat) (s : State) (h : a ≠ b) : rget (rput a v s) b = rget s b := by
  simp [rget_rput, h]

/-- A register holds 32 bits. -/
theorem rget_lt (s : State) (a : Nat) : rget s a < 2 ^ 32 := (sget regReset s.regs a).isLt

/-- The state's registers decide what a register holds. -/
theorem rget_congr {s t : State} (h : t.regs = s.regs) (a : Nat) : rget t a = rget s a := by unfold rget; rw [h]

theorem rget_fput_ne {f : Fld} {b : Nat} (v : Nat) (s : State) (h : f.addr ≠ b) : rget (fput f v s) b = rget s b :=
  rget_rput_ne _ s h

theorem rget_forBits_ne {a b : Nat} (m : Nat) (s : State) (h : a ≠ b) : rget (forBits a m s) b = rget s b :=
  rget_rput_ne _ _ h

theorem rget_setInt_ne {a b : Nat} (i : Nat) (s : State) (h : a ≠ b) : rget (setInt a i s) b = rget s b :=
  rget_forBits_ne _ s h

theorem rget_faddSat_ne {f : Fld} {b : Nat} (n : Nat) (s : State) (h : f.addr ≠ b) :
    rget (faddSat f n s) b = rget s b := rget_rput_ne _ _ h

theorem rget_fmax_ne {f : Fld} {b : Nat} (n : Nat) (s : State) (h : f.addr ≠ b) :
    rget (fmax f n s) b = rget s b := rget_rput_ne _ _ h

theorem rget_capture_ne {a b : Nat} (v : Nat) (s : State) (h : a ≠ b) : rget (capture a v s) b = rget s b :=
  rget_rput_ne _ _ h

theorem rget_faddWrap_ne {f : Fld} {b : Nat} (n : Nat) (s : State) (h : f.addr ≠ b) :
    rget (faddWrap f n s) b = rget s b := rget_rput_ne _ s h

theorem rget_writeRw_ne {a b : Nat} (v : Nat) (s : State) (h : a ≠ b) : rget (writeRw a v s) b = rget s b :=
  rget_rput_ne _ s h

theorem rget_rput64_ne {hi lo b : Nat} (v : Nat) (s : State) (h : hi ≠ b) (h' : lo ≠ b) :
    rget (rput64 hi lo v s) b = rget s b := by unfold rput64; rw [rget_rput_ne _ _ h', rget_rput_ne _ _ h]

@[simp] theorem rget_bumpN (g i n : Nat) (s : State) (r : Nat) : rget (bumpN g i n s) r = rget s r := rget_congr (by simp) r
@[simp] theorem rget_bump (g i : Nat) (s : State) (r : Nat) : rget (bump g i s) r = rget s r := rget_congr (by simp) r
@[simp] theorem rget_gbkCtr (i : Nat) (s : State) (r : Nat) : rget (gbkCtr i s) r = rget s r := rget_congr (by simp) r
@[simp] theorem rget_passClocks (n : Nat) (s : State) (r : Nat) : rget (passClocks n s) r = rget s r := rget_congr (by simp) r
@[simp] theorem rget_memWrite (a : Nat) (l : List Byte) (s : State) (r : Nat) : rget (memWrite a l s) r = rget s r := rget_congr (by simp) r
@[simp] theorem rget_putPort (p : Nat) (x : PortSt) (s : State) (r : Nat) : rget (putPort p x s) r = rget s r := rget_congr (by simp) r
@[simp] theorem rget_freeCells  (s : State) (r : Nat) : rget (freeCells  s) r = rget s r := rget_congr (by simp) r

/-- `t` differs from `s` in registers of the list `l` only, and in the record of the status bits set. -/
structure RegsOnly (l : List Nat) (s t : State) : Prop where
  rest : t = { s with regs := t.regs, fresh := t.fresh }
  reg : ∀ a, a ∉ l → rget t a = rget s a

theorem RegsOnly.refl (l : List Nat) (s : State) : RegsOnly l s s := ⟨rfl, fun _ _ => rfl⟩

theorem RegsOnly.trans {l : List Nat} {s t u : State} (h : RegsOnly l s t) (k : RegsOnly l t u) : RegsOnly l s u :=
  ⟨by rw [k.rest, h.rest], fun a ha => (k.reg a ha).trans (h.reg a ha)⟩

theorem RegsOnly.mono {l m : List Nat} {s t : State} (h : RegsOnly l s t) (k : ∀ a ∈ l, a ∈ m) : RegsOnly m s t :=
  ⟨h.rest, fun a ha => h.reg a (fun x => ha (k a x))⟩

theorem withRegs_only (s : State) (r : List (Nat × BitVec 32)) (f : List (Nat × Nat)) :
    ({ s with regs := r, fresh := f } : State) =
      { s with regs := ({ s with regs := r, fresh := f } : State).regs, fresh := ({ s with regs := r, fresh := f } : State).fresh } := rfl

theorem regsOnly_rput {l : List Nat} {a : Nat} (v : Nat) (s : State) (h : a ∈ l) : RegsOnly l s (rput a v s) :=
  ⟨withRegs_only s _ _, fun _ hb => rget_rput_ne v s (fun e => hb (e ▸ h))⟩

theorem regsOnly_fput {l : List Nat} {f : Fld} (v : Nat) (s : State) (h : f.addr ∈ l) : RegsOnly l s (fput f v s) :=
  regsOnly_rput _ s h

theorem regsOnly_forBits {l : List Nat} {a : Nat} (m : Nat) (s : State) (h : a ∈ l) : RegsOnly l s (forBits a m s) :=
  ⟨withRegs_only s _ _, fun _ hb => rget_forBits_ne m s (fun e => hb (e ▸ h))⟩

theorem regsOnly_setInt {l : List Nat} {a : Nat} (i : Nat) (s : State) (h : a ∈ l) : RegsOnly l s (setInt a i s) :=
  regsOnly_forBits _ s h

theorem regsOnly_faddSat {l : List Nat} {f : Fld} (n : Nat) (s : State) (h : f.addr ∈ l) : RegsOnly l s (faddSat f n s) :=
  ⟨withRegs_only s _ _, fun _ hb => rget_faddSat_ne n s (fun e => hb (e ▸ h))⟩

theorem regsOnly_faddWrap {l : List Nat} {f : Fld} (n : Nat) (s : State) (h : f.addr ∈ l) :
    RegsOnly l s (faddWrap f n s) := regsOnly_rput _ s h

theorem regsOnly_writeRw {l : List Nat} {a : Nat} (v : Nat) (s : State) (h : a ∈ l) : RegsOnly l s (writeRw a v s) :=
  regsOnly_rput _ s h
theorem RegsOnly.mem {l : List Nat} {s t : State} (h : RegsOnly l s t) : t.mem = s.mem := by rw [h.rest]
theorem RegsOnly.clk {l : List Nat} {s t : State} (h : RegsOnly l s t) : t.clk = s.clk := by rw [h.rest]
theorem RegsOnly.glb {l : List Nat} {s t : State} (h : RegsOnly l s t) : t.glb = s.glb := by rw [h.rest]
theorem RegsOnly.frg {l : List Nat} {s t : State} (h : RegsOnly l s t) : t.frg = s.frg := by rw [h.rest]
theorem RegsOnly.hif {l : List Nat} {s t : State} (h : RegsOnly l s t) : t.hif = s.hif := by rw [h.rest]
theorem RegsOnly.tal {l : List Nat} {s t : State} (h : RegsOnly l s t) : t.tal = s.tal := by rw [h.rest]
theorem RegsOnly.gbk {l : List Nat} {s t : State} (h : RegsOnly l s t) : t.gbk = s.gbk := by rw [h.rest]
theorem RegsOnly.tim {l : List Nat} {s t : State} (h : RegsOnly l s t) : t.tim = s.tim := by rw [h.rest]
theorem RegsOnly.phs {l : List Nat} {s t : State} (h : RegsOnly l s t) : t.phs = s.phs := by rw [h.rest]
theorem RegsOnly.ldg {l : List Nat} {s t : State} (h : RegsOnly l s t) : t.ldg = s.ldg := by rw [h.rest]
theorem RegsOnly.fab {l : List Nat} {s t : State} (h : RegsOnly l s t) : t.fab = s.fab := by rw [h.rest]
theorem RegsOnly.por {l : List Nat} {s t : State} (h : RegsOnly l s t) : t.por = s.por := by rw [h.rest]
theorem RegsOnly.dry {l : List Nat} {s t : State} (h : RegsOnly l s t) : t.dry = s.dry := by rw [h.rest]
theorem RegsOnly.hlt {l : List Nat} {s t : State} (h : RegsOnly l s t) : t.hlt = s.hlt := by rw [h.rest]
theorem RegsOnly.pin {l : List Nat} {s t : State} (h : RegsOnly l s t) : t.pin = s.pin := by rw [h.rest]
theorem RegsOnly.prt {l : List Nat} {s t : State} (h : RegsOnly l s t) : t.prt = s.prt := by rw [h.rest]
theorem RegsOnly.dp {l : List Nat} {s t : State} (h : RegsOnly l s t) : t.dp = s.dp := by rw [h.rest]
theorem RegsOnly.tab {l : List Nat} {s t : State} (h : RegsOnly l s t) : t.tab = s.tab := by rw [h.rest]
theorem RegsOnly.fry {l : List Nat} {s t : State} (h : RegsOnly l s t) : t.fry = s.fry := by rw [h.rest]
theorem RegsOnly.tmg {l : List Nat} {s t : State} (h : RegsOnly l s t) : t.tmg = s.tmg := by rw [h.rest]
theorem RegsOnly.free {l : List Nat} {s t : State} (h : RegsOnly l s t) : t.free = s.free := by rw [h.rest]
theorem RegsOnly.pending {l : List Nat} {s t : State} (h : RegsOnly l s t) : t.pending = s.pending := by rw [h.rest]

/-! ### Bit fields -/

theorem setBits_eq_update (n lo w v : Nat) (h : v < 2 ^ w) :
    setBits n lo w v = (n >>> (lo + w)) * 2 ^ (lo + w) + v * 2 ^ lo + n % 2 ^ lo := by
  simp [setBits, Nat.mod_eq_of_lt h]

/-- A field reads back what was set, modulo its width. -/
theorem bits_setBits_same (n lo w v : Nat) : bits (setBits n lo w v) lo w = v % 2 ^ w := by
  unfold bits setBits
  rw [Nat.shiftRight_eq_div_pow, pow_add]
  have hp : 0 < 2 ^ lo := Nat.two_pow_pos lo
  have h1 : (n >>> (lo + w)) * (2 ^ lo * 2 ^ w) + v % 2 ^ w * 2 ^ lo + n % 2 ^ lo
      = n % 2 ^ lo + 2 ^ lo * ((n >>> (lo + w)) * 2 ^ w + v % 2 ^ w) := by ring
  rw [h1, Nat.add_mul_div_left _ _ hp, Nat.div_eq_of_lt (Nat.mod_lt _ hp), Nat.zero_add, Nat.mul_add_mod_of_lt]
  · exact Nat.mod_lt _ (Nat.two_pow_pos w)

/-- A field within a register's 32 bits reads back what was set. -/
theorem bits_mod (n lo w : Nat) (h : lo + w ≤ 32) : bits (n % 2 ^ 32) lo w = bits n lo w := by
  unfold bits
  rw [Nat.shiftRight_eq_div_pow, Nat.shiftRight_eq_div_pow]
  have e : (2 : Nat) ^ 32 = 2 ^ lo * 2 ^ (32 - lo) := by rw [← pow_add]; congr 1; omega
  rw [e, Nat.mod_mul_right_div_self, Nat.mod_mod_of_dvd]
  exact pow_dvd_pow 2 (by omega)

theorem fget_fput_same (f : Fld) (v : Nat) (s : State) (h : f.lo + f.width ≤ 32) :
    fget (fput f v s) f = v % 2 ^ f.width := by
  unfold fget fput
  rw [rget_rput_same, bits_mod _ _ _ h, bits_setBits_same]

theorem fget_congr {s t : State} {f : Fld} (h : rget t f.addr = rget s f.addr) : fget t f = fget s f := by
  unfold fget; rw [h]

theorem fget_rput_ne {a : Nat} {f : Fld} (v : Nat) (s : State) (h : a ≠ f.addr) : fget (rput a v s) f = fget s f :=
  fget_congr (rget_rput_ne v s h)

theorem fget_fput_ne {f g : Fld} (v : Nat) (s : State) (h : f.addr ≠ g.addr) : fget (fput f v s) g = fget s g :=
  fget_congr (rget_rput_ne _ s h)

/-- A bit set in a register is 1. -/
theorem testBit_forBits (a i : Nat) (s : State) (h : i < 32) : (rget (setInt a i s) a).testBit i = true := by
  unfold setInt forBits
  rw [rget_rput_same, Nat.testBit_mod_two_pow]
  simp [h]

/-! ### Host memory (R14) -/

theorem memWf_memWrite (a : Nat) (l : List Byte) (s : State) (h : memWf s.mem = true) :
    memWf (memWrite a l s).mem = true := by
  induction l generalizing a s with
  | nil => exact h
  | cons b t ih =>
    rw [memWrite]
    exact ih _ _ (scanon_sput _ _ _ _ (Nat.zero_le _) h)

/-- A byte outside the bytes written reads as before. -/
theorem memByte_memWrite_ne (a x : Nat) (l : List Byte) (s : State)
    (h : ∀ i < l.length, (a + i) % 2 ^ 64 ≠ x % 2 ^ 64) : memByte (memWrite a l s) x = memByte s x := by
  induction l generalizing a s with
  | nil => rfl
  | cons b t ih =>
    rw [memWrite, ih]
    · exact sget_sput_ne _ _ (h 0 (by simp))
    · intro i hi
      have := h (i + 1) (by simpa using hi)
      rwa [show a + 1 + i = a + (i + 1) by omega]

/-- A byte written reads back. -/
theorem memByte_memWrite_at (a : Nat) (l : List Byte) (s : State) (hl : l.length ≤ 2 ^ 64) (i : Nat) (hi : i < l.length) :
    memByte (memWrite a l s) (a + i) = l[i] := by
  induction l generalizing a s i with
  | nil => simp at hi
  | cons b t ih =>
    rw [memWrite]
    cases i with
    | zero =>
      rw [memByte_memWrite_ne]
      · exact sget_sput_same _ _ _
      · intro j hj
        simp only [List.length_cons] at hl
        omega
    | succ j =>
      rw [show a + (j + 1) = a + 1 + j by omega, ih]
      · rfl
      · simp only [List.length_cons] at hl; omega

/-! ### Counters -/

theorem ctr_congr {s t : State} (h : t.tal.live = s.tal.live) (g i : Nat) : ctr t g i = ctr s g i := by
  unfold ctr; rw [h]

/-- A counter counts modulo 2⁶⁴ (R654). -/
theorem ctr_bumpN_same (g i n : Nat) (s : State) : ctr (bumpN g i n s) g i = (ctr s g i + n) % 2 ^ 64 :=
  sget_sput_same _ _ _

theorem ctr_bumpN_ne {g i g' i' : Nat} (n : Nat) (s : State) (h : groupBase g + i ≠ groupBase g' + i') :
    ctr (bumpN g i n s) g' i' = ctr s g' i' := sget_sput_ne _ _ h

/-! ### Raising an event (R682 to R685) -/

/-- Everything an event can change: the Guestbook, counters of the Tally, and GBK_INT_STAT. -/
structure EventOnly (s t : State) : Prop where
  rest : t = { s with regs := t.regs, fresh := t.fresh, tal := t.tal, gbk := t.gbk }
  reg : ∀ r, r ≠ A.GBK_INT_STAT → rget t r = rget s r
  talRest : t.tal = { s.tal with live := t.tal.live }
  ctr : ∀ g i, g < 28 → groupBase g + i < groupBase 28 → ctr t g i = ctr s g i

theorem EventOnly.refl (s : State) : EventOnly s s := ⟨rfl, fun _ _ => rfl, rfl, fun _ _ _ _ => rfl⟩

theorem EventOnly.trans {s t u : State} (h : EventOnly s t) (k : EventOnly t u) : EventOnly s u :=
  ⟨by rw [k.rest, h.rest], fun a ha => (k.reg a ha).trans (h.reg a ha), by rw [k.talRest, h.talRest],
    fun g i hg hi => (k.ctr g i hg hi).trans (h.ctr g i hg hi)⟩

theorem eventOnly_gbk (s : State) (g : Gbk) : EventOnly s { s with gbk := g } :=
  ⟨rfl, fun _ _ => rfl, rfl, fun _ _ _ _ => rfl⟩

theorem eventOnly_gbkCtr (i : Nat) (s : State) : EventOnly s (gbkCtr i s) :=
  ⟨rfl, fun _ _ => rfl, rfl, fun g j _ hj => ctr_bumpN_ne 1 s (by omega)⟩

theorem eventOnly_setInt (i : Nat) (s : State) : EventOnly s (setInt A.GBK_INT_STAT i s) :=
  ⟨rfl, fun _ ha => rget_setInt_ne i s (Ne.symm ha), rfl, fun _ _ _ _ => rfl⟩

theorem eventOnly_overflowed (code : Nat) (s : State) : EventOnly s (overflowed code s) := by
  unfold overflowed
  dsimp only
  split
  · exact ((eventOnly_gbkCtr 11 s).trans (eventOnly_gbkCtr 10 _)).trans (eventOnly_setInt 3 _)
  · exact eventOnly_gbkCtr 11 s

theorem eventOnly_enterQueue (c u x y : Nat) (s : State) : EventOnly s (enterQueue c u x y s) := by
  unfold enterQueue
  dsimp only
  split
  · exact eventOnly_gbk s _
  · exact (eventOnly_gbk s _).trans (eventOnly_overflowed _ _)

theorem eventOnly_suppress (c : Nat) (s : State) : EventOnly s (suppress c s) := by
  unfold suppress
  exact (eventOnly_gbk s _).trans (eventOnly_gbkCtr 4 _)

/-- What raising an event can do. -/
theorem eventOnly_raise (c u a b : Nat) (s : State) : EventOnly s (raise c u a b s) := by
  unfold raise
  dsimp only
  split
  · exact eventOnly_enterQueue c u a b s
  · split
    · exact (eventOnly_gbk s _).trans (eventOnly_enterQueue c u a b _)
    · exact (eventOnly_gbk s _).trans (eventOnly_suppress c _)

theorem EventOnly.mem {s t : State} (h : EventOnly s t) : t.mem = s.mem := by rw [h.rest]
theorem EventOnly.clk {s t : State} (h : EventOnly s t) : t.clk = s.clk := by rw [h.rest]
theorem EventOnly.glb {s t : State} (h : EventOnly s t) : t.glb = s.glb := by rw [h.rest]
theorem EventOnly.frg {s t : State} (h : EventOnly s t) : t.frg = s.frg := by rw [h.rest]
theorem EventOnly.hif {s t : State} (h : EventOnly s t) : t.hif = s.hif := by rw [h.rest]
theorem EventOnly.tim {s t : State} (h : EventOnly s t) : t.tim = s.tim := by rw [h.rest]
theorem EventOnly.phs {s t : State} (h : EventOnly s t) : t.phs = s.phs := by rw [h.rest]
theorem EventOnly.ldg {s t : State} (h : EventOnly s t) : t.ldg = s.ldg := by rw [h.rest]
theorem EventOnly.fab {s t : State} (h : EventOnly s t) : t.fab = s.fab := by rw [h.rest]
theorem EventOnly.por {s t : State} (h : EventOnly s t) : t.por = s.por := by rw [h.rest]
theorem EventOnly.dry {s t : State} (h : EventOnly s t) : t.dry = s.dry := by rw [h.rest]
theorem EventOnly.hlt {s t : State} (h : EventOnly s t) : t.hlt = s.hlt := by rw [h.rest]
theorem EventOnly.pin {s t : State} (h : EventOnly s t) : t.pin = s.pin := by rw [h.rest]
theorem EventOnly.prt {s t : State} (h : EventOnly s t) : t.prt = s.prt := by rw [h.rest]
theorem EventOnly.dp {s t : State} (h : EventOnly s t) : t.dp = s.dp := by rw [h.rest]
theorem EventOnly.tab {s t : State} (h : EventOnly s t) : t.tab = s.tab := by rw [h.rest]
theorem EventOnly.fry {s t : State} (h : EventOnly s t) : t.fry = s.fry := by rw [h.rest]
theorem EventOnly.tmg {s t : State} (h : EventOnly s t) : t.tmg = s.tmg := by rw [h.rest]
theorem EventOnly.free {s t : State} (h : EventOnly s t) : t.free = s.free := by rw [h.rest]
theorem EventOnly.pending {s t : State} (h : EventOnly s t) : t.pending = s.pending := by rw [h.rest]
@[simp] theorem raise_mem (c u a b : Nat) (s : State) : (raise c u a b s).mem = s.mem := (eventOnly_raise c u a b s).mem
@[simp] theorem raise_clk (c u a b : Nat) (s : State) : (raise c u a b s).clk = s.clk := (eventOnly_raise c u a b s).clk
@[simp] theorem raise_glb (c u a b : Nat) (s : State) : (raise c u a b s).glb = s.glb := (eventOnly_raise c u a b s).glb
@[simp] theorem raise_frg (c u a b : Nat) (s : State) : (raise c u a b s).frg = s.frg := (eventOnly_raise c u a b s).frg
@[simp] theorem raise_hif (c u a b : Nat) (s : State) : (raise c u a b s).hif = s.hif := (eventOnly_raise c u a b s).hif
@[simp] theorem raise_tim (c u a b : Nat) (s : State) : (raise c u a b s).tim = s.tim := (eventOnly_raise c u a b s).tim
@[simp] theorem raise_phs (c u a b : Nat) (s : State) : (raise c u a b s).phs = s.phs := (eventOnly_raise c u a b s).phs
@[simp] theorem raise_ldg (c u a b : Nat) (s : State) : (raise c u a b s).ldg = s.ldg := (eventOnly_raise c u a b s).ldg
@[simp] theorem raise_fab (c u a b : Nat) (s : State) : (raise c u a b s).fab = s.fab := (eventOnly_raise c u a b s).fab
@[simp] theorem raise_por (c u a b : Nat) (s : State) : (raise c u a b s).por = s.por := (eventOnly_raise c u a b s).por
@[simp] theorem raise_dry (c u a b : Nat) (s : State) : (raise c u a b s).dry = s.dry := (eventOnly_raise c u a b s).dry
@[simp] theorem raise_hlt (c u a b : Nat) (s : State) : (raise c u a b s).hlt = s.hlt := (eventOnly_raise c u a b s).hlt
@[simp] theorem raise_pin (c u a b : Nat) (s : State) : (raise c u a b s).pin = s.pin := (eventOnly_raise c u a b s).pin
@[simp] theorem raise_prt (c u a b : Nat) (s : State) : (raise c u a b s).prt = s.prt := (eventOnly_raise c u a b s).prt
@[simp] theorem raise_dp (c u a b : Nat) (s : State) : (raise c u a b s).dp = s.dp := (eventOnly_raise c u a b s).dp
@[simp] theorem raise_tab (c u a b : Nat) (s : State) : (raise c u a b s).tab = s.tab := (eventOnly_raise c u a b s).tab
@[simp] theorem raise_fry (c u a b : Nat) (s : State) : (raise c u a b s).fry = s.fry := (eventOnly_raise c u a b s).fry
@[simp] theorem raise_tmg (c u a b : Nat) (s : State) : (raise c u a b s).tmg = s.tmg := (eventOnly_raise c u a b s).tmg
@[simp] theorem raise_free (c u a b : Nat) (s : State) : (raise c u a b s).free = s.free := (eventOnly_raise c u a b s).free
@[simp] theorem raise_pending (c u a b : Nat) (s : State) : (raise c u a b s).pending = s.pending := (eventOnly_raise c u a b s).pending
theorem EventOnly.begun {s t : State} (h : EventOnly s t) : t.tal.begun = s.tal.begun := by rw [h.talRest]
@[simp] theorem raise_begun (c u a b : Nat) (s : State) : (raise c u a b s).tal.begun = s.tal.begun := (eventOnly_raise c u a b s).begun
theorem EventOnly.latched {s t : State} (h : EventOnly s t) : t.tal.latched = s.tal.latched := by rw [h.talRest]
@[simp] theorem raise_latched (c u a b : Nat) (s : State) : (raise c u a b s).tal.latched = s.tal.latched := (eventOnly_raise c u a b s).latched
theorem EventOnly.harvest {s t : State} (h : EventOnly s t) : t.tal.harvest = s.tal.harvest := by rw [h.talRest]
@[simp] theorem raise_harvest (c u a b : Nat) (s : State) : (raise c u a b s).tal.harvest = s.tal.harvest := (eventOnly_raise c u a b s).harvest
theorem EventOnly.snapClk {s t : State} (h : EventOnly s t) : t.tal.snapClk = s.tal.snapClk := by rw [h.talRest]
@[simp] theorem raise_snapClk (c u a b : Nat) (s : State) : (raise c u a b s).tal.snapClk = s.tal.snapClk := (eventOnly_raise c u a b s).snapClk
theorem EventOnly.relatch {s t : State} (h : EventOnly s t) : t.tal.relatch = s.tal.relatch := by rw [h.talRest]
@[simp] theorem raise_relatch (c u a b : Nat) (s : State) : (raise c u a b s).tal.relatch = s.tal.relatch := (eventOnly_raise c u a b s).relatch

theorem rget_raise {r : Nat} (c u a b : Nat) (s : State) (h : r ≠ A.GBK_INT_STAT) :
    rget (raise c u a b s) r = rget s r := (eventOnly_raise c u a b s).reg r h

theorem fget_raise {f : Fld} (c u a b : Nat) (s : State) (h : f.addr ≠ A.GBK_INT_STAT) :
    fget (raise c u a b s) f = fget s f := fget_congr (rget_raise c u a b s h)

/-! ### Access errors (R171 to R173) -/

/-- The registers an access error writes. -/
def accRegs : List Nat :=
  [A.HIF_ACC_ERR_STAT, A.HIF_ACC_ERR_ADDR, F.HIF_ACC_ERR_COUNT_COUNT.addr, A.HIF_INT_STAT, A.GBK_INT_STAT]

/-- An access error, as one expression. -/
theorem accErr_eq (b : Bool) (k off : Nat) (s : State) :
    accErr b k off s = raise 0x0201 noUnit k off (setInt A.HIF_INT_STAT 1 (faddSat F.HIF_ACC_ERR_COUNT_COUNT 1
      (setInt A.HIF_ACC_ERR_STAT k (if rget s A.HIF_ACC_ERR_STAT = 0 then
        rput A.HIF_ACC_ERR_ADDR (b2n b * 2 ^ 31 + k * 2 ^ 24 + off % 2 ^ 24) s else s)))) := rfl

theorem rget_accErr {r : Nat} (b : Bool) (k off : Nat) (s : State) (h : r ∉ accRegs) :
    rget (accErr b k off s) r = rget s r := by
  simp only [accRegs, List.mem_cons, List.not_mem_nil, or_false, not_or] at h
  obtain ⟨h1, h2, h3, h4, h5⟩ := h
  rw [accErr_eq, rget_raise _ _ _ _ _ h5, rget_setInt_ne _ _ (Ne.symm h4), rget_faddSat_ne _ _ (Ne.symm h3),
    rget_setInt_ne _ _ (Ne.symm h1)]
  split
  · exact rget_rput_ne _ _ (Ne.symm h2)
  · rfl

@[simp] theorem accErr_mem (b : Bool) (k off : Nat) (s : State) : (accErr b k off s).mem = s.mem := by
  rw [accErr_eq, raise_mem, setInt_mem, faddSat_mem, setInt_mem]; split; exacts [rput_mem _ _ _, rfl]
@[simp] theorem accErr_clk (b : Bool) (k off : Nat) (s : State) : (accErr b k off s).clk = s.clk := by
  rw [accErr_eq, raise_clk, setInt_clk, faddSat_clk, setInt_clk]; split; exacts [rput_clk _ _ _, rfl]
@[simp] theorem accErr_glb (b : Bool) (k off : Nat) (s : State) : (accErr b k off s).glb = s.glb := by
  rw [accErr_eq, raise_glb, setInt_glb, faddSat_glb, setInt_glb]; split; exacts [rput_glb _ _ _, rfl]
@[simp] theorem accErr_frg (b : Bool) (k off : Nat) (s : State) : (accErr b k off s).frg = s.frg := by
  rw [accErr_eq, raise_frg, setInt_frg, faddSat_frg, setInt_frg]; split; exacts [rput_frg _ _ _, rfl]
@[simp] theorem accErr_hif (b : Bool) (k off : Nat) (s : State) : (accErr b k off s).hif = s.hif := by
  rw [accErr_eq, raise_hif, setInt_hif, faddSat_hif, setInt_hif]; split; exacts [rput_hif _ _ _, rfl]
@[simp] theorem accErr_tim (b : Bool) (k off : Nat) (s : State) : (accErr b k off s).tim = s.tim := by
  rw [accErr_eq, raise_tim, setInt_tim, faddSat_tim, setInt_tim]; split; exacts [rput_tim _ _ _, rfl]
@[simp] theorem accErr_phs (b : Bool) (k off : Nat) (s : State) : (accErr b k off s).phs = s.phs := by
  rw [accErr_eq, raise_phs, setInt_phs, faddSat_phs, setInt_phs]; split; exacts [rput_phs _ _ _, rfl]
@[simp] theorem accErr_ldg (b : Bool) (k off : Nat) (s : State) : (accErr b k off s).ldg = s.ldg := by
  rw [accErr_eq, raise_ldg, setInt_ldg, faddSat_ldg, setInt_ldg]; split; exacts [rput_ldg _ _ _, rfl]
@[simp] theorem accErr_fab (b : Bool) (k off : Nat) (s : State) : (accErr b k off s).fab = s.fab := by
  rw [accErr_eq, raise_fab, setInt_fab, faddSat_fab, setInt_fab]; split; exacts [rput_fab _ _ _, rfl]
@[simp] theorem accErr_por (b : Bool) (k off : Nat) (s : State) : (accErr b k off s).por = s.por := by
  rw [accErr_eq, raise_por, setInt_por, faddSat_por, setInt_por]; split; exacts [rput_por _ _ _, rfl]
@[simp] theorem accErr_dry (b : Bool) (k off : Nat) (s : State) : (accErr b k off s).dry = s.dry := by
  rw [accErr_eq, raise_dry, setInt_dry, faddSat_dry, setInt_dry]; split; exacts [rput_dry _ _ _, rfl]
@[simp] theorem accErr_hlt (b : Bool) (k off : Nat) (s : State) : (accErr b k off s).hlt = s.hlt := by
  rw [accErr_eq, raise_hlt, setInt_hlt, faddSat_hlt, setInt_hlt]; split; exacts [rput_hlt _ _ _, rfl]
@[simp] theorem accErr_pin (b : Bool) (k off : Nat) (s : State) : (accErr b k off s).pin = s.pin := by
  rw [accErr_eq, raise_pin, setInt_pin, faddSat_pin, setInt_pin]; split; exacts [rput_pin _ _ _, rfl]
@[simp] theorem accErr_prt (b : Bool) (k off : Nat) (s : State) : (accErr b k off s).prt = s.prt := by
  rw [accErr_eq, raise_prt, setInt_prt, faddSat_prt, setInt_prt]; split; exacts [rput_prt _ _ _, rfl]
@[simp] theorem accErr_dp (b : Bool) (k off : Nat) (s : State) : (accErr b k off s).dp = s.dp := by
  rw [accErr_eq, raise_dp, setInt_dp, faddSat_dp, setInt_dp]; split; exacts [rput_dp _ _ _, rfl]
@[simp] theorem accErr_tab (b : Bool) (k off : Nat) (s : State) : (accErr b k off s).tab = s.tab := by
  rw [accErr_eq, raise_tab, setInt_tab, faddSat_tab, setInt_tab]; split; exacts [rput_tab _ _ _, rfl]
@[simp] theorem accErr_fry (b : Bool) (k off : Nat) (s : State) : (accErr b k off s).fry = s.fry := by
  rw [accErr_eq, raise_fry, setInt_fry, faddSat_fry, setInt_fry]; split; exacts [rput_fry _ _ _, rfl]
@[simp] theorem accErr_tmg (b : Bool) (k off : Nat) (s : State) : (accErr b k off s).tmg = s.tmg := by
  rw [accErr_eq, raise_tmg, setInt_tmg, faddSat_tmg, setInt_tmg]; split; exacts [rput_tmg _ _ _, rfl]
@[simp] theorem accErr_free (b : Bool) (k off : Nat) (s : State) : (accErr b k off s).free = s.free := by
  rw [accErr_eq, raise_free, setInt_free, faddSat_free, setInt_free]; split; exacts [rput_free _ _ _, rfl]
@[simp] theorem accErr_pending (b : Bool) (k off : Nat) (s : State) : (accErr b k off s).pending = s.pending := by
  rw [accErr_eq, raise_pending, setInt_pending, faddSat_pending, setInt_pending]; split; exacts [rput_pending _ _ _, rfl]
@[simp] theorem accErr_begun (b : Bool) (k off : Nat) (s : State) : (accErr b k off s).tal.begun = s.tal.begun := by
  rw [accErr_eq, raise_begun, setInt_tal, faddSat_tal, setInt_tal]; split; exacts [by rw [rput_tal], rfl]
@[simp] theorem accErr_latched (b : Bool) (k off : Nat) (s : State) : (accErr b k off s).tal.latched = s.tal.latched := by
  rw [accErr_eq, raise_latched, setInt_tal, faddSat_tal, setInt_tal]; split; exacts [by rw [rput_tal], rfl]
@[simp] theorem accErr_harvest (b : Bool) (k off : Nat) (s : State) : (accErr b k off s).tal.harvest = s.tal.harvest := by
  rw [accErr_eq, raise_harvest, setInt_tal, faddSat_tal, setInt_tal]; split; exacts [by rw [rput_tal], rfl]
@[simp] theorem accErr_snapClk (b : Bool) (k off : Nat) (s : State) : (accErr b k off s).tal.snapClk = s.tal.snapClk := by
  rw [accErr_eq, raise_snapClk, setInt_tal, faddSat_tal, setInt_tal]; split; exacts [by rw [rput_tal], rfl]
@[simp] theorem accErr_relatch (b : Bool) (k off : Nat) (s : State) : (accErr b k off s).tal.relatch = s.tal.relatch := by
  rw [accErr_eq, raise_relatch, setInt_tal, faddSat_tal, setInt_tal]; split; exacts [by rw [rput_tal], rfl]

end Machine
end Sys2Proof
end

