-- ==== Sys2Proof/Laws/Frame.lean ====
section
/-! SUPPORT. Laws/Frame.lean: what the end of every command (`settle`) can change, and what the frame of a command answers.
The state that `after f` leaves agrees with `f`'s in everything settling does not touch. -/
namespace Sys2Proof
namespace Machine

/-! ### Settling -/

theorem SettledFrom.refl (s : State) : SettledFrom s s :=
  ⟨rfl, fun _ _ => rfl, rfl, fun _ _ _ _ => rfl, rfl, rfl, rfl⟩

theorem SettledFrom.trans {s t u : State} (h : SettledFrom s t) (k : SettledFrom t u) : SettledFrom s u :=
  ⟨by rw [k.rest, h.rest], fun r hr => (k.reg r hr).trans (h.reg r hr), by rw [k.talRest, h.talRest],
    fun g i hg hi => (k.ctr g i hg hi).trans (h.ctr g i hg hi),
    by rw [k.glbRest, h.glbRest], by rw [k.hltRest, h.hltRest], by rw [k.hifRest, h.hifRest]⟩

theorem EventOnly.settledFrom {s t : State} (h : EventOnly s t) : SettledFrom s t :=
  ⟨h.rest.trans (by rw [h.glb, h.hlt, h.hif, h.pending]), fun r hr => h.reg r (fun e => hr (by simp [e, settleRegs])),
    h.talRest, fun g i hg hi => h.ctr g i (by omega) (lt_of_lt_of_le hi (by decide)),
    by rw [h.glb], by rw [h.hlt], by rw [h.hif]⟩

theorem settledFrom_regs {s t : State} (e : t = { s with regs := t.regs, fresh := t.fresh }) (r : ∀ a, a ∉ settleRegs → rget t a = rget s a) :
    SettledFrom s t := by
  refine ⟨?_, r, ?_, ?_, ?_, ?_, ?_⟩
  · rw [e]
  case refine_3 => intro g i _ _; exact ctr_congr (by rw [e]) g i
  all_goals rw [e]

theorem settledFrom_forBits {a : Nat} (m : Nat) (s : State) (h : a ∈ settleRegs) : SettledFrom s (forBits a m s) :=
  settledFrom_regs (by rfl) (fun r hr => rget_forBits_ne m s (fun e => hr (e ▸ h)))

theorem vectorOf_lt (s : State) (n : Nat) : vectorOf s n < 128 := by
  unfold vectorOf bits; exact Nat.mod_lt _ (by decide)

theorem settledFrom_hif (s : State) (p q : List Nat) : SettledFrom s { s with hif := { s.hif with pba := p, sent := q } } :=
  ⟨rfl, fun _ _ => rfl, rfl, fun _ _ _ _ => rfl, rfl, rfl, rfl⟩

theorem settledFrom_sendMsg (v : Nat) (s : State) : SettledFrom s (sendMsg v s) := by
  unfold sendMsg
  split
  · exact settledFrom_hif s _ s.hif.sent
  · exact settledFrom_hif s s.hif.pba _

theorem settledFrom_signal {v : Nat} (s : State) (h : v < 128) : SettledFrom s (signal s v) := by
  unfold signal
  split
  · exact SettledFrom.refl s
  · refine (settledFrom_forBits _ s ?_).trans (settledFrom_sendMsg v _)
    have : v / 32 = 0 ∨ v / 32 = 1 ∨ v / 32 = 2 ∨ v / 32 = 3 := by omega
    rcases this with e | e | e | e <;> simp [e, settleRegs]

theorem settledFrom_signals (l : List Nat) (s : State) (h : ∀ v ∈ l, v < 128) : SettledFrom s (l.foldl signal s) := by
  induction l generalizing s with
  | nil => exact SettledFrom.refl s
  | cons v t ih =>
    rw [List.foldl_cons]
    exact (settledFrom_signal s (h v (by simp))).trans (ih _ (fun w hw => h w (by simp [hw])))

theorem vectorsUp_lt (s : State) : ∀ v ∈ vectorsUp s, v < 128 := by
  intro v hv
  obtain ⟨n, -, rfl⟩ := List.mem_map.1 hv
  exact vectorOf_lt s n

theorem settledFrom_deliver (s : State) : SettledFrom s (deliver s) := by
  unfold deliver
  split
  · exact settledFrom_signals _ s (vectorsUp_lt s)
  · exact SettledFrom.refl s

theorem settledFrom_shown (s : State) (m : Nat) : SettledFrom s { s with glb := { s.glb with shown := m } } :=
  ⟨rfl, fun _ _ => rfl, rfl, fun _ _ _ _ => rfl, rfl, rfl, rfl⟩

theorem settledFrom_modeChange (s : State) : SettledFrom s (modeChange s) := by
  unfold modeChange
  dsimp only
  split
  · exact SettledFrom.refl s
  · exact ((settledFrom_shown s _).trans (settledFrom_forBits _ _ (by simp [settleRegs]))).trans
      (eventOnly_raise _ _ _ _ _).settledFrom

theorem settledFrom_alert (s : State) (b : Bool) : SettledFrom s { s with hlt := { s.hlt with alert := b } } :=
  ⟨rfl, fun _ _ => rfl, rfl, fun _ _ _ _ => rfl, rfl, rfl, rfl⟩

theorem settledFrom_bump (i : Nat) (s : State) : SettledFrom s (bump 27 i s) :=
  ⟨rfl, fun r _ => rget_bump 27 i s r, rfl,
    fun _ _ _ hi => ctr_bumpN_ne 1 s (by omega), rfl, rfl, rfl⟩

theorem settledFrom_alertPin (s : State) : SettledFrom s (alertPin s) := by
  unfold alertPin
  dsimp only
  split
  · exact SettledFrom.refl s
  · split
    · exact (settledFrom_alert s _).trans (settledFrom_bump 52 _)
    · exact settledFrom_alert s _

theorem settledFrom_driveOutputs (s : State) : SettledFrom s (driveOutputs s) :=
  ⟨rfl, fun _ _ => rfl, rfl, fun _ _ _ _ => rfl, rfl, rfl, rfl⟩

/-- What the end of a command can change. -/
theorem settledFrom_settle (s : State) : SettledFrom s (settle s) :=
  (((settledFrom_driveOutputs s).trans (settledFrom_modeChange _)).trans (settledFrom_alertPin _)).trans
    (settledFrom_deliver _)

theorem SettledFrom.begun {s t : State} (h : SettledFrom s t) : t.tal.begun = s.tal.begun := by rw [h.talRest]
theorem SettledFrom.latched {s t : State} (h : SettledFrom s t) : t.tal.latched = s.tal.latched := by rw [h.talRest]
theorem SettledFrom.harvest {s t : State} (h : SettledFrom s t) : t.tal.harvest = s.tal.harvest := by rw [h.talRest]
theorem SettledFrom.snapClk {s t : State} (h : SettledFrom s t) : t.tal.snapClk = s.tal.snapClk := by rw [h.talRest]
theorem SettledFrom.relatch {s t : State} (h : SettledFrom s t) : t.tal.relatch = s.tal.relatch := by rw [h.talRest]
theorem SettledFrom.mem {s t : State} (h : SettledFrom s t) : t.mem = s.mem := by rw [h.rest]
theorem SettledFrom.clk {s t : State} (h : SettledFrom s t) : t.clk = s.clk := by rw [h.rest]
theorem SettledFrom.frg {s t : State} (h : SettledFrom s t) : t.frg = s.frg := by rw [h.rest]
theorem SettledFrom.tim {s t : State} (h : SettledFrom s t) : t.tim = s.tim := by rw [h.rest]
theorem SettledFrom.phs {s t : State} (h : SettledFrom s t) : t.phs = s.phs := by rw [h.rest]
theorem SettledFrom.ldg {s t : State} (h : SettledFrom s t) : t.ldg = s.ldg := by rw [h.rest]
theorem SettledFrom.fab {s t : State} (h : SettledFrom s t) : t.fab = s.fab := by rw [h.rest]
theorem SettledFrom.por {s t : State} (h : SettledFrom s t) : t.por = s.por := by rw [h.rest]
theorem SettledFrom.dry {s t : State} (h : SettledFrom s t) : t.dry = s.dry := by rw [h.rest]
theorem SettledFrom.pin {s t : State} (h : SettledFrom s t) : t.pin = s.pin := by rw [h.rest]
theorem SettledFrom.prt {s t : State} (h : SettledFrom s t) : t.prt = s.prt := by rw [h.rest]
theorem SettledFrom.dp {s t : State} (h : SettledFrom s t) : t.dp = s.dp := by rw [h.rest]
theorem SettledFrom.tab {s t : State} (h : SettledFrom s t) : t.tab = s.tab := by rw [h.rest]
theorem SettledFrom.fry {s t : State} (h : SettledFrom s t) : t.fry = s.fry := by rw [h.rest]
theorem SettledFrom.tmg {s t : State} (h : SettledFrom s t) : t.tmg = s.tmg := by rw [h.rest]
theorem SettledFrom.free {s t : State} (h : SettledFrom s t) : t.free = s.free := by rw [h.rest]
theorem SettledFrom.glb_base {s t : State} (h : SettledFrom s t) : t.glb.base = s.glb.base := by rw [h.glbRest]
theorem SettledFrom.glb_wakeClk {s t : State} (h : SettledFrom s t) : t.glb.wakeClk = s.glb.wakeClk := by rw [h.glbRest]
theorem SettledFrom.glb_woken {s t : State} (h : SettledFrom s t) : t.glb.woken = s.glb.woken := by rw [h.glbRest]
theorem SettledFrom.glb_drainClk {s t : State} (h : SettledFrom s t) : t.glb.drainClk = s.glb.drainClk := by rw [h.glbRest]
theorem SettledFrom.glb_diagFromQuiesced {s t : State} (h : SettledFrom s t) : t.glb.diagFromQuiesced = s.glb.diagFromQuiesced := by rw [h.glbRest]
theorem SettledFrom.glb_warmBusy {s t : State} (h : SettledFrom s t) : t.glb.warmBusy = s.glb.warmBusy := by rw [h.glbRest]
theorem SettledFrom.glb_warmToWaking {s t : State} (h : SettledFrom s t) : t.glb.warmToWaking = s.glb.warmToWaking := by rw [h.glbRest]
theorem SettledFrom.glb_hearthRst {s t : State} (h : SettledFrom s t) : t.glb.hearthRst = s.glb.hearthRst := by rw [h.glbRest]
theorem SettledFrom.glb_started {s t : State} (h : SettledFrom s t) : t.glb.started = s.glb.started := by rw [h.glbRest]
theorem SettledFrom.glb_bootDue {s t : State} (h : SettledFrom s t) : t.glb.bootDue = s.glb.bootDue := by rw [h.glbRest]
theorem SettledFrom.glb_heldPin {s t : State} (h : SettledFrom s t) : t.glb.heldPin = s.glb.heldPin := by rw [h.glbRest]
theorem SettledFrom.glb_heldSupply {s t : State} (h : SettledFrom s t) : t.glb.heldSupply = s.glb.heldSupply := by rw [h.glbRest]
theorem SettledFrom.glb_heldClock {s t : State} (h : SettledFrom s t) : t.glb.heldClock = s.glb.heldClock := by rw [h.glbRest]
theorem SettledFrom.glb_coreLost {s t : State} (h : SettledFrom s t) : t.glb.coreLost = s.glb.coreLost := by rw [h.glbRest]
theorem SettledFrom.glb_quadrants {s t : State} (h : SettledFrom s t) : t.glb.quadrants = s.glb.quadrants := by rw [h.glbRest]
theorem SettledFrom.glb_quadClk {s t : State} (h : SettledFrom s t) : t.glb.quadClk = s.glb.quadClk := by rw [h.glbRest]
theorem SettledFrom.glb_admitLevel {s t : State} (h : SettledFrom s t) : t.glb.admitLevel = s.glb.admitLevel := by rw [h.glbRest]
theorem SettledFrom.glb_admitSeen {s t : State} (h : SettledFrom s t) : t.glb.admitSeen = s.glb.admitSeen := by rw [h.glbRest]
theorem SettledFrom.glb_was {s t : State} (h : SettledFrom s t) : t.glb.was = s.glb.was := by rw [h.glbRest]
theorem SettledFrom.hif_busMaster {s t : State} (h : SettledFrom s t) : t.hif.busMaster = s.hif.busMaster := by rw [h.hifRest]
theorem SettledFrom.hif_d3hot {s t : State} (h : SettledFrom s t) : t.hif.d3hot = s.hif.d3hot := by rw [h.hifRest]
theorem SettledFrom.hif_mps {s t : State} (h : SettledFrom s t) : t.hif.mps = s.hif.mps := by rw [h.hifRest]
theorem SettledFrom.hif_mrrs {s t : State} (h : SettledFrom s t) : t.hif.mrrs = s.hif.mrrs := by rw [h.hifRest]
theorem SettledFrom.hif_unmasked {s t : State} (h : SettledFrom s t) : t.hif.unmasked = s.hif.unmasked := by rw [h.hifRest]
theorem SettledFrom.hif_msix {s t : State} (h : SettledFrom s t) : t.hif.msix = s.hif.msix := by rw [h.hifRest]
theorem SettledFrom.hif_bars {s t : State} (h : SettledFrom s t) : t.hif.bars = s.hif.bars := by rw [h.hifRest]
theorem SettledFrom.hif_cmdBits {s t : State} (h : SettledFrom s t) : t.hif.cmdBits = s.hif.cmdBits := by rw [h.hifRest]
theorem SettledFrom.hif_devBits {s t : State} (h : SettledFrom s t) : t.hif.devBits = s.hif.devBits := by rw [h.hifRest]
theorem SettledFrom.hif_dev2Bits {s t : State} (h : SettledFrom s t) : t.hif.dev2Bits = s.hif.dev2Bits := by rw [h.hifRest]
theorem SettledFrom.hif_linkBits {s t : State} (h : SettledFrom s t) : t.hif.linkBits = s.hif.linkBits := by rw [h.hifRest]
theorem SettledFrom.hif_devError {s t : State} (h : SettledFrom s t) : t.hif.devError = s.hif.devError := by rw [h.hifRest]
theorem SettledFrom.hif_aerStatus {s t : State} (h : SettledFrom s t) : t.hif.aerStatus = s.hif.aerStatus := by rw [h.hifRest]
theorem SettledFrom.hif_aerMask {s t : State} (h : SettledFrom s t) : t.hif.aerMask = s.hif.aerMask := by rw [h.hifRest]
theorem SettledFrom.hif_aerSeverity {s t : State} (h : SettledFrom s t) : t.hif.aerSeverity = s.hif.aerSeverity := by rw [h.hifRest]
theorem SettledFrom.hif_errSent {s t : State} (h : SettledFrom s t) : t.hif.errSent = s.hif.errSent := by rw [h.hifRest]
theorem SettledFrom.hif_dlActive {s t : State} (h : SettledFrom s t) : t.hif.dlActive = s.hif.dlActive := by rw [h.hifRest]
theorem SettledFrom.hif_beatClk {s t : State} (h : SettledFrom s t) : t.hif.beatClk = s.hif.beatClk := by rw [h.hifRest]
theorem SettledFrom.hif_ostlerSilent {s t : State} (h : SettledFrom s t) : t.hif.ostlerSilent = s.hif.ostlerSilent := by rw [h.hifRest]
theorem SettledFrom.hif_restarting {s t : State} (h : SettledFrom s t) : t.hif.restarting = s.hif.restarting := by rw [h.hifRest]
theorem SettledFrom.hif_mbxCmd {s t : State} (h : SettledFrom s t) : t.hif.mbxCmd = s.hif.mbxCmd := by rw [h.hifRest]
theorem SettledFrom.hif_mbxOld {s t : State} (h : SettledFrom s t) : t.hif.mbxOld = s.hif.mbxOld := by rw [h.hifRest]
theorem SettledFrom.hif_keyHash0 {s t : State} (h : SettledFrom s t) : t.hif.keyHash0 = s.hif.keyHash0 := by rw [h.hifRest]
theorem SettledFrom.hif_keyHash1 {s t : State} (h : SettledFrom s t) : t.hif.keyHash1 = s.hif.keyHash1 := by rw [h.hifRest]
theorem SettledFrom.hif_revoked0 {s t : State} (h : SettledFrom s t) : t.hif.revoked0 = s.hif.revoked0 := by rw [h.hifRest]
theorem SettledFrom.hif_revoked1 {s t : State} (h : SettledFrom s t) : t.hif.revoked1 = s.hif.revoked1 := by rw [h.hifRest]
theorem SettledFrom.hif_secver {s t : State} (h : SettledFrom s t) : t.hif.secver = s.hif.secver := by rw [h.hifRest]
theorem SettledFrom.hif_imageKey {s t : State} (h : SettledFrom s t) : t.hif.imageKey = s.hif.imageKey := by rw [h.hifRest]
theorem SettledFrom.hif_grade {s t : State} (h : SettledFrom s t) : t.hif.grade = s.hif.grade := by rw [h.hifRest]
theorem SettledFrom.hif_avsCount {s t : State} (h : SettledFrom s t) : t.hif.avsCount = s.hif.avsCount := by rw [h.hifRest]
theorem SettledFrom.hif_readData {s t : State} (h : SettledFrom s t) : t.hif.readData = s.hif.readData := by rw [h.hifRest]
theorem SettledFrom.hlt_outvotes {s t : State} (h : SettledFrom s t) : t.hlt.outvotes = s.hlt.outvotes := by rw [h.hltRest]
theorem SettledFrom.hlt_drops {s t : State} (h : SettledFrom s t) : t.hlt.drops = s.hlt.drops := by rw [h.hltRest]
theorem SettledFrom.hlt_unreliable {s t : State} (h : SettledFrom s t) : t.hlt.unreliable = s.hlt.unreliable := by rw [h.hltRest]
theorem SettledFrom.hlt_poison {s t : State} (h : SettledFrom s t) : t.hlt.poison = s.hlt.poison := by rw [h.hltRest]
theorem SettledFrom.hlt_corrected {s t : State} (h : SettledFrom s t) : t.hlt.corrected = s.hlt.corrected := by rw [h.hltRest]
theorem SettledFrom.hlt_sparing {s t : State} (h : SettledFrom s t) : t.hlt.sparing = s.hlt.sparing := by rw [h.hltRest]
theorem SettledFrom.hlt_withdrawing {s t : State} (h : SettledFrom s t) : t.hlt.withdrawing = s.hlt.withdrawing := by rw [h.hltRest]
theorem SettledFrom.hlt_tempState {s t : State} (h : SettledFrom s t) : t.hlt.tempState = s.hlt.tempState := by rw [h.hltRest]
theorem SettledFrom.hlt_voltState {s t : State} (h : SettledFrom s t) : t.hlt.voltState = s.hlt.voltState := by rw [h.hltRest]
theorem SettledFrom.hlt_temps {s t : State} (h : SettledFrom s t) : t.hlt.temps = s.hlt.temps := by rw [h.hltRest]
theorem SettledFrom.hlt_volts {s t : State} (h : SettledFrom s t) : t.hlt.volts = s.hlt.volts := by rw [h.hltRest]
theorem SettledFrom.hlt_procBad {s t : State} (h : SettledFrom s t) : t.hlt.procBad = s.hlt.procBad := by rw [h.hltRest]
theorem SettledFrom.hlt_avsClk {s t : State} (h : SettledFrom s t) : t.hlt.avsClk = s.hlt.avsClk := by rw [h.hltRest]
theorem SettledFrom.hlt_bistTarget {s t : State} (h : SettledFrom s t) : t.hlt.bistTarget = s.hlt.bistTarget := by rw [h.hltRest]

/-! ### The state a command leaves -/

theorem settledFrom_pending (s : State) (p : List Instr) : SettledFrom s { s with pending := p } :=
  ⟨rfl, fun _ _ => rfl, rfl, fun _ _ _ _ => rfl, rfl, rfl, rfl⟩

/-- The state a command leaves is its effect's, settled. -/
theorem settledFrom_after (f : State → State) (s : State) : SettledFrom (f s) (after f s) :=
  (settledFrom_settle (f s)).trans (settledFrom_pending _ _)

theorem after_congr {f g : State → State} {s : State} (h : f s = g s) : after f s = after g s := by
  unfold after; rw [h]

/-- No command changes the queue. -/
theorem withPending_pending (s : State) (p : List Instr) : ({ s with pending := p } : State).pending = p := rfl
@[simp] theorem after_pending (f : State → State) (s : State) : (after f s).pending = s.pending := withPending_pending _ _

@[simp] theorem after_mem (f : State → State) (s : State) : (after f s).mem = (f s).mem := (settledFrom_after f s).mem
@[simp] theorem after_clk (f : State → State) (s : State) : (after f s).clk = (f s).clk := (settledFrom_after f s).clk
@[simp] theorem after_frg (f : State → State) (s : State) : (after f s).frg = (f s).frg := (settledFrom_after f s).frg
@[simp] theorem after_tim (f : State → State) (s : State) : (after f s).tim = (f s).tim := (settledFrom_after f s).tim
@[simp] theorem after_phs (f : State → State) (s : State) : (after f s).phs = (f s).phs := (settledFrom_after f s).phs
@[simp] theorem after_ldg (f : State → State) (s : State) : (after f s).ldg = (f s).ldg := (settledFrom_after f s).ldg
@[simp] theorem after_fab (f : State → State) (s : State) : (after f s).fab = (f s).fab := (settledFrom_after f s).fab
@[simp] theorem after_por (f : State → State) (s : State) : (after f s).por = (f s).por := (settledFrom_after f s).por
@[simp] theorem after_dry (f : State → State) (s : State) : (after f s).dry = (f s).dry := (settledFrom_after f s).dry
@[simp] theorem after_pin (f : State → State) (s : State) : (after f s).pin = (f s).pin := (settledFrom_after f s).pin
@[simp] theorem after_prt (f : State → State) (s : State) : (after f s).prt = (f s).prt := (settledFrom_after f s).prt
@[simp] theorem after_dp (f : State → State) (s : State) : (after f s).dp = (f s).dp := (settledFrom_after f s).dp
@[simp] theorem after_tab (f : State → State) (s : State) : (after f s).tab = (f s).tab := (settledFrom_after f s).tab
@[simp] theorem after_fry (f : State → State) (s : State) : (after f s).fry = (f s).fry := (settledFrom_after f s).fry
@[simp] theorem after_tmg (f : State → State) (s : State) : (after f s).tmg = (f s).tmg := (settledFrom_after f s).tmg
@[simp] theorem after_free (f : State → State) (s : State) : (after f s).free = (f s).free := (settledFrom_after f s).free
@[simp] theorem after_glb_base (f : State → State) (s : State) : (after f s).glb.base = (f s).glb.base :=
  (settledFrom_after f s).glb_base
@[simp] theorem after_glb_wakeClk (f : State → State) (s : State) : (after f s).glb.wakeClk = (f s).glb.wakeClk :=
  (settledFrom_after f s).glb_wakeClk
@[simp] theorem after_glb_woken (f : State → State) (s : State) : (after f s).glb.woken = (f s).glb.woken :=
  (settledFrom_after f s).glb_woken
@[simp] theorem after_glb_drainClk (f : State → State) (s : State) : (after f s).glb.drainClk = (f s).glb.drainClk :=
  (settledFrom_after f s).glb_drainClk
@[simp] theorem after_glb_diagFromQuiesced (f : State → State) (s : State) : (after f s).glb.diagFromQuiesced = (f s).glb.diagFromQuiesced :=
  (settledFrom_after f s).glb_diagFromQuiesced
@[simp] theorem after_glb_warmBusy (f : State → State) (s : State) : (after f s).glb.warmBusy = (f s).glb.warmBusy :=
  (settledFrom_after f s).glb_warmBusy
@[simp] theorem after_glb_warmToWaking (f : State → State) (s : State) : (after f s).glb.warmToWaking = (f s).glb.warmToWaking :=
  (settledFrom_after f s).glb_warmToWaking
@[simp] theorem after_glb_hearthRst (f : State → State) (s : State) : (after f s).glb.hearthRst = (f s).glb.hearthRst :=
  (settledFrom_after f s).glb_hearthRst
@[simp] theorem after_glb_started (f : State → State) (s : State) : (after f s).glb.started = (f s).glb.started :=
  (settledFrom_after f s).glb_started
@[simp] theorem after_glb_bootDue (f : State → State) (s : State) : (after f s).glb.bootDue = (f s).glb.bootDue :=
  (settledFrom_after f s).glb_bootDue
@[simp] theorem after_glb_heldPin (f : State → State) (s : State) : (after f s).glb.heldPin = (f s).glb.heldPin :=
  (settledFrom_after f s).glb_heldPin
@[simp] theorem after_glb_heldSupply (f : State → State) (s : State) : (after f s).glb.heldSupply = (f s).glb.heldSupply :=
  (settledFrom_after f s).glb_heldSupply
@[simp] theorem after_glb_heldClock (f : State → State) (s : State) : (after f s).glb.heldClock = (f s).glb.heldClock :=
  (settledFrom_after f s).glb_heldClock
@[simp] theorem after_glb_coreLost (f : State → State) (s : State) : (after f s).glb.coreLost = (f s).glb.coreLost :=
  (settledFrom_after f s).glb_coreLost
@[simp] theorem after_glb_quadrants (f : State → State) (s : State) : (after f s).glb.quadrants = (f s).glb.quadrants :=
  (settledFrom_after f s).glb_quadrants
@[simp] theorem after_glb_quadClk (f : State → State) (s : State) : (after f s).glb.quadClk = (f s).glb.quadClk :=
  (settledFrom_after f s).glb_quadClk
@[simp] theorem after_glb_admitLevel (f : State → State) (s : State) : (after f s).glb.admitLevel = (f s).glb.admitLevel :=
  (settledFrom_after f s).glb_admitLevel
@[simp] theorem after_glb_admitSeen (f : State → State) (s : State) : (after f s).glb.admitSeen = (f s).glb.admitSeen :=
  (settledFrom_after f s).glb_admitSeen
@[simp] theorem after_glb_was (f : State → State) (s : State) : (after f s).glb.was = (f s).glb.was :=
  (settledFrom_after f s).glb_was
@[simp] theorem after_hif_busMaster (f : State → State) (s : State) : (after f s).hif.busMaster = (f s).hif.busMaster :=
  (settledFrom_after f s).hif_busMaster
@[simp] theorem after_hif_d3hot (f : State → State) (s : State) : (after f s).hif.d3hot = (f s).hif.d3hot :=
  (settledFrom_after f s).hif_d3hot
@[simp] theorem after_hif_mps (f : State → State) (s : State) : (after f s).hif.mps = (f s).hif.mps :=
  (settledFrom_after f s).hif_mps
@[simp] theorem after_hif_mrrs (f : State → State) (s : State) : (after f s).hif.mrrs = (f s).hif.mrrs :=
  (settledFrom_after f s).hif_mrrs
@[simp] theorem after_hif_unmasked (f : State → State) (s : State) : (after f s).hif.unmasked = (f s).hif.unmasked :=
  (settledFrom_after f s).hif_unmasked
@[simp] theorem after_hif_msix (f : State → State) (s : State) : (after f s).hif.msix = (f s).hif.msix :=
  (settledFrom_after f s).hif_msix
@[simp] theorem after_hif_bars (f : State → State) (s : State) : (after f s).hif.bars = (f s).hif.bars :=
  (settledFrom_after f s).hif_bars
@[simp] theorem after_hif_cmdBits (f : State → State) (s : State) : (after f s).hif.cmdBits = (f s).hif.cmdBits :=
  (settledFrom_after f s).hif_cmdBits
@[simp] theorem after_hif_devBits (f : State → State) (s : State) : (after f s).hif.devBits = (f s).hif.devBits :=
  (settledFrom_after f s).hif_devBits
@[simp] theorem after_hif_dev2Bits (f : State → State) (s : State) : (after f s).hif.dev2Bits = (f s).hif.dev2Bits :=
  (settledFrom_after f s).hif_dev2Bits
@[simp] theorem after_hif_linkBits (f : State → State) (s : State) : (after f s).hif.linkBits = (f s).hif.linkBits :=
  (settledFrom_after f s).hif_linkBits
@[simp] theorem after_hif_devError (f : State → State) (s : State) : (after f s).hif.devError = (f s).hif.devError :=
  (settledFrom_after f s).hif_devError
@[simp] theorem after_hif_aerStatus (f : State → State) (s : State) : (after f s).hif.aerStatus = (f s).hif.aerStatus :=
  (settledFrom_after f s).hif_aerStatus
@[simp] theorem after_hif_aerMask (f : State → State) (s : State) : (after f s).hif.aerMask = (f s).hif.aerMask :=
  (settledFrom_after f s).hif_aerMask
@[simp] theorem after_hif_aerSeverity (f : State → State) (s : State) : (after f s).hif.aerSeverity = (f s).hif.aerSeverity :=
  (settledFrom_after f s).hif_aerSeverity
@[simp] theorem after_hif_errSent (f : State → State) (s : State) : (after f s).hif.errSent = (f s).hif.errSent :=
  (settledFrom_after f s).hif_errSent
@[simp] theorem after_hif_dlActive (f : State → State) (s : State) : (after f s).hif.dlActive = (f s).hif.dlActive :=
  (settledFrom_after f s).hif_dlActive
@[simp] theorem after_hif_beatClk (f : State → State) (s : State) : (after f s).hif.beatClk = (f s).hif.beatClk :=
  (settledFrom_after f s).hif_beatClk
@[simp] theorem after_hif_ostlerSilent (f : State → State) (s : State) : (after f s).hif.ostlerSilent = (f s).hif.ostlerSilent :=
  (settledFrom_after f s).hif_ostlerSilent
@[simp] theorem after_hif_restarting (f : State → State) (s : State) : (after f s).hif.restarting = (f s).hif.restarting :=
  (settledFrom_after f s).hif_restarting
@[simp] theorem after_hif_mbxCmd (f : State → State) (s : State) : (after f s).hif.mbxCmd = (f s).hif.mbxCmd :=
  (settledFrom_after f s).hif_mbxCmd
@[simp] theorem after_hif_mbxOld (f : State → State) (s : State) : (after f s).hif.mbxOld = (f s).hif.mbxOld :=
  (settledFrom_after f s).hif_mbxOld
@[simp] theorem after_hif_keyHash0 (f : State → State) (s : State) : (after f s).hif.keyHash0 = (f s).hif.keyHash0 :=
  (settledFrom_after f s).hif_keyHash0
@[simp] theorem after_hif_keyHash1 (f : State → State) (s : State) : (after f s).hif.keyHash1 = (f s).hif.keyHash1 :=
  (settledFrom_after f s).hif_keyHash1
@[simp] theorem after_hif_revoked0 (f : State → State) (s : State) : (after f s).hif.revoked0 = (f s).hif.revoked0 :=
  (settledFrom_after f s).hif_revoked0
@[simp] theorem after_hif_revoked1 (f : State → State) (s : State) : (after f s).hif.revoked1 = (f s).hif.revoked1 :=
  (settledFrom_after f s).hif_revoked1
@[simp] theorem after_hif_secver (f : State → State) (s : State) : (after f s).hif.secver = (f s).hif.secver :=
  (settledFrom_after f s).hif_secver
@[simp] theorem after_hif_imageKey (f : State → State) (s : State) : (after f s).hif.imageKey = (f s).hif.imageKey :=
  (settledFrom_after f s).hif_imageKey
@[simp] theorem after_hif_grade (f : State → State) (s : State) : (after f s).hif.grade = (f s).hif.grade :=
  (settledFrom_after f s).hif_grade
@[simp] theorem after_hif_avsCount (f : State → State) (s : State) : (after f s).hif.avsCount = (f s).hif.avsCount :=
  (settledFrom_after f s).hif_avsCount
@[simp] theorem after_hif_readData (f : State → State) (s : State) : (after f s).hif.readData = (f s).hif.readData :=
  (settledFrom_after f s).hif_readData
@[simp] theorem after_hlt_outvotes (f : State → State) (s : State) : (after f s).hlt.outvotes = (f s).hlt.outvotes :=
  (settledFrom_after f s).hlt_outvotes
@[simp] theorem after_hlt_drops (f : State → State) (s : State) : (after f s).hlt.drops = (f s).hlt.drops :=
  (settledFrom_after f s).hlt_drops
@[simp] theorem after_hlt_unreliable (f : State → State) (s : State) : (after f s).hlt.unreliable = (f s).hlt.unreliable :=
  (settledFrom_after f s).hlt_unreliable
@[simp] theorem after_hlt_poison (f : State → State) (s : State) : (after f s).hlt.poison = (f s).hlt.poison :=
  (settledFrom_after f s).hlt_poison
@[simp] theorem after_hlt_corrected (f : State → State) (s : State) : (after f s).hlt.corrected = (f s).hlt.corrected :=
  (settledFrom_after f s).hlt_corrected
@[simp] theorem after_hlt_sparing (f : State → State) (s : State) : (after f s).hlt.sparing = (f s).hlt.sparing :=
  (settledFrom_after f s).hlt_sparing
@[simp] theorem after_hlt_withdrawing (f : State → State) (s : State) : (after f s).hlt.withdrawing = (f s).hlt.withdrawing :=
  (settledFrom_after f s).hlt_withdrawing
@[simp] theorem after_hlt_tempState (f : State → State) (s : State) : (after f s).hlt.tempState = (f s).hlt.tempState :=
  (settledFrom_after f s).hlt_tempState
@[simp] theorem after_hlt_voltState (f : State → State) (s : State) : (after f s).hlt.voltState = (f s).hlt.voltState :=
  (settledFrom_after f s).hlt_voltState
@[simp] theorem after_hlt_temps (f : State → State) (s : State) : (after f s).hlt.temps = (f s).hlt.temps :=
  (settledFrom_after f s).hlt_temps
@[simp] theorem after_hlt_volts (f : State → State) (s : State) : (after f s).hlt.volts = (f s).hlt.volts :=
  (settledFrom_after f s).hlt_volts
@[simp] theorem after_hlt_procBad (f : State → State) (s : State) : (after f s).hlt.procBad = (f s).hlt.procBad :=
  (settledFrom_after f s).hlt_procBad
@[simp] theorem after_hlt_avsClk (f : State → State) (s : State) : (after f s).hlt.avsClk = (f s).hlt.avsClk :=
  (settledFrom_after f s).hlt_avsClk
@[simp] theorem after_hlt_bistTarget (f : State → State) (s : State) : (after f s).hlt.bistTarget = (f s).hlt.bistTarget :=
  (settledFrom_after f s).hlt_bistTarget
@[simp] theorem after_begun (f : State → State) (s : State) : (after f s).tal.begun = (f s).tal.begun :=
  (settledFrom_after f s).begun
@[simp] theorem after_latched (f : State → State) (s : State) : (after f s).tal.latched = (f s).tal.latched :=
  (settledFrom_after f s).latched
@[simp] theorem after_harvest (f : State → State) (s : State) : (after f s).tal.harvest = (f s).tal.harvest :=
  (settledFrom_after f s).harvest
@[simp] theorem after_snapClk (f : State → State) (s : State) : (after f s).tal.snapClk = (f s).tal.snapClk :=
  (settledFrom_after f s).snapClk
@[simp] theorem after_relatch (f : State → State) (s : State) : (after f s).tal.relatch = (f s).tal.relatch :=
  (settledFrom_after f s).relatch

/-- A register that settling does not write holds what the effect left. -/
theorem rget_after {r : Nat} (f : State → State) (s : State) (h : r ∉ settleRegs) : rget (after f s) r = rget (f s) r :=
  (settledFrom_after f s).reg r h

theorem fget_after {x : Fld} (f : State → State) (s : State) (h : x.addr ∉ settleRegs) : fget (after f s) x = fget (f s) x :=
  fget_congr (rget_after f s h)

theorem SettledFrom.fget {u t : State} (h : SettledFrom u t) {x : Fld} (hx : x.addr ∉ settleRegs) : fget t x = fget u x :=
  fget_congr (h.reg _ hx)

theorem SettledFrom.held {u t : State} (h : SettledFrom u t) : held t = held u := by
  unfold Machine.held
  rw [h.glb_heldPin, h.glb_heldSupply, h.glb_heldClock]

theorem ctr_after {g i : Nat} (f : State → State) (s : State) (hg : g < 27) (hi : groupBase g + i < groupBase 27) :
    ctr (after f s) g i = ctr (f s) g i := (settledFrom_after f s).ctr g i hg hi

/-! ### The frame of a command -/

/-- A command whose operands name something the device has, to a device that is not held in cold reset. -/
theorem command_next {c : Instr} {s : State} (f : State → State) (w : wellFormed c = true) (h : held s = false) :
    command c s f = .next (after f s) := by
  simp [command, w, h]

/-- A device held in cold reset takes no command (R140). -/
theorem command_held {c : Instr} {s : State} (f : State → State) (w : wellFormed c = true) (h : held s = true) :
    command c s f = .next s := by
  simp [command, w, h]

theorem command_illFormed {c : Instr} {s : State} (f : State → State) (w : wellFormed c = false) :
    command c s f = .fault .illFormed := by
  simp [command, w]

/-- A host write outside D3hot, to a block no warm reset keeps busy. -/
theorem hostCmd_next {c : Instr} {a : Nat} {s : State} (f : State → State) (w : wellFormed c = true) (h : held s = false)
    (d : s.hif.d3hot = false) (b : resetBusy s a = false) : hostCmd c a s f = .next (after f s) := by
  unfold hostCmd
  rw [command_next _ w h]
  exact congrArg _ (after_congr (by simp [d, b]))

/-- A host write while a warm reset keeps its block busy is an access error (R170). -/
theorem hostCmd_busy {c : Instr} {a : Nat} {s : State} (f : State → State) (w : wellFormed c = true) (h : held s = false)
    (d : s.hif.d3hot = false) (b : resetBusy s a = true) :
    hostCmd c a s f = .next (after (accErr false errResetBusy a) s) := by
  unfold hostCmd
  rw [command_next _ w h]
  exact congrArg _ (after_congr (by simp [d, b]))

/-- A host read outside D3hot. -/
theorem hostRead_next {c : Instr} {s : State} (f : State → State) (w : wellFormed c = true) (h : held s = false)
    (d : s.hif.d3hot = false) : hostRead c s f = .next (after f s) := by
  unfold hostRead
  rw [command_next _ w h]
  exact congrArg _ (after_congr (by simp [d]))

/-- A command that comes `dt` core clocks after the one before it. -/
theorem timed_next {c : Instr} {dt : Nat} {s : State} (f : State → State) (w : wellFormed c = true) (h : held s = false) :
    timed c dt s f = .next (after (fun s => f (passTime dt s)) s) := command_next _ w h

theorem pinCommand_next {c : Instr} {s : State} (f : State → State) (w : wellFormed c = true) :
    pinCommand c s f = .next (after f s) := by
  simp [pinCommand, w]

/-- No core clocks, nothing passes. -/
@[simp] theorem passTime_zero (s : State) : passTime 0 s = s := by simp [passTime]

end Machine
end Sys2Proof
end

