-- ==== Sys2Proof/Laws/Exec.lean ====
section
/-! SUPPORT. Laws/Exec.lean: what a command that answers a next state can have done: nothing, when the device is held in cold
reset, or an effect after which the device has settled. -/
namespace Sys2Proof
namespace Machine

/-- The state is unchanged and the device held in cold reset, or some effect took place and the device settled. -/
def Settling (s t : State) : Prop := (t = s ∧ held s = true) ∨ ∃ f, t = after f s

theorem command_settling {c : Instr} {s t : State} {f : State → State} (h : command c s f = .next t) : Settling s t := by
  unfold command at h
  split at h
  · cases hh : held s
    · rw [hh] at h
      exact Or.inr ⟨f, (Host.Outcome.next.inj h).symm⟩
    · rw [hh] at h
      exact Or.inl ⟨(Host.Outcome.next.inj h).symm, hh⟩
  · exact absurd h (by simp)

theorem pinCommand_settling {c : Instr} {s t : State} {f : State → State} (h : pinCommand c s f = .next t) :
    Settling s t := by
  unfold pinCommand at h
  split at h
  · exact Or.inr ⟨f, (Host.Outcome.next.inj h).symm⟩
  · exact absurd h (by simp)

/-- Whatever a command does, the device has settled after it. -/
theorem exec_settling {c : Instr} {s t : State} (h : exec c s = .next t) : Settling s t := by
  cases c <;> simp only [exec, timed, hostCmd, hostRead,
    execColdReset, execResetNRise, execSupplyBrownout, execSupplyRecovered, execRefclkLost, execRefclkRestored,
    execCoreRefclkLost, execCorePllHoldoverExpiry, execBootFlashSelect, execVerificationComplete, execFullLoad,
    execShadowLoad, execFrgAbort, execArmCommit, execDisarm, execRollback, execFlushOld, execBootFlash,
    execFrgLoadPortWrite, execTemperCommit, execTemperRelease, execTemperDrainTimeout, execDrain, execResume,
    execEndWaking, execEnterSafe, execClearSafe, execEnterDiag, execEndDiag, execWakeTimerExpiry,
    execGlbWakeMsWrite, execDrainComplete, execDrainTimeout, execWarmReset, execWarmResetComplete,
    execHearthReset, execHearthResetComplete, execPortReset, execPortResetRelease, execFunctionLevelReset,
    execHostLinkLoss, execD3hotEntry, execFrameArrival, execFrameReceiveEnd, execMacControlFrame,
    execPauseTimerExpiry, execMmFragmentReceived, execVerifyMpacketReceived, execRespondMpacketReceived,
    execVerifyTimerExpiry, execLinkConditionChange, execLinkHoldExpiry, execAutonegResolved,
    execLinkTrainingComplete, execDecisionPassStart, execVote, execQueueSelection, execTransmitEnd,
    execLedgerLineBoundary, execLedgerStart, execStreamGateLineStart, execLdgBaseSubWrite, execMainsEdge,
    execMainsLossTimeout, execPhsMsgPost, execMsgLossTimeout, execPhaseWrap, execLatchPhase, execSetCycle,
    execRealign, execTimedActionArm, execTimedActionFire, execGpioPulseEnd, execTimSmpPost,
    execTrackerLossTimeout, execLatch, execStepRel, execSetAbs, execSwitchDomain, execTimCtlWrite,
    execClk10mMeasurement, execPpsInEdge, execPpsOutSecond, execPpsOutPulseEnd, execTxtsRecordRead,
    execUtcOffsetSet, execKixonFrameCheck, execHello, execHelloAck, execHelloTimer, execDelayReqTimer,
    execDelayReq, execDelayResp, execTimeInterval, execTimeFrame, execUpstreamCandidateExpiry, execTrigger,
    execKeySwitchInstant, execHeartbeat, execHbLossTimeout, execKixonHostMessage, execJoinQueueDelivery,
    execTakeover, execStepDown, execSendTrigger, execTriggerRepeat, execKeySwitch, execRehello,
    execFabSelfWrite, execFabPortCfgWrite, execTblRead, execTblWrite, execTblLookup, execTblInsert,
    execTblUpdate, execTblDelete, execHitScan, execTblAge, execTblFlush, execTblCmdComplete,
    execMoverInsertion, execTblNoteW3Read, execHthExcCapRead, execFragmentEntryExpiry, execTmplRead,
    execTmplWrite, execTmplCmdComplete, execMeterBackgroundRefresh, execShaperRateWrite, execTmRegionWrite,
    execQueueSample, execPorAlloc, execPorFree, execPorShare, execPorQuery, execPorCmdComplete, execPoolEnable,
    execPoolDisable, execCacheRefill, execCacheSpill, execReturnQueueRecord, execPorterDmaErr,
    execChannelEnable, execDescriptorsPosted, execDescriptorFetch, execDryStop, execChannelStopped,
    execResumeChannel, execChannelDisable, execRxCopyHandover, execRxRoomAllocation, execRxCopyComplete,
    execRxIntModTimer, execTxFrameRead, execTxDescriptorComplete, execDmaReadError, execErrandStart,
    execErrandMove, execErrandLoop, execErrandWait, execWaitComplete, execWaitTimeout, execErrandSignal,
    execErrandFence, execErrandEnd, execSnapshot, execTalClear, execHarvestStart, execHarvestAbort,
    execHarvestComplete, execTalRdSelWrite, execEventRaise, execSummaryTimer, execLogPlacement,
    execGbkRdSeqWrite, execGbkClear, execGbkClearAll, execSpillBatch, execPing, execGetVersion, execAvsStatus,
    execOtpKeyHash, execOtpRevoke, execOtpImageKey, execOtpRaiseSecver, execMbxCompletion, execMbxTimeout,
    execOstlerBeat, execOstlerSilent, execOstlerRestart, execGlbVecEoiWrite, execMsixUnmask,
    execRcRegisterRead, execUnassignedRead, execUnalignedRead, execBar2Write, execPoisoned, execRegisterWrite,
    execFenceCopy, execUnfence, execCopyBist, execScrubAccess, execTcamScrub, execSpare, execBankSpared,
    execBankWithdrawn, execMonitorPoll, execMonitorCrit, execAvsStep, execBistRun, execBistComplete,
    execQspiCommand, execQspiDone, execI2cStart, execI2cDone, execI2cDataWrite, execI2cDataRead, execC22Write,
    execC22Read, execC45Write, execC45Read, execMdioDone, execGpioEdge, execLedStream, execJtagBypass,
    execJtagIdcode, execJtagSamplePreload, execJtagExtest, execJtagExtestPulse, execJtagExtestTrain,
    execJtagHighz, execJtagClamp, execSlotLastByteArrived, execQuadrantTrainingStart, execHostLinkUp,
    execCoreRefclkRestored] at h
  all_goals first | exact command_settling h | exact pinCommand_settling h

theorem idleClock_settling (s : State) : Settling s (idleClock s) := by
  unfold idleClock
  cases h : held s
  · exact Or.inr ⟨_, rfl⟩
  · exact Or.inl ⟨rfl, h⟩

end Machine
end Sys2Proof
end

