-- ==== Sys2Proof/Laws/Touch.lean ====
section
/-! SUPPORT. Laws/Touch.lean: the frame relation. `Same T s t` says that `t` agrees with `s` in every part of the state that is
not in the list `T`, and that host memory keeps its canonical form; the lemmas of Laws/Frames.lean say for each operation of the model which parts it may change. -/
namespace Sys2Proof
namespace Machine

/-- `t` agrees with `s` in every part that is not in `T`, and its host memory is canonical if that of `s` is. -/
structure Same (T : List Part) (s t : State) : Prop where
  part : Agree T s t
  wf : memWf s.mem = true → memWf t.mem = true

theorem SamePart.refl (p : Part) (s : State) : SamePart p s s := by cases p <;> rfl

theorem SamePart.trans {p : Part} {s t u : State} (h : SamePart p s t) (k : SamePart p t u) : SamePart p s u := by
  cases p <;> exact Eq.trans k h

theorem Same.refl (T : List Part) (s : State) : Same T s s := ⟨fun p _ => SamePart.refl p s, id⟩

theorem Same.trans {T : List Part} {s t u : State} (h : Same T s t) (k : Same T t u) : Same T s u :=
  ⟨fun p n => (h.part p n).trans (k.part p n), fun w => k.wf (h.wf w)⟩

theorem Same.mono {U T : List Part} {s t : State} (h : Same U s t) (k : U.all (fun p => T.contains p) = true) :
    Same T s t := by
  have m : ∀ p, p ∉ T → p ∉ U := fun p hp hu => hp (List.contains_iff_mem.1 (List.all_eq_true.1 k p hu))
  exact ⟨fun p n => h.part p (m p n), h.wf⟩

/-- An operation that changes parts in `U`, after something that changes parts in `T`. -/
theorem Same.comp {U T : List Part} {s x y : State} (k : Same U x y) (hu : U.all (fun p => T.contains p) = true)
    (h : Same T s x) : Same T s y := h.trans (k.mono hu)

theorem Same.all_sub {U T V : List Part} (m : U.all (fun p => T.contains p) = true)
    (k : V.all (fun p => U.contains p) = true) : V.all (fun p => T.contains p) = true :=
  List.all_eq_true.2 (fun p hp =>
    List.all_eq_true.1 m p (List.contains_iff_mem.1 (List.all_eq_true.1 k p hp)))

/-- A record update that changes the parts in `T` only. -/
theorem Same.upd {T : List Part} {s x y : State} (h : Same T s x) (e : y.mem = x.mem) (k : ∀ p, p ∉ T → SamePart p x y) :
    Same T s y := h.trans ⟨k, fun w => e ▸ w⟩

theorem Same.set_regs {T : List Part} {s x : State} {v : List (Nat × BitVec 32)} (m : Part.regs ∈ T) (e_low : Part.low ∈ T) (e_mid : Part.mid ∈ T) (h : Same T s x) :
    Same T s { x with regs := v } :=
  h.trans ⟨fun p n => by cases p <;> first | exact absurd m n | exact absurd e_low n | exact absurd e_mid n | rfl, id⟩

theorem Same.set_clk {T : List Part} {s x : State} {v : Nat} (m : Part.clk ∈ T) (h : Same T s x) :
    Same T s { x with clk := v } :=
  h.trans ⟨fun p n => by cases p <;> first | exact absurd m n | rfl, id⟩

theorem Same.set_glb {T : List Part} {s x : State} {v : Glb} (m : Part.glb ∈ T) (e_base : Part.base ∈ T ∨ v.base = x.glb.base) (e_rst : Part.rst ∈ T ∨ (v.warmBusy, v.warmToWaking, v.hearthRst, v.started, v.bootDue, v.heldPin, v.heldSupply, v.heldClock, v.coreLost) = resetsOf x) (h : Same T s x) :
    Same T s { x with glb := v } :=
  h.trans ⟨fun p n => by cases p <;> first | exact absurd m n | exact e_base.resolve_left n | exact e_rst.resolve_left n | rfl, id⟩

theorem Same.set_frg {T : List Part} {s x : State} {v : Frg} (m : Part.frg ∈ T) (e_act : Part.act ∈ T ∨ (v.bank0, v.bank1, v.active, v.onBank1, v.oldBank, v.tempering) = forgingsOf x) (h : Same T s x) :
    Same T s { x with frg := v } :=
  h.trans ⟨fun p n => by cases p <;> first | exact absurd m n | exact e_act.resolve_left n | rfl, id⟩

theorem Same.set_hif {T : List Part} {s x : State} {v : Hif} (m : Part.hif ∈ T) (h : Same T s x) :
    Same T s { x with hif := v } :=
  h.trans ⟨fun p n => by cases p <;> first | exact absurd m n | rfl, id⟩

theorem Same.set_tal {T : List Part} {s x : State} {v : Tal} (m : Part.tal ∈ T) (h : Same T s x) :
    Same T s { x with tal := v } :=
  h.trans ⟨fun p n => by cases p <;> first | exact absurd m n | rfl, id⟩

theorem Same.set_gbk {T : List Part} {s x : State} {v : Gbk} (m : Part.gbk ∈ T) (h : Same T s x) :
    Same T s { x with gbk := v } :=
  h.trans ⟨fun p n => by cases p <;> first | exact absurd m n | rfl, id⟩

theorem Same.set_tim {T : List Part} {s x : State} {v : Tim} (m : Part.tim ∈ T) (h : Same T s x) :
    Same T s { x with tim := v } :=
  h.trans ⟨fun p n => by cases p <;> first | exact absurd m n | rfl, id⟩

theorem Same.set_phs {T : List Part} {s x : State} {v : Phs} (m : Part.phs ∈ T) (h : Same T s x) :
    Same T s { x with phs := v } :=
  h.trans ⟨fun p n => by cases p <;> first | exact absurd m n | rfl, id⟩

theorem Same.set_ldg {T : List Part} {s x : State} {v : Ldg} (m : Part.ldg ∈ T) (h : Same T s x) :
    Same T s { x with ldg := v } :=
  h.trans ⟨fun p n => by cases p <;> first | exact absurd m n | rfl, id⟩

theorem Same.set_fab {T : List Part} {s x : State} {v : Fab} (m : Part.fab ∈ T) (h : Same T s x) :
    Same T s { x with fab := v } :=
  h.trans ⟨fun p n => by cases p <;> first | exact absurd m n | rfl, id⟩

theorem Same.set_por {T : List Part} {s x : State} {v : Por} (m : Part.por ∈ T) (h : Same T s x) :
    Same T s { x with por := v } :=
  h.trans ⟨fun p n => by cases p <;> first | exact absurd m n | rfl, id⟩

theorem Same.set_dry {T : List Part} {s x : State} {v : Dry} (m : Part.dry ∈ T) (h : Same T s x) :
    Same T s { x with dry := v } :=
  h.trans ⟨fun p n => by cases p <;> first | exact absurd m n | rfl, id⟩

theorem Same.set_hlt {T : List Part} {s x : State} {v : Hlt} (m : Part.hlt ∈ T) (h : Same T s x) :
    Same T s { x with hlt := v } :=
  h.trans ⟨fun p n => by cases p <;> first | exact absurd m n | rfl, id⟩

theorem Same.set_pin {T : List Part} {s x : State} {v : Pin} (m : Part.pin ∈ T) (h : Same T s x) :
    Same T s { x with pin := v } :=
  h.trans ⟨fun p n => by cases p <;> first | exact absurd m n | rfl, id⟩

theorem Same.set_prt {T : List Part} {s x : State} {v : List (Nat × PortSt)} (m : Part.prt ∈ T) (h : Same T s x) :
    Same T s { x with prt := v } :=
  h.trans ⟨fun p n => by cases p <;> first | exact absurd m n | rfl, id⟩

theorem Same.set_dp {T : List Part} {s x : State} {v : Dp} (m : Part.dp ∈ T) (h : Same T s x) :
    Same T s { x with dp := v } :=
  h.trans ⟨fun p n => by cases p <;> first | exact absurd m n | rfl, id⟩

theorem Same.set_tab {T : List Part} {s x : State} {v : Tab} (m : Part.tab ∈ T) (h : Same T s x) :
    Same T s { x with tab := v } :=
  h.trans ⟨fun p n => by cases p <;> first | exact absurd m n | rfl, id⟩

theorem Same.set_fry {T : List Part} {s x : State} {v : Fry} (m : Part.fry ∈ T) (h : Same T s x) :
    Same T s { x with fry := v } :=
  h.trans ⟨fun p n => by cases p <;> first | exact absurd m n | rfl, id⟩

theorem Same.set_tmg {T : List Part} {s x : State} {v : Tmg} (m : Part.tmg ∈ T) (h : Same T s x) :
    Same T s { x with tmg := v } :=
  h.trans ⟨fun p n => by cases p <;> first | exact absurd m n | rfl, id⟩

theorem Same.set_free {T : List Part} {s x : State} {v : Nat} (m : Part.free ∈ T) (h : Same T s x) :
    Same T s { x with free := v } :=
  h.trans ⟨fun p n => by cases p <;> first | exact absurd m n | rfl, id⟩

theorem Same.set_pending {T : List Part} {s x : State} {v : List Instr} (m : Part.pending ∈ T) (h : Same T s x) :
    Same T s { x with pending := v } :=
  h.trans ⟨fun p n => by cases p <;> first | exact absurd m n | rfl, id⟩

theorem Same.set_fresh {T : List Part} {s x : State} {v : List (Nat × Nat)} (m : Part.regs ∈ T) (h : Same T s x) :
    Same T s { x with fresh := v } :=
  h.trans ⟨fun p n => by cases p <;> first | exact absurd m n | rfl, id⟩

theorem Same.ite {T : List Part} {s a b : State} {c : Prop} [Decidable c] (h : Same T s a) (k : Same T s b) :
    Same T s (if c then a else b) := by split <;> assumption

theorem Same.slet {T : List Part} {s v : State} {b : State → State} (h : Same T s v) (k : ∀ x, Same T s x → Same T s (b x)) :
    Same T s (have x := v; b x) := k v h

theorem Same.vlet {α : Type} {T : List Part} {s : State} {v : α} {b : α → State} (k : ∀ x, Same T s (b x)) :
    Same T s (have x := v; b x) := k v

theorem Same.foldl {α : Type} {T : List Part} {s x : State} {f : State → α → State} {l : List α}
    (k : ∀ y a, Same T s y → Same T s (f y a)) (h : Same T s x) : Same T s (l.foldl f x) := by
  induction l generalizing x with
  | nil => exact h
  | cons a t ih => exact ih (k x a h)

theorem Same.foldr {α : Type} {T : List Part} {s x : State} {f : α → State → State} {l : List α}
    (k : ∀ a y, Same T s y → Same T s (f a y)) (h : Same T s x) : Same T s (l.foldr f x) := by
  induction l with
  | nil => exact h
  | cons a t ih => exact k a _ ih

theorem Same.zlet {α : Type} {T : List Part} {s : State} {v : α} {b : α → State} (k : Same T s (b v)) :
    Same T s (have x := v; b x) := k

theorem Same.zlet2 {α β : Type} {T : List Part} {s : State} {v : β} {b : β → α × State} (k : Same T s (b v).2) :
    Same T s (have x := v; b x).2 := k

theorem Same.ite2 {α : Type} {T : List Part} {s : State} {a b : α × State} {c : Prop} [Decidable c] (h : Same T s a.2)
    (k : Same T s b.2) : Same T s (if c then a else b).2 := by split <;> assumption

theorem Same.slet2 {α : Type} {T : List Part} {s v : State} {b : State → α × State} (h : Same T s v)
    (k : ∀ x, Same T s x → Same T s (b x).2) : Same T s (have x := v; b x).2 := k v h

theorem Same.vlet2 {α β : Type} {T : List Part} {s : State} {v : β} {b : β → α × State} (k : ∀ x, Same T s (b x).2) :
    Same T s (have x := v; b x).2 := k v

theorem Same.ite3 {α β : Type} {T : List Part} {s : State} {a b : α × β × State} {c : Prop} [Decidable c]
    (h : Same T s a.2.2) (k : Same T s b.2.2) : Same T s (if c then a else b).2.2 := by split <;> assumption

theorem Same.slet3 {α β : Type} {T : List Part} {s v : State} {b : State → α × β × State} (h : Same T s v)
    (k : ∀ x, Same T s x → Same T s (b x).2.2) : Same T s (have x := v; b x).2.2 := k v h

theorem Same.vlet3 {α β γ : Type} {T : List Part} {s : State} {v : γ} {b : γ → α × β × State}
    (k : ∀ x, Same T s (b x).2.2) : Same T s (have x := v; b x).2.2 := k v

theorem Same.of2 {α : Type} {T : List Part} {s : State} {p q : α × State} (e : p = q) (h : Same T s p.2) : Same T s q.2 :=
  e ▸ h

theorem Same.of3 {α β : Type} {T : List Part} {s : State} {p q : α × β × State} (e : p = q) (h : Same T s p.2.2) :
    Same T s q.2.2 := e ▸ h

theorem Same.of4 {α β γ : Type} {T : List Part} {s : State} {p q : α × β × γ × State} (e : p = q)
    (h : Same T s p.2.2.2) : Same T s q.2.2.2 := e ▸ h

theorem Same.plet1 {γ : Type} {T : List Part} {s : State} {v : γ × State} {b : γ × State → State}
    (h : Same T s v.2) (k : ∀ x, Same T s x.2 → Same T s (b x)) : Same T s (have x := v; b x) := k v h

theorem Same.plet12 {α γ : Type} {T : List Part} {s : State} {v : γ × State} {b : γ × State → α × State}
    (h : Same T s v.2) (k : ∀ x, Same T s x.2 → Same T s (b x).2) : Same T s (have x := v; b x).2 := k v h

theorem Same.plet13 {α β γ : Type} {T : List Part} {s : State} {v : γ × State} {b : γ × State → α × β × State}
    (h : Same T s v.2) (k : ∀ x, Same T s x.2 → Same T s (b x).2.2) : Same T s (have x := v; b x).2.2 := k v h

theorem Same.plet2 {γ δ : Type} {T : List Part} {s : State} {v : γ × δ × State} {b : γ × δ × State → State}
    (h : Same T s v.2.2) (k : ∀ x, Same T s x.2.2 → Same T s (b x)) : Same T s (have x := v; b x) := k v h

theorem Same.plet22 {α γ δ : Type} {T : List Part} {s : State} {v : γ × δ × State} {b : γ × δ × State → α × State}
    (h : Same T s v.2.2) (k : ∀ x, Same T s x.2.2 → Same T s (b x).2) : Same T s (have x := v; b x).2 := k v h

theorem Same.plet23 {α β γ δ : Type} {T : List Part} {s : State} {v : γ × δ × State} {b : γ × δ × State → α × β × State}
    (h : Same T s v.2.2) (k : ∀ x, Same T s x.2.2 → Same T s (b x).2.2) : Same T s (have x := v; b x).2.2 := k v h

/-! ### Registers of the lower blocks -/

/-- The register at `a` is none of GLB and FRG, or one that follows what goes on. -/
def LowFree (a : Nat) : Prop := 0x20000 ≤ a ∨ a ∈ followRegs

/-- The register at `a` is none of GLB, FRG, HIF and PRT, or one of GLB that follows what goes on. -/
def TopFree (a : Nat) : Prop := 0x80000 ≤ a ∨ a ∈ followRegs

theorem dryBase_hi (c : DryChan) : 0x80000 ≤ dryBase c := by
  cases c <;> simp only [dryBase, A.DRY_RX_CFG, A.DRY_TX_CFG, A.DRY_ERR_CFG] <;> omega

theorem lowOf_rput (a v : Nat) (s : State) (h : LowFree a) : lowOf (rput a v s) = lowOf s := by
  funext b
  unfold lowOf
  split
  · rename_i hb
    rw [rget_rput_ne]
    rintro rfl
    rcases h with h | h
    · omega
    · exact hb.2 h
  · rfl

theorem followRegs_low {a : Nat} (h : a ∈ followRegs) : a < 0x20000 ∨ 0x80000 ≤ a := by
  have k : followRegs.all (fun a => decide (a < 0x20000 ∨ 0x80000 ≤ a)) = true := by decide
  exact of_decide_eq_true (List.all_eq_true.1 k a h)

theorem midOf_rput (a v : Nat) (s : State) (h : a < 0x20000 ∨ 0x80000 ≤ a) : midOf (rput a v s) = midOf s := by
  funext b
  unfold midOf
  split
  · rename_i hb
    rw [rget_rput_ne]
    rintro rfl
    omega
  · rfl

theorem Same.rput {T : List Part} (a v : Nat) (s : State) (r : Part.regs ∈ T) (l : Part.low ∉ T → lowOf (Machine.rput a v s) = lowOf s)
    (m : Part.mid ∉ T → midOf (Machine.rput a v s) = midOf s) : Same T s (Machine.rput a v s) :=
  ⟨fun p n => by cases p <;> first | exact absurd r n | exact l n | exact m n | rfl, id⟩

theorem Same.markFresh {T : List Part} {s : State} (f : List (Nat × Nat)) (r : Part.regs ∈ T) : Same T s { s with fresh := f } :=
  ⟨fun p n => by cases p <;> first | exact absurd r n | rfl, id⟩

/-- A record of status bits set, and the register written. -/
theorem Same.freshRput {T : List Part} {s t : State} {f : List (Nat × Nat)} (r : Part.regs ∈ T)
    (h : Same T { s with fresh := f } t) : Same T s t := (Same.markFresh f r).trans h

theorem same_rput_hi (a v : Nat) (s : State) (h : LowFree a) : Same [.regs, .mid] s (rput a v s) :=
  Same.rput a v s (by decide) (fun _ => lowOf_rput a v s h) (fun n => absurd (by decide) n)
theorem same_rput_top (a v : Nat) (s : State) (h : TopFree a) : Same [.regs] s (rput a v s) :=
  Same.rput a v s (by decide)
    (fun _ => lowOf_rput a v s (h.elim (fun k => Or.inl (by omega)) Or.inr))
    (fun _ => midOf_rput a v s (h.elim Or.inr followRegs_low))
theorem same_rput_lo (a v : Nat) (s : State) (h : a < 0x20000) : Same [.regs, .low] s (rput a v s) :=
  Same.rput a v s (by decide) (fun n => absurd (by decide) n) (fun _ => midOf_rput a v s (Or.inl h))

theorem same_forBits_hi (a v : Nat) (s : State) (h : LowFree a) : Same [.regs, .mid] s (forBits a v s) :=
  Same.freshRput (by decide) (same_rput_hi a _ _ h)
theorem same_capture_hi (a v : Nat) (s : State) (h : LowFree a) : Same [.regs, .mid] s (capture a v s) :=
  Same.freshRput (by decide) (same_rput_hi a _ _ h)
theorem same_forBits_top (a v : Nat) (s : State) (h : TopFree a) : Same [.regs] s (forBits a v s) :=
  Same.freshRput (by decide) (same_rput_top a _ _ h)
theorem same_capture_top (a v : Nat) (s : State) (h : TopFree a) : Same [.regs] s (capture a v s) :=
  Same.freshRput (by decide) (same_rput_top a _ _ h)
theorem same_forBits_lo (a v : Nat) (s : State) (h : a < 0x20000) : Same [.regs, .low] s (forBits a v s) :=
  Same.freshRput (by decide) (same_rput_lo a _ _ h)
theorem same_capture_lo (a v : Nat) (s : State) (h : a < 0x20000) : Same [.regs, .low] s (capture a v s) :=
  Same.freshRput (by decide) (same_rput_lo a _ _ h)
theorem same_setInt_hi (a i : Nat) (s : State) (h : LowFree a) : Same [.regs, .mid] s (setInt a i s) :=
  same_forBits_hi a _ s h
theorem same_setInt_top (a i : Nat) (s : State) (h : TopFree a) : Same [.regs] s (setInt a i s) :=
  same_forBits_top a _ s h
theorem same_setInt_lo (a i : Nat) (s : State) (h : a < 0x20000) : Same [.regs, .low] s (setInt a i s) :=
  same_forBits_lo a _ s h
theorem same_writeRw_hi (a v : Nat) (s : State) (h : LowFree a) : Same [.regs, .mid] s (writeRw a v s) :=
  same_rput_hi a _ s h
theorem same_writeRw_top (a v : Nat) (s : State) (h : TopFree a) : Same [.regs] s (writeRw a v s) :=
  same_rput_top a _ s h
theorem same_writeRw_lo (a v : Nat) (s : State) (h : a < 0x20000) : Same [.regs, .low] s (writeRw a v s) :=
  same_rput_lo a _ s h
theorem same_fput_hi (f : Fld) (v : Nat) (s : State) (h : LowFree f.addr) : Same [.regs, .mid] s (fput f v s) :=
  same_rput_hi f.addr _ s h
theorem same_fput_top (f : Fld) (v : Nat) (s : State) (h : TopFree f.addr) : Same [.regs] s (fput f v s) :=
  same_rput_top f.addr _ s h
theorem same_fput_lo (f : Fld) (v : Nat) (s : State) (h : f.addr < 0x20000) : Same [.regs, .low] s (fput f v s) :=
  same_rput_lo f.addr _ s h
theorem same_faddSat_hi (f : Fld) (n : Nat) (s : State) (h : LowFree f.addr) : Same [.regs, .mid] s (faddSat f n s) :=
  Same.freshRput (by decide) (same_fput_hi f _ _ h)
theorem same_fmax_hi (f : Fld) (n : Nat) (s : State) (h : LowFree f.addr) : Same [.regs, .mid] s (fmax f n s) :=
  Same.freshRput (by decide) (same_fput_hi f _ _ h)
theorem same_faddSat_top (f : Fld) (n : Nat) (s : State) (h : TopFree f.addr) : Same [.regs] s (faddSat f n s) :=
  Same.freshRput (by decide) (same_fput_top f _ _ h)
theorem same_fmax_top (f : Fld) (n : Nat) (s : State) (h : TopFree f.addr) : Same [.regs] s (fmax f n s) :=
  Same.freshRput (by decide) (same_fput_top f _ _ h)
theorem same_faddSat_lo (f : Fld) (n : Nat) (s : State) (h : f.addr < 0x20000) : Same [.regs, .low] s (faddSat f n s) :=
  Same.freshRput (by decide) (same_fput_lo f _ _ h)
theorem same_fmax_lo (f : Fld) (n : Nat) (s : State) (h : f.addr < 0x20000) : Same [.regs, .low] s (fmax f n s) :=
  Same.freshRput (by decide) (same_fput_lo f _ _ h)
theorem same_faddWrap_hi (f : Fld) (n : Nat) (s : State) (h : LowFree f.addr) : Same [.regs, .mid] s (faddWrap f n s) :=
  same_fput_hi f _ s h
theorem same_faddWrap_top (f : Fld) (n : Nat) (s : State) (h : TopFree f.addr) : Same [.regs] s (faddWrap f n s) :=
  same_fput_top f _ s h
theorem same_faddWrap_lo (f : Fld) (n : Nat) (s : State) (h : f.addr < 0x20000) : Same [.regs, .low] s (faddWrap f n s) :=
  same_fput_lo f _ s h
theorem same_latchInstant_lo (a x : Nat) (s : State) (h : a < 0x10000 + 0xFFF0) : Same [.regs, .low] s (latchInstant a x s) :=
  Same.comp (same_rput_lo _ _ _ (by omega)) (by decide) (Same.comp (same_rput_lo _ _ _ (by omega)) (by decide)
    (same_rput_lo _ _ s (by omega)))
theorem same_rput64_hi (a b v : Nat) (s : State) (h : LowFree a) (k : LowFree b) : Same [.regs, .mid] s (rput64 a b v s) :=
  Same.comp (same_rput_hi b _ _ k) (by decide) (same_rput_hi a _ s h)
theorem same_rput64_top (a b v : Nat) (s : State) (h : TopFree a) (k : TopFree b) : Same [.regs] s (rput64 a b v s) :=
  Same.comp (same_rput_top b _ _ k) (by decide) (same_rput_top a _ s h)
theorem same_rput64_lo (a b v : Nat) (s : State) (h : a < 0x20000) (k : b < 0x20000) : Same [.regs, .low] s (rput64 a b v s) :=
  Same.comp (same_rput_lo b _ _ k) (by decide) (same_rput_lo a _ s h)
theorem same_latchTime_hi (a t : Nat) (s : State) (h : 0x20000 ≤ a) : Same [.regs, .mid] s (latchTime a t s) :=
  (Same.comp (same_rput_hi _ _ _ (Or.inl (by omega))) (by decide)
    (Same.comp (same_rput_hi _ _ _ (Or.inl (by omega))) (by decide)
    (Same.comp (same_rput_hi _ _ _ (Or.inl (by omega))) (by decide) (same_rput_hi _ _ s (Or.inl h)))))
theorem same_latchInstant_hi (a x : Nat) (s : State) (h : 0x20000 ≤ a) : Same [.regs, .mid] s (latchInstant a x s) :=
  (Same.comp (same_rput_hi _ _ _ (Or.inl (by omega))) (by decide)
    (Same.comp (same_rput_hi _ _ _ (Or.inl (by omega))) (by decide) (same_rput_hi _ _ s (Or.inl h))))
theorem same_putWords_hi (a : Nat) (l : List Byte) (s : State) (h : 0x20000 ≤ a) : Same [.regs, .mid] s (putWords a l s) := by
  unfold putWords
  exact Same.foldl (fun _ _ h1 => Same.comp (same_rput_hi _ _ _ (Or.inl (by omega))) (by decide) h1) (Same.refl _ _)
theorem same_latchTime_top (a t : Nat) (s : State) (h : 0x80000 ≤ a) : Same [.regs] s (latchTime a t s) :=
  (Same.comp (same_rput_top _ _ _ (Or.inl (by omega))) (by decide)
    (Same.comp (same_rput_top _ _ _ (Or.inl (by omega))) (by decide)
    (Same.comp (same_rput_top _ _ _ (Or.inl (by omega))) (by decide) (same_rput_top _ _ s (Or.inl h)))))
theorem same_latchInstant_top (a x : Nat) (s : State) (h : 0x80000 ≤ a) : Same [.regs] s (latchInstant a x s) :=
  (Same.comp (same_rput_top _ _ _ (Or.inl (by omega))) (by decide)
    (Same.comp (same_rput_top _ _ _ (Or.inl (by omega))) (by decide) (same_rput_top _ _ s (Or.inl h))))
theorem same_putWords_top (a : Nat) (l : List Byte) (s : State) (h : 0x80000 ≤ a) : Same [.regs] s (putWords a l s) := by
  unfold putWords
  exact Same.foldl (fun _ _ h1 => Same.comp (same_rput_top _ _ _ (Or.inl (by omega))) (by decide) h1) (Same.refl _ _)

/-! ### Reading what is left alone -/

theorem Same.rget_low {T : List Part} {s t : State} {a : Nat} (h : Same T s t) (n : Part.low ∉ T)
    (ha : a < 0x20000 ∧ a ∉ followRegs) : rget t a = rget s a := by
  have e := congrFun (show lowOf t = lowOf s from h.part _ n) a
  unfold lowOf at e
  rwa [if_pos ha, if_pos ha] at e

theorem Same.fget_low {T : List Part} {s t : State} {f : Fld} (h : Same T s t) (n : Part.low ∉ T)
    (ha : f.addr < 0x20000 ∧ f.addr ∉ followRegs) : fget t f = fget s f := by
  unfold fget
  rw [h.rget_low n ha]

theorem Same.rget_mid {T : List Part} {s t : State} {a : Nat} (h : Same T s t) (n : Part.mid ∉ T)
    (ha : 0x20000 ≤ a ∧ a < 0x80000) : rget t a = rget s a := by
  have e := congrFun (show midOf t = midOf s from h.part _ n) a
  unfold midOf at e
  rwa [if_pos ha, if_pos ha] at e

theorem Same.fget_mid {T : List Part} {s t : State} {f : Fld} (h : Same T s t) (n : Part.mid ∉ T)
    (ha : 0x20000 ≤ f.addr ∧ f.addr < 0x80000) : fget t f = fget s f := by
  unfold fget
  rw [h.rget_mid n ha]

end Machine
end Sys2Proof
end

