-- ==== Sys2Proof/Laws/Frames.lean ====
section
/-! SUPPORT. Laws/Frames.lean: for every operation of the model on the state, which parts of the state it may change.
`same_<operation>` says that the state the operation answers agrees with the state it was given in every part the list does
not name; a `_h` lemma says the same of an operation that takes another as an argument. -/
namespace Sys2Proof
namespace Machine

theorem same_fragExpire (x0 : Nat) (s0 : State) : Same [.dp] s0 (fragExpire x0 s0) := by
  unfold fragExpire
  split
  · extract_lets +onlyGivenNames -merge -underBinder v1
    clear_value v1
    refine Same.ite ?_ ?_
    · refine Same.set_dp (by decide) ?_
      exact Same.refl _ _
    · exact Same.refl _ _
  · exact Same.refl _ _

theorem same_endClock (s0 : State) : Same [.tal] s0 (endClock s0) := by
  unfold endClock
  extract_lets +onlyGivenNames -merge -underBinder v1
  clear_value v1
  refine Same.ite ?_ ?_
  · exact Same.refl _ _
  · refine Same.set_tal (by decide) ?_
    exact Same.refl _ _

theorem same_setRevoked (x0 : Nat) (s0 : State) : Same [.hif] s0 (setRevoked x0 s0) := by
  unfold setRevoked
  extract_lets +onlyGivenNames -merge -underBinder v1 v2
  clear_value v1
  clear_value v2
  refine Same.ite ?_ ?_
  · refine Same.set_hif (by decide) ?_
    exact Same.refl _ _
  · refine Same.set_hif (by decide) ?_
    exact Same.refl _ _

theorem same_noteArmed (x0 : Nat) (x1 : Nat) (s0 : State) : Same [.fab] s0 (noteArmed x0 x1 s0) := by
  unfold noteArmed
  extract_lets +onlyGivenNames -merge -underBinder v1
  clear_value v1
  refine Same.set_fab (by decide) ?_
  exact Same.refl _ _

theorem same_putHostFifo (x0 : Nat) (x1 : List Nat) (s0 : State) : Same [.dp] s0 (putHostFifo x0 x1 s0) := by
  unfold putHostFifo
  extract_lets +onlyGivenNames -merge -underBinder v1
  clear_value v1
  refine Same.set_dp (by decide) ?_
  exact Same.refl _ _

theorem same_shiftStarts (x0 : Nat) (x1 : Nat) (s0 : State) : Same [.ldg] s0 (shiftStarts x0 x1 s0) := by
  unfold shiftStarts
  extract_lets +onlyGivenNames -merge -underBinder v1 v2
  clear_value v1
  clear_value v2
  refine Same.set_ldg (by decide) ?_
  exact Same.refl _ _

theorem same_gpioPulse (x0 : Nat) (x1 : Bool) (x2 : Nat) (s0 : State) : Same [.pin] s0 (gpioPulse x0 x1 x2 s0) := by
  unfold gpioPulse
  extract_lets +onlyGivenNames -merge -underBinder v1
  clear_value v1
  refine Same.ite ?_ ?_
  · refine Same.set_pin (by decide) ?_
    exact Same.refl _ _
  · exact Same.refl _ _

theorem same_writeTaken (x0 : Nat) (s0 : State) : Same [.dry] s0 (writeTaken x0 s0) := by
  unfold writeTaken
  extract_lets +onlyGivenNames -merge -underBinder v1
  clear_value v1
  refine Same.set_dry (by decide) ?_
  exact Same.refl _ _

theorem same_putCache (x0 : Nat) (x1 : List Nat) (s0 : State) : Same [.por] s0 (putCache x0 x1 s0) := by
  unfold putCache
  extract_lets +onlyGivenNames -merge -underBinder v1
  clear_value v1
  refine Same.set_por (by decide) ?_
  exact Same.refl _ _

theorem same_sendMsg (x0 : Nat) (s0 : State) : Same [.hif] s0 (sendMsg x0 s0) := by
  unfold sendMsg
  extract_lets +onlyGivenNames -merge -underBinder v1 v2
  clear_value v1
  clear_value v2
  refine Same.ite ?_ ?_
  · refine Same.set_hif (by decide) ?_
    exact Same.refl _ _
  · refine Same.set_hif (by decide) ?_
    exact Same.refl _ _

theorem same_putErr (x0 : Nat) (x1 : ErrSt) (s0 : State) : Same [.dry] s0 (putErr x0 x1 s0) := by
  unfold putErr
  extract_lets +onlyGivenNames -merge -underBinder v1
  clear_value v1
  refine Same.set_dry (by decide) ?_
  exact Same.refl _ _

theorem same_noteCrit (x0 : Bool) (x1 : Nat) (x2 : Int) (s0 : State) : Same [.hlt] s0 (noteCrit x0 x1 x2 s0) := by
  unfold noteCrit
  extract_lets +onlyGivenNames -merge -underBinder v1 v2
  clear_value v1
  clear_value v2
  refine Same.set_hlt (by decide) ?_
  exact Same.refl _ _

theorem same_aerPoisoned (s0 : State) : Same [.hif] s0 (aerPoisoned s0) := by
  unfold aerPoisoned
  extract_lets +onlyGivenNames -merge -underBinder v1 v2
  clear_value v1
  clear_value v2
  refine Same.set_hif (by decide) ?_
  exact Same.refl _ _

theorem same_ppsOutEnd (s0 : State) : Same [.tim] s0 (ppsOutEnd s0) := by
  unfold ppsOutEnd
  extract_lets +onlyGivenNames -merge -underBinder v1
  clear_value v1
  refine Same.ite ?_ ?_
  · refine Same.set_tim (by decide) ?_
    exact Same.refl _ _
  · exact Same.refl _ _

theorem same_memWrite (x0 : Nat) (x1 : List Byte) (s0 : State) : Same [.mem] s0 (memWrite x0 x1 s0) := by
  have e : memWrite x0 x1 s0 = { s0 with mem := (memWrite x0 x1 s0).mem } := by
    induction x1 generalizing x0 s0 with
    | nil => rfl
    | cons b t ih => unfold memWrite; rw [ih]
  exact ⟨fun p n => by cases p <;> first | exact absurd (by decide) n | (rw [e]; rfl), fun w => memWf_memWrite _ _ _ w⟩

theorem same_ipNext (x0 : Nat) (s0 : State) : Same [.fry] s0 (ipNext x0 s0) := by
  unfold ipNext
  extract_lets +onlyGivenNames -merge -underBinder v1
  clear_value v1
  refine Same.set_fry (by decide) ?_
  exact Same.refl _ _

theorem same_txtsPop (s0 : State) : Same [.hif, .tim] s0 (txtsPop s0) := by
  unfold txtsPop
  extract_lets +onlyGivenNames -merge -underBinder v1 v2
  clear_value v1
  clear_value v2
  exact Same.upd (Same.refl _ _) rfl (fun p n => by cases p <;> first | exact absurd (by decide) n | rfl)

theorem same_setMains (x0 : Nat) (x1 : MainsIn) (s0 : State) : Same [.phs] s0 (setMains x0 x1 s0) := by
  unfold setMains
  extract_lets +onlyGivenNames -merge -underBinder v1 v2
  clear_value v1
  clear_value v2
  refine Same.ite ?_ ?_
  · refine Same.set_phs (by decide) ?_
    exact Same.refl _ _
  · refine Same.set_phs (by decide) ?_
    exact Same.refl _ _

theorem same_setBank (x0 : Nat) (x1 : Nat) (s0 : State) : Same [.frg, .act] s0 (setBank x0 x1 s0) := by
  unfold setBank
  extract_lets +onlyGivenNames -merge -underBinder v1 v2
  clear_value v1
  refine Same.set_frg (by decide) (Or.inl (by decide)) ?_
  exact Same.refl _ _

theorem same_State_withFetchWord (s0 : State) (x1 : Nat) (x2 : Nat) : Same [.pending] s0 (State.withFetchWord s0 x1 x2) := by
  unfold State.withFetchWord
  split
  · refine Same.set_pending (by decide) ?_
    exact Same.refl _ _
  · exact Same.refl _ _

theorem same_readTaken (x0 : Nat) (s0 : State) : Same [.dry] s0 (readTaken x0 s0) := by
  unfold readTaken
  extract_lets +onlyGivenNames -merge -underBinder v1
  clear_value v1
  refine Same.set_dry (by decide) ?_
  exact Same.refl _ _

theorem same_keepInForce (x0 : Nat) (s0 : State) : Same [.glb] s0 (keepInForce x0 s0) := by
  unfold keepInForce
  extract_lets +onlyGivenNames -merge -underBinder v1 v2
  clear_value v1
  refine Same.set_glb (by decide) (Or.inr rfl) (Or.inr rfl) ?_
  exact Same.refl _ _

theorem same_eraseFlash (x0 : Nat) (x1 : Nat) (s0 : State) : Same [.frg] s0 (eraseFlash x0 x1 s0) := by
  unfold eraseFlash
  extract_lets +onlyGivenNames -merge -underBinder v1
  refine Same.set_frg (by decide) (Or.inr rfl) ?_
  exact Same.refl _ _

theorem same_waitOver (x0 : Nat) (s0 : State) : Same [.dry] s0 (waitOver x0 s0) := by
  unfold waitOver
  extract_lets +onlyGivenNames -merge -underBinder v1
  clear_value v1
  refine Same.comp (same_putErr _ _ _) (by decide) ?_
  exact Same.refl _ _

theorem same_ledStream (s0 : State) : Same [.pin] s0 (ledStream s0) := by
  unfold ledStream
  extract_lets +onlyGivenNames -merge -underBinder v1 v2 v3
  clear_value v1
  clear_value v2
  clear_value v3
  refine Same.ite ?_ ?_
  · refine Same.set_pin (by decide) ?_
    exact Same.refl _ _
  · exact Same.refl _ _

theorem same_putFrame (x0 : Nat) (x1 : Frame) (s0 : State) : Same [.dp] s0 (putFrame x0 x1 s0) := by
  unfold putFrame
  extract_lets +onlyGivenNames -merge -underBinder v1
  clear_value v1
  refine Same.set_dp (by decide) ?_
  exact Same.refl _ _

theorem same_putGate (x0 : Nat) (x1 : Nat) (x2 : StreamGate) (s0 : State) : Same [.ldg] s0 (putGate x0 x1 x2 s0) := by
  unfold putGate
  extract_lets +onlyGivenNames -merge -underBinder v1
  clear_value v1
  refine Same.set_ldg (by decide) ?_
  exact Same.refl _ _

theorem same_putMon (x0 : Bool) (x1 : Nat) (x2 : Nat) (s0 : State) : Same [.hlt] s0 (putMon x0 x1 x2 s0) := by
  unfold putMon
  extract_lets +onlyGivenNames -merge -underBinder v1 v2
  clear_value v1
  clear_value v2
  refine Same.ite ?_ ?_
  · refine Same.set_hlt (by decide) ?_
    exact Same.refl _ _
  · refine Same.set_hlt (by decide) ?_
    exact Same.refl _ _

theorem same_errTaken (x0 : Nat) (s0 : State) : Same [.dry] s0 (errTaken x0 s0) := by
  unfold errTaken
  extract_lets +onlyGivenNames -merge -underBinder s1
  have h2 : Same [.dry] s0 s1 := by
    unfold s1
    refine Same.ite ?_ ?_
    · refine Same.comp (same_readTaken _ _) (by decide) ?_
      exact Same.refl _ _
    · exact Same.refl _ _
  clear_value s1
  refine Same.ite ?_ ?_
  · refine Same.comp (same_writeTaken _ _) (by decide) ?_
    exact h2
  · exact h2

theorem same_resetRegs (x0 : Nat → Bool) (s0 : State) : Same [.regs, .low, .mid] s0 (resetRegs x0 s0) := by
  unfold resetRegs
  refine Same.set_regs (by decide) (by decide) (by decide) ?_
  exact Same.refl _ _

theorem same_notePop (x0 : Nat) (s0 : State) : Same [.hif, .tab] s0 (notePop x0 s0) := by
  unfold notePop
  extract_lets +onlyGivenNames -merge -underBinder v1 v2 v3
  clear_value v1
  clear_value v2
  clear_value v3
  exact Same.upd (Same.refl _ _) rfl (fun p n => by cases p <;> first | exact absurd (by decide) n | rfl)

theorem same_clearGroups (x0 : Nat) (s0 : State) : Same [.tal] s0 (clearGroups x0 s0) := by
  unfold clearGroups
  extract_lets +onlyGivenNames -merge -underBinder v1 v2
  clear_value v1
  clear_value v2
  refine Same.set_tal (by decide) ?_
  exact Same.refl _ _

theorem same_harvestData (x0 : Harvest) (s0 : State) : Same [.mem, .tal] s0 (harvestData x0 s0) := by
  unfold harvestData
  extract_lets +onlyGivenNames -merge -underBinder v1 v2 v3 v4
  clear_value v1
  clear_value v2
  clear_value v3
  clear_value v4
  refine Same.comp (same_memWrite _ _ _) (by decide) ?_
  refine Same.set_tal (by decide) ?_
  exact Same.refl _ _

theorem same_haltRemain (x0 : Move) (x1 : Nat) (x2 : Nat) (s0 : State) : Same [.free] s0 (haltRemain x0 x1 x2 s0).2 := by
  unfold haltRemain
  refine Same.ite2 ?_ ?_
  · refine Same.set_free (by decide) ?_
    exact Same.refl _ _
  · exact Same.refl _ _

theorem same_putPort (x0 : Nat) (x1 : PortSt) (s0 : State) : Same [.prt] s0 (putPort x0 x1 s0) := by
  unfold putPort
  refine Same.set_prt (by decide) ?_
  exact Same.refl _ _

theorem same_tblTake (x0 : Nat) (s0 : State) : Same [.tab, .free] s0 (tblTake x0 s0) := by
  unfold tblTake
  split
  · extract_lets +onlyGivenNames -merge -underBinder v1
    clear_value v1
    refine Same.set_tab (by decide) ?_
    exact Same.refl _ _
  · extract_lets +onlyGivenNames -merge -underBinder v2
    clear_value v2
    exact Same.upd (Same.refl _ _) rfl (fun p n => by cases p <;> first | exact absurd (by decide) n | rfl)

theorem same_putFlash (x0 : Nat) (x1 : Byte) (s0 : State) : Same [.frg] s0 (putFlash x0 x1 s0) := by
  unfold putFlash
  extract_lets +onlyGivenNames -merge -underBinder v1
  refine Same.set_frg (by decide) (Or.inr rfl) ?_
  exact Same.refl _ _

theorem same_clearBank (x0 : Nat) (s0 : State) : Same [.ldg, .tab] s0 (clearBank x0 s0) := by
  unfold clearBank
  extract_lets +onlyGivenNames -merge -underBinder v1 v2
  clear_value v1
  clear_value v2
  exact Same.upd (Same.refl _ _) rfl (fun p n => by cases p <;> first | exact absurd (by decide) n | rfl)

theorem same_answer (x0 : List Nat) (s0 : State) : Same [.hif] s0 (answer x0 s0) := by
  unfold answer
  extract_lets +onlyGivenNames -merge -underBinder v1
  clear_value v1
  refine Same.set_hif (by decide) ?_
  exact Same.refl _ _

theorem same_rput (x0 : Nat) (x1 : Nat) (s0 : State) : Same [.regs, .low, .mid] s0 (rput x0 x1 s0) := by
  unfold rput
  refine Same.set_regs (by decide) (by decide) (by decide) ?_
  exact Same.refl _ _

theorem same_putQueue (x0 : Nat) (x1 : List Copy) (s0 : State) : Same [.dp] s0 (putQueue x0 x1 s0) := by
  unfold putQueue
  extract_lets +onlyGivenNames -merge -underBinder v1
  clear_value v1
  refine Same.set_dp (by decide) ?_
  exact Same.refl _ _

theorem same_putFabPort (x0 : Nat) (x1 : FabPort) (s0 : State) : Same [.fab] s0 (putFabPort x0 x1 s0) := by
  unfold putFabPort
  extract_lets +onlyGivenNames -merge -underBinder v1
  clear_value v1
  refine Same.set_fab (by decide) ?_
  exact Same.refl _ _

theorem same_putPipe (x0 : Nat) (x1 : List Pass) (s0 : State) : Same [.dp] s0 (putPipe x0 x1 s0) := by
  unfold putPipe
  extract_lets +onlyGivenNames -merge -underBinder v1
  clear_value v1
  refine Same.set_dp (by decide) ?_
  exact Same.refl _ _

theorem same_putBank (x0 : Nat) (x1 : Option Forging) (s0 : State) : Same [.frg, .act] s0 (putBank x0 x1 s0) := by
  unfold putBank
  extract_lets +onlyGivenNames -merge -underBinder v1 v2
  refine Same.ite ?_ ?_
  · refine Same.set_frg (by decide) (Or.inl (by decide)) ?_
    exact Same.refl _ _
  · refine Same.set_frg (by decide) (Or.inl (by decide)) ?_
    exact Same.refl _ _

theorem same_forgetArmed (x0 : Nat) (s0 : State) : Same [.fab] s0 (forgetArmed x0 s0) := by
  unfold forgetArmed
  extract_lets +onlyGivenNames -merge -underBinder v1
  clear_value v1
  refine Same.set_fab (by decide) ?_
  exact Same.refl _ _

theorem same_putFrag (x0 : Nat) (x1 : FragEntry) (s0 : State) : Same [.dp] s0 (putFrag x0 x1 s0) := by
  unfold putFrag
  extract_lets +onlyGivenNames -merge -underBinder v1
  clear_value v1
  refine Same.set_dp (by decide) ?_
  exact Same.refl _ _

theorem same_putLedger (x0 : Nat) (x1 : Nat) (x2 : Ledger) (s0 : State) : Same [.ldg] s0 (putLedger x0 x1 x2 s0) := by
  unfold putLedger
  extract_lets +onlyGivenNames -merge -underBinder v1
  clear_value v1
  refine Same.set_ldg (by decide) ?_
  exact Same.refl _ _

theorem same_putTxCh (x0 : Nat) (x1 : TxChan) (s0 : State) : Same [.dry] s0 (putTxCh x0 x1 s0) := by
  unfold putTxCh
  extract_lets +onlyGivenNames -merge -underBinder v1
  clear_value v1
  refine Same.set_dry (by decide) ?_
  exact Same.refl _ _

theorem same_slewBias (s0 : State) : Same [.tim] s0 (slewBias s0) := by
  unfold slewBias
  extract_lets +onlyGivenNames -merge -underBinder v1 v2 v3 v4
  clear_value v1
  clear_value v2
  clear_value v3
  clear_value v4
  refine Same.set_tim (by decide) ?_
  exact Same.refl _ _

theorem same_beginClock (s0 : State) : Same [.regs, .tal] s0 (beginClock s0) := by
  unfold beginClock
  extract_lets +onlyGivenNames -merge -underBinder v1
  clear_value v1
  exact Same.upd (Same.refl _ _) rfl (fun p n => by cases p <;> first | exact absurd (by decide) n | rfl)

theorem same_putRecirc (x0 : Nat) (x1 : List (Nat × Option Pass)) (s0 : State) : Same [.dp] s0 (putRecirc x0 x1 s0) := by
  unfold putRecirc
  extract_lets +onlyGivenNames -merge -underBinder v1
  clear_value v1
  refine Same.set_dp (by decide) ?_
  exact Same.refl _ _

theorem same_usePool (x0 : Nat) (x1 : Nat) (s0 : State) : Same [.por] s0 (usePool x0 x1 s0) := by
  unfold usePool
  extract_lets +onlyGivenNames -merge -underBinder v1
  clear_value v1
  refine Same.set_por (by decide) ?_
  exact Same.refl _ _

theorem same_taForget (x0 : Nat) (s0 : State) : Same [.phs] s0 (taForget x0 s0) := by
  unfold taForget
  extract_lets +onlyGivenNames -merge -underBinder v1
  clear_value v1
  refine Same.set_phs (by decide) ?_
  exact Same.refl _ _

theorem same_dropJob (x0 : Nat) (x1 : Nat) (s0 : State) : Same [.tab] s0 (dropJob x0 x1 s0) := by
  unfold dropJob
  extract_lets +onlyGivenNames -merge -underBinder v1
  clear_value v1
  refine Same.set_tab (by decide) ?_
  exact Same.refl _ _

theorem same_setStarved (x0 : Nat) (x1 : Bool) (s0 : State) : Same [.regs] s0 (setStarved x0 x1 s0) := by
  unfold setStarved
  exact same_rput_top _ _ _ (Or.inl (by simp only [A.POR_RX_STARVED]; omega))

theorem same_bistOverwrite (s0 : State) : Same [.tab, .free] s0 (bistOverwrite s0) := by
  unfold bistOverwrite
  extract_lets +onlyGivenNames -merge -underBinder v1
  clear_value v1
  exact Same.upd (Same.refl _ _) rfl (fun p n => by cases p <;> first | exact absurd (by decide) n | rfl)

theorem same_setInstant (x0 : Nat) (s0 : State) : Same [.phs] s0 (setInstant x0 s0) := by
  unfold setInstant
  extract_lets +onlyGivenNames -merge -underBinder v1
  clear_value v1
  refine Same.set_phs (by decide) ?_
  exact Same.refl _ _

theorem same_setClkOk (x0 : Nat) (x1 : Bool) (s0 : State) : Same [.regs] s0 (setClkOk x0 x1 s0) := by
  unfold setClkOk
  refine Same.comp (same_rput_top _ _ _ (Or.inl (by decide))) (by decide) ?_
  exact Same.refl _ _

theorem same_putJob (x0 : Nat) (x1 : Nat) (x2 : MoverJob) (s0 : State) : Same [.tab] s0 (putJob x0 x1 x2 s0) := by
  unfold putJob
  extract_lets +onlyGivenNames -merge -underBinder v1
  clear_value v1
  refine Same.set_tab (by decide) ?_
  exact Same.refl _ _

theorem same_forBits (x0 : Nat) (x1 : Nat) (s0 : State) : Same [.regs, .low, .mid] s0 (forBits x0 x1 s0) := by
  unfold forBits
  refine Same.comp (same_rput _ _ _) (by decide) ?_
  refine Same.set_fresh (by decide) ?_
  exact Same.refl _ _

theorem same_setShaper (x0 : Nat) (x1 : Int) (s0 : State) : Same [.tmg] s0 (setShaper x0 x1 s0) := by
  unfold setShaper
  extract_lets +onlyGivenNames -merge -underBinder v1
  clear_value v1
  refine Same.set_tmg (by decide) ?_
  exact Same.refl _ _

theorem same_loadRegs (x0 : Nat → Bool) (x1 : List (Nat × Nat)) (s0 : State) : Same [.regs, .low, .mid] s0 (loadRegs x0 x1 s0) := by
  unfold loadRegs
  extract_lets +onlyGivenNames -merge -underBinder s1
  have h2 : Same [.regs, .low, .mid] s0 s1 := by
    unfold s1
    refine Same.foldl (fun _ _ h3 => ?_) ?_
    · refine Same.comp (same_rput _ _ _) (by decide) ?_
      exact h3
    exact Same.refl _ _
  clear_value s1
  refine Same.foldl (fun _ _ h4 => ?_) ?_
  · extract_lets +onlyGivenNames -merge -underBinder v5
    clear_value v5
    refine Same.comp (same_rput _ _ _) (by decide) ?_
    exact h4
  exact h2

theorem same_clearMailbox (s0 : State) : Same [.hif] s0 (clearMailbox s0) := by
  unfold clearMailbox
  extract_lets +onlyGivenNames -merge -underBinder v1
  clear_value v1
  refine Same.set_hif (by decide) ?_
  exact Same.refl _ _

theorem same_gateLineStart (x0 : Nat) (x1 : Nat) (s0 : State) : Same [.ldg] s0 (gateLineStart x0 x1 s0) := by
  unfold gateLineStart
  extract_lets +onlyGivenNames -merge -underBinder v1
  clear_value v1
  split
  · refine Same.ite ?_ ?_
    · exact Same.refl _ _
    · refine Same.comp (same_putGate _ _ _ _) (by decide) ?_
      exact Same.refl _ _

theorem same_sendVerify (x0 : Nat) (s0 : State) : Same [.prt] s0 (sendVerify x0 s0) := by
  unfold sendVerify
  extract_lets +onlyGivenNames -merge -underBinder v1
  clear_value v1
  refine Same.comp (same_putPort _ _ _) (by decide) ?_
  exact Same.refl _ _

theorem same_fenceResult (x0 : Nat) (s0 : State) : Same [.regs] s0 (fenceResult x0 s0) := by
  unfold fenceResult
  refine Same.comp (same_rput_top _ _ _ (Or.inl (by decide))) (by decide) ?_
  exact Same.refl _ _

theorem same_writeTail (x0 : Nat) (x1 : List Nat) (s0 : State) : Same [.regs, .mem] s0 (writeTail x0 x1 s0) := by
  induction x1 generalizing s0 with
  | nil => exact Same.refl _ _
  | cons b t ih =>
    unfold writeTail
    extract_lets +onlyGivenNames -merge -underBinder v0
    clear_value v0
    refine Same.comp (ih _) (by decide) ?_
    refine Same.comp (same_rput_top _ _ _ (Or.inl (by simp only [A.POR_RING_TAIL]; omega))) (by decide) ?_
    refine Same.comp (same_memWrite _ _ _) (by decide) ?_
    exact Same.refl _ _

theorem same_putTx (x0 : Nat) (x1 : Tx) (s0 : State) : Same [.dp] s0 (putTx x0 x1 s0) := by
  unfold putTx
  extract_lets +onlyGivenNames -merge -underBinder v1
  clear_value v1
  refine Same.set_dp (by decide) ?_
  exact Same.refl _ _

theorem same_capture (x0 : Nat) (x1 : Nat) (s0 : State) : Same [.regs, .low, .mid] s0 (capture x0 x1 s0) := by
  unfold capture
  refine Same.comp (same_rput _ _ _) (by decide) ?_
  refine Same.set_fresh (by decide) ?_
  exact Same.refl _ _

theorem same_rput64 (x0 : Nat) (x1 : Nat) (x2 : Nat) (s0 : State) : Same [.regs, .low, .mid] s0 (rput64 x0 x1 x2 s0) := by
  unfold rput64
  refine Same.comp (same_rput _ _ _) (by decide) ?_
  refine Same.comp (same_rput _ _ _) (by decide) ?_
  exact Same.refl _ _

theorem same_setSlotHash (x0 : Nat) (x1 : Option (List Byte)) (s0 : State) : Same [.hif] s0 (setSlotHash x0 x1 s0) := by
  unfold setSlotHash
  extract_lets +onlyGivenNames -merge -underBinder v1 v2
  clear_value v1
  clear_value v2
  refine Same.ite ?_ ?_
  · refine Same.set_hif (by decide) ?_
    exact Same.refl _ _
  · refine Same.set_hif (by decide) ?_
    exact Same.refl _ _

theorem same_reenter (x0 : Nat) (x1 : Sending) (s0 : State) : Same [.dp] s0 (reenter x0 x1 s0) := by
  unfold reenter
  extract_lets +onlyGivenNames -merge -underBinder v1 s2
  clear_value v1
  have h3 : Same [.dp] s0 s2 := by
    unfold s2
    split
    · extract_lets +onlyGivenNames -merge -underBinder v4
      clear_value v4
      refine Same.comp (same_putFrame _ _ _) (by decide) ?_
      exact Same.refl _ _
    · exact Same.refl _ _
  clear_value s2
  refine Same.comp (same_putRecirc _ _ _) (by decide) ?_
  exact h3

theorem same_driveOutputs (s0 : State) : Same [.glb] s0 (driveOutputs s0) := by
  unfold driveOutputs
  extract_lets +onlyGivenNames -merge -underBinder v1 v2
  clear_value v1
  refine Same.set_glb (by decide) (Or.inr rfl) (Or.inr rfl) ?_
  exact Same.refl _ _

theorem same_addFrame (x0 : Frame) (s0 : State) : Same [.dp] s0 (addFrame x0 s0).2 := by
  unfold addFrame
  extract_lets +onlyGivenNames -merge -underBinder v1
  clear_value v1
  refine Same.set_dp (by decide) ?_
  exact Same.refl _ _

theorem same_clearForLoad (s0 : State) : Same [.tal] s0 (clearForLoad s0) := by
  unfold clearForLoad
  extract_lets +onlyGivenNames -merge -underBinder v1 v2
  clear_value v1
  clear_value v2
  refine Same.set_tal (by decide) ?_
  exact Same.refl _ _

theorem same_unstarve (s0 : State) : Same [.regs, .por] s0 (unstarve s0) := by
  unfold unstarve
  extract_lets +onlyGivenNames -merge -underBinder v1
  clear_value v1
  refine Same.foldl (fun _ _ h2 => ?_) ?_
  · extract_lets +onlyGivenNames -merge -underBinder v3
    clear_value v3
    refine Same.comp (same_setStarved _ _ _) (by decide) ?_
    refine Same.set_por (by decide) ?_
    exact h2
  exact Same.refl _ _

theorem same_noteTemp (x0 : Nat) (x1 : Int) (s0 : State) : Same [.regs, .hlt] s0 (noteTemp x0 x1 s0) := by
  unfold noteTemp
  extract_lets +onlyGivenNames -merge -underBinder v1
  clear_value v1
  refine Same.comp (same_rput_top _ _ _ (Or.inl (by simp only [A.HLT_TEMP]; omega))) (by decide) ?_
  refine Same.set_hlt (by decide) ?_
  exact Same.refl _ _

theorem same_freeCells (s0 : State) : Same [.dp] s0 (freeCells s0) := by
  unfold freeCells
  extract_lets +onlyGivenNames -merge -underBinder v1 v2
  clear_value v1
  clear_value v2
  refine Same.set_dp (by decide) ?_
  exact Same.refl _ _

theorem same_writeRw (x0 : Nat) (x1 : Nat) (s0 : State) : Same [.regs, .low, .mid] s0 (writeRw x0 x1 s0) := by
  unfold writeRw
  extract_lets +onlyGivenNames -merge -underBinder v1
  clear_value v1
  refine Same.comp (same_rput _ _ _) (by decide) ?_
  exact Same.refl _ _

theorem same_bumpN (x0 : Nat) (x1 : Nat) (x2 : Nat) (s0 : State) : Same [.tal] s0 (bumpN x0 x1 x2 s0) := by
  unfold bumpN
  extract_lets +onlyGivenNames -merge -underBinder v1
  clear_value v1
  refine Same.set_tal (by decide) ?_
  exact Same.refl _ _

theorem same_putRx (x0 : Nat) (x1 : RxChan) (s0 : State) : Same [.dry] s0 (putRx x0 x1 s0) := by
  unfold putRx
  extract_lets +onlyGivenNames -merge -underBinder v1
  clear_value v1
  refine Same.set_dry (by decide) ?_
  exact Same.refl _ _

theorem same_storeDesc (x0 : DataChan) (x1 : Nat) (s0 : State) : Same [.dry] s0 (storeDesc x0 x1 s0) := by
  unfold storeDesc
  split
  · extract_lets +onlyGivenNames -merge -underBinder v1
    clear_value v1
    refine Same.comp (same_putRx _ _ _) (by decide) ?_
    exact Same.refl _ _
  · extract_lets +onlyGivenNames -merge -underBinder v2
    clear_value v2
    refine Same.comp (same_putTxCh _ _ _) (by decide) ?_
    exact Same.refl _ _

theorem same_ppsOutSecond (s0 : State) : Same [.tim] s0 (ppsOutSecond s0) := by
  unfold ppsOutSecond
  extract_lets +onlyGivenNames -merge -underBinder v1
  clear_value v1
  refine Same.ite ?_ ?_
  · refine Same.set_tim (by decide) ?_
    exact Same.refl _ _
  · exact Same.refl _ _

theorem same_putQspiByte (x0 : Nat) (x1 : Byte) (s0 : State) : Same [.regs] s0 (putQspiByte x0 x1 s0) := by
  unfold putQspiByte
  exact same_rput_top _ _ _ (Or.inl (by simp only [A.PIN_QSPI_BUF]; omega))

theorem same_latchInstant (x0 : Nat) (x1 : Nat) (s0 : State) : Same [.regs, .low, .mid] s0 (latchInstant x0 x1 s0) := by
  unfold latchInstant
  refine Same.comp (same_rput _ _ _) (by decide) ?_
  refine Same.comp (same_rput _ _ _) (by decide) ?_
  refine Same.comp (same_rput _ _ _) (by decide) ?_
  exact Same.refl _ _

theorem same_putMask (x0 : Nat) (x1 : Nat) (s0 : State) : Same [.por] s0 (putMask x0 x1 s0) := by
  unfold putMask
  extract_lets +onlyGivenNames -merge -underBinder v1
  clear_value v1
  refine Same.set_por (by decide) ?_
  exact Same.refl _ _

theorem same_eccCapture (x0 : EccWord) (s0 : State) : Same [.regs] s0 (eccCapture x0 s0) := by
  unfold eccCapture
  refine Same.ite ?_ ?_
  · exact Same.refl _ _
  · refine Same.comp (same_rput_top _ _ _ (Or.inl (by decide))) (by decide) ?_
    refine Same.comp (same_capture_top _ _ _ (Or.inl (by decide))) (by decide) ?_
    exact Same.refl _ _

theorem same_putEntry (x0 : Nat) (x1 : Nat) (x2 : Nat) (x3 : Nat) (x4 : List Nat) (s0 : State) : Same [.tab] s0 (putEntry x0 x1 x2 x3 x4 s0) := by
  unfold putEntry
  extract_lets +onlyGivenNames -merge -underBinder v1
  clear_value v1
  refine Same.set_tab (by decide) ?_
  exact Same.refl _ _

theorem same_peerRetune_h {T : List Part} {s x : State} {x1 : State → State} (m : [Part.fry].all (fun p => T.contains p) = true)
    (k : ∀ y, Same T s y → Same T s (x1 y)) (h : Same T s x) : Same T s (peerRetune x1 x) := by
  unfold peerRetune
  extract_lets +onlyGivenNames -merge -underBinder v0
  clear_value v0
  extract_lets +onlyGivenNames -merge -underBinder s1
  have h2 : Same T s s1 := k _ h
  clear_value s1
  exact Same.set_fry (by simpa using m) h2

theorem same_putOver (x0 : Nat) (x1 : List Nat) (s0 : State) : Same [.por] s0 (putOver x0 x1 s0) := by
  unfold putOver
  extract_lets +onlyGivenNames -merge -underBinder v1
  clear_value v1
  refine Same.set_por (by decide) ?_
  exact Same.refl _ _

theorem same_passClocks (x0 : Nat) (s0 : State) : Same [.clk, .tim, .phs] s0 (passClocks x0 s0) := by
  unfold passClocks
  extract_lets +onlyGivenNames -merge -underBinder v1 v2
  clear_value v1
  clear_value v2
  exact Same.upd (Same.refl _ _) rfl (fun p n => by cases p <;> first | exact absurd (by decide) n | rfl)

theorem same_vecEoi (x0 : Nat) (s0 : State) : Same [.regs, .low, .mid] s0 (vecEoi x0 s0) := by
  unfold vecEoi
  extract_lets +onlyGivenNames -merge -underBinder v1
  clear_value v1
  refine Same.comp (same_rput _ _ _) (by decide) ?_
  exact Same.refl _ _

theorem same_ostlerBeat (s0 : State) : Same [.regs, .hif, .mid] s0 (ostlerBeat s0) := by
  unfold ostlerBeat
  extract_lets +onlyGivenNames -merge -underBinder s1 v3
  have h2 : Same [.regs, .hif, .mid] s0 s1 := by
    unfold s1
    refine Same.comp (same_rput_hi _ _ _ (Or.inl (by decide))) (by decide) ?_
    exact Same.refl _ _
  clear_value s1
  clear_value v3
  refine Same.set_hif (by decide) ?_
  exact h2

theorem same_pushHist (s0 : State) : Same [.phs] s0 (pushHist s0) := by
  unfold pushHist
  extract_lets +onlyGivenNames -merge -underBinder v1 v2 v3 v4
  clear_value v1
  clear_value v2
  clear_value v3
  clear_value v4
  refine Same.set_phs (by decide) ?_
  exact Same.refl _ _

theorem same_dropTables (s0 : State) : Same [.tab, .fry] s0 (dropTables s0) := by
  unfold dropTables
  extract_lets +onlyGivenNames -merge -underBinder v1 v2
  clear_value v1
  clear_value v2
  exact Same.upd (Same.refl _ _) rfl (fun p n => by cases p <;> first | exact absurd (by decide) n | rfl)

theorem same_sendPending (s0 : State) : Same [.hif] s0 (sendPending s0) := by
  unfold sendPending
  extract_lets +onlyGivenNames -merge -underBinder v1 v2
  clear_value v1
  clear_value v2
  refine Same.ite ?_ ?_
  · exact Same.refl _ _
  · refine Same.set_hif (by decide) ?_
    exact Same.refl _ _

theorem same_setTrk (x0 : Nat) (x1 : Tracker) (s0 : State) : Same [.tim] s0 (setTrk x0 x1 s0) := by
  unfold setTrk
  extract_lets +onlyGivenNames -merge -underBinder v1 v2
  clear_value v1
  clear_value v2
  refine Same.ite ?_ ?_
  · refine Same.set_tim (by decide) ?_
    exact Same.refl _ _
  · refine Same.set_tim (by decide) ?_
    exact Same.refl _ _

theorem same_setAdj (x0 : Int) (s0 : State) : Same [.tim, .phs] s0 (setAdj x0 s0) := by
  unfold setAdj
  extract_lets +onlyGivenNames -merge -underBinder v1
  clear_value v1
  refine Same.ite ?_ ?_
  · exact Same.refl _ _
  · refine Same.comp (same_pushHist _) (by decide) ?_
    refine Same.set_tim (by decide) ?_
    exact Same.refl _ _

theorem same_coldReset (s0 : State) :
    Same [.regs, .clk, .glb, .frg, .hif, .tal, .gbk, .tim, .phs, .ldg, .fab, .por, .dry, .hlt, .pin, .prt, .dp, .tab, .fry, .tmg, .base, .rst, .act, .low, .mid]
      s0 (coldReset s0) := by
  exact ⟨fun p n => by cases p <;> first | exact absurd (by decide) n | rfl, fun w => w⟩

theorem same_putData (x0 : Nat) (x1 : List Nat) (s0 : State) : Same [.regs] s0 (putData x0 x1 s0) := by
  unfold putData
  refine Same.foldl (fun _ _ h1 => ?_) ?_
  · refine Same.comp (same_rput_top _ _ _ (Or.inl (by simp only [A.TBL_DATA]; omega))) (by decide) ?_
    exact h1
  exact Same.refl _ _

theorem same_hostEntry (x0 : Nat) (x1 : Nat) (x2 : Nat) (x3 : List Nat) (s0 : State) : Same [.hlt, .tab] s0 (hostEntry x0 x1 x2 x3 s0) := by
  unfold hostEntry
  extract_lets +onlyGivenNames -merge -underBinder v1
  clear_value v1
  refine Same.comp (same_putEntry _ _ _ _ _ _) (by decide) ?_
  refine Same.set_hlt (by decide) ?_
  exact Same.refl _ _

theorem same_setCur (x0 : DataChan) (x1 : Nat) (s0 : State) : Same [.regs] s0 (setCur x0 x1 s0) := by
  unfold setCur
  refine Same.comp (same_rput64_top _ _ _ _ (Or.inl (Nat.le_trans (dryBase_hi _) (Nat.le_add_right _ _))) (Or.inl (Nat.le_trans (dryBase_hi _) (Nat.le_add_right _ _)))) (by decide) ?_
  exact Same.refl _ _

theorem same_keepFresh (x0 : Fld) (x1 : Nat → Nat) (s0 : State) : Same [.regs] s0 (keepFresh x0 x1 s0) := by
  unfold keepFresh
  extract_lets +onlyGivenNames -merge -underBinder v1
  clear_value v1
  refine Same.set_fresh (by decide) ?_
  exact Same.refl _ _

theorem same_noteVolt (x0 : Nat) (x1 : Nat) (s0 : State) : Same [.regs, .hlt] s0 (noteVolt x0 x1 s0) := by
  unfold noteVolt
  extract_lets +onlyGivenNames -merge -underBinder v1
  clear_value v1
  refine Same.comp (same_rput_top _ _ _ (Or.inl (by simp only [A.HLT_VOLT]; omega))) (by decide) ?_
  refine Same.set_hlt (by decide) ?_
  exact Same.refl _ _

theorem same_dropHead (s0 : State) : Same [.fab] s0 (dropHead s0) := by
  unfold dropHead
  extract_lets +onlyGivenNames -merge -underBinder v1
  clear_value v1
  refine Same.set_fab (by decide) ?_
  exact Same.refl _ _

theorem same_spareBank (x0 : Nat) (s0 : State) : Same [.hlt] s0 (spareBank x0 s0) := by
  unfold spareBank
  refine Same.ite ?_ ?_
  · exact Same.refl _ _
  · split
    · extract_lets +onlyGivenNames -merge -underBinder v1
      clear_value v1
      refine Same.set_hlt (by decide) ?_
      exact Same.refl _ _
    · extract_lets +onlyGivenNames -merge -underBinder v2
      clear_value v2
      refine Same.set_hlt (by decide) ?_
      exact Same.refl _ _

theorem same_spillWrite (x0 : Nat) (x1 : Nat) (x2 : Nat) (x3 : List GbkRecord) (s0 : State) : Same [.mem] s0 (spillWrite x0 x1 x2 x3 s0) := by
  unfold spillWrite
  extract_lets +onlyGivenNames -merge -underBinder v1 v2 v3 s4
  clear_value v1
  clear_value v2
  clear_value v3
  have h5 : Same [.mem] s0 s4 := by
    unfold s4
    refine Same.foldl (fun _ _ h6 => ?_) ?_
    · refine Same.comp (same_memWrite _ _ _) (by decide) ?_
      exact h6
    exact Same.refl _ _
  clear_value s4
  refine Same.foldl (fun _ _ h7 => ?_) ?_
  · refine Same.comp (same_memWrite _ _ _) (by decide) ?_
    exact h7
  exact h5

theorem same_putIngress (x0 : Nat) (x1 : List Nat) (s0 : State) : Same [.dp] s0 (putIngress x0 x1 s0) := by
  unfold putIngress
  extract_lets +onlyGivenNames -merge -underBinder v1
  clear_value v1
  refine Same.set_dp (by decide) ?_
  exact Same.refl _ _

theorem same_otpProgram (x0 : Nat) (x1 : List Nat) (x2 : Bool) (s0 : State) : Same [.hif, .free] s0 (otpProgram x0 x1 x2 s0) := by
  unfold otpProgram
  extract_lets +onlyGivenNames -merge -underBinder v1 v2 v3 v4
  clear_value v1
  clear_value v2
  clear_value v3
  clear_value v4
  refine Same.ite ?_ ?_
  · refine Same.comp (same_setSlotHash _ _ _) (by decide) ?_
    exact Same.refl _ _
  · refine Same.ite ?_ ?_
    · refine Same.ite ?_ ?_
      · refine Same.set_hif (by decide) ?_
        exact Same.refl _ _
      · exact Same.upd (Same.refl _ _) rfl (fun p n => by cases p <;> first | exact absurd (by decide) n | rfl)
    · refine Same.ite ?_ ?_
      · exact Same.refl _ _
      · refine Same.ite ?_ ?_
        · refine Same.comp (same_setRevoked _ _) (by decide) ?_
          exact Same.refl _ _
        · refine Same.set_hif (by decide) ?_
          exact Same.refl _ _

theorem same_setRate (x0 : Nat) (s0 : State) : Same [.phs] s0 (setRate x0 s0) := by
  unfold setRate
  extract_lets +onlyGivenNames -merge -underBinder v1
  clear_value v1
  refine Same.comp (same_pushHist _) (by decide) ?_
  refine Same.set_phs (by decide) ?_
  exact Same.refl _ _

theorem same_gpioPulseEnd (x0 : Nat) (s0 : State) : Same [.pin] s0 (gpioPulseEnd x0 s0) := by
  unfold gpioPulseEnd
  split
  · extract_lets +onlyGivenNames -merge -underBinder v1
    clear_value v1
    refine Same.ite ?_ ?_
    · refine Same.set_pin (by decide) ?_
      exact Same.refl _ _
    · exact Same.refl _ _
  · exact Same.refl _ _

theorem same_writeBurst (x0 : Nat) (x1 : RxWork) (s0 : State) : Same [.mem, .dry] s0 (writeBurst x0 x1 s0) := by
  unfold writeBurst
  split
  · split
    · extract_lets +onlyGivenNames -merge -underBinder v1
      clear_value v1
      refine Same.comp (same_putRx _ _ _) (by decide) ?_
      exact Same.refl _ _
    · extract_lets +onlyGivenNames -merge -underBinder v2 v3 v4
      clear_value v2
      clear_value v3
      clear_value v4
      refine Same.comp (same_memWrite _ _ _) (by decide) ?_
      refine Same.comp (same_putRx _ _ _) (by decide) ?_
      exact Same.refl _ _

theorem same_captureCounter (x0 : Nat) (s0 : State) : Same [.regs] s0 (captureCounter x0 s0) := by
  unfold captureCounter
  extract_lets +onlyGivenNames -merge -underBinder v1 v2 v3 v4 s5
  clear_value v1
  clear_value v2
  clear_value v3
  clear_value v4
  have h6 : Same [.regs] s0 s5 := by
    unfold s5
    refine Same.comp (same_rput_top _ _ _ (Or.inl (by decide))) (by decide) ?_
    exact Same.refl _ _
  clear_value s5
  refine Same.comp (same_rput64_top _ _ _ _ (Or.inl (by decide)) (Or.inl (by decide))) (by decide) ?_
  exact h6

theorem same_refillCache (x0 : Nat) (s0 : State) : Same [.regs, .por, .dry] s0 (refillCache x0 s0) := by
  unfold refillCache
  extract_lets +onlyGivenNames -merge -underBinder v1 s2 v4
  clear_value v1
  have h3 : Same [.regs, .por, .dry] s0 s2 := by
    unfold s2
    refine Same.comp (same_readTaken _ _) (by decide) ?_
    exact Same.refl _ _
  clear_value s2
  clear_value v4
  refine Same.ite ?_ ?_
  · exact Same.refl _ _
  · refine Same.comp (same_rput_top _ _ _ (Or.inl (by simp only [A.POR_RING_HEAD]; omega))) (by decide) ?_
    refine Same.comp (same_putCache _ _ _) (by decide) ?_
    exact h3

theorem same_writeSpillCtl (x0 : Nat) (s0 : State) : Same [.regs, .gbk] s0 (writeSpillCtl x0 s0) := by
  unfold writeSpillCtl
  extract_lets +onlyGivenNames -merge -underBinder v1 s2 v4
  clear_value v1
  have h3 : Same [.regs, .gbk] s0 s2 := by
    unfold s2
    refine Same.comp (same_writeRw_top _ _ _ (Or.inl (by decide))) (by decide) ?_
    exact Same.refl _ _
  clear_value s2
  clear_value v4
  refine Same.ite ?_ ?_
  · refine Same.set_gbk (by decide) ?_
    exact h3
  · exact h3

theorem same_tblDoHitScan (x0 : Nat) (x1 : Nat) (x2 : Nat) (s0 : State) : Same [.regs, .tab] s0 (tblDoHitScan x0 x1 x2 s0).2 := by
  unfold tblDoHitScan
  extract_lets +onlyGivenNames -merge -underBinder v1 v2 v3 v4 v5 v6 v7
  clear_value v1
  clear_value v2
  clear_value v3
  clear_value v4
  clear_value v5
  clear_value v6
  refine Same.ite2 ?_ ?_
  · exact Same.refl _ _
  · refine Same.comp (same_putData _ _ _) (by decide) ?_
    refine Same.foldl (fun _ _ h8 => ?_) ?_
    · unfold v7
      extract_lets +onlyGivenNames -merge -underBinder v9 v10
      clear_value v9
      clear_value v10
      refine Same.comp (same_putEntry _ _ _ _ _ _) (by decide) ?_
      exact h8
    exact Same.refl _ _

theorem same_setDisabling (x0 : DataChan) (x1 : Bool) (s0 : State) : Same [.dry] s0 (setDisabling x0 x1 s0) := by
  unfold setDisabling
  split
  · extract_lets +onlyGivenNames -merge -underBinder v1
    clear_value v1
    refine Same.comp (same_putRx _ _ _) (by decide) ?_
    exact Same.refl _ _
  · extract_lets +onlyGivenNames -merge -underBinder v2
    clear_value v2
    refine Same.comp (same_putTxCh _ _ _) (by decide) ?_
    exact Same.refl _ _

theorem same_showBases (s0 : State) : Same [.regs] s0 (showBases s0) := by
  unfold showBases
  refine Same.foldl (fun _ _ h1 => ?_) ?_
  · extract_lets +onlyGivenNames -merge -underBinder v2
    clear_value v2
    refine Same.comp (same_rput_top _ _ _ (Or.inl (by simp only [A.LDG_BASE_SUB]; omega))) (by decide) ?_
    refine Same.comp (same_rput_top _ _ _ (Or.inl (by simp only [A.LDG_BASE_LO]; omega))) (by decide) ?_
    refine Same.comp (same_rput_top _ _ _ (Or.inl (by simp only [A.LDG_BASE_HI]; omega))) (by decide) ?_
    exact h1
  exact Same.refl _ _

theorem same_fput (x0 : Fld) (x1 : Nat) (s0 : State) : Same [.regs, .low, .mid] s0 (fput x0 x1 s0) := by
  unfold fput
  refine Same.comp (same_rput _ _ _) (by decide) ?_
  exact Same.refl _ _

theorem same_excCapRead (x0 : Nat) (s0 : State) : Same [.regs, .hif] s0 (excCapRead x0 s0) := by
  unfold excCapRead
  extract_lets +onlyGivenNames -merge -underBinder v1
  clear_value v1
  refine Same.comp (same_rput_top _ _ _ (Or.inl (by simp only [A.HTH_EXC_CAP]; omega))) (by decide) ?_
  refine Same.set_hif (by decide) ?_
  exact Same.refl _ _

theorem same_enterFirst (x0 : Nat) (x1 : Nat) (s0 : State) : Same [.dp] s0 (enterFirst x0 x1 s0) := by
  unfold enterFirst
  split
  · exact Same.refl _ _
  · refine Same.comp (same_putPipe _ _ _) (by decide) ?_
    refine Same.comp (same_putFrame _ _ _) (by decide) ?_
    exact Same.refl _ _

theorem same_bump (x0 : Nat) (x1 : Nat) (s0 : State) : Same [.tal] s0 (bump x0 x1 s0) := by
  unfold bump
  refine Same.comp (same_bumpN _ _ _ _) (by decide) ?_
  exact Same.refl _ _

theorem same_latchTime (x0 : Nat) (x1 : Nat) (s0 : State) : Same [.regs, .low, .mid] s0 (latchTime x0 x1 s0) := by
  unfold latchTime
  refine Same.comp (same_rput _ _ _) (by decide) ?_
  refine Same.comp (same_rput _ _ _) (by decide) ?_
  refine Same.comp (same_rput _ _ _) (by decide) ?_
  refine Same.comp (same_rput _ _ _) (by decide) ?_
  exact Same.refl _ _

theorem same_emLookup (x0 : Nat) (x1 : Nat) (x2 : List Byte) (s0 : State) : Same [.tal, .tab] s0 (emLookup x0 x1 x2 s0).2 := by
  unfold emLookup
  split
  · extract_lets +onlyGivenNames -merge -underBinder v1 v2
    clear_value v1
    clear_value v2
    refine Same.comp (same_bump _ _ _) (by decide) ?_
    refine Same.comp (same_putEntry _ _ _ _ _ _) (by decide) ?_
    exact Same.refl _ _
  · exact Same.refl _ _

theorem same_latchTimeOp (s0 : State) : Same [.regs] s0 (latchTimeOp s0) := by
  unfold latchTimeOp
  refine Same.comp (same_fput_top _ _ _ (Or.inl (by decide))) (by decide) ?_
  refine Same.comp (same_latchTime_top _ _ _ (by decide)) (by decide) ?_
  exact Same.refl _ _

theorem same_shaperTake (x0 : Nat) (x1 : Nat) (s0 : State) : Same [.tmg] s0 (shaperTake x0 x1 s0) := by
  unfold shaperTake
  refine Same.ite ?_ ?_
  · refine Same.comp (same_setShaper _ _ _) (by decide) ?_
    exact Same.refl _ _
  · exact Same.refl _ _

theorem same_fabricWake (s0 : State) : Same [.regs, .fab] s0 (fabricWake s0) := by
  unfold fabricWake
  extract_lets +onlyGivenNames -merge -underBinder v1 s2
  clear_value v1
  have h3 : Same [.regs, .fab] s0 s2 := by
    unfold s2
    refine Same.set_fab (by decide) ?_
    exact Same.refl _ _
  clear_value s2
  refine Same.comp (same_fput_top _ _ _ (Or.inl (by decide))) (by decide) ?_
  exact h3

theorem same_returnCharges (x0 : Nat) (x1 : Nat) (x2 : Copy) (s0 : State) : Same [.regs, .tmg] s0 (returnCharges x0 x1 x2 s0) := by
  unfold returnCharges
  extract_lets +onlyGivenNames -merge -underBinder v1 s2 s4 s6 s8
  clear_value v1
  have h3 : Same [.regs, .tmg] s0 s2 := by
    unfold s2
    refine Same.set_tmg (by decide) ?_
    exact Same.refl _ _
  clear_value s2
  have h5 : Same [.regs, .tmg] s0 s4 := by
    unfold s4
    refine Same.comp (same_fput_top _ _ _ (Or.inl (by simp only [F.TM_Q_DEPTH_DEPTH]; omega))) (by decide) ?_
    exact h3
  clear_value s4
  have h7 : Same [.regs, .tmg] s0 s6 := by
    unfold s6
    refine Same.comp (same_fput_top _ _ _ (Or.inl (by simp only [F.TM_PORT_USED_USED]; omega))) (by decide) ?_
    exact h5
  clear_value s6
  have h9 : Same [.regs, .tmg] s0 s8 := by
    unfold s8
    refine Same.comp (same_fput_top _ _ _ (Or.inl (by decide))) (by decide) ?_
    exact h7
  clear_value s8
  refine Same.comp (same_fput_top _ _ _ (Or.inl (by decide))) (by decide) ?_
  exact h9

theorem same_flashActs (x0 : Nat) (x1 : Nat) (x2 : Nat) (s0 : State) : Same [.frg] s0 (flashActs x0 x1 x2 s0) := by
  unfold flashActs
  refine Same.ite ?_ ?_
  · refine Same.foldl (fun _ _ h1 => ?_) ?_
    · extract_lets +onlyGivenNames -merge -underBinder v2
      clear_value v2
      refine Same.comp (same_putFlash _ _ _) (by decide) ?_
      exact h1
    exact Same.refl _ _
  · refine Same.ite ?_ ?_
    · refine Same.comp (same_eraseFlash _ _ _) (by decide) ?_
      exact Same.refl _ _
    · refine Same.ite ?_ ?_
      · refine Same.comp (same_eraseFlash _ _ _) (by decide) ?_
        exact Same.refl _ _
      · refine Same.ite ?_ ?_
        · refine Same.comp (same_eraseFlash _ _ _) (by decide) ?_
          exact Same.refl _ _
        · exact Same.refl _ _

theorem same_cfgPut (x0 : CfgReg) (x1 : Nat) (s0 : State) : Same [.regs, .hif, .mid] s0 (cfgPut x0 x1 s0) := by
  unfold cfgPut
  split
  · extract_lets +onlyGivenNames -merge -underBinder v1
    clear_value v1
    refine Same.set_hif (by decide) ?_
    exact Same.refl _ _
  · extract_lets +onlyGivenNames -merge -underBinder v2
    clear_value v2
    refine Same.set_hif (by decide) ?_
    exact Same.refl _ _
  · extract_lets +onlyGivenNames -merge -underBinder v3 v4 v5
    clear_value v3
    clear_value v4
    clear_value v5
    refine Same.set_hif (by decide) ?_
    exact Same.refl _ _
  · extract_lets +onlyGivenNames -merge -underBinder v6
    clear_value v6
    refine Same.set_hif (by decide) ?_
    exact Same.refl _ _
  · extract_lets +onlyGivenNames -merge -underBinder v7
    clear_value v7
    refine Same.set_hif (by decide) ?_
    exact Same.refl _ _
  · refine Same.comp (same_sendPending _) (by decide) ?_
    refine Same.comp (same_fput_hi _ _ _ (Or.inl (by decide))) (by decide) ?_
    refine Same.comp (same_fput_hi _ _ _ (Or.inl (by decide))) (by decide) ?_
    exact Same.refl _ _
  · extract_lets +onlyGivenNames -merge -underBinder v8
    clear_value v8
    refine Same.set_hif (by decide) ?_
    exact Same.refl _ _
  · extract_lets +onlyGivenNames -merge -underBinder v9
    clear_value v9
    refine Same.set_hif (by decide) ?_
    exact Same.refl _ _
  · extract_lets +onlyGivenNames -merge -underBinder v10
    clear_value v10
    refine Same.set_hif (by decide) ?_
    exact Same.refl _ _
  · exact Same.refl _ _

theorem same_forgetAhead (x0 : DataChan) (s0 : State) : Same [.dry] s0 (forgetAhead x0 s0) := by
  unfold forgetAhead
  split
  · extract_lets +onlyGivenNames -merge -underBinder v1
    clear_value v1
    refine Same.comp (same_putRx _ _ _) (by decide) ?_
    exact Same.refl _ _
  · extract_lets +onlyGivenNames -merge -underBinder v2
    clear_value v2
    refine Same.comp (same_putTxCh _ _ _) (by decide) ?_
    exact Same.refl _ _

theorem same_harvestAbort (s0 : State) : Same [.regs, .tal] s0 (harvestAbort s0) := by
  unfold harvestAbort
  split
  · exact Same.refl _ _
  · extract_lets +onlyGivenNames -merge -underBinder v1
    clear_value v1
    refine Same.comp (same_fput_top _ _ _ (Or.inl (by decide))) (by decide) ?_
    refine Same.comp (same_fput_top _ _ _ (Or.inl (by decide))) (by decide) ?_
    refine Same.comp (same_fput_top _ _ _ (Or.inl (by decide))) (by decide) ?_
    refine Same.set_tal (by decide) ?_
    exact Same.refl _ _

theorem same_setQual (x0 : Nat) (x1 : Bool) (s0 : State) : Same [.regs] s0 (setQual x0 x1 s0) := by
  unfold setQual
  refine Same.comp (same_rput_top _ _ _ (Or.inl (by decide))) (by decide) ?_
  exact Same.refl _ _

theorem same_showCond (x0 : Nat) (s0 : State) : Same [.regs, .mid] s0 (showCond x0 s0) := by
  unfold showCond
  extract_lets +onlyGivenNames -merge -underBinder v1 v2 s3 s5 s7
  clear_value v1
  clear_value v2
  have h4 : Same [.regs, .mid] s0 s3 := by
    unfold s3
    refine Same.comp (same_fput_hi _ _ _ (Or.inl (by simp only [F.PRT_STATUS_SIGNAL]; omega))) (by decide) ?_
    refine Same.comp (same_fput_hi _ _ _ (Or.inl (by simp only [F.PRT_STATUS_BLOCK_LOCK]; omega))) (by decide) ?_
    exact Same.refl _ _
  clear_value s3
  have h6 : Same [.regs, .mid] s0 s5 := by
    unfold s5
    refine Same.comp (same_fput_hi _ _ _ (Or.inl (by simp only [F.PRT_STATUS_ALIGN_LOCK]; omega))) (by decide) ?_
    exact h4
  clear_value s5
  have h8 : Same [.regs, .mid] s0 s7 := by
    unfold s7
    refine Same.comp (same_fput_hi _ _ _ (Or.inl (by simp only [F.PRT_STATUS_FEC_LOCK]; omega))) (by decide) ?_
    exact h6
  clear_value s7
  refine Same.comp (same_fput_hi _ _ _ (Or.inl (by simp only [F.PRT_STATUS_LOCAL_FAULT]; omega))) (by decide) ?_
  refine Same.comp (same_fput_hi _ _ _ (Or.inl (by simp only [F.PRT_STATUS_REMOTE_FAULT]; omega))) (by decide) ?_
  exact h8

theorem same_putWords (x0 : Nat) (x1 : List Byte) (s0 : State) : Same [.regs, .low, .mid] s0 (putWords x0 x1 s0) := by
  unfold putWords
  refine Same.foldl (fun _ _ h1 => ?_) ?_
  · refine Same.comp (same_rput _ _ _) (by decide) ?_
    exact h1
  exact Same.refl _ _

theorem same_preempt (x0 : Nat) (s0 : State) : Same [.dp] s0 (preempt x0 s0) := by
  unfold preempt
  extract_lets +onlyGivenNames -merge -underBinder v1
  clear_value v1
  split
  · exact Same.refl _ _
  · refine Same.ite ?_ ?_
    · exact Same.refl _ _
    · split
      · exact Same.refl _ _
      · extract_lets +onlyGivenNames -merge -underBinder v2
        clear_value v2
        refine Same.comp (same_putTx _ _ _) (by decide) ?_
        exact Same.refl _ _

theorem same_glbResult (x0 : Nat) (s0 : State) : Same [.regs, .low] s0 (glbResult x0 s0) := by
  unfold glbResult
  refine Same.comp (same_fput_lo _ _ _ (by decide)) (by decide) ?_
  exact Same.refl _ _

theorem same_gateCtr (x0 : Nat) (x1 : Nat) (s0 : State) : Same [.tal] s0 (gateCtr x0 x1 s0) := by
  unfold gateCtr
  refine Same.comp (same_bump _ _ _) (by decide) ?_
  exact Same.refl _ _

theorem same_gradeThresholds (s0 : State) : Same [.regs] s0 (gradeThresholds s0) := by
  unfold gradeThresholds
  refine Same.ite ?_ ?_
  · refine Same.comp (same_rput_top _ _ _ (Or.inl (by decide))) (by decide) ?_
    refine Same.comp (same_rput_top _ _ _ (Or.inl (by decide))) (by decide) ?_
    exact Same.refl _ _
  · refine Same.comp (same_rput_top _ _ _ (Or.inl (by decide))) (by decide) ?_
    refine Same.comp (same_rput_top _ _ _ (Or.inl (by decide))) (by decide) ?_
    exact Same.refl _ _

theorem same_streamCtr (x0 : Nat) (x1 : Nat) (s0 : State) : Same [.tal] s0 (streamCtr x0 x1 s0) := by
  unfold streamCtr
  refine Same.comp (same_bump _ _ _) (by decide) ?_
  exact Same.refl _ _

theorem same_dropSuspended (x0 : Nat) (x1 : Copy → Bool) (s0 : State) : Same [.regs, .dp, .tmg] s0 (dropSuspended x0 x1 s0) := by
  unfold dropSuspended
  split
  · extract_lets +onlyGivenNames -merge -underBinder v1
    clear_value v1
    refine Same.ite ?_ ?_
    · refine Same.comp (same_putTx _ _ _) (by decide) ?_
      refine Same.comp (same_returnCharges _ _ _ _) (by decide) ?_
      exact Same.refl _ _
    · exact Same.refl _ _
  · exact Same.refl _ _

theorem same_kixonPayload (x0 : Nat) (x1 : Frame) (x2 : List Byte) (s0 : State) : Same [.tal, .fab] s0 (kixonPayload x0 x1 x2 s0).2 := by
  unfold kixonPayload
  extract_lets +onlyGivenNames -merge -underBinder v1 v2 v3 v4 v5
  clear_value v1
  clear_value v2
  clear_value v3
  clear_value v4
  clear_value v5
  refine Same.ite2 ?_ ?_
  · exact Same.refl _ _
  · refine Same.ite2 ?_ ?_
    · refine Same.ite ?_ ?_
      · refine Same.comp (same_putFabPort _ _ _) (by decide) ?_
        exact Same.refl _ _
      · exact Same.refl _ _
    · refine Same.ite2 ?_ ?_
      · exact Same.refl _ _
      · refine Same.ite2 ?_ ?_
        · refine Same.ite2 ?_ ?_
          · refine Same.comp (same_bump _ _ _) (by decide) ?_
            exact Same.refl _ _
          · refine Same.comp (same_bump _ _ _) (by decide) ?_
            exact Same.refl _ _
        · exact Same.refl _ _

theorem same_otpBroken (x0 : Nat × Nat × Nat × List Nat × Nat) (s0 : State) : Same [.hif, .free] s0 (otpBroken x0 s0) := by
  unfold otpBroken
  split
  · extract_lets +onlyGivenNames -merge -underBinder s1
    have h2 : Same [.hif, .free] s0 s1 := by
      unfold s1
      refine Same.set_free (by decide) ?_
      exact Same.refl _ _
    clear_value s1
    refine Same.ite ?_ ?_
    · exact Same.refl _ _
    · split
      · exact h2
      · extract_lets +onlyGivenNames -merge -underBinder v3
        clear_value v3
        refine Same.ite ?_ ?_
        · refine Same.comp (same_setSlotHash _ _ _) (by decide) ?_
          exact h2
        · refine Same.ite ?_ ?_
          · refine Same.set_hif (by decide) ?_
            exact h2
          · refine Same.comp (same_otpProgram _ _ _ _) (by decide) ?_
            exact h2

theorem same_emLookups (x0 : HearthStruct) (x1 : Nat) (x2 : List Byte) (x3 : Nat) (x4 : Bool) (x5 : List Nat) (x6 : Act)
    (s0 : State) : Same [.tal, .tab] s0 (emLookups x0 x1 x2 x3 x4 x5 x6 s0).2 := by
  induction x5 generalizing x6 s0 with
  | nil => exact Same.refl _ _
  | cons a l ih =>
    unfold emLookups
    split
    rename_i a1 s2 e4
    have h3 : Same [.tal, .tab] s0 s2 := Same.of2 e4 (Same.comp (same_emLookup _ _ _ _) (by decide) (Same.refl _ _))
    split
    · exact Same.comp (ih _ _) (by decide) h3
    · exact Same.comp (ih _ _) (by decide) h3

theorem same_gbkRetune (x0 : Nat) (x1 : Nat) (x2 : Nat) (s0 : State) : Same [.regs, .glb, .gbk, .low, .mid] s0 (gbkRetune x0 x1 x2 s0) := by
  unfold gbkRetune
  extract_lets +onlyGivenNames -merge -underBinder v1 v2 s3 v5 v6
  clear_value v1
  clear_value v2
  have h4 : Same [.regs, .glb, .gbk, .low, .mid] s0 s3 := by
    unfold s3
    refine Same.comp (same_writeRw _ _ _) (by decide) ?_
    refine Same.comp (same_keepInForce _ _) (by decide) ?_
    exact Same.refl _ _
  clear_value s3
  clear_value v5
  clear_value v6
  refine Same.set_gbk (by decide) ?_
  exact h4

theorem same_latchPhaseOp (s0 : State) : Same [.regs] s0 (latchPhaseOp s0) := by
  unfold latchPhaseOp
  refine Same.comp (same_fput_top _ _ _ (Or.inl (by decide))) (by decide) ?_
  refine Same.comp (same_latchTime_top _ _ _ (by decide)) (by decide) ?_
  refine Same.comp (same_latchInstant_top _ _ _ (by decide)) (by decide) ?_
  exact Same.refl _ _

theorem same_setFar (x0 : Nat) (x1 : Bool) (s0 : State) : Same [.regs] s0 (setFar x0 x1 s0) := by
  unfold setFar
  refine Same.comp (same_rput_top _ _ _ (Or.inl (by decide))) (by decide) ?_
  exact Same.refl _ _

theorem same_gateTest (x0 : Nat) (x1 : Frame) (x2 : Nat) (s0 : State) : Same [.tal, .ldg] s0 (gateTest x0 x1 x2 s0).2.2 := by
  unfold gateTest
  extract_lets +onlyGivenNames -merge -underBinder v1
  clear_value v1
  refine Same.ite3 ?_ ?_
  · exact Same.refl _ _
  · split
    · extract_lets +onlyGivenNames -merge -underBinder v2
      clear_value v2
      refine Same.ite3 ?_ ?_
      · refine Same.comp (same_gateCtr _ _ _) (by decide) ?_
        exact Same.refl _ _
      · refine Same.ite3 ?_ ?_
        · refine Same.comp (same_gateCtr _ _ _) (by decide) ?_
          refine Same.comp (same_putGate _ _ _ _) (by decide) ?_
          exact Same.refl _ _
        · refine Same.comp (same_gateCtr _ _ _) (by decide) ?_
          refine Same.comp (same_putGate _ _ _ _) (by decide) ?_
          exact Same.refl _ _

theorem same_meterUpdate (x0 : Nat) (x1 : Nat) (x2 : Frame) (x3 : Pass) (s0 : State) : Same [.tal, .tab] s0 (meterUpdate x0 x1 x2 x3 s0).2 := by
  unfold meterUpdate
  extract_lets +onlyGivenNames -merge -underBinder v1 v2
  clear_value v1
  clear_value v2
  split
  · split
    · extract_lets +onlyGivenNames -merge -underBinder v3
      clear_value v3
      refine Same.comp (same_bumpN _ _ _ _) (by decide) ?_
      refine Same.comp (same_bump _ _ _) (by decide) ?_
      refine Same.comp (same_putEntry _ _ _ _ _ _) (by decide) ?_
      exact Same.refl _ _

theorem same_loadPause (x0 : Nat) (x1 : Nat) (s0 : State) : Same [.prt] s0 (loadPause x0 x1 s0) := by
  unfold loadPause
  extract_lets +onlyGivenNames -merge -underBinder v1
  clear_value v1
  refine Same.comp (same_putPort _ _ _) (by decide) ?_
  exact Same.refl _ _

theorem same_startPhase (s0 : State) : Same [.phs] s0 (startPhase s0) := by
  unfold startPhase
  extract_lets +onlyGivenNames -merge -underBinder v1
  clear_value v1
  refine Same.ite ?_ ?_
  · exact Same.refl _ _
  · refine Same.comp (same_setRate _ _) (by decide) ?_
    refine Same.comp (same_setInstant _ _) (by decide) ?_
    refine Same.set_phs (by decide) ?_
    exact Same.refl _ _

theorem same_spillCache (x0 : Nat) (s0 : State) : Same [.regs, .mem, .por, .dry] s0 (spillCache x0 s0) := by
  unfold spillCache
  extract_lets +onlyGivenNames -merge -underBinder s1
  have h2 : Same [.regs, .mem, .por, .dry] s0 s1 := by
    unfold s1
    refine Same.comp (same_writeTaken _ _) (by decide) ?_
    exact Same.refl _ _
  clear_value s1
  refine Same.ite ?_ ?_
  · exact Same.refl _ _
  · split
    · refine Same.comp (same_writeTail _ _ _) (by decide) ?_
      refine Same.comp (same_putOver _ _ _) (by decide) ?_
      exact h2
    · refine Same.comp (same_writeTail _ _ _) (by decide) ?_
      refine Same.comp (same_putCache _ _ _) (by decide) ?_
      exact h2

theorem same_tblNext (x0 : Nat) (s0 : State) : Same [.tab, .free] s0 (tblNext x0 s0) := by
  unfold tblNext
  split
  · refine Same.comp (same_tblTake _ _) (by decide) ?_
    exact Same.refl _ _
  · extract_lets +onlyGivenNames -merge -underBinder v1
    clear_value v1
    refine Same.set_tab (by decide) ?_
    exact Same.refl _ _

theorem same_reasmError (x0 : Nat) (s0 : State) : Same [.tal, .prt] s0 (reasmError x0 s0) := by
  unfold reasmError
  extract_lets +onlyGivenNames -merge -underBinder v1
  clear_value v1
  refine Same.comp (same_bump _ _ _) (by decide) ?_
  refine Same.comp (same_putPort _ _ _) (by decide) ?_
  exact Same.refl _ _

theorem same_shaperReset (x0 : Nat) (s0 : State) : Same [.tmg] s0 (shaperReset x0 s0) := by
  unfold shaperReset
  refine Same.comp (same_setShaper _ _ _) (by decide) ?_
  exact Same.refl _ _

theorem same_realignOp (s0 : State) : Same [.regs, .phs] s0 (realignOp s0) := by
  unfold realignOp
  extract_lets +onlyGivenNames -merge -underBinder v1
  clear_value v1
  refine Same.ite ?_ ?_
  · refine Same.comp (same_fput_top _ _ _ (Or.inl (by decide))) (by decide) ?_
    exact Same.refl _ _
  · refine Same.comp (same_fput_top _ _ _ (Or.inl (by decide))) (by decide) ?_
    refine Same.comp (same_fput_top _ _ _ (Or.inl (by decide))) (by decide) ?_
    refine Same.set_phs (by decide) ?_
    exact Same.refl _ _

theorem same_sampleQueue (x0 : Nat) (s0 : State) : Same [.tal] s0 (sampleQueue x0 s0) := by
  unfold sampleQueue
  extract_lets +onlyGivenNames -merge -underBinder v1 v2
  clear_value v1
  clear_value v2
  refine Same.comp (same_bump _ _ _) (by decide) ?_
  refine Same.comp (same_bump _ _ _) (by decide) ?_
  exact Same.refl _ _

theorem same_fdbLookup (x0 : Nat) (x1 : Nat) (x2 : Nat) (s0 : State) : Same [.tab] s0 (fdbLookup x0 x1 x2 s0).2 := by
  unfold fdbLookup
  split
  · exact Same.refl _ _
  · extract_lets +onlyGivenNames -merge -underBinder v1
    clear_value v1
    refine Same.comp (same_putEntry _ _ _ _ _ _) (by decide) ?_
    exact Same.refl _ _

theorem same_signal (s0 : State) (x1 : Nat) : Same [.regs, .hif, .low, .mid] s0 (signal s0 x1) := by
  unfold signal
  refine Same.ite ?_ ?_
  · exact Same.refl _ _
  · refine Same.comp (same_sendMsg _ _) (by decide) ?_
    refine Same.comp (same_forBits _ _ _) (by decide) ?_
    exact Same.refl _ _

theorem same_ferryCtr (x0 : Nat) (x1 : Nat) (s0 : State) : Same [.tal] s0 (ferryCtr x0 x1 s0) := by
  unfold ferryCtr
  refine Same.comp (same_bump _ _ _) (by decide) ?_
  exact Same.refl _ _

theorem same_tmplDo (x0 : Nat) (x1 : Nat) (s0 : State) : Same [.regs, .hlt, .fry] s0 (tmplDo x0 x1 s0).2 := by
  unfold tmplDo
  extract_lets +onlyGivenNames -merge -underBinder s1 v3 v4 v5
  have h2 : Same [.regs, .hlt, .fry] s0 s1 := by
    unfold s1
    split
    · refine Same.comp (same_eccCapture _ _) (by decide) ?_
      exact Same.refl _ _
    · exact Same.refl _ _
  clear_value s1
  clear_value v3
  clear_value v4
  clear_value v5
  refine Same.ite2 ?_ ?_
  · exact Same.refl _ _
  · refine Same.ite2 ?_ ?_
    · exact Same.refl _ _
    · refine Same.ite2 ?_ ?_
      · exact Same.refl _ _
      · refine Same.ite2 ?_ ?_
        · refine Same.foldl (fun _ _ h6 => ?_) ?_
          · refine Same.comp (same_rput_top _ _ _ (Or.inl (by simp only [A.FRY_TMPL_DATA]; omega))) (by decide) ?_
            exact h6
          exact h2
        · refine Same.ite2 ?_ ?_
          · exact Same.upd (Same.refl _ _) rfl (fun p n => by cases p <;> first | exact absurd (by decide) n | rfl)
          · exact Same.refl _ _

theorem same_setChan (x0 : DryChan) (x1 : Nat) (s0 : State) : Same [.regs] s0 (setChan x0 x1 s0) := by
  unfold setChan
  refine Same.comp (same_fput_top _ _ _ (Or.inl (Nat.le_trans (dryBase_hi _) (Nat.le_add_right _ _)))) (by decide) ?_
  exact Same.refl _ _

theorem same_emptyCache (x0 : Nat) (s0 : State) : Same [.regs, .mem, .por] s0 (emptyCache x0 s0) := by
  unfold emptyCache
  refine Same.comp (same_writeTail _ _ _) (by decide) ?_
  refine Same.comp (same_putOver _ _ _) (by decide) ?_
  refine Same.comp (same_putCache _ _ _) (by decide) ?_
  exact Same.refl _ _

theorem same_poisonWord (x0 : EccWord) (s0 : State) : Same [.hlt, .tab] s0 (poisonWord x0 s0) := by
  unfold poisonWord
  extract_lets +onlyGivenNames -merge -underBinder v1 v2
  clear_value v1
  clear_value v2
  refine Same.ite ?_ ?_
  · refine Same.comp (same_putEntry _ _ _ _ _ _) (by decide) ?_
    exact Same.refl _ _
  · refine Same.ite ?_ ?_
    · exact Same.refl _ _
    · refine Same.set_hlt (by decide) ?_
      exact Same.refl _ _

theorem same_groupTake (x0 : Nat) (x1 : Nat) (s0 : State) : Same [.tab] s0 (groupTake x0 x1 s0) := by
  unfold groupTake
  extract_lets +onlyGivenNames -merge -underBinder v1 v2
  clear_value v1
  clear_value v2
  refine Same.ite ?_ ?_
  · refine Same.comp (same_putEntry _ _ _ _ _ _) (by decide) ?_
    exact Same.refl _ _
  · exact Same.refl _ _

theorem same_noteSlew (x0 : Int) (s0 : State) : Same [.regs] s0 (noteSlew x0 s0) := by
  unfold noteSlew
  refine Same.comp (same_fput_top _ _ _ (Or.inl (by decide))) (by decide) ?_
  exact Same.refl _ _

theorem same_setVerify (x0 : Nat) (x1 : Nat) (s0 : State) : Same [.regs, .mid] s0 (setVerify x0 x1 s0) := by
  unfold setVerify
  refine Same.comp (same_fput_hi _ _ _ (Or.inl (by simp only [F.PRT_PREEMPT_STATUS_ACTIVE]; omega))) (by decide) ?_
  refine Same.comp (same_fput_hi _ _ _ (Or.inl (by simp only [F.PRT_PREEMPT_STATUS_VERIFY_STATE]; omega))) (by decide) ?_
  exact Same.refl _ _

theorem same_healthCtr (x0 : Nat) (x1 : Nat) (s0 : State) : Same [.tal] s0 (healthCtr x0 x1 s0) := by
  unfold healthCtr
  refine Same.comp (same_bump _ _ _) (by decide) ?_
  exact Same.refl _ _

theorem same_porterReset (s0 : State) : Same [.regs, .mem, .por] s0 (porterReset s0) := by
  unfold porterReset
  extract_lets +onlyGivenNames -merge -underBinder s1 s4 s6 v8
  have h2 : Same [.regs, .mem, .por] s0 s1 := by
    unfold s1
    refine Same.foldl (fun _ _ h3 => ?_) ?_
    · refine Same.comp (same_fput_top _ _ _ (Or.inl (by simp only [F.POR_POOL_CTL_EN]; omega))) (by decide) ?_
      refine Same.comp (same_emptyCache _ _) (by decide) ?_
      exact h3
    exact Same.refl _ _
  clear_value s1
  have h5 : Same [.regs, .mem, .por] s0 s4 := by
    unfold s4
    refine Same.comp (same_fput_top _ _ _ (Or.inl (by decide))) (by decide) ?_
    refine Same.comp (same_rput_top _ _ _ (Or.inl (by simp only [A.POR_RX_STARVED]; omega))) (by decide) ?_
    refine Same.comp (same_rput_top _ _ _ (Or.inl (by simp only [A.POR_RX_STARVED]; omega))) (by decide) ?_
    exact h2
  clear_value s4
  have h7 : Same [.regs, .mem, .por] s0 s6 := by
    unfold s6
    refine Same.comp (same_fput_top _ _ _ (Or.inl (by decide))) (by decide) ?_
    exact h5
  clear_value s6
  clear_value v8
  refine Same.set_por (by decide) ?_
  exact h7

theorem same_errStart (x0 : Nat) (s0 : State) : Same [.regs, .dry] s0 (errStart x0 s0) := by
  unfold errStart
  extract_lets +onlyGivenNames -merge -underBinder v1 s2
  clear_value v1
  have h3 : Same [.regs, .dry] s0 s2 := by
    unfold s2
    refine Same.comp (same_rput_top _ _ _ (Or.inl (by simp only [A.DRY_ERR_ITER]; omega))) (by decide) ?_
    refine Same.comp (same_fput_top _ _ _ (Or.inl (by simp only [F.DRY_ERR_STATUS_PC]; omega))) (by decide) ?_
    refine Same.comp (same_fput_top _ _ _ (Or.inl (Nat.le_trans (dryBase_hi _) (Nat.le_add_right _ _)))) (by decide) ?_
    exact Same.refl _ _
  clear_value s2
  refine Same.ite ?_ ?_
  · refine Same.comp (same_putErr _ _ _) (by decide) ?_
    refine Same.comp (same_setChan _ _ _) (by decide) ?_
    exact h3
  · exact Same.refl _ _

theorem same_resumeChan (x0 : DryChan) (s0 : State) : Same [.regs, .dry] s0 (resumeChan x0 s0) := by
  unfold resumeChan
  extract_lets +onlyGivenNames -merge -underBinder v1 v2
  clear_value v1
  split
  · unfold v2
    refine Same.ite ?_ ?_
    · refine Same.comp (same_setChan _ _ _) (by decide) ?_
      exact Same.refl _ _
    · refine Same.ite ?_ ?_
      · refine Same.comp (same_fput_top _ _ _ (Or.inl (Nat.le_trans (dryBase_hi _) (Nat.le_add_right _ _)))) (by decide) ?_
        refine Same.comp (same_setChan _ _ _) (by decide) ?_
        refine Same.comp (same_forgetAhead _ _) (by decide) ?_
        exact Same.refl _ _
      · exact Same.refl _ _
  · unfold v2
    refine Same.ite ?_ ?_
    · refine Same.comp (same_setChan _ _ _) (by decide) ?_
      exact Same.refl _ _
    · refine Same.ite ?_ ?_
      · refine Same.comp (same_fput_top _ _ _ (Or.inl (Nat.le_trans (dryBase_hi _) (Nat.le_add_right _ _)))) (by decide) ?_
        refine Same.comp (same_setChan _ _ _) (by decide) ?_
        refine Same.comp (same_forgetAhead _ _) (by decide) ?_
        exact Same.refl _ _
      · exact Same.refl _ _
  · refine Same.ite ?_ ?_
    · refine Same.comp (same_setChan _ _ _) (by decide) ?_
      exact Same.refl _ _
    · exact Same.refl _ _

theorem same_setTrkState (x0 : Nat) (x1 : Nat) (s0 : State) : Same [.regs] s0 (setTrkState x0 x1 s0) := by
  unfold setTrkState
  refine Same.comp (same_fput_top _ _ _ (Or.inl (by split <;> decide))) (by decide) ?_
  exact Same.refl _ _

theorem same_captureRecord (x0 : Nat) (s0 : State) : Same [.regs] s0 (captureRecord x0 s0) := by
  unfold captureRecord
  extract_lets +onlyGivenNames -merge -underBinder s1
  have h2 : Same [.regs] s0 s1 := by
    unfold s1
    refine Same.comp (same_rput_top _ _ _ (Or.inl (by decide))) (by decide) ?_
    exact Same.refl _ _
  clear_value s1
  split
  · refine Same.comp (same_fput_top _ _ _ (Or.inl (by decide))) (by decide) ?_
    refine Same.comp (same_putWords_top _ _ _ (by simp only [A.GBK_RD_W]; omega)) (by decide) ?_
    exact h2
  · refine Same.comp (same_fput_top _ _ _ (Or.inl (by decide))) (by decide) ?_
    exact h2

theorem same_stopChan (x0 : DryChan) (s0 : State) : Same [.regs] s0 (stopChan x0 s0) := by
  unfold stopChan
  extract_lets +onlyGivenNames -merge -underBinder v1
  clear_value v1
  refine Same.ite ?_ ?_
  · refine Same.comp (same_setChan _ _ _) (by decide) ?_
    exact Same.refl _ _
  · exact Same.refl _ _

theorem same_enableChan (x0 : DataChan) (s0 : State) : Same [.regs, .dry, .low, .mid] s0 (enableChan x0 s0) := by
  unfold enableChan
  extract_lets +onlyGivenNames -merge -underBinder v1 v2 s3 s5
  clear_value v1
  clear_value v2
  have h4 : Same [.regs, .dry, .low, .mid] s0 s3 := by
    unfold s3
    refine Same.comp (same_fput_top _ _ _ (Or.inl (Nat.le_trans (dryBase_hi _) (Nat.le_add_right _ _)))) (by decide) ?_
    refine Same.comp (same_setChan _ _ _) (by decide) ?_
    refine Same.comp (same_fput_top _ _ _ (Or.inl (Nat.le_trans (dryBase_hi _) (Nat.le_add_right _ _)))) (by decide) ?_
    exact Same.refl _ _
  clear_value s3
  have h6 : Same [.regs, .dry, .low, .mid] s0 s5 := by
    unfold s5
    refine Same.comp (same_rput _ _ _) (by decide) ?_
    refine Same.comp (same_setCur _ _ _) (by decide) ?_
    exact h4
  clear_value s5
  refine Same.ite ?_ ?_
  · exact Same.refl _ _
  · refine Same.ite ?_ ?_
    · refine Same.comp (same_setDisabling _ _ _) (by decide) ?_
      refine Same.comp (same_fput_top _ _ _ (Or.inl (Nat.le_trans (dryBase_hi _) (Nat.le_add_right _ _)))) (by decide) ?_
      exact Same.refl _ _
    · split
      · extract_lets +onlyGivenNames -merge -underBinder v7
        clear_value v7
        refine Same.comp (same_putRx _ _ _) (by decide) ?_
        exact h6
      · extract_lets +onlyGivenNames -merge -underBinder v8
        clear_value v8
        refine Same.comp (same_putTxCh _ _ _) (by decide) ?_
        exact h6

theorem same_followInteg (s0 : State) : Same [.regs, .tim, .phs] s0 (followInteg s0) := by
  unfold followInteg
  refine Same.ite ?_ ?_
  · refine Same.comp (same_setAdj _ _) (by decide) ?_
    refine Same.comp (same_noteSlew _ _) (by decide) ?_
    exact Same.refl _ _
  · exact Same.refl _ _

theorem same_meterRefresh (x0 : Nat) (x1 : Nat) (s0 : State) : Same [.tab] s0 (meterRefresh x0 x1 s0) := by
  unfold meterRefresh
  extract_lets +onlyGivenNames -merge -underBinder v1
  clear_value v1
  split
  · refine Same.comp (same_putEntry _ _ _ _ _ _) (by decide) ?_
    exact Same.refl _ _

theorem same_setInt (x0 : Nat) (x1 : Nat) (s0 : State) : Same [.regs, .low, .mid] s0 (setInt x0 x1 s0) := by
  unfold setInt
  refine Same.comp (same_forBits _ _ _) (by decide) ?_
  exact Same.refl _ _

theorem same_hostLinkUp (x0 : Nat) (x1 : Nat) (x2 : PcieCfg) (s0 : State) : Same [.regs, .hif, .mid] s0 (hostLinkUp x0 x1 x2 s0) := by
  unfold hostLinkUp
  extract_lets +onlyGivenNames -merge -underBinder s1 s3 s5 v7
  have h2 : Same [.regs, .hif, .mid] s0 s1 := by
    unfold s1
    refine Same.comp (same_fput_hi _ _ _ (Or.inl (by decide))) (by decide) ?_
    refine Same.comp (same_fput_hi _ _ _ (Or.inl (by decide))) (by decide) ?_
    refine Same.comp (same_fput_hi _ _ _ (Or.inl (by decide))) (by decide) ?_
    exact Same.refl _ _
  clear_value s1
  have h4 : Same [.regs, .hif, .mid] s0 s3 := by
    unfold s3
    refine Same.comp (same_fput_hi _ _ _ (Or.inl (by decide))) (by decide) ?_
    refine Same.comp (same_fput_hi _ _ _ (Or.inl (by decide))) (by decide) ?_
    exact h2
  clear_value s3
  have h6 : Same [.regs, .hif, .mid] s0 s5 := by
    unfold s5
    refine Same.comp (same_fput_top _ _ _ (Or.inl (by decide))) (by decide) ?_
    exact h4
  clear_value s5
  clear_value v7
  refine Same.comp (same_sendPending _) (by decide) ?_
  refine Same.set_hif (by decide) ?_
  exact h6

theorem same_takeDone (x0 : DataChan) (x1 x2 : Nat) (s0 : State) : Same [.regs] s0 (takeDone x0 x1 x2 s0) := by
  unfold takeDone
  exact Same.comp (same_setCur _ _ _) (by decide)
    (same_rput_top _ _ _ (Or.inl (Nat.le_trans (dryBase_hi _) (Nat.le_add_right _ _))))

theorem same_returnHandle (x0 : Nat) (s0 : State) : Same [.por] s0 (returnHandle x0 s0) := by
  unfold returnHandle
  extract_lets +onlyGivenNames -merge -underBinder v1 v2 s3
  clear_value v1
  clear_value v2
  have h4 : Same [.por] s0 s3 := by
    unfold s3
    refine Same.set_por (by decide) ?_
    exact Same.refl _ _
  clear_value s3
  refine Same.ite ?_ ?_
  · refine Same.comp (same_putCache _ _ _) (by decide) ?_
    exact h4
  · refine Same.comp (same_putOver _ _ _) (by decide) ?_
    exact h4

theorem same_setFrgState (x0 : Nat) (s0 : State) : Same [.regs, .low] s0 (setFrgState x0 s0) := by
  unfold setFrgState
  refine Same.comp (same_fput_lo _ _ _ (by decide)) (by decide) ?_
  exact Same.refl _ _

theorem same_poolCtr (x0 : Nat) (x1 : Nat) (s0 : State) : Same [.tal] s0 (poolCtr x0 x1 s0) := by
  unfold poolCtr
  refine Same.comp (same_bump _ _ _) (by decide) ?_
  exact Same.refl _ _

theorem same_starve (x0 : Nat) (x1 : Nat) (s0 : State) : Same [.regs, .por] s0 (starve x0 x1 s0) := by
  unfold starve
  extract_lets +onlyGivenNames -merge -underBinder v1
  clear_value v1
  refine Same.comp (same_setInt_top _ _ _ (Or.inl (by decide))) (by decide) ?_
  refine Same.comp (same_setStarved _ _ _) (by decide) ?_
  refine Same.set_por (by decide) ?_
  exact Same.refl _ _

theorem same_setJump (x0 : Nat) (x1 : Bool) (s0 : State) : Same [.regs] s0 (setJump x0 x1 s0) := by
  unfold setJump
  refine Same.comp (same_fput_top _ _ _ (Or.inl (by split <;> decide))) (by decide) ?_
  exact Same.refl _ _

theorem same_dropQueued_h {T : List Part} {s x : State} {x0 : Nat} {x1 : Copy → Bool} {x2 : Copy → State → State} (m : [Part.regs, Part.dp, Part.tmg].all (fun p => T.contains p) = true)
    (k : ∀ c y, Same T s y → Same T s (x2 c y)) (h : Same T s x) : Same T s (dropQueued x0 x1 x2 x) := by
  unfold dropQueued
  extract_lets +onlyGivenNames -merge -underBinder v0
  clear_value v0
  extract_lets +onlyGivenNames -merge -underBinder s1
  have h2 : Same T s s1 := Same.comp (same_putQueue _ _ _) (Same.all_sub m (by decide)) h
  clear_value s1
  exact Same.foldl (fun _ _ h3 => k _ _ (Same.comp (same_returnCharges _ _ _ _) (Same.all_sub m (by decide)) h3)) h2

theorem same_mainsAccept (x0 : Nat) (s0 : State) : Same [.regs, .phs] s0 (mainsAccept x0 s0) := by
  unfold mainsAccept
  extract_lets +onlyGivenNames -merge -underBinder v1
  clear_value v1
  split
  · refine Same.comp (same_setMains _ _ _) (by decide) ?_
    exact Same.refl _ _
  · extract_lets +onlyGivenNames -merge -underBinder v2 v3 s4
    clear_value v2
    clear_value v3
    have h5 : Same [.regs, .phs] s0 s4 := by
      unfold s4
      refine Same.comp (same_setMains _ _ _) (by decide) ?_
      exact Same.refl _ _
    clear_value s4
    refine Same.ite ?_ ?_
    · refine Same.comp (same_setMains _ _ _) (by decide) ?_
      exact Same.refl _ _
    · refine Same.ite ?_ ?_
      · refine Same.ite ?_ ?_
        · refine Same.comp (same_setQual _ _ _) (by decide) ?_
          exact h5
        · exact h5
      · refine Same.comp (same_setQual _ _ _) (by decide) ?_
        refine Same.comp (same_setMains _ _ _) (by decide) ?_
        exact Same.refl _ _

theorem same_loadAdmit (s0 : State) : Same [.regs, .frg, .low, .mid] s0 (loadAdmit s0) := by
  unfold loadAdmit
  split
  · extract_lets +onlyGivenNames -merge -underBinder v1
    refine Same.ite ?_ ?_
    · exact Same.refl _ _
    · refine Same.comp (same_loadRegs _ _ _) (by decide) ?_
      refine Same.set_frg (by decide) (Or.inr rfl) ?_
      exact Same.refl _ _
  · exact Same.refl _ _

theorem same_enablePool (x0 : Nat) (x1 : Bool) (s0 : State) : Same [.regs, .por] s0 (enablePool x0 x1 s0) := by
  unfold enablePool
  extract_lets +onlyGivenNames -merge -underBinder v1 v2 v3 s4 v6
  clear_value v1
  clear_value v2
  clear_value v3
  have h5 : Same [.regs, .por] s0 s4 := by
    unfold s4
    refine Same.ite ?_ ?_
    · refine Same.set_por (by decide) ?_
      exact Same.refl _ _
    · exact Same.refl _ _
  clear_value s4
  clear_value v6
  refine Same.ite ?_ ?_
  · exact Same.refl _ _
  · refine Same.ite ?_ ?_
    · refine Same.comp (same_setInt_top _ _ _ (Or.inl (by decide))) (by decide) ?_
      exact Same.refl _ _
    · refine Same.comp (same_fput_top _ _ _ (Or.inl (by simp only [F.POR_POOL_CTL_EN]; omega))) (by decide) ?_
      refine Same.set_por (by decide) ?_
      exact h5

theorem same_disablePool (x0 : Nat) (s0 : State) : Same [.regs, .mem, .por] s0 (disablePool x0 s0) := by
  unfold disablePool
  refine Same.ite ?_ ?_
  · refine Same.comp (same_fput_top _ _ _ (Or.inl (by simp only [F.POR_POOL_CTL_EN]; omega))) (by decide) ?_
    refine Same.comp (same_emptyCache _ _) (by decide) ?_
    exact Same.refl _ _
  · exact Same.refl _ _

theorem same_tblFinish (x0 : Nat) (x1 : Nat) (s0 : State) : Same [.regs, .tab, .free] s0 (tblFinish x0 x1 s0) := by
  unfold tblFinish
  extract_lets +onlyGivenNames -merge -underBinder v1
  clear_value v1
  refine Same.comp (same_tblNext _ _) (by decide) ?_
  refine Same.comp (same_setInt_top _ _ _ (Or.inl (by decide))) (by decide) ?_
  refine Same.comp (same_fput_top _ _ _ (Or.inl (by simp only [F.TBL_STATUS_BUSY]; omega))) (by decide) ?_
  refine Same.comp (same_fput_top _ _ _ (Or.inl (by simp only [F.TBL_STATUS_RESULT]; omega))) (by decide) ?_
  refine Same.set_tab (by decide) ?_
  exact Same.refl _ _

theorem same_leaveQueue (x0 : Nat) (x1 : Copy) (x2 : List Copy) (s0 : State) : Same [.tal, .dp] s0 (leaveQueue x0 x1 x2 s0) := by
  unfold leaveQueue
  refine Same.comp (same_bumpN _ _ _ _) (by decide) ?_
  refine Same.comp (same_bump _ _ _) (by decide) ?_
  refine Same.comp (same_putQueue _ _ _) (by decide) ?_
  exact Same.refl _ _

theorem same_tblDoRead (x0 : Nat) (x1 : Nat) (x2 : Nat) (x3 : Nat) (s0 : State) : Same [.regs] s0 (tblDoRead x0 x1 x2 x3 s0).2 := by
  unfold tblDoRead
  extract_lets +onlyGivenNames -merge -underBinder v1 s2
  clear_value v1
  have h3 : Same [.regs] s0 s2 := by
    unfold s2
    split
    · refine Same.comp (same_eccCapture _ _) (by decide) ?_
      exact Same.refl _ _
    · exact Same.refl _ _
  clear_value s2
  refine Same.ite2 ?_ ?_
  · exact Same.refl _ _
  · refine Same.comp (same_putData _ _ _) (by decide) ?_
    exact h3

theorem same_frgResult (x0 : Nat) (s0 : State) : Same [.regs, .low] s0 (frgResult x0 s0) := by
  unfold frgResult
  refine Same.comp (same_fput_lo _ _ _ (by decide)) (by decide) ?_
  exact Same.refl _ _

theorem same_txCtr (x0 : Nat) (x1 : Nat) (s0 : State) : Same [.tal] s0 (txCtr x0 x1 s0) := by
  unfold txCtr
  refine Same.comp (same_bump _ _ _) (by decide) ?_
  exact Same.refl _ _

theorem same_writeMirror (x0 : Nat) (x1 : Nat) (s0 : State) : Same [.regs, .tmg] s0 (writeMirror x0 x1 s0) := by
  unfold writeMirror
  extract_lets +onlyGivenNames -merge -underBinder v1 s2 v4
  clear_value v1
  have h3 : Same [.regs, .tmg] s0 s2 := by
    unfold s2
    refine Same.comp (same_writeRw_top _ _ _ (Or.inl (by simp only [A.TM_MIR_CFG]; omega))) (by decide) ?_
    exact Same.refl _ _
  clear_value s2
  clear_value v4
  refine Same.ite ?_ ?_
  · refine Same.set_tmg (by decide) ?_
    exact h3
  · exact h3

theorem same_admitRetune (x0 : Nat) (x1 : Nat) (x2 : Nat) (s0 : State) : Same [.regs, .glb, .low, .mid] s0 (admitRetune x0 x1 x2 s0) := by
  unfold admitRetune
  extract_lets +onlyGivenNames -merge -underBinder v1 v2 s3 v5
  clear_value v1
  clear_value v2
  have h4 : Same [.regs, .glb, .low, .mid] s0 s3 := by
    unfold s3
    refine Same.comp (same_writeRw _ _ _) (by decide) ?_
    refine Same.comp (same_keepInForce _ _) (by decide) ?_
    exact Same.refl _ _
  clear_value s3
  refine Same.ite ?_ ?_
  · exact h4
  · refine Same.set_glb (by decide) (Or.inr rfl) (Or.inr rfl) ?_
    exact h4

theorem same_learnWrite (x0 : Nat) (x1 : Nat) (x2 : List Nat) (s0 : State) : Same [.tab] s0 (learnWrite x0 x1 x2 s0) := by
  unfold learnWrite
  split
  · refine Same.comp (same_putEntry _ _ _ _ _ _) (by decide) ?_
    refine Same.comp (same_putEntry _ _ _ _ _ _) (by decide) ?_
    exact Same.refl _ _
  · refine Same.comp (same_putEntry _ _ _ _ _ _) (by decide) ?_
    exact Same.refl _ _

theorem same_fdbCtr (x0 : Nat) (x1 : Nat) (s0 : State) : Same [.tal] s0 (fdbCtr x0 x1 s0) := by
  unfold fdbCtr
  refine Same.comp (same_bump _ _ _) (by decide) ?_
  exact Same.refl _ _

theorem same_gpioEdge (x0 : Nat) (s0 : State) : Same [.regs] s0 (gpioEdge x0 s0) := by
  unfold gpioEdge
  refine Same.ite ?_ ?_
  · exact Same.refl _ _
  · refine Same.comp (same_setInt_top _ _ _ (Or.inl (by decide))) (by decide) ?_
    refine Same.comp (same_forBits_top _ _ _ (Or.inl (by decide))) (by decide) ?_
    exact Same.refl _ _

theorem same_fmax (x0 : Fld) (x1 : Nat) (s0 : State) : Same [.regs, .low, .mid] s0 (fmax x0 x1 s0) := by
  unfold fmax
  refine Same.comp (same_fput _ _ _) (by decide) ?_
  refine Same.comp (same_keepFresh _ _ _) (by decide) ?_
  exact Same.refl _ _

theorem same_dropPortQueues (x0 : Nat) (x1 : Nat) (x2 : Nat) (s0 : State) : Same [.regs, .tal, .dp, .tmg] s0 (dropPortQueues x0 x1 x2 s0) := by
  unfold dropPortQueues
  refine Same.foldl (fun _ _ h1 => ?_) ?_
  · refine same_dropQueued_h (by decide) (fun _ _ h2 => ?_) ?_
    · refine Same.comp (same_bump _ _ _) (by decide) ?_
      exact h2
    exact h1
  exact Same.refl _ _

theorem same_resumeFrame (x0 : Nat) (x1 : Sending) (s0 : State) : Same [.tal, .dp] s0 (resumeFrame x0 x1 s0) := by
  unfold resumeFrame
  extract_lets +onlyGivenNames -merge -underBinder v1
  clear_value v1
  refine Same.comp (same_putTx _ _ _) (by decide) ?_
  refine Same.comp (same_bump _ _ _) (by decide) ?_
  exact Same.refl _ _

theorem same_faddWrap (x0 : Fld) (x1 : Nat) (s0 : State) : Same [.regs, .low, .mid] s0 (faddWrap x0 x1 s0) := by
  unfold faddWrap
  refine Same.comp (same_fput _ _ _) (by decide) ?_
  exact Same.refl _ _

theorem same_setCycleOp (s0 : State) : Same [.regs, .phs] s0 (setCycleOp s0) := by
  unfold setCycleOp
  extract_lets +onlyGivenNames -merge -underBinder v1
  clear_value v1
  refine Same.ite ?_ ?_
  · refine Same.comp (same_fput_top _ _ _ (Or.inl (by decide))) (by decide) ?_
    exact Same.refl _ _
  · refine Same.comp (same_fput_top _ _ _ (Or.inl (by decide))) (by decide) ?_
    refine Same.comp (same_fput_top _ _ _ (Or.inl (by decide))) (by decide) ?_
    refine Same.set_phs (by decide) ?_
    exact Same.refl _ _

theorem same_startTraining (x0 : Nat) (s0 : State) : Same [.regs, .prt, .mid] s0 (startTraining x0 s0) := by
  unfold startTraining
  extract_lets +onlyGivenNames -merge -underBinder v1 s2
  clear_value v1
  have h3 : Same [.regs, .prt, .mid] s0 s2 := by
    unfold s2
    refine Same.comp (same_putPort _ _ _) (by decide) ?_
    exact Same.refl _ _
  clear_value s2
  refine Same.comp (same_fput_hi _ _ _ (Or.inl (by simp only [F.PRT_STATUS_AN_DONE]; omega))) (by decide) ?_
  refine Same.comp (same_fput_hi _ _ _ (Or.inl (by simp only [F.PRT_STATUS_TRAINING]; omega))) (by decide) ?_
  exact h3

theorem same_alertPin (s0 : State) : Same [.tal, .hlt] s0 (alertPin s0) := by
  unfold alertPin
  extract_lets +onlyGivenNames -merge -underBinder v1 v2 s3
  clear_value v1
  clear_value v2
  have h4 : Same [.tal, .hlt] s0 s3 := by
    unfold s3
    refine Same.set_hlt (by decide) ?_
    exact Same.refl _ _
  clear_value s3
  refine Same.ite ?_ ?_
  · exact Same.refl _ _
  · refine Same.ite ?_ ?_
    · refine Same.comp (same_bump _ _ _) (by decide) ?_
      exact h4
    · exact h4

theorem same_excCapture (x0 : Nat) (x1 : Frame) (x2 : Bool) (x3 : Parse) (s0 : State) : Same [.regs] s0 (excCapture x0 x1 x2 x3 s0) := by
  unfold excCapture
  extract_lets +onlyGivenNames -merge -underBinder v1 v2
  clear_value v1
  clear_value v2
  refine Same.ite ?_ ?_
  · refine Same.comp (same_setInt_top _ _ _ (Or.inl (by simp only [A.HTH_INT_STAT]; omega))) (by decide) ?_
    refine Same.comp (same_capture_top _ _ _ (Or.inl (by simp only [A.HTH_EXC_CAP]; omega))) (by decide) ?_
    refine Same.comp (same_rput_top _ _ _ (Or.inl (by simp only [A.HTH_EXC_CAP_OFF]; omega))) (by decide) ?_
    exact Same.refl _ _
  · exact Same.refl _ _

theorem same_deliver (s0 : State) : Same [.regs, .hif, .low, .mid] s0 (deliver s0) := by
  unfold deliver
  refine Same.ite ?_ ?_
  · refine Same.foldl (fun _ _ h1 => ?_) ?_
    · refine Same.comp (same_signal _ _) (by decide) ?_
      exact h1
    exact Same.refl _ _
  · exact Same.refl _ _

theorem same_clearElimination (s0 : State) : Same [.tab] s0 (clearElimination s0) := by
  unfold clearElimination
  extract_lets +onlyGivenNames -merge -underBinder v1 v2
  clear_value v1
  clear_value v2
  refine Same.foldl (fun _ _ h3 => ?_) ?_
  · refine Same.comp (same_putEntry _ _ _ _ _ _) (by decide) ?_
    exact h3
  exact Same.refl _ _

theorem Same.dpFab (s0 : State) (d : Dp) (f : Fab) : Same [.dp, .fab] s0 { s0 with dp := d, fab := f } :=
  Same.upd (Same.refl _ s0) rfl (fun p n => by cases p <;> first | exact absurd (by decide) n | rfl)

theorem same_emptyPath (s0 : State) : Same [.regs, .fab, .prt, .dp, .tmg] s0 (emptyPath s0) :=
  Same.comp (same_freeCells _) (by decide) (Same.comp (Same.dpFab _ _ _) (by decide)
    (Same.foldl (fun _ _ h => Same.comp (same_putPort _ _ _) (by decide) h)
      (Same.foldl (fun _ _ h => same_dropQueued_h (by decide) (fun _ _ k => k) h) (Same.refl _ _))))

theorem same_invalidate (x0 : Nat) (x1 : Nat) (x2 : Nat) (s0 : State) : Same [.tab] s0 (invalidate x0 x1 x2 s0) := by
  unfold invalidate
  extract_lets +onlyGivenNames -merge -underBinder v1 v2
  clear_value v1
  clear_value v2
  refine Same.comp (same_putEntry _ _ _ _ _ _) (by decide) ?_
  exact Same.refl _ _

theorem same_dropBank (x0 : Nat) (s0 : State) : Same [.regs, .frg, .act, .low] s0 (dropBank x0 s0) := by
  unfold dropBank
  extract_lets +onlyGivenNames -merge -underBinder s1 s3 v5
  have h2 : Same [.regs, .frg, .act, .low] s0 s1 := by
    unfold s1
    refine Same.comp (same_putBank _ _ _) (by decide) ?_
    exact Same.refl _ _
  clear_value s1
  have h4 : Same [.regs, .frg, .act, .low] s0 s3 := by
    unfold s3
    refine Same.comp (same_rput64_lo _ _ _ _ (by decide) (by decide)) (by decide) ?_
    refine Same.comp (same_fput_lo _ _ _ (by decide)) (by decide) ?_
    exact h2
  clear_value s3
  refine Same.comp (same_setFrgState _ _) (by decide) ?_
  refine Same.set_frg (by decide) (Or.inl (by decide)) ?_
  exact h4

theorem same_verifyTaken (x0 : Nat) (s0 : State) : Same [.tal, .prt] s0 (verifyTaken x0 s0) := by
  unfold verifyTaken
  extract_lets +onlyGivenNames -merge -underBinder v1
  clear_value v1
  refine Same.ite ?_ ?_
  · refine Same.comp (same_putPort _ _ _) (by decide) ?_
    exact Same.refl _ _
  · refine Same.comp (same_bump _ _ _) (by decide) ?_
    exact Same.refl _ _

theorem same_purge (s0 : State) : Same [.regs, .tim, .phs, .fab, .pin, .prt, .dp, .tab, .tmg] s0 (purge s0) := by
  unfold purge
  extract_lets +onlyGivenNames -merge -underBinder s1 v3 v4 v5 v6 v7 s8
  have h2 : Same [.regs, .tim, .phs, .fab, .pin, .prt, .dp, .tab, .tmg] s0 s1 := by
    unfold s1
    refine Same.comp (same_emptyPath _) (by decide) ?_
    exact Same.refl _ _
  clear_value s1
  clear_value v3
  clear_value v4
  clear_value v5
  clear_value v6
  clear_value v7
  have h9 : Same [.regs, .tim, .phs, .fab, .pin, .prt, .dp, .tab, .tmg] s0 s8 := by
    unfold s8
    exact Same.upd (h2) rfl (fun p n => by cases p <;> first | exact absurd (by decide) n | rfl)
  clear_value s8
  refine Same.comp (same_clearElimination _) (by decide) ?_
  exact h9

theorem same_flushNext (s0 : State) : Same [.tab] s0 (flushNext s0) := by
  unfold flushNext
  split
  · exact Same.refl _ _
  · split
    · exact Same.refl _ _
    · extract_lets +onlyGivenNames -merge -underBinder v1
      clear_value v1
      refine Same.comp (same_invalidate _ _ _ _) (by decide) ?_
      refine Same.set_tab (by decide) ?_
      exact Same.refl _ _

theorem same_unmask (x0 : Option Nat) (s0 : State) : Same [.regs, .hif, .mid] s0 (unmask x0 s0) := by
  unfold unmask
  split
  · refine Same.comp (same_sendPending _) (by decide) ?_
    refine Same.comp (same_fput_hi _ _ _ (Or.inl (by decide))) (by decide) ?_
    exact Same.refl _ _
  · extract_lets +onlyGivenNames -merge -underBinder v1
    clear_value v1
    refine Same.ite ?_ ?_
    · exact Same.refl _ _
    · refine Same.comp (same_sendPending _) (by decide) ?_
      refine Same.set_hif (by decide) ?_
      exact Same.refl _ _

theorem same_faddSat (x0 : Fld) (x1 : Nat) (s0 : State) : Same [.regs, .low, .mid] s0 (faddSat x0 x1 s0) := by
  unfold faddSat
  extract_lets +onlyGivenNames -merge -underBinder v1
  clear_value v1
  refine Same.comp (same_fput _ _ _) (by decide) ?_
  refine Same.comp (same_keepFresh _ _ _) (by decide) ?_
  exact Same.refl _ _

theorem same_replicationSet (x0 : Nat) (x1 : Nat) (s0 : State) : Same [.tal, .tab] s0 (replicationSet x0 x1 s0).2 := by
  unfold replicationSet
  split
  · exact Same.refl _ _
  · split
    · exact Same.refl _ _
    · split
      rename_i a1 s2 e4
      have h3 : Same [.tal, .tab] s0 s2 := by
        refine Same.of2 e4 ?_
        refine Same.comp (same_emLookup _ _ _ _) (by decide) ?_
        exact Same.refl _ _
      exact h3

theorem same_resumeOrDrop (x0 : Nat) (x1 : Sending) (s0 : State) : Same [.regs, .tal, .dp, .tmg] s0 (resumeOrDrop x0 x1 s0) := by
  unfold resumeOrDrop
  extract_lets +onlyGivenNames -merge -underBinder v1
  clear_value v1
  refine Same.ite ?_ ?_
  · refine Same.comp (same_bump _ _ _) (by decide) ?_
    refine Same.comp (same_putTx _ _ _) (by decide) ?_
    refine Same.comp (same_returnCharges _ _ _ _) (by decide) ?_
    exact Same.refl _ _
  · refine Same.comp (same_resumeFrame _ _ _) (by decide) ?_
    exact Same.refl _ _

theorem same_parseCtr (x0 : Nat) (x1 : Nat) (s0 : State) : Same [.tal] s0 (parseCtr x0 x1 s0) := by
  unfold parseCtr
  refine Same.comp (same_bump _ _ _) (by decide) ?_
  exact Same.refl _ _

theorem same_replPass (x0 : Nat) (x1 : Pass) (s0 : State) : Same [.tal, .tab] s0 (replPass x0 x1 s0).2 := by
  unfold replPass
  split
  · split
    rename_i a1 s2 e4
    have h3 : Same [.tal, .tab] s0 s2 := by
      refine Same.of2 e4 ?_
      refine Same.comp (same_replicationSet _ _ _) (by decide) ?_
      exact Same.refl _ _
    exact h3
  · exact Same.refl _ _

theorem same_tblDoUpdate (x0 : Nat) (x1 : Nat) (x2 : Nat) (s0 : State) : Same [.hlt, .tab] s0 (tblDoUpdate x0 x1 x2 s0).2 := by
  unfold tblDoUpdate
  extract_lets +onlyGivenNames -merge -underBinder v1
  clear_value v1
  refine Same.ite2 ?_ ?_
  · exact Same.refl _ _
  · split
    · exact Same.refl _ _
    · refine Same.comp (same_hostEntry _ _ _ _ _) (by decide) ?_
      exact Same.refl _ _

theorem same_stage126 (x0 : Nat) (x1 : Frame) (x2 : Pass) (s0 : State) : Same [.tal] s0 (stage126 x0 x1 x2 s0).2 := by
  unfold stage126
  extract_lets +onlyGivenNames -merge -underBinder v1 v2 v3 v4 v5
  clear_value v1
  clear_value v2
  clear_value v3
  clear_value v4
  clear_value v5
  split
  · refine Same.comp (same_bump _ _ _) (by decide) ?_
    exact Same.refl _ _
  · extract_lets +onlyGivenNames -merge -underBinder v6
    clear_value v6
    refine Same.comp (same_parseCtr _ _ _) (by decide) ?_
    exact Same.refl _ _

theorem same_handleHead_h {T : List Part} {s x : State} {x0 : Nat} {x1 : Nat → Frame → State → State} (m : [Part.fab, Part.dp].all (fun p => T.contains p) = true)
    (k : ∀ i f y, Same T s y → Same T s (x1 i f y)) (h : Same T s x) : Same T s (handleHead x0 x1 x) := by
  unfold handleHead
  split
  · have h1 := Same.comp (same_dropHead _) (Same.all_sub m (by decide)) h
    exact Same.comp (same_freeCells _) (Same.all_sub m (by decide)) (Same.ite (k _ _ _ h1) h1)
  · exact h

theorem same_writeLimits (x0 : Nat) (s0 : State) : Same [.regs, .phs] s0 (writeLimits x0 s0) := by
  unfold writeLimits
  extract_lets +onlyGivenNames -merge -underBinder v1 s2
  clear_value v1
  have h3 : Same [.regs, .phs] s0 s2 := by
    unfold s2
    refine Same.comp (same_writeRw_top _ _ _ (Or.inl (by decide))) (by decide) ?_
    refine Same.set_phs (by decide) ?_
    exact Same.refl _ _
  clear_value s2
  refine Same.ite ?_ ?_
  · refine Same.comp (same_setRate _ _) (by decide) ?_
    exact h3
  · exact h3

theorem same_chanInt (x0 : DryChan) (x1 : Nat) (s0 : State) : Same [.regs] s0 (chanInt x0 x1 s0) := by
  unfold chanInt
  refine Same.comp (same_setInt_top _ _ _ (Or.inl (Nat.le_trans (dryBase_hi _) (Nat.le_add_right _ _)))) (by decide) ?_
  exact Same.refl _ _

theorem same_gbkCtr (x0 : Nat) (s0 : State) : Same [.tal] s0 (gbkCtr x0 s0) := by
  unfold gbkCtr
  refine Same.comp (same_bump _ _ _) (by decide) ?_
  exact Same.refl _ _

theorem same_correct (x0 : Option (Nat × Bool)) (x1 : Nat) (x2 : Int) (x3 : List Byte) (s0 : State) : Same [.tal] s0 (correct x0 x1 x2 x3 s0).2 := by
  unfold correct
  split
  · refine Same.comp (same_bump _ _ _) (by decide) ?_
    exact Same.refl _ _

theorem same_rxTimer (x0 : Nat) (s0 : State) : Same [.regs, .dry] s0 (rxTimer x0 s0) := by
  unfold rxTimer
  extract_lets +onlyGivenNames -merge -underBinder v1 v2
  clear_value v1
  clear_value v2
  split
  · refine Same.ite ?_ ?_
    · refine Same.comp (same_chanInt _ _ _) (by decide) ?_
      refine Same.comp (same_putRx _ _ _) (by decide) ?_
      exact Same.refl _ _
    · exact Same.refl _ _
  · exact Same.refl _ _

theorem same_noteHold (x0 : Nat) (x1 : Nat) (s0 : State) : Same [.tal, .dp] s0 (noteHold x0 x1 s0) := by
  unfold noteHold
  split
  · exact Same.refl _ _
  · refine Same.ite ?_ ?_
    · refine Same.comp (same_putQueue _ _ _) (by decide) ?_
      refine Same.comp (same_bump _ _ _) (by decide) ?_
      exact Same.refl _ _
    · exact Same.refl _ _

theorem same_mirrorTake (x0 : Nat) (s0 : State) : Same [.tal, .tmg] s0 (mirrorTake x0 s0).2 := by
  unfold mirrorTake
  extract_lets +onlyGivenNames -merge -underBinder v1 v2 v3 s4
  clear_value v1
  clear_value v2
  clear_value v3
  have h5 : Same [.tal, .tmg] s0 s4 := by
    unfold s4
    refine Same.set_tmg (by decide) ?_
    exact Same.refl _ _
  clear_value s4
  refine Same.ite2 ?_ ?_
  · refine Same.comp (same_bump _ _ _) (by decide) ?_
    exact h5
  · refine Same.comp (same_bump _ _ _) (by decide) ?_
    exact h5

theorem same_encapCounts (x0 : Nat) (x1 : Copy) (x2 : List (List Byte)) (s0 : State) : Same [.tal, .fry] s0 (encapCounts x0 x1 x2 s0) := by
  unfold encapCounts
  extract_lets +onlyGivenNames -merge -underBinder v1
  clear_value v1
  split
  · extract_lets +onlyGivenNames -merge -underBinder s2 s4
    have h3 : Same [.tal, .fry] s0 s2 := by
      unfold s2
      refine Same.comp (same_ferryCtr _ _ _) (by decide) ?_
      exact Same.refl _ _
    clear_value s2
    have h5 : Same [.tal, .fry] s0 s4 := by
      unfold s4
      refine Same.ite ?_ ?_
      · refine Same.comp (same_ferryCtr _ _ _) (by decide) ?_
        exact h3
      · exact h3
    clear_value s4
    refine Same.ite ?_ ?_
    · exact h5
    · refine Same.comp (same_ipNext _ _) (by decide) ?_
      exact h5
  · refine Same.ite ?_ ?_
    · refine Same.comp (same_ipNext _ _) (by decide) ?_
      exact Same.refl _ _
    · exact Same.refl _ _
  · exact Same.refl _ _

theorem same_passFrame (x0 : Nat) (x1 : Nat) (x2 : Frame) (s0 : State) : Same [.tal, .fab] s0 (passFrame x0 x1 x2 s0) := by
  unfold passFrame
  extract_lets +onlyGivenNames -merge -underBinder v1 v2 s3 s5 v7 v8
  clear_value v1
  clear_value v2
  have h4 : Same [.tal, .fab] s0 s3 := by
    unfold s3
    refine Same.ite ?_ ?_
    · refine Same.comp (same_putFabPort _ _ _) (by decide) ?_
      exact Same.refl _ _
    · exact Same.refl _ _
  clear_value s3
  have h6 : Same [.tal, .fab] s0 s5 := by
    unfold s5
    refine Same.comp (same_bump _ _ _) (by decide) ?_
    exact h4
  clear_value s5
  clear_value v7
  clear_value v8
  refine Same.set_fab (by decide) ?_
  exact h6

theorem same_openLoad (x0 : Load) (s0 : State) : Same [.regs, .frg, .low] s0 (openLoad x0 s0) := by
  unfold openLoad
  extract_lets +onlyGivenNames -merge -underBinder v1
  refine Same.comp (same_rput_lo _ _ _ (by decide)) (by decide) ?_
  refine Same.comp (same_setFrgState _ _) (by decide) ?_
  refine Same.set_frg (by decide) (Or.inr rfl) ?_
  exact Same.refl _ _

theorem same_lineChange (x0 : Nat) (s0 : State) : Same [.regs, .tal, .dp] s0 (lineChange x0 s0) := by
  unfold lineChange
  split
  · exact Same.refl _ _
  · extract_lets +onlyGivenNames -merge -underBinder v1 v2 s3 v5 v6
    clear_value v1
    clear_value v2
    have h4 : Same [.regs, .tal, .dp] s0 s3 := by
      unfold s3
      refine Same.comp (same_preempt _ _) (by decide) ?_
      exact Same.refl _ _
    clear_value s3
    clear_value v5
    clear_value v6
    refine Same.ite ?_ ?_
    · refine Same.ite ?_ ?_
      · refine Same.comp (same_bump _ _ _) (by decide) ?_
        exact h4
      · refine Same.ite ?_ ?_
        · exact h4
        · exact Same.refl _ _
    · refine Same.ite ?_ ?_
      · refine Same.comp (same_putTx _ _ _) (by decide) ?_
        refine Same.comp (same_setInt_top _ _ _ (Or.inl (by decide))) (by decide) ?_
        refine Same.comp (same_bump _ _ _) (by decide) ?_
        exact Same.refl _ _
      · exact Same.refl _ _

theorem same_slotResult (x0 : Nat) (x1 : Nat) (s0 : State) : Same [.regs, .low] s0 (slotResult x0 x1 s0) := by
  unfold slotResult
  refine Same.comp (same_fput_lo _ _ _ (by split <;> decide)) (by decide) ?_
  exact Same.refl _ _

theorem same_noteSample (x0 : Nat) (s0 : State) : Same [.regs, .phs] s0 (noteSample x0 s0) := by
  unfold noteSample
  extract_lets +onlyGivenNames -merge -underBinder v1 v2 s3
  clear_value v1
  clear_value v2
  have h4 : Same [.regs, .phs] s0 s3 := by
    unfold s3
    refine Same.set_phs (by decide) ?_
    exact Same.refl _ _
  clear_value s3
  refine Same.comp (same_fput_top _ _ _ (Or.inl (by decide))) (by decide) ?_
  exact h4

theorem same_setI2c (x0 : Nat) (x1 : I2c) (s0 : State) : Same [.regs, .pin] s0 (setI2c x0 x1 s0) := by
  unfold setI2c
  extract_lets +onlyGivenNames -merge -underBinder v1 v2 s3
  clear_value v1
  clear_value v2
  have h4 : Same [.regs, .pin] s0 s3 := by
    unfold s3
    refine Same.ite ?_ ?_
    · refine Same.set_pin (by decide) ?_
      exact Same.refl _ _
    · refine Same.set_pin (by decide) ?_
      exact Same.refl _ _
  clear_value s3
  refine Same.comp (same_fput_top _ _ _ (Or.inl (by simp only [F.PIN_I2C_STATUS_TX_LEVEL]; omega))) (by decide) ?_
  refine Same.comp (same_fput_top _ _ _ (Or.inl (by simp only [F.PIN_I2C_STATUS_RX_LEVEL]; omega))) (by decide) ?_
  exact h4

theorem same_tblDoLookup (x0 : Nat) (x1 : Nat) (x2 : Nat) (s0 : State) : Same [.regs] s0 (tblDoLookup x0 x1 x2 s0).2 := by
  unfold tblDoLookup
  split
  · exact Same.refl _ _
  · refine Same.comp (same_fput_top _ _ _ (Or.inl (by simp only [F.TBL_RESULT_INDEX_INDEX]; omega))) (by decide) ?_
    refine Same.comp (same_putData _ _ _) (by decide) ?_
    exact Same.refl _ _

theorem same_errNext (x0 : Nat) (s0 : State) : Same [.regs, .tal, .dry] s0 (errNext x0 s0) := by
  unfold errNext
  extract_lets +onlyGivenNames -merge -underBinder v1
  clear_value v1
  refine Same.comp (same_bump _ _ _) (by decide) ?_
  refine Same.comp (same_fput_top _ _ _ (Or.inl (by simp only [F.DRY_ERR_STATUS_PC]; omega))) (by decide) ?_
  refine Same.comp (same_putErr _ _ _) (by decide) ?_
  exact Same.refl _ _

theorem same_phaseSet (x0 : Nat) (x1 : Nat) (x2 : Nat) (s0 : State) : Same [.regs, .phs] s0 (phaseSet x0 x1 x2 s0) := by
  unfold phaseSet
  extract_lets +onlyGivenNames -merge -underBinder v1 s2
  clear_value v1
  have h3 : Same [.regs, .phs] s0 s2 := by
    unfold s2
    refine Same.comp (same_setRate _ _) (by decide) ?_
    refine Same.comp (same_setInstant _ _) (by decide) ?_
    refine Same.set_phs (by decide) ?_
    exact Same.refl _ _
  clear_value s2
  refine Same.comp (same_noteSample _ _) (by decide) ?_
  refine Same.comp (same_fput_top _ _ _ (Or.inl (by decide))) (by decide) ?_
  refine Same.comp (same_rput_top _ _ _ (Or.inl (by decide))) (by decide) ?_
  exact h3

theorem same_signalOp (x0 : Nat) (x1 : List Nat) (s0 : State) : Same [.regs, .mem, .tal, .dry] s0 (signalOp x0 x1 s0) := by
  unfold signalOp
  extract_lets +onlyGivenNames -merge -underBinder s1 s3 v5 v6 s7
  have h2 : Same [.regs, .mem, .tal, .dry] s0 s1 := by
    unfold s1
    refine Same.comp (same_errTaken _ _) (by decide) ?_
    exact Same.refl _ _
  clear_value s1
  have h4 : Same [.regs, .mem, .tal, .dry] s0 s3 := by
    unfold s3
    refine Same.comp (same_fput_top _ _ _ (Or.inl (by simp only [F.DRY_ERR_SIGNAL_CODE]; omega))) (by decide) ?_
    exact h2
  clear_value s3
  clear_value v5
  clear_value v6
  have h8 : Same [.regs, .mem, .tal, .dry] s0 s7 := by
    unfold s7
    refine Same.ite ?_ ?_
    · refine Same.comp (same_memWrite _ _ _) (by decide) ?_
      refine Same.comp (same_putErr _ _ _) (by decide) ?_
      exact h4
    · exact h4
  clear_value s7
  refine Same.ite ?_ ?_
  · exact Same.refl _ _
  · refine Same.comp (same_errNext _ _) (by decide) ?_
    refine Same.ite ?_ ?_
    · refine Same.comp (same_chanInt _ _ _) (by decide) ?_
      exact h8
    · exact h8

theorem same_showMon (s0 : State) : Same [.regs] s0 (showMon s0) := by
  unfold showMon
  extract_lets +onlyGivenNames -merge -underBinder v1
  clear_value v1
  refine Same.comp (same_fput_top _ _ _ (Or.inl (by decide))) (by decide) ?_
  exact Same.refl _ _

theorem same_abortTx_h {T : List Part} {s x : State} {x0 : Nat} {x1 : Sending → State → State} (m : [Part.regs, Part.dp, Part.tmg].all (fun p => T.contains p) = true)
    (k : ∀ c y, Same T s y → Same T s (x1 c y)) (h : Same T s x) : Same T s (abortTx x0 x1 x) := by
  unfold abortTx
  extract_lets +onlyGivenNames -merge -underBinder v0
  clear_value v0
  extract_lets +onlyGivenNames -merge -underBinder v0
  clear_value v0
  extract_lets +onlyGivenNames -merge -underBinder s1
  have h2 : Same T s s1 := Same.comp (same_putTx _ _ _) (Same.all_sub m (by decide)) h
  clear_value s1
  exact Same.foldl (fun _ _ h3 => k _ _ (Same.comp (same_returnCharges _ _ _ _) (Same.all_sub m (by decide)) h3)) h2

theorem same_kixonFix (x0 : Nat) (x1 : Frame) (x2 : List Byte) (s0 : State) : Same [.tal, .fab] s0 (kixonFix x0 x1 x2 s0).2 := by
  unfold kixonFix
  split
  rename_i a1 s2 e4
  have h3 : Same [.tal, .fab] s0 s2 := by
    refine Same.of2 e4 ?_
    refine Same.comp (same_kixonPayload _ _ _ _) (by decide) ?_
    exact Same.refl _ _
  extract_lets +onlyGivenNames -merge -underBinder v5 v6 v7 v8 v9 v10 v11 v12
  clear_value v5
  clear_value v6
  clear_value v7
  clear_value v8
  clear_value v9
  clear_value v10
  clear_value v11
  clear_value v12
  refine Same.comp (same_bump _ _ _) (by decide) ?_
  refine Same.comp (same_putFabPort _ _ _) (by decide) ?_
  exact h3

theorem same_harvestEnd (x0 : Harvest) (s0 : State) : Same [.regs, .mem, .tal] s0 (harvestEnd x0 s0) := by
  unfold harvestEnd
  extract_lets +onlyGivenNames -merge -underBinder v1 s2
  clear_value v1
  have h3 : Same [.regs, .mem, .tal] s0 s2 := by
    unfold s2
    refine Same.comp (same_memWrite _ _ _) (by decide) ?_
    refine Same.set_tal (by decide) ?_
    exact Same.refl _ _
  clear_value s2
  refine Same.comp (same_setInt_top _ _ _ (Or.inl (by decide))) (by decide) ?_
  refine Same.comp (same_faddWrap_top _ _ _ (Or.inl (by decide))) (by decide) ?_
  refine Same.comp (same_fput_top _ _ _ (Or.inl (by decide))) (by decide) ?_
  refine Same.comp (same_fput_top _ _ _ (Or.inl (by decide))) (by decide) ?_
  refine Same.comp (same_fput_top _ _ _ (Or.inl (by decide))) (by decide) ?_
  exact h3

theorem same_writeShaper (x0 : ShaperTarget) (x1 : Bool) (x2 : Nat) (s0 : State) : Same [.regs, .tmg, .low, .mid] s0 (writeShaper x0 x1 x2 s0) := by
  unfold writeShaper
  refine Same.comp (same_shaperReset _ _) (by decide) ?_
  refine Same.comp (same_writeRw _ _ _) (by decide) ?_
  exact Same.refl _ _

theorem same_chanStopped (x0 : DryChan) (s0 : State) : Same [.regs, .dry] s0 (chanStopped x0 s0) := by
  unfold chanStopped
  extract_lets +onlyGivenNames -merge -underBinder s1 v3
  have h2 : Same [.regs, .dry] s0 s1 := by
    unfold s1
    refine Same.comp (same_chanInt _ _ _) (by decide) ?_
    exact Same.refl _ _
  clear_value s1
  refine Same.ite ?_ ?_
  · exact Same.refl _ _
  · split
    · unfold v3
      refine Same.comp (same_setDisabling _ _ _) (by decide) ?_
      refine Same.comp (same_setChan _ _ _) (by decide) ?_
      refine Same.comp (same_forgetAhead _ _) (by decide) ?_
      exact h2
    · unfold v3
      refine Same.comp (same_setDisabling _ _ _) (by decide) ?_
      refine Same.comp (same_setChan _ _ _) (by decide) ?_
      refine Same.comp (same_forgetAhead _ _) (by decide) ?_
      exact h2
    · extract_lets +onlyGivenNames -merge -underBinder v4
      clear_value v4
      refine Same.comp (same_setChan _ _ _) (by decide) ?_
      refine Same.comp (same_putErr _ _ _) (by decide) ?_
      exact h2

theorem same_missSpill (x0 : GbkRecord) (s0 : State) : Same [.tal, .gbk] s0 (missSpill x0 s0) := by
  unfold missSpill
  extract_lets +onlyGivenNames -merge -underBinder v1
  clear_value v1
  refine Same.ite ?_ ?_
  · refine Same.comp (same_gbkCtr _ _) (by decide) ?_
    refine Same.set_gbk (by decide) ?_
    exact Same.refl _ _
  · exact Same.refl _ _

theorem same_macControl (x0 : Nat) (x1 : List Byte) (s0 : State) : Same [.tal, .prt] s0 (macControl x0 x1 s0) := by
  unfold macControl
  extract_lets +onlyGivenNames -merge -underBinder v1 s2
  clear_value v1
  have h3 : Same [.tal, .prt] s0 s2 := by
    unfold s2
    refine Same.comp (same_bump _ _ _) (by decide) ?_
    exact Same.refl _ _
  clear_value s2
  refine Same.ite ?_ ?_
  · refine Same.ite ?_ ?_
    · refine Same.comp (same_loadPause _ _ _) (by decide) ?_
      exact h3
    · exact h3
  · refine Same.ite ?_ ?_
    · refine Same.comp (same_bump _ _ _) (by decide) ?_
      exact Same.refl _ _
    · refine Same.comp (same_bump _ _ _) (by decide) ?_
      exact Same.refl _ _

theorem same_writeStrobes (x0 : DryChan) (x1 : Nat) (s0 : State) : Same [.regs, .dry] s0 (writeStrobes x0 x1 s0) := by
  unfold writeStrobes
  extract_lets +onlyGivenNames -merge -underBinder s1
  have h2 : Same [.regs, .dry] s0 s1 := by
    unfold s1
    refine Same.ite ?_ ?_
    · refine Same.comp (same_stopChan _ _) (by decide) ?_
      exact Same.refl _ _
    · exact Same.refl _ _
  clear_value s1
  refine Same.ite ?_ ?_
  · refine Same.comp (same_resumeChan _ _) (by decide) ?_
    exact h2
  · exact h2

theorem same_moverAdd (x0 : Nat) (x1 : Learn) (s0 : State) : Same [.tal, .tab] s0 (moverAdd x0 x1 s0) := by
  unfold moverAdd
  extract_lets +onlyGivenNames -merge -underBinder v1 v2
  clear_value v1
  clear_value v2
  refine Same.ite ?_ ?_
  · refine Same.comp (same_fdbCtr _ _ _) (by decide) ?_
    exact Same.refl _ _
  · refine Same.set_tab (by decide) ?_
    exact Same.refl _ _

theorem same_peerTake (s0 : State) : Same [.regs, .fry] s0 (peerTake s0).2 := by
  unfold peerTake
  extract_lets +onlyGivenNames -merge -underBinder v1 v2 v3 s4
  clear_value v1
  clear_value v2
  clear_value v3
  have h5 : Same [.regs, .fry] s0 s4 := by
    unfold s4
    refine Same.set_fry (by decide) ?_
    exact Same.refl _ _
  clear_value s4
  refine Same.ite2 ?_ ?_
  · exact Same.refl _ _
  · refine Same.ite2 ?_ ?_
    · exact h5
    · refine Same.comp (same_setInt_top _ _ _ (Or.inl (by decide))) (by decide) ?_
      refine Same.comp (same_faddSat_top _ _ _ (Or.inl (by decide))) (by decide) ?_
      exact h5

theorem same_discardShadow (s0 : State) : Same [.regs, .frg, .fab, .act, .low] s0 (discardShadow s0) := by
  unfold discardShadow
  refine Same.comp (same_forgetArmed _ _) (by decide) ?_
  refine Same.comp (same_dropBank _ _) (by decide) ?_
  exact Same.refl _ _

theorem same_dropSending (x0 : State → Copy → Bool) (s0 : State) : Same [.regs, .dp, .tmg] s0 (dropSending x0 s0) := by
  unfold dropSending
  refine Same.foldl (fun _ _ h1 => ?_) ?_
  · extract_lets +onlyGivenNames -merge -underBinder s2
    have h3 : Same [.regs, .dp, .tmg] s0 s2 := by
      unfold s2
      split
      · extract_lets +onlyGivenNames -merge -underBinder v4
        clear_value v4
        refine Same.ite ?_ ?_
        · refine Same.comp (same_putTx _ _ _) (by decide) ?_
          refine Same.comp (same_returnCharges _ _ _ _) (by decide) ?_
          exact h1
        · exact h1
      · exact h1
    clear_value s2
    refine Same.comp (same_dropSuspended _ _ _) (by decide) ?_
    exact h3
  exact Same.refl _ _

theorem same_clearError (x0 : Nat) (s0 : State) : Same [.regs, .phs] s0 (clearError x0 s0) := by
  unfold clearError
  extract_lets +onlyGivenNames -merge -underBinder v1
  clear_value v1
  refine Same.comp (same_setFar _ _ _) (by decide) ?_
  refine Same.set_phs (by decide) ?_
  exact Same.refl _ _

theorem same_endOp (x0 : Nat) (s0 : State) : Same [.regs, .tal] s0 (endOp x0 s0) := by
  unfold endOp
  refine Same.comp (same_bump _ _ _) (by decide) ?_
  refine Same.comp (same_chanInt _ _ _) (by decide) ?_
  refine Same.comp (same_setChan _ _ _) (by decide) ?_
  exact Same.refl _ _

theorem same_servoUpdate (x0 : Int) (s0 : State) : Same [.regs, .tim, .phs] s0 (servoUpdate x0 s0) := by
  unfold servoUpdate
  extract_lets +onlyGivenNames -merge -underBinder v1 v2 v3 v4 v5 v6 v7
  clear_value v1
  clear_value v2
  clear_value v3
  clear_value v4
  clear_value v5
  clear_value v6
  clear_value v7
  refine Same.ite ?_ ?_
  · refine Same.comp (same_noteSlew _ _) (by decide) ?_
    refine Same.comp (same_setAdj _ _) (by decide) ?_
    refine Same.set_tim (by decide) ?_
    exact Same.refl _ _
  · exact Same.refl _ _

theorem same_i2cEnd (x0 : Nat) (x1 : Nat) (s0 : State) : Same [.regs] s0 (i2cEnd x0 x1 s0) := by
  unfold i2cEnd
  refine Same.comp (same_setInt_top _ _ _ (Or.inl (by decide))) (by decide) ?_
  refine Same.comp (same_fput_top _ _ _ (Or.inl (by simp only [F.PIN_I2C_STATUS_BUSY]; omega))) (by decide) ?_
  refine Same.comp (same_fput_top _ _ _ (Or.inl (by simp only [F.PIN_I2C_STATUS_RESULT]; omega))) (by decide) ?_
  exact Same.refl _ _

theorem same_i2cPop (x0 : Nat) (s0 : State) : Same [.regs, .pin] s0 (i2cPop x0 s0).2 := by
  unfold i2cPop
  extract_lets +onlyGivenNames -merge -underBinder v1
  clear_value v1
  refine Same.comp (same_setI2c _ _ _) (by decide) ?_
  exact Same.refl _ _

theorem same_shadowLoadOp (s0 : State) : Same [.regs, .frg, .ldg, .tab, .act, .low] s0 (shadowLoadOp s0) := by
  unfold shadowLoadOp
  extract_lets +onlyGivenNames -merge -underBinder v1 v2 s3
  clear_value v1
  have h4 : Same [.regs, .frg, .ldg, .tab, .act, .low] s0 s3 := by
    unfold s3
    refine Same.set_frg (by decide) (Or.inl (by decide)) ?_
    exact Same.refl _ _
  clear_value s3
  refine Same.ite ?_ ?_
  · refine Same.comp (same_openLoad _ _) (by decide) ?_
    refine Same.comp (same_clearBank _ _) (by decide) ?_
    refine Same.comp (same_frgResult _ _) (by decide) ?_
    exact h4
  · refine Same.comp (same_frgResult _ _) (by decide) ?_
    exact Same.refl _ _

theorem same_rxReport (x0 : Nat) (s0 : State) : Same [.regs, .dry] s0 (rxReport x0 s0) := by
  unfold rxReport
  extract_lets +onlyGivenNames -merge -underBinder v1
  clear_value v1
  refine Same.ite ?_ ?_
  · refine Same.comp (same_chanInt _ _ _) (by decide) ?_
    refine Same.comp (same_putRx _ _ _) (by decide) ?_
    exact Same.refl _ _
  · refine Same.comp (same_putRx _ _ _) (by decide) ?_
    exact Same.refl _ _

theorem same_idleTrk (x0 : Nat) (s0 : State) : Same [.regs, .tim] s0 (idleTrk x0 s0) := by
  unfold idleTrk
  extract_lets +onlyGivenNames -merge -underBinder v1 s2 v4
  clear_value v1
  have h3 : Same [.regs, .tim] s0 s2 := by
    unfold s2
    refine Same.comp (same_setTrkState _ _ _) (by decide) ?_
    refine Same.comp (same_setTrk _ _ _) (by decide) ?_
    exact Same.refl _ _
  clear_value s2
  clear_value v4
  refine Same.ite ?_ ?_
  · refine Same.comp (same_fput_top _ _ _ (Or.inl (by decide))) (by decide) ?_
    refine Same.set_tim (by decide) ?_
    exact h3
  · exact h3

theorem same_chargeShapers (x0 : Nat) (x1 : Nat) (x2 : Copy) (x3 : Nat) (s0 : State) : Same [.tab, .tmg] s0 (chargeShapers x0 x1 x2 x3 s0) := by
  unfold chargeShapers
  extract_lets +onlyGivenNames -merge -underBinder s1
  have h2 : Same [.tab, .tmg] s0 s1 := by
    unfold s1
    refine Same.comp (same_shaperTake _ _ _) (by decide) ?_
    refine Same.comp (same_shaperTake _ _ _) (by decide) ?_
    exact Same.refl _ _
  clear_value s1
  split
  · refine Same.comp (same_groupTake _ _ _) (by decide) ?_
    exact h2
  · exact h2

theorem same_writePhsCmd (x0 : Nat) (s0 : State) : Same [.regs, .phs] s0 (writePhsCmd x0 s0) := by
  unfold writePhsCmd
  refine Same.ite ?_ ?_
  · exact Same.refl _ _
  · refine Same.ite ?_ ?_
    · refine Same.comp (same_latchPhaseOp _) (by decide) ?_
      exact Same.refl _ _
    · refine Same.ite ?_ ?_
      · refine Same.comp (same_setCycleOp _) (by decide) ?_
        exact Same.refl _ _
      · refine Same.ite ?_ ?_
        · refine Same.comp (same_realignOp _) (by decide) ?_
          exact Same.refl _ _
        · refine Same.comp (same_fput_top _ _ _ (Or.inl (by decide))) (by decide) ?_
          exact Same.refl _ _

theorem same_patternCount (x0 : Nat) (x1 : Nat) (x2 : Nat) (s0 : State) : Same [.regs, .mid] s0 (patternCount x0 x1 x2 s0) := by
  unfold patternCount
  extract_lets +onlyGivenNames -merge -underBinder v1
  clear_value v1
  refine Same.ite ?_ ?_
  · exact Same.refl _ _
  · refine Same.comp (same_setInt_hi _ _ _ (Or.inl (by simp only [A.PRT_INT_STAT]; omega))) (by decide) ?_
    refine Same.comp (same_faddSat_hi _ _ _ (Or.inl (by simp only [F.PRT_PRBS_ERR_ERRORS]; omega))) (by decide) ?_
    exact Same.refl _ _

theorem same_gatePass (x0 : Frame) (x1 : Pass) (s0 : State) : Same [.tal, .ldg] s0 (gatePass x0 x1 s0).2 := by
  unfold gatePass
  split
  · extract_lets +onlyGivenNames -merge -underBinder v1
    clear_value v1
    refine Same.ite2 ?_ ?_
    · exact Same.refl _ _
    · split
      rename_i a2 a3 s4 e6
      have h5 : Same [.tal, .ldg] s0 s4 := by
        refine Same.of3 e6 ?_
        refine Same.comp (same_gateTest _ _ _ _) (by decide) ?_
        exact Same.refl _ _
      exact h5
  · exact Same.refl _ _

theorem same_qspiEnd (x0 : Nat) (s0 : State) : Same [.regs, .pin] s0 (qspiEnd x0 s0) := by
  unfold qspiEnd
  extract_lets +onlyGivenNames -merge -underBinder v1
  clear_value v1
  refine Same.comp (same_setInt_top _ _ _ (Or.inl (by decide))) (by decide) ?_
  refine Same.comp (same_fput_top _ _ _ (Or.inl (by decide))) (by decide) ?_
  refine Same.comp (same_fput_top _ _ _ (Or.inl (by decide))) (by decide) ?_
  refine Same.set_pin (by decide) ?_
  exact Same.refl _ _

theorem same_sampleQueues (s0 : State) : Same [.tal, .tmg] s0 (sampleQueues s0) := by
  unfold sampleQueues
  extract_lets +onlyGivenNames -merge -underBinder v1 v2
  clear_value v1
  clear_value v2
  refine Same.ite ?_ ?_
  · exact Same.refl _ _
  · refine Same.foldl (fun _ _ h3 => ?_) ?_
    · refine Same.comp (same_sampleQueue _ _) (by decide) ?_
      exact h3
    refine Same.set_tmg (by decide) ?_
    exact Same.refl _ _

theorem same_verifyUpdate (x0 : Nat) (s0 : State) : Same [.regs, .prt, .mid] s0 (verifyUpdate x0 s0) := by
  unfold verifyUpdate
  extract_lets +onlyGivenNames -merge -underBinder v1 v2
  clear_value v1
  clear_value v2
  refine Same.ite ?_ ?_
  · refine Same.comp (same_setVerify _ _ _) (by decide) ?_
    exact Same.refl _ _
  · refine Same.ite ?_ ?_
    · refine Same.comp (same_setVerify _ _ _) (by decide) ?_
      exact Same.refl _ _
    · refine Same.ite ?_ ?_
      · refine Same.comp (same_setVerify _ _ _) (by decide) ?_
        exact Same.refl _ _
      · refine Same.ite ?_ ?_
        · refine Same.comp (same_sendVerify _ _) (by decide) ?_
          refine Same.comp (same_putPort _ _ _) (by decide) ?_
          refine Same.comp (same_setVerify _ _ _) (by decide) ?_
          exact Same.refl _ _
        · exact Same.refl _ _

theorem same_readHeaders (s0 : State) : Same [.regs, .low] s0 (readHeaders s0) := by
  unfold readHeaders
  refine Same.foldl (fun _ _ h1 => ?_) ?_
  · extract_lets +onlyGivenNames -merge -underBinder s2
    have h3 : Same [.regs, .low] s0 s2 := by
      unfold s2
      refine Same.comp (same_rput_lo _ _ _ (by decide)) (by decide) ?_
      exact h1
    clear_value s2
    split
    · refine Same.comp (same_slotResult _ _ _) (by decide) ?_
      exact h3
    · exact h3
  exact Same.refl _ _

theorem same_insertPresent (x0 : MoverJob) (s0 : State) : Same [.regs, .tab, .free] s0 (insertPresent x0 s0) := by
  unfold insertPresent
  split
  · refine Same.comp (same_tblFinish _ _ _) (by decide) ?_
    refine Same.comp (same_fput_top _ _ _ (Or.inl (by simp only [F.TBL_STATUS_MOVES]; omega))) (by decide) ?_
    exact Same.refl _ _
  · exact Same.refl _ _

theorem same_suppress (x0 : Nat) (s0 : State) : Same [.tal, .gbk] s0 (suppress x0 s0) := by
  unfold suppress
  extract_lets +onlyGivenNames -merge -underBinder v1 v2 v3
  clear_value v1
  clear_value v2
  clear_value v3
  refine Same.comp (same_gbkCtr _ _) (by decide) ?_
  refine Same.set_gbk (by decide) ?_
  exact Same.refl _ _

theorem same_clk10mMeasure (s0 : State) : Same [.regs, .tal, .tim, .phs] s0 (clk10mMeasure s0) := by
  unfold clk10mMeasure
  extract_lets +onlyGivenNames -merge -underBinder v1 v2 s3
  clear_value v1
  clear_value v2
  have h4 : Same [.regs, .tal, .tim, .phs] s0 s3 := by
    unfold s3
    refine Same.set_tim (by decide) ?_
    exact Same.refl _ _
  clear_value s3
  refine Same.ite ?_ ?_
  · refine Same.set_tim (by decide) ?_
    exact Same.refl _ _
  · split
    · exact h4
    · extract_lets +onlyGivenNames -merge -underBinder v5 v6 v7 s8
      clear_value v5
      clear_value v6
      clear_value v7
      have h9 : Same [.regs, .tal, .tim, .phs] s0 s8 := by
        unfold s8
        refine Same.set_tim (by decide) ?_
        exact h4
      clear_value s8
      refine Same.ite ?_ ?_
      · refine Same.comp (same_bump _ _ _) (by decide) ?_
        exact h4
      · refine Same.ite ?_ ?_
        · refine Same.comp (same_followInteg _) (by decide) ?_
          exact h9
        · exact h9

theorem same_mdioDone (x0 : Bool) (x1 : Nat) (s0 : State) : Same [.regs, .pin] s0 (mdioDone x0 x1 s0) := by
  unfold mdioDone
  split
  · exact Same.refl _ _
  · extract_lets +onlyGivenNames -merge -underBinder v1 s2 v4 s5
    clear_value v1
    have h3 : Same [.regs, .pin] s0 s2 := by
      unfold s2
      refine Same.set_pin (by decide) ?_
      exact Same.refl _ _
    clear_value s2
    clear_value v4
    have h6 : Same [.regs, .pin] s0 s5 := by
      unfold s5
      refine Same.ite ?_ ?_
      · refine Same.comp (same_fput_top _ _ _ (Or.inl (by decide))) (by decide) ?_
        exact h3
      · exact h3
    clear_value s5
    refine Same.comp (same_setInt_top _ _ _ (Or.inl (by decide))) (by decide) ?_
    refine Same.comp (same_fput_top _ _ _ (Or.inl (by decide))) (by decide) ?_
    refine Same.comp (same_fput_top _ _ _ (Or.inl (by decide))) (by decide) ?_
    exact h6

theorem same_tblDoDelete (x0 : Nat) (x1 : Nat) (x2 : Nat) (s0 : State) : Same [.tab] s0 (tblDoDelete x0 x1 x2 s0).2 := by
  unfold tblDoDelete
  split
  · exact Same.refl _ _
  · refine Same.comp (same_invalidate _ _ _ _) (by decide) ?_
    exact Same.refl _ _

theorem same_loopOp (x0 : Nat) (x1 : List Nat) (s0 : State) : Same [.regs, .tal, .dry] s0 (loopOp x0 x1 s0) := by
  unfold loopOp
  extract_lets +onlyGivenNames -merge -underBinder v1 v2 v3 v4
  clear_value v1
  clear_value v2
  clear_value v3
  clear_value v4
  refine Same.ite ?_ ?_
  · refine Same.comp (same_bump _ _ _) (by decide) ?_
    refine Same.comp (same_fput_top _ _ _ (Or.inl (by simp only [F.DRY_ERR_STATUS_PC]; omega))) (by decide) ?_
    refine Same.comp (same_rput_top _ _ _ (Or.inl (by simp only [A.DRY_ERR_ITER]; omega))) (by decide) ?_
    refine Same.comp (same_putErr _ _ _) (by decide) ?_
    exact Same.refl _ _
  · refine Same.comp (same_errNext _ _) (by decide) ?_
    refine Same.comp (same_rput_top _ _ _ (Or.inl (by simp only [A.DRY_ERR_ITER]; omega))) (by decide) ?_
    refine Same.comp (same_putErr _ _ _) (by decide) ?_
    exact Same.refl _ _

theorem same_ptpFix (x0 : Nat) (x1 : Copy) (x2 : Frame) (x3 : List Byte) (s0 : State) : Same [.tal] s0 (ptpFix x0 x1 x2 x3 s0).2 := by
  unfold ptpFix
  extract_lets +onlyGivenNames -merge -underBinder s1
  have h2 : Same [.tal] s0 s1.2 := by
    unfold s1
    refine Same.ite ?_ ?_
    · refine Same.comp (same_bump _ _ _) (by decide) ?_
      exact Same.refl _ _
    · exact Same.refl _ _
  clear_value s1
  refine Same.ite2 ?_ ?_
  · exact Same.refl _ _
  · split
    · exact h2
    · extract_lets +onlyGivenNames -merge -underBinder v3 v4 v5
      clear_value v3
      clear_value v4
      clear_value v5
      refine Same.ite2 ?_ ?_
      · exact h2
      · refine Same.ite2 ?_ ?_
        · refine Same.ite2 ?_ ?_
          · refine Same.comp (same_correct _ _ _ _ _) (by decide) ?_
            exact Same.refl _ _
          · exact Same.refl _ _
        · refine Same.ite2 ?_ ?_
          · exact Same.refl _ _
          · refine Same.ite2 ?_ ?_
            · refine Same.ite2 ?_ ?_
              · refine Same.comp (same_correct _ _ _ _ _) (by decide) ?_
                exact Same.refl _ _
              · exact Same.refl _ _
            · refine Same.ite2 ?_ ?_
              · refine Same.comp (same_correct _ _ _ _ _) (by decide) ?_
                exact Same.refl _ _
              · exact Same.refl _ _

theorem same_enqueue (x0 : Nat) (x1 : Nat) (x2 : Copy) (x3 : Nat) (x4 : Nat) (s0 : State) : Same [.regs, .tal, .dp] s0 (enqueue x0 x1 x2 x3 x4 s0) := by
  unfold enqueue
  extract_lets +onlyGivenNames -merge -underBinder v1 v2 s3 s5 s7 s9 s11 s13
  clear_value v1
  clear_value v2
  have h4 : Same [.regs, .tal, .dp] s0 s3 := by
    unfold s3
    refine Same.comp (same_fmax_top _ _ _ (Or.inl (by simp only [F.TM_Q_WATERMARK_MARK]; omega))) (by decide) ?_
    refine Same.comp (same_fput_top _ _ _ (Or.inl (by simp only [F.TM_Q_DEPTH_DEPTH]; omega))) (by decide) ?_
    exact Same.refl _ _
  clear_value s3
  have h6 : Same [.regs, .tal, .dp] s0 s5 := by
    unfold s5
    refine Same.comp (same_fput_top _ _ _ (Or.inl (by simp only [F.TM_PORT_USED_USED]; omega))) (by decide) ?_
    exact h4
  clear_value s5
  have h8 : Same [.regs, .tal, .dp] s0 s7 := by
    unfold s7
    refine Same.comp (same_fput_top _ _ _ (Or.inl (by decide))) (by decide) ?_
    exact h6
  clear_value s7
  have h10 : Same [.regs, .tal, .dp] s0 s9 := by
    unfold s9
    refine Same.comp (same_fput_top _ _ _ (Or.inl (by decide))) (by decide) ?_
    exact h8
  clear_value s9
  have h12 : Same [.regs, .tal, .dp] s0 s11 := by
    unfold s11
    refine Same.comp (same_bumpN _ _ _ _) (by decide) ?_
    refine Same.comp (same_bump _ _ _) (by decide) ?_
    exact h10
  clear_value s11
  have h14 : Same [.regs, .tal, .dp] s0 s13 := by
    unfold s13
    refine Same.ite ?_ ?_
    · refine Same.comp (same_setInt_top _ _ _ (Or.inl (by decide))) (by decide) ?_
      refine Same.comp (same_bump _ _ _) (by decide) ?_
      exact h12
    · exact h12
  clear_value s13
  refine Same.comp (same_putQueue _ _ _) (by decide) ?_
  exact h14

theorem same_followHostAdj (s0 : State) : Same [.regs, .tim, .phs] s0 (followHostAdj s0) := by
  unfold followHostAdj
  refine Same.ite ?_ ?_
  · exact Same.refl _ _
  · refine Same.comp (same_setAdj _ _) (by decide) ?_
    refine Same.comp (same_noteSlew _ _) (by decide) ?_
    exact Same.refl _ _

theorem same_loopUpdate (x0 : Int) (x1 : Nat) (x2 : Nat) (s0 : State) : Same [.regs, .tal, .phs] s0 (loopUpdate x0 x1 x2 s0) := by
  unfold loopUpdate
  split
  · extract_lets +onlyGivenNames -merge -underBinder v1 v2 v3 v4 v5 v6 s7 s9
    clear_value v1
    clear_value v2
    clear_value v3
    clear_value v4
    clear_value v5
    clear_value v6
    have h8 : Same [.regs, .tal, .phs] s0 s7 := by
      unfold s7
      refine Same.comp (same_setRate _ _) (by decide) ?_
      refine Same.set_phs (by decide) ?_
      exact Same.refl _ _
    clear_value s7
    have h10 : Same [.regs, .tal, .phs] s0 s9 := by
      unfold s9
      refine Same.comp (same_fput_top _ _ _ (Or.inl (by decide))) (by decide) ?_
      refine Same.comp (same_rput_top _ _ _ (Or.inl (by decide))) (by decide) ?_
      exact h8
    clear_value s9
    refine Same.comp (same_noteSample _ _) (by decide) ?_
    refine Same.ite ?_ ?_
    · refine Same.comp (same_bump _ _ _) (by decide) ?_
      exact h10
    · exact h10

theorem same_dropEverywhere_h {T : List Part} {s x : State} {x1 : Nat → Copy → Bool} {x2 : Nat → Copy → State → State} (m : [Part.regs, Part.dp, Part.tmg].all (fun p => T.contains p) = true)
    (k : ∀ q c y, Same T s y → Same T s (x2 q c y)) (h : Same T s x) : Same T s (dropEverywhere x1 x2 x) := by
  unfold dropEverywhere
  exact Same.foldl (fun _ _ h1 => same_dropQueued_h m (fun _ _ h2 => k _ _ _ h2) h1) h

theorem same_noteHolds (x0 : Nat) (s0 : State) : Same [.tal, .dp] s0 (noteHolds x0 s0) := by
  unfold noteHolds
  refine Same.ite ?_ ?_
  · refine Same.foldl (fun _ _ h1 => ?_) ?_
    · refine Same.comp (same_noteHold _ _ _) (by decide) ?_
      exact h1
    exact Same.refl _ _
  · exact Same.refl _ _

theorem same_tablePut (x0 : Nat) (x1 : Nat) (s0 : State) : Same [.regs, .hif, .mid] s0 (tablePut x0 x1 s0) := by
  unfold tablePut
  extract_lets +onlyGivenNames -merge -underBinder v1 v2
  clear_value v1
  clear_value v2
  refine Same.ite ?_ ?_
  · refine Same.ite ?_ ?_
    · refine Same.set_hif (by decide) ?_
      exact Same.refl _ _
    · refine Same.comp (same_unmask _ _) (by decide) ?_
      exact Same.refl _ _
  · refine Same.set_hif (by decide) ?_
    exact Same.refl _ _

theorem same_mbxEnd (x0 : Nat) (x1 : Nat) (x2 : List Nat) (s0 : State) : Same [.regs, .hif, .mid] s0 (mbxEnd x0 x1 x2 s0) := by
  unfold mbxEnd
  extract_lets +onlyGivenNames -merge -underBinder v1 s2 s5
  clear_value v1
  have h3 : Same [.regs, .hif, .mid] s0 s2 := by
    unfold s2
    refine Same.foldl (fun _ _ h4 => ?_) ?_
    · refine Same.comp (same_rput_hi _ _ _ (Or.inl (by simp only [A.HIF_MBX_RSP]; omega))) (by decide) ?_
      exact h4
    refine Same.set_hif (by decide) ?_
    exact Same.refl _ _
  clear_value s2
  have h6 : Same [.regs, .hif, .mid] s0 s5 := by
    unfold s5
    refine Same.comp (same_fput_hi _ _ _ (Or.inl (by decide))) (by decide) ?_
    refine Same.comp (same_fput_hi _ _ _ (Or.inl (by decide))) (by decide) ?_
    refine Same.comp (same_fput_hi _ _ _ (Or.inl (by decide))) (by decide) ?_
    exact h3
  clear_value s5
  refine Same.comp (same_setInt_hi _ _ _ (Or.inl (by decide))) (by decide) ?_
  refine Same.comp (same_fput_hi _ _ _ (Or.inl (by decide))) (by decide) ?_
  exact h6

theorem same_tmplComplete (s0 : State) : Same [.regs, .hlt, .fry] s0 (tmplComplete s0) := by
  unfold tmplComplete
  split
  · exact Same.refl _ _
  · extract_lets +onlyGivenNames -merge -underBinder v1
    clear_value v1
    split
    rename_i a2 s3 e5
    have h4 : Same [.regs, .hlt, .fry] s0 s3 := by
      refine Same.of2 e5 ?_
      refine Same.comp (same_tmplDo _ _ _) (by decide) ?_
      refine Same.set_fry (by decide) ?_
      exact Same.refl _ _
    refine Same.comp (same_setInt_top _ _ _ (Or.inl (by decide))) (by decide) ?_
    refine Same.comp (same_fput_top _ _ _ (Or.inl (by decide))) (by decide) ?_
    refine Same.comp (same_fput_top _ _ _ (Or.inl (by decide))) (by decide) ?_
    exact h4

theorem same_healthInt (x0 : Nat) (x1 : Nat) (s0 : State) : Same [.regs] s0 (healthInt x0 x1 s0) := by
  unfold healthInt
  refine Same.comp (same_setInt_top _ _ _ (Or.inl (by simp only [A.HTH_INT_STAT]; omega))) (by decide) ?_
  exact Same.refl _ _

theorem same_hostFrame (x0 : Nat) (x1 : TxFrame) (s0 : State) : Same [.tal, .dp] s0 (hostFrame x0 x1 s0) := by
  unfold hostFrame
  extract_lets +onlyGivenNames -merge -underBinder v1 v2 v3 v4 s5 v7
  clear_value v1
  clear_value v2
  clear_value v3
  clear_value v4
  have h6 : Same [.tal, .dp] s0 s5 := by
    unfold s5
    refine Same.comp (same_bumpN _ _ _ _) (by decide) ?_
    refine Same.comp (same_txCtr _ _ _) (by decide) ?_
    exact Same.refl _ _
  clear_value s5
  clear_value v7
  refine Same.ite ?_ ?_
  · exact h6
  · refine Same.ite ?_ ?_
    · exact h6
    · split
      rename_i a8 s9 e11
      have h10 : Same [.tal, .dp] s0 s9 := by
        refine Same.of2 e11 ?_
        refine Same.comp (same_addFrame _ _) (by decide) ?_
        exact h6
      refine Same.comp (same_putHostFifo _ _ _) (by decide) ?_
      exact h10

theorem same_noteSojourn (x0 : Nat) (x1 : Copy) (s0 : State) : Same [.regs] s0 (noteSojourn x0 x1 s0) := by
  unfold noteSojourn
  extract_lets +onlyGivenNames -merge -underBinder v1
  clear_value v1
  refine Same.comp (same_fmax_top _ _ _ (Or.inl (by simp only [F.TM_Q_SOJ_MAX_NS]; omega))) (by decide) ?_
  exact Same.refl _ _

theorem same_disarmOp (s0 : State) : Same [.regs, .frg, .fab, .low] s0 (disarmOp s0) := by
  unfold disarmOp
  split
  · extract_lets +onlyGivenNames -merge -underBinder v1
    refine Same.comp (same_forgetArmed _ _) (by decide) ?_
    refine Same.comp (same_setFrgState _ _) (by decide) ?_
    refine Same.comp (same_frgResult _ _) (by decide) ?_
    refine Same.set_frg (by decide) (Or.inr rfl) ?_
    exact Same.refl _ _
  · refine Same.comp (same_frgResult _ _) (by decide) ?_
    exact Same.refl _ _

theorem same_harvestWrite (s0 : State) : Same [.regs, .mem, .tal, .dry] s0 (harvestWrite s0) := by
  unfold harvestWrite
  split
  · exact Same.refl _ _
  · extract_lets +onlyGivenNames -merge -underBinder s1 v3
    have h2 : Same [.regs, .mem, .tal, .dry] s0 s1 := by
      unfold s1
      refine Same.comp (same_writeTaken _ _) (by decide) ?_
      exact Same.refl _ _
    clear_value s1
    clear_value v3
    refine Same.ite ?_ ?_
    · exact Same.refl _ _
    · refine Same.ite ?_ ?_
      · refine Same.comp (same_harvestData _ _) (by decide) ?_
        exact h2
      · refine Same.ite ?_ ?_
        · refine Same.comp (same_harvestEnd _ _) (by decide) ?_
          exact h2
        · refine Same.comp (same_memWrite _ _ _) (by decide) ?_
          refine Same.set_tal (by decide) ?_
          exact h2

theorem same_dropFrame (x0 : Nat) (x1 : Frame) (s0 : State) : Same [.regs, .fab, .dp, .tmg] s0 (dropFrame x0 x1 s0) := by
  unfold dropFrame
  extract_lets +onlyGivenNames -merge -underBinder s1 v4
  have h2 : Same [.regs, .fab, .dp, .tmg] s0 s1 := by
    unfold s1
    refine same_dropEverywhere_h (by decide) (fun _ _ _ h3 => ?_) ?_
    · exact h3
    exact Same.refl _ _
  clear_value s1
  clear_value v4
  refine Same.comp (same_putFrame _ _ _) (by decide) ?_
  refine Same.set_fab (by decide) ?_
  exact h2

theorem same_taRepeat (x0 : Nat) (x1 : Nat) (x2 : Nat) (s0 : State) : Same [.regs] s0 (taRepeat x0 x1 x2 s0) := by
  unfold taRepeat
  extract_lets +onlyGivenNames -merge -underBinder v1 v2 v3
  clear_value v1
  clear_value v2
  clear_value v3
  refine Same.comp (same_faddSat_top _ _ _ (Or.inl (by simp only [F.PHS_TA_STATUS_MISSED]; omega))) (by decide) ?_
  refine Same.comp (same_rput_top _ _ _ (Or.inl (by simp only [A.PHS_TA_CYCLE_HI]; omega))) (by decide) ?_
  refine Same.comp (same_rput_top _ _ _ (Or.inl (by simp only [A.PHS_TA_CYCLE_LO]; omega))) (by decide) ?_
  exact Same.refl _ _

theorem same_verifyReceived (x0 : Nat) (s0 : State) : Same [.tal, .prt] s0 (verifyReceived x0 s0) := by
  unfold verifyReceived
  refine Same.ite ?_ ?_
  · refine Same.comp (same_verifyTaken _ _) (by decide) ?_
    exact Same.refl _ _
  · exact Same.refl _ _

theorem same_fenceStep (x0 : Nat) (s0 : State) : Same [.regs, .tal, .dry] s0 (fenceStep x0 s0) := by
  unfold fenceStep
  refine Same.ite ?_ ?_
  · refine Same.comp (same_errNext _ _) (by decide) ?_
    refine Same.comp (same_errTaken _ _) (by decide) ?_
    exact Same.refl _ _
  · exact Same.refl _ _

theorem same_patternCounts (x0 : Nat) (s0 : State) : Same [.regs, .mid] s0 (patternCounts x0 s0) := by
  unfold patternCounts
  refine Same.ite ?_ ?_
  · refine Same.foldl (fun _ _ h1 => ?_) ?_
    · refine Same.foldl (fun _ _ h2 => ?_) ?_
      · refine Same.comp (same_patternCount _ _ _ _) (by decide) ?_
        exact h2
      exact h1
    exact Same.refl _ _
  · exact Same.refl _ _

theorem same_stage322 (x0 : Nat) (x1 : Frame) (x2 : Pass) (s0 : State) : Same [.tal, .ldg, .tab] s0 (stage322 x0 x1 x2 s0).2 := by
  unfold stage322
  split
  rename_i a1 s2 e4
  have h3 : Same [.tal, .ldg, .tab] s0 s2 := by
    refine Same.of2 e4 ?_
    refine Same.comp (same_gatePass _ _ _) (by decide) ?_
    exact Same.refl _ _
  extract_lets +onlyGivenNames -merge -underBinder v5
  clear_value v5
  refine Same.ite2 ?_ ?_
  · exact h3
  · refine Same.ite2 ?_ ?_
    · split
      rename_i a6 s7 e9
      have h8 : Same [.tal, .ldg, .tab] s0 s7 := by
        refine Same.of2 e9 ?_
        refine Same.comp (same_meterUpdate _ _ _ _ _) (by decide) ?_
        exact h3
      exact h8
    · exact h3

theorem same_tblDoFlush (x0 : Nat) (x1 : TblCmd) (s0 : State) : Same [.tab] s0 (tblDoFlush x0 x1 s0).2 := by
  unfold tblDoFlush
  refine Same.foldl (fun _ _ h1 => ?_) ?_
  · refine Same.comp (same_invalidate _ _ _ _) (by decide) ?_
    exact h1
  exact Same.refl _ _

theorem same_tblDoAge (x0 : Nat) (x1 : Nat) (s0 : State) : Same [.tab] s0 (tblDoAge x0 x1 s0).2 := by
  unfold tblDoAge
  extract_lets +onlyGivenNames -merge -underBinder v1 v2
  clear_value v1
  clear_value v2
  refine Same.ite2 ?_ ?_
  · exact Same.refl _ _
  · refine Same.ite2 ?_ ?_
    · exact Same.refl _ _
    · refine Same.ite2 ?_ ?_
      · exact Same.refl _ _
      · refine Same.ite2 ?_ ?_
        · exact Same.refl _ _
        · refine Same.comp (same_invalidate _ _ _ _) (by decide) ?_
          exact Same.refl _ _

theorem same_regRead (x0 : Nat) (s0 : State) : Same [.regs, .hif, .tim, .pin, .tab, .low, .mid] s0 (regRead x0 s0).2 := by
  unfold regRead
  extract_lets +onlyGivenNames -merge -underBinder v1 v2 v3 s4 s6
  clear_value v1
  clear_value v2
  clear_value v3
  have h5 : Same [.regs, .hif, .tim, .pin, .tab, .low, .mid] s0 s4 := by
    unfold s4
    refine Same.comp (same_rput _ _ _) (by decide) ?_
    exact Same.refl _ _
  clear_value s4
  have h7 : Same [.regs, .hif, .tim, .pin, .tab, .low, .mid] s0 s6 := by
    unfold s6
    refine Same.ite ?_ ?_
    · refine Same.comp (same_txtsPop _) (by decide) ?_
      exact h5
    · refine Same.ite ?_ ?_
      · refine Same.comp (same_notePop _ _) (by decide) ?_
        exact h5
      · refine Same.ite ?_ ?_
        · refine Same.comp (same_i2cPop _ _) (by decide) ?_
          exact h5
        · refine Same.ite ?_ ?_
          · refine Same.comp (same_i2cPop _ _) (by decide) ?_
            exact h5
          · exact h5
  clear_value s6
  exact h7

theorem same_takeFrame (x0 : Nat) (s0 : State) : Same [.tal, .dp] s0 (takeFrame x0 s0) := by
  unfold takeFrame
  refine Same.ite ?_ ?_
  · exact Same.refl _ _
  · split
    · extract_lets +onlyGivenNames -merge -underBinder v1 s2
      clear_value v1
      have h3 : Same [.tal, .dp] s0 s2 := by
        unfold s2
        refine Same.ite ?_ ?_
        · refine Same.comp (same_parseCtr _ _ _) (by decide) ?_
          exact Same.refl _ _
        · exact Same.refl _ _
      clear_value s2
      refine Same.comp (same_putPipe _ _ _) (by decide) ?_
      refine Same.comp (same_putRecirc _ _ _) (by decide) ?_
      exact h3
    · split
      · split
        · extract_lets +onlyGivenNames -merge -underBinder v4
          clear_value v4
          refine Same.comp (same_enterFirst _ _ _) (by decide) ?_
          refine Same.comp (same_putIngress _ _ _) (by decide) ?_
          refine Same.set_dp (by decide) ?_
          exact Same.refl _ _
        · exact Same.refl _ _
      · split
        · refine Same.comp (same_enterFirst _ _ _) (by decide) ?_
          refine Same.comp (same_putHostFifo _ _ _) (by decide) ?_
          exact Same.refl _ _
        · exact Same.refl _ _

theorem same_copyDone (x0 : Nat) (x1 : Nat) (x2 : RxWork) (s0 : State) : Same [.regs, .tal, .dry, .dp] s0 (copyDone x0 x1 x2 s0) := by
  unfold copyDone
  extract_lets +onlyGivenNames -merge -underBinder v1 s2 s4
  clear_value v1
  have h3 : Same [.regs, .tal, .dry, .dp] s0 s2 := by
    unfold s2
    refine Same.comp (same_takeDone _ _ _ _) (by decide) ?_
    exact Same.refl _ _
  clear_value s2
  have h5 : Same [.regs, .tal, .dry, .dp] s0 s4 := by
    unfold s4
    refine Same.comp (same_putRx _ _ _) (by decide) ?_
    exact h3
  clear_value s4
  refine Same.comp (same_freeCells _) (by decide) ?_
  refine Same.comp (same_rxReport _ _) (by decide) ?_
  refine Same.comp (same_bumpN _ _ _ _) (by decide) ?_
  refine Same.comp (same_bump _ _ _) (by decide) ?_
  exact h5

theorem same_fullLoadOp (s0 : State) : Same [.regs, .frg, .low] s0 (fullLoadOp s0) := by
  unfold fullLoadOp
  refine Same.ite ?_ ?_
  · refine Same.comp (same_openLoad _ _) (by decide) ?_
    refine Same.comp (same_frgResult _ _) (by decide) ?_
    exact Same.refl _ _
  · refine Same.comp (same_frgResult _ _) (by decide) ?_
    exact Same.refl _ _

theorem same_enterLog (x0 : GbkRecord) (x1 : List GbkRecord) (s0 : State) : Same [.regs, .tal, .gbk] s0 (enterLog x0 x1 s0) := by
  unfold enterLog
  extract_lets +onlyGivenNames -merge -underBinder v1 v2 s3 s5 s7 s9 s11
  clear_value v1
  clear_value v2
  have h4 : Same [.regs, .tal, .gbk] s0 s3 := by
    unfold s3
    refine Same.set_gbk (by decide) ?_
    exact Same.refl _ _
  clear_value s3
  have h6 : Same [.regs, .tal, .gbk] s0 s5 := by
    unfold s5
    refine Same.comp (same_rput_top _ _ _ (Or.inl (by decide))) (by decide) ?_
    exact h4
  clear_value s5
  have h8 : Same [.regs, .tal, .gbk] s0 s7 := by
    unfold s7
    refine Same.comp (same_gbkCtr _ _) (by decide) ?_
    exact h6
  clear_value s7
  have h10 : Same [.regs, .tal, .gbk] s0 s9 := by
    unfold s9
    refine Same.ite ?_ ?_
    · refine Same.comp (same_gbkCtr _ _) (by decide) ?_
      exact h8
    · exact h8
  clear_value s9
  have h12 : Same [.regs, .tal, .gbk] s0 s11 := by
    unfold s11
    refine Same.comp (same_setInt_top _ _ _ (Or.inl (by decide))) (by decide) ?_
    exact h10
  clear_value s11
  refine Same.ite ?_ ?_
  · refine Same.comp (same_setInt_top _ _ _ (Or.inl (by decide))) (by decide) ?_
    exact h12
  · exact h12

theorem same_overflowed (x0 : Nat) (s0 : State) : Same [.regs, .tal] s0 (overflowed x0 s0) := by
  unfold overflowed
  extract_lets +onlyGivenNames -merge -underBinder s1
  have h2 : Same [.regs, .tal] s0 s1 := by
    unfold s1
    refine Same.comp (same_gbkCtr _ _) (by decide) ?_
    exact Same.refl _ _
  clear_value s1
  refine Same.ite ?_ ?_
  · refine Same.comp (same_setInt_top _ _ _ (Or.inl (by decide))) (by decide) ?_
    refine Same.comp (same_gbkCtr _ _) (by decide) ?_
    exact h2
  · exact h2

theorem same_writePreempt (x0 : Nat) (x1 : Nat) (s0 : State) : Same [.regs, .prt, .mid] s0 (writePreempt x0 x1 s0) := by
  unfold writePreempt
  refine Same.comp (same_verifyUpdate _ _) (by decide) ?_
  refine Same.comp (same_writeRw_hi _ _ _ (Or.inl (by simp only [A.PRT_PREEMPT]; omega))) (by decide) ?_
  exact Same.refl _ _

theorem same_enterQueue (x0 : Nat) (x1 : Nat) (x2 : Nat) (x3 : Nat) (s0 : State) : Same [.regs, .tal, .gbk] s0 (enterQueue x0 x1 x2 x3 s0) := by
  unfold enterQueue
  extract_lets +onlyGivenNames -merge -underBinder v1 v2 v3 v4 s5
  clear_value v1
  clear_value v2
  clear_value v3
  clear_value v4
  have h6 : Same [.regs, .tal, .gbk] s0 s5 := by
    unfold s5
    refine Same.set_gbk (by decide) ?_
    exact Same.refl _ _
  clear_value s5
  split
  · exact h6
  · refine Same.comp (same_overflowed _ _) (by decide) ?_
    exact h6

theorem same_finalPlan (x0 : Nat) (x1 : Copy) (x2 : Frame) (s0 : State) : Same [.tal, .fab] s0 (finalPlan x0 x1 x2 s0).2 := by
  unfold finalPlan
  refine Same.ite2 ?_ ?_
  · split
    rename_i a1 s2 e4
    have h3 : Same [.tal, .fab] s0 s2 := by
      refine Same.of2 e4 ?_
      refine Same.comp (same_kixonFix _ _ _ _) (by decide) ?_
      exact Same.refl _ _
    exact h3
  · split
    rename_i a5 s6 e8
    have h7 : Same [.tal, .fab] s0 s6 := by
      refine Same.of2 e8 ?_
      refine Same.comp (same_ptpFix _ _ _ _ _) (by decide) ?_
      exact Same.refl _ _
    extract_lets +onlyGivenNames -merge -underBinder v9
    clear_value v9
    exact h7

theorem same_spoilFrame (x0 : Nat) (s0 : State) : Same [.regs, .tal, .fab, .dp, .tmg] s0 (spoilFrame x0 s0) := by
  unfold spoilFrame
  extract_lets +onlyGivenNames -merge -underBinder s1 v4 v5 v6 s7 v9 v10 s11
  have h2 : Same [.regs, .tal, .fab, .dp, .tmg] s0 s1 := by
    unfold s1
    refine same_dropEverywhere_h (by decide) (fun _ _ _ h3 => ?_) ?_
    · refine Same.comp (same_bump _ _ _) (by decide) ?_
      exact h3
    exact Same.refl _ _
  clear_value s1
  clear_value v4
  clear_value v5
  clear_value v6
  have h8 : Same [.regs, .tal, .fab, .dp, .tmg] s0 s7 := by
    unfold s7
    refine Same.set_dp (by decide) ?_
    exact h2
  clear_value s7
  clear_value v9
  clear_value v10
  have h12 : Same [.regs, .tal, .fab, .dp, .tmg] s0 s11 := by
    unfold s11
    refine Same.set_fab (by decide) ?_
    exact h8
  clear_value s11
  split
  · refine Same.comp (same_putFrame _ _ _) (by decide) ?_
    refine Same.ite ?_ ?_
    · refine Same.comp (same_bump _ _ _) (by decide) ?_
      exact h12
    · exact h12
  · exact h12

theorem same_safeDrop (s0 : State) : Same [.regs, .tal, .dp, .tmg] s0 (safeDrop s0) := by
  unfold safeDrop
  extract_lets +onlyGivenNames -merge -underBinder s1
  have h2 : Same [.regs, .tal, .dp, .tmg] s0 s1 := by
    unfold s1
    refine same_dropEverywhere_h (by decide) (fun _ _ _ h3 => ?_) ?_
    · refine Same.comp (same_bump _ _ _) (by decide) ?_
      exact h3
    exact Same.refl _ _
  clear_value s1
  refine Same.ite ?_ ?_
  · refine Same.comp (same_freeCells _) (by decide) ?_
    refine Same.foldl (fun _ _ h4 => ?_) ?_
    · split
      · refine Same.ite ?_ ?_
        · exact h4
        · refine Same.comp (same_bump _ _ _) (by decide) ?_
          refine Same.comp (same_dropSuspended _ _ _) (by decide) ?_
          exact h4
      · exact h4
    exact h2
  · exact Same.refl _ _

theorem same_qspiDone (x0 : List Byte) (s0 : State) : Same [.regs, .frg, .pin] s0 (qspiDone x0 s0) := by
  unfold qspiDone
  split
  · exact Same.refl _ _
  · extract_lets +onlyGivenNames -merge -underBinder v1 v2 v3 v4 s5
    clear_value v1
    clear_value v2
    clear_value v3
    clear_value v4
    have h6 : Same [.regs, .frg, .pin] s0 s5 := by
      unfold s5
      refine Same.ite ?_ ?_
      · refine Same.comp (same_flashActs _ _ _ _) (by decide) ?_
        exact Same.refl _ _
      · refine Same.foldl (fun _ _ h7 => ?_) ?_
        · refine Same.comp (same_putQspiByte _ _ _) (by decide) ?_
          exact h7
        exact Same.refl _ _
    clear_value s5
    refine Same.comp (same_qspiEnd _ _) (by decide) ?_
    exact h6

theorem same_verifyAll (s0 : State) : Same [.regs, .prt, .mid] s0 (verifyAll s0) := by
  unfold verifyAll
  refine Same.foldl (fun _ _ h1 => ?_) ?_
  · refine Same.comp (same_verifyUpdate _ _) (by decide) ?_
    exact h1
  exact Same.refl _ _

theorem same_pciAccess (x0 : PciAccess) (s0 : State) : Same [.regs, .hif, .mid] s0 (pciAccess x0 s0) := by
  unfold pciAccess
  extract_lets +onlyGivenNames -merge -underBinder v1
  have h1 (l : List Nat) : Same [.regs, .hif, .mid] s0 (v1 l) := Same.set_hif (by decide) (Same.refl _ _)
  clear_value v1
  split
  · exact Same.comp (same_unmask _ _) (by decide) (Same.refl _ _)
  · exact Same.ite (h1 _) (h1 _)
  · exact Same.ite (Same.refl _ _) (Same.comp (same_tablePut _ _ _) (by decide) (Same.refl _ _))
  · exact Same.ite (h1 _) (h1 _)
  · exact h1 _
  · exact Same.comp (same_cfgPut _ _ _) (by decide) (Same.refl _ _)
  · exact Same.ite (h1 _) (h1 _)
  · exact Same.ite (h1 _) (h1 _)

theorem same_trigDisarm (x0 : Nat) (s0 : State) : Same [.regs, .frg, .phs, .fab, .low] s0 (trigDisarm x0 s0).2 := by
  unfold trigDisarm
  split
  · exact Same.refl _ _
  · extract_lets +onlyGivenNames -merge -underBinder v1 s2
    clear_value v1
    have h3 : Same [.regs, .frg, .phs, .fab, .low] s0 s2 := by
      unfold s2
      refine Same.set_fab (by decide) ?_
      exact Same.refl _ _
    clear_value s2
    refine Same.ite2 ?_ ?_
    · split
      · refine Same.ite2 ?_ ?_
        · refine Same.comp (same_disarmOp _) (by decide) ?_
          exact h3
        · exact h3
      · exact h3
    · refine Same.ite2 ?_ ?_
      · refine Same.comp (same_taForget _ _) (by decide) ?_
        refine Same.comp (same_fput_top _ _ _ (Or.inl (by simp only [F.PHS_TA_CTL_ARM]; omega))) (by decide) ?_
        exact h3
      · exact h3

theorem same_handOver (x0 : Nat) (x1 : Copy) (x2 : List Copy) (s0 : State) : Same [.regs, .tal, .dp, .tab, .tmg] s0 (handOver x0 x1 x2 s0) := by
  unfold handOver
  extract_lets +onlyGivenNames -merge -underBinder v1
  clear_value v1
  refine Same.comp (same_returnCharges _ _ _ _) (by decide) ?_
  refine Same.comp (same_chargeShapers _ _ _ _ _) (by decide) ?_
  refine Same.comp (same_noteSojourn _ _ _) (by decide) ?_
  refine Same.comp (same_leaveQueue _ _ _ _) (by decide) ?_
  exact Same.refl _ _

theorem same_spoilCell (x0 : EccWord) (s0 : State) : Same [.regs, .tal, .fab, .hlt, .dp, .tmg, .free] s0 (spoilCell x0 s0) := by
  unfold spoilCell
  extract_lets +onlyGivenNames -merge -underBinder v1 v2 s3
  clear_value v1
  clear_value v2
  have h4 : Same [.regs, .tal, .fab, .hlt, .dp, .tmg, .free] s0 s3 := by
    unfold s3
    refine Same.set_free (by decide) ?_
    exact Same.refl _ _
  clear_value s3
  refine Same.comp (same_spareBank _ _) (by decide) ?_
  split
  · refine Same.comp (same_freeCells _) (by decide) ?_
    refine Same.comp (same_spoilFrame _ _) (by decide) ?_
    exact h4
  · exact h4

theorem same_raise (x0 : Nat) (x1 : Nat) (x2 : Nat) (x3 : Nat) (s0 : State) : Same [.regs, .tal, .gbk] s0 (raise x0 x1 x2 x3 s0) := by
  unfold raise
  extract_lets +onlyGivenNames -merge -underBinder v1 v2 v3 v4 s5
  clear_value v1
  clear_value v2
  clear_value v3
  clear_value v4
  have h6 : Same [.regs, .tal, .gbk] s0 s5 := by
    unfold s5
    refine Same.set_gbk (by decide) ?_
    exact Same.refl _ _
  clear_value s5
  refine Same.ite ?_ ?_
  · refine Same.comp (same_enterQueue _ _ _ _ _) (by decide) ?_
    exact Same.refl _ _
  · refine Same.ite ?_ ?_
    · refine Same.comp (same_enterQueue _ _ _ _ _) (by decide) ?_
      exact h6
    · refine Same.comp (same_suppress _ _) (by decide) ?_
      exact h6

theorem same_lagNoMember (x0 : Nat) (x1 : Nat) (s0 : State) : Same [.regs, .tal, .gbk] s0 (lagNoMember x0 x1 s0) := by
  unfold lagNoMember
  refine Same.comp (same_raise _ _ _ _ _) (by decide) ?_
  refine Same.comp (same_setInt_top _ _ _ (Or.inl (by decide))) (by decide) ?_
  refine Same.comp (same_fdbCtr _ _ _) (by decide) ?_
  exact Same.refl _ _

theorem same_displace (x0 : GbkRecord) (s0 : State) : Same [.regs, .tal, .gbk] s0 (displace x0 s0) := by
  unfold displace
  extract_lets +onlyGivenNames -merge -underBinder s1 v3
  have h2 : Same [.regs, .tal, .gbk] s0 s1 := by
    unfold s1
    refine Same.comp (same_missSpill _ _) (by decide) ?_
    refine Same.comp (same_gbkCtr _ _) (by decide) ?_
    exact Same.refl _ _
  clear_value s1
  clear_value v3
  refine Same.ite ?_ ?_
  · exact h2
  · refine Same.comp (same_raise _ _ _ _ _) (by decide) ?_
    refine Same.comp (same_setInt_top _ _ _ (Or.inl (by decide))) (by decide) ?_
    refine Same.set_gbk (by decide) ?_
    exact h2

theorem same_copyComplete (x0 : Nat) (s0 : State) : Same [.regs, .mem, .tal, .dry, .dp] s0 (copyComplete x0 s0) := by
  unfold copyComplete
  extract_lets +onlyGivenNames -merge -underBinder v1
  clear_value v1
  split
  · exact Same.refl _ _
  · extract_lets +onlyGivenNames -merge -underBinder v2 v3 v4 s5
    clear_value v2
    clear_value v3
    clear_value v4
    have h6 : Same [.regs, .mem, .tal, .dry, .dp] s0 s5 := by
      unfold s5
      refine Same.comp (same_memWrite _ _ _) (by decide) ?_
      refine Same.comp (same_writeTaken _ _) (by decide) ?_
      exact Same.refl _ _
    clear_value s5
    refine Same.ite ?_ ?_
    · exact Same.refl _ _
    · refine Same.ite ?_ ?_
      · refine Same.comp (same_putRx _ _ _) (by decide) ?_
        exact h6
      · refine Same.comp (same_copyDone _ _ _ _) (by decide) ?_
        exact h6

theorem same_hopsExceeded (x0 : Nat × Nat) (x1 : Nat) (s0 : State) : Same [.regs, .tal, .gbk] s0 (hopsExceeded x0 x1 s0) := by
  unfold hopsExceeded
  refine Same.comp (same_raise _ _ _ _ _) (by decide) ?_
  refine Same.comp (same_setInt_top _ _ _ (Or.inl (by decide))) (by decide) ?_
  refine Same.comp (same_bump _ _ _) (by decide) ?_
  exact Same.refl _ _

theorem same_applySetCycle (s0 : State) : Same [.regs, .tal, .gbk, .phs, .ldg] s0 (applySetCycle s0) := by
  unfold applySetCycle
  extract_lets +onlyGivenNames -merge -underBinder v1 v2 v3 s4
  clear_value v1
  clear_value v2
  clear_value v3
  have h5 : Same [.regs, .tal, .gbk, .phs, .ldg] s0 s4 := by
    unfold s4
    refine Same.comp (same_shiftStarts _ _ _) (by decide) ?_
    refine Same.set_phs (by decide) ?_
    exact Same.refl _ _
  clear_value s4
  refine Same.ite ?_ ?_
  · refine Same.comp (same_raise _ _ _ _ _) (by decide) ?_
    refine Same.comp (same_fput_top _ _ _ (Or.inl (by decide))) (by decide) ?_
    exact h5
  · exact Same.refl _ _

theorem same_bankWithdrawn (x0 : Nat) (s0 : State) : Same [.regs, .glb, .tal, .gbk, .hlt] s0 (bankWithdrawn x0 s0) := by
  unfold bankWithdrawn
  extract_lets +onlyGivenNames -merge -underBinder v1 v2 s3 s5 s7
  clear_value v1
  clear_value v2
  have h4 : Same [.regs, .glb, .tal, .gbk, .hlt] s0 s3 := by
    unfold s3
    refine Same.set_hlt (by decide) ?_
    exact Same.refl _ _
  clear_value s3
  have h6 : Same [.regs, .glb, .tal, .gbk, .hlt] s0 s5 := by
    unfold s5
    refine Same.comp (same_forBits_top _ _ _ (Or.inl (by simp only [A.HLT_BANK_WD]; omega))) (by decide) ?_
    refine Same.comp (same_keepInForce _ _) (by decide) ?_
    exact h4
  clear_value s5
  have h8 : Same [.regs, .glb, .tal, .gbk, .hlt] s0 s7 := by
    unfold s7
    refine Same.comp (same_raise _ _ _ _ _) (by decide) ?_
    refine Same.comp (same_bump _ _ _) (by decide) ?_
    refine Same.comp (same_setInt_top _ _ _ (Or.inl (by decide))) (by decide) ?_
    exact h6
  clear_value s7
  refine Same.ite ?_ ?_
  · exact Same.refl _ _
  · refine Same.ite ?_ ?_
    · refine Same.comp (same_raise _ _ _ _ _) (by decide) ?_
      refine Same.comp (same_setInt_top _ _ _ (Or.inl (by decide))) (by decide) ?_
      exact h8
    · exact h8

theorem same_pushTxStamp (x0 : Nat) (x1 : Nat) (x2 : Nat) (s0 : State) : Same [.regs, .tal, .gbk, .tim] s0 (pushTxStamp x0 x1 x2 s0) := by
  unfold pushTxStamp
  extract_lets +onlyGivenNames -merge -underBinder v1 v2 s3
  clear_value v1
  clear_value v2
  have h4 : Same [.regs, .tal, .gbk, .tim] s0 s3 := by
    unfold s3
    refine Same.comp (same_bump _ _ _) (by decide) ?_
    refine Same.set_tim (by decide) ?_
    exact Same.refl _ _
  clear_value s3
  refine Same.ite ?_ ?_
  · refine Same.comp (same_raise _ _ _ _ _) (by decide) ?_
    refine Same.comp (same_setInt_top _ _ _ (Or.inl (by decide))) (by decide) ?_
    refine Same.comp (same_bump _ _ _) (by decide) ?_
    exact Same.refl _ _
  · refine Same.ite ?_ ?_
    · refine Same.comp (same_setInt_top _ _ _ (Or.inl (by decide))) (by decide) ?_
      exact h4
    · exact h4

theorem same_parseEvent (x0 : Nat) (x1 : Nat) (x2 : Frame) (x3 : Nat) (s0 : State) : Same [.regs, .tal, .gbk] s0 (parseEvent x0 x1 x2 x3 s0) := by
  unfold parseEvent
  refine Same.comp (same_raise _ _ _ _ _) (by decide) ?_
  exact Same.refl _ _

theorem same_lagCopy (x0 : Nat) (x1 : Frame) (x2 : Pass) (x3 : Copy) (x4 : Nat) (s0 : State) : Same [.regs, .tal, .gbk] s0 (lagCopy x0 x1 x2 x3 x4 s0).2 := by
  unfold lagCopy
  split
  · exact Same.refl _ _
  · refine Same.comp (same_lagNoMember _ _ _) (by decide) ?_
    exact Same.refl _ _

theorem same_startUp (s0 : State) : Same [.regs, .glb, .hif, .tal, .gbk, .tim, .rst] s0 (startUp s0) := by
  unfold startUp
  extract_lets +onlyGivenNames -merge -underBinder v1 v2 v3 s4 s6
  clear_value v2
  clear_value v3
  have h5 : Same [.regs, .glb, .hif, .tal, .gbk, .tim, .rst] s0 s4 := by
    unfold s4
    exact Same.upd (Same.refl _ _) rfl (fun p n => by cases p <;> first | exact absurd (by decide) n | rfl)
  clear_value s4
  have h7 : Same [.regs, .glb, .hif, .tal, .gbk, .tim, .rst] s0 s6 := by
    unfold s6
    refine Same.comp (same_fput_top _ _ _ (Or.inl (by decide))) (by decide) ?_
    refine Same.comp (same_fput_top _ _ _ (Or.inl (by decide))) (by decide) ?_
    refine Same.comp (same_gradeThresholds _) (by decide) ?_
    exact h5
  clear_value s6
  refine Same.ite ?_ ?_
  · exact Same.refl _ _
  · refine Same.comp (same_raise _ _ _ _ _) (by decide) ?_
    exact h7

theorem same_noCell (x0 : Nat) (s0 : State) : Same [.regs, .tal, .gbk] s0 (noCell x0 s0) := by
  unfold noCell
  refine Same.comp (same_raise _ _ _ _ _) (by decide) ?_
  refine Same.comp (same_setInt_top _ _ _ (Or.inl (by decide))) (by decide) ?_
  refine Same.comp (same_bump _ _ _) (by decide) ?_
  exact Same.refl _ _

theorem same_bistComplete (x0 : Nat) (s0 : State) : Same [.regs, .tal, .gbk, .hlt, .tab, .free] s0 (bistComplete x0 s0) := by
  unfold bistComplete
  extract_lets +onlyGivenNames -merge -underBinder v1 v2 s3 s5 v7 s8 s10 s12
  clear_value v1
  clear_value v2
  have h4 : Same [.regs, .tal, .gbk, .hlt, .tab, .free] s0 s3 := by
    unfold s3
    refine Same.ite ?_ ?_
    · refine Same.comp (same_bistOverwrite _) (by decide) ?_
      exact Same.refl _ _
    · exact Same.refl _ _
  clear_value s3
  have h6 : Same [.regs, .tal, .gbk, .hlt, .tab, .free] s0 s5 := by
    unfold s5
    refine Same.comp (same_fput_top _ _ _ (Or.inl (by decide))) (by decide) ?_
    refine Same.comp (same_fput_top _ _ _ (Or.inl (by decide))) (by decide) ?_
    exact h4
  clear_value s5
  clear_value v7
  have h9 : Same [.regs, .tal, .gbk, .hlt, .tab, .free] s0 s8 := by
    unfold s8
    refine Same.comp (same_bump _ _ _) (by decide) ?_
    refine Same.comp (same_setInt_top _ _ _ (Or.inl (by decide))) (by decide) ?_
    refine Same.set_hlt (by decide) ?_
    exact h6
  clear_value s8
  have h11 : Same [.regs, .tal, .gbk, .hlt, .tab, .free] s0 s10 := by
    unfold s10
    refine Same.ite ?_ ?_
    · exact h9
    · refine Same.comp (same_bump _ _ _) (by decide) ?_
      exact h9
  clear_value s10
  have h13 : Same [.regs, .tal, .gbk, .hlt, .tab, .free] s0 s12 := by
    unfold s12
    refine Same.foldl (fun _ _ h14 => ?_) ?_
    · refine Same.comp (same_raise _ _ _ _ _) (by decide) ?_
      exact h14
    exact h11
  clear_value s12
  refine Same.ite ?_ ?_
  · exact Same.refl _ _
  · refine Same.ite ?_ ?_
    · refine Same.comp (same_spareBank _ _) (by decide) ?_
      refine Same.set_free (by decide) ?_
      exact h13
    · exact h13

theorem same_tunnelCopy (x0 : Nat) (x1 : Pass) (x2 : Copy) (x3 : Nat) (s0 : State) : Same [.regs, .tal, .gbk] s0 (tunnelCopy x0 x1 x2 x3 s0).2 := by
  unfold tunnelCopy
  extract_lets +onlyGivenNames -merge -underBinder v1
  clear_value v1
  refine Same.ite2 ?_ ?_
  · exact Same.refl _ _
  · refine Same.comp (same_raise _ _ _ _ _) (by decide) ?_
    refine Same.comp (same_setInt_top _ _ _ (Or.inl (by decide))) (by decide) ?_
    refine Same.comp (same_ferryCtr _ _ _) (by decide) ?_
    exact Same.refl _ _

theorem same_i2cDone (x0 : Nat) (x1 : Nat) (x2 : List Byte) (s0 : State) : Same [.regs, .tal, .gbk, .pin, .free] s0 (i2cDone x0 x1 x2 s0) := by
  unfold i2cDone
  extract_lets +onlyGivenNames -merge -underBinder v1
  clear_value v1
  split
  · exact Same.refl _ _
  · extract_lets +onlyGivenNames -merge -underBinder v2 s3 v5 s6
    clear_value v2
    have h4 : Same [.regs, .tal, .gbk, .pin, .free] s0 s3 := by
      unfold s3
      refine Same.ite ?_ ?_
      · exact Same.refl _ _
      · refine Same.set_free (by decide) ?_
        exact Same.refl _ _
    clear_value s3
    clear_value v5
    have h7 : Same [.regs, .tal, .gbk, .pin, .free] s0 s6 := by
      unfold s6
      refine Same.comp (same_setI2c _ _ _) (by decide) ?_
      exact h4
    clear_value s6
    refine Same.comp (same_i2cEnd _ _ _) (by decide) ?_
    refine Same.ite ?_ ?_
    · refine Same.comp (same_raise _ _ _ _ _) (by decide) ?_
      exact h7
    · exact h7

theorem same_endFrame (x0 : Nat) (x1 : TxFrame) (x2 : TxDesc) (x3 : Nat) (s0 : State) : Same [.regs, .tal, .gbk, .dp] s0 (endFrame x0 x1 x2 x3 s0) := by
  unfold endFrame
  refine Same.ite ?_ ?_
  · refine Same.comp (same_hostFrame _ _ _) (by decide) ?_
    exact Same.refl _ _
  · refine Same.comp (same_raise _ _ _ _ _) (by decide) ?_
    refine Same.comp (same_chanInt _ _ _) (by decide) ?_
    refine Same.comp (same_txCtr _ _ _) (by decide) ?_
    exact Same.refl _ _

theorem same_pauseCount (x0 : Nat) (x1 : Nat) (s0 : State) : Same [.regs, .clk, .tal, .gbk, .tim, .phs, .prt, .mid] s0 (pauseCount x0 x1 s0) := by
  unfold pauseCount
  extract_lets +onlyGivenNames -merge -underBinder v1 v2 v3 v4 v5 s6 v8 s9
  clear_value v1
  clear_value v2
  clear_value v3
  clear_value v4
  clear_value v5
  have h7 : Same [.regs, .clk, .tal, .gbk, .tim, .phs, .prt, .mid] s0 s6 := by
    unfold s6
    refine Same.comp (same_bumpN _ _ _ _) (by decide) ?_
    refine Same.comp (same_bumpN _ _ _ _) (by decide) ?_
    exact Same.refl _ _
  clear_value s6
  clear_value v8
  have h10 : Same [.regs, .clk, .tal, .gbk, .tim, .phs, .prt, .mid] s0 s9 := by
    unfold s9
    refine Same.comp (same_putPort _ _ _) (by decide) ?_
    exact h7
  clear_value s9
  refine Same.ite ?_ ?_
  · exact Same.refl _ _
  · refine Same.ite ?_ ?_
    · refine Same.comp (same_raise _ _ _ _ _) (by decide) ?_
      refine Same.comp (same_setInt_hi _ _ _ (Or.inl (by simp only [A.PRT_INT_STAT]; omega))) (by decide) ?_
      exact h10
    · exact h10

theorem same_streamUpdate (x0 : Nat) (x1 : Nat) (x2 : Option Nat) (s0 : State) : Same [.regs, .tal, .gbk, .tab] s0 (streamUpdate x0 x1 x2 s0).2.2 := by
  unfold streamUpdate
  extract_lets +onlyGivenNames -merge -underBinder v1 v2
  clear_value v1
  clear_value v2
  split
  · refine Same.ite3 ?_ ?_
    · refine Same.comp (same_putEntry _ _ _ _ _ _) (by decide) ?_
      exact Same.refl _ _
    · split
      · refine Same.comp (same_streamCtr _ _ _) (by decide) ?_
        refine Same.comp (same_putEntry _ _ _ _ _ _) (by decide) ?_
        exact Same.refl _ _
      · extract_lets +onlyGivenNames -merge -underBinder v3 v4 v5 v6 v7 v8 v9 v10 s11 s13 s15 s17 s19
        clear_value v3
        clear_value v4
        clear_value v5
        clear_value v6
        clear_value v7
        clear_value v8
        clear_value v9
        clear_value v10
        have h12 : Same [.regs, .tal, .gbk, .tab] s0 s11 := by
          unfold s11
          refine Same.comp (same_putEntry _ _ _ _ _ _) (by decide) ?_
          exact Same.refl _ _
        clear_value s11
        have h14 : Same [.regs, .tal, .gbk, .tab] s0 s13 := by
          unfold s13
          refine Same.ite ?_ ?_
          · refine Same.comp (same_raise _ _ _ _ _) (by decide) ?_
            refine Same.comp (same_streamCtr _ _ _) (by decide) ?_
            exact h12
          · exact h12
        clear_value s13
        have h16 : Same [.regs, .tal, .gbk, .tab] s0 s15 := by
          unfold s15
          refine Same.ite ?_ ?_
          · refine Same.comp (same_streamCtr _ _ _) (by decide) ?_
            exact h14
          · refine Same.comp (same_streamCtr _ _ _) (by decide) ?_
            exact h14
        clear_value s15
        have h18 : Same [.regs, .tal, .gbk, .tab] s0 s17 := by
          unfold s17
          refine Same.ite ?_ ?_
          · refine Same.comp (same_streamCtr _ _ _) (by decide) ?_
            exact h16
          · exact h16
        clear_value s17
        have h20 : Same [.regs, .tal, .gbk, .tab] s0 s19 := by
          unfold s19
          refine Same.ite ?_ ?_
          · refine Same.comp (same_raise _ _ _ _ _) (by decide) ?_
            refine Same.comp (same_streamCtr _ _ _) (by decide) ?_
            exact h18
          · exact h18
        clear_value s19
        exact h20

theorem same_verifyTimer (x0 : Nat) (s0 : State) : Same [.regs, .tal, .gbk, .prt, .mid] s0 (verifyTimer x0 s0) := by
  unfold verifyTimer
  extract_lets +onlyGivenNames -merge -underBinder v1
  clear_value v1
  refine Same.ite ?_ ?_
  · exact Same.refl _ _
  · refine Same.ite ?_ ?_
    · refine Same.comp (same_sendVerify _ _) (by decide) ?_
      exact Same.refl _ _
    · refine Same.comp (same_raise _ _ _ _ _) (by decide) ?_
      refine Same.comp (same_setInt_hi _ _ _ (Or.inl (by simp only [A.PRT_INT_STAT]; omega))) (by decide) ?_
      refine Same.comp (same_setVerify _ _ _) (by decide) ?_
      exact Same.refl _ _

theorem same_chooseSource (s0 : State) : Same [.regs, .tal, .gbk, .phs] s0 (chooseSource s0) := by
  unfold chooseSource
  extract_lets +onlyGivenNames -merge -underBinder v1 v2 v3 s4
  clear_value v1
  clear_value v2
  clear_value v3
  have h5 : Same [.regs, .tal, .gbk, .phs] s0 s4 := by
    unfold s4
    refine Same.comp (same_fput_top _ _ _ (Or.inl (by decide))) (by decide) ?_
    refine Same.comp (same_fput_top _ _ _ (Or.inl (by decide))) (by decide) ?_
    refine Same.set_phs (by decide) ?_
    exact Same.refl _ _
  clear_value s4
  refine Same.ite ?_ ?_
  · exact Same.refl _ _
  · split
    · extract_lets +onlyGivenNames -merge -underBinder s6 v8 s9 v11
      have h7 : Same [.regs, .tal, .gbk, .phs] s0 s6 := by
        unfold s6
        refine Same.comp (same_fput_top _ _ _ (Or.inl (by decide))) (by decide) ?_
        exact h5
      clear_value s6
      clear_value v8
      have h10 : Same [.regs, .tal, .gbk, .phs] s0 s9 := by
        unfold s9
        refine Same.comp (same_setRate _ _) (by decide) ?_
        refine Same.set_phs (by decide) ?_
        exact h7
      clear_value s9
      clear_value v11
      refine Same.ite ?_ ?_
      · refine Same.comp (same_raise _ _ _ _ _) (by decide) ?_
        refine Same.comp (same_bump _ _ _) (by decide) ?_
        refine Same.comp (same_setInt_top _ _ _ (Or.inl (by decide))) (by decide) ?_
        exact h10
      · exact h7
    · extract_lets +onlyGivenNames -merge -underBinder s12
      have h13 : Same [.regs, .tal, .gbk, .phs] s0 s12 := by
        unfold s12
        refine Same.comp (same_fput_top _ _ _ (Or.inl (by decide))) (by decide) ?_
        refine Same.comp (same_fput_top _ _ _ (Or.inl (by decide))) (by decide) ?_
        exact h5
      clear_value s12
      split
      · refine Same.comp (same_raise _ _ _ _ _) (by decide) ?_
        refine Same.comp (same_setInt_top _ _ _ (Or.inl (by decide))) (by decide) ?_
        exact h13
      · extract_lets +onlyGivenNames -merge -underBinder v14
        clear_value v14
        refine Same.ite ?_ ?_
        · refine Same.comp (same_raise _ _ _ _ _) (by decide) ?_
          refine Same.comp (same_setInt_top _ _ _ (Or.inl (by decide))) (by decide) ?_
          refine Same.set_phs (by decide) ?_
          exact h13
        · exact h13

theorem same_descRead (x0 : Nat) (x1 : TxFrame) (x2 : TxDesc) (x3 : List Byte) (x4 : Nat) (s0 : State) : Same [.regs, .tal, .gbk, .dry, .dp] s0 (descRead x0 x1 x2 x3 x4 s0) := by
  unfold descRead
  extract_lets +onlyGivenNames -merge -underBinder v1 v2 v3 v4
  clear_value v1
  clear_value v2
  clear_value v3
  clear_value v4
  refine Same.ite ?_ ?_
  · refine Same.comp (same_endFrame _ _ _ _ _) (by decide) ?_
    refine Same.comp (same_putTxCh _ _ _) (by decide) ?_
    exact Same.refl _ _
  · refine Same.comp (same_putTxCh _ _ _) (by decide) ?_
    exact Same.refl _ _

theorem same_avsStep (s0 : State) : Same [.regs, .hif, .tal, .gbk, .hlt] s0 (avsStep s0) := by
  unfold avsStep
  extract_lets +onlyGivenNames -merge -underBinder v1 s2
  clear_value v1
  have h3 : Same [.regs, .hif, .tal, .gbk, .hlt] s0 s2 := by
    unfold s2
    refine Same.set_hlt (by decide) ?_
    exact Same.refl _ _
  clear_value s2
  refine Same.ite ?_ ?_
  · exact Same.refl _ _
  · refine Same.ite ?_ ?_
    · refine Same.comp (same_bump _ _ _) (by decide) ?_
      exact h3
    · split
      · extract_lets +onlyGivenNames -merge -underBinder v4 s5 s7 v9 v10
        clear_value v4
        have h6 : Same [.regs, .hif, .tal, .gbk, .hlt] s0 s5 := by
          unfold s5
          refine Same.comp (same_fput_top _ _ _ (Or.inl (by decide))) (by decide) ?_
          exact h3
        clear_value s5
        have h8 : Same [.regs, .hif, .tal, .gbk, .hlt] s0 s7 := by
          unfold s7
          refine Same.ite ?_ ?_
          · refine Same.comp (same_raise _ _ _ _ _) (by decide) ?_
            refine Same.comp (same_setInt_top _ _ _ (Or.inl (by decide))) (by decide) ?_
            exact h6
          · exact h6
        clear_value s7
        clear_value v9
        refine Same.ite ?_ ?_
        · unfold v10
          extract_lets +onlyGivenNames -merge -underBinder s11 v13
          have h12 : Same [.regs, .hif, .tal, .gbk, .hlt] s0 s11 := by
            unfold s11
            refine Same.comp (same_fput_top _ _ _ (Or.inl (by decide))) (by decide) ?_
            exact h8
          clear_value s11
          clear_value v13
          refine Same.comp (same_bump _ _ _) (by decide) ?_
          refine Same.set_hif (by decide) ?_
          exact h12
        · refine Same.ite ?_ ?_
          · unfold v10
            extract_lets +onlyGivenNames -merge -underBinder s14 v16
            have h15 : Same [.regs, .hif, .tal, .gbk, .hlt] s0 s14 := by
              unfold s14
              refine Same.comp (same_fput_top _ _ _ (Or.inl (by decide))) (by decide) ?_
              exact h8
            clear_value s14
            clear_value v16
            refine Same.comp (same_bump _ _ _) (by decide) ?_
            refine Same.set_hif (by decide) ?_
            exact h15
          · exact h8

theorem same_roomRecord (x0 : Nat) (x1 : Nat) (x2 : Nat) (x3 : Nat) (s0 : State) : Same [.regs, .tal, .gbk] s0 (roomRecord x0 x1 x2 x3 s0) := by
  unfold roomRecord
  refine Same.comp (same_raise _ _ _ _ _) (by decide) ?_
  exact Same.refl _ _

theorem same_clearLog (x0 : Nat) (x1 : GbkRecord → Bool) (s0 : State) : Same [.regs, .tal, .gbk] s0 (clearLog x0 x1 s0) := by
  unfold clearLog
  extract_lets +onlyGivenNames -merge -underBinder v1 v2 s3 v6 s7
  clear_value v1
  clear_value v2
  have h4 : Same [.regs, .tal, .gbk] s0 s3 := by
    unfold s3
    refine Same.foldl (fun _ _ h5 => ?_) ?_
    · refine Same.comp (same_missSpill _ _) (by decide) ?_
      exact h5
    exact Same.refl _ _
  clear_value s3
  clear_value v6
  have h8 : Same [.regs, .tal, .gbk] s0 s7 := by
    unfold s7
    refine Same.set_gbk (by decide) ?_
    exact h4
  clear_value s7
  refine Same.comp (same_raise _ _ _ _ _) (by decide) ?_
  refine Same.comp (same_bumpN _ _ _ _) (by decide) ?_
  exact h8

theorem same_gbkClearOp (s0 : State) : Same [.regs, .tal, .gbk] s0 (gbkClearOp s0) := by
  unfold gbkClearOp
  refine Same.comp (same_clearLog _ _ _) (by decide) ?_
  exact Same.refl _ _

theorem same_mirrorDrop (x0 : Nat) (s0 : State) : Same [.regs, .tal, .gbk] s0 (mirrorDrop x0 s0) := by
  unfold mirrorDrop
  refine Same.comp (same_raise _ _ _ _ _) (by decide) ?_
  refine Same.comp (same_setInt_top _ _ _ (Or.inl (by decide))) (by decide) ?_
  refine Same.comp (same_bump _ _ _) (by decide) ?_
  exact Same.refl _ _

theorem same_msgLoss (s0 : State) : Same [.regs, .tal, .gbk, .phs] s0 (msgLoss s0) := by
  unfold msgLoss
  split
  · refine Same.ite ?_ ?_
    · refine Same.comp (same_chooseSource _) (by decide) ?_
      refine Same.comp (same_setQual _ _ _) (by decide) ?_
      exact Same.refl _ _
    · exact Same.refl _ _
  · exact Same.refl _ _

theorem same_checkLost (s0 : State) : Same [.regs, .tal, .gbk, .tim, .phs] s0 (checkLost s0) := by
  unfold checkLost
  extract_lets +onlyGivenNames -merge -underBinder v1 v2 v3 s4 s6
  clear_value v1
  clear_value v2
  clear_value v3
  have h5 : Same [.regs, .tal, .gbk, .tim, .phs] s0 s4 := by
    unfold s4
    refine Same.set_tim (by decide) ?_
    exact Same.refl _ _
  clear_value s4
  have h7 : Same [.regs, .tal, .gbk, .tim, .phs] s0 s6 := by
    unfold s6
    refine Same.comp (same_followInteg _) (by decide) ?_
    exact h5
  clear_value s6
  refine Same.ite ?_ ?_
  · refine Same.comp (same_raise _ _ _ _ _) (by decide) ?_
    refine Same.comp (same_setInt_top _ _ _ (Or.inl (by decide))) (by decide) ?_
    exact h7
  · exact Same.refl _ _

theorem same_writeUtcOffset (x0 : Nat) (s0 : State) : Same [.regs, .tal, .gbk] s0 (writeUtcOffset x0 s0) := by
  unfold writeUtcOffset
  refine Same.comp (same_raise _ _ _ _ _) (by decide) ?_
  refine Same.comp (same_rput_top _ _ _ (Or.inl (by decide))) (by decide) ?_
  exact Same.refl _ _

theorem same_swapKeys (s0 : State) : Same [.regs, .tal, .gbk, .fab] s0 (swapKeys s0) := by
  unfold swapKeys
  extract_lets +onlyGivenNames -merge -underBinder v1 v2 s3
  clear_value v1
  clear_value v2
  have h4 : Same [.regs, .tal, .gbk, .fab] s0 s3 := by
    unfold s3
    refine Same.set_fab (by decide) ?_
    exact Same.refl _ _
  clear_value s3
  refine Same.comp (same_raise _ _ _ _ _) (by decide) ?_
  exact h4

theorem same_slotFailed_h {T : List Part} {s x : State} {x0 : Load} {x1 : Nat} {x2 : Nat → State → State} (m : [Part.regs, Part.tal, Part.gbk, Part.low].all (fun p => T.contains p) = true)
    (k : ∀ n y, Same T s y → Same T s (x2 n y)) (h : Same T s x) : Same T s (slotFailed x0 x1 x2 x) := by
  unfold slotFailed
  split
  · exact h
  · extract_lets +onlyGivenNames -merge -underBinder s1
    have h2 : Same T s s1 :=
      Same.comp (same_raise _ _ _ _ _) (Same.all_sub m (by decide)) (Same.comp (same_slotResult _ _ _) (Same.all_sub m (by decide)) h)
    clear_value s1
    split
    · exact k _ _ h2
    · exact Same.comp (same_raise _ _ _ _ _) (Same.all_sub m (by decide)) h2

theorem same_voteMismatch (x0 : Nat) (x1 : Nat) (s0 : State) : Same [.regs, .tal, .gbk] s0 (voteMismatch x0 x1 s0) := by
  unfold voteMismatch
  refine Same.comp (same_raise _ _ _ _ _) (by decide) ?_
  refine Same.comp (same_setInt_top _ _ _ (Or.inl (by decide))) (by decide) ?_
  refine Same.comp (same_healthInt _ _ _) (by decide) ?_
  refine Same.comp (same_healthCtr _ _ _) (by decide) ?_
  exact Same.refl _ _

theorem same_hostCells (x0 : TxFrame) (x1 : Nat) (s0 : State) : Same [.regs, .tal, .gbk] s0 (hostCells x0 x1 s0).2 := by
  unfold hostCells
  extract_lets +onlyGivenNames -merge -underBinder v1
  clear_value v1
  refine Same.ite2 ?_ ?_
  · exact Same.refl _ _
  · refine Same.ite2 ?_ ?_
    · exact Same.refl _ _
    · refine Same.comp (same_noCell _ _) (by decide) ?_
      exact Same.refl _ _

theorem same_eccCorrected (x0 : EccWord) (s0 : State) : Same [.regs, .tal, .gbk, .hlt] s0 (eccCorrected x0 s0) := by
  unfold eccCorrected
  extract_lets +onlyGivenNames -merge -underBinder s1 v3 v4 v5 s6
  have h2 : Same [.regs, .tal, .gbk, .hlt] s0 s1 := by
    unfold s1
    refine Same.comp (same_raise _ _ _ _ _) (by decide) ?_
    refine Same.comp (same_bump _ _ _) (by decide) ?_
    exact Same.refl _ _
  clear_value s1
  clear_value v3
  clear_value v4
  clear_value v5
  have h7 : Same [.regs, .tal, .gbk, .hlt] s0 s6 := by
    unfold s6
    refine Same.set_hlt (by decide) ?_
    exact h2
  clear_value s6
  refine Same.ite ?_ ?_
  · refine Same.ite ?_ ?_
    · refine Same.comp (same_spareBank _ _) (by decide) ?_
      exact h7
    · exact h7
  · exact h2

theorem same_placeRecord (x0 : GbkRecord) (s0 : State) : Same [.regs, .tal, .gbk] s0 (placeRecord x0 s0) := by
  unfold placeRecord
  extract_lets +onlyGivenNames -merge -underBinder v1 v2
  clear_value v1
  clear_value v2
  refine Same.ite ?_ ?_
  · refine Same.comp (same_enterLog _ _ _) (by decide) ?_
    exact Same.refl _ _
  · split
    · refine Same.comp (same_displace _ _) (by decide) ?_
      refine Same.comp (same_enterLog _ _ _) (by decide) ?_
      exact Same.refl _ _
    · split
      · refine Same.comp (same_displace _ _) (by decide) ?_
        refine Same.comp (same_enterLog _ _ _) (by decide) ?_
        exact Same.refl _ _
      · refine Same.ite ?_ ?_
        · refine Same.comp (same_setInt_top _ _ _ (Or.inl (by decide))) (by decide) ?_
          refine Same.comp (same_gbkCtr _ _) (by decide) ?_
          exact Same.refl _ _
        · refine Same.comp (same_gbkCtr _ _) (by decide) ?_
          exact Same.refl _ _

theorem same_keySwitchDue (s0 : State) : Same [.regs, .tal, .gbk, .fab] s0 (keySwitchDue s0) := by
  unfold keySwitchDue
  split
  · extract_lets +onlyGivenNames -merge -underBinder v1 s2
    clear_value v1
    have h3 : Same [.regs, .tal, .gbk, .fab] s0 s2 := by
      unfold s2
      refine Same.set_fab (by decide) ?_
      exact Same.refl _ _
    clear_value s2
    refine Same.ite ?_ ?_
    · refine Same.comp (same_swapKeys _) (by decide) ?_
      exact h3
    · exact h3
  · exact Same.refl _ _

theorem same_trigReport (x0 : Nat × Nat) (x1 : Nat) (x2 : Nat) (x3 : Nat) (s0 : State) : Same [.regs, .tal, .gbk] s0 (trigReport x0 x1 x2 x3 s0) := by
  unfold trigReport
  extract_lets +onlyGivenNames -merge -underBinder s1
  have h2 : Same [.regs, .tal, .gbk] s0 s1 := by
    unfold s1
    refine Same.comp (same_rput_top _ _ _ (Or.inl (by decide))) (by decide) ?_
    refine Same.comp (same_rput_top _ _ _ (Or.inl (by decide))) (by decide) ?_
    exact Same.refl _ _
  clear_value s1
  refine Same.ite ?_ ?_
  · refine Same.comp (same_raise _ _ _ _ _) (by decide) ?_
    refine Same.comp (same_setInt_top _ _ _ (Or.inl (by decide))) (by decide) ?_
    refine Same.comp (same_bump _ _ _) (by decide) ?_
    exact h2
  · refine Same.comp (same_raise _ _ _ _ _) (by decide) ?_
    refine Same.comp (same_setInt_top _ _ _ (Or.inl (by decide))) (by decide) ?_
    refine Same.comp (same_bump _ _ _) (by decide) ?_
    exact h2

theorem same_commitHearth (x0 : Nat) (x1 : Nat) (s0 : State) : Same [.regs, .frg, .tal, .gbk, .act] s0 (commitHearth x0 x1 s0) := by
  unfold commitHearth
  extract_lets +onlyGivenNames -merge -underBinder s1 s3
  have h2 : Same [.regs, .frg, .tal, .gbk, .act] s0 s1 := by
    unfold s1
    refine Same.comp (same_setBank _ _ _) (by decide) ?_
    exact Same.refl _ _
  clear_value s1
  have h4 : Same [.regs, .frg, .tal, .gbk, .act] s0 s3 := by
    unfold s3
    refine Same.foldl (fun _ _ h5 => ?_) ?_
    · refine Same.ite ?_ ?_
      · refine Same.comp (same_fput_top _ _ _ (Or.inl (by simp only [F.TM_CAL_STATUS_PTR_X]; omega))) (by decide) ?_
        refine Same.comp (same_fput_top _ _ _ (Or.inl (by simp only [F.TM_CAL_STATUS_PTR_P]; omega))) (by decide) ?_
        exact h5
      · exact h5
    exact h2
  clear_value s3
  refine Same.comp (same_raise _ _ _ _ _) (by decide) ?_
  exact h4

theorem same_refclkRestored (x0 : Nat) (s0 : State) : Same [.regs, .tal, .gbk, .prt, .mid] s0 (refclkRestored x0 s0) := by
  unfold refclkRestored
  refine Same.ite ?_ ?_
  · exact Same.refl _ _
  · refine Same.ite ?_ ?_
    · refine Same.comp (same_setClkOk _ _ _) (by decide) ?_
      exact Same.refl _ _
    · refine Same.foldl (fun _ _ h1 => ?_) ?_
      · refine Same.ite ?_ ?_
        · exact h1
        · refine Same.comp (same_startTraining _ _) (by decide) ?_
          exact h1
      refine Same.comp (same_raise _ _ _ _ _) (by decide) ?_
      refine Same.comp (same_setClkOk _ _ _) (by decide) ?_
      exact Same.refl _ _

theorem same_heartbeatSeen (x0 : Frame) (s0 : State) : Same [.regs, .tal, .gbk, .fab] s0 (heartbeatSeen x0 s0) := by
  unfold heartbeatSeen
  extract_lets +onlyGivenNames -merge -underBinder v1 v2 v3 s4
  clear_value v1
  clear_value v2
  clear_value v3
  have h5 : Same [.regs, .tal, .gbk, .fab] s0 s4 := by
    unfold s4
    refine Same.set_fab (by decide) ?_
    exact Same.refl _ _
  clear_value s4
  refine Same.ite ?_ ?_
  · exact Same.refl _ _
  · refine Same.ite ?_ ?_
    · refine Same.comp (same_raise _ _ _ _ _) (by decide) ?_
      refine Same.comp (same_setInt_top _ _ _ (Or.inl (by decide))) (by decide) ?_
      exact h5
    · exact h5

theorem same_respondTaken (x0 : Nat) (s0 : State) : Same [.regs, .tal, .gbk, .mid] s0 (respondTaken x0 s0) := by
  unfold respondTaken
  refine Same.ite ?_ ?_
  · refine Same.comp (same_bump _ _ _) (by decide) ?_
    exact Same.refl _ _
  · refine Same.ite ?_ ?_
    · refine Same.comp (same_raise _ _ _ _ _) (by decide) ?_
      refine Same.comp (same_setInt_hi _ _ _ (Or.inl (by simp only [A.PRT_INT_STAT]; omega))) (by decide) ?_
      refine Same.comp (same_setVerify _ _ _) (by decide) ?_
      exact Same.refl _ _
    · exact Same.refl _ _

theorem same_admitBudget (x0 x1 : Nat) (s0 : State) : Same [.regs, .glb, .tal, .gbk] s0 (admitBudget x0 x1 s0).2 := by
  unfold admitBudget
  have hk : TopFree (F.GLB_ADMIT_DROP_DROPS (x0 % 8)).addr := by
    right
    have h8 : x0 % 8 < 8 := Nat.mod_lt _ (by decide)
    exact List.mem_append_right _ (List.mem_map.2 ⟨x0 % 8, List.mem_range.2 h8, rfl⟩)
  extract_lets +onlyGivenNames -merge -underBinder v1 v2 g s3 s5
  clear_value v1
  clear_value v2
  have h4 : Same [.regs, .glb, .tal, .gbk] s0 s3 := by
    unfold s3
    exact Same.set_glb (by decide) (Or.inr rfl) (Or.inr rfl) (Same.refl _ _)
  clear_value s3
  have h6 : Same [.regs, .glb, .tal, .gbk] s0 s5 := by
    unfold s5
    exact Same.comp (same_setInt_top _ _ _ (Or.inr (by decide))) (by decide) (Same.comp (same_faddSat_top _ _ _ hk) (by decide) h4)
  clear_value s5
  refine Same.ite2 (Same.refl _ _) (Same.ite2 h4 (Same.ite2 ?_ ?_))
  · exact Same.comp (same_suppress _ _) (by decide) h6
  · exact Same.comp (same_raise _ _ _ _ _) (by decide) (Same.set_glb (by decide) (Or.inr rfl) (Or.inr rfl) h6)

theorem same_arrive (x0 : Nat) (x1 : List Byte) (x2 : Bool) (x3 : Nat) (x4 : Int) (x5 : Nat) (s0 : State) : Same [.regs, .tal, .gbk, .pin, .prt, .dp] s0 (arrive x0 x1 x2 x3 x4 x5 s0).2 := by
  unfold arrive
  extract_lets +onlyGivenNames -merge -underBinder v1 v2 v3 v4 v5 v6
  clear_value v1
  clear_value v2
  clear_value v3
  clear_value v4
  clear_value v5
  clear_value v6
  split
  rename_i a7 s8 e10
  have h9 : Same [.regs, .tal, .gbk, .pin, .prt, .dp] s0 s8 := by
    refine Same.of2 e10 ?_
    refine Same.comp (same_addFrame _ _) (by decide) ?_
    exact Same.refl _ _
  extract_lets +onlyGivenNames -merge -underBinder v11 s12 v14 s15
  clear_value v11
  have h13 : Same [.regs, .tal, .gbk, .pin, .prt, .dp] s0 s12 := by
    unfold s12
    refine Same.comp (same_putPort _ _ _) (by decide) ?_
    exact h9
  clear_value s12
  clear_value v14
  have h16 : Same [.regs, .tal, .gbk, .pin, .prt, .dp] s0 s15 := by
    unfold s15
    refine Same.set_pin (by decide) ?_
    exact h13
  clear_value s15
  refine Same.ite2 ?_ ?_
  · exact h16
  · refine Same.ite2 ?_ ?_
    · refine Same.comp (same_noCell _ _) (by decide) ?_
      exact h16
    · refine Same.ite2 ?_ ?_
      · exact h16
      · refine Same.comp (same_putIngress _ _ _) (by decide) ?_
        exact h16

theorem same_copyBist (x0 : Nat) (x1 : Bool) (s0 : State) : Same [.regs, .tal, .gbk] s0 (copyBist x0 x1 s0) := by
  unfold copyBist
  extract_lets +onlyGivenNames -merge -underBinder s1 s3
  have h2 : Same [.regs, .tal, .gbk] s0 s1 := by
    unfold s1
    refine Same.comp (same_rput_top _ _ _ (Or.inl (by decide))) (by decide) ?_
    exact Same.refl _ _
  clear_value s1
  have h4 : Same [.regs, .tal, .gbk] s0 s3 := by
    unfold s3
    refine Same.comp (same_bump _ _ _) (by decide) ?_
    refine Same.comp (same_setInt_top _ _ _ (Or.inl (by decide))) (by decide) ?_
    exact h2
  clear_value s3
  refine Same.ite ?_ ?_
  · exact Same.refl _ _
  · refine Same.comp (same_raise _ _ _ _ _) (by decide) ?_
    refine Same.ite ?_ ?_
    · exact h4
    · refine Same.comp (same_bump _ _ _) (by decide) ?_
      exact h4

theorem same_noteError (x0 : Nat) (x1 : Int) (s0 : State) : Same [.regs, .tal, .gbk, .phs] s0 (noteError x0 x1 s0) := by
  unfold noteError
  extract_lets +onlyGivenNames -merge -underBinder v1 s2 v4 s5
  clear_value v1
  have h3 : Same [.regs, .tal, .gbk, .phs] s0 s2 := by
    unfold s2
    refine Same.set_phs (by decide) ?_
    exact Same.refl _ _
  clear_value s2
  clear_value v4
  have h6 : Same [.regs, .tal, .gbk, .phs] s0 s5 := by
    unfold s5
    refine Same.comp (same_setFar _ _ _) (by decide) ?_
    exact h3
  clear_value s5
  refine Same.ite ?_ ?_
  · exact h3
  · refine Same.ite ?_ ?_
    · refine Same.comp (same_raise _ _ _ _ _) (by decide) ?_
      refine Same.comp (same_setInt_top _ _ _ (Or.inl (by decide))) (by decide) ?_
      exact h6
    · exact h6

theorem same_haltChan (x0 : DryChan) (x1 : Nat) (x2 : Nat) (s0 : State) : Same [.regs, .tal, .gbk] s0 (haltChan x0 x1 x2 s0) := by
  unfold haltChan
  extract_lets +onlyGivenNames -merge -underBinder s1
  have h2 : Same [.regs, .tal, .gbk] s0 s1 := by
    unfold s1
    refine Same.comp (same_chanInt _ _ _) (by decide) ?_
    refine Same.comp (same_fput_top _ _ _ (Or.inl (Nat.le_trans (dryBase_hi _) (Nat.le_add_right _ _)))) (by decide) ?_
    refine Same.comp (same_setChan _ _ _) (by decide) ?_
    exact Same.refl _ _
  clear_value s1
  split
  · refine Same.comp (same_raise _ _ _ _ _) (by decide) ?_
    refine Same.comp (same_bump _ _ _) (by decide) ?_
    exact h2
  · refine Same.comp (same_raise _ _ _ _ _) (by decide) ?_
    exact h2
  · refine Same.comp (same_raise _ _ _ _ _) (by decide) ?_
    exact h2

theorem same_countFail (x0 : Nat) (x1 : Nat) (x2 : Frame) (s0 : State) : Same [.regs, .tal, .gbk] s0 (countFail x0 x1 x2 s0) := by
  unfold countFail
  extract_lets +onlyGivenNames -merge -underBinder s1 v3
  have h2 : Same [.regs, .tal, .gbk] s0 s1 := by
    unfold s1
    refine Same.comp (same_bump _ _ _) (by decide) ?_
    exact Same.refl _ _
  clear_value s1
  clear_value v3
  refine Same.ite ?_ ?_
  · refine Same.comp (same_raise _ _ _ _ _) (by decide) ?_
    refine Same.comp (same_setInt_top _ _ _ (Or.inl (by decide))) (by decide) ?_
    exact h2
  · refine Same.ite ?_ ?_
    · refine Same.comp (same_raise _ _ _ _ _) (by decide) ?_
      refine Same.comp (same_setInt_top _ _ _ (Or.inl (by decide))) (by decide) ?_
      exact h2
    · exact h2

theorem same_fetchDesc (x0 : DataChan) (x1 : Bool) (s0 : State) : Same [.regs, .tal, .gbk, .dry] s0 (fetchDesc x0 x1 s0) := by
  unfold fetchDesc
  refine Same.ite ?_ ?_
  · exact Same.refl _ _
  · split
    · extract_lets +onlyGivenNames -merge -underBinder v1
      clear_value v1
      refine Same.ite ?_ ?_
      · refine Same.ite ?_ ?_
        · refine Same.comp (same_haltChan _ _ _ _) (by decide) ?_
          exact Same.refl _ _
        · exact Same.refl _ _
      · refine Same.ite ?_ ?_
        · refine Same.comp (same_haltChan _ _ _ _) (by decide) ?_
          exact Same.refl _ _
        · refine Same.ite ?_ ?_
          · refine Same.comp (same_storeDesc _ _ _) (by decide) ?_
            refine Same.comp (same_readTaken _ _) (by decide) ?_
            exact Same.refl _ _
          · exact Same.refl _ _

theorem same_checkHead (s0 : State) : Same [.regs, .tal, .gbk, .fab] s0 (checkHead s0) := by
  unfold checkHead
  split
  · exact Same.refl _ _
  · split
    · extract_lets +onlyGivenNames -merge -underBinder v1
      clear_value v1
      refine Same.set_fab (by decide) ?_
      exact Same.refl _ _
    · extract_lets +onlyGivenNames -merge -underBinder v2 s3
      clear_value v2
      have h4 : Same [.regs, .tal, .gbk, .fab] s0 s3 := by
        unfold s3
        refine Same.set_fab (by decide) ?_
        exact Same.refl _ _
      clear_value s3
      refine Same.ite ?_ ?_
      · exact Same.refl _ _
      · refine Same.ite ?_ ?_
        · exact h4
        · split
          · refine Same.comp (same_countFail _ _ _ _) (by decide) ?_
            exact h4
          · refine Same.comp (same_passFrame _ _ _ _) (by decide) ?_
            exact h4

theorem same_accErr (x0 : Bool) (x1 : Nat) (x2 : Nat) (s0 : State) : Same [.regs, .tal, .gbk, .mid] s0 (accErr x0 x1 x2 s0) := by
  unfold accErr
  extract_lets +onlyGivenNames -merge -underBinder s1 s3
  have h2 : Same [.regs, .tal, .gbk, .mid] s0 s1 := by
    unfold s1
    refine Same.ite ?_ ?_
    · refine Same.comp (same_rput_hi _ _ _ (Or.inl (by decide))) (by decide) ?_
      exact Same.refl _ _
    · exact Same.refl _ _
  clear_value s1
  have h4 : Same [.regs, .tal, .gbk, .mid] s0 s3 := by
    unfold s3
    refine Same.comp (same_faddSat_hi _ _ _ (Or.inl (by decide))) (by decide) ?_
    refine Same.comp (same_setInt_hi _ _ _ (Or.inl (by decide))) (by decide) ?_
    exact h2
  clear_value s3
  refine Same.comp (same_raise _ _ _ _ _) (by decide) ?_
  refine Same.comp (same_setInt_hi _ _ _ (Or.inl (by decide))) (by decide) ?_
  exact h4

theorem same_badHandle (x0 : Nat) (x1 : Nat) (s0 : State) : Same [.regs, .tal, .gbk] s0 (badHandle x0 x1 s0).2 := by
  unfold badHandle
  refine Same.comp (same_roomRecord _ _ _ _ _) (by decide) ?_
  refine Same.comp (same_poolCtr _ _ _) (by decide) ?_
  exact Same.refl _ _

theorem same_countParse (x0 : Nat) (x1 : Frame) (x2 : Parse) (s0 : State) : Same [.regs, .tal, .gbk] s0 (countParse x0 x1 x2 s0) := by
  unfold countParse
  extract_lets +onlyGivenNames -merge -underBinder s1 s3 s5 s7
  have h2 : Same [.regs, .tal, .gbk] s0 s1 := by
    unfold s1
    refine Same.comp (same_parseCtr _ _ _) (by decide) ?_
    exact Same.refl _ _
  clear_value s1
  have h4 : Same [.regs, .tal, .gbk] s0 s3 := by
    unfold s3
    refine Same.ite ?_ ?_
    · refine Same.comp (same_parseEvent _ _ _ _ _) (by decide) ?_
      refine Same.comp (same_parseCtr _ _ _) (by decide) ?_
      exact h2
    · exact h2
  clear_value s3
  have h6 : Same [.regs, .tal, .gbk] s0 s5 := by
    unfold s5
    refine Same.ite ?_ ?_
    · refine Same.comp (same_parseEvent _ _ _ _ _) (by decide) ?_
      exact h4
    · exact h4
  clear_value s5
  have h8 : Same [.regs, .tal, .gbk] s0 s7 := by
    unfold s7
    refine Same.ite ?_ ?_
    · refine Same.comp (same_parseCtr _ _ _) (by decide) ?_
      exact h6
    · exact h6
  clear_value s7
  refine Same.ite ?_ ?_
  · refine Same.comp (same_parseCtr _ _ _) (by decide) ?_
    exact h8
  · exact h8

theorem same_readFrame (x0 : Nat) (s0 : State) : Same [.regs, .tal, .gbk, .dry, .dp] s0 (readFrame x0 s0) := by
  unfold readFrame
  extract_lets +onlyGivenNames -merge -underBinder v1
  clear_value v1
  refine Same.ite ?_ ?_
  · exact Same.refl _ _
  · refine Same.ite ?_ ?_
    · split
      · refine Same.comp (same_putTxCh _ _ _) (by decide) ?_
        exact Same.refl _ _
    · split
      · exact Same.refl _ _
      · extract_lets +onlyGivenNames -merge -underBinder v2 v3
        clear_value v2
        clear_value v3
        refine Same.ite ?_ ?_
        · exact Same.refl _ _
        · refine Same.ite ?_ ?_
          · refine Same.ite ?_ ?_
            · exact Same.refl _ _
            · split
              · extract_lets +onlyGivenNames -merge -underBinder v4
                clear_value v4
                split
                rename_i a5 s6 e8
                have h7 : Same [.regs, .tal, .gbk, .dry, .dp] s0 s6 := by
                  refine Same.of2 e8 ?_
                  refine Same.comp (same_hostCells _ _ _) (by decide) ?_
                  refine Same.comp (same_readTaken _ _) (by decide) ?_
                  exact Same.refl _ _
                refine Same.ite ?_ ?_
                · refine Same.comp (same_putTxCh _ _ _) (by decide) ?_
                  exact h7
                · refine Same.comp (same_descRead _ _ _ _ _ _) (by decide) ?_
                  exact h7
          · refine Same.comp (same_descRead _ _ _ _ _ _) (by decide) ?_
            exact Same.refl _ _

theorem same_txReadError (x0 : Nat) (s0 : State) : Same [.regs, .tal, .gbk, .dry, .free] s0 (txReadError x0 s0) := by
  unfold txReadError
  extract_lets +onlyGivenNames -merge -underBinder v1
  clear_value v1
  refine Same.ite ?_ ?_
  · exact Same.refl _ _
  · split
    · refine Same.comp (same_fetchDesc _ _ _) (by decide) ?_
      exact Same.refl _ _
    · extract_lets +onlyGivenNames -merge -underBinder v2
      clear_value v2
      refine Same.ite ?_ ?_
      · exact Same.refl _ _
      · split
        · extract_lets +onlyGivenNames -merge -underBinder v3 v4 v5 v6 s7
          clear_value v3
          clear_value v4
          clear_value v5
          clear_value v6
          have h8 : Same [.regs, .tal, .gbk, .dry, .free] s0 s7 := by
            unfold s7
            refine Same.comp (same_putTxCh _ _ _) (by decide) ?_
            refine Same.ite ?_ ?_
            · exact Same.refl _ _
            · refine Same.set_free (by decide) ?_
              exact Same.refl _ _
          clear_value s7
          refine Same.comp (same_haltChan _ _ _ _) (by decide) ?_
          refine Same.comp (same_txCtr _ _ _) (by decide) ?_
          exact h8

theorem same_tunnelCopies (x0 : Nat) (x1 : Pass) (x2 : Copy) (x3 : List Nat) (s0 : State) :
    Same [.regs, .tal, .gbk] s0 (tunnelCopies x0 x1 x2 x3 s0).2 := by
  induction x3 generalizing s0 with
  | nil => exact Same.refl _ _
  | cons a l ih =>
    unfold tunnelCopies
    split
    rename_i a1 s2 e4
    have h3 : Same [.regs, .tal, .gbk] s0 s2 := Same.of2 e4 (Same.comp (same_tunnelCopy _ _ _ _ _) (by decide) (Same.refl _ _))
    exact Same.comp (ih _) (by decide) h3

theorem same_setSilent (s0 : State) : Same [.regs, .hif, .tal, .gbk, .mid] s0 (setSilent s0) := by
  unfold setSilent
  extract_lets +onlyGivenNames -merge -underBinder v1
  clear_value v1
  refine Same.ite ?_ ?_
  · exact Same.refl _ _
  · refine Same.comp (same_raise _ _ _ _ _) (by decide) ?_
    refine Same.comp (same_bump _ _ _) (by decide) ?_
    refine Same.comp (same_setInt_hi _ _ _ (Or.inl (by decide))) (by decide) ?_
    refine Same.set_hif (by decide) ?_
    exact Same.refl _ _

theorem same_taLate (x0 : Nat) (x1 : Nat) (s0 : State) : Same [.regs, .tal, .gbk, .phs] s0 (taLate x0 x1 s0) := by
  unfold taLate
  extract_lets +onlyGivenNames -merge -underBinder v1 s2 v4 s5
  clear_value v1
  have h3 : Same [.regs, .tal, .gbk, .phs] s0 s2 := by
    unfold s2
    refine Same.comp (same_rput_top _ _ _ (Or.inl (by simp only [A.PHS_TA_LATE]; omega))) (by decide) ?_
    refine Same.comp (same_forBits_top _ _ _ (Or.inl (by simp only [A.PHS_TA_STATUS]; omega))) (by decide) ?_
    exact Same.refl _ _
  clear_value s2
  clear_value v4
  have h6 : Same [.regs, .tal, .gbk, .phs] s0 s5 := by
    unfold s5
    refine Same.set_phs (by decide) ?_
    exact h3
  clear_value s5
  refine Same.ite ?_ ?_
  · refine Same.comp (same_raise _ _ _ _ _) (by decide) ?_
    refine Same.comp (same_forBits_top _ _ _ (Or.inl (by simp only [A.PHS_TA_STATUS]; omega))) (by decide) ?_
    refine Same.comp (same_fput_top _ _ _ (Or.inl (by simp only [F.PHS_TA_CTL_ARM]; omega))) (by decide) ?_
    exact Same.refl _ _
  · refine Same.comp (same_raise _ _ _ _ _) (by decide) ?_
    refine Same.comp (same_setInt_top _ _ _ (Or.inl (by decide))) (by decide) ?_
    exact h6

theorem same_mainsLoss (x0 : Nat) (s0 : State) : Same [.regs, .tal, .gbk, .phs] s0 (mainsLoss x0 s0) := by
  unfold mainsLoss
  extract_lets +onlyGivenNames -merge -underBinder v1
  clear_value v1
  split
  · refine Same.ite ?_ ?_
    · refine Same.comp (same_chooseSource _) (by decide) ?_
      refine Same.comp (same_setQual _ _ _) (by decide) ?_
      refine Same.comp (same_setMains _ _ _) (by decide) ?_
      exact Same.refl _ _
    · exact Same.refl _ _
  · exact Same.refl _ _

theorem same_fragWrite (x0 : HearthStruct) (x1 : Nat) (x2 : List Byte) (x3 : List Byte) (x4 : Frame) (x5 : Nat) (s0 : State) : Same [.regs, .tal, .gbk, .dp] s0 (fragWrite x0 x1 x2 x3 x4 x5 s0) := by
  unfold fragWrite
  extract_lets +onlyGivenNames -merge -underBinder v1
  clear_value v1
  refine Same.ite ?_ ?_
  · exact Same.refl _ _
  · split
    · refine Same.comp (same_putFrag _ _ _) (by decide) ?_
      exact Same.refl _ _
    · split
      · refine Same.comp (same_parseCtr _ _ _) (by decide) ?_
        refine Same.comp (same_putFrag _ _ _) (by decide) ?_
        exact Same.refl _ _
      · refine Same.comp (same_parseEvent _ _ _ _ _) (by decide) ?_
        refine Same.comp (same_setInt_top _ _ _ (Or.inl (by simp only [A.HTH_INT_STAT]; omega))) (by decide) ?_
        refine Same.comp (same_parseCtr _ _ _) (by decide) ?_
        exact Same.refl _ _

theorem same_relock (s0 : State) : Same [.regs, .tal, .gbk, .tim] s0 (relock s0) := by
  unfold relock
  extract_lets +onlyGivenNames -merge -underBinder v1 v2 v3 s4 v6
  clear_value v1
  clear_value v2
  clear_value v3
  have h5 : Same [.regs, .tal, .gbk, .tim] s0 s4 := by
    unfold s4
    refine Same.comp (same_fput_top _ _ _ (Or.inl (by decide))) (by decide) ?_
    exact Same.refl _ _
  clear_value s4
  clear_value v6
  refine Same.ite ?_ ?_
  · refine Same.comp (same_raise _ _ _ _ _) (by decide) ?_
    refine Same.comp (same_setInt_top _ _ _ (Or.inl (by decide))) (by decide) ?_
    refine Same.set_tim (by decide) ?_
    exact h5
  · exact h5

theorem same_spillBatch (s0 : State) : Same [.regs, .mem, .tal, .gbk, .dry] s0 (spillBatch s0) := by
  unfold spillBatch
  extract_lets +onlyGivenNames -merge -underBinder v1 v2 v3 s4 s6 s8 v10 v11 s12
  clear_value v1
  clear_value v2
  clear_value v3
  have h5 : Same [.regs, .mem, .tal, .gbk, .dry] s0 s4 := by
    unfold s4
    refine Same.comp (same_spillWrite _ _ _ _ _) (by decide) ?_
    refine Same.comp (same_writeTaken _ _) (by decide) ?_
    exact Same.refl _ _
  clear_value s4
  have h7 : Same [.regs, .mem, .tal, .gbk, .dry] s0 s6 := by
    unfold s6
    refine Same.comp (same_rput_top _ _ _ (Or.inl (by decide))) (by decide) ?_
    exact h5
  clear_value s6
  have h9 : Same [.regs, .mem, .tal, .gbk, .dry] s0 s8 := by
    unfold s8
    refine Same.comp (same_bumpN _ _ _ _) (by decide) ?_
    refine Same.comp (same_setInt_top _ _ _ (Or.inl (by decide))) (by decide) ?_
    exact h7
  clear_value s8
  clear_value v10
  clear_value v11
  have h13 : Same [.regs, .mem, .tal, .gbk, .dry] s0 s12 := by
    unfold s12
    refine Same.set_gbk (by decide) ?_
    exact h9
  clear_value s12
  refine Same.ite ?_ ?_
  · exact Same.refl _ _
  · refine Same.ite ?_ ?_
    · exact h13
    · refine Same.comp (same_raise _ _ _ _ _) (by decide) ?_
      refine Same.comp (same_setInt_top _ _ _ (Or.inl (by decide))) (by decide) ?_
      exact h13

theorem same_tcamRepaired (x0 : Nat) (x1 : Nat) (s0 : State) : Same [.regs, .tal, .gbk] s0 (tcamRepaired x0 x1 s0) := by
  unfold tcamRepaired
  refine Same.comp (same_raise _ _ _ _ _) (by decide) ?_
  refine Same.comp (same_bump _ _ _) (by decide) ?_
  exact Same.refl _ _

theorem same_writeRegion (x0 : Nat) (x1 : Nat) (s0 : State) : Same [.regs, .glb, .tal, .gbk, .low, .mid] s0 (writeRegion x0 x1 s0) := by
  unfold writeRegion
  extract_lets +onlyGivenNames -merge -underBinder v1 s2
  clear_value v1
  have h3 : Same [.regs, .glb, .tal, .gbk, .low, .mid] s0 s2 := by
    unfold s2
    refine Same.comp (same_writeRw _ _ _) (by decide) ?_
    refine Same.comp (same_keepInForce _ _) (by decide) ?_
    exact Same.refl _ _
  clear_value s2
  refine Same.ite ?_ ?_
  · refine Same.comp (same_raise _ _ _ _ _) (by decide) ?_
    refine Same.comp (same_setInt_top _ _ _ (Or.inl (by decide))) (by decide) ?_
    exact h3
  · exact h3

theorem same_chooseUp (s0 : State) : Same [.regs, .tal, .gbk] s0 (chooseUp s0) := by
  unfold chooseUp
  extract_lets +onlyGivenNames -merge -underBinder v1 v2 s3
  clear_value v1
  clear_value v2
  have h4 : Same [.regs, .tal, .gbk] s0 s3 := by
    unfold s3
    split
    · refine Same.comp (same_fput_top _ _ _ (Or.inl (by simp only [F.FAB_PORT_STATUS_UPSTREAM]; omega))) (by decide) ?_
      exact Same.refl _ _
    · exact Same.refl _ _
  clear_value s3
  refine Same.ite ?_ ?_
  · exact Same.refl _ _
  · split
    · extract_lets +onlyGivenNames -merge -underBinder s5
      have h6 : Same [.regs, .tal, .gbk] s0 s5 := by
        unfold s5
        refine Same.comp (same_fput_top _ _ _ (Or.inl (by simp only [F.FAB_PORT_STATUS_UPSTREAM]; omega))) (by decide) ?_
        refine Same.comp (same_fput_top _ _ _ (Or.inl (by decide))) (by decide) ?_
        refine Same.comp (same_fput_top _ _ _ (Or.inl (by decide))) (by decide) ?_
        exact h4
      clear_value s5
      refine Same.comp (same_raise _ _ _ _ _) (by decide) ?_
      refine Same.comp (same_setInt_top _ _ _ (Or.inl (by decide))) (by decide) ?_
      exact h6
    · extract_lets +onlyGivenNames -merge -underBinder s7
      have h8 : Same [.regs, .tal, .gbk] s0 s7 := by
        unfold s7
        refine Same.comp (same_fput_top _ _ _ (Or.inl (by decide))) (by decide) ?_
        refine Same.comp (same_fput_top _ _ _ (Or.inl (by decide))) (by decide) ?_
        exact h4
      clear_value s7
      refine Same.comp (same_raise _ _ _ _ _) (by decide) ?_
      refine Same.comp (same_setInt_top _ _ _ (Or.inl (by decide))) (by decide) ?_
      exact h8

theorem same_shareRoom (x0 : Nat) (x1 : Nat) (x2 : Nat) (s0 : State) : Same [.regs, .tal, .gbk, .por] s0 (shareRoom x0 x1 x2 s0).2 := by
  unfold shareRoom
  extract_lets +onlyGivenNames -merge -underBinder v1
  clear_value v1
  refine Same.ite2 ?_ ?_
  · split
    rename_i a2 s3 e5
    have h4 : Same [.regs, .tal, .gbk, .por] s0 s3 := by
      refine Same.of2 e5 ?_
      refine Same.comp (same_badHandle _ _ _) (by decide) ?_
      exact Same.refl _ _
    refine Same.comp (same_setInt_top _ _ _ (Or.inl (by decide))) (by decide) ?_
    exact h4
  · refine Same.ite2 ?_ ?_
    · refine Same.comp (same_setInt_top _ _ _ (Or.inl (by decide))) (by decide) ?_
      exact Same.refl _ _
    · refine Same.ite2 ?_ ?_
      · refine Same.comp (same_setInt_top _ _ _ (Or.inl (by decide))) (by decide) ?_
        exact Same.refl _ _
      · refine Same.ite2 ?_ ?_
        · refine Same.comp (same_setInt_top _ _ _ (Or.inl (by decide))) (by decide) ?_
          exact Same.refl _ _
        · refine Same.comp (same_poolCtr _ _ _) (by decide) ?_
          refine Same.comp (same_putMask _ _ _) (by decide) ?_
          exact Same.refl _ _

theorem same_pollProcs (x0 : List (Nat × Nat)) (s0 : State) : Same [.regs, .tal, .gbk, .hlt] s0 (pollProcs x0 s0) := by
  unfold pollProcs
  extract_lets +onlyGivenNames -merge -underBinder v1 s2 v4 s5 v8
  clear_value v1
  have h3 : Same [.regs, .tal, .gbk, .hlt] s0 s2 := by
    unfold s2
    refine Same.ite ?_ ?_
    · exact Same.refl _ _
    · refine Same.comp (same_rput_top _ _ _ (Or.inl (by decide))) (by decide) ?_
      exact Same.refl _ _
  clear_value s2
  clear_value v4
  have h6 : Same [.regs, .tal, .gbk, .hlt] s0 s5 := by
    unfold s5
    refine Same.ite ?_ ?_
    · exact h3
    · refine Same.foldl (fun _ _ h7 => ?_) ?_
      · refine Same.comp (same_raise _ _ _ _ _) (by decide) ?_
        refine Same.comp (same_bump _ _ _) (by decide) ?_
        exact h7
      exact h3
  clear_value s5
  clear_value v8
  refine Same.set_hlt (by decide) ?_
  exact h6

theorem same_ferryNote (x0 : Nat) (x1 : Nat) (x2 : Nat) (s0 : State) : Same [.regs, .tal, .gbk] s0 (ferryNote x0 x1 x2 s0) := by
  unfold ferryNote
  refine Same.ite ?_ ?_
  · refine Same.comp (same_raise _ _ _ _ _) (by decide) ?_
    refine Same.comp (same_setInt_top _ _ _ (Or.inl (by decide))) (by decide) ?_
    exact Same.refl _ _
  · refine Same.ite ?_ ?_
    · refine Same.comp (same_raise _ _ _ _ _) (by decide) ?_
      refine Same.comp (same_setInt_top _ _ _ (Or.inl (by decide))) (by decide) ?_
      exact Same.refl _ _
    · refine Same.ite ?_ ?_
      · refine Same.comp (same_raise _ _ _ _ _) (by decide) ?_
        exact Same.refl _ _
      · refine Same.ite ?_ ?_
        · refine Same.comp (same_raise _ _ _ _ _) (by decide) ?_
          exact Same.refl _ _
        · refine Same.ite ?_ ?_
          · refine Same.comp (same_raise _ _ _ _ _) (by decide) ?_
            exact Same.refl _ _
          · refine Same.ite ?_ ?_
            · refine Same.comp (same_raise _ _ _ _ _) (by decide) ?_
              exact Same.refl _ _
            · exact Same.refl _ _

theorem same_lockedWrite (x0 : Nat) (s0 : State) : Same [.regs, .tal, .gbk, .mid] s0 (lockedWrite x0 s0) := by
  unfold lockedWrite
  refine Same.comp (same_accErr _ _ _ _) (by decide) ?_
  exact Same.refl _ _

theorem same_pauseCounts (x0 : Nat) (s0 : State) : Same [.regs, .clk, .tal, .gbk, .tim, .phs, .prt, .mid] s0 (pauseCounts x0 s0) := by
  unfold pauseCounts
  refine Same.foldl (fun _ _ h1 => ?_) ?_
  · refine Same.comp (same_pauseCount _ _ _) (by decide) ?_
    exact h1
  exact Same.refl _ _

theorem same_placeNext (s0 : State) : Same [.regs, .tal, .gbk] s0 (placeNext s0) := by
  unfold placeNext
  split
  · exact Same.refl _ _
  · extract_lets +onlyGivenNames -merge -underBinder v1
    clear_value v1
    refine Same.comp (same_placeRecord _ _) (by decide) ?_
    refine Same.set_gbk (by decide) ?_
    exact Same.refl _ _

theorem same_fence (x0 : Nat) (x1 : Nat) (s0 : State) : Same [.regs, .tal, .gbk] s0 (fence x0 x1 s0) := by
  unfold fence
  extract_lets +onlyGivenNames -merge -underBinder s1 s3
  have h2 : Same [.regs, .tal, .gbk] s0 s1 := by
    unfold s1
    refine Same.comp (same_rput_top _ _ _ (Or.inl (by decide))) (by decide) ?_
    exact Same.refl _ _
  clear_value s1
  have h4 : Same [.regs, .tal, .gbk] s0 s3 := by
    unfold s3
    refine Same.comp (same_rput_top _ _ _ (Or.inl (by decide))) (by decide) ?_
    exact h2
  clear_value s3
  refine Same.comp (same_raise _ _ _ _ _) (by decide) ?_
  refine Same.comp (same_bump _ _ _) (by decide) ?_
  refine Same.comp (same_setInt_top _ _ _ (Or.inl (by decide))) (by decide) ?_
  refine Same.comp (same_healthInt _ _ _) (by decide) ?_
  exact h4

theorem same_anMismatch (x0 : Nat) (x1 : Nat) (s0 : State) : Same [.regs, .tal, .gbk, .prt, .mid] s0 (anMismatch x0 x1 s0) := by
  unfold anMismatch
  extract_lets +onlyGivenNames -merge -underBinder v1 s2 v4
  clear_value v1
  have h3 : Same [.regs, .tal, .gbk, .prt, .mid] s0 s2 := by
    unfold s2
    refine Same.comp (same_setInt_hi _ _ _ (Or.inl (by simp only [A.PRT_INT_STAT]; omega))) (by decide) ?_
    refine Same.comp (same_bump _ _ _) (by decide) ?_
    exact Same.refl _ _
  clear_value s2
  clear_value v4
  refine Same.ite ?_ ?_
  · refine Same.comp (same_raise _ _ _ _ _) (by decide) ?_
    refine Same.comp (same_putPort _ _ _) (by decide) ?_
    exact h3
  · exact h3

theorem same_keySwitchOp (s0 : State) : Same [.regs, .tal, .gbk, .fab] s0 (keySwitchOp s0) := by
  unfold keySwitchOp
  refine Same.ite ?_ ?_
  · refine Same.comp (same_fput_top _ _ _ (Or.inl (by decide))) (by decide) ?_
    exact Same.refl _ _
  · refine Same.comp (same_swapKeys _) (by decide) ?_
    refine Same.comp (same_fput_top _ _ _ (Or.inl (by decide))) (by decide) ?_
    exact Same.refl _ _

theorem same_placeSummary (x0 : Nat) (s0 : State) : Same [.regs, .tal, .gbk] s0 (placeSummary x0 s0) := by
  unfold placeSummary
  extract_lets +onlyGivenNames -merge -underBinder v1 v2 v3 v4 s5
  clear_value v1
  clear_value v2
  clear_value v3
  clear_value v4
  have h6 : Same [.regs, .tal, .gbk] s0 s5 := by
    unfold s5
    refine Same.set_gbk (by decide) ?_
    exact Same.refl _ _
  clear_value s5
  refine Same.comp (same_placeRecord _ _) (by decide) ?_
  refine Same.comp (same_gbkCtr _ _) (by decide) ?_
  exact h6

theorem same_allocRoom (x0 : Nat) (x1 : Nat) (x2 : Nat) (s0 : State) : Same [.regs, .tal, .gbk, .por] s0 (allocRoom x0 x1 x2 s0).2.2 := by
  unfold allocRoom
  refine Same.ite3 ?_ ?_
  · refine Same.comp (same_setInt_top _ _ _ (Or.inl (by decide))) (by decide) ?_
    exact Same.refl _ _
  · split
    · refine Same.comp (same_poolCtr _ _ _) (by decide) ?_
      refine Same.comp (same_putMask _ _ _) (by decide) ?_
      refine Same.comp (same_putCache _ _ _) (by decide) ?_
      exact Same.refl _ _
    · extract_lets +onlyGivenNames -merge -underBinder s1 s3 v5
      have h2 : Same [.regs, .tal, .gbk, .por] s0 s1 := by
        unfold s1
        refine Same.comp (same_setInt_top _ _ _ (Or.inl (by decide))) (by decide) ?_
        exact Same.refl _ _
      clear_value s1
      have h4 : Same [.regs, .tal, .gbk, .por] s0 s3 := by
        unfold s3
        refine Same.comp (same_poolCtr _ _ _) (by decide) ?_
        exact h2
      clear_value s3
      clear_value v5
      refine Same.ite3 ?_ ?_
      · refine Same.comp (same_poolCtr _ _ _) (by decide) ?_
        exact h2
      · refine Same.ite3 ?_ ?_
        · exact h4
        · refine Same.comp (same_raise _ _ _ _ _) (by decide) ?_
          refine Same.set_por (by decide) ?_
          exact h4

theorem same_gbkClearAllOp (s0 : State) : Same [.regs, .tal, .gbk] s0 (gbkClearAllOp s0) := by
  unfold gbkClearAllOp
  refine Same.comp (same_clearLog _ _ _) (by decide) ?_
  exact Same.refl _ _

theorem same_releaseOld (s0 : State) : Same [.regs, .frg, .tal, .gbk, .act, .low] s0 (releaseOld s0) := by
  unfold releaseOld
  refine Same.comp (same_raise _ _ _ _ _) (by decide) ?_
  refine Same.comp (same_setInt_lo _ _ _ (by decide)) (by decide) ?_
  refine Same.comp (same_dropBank _ _) (by decide) ?_
  exact Same.refl _ _

theorem same_timCtlChanged (x0 : Nat) (s0 : State) : Same [.regs, .tal, .gbk, .tim, .phs] s0 (timCtlChanged x0 s0) := by
  unfold timCtlChanged
  extract_lets +onlyGivenNames -merge -underBinder v1 v2 s3 s5 v7 s8 s10
  clear_value v1
  clear_value v2
  have h4 : Same [.regs, .tal, .gbk, .tim, .phs] s0 s3 := by
    unfold s3
    refine Same.ite ?_ ?_
    · refine Same.set_tim (by decide) ?_
      exact Same.refl _ _
    · exact Same.refl _ _
  clear_value s3
  have h6 : Same [.regs, .tal, .gbk, .tim, .phs] s0 s5 := by
    unfold s5
    refine Same.comp (same_followHostAdj _) (by decide) ?_
    exact h4
  clear_value s5
  clear_value v7
  have h9 : Same [.regs, .tal, .gbk, .tim, .phs] s0 s8 := by
    unfold s8
    refine Same.ite ?_ ?_
    · refine Same.set_tim (by decide) ?_
      exact h6
    · exact h6
  clear_value s8
  have h11 : Same [.regs, .tal, .gbk, .tim, .phs] s0 s10 := by
    unfold s10
    refine Same.comp (same_idleTrk _ _) (by decide) ?_
    exact h9
  clear_value s10
  refine Same.ite ?_ ?_
  · refine Same.ite ?_ ?_
    · refine Same.comp (same_checkLost _) (by decide) ?_
      refine Same.comp (same_idleTrk _ _) (by decide) ?_
      refine Same.comp (same_fput_top _ _ _ (Or.inl (by decide))) (by decide) ?_
      exact h11
    · exact h11
  · exact h9

theorem same_freeRoom (x0 : Nat) (x1 : Nat) (s0 : State) : Same [.regs, .tal, .gbk, .por] s0 (freeRoom x0 x1 s0).2 := by
  unfold freeRoom
  extract_lets +onlyGivenNames -merge -underBinder v1 v2 v3 s4
  clear_value v1
  clear_value v2
  clear_value v3
  have h5 : Same [.regs, .tal, .gbk, .por] s0 s4 := by
    unfold s4
    refine Same.comp (same_poolCtr _ _ _) (by decide) ?_
    refine Same.comp (same_putMask _ _ _) (by decide) ?_
    exact Same.refl _ _
  clear_value s4
  refine Same.ite2 ?_ ?_
  · split
    rename_i a6 s7 e9
    have h8 : Same [.regs, .tal, .gbk, .por] s0 s7 := by
      refine Same.of2 e9 ?_
      refine Same.comp (same_badHandle _ _ _) (by decide) ?_
      exact Same.refl _ _
    refine Same.comp (same_setInt_top _ _ _ (Or.inl (by decide))) (by decide) ?_
    exact h8
  · refine Same.ite2 ?_ ?_
    · refine Same.comp (same_roomRecord _ _ _ _ _) (by decide) ?_
      refine Same.comp (same_poolCtr _ _ _) (by decide) ?_
      refine Same.comp (same_setInt_top _ _ _ (Or.inl (by decide))) (by decide) ?_
      exact Same.refl _ _
    · refine Same.ite2 ?_ ?_
      · refine Same.comp (same_roomRecord _ _ _ _ _) (by decide) ?_
        refine Same.comp (same_poolCtr _ _ _) (by decide) ?_
        refine Same.comp (same_setInt_top _ _ _ (Or.inl (by decide))) (by decide) ?_
        exact Same.refl _ _
      · refine Same.ite ?_ ?_
        · refine Same.comp (same_returnHandle _ _) (by decide) ?_
          refine Same.comp (same_poolCtr _ _ _) (by decide) ?_
          exact h5
        · exact h5

theorem same_checkLock (x0 : Int) (s0 : State) : Same [.regs, .tal, .gbk, .tim] s0 (checkLock x0 s0) := by
  unfold checkLock
  extract_lets +onlyGivenNames -merge -underBinder v1
  clear_value v1
  refine Same.comp (same_relock _) (by decide) ?_
  refine Same.set_tim (by decide) ?_
  exact Same.refl _ _

theorem same_badDest (x0 : Nat) (x1 : Frame) (x2 : Nat) (s0 : State) : Same [.regs, .tal, .gbk] s0 (badDest x0 x1 x2 s0) := by
  unfold badDest
  refine Same.comp (same_parseEvent _ _ _ _ _) (by decide) ?_
  refine Same.comp (same_parseCtr _ _ _) (by decide) ?_
  exact Same.refl _ _

theorem same_porterError (x0 : Nat) (s0 : State) : Same [.regs, .tal, .gbk] s0 (porterError x0 s0) := by
  unfold porterError
  extract_lets +onlyGivenNames -merge -underBinder v1 v2
  clear_value v1
  clear_value v2
  refine Same.ite ?_ ?_
  · refine Same.ite ?_ ?_
    · exact Same.refl _ _
    · refine Same.comp (same_raise _ _ _ _ _) (by decide) ?_
      refine Same.comp (same_setInt_top _ _ _ (Or.inl (by decide))) (by decide) ?_
      refine Same.comp (same_fput_top _ _ _ (Or.inl (by simp only [F.POR_POOL_CTL_EN]; omega))) (by decide) ?_
      exact Same.refl _ _
  · refine Same.ite ?_ ?_
    · exact Same.refl _ _
    · refine Same.comp (same_raise _ _ _ _ _) (by decide) ?_
      refine Same.comp (same_setInt_top _ _ _ (Or.inl (by decide))) (by decide) ?_
      refine Same.comp (same_fput_top _ _ _ (Or.inl (by decide))) (by decide) ?_
      exact Same.refl _ _

theorem same_takeCells (x0 : Nat) (x1 : Nat) (s0 : State) : Same [.regs, .tal, .gbk, .fab, .dp, .tmg] s0 (takeCells x0 x1 s0) := by
  unfold takeCells
  split
  · exact Same.refl _ _
  · refine Same.ite ?_ ?_
    · exact Same.refl _ _
    · refine Same.ite ?_ ?_
      · refine Same.comp (same_putFrame _ _ _) (by decide) ?_
        exact Same.refl _ _
      · refine Same.ite ?_ ?_
        · refine Same.comp (same_putFrame _ _ _) (by decide) ?_
          exact Same.refl _ _
        · refine Same.comp (same_noCell _ _) (by decide) ?_
          refine Same.comp (same_dropFrame _ _ _) (by decide) ?_
          exact Same.refl _ _

theorem same_unfenceOp (x0 : Nat) (s0 : State) : Same [.regs, .tal, .gbk] s0 (unfenceOp x0 s0) := by
  unfold unfenceOp
  extract_lets +onlyGivenNames -merge -underBinder v1
  clear_value v1
  refine Same.ite ?_ ?_
  · refine Same.comp (same_fenceResult _ _) (by decide) ?_
    exact Same.refl _ _
  · refine Same.ite ?_ ?_
    · refine Same.comp (same_fenceResult _ _) (by decide) ?_
      exact Same.refl _ _
    · refine Same.comp (same_raise _ _ _ _ _) (by decide) ?_
      refine Same.comp (same_bump _ _ _) (by decide) ?_
      refine Same.comp (same_fenceResult _ _) (by decide) ?_
      refine Same.comp (same_rput_top _ _ _ (Or.inl (by decide))) (by decide) ?_
      exact Same.refl _ _

theorem same_clearLost (s0 : State) : Same [.regs, .tal, .gbk, .tim] s0 (clearLost s0) := by
  unfold clearLost
  extract_lets +onlyGivenNames -merge -underBinder v1
  clear_value v1
  refine Same.ite ?_ ?_
  · refine Same.comp (same_raise _ _ _ _ _) (by decide) ?_
    refine Same.comp (same_setInt_top _ _ _ (Or.inl (by decide))) (by decide) ?_
    refine Same.set_tim (by decide) ?_
    exact Same.refl _ _
  · exact Same.refl _ _

theorem same_onDelayResp (x0 : Nat) (x1 : Frame) (s0 : State) : Same [.regs, .tal, .gbk, .fab] s0 (onDelayResp x0 x1 s0) := by
  unfold onDelayResp
  extract_lets +onlyGivenNames -merge -underBinder v1
  clear_value v1
  split
  · exact Same.refl _ _
  · extract_lets +onlyGivenNames -merge -underBinder v2 s3 v5 v6 v7
    clear_value v2
    have h4 : Same [.regs, .tal, .gbk, .fab] s0 s3 := by
      unfold s3
      refine Same.comp (same_putFabPort _ _ _) (by decide) ?_
      exact Same.refl _ _
    clear_value s3
    clear_value v5
    clear_value v6
    clear_value v7
    refine Same.ite ?_ ?_
    · exact Same.refl _ _
    · refine Same.ite ?_ ?_
      · refine Same.comp (same_bump _ _ _) (by decide) ?_
        exact h4
      · refine Same.comp (same_chooseUp _) (by decide) ?_
        refine Same.comp (same_putFabPort _ _ _) (by decide) ?_
        exact h4

theorem same_bankSpared (x0 : Nat) (s0 : State) : Same [.regs, .tal, .gbk, .hlt] s0 (bankSpared x0 s0) := by
  unfold bankSpared
  split
  · extract_lets +onlyGivenNames -merge -underBinder v1 s2 s4 s6
    clear_value v1
    have h3 : Same [.regs, .tal, .gbk, .hlt] s0 s2 := by
      unfold s2
      refine Same.set_hlt (by decide) ?_
      exact Same.refl _ _
    clear_value s2
    have h5 : Same [.regs, .tal, .gbk, .hlt] s0 s4 := by
      unfold s4
      refine Same.comp (same_rput_top _ _ _ (Or.inl (by decide))) (by decide) ?_
      exact h3
    clear_value s4
    have h7 : Same [.regs, .tal, .gbk, .hlt] s0 s6 := by
      unfold s6
      refine Same.comp (same_raise _ _ _ _ _) (by decide) ?_
      refine Same.comp (same_bump _ _ _) (by decide) ?_
      refine Same.comp (same_setInt_top _ _ _ (Or.inl (by decide))) (by decide) ?_
      exact h5
    clear_value s6
    refine Same.ite ?_ ?_
    · exact Same.refl _ _
    · refine Same.ite ?_ ?_
      · refine Same.comp (same_raise _ _ _ _ _) (by decide) ?_
        exact h7
      · exact h7
  · exact Same.refl _ _

theorem same_acceptPair (x0 : Nat × Nat) (s0 : State) : Same [.regs, .tal, .gbk, .fab] s0 (acceptPair x0 s0).2 := by
  unfold acceptPair
  split
  · extract_lets +onlyGivenNames -merge -underBinder v1
    clear_value v1
    refine Same.comp (same_setInt_top _ _ _ (Or.inl (by decide))) (by decide) ?_
    refine Same.set_fab (by decide) ?_
    exact Same.refl _ _
  · extract_lets +onlyGivenNames -merge -underBinder v2
    clear_value v2
    refine Same.ite2 ?_ ?_
    · refine Same.comp (same_raise _ _ _ _ _) (by decide) ?_
      refine Same.comp (same_bump _ _ _) (by decide) ?_
      exact Same.refl _ _
    · refine Same.ite2 ?_ ?_
      · refine Same.comp (same_setInt_top _ _ _ (Or.inl (by decide))) (by decide) ?_
        refine Same.set_fab (by decide) ?_
        exact Same.refl _ _
      · exact Same.refl _ _

theorem same_setModeErr (x0 : Nat) (x1 : Nat) (s0 : State) : Same [.regs, .tal, .gbk, .mid] s0 (setModeErr x0 x1 s0) := by
  unfold setModeErr
  extract_lets +onlyGivenNames -merge -underBinder s1
  have h2 : Same [.regs, .tal, .gbk, .mid] s0 s1 := by
    unfold s1
    refine Same.comp (same_fput_hi _ _ _ (Or.inl (by simp only [F.PRT_STATUS_MODE_ERR_CAUSE]; omega))) (by decide) ?_
    refine Same.comp (same_fput_hi _ _ _ (Or.inl (by simp only [F.PRT_STATUS_MODE_ERR]; omega))) (by decide) ?_
    exact Same.refl _ _
  clear_value s1
  refine Same.comp (same_raise _ _ _ _ _) (by decide) ?_
  refine Same.comp (same_setInt_hi _ _ _ (Or.inl (by simp only [A.PRT_INT_STAT]; omega))) (by decide) ?_
  exact h2

theorem same_stepDownNow (s0 : State) : Same [.regs, .tal, .gbk, .fab] s0 (stepDownNow s0) := by
  unfold stepDownNow
  split
  · extract_lets +onlyGivenNames -merge -underBinder v1
    clear_value v1
    refine Same.comp (same_raise _ _ _ _ _) (by decide) ?_
    refine Same.comp (same_fput_top _ _ _ (Or.inl (by decide))) (by decide) ?_
    refine Same.set_fab (by decide) ?_
    exact Same.refl _ _

theorem same_hbLoss (s0 : State) : Same [.regs, .tal, .gbk, .fab] s0 (hbLoss s0) := by
  unfold hbLoss
  refine Same.ite ?_ ?_
  · split
    · extract_lets +onlyGivenNames -merge -underBinder v1 s2
      clear_value v1
      have h3 : Same [.regs, .tal, .gbk, .fab] s0 s2 := by
        unfold s2
        refine Same.set_fab (by decide) ?_
        exact Same.refl _ _
      clear_value s2
      refine Same.comp (same_raise _ _ _ _ _) (by decide) ?_
      refine Same.comp (same_setInt_top _ _ _ (Or.inl (by decide))) (by decide) ?_
      exact h3
  · exact Same.refl _ _

theorem same_placeAll (x0 : List GbkEvent) (s0 : State) : Same [.regs, .tal, .gbk] s0 (placeAll x0 s0) := by
  induction x0 generalizing s0 with
  | nil => exact Same.refl _ _
  | cons a l ih =>
    unfold placeAll
    exact Same.comp (ih _) (by decide) (Same.comp (same_placeNext _) (by decide) (Same.refl _ _))

theorem same_lateStart (x0 : Nat) (x1 : Nat) (s0 : State) : Same [.regs, .tal, .gbk] s0 (lateStart x0 x1 s0) := by
  unfold lateStart
  refine Same.comp (same_raise _ _ _ _ _) (by decide) ?_
  refine Same.comp (same_setInt_top _ _ _ (Or.inl (by decide))) (by decide) ?_
  exact Same.refl _ _

theorem same_trigKeySwitch (x0 : Nat) (x1 : Bool) (s0 : State) : Same [.regs, .tal, .gbk, .fab] s0 (trigKeySwitch x0 x1 s0).2 := by
  unfold trigKeySwitch
  extract_lets +onlyGivenNames -merge -underBinder v1
  clear_value v1
  refine Same.ite2 ?_ ?_
  · exact Same.refl _ _
  · refine Same.ite2 ?_ ?_
    · refine Same.ite2 ?_ ?_
      · exact Same.refl _ _
      · refine Same.comp (same_swapKeys _) (by decide) ?_
        exact Same.refl _ _
    · refine Same.set_fab (by decide) ?_
      exact Same.refl _ _

theorem same_taLateAll (x0 : Nat) (x1 : Nat) (s0 : State) : Same [.regs, .tal, .gbk, .phs] s0 (taLateAll x0 x1 s0) := by
  unfold taLateAll
  refine Same.foldl (fun _ _ h1 => ?_) ?_
  · refine Same.ite ?_ ?_
    · refine Same.comp (same_taLate _ _ _) (by decide) ?_
      exact h1
    · exact h1
  exact Same.refl _ _

theorem same_frameStart (x0 : Nat) (x1 : Bool) (x2 : List Byte) (s0 : State) : Same [.regs, .tal, .gbk, .pin, .prt, .dp] s0 (frameStart x0 x1 x2 s0) := by
  unfold frameStart
  extract_lets +onlyGivenNames -merge -underBinder s1
  have h2 : Same [.regs, .tal, .gbk, .pin, .prt, .dp] s0 s1 := by
    unfold s1
    refine Same.ite ?_ ?_
    · refine Same.comp (same_reasmError _ _) (by decide) ?_
      exact Same.refl _ _
    · exact Same.refl _ _
  clear_value s1
  refine Same.ite ?_ ?_
  · exact Same.refl _ _
  · refine Same.ite ?_ ?_
    · refine Same.comp (same_bump _ _ _) (by decide) ?_
      exact Same.refl _ _
    · refine Same.comp (same_arrive _ _ _ _ _ _ _) (by decide) ?_
      exact h2

theorem same_dropTooLong (x0 x1 x2 : Nat) (s0 : State) : Same [.regs, .tal, .gbk, .dp, .tmg] s0 (dropTooLong x0 x1 x2 s0) := by
  induction x2 generalizing s0 with
  | zero => exact Same.refl _ _
  | succ n ih =>
    unfold dropTooLong
    refine Same.ite ?_ (Same.refl _ _)
    split
    · refine Same.comp (ih _) (by decide) ?_
      refine Same.comp (same_raise _ _ _ _ _) (by decide) ?_
      refine Same.comp (same_setInt_top _ _ _ (Or.inl (by decide))) (by decide) ?_
      refine Same.comp (same_bump _ _ _) (by decide) ?_
      refine Same.comp (same_returnCharges _ _ _ _) (by decide) ?_
      refine Same.comp (same_putQueue _ _ _) (by decide) ?_
      exact Same.refl _ _
    · exact Same.refl _ _

theorem same_markFailed (x0 : Nat) (s0 : State) : Same [.regs, .tal, .gbk, .hlt] s0 (markFailed x0 s0) := by
  unfold markFailed
  extract_lets +onlyGivenNames -merge -underBinder s1
  have h2 : Same [.regs, .tal, .gbk, .hlt] s0 s1 := by
    unfold s1
    refine Same.comp (same_showMon _) (by decide) ?_
    refine Same.comp (same_putMon _ _ _ _) (by decide) ?_
    exact Same.refl _ _
  clear_value s1
  refine Same.ite ?_ ?_
  · exact h2
  · refine Same.comp (same_raise _ _ _ _ _) (by decide) ?_
    refine Same.comp (same_bump _ _ _) (by decide) ?_
    exact h2

theorem same_ferryCounts (x0 : Nat) (x1 : Frame) (x2 : Pass) (s0 : State) : Same [.regs, .tal, .gbk, .fry] s0 (ferryCounts x0 x1 x2 s0).2 := by
  unfold ferryCounts
  split
  · exact Same.refl _ _
  · extract_lets +onlyGivenNames -merge -underBinder s1 v3
    have h2 : Same [.regs, .tal, .gbk, .fry] s0 s1 := by
      unfold s1
      refine Same.comp (same_ferryNote _ _ _ _) (by decide) ?_
      refine Same.comp (same_ferryCtr _ _ _) (by decide) ?_
      exact Same.refl _ _
    clear_value s1
    clear_value v3
    refine Same.ite2 ?_ ?_
    · exact Same.refl _ _
    · refine Same.ite2 ?_ ?_
      · refine Same.comp (same_bump _ _ _) (by decide) ?_
        refine Same.comp (same_bumpN _ _ _ _) (by decide) ?_
        refine Same.comp (same_bump _ _ _) (by decide) ?_
        exact h2
      · refine Same.ite2 ?_ ?_
        · refine Same.comp (same_peerTake _) (by decide) ?_
          exact h2
        · exact h2

theorem same_fragPass (x0 : HearthStruct) (x1 : Nat) (x2 : Frame) (x3 : Parse) (s0 : State) : Same [.regs, .tal, .gbk, .dp] s0 (fragPass x0 x1 x2 x3 s0).2.2 := by
  unfold fragPass
  split
  · exact Same.refl _ _
  · refine Same.ite3 ?_ ?_
    · refine Same.comp (same_fragWrite _ _ _ _ _ _ _) (by decide) ?_
      exact Same.refl _ _
    · split
      · refine Same.comp (same_parseCtr _ _ _) (by decide) ?_
        exact Same.refl _ _
      · refine Same.comp (same_parseCtr _ _ _) (by decide) ?_
        exact Same.refl _ _

theorem same_disabledDrop (x0 : Nat) (s0 : State) : Same [.regs, .tal, .gbk, .dry, .dp, .tmg] s0 (disabledDrop x0 s0) := by
  unfold disabledDrop
  refine same_dropQueued_h (by decide) (fun _ _ h1 => ?_) ?_
  · extract_lets +onlyGivenNames -merge -underBinder s2 v4
    have h3 : Same [.regs, .tal, .gbk, .dry, .dp, .tmg] s0 s2 := by
      unfold s2
      refine Same.comp (same_bump _ _ _) (by decide) ?_
      exact h1
    clear_value s2
    clear_value v4
    refine Same.ite ?_ ?_
    · exact h3
    · refine Same.comp (same_raise _ _ _ _ _) (by decide) ?_
      refine Same.comp (same_putRx _ _ _) (by decide) ?_
      exact h3
  exact Same.refl _ _

theorem same_mbxRun (x0 : Nat) (x1 : Nat) (x2 : List Nat) (x3 : Bool) (s0 : State) : Same [.regs, .hif, .tal, .gbk, .free] s0 (mbxRun x0 x1 x2 x3 s0).2.2 := by
  unfold mbxRun
  split
  · exact Same.refl _ _
  · extract_lets +onlyGivenNames -merge -underBinder s1
    have h2 : Same [.regs, .hif, .tal, .gbk, .free] s0 s1 := by
      unfold s1
      refine Same.comp (same_otpProgram _ _ _ _) (by decide) ?_
      exact Same.refl _ _
    clear_value s1
    refine Same.ite3 ?_ ?_
    · exact Same.refl _ _
    · refine Same.ite3 ?_ ?_
      · exact Same.refl _ _
      · refine Same.ite3 ?_ ?_
        · exact Same.refl _ _
        · refine Same.ite3 ?_ ?_
          · refine Same.comp (same_raise _ _ _ _ _) (by decide) ?_
            exact h2
          · refine Same.comp (same_raise _ _ _ _ _) (by decide) ?_
            exact h2

theorem same_failRecords (x0 : Nat) (s0 : State) : Same [.regs, .tal, .gbk, .low] s0 (failRecords x0 s0) := by
  unfold failRecords
  refine Same.comp (same_raise _ _ _ _ _) (by decide) ?_
  refine Same.comp (same_setInt_lo _ _ _ (by decide)) (by decide) ?_
  exact Same.refl _ _

theorem same_mbxTimeout (s0 : State) : Same [.regs, .hif, .tal, .gbk, .mid] s0 (mbxTimeout s0) := by
  unfold mbxTimeout
  split
  · exact Same.refl _ _
  · extract_lets +onlyGivenNames -merge -underBinder v1 s2
    clear_value v1
    have h3 : Same [.regs, .hif, .tal, .gbk, .mid] s0 s2 := by
      unfold s2
      refine Same.comp (same_fput_hi _ _ _ (Or.inl (by decide))) (by decide) ?_
      refine Same.comp (same_fput_hi _ _ _ (Or.inl (by decide))) (by decide) ?_
      refine Same.set_hif (by decide) ?_
      exact Same.refl _ _
    clear_value s2
    refine Same.comp (same_setSilent _) (by decide) ?_
    refine Same.comp (same_raise _ _ _ _ _) (by decide) ?_
    refine Same.comp (same_setInt_hi _ _ _ (Or.inl (by decide))) (by decide) ?_
    exact h3

theorem same_followWrite (x0 : Nat) (x1 : FerryRes) (s0 : State) : Same [.regs, .tal, .gbk, .tab] s0 (followWrite x0 x1 s0) := by
  unfold followWrite
  extract_lets +onlyGivenNames -merge -underBinder v1 v2 v3 v4
  clear_value v1
  clear_value v2
  clear_value v3
  clear_value v4
  refine Same.ite ?_ ?_
  · refine Same.comp (same_raise _ _ _ _ _) (by decide) ?_
    refine Same.comp (same_ferryCtr _ _ _) (by decide) ?_
    refine Same.comp (same_putEntry _ _ _ _ _ _) (by decide) ?_
    exact Same.refl _ _
  · refine Same.comp (same_ferryCtr _ _ _) (by decide) ?_
    exact Same.refl _ _

theorem same_bistRun (x0 : Nat) (s0 : State) : Same [.regs, .tal, .gbk, .hlt, .low, .mid] s0 (bistRun x0 s0) := by
  unfold bistRun
  extract_lets +onlyGivenNames -merge -underBinder s1 v3 s4
  have h2 : Same [.regs, .tal, .gbk, .hlt, .low, .mid] s0 s1 := by
    unfold s1
    refine Same.comp (same_fput_top _ _ _ (Or.inl (by decide))) (by decide) ?_
    refine Same.comp (same_fput_top _ _ _ (Or.inl (by decide))) (by decide) ?_
    refine Same.comp (same_fput_top _ _ _ (Or.inl (by decide))) (by decide) ?_
    exact Same.refl _ _
  clear_value s1
  clear_value v3
  have h5 : Same [.regs, .tal, .gbk, .hlt, .low, .mid] s0 s4 := by
    unfold s4
    refine Same.set_hlt (by decide) ?_
    exact h2
  clear_value s4
  refine Same.ite ?_ ?_
  · refine Same.comp (same_lockedWrite _ _) (by decide) ?_
    exact Same.refl _ _
  · refine Same.ite ?_ ?_
    · exact h5
    · refine Same.comp (same_fput_lo _ _ _ (by decide)) (by decide) ?_
      exact h5

theorem same_writePool (x0 : Nat) (x1 : Nat) (x2 : Nat) (s0 : State) : Same [.regs, .mem, .tal, .gbk, .por, .low, .mid] s0 (writePool x0 x1 x2 s0) := by
  unfold writePool
  refine Same.ite ?_ ?_
  · refine Same.ite ?_ ?_
    · refine Same.comp (same_enablePool _ _ _) (by decide) ?_
      exact Same.refl _ _
    · refine Same.comp (same_disablePool _ _) (by decide) ?_
      exact Same.refl _ _
  · refine Same.ite ?_ ?_
    · refine Same.comp (same_lockedWrite _ _) (by decide) ?_
      exact Same.refl _ _
    · refine Same.comp (same_writeRw _ _ _) (by decide) ?_
      exact Same.refl _ _

theorem same_notify (x0 : Nat) (x1 : Nat) (x2 : Learn) (s0 : State) : Same [.regs, .glb, .tal, .gbk, .tab] s0 (notify x0 x1 x2 s0) := by
  unfold notify
  refine Same.ite ?_ ?_
  · split
    rename_i a1 s2 e4
    have h3 : Same [.regs, .glb, .tal, .gbk, .tab] s0 s2 := by
      refine Same.of2 e4 ?_
      refine Same.comp (same_admitBudget _ _ _) (by decide) ?_
      exact Same.refl _ _
    extract_lets +onlyGivenNames -merge -underBinder v5 v6 s7 v9
    clear_value v5
    clear_value v6
    have h8 : Same [.regs, .glb, .tal, .gbk, .tab] s0 s7 := by
      unfold s7
      refine Same.ite ?_ ?_
      · refine Same.comp (same_setInt_top _ _ _ (Or.inl (by decide))) (by decide) ?_
        exact h3
      · exact h3
    clear_value s7
    clear_value v9
    refine Same.ite ?_ ?_
    · exact h3
    · refine Same.ite ?_ ?_
      · refine Same.comp (same_raise _ _ _ _ _) (by decide) ?_
        refine Same.comp (same_setInt_top _ _ _ (Or.inl (by decide))) (by decide) ?_
        refine Same.comp (same_fdbCtr _ _ _) (by decide) ?_
        exact h3
      · refine Same.set_tab (by decide) ?_
        exact h8
  · exact Same.refl _ _

theorem same_nominalQualify (s0 : State) : Same [.regs, .tal, .gbk, .phs] s0 (nominalQualify s0) := by
  unfold nominalQualify
  refine Same.ite ?_ ?_
  · refine Same.ite ?_ ?_
    · refine Same.comp (same_chooseSource _) (by decide) ?_
      refine Same.comp (same_setQual _ _ _) (by decide) ?_
      exact Same.refl _ _
    · refine Same.comp (same_setQual _ _ _) (by decide) ?_
      exact Same.refl _ _
  · exact Same.refl _ _

theorem same_releaseRooms (x0 : Nat) (x1 : List Nat) (s0 : State) : Same [.regs, .tal, .gbk, .por] s0 (releaseRooms x0 x1 s0) := by
  unfold releaseRooms
  refine Same.foldl (fun _ _ h1 => ?_) ?_
  · refine Same.foldl (fun _ _ h2 => ?_) ?_
    · refine Same.comp (same_freeRoom _ _ _) (by decide) ?_
      exact h2
    exact h1
  exact Same.refl _ _

theorem same_recomputeDrop (x0 : Nat) (s0 : State) : Same [.regs, .tal, .gbk, .hlt] s0 (recomputeDrop x0 s0) := by
  unfold recomputeDrop
  extract_lets +onlyGivenNames -merge -underBinder s1 v3 v4 s5 v7
  have h2 : Same [.regs, .tal, .gbk, .hlt] s0 s1 := by
    unfold s1
    refine Same.comp (same_setInt_top _ _ _ (Or.inl (by simp only [A.HTH_INT_STAT]; omega))) (by decide) ?_
    refine Same.comp (same_healthCtr _ _ _) (by decide) ?_
    exact Same.refl _ _
  clear_value s1
  clear_value v3
  clear_value v4
  have h6 : Same [.regs, .tal, .gbk, .hlt] s0 s5 := by
    unfold s5
    refine Same.set_hlt (by decide) ?_
    exact h2
  clear_value s5
  clear_value v7
  refine Same.ite ?_ ?_
  · refine Same.comp (same_raise _ _ _ _ _) (by decide) ?_
    refine Same.comp (same_setInt_top _ _ _ (Or.inl (by decide))) (by decide) ?_
    refine Same.comp (same_healthInt _ _ _) (by decide) ?_
    refine Same.set_hlt (by decide) ?_
    exact h6
  · exact h6

theorem same_talEvent (x0 : Nat) (s0 : State) : Same [.regs, .tal, .gbk] s0 (talEvent x0 s0) := by
  unfold talEvent
  refine Same.comp (same_raise _ _ _ _ _) (by decide) ?_
  exact Same.refl _ _

theorem same_markAll (x0 : List Nat) (s0 : State) : Same [.regs, .tal, .gbk, .hlt] s0 (markAll x0 s0) := by
  unfold markAll
  refine Same.comp (same_fput_top _ _ _ (Or.inl (by decide))) (by decide) ?_
  refine Same.foldl (fun _ _ h1 => ?_) ?_
  · refine Same.comp (same_markFailed _ _) (by decide) ?_
    exact h1
  exact Same.refl _ _

theorem same_ferryPass (x0 : Nat) (x1 : Frame) (x2 : Bool) (x3 : Pass) (s0 : State) : Same [.regs, .tal, .gbk] s0 (ferryPass x0 x1 x2 x3 s0).2 := by
  unfold ferryPass
  extract_lets +onlyGivenNames -merge -underBinder v1 v2
  clear_value v1
  clear_value v2
  refine Same.ite2 ?_ ?_
  · exact Same.refl _ _
  · refine Same.ite2 ?_ ?_
    · refine Same.comp (same_parseEvent _ _ _ _ _) (by decide) ?_
      refine Same.comp (same_parseCtr _ _ _) (by decide) ?_
      exact Same.refl _ _
    · split
      · refine Same.comp (same_badDest _ _ _ _) (by decide) ?_
        exact Same.refl _ _
      · extract_lets +onlyGivenNames -merge -underBinder v3 v4 v5
        clear_value v3
        clear_value v4
        clear_value v5
        refine Same.ite2 ?_ ?_
        · exact Same.refl _ _
        · refine Same.ite2 ?_ ?_
          · exact Same.refl _ _
          · refine Same.ite2 ?_ ?_
            · exact Same.refl _ _
            · exact Same.refl _ _

theorem same_resetHearth (x0 : Nat) (s0 : State) : Same [.regs, .glb, .tal, .gbk, .dp, .tmg, .rst, .low] s0 (resetHearth x0 s0) := by
  unfold resetHearth
  extract_lets +onlyGivenNames -merge -underBinder v1 s2 s4 s6
  have h3 : Same [.regs, .glb, .tal, .gbk, .dp, .tmg, .rst, .low] s0 s2 := by
    unfold s2
    refine Same.set_glb (by decide) (Or.inr rfl) (Or.inl (by decide)) ?_
    exact Same.refl _ _
  clear_value s2
  have h5 : Same [.regs, .glb, .tal, .gbk, .dp, .tmg, .rst, .low] s0 s4 := by
    unfold s4
    refine Same.comp (same_raise _ _ _ _ _) (by decide) ?_
    refine Same.comp (same_forBits_lo _ _ _ (by decide)) (by decide) ?_
    exact h3
  clear_value s4
  have h7 : Same [.regs, .glb, .tal, .gbk, .dp, .tmg, .rst, .low] s0 s6 := by
    unfold s6
    refine Same.comp (same_putPipe _ _ _) (by decide) ?_
    refine Same.comp (same_putRecirc _ _ _) (by decide) ?_
    refine Same.comp (same_putHostFifo _ _ _) (by decide) ?_
    exact h5
  clear_value s6
  refine Same.foldl (fun _ _ h8 => ?_) ?_
  · refine same_abortTx_h (by decide) (fun _ _ h9 => ?_) ?_
    · refine Same.comp (same_bump _ _ _) (by decide) ?_
      exact h9
    refine Same.comp (same_dropPortQueues _ _ _ _) (by decide) ?_
    refine Same.comp (same_putIngress _ _ _) (by decide) ?_
    exact h8
  exact h7

theorem same_modeChange (s0 : State) : Same [.regs, .glb, .tal, .gbk] s0 (modeChange s0) := by
  unfold modeChange
  extract_lets +onlyGivenNames -merge -underBinder v1 v2
  clear_value v1
  refine Same.ite ?_ ?_
  · exact Same.refl _ _
  · refine Same.comp (same_raise _ _ _ _ _) (by decide) ?_
    refine Same.comp (same_setInt_top _ _ _ (Or.inr (by decide))) (by decide) ?_
    refine Same.set_glb (by decide) (Or.inr rfl) (Or.inr rfl) ?_
    exact Same.refl _ _

theorem same_writeTimCtl (x0 : Nat) (s0 : State) : Same [.regs, .tal, .gbk, .tim, .phs] s0 (writeTimCtl x0 s0) := by
  unfold writeTimCtl
  refine Same.comp (same_timCtlChanged _ _) (by decide) ?_
  refine Same.comp (same_rput_top _ _ _ (Or.inl (by decide))) (by decide) ?_
  exact Same.refl _ _

theorem same_harvestReset (s0 : State) : Same [.regs, .tal, .gbk] s0 (harvestReset s0) := by
  unfold harvestReset
  refine Same.ite ?_ ?_
  · refine Same.comp (same_talEvent _ _) (by decide) ?_
    refine Same.comp (same_harvestAbort _) (by decide) ?_
    exact Same.refl _ _
  · exact Same.refl _ _

theorem same_qspiStart (x0 : Nat) (s0 : State) : Same [.regs, .tal, .gbk, .pin, .mid] s0 (qspiStart x0 s0) := by
  unfold qspiStart
  extract_lets +onlyGivenNames -merge -underBinder s1 v3
  have h2 : Same [.regs, .tal, .gbk, .pin, .mid] s0 s1 := by
    unfold s1
    refine Same.comp (same_fput_top _ _ _ (Or.inl (by decide))) (by decide) ?_
    exact Same.refl _ _
  clear_value s1
  clear_value v3
  refine Same.ite ?_ ?_
  · refine Same.comp (same_lockedWrite _ _) (by decide) ?_
    refine Same.comp (same_fput_top _ _ _ (Or.inl (by decide))) (by decide) ?_
    exact Same.refl _ _
  · refine Same.ite ?_ ?_
    · refine Same.comp (same_qspiEnd _ _) (by decide) ?_
      exact h2
    · refine Same.ite ?_ ?_
      · refine Same.comp (same_qspiEnd _ _) (by decide) ?_
        exact h2
      · refine Same.comp (same_fput_top _ _ _ (Or.inl (by decide))) (by decide) ?_
        refine Same.set_pin (by decide) ?_
        exact h2

theorem same_freeSegs (x0 : TxDesc) (s0 : State) : Same [.regs, .tal, .gbk, .por] s0 (freeSegs x0 s0) := by
  unfold freeSegs
  refine Same.foldl (fun _ _ h1 => ?_) ?_
  · refine Same.comp (same_freeRoom _ _ _) (by decide) ?_
    refine Same.comp (same_usePool _ _ _) (by decide) ?_
    exact h1
  exact Same.refl _ _

theorem same_harvestRefuse (x0 : Nat) (s0 : State) : Same [.regs, .tal, .gbk] s0 (harvestRefuse x0 s0) := by
  unfold harvestRefuse
  refine Same.comp (same_talEvent _ _) (by decide) ?_
  refine Same.comp (same_setInt_top _ _ _ (Or.inl (by decide))) (by decide) ?_
  refine Same.comp (same_fput_top _ _ _ (Or.inl (by decide))) (by decide) ?_
  exact Same.refl _ _

theorem same_streamPass (x0 : Nat) (x1 : Frame) (x2 : Pass) (s0 : State) : Same [.regs, .tal, .gbk, .tab] s0 (streamPass x0 x1 x2 s0).2 := by
  unfold streamPass
  extract_lets +onlyGivenNames -merge -underBinder v1 v2 v3 s4
  clear_value v1
  clear_value v2
  clear_value v3
  have h5 : Same [.regs, .tal, .gbk, .tab] s0 s4 := by
    unfold s4
    refine Same.comp (same_bumpN _ _ _ _) (by decide) ?_
    refine Same.comp (same_bump _ _ _) (by decide) ?_
    exact Same.refl _ _
  clear_value s4
  refine Same.ite2 ?_ ?_
  · exact Same.refl _ _
  · refine Same.ite2 ?_ ?_
    · exact Same.refl _ _
    · refine Same.ite2 ?_ ?_
      · split
        rename_i a6 a7 s8 e10
        have h9 : Same [.regs, .tal, .gbk, .tab] s0 s8 := by
          refine Same.of3 e10 ?_
          refine Same.comp (same_streamUpdate _ _ _ _) (by decide) ?_
          exact h5
        exact h9
      · exact h5

theorem same_outvote (x0 : Nat) (x1 : Nat) (s0 : State) : Same [.regs, .tal, .gbk, .hlt] s0 (outvote x0 x1 s0) := by
  unfold outvote
  extract_lets +onlyGivenNames -merge -underBinder s1 v3 v4 s5 v7
  have h2 : Same [.regs, .tal, .gbk, .hlt] s0 s1 := by
    unfold s1
    refine Same.comp (same_healthInt _ _ _) (by decide) ?_
    refine Same.comp (same_healthCtr _ _ _) (by decide) ?_
    exact Same.refl _ _
  clear_value s1
  clear_value v3
  clear_value v4
  have h6 : Same [.regs, .tal, .gbk, .hlt] s0 s5 := by
    unfold s5
    refine Same.set_hlt (by decide) ?_
    exact h2
  clear_value s5
  clear_value v7
  refine Same.ite ?_ ?_
  · refine Same.comp (same_fence _ _ _) (by decide) ?_
    refine Same.set_hlt (by decide) ?_
    exact h6
  · exact h6

theorem same_onHelloAck (x0 : Nat) (x1 : Frame) (s0 : State) : Same [.regs, .tal, .gbk, .fab] s0 (onHelloAck x0 x1 s0) := by
  unfold onHelloAck
  extract_lets +onlyGivenNames -merge -underBinder v1 s2 s4
  clear_value v1
  have h3 : Same [.regs, .tal, .gbk, .fab] s0 s2 := by
    unfold s2
    refine Same.comp (same_putFabPort _ _ _) (by decide) ?_
    exact Same.refl _ _
  clear_value s2
  have h5 : Same [.regs, .tal, .gbk, .fab] s0 s4 := by
    unfold s4
    refine Same.comp (same_fput_top _ _ _ (Or.inl (by simp only [F.FAB_PORT_STATUS_NEIGHBOUR_LINK]; omega))) (by decide) ?_
    refine Same.comp (same_fput_top _ _ _ (Or.inl (by simp only [F.FAB_PORT_STATUS_NEIGHBOUR_ID]; omega))) (by decide) ?_
    refine Same.comp (same_fput_top _ _ _ (Or.inl (by simp only [F.FAB_PORT_STATUS_STATE]; omega))) (by decide) ?_
    exact h3
  clear_value s4
  refine Same.ite ?_ ?_
  · refine Same.comp (same_chooseUp _) (by decide) ?_
    refine Same.comp (same_raise _ _ _ _ _) (by decide) ?_
    refine Same.comp (same_setInt_top _ _ _ (Or.inl (by decide))) (by decide) ?_
    exact h5
  · exact Same.refl _ _

theorem same_sendMpacket (x0 : Nat) (s0 : State) : Same [.regs, .tal, .gbk, .prt, .dp, .mid] s0 (sendMpacket x0 s0) := by
  unfold sendMpacket
  extract_lets +onlyGivenNames -merge -underBinder v1 v2 s3
  clear_value v1
  clear_value v2
  have h4 : Same [.regs, .tal, .gbk, .prt, .dp, .mid] s0 s3 := by
    unfold s3
    refine Same.comp (same_putTx _ _ _) (by decide) ?_
    refine Same.comp (same_putPort _ _ _) (by decide) ?_
    exact Same.refl _ _
  clear_value s3
  refine Same.ite ?_ ?_
  · refine Same.ite ?_ ?_
    · refine Same.comp (same_verifyTaken _ _) (by decide) ?_
      exact h4
    · refine Same.comp (same_respondTaken _ _) (by decide) ?_
      exact h4
  · exact h4

theorem same_errHalt (x0 : Nat) (x1 : Nat) (s0 : State) : Same [.regs, .tal, .gbk] s0 (errHalt x0 x1 s0) := by
  unfold errHalt
  refine Same.comp (same_haltChan _ _ _ _) (by decide) ?_
  exact Same.refl _ _

theorem same_refuse (x0 : Copy) (x1 : Nat) (x2 : Nat) (s0 : State) : Same [.regs, .tal, .gbk] s0 (refuse x0 x1 x2 s0) := by
  unfold refuse
  split
  · refine Same.comp (same_mirrorDrop _ _) (by decide) ?_
    exact Same.refl _ _
  · refine Same.comp (same_bump _ _ _) (by decide) ?_
    exact Same.refl _ _

theorem same_abandonRooms (x0 : Nat) (x1 : Nat) (x2 : Nat) (x3 : List Nat) (s0 : State) : Same [.regs, .tal, .gbk, .por] s0 (abandonRooms x0 x1 x2 x3 s0) := by
  unfold abandonRooms
  extract_lets +onlyGivenNames -merge -underBinder s1
  have h2 : Same [.regs, .tal, .gbk, .por] s0 s1 := by
    unfold s1
    refine Same.comp (same_releaseRooms _ _ _) (by decide) ?_
    refine Same.ite ?_ ?_
    · refine Same.comp (same_usePool _ _ _) (by decide) ?_
      exact Same.refl _ _
    · exact Same.refl _ _
  clear_value s1
  refine Same.comp (same_raise _ _ _ _ _) (by decide) ?_
  refine Same.comp (same_setInt_top _ _ _ (Or.inl (by decide))) (by decide) ?_
  refine Same.comp (same_bump _ _ _) (by decide) ?_
  exact h2

theorem same_writeGbk (x0 : Nat) (x1 : Nat) (s0 : State) : Same [.regs, .glb, .tal, .gbk, .low, .mid] s0 (writeGbk x0 x1 s0) := by
  unfold writeGbk
  refine Same.ite ?_ ?_
  · refine Same.comp (same_lockedWrite _ _) (by decide) ?_
    exact Same.refl _ _
  · refine Same.ite ?_ ?_
    · refine Same.ite ?_ ?_
      · refine Same.comp (same_gbkClearOp _) (by decide) ?_
        exact Same.refl _ _
      · refine Same.ite ?_ ?_
        · refine Same.comp (same_gbkClearAllOp _) (by decide) ?_
          exact Same.refl _ _
        · exact Same.refl _ _
    · refine Same.ite ?_ ?_
      · refine Same.comp (same_gbkRetune _ _ _ _) (by decide) ?_
        exact Same.refl _ _
      · refine Same.ite ?_ ?_
        · refine Same.comp (same_gbkRetune _ _ _ _) (by decide) ?_
          exact Same.refl _ _
        · refine Same.ite ?_ ?_
          · refine Same.comp (same_captureRecord _ _) (by decide) ?_
            exact Same.refl _ _
          · refine Same.ite ?_ ?_
            · refine Same.comp (same_writeSpillCtl _ _) (by decide) ?_
              exact Same.refl _ _
            · refine Same.ite ?_ ?_
              · refine Same.comp (same_lockedWrite _ _) (by decide) ?_
                exact Same.refl _ _
              · refine Same.comp (same_writeRw _ _ _) (by decide) ?_
                exact Same.refl _ _

theorem same_applyRecord (x0 : List Byte) (s0 : State) : Same [.regs, .tal, .gbk, .por] s0 (applyRecord x0 s0) := by
  unfold applyRecord
  extract_lets +onlyGivenNames -merge -underBinder v1 v2 s3
  clear_value v1
  clear_value v2
  have h4 : Same [.regs, .tal, .gbk, .por] s0 s3 := by
    unfold s3
    refine Same.ite ?_ ?_
    · refine Same.comp (same_shareRoom _ _ _ _) (by decide) ?_
      exact Same.refl _ _
    · refine Same.comp (same_freeRoom _ _ _) (by decide) ?_
      exact Same.refl _ _
  clear_value s3
  refine Same.comp (same_rput_top _ _ _ (Or.inl (by decide))) (by decide) ?_
  exact h4

theorem same_mirrorCopy (x0 : Nat) (x1 : Copy) (s0 : State) : Same [.regs, .tal, .gbk, .tmg] s0 (mirrorCopy x0 x1 s0).2 := by
  unfold mirrorCopy
  extract_lets +onlyGivenNames -merge -underBinder v1
  clear_value v1
  refine Same.ite2 ?_ ?_
  · exact Same.refl _ _
  · split
    rename_i a2 s3 e5
    have h4 : Same [.regs, .tal, .gbk, .tmg] s0 s3 := by
      refine Same.of2 e5 ?_
      refine Same.comp (same_mirrorTake _ _) (by decide) ?_
      exact Same.refl _ _
    extract_lets +onlyGivenNames -merge -underBinder v6 v7
    clear_value v6
    clear_value v7
    refine Same.ite2 ?_ ?_
    · exact h4
    · refine Same.ite2 ?_ ?_
      · exact h4
      · refine Same.ite2 ?_ ?_
        · refine Same.comp (same_mirrorDrop _ _) (by decide) ?_
          exact h4
        · exact h4

theorem same_mbxComplete (x0 : Bool) (s0 : State) : Same [.regs, .hif, .tal, .gbk, .free, .mid] s0 (mbxComplete x0 s0) := by
  unfold mbxComplete
  refine Same.ite ?_ ?_
  · exact Same.refl _ _
  · split
    · extract_lets +onlyGivenNames -merge -underBinder v1
      clear_value v1
      refine Same.comp (same_mbxRun _ _ _ _ _) (by decide) ?_
      refine Same.set_hif (by decide) ?_
      exact Same.refl _ _
    · split
      · split
        rename_i a2 a3 s4 e6
        have h5 : Same [.regs, .hif, .tal, .gbk, .free, .mid] s0 s4 := by
          refine Same.of3 e6 ?_
          refine Same.comp (same_mbxRun _ _ _ _ _) (by decide) ?_
          exact Same.refl _ _
        refine Same.comp (same_mbxEnd _ _ _ _) (by decide) ?_
        exact h5
      · exact Same.refl _ _

theorem same_setBase (x0 : Nat) (s0 : State) : Same [.regs, .glb, .tal, .gbk, .base] s0 (setBase x0 s0) := by
  unfold setBase
  extract_lets +onlyGivenNames -merge -underBinder v1
  refine Same.comp (same_modeChange _) (by decide) ?_
  refine Same.set_glb (by decide) (Or.inl (by decide)) (Or.inr rfl) ?_
  exact Same.refl _ _

theorem same_dropUnderway (x0 : Nat → Bool) (s0 : State) : Same [.regs, .tal, .gbk, .por, .dry, .dp, .tmg] s0 (dropUnderway x0 s0) := by
  unfold dropUnderway
  extract_lets +onlyGivenNames -merge -underBinder s1
  have h2 : Same [.regs, .tal, .gbk, .por, .dry, .dp, .tmg] s0 s1 := by
    unfold s1
    refine Same.comp (same_dropSending _ _) (by decide) ?_
    exact Same.refl _ _
  clear_value s1
  refine Same.foldl (fun _ _ h3 => ?_) ?_
  · split
    · extract_lets +onlyGivenNames -merge -underBinder v4
      clear_value v4
      refine Same.ite ?_ ?_
      · refine Same.comp (same_releaseRooms _ _ _) (by decide) ?_
        refine Same.comp (same_putRx _ _ _) (by decide) ?_
        exact h3
      · exact h3
    · exact h3
  exact h2

theorem same_errStep_h {T : List Part} {s x : State} {x0 x1 : Nat} {x2 : List Nat → State → State} (m : [Part.regs, Part.tal, Part.gbk].all (fun p => T.contains p) = true)
    (k : ∀ l y, Same T s y → Same T s (x2 l y)) (h : Same T s x) : Same T s (errStep x0 x1 x2 x) := by
  unfold errStep
  refine Same.ite h ?_
  extract_lets +onlyGivenNames -merge -underBinder v0
  clear_value v0
  refine Same.ite (Same.comp (same_errHalt _ _ _) (Same.all_sub m (by decide)) h) ?_
  exact Same.ite (k _ _ h) h

theorem same_taArm (x0 : Nat) (s0 : State) : Same [.regs, .tal, .gbk, .phs] s0 (taArm x0 s0) := by
  unfold taArm
  extract_lets +onlyGivenNames -merge -underBinder s1
  have h2 : Same [.regs, .tal, .gbk, .phs] s0 s1 := by
    unfold s1
    refine Same.comp (same_fput_top _ _ _ (Or.inl (by simp only [F.PHS_TA_CTL_ARM]; omega))) (by decide) ?_
    exact Same.refl _ _
  clear_value s1
  refine Same.ite ?_ ?_
  · refine Same.comp (same_taLate _ _ _) (by decide) ?_
    exact h2
  · exact h2

theorem same_porApply (x0 : Nat) (x1 : Nat) (x2 : Nat) (s0 : State) : Same [.regs, .tal, .gbk, .por] s0 (porApply x0 x1 x2 s0).2 := by
  unfold porApply
  extract_lets +onlyGivenNames -merge -underBinder v1 v2
  clear_value v1
  clear_value v2
  refine Same.ite2 ?_ ?_
  · exact Same.refl _ _
  · refine Same.ite2 ?_ ?_
    · refine Same.ite2 ?_ ?_
      · exact Same.refl _ _
      · split
        rename_i a3 a4 s5 e7
        have h6 : Same [.regs, .tal, .gbk, .por] s0 s5 := by
          refine Same.of3 e7 ?_
          refine Same.comp (same_allocRoom _ _ _ _) (by decide) ?_
          exact Same.refl _ _
        refine Same.ite ?_ ?_
        · refine Same.comp (same_rput_top _ _ _ (Or.inl (by decide))) (by decide) ?_
          exact h6
        · exact h6
    · refine Same.ite2 ?_ ?_
      · refine Same.comp (same_freeRoom _ _ _) (by decide) ?_
        exact Same.refl _ _
      · refine Same.ite2 ?_ ?_
        · split
          rename_i a8 s9 e11
          have h10 : Same [.regs, .tal, .gbk, .por] s0 s9 := by
            refine Same.of2 e11 ?_
            refine Same.comp (same_shareRoom _ _ _ _) (by decide) ?_
            exact Same.refl _ _
          refine Same.ite ?_ ?_
          · refine Same.comp (same_rput_top _ _ _ (Or.inl (by decide))) (by decide) ?_
            exact h10
          · exact h10
        · refine Same.ite2 ?_ ?_
          · refine Same.ite2 ?_ ?_
            · refine Same.comp (same_rput_top _ _ _ (Or.inl (by decide))) (by decide) ?_
              exact Same.refl _ _
            · refine Same.comp (same_badHandle _ _ _) (by decide) ?_
              exact Same.refl _ _
          · exact Same.refl _ _

theorem same_loadTiming (x0 : Forging) (s0 : State) : Same [.regs, .tal, .gbk, .tim, .phs, .low, .mid] s0 (loadTiming x0 s0) := by
  unfold loadTiming
  extract_lets +onlyGivenNames -merge -underBinder v1 s2
  clear_value v1
  have h3 : Same [.regs, .tal, .gbk, .tim, .phs, .low, .mid] s0 s2 := by
    unfold s2
    refine Same.comp (same_timCtlChanged _ _) (by decide) ?_
    refine Same.comp (same_loadRegs _ _ _) (by decide) ?_
    refine Same.set_phs (by decide) ?_
    exact Same.refl _ _
  clear_value s2
  refine Same.ite ?_ ?_
  · refine Same.comp (same_chooseSource _) (by decide) ?_
    refine Same.comp (same_setRate _ _) (by decide) ?_
    exact h3
  · exact h3

theorem same_completeDesc (x0 : Nat) (x1 : TxDesc) (s0 : State) : Same [.regs, .mem, .tal, .gbk, .por] s0 (completeDesc x0 x1 s0) := by
  unfold completeDesc
  extract_lets +onlyGivenNames -merge -underBinder v1 s2
  clear_value v1
  have h3 : Same [.regs, .mem, .tal, .gbk, .por] s0 s2 := by
    unfold s2
    refine Same.comp (same_takeDone _ _ _ _) (by decide) ?_
    refine Same.comp (same_memWrite _ _ _) (by decide) ?_
    refine Same.comp (same_freeSegs _ _) (by decide) ?_
    exact Same.refl _ _
  clear_value s2
  refine Same.ite ?_ ?_
  · refine Same.comp (same_chanInt _ _ _) (by decide) ?_
    exact h3
  · exact h3

theorem same_judgeFar (s0 : State) : Same [.regs, .tal, .gbk, .phs] s0 (judgeFar s0) := by
  unfold judgeFar
  refine Same.comp (same_chooseSource _) (by decide) ?_
  refine Same.comp (same_noteError _ _ _) (by decide) ?_
  refine Same.comp (same_noteError _ _ _) (by decide) ?_
  exact Same.refl _ _

theorem same_respondReceived (x0 : Nat) (s0 : State) : Same [.regs, .tal, .gbk, .mid] s0 (respondReceived x0 s0) := by
  unfold respondReceived
  refine Same.ite ?_ ?_
  · refine Same.comp (same_respondTaken _ _) (by decide) ?_
    exact Same.refl _ _
  · exact Same.refl _ _

theorem same_fabDown (x0 : Nat) (s0 : State) : Same [.regs, .tal, .gbk, .fab] s0 (fabDown x0 s0) := by
  unfold fabDown
  extract_lets +onlyGivenNames -merge -underBinder v1 v2 s3 s5 s7
  clear_value v1
  clear_value v2
  have h4 : Same [.regs, .tal, .gbk, .fab] s0 s3 := by
    unfold s3
    refine Same.comp (same_putFabPort _ _ _) (by decide) ?_
    exact Same.refl _ _
  clear_value s3
  have h6 : Same [.regs, .tal, .gbk, .fab] s0 s5 := by
    unfold s5
    refine Same.comp (same_fput_top _ _ _ (Or.inl (by simp only [F.FAB_PORT_STATUS_STATE]; omega))) (by decide) ?_
    exact h4
  clear_value s5
  have h8 : Same [.regs, .tal, .gbk, .fab] s0 s7 := by
    unfold s7
    refine Same.ite ?_ ?_
    · refine Same.comp (same_raise _ _ _ _ _) (by decide) ?_
      refine Same.comp (same_setInt_top _ _ _ (Or.inl (by decide))) (by decide) ?_
      exact h6
    · exact h6
  clear_value s7
  refine Same.comp (same_chooseUp _) (by decide) ?_
  exact h8

theorem same_resolveGate (x0 : Nat) (x1 : Nat) (s0 : State) : Same [.regs, .tal, .gbk, .ldg] s0 (resolveGate x0 x1 s0) := by
  unfold resolveGate
  extract_lets +onlyGivenNames -merge -underBinder v1 v2
  clear_value v1
  clear_value v2
  refine Same.ite ?_ ?_
  · exact Same.refl _ _
  · refine Same.ite ?_ ?_
    · split
      · extract_lets +onlyGivenNames -merge -underBinder s3
        have h4 : Same [.regs, .tal, .gbk, .ldg] s0 s3 := by
          unfold s3
          refine Same.comp (same_putGate _ _ _ _) (by decide) ?_
          exact Same.refl _ _
        clear_value s3
        refine Same.ite ?_ ?_
        · refine Same.comp (same_lateStart _ _ _) (by decide) ?_
          exact h4
        · exact h4
    · refine Same.comp (same_putGate _ _ _ _) (by decide) ?_
      exact Same.refl _ _

theorem same_returnRecord (s0 : State) : Same [.regs, .tal, .gbk, .por, .dry] s0 (returnRecord s0) := by
  unfold returnRecord
  extract_lets +onlyGivenNames -merge -underBinder v1 s2
  clear_value v1
  have h3 : Same [.regs, .tal, .gbk, .por, .dry] s0 s2 := by
    unfold s2
    refine Same.ite ?_ ?_
    · refine Same.comp (same_readTaken _ _) (by decide) ?_
      refine Same.set_por (by decide) ?_
      exact Same.refl _ _
    · exact Same.refl _ _
  clear_value s2
  refine Same.ite ?_ ?_
  · exact Same.refl _ _
  · refine Same.ite ?_ ?_
    · exact Same.refl _ _
    · split
      · exact h3
      · extract_lets +onlyGivenNames -merge -underBinder v4 v5
        clear_value v4
        clear_value v5
        refine Same.ite ?_ ?_
        · refine Same.comp (same_applyRecord _ _) (by decide) ?_
          refine Same.comp (same_usePool _ _ _) (by decide) ?_
          refine Same.set_por (by decide) ?_
          exact h3
        · exact h3

theorem same_overrun (x0 : Fld) (x1 : Nat) (s0 : State) : Same [.regs, .tal, .gbk, .low, .mid] s0 (overrun x0 x1 s0) := by
  unfold overrun
  refine Same.comp (same_lockedWrite _ _) (by decide) ?_
  refine Same.comp (same_fput _ _ _) (by decide) ?_
  exact Same.refl _ _

theorem same_spoilAllocation (x0 : Nat) (s0 : State) : Same [.regs, .tal, .gbk, .por, .dry, .dp] s0 (spoilAllocation x0 s0) := by
  unfold spoilAllocation
  split
  · split
    · refine Same.comp (same_freeCells _) (by decide) ?_
      refine Same.comp (same_starve _ _ _) (by decide) ?_
      refine Same.comp (same_abandonRooms _ _ _ _ _) (by decide) ?_
      refine Same.comp (same_putRx _ _ _) (by decide) ?_
      exact Same.refl _ _
    · exact Same.refl _ _
  · exact Same.refl _ _

theorem same_abandonWorks (s0 : State) : Same [.regs, .tal, .gbk, .por] s0 (abandonWorks s0) := by
  unfold abandonWorks
  refine Same.foldl (fun _ _ h1 => ?_) ?_
  · split
    · refine Same.comp (same_abandonRooms _ _ _ _ _) (by decide) ?_
      exact h1
    · exact h1
  exact Same.refl _ _

theorem same_writeFabSelf (x0 : Nat) (s0 : State) : Same [.regs, .tal, .gbk, .fab, .mid] s0 (writeFabSelf x0 s0) := by
  unfold writeFabSelf
  extract_lets +onlyGivenNames -merge -underBinder v1 v2
  clear_value v1
  clear_value v2
  refine Same.ite ?_ ?_
  · refine Same.comp (same_writeRw_top _ _ _ (Or.inl (by decide))) (by decide) ?_
    exact Same.refl _ _
  · refine Same.ite ?_ ?_
    · refine Same.comp (same_fput_top _ _ _ (Or.inl (by decide))) (by decide) ?_
      refine Same.set_fab (by decide) ?_
      exact Same.refl _ _
    · refine Same.comp (same_lockedWrite _ _) (by decide) ?_
      exact Same.refl _ _

theorem same_mdioStart (x0 : Nat) (x1 : Nat) (x2 : Nat) (x3 : Nat) (s0 : State) : Same [.regs, .tal, .gbk, .pin, .mid] s0 (mdioStart x0 x1 x2 x3 s0) := by
  unfold mdioStart
  extract_lets +onlyGivenNames -merge -underBinder v1
  clear_value v1
  refine Same.ite ?_ ?_
  · refine Same.comp (same_lockedWrite _ _) (by decide) ?_
    refine Same.comp (same_fput_top _ _ _ (Or.inl (by decide))) (by decide) ?_
    exact Same.refl _ _
  · refine Same.comp (same_fput_top _ _ _ (Or.inl (by decide))) (by decide) ?_
    refine Same.comp (same_fput_top _ _ _ (Or.inl (by decide))) (by decide) ?_
    refine Same.set_pin (by decide) ?_
    exact Same.refl _ _

theorem same_stage210 (x0 : Nat) (x1 : Frame) (x2 : Pass) (s0 : State) : Same [.regs, .tal, .gbk, .tab] s0 (stage210 x0 x1 x2 s0).2 := by
  unfold stage210
  extract_lets +onlyGivenNames -merge -underBinder v1 v2 s3
  clear_value v1
  clear_value v2
  have h4 : Same [.regs, .tal, .gbk, .tab] s0 s3 := by
    unfold s3
    exact Same.refl _ _
  clear_value s3
  split
  rename_i a5 s6 e8
  have h7 : Same [.regs, .tal, .gbk, .tab] s0 s6 := by
    refine Same.of2 e8 ?_
    refine Same.comp (same_emLookups _ _ _ _ _ _ _ _) (by decide) ?_
    exact Same.refl _ _
  extract_lets +onlyGivenNames -merge -underBinder v9 v10 s11
  clear_value v9
  clear_value v10
  have h12 : Same [.regs, .tal, .gbk, .tab] s0 s11 := by
    unfold s11
    refine Same.ite ?_ ?_
    · refine Same.comp (same_parseCtr _ _ _) (by decide) ?_
      exact h7
    · exact h7
  clear_value s11
  split
  rename_i a13 s14 e16
  have h15 : Same [.regs, .tal, .gbk, .tab] s0 s14 := by
    refine Same.of2 e16 ?_
    refine Same.comp (same_ferryPass _ _ _ _ _) (by decide) ?_
    exact h12
  extract_lets +onlyGivenNames -merge -underBinder v17 v18
  clear_value v17
  clear_value v18
  split
  rename_i a19 s20 e22
  have h21 : Same [.regs, .tal, .gbk, .tab] s0 s20 := by
    refine Same.of2 e22 ?_
    split
    · refine Same.ite2 ?_ ?_
      · refine Same.comp (same_fdbLookup _ _ _ _) (by decide) ?_
        exact h15
      · exact h15
    · exact h15
  split
  rename_i a23 s24 e26
  have h25 : Same [.regs, .tal, .gbk, .tab] s0 s24 := by
    refine Same.of2 e26 ?_
    refine Same.comp (same_streamPass _ _ _ _) (by decide) ?_
    exact h21
  extract_lets +onlyGivenNames -merge -underBinder v27
  clear_value v27
  refine Same.comp (same_replPass _ _ _) (by decide) ?_
  exact h25

theorem same_stepDownOp (s0 : State) : Same [.regs, .tal, .gbk, .fab] s0 (stepDownOp s0) := by
  unfold stepDownOp
  refine Same.ite ?_ ?_
  · refine Same.comp (same_fput_top _ _ _ (Or.inl (by decide))) (by decide) ?_
    exact Same.refl _ _
  · refine Same.ite ?_ ?_
    · refine Same.comp (same_fput_top _ _ _ (Or.inl (by decide))) (by decide) ?_
      exact Same.refl _ _
    · refine Same.comp (same_stepDownNow _) (by decide) ?_
      refine Same.comp (same_fput_top _ _ _ (Or.inl (by decide))) (by decide) ?_
      exact Same.refl _ _

theorem same_writeTm (x0 : Nat) (x1 : Nat) (s0 : State) : Same [.regs, .glb, .tal, .gbk, .tmg, .low, .mid] s0 (writeTm x0 x1 s0) := by
  unfold writeTm
  extract_lets +onlyGivenNames -merge -underBinder v1 v2 v3
  clear_value v1
  clear_value v2
  clear_value v3
  refine Same.ite ?_ ?_
  · refine Same.comp (same_writeMirror _ _ _) (by decide) ?_
    exact Same.refl _ _
  · refine Same.ite ?_ ?_
    · refine Same.comp (same_writeRw _ _ _) (by decide) ?_
      exact Same.refl _ _
    · refine Same.ite ?_ ?_
      · refine Same.comp (same_writeRegion _ _ _) (by decide) ?_
        exact Same.refl _ _
      · refine Same.ite ?_ ?_
        · refine Same.comp (same_writeRw _ _ _) (by decide) ?_
          exact Same.refl _ _
        · refine Same.ite ?_ ?_
          · refine Same.comp (same_writeRegion _ _ _) (by decide) ?_
            exact Same.refl _ _
          · refine Same.ite ?_ ?_
            · refine Same.comp (same_writeShaper _ _ _ _) (by decide) ?_
              exact Same.refl _ _
            · refine Same.ite ?_ ?_
              · refine Same.comp (same_writeShaper _ _ _ _) (by decide) ?_
                exact Same.refl _ _
              · refine Same.ite ?_ ?_
                · refine Same.comp (same_writeRw _ _ _) (by decide) ?_
                  exact Same.refl _ _
                · refine Same.ite ?_ ?_
                  · refine Same.comp (same_writeRegion _ _ _) (by decide) ?_
                    exact Same.refl _ _
                  · refine Same.ite ?_ ?_
                    · refine Same.comp (same_writeShaper _ _ _ _) (by decide) ?_
                      exact Same.refl _ _
                    · refine Same.ite ?_ ?_
                      · refine Same.comp (same_writeShaper _ _ _ _) (by decide) ?_
                        exact Same.refl _ _
                      · refine Same.comp (same_writeRw _ _ _) (by decide) ?_
                        exact Same.refl _ _

theorem same_copyHandover (x0 : Nat) (s0 : State) : Same [.regs, .tal, .gbk, .por, .dry, .dp, .tab, .tmg] s0 (copyHandover x0 s0) := by
  unfold copyHandover
  refine Same.ite ?_ ?_
  · refine Same.comp (same_freeCells _) (by decide) ?_
    refine Same.comp (same_disabledDrop _ _) (by decide) ?_
    exact Same.refl _ _
  · refine Same.ite ?_ ?_
    · exact Same.refl _ _
    · split
      · exact Same.refl _ _
      · extract_lets +onlyGivenNames -merge -underBinder v1
        clear_value v1
        refine Same.ite ?_ ?_
        · refine Same.comp (same_freeCells _) (by decide) ?_
          refine Same.comp (same_bump _ _ _) (by decide) ?_
          refine Same.comp (same_handOver _ _ _ _) (by decide) ?_
          exact Same.refl _ _
        · split
          · refine Same.comp (same_freeCells _) (by decide) ?_
            refine Same.comp (same_starve _ _ _) (by decide) ?_
            refine Same.comp (same_abandonRooms _ _ _ _ _) (by decide) ?_
            refine Same.comp (same_setInt_top _ _ _ (Or.inl (by decide))) (by decide) ?_
            refine Same.comp (same_handOver _ _ _ _) (by decide) ?_
            exact Same.refl _ _
          · extract_lets +onlyGivenNames -merge -underBinder v2
            clear_value v2
            refine Same.ite ?_ ?_
            · refine Same.comp (same_putRx _ _ _) (by decide) ?_
              refine Same.comp (same_handOver _ _ _ _) (by decide) ?_
              exact Same.refl _ _
            · exact Same.refl _ _

theorem same_flushOld (s0 : State) : Same [.regs, .frg, .tal, .gbk, .fab, .por, .dry, .dp, .tmg, .act, .low] s0 (flushOld s0) := by
  unfold flushOld
  extract_lets +onlyGivenNames -merge -underBinder v1 v2 s3 s6 v8 v9 s10 s12 v14 s15 s17
  clear_value v1
  clear_value v2
  have h4 : Same [.regs, .frg, .tal, .gbk, .fab, .por, .dry, .dp, .tmg, .act, .low] s0 s3 := by
    unfold s3
    refine same_dropEverywhere_h (by decide) (fun _ _ _ h5 => ?_) ?_
    · exact h5
    exact Same.refl _ _
  clear_value s3
  have h7 : Same [.regs, .frg, .tal, .gbk, .fab, .por, .dry, .dp, .tmg, .act, .low] s0 s6 := by
    unfold s6
    refine Same.comp (same_dropUnderway _ _) (by decide) ?_
    exact h4
  clear_value s6
  clear_value v8
  clear_value v9
  have h11 : Same [.regs, .frg, .tal, .gbk, .fab, .por, .dry, .dp, .tmg, .act, .low] s0 s10 := by
    unfold s10
    exact Same.upd (h7) rfl (fun p n => by cases p <;> first | exact absurd (by decide) n | rfl)
  clear_value s10
  have h13 : Same [.regs, .frg, .tal, .gbk, .fab, .por, .dry, .dp, .tmg, .act, .low] s0 s12 := by
    unfold s12
    refine Same.comp (same_freeCells _) (by decide) ?_
    exact h11
  clear_value s12
  clear_value v14
  have h16 : Same [.regs, .frg, .tal, .gbk, .fab, .por, .dry, .dp, .tmg, .act, .low] s0 s15 := by
    unfold s15
    refine Same.set_dp (by decide) ?_
    exact h13
  clear_value s15
  have h18 : Same [.regs, .frg, .tal, .gbk, .fab, .por, .dry, .dp, .tmg, .act, .low] s0 s17 := by
    unfold s17
    refine Same.comp (same_raise _ _ _ _ _) (by decide) ?_
    refine Same.comp (same_faddSat_lo _ _ _ (by decide)) (by decide) ?_
    exact h16
  clear_value s17
  refine Same.comp (same_releaseOld _) (by decide) ?_
  exact h18

theorem same_settle (s0 : State) : Same [.regs, .glb, .hif, .tal, .gbk, .hlt] s0 (settle s0) := by
  have k : Same [.regs, .glb, .hif, .tal, .gbk, .hlt, .low, .mid] s0 (settle s0) := by
    unfold settle
    exact Same.comp (same_deliver _) (by decide) (Same.comp (same_alertPin _) (by decide)
      (Same.comp (same_modeChange _) (by decide) (Same.comp (same_driveOutputs _) (by decide) (Same.refl _ _))))
  have e : lowOf (settle s0) = lowOf s0 := by
    funext a
    unfold lowOf
    split
    · rename_i h
      exact (settledFrom_settle s0).reg a (fun m => h.2 (List.mem_append_left _ m))
    · rfl
  have e2 : midOf (settle s0) = midOf s0 := by
    funext a
    unfold midOf
    split
    · rename_i h
      refine (settledFrom_settle s0).reg a (fun m => ?_)
      have := followRegs_low (List.mem_append_left _ m)
      omega
    · rfl
  exact ⟨fun p n => by cases p <;> first | exact absurd (by decide) n | exact e | exact e2 | exact k.part _ (by decide), k.wf⟩

theorem same_postDescriptors (x0 : DataChan) (x1 : Nat) (s0 : State) : Same [.regs, .tal, .gbk, .low, .mid] s0 (postDescriptors x0 x1 s0) := by
  unfold postDescriptors
  extract_lets +onlyGivenNames -merge -underBinder v1
  clear_value v1
  refine Same.ite ?_ ?_
  · refine Same.comp (same_lockedWrite _ _) (by decide) ?_
    exact Same.refl _ _
  · refine Same.comp (same_rput _ _ _) (by decide) ?_
    exact Same.refl _ _

theorem same_mbxDoorbell (x0 : Nat) (x1 : Nat) (x2 : Nat) (s0 : State) : Same [.regs, .hif, .tal, .gbk, .mid] s0 (mbxDoorbell x0 x1 x2 s0) := by
  unfold mbxDoorbell
  extract_lets +onlyGivenNames -merge -underBinder v1 v2
  clear_value v1
  clear_value v2
  refine Same.ite ?_ ?_
  · refine Same.comp (same_accErr _ _ _ _) (by decide) ?_
    refine Same.comp (same_fput_hi _ _ _ (Or.inl (by decide))) (by decide) ?_
    exact Same.refl _ _
  · refine Same.comp (same_fput_hi _ _ _ (Or.inl (by decide))) (by decide) ?_
    refine Same.comp (same_fput_hi _ _ _ (Or.inl (by decide))) (by decide) ?_
    refine Same.set_hif (by decide) ?_
    exact Same.refl _ _

theorem same_admitCopy (x0 : Nat) (x1 : Nat) (x2 : Copy) (s0 : State) : Same [.regs, .tal, .gbk, .dp] s0 (admitCopy x0 x1 x2 s0).2 := by
  unfold admitCopy
  extract_lets +onlyGivenNames -merge -underBinder v1 v2
  clear_value v1
  clear_value v2
  refine Same.ite2 ?_ ?_
  · refine Same.comp (same_refuse _ _ _ _) (by decide) ?_
    exact Same.refl _ _
  · refine Same.ite2 ?_ ?_
    · refine Same.comp (same_refuse _ _ _ _) (by decide) ?_
      exact Same.refl _ _
    · refine Same.ite2 ?_ ?_
      · refine Same.comp (same_refuse _ _ _ _) (by decide) ?_
        exact Same.refl _ _
      · refine Same.ite2 ?_ ?_
        · refine Same.comp (same_refuse _ _ _ _) (by decide) ?_
          exact Same.refl _ _
        · split
          · refine Same.comp (same_enqueue _ _ _ _ _ _) (by decide) ?_
            exact Same.refl _ _
          · split
            · refine Same.comp (same_mirrorDrop _ _) (by decide) ?_
              exact Same.refl _ _
            · refine Same.comp (same_raise _ _ _ _ _) (by decide) ?_
              refine Same.comp (same_setInt_top _ _ _ (Or.inl (by decide))) (by decide) ?_
              refine Same.comp (same_bump _ _ _) (by decide) ?_
              exact Same.refl _ _

theorem same_i2cBusyWrite (x0 : Nat) (x1 : Nat) (s0 : State) : Same [.regs, .tal, .gbk, .mid] s0 (i2cBusyWrite x0 x1 s0) := by
  unfold i2cBusyWrite
  refine Same.comp (same_lockedWrite _ _) (by decide) ?_
  refine Same.comp (same_fput_top _ _ _ (Or.inl (by simp only [F.PIN_I2C_STATUS_OVERRUN]; omega))) (by decide) ?_
  exact Same.refl _ _

theorem same_dwordRead (x0 : Nat) (x1 : Nat) (s0 : State) : Same [.regs, .hif, .tal, .gbk, .tim, .pin, .tab, .low, .mid] s0 (dwordRead x0 x1 s0).2 := by
  unfold dwordRead
  refine Same.ite2 ?_ ?_
  · split
    · split
      rename_i a1 s2 e4
      have h3 : Same [.regs, .hif, .tal, .gbk, .tim, .pin, .tab, .low, .mid] s0 s2 := by
        refine Same.of2 e4 ?_
        refine Same.comp (same_regRead _ _) (by decide) ?_
        exact Same.refl _ _
      exact h3
    · refine Same.comp (same_accErr _ _ _ _) (by decide) ?_
      exact Same.refl _ _
  · refine Same.ite2 ?_ ?_
    · exact Same.refl _ _
    · refine Same.comp (same_accErr _ _ _ _) (by decide) ?_
      exact Same.refl _ _

theorem same_writePrt (x0 : Nat) (x1 : Nat) (s0 : State) : Same [.regs, .tal, .gbk, .prt, .low, .mid] s0 (writePrt x0 x1 s0) := by
  unfold writePrt
  extract_lets +onlyGivenNames -merge -underBinder v1 v2
  clear_value v1
  clear_value v2
  refine Same.ite ?_ ?_
  · exact Same.refl _ _
  · refine Same.ite ?_ ?_
    · refine Same.comp (same_lockedWrite _ _) (by decide) ?_
      exact Same.refl _ _
    · refine Same.ite ?_ ?_
      · refine Same.comp (same_writePreempt _ _ _) (by decide) ?_
        exact Same.refl _ _
      · refine Same.comp (same_writeRw _ _ _) (by decide) ?_
        exact Same.refl _ _

theorem same_disableChan (x0 : DataChan) (s0 : State) : Same [.regs, .tal, .gbk, .dry, .dp, .tmg] s0 (disableChan x0 s0) := by
  unfold disableChan
  extract_lets +onlyGivenNames -merge -underBinder v1 s2 v4 s5
  clear_value v1
  have h3 : Same [.regs, .tal, .gbk, .dry, .dp, .tmg] s0 s2 := by
    unfold s2
    refine Same.comp (same_fput_top _ _ _ (Or.inl (Nat.le_trans (dryBase_hi _) (Nat.le_add_right _ _)))) (by decide) ?_
    exact Same.refl _ _
  clear_value s2
  clear_value v4
  have h6 : Same [.regs, .tal, .gbk, .dry, .dp, .tmg] s0 s5 := by
    unfold s5
    refine Same.ite ?_ ?_
    · refine Same.comp (same_setDisabling _ _ _) (by decide) ?_
      refine Same.comp (same_setChan _ _ _) (by decide) ?_
      exact h3
    · refine Same.comp (same_setChan _ _ _) (by decide) ?_
      exact h3
  clear_value s5
  refine Same.ite ?_ ?_
  · exact Same.refl _ _
  · split
    · extract_lets +onlyGivenNames -merge -underBinder v7
      clear_value v7
      refine Same.comp (same_freeCells _) (by decide) ?_
      refine Same.comp (same_disabledDrop _ _) (by decide) ?_
      refine Same.comp (same_putRx _ _ _) (by decide) ?_
      exact h6
    · exact h6

theorem same_tmplIssue (x0 : Nat) (x1 : Nat) (s0 : State) : Same [.regs, .tal, .gbk, .fry, .mid] s0 (tmplIssue x0 x1 s0) := by
  unfold tmplIssue
  extract_lets +onlyGivenNames -merge -underBinder s1 v3
  have h2 : Same [.regs, .tal, .gbk, .fry, .mid] s0 s1 := by
    unfold s1
    refine Same.comp (same_fput_top _ _ _ (Or.inl (by decide))) (by decide) ?_
    refine Same.comp (same_fput_top _ _ _ (Or.inl (by decide))) (by decide) ?_
    exact Same.refl _ _
  clear_value s1
  clear_value v3
  refine Same.ite ?_ ?_
  · refine Same.comp (same_lockedWrite _ _) (by decide) ?_
    refine Same.comp (same_fput_top _ _ _ (Or.inl (by decide))) (by decide) ?_
    exact Same.refl _ _
  · refine Same.set_fry (by decide) ?_
    exact h2

theorem same_tblIssue (x0 : Nat) (x1 : Nat) (x2 : Nat) (x3 : Bool) (x4 : Nat) (s0 : State) : Same [.regs, .tal, .gbk, .tab, .free, .mid] s0 (tblIssue x0 x1 x2 x3 x4 s0) := by
  unfold tblIssue
  extract_lets +onlyGivenNames -merge -underBinder s1 v3 s4
  have h2 : Same [.regs, .tal, .gbk, .tab, .free, .mid] s0 s1 := by
    unfold s1
    refine Same.comp (same_fput_top _ _ _ (Or.inl (by simp only [F.TBL_STATUS_OVERRUN]; omega))) (by decide) ?_
    refine Same.comp (same_fput_top _ _ _ (Or.inl (by simp only [F.TBL_STATUS_BUSY]; omega))) (by decide) ?_
    exact Same.refl _ _
  clear_value s1
  clear_value v3
  have h5 : Same [.regs, .tal, .gbk, .tab, .free, .mid] s0 s4 := by
    unfold s4
    refine Same.set_tab (by decide) ?_
    exact h2
  clear_value s4
  refine Same.ite ?_ ?_
  · refine Same.comp (same_lockedWrite _ _) (by decide) ?_
    refine Same.comp (same_fput_top _ _ _ (Or.inl (by simp only [F.TBL_STATUS_OVERRUN]; omega))) (by decide) ?_
    exact Same.refl _ _
  · refine Same.ite ?_ ?_
    · refine Same.comp (same_tblTake _ _) (by decide) ?_
      exact h5
    · exact h5

theorem same_takeMode (x0 : Nat) (s0 : State) : Same [.regs, .tal, .gbk, .prt, .mid] s0 (takeMode x0 s0) := by
  unfold takeMode
  extract_lets +onlyGivenNames -merge -underBinder v1 v2 v3 s4 v6 v7 v8 s9 s11
  clear_value v1
  clear_value v2
  clear_value v3
  have h5 : Same [.regs, .tal, .gbk, .prt, .mid] s0 s4 := by
    unfold s4
    refine Same.comp (same_putPort _ _ _) (by decide) ?_
    exact Same.refl _ _
  clear_value s4
  clear_value v6
  clear_value v7
  clear_value v8
  have h10 : Same [.regs, .tal, .gbk, .prt, .mid] s0 s9 := by
    unfold s9
    refine Same.comp (same_putPort _ _ _) (by decide) ?_
    exact h5
  clear_value s9
  have h12 : Same [.regs, .tal, .gbk, .prt, .mid] s0 s11 := by
    unfold s11
    refine Same.comp (same_fput_hi _ _ _ (Or.inl (by simp only [F.PRT_STATUS_MODE_ERR_CAUSE]; omega))) (by decide) ?_
    refine Same.comp (same_fput_hi _ _ _ (Or.inl (by simp only [F.PRT_STATUS_MODE_ERR]; omega))) (by decide) ?_
    exact h10
  clear_value s11
  refine Same.ite ?_ ?_
  · exact h12
  · refine Same.comp (same_setModeErr _ _ _) (by decide) ?_
    exact h12

theorem same_switchTo (x0 : Nat) (s0 : State) : Same [.regs, .tal, .gbk, .tim] s0 (switchTo x0 s0) := by
  unfold switchTo
  extract_lets +onlyGivenNames -merge -underBinder v1 v2 s3 s5 s7
  clear_value v1
  clear_value v2
  have h4 : Same [.regs, .tal, .gbk, .tim] s0 s3 := by
    unfold s3
    refine Same.set_tim (by decide) ?_
    exact Same.refl _ _
  clear_value s3
  have h6 : Same [.regs, .tal, .gbk, .tim] s0 s5 := by
    unfold s5
    refine Same.comp (same_bump _ _ _) (by decide) ?_
    refine Same.comp (same_fput_top _ _ _ (Or.inl (by decide))) (by decide) ?_
    refine Same.comp (same_fput_top _ _ _ (Or.inl (by decide))) (by decide) ?_
    exact h4
  clear_value s5
  have h8 : Same [.regs, .tal, .gbk, .tim] s0 s7 := by
    unfold s7
    refine Same.comp (same_raise _ _ _ _ _) (by decide) ?_
    refine Same.comp (same_setInt_top _ _ _ (Or.inl (by decide))) (by decide) ?_
    exact h6
  clear_value s7
  refine Same.comp (same_clearLost _) (by decide) ?_
  exact h8

theorem same_warmRegs (s0 : State) : Same [.regs, .tal, .gbk, .tim, .phs, .prt, .low, .mid] s0 (warmRegs s0) := by
  unfold warmRegs
  extract_lets +onlyGivenNames -merge -underBinder v1 s2 s4
  clear_value v1
  have h3 : Same [.regs, .tal, .gbk, .tim, .phs, .prt, .low, .mid] s0 s2 := by
    unfold s2
    refine Same.comp (same_forBits_lo _ _ _ (by decide)) (by decide) ?_
    refine Same.comp (same_resetRegs _ _) (by decide) ?_
    exact Same.refl _ _
  clear_value s2
  have h5 : Same [.regs, .tal, .gbk, .tim, .phs, .prt, .low, .mid] s0 s4 := by
    unfold s4
    refine Same.comp (same_chooseSource _) (by decide) ?_
    refine Same.comp (same_setRate _ _) (by decide) ?_
    refine Same.comp (same_timCtlChanged _ _) (by decide) ?_
    exact h3
  clear_value s4
  refine Same.foldl (fun _ _ h6 => ?_) ?_
  · refine Same.comp (same_verifyUpdate _ _) (by decide) ?_
    exact h6
  refine Same.comp (same_gradeThresholds _) (by decide) ?_
  exact h5

theorem same_porBusyWrite (x0 : Nat) (s0 : State) : Same [.regs, .tal, .gbk, .mid] s0 (porBusyWrite x0 s0) := by
  unfold porBusyWrite
  refine Same.comp (same_lockedWrite _ _) (by decide) ?_
  refine Same.comp (same_fput_top _ _ _ (Or.inl (by decide))) (by decide) ?_
  exact Same.refl _ _

theorem same_i2cStart (x0 : Nat) (x1 : Nat) (s0 : State) : Same [.regs, .tal, .gbk, .pin, .mid] s0 (i2cStart x0 x1 s0) := by
  unfold i2cStart
  extract_lets +onlyGivenNames -merge -underBinder v1 v2 v3 s4
  clear_value v1
  clear_value v2
  clear_value v3
  have h5 : Same [.regs, .tal, .gbk, .pin, .mid] s0 s4 := by
    unfold s4
    refine Same.comp (same_fput_top _ _ _ (Or.inl (by simp only [F.PIN_I2C_STATUS_OVERRUN]; omega))) (by decide) ?_
    exact Same.refl _ _
  clear_value s4
  refine Same.ite ?_ ?_
  · refine Same.comp (same_i2cBusyWrite _ _ _) (by decide) ?_
    exact Same.refl _ _
  · refine Same.ite ?_ ?_
    · exact Same.refl _ _
    · refine Same.ite ?_ ?_
      · refine Same.comp (same_i2cEnd _ _ _) (by decide) ?_
        exact h5
      · refine Same.comp (same_fput_top _ _ _ (Or.inl (by simp only [F.PIN_I2C_STATUS_BUSY]; omega))) (by decide) ?_
        refine Same.comp (same_setI2c _ _ _) (by decide) ?_
        exact h5

theorem same_floodCopies (x0 : Nat) (x1 : Frame) (x2 : Pass) (x3 : Copy) (s0 : State) : Same [.regs, .glb, .tal, .gbk] s0 (floodCopies x0 x1 x2 x3 s0).2 := by
  unfold floodCopies
  extract_lets +onlyGivenNames -merge -underBinder s1
  have h2 : Same [.regs, .glb, .tal, .gbk] s0 s1 := by
    unfold s1
    refine Same.comp (same_fdbCtr _ _ _) (by decide) ?_
    exact Same.refl _ _
  clear_value s1
  split
  rename_i a3 s4 e6
  have h5 : Same [.regs, .glb, .tal, .gbk] s0 s4 := by
    refine Same.of2 e6 ?_
    refine Same.comp (same_admitBudget _ _ _) (by decide) ?_
    exact h2
  extract_lets +onlyGivenNames -merge -underBinder v7 v8
  clear_value v7
  clear_value v8
  refine Same.ite2 ?_ ?_
  · exact h5
  · split
    · extract_lets +onlyGivenNames -merge -underBinder s9 v12
      have h10 : Same [.regs, .glb, .tal, .gbk] s0 s9 := by
        unfold s9
        refine Same.foldl (fun _ _ h11 => ?_) ?_
        · refine Same.ite ?_ ?_
          · refine Same.comp (same_lagNoMember _ _ _) (by decide) ?_
            exact h11
          · exact h11
        exact h5
      clear_value s9
      clear_value v12
      refine Same.ite2 ?_ ?_
      · exact h10
      · split
        rename_i a13 s14 e16
        have h15 : Same [.regs, .glb, .tal, .gbk] s0 s14 := by
          refine Same.of2 e16 ?_
          refine Same.comp (same_tunnelCopies _ _ _ _ _) (by decide) ?_
          exact h10
        exact h15

theorem same_overtake (x0 : Nat) (s0 : State) : Same [.regs, .tal, .gbk] s0 (overtake x0 s0) := by
  unfold overtake
  split
  · exact Same.refl _ _
  · split
    · exact Same.refl _ _
    · extract_lets +onlyGivenNames -merge -underBinder v1
      clear_value v1
      refine Same.ite ?_ ?_
      · refine Same.comp (same_talEvent _ _) (by decide) ?_
        refine Same.comp (same_setInt_top _ _ _ (Or.inl (by decide))) (by decide) ?_
        refine Same.comp (same_bump _ _ _) (by decide) ?_
        refine Same.set_tal (by decide) ?_
        exact Same.refl _ _
      · exact Same.refl _ _

theorem same_learnKnown (x0 : Nat) (x1 : Nat) (x2 : Learn) (s0 : State) : Same [.regs, .glb, .tal, .gbk, .tab] s0 (learnKnown x0 x1 x2 s0) := by
  unfold learnKnown
  extract_lets +onlyGivenNames -merge -underBinder v1 v2 v3
  clear_value v1
  clear_value v2
  clear_value v3
  refine Same.ite ?_ ?_
  · refine Same.comp (same_learnWrite _ _ _ _) (by decide) ?_
    exact Same.refl _ _
  · refine Same.ite ?_ ?_
    · refine Same.comp (same_raise _ _ _ _ _) (by decide) ?_
      refine Same.comp (same_fdbCtr _ _ _) (by decide) ?_
      refine Same.comp (same_learnWrite _ _ _ _) (by decide) ?_
      exact Same.refl _ _
    · refine Same.comp (same_notify _ _ _ _) (by decide) ?_
      refine Same.comp (same_fdbCtr _ _ _) (by decide) ?_
      refine Same.comp (same_learnWrite _ _ _ _) (by decide) ?_
      exact Same.refl _ _

theorem same_endWake (s0 : State) : Same [.regs, .glb, .tal, .gbk, .base] s0 (endWake s0) := by
  unfold endWake
  refine Same.comp (same_setInt_top _ _ _ (Or.inr (by decide))) (by decide) ?_
  refine Same.comp (same_setBase _ _) (by decide) ?_
  exact Same.refl _ _

theorem same_resolveLedger (x0 : Nat) (x1 : Nat) (s0 : State) : Same [.regs, .tal, .gbk, .ldg] s0 (resolveLedger x0 x1 s0) := by
  unfold resolveLedger
  extract_lets +onlyGivenNames -merge -underBinder v1
  clear_value v1
  refine Same.ite ?_ ?_
  · exact Same.refl _ _
  · refine Same.ite ?_ ?_
    · split
      · extract_lets +onlyGivenNames -merge -underBinder s2
        have h3 : Same [.regs, .tal, .gbk, .ldg] s0 s2 := by
          unfold s2
          refine Same.comp (same_putLedger _ _ _ _) (by decide) ?_
          exact Same.refl _ _
        clear_value s2
        refine Same.ite ?_ ?_
        · refine Same.comp (same_lateStart _ _ _) (by decide) ?_
          exact h3
        · exact h3
    · refine Same.comp (same_putLedger _ _ _ _) (by decide) ?_
      exact Same.refl _ _

theorem same_i2cPush (x0 : Nat) (x1 : Nat) (s0 : State) : Same [.regs, .tal, .gbk, .pin, .mid] s0 (i2cPush x0 x1 s0) := by
  unfold i2cPush
  extract_lets +onlyGivenNames -merge -underBinder v1
  clear_value v1
  refine Same.ite ?_ ?_
  · refine Same.comp (same_i2cBusyWrite _ _ _) (by decide) ?_
    exact Same.refl _ _
  · refine Same.ite ?_ ?_
    · refine Same.comp (same_lockedWrite _ _) (by decide) ?_
      exact Same.refl _ _
    · refine Same.comp (same_setI2c _ _ _) (by decide) ?_
      exact Same.refl _ _

theorem same_replCopies (x0 : Nat) (x1 : Frame) (x2 : Pass) (x3 : Copy) (s0 : State) : Same [.regs, .tal, .gbk] s0 (replCopies x0 x1 x2 x3 s0).2 := by
  unfold replCopies
  split
  · refine Same.comp (same_badDest _ _ _ _) (by decide) ?_
    exact Same.refl _ _
  · extract_lets +onlyGivenNames -merge -underBinder v1 v2
    clear_value v1
    clear_value v2
    split
    rename_i a3 s4 e6
    have h5 : Same [.regs, .tal, .gbk] s0 s4 := by
      refine Same.of2 e6 ?_
      refine Same.comp (same_tunnelCopies _ _ _ _ _) (by decide) ?_
      exact Same.refl _ _
    exact h5

theorem same_quiesce (s0 : State) : Same [.regs, .glb, .tal, .gbk, .base] s0 (quiesce s0) := by
  unfold quiesce
  refine Same.comp (same_setInt_top _ _ _ (Or.inr (by decide))) (by decide) ?_
  refine Same.comp (same_setBase _ _) (by decide) ?_
  exact Same.refl _ _

theorem same_recheckPorts (s0 : State) : Same [.regs, .tal, .gbk, .mid] s0 (recheckPorts s0) := by
  unfold recheckPorts
  refine Same.foldl (fun _ _ h1 => ?_) ?_
  · extract_lets +onlyGivenNames -merge -underBinder v2 v3
    clear_value v2
    clear_value v3
    refine Same.ite ?_ ?_
    · exact h1
    · refine Same.comp (same_setModeErr _ _ _) (by decide) ?_
      exact h1
  exact Same.refl _ _

theorem same_writePin (x0 : Nat) (x1 : Nat) (s0 : State) : Same [.regs, .tal, .gbk, .pin, .low, .mid] s0 (writePin x0 x1 s0) := by
  unfold writePin
  refine Same.ite ?_ ?_
  · refine Same.comp (same_qspiStart _ _) (by decide) ?_
    exact Same.refl _ _
  · refine Same.ite ?_ ?_
    · refine Same.comp (same_overrun _ _ _) (by decide) ?_
      exact Same.refl _ _
    · refine Same.ite ?_ ?_
      · refine Same.comp (same_i2cStart _ _ _) (by decide) ?_
        exact Same.refl _ _
      · refine Same.ite ?_ ?_
        · refine Same.comp (same_i2cStart _ _ _) (by decide) ?_
          exact Same.refl _ _
        · refine Same.ite ?_ ?_
          · refine Same.comp (same_i2cPush _ _ _) (by decide) ?_
            exact Same.refl _ _
          · refine Same.ite ?_ ?_
            · refine Same.comp (same_i2cPush _ _ _) (by decide) ?_
              exact Same.refl _ _
            · refine Same.ite ?_ ?_
              · refine Same.comp (same_mdioStart _ _ _ _ _) (by decide) ?_
                exact Same.refl _ _
              · refine Same.ite ?_ ?_
                · refine Same.comp (same_overrun _ _ _) (by decide) ?_
                  exact Same.refl _ _
                · refine Same.comp (same_writeRw _ _ _) (by decide) ?_
                  exact Same.refl _ _

theorem same_receiveEnd (x0 : Nat) (x1 : Nat) (x2 : Bool) (s0 : State) : Same [.regs, .tal, .gbk, .fab, .prt, .dp, .tmg] s0 (receiveEnd x0 x1 x2 s0) := by
  unfold receiveEnd
  extract_lets +onlyGivenNames -merge -underBinder v1 s2 s4
  clear_value v1
  have h3 : Same [.regs, .tal, .gbk, .fab, .prt, .dp, .tmg] s0 s2 := by
    unfold s2
    refine Same.comp (same_putPort _ _ _) (by decide) ?_
    exact Same.refl _ _
  clear_value s2
  have h5 : Same [.regs, .tal, .gbk, .fab, .prt, .dp, .tmg] s0 s4 := by
    unfold s4
    split
    · refine Same.comp (same_takeCells _ _ _) (by decide) ?_
      exact h3
    · exact h3
  clear_value s4
  split
  · exact h5
  · extract_lets +onlyGivenNames -merge -underBinder v6
    clear_value v6
    split
    · extract_lets +onlyGivenNames -merge -underBinder s7 s9 v11
      have h8 : Same [.regs, .tal, .gbk, .fab, .prt, .dp, .tmg] s0 s7 := by
        unfold s7
        refine Same.comp (same_bump _ _ _) (by decide) ?_
        exact h5
      clear_value s7
      have h10 : Same [.regs, .tal, .gbk, .fab, .prt, .dp, .tmg] s0 s9 := by
        unfold s9
        refine Same.ite ?_ ?_
        · exact h8
        · refine Same.comp (same_dropFrame _ _ _) (by decide) ?_
          exact h8
      clear_value s9
      clear_value v11
      refine Same.ite ?_ ?_
      · refine Same.comp (same_putPort _ _ _) (by decide) ?_
        exact h10
      · exact h10
    · extract_lets +onlyGivenNames -merge -underBinder s12
      have h13 : Same [.regs, .tal, .gbk, .fab, .prt, .dp, .tmg] s0 s12 := by
        unfold s12
        refine Same.comp (same_bumpN _ _ _ _) (by decide) ?_
        refine Same.comp (same_bump _ _ _) (by decide) ?_
        exact h5
      clear_value s12
      refine Same.ite ?_ ?_
      · exact h13
      · refine Same.comp (same_putFrame _ _ _) (by decide) ?_
        exact h13

theorem same_writeDry (x0 : Nat) (x1 : Nat) (s0 : State) : Same [.regs, .tal, .gbk, .dry, .dp, .tmg, .low, .mid] s0 (writeDry x0 x1 s0) := by
  unfold writeDry
  extract_lets +onlyGivenNames -merge -underBinder v1 v2 v3
  clear_value v1
  clear_value v2
  refine Same.ite ?_ ?_
  · refine Same.comp (same_writeRw _ _ _) (by decide) ?_
    exact Same.refl _ _
  · refine Same.ite ?_ ?_
    · unfold v3
      refine Same.ite ?_ ?_
      · refine Same.comp (same_writeStrobes _ _ _) (by decide) ?_
        refine Same.ite ?_ ?_
        · refine Same.comp (same_enableChan _ _) (by decide) ?_
          exact Same.refl _ _
        · refine Same.comp (same_disableChan _ _) (by decide) ?_
          exact Same.refl _ _
      · refine Same.ite ?_ ?_
        · refine Same.comp (same_postDescriptors _ _ _) (by decide) ?_
          exact Same.refl _ _
        · refine Same.comp (same_writeRw _ _ _) (by decide) ?_
          exact Same.refl _ _
    · refine Same.ite ?_ ?_
      · unfold v3
        refine Same.ite ?_ ?_
        · refine Same.comp (same_writeStrobes _ _ _) (by decide) ?_
          refine Same.ite ?_ ?_
          · refine Same.comp (same_enableChan _ _) (by decide) ?_
            exact Same.refl _ _
          · refine Same.comp (same_disableChan _ _) (by decide) ?_
            exact Same.refl _ _
        · refine Same.ite ?_ ?_
          · refine Same.comp (same_postDescriptors _ _ _) (by decide) ?_
            exact Same.refl _ _
          · refine Same.comp (same_writeRw _ _ _) (by decide) ?_
            exact Same.refl _ _
      · refine Same.ite ?_ ?_
        · refine Same.comp (same_writeStrobes _ _ _) (by decide) ?_
          refine Same.ite ?_ ?_
          · refine Same.comp (same_errStart _ _) (by decide) ?_
            exact Same.refl _ _
          · exact Same.refl _ _
        · refine Same.comp (same_writeRw _ _ _) (by decide) ?_
          exact Same.refl _ _

theorem same_fenceOp (x0 : Nat) (x1 : Nat) (s0 : State) : Same [.regs, .tal, .gbk] s0 (fenceOp x0 x1 s0) := by
  unfold fenceOp
  refine Same.ite ?_ ?_
  · refine Same.comp (same_fenceResult _ _) (by decide) ?_
    exact Same.refl _ _
  · refine Same.comp (same_fenceResult _ _) (by decide) ?_
    refine Same.comp (same_fence _ _ _) (by decide) ?_
    exact Same.refl _ _

theorem same_writeTbl (x0 : Nat) (x1 : Nat) (s0 : State) : Same [.regs, .tal, .gbk, .tab, .free, .low, .mid] s0 (writeTbl x0 x1 s0) := by
  unfold writeTbl
  extract_lets +onlyGivenNames -merge -underBinder v1 v2
  clear_value v1
  clear_value v2
  refine Same.ite ?_ ?_
  · refine Same.comp (same_writeRw _ _ _) (by decide) ?_
    exact Same.refl _ _
  · refine Same.ite ?_ ?_
    · refine Same.comp (same_tblIssue _ _ _ _ _ _) (by decide) ?_
      exact Same.refl _ _
    · refine Same.ite ?_ ?_
      · refine Same.comp (same_overrun _ _ _) (by decide) ?_
        exact Same.refl _ _
      · refine Same.comp (same_writeRw _ _ _) (by decide) ?_
        exact Same.refl _ _

theorem same_autoSwitch (s0 : State) : Same [.regs, .tal, .gbk, .tim] s0 (autoSwitch s0) := by
  unfold autoSwitch
  extract_lets +onlyGivenNames -merge -underBinder v1
  clear_value v1
  refine Same.ite ?_ ?_
  · refine Same.comp (same_switchTo _ _) (by decide) ?_
    exact Same.refl _ _
  · exact Same.refl _ _

theorem same_acceptSample (x0 : Nat) (x1 : Int) (s0 : State) : Same [.regs, .tal, .gbk, .tim, .phs] s0 (acceptSample x0 x1 s0) := by
  unfold acceptSample
  extract_lets +onlyGivenNames -merge -underBinder v1 v2 v3 s4 s6 s8
  clear_value v1
  clear_value v2
  clear_value v3
  have h5 : Same [.regs, .tal, .gbk, .tim, .phs] s0 s4 := by
    unfold s4
    refine Same.comp (same_setTrk _ _ _) (by decide) ?_
    exact Same.refl _ _
  clear_value s4
  have h7 : Same [.regs, .tal, .gbk, .tim, .phs] s0 s6 := by
    unfold s6
    refine Same.comp (same_setJump _ _ _) (by decide) ?_
    refine Same.comp (same_bump _ _ _) (by decide) ?_
    refine Same.comp (same_setTrkState _ _ _) (by decide) ?_
    exact h5
  clear_value s6
  have h9 : Same [.regs, .tal, .gbk, .tim, .phs] s0 s8 := by
    unfold s8
    refine Same.comp (same_slewBias _) (by decide) ?_
    refine Same.comp (same_clearLost _) (by decide) ?_
    exact h7
  clear_value s8
  refine Same.ite ?_ ?_
  · refine Same.comp (same_checkLock _ _) (by decide) ?_
    refine Same.comp (same_servoUpdate _ _) (by decide) ?_
    exact h9
  · exact h7

theorem same_flushOldOp (s0 : State) : Same [.regs, .frg, .tal, .gbk, .fab, .por, .dry, .dp, .tmg, .act, .low] s0 (flushOldOp s0) := by
  unfold flushOldOp
  refine Same.ite ?_ ?_
  · refine Same.comp (same_flushOld _) (by decide) ?_
    refine Same.comp (same_frgResult _ _) (by decide) ?_
    exact Same.refl _ _
  · refine Same.comp (same_frgResult _ _) (by decide) ?_
    exact Same.refl _ _

theorem same_draymanReset (s0 : State) : Same [.regs, .tal, .gbk, .por, .dry, .dp, .low, .mid] s0 (draymanReset s0) := by
  unfold draymanReset
  extract_lets +onlyGivenNames -merge -underBinder s1
  have h2 : Same [.regs, .tal, .gbk, .por, .dry, .dp, .low, .mid] s0 s1 := by
    unfold s1
    refine Same.comp (same_abandonWorks _) (by decide) ?_
    exact Same.refl _ _
  clear_value s1
  refine Same.comp (same_freeCells _) (by decide) ?_
  exact Same.upd (h2) rfl (fun p n => by cases p <;> first | exact absurd (by decide) n | rfl)

theorem same_dropTooLongAll (x0 : List Nat) (s0 : State) : Same [.regs, .tal, .gbk, .dp, .tmg] s0 (dropTooLongAll x0 s0) := by
  unfold dropTooLongAll
  refine Same.foldl (fun _ _ h1 => ?_) ?_
  · refine Same.ite ?_ ?_
    · refine Same.foldl (fun _ _ h2 => ?_) ?_
      · refine Same.comp (same_dropTooLong _ _ _ _) (by decide) ?_
        exact h2
      exact h1
    · exact h1
  exact Same.refl _ _

theorem same_hearthResets (x0 : Nat) (s0 : State) : Same [.regs, .glb, .tal, .gbk, .dp, .tmg, .rst, .low] s0 (hearthResets x0 s0) := by
  unfold hearthResets
  refine Same.ite ?_ ?_
  · exact Same.refl _ _
  · refine Same.comp (same_freeCells _) (by decide) ?_
    refine Same.foldl (fun _ _ h1 => ?_) ?_
    · refine Same.ite ?_ ?_
      · refine Same.comp (same_resetHearth _ _) (by decide) ?_
        exact h1
      · exact h1
    exact Same.refl _ _

theorem same_failAll (x0 : Nat) (x1 : List Nat) (s0 : State) : Same [.regs, .tal, .gbk, .fab, .prt, .dp, .tmg] s0 (failAll x0 x1 s0) := by
  unfold failAll
  refine Same.foldl (fun _ _ h1 => ?_) ?_
  · split
    · refine Same.comp (same_receiveEnd _ _ _ _) (by decide) ?_
      refine Same.comp (same_putFrame _ _ _) (by decide) ?_
      exact h1
    · exact h1
  exact Same.refl _ _

theorem same_learnNew (x0 : Nat) (x1 : Nat) (x2 : Learn) (s0 : State) : Same [.regs, .glb, .tal, .gbk, .tab] s0 (learnNew x0 x1 x2 s0) := by
  unfold learnNew
  refine Same.comp (same_notify _ _ _ _) (by decide) ?_
  refine Same.comp (same_fdbCtr _ _ _) (by decide) ?_
  refine Same.comp (same_putEntry _ _ _ _ _ _) (by decide) ?_
  exact Same.refl _ _

theorem same_insertFails (x0 : Nat) (x1 : MoverJob) (s0 : State) : Same [.regs, .glb, .tal, .gbk, .tab, .free] s0 (insertFails x0 x1 s0) := by
  unfold insertFails
  split
  · refine Same.comp (same_raise _ _ _ _ _) (by decide) ?_
    refine Same.comp (same_setInt_top _ _ _ (Or.inl (by decide))) (by decide) ?_
    refine Same.comp (same_notify _ _ _ _) (by decide) ?_
    refine Same.comp (same_fdbCtr _ _ _) (by decide) ?_
    exact Same.refl _ _
  · refine Same.comp (same_tblFinish _ _ _) (by decide) ?_
    refine Same.comp (same_fput_top _ _ _ (Or.inl (by simp only [F.TBL_STATUS_MOVES]; omega))) (by decide) ?_
    exact Same.refl _ _
  · exact Same.refl _ _

theorem same_endLoad (x0 : Nat) (s0 : State) : Same [.regs, .glb, .frg, .tal, .gbk, .ldg, .tab, .base, .act, .low] s0 (endLoad x0 s0) := by
  unfold endLoad
  split
  · exact Same.refl _ _
  · extract_lets +onlyGivenNames -merge -underBinder v1 s2 v4
    have h3 : Same [.regs, .glb, .frg, .tal, .gbk, .ldg, .tab, .base, .act, .low] s0 s2 := by
      unfold s2
      refine Same.comp (same_setFrgState _ _) (by decide) ?_
      refine Same.comp (same_frgResult _ _) (by decide) ?_
      refine Same.comp (same_rput_lo _ _ _ (by decide)) (by decide) ?_
      refine Same.set_frg (by decide) (Or.inr rfl) ?_
      exact Same.refl _ _
    clear_value s2
    refine Same.ite ?_ ?_
    · refine Same.comp (same_clearBank _ _) (by decide) ?_
      refine Same.set_frg (by decide) (Or.inl (by decide)) ?_
      exact h3
    · refine Same.ite ?_ ?_
      · refine Same.comp (same_setBase _ _) (by decide) ?_
        refine Same.comp (same_clearBank _ _) (by decide) ?_
        exact h3
      · exact h3

theorem same_resolveBank (x0 : List Nat) (x1 : Nat) (s0 : State) : Same [.regs, .tal, .gbk, .ldg] s0 (resolveBank x0 x1 s0) := by
  unfold resolveBank
  extract_lets +onlyGivenNames -merge -underBinder s1
  have h2 : Same [.regs, .tal, .gbk, .ldg] s0 s1 := by
    unfold s1
    refine Same.foldl (fun _ _ h3 => ?_) ?_
    · refine Same.ite ?_ ?_
      · refine Same.comp (same_resolveLedger _ _ _) (by decide) ?_
        exact h3
      · exact h3
    exact Same.refl _ _
  clear_value s1
  refine Same.foldl (fun _ _ h4 => ?_) ?_
  · refine Same.ite ?_ ?_
    · refine Same.comp (same_resolveGate _ _ _) (by decide) ?_
      exact h4
    · exact h4
  exact h2

theorem same_switchOp (x0 : Nat) (s0 : State) : Same [.regs, .tal, .gbk, .tim] s0 (switchOp x0 s0) := by
  unfold switchOp
  refine Same.ite ?_ ?_
  · refine Same.comp (same_switchTo _ _) (by decide) ?_
    refine Same.comp (same_fput_top _ _ _ (Or.inl (by decide))) (by decide) ?_
    exact Same.refl _ _
  · refine Same.comp (same_fput_top _ _ _ (Or.inl (by decide))) (by decide) ?_
    exact Same.refl _ _

theorem same_takeSnapshot (x0 : Nat) (x1 : Nat) (s0 : State) : Same [.regs, .tal, .gbk] s0 (takeSnapshot x0 x1 s0) := by
  unfold takeSnapshot
  extract_lets +onlyGivenNames -merge -underBinder v1 v2 v3 s4 v6 s7 s9 s11
  clear_value v1
  clear_value v2
  clear_value v3
  have h5 : Same [.regs, .tal, .gbk] s0 s4 := by
    unfold s4
    refine Same.ite ?_ ?_
    · exact Same.refl _ _
    · refine Same.comp (same_overtake _ _) (by decide) ?_
      exact Same.refl _ _
  clear_value s4
  clear_value v6
  have h8 : Same [.regs, .tal, .gbk] s0 s7 := by
    unfold s7
    refine Same.set_tal (by decide) ?_
    exact h5
  clear_value s7
  have h10 : Same [.regs, .tal, .gbk] s0 s9 := by
    unfold s9
    refine Same.ite ?_ ?_
    · refine Same.comp (same_rput_top _ _ _ (Or.inl (by decide))) (by decide) ?_
      refine Same.comp (same_forBits_top _ _ _ (Or.inl (by decide))) (by decide) ?_
      exact h8
    · refine Same.comp (same_rput_top _ _ _ (Or.inl (by decide))) (by decide) ?_
      refine Same.comp (same_rput_top _ _ _ (Or.inl (by decide))) (by decide) ?_
      refine Same.comp (same_rput_top _ _ _ (Or.inl (by decide))) (by decide) ?_
      exact h8
  clear_value s9
  have h12 : Same [.regs, .tal, .gbk] s0 s11 := by
    unfold s11
    refine Same.comp (same_latchInstant_top _ _ _ (by decide)) (by decide) ?_
    refine Same.comp (same_latchTime_top _ _ _ (by decide)) (by decide) ?_
    exact h10
  clear_value s11
  refine Same.ite ?_ ?_
  · exact Same.refl _ _
  · refine Same.comp (same_setInt_top _ _ _ (Or.inl (by decide))) (by decide) ?_
    exact h12

theorem same_stage84 (x0 : Nat) (x1 : Frame) (x2 : Pass) (s0 : State) : Same [.regs, .tal, .gbk, .dp] s0 (stage84 x0 x1 x2 s0).2 := by
  unfold stage84
  extract_lets +onlyGivenNames -merge -underBinder v1 v2 s3
  clear_value v1
  clear_value v2
  have h4 : Same [.regs, .tal, .gbk, .dp] s0 s3 := by
    unfold s3
    refine Same.comp (same_excCapture _ _ _ _ _) (by decide) ?_
    refine Same.comp (same_countParse _ _ _ _) (by decide) ?_
    exact Same.refl _ _
  clear_value s3
  split
  rename_i a5 a6 s7 e9
  have h8 : Same [.regs, .tal, .gbk, .dp] s0 s7 := by
    refine Same.of3 e9 ?_
    refine Same.comp (same_fragPass _ _ _ _ _) (by decide) ?_
    exact h4
  exact h8

theorem same_phaseLock (x0 : Nat) (x1 : Nat) (x2 : Nat) (x3 : Nat) (s0 : State) : Same [.regs, .tal, .gbk, .phs] s0 (phaseLock x0 x1 x2 x3 s0) := by
  unfold phaseLock
  extract_lets +onlyGivenNames -merge -underBinder s1 v3 s4 s6
  have h2 : Same [.regs, .tal, .gbk, .phs] s0 s1 := by
    unfold s1
    refine Same.comp (same_phaseSet _ _ _ _) (by decide) ?_
    exact Same.refl _ _
  clear_value s1
  clear_value v3
  have h5 : Same [.regs, .tal, .gbk, .phs] s0 s4 := by
    unfold s4
    refine Same.comp (same_setInt_top _ _ _ (Or.inl (by decide))) (by decide) ?_
    refine Same.set_phs (by decide) ?_
    exact h2
  clear_value s4
  have h7 : Same [.regs, .tal, .gbk, .phs] s0 s6 := by
    unfold s6
    refine Same.comp (same_judgeFar _) (by decide) ?_
    refine Same.comp (same_raise _ _ _ _ _) (by decide) ?_
    refine Same.comp (same_clearError _ _) (by decide) ?_
    exact h5
  clear_value s6
  refine Same.comp (same_taLateAll _ _ _) (by decide) ?_
  exact h7

theorem same_writeHlt (x0 : Nat) (x1 : Nat) (s0 : State) : Same [.regs, .tal, .gbk, .hlt, .low, .mid] s0 (writeHlt x0 x1 s0) := by
  unfold writeHlt
  refine Same.ite ?_ ?_
  · refine Same.ite ?_ ?_
    · refine Same.ite ?_ ?_
      · refine Same.comp (same_fenceOp _ _ _) (by decide) ?_
        exact Same.refl _ _
      · exact Same.refl _ _
    · refine Same.ite ?_ ?_
      · refine Same.comp (same_unfenceOp _ _) (by decide) ?_
        exact Same.refl _ _
      · exact Same.refl _ _
  · refine Same.ite ?_ ?_
    · refine Same.ite ?_ ?_
      · refine Same.comp (same_spareBank _ _) (by decide) ?_
        exact Same.refl _ _
      · exact Same.refl _ _
    · refine Same.ite ?_ ?_
      · refine Same.comp (same_lockedWrite _ _) (by decide) ?_
        exact Same.refl _ _
      · refine Same.ite ?_ ?_
        · refine Same.comp (same_bistRun _ _) (by decide) ?_
          exact Same.refl _ _
        · refine Same.comp (same_writeRw _ _ _) (by decide) ?_
          exact Same.refl _ _

theorem same_phaseRealign (x0 : Nat) (x1 : Int) (x2 : Nat) (x3 : Nat) (x4 : Nat) (s0 : State) : Same [.regs, .tal, .gbk, .phs] s0 (phaseRealign x0 x1 x2 x3 x4 s0) := by
  unfold phaseRealign
  extract_lets +onlyGivenNames -merge -underBinder v1 v2 v3 s4 s6 s8 v10 s11 s13 v15 s16
  clear_value v1
  clear_value v2
  clear_value v3
  have h5 : Same [.regs, .tal, .gbk, .phs] s0 s4 := by
    unfold s4
    refine Same.comp (same_phaseSet _ _ _ _) (by decide) ?_
    refine Same.set_phs (by decide) ?_
    exact Same.refl _ _
  clear_value s4
  have h7 : Same [.regs, .tal, .gbk, .phs] s0 s6 := by
    unfold s6
    refine Same.comp (same_fput_top _ _ _ (Or.inl (by decide))) (by decide) ?_
    exact h5
  clear_value s6
  have h9 : Same [.regs, .tal, .gbk, .phs] s0 s8 := by
    unfold s8
    refine Same.comp (same_raise _ _ _ _ _) (by decide) ?_
    refine Same.comp (same_setInt_top _ _ _ (Or.inl (by decide))) (by decide) ?_
    refine Same.comp (same_clearError _ _) (by decide) ?_
    exact h7
  clear_value s8
  clear_value v10
  have h12 : Same [.regs, .tal, .gbk, .phs] s0 s11 := by
    unfold s11
    refine Same.ite ?_ ?_
    · refine Same.comp (same_judgeFar _) (by decide) ?_
      refine Same.comp (same_raise _ _ _ _ _) (by decide) ?_
      refine Same.comp (same_setInt_top _ _ _ (Or.inl (by decide))) (by decide) ?_
      refine Same.set_phs (by decide) ?_
      exact h9
    · exact h9
  clear_value s11
  have h14 : Same [.regs, .tal, .gbk, .phs] s0 s13 := by
    unfold s13
    refine Same.comp (same_chooseSource _) (by decide) ?_
    exact h12
  clear_value s13
  clear_value v15
  have h17 : Same [.regs, .tal, .gbk, .phs] s0 s16 := by
    unfold s16
    refine Same.comp (same_fput_top _ _ _ (Or.inl (by decide))) (by decide) ?_
    refine Same.set_phs (by decide) ?_
    exact h14
  clear_value s16
  refine Same.ite ?_ ?_
  · refine Same.comp (same_taLateAll _ _ _) (by decide) ?_
    exact h17
  · refine Same.ite ?_ ?_
    · refine Same.comp (same_taLateAll _ _ _) (by decide) ?_
      exact h17
    · exact h17

theorem same_moveReadError (x0 : Nat) (x1 : List Nat) (s0 : State) : Same [.regs, .tal, .gbk, .free] s0 (moveReadError x0 x1 s0) := by
  unfold moveReadError
  extract_lets +onlyGivenNames -merge -underBinder v1 v2 v3
  clear_value v1
  clear_value v2
  clear_value v3
  refine Same.ite ?_ ?_
  · refine Same.comp (same_errHalt _ _ _) (by decide) ?_
    refine Same.comp (same_rput_top _ _ _ (Or.inl (by simp only [A.DRY_ERR_REMAIN]; omega))) (by decide) ?_
    exact Same.refl _ _
  · refine Same.comp (same_errHalt _ _ _) (by decide) ?_
    refine Same.comp (same_rput_top _ _ _ (Or.inl (by simp only [A.DRY_ERR_REMAIN]; omega))) (by decide) ?_
    refine Same.set_free (by decide) ?_
    exact Same.refl _ _

theorem same_insertDone (x0 : Nat) (x1 : Nat) (x2 : Nat) (x3 : MoverJob) (s0 : State) : Same [.regs, .glb, .tal, .gbk, .hlt, .tab, .free] s0 (insertDone x0 x1 x2 x3 s0) := by
  unfold insertDone
  split
  · refine Same.comp (same_learnNew _ _ _ _) (by decide) ?_
    exact Same.refl _ _
  · refine Same.comp (same_tblFinish _ _ _) (by decide) ?_
    refine Same.comp (same_fput_top _ _ _ (Or.inl (by simp only [F.TBL_STATUS_MOVES]; omega))) (by decide) ?_
    refine Same.comp (same_fput_top _ _ _ (Or.inl (by simp only [F.TBL_RESULT_INDEX_INDEX]; omega))) (by decide) ?_
    refine Same.comp (same_hostEntry _ _ _ _ _) (by decide) ?_
    exact Same.refl _ _
  · exact Same.refl _ _

theorem same_roomAllocation (x0 : Nat) (s0 : State) : Same [.regs, .mem, .tal, .gbk, .por, .dry, .dp] s0 (roomAllocation x0 s0) := by
  unfold roomAllocation
  split
  · exact Same.refl _ _
  · extract_lets +onlyGivenNames -merge -underBinder v1
    clear_value v1
    refine Same.ite ?_ ?_
    · exact Same.refl _ _
    · refine Same.ite ?_ ?_
      · refine Same.comp (same_writeBurst _ _ _) (by decide) ?_
        refine Same.comp (same_writeTaken _ _) (by decide) ?_
        exact Same.refl _ _
      · refine Same.ite ?_ ?_
        · exact Same.refl _ _
        · split
          rename_i a2 a3 s4 e6
          have h5 : Same [.regs, .mem, .tal, .gbk, .por, .dry, .dp] s0 s4 := by
            refine Same.of3 e6 ?_
            refine Same.comp (same_allocRoom _ _ _ _) (by decide) ?_
            refine Same.comp (same_usePool _ _ _) (by decide) ?_
            exact Same.refl _ _
          extract_lets +onlyGivenNames -merge -underBinder v7
          clear_value v7
          refine Same.ite ?_ ?_
          · refine Same.comp (same_writeBurst _ _ _) (by decide) ?_
            refine Same.comp (same_writeTaken _ _) (by decide) ?_
            exact h5
          · refine Same.comp (same_freeCells _) (by decide) ?_
            refine Same.comp (same_starve _ _ _) (by decide) ?_
            refine Same.comp (same_abandonRooms _ _ _ _ _) (by decide) ?_
            refine Same.comp (same_putRx _ _ _) (by decide) ?_
            exact h5

theorem same_fabLinkDown (x0 : Nat) (s0 : State) : Same [.regs, .tal, .gbk, .fab] s0 (fabLinkDown x0 s0) := by
  unfold fabLinkDown
  refine Same.ite ?_ ?_
  · exact Same.refl _ _
  · refine Same.comp (same_fabDown _ _) (by decide) ?_
    exact Same.refl _ _


theorem same_writeFry (x0 : Nat) (x1 : Nat) (s0 : State) : Same [.regs, .tal, .gbk, .fry, .low, .mid] s0 (writeFry x0 x1 s0) := by
  unfold writeFry
  refine Same.ite ?_ ?_
  · refine Same.comp (same_tmplIssue _ _ _) (by decide) ?_
    exact Same.refl _ _
  · refine Same.ite ?_ ?_
    · refine Same.comp (same_overrun _ _ _) (by decide) ?_
      exact Same.refl _ _
    · refine Same.ite ?_ ?_
      · refine same_peerRetune_h (by decide) (fun _ h1 => ?_) ?_
        · refine Same.comp (same_writeRw _ _ _) (by decide) ?_
          exact h1
        exact Same.refl _ _
      · refine Same.comp (same_writeRw _ _ _) (by decide) ?_
        exact Same.refl _ _

theorem same_porComplete (s0 : State) : Same [.regs, .tal, .gbk, .por] s0 (porComplete s0) := by
  unfold porComplete
  split
  · exact Same.refl _ _
  · extract_lets +onlyGivenNames -merge -underBinder v1 v2 v3 v4
    clear_value v1
    clear_value v2
    clear_value v3
    clear_value v4
    refine Same.ite ?_ ?_
    · exact Same.refl _ _
    · split
      rename_i a5 s6 e8
      have h7 : Same [.regs, .tal, .gbk, .por] s0 s6 := by
        refine Same.of2 e8 ?_
        refine Same.comp (same_porApply _ _ _ _) (by decide) ?_
        refine Same.ite ?_ ?_
        · refine Same.comp (same_usePool _ _ _) (by decide) ?_
          refine Same.set_por (by decide) ?_
          exact Same.refl _ _
        · refine Same.set_por (by decide) ?_
          exact Same.refl _ _
      refine Same.comp (same_setInt_top _ _ _ (Or.inl (by decide))) (by decide) ?_
      refine Same.comp (same_fput_top _ _ _ (Or.inl (by decide))) (by decide) ?_
      refine Same.comp (same_fput_top _ _ _ (Or.inl (by decide))) (by decide) ?_
      exact h7

theorem same_writeTaCtl (x0 : Nat) (x1 : Nat) (s0 : State) : Same [.regs, .tal, .gbk, .phs] s0 (writeTaCtl x0 x1 s0) := by
  unfold writeTaCtl
  extract_lets +onlyGivenNames -merge -underBinder s1
  have h2 : Same [.regs, .tal, .gbk, .phs] s0 s1 := by
    unfold s1
    refine Same.comp (same_taForget _ _) (by decide) ?_
    refine Same.comp (same_rput_top _ _ _ (Or.inl (by simp only [A.PHS_TA_CTL]; omega))) (by decide) ?_
    exact Same.refl _ _
  clear_value s1
  refine Same.ite ?_ ?_
  · refine Same.comp (same_taArm _ _) (by decide) ?_
    exact h2
  · exact h2

theorem same_spoilHost (x0 : EccWord) (s0 : State) : Same [.regs, .tal, .gbk, .por, .dry, .dp, .free] s0 (spoilHost x0 s0) := by
  unfold spoilHost
  extract_lets +onlyGivenNames -merge -underBinder v1
  clear_value v1
  refine Same.ite ?_ ?_
  · refine Same.set_gbk (by decide) ?_
    exact Same.refl _ _
  · refine Same.ite ?_ ?_
    · refine Same.comp (same_spoilAllocation _ _) (by decide) ?_
      exact Same.refl _ _
    · refine Same.ite ?_ ?_
      · refine Same.comp (same_fetchDesc _ _ _) (by decide) ?_
        exact Same.refl _ _
      · refine Same.ite ?_ ?_
        · refine Same.comp (same_txReadError _ _) (by decide) ?_
          exact Same.refl _ _
        · exact Same.refl _ _

theorem same_eccEffect (x0 : EccWord) (x1 : Bool) (s0 : State) : Same [.regs, .tal, .gbk, .fab, .por, .dry, .hlt, .dp, .tab, .tmg, .free] s0 (eccEffect x0 x1 s0) := by
  unfold eccEffect
  refine Same.ite ?_ ?_
  · refine Same.comp (same_poisonWord _ _) (by decide) ?_
    exact Same.refl _ _
  · refine Same.ite ?_ ?_
    · refine Same.ite ?_ ?_
      · refine Same.comp (same_poisonWord _ _) (by decide) ?_
        exact Same.refl _ _
      · exact Same.refl _ _
    · refine Same.ite ?_ ?_
      · refine Same.comp (same_spoilCell _ _) (by decide) ?_
        exact Same.refl _ _
      · refine Same.ite ?_ ?_
        · refine Same.comp (same_spoilHost _ _) (by decide) ?_
          exact Same.refl _ _
        · exact Same.refl _ _

theorem same_devRead (x0 : Nat) (s0 : State) : Same [.regs, .hif, .tal, .gbk, .tim, .pin, .tab, .low, .mid] s0 (devRead x0 s0).2.2 := by
  unfold devRead
  refine Same.ite3 ?_ ?_
  · exact Same.refl _ _
  · split
    rename_i a1 s2 e4
    have h3 : Same [.regs, .hif, .tal, .gbk, .tim, .pin, .tab, .low, .mid] s0 s2 := by
      refine Same.of2 e4 ?_
      refine Same.comp (same_dwordRead _ _ _) (by decide) ?_
      exact Same.refl _ _
    exact h3

theorem same_drainFlush (s0 : State) : Same [.regs, .glb, .tal, .gbk, .dp, .tmg, .base, .low] s0 (drainFlush s0) := by
  unfold drainFlush
  extract_lets +onlyGivenNames -merge -underBinder v1 s2 s5 v7 v8 s9 v11 s12
  clear_value v1
  have h3 : Same [.regs, .glb, .tal, .gbk, .dp, .tmg, .base, .low] s0 s2 := by
    unfold s2
    refine same_dropEverywhere_h (by decide) (fun _ _ _ h4 => ?_) ?_
    · exact h4
    exact Same.refl _ _
  clear_value s2
  have h6 : Same [.regs, .glb, .tal, .gbk, .dp, .tmg, .base, .low] s0 s5 := by
    unfold s5
    refine Same.comp (same_dropSending _ _) (by decide) ?_
    exact h3
  clear_value s5
  clear_value v7
  clear_value v8
  have h10 : Same [.regs, .glb, .tal, .gbk, .dp, .tmg, .base, .low] s0 s9 := by
    unfold s9
    refine Same.comp (same_freeCells _) (by decide) ?_
    refine Same.set_dp (by decide) ?_
    exact h6
  clear_value s9
  clear_value v11
  have h13 : Same [.regs, .glb, .tal, .gbk, .dp, .tmg, .base, .low] s0 s12 := by
    unfold s12
    refine Same.comp (same_faddSat_lo _ _ _ (by decide)) (by decide) ?_
    refine Same.comp (same_fput_lo _ _ _ (by decide)) (by decide) ?_
    exact h10
  clear_value s12
  refine Same.comp (same_quiesce _) (by decide) ?_
  refine Same.comp (same_raise _ _ _ _ _) (by decide) ?_
  exact h13

theorem same_refuseSample (x0 : Nat) (x1 : Int) (s0 : State) : Same [.regs, .tal, .gbk, .tim] s0 (refuseSample x0 x1 s0) := by
  unfold refuseSample
  extract_lets +onlyGivenNames -merge -underBinder s1 s3
  have h2 : Same [.regs, .tal, .gbk, .tim] s0 s1 := by
    unfold s1
    refine Same.comp (same_setInt_top _ _ _ (Or.inl (by decide))) (by decide) ?_
    refine Same.comp (same_setJump _ _ _) (by decide) ?_
    refine Same.comp (same_bump _ _ _) (by decide) ?_
    exact Same.refl _ _
  clear_value s1
  have h4 : Same [.regs, .tal, .gbk, .tim] s0 s3 := by
    unfold s3
    refine Same.comp (same_raise _ _ _ _ _) (by decide) ?_
    exact h2
  clear_value s3
  refine Same.ite ?_ ?_
  · refine Same.comp (same_autoSwitch _) (by decide) ?_
    exact h4
  · exact h4

theorem same_recompute (x0 : Nat) (x1 : Pass) (s0 : State) : Same [.regs, .tal, .gbk, .hlt, .dp] s0 (recompute x0 x1 s0) := by
  unfold recompute
  split
  · exact Same.refl _ _
  · extract_lets +onlyGivenNames -merge -underBinder v1 v2 v3 v4
    clear_value v1
    clear_value v2
    clear_value v3
    clear_value v4
    refine Same.ite ?_ ?_
    · refine Same.comp (same_recomputeDrop _ _) (by decide) ?_
      exact Same.refl _ _
    · split
      rename_i a5 s6 e8
      have h7 : Same [.regs, .tal, .gbk, .hlt, .dp] s0 s6 := by
        refine Same.of2 e8 ?_
        refine Same.comp (same_admitCopy _ _ _ _) (by decide) ?_
        refine Same.comp (same_healthCtr _ _ _) (by decide) ?_
        exact Same.refl _ _
      refine Same.ite ?_ ?_
      · exact h7
      · refine Same.comp (same_recomputeDrop _ _) (by decide) ?_
        exact h7

theorem same_phaseSample (x0 : Nat) (x1 : Int) (x2 : Nat) (x3 : Nat) (x4 : Nat) (s0 : State) : Same [.regs, .tal, .gbk, .phs] s0 (phaseSample x0 x1 x2 x3 x4 s0) := by
  unfold phaseSample
  extract_lets +onlyGivenNames -merge -underBinder s1 s3
  have h2 : Same [.regs, .tal, .gbk, .phs] s0 s1 := by
    unfold s1
    refine Same.comp (same_noteError _ _ _) (by decide) ?_
    exact Same.refl _ _
  clear_value s1
  have h4 : Same [.regs, .tal, .gbk, .phs] s0 s3 := by
    unfold s3
    refine Same.comp (same_chooseSource _) (by decide) ?_
    exact h2
  clear_value s3
  refine Same.ite ?_ ?_
  · refine Same.comp (same_phaseRealign _ _ _ _ _ _) (by decide) ?_
    exact h2
  · refine Same.ite ?_ ?_
    · refine Same.ite ?_ ?_
      · refine Same.comp (same_loopUpdate _ _ _ _) (by decide) ?_
        exact h4
      · refine Same.comp (same_phaseLock _ _ _ _ _) (by decide) ?_
        exact h4
    · exact h4

theorem same_writeBaseSub (x0 : Nat) (x1 : Nat) (s0 : State) : Same [.regs, .tal, .gbk, .ldg] s0 (writeBaseSub x0 x1 s0) := by
  unfold writeBaseSub
  extract_lets +onlyGivenNames -merge -underBinder v1 v2 v3 s4 v6 v7 v8 s9
  clear_value v1
  clear_value v2
  clear_value v3
  have h5 : Same [.regs, .tal, .gbk, .ldg] s0 s4 := by
    unfold s4
    refine Same.comp (same_rput_top _ _ _ (Or.inl (by simp only [A.LDG_BASE_SUB]; omega))) (by decide) ?_
    exact Same.refl _ _
  clear_value s4
  clear_value v6
  clear_value v7
  clear_value v8
  have h10 : Same [.regs, .tal, .gbk, .ldg] s0 s9 := by
    unfold s9
    refine Same.comp (same_putLedger _ _ _ _) (by decide) ?_
    exact h5
  clear_value s9
  refine Same.ite ?_ ?_
  · refine Same.ite ?_ ?_
    · exact h10
    · refine Same.comp (same_resolveLedger _ _ _) (by decide) ?_
      exact h10
  · refine Same.comp (same_setInt_top _ _ _ (Or.inl (by decide))) (by decide) ?_
    exact Same.refl _ _

theorem same_bridgeCopies (x0 : Nat) (x1 : Frame) (x2 : Pass) (x3 : Copy) (s0 : State) : Same [.regs, .glb, .tal, .gbk] s0 (bridgeCopies x0 x1 x2 x3 s0).2 := by
  unfold bridgeCopies
  refine Same.ite2 ?_ ?_
  · refine Same.comp (same_badDest _ _ _ _) (by decide) ?_
    exact Same.refl _ _
  · refine Same.ite2 ?_ ?_
    · refine Same.comp (same_fdbCtr _ _ _) (by decide) ?_
      exact Same.refl _ _
    · split
      · refine Same.comp (same_floodCopies _ _ _ _ _) (by decide) ?_
        exact Same.refl _ _
      · refine Same.ite2 ?_ ?_
        · refine Same.comp (same_floodCopies _ _ _ _ _) (by decide) ?_
          exact Same.refl _ _
        · refine Same.ite2 ?_ ?_
          · refine Same.ite2 ?_ ?_
            · refine Same.comp (same_fdbCtr _ _ _) (by decide) ?_
              exact Same.refl _ _
            · refine Same.ite2 ?_ ?_
              · refine Same.comp (same_badDest _ _ _ _) (by decide) ?_
                exact Same.refl _ _
              · exact Same.refl _ _
          · refine Same.ite2 ?_ ?_
            · refine Same.ite2 ?_ ?_
              · refine Same.comp (same_fdbCtr _ _ _) (by decide) ?_
                exact Same.refl _ _
              · refine Same.comp (same_tunnelCopy _ _ _ _ _) (by decide) ?_
                exact Same.refl _ _
            · refine Same.ite2 ?_ ?_
              · refine Same.ite2 ?_ ?_
                · refine Same.comp (same_fdbCtr _ _ _) (by decide) ?_
                  exact Same.refl _ _
                · refine Same.comp (same_lagCopy _ _ _ _ _ _) (by decide) ?_
                  exact Same.refl _ _
              · refine Same.ite2 ?_ ?_
                · refine Same.comp (same_replCopies _ _ _ _ _) (by decide) ?_
                  exact Same.refl _ _
                · refine Same.ite2 ?_ ?_
                  · exact Same.refl _ _
                  · refine Same.comp (same_badDest _ _ _ _) (by decide) ?_
                    exact Same.refl _ _

theorem same_txComplete (x0 : Nat) (s0 : State) : Same [.regs, .mem, .tal, .gbk, .por, .dry] s0 (txComplete x0 s0) := by
  unfold txComplete
  extract_lets +onlyGivenNames -merge -underBinder v1
  clear_value v1
  split
  · refine Same.ite ?_ ?_
    · exact Same.refl _ _
    · refine Same.comp (same_completeDesc _ _ _) (by decide) ?_
      refine Same.comp (same_putTxCh _ _ _) (by decide) ?_
      refine Same.comp (same_writeTaken _ _) (by decide) ?_
      exact Same.refl _ _
  · exact Same.refl _ _

theorem same_timingOf (x0 : Nat) (s0 : State) : Same [.regs, .frg, .tal, .gbk, .tim, .phs, .low, .mid] s0 (timingOf x0 s0) := by
  unfold timingOf
  extract_lets +onlyGivenNames -merge -underBinder v1
  clear_value v1
  split
  · extract_lets +onlyGivenNames -merge -underBinder v2
    refine Same.ite ?_ ?_
    · exact Same.refl _ _
    · refine Same.comp (same_loadTiming _ _) (by decide) ?_
      refine Same.set_frg (by decide) (Or.inr rfl) ?_
      exact Same.refl _ _
  · exact Same.refl _ _

theorem same_writeGate (x0 : Nat) (x1 : Nat) (x2 : List Nat) (s0 : State) : Same [.regs, .tal, .gbk, .ldg] s0 (writeGate x0 x1 x2 s0) := by
  unfold writeGate
  extract_lets +onlyGivenNames -merge -underBinder s1
  have h2 : Same [.regs, .tal, .gbk, .ldg] s0 s1 := by
    unfold s1
    refine Same.comp (same_putGate _ _ _ _) (by decide) ?_
    exact Same.refl _ _
  clear_value s1
  refine Same.ite ?_ ?_
  · refine Same.comp (same_resolveGate _ _ _) (by decide) ?_
    exact h2
  · exact h2

theorem same_admitPlanned (x0 : Planned) (s0 : State) : Same [.regs, .glb, .tal, .gbk, .dp] s0 (admitPlanned x0 s0) := by
  unfold admitPlanned
  split
  · refine Same.ite ?_ ?_
    · split
      rename_i a1 s2 e4
      have h3 : Same [.regs, .glb, .tal, .gbk, .dp] s0 s2 := by
        refine Same.of2 e4 ?_
        refine Same.comp (same_admitBudget _ _ _) (by decide) ?_
        exact Same.refl _ _
      refine Same.ite ?_ ?_
      · refine Same.comp (same_admitCopy _ _ _ _) (by decide) ?_
        exact h3
      · exact h3
    · refine Same.comp (same_admitCopy _ _ _ _) (by decide) ?_
      exact Same.refl _ _

theorem same_abortOp (s0 : State) : Same [.regs, .glb, .frg, .tal, .gbk, .ldg, .fab, .tab, .base, .act, .low] s0 (abortOp s0) := by
  unfold abortOp
  refine Same.ite ?_ ?_
  · refine Same.comp (same_endLoad _ _) (by decide) ?_
    exact Same.refl _ _
  · refine Same.ite ?_ ?_
    · refine Same.comp (same_frgResult _ _) (by decide) ?_
      refine Same.comp (same_discardShadow _) (by decide) ?_
      exact Same.refl _ _
    · refine Same.comp (same_frgResult _ _) (by decide) ?_
      exact Same.refl _ _

theorem same_msgSample (x0 : Nat) (x1 : Nat) (s0 : State) : Same [.regs, .tal, .gbk, .phs] s0 (msgSample x0 x1 s0) := by
  unfold msgSample
  extract_lets +onlyGivenNames -merge -underBinder v1 v2 v3 s4 v6 v7 s8 v10
  clear_value v1
  clear_value v2
  clear_value v3
  have h5 : Same [.regs, .tal, .gbk, .phs] s0 s4 := by
    unfold s4
    refine Same.comp (same_bump _ _ _) (by decide) ?_
    exact Same.refl _ _
  clear_value s4
  clear_value v6
  clear_value v7
  have h9 : Same [.regs, .tal, .gbk, .phs] s0 s8 := by
    unfold s8
    refine Same.set_phs (by decide) ?_
    exact h5
  clear_value s8
  clear_value v10
  refine Same.ite ?_ ?_
  · refine Same.comp (same_bump _ _ _) (by decide) ?_
    exact Same.refl _ _
  · refine Same.ite ?_ ?_
    · refine Same.comp (same_bump _ _ _) (by decide) ?_
      refine Same.comp (same_chooseSource _) (by decide) ?_
      refine Same.comp (same_noteError _ _ _) (by decide) ?_
      exact Same.refl _ _
    · split
      · refine Same.comp (same_chooseSource _) (by decide) ?_
        refine Same.comp (same_noteError _ _ _) (by decide) ?_
        exact h9
      · extract_lets +onlyGivenNames -merge -underBinder v11 v12 v13 s14
        clear_value v11
        clear_value v12
        clear_value v13
        have h15 : Same [.regs, .tal, .gbk, .phs] s0 s14 := by
          unfold s14
          refine Same.comp (same_setQual _ _ _) (by decide) ?_
          exact h9
        clear_value s14
        refine Same.ite ?_ ?_
        · refine Same.comp (same_phaseSample _ _ _ _ _ _) (by decide) ?_
          exact h15
        · refine Same.comp (same_chooseSource _) (by decide) ?_
          refine Same.comp (same_noteError _ _ _) (by decide) ?_
          exact h15

theorem same_admitAll (x0 : List Planned) (s0 : State) : Same [.regs, .glb, .tal, .gbk, .dp] s0 (admitAll x0 s0) := by
  unfold admitAll
  refine Same.foldl (fun _ _ h1 => ?_) ?_
  · refine Same.comp (same_admitPlanned _ _) (by decide) ?_
    exact h1
  exact Same.refl _ _

theorem same_writeTa (x0 : Nat) (x1 : Nat) (s0 : State) : Same [.regs, .tal, .gbk, .phs, .low, .mid] s0 (writeTa x0 x1 s0) := by
  unfold writeTa
  extract_lets +onlyGivenNames -merge -underBinder v1
  clear_value v1
  refine Same.ite ?_ ?_
  · refine Same.ite ?_ ?_
    · exact Same.refl _ _
    · refine Same.comp (same_lockedWrite _ _) (by decide) ?_
      exact Same.refl _ _
  · refine Same.ite ?_ ?_
    · refine Same.comp (same_writeTaCtl _ _ _) (by decide) ?_
      exact Same.refl _ _
    · refine Same.comp (same_writeRw _ _ _) (by decide) ?_
      exact Same.refl _ _

theorem same_temperTimeout (s0 : State) : Same [.regs, .frg, .tal, .gbk, .fab, .por, .dry, .dp, .tmg, .act, .low] s0 (temperTimeout s0) := by
  unfold temperTimeout
  extract_lets +onlyGivenNames -merge -underBinder v1 s2
  have h3 : Same [.regs, .frg, .tal, .gbk, .fab, .por, .dry, .dp, .tmg, .act, .low] s0 s2 := by
    unfold s2
    refine Same.comp (same_setInt_lo _ _ _ (by decide)) (by decide) ?_
    refine Same.set_frg (by decide) (Or.inr rfl) ?_
    exact Same.refl _ _
  clear_value s2
  refine Same.ite ?_ ?_
  · refine Same.comp (same_fput_lo _ _ _ (by decide)) (by decide) ?_
    exact h3
  · refine Same.comp (same_flushOld _) (by decide) ?_
    exact h3

theorem same_taAction (x0 : Nat) (s0 : State) : Same [.regs, .tal, .gbk, .pin] s0 (taAction x0 s0) := by
  unfold taAction
  extract_lets +onlyGivenNames -merge -underBinder v1 v2
  clear_value v1
  clear_value v2
  refine Same.ite ?_ ?_
  · refine Same.comp (same_takeSnapshot _ _ _) (by decide) ?_
    exact Same.refl _ _
  · refine Same.ite ?_ ?_
    · refine Same.comp (same_gpioPulse _ _ _ _) (by decide) ?_
      exact Same.refl _ _
    · refine Same.ite ?_ ?_
      · refine Same.comp (same_raise _ _ _ _ _) (by decide) ?_
        exact Same.refl _ _
      · refine Same.ite ?_ ?_
        · refine Same.comp (same_setInt_top _ _ _ (Or.inl (by decide))) (by decide) ?_
          exact Same.refl _ _
        · exact Same.refl _ _

theorem same_timeSample (x0 : Nat) (x1 : Int) (x2 : Nat) (s0 : State) : Same [.regs, .tal, .gbk, .tim, .phs] s0 (timeSample x0 x1 x2 s0) := by
  unfold timeSample
  extract_lets +onlyGivenNames -merge -underBinder v1 v2 v3 v4 v5
  clear_value v1
  clear_value v2
  clear_value v3
  clear_value v4
  clear_value v5
  refine Same.ite ?_ ?_
  · refine Same.comp (same_bump _ _ _) (by decide) ?_
    exact Same.refl _ _
  · refine Same.ite ?_ ?_
    · refine Same.comp (same_refuseSample _ _ _) (by decide) ?_
      exact Same.refl _ _
    · refine Same.comp (same_acceptSample _ _ _) (by decide) ?_
      exact Same.refl _ _

theorem same_placeEntry (x0 : Nat) (x1 : Nat) (x2 : Nat) (x3 : Nat) (x4 : List Nat) (s0 : State) : Same [.regs, .tal, .gbk, .ldg, .hlt, .tab] s0 (placeEntry x0 x1 x2 x3 x4 s0) := by
  unfold placeEntry
  refine Same.ite ?_ ?_
  · refine Same.comp (same_writeGate _ _ _ _) (by decide) ?_
    exact Same.refl _ _
  · refine Same.ite ?_ ?_
    · refine Same.ite ?_ ?_
      · refine Same.comp (same_putEntry _ _ _ _ _ _) (by decide) ?_
        refine Same.comp (same_putEntry _ _ _ _ _ _) (by decide) ?_
        exact Same.refl _ _
      · refine Same.comp (same_putEntry _ _ _ _ _ _) (by decide) ?_
        exact Same.refl _ _
    · refine Same.ite ?_ ?_
      · refine Same.comp (same_hostEntry _ _ _ _ _) (by decide) ?_
        exact Same.refl _ _
      · refine Same.ite ?_ ?_
        · refine Same.comp (same_hostEntry _ _ _ _ _) (by decide) ?_
          exact Same.refl _ _
        · refine Same.comp (same_hostEntry _ _ _ _ _) (by decide) ?_
          exact Same.refl _ _

theorem same_failReceptions (x0 : Nat) (s0 : State) : Same [.regs, .tal, .gbk, .fab, .pin, .prt, .dp, .tmg] s0 (failReceptions x0 s0) := by
  unfold failReceptions
  extract_lets +onlyGivenNames -merge -underBinder s1 s3 v5
  have h2 : Same [.regs, .tal, .gbk, .fab, .pin, .prt, .dp, .tmg] s0 s1 := by
    unfold s1
    split
    · refine Same.comp (same_arrive _ _ _ _ _ _ _) (by decide) ?_
      exact Same.refl _ _
    · exact Same.refl _ _
  clear_value s1
  have h4 : Same [.regs, .tal, .gbk, .fab, .pin, .prt, .dp, .tmg] s0 s3 := by
    unfold s3
    refine Same.comp (same_failAll _ _ _) (by decide) ?_
    exact h2
  clear_value s3
  clear_value v5
  refine Same.comp (same_putPort _ _ _) (by decide) ?_
  exact h4

theorem same_tblDoWrite (x0 : Nat) (x1 : Nat) (x2 : Nat) (x3 : Nat) (s0 : State) : Same [.regs, .tal, .gbk, .ldg, .hlt, .tab] s0 (tblDoWrite x0 x1 x2 x3 s0).2 := by
  unfold tblDoWrite
  extract_lets +onlyGivenNames -merge -underBinder v1 v2 v3
  clear_value v1
  clear_value v2
  clear_value v3
  refine Same.ite2 ?_ ?_
  · exact Same.refl _ _
  · refine Same.ite2 ?_ ?_
    · exact Same.refl _ _
    · refine Same.ite2 ?_ ?_
      · exact Same.refl _ _
      · refine Same.comp (same_placeEntry _ _ _ _ _ _) (by decide) ?_
        exact Same.refl _ _

theorem same_failWith_h {T : List Part} {s x : State} {x0 : Nat → State → State} {x1 : Nat} (m : [Part.regs, Part.glb, Part.frg, Part.tal, Part.gbk, Part.ldg, Part.tab, Part.base, Part.act, Part.low].all (fun p => T.contains p) = true)
    (k : ∀ n y, Same T s y → Same T s (x0 n y)) (h : Same T s x) : Same T s (failWith x0 x1 x) := by
  unfold failWith
  split
  · exact h
  · refine same_slotFailed_h (Same.all_sub m (by decide)) k ?_
    exact Same.comp (same_failRecords _ _) (Same.all_sub m (by decide)) (Same.comp (same_endLoad _ _) (Same.all_sub m (by decide)) h)

theorem same_resetRollback (s0 : State) : Same [.regs, .frg, .tal, .gbk, .tim, .phs, .fab, .act, .low, .mid] s0 (resetRollback s0) := by
  unfold resetRollback
  extract_lets +onlyGivenNames -merge -underBinder v1 s2 s4 v7 s8
  clear_value v1
  have h3 : Same [.regs, .frg, .tal, .gbk, .tim, .phs, .fab, .act, .low, .mid] s0 s2 := by
    unfold s2
    refine Same.comp (same_timingOf _ _) (by decide) ?_
    exact Same.refl _ _
  clear_value s2
  have h5 : Same [.regs, .frg, .tal, .gbk, .tim, .phs, .fab, .act, .low, .mid] s0 s4 := by
    unfold s4
    refine Same.foldl (fun _ _ h6 => ?_) ?_
    · refine Same.comp (same_setBank _ _ _) (by decide) ?_
      exact h6
    exact h3
  clear_value s4
  have h9 : Same [.regs, .frg, .tal, .gbk, .tim, .phs, .fab, .act, .low, .mid] s0 s8 := by
    unfold s8
    refine Same.set_frg (by decide) (Or.inl (by decide)) ?_
    exact h5
  clear_value s8
  refine Same.ite ?_ ?_
  · refine Same.comp (same_raise _ _ _ _ _) (by decide) ?_
    refine Same.comp (same_showBases _) (by decide) ?_
    refine Same.comp (same_discardShadow _) (by decide) ?_
    exact h9
  · exact Same.refl _ _

theorem same_trigSnapshot (x0 : Nat) (x1 : Nat) (x2 : Nat) (x3 : Bool) (s0 : State) : Same [.regs, .tal, .gbk, .phs, .fab] s0 (trigSnapshot x0 x1 x2 x3 s0).2 := by
  unfold trigSnapshot
  split
  · exact Same.refl _ _
  · extract_lets +onlyGivenNames -merge -underBinder s1 s3
    have h2 : Same [.regs, .tal, .gbk, .phs, .fab] s0 s1 := by
      unfold s1
      refine Same.comp (same_rput_top _ _ _ (Or.inl (by simp only [A.PHS_TA_ARG]; omega))) (by decide) ?_
      refine Same.comp (same_latchInstant_top _ _ _ (by simp only [A.PHS_TA_CYCLE_HI]; omega)) (by decide) ?_
      exact Same.refl _ _
    clear_value s1
    have h4 : Same [.regs, .tal, .gbk, .phs, .fab] s0 s3 := by
      unfold s3
      refine Same.comp (same_writeTaCtl _ _ _) (by decide) ?_
      refine Same.comp (same_noteArmed _ _ _) (by decide) ?_
      exact h2
    clear_value s3
    exact h4

theorem same_porStart (x0 : Nat) (x1 : Nat) (x2 : Nat) (s0 : State) : Same [.regs, .tal, .gbk, .por, .mid] s0 (porStart x0 x1 x2 s0) := by
  unfold porStart
  extract_lets +onlyGivenNames -merge -underBinder v1
  clear_value v1
  refine Same.ite ?_ ?_
  · refine Same.comp (same_porBusyWrite _ _) (by decide) ?_
    exact Same.refl _ _
  · refine Same.comp (same_fput_top _ _ _ (Or.inl (by decide))) (by decide) ?_
    refine Same.comp (same_fput_top _ _ _ (Or.inl (by decide))) (by decide) ?_
    refine Same.set_por (by decide) ?_
    exact Same.refl _ _

theorem same_waitLook (x0 : List Nat) (s0 : State) : Same [.regs, .hif, .tal, .gbk, .tim, .pin, .tab, .low, .mid] s0 (waitLook x0 s0).2.2 := by
  unfold waitLook
  extract_lets +onlyGivenNames -merge -underBinder v1 v2
  clear_value v1
  clear_value v2
  refine Same.ite3 ?_ ?_
  · refine Same.ite3 ?_ ?_
    · exact Same.refl _ _
    · split
      rename_i a3 a4 s5 e7
      have h6 : Same [.regs, .hif, .tal, .gbk, .tim, .pin, .tab, .low, .mid] s0 s5 := by
        refine Same.of3 e7 ?_
        refine Same.comp (same_devRead _ _) (by decide) ?_
        exact Same.refl _ _
      exact h6
  · refine Same.ite3 ?_ ?_
    · exact Same.refl _ _
    · exact Same.refl _ _

theorem same_learnIn (x0 : Nat) (x1 : Learn) (s0 : State) : Same [.regs, .glb, .tal, .gbk, .tab] s0 (learnIn x0 x1 s0).2 := by
  unfold learnIn
  split
  · refine Same.comp (same_learnKnown _ _ _ _) (by decide) ?_
    exact Same.refl _ _
  · split
    · exact Same.refl _ _
    · split
      · split
        · refine Same.comp (same_learnNew _ _ _ _) (by decide) ?_
          exact Same.refl _ _
        · refine Same.comp (same_moverAdd _ _ _) (by decide) ?_
          refine Same.comp (same_fdbCtr _ _ _) (by decide) ?_
          exact Same.refl _ _

theorem same_eccUncorrectable (x0 : EccWord) (x1 : Bool) (s0 : State) : Same [.regs, .tal, .gbk, .fab, .por, .dry, .hlt, .dp, .tab, .tmg, .free] s0 (eccUncorrectable x0 x1 s0) := by
  unfold eccUncorrectable
  extract_lets +onlyGivenNames -merge -underBinder s1 s3
  have h2 : Same [.regs, .tal, .gbk, .fab, .por, .dry, .hlt, .dp, .tab, .tmg, .free] s0 s1 := by
    unfold s1
    refine Same.comp (same_eccCapture _ _) (by decide) ?_
    refine Same.comp (same_bump _ _ _) (by decide) ?_
    exact Same.refl _ _
  clear_value s1
  have h4 : Same [.regs, .tal, .gbk, .fab, .por, .dry, .hlt, .dp, .tab, .tmg, .free] s0 s3 := by
    unfold s3
    refine Same.comp (same_setInt_top _ _ _ (Or.inl (by decide))) (by decide) ?_
    refine Same.ite ?_ ?_
    · refine Same.comp (same_setInt_top _ _ _ (Or.inl (by simp only [A.HTH_INT_STAT]; omega))) (by decide) ?_
      exact h2
    · exact h2
  clear_value s3
  refine Same.comp (same_raise _ _ _ _ _) (by decide) ?_
  refine Same.comp (same_eccEffect _ _ _) (by decide) ?_
  exact h4

theorem same_autoBase (s0 : State) : Same [.regs, .glb, .tal, .gbk, .dp, .tmg, .base, .low] s0 (autoBase s0) := by
  unfold autoBase
  refine Same.ite ?_ ?_
  · refine Same.comp (same_endWake _) (by decide) ?_
    exact Same.refl _ _
  · refine Same.ite ?_ ?_
    · refine Same.ite ?_ ?_
      · refine Same.comp (same_quiesce _) (by decide) ?_
        exact Same.refl _ _
      · refine Same.ite ?_ ?_
        · refine Same.comp (same_drainFlush _) (by decide) ?_
          exact Same.refl _ _
        · exact Same.refl _ _
    · exact Same.refl _ _

theorem same_waitComplete (x0 : Nat) (s0 : State) : Same [.regs, .hif, .tal, .gbk, .tim, .dry, .pin, .tab, .low, .mid] s0 (waitComplete x0 s0) := by
  unfold waitComplete
  extract_lets +onlyGivenNames -merge -underBinder v1 v2
  clear_value v1
  clear_value v2
  refine Same.ite ?_ ?_
  · exact Same.refl _ _
  · split
    rename_i a3 a4 s5 e7
    have h6 : Same [.regs, .hif, .tal, .gbk, .tim, .dry, .pin, .tab, .low, .mid] s0 s5 := by
      refine Same.of3 e7 ?_
      refine Same.comp (same_waitLook _ _) (by decide) ?_
      refine Same.comp (same_errTaken _ _) (by decide) ?_
      exact Same.refl _ _
    extract_lets +onlyGivenNames -merge -underBinder v8
    clear_value v8
    refine Same.ite ?_ ?_
    · refine Same.comp (same_errHalt _ _ _) (by decide) ?_
      refine Same.comp (same_waitOver _ _) (by decide) ?_
      exact h6
    · refine Same.ite ?_ ?_
      · refine Same.comp (same_errNext _ _) (by decide) ?_
        refine Same.comp (same_setChan _ _ _) (by decide) ?_
        refine Same.comp (same_waitOver _ _) (by decide) ?_
        exact h6
      · refine Same.comp (same_putErr _ _ _) (by decide) ?_
        exact h6

theorem same_stage266 (x0 : Nat) (x1 : Frame) (x2 : Pass) (s0 : State) : Same [.regs, .glb, .tal, .gbk, .tab] s0 (stage266 x0 x1 x2 s0).2 := by
  unfold stage266
  split
  rename_i a1 s2 e4
  have h3 : Same [.regs, .glb, .tal, .gbk, .tab] s0 s2 := by
    refine Same.of2 e4 ?_
    split
    · refine Same.comp (same_learnIn _ _ _) (by decide) ?_
      exact Same.refl _ _
    · exact Same.refl _ _
  extract_lets +onlyGivenNames -merge -underBinder v5
  clear_value v5
  split
  · refine Same.ite2 ?_ ?_
    · refine Same.comp (same_followWrite _ _ _) (by decide) ?_
      exact h3
    · exact h3
  · exact h3

theorem same_reassembled (x0 : Nat) (x1 : Reasm) (s0 : State) : Same [.regs, .tal, .gbk, .fab, .pin, .prt, .dp, .tmg] s0 (reassembled x0 x1 s0) := by
  unfold reassembled
  extract_lets +onlyGivenNames -merge -underBinder v1 s2
  clear_value v1
  have h3 : Same [.regs, .tal, .gbk, .fab, .pin, .prt, .dp, .tmg] s0 s2 := by
    unfold s2
    refine Same.comp (same_putPort _ _ _) (by decide) ?_
    exact Same.refl _ _
  clear_value s2
  split
  rename_i a4 s5 e7
  have h6 : Same [.regs, .tal, .gbk, .fab, .pin, .prt, .dp, .tmg] s0 s5 := by
    refine Same.of2 e7 ?_
    refine Same.comp (same_arrive _ _ _ _ _ _ _) (by decide) ?_
    exact h3
  refine Same.comp (same_receiveEnd _ _ _ _) (by decide) ?_
  exact h6

theorem same_errReadError (x0 : Nat) (s0 : State) : Same [.regs, .tal, .gbk, .dry, .free] s0 (errReadError x0 s0) := by
  unfold errReadError
  extract_lets +onlyGivenNames -merge -underBinder v1 v2
  clear_value v1
  clear_value v2
  refine Same.ite ?_ ?_
  · refine Same.ite ?_ ?_
    · refine Same.comp (same_errHalt _ _ _) (by decide) ?_
      refine Same.comp (same_waitOver _ _) (by decide) ?_
      exact Same.refl _ _
    · exact Same.refl _ _
  · refine Same.ite ?_ ?_
    · exact Same.refl _ _
    · refine Same.ite ?_ ?_
      · refine Same.ite ?_ ?_
        · refine Same.comp (same_errHalt _ _ _) (by decide) ?_
          exact Same.refl _ _
        · exact Same.refl _ _
      · refine Same.ite ?_ ?_
        · refine Same.comp (same_moveReadError _ _ _) (by decide) ?_
          exact Same.refl _ _
        · refine Same.comp (same_errHalt _ _ _) (by decide) ?_
          exact Same.refl _ _

theorem same_reasmStep (x0 : Nat) (x1 : Reasm) (x2 : Fragment) (s0 : State) : Same [.regs, .tal, .gbk, .fab, .pin, .prt, .dp, .tmg] s0 (reasmStep x0 x1 x2 s0) := by
  unfold reasmStep
  extract_lets +onlyGivenNames -merge -underBinder v1 v2
  clear_value v1
  clear_value v2
  refine Same.ite ?_ ?_
  · refine Same.comp (same_reassembled _ _ _) (by decide) ?_
    exact Same.refl _ _
  · refine Same.ite ?_ ?_
    · refine Same.comp (same_reasmError _ _) (by decide) ?_
      exact Same.refl _ _
    · refine Same.comp (same_putPort _ _ _) (by decide) ?_
      exact Same.refl _ _

theorem same_resolveArmed (x0 : List Nat) (x1 : Nat) (s0 : State) : Same [.regs, .tal, .gbk, .ldg] s0 (resolveArmed x0 x1 s0) := by
  unfold resolveArmed
  refine Same.ite ?_ ?_
  · refine Same.foldl (fun _ _ h1 => ?_) ?_
    · refine Same.ite ?_ ?_
      · refine Same.comp (same_resolveLedger _ _ _) (by decide) ?_
        exact h1
      · exact h1
    exact Same.refl _ _
  · refine Same.comp (same_resolveBank _ _ _) (by decide) ?_
    exact Same.refl _ _

theorem same_resolveWaiting (s0 : State) : Same [.regs, .tal, .gbk, .ldg] s0 (resolveWaiting s0) := by
  unfold resolveWaiting
  extract_lets +onlyGivenNames -merge -underBinder s1
  have h2 : Same [.regs, .tal, .gbk, .ldg] s0 s1 := by
    unfold s1
    refine Same.foldl (fun _ _ h3 => ?_) ?_
    · refine Same.ite ?_ ?_
      · refine Same.comp (same_resolveLedger _ _ _) (by decide) ?_
        exact h3
      · exact h3
    exact Same.refl _ _
  clear_value s1
  refine Same.foldl (fun _ _ h4 => ?_) ?_
  · refine Same.ite ?_ ?_
    · refine Same.comp (same_resolveGate _ _ _) (by decide) ?_
      exact h4
    · exact h4
  exact h2

theorem same_fabricReset (s0 : State) : Same [.regs, .tal, .gbk, .fab] s0 (fabricReset s0) := by
  unfold fabricReset
  extract_lets +onlyGivenNames -merge -underBinder s1 v4
  have h2 : Same [.regs, .tal, .gbk, .fab] s0 s1 := by
    unfold s1
    refine Same.foldl (fun _ _ h3 => ?_) ?_
    · refine Same.comp (same_fabLinkDown _ _) (by decide) ?_
      exact h3
    exact Same.refl _ _
  clear_value s1
  clear_value v4
  refine Same.set_fab (by decide) ?_
  exact h2

theorem same_hostMessage (x0 : Nat) (x1 : Frame) (s0 : State) : Same [.regs, .glb, .tal, .gbk, .fab, .dp] s0 (hostMessage x0 x1 s0) := by
  unfold hostMessage
  extract_lets +onlyGivenNames -merge -underBinder v1
  clear_value v1
  refine Same.ite ?_ ?_
  · refine Same.ite ?_ ?_
    · refine Same.comp (same_raise _ _ _ _ _) (by decide) ?_
      refine Same.comp (same_setInt_top _ _ _ (Or.inl (by decide))) (by decide) ?_
      refine Same.comp (same_bump _ _ _) (by decide) ?_
      exact Same.refl _ _
    · refine Same.comp (same_bump _ _ _) (by decide) ?_
      refine Same.set_fab (by decide) ?_
      exact Same.refl _ _
  · refine Same.comp (same_admitPlanned _ _) (by decide) ?_
    exact Same.refl _ _

theorem same_trackerLoss (x0 : Nat) (s0 : State) : Same [.regs, .tal, .gbk, .tim, .phs] s0 (trackerLoss x0 s0) := by
  unfold trackerLoss
  extract_lets +onlyGivenNames -merge -underBinder v1 v2 s3 s5
  clear_value v1
  clear_value v2
  have h4 : Same [.regs, .tal, .gbk, .tim, .phs] s0 s3 := by
    unfold s3
    refine Same.comp (same_idleTrk _ _) (by decide) ?_
    exact Same.refl _ _
  clear_value s3
  have h6 : Same [.regs, .tal, .gbk, .tim, .phs] s0 s5 := by
    unfold s5
    refine Same.comp (same_autoSwitch _) (by decide) ?_
    exact h4
  clear_value s5
  refine Same.ite ?_ ?_
  · exact Same.refl _ _
  · refine Same.ite ?_ ?_
    · refine Same.comp (same_checkLost _) (by decide) ?_
      exact Same.refl _ _
    · refine Same.ite ?_ ?_
      · refine Same.comp (same_checkLost _) (by decide) ?_
        exact h6
      · exact h4

theorem same_insertBegin (x0 : Nat) (x1 : Nat) (x2 : MoverJob) (s0 : State) : Same [.regs, .glb, .tal, .gbk, .hlt, .tab, .free] s0 (insertBegin x0 x1 x2 s0) := by
  unfold insertBegin
  refine Same.ite ?_ ?_
  · refine Same.comp (same_insertPresent _ _) (by decide) ?_
    exact Same.refl _ _
  · split
    · refine Same.comp (same_insertFails _ _ _) (by decide) ?_
      exact Same.refl _ _
    · split
      · split
        · refine Same.comp (same_insertDone _ _ _ _ _) (by decide) ?_
          exact Same.refl _ _
        · extract_lets +onlyGivenNames -merge -underBinder v1 s2
          clear_value v1
          have h3 : Same [.regs, .glb, .tal, .gbk, .hlt, .tab, .free] s0 s2 := by
            unfold s2
            refine Same.set_free (by decide) ?_
            exact Same.refl _ _
          clear_value s2
          split
          · refine Same.comp (same_insertFails _ _ _) (by decide) ?_
            exact h3
          · refine Same.comp (same_putJob _ _ _ _) (by decide) ?_
            exact h3

theorem same_clearSafeOp (s0 : State) : Same [.regs, .glb, .tal, .gbk, .dp, .tmg, .base, .low] s0 (clearSafeOp s0) := by
  unfold clearSafeOp
  extract_lets +onlyGivenNames -merge -underBinder s1 v3 s4
  have h2 : Same [.regs, .glb, .tal, .gbk, .dp, .tmg, .base, .low] s0 s1 := by
    unfold s1
    refine Same.comp (same_autoBase _) (by decide) ?_
    exact Same.refl _ _
  clear_value s1
  clear_value v3
  have h5 : Same [.regs, .glb, .tal, .gbk, .dp, .tmg, .base, .low] s0 s4 := by
    unfold s4
    refine Same.comp (same_glbResult _ _) (by decide) ?_
    refine Same.comp (same_rput_lo _ _ _ (by decide)) (by decide) ?_
    exact h2
  clear_value s4
  refine Same.ite ?_ ?_
  · refine Same.comp (same_glbResult _ _) (by decide) ?_
    exact h2
  · refine Same.ite ?_ ?_
    · refine Same.comp (same_raise _ _ _ _ _) (by decide) ?_
      exact h5
    · exact h5

theorem same_stopCopy (x0 : Nat) (x1 : Nat) (x2 : Nat) (x3 : Copy) (s0 : State) : Same [.regs, .glb, .tal, .gbk, .dp, .tmg] s0 (stopCopy x0 x1 x2 x3 s0) := by
  unfold stopCopy
  extract_lets +onlyGivenNames -merge -underBinder s1 v3 v4 s5
  have h2 : Same [.regs, .glb, .tal, .gbk, .dp, .tmg] s0 s1 := by
    unfold s1
    refine Same.comp (same_returnCharges _ _ _ _) (by decide) ?_
    exact Same.refl _ _
  clear_value s1
  clear_value v3
  clear_value v4
  have h6 : Same [.regs, .glb, .tal, .gbk, .dp, .tmg] s0 s5 := by
    unfold s5
    refine Same.comp (same_raise _ _ _ _ _) (by decide) ?_
    refine Same.comp (same_setInt_top _ _ _ (Or.inl (by decide))) (by decide) ?_
    refine Same.comp (same_ferryCtr _ _ _) (by decide) ?_
    exact h2
  clear_value s5
  refine Same.ite ?_ ?_
  · refine Same.comp (same_raise _ _ _ _ _) (by decide) ?_
    refine Same.comp (same_setInt_top _ _ _ (Or.inl (by decide))) (by decide) ?_
    refine Same.comp (same_ferryCtr _ _ _) (by decide) ?_
    exact h2
  · refine Same.ite ?_ ?_
    · refine Same.comp (same_ferryCtr _ _ _) (by decide) ?_
      exact h2
    · refine Same.ite ?_ ?_
      · refine Same.comp (same_admitPlanned _ _) (by decide) ?_
        exact h6
      · refine Same.comp (same_bump _ _ _) (by decide) ?_
        exact h2

theorem same_nominalSample (s0 : State) : Same [.regs, .tal, .gbk, .phs] s0 (nominalSample s0) := by
  unfold nominalSample
  extract_lets +onlyGivenNames -merge -underBinder v1 v2 v3
  clear_value v1
  clear_value v2
  clear_value v3
  refine Same.comp (same_phaseSample _ _ _ _ _ _) (by decide) ?_
  exact Same.refl _ _

theorem same_waitOp (x0 : Nat) (x1 : List Nat) (s0 : State) : Same [.regs, .hif, .tal, .gbk, .tim, .dry, .pin, .tab, .low, .mid] s0 (waitOp x0 x1 s0) := by
  unfold waitOp
  refine Same.ite ?_ ?_
  · exact Same.refl _ _
  · split
    rename_i a1 a2 s3 e5
    have h4 : Same [.regs, .hif, .tal, .gbk, .tim, .dry, .pin, .tab, .low, .mid] s0 s3 := by
      refine Same.of3 e5 ?_
      refine Same.comp (same_waitLook _ _) (by decide) ?_
      refine Same.comp (same_errTaken _ _) (by decide) ?_
      exact Same.refl _ _
    extract_lets +onlyGivenNames -merge -underBinder v6
    clear_value v6
    refine Same.ite ?_ ?_
    · refine Same.comp (same_errHalt _ _ _) (by decide) ?_
      exact h4
    · refine Same.ite ?_ ?_
      · refine Same.comp (same_errNext _ _) (by decide) ?_
        exact h4
      · refine Same.comp (same_setChan _ _ _) (by decide) ?_
        refine Same.comp (same_putErr _ _ _) (by decide) ?_
        exact h4

theorem same_ppsInEdge (s0 : State) : Same [.regs, .tal, .gbk, .tim, .phs] s0 (ppsInEdge s0) := by
  unfold ppsInEdge
  extract_lets +onlyGivenNames -merge -underBinder v1 v2 s3 v5 v6
  clear_value v1
  clear_value v2
  have h4 : Same [.regs, .tal, .gbk, .tim, .phs] s0 s3 := by
    unfold s3
    refine Same.comp (same_bump _ _ _) (by decide) ?_
    refine Same.comp (same_setInt_top _ _ _ (Or.inl (by decide))) (by decide) ?_
    refine Same.comp (same_latchTime_top _ _ _ (by decide)) (by decide) ?_
    exact Same.refl _ _
  clear_value s3
  clear_value v5
  clear_value v6
  refine Same.ite ?_ ?_
  · exact Same.refl _ _
  · refine Same.ite ?_ ?_
    · refine Same.comp (same_timeSample _ _ _ _) (by decide) ?_
      exact h4
    · exact h4

theorem same_harvestStart (x0 : Bool) (s0 : State) : Same [.regs, .tal, .gbk] s0 (harvestStart x0 s0) := by
  unfold harvestStart
  extract_lets +onlyGivenNames -merge -underBinder v1 s2 v4 v5 v6
  clear_value v1
  have h3 : Same [.regs, .tal, .gbk] s0 s2 := by
    unfold s2
    refine Same.ite ?_ ?_
    · refine Same.comp (same_takeSnapshot _ _ _) (by decide) ?_
      exact Same.refl _ _
    · exact Same.refl _ _
  clear_value s2
  clear_value v4
  clear_value v5
  clear_value v6
  refine Same.ite ?_ ?_
  · refine Same.comp (same_harvestRefuse _ _) (by decide) ?_
    exact Same.refl _ _
  · refine Same.ite ?_ ?_
    · refine Same.comp (same_harvestRefuse _ _) (by decide) ?_
      exact Same.refl _ _
    · refine Same.ite ?_ ?_
      · refine Same.comp (same_harvestRefuse _ _) (by decide) ?_
        exact Same.refl _ _
      · refine Same.ite ?_ ?_
        · refine Same.comp (same_harvestRefuse _ _) (by decide) ?_
          exact Same.refl _ _
        · refine Same.comp (same_fput_top _ _ _ (Or.inl (by decide))) (by decide) ?_
          refine Same.comp (same_fput_top _ _ _ (Or.inl (by decide))) (by decide) ?_
          refine Same.comp (same_fput_top _ _ _ (Or.inl (by decide))) (by decide) ?_
          refine Same.set_tal (by decide) ?_
          exact h3

theorem same_glbCmd_h {T : List Part} {s x : State} {x0 : State → Option State} (m : [Part.regs, Part.glb, Part.tal, Part.gbk, Part.dp, Part.tmg, Part.base, Part.low].all (fun p => T.contains p) = true)
    (k : ∀ y, Same T s y → ∀ t, x0 y = some t → Same T s t) (h : Same T s x) : Same T s (glbCmd x0 x) := by
  unfold glbCmd
  extract_lets +onlyGivenNames -merge -underBinder s1
  have h2 : Same T s s1 := Same.comp (same_autoBase _) m h
  clear_value s1
  split
  · rename_i t e
    exact Same.comp (same_freeCells _) (Same.all_sub m (by decide)) (Same.comp (same_glbResult _ _) (Same.all_sub m (by decide)) (k _ h2 _ e))
  · exact Same.comp (same_glbResult _ _) (Same.all_sub m (by decide)) h2

theorem same_hostKixon (x0 : Nat) (x1 : Frame) (x2 : Pass) (s0 : State) : Same [.regs, .glb, .tal, .gbk, .dp] s0 (hostKixon x0 x1 x2 s0) := by
  unfold hostKixon
  extract_lets +onlyGivenNames -merge -underBinder v1 v2 v3 v4 v5 v6
  clear_value v1
  clear_value v2
  clear_value v3
  clear_value v4
  clear_value v5
  clear_value v6
  refine Same.ite ?_ ?_
  · refine Same.comp (same_bump _ _ _) (by decide) ?_
    exact Same.refl _ _
  · refine Same.comp (same_admitAll _ _) (by decide) ?_
    exact Same.refl _ _

theorem same_writeTal (x0 : Nat) (x1 : Nat) (s0 : State) : Same [.regs, .tal, .gbk, .low, .mid] s0 (writeTal x0 x1 s0) := by
  unfold writeTal
  refine Same.ite ?_ ?_
  · refine Same.comp (same_takeSnapshot _ _ _) (by decide) ?_
    exact Same.refl _ _
  · refine Same.ite ?_ ?_
    · refine Same.comp (same_clearGroups _ _) (by decide) ?_
      exact Same.refl _ _
    · refine Same.ite ?_ ?_
      · refine Same.ite ?_ ?_
        · refine Same.comp (same_harvestStart _ _) (by decide) ?_
          exact Same.refl _ _
        · refine Same.ite ?_ ?_
          · refine Same.comp (same_harvestAbort _) (by decide) ?_
            exact Same.refl _ _
          · exact Same.refl _ _
      · refine Same.ite ?_ ?_
        · refine Same.comp (same_lockedWrite _ _) (by decide) ?_
          exact Same.refl _ _
        · refine Same.ite ?_ ?_
          · refine Same.comp (same_lockedWrite _ _) (by decide) ?_
            exact Same.refl _ _
          · refine Same.ite ?_ ?_
            · refine Same.comp (same_captureCounter _ _) (by decide) ?_
              exact Same.refl _ _
            · refine Same.comp (same_writeRw _ _ _) (by decide) ?_
              exact Same.refl _ _

theorem same_writeLdg (x0 : Nat) (x1 : Nat) (s0 : State) : Same [.regs, .tal, .gbk, .ldg, .low, .mid] s0 (writeLdg x0 x1 s0) := by
  unfold writeLdg
  refine Same.ite ?_ ?_
  · refine Same.comp (same_writeBaseSub _ _ _) (by decide) ?_
    exact Same.refl _ _
  · refine Same.comp (same_writeRw _ _ _) (by decide) ?_
    exact Same.refl _ _

theorem same_hostHead (x0 : Nat → Bool) (s0 : State) : Same [.regs, .glb, .tal, .gbk, .fab, .dp] s0 (hostHead x0 s0) := by
  unfold hostHead
  split
  · extract_lets +onlyGivenNames -merge -underBinder s1
    have h2 : Same [.regs, .glb, .tal, .gbk, .fab, .dp] s0 s1 := by
      unfold s1
      refine Same.comp (same_dropHead _) (by decide) ?_
      exact Same.refl _ _
    clear_value s1
    refine Same.comp (same_freeCells _) (by decide) ?_
    refine Same.ite ?_ ?_
    · exact h2
    · refine Same.comp (same_hostMessage _ _ _) (by decide) ?_
      refine Same.ite ?_ ?_
      · refine Same.comp (same_heartbeatSeen _ _) (by decide) ?_
        exact h2
      · exact h2
  · exact Same.refl _ _

theorem same_warmLoader (s0 : State) : Same [.regs, .glb, .frg, .tal, .gbk, .tim, .phs, .ldg, .fab, .tab, .base, .act, .low, .mid] s0 (warmLoader s0) := by
  unfold warmLoader
  extract_lets +onlyGivenNames -merge -underBinder s1
  have h2 : Same [.regs, .glb, .frg, .tal, .gbk, .tim, .phs, .ldg, .fab, .tab, .base, .act, .low, .mid] s0 s1 := by
    unfold s1
    refine Same.comp (same_resetRollback _) (by decide) ?_
    exact Same.refl _ _
  clear_value s1
  refine Same.ite ?_ ?_
  · refine Same.comp (same_endLoad _ _) (by decide) ?_
    exact h2
  · exact h2

theorem same_stepTime (x0 : Nat) (s0 : State) : Same [.regs, .tal, .gbk, .tim, .phs, .ldg] s0 (stepTime x0 s0) := by
  unfold stepTime
  extract_lets +onlyGivenNames -merge -underBinder v1 v2 v3 s4 s6 s8 v10 s11 s13 s15 v17 s18
  clear_value v1
  clear_value v2
  clear_value v3
  have h5 : Same [.regs, .tal, .gbk, .tim, .phs, .ldg] s0 s4 := by
    unfold s4
    refine Same.set_tim (by decide) ?_
    exact Same.refl _ _
  clear_value s4
  have h7 : Same [.regs, .tal, .gbk, .tim, .phs, .ldg] s0 s6 := by
    unfold s6
    refine Same.comp (same_pushHist _) (by decide) ?_
    exact h5
  clear_value s6
  have h9 : Same [.regs, .tal, .gbk, .tim, .phs, .ldg] s0 s8 := by
    unfold s8
    refine Same.comp (same_idleTrk _ _) (by decide) ?_
    refine Same.comp (same_idleTrk _ _) (by decide) ?_
    exact h7
  clear_value s8
  clear_value v10
  have h12 : Same [.regs, .tal, .gbk, .tim, .phs, .ldg] s0 s11 := by
    unfold s11
    refine Same.set_tim (by decide) ?_
    exact h9
  clear_value s11
  have h14 : Same [.regs, .tal, .gbk, .tim, .phs, .ldg] s0 s13 := by
    unfold s13
    refine Same.comp (same_bump _ _ _) (by decide) ?_
    exact h12
  clear_value s13
  have h16 : Same [.regs, .tal, .gbk, .tim, .phs, .ldg] s0 s15 := by
    unfold s15
    refine Same.ite ?_ ?_
    · refine Same.comp (same_raise _ _ _ _ _) (by decide) ?_
      refine Same.comp (same_setInt_top _ _ _ (Or.inl (by decide))) (by decide) ?_
      exact h14
    · exact h14
  clear_value s15
  clear_value v17
  have h19 : Same [.regs, .tal, .gbk, .tim, .phs, .ldg] s0 s18 := by
    unfold s18
    refine Same.comp (same_raise _ _ _ _ _) (by decide) ?_
    exact h16
  clear_value s18
  refine Same.comp (same_resolveWaiting _) (by decide) ?_
  refine Same.ite ?_ ?_
  · refine Same.comp (same_nominalQualify _) (by decide) ?_
    exact h19
  · exact h19

theorem same_reportDown (x0 : Nat) (s0 : State) : Same [.regs, .tal, .gbk, .fab, .pin, .prt, .dp, .tmg, .mid] s0 (reportDown x0 s0) := by
  unfold reportDown
  extract_lets +onlyGivenNames -merge -underBinder v1 s2 s4 s6 s8 s10
  clear_value v1
  have h3 : Same [.regs, .tal, .gbk, .fab, .pin, .prt, .dp, .tmg, .mid] s0 s2 := by
    unfold s2
    refine Same.comp (same_failReceptions _ _) (by decide) ?_
    refine Same.comp (same_putPort _ _ _) (by decide) ?_
    exact Same.refl _ _
  clear_value s2
  have h5 : Same [.regs, .tal, .gbk, .fab, .pin, .prt, .dp, .tmg, .mid] s0 s4 := by
    unfold s4
    refine Same.comp (same_bump _ _ _) (by decide) ?_
    refine Same.comp (same_fput_hi _ _ _ (Or.inl (by simp only [F.PRT_STATUS_LINK_UP]; omega))) (by decide) ?_
    exact h3
  clear_value s4
  have h7 : Same [.regs, .tal, .gbk, .fab, .pin, .prt, .dp, .tmg, .mid] s0 s6 := by
    unfold s6
    refine Same.comp (same_raise _ _ _ _ _) (by decide) ?_
    refine Same.comp (same_setInt_hi _ _ _ (Or.inl (by simp only [A.PRT_INT_STAT]; omega))) (by decide) ?_
    exact h5
  clear_value s6
  have h9 : Same [.regs, .tal, .gbk, .fab, .pin, .prt, .dp, .tmg, .mid] s0 s8 := by
    unfold s8
    refine Same.ite ?_ ?_
    · exact h7
    · refine Same.comp (same_dropPortQueues _ _ _ _) (by decide) ?_
      exact h7
  clear_value s8
  have h11 : Same [.regs, .tal, .gbk, .fab, .pin, .prt, .dp, .tmg, .mid] s0 s10 := by
    unfold s10
    refine same_abortTx_h (by decide) (fun _ _ h12 => ?_) ?_
    · refine Same.comp (same_bump _ _ _) (by decide) ?_
      exact h12
    exact h9
  clear_value s10
  refine Same.comp (same_startTraining _ _) (by decide) ?_
  refine Same.comp (same_fabLinkDown _ _) (by decide) ?_
  refine Same.comp (same_verifyUpdate _ _) (by decide) ?_
  exact h11

theorem same_tblDoInsert (x0 : Nat) (x1 : Nat) (x2 : Nat) (s0 : State) : Same [.regs, .glb, .tal, .gbk, .hlt, .tab, .free] s0 (tblDoInsert x0 x1 x2 s0) := by
  unfold tblDoInsert
  extract_lets +onlyGivenNames -merge -underBinder v1
  clear_value v1
  refine Same.ite ?_ ?_
  · refine Same.comp (same_tblFinish _ _ _) (by decide) ?_
    exact Same.refl _ _
  · refine Same.comp (same_insertBegin _ _ _ _) (by decide) ?_
    exact Same.refl _ _

theorem same_forwardCopies (x0 : Nat) (x1 : Frame) (x2 : Pass) (x3 : Copy) (s0 : State) : Same [.regs, .glb, .tal, .gbk] s0 (forwardCopies x0 x1 x2 x3 s0).2 := by
  unfold forwardCopies
  extract_lets +onlyGivenNames -merge -underBinder v1 v2 v3
  clear_value v1
  clear_value v2
  clear_value v3
  refine Same.ite2 ?_ ?_
  · refine Same.comp (same_replCopies _ _ _ _ _) (by decide) ?_
    exact Same.refl _ _
  · refine Same.ite2 ?_ ?_
    · refine Same.comp (same_bridgeCopies _ _ _ _ _) (by decide) ?_
      exact Same.refl _ _
    · refine Same.ite2 ?_ ?_
      · refine Same.ite2 ?_ ?_
        · refine Same.comp (same_badDest _ _ _ _) (by decide) ?_
          refine Same.comp (same_setInt_top _ _ _ (Or.inl (by simp only [A.HTH_INT_STAT]; omega))) (by decide) ?_
          exact Same.refl _ _
        · exact Same.refl _ _
      · refine Same.ite2 ?_ ?_
        · refine Same.comp (same_tunnelCopy _ _ _ _ _) (by decide) ?_
          exact Same.refl _ _
        · refine Same.ite2 ?_ ?_
          · refine Same.comp (same_replCopies _ _ _ _ _) (by decide) ?_
            exact Same.refl _ _
          · refine Same.ite2 ?_ ?_
            · exact Same.refl _ _
            · refine Same.ite2 ?_ ?_
              · exact Same.refl _ _
              · refine Same.comp (same_badDest _ _ _ _) (by decide) ?_
                exact Same.refl _ _

theorem same_stageOf (x0 : Nat) (x1 : Nat) (x2 : Frame) (x3 : Pass) (s0 : State) : Same [.regs, .glb, .tal, .gbk, .ldg, .dp, .tab] s0 (stageOf x0 x1 x2 x3 s0).2 := by
  unfold stageOf
  refine Same.ite2 ?_ ?_
  · refine Same.comp (same_stage84 _ _ _ _) (by decide) ?_
    exact Same.refl _ _
  · refine Same.ite2 ?_ ?_
    · exact Same.refl _ _
    · refine Same.ite2 ?_ ?_
      · refine Same.comp (same_stage126 _ _ _ _) (by decide) ?_
        exact Same.refl _ _
      · refine Same.ite2 ?_ ?_
        · refine Same.comp (same_stage210 _ _ _ _) (by decide) ?_
          exact Same.refl _ _
        · refine Same.ite2 ?_ ?_
          · refine Same.comp (same_stage266 _ _ _ _) (by decide) ?_
            exact Same.refl _ _
          · refine Same.comp (same_stage322 _ _ _ _) (by decide) ?_
            exact Same.refl _ _

theorem same_mainsEdge (x0 : Nat) (s0 : State) : Same [.regs, .tal, .gbk, .phs] s0 (mainsEdge x0 s0) := by
  unfold mainsEdge
  extract_lets +onlyGivenNames -merge -underBinder s1 v3 s4
  have h2 : Same [.regs, .tal, .gbk, .phs] s0 s1 := by
    unfold s1
    refine Same.comp (same_bump _ _ _) (by decide) ?_
    exact Same.refl _ _
  clear_value s1
  clear_value v3
  have h5 : Same [.regs, .tal, .gbk, .phs] s0 s4 := by
    unfold s4
    refine Same.comp (same_chooseSource _) (by decide) ?_
    refine Same.comp (same_mainsAccept _ _) (by decide) ?_
    exact h2
  clear_value s4
  refine Same.ite ?_ ?_
  · exact Same.refl _ _
  · refine Same.ite ?_ ?_
    · refine Same.comp (same_bump _ _ _) (by decide) ?_
      exact h2
    · split
      · refine Same.comp (same_phaseSample _ _ _ _ _ _) (by decide) ?_
        exact h5
      · exact h5

theorem same_fragmentReceived (x0 : Nat) (x1 : Fragment) (s0 : State) : Same [.regs, .tal, .gbk, .fab, .pin, .prt, .dp, .tmg] s0 (fragmentReceived x0 x1 s0) := by
  unfold fragmentReceived
  extract_lets +onlyGivenNames -merge -underBinder s1 s3
  have h2 : Same [.regs, .tal, .gbk, .fab, .pin, .prt, .dp, .tmg] s0 s1 := by
    unfold s1
    refine Same.ite ?_ ?_
    · refine Same.comp (same_reasmError _ _) (by decide) ?_
      exact Same.refl _ _
    · exact Same.refl _ _
  clear_value s1
  have h4 : Same [.regs, .tal, .gbk, .fab, .pin, .prt, .dp, .tmg] s0 s3 := by
    unfold s3
    refine Same.comp (same_bump _ _ _) (by decide) ?_
    exact Same.refl _ _
  clear_value s3
  refine Same.ite ?_ ?_
  · exact Same.refl _ _
  · refine Same.ite ?_ ?_
    · refine Same.comp (same_bump _ _ _) (by decide) ?_
      exact Same.refl _ _
    · refine Same.ite ?_ ?_
      · refine Same.comp (same_reasmStep _ _ _ _) (by decide) ?_
        exact h2
      · split
        · refine Same.comp (same_reasmError _ _) (by decide) ?_
          exact h4
        · refine Same.ite ?_ ?_
          · refine Same.comp (same_reasmError _ _) (by decide) ?_
            exact h4
          · refine Same.comp (same_reasmStep _ _ _ _) (by decide) ?_
            exact h4

theorem same_stepRelOp (x0 : Bool) (s0 : State) : Same [.regs, .tal, .gbk, .tim, .phs, .ldg] s0 (stepRelOp x0 s0) := by
  unfold stepRelOp
  extract_lets +onlyGivenNames -merge -underBinder v1 v2
  clear_value v1
  clear_value v2
  refine Same.ite ?_ ?_
  · refine Same.comp (same_fput_top _ _ _ (Or.inl (by decide))) (by decide) ?_
    exact Same.refl _ _
  · refine Same.comp (same_stepTime _ _) (by decide) ?_
    refine Same.comp (same_fput_top _ _ _ (Or.inl (by decide))) (by decide) ?_
    exact Same.refl _ _

theorem same_setAbsOp (s0 : State) : Same [.regs, .tal, .gbk, .tim, .phs, .ldg] s0 (setAbsOp s0) := by
  unfold setAbsOp
  refine Same.ite ?_ ?_
  · refine Same.comp (same_fput_top _ _ _ (Or.inl (by decide))) (by decide) ?_
    exact Same.refl _ _
  · refine Same.comp (same_stepTime _ _) (by decide) ?_
    refine Same.comp (same_fput_top _ _ _ (Or.inl (by decide))) (by decide) ?_
    exact Same.refl _ _

theorem same_tblDo (x0 : Nat) (x1 : Nat) (x2 : Nat) (x3 : Nat) (x4 : Bool) (x5 : TblCmd) (s0 : State) : Same [.regs, .tal, .gbk, .ldg, .hlt, .tab] s0 (tblDo x0 x1 x2 x3 x4 x5 s0).2 := by
  unfold tblDo
  refine Same.ite2 ?_ ?_
  · exact Same.refl _ _
  · refine Same.ite2 ?_ ?_
    · exact Same.refl _ _
    · refine Same.ite2 ?_ ?_
      · exact Same.refl _ _
      · refine Same.ite2 ?_ ?_
        · exact Same.refl _ _
        · refine Same.ite2 ?_ ?_
          · exact Same.refl _ _
          · refine Same.ite2 ?_ ?_
            · refine Same.comp (same_tblDoRead _ _ _ _ _) (by decide) ?_
              exact Same.refl _ _
            · refine Same.ite2 ?_ ?_
              · refine Same.comp (same_tblDoWrite _ _ _ _ _) (by decide) ?_
                exact Same.refl _ _
              · refine Same.ite2 ?_ ?_
                · refine Same.comp (same_tblDoLookup _ _ _ _) (by decide) ?_
                  exact Same.refl _ _
                · refine Same.ite2 ?_ ?_
                  · refine Same.comp (same_tblDoUpdate _ _ _ _) (by decide) ?_
                    exact Same.refl _ _
                  · refine Same.ite2 ?_ ?_
                    · refine Same.comp (same_tblDoDelete _ _ _ _) (by decide) ?_
                      exact Same.refl _ _
                    · refine Same.ite2 ?_ ?_
                      · refine Same.comp (same_tblDoHitScan _ _ _ _) (by decide) ?_
                        exact Same.refl _ _
                      · refine Same.ite2 ?_ ?_
                        · refine Same.comp (same_tblDoAge _ _ _) (by decide) ?_
                          exact Same.refl _ _
                        · refine Same.comp (same_tblDoFlush _ _ _) (by decide) ?_
                          exact Same.refl _ _

theorem same_commitArmed (x0 : Armed) (s0 : State) : Same [.regs, .frg, .tal, .gbk, .tim, .phs, .fab, .dp, .tmg, .act, .low, .mid] s0 (commitArmed x0 s0) := by
  unfold commitArmed
  extract_lets +onlyGivenNames -merge -underBinder v1 s2 s4 v7 s8 s10 v12 s13
  have h3 : Same [.regs, .frg, .tal, .gbk, .tim, .phs, .fab, .dp, .tmg, .act, .low, .mid] s0 s2 := by
    unfold s2
    refine Same.comp (same_forgetArmed _ _) (by decide) ?_
    refine Same.comp (same_timingOf _ _) (by decide) ?_
    refine Same.set_frg (by decide) (Or.inr rfl) ?_
    exact Same.refl _ _
  clear_value s2
  have h5 : Same [.regs, .frg, .tal, .gbk, .tim, .phs, .fab, .dp, .tmg, .act, .low, .mid] s0 s4 := by
    unfold s4
    refine Same.foldl (fun _ _ h6 => ?_) ?_
    · refine Same.comp (same_commitHearth _ _ _) (by decide) ?_
      exact h6
    exact h3
  clear_value s4
  have h9 : Same [.regs, .frg, .tal, .gbk, .tim, .phs, .fab, .dp, .tmg, .act, .low, .mid] s0 s8 := by
    unfold s8
    refine Same.set_frg (by decide) (Or.inr rfl) ?_
    exact h5
  clear_value s8
  have h11 : Same [.regs, .frg, .tal, .gbk, .tim, .phs, .fab, .dp, .tmg, .act, .low, .mid] s0 s10 := by
    unfold s10
    refine Same.comp (same_setInt_lo _ _ _ (by decide)) (by decide) ?_
    refine Same.ite ?_ ?_
    · refine Same.comp (same_setInt_lo _ _ _ (by decide)) (by decide) ?_
      exact h9
    · refine Same.comp (same_fput_lo _ _ _ (by decide)) (by decide) ?_
      exact h9
  clear_value s10
  have h14 : Same [.regs, .frg, .tal, .gbk, .tim, .phs, .fab, .dp, .tmg, .act, .low, .mid] s0 s13 := by
    unfold s13
    refine Same.ite ?_ ?_
    · refine Same.comp (same_setFrgState _ _) (by decide) ?_
      exact h11
    · refine Same.comp (same_recheckPorts _) (by decide) ?_
      refine Same.comp (same_setFrgState _ _) (by decide) ?_
      refine Same.set_frg (by decide) (Or.inl (by decide)) ?_
      exact h11
  clear_value s13
  refine Same.comp (same_freeCells _) (by decide) ?_
  refine Same.comp (same_showBases _) (by decide) ?_
  refine Same.comp (same_dropTooLongAll _ _) (by decide) ?_
  exact h14

theorem same_writePor (x0 : Nat) (x1 : Nat) (s0 : State) : Same [.regs, .mem, .tal, .gbk, .por, .low, .mid] s0 (writePor x0 x1 s0) := by
  unfold writePor
  extract_lets +onlyGivenNames -merge -underBinder v1
  clear_value v1
  refine Same.ite ?_ ?_
  · refine Same.comp (same_porStart _ _ _ _) (by decide) ?_
    exact Same.refl _ _
  · refine Same.ite ?_ ?_
    · refine Same.comp (same_porBusyWrite _ _) (by decide) ?_
      exact Same.refl _ _
    · refine Same.ite ?_ ?_
      · refine Same.comp (same_writeRw _ _ _) (by decide) ?_
        refine Same.set_por (by decide) ?_
        exact Same.refl _ _
      · refine Same.ite ?_ ?_
        · refine Same.comp (same_lockedWrite _ _) (by decide) ?_
          exact Same.refl _ _
        · refine Same.ite ?_ ?_
          · refine Same.comp (same_writePool _ _ _ _) (by decide) ?_
            exact Same.refl _ _
          · refine Same.comp (same_writeRw _ _ _) (by decide) ?_
            exact Same.refl _ _

theorem same_withValid_h {T : List Part} {s x : State} {x0 : State → State} (m : [Part.regs, Part.tal, Part.gbk, Part.ldg].all (fun p => T.contains p) = true)
    (k : ∀ y, Same T s y → Same T s (x0 y)) (h : Same T s x) : Same T s (withValid x0 x) := by
  unfold withValid
  extract_lets +onlyGivenNames -merge -underBinder s1
  have h2 : Same T s s1 := k _ h
  clear_value s1
  exact Same.ite (Same.comp (same_resolveWaiting _) m h2) h2

theorem same_taFire (x0 : Nat) (s0 : State) : Same [.regs, .tal, .gbk, .phs, .pin] s0 (taFire x0 s0) := by
  unfold taFire
  extract_lets +onlyGivenNames -merge -underBinder s1 v3
  have h2 : Same [.regs, .tal, .gbk, .phs, .pin] s0 s1 := by
    unfold s1
    refine Same.comp (same_taForget _ _) (by decide) ?_
    refine Same.comp (same_taAction _ _) (by decide) ?_
    refine Same.comp (same_forBits_top _ _ _ (Or.inl (by simp only [A.PHS_TA_STATUS]; omega))) (by decide) ?_
    refine Same.comp (same_forBits_top _ _ _ (Or.inl (by decide))) (by decide) ?_
    exact Same.refl _ _
  clear_value s1
  clear_value v3
  refine Same.ite ?_ ?_
  · refine Same.comp (same_fput_top _ _ _ (Or.inl (by simp only [F.PHS_TA_CTL_ARM]; omega))) (by decide) ?_
    exact h2
  · refine Same.comp (same_taRepeat _ _ _ _) (by decide) ?_
    exact h2

theorem same_functionReset (s0 : State) : Same [.regs, .mem, .glb, .frg, .hif, .tal, .gbk, .tim, .ldg, .fab, .por, .dry, .dp, .tab, .base, .act, .low, .mid] s0 (functionReset s0) := by
  unfold functionReset
  extract_lets +onlyGivenNames -merge -underBinder s1 s3 v5 s6 s8 s10 s13 v15 s16
  have h2 : Same [.regs, .mem, .glb, .frg, .hif, .tal, .gbk, .tim, .ldg, .fab, .por, .dry, .dp, .tab, .base, .act, .low, .mid] s0 s1 := by
    unfold s1
    refine Same.comp (same_clearMailbox _) (by decide) ?_
    refine Same.comp (same_harvestReset _) (by decide) ?_
    exact Same.refl _ _
  clear_value s1
  have h4 : Same [.regs, .mem, .glb, .frg, .hif, .tal, .gbk, .tim, .ldg, .fab, .por, .dry, .dp, .tab, .base, .act, .low, .mid] s0 s3 := by
    unfold s3
    refine Same.comp (same_porterReset _) (by decide) ?_
    refine Same.comp (same_draymanReset _) (by decide) ?_
    exact h2
  clear_value s3
  clear_value v5
  have h7 : Same [.regs, .mem, .glb, .frg, .hif, .tal, .gbk, .tim, .ldg, .fab, .por, .dry, .dp, .tab, .base, .act, .low, .mid] s0 s6 := by
    unfold s6
    refine Same.comp (same_fput_top _ _ _ (Or.inl (by decide))) (by decide) ?_
    refine Same.set_tim (by decide) ?_
    exact h4
  clear_value s6
  have h9 : Same [.regs, .mem, .glb, .frg, .hif, .tal, .gbk, .tim, .ldg, .fab, .por, .dry, .dp, .tab, .base, .act, .low, .mid] s0 s8 := by
    unfold s8
    refine Same.ite ?_ ?_
    · refine Same.comp (same_abortOp _) (by decide) ?_
      exact h7
    · exact h7
  clear_value s8
  have h11 : Same [.regs, .mem, .glb, .frg, .hif, .tal, .gbk, .tim, .ldg, .fab, .por, .dry, .dp, .tab, .base, .act, .low, .mid] s0 s10 := by
    unfold s10
    refine Same.foldl (fun _ _ h12 => ?_) ?_
    · refine Same.comp (same_rput _ _ _) (by decide) ?_
      exact h12
    exact h9
  clear_value s10
  have h14 : Same [.regs, .mem, .glb, .frg, .hif, .tal, .gbk, .tim, .ldg, .fab, .por, .dry, .dp, .tab, .base, .act, .low, .mid] s0 s13 := by
    unfold s13
    refine Same.comp (same_rput_hi _ _ _ (Or.inl (by decide))) (by decide) ?_
    refine Same.comp (same_resetRegs _ _) (by decide) ?_
    exact h11
  clear_value s13
  clear_value v15
  have h17 : Same [.regs, .mem, .glb, .frg, .hif, .tal, .gbk, .tim, .ldg, .fab, .por, .dry, .dp, .tab, .base, .act, .low, .mid] s0 s16 := by
    unfold s16
    refine Same.set_hif (by decide) ?_
    exact h14
  clear_value s16
  refine Same.comp (same_freeCells _) (by decide) ?_
  refine Same.comp (same_raise _ _ _ _ _) (by decide) ?_
  refine Same.comp (same_forBits_lo _ _ _ (by decide)) (by decide) ?_
  exact h17

theorem same_phaseWrap (s0 : State) : Same [.regs, .tal, .gbk, .phs, .ldg] s0 (phaseWrap s0) := by
  unfold phaseWrap
  extract_lets +onlyGivenNames -merge -underBinder v1 s2 v4
  clear_value v1
  have h3 : Same [.regs, .tal, .gbk, .phs, .ldg] s0 s2 := by
    unfold s2
    refine Same.comp (same_rput_top _ _ _ (Or.inl (by decide))) (by decide) ?_
    exact Same.refl _ _
  clear_value s2
  clear_value v4
  refine Same.ite ?_ ?_
  · exact Same.refl _ _
  · refine Same.comp (same_nominalSample _) (by decide) ?_
    refine Same.comp (same_applySetCycle _) (by decide) ?_
    refine Same.set_phs (by decide) ?_
    exact h3

theorem same_egressLearn (x0 : Nat) (x1 : Copy) (s0 : State) : Same [.regs, .glb, .tal, .gbk, .tab] s0 (egressLearn x0 x1 s0) := by
  unfold egressLearn
  extract_lets +onlyGivenNames -merge -underBinder v1
  clear_value v1
  split
  · extract_lets +onlyGivenNames -merge -underBinder v2
    clear_value v2
    refine Same.ite ?_ ?_
    · refine Same.comp (same_learnIn _ _ _) (by decide) ?_
      refine Same.set_tab (by decide) ?_
      exact Same.refl _ _
    · exact Same.refl _ _
  · exact Same.refl _ _

theorem same_waitTimeout (x0 : Nat) (s0 : State) : Same [.regs, .hif, .tal, .gbk, .tim, .dry, .pin, .tab, .low, .mid] s0 (waitTimeout x0 s0) := by
  unfold waitTimeout
  extract_lets +onlyGivenNames -merge -underBinder v1 v2
  clear_value v1
  clear_value v2
  split
  · refine Same.ite ?_ ?_
    · refine Same.comp (same_errHalt _ _ _) (by decide) ?_
      refine Same.comp (same_waitOver _ _) (by decide) ?_
      exact Same.refl _ _
    · exact Same.refl _ _
  · exact Same.refl _ _

theorem same_egressMirror (x0 : Nat) (x1 : Copy) (x2 : List Byte) (s0 : State) : Same [.regs, .glb, .tal, .gbk, .dp, .tmg] s0 (egressMirror x0 x1 x2 s0) := by
  unfold egressMirror
  refine Same.ite ?_ ?_
  · exact Same.refl _ _
  · split
    rename_i a1 s2 e4
    have h3 : Same [.regs, .glb, .tal, .gbk, .dp, .tmg] s0 s2 := by
      refine Same.of2 e4 ?_
      refine Same.comp (same_mirrorCopy _ _ _) (by decide) ?_
      exact Same.refl _ _
    refine Same.comp (same_admitAll _ _) (by decide) ?_
    exact h3

theorem same_fabQueue (x0 : List Nat) (x1 : Frame) (s0 : State) : Same [.regs, .glb, .tal, .gbk, .dp] s0 (fabQueue x0 x1 s0) := by
  unfold fabQueue
  refine Same.ite ?_ ?_
  · exact Same.refl _ _
  · split
    rename_i a1 s2 e4
    have h3 : Same [.regs, .glb, .tal, .gbk, .dp] s0 s2 := by
      refine Same.of2 e4 ?_
      refine Same.comp (same_addFrame _ _) (by decide) ?_
      exact Same.refl _ _
    refine Same.comp (same_admitAll _ _) (by decide) ?_
    exact h3

theorem same_tblComplete (x0 : Nat) (s0 : State) : Same [.regs, .glb, .tal, .gbk, .ldg, .hlt, .tab, .free] s0 (tblComplete x0 s0) := by
  unfold tblComplete
  split
  · exact Same.refl _ _
  · extract_lets +onlyGivenNames -merge -underBinder s1
    have h2 : Same [.regs, .glb, .tal, .gbk, .ldg, .hlt, .tab, .free] s0 s1 := by
      unfold s1
      refine Same.ite ?_ ?_
      · refine Same.comp (same_fput_top _ _ _ (Or.inl (by simp only [F.TBL_STATUS_MOVES]; omega))) (by decide) ?_
        exact Same.refl _ _
      · exact Same.refl _ _
    clear_value s1
    refine Same.ite ?_ ?_
    · exact Same.refl _ _
    · refine Same.ite ?_ ?_
      · refine Same.comp (same_tblDoInsert _ _ _ _) (by decide) ?_
        exact h2
      · split
        rename_i a3 s4 e6
        have h5 : Same [.regs, .glb, .tal, .gbk, .ldg, .hlt, .tab, .free] s0 s4 := by
          refine Same.of2 e6 ?_
          refine Same.comp (same_tblDo _ _ _ _ _ _ _) (by decide) ?_
          exact h2
        refine Same.comp (same_tblFinish _ _ _) (by decide) ?_
        exact h5

theorem same_scrubWord (x0 : EccWord) (x1 : Nat) (s0 : State) : Same [.regs, .tal, .gbk, .fab, .por, .dry, .hlt, .dp, .tab, .tmg, .free] s0 (scrubWord x0 x1 s0) := by
  unfold scrubWord
  extract_lets +onlyGivenNames -merge -underBinder s1
  have h2 : Same [.regs, .tal, .gbk, .fab, .por, .dry, .hlt, .dp, .tab, .tmg, .free] s0 s1 := by
    unfold s1
    refine Same.ite ?_ ?_
    · exact Same.refl _ _
    · refine Same.ite ?_ ?_
      · refine Same.comp (same_eccCorrected _ _) (by decide) ?_
        exact Same.refl _ _
      · refine Same.comp (same_eccUncorrectable _ _ _) (by decide) ?_
        exact Same.refl _ _
  clear_value s1
  refine Same.ite ?_ ?_
  · refine Same.comp (same_bump _ _ _) (by decide) ?_
    refine Same.comp (same_rput_top _ _ _ (Or.inl (by decide))) (by decide) ?_
    exact h2
  · exact h2

theorem same_onDelayReq (x0 : Nat) (x1 : Frame) (s0 : State) : Same [.regs, .glb, .tal, .gbk, .dp] s0 (onDelayReq x0 x1 s0) := by
  unfold onDelayReq
  extract_lets +onlyGivenNames -merge -underBinder v1
  clear_value v1
  refine Same.comp (same_fabQueue _ _ _) (by decide) ?_
  exact Same.refl _ _

theorem same_smpPost (x0 : Nat) (s0 : State) : Same [.regs, .tal, .gbk, .tim, .phs] s0 (smpPost x0 s0) := by
  unfold smpPost
  extract_lets +onlyGivenNames -merge -underBinder v1 v2
  clear_value v1
  clear_value v2
  refine Same.ite ?_ ?_
  · exact Same.refl _ _
  · refine Same.ite ?_ ?_
    · refine Same.comp (same_bump _ _ _) (by decide) ?_
      exact Same.refl _ _
    · refine Same.comp (same_timeSample _ _ _ _) (by decide) ?_
      exact Same.refl _ _

theorem same_fillTables (x0 : Nat) (x1 : Content) (s0 : State) : Same [.regs, .tal, .gbk, .ldg, .hlt, .tab] s0 (fillTables x0 x1 s0) := by
  unfold fillTables
  extract_lets +onlyGivenNames -merge -underBinder s1 s4
  have h2 : Same [.regs, .tal, .gbk, .ldg, .hlt, .tab] s0 s1 := by
    unfold s1
    refine Same.foldl (fun _ _ h3 => ?_) ?_
    · refine Same.comp (same_placeEntry _ _ _ _ _ _) (by decide) ?_
      exact h3
    exact Same.refl _ _
  clear_value s1
  have h5 : Same [.regs, .tal, .gbk, .ldg, .hlt, .tab] s0 s4 := by
    unfold s4
    refine Same.foldl (fun _ _ h6 => ?_) ?_
    · extract_lets +onlyGivenNames -merge -underBinder v7
      clear_value v7
      refine Same.comp (same_putLedger _ _ _ _) (by decide) ?_
      exact h6
    exact h2
  clear_value s4
  refine Same.foldl (fun _ _ h8 => ?_) ?_
  · refine Same.comp (same_putGate _ _ _ _) (by decide) ?_
    exact h8
  exact h5

theorem same_drainOp (s0 : State) : Same [.regs, .glb, .tal, .gbk, .dp, .tmg, .base, .low] s0 (drainOp s0) := by
  unfold drainOp
  extract_lets +onlyGivenNames -merge -underBinder s1 v3
  have h2 : Same [.regs, .glb, .tal, .gbk, .dp, .tmg, .base, .low] s0 s1 := by
    unfold s1
    refine Same.comp (same_autoBase _) (by decide) ?_
    exact Same.refl _ _
  clear_value s1
  refine Same.ite ?_ ?_
  · refine Same.comp (same_glbResult _ _) (by decide) ?_
    exact h2
  · refine Same.ite ?_ ?_
    · refine Same.comp (same_glbResult _ _) (by decide) ?_
      exact h2
    · refine Same.comp (same_glbResult _ _) (by decide) ?_
      refine Same.comp (same_fput_lo _ _ _ (by decide)) (by decide) ?_
      refine Same.set_glb (by decide) (Or.inl (by decide)) (Or.inr rfl) ?_
      exact h2

theorem same_moverStep (x0 : Nat) (x1 : Nat) (s0 : State) : Same [.regs, .glb, .tal, .gbk, .hlt, .tab, .free] s0 (moverStep x0 x1 s0) := by
  unfold moverStep
  split
  · exact Same.refl _ _
  · extract_lets +onlyGivenNames -merge -underBinder v1
    clear_value v1
    refine Same.ite ?_ ?_
    · exact Same.refl _ _
    · refine Same.comp (same_insertBegin _ _ _ _) (by decide) ?_
      refine Same.set_tab (by decide) ?_
      exact Same.refl _ _

theorem same_moveNext (x0 : Nat) (x1 : Nat) (s0 : State) : Same [.regs, .glb, .tal, .gbk, .hlt, .tab, .free] s0 (moveNext x0 x1 s0) := by
  unfold moveNext
  split
  · exact Same.refl _ _
  · split
    · refine Same.comp (same_insertBegin _ _ _ _) (by decide) ?_
      refine Same.comp (same_dropJob _ _ _) (by decide) ?_
      exact Same.refl _ _
    · extract_lets +onlyGivenNames -merge -underBinder v1 v2 v3
      clear_value v1
      clear_value v2
      clear_value v3
      refine Same.ite ?_ ?_
      · refine Same.ite ?_ ?_
        · refine Same.comp (same_putJob _ _ _ _) (by decide) ?_
          refine Same.comp (same_putEntry _ _ _ _ _ _) (by decide) ?_
          exact Same.refl _ _
        · refine Same.comp (same_insertBegin _ _ _ _) (by decide) ?_
          refine Same.comp (same_dropJob _ _ _) (by decide) ?_
          exact Same.refl _ _
      · refine Same.ite ?_ ?_
        · refine Same.comp (same_putJob _ _ _ _) (by decide) ?_
          refine Same.comp (same_putEntry _ _ _ _ _ _) (by decide) ?_
          refine Same.comp (same_putEntry _ _ _ _ _ _) (by decide) ?_
          exact Same.refl _ _
        · split
          · refine Same.comp (same_insertDone _ _ _ _ _) (by decide) ?_
            refine Same.comp (same_dropJob _ _ _) (by decide) ?_
            exact Same.refl _ _
          · refine Same.comp (same_putJob _ _ _ _) (by decide) ?_
            exact Same.refl _ _

theorem same_fabSend (x0 : List Nat) (x1 : Nat) (x2 : List Byte) (s0 : State) : Same [.regs, .glb, .tal, .gbk, .dp] s0 (fabSend x0 x1 x2 s0) := by
  unfold fabSend
  refine Same.comp (same_fabQueue _ _ _) (by decide) ?_
  exact Same.refl _ _

theorem same_endWakingOp (s0 : State) : Same [.regs, .glb, .tal, .gbk, .dp, .tmg, .base, .low] s0 (endWakingOp s0) := by
  unfold endWakingOp
  refine same_glbCmd_h (by decide) (fun y hy t e => ?_) (Same.refl _ _)
  split at e
  · exact Option.some.inj e ▸ Same.comp (same_endWake _) (by decide) hy
  · cases e

theorem same_moveToEnd (x0 x1 : Nat) (x2 : Bool) (x3 : Nat) (s0 : State) :
    Same [.regs, .glb, .tal, .gbk, .hlt, .tab, .free] s0 (moveToEnd x0 x1 x2 x3 s0) := by
  induction x3 generalizing s0 with
  | zero => exact Same.refl _ _
  | succ n ih =>
    unfold moveToEnd
    split
    · refine Same.ite (Same.refl _ _) ?_
      exact Same.comp (ih _) (by decide) (Same.comp (same_moveNext _ _ _) (by decide) (Same.refl _ _))
    · exact Same.refl _ _

theorem same_sendTime (s0 : State) : Same [.regs, .glb, .tal, .gbk, .fab, .dp] s0 (sendTime s0) := by
  unfold sendTime
  extract_lets +onlyGivenNames -merge -underBinder v1 s2
  clear_value v1
  have h3 : Same [.regs, .glb, .tal, .gbk, .fab, .dp] s0 s2 := by
    unfold s2
    refine Same.set_fab (by decide) ?_
    exact Same.refl _ _
  clear_value s2
  split
  · extract_lets +onlyGivenNames -merge -underBinder v4
    clear_value v4
    refine Same.comp (same_fabSend _ _ _ _) (by decide) ?_
    exact h3

theorem same_sendDelayReq (x0 : Nat) (s0 : State) : Same [.regs, .glb, .tal, .gbk, .fab, .dp] s0 (sendDelayReq x0 s0) := by
  unfold sendDelayReq
  extract_lets +onlyGivenNames -merge -underBinder v1 s2
  clear_value v1
  have h3 : Same [.regs, .glb, .tal, .gbk, .fab, .dp] s0 s2 := by
    unfold s2
    refine Same.comp (same_putFabPort _ _ _) (by decide) ?_
    exact Same.refl _ _
  clear_value s2
  refine Same.comp (same_fabSend _ _ _ _) (by decide) ?_
  exact h3

theorem same_writeTimCmd (x0 : Nat) (s0 : State) : Same [.regs, .tal, .gbk, .tim, .phs, .ldg] s0 (writeTimCmd x0 s0) := by
  unfold writeTimCmd
  extract_lets +onlyGivenNames -merge -underBinder v1
  clear_value v1
  refine Same.ite ?_ ?_
  · exact Same.refl _ _
  · refine Same.ite ?_ ?_
    · refine Same.comp (same_latchTimeOp _) (by decide) ?_
      exact Same.refl _ _
    · refine Same.ite ?_ ?_
      · refine Same.comp (same_stepRelOp _ _) (by decide) ?_
        exact Same.refl _ _
      · refine Same.ite ?_ ?_
        · refine Same.comp (same_setAbsOp _) (by decide) ?_
          exact Same.refl _ _
        · refine Same.ite ?_ ?_
          · refine Same.comp (same_switchOp _ _) (by decide) ?_
            exact Same.refl _ _
          · refine Same.comp (same_fput_top _ _ _ (Or.inl (by decide))) (by decide) ?_
            exact Same.refl _ _

theorem same_msgPost (x0 : Nat) (s0 : State) : Same [.regs, .tal, .gbk, .phs, .ldg] s0 (msgPost x0 s0) := by
  unfold msgPost
  extract_lets +onlyGivenNames -merge -underBinder v1
  clear_value v1
  refine Same.ite ?_ ?_
  · exact Same.refl _ _
  · refine Same.ite ?_ ?_
    · refine Same.comp (same_bump _ _ _) (by decide) ?_
      exact Same.refl _ _
    · refine same_withValid_h (by decide) (fun _ h2 => ?_) ?_
      · refine Same.comp (same_msgSample _ _ _) (by decide) ?_
        exact h2
      exact Same.refl _ _

theorem same_armOp (x0 : Bool) (x1 : Option Nat) (s0 : State) : Same [.regs, .frg, .tal, .gbk, .ldg, .low] s0 (armOp x0 x1 s0) := by
  unfold armOp
  extract_lets +onlyGivenNames -merge -underBinder v1 v2 v3 v4 v5 v6 v7 v8 v9 s10 v12
  clear_value v1
  clear_value v2
  clear_value v3
  clear_value v4
  clear_value v5
  clear_value v6
  clear_value v7
  clear_value v8
  have h11 : Same [.regs, .frg, .tal, .gbk, .ldg, .low] s0 s10 := by
    unfold s10
    refine Same.comp (same_resolveArmed _ _ _) (by decide) ?_
    refine Same.comp (same_setFrgState _ _) (by decide) ?_
    refine Same.comp (same_frgResult _ _) (by decide) ?_
    refine Same.set_frg (by decide) (Or.inr rfl) ?_
    exact Same.refl _ _
  clear_value s10
  clear_value v12
  refine Same.ite ?_ ?_
  · refine Same.comp (same_frgResult _ _) (by decide) ?_
    exact Same.refl _ _
  · refine Same.ite ?_ ?_
    · refine Same.comp (same_frgResult _ _) (by decide) ?_
      exact Same.refl _ _
    · refine Same.ite ?_ ?_
      · refine Same.comp (same_raise _ _ _ _ _) (by decide) ?_
        refine Same.comp (same_rput_lo _ _ _ (by decide)) (by decide) ?_
        refine Same.comp (same_fput_lo _ _ _ (by decide)) (by decide) ?_
        exact h11
      · exact h11

theorem same_timeFeeds (x0 : Frame) (x1 : Nat) (s0 : State) : Same [.regs, .tal, .gbk, .tim, .phs, .ldg] s0 (timeFeeds x0 x1 s0) := by
  unfold timeFeeds
  extract_lets +onlyGivenNames -merge -underBinder v1 v2 v3 v4 v5 v6 s7 s11
  clear_value v1
  clear_value v2
  clear_value v3
  clear_value v4
  clear_value v5
  have h8 : Same [.regs, .tal, .gbk, .tim, .phs, .ldg] s0 s7 := by
    unfold s7
    unfold v6
    extract_lets +onlyGivenNames -merge -underBinder v9
    clear_value v9
    refine Same.ite ?_ ?_
    · refine same_withValid_h (by decide) (fun _ h10 => ?_) ?_
      · refine Same.comp (same_msgSample _ _ _) (by decide) ?_
        exact h10
      refine Same.comp (same_bump _ _ _) (by decide) ?_
      exact Same.refl _ _
    · exact Same.refl _ _
  clear_value s7
  have h12 : Same [.regs, .tal, .gbk, .tim, .phs, .ldg] s0 s11 := by
    unfold s11
    refine Same.ite ?_ ?_
    · refine Same.ite ?_ ?_
      · unfold v6
        extract_lets +onlyGivenNames -merge -underBinder v13
        clear_value v13
        refine Same.ite ?_ ?_
        · refine same_withValid_h (by decide) (fun _ h14 => ?_) ?_
          · refine Same.comp (same_msgSample _ _ _) (by decide) ?_
            exact h14
          refine Same.comp (same_bump _ _ _) (by decide) ?_
          refine Same.comp (same_timeSample _ _ _ _) (by decide) ?_
          refine Same.comp (same_bump _ _ _) (by decide) ?_
          exact Same.refl _ _
        · refine Same.comp (same_timeSample _ _ _ _) (by decide) ?_
          refine Same.comp (same_bump _ _ _) (by decide) ?_
          exact Same.refl _ _
      · refine Same.comp (same_stepTime _ _) (by decide) ?_
        exact h8
    · unfold v6
      extract_lets +onlyGivenNames -merge -underBinder v15
      clear_value v15
      refine Same.ite ?_ ?_
      · refine same_withValid_h (by decide) (fun _ h16 => ?_) ?_
        · refine Same.comp (same_msgSample _ _ _) (by decide) ?_
          exact h16
        refine Same.comp (same_bump _ _ _) (by decide) ?_
        exact Same.refl _ _
      · exact Same.refl _ _
  clear_value s11
  refine Same.ite ?_ ?_
  · refine Same.comp (same_writeUtcOffset _ _) (by decide) ?_
    exact h12
  · exact h12

theorem same_sentBad (x0 : Nat) (x1 : Sending) (s0 : State) : Same [.regs, .glb, .tal, .gbk, .tab] s0 (sentBad x0 x1 s0) := by
  unfold sentBad
  extract_lets +onlyGivenNames -merge -underBinder s1
  have h2 : Same [.regs, .glb, .tal, .gbk, .tab] s0 s1 := by
    unfold s1
    refine Same.comp (same_egressLearn _ _ _) (by decide) ?_
    refine Same.comp (same_bump _ _ _) (by decide) ?_
    exact Same.refl _ _
  clear_value s1
  refine Same.ite ?_ ?_
  · refine Same.comp (same_bump _ _ _) (by decide) ?_
    exact h2
  · exact h2

theorem same_sendHello (x0 : Nat) (s0 : State) : Same [.regs, .glb, .tal, .gbk, .fab, .dp] s0 (sendHello x0 s0) := by
  unfold sendHello
  extract_lets +onlyGivenNames -merge -underBinder v1
  clear_value v1
  refine Same.comp (same_fabSend _ _ _ _) (by decide) ?_
  refine Same.comp (same_putFabPort _ _ _) (by decide) ?_
  exact Same.refl _ _

theorem same_releaseFrame (x0 : Nat) (x1 : Frame) (x2 : Pass) (s0 : State) : Same [.regs, .glb, .tal, .gbk, .dp, .fry, .tmg] s0 (releaseFrame x0 x1 x2 s0) := by
  unfold releaseFrame
  split
  rename_i a1 s2 e4
  have h3 : Same [.regs, .glb, .tal, .gbk, .dp, .fry, .tmg] s0 s2 := by
    refine Same.of2 e4 ?_
    refine Same.comp (same_ferryCounts _ _ _ _) (by decide) ?_
    exact Same.refl _ _
  extract_lets +onlyGivenNames -merge -underBinder v5 v6 v7 v8
  clear_value v5
  clear_value v6
  clear_value v7
  clear_value v8
  refine Same.ite ?_ ?_
  · exact h3
  · split
    rename_i a9 s10 e12
    have h11 : Same [.regs, .glb, .tal, .gbk, .dp, .fry, .tmg] s0 s10 := by
      refine Same.of2 e12 ?_
      refine Same.ite2 ?_ ?_
      · refine Same.comp (same_mirrorCopy _ _ _) (by decide) ?_
        exact h3
      · exact h3
    extract_lets +onlyGivenNames -merge -underBinder v13 s14 v16 s17
    clear_value v13
    have h15 : Same [.regs, .glb, .tal, .gbk, .dp, .fry, .tmg] s0 s14 := by
      unfold s14
      refine Same.ite ?_ ?_
      · refine Same.comp (same_raise _ _ _ _ _) (by decide) ?_
        refine Same.comp (same_bump _ _ _) (by decide) ?_
        exact h11
      · exact h11
    clear_value s14
    clear_value v16
    have h18 : Same [.regs, .glb, .tal, .gbk, .dp, .fry, .tmg] s0 s17 := by
      unfold s17
      refine Same.ite ?_ ?_
      · refine Same.comp (same_parseEvent _ _ _ _ _) (by decide) ?_
        refine Same.comp (same_setInt_top _ _ _ (Or.inl (by simp only [A.HTH_INT_STAT]; omega))) (by decide) ?_
        refine Same.comp (same_parseCtr _ _ _) (by decide) ?_
        exact h15
      · exact h15
    clear_value s17
    refine Same.ite ?_ ?_
    · refine Same.comp (same_admitAll _ _) (by decide) ?_
      refine Same.comp (same_putFrame _ _ _) (by decide) ?_
      exact h18
    · split
      · extract_lets +onlyGivenNames -merge -underBinder v19
        clear_value v19
        refine Same.comp (same_admitAll _ _) (by decide) ?_
        exact h18
      · extract_lets +onlyGivenNames -merge -underBinder v20 v21 s22
        clear_value v20
        clear_value v21
        have h23 : Same [.regs, .glb, .tal, .gbk, .dp, .fry, .tmg] s0 s22 := by
          unfold s22
          refine Same.comp (same_putFrame _ _ _) (by decide) ?_
          exact h18
        clear_value s22
        refine Same.ite ?_ ?_
        · refine Same.comp (same_admitAll _ _) (by decide) ?_
          refine Same.comp (same_putFrame _ _ _) (by decide) ?_
          exact h18
        · split
          rename_i a24 s25 e27
          have h26 : Same [.regs, .glb, .tal, .gbk, .dp, .fry, .tmg] s0 s25 := by
            refine Same.of2 e27 ?_
            refine Same.comp (same_forwardCopies _ _ _ _ _) (by decide) ?_
            exact h23
          refine Same.comp (same_admitAll _ _) (by decide) ?_
          exact h26

theorem same_sentOk (x0 : Nat) (x1 : Sending) (x2 : Frame) (s0 : State) : Same [.regs, .glb, .tal, .gbk, .tim, .tab] s0 (sentOk x0 x1 x2 s0) := by
  unfold sentOk
  extract_lets +onlyGivenNames -merge -underBinder v1 s2 s4 s6
  clear_value v1
  have h3 : Same [.regs, .glb, .tal, .gbk, .tim, .tab] s0 s2 := by
    unfold s2
    refine Same.comp (same_bumpN _ _ _ _) (by decide) ?_
    refine Same.comp (same_bumpN _ _ _ _) (by decide) ?_
    exact Same.refl _ _
  clear_value s2
  have h5 : Same [.regs, .glb, .tal, .gbk, .tim, .tab] s0 s4 := by
    unfold s4
    split
    · refine Same.comp (same_bumpN _ _ _ _) (by decide) ?_
      refine Same.comp (same_bump _ _ _) (by decide) ?_
      exact h3
    · exact h3
  clear_value s4
  have h7 : Same [.regs, .glb, .tal, .gbk, .tim, .tab] s0 s6 := by
    unfold s6
    refine Same.ite ?_ ?_
    · refine Same.comp (same_pushTxStamp _ _ _ _) (by decide) ?_
      exact h5
    · exact h5
  clear_value s6
  refine Same.comp (same_egressLearn _ _ _) (by decide) ?_
  exact h7

theorem same_placeArrived (x0 : Nat) (x1 : List Byte) (s0 : State) : Same [.regs, .tal, .gbk, .ldg, .hlt, .tab] s0 (placeArrived x0 x1 s0) := by
  unfold placeArrived
  extract_lets +onlyGivenNames -merge -underBinder v1
  clear_value v1
  refine Same.ite ?_ ?_
  · exact Same.refl _ _
  · refine Same.comp (same_fillTables _ _ _) (by decide) ?_
    refine Same.comp (same_clearBank _ _) (by decide) ?_
    exact Same.refl _ _

theorem same_sendHead (x0 : Nat) (x1 : Nat) (x2 : Bool) (s0 : State) : Same [.regs, .glb, .tal, .gbk, .fab, .dp, .tab, .fry, .tmg] s0 (sendHead x0 x1 x2 s0) := by
  unfold sendHead
  split
  · exact Same.refl _ _
  · split
    · refine Same.comp (same_returnCharges _ _ _ _) (by decide) ?_
      refine Same.comp (same_putQueue _ _ _) (by decide) ?_
      exact Same.refl _ _
    · extract_lets +onlyGivenNames -merge -underBinder v1 v2
      clear_value v1
      clear_value v2
      refine Same.ite ?_ ?_
      · refine Same.comp (same_stopCopy _ _ _ _ _) (by decide) ?_
        refine Same.comp (same_leaveQueue _ _ _ _) (by decide) ?_
        exact Same.refl _ _
      · split
        rename_i a3 s4 e6
        have h5 : Same [.regs, .glb, .tal, .gbk, .fab, .dp, .tab, .fry, .tmg] s0 s4 := by
          refine Same.of2 e6 ?_
          refine Same.comp (same_finalPlan _ _ _ _) (by decide) ?_
          exact Same.refl _ _
        extract_lets +onlyGivenNames -merge -underBinder v7 v8 s9 s11 s13 v15 v16 v17
        clear_value v7
        clear_value v8
        have h10 : Same [.regs, .glb, .tal, .gbk, .fab, .dp, .tab, .fry, .tmg] s0 s9 := by
          unfold s9
          refine Same.comp (same_chargeShapers _ _ _ _ _) (by decide) ?_
          refine Same.comp (same_noteSojourn _ _ _) (by decide) ?_
          refine Same.comp (same_leaveQueue _ _ _ _) (by decide) ?_
          exact h5
        clear_value s9
        have h12 : Same [.regs, .glb, .tal, .gbk, .fab, .dp, .tab, .fry, .tmg] s0 s11 := by
          unfold s11
          refine Same.comp (same_egressMirror _ _ _ _) (by decide) ?_
          refine Same.comp (same_encapCounts _ _ _ _) (by decide) ?_
          exact h10
        clear_value s11
        have h14 : Same [.regs, .glb, .tal, .gbk, .fab, .dp, .tab, .fry, .tmg] s0 s13 := by
          unfold s13
          refine Same.ite ?_ ?_
          · refine Same.comp (same_bump _ _ _) (by decide) ?_
            exact h12
          · exact h12
        clear_value s13
        clear_value v15
        clear_value v16
        clear_value v17
        refine Same.comp (same_putTx _ _ _) (by decide) ?_
        refine Same.set_tmg (by decide) ?_
        exact h14

theorem same_takeoverOp (s0 : State) : Same [.regs, .glb, .tal, .gbk, .fab, .dp] s0 (takeoverOp s0) := by
  unfold takeoverOp
  extract_lets +onlyGivenNames -merge -underBinder v1 s2 v4 v5 s6
  clear_value v1
  have h3 : Same [.regs, .glb, .tal, .gbk, .fab, .dp] s0 s2 := by
    unfold s2
    refine Same.comp (same_rput_top _ _ _ (Or.inl (by decide))) (by decide) ?_
    refine Same.comp (same_rput_top _ _ _ (Or.inl (by decide))) (by decide) ?_
    refine Same.comp (same_fput_top _ _ _ (Or.inl (by decide))) (by decide) ?_
    refine Same.comp (same_fput_top _ _ _ (Or.inl (by decide))) (by decide) ?_
    exact Same.refl _ _
  clear_value s2
  clear_value v4
  clear_value v5
  have h7 : Same [.regs, .glb, .tal, .gbk, .fab, .dp] s0 s6 := by
    unfold s6
    refine Same.set_fab (by decide) ?_
    exact h3
  clear_value s6
  refine Same.ite ?_ ?_
  · refine Same.comp (same_fput_top _ _ _ (Or.inl (by decide))) (by decide) ?_
    exact Same.refl _ _
  · refine Same.ite ?_ ?_
    · refine Same.comp (same_fput_top _ _ _ (Or.inl (by decide))) (by decide) ?_
      exact Same.refl _ _
    · refine Same.comp (same_sendTime _) (by decide) ?_
      refine Same.comp (same_raise _ _ _ _ _) (by decide) ?_
      exact h7

theorem same_relay (x0 : Nat) (x1 : Frame) (x2 : Nat) (x3 : Nat) (s0 : State) : Same [.regs, .glb, .tal, .gbk, .dp] s0 (relay x0 x1 x2 x3 s0) := by
  unfold relay
  extract_lets +onlyGivenNames -merge -underBinder v1 v2 v3 v4
  clear_value v1
  clear_value v2
  clear_value v3
  clear_value v4
  refine Same.ite ?_ ?_
  · refine Same.comp (same_hopsExceeded _ _ _) (by decide) ?_
    exact Same.refl _ _
  · refine Same.comp (same_fabQueue _ _ _) (by decide) ?_
    exact Same.refl _ _

theorem same_trigCommit (x0 : Bool) (x1 : Nat) (x2 : Nat) (x3 : Nat) (x4 : Nat) (x5 : Bool) (s0 : State) : Same [.regs, .frg, .tal, .gbk, .ldg, .fab, .low] s0 (trigCommit x0 x1 x2 x3 x4 x5 s0).2 := by
  unfold trigCommit
  extract_lets +onlyGivenNames -merge -underBinder s1 s3 v5
  have h2 : Same [.regs, .frg, .tal, .gbk, .ldg, .fab, .low] s0 s1 := by
    unfold s1
    refine Same.comp (same_fput_lo _ _ _ (by decide)) (by decide) ?_
    refine Same.comp (same_fput_lo _ _ _ (by decide)) (by decide) ?_
    refine Same.comp (same_latchInstant_lo _ _ _ (by decide)) (by decide) ?_
    exact Same.refl _ _
  clear_value s1
  have h4 : Same [.regs, .frg, .tal, .gbk, .ldg, .fab, .low] s0 s3 := by
    unfold s3
    refine Same.comp (same_armOp _ _ _) (by decide) ?_
    exact h2
  clear_value s3
  clear_value v5
  refine Same.ite2 ?_ ?_
  · exact Same.refl _ _
  · refine Same.ite2 ?_ ?_
    · refine Same.comp (same_noteArmed _ _ _) (by decide) ?_
      exact h4
    · exact h4

theorem same_hostLoss (x0 : HostLoss) (s0 : State) : Same [.regs, .mem, .glb, .frg, .hif, .tal, .gbk, .tim, .ldg, .fab, .por, .dry, .dp, .tab, .base, .act, .low, .mid] s0 (hostLoss x0 s0) := by
  unfold hostLoss
  extract_lets +onlyGivenNames -merge -underBinder s1 v3 s4 v6
  have h2 : Same [.regs, .mem, .glb, .frg, .hif, .tal, .gbk, .tim, .ldg, .fab, .por, .dry, .dp, .tab, .base, .act, .low, .mid] s0 s1 := by
    unfold s1
    refine Same.comp (same_functionReset _) (by decide) ?_
    refine Same.comp (same_raise _ _ _ _ _) (by decide) ?_
    exact Same.refl _ _
  clear_value s1
  clear_value v3
  have h5 : Same [.regs, .mem, .glb, .frg, .hif, .tal, .gbk, .tim, .ldg, .fab, .por, .dry, .dp, .tab, .base, .act, .low, .mid] s0 s4 := by
    unfold s4
    refine Same.set_hif (by decide) ?_
    exact h2
  clear_value s4
  clear_value v6
  refine Same.ite ?_ ?_
  · exact Same.refl _ _
  · refine Same.ite ?_ ?_
    · exact h2
    · refine Same.ite ?_ ?_
      · refine Same.set_hif (by decide) ?_
        exact h5
      · exact h5

theorem same_selectBy (x0 : Nat) (x1 : Fld) (x2 : Nat → Bool) (x3 : Bool) (s0 : State) : Same [.regs, .glb, .tal, .gbk, .fab, .dp, .tab, .fry, .tmg, .low, .mid] s0 (selectBy x0 x1 x2 x3 s0) := by
  unfold selectBy
  extract_lets +onlyGivenNames -merge -underBinder v1
  clear_value v1
  split
  · exact Same.refl _ _
  · refine Same.comp (same_sendHead _ _ _ _) (by decide) ?_
    refine Same.comp (same_fput _ _ _) (by decide) ?_
    exact Same.refl _ _

theorem same_releasePass (x0 : Nat) (x1 : Pass) (s0 : State) : Same [.regs, .glb, .tal, .gbk, .fab, .dp, .fry, .tmg] s0 (releasePass x0 x1 s0) := by
  unfold releasePass
  split
  · exact Same.refl _ _
  · extract_lets +onlyGivenNames -merge -underBinder v1
    clear_value v1
    refine Same.ite ?_ ?_
    · refine Same.comp (same_hostKixon _ _ _ _) (by decide) ?_
      exact Same.refl _ _
    · refine Same.ite ?_ ?_
      · refine Same.ite ?_ (Same.ite ?_ ?_)
        · exact Same.refl _ _
        · refine Same.comp (same_bump _ _ _) (by decide) ?_
          exact Same.refl _ _
        · refine Same.set_fab (by decide) ?_
          exact Same.refl _ _
      · refine Same.ite ?_ ?_
        · refine Same.comp (same_bump _ _ _) (by decide) ?_
          exact Same.refl _ _
        · refine Same.comp (same_releaseFrame _ _ _ _) (by decide) ?_
          exact Same.refl _ _

theorem same_runStage (x0 : Nat) (x1 : Nat) (s0 : State) : Same [.regs, .glb, .tal, .gbk, .ldg, .fab, .hlt, .dp, .tab, .tmg, .free] s0 (runStage x0 x1 s0) := by
  unfold runStage
  refine Same.ite ?_ ?_
  · refine Same.comp (same_takeCells _ _ _) (by decide) ?_
    exact Same.refl _ _
  · refine Same.ite ?_ ?_
    · refine Same.comp (same_moveNext _ _ _) (by decide) ?_
      exact Same.refl _ _
    · refine Same.ite ?_ ?_
      · refine Same.comp (same_flushNext _) (by decide) ?_
        exact Same.refl _ _
      · split
        · exact Same.refl _ _
        · split
          · refine Same.comp (same_putPipe _ _ _) (by decide) ?_
            exact Same.refl _ _
          · split
            rename_i a1 s2 e4
            have h3 : Same [.regs, .glb, .tal, .gbk, .ldg, .fab, .hlt, .dp, .tab, .tmg, .free] s0 s2 := by
              refine Same.of2 e4 ?_
              refine Same.comp (same_stageOf _ _ _ _ _) (by decide) ?_
              exact Same.refl _ _
            refine Same.comp (same_putPipe _ _ _) (by decide) ?_
            exact h3

theorem same_startHello (x0 : Nat) (s0 : State) : Same [.regs, .glb, .tal, .gbk, .fab, .dp, .free] s0 (startHello x0 s0) := by
  unfold startHello
  extract_lets +onlyGivenNames -merge -underBinder v1 s2 v4 s5
  clear_value v1
  have h3 : Same [.regs, .glb, .tal, .gbk, .fab, .dp, .free] s0 s2 := by
    unfold s2
    refine Same.set_free (by decide) ?_
    exact Same.refl _ _
  clear_value s2
  clear_value v4
  have h6 : Same [.regs, .glb, .tal, .gbk, .fab, .dp, .free] s0 s5 := by
    unfold s5
    refine Same.comp (same_putFabPort _ _ _) (by decide) ?_
    exact h3
  clear_value s5
  refine Same.comp (same_chooseUp _) (by decide) ?_
  refine Same.comp (same_sendHello _ _) (by decide) ?_
  refine Same.comp (same_fput_top _ _ _ (Or.inl (by simp only [F.FAB_PORT_STATUS_STATE]; omega))) (by decide) ?_
  exact h6

theorem same_rehelloOp (x0 : Nat) (s0 : State) : Same [.regs, .glb, .tal, .gbk, .fab, .dp, .free] s0 (rehelloOp x0 s0) := by
  unfold rehelloOp
  refine Same.ite ?_ ?_
  · refine Same.comp (same_freeCells _) (by decide) ?_
    refine Same.comp (same_startHello _ _) (by decide) ?_
    refine Same.comp (same_fput_top _ _ _ (Or.inl (by decide))) (by decide) ?_
    exact Same.refl _ _
  · refine Same.comp (same_fput_top _ _ _ (Or.inl (by decide))) (by decide) ?_
    exact Same.refl _ _

theorem same_fillBank (x0 : Nat) (x1 : Forging) (s0 : State) : Same [.regs, .frg, .tal, .gbk, .ldg, .hlt, .tab, .act] s0 (fillBank x0 x1 s0) := by
  unfold fillBank
  refine Same.comp (same_fillTables _ _ _) (by decide) ?_
  refine Same.comp (same_clearBank _ _) (by decide) ?_
  refine Same.comp (same_putBank _ _ _) (by decide) ?_
  exact Same.refl _ _

theorem same_sendTrigCopy (s0 : State) : Same [.regs, .glb, .tal, .gbk, .fab, .dp] s0 (sendTrigCopy s0) := by
  unfold sendTrigCopy
  split
  · extract_lets +onlyGivenNames -merge -underBinder v1 s2
    clear_value v1
    have h3 : Same [.regs, .glb, .tal, .gbk, .fab, .dp] s0 s2 := by
      unfold s2
      refine Same.set_fab (by decide) ?_
      exact Same.refl _ _
    clear_value s2
    refine Same.comp (same_fabSend _ _ _ _) (by decide) ?_
    exact h3
  · exact Same.refl _ _

theorem same_fabLinkUp (x0 : Nat) (s0 : State) : Same [.regs, .glb, .tal, .gbk, .fab, .dp, .free] s0 (fabLinkUp x0 s0) := by
  unfold fabLinkUp
  refine Same.ite ?_ ?_
  · refine Same.comp (same_startHello _ _) (by decide) ?_
    exact Same.refl _ _
  · exact Same.refl _ _

theorem same_shadowReady (x0 : Forging) (s0 : State) : Same [.regs, .frg, .tal, .gbk, .ldg, .fab, .hlt, .tab, .act, .low] s0 (shadowReady x0 s0) := by
  unfold shadowReady
  extract_lets +onlyGivenNames -merge -underBinder s1 s3
  have h2 : Same [.regs, .frg, .tal, .gbk, .ldg, .fab, .hlt, .tab, .act, .low] s0 s1 := by
    unfold s1
    refine Same.comp (same_showBases _) (by decide) ?_
    refine Same.comp (same_fillBank _ _ _) (by decide) ?_
    exact Same.refl _ _
  clear_value s1
  have h4 : Same [.regs, .frg, .tal, .gbk, .ldg, .fab, .hlt, .tab, .act, .low] s0 s3 := by
    unfold s3
    refine Same.comp (same_rput64_lo _ _ _ _ (by decide) (by decide)) (by decide) ?_
    refine Same.comp (same_setFrgState _ _) (by decide) ?_
    exact h2
  clear_value s3
  split
  · extract_lets +onlyGivenNames -merge -underBinder v5
    clear_value v5
    refine Same.ite ?_ ?_
    · exact h4
    · refine Same.set_fab (by decide) ?_
      exact h4
  · exact h4

theorem same_runDue (x0 x1 : Nat) (s0 : State) :
    Same [.regs, .clk, .glb, .tal, .gbk, .tim, .phs, .ldg, .fab, .hlt, .dp, .tab, .tmg, .free] s0 (runDue x0 x1 s0) := by
  induction x1 generalizing s0 with
  | zero => exact Same.refl _ _
  | succ n ih =>
    unfold runDue
    split
    · exact Same.refl _ _
    · refine Same.ite (Same.refl _ _) ?_
      refine Same.comp (ih _) (by decide) ?_
      refine Same.comp (same_runStage _ _ _) (by decide) ?_
      exact Same.comp (same_passClocks _ _) (by decide) (Same.refl _ _)

theorem same_actTrigger (x0 : List Byte) (s0 : State) : Same [.regs, .frg, .tal, .gbk, .phs, .ldg, .fab, .low] s0 (actTrigger x0 s0) := by
  unfold actTrigger
  extract_lets +onlyGivenNames -merge -underBinder v1 v2 v3 v4 v5 v6 s7
  clear_value v1
  clear_value v2
  clear_value v3
  clear_value v4
  clear_value v5
  clear_value v6
  have h8 : Same [.regs, .frg, .tal, .gbk, .phs, .ldg, .fab, .low] s0 s7 := by
    unfold s7
    refine Same.set_fab (by decide) ?_
    exact Same.refl _ _
  clear_value s7
  refine Same.ite ?_ ?_
  · exact h8
  · split
    rename_i a9 s10 e12
    have h11 : Same [.regs, .frg, .tal, .gbk, .phs, .ldg, .fab, .low] s0 s10 := by
      refine Same.of2 e12 ?_
      refine Same.ite2 ?_ ?_
      · refine Same.comp (same_trigSnapshot _ _ _ _ _) (by decide) ?_
        exact h8
      · refine Same.ite2 ?_ ?_
        · refine Same.comp (same_trigCommit _ _ _ _ _ _ _) (by decide) ?_
          exact h8
        · refine Same.ite2 ?_ ?_
          · refine Same.comp (same_trigCommit _ _ _ _ _ _ _) (by decide) ?_
            exact h8
          · refine Same.ite2 ?_ ?_
            · refine Same.comp (same_trigKeySwitch _ _ _) (by decide) ?_
              exact h8
            · refine Same.comp (same_trigDisarm _ _) (by decide) ?_
              exact h8
    refine Same.comp (same_trigReport _ _ _ _ _) (by decide) ?_
    exact h11

theorem same_writeFabPort (x0 : Nat) (x1 : Nat) (s0 : State) : Same [.regs, .glb, .tal, .gbk, .fab, .dp, .free] s0 (writeFabPort x0 x1 s0) := by
  unfold writeFabPort
  extract_lets +onlyGivenNames -merge -underBinder v1 s2
  clear_value v1
  have h3 : Same [.regs, .glb, .tal, .gbk, .fab, .dp, .free] s0 s2 := by
    unfold s2
    refine Same.comp (same_writeRw_top _ _ _ (Or.inl (by simp only [A.FAB_PORT_CFG]; omega))) (by decide) ?_
    exact Same.refl _ _
  clear_value s2
  refine Same.ite ?_ ?_
  · refine Same.comp (same_fabDown _ _) (by decide) ?_
    exact h3
  · refine Same.ite ?_ ?_
    · refine Same.comp (same_freeCells _) (by decide) ?_
      refine Same.comp (same_startHello _ _) (by decide) ?_
      exact h3
    · refine Same.comp (same_chooseUp _) (by decide) ?_
      exact h3

theorem same_writeTim (x0 : Nat) (x1 : Nat) (s0 : State) : Same [.regs, .tal, .gbk, .tim, .phs, .ldg, .low, .mid] s0 (writeTim x0 x1 s0) := by
  unfold writeTim
  refine Same.ite ?_ ?_
  · refine Same.comp (same_writeTimCtl _ _) (by decide) ?_
    exact Same.refl _ _
  · refine Same.ite ?_ ?_
    · refine Same.comp (same_writeTimCmd _ _) (by decide) ?_
      exact Same.refl _ _
    · refine Same.ite ?_ ?_
      · refine Same.comp (same_smpPost _ _) (by decide) ?_
        exact Same.refl _ _
      · refine Same.ite ?_ ?_
        · refine Same.comp (same_followHostAdj _) (by decide) ?_
          refine Same.comp (same_writeRw _ _ _) (by decide) ?_
          exact Same.refl _ _
        · refine Same.ite ?_ ?_
          · refine Same.comp (same_relock _) (by decide) ?_
            refine Same.comp (same_writeRw _ _ _) (by decide) ?_
            exact Same.refl _ _
          · refine Same.ite ?_ ?_
            · refine Same.comp (same_writeUtcOffset _ _) (by decide) ?_
              exact Same.refl _ _
            · refine Same.comp (same_writeRw _ _ _) (by decide) ?_
              exact Same.refl _ _

theorem same_tableWrites (s0 : State) : Same [.regs, .clk, .glb, .tal, .gbk, .tim, .phs, .ldg, .fab, .hlt, .dp, .tab, .tmg, .free] s0 (tableWrites s0) := by
  unfold tableWrites
  refine Same.comp (same_runDue _ _ _) (by decide) ?_
  exact Same.refl _ _

theorem same_transmitEnd (x0 : Nat) (s0 : State) : Same [.regs, .clk, .glb, .tal, .gbk, .tim, .phs, .ldg, .fab, .hlt, .pin, .dp, .tab, .tmg, .free] s0 (transmitEnd x0 s0) := by
  unfold transmitEnd
  extract_lets +onlyGivenNames -merge -underBinder s1 v3
  have h2 : Same [.regs, .clk, .glb, .tal, .gbk, .tim, .phs, .ldg, .fab, .hlt, .pin, .dp, .tab, .tmg, .free] s0 s1 := by
    unfold s1
    refine Same.comp (same_tableWrites _) (by decide) ?_
    exact Same.refl _ _
  clear_value s1
  clear_value v3
  split
  · exact h2
  · split
    · refine Same.comp (same_putTx _ _ _) (by decide) ?_
      refine Same.comp (same_returnCharges _ _ _ _) (by decide) ?_
      exact h2
    · extract_lets +onlyGivenNames -merge -underBinder v4 v5 v6 s7 v9 s10 s12
      clear_value v4
      clear_value v5
      clear_value v6
      have h8 : Same [.regs, .clk, .glb, .tal, .gbk, .tim, .phs, .ldg, .fab, .hlt, .pin, .dp, .tab, .tmg, .free] s0 s7 := by
        unfold s7
        refine Same.comp (same_returnCharges _ _ _ _) (by decide) ?_
        refine Same.comp (same_putTx _ _ _) (by decide) ?_
        exact h2
      clear_value s7
      clear_value v9
      have h11 : Same [.regs, .clk, .glb, .tal, .gbk, .tim, .phs, .ldg, .fab, .hlt, .pin, .dp, .tab, .tmg, .free] s0 s10 := by
        unfold s10
        refine Same.set_pin (by decide) ?_
        exact h8
      clear_value s10
      have h13 : Same [.regs, .clk, .glb, .tal, .gbk, .tim, .phs, .ldg, .fab, .hlt, .pin, .dp, .tab, .tmg, .free] s0 s12 := by
        unfold s12
        refine Same.ite ?_ ?_
        · refine Same.comp (same_reenter _ _ _) (by decide) ?_
          exact h11
        · refine Same.ite ?_ ?_
          · refine Same.comp (same_sentBad _ _ _) (by decide) ?_
            exact h11
          · refine Same.comp (same_sentOk _ _ _ _) (by decide) ?_
            exact h11
      clear_value s12
      refine Same.ite ?_ ?_
      · exact h2
      · refine Same.comp (same_freeCells _) (by decide) ?_
        exact h13

theorem same_writePhs (x0 : Nat) (x1 : Nat) (s0 : State) : Same [.regs, .tal, .gbk, .phs, .ldg, .low, .mid] s0 (writePhs x0 x1 s0) := by
  unfold writePhs
  refine Same.ite ?_ ?_
  · refine Same.comp (same_writePhsCmd _ _) (by decide) ?_
    exact Same.refl _ _
  · refine Same.ite ?_ ?_
    · refine Same.comp (same_msgPost _ _) (by decide) ?_
      exact Same.refl _ _
    · refine Same.ite ?_ ?_
      · refine Same.ite ?_ ?_
        · refine Same.comp (same_chooseSource _) (by decide) ?_
          refine Same.comp (same_writeRw _ _ _) (by decide) ?_
          exact Same.refl _ _
        · refine Same.comp (same_writeRw _ _ _) (by decide) ?_
          exact Same.refl _ _
      · refine Same.ite ?_ ?_
        · refine Same.comp (same_writeLimits _ _) (by decide) ?_
          exact Same.refl _ _
        · refine Same.ite ?_ ?_
          · refine Same.comp (same_writeTa _ _ _) (by decide) ?_
            exact Same.refl _ _
          · refine Same.comp (same_writeRw _ _ _) (by decide) ?_
            exact Same.refl _ _

theorem same_onTime (x0 : Nat) (x1 : Frame) (s0 : State) : Same [.regs, .glb, .tal, .gbk, .tim, .phs, .ldg, .fab, .dp] s0 (onTime x0 x1 s0) := by
  unfold onTime
  extract_lets +onlyGivenNames -merge -underBinder v1 s2
  clear_value v1
  have h3 : Same [.regs, .glb, .tal, .gbk, .tim, .phs, .ldg, .fab, .dp] s0 s2 := by
    unfold s2
    refine Same.ite ?_ ?_
    · refine Same.comp (same_setInt_top _ _ _ (Or.inl (by decide))) (by decide) ?_
      refine Same.comp (same_stepDownNow _) (by decide) ?_
      exact Same.refl _ _
    · exact Same.refl _ _
  clear_value s2
  split
  rename_i a4 s5 e7
  have h6 : Same [.regs, .glb, .tal, .gbk, .tim, .phs, .ldg, .fab, .dp] s0 s5 := by
    refine Same.of2 e7 ?_
    refine Same.comp (same_acceptPair _ _) (by decide) ?_
    exact h3
  extract_lets +onlyGivenNames -merge -underBinder v8 s9 v11
  clear_value v8
  have h10 : Same [.regs, .glb, .tal, .gbk, .tim, .phs, .ldg, .fab, .dp] s0 s9 := by
    unfold s9
    refine Same.comp (same_chooseUp _) (by decide) ?_
    refine Same.comp (same_putFabPort _ _ _) (by decide) ?_
    exact h6
  clear_value s9
  clear_value v11
  refine Same.ite ?_ ?_
  · exact h6
  · refine Same.ite ?_ ?_
    · exact h10
    · refine Same.comp (same_relay _ _ _ _ _) (by decide) ?_
      refine Same.comp (same_timeFeeds _ _ _) (by decide) ?_
      exact h10

theorem same_votePass (x0 : Nat) (x1 : Pass) (x2 : VoteFaults) (s0 : State) : Same [.regs, .glb, .tal, .gbk, .fab, .hlt, .dp, .fry, .tmg] s0 (votePass x0 x1 x2 s0) := by
  unfold votePass
  extract_lets +onlyGivenNames -merge -underBinder s1
  have h2 : Same [.regs, .glb, .tal, .gbk, .fab, .hlt, .dp, .fry, .tmg] s0 s1 := by
    unfold s1
    refine Same.ite ?_ ?_
    · refine Same.comp (same_bump _ _ _) (by decide) ?_
      exact Same.refl _ _
    · exact Same.refl _ _
  clear_value s1
  split
  · refine Same.comp (same_recompute _ _ _) (by decide) ?_
    refine Same.comp (same_tcamRepaired _ _ _) (by decide) ?_
    refine Same.comp (same_healthInt _ _ _) (by decide) ?_
    refine Same.comp (same_healthCtr _ _ _) (by decide) ?_
    exact h2
  · extract_lets +onlyGivenNames -merge -underBinder v3 s4 v6 v7
    clear_value v3
    have h5 : Same [.regs, .glb, .tal, .gbk, .fab, .hlt, .dp, .fry, .tmg] s0 s4 := by
      unfold s4
      refine Same.comp (same_healthCtr _ _ _) (by decide) ?_
      exact h2
    clear_value s4
    clear_value v6
    clear_value v7
    refine Same.ite ?_ ?_
    · refine Same.ite ?_ ?_
      · refine Same.comp (same_releasePass _ _ _) (by decide) ?_
        exact h5
      · refine Same.comp (same_recompute _ _ _) (by decide) ?_
        refine Same.comp (same_voteMismatch _ _ _) (by decide) ?_
        exact h5
    · split
      · refine Same.comp (same_releasePass _ _ _) (by decide) ?_
        refine Same.ite ?_ ?_
        · refine Same.comp (same_voteMismatch _ _ _) (by decide) ?_
          exact h2
        · exact h2
      · refine Same.comp (same_outvote _ _ _) (by decide) ?_
        refine Same.comp (same_releasePass _ _ _) (by decide) ?_
        refine Same.comp (same_voteMismatch _ _ _) (by decide) ?_
        exact h2
      · refine Same.comp (same_recompute _ _ _) (by decide) ?_
        refine Same.comp (same_voteMismatch _ _ _) (by decide) ?_
        exact h2

theorem same_stagesNow (s0 : State) : Same [.regs, .clk, .glb, .tal, .gbk, .tim, .phs, .ldg, .fab, .hlt, .dp, .tab, .tmg, .free] s0 (stagesNow s0) := by
  unfold stagesNow
  refine Same.comp (same_runDue _ _ _) (by decide) ?_
  exact Same.refl _ _

theorem same_elapse (x0 : Nat) (s0 : State) : Same [.regs, .clk, .glb, .tal, .gbk, .tim, .phs, .ldg, .fab, .hlt, .dp, .tab, .tmg, .free] s0 (elapse x0 s0) := by
  unfold elapse
  extract_lets +onlyGivenNames -merge -underBinder v1 s2
  clear_value v1
  have h3 : Same [.regs, .clk, .glb, .tal, .gbk, .tim, .phs, .ldg, .fab, .hlt, .dp, .tab, .tmg, .free] s0 s2 := by
    unfold s2
    refine Same.comp (same_runDue _ _ _) (by decide) ?_
    exact Same.refl _ _
  clear_value s2
  refine Same.comp (same_passClocks _ _) (by decide) ?_
  exact h3

theorem same_reportUp (x0 : Nat) (s0 : State) : Same [.regs, .glb, .tal, .gbk, .fab, .prt, .dp, .free, .mid] s0 (reportUp x0 s0) := by
  unfold reportUp
  extract_lets +onlyGivenNames -merge -underBinder v1 s2 s4 s6
  clear_value v1
  have h3 : Same [.regs, .glb, .tal, .gbk, .fab, .prt, .dp, .free, .mid] s0 s2 := by
    unfold s2
    refine Same.comp (same_putPort _ _ _) (by decide) ?_
    exact Same.refl _ _
  clear_value s2
  have h5 : Same [.regs, .glb, .tal, .gbk, .fab, .prt, .dp, .free, .mid] s0 s4 := by
    unfold s4
    refine Same.comp (same_fput_hi _ _ _ (Or.inl (by simp only [F.PRT_STATUS_TRAINING]; omega))) (by decide) ?_
    refine Same.comp (same_fput_hi _ _ _ (Or.inl (by simp only [F.PRT_STATUS_LINK_UP]; omega))) (by decide) ?_
    exact h3
  clear_value s4
  have h7 : Same [.regs, .glb, .tal, .gbk, .fab, .prt, .dp, .free, .mid] s0 s6 := by
    unfold s6
    refine Same.comp (same_raise _ _ _ _ _) (by decide) ?_
    refine Same.comp (same_setInt_hi _ _ _ (Or.inl (by simp only [A.PRT_INT_STAT]; omega))) (by decide) ?_
    exact h5
  clear_value s6
  refine Same.comp (same_fabLinkUp _ _) (by decide) ?_
  refine Same.comp (same_verifyUpdate _ _) (by decide) ?_
  exact h7

theorem same_sendTriggerOp (s0 : State) : Same [.regs, .glb, .frg, .tal, .gbk, .phs, .ldg, .fab, .dp, .low] s0 (sendTriggerOp s0) := by
  unfold sendTriggerOp
  extract_lets +onlyGivenNames -merge -underBinder v1 v2 v3 s4 v6
  clear_value v1
  clear_value v2
  clear_value v3
  have h5 : Same [.regs, .glb, .frg, .tal, .gbk, .phs, .ldg, .fab, .dp, .low] s0 s4 := by
    unfold s4
    refine Same.comp (same_actTrigger _ _) (by decide) ?_
    refine Same.comp (same_fput_top _ _ _ (Or.inl (by decide))) (by decide) ?_
    exact Same.refl _ _
  clear_value s4
  clear_value v6
  refine Same.ite ?_ ?_
  · refine Same.comp (same_fput_top _ _ _ (Or.inl (by decide))) (by decide) ?_
    exact Same.refl _ _
  · refine Same.ite ?_ ?_
    · refine Same.comp (same_fput_top _ _ _ (Or.inl (by decide))) (by decide) ?_
      exact Same.refl _ _
    · refine Same.ite ?_ ?_
      · refine Same.comp (same_fput_top _ _ _ (Or.inl (by decide))) (by decide) ?_
        exact Same.refl _ _
      · refine Same.ite ?_ ?_
        · refine Same.comp (same_fput_top _ _ _ (Or.inl (by decide))) (by decide) ?_
          exact Same.refl _ _
        · refine Same.comp (same_sendTrigCopy _) (by decide) ?_
          refine Same.set_fab (by decide) ?_
          exact h5

theorem same_passTime (x0 : Nat) (s0 : State) : Same [.regs, .clk, .glb, .tal, .gbk, .tim, .phs, .ldg, .fab, .por, .hlt, .prt, .dp, .tab, .tmg, .free, .mid] s0 (passTime x0 s0) := by
  unfold passTime
  refine Same.ite ?_ ?_
  · exact Same.refl _ _
  · refine Same.comp (same_beginClock _) (by decide) ?_
    refine Same.comp (same_elapse _ _) (by decide) ?_
    refine Same.comp (same_patternCounts _ _) (by decide) ?_
    refine Same.comp (same_pauseCounts _ _) (by decide) ?_
    refine Same.comp (same_endClock _) (by decide) ?_
    refine Same.comp (same_stagesNow _) (by decide) ?_
    refine Same.comp (same_unstarve _) (by decide) ?_
    exact Same.refl _ _

theorem same_passFree (x0 : Nat) (s0 : State) : Same [.regs, .clk, .glb, .tal, .gbk, .tim, .phs, .ldg, .fab, .por, .hlt, .prt, .dp, .tab, .tmg, .free, .mid] s0 (passFree x0 s0) := by
  unfold passFree
  refine Same.ite ?_ ?_
  · exact Same.refl _ _
  · refine Same.comp (same_passTime _ _) (by decide) ?_
    exact Same.refl _ _

theorem same_selectPreemptable (x0 : Nat) (s0 : State) : Same [.regs, .glb, .tal, .gbk, .fab, .dp, .tab, .fry, .tmg, .low, .mid] s0 (selectPreemptable x0 s0) := by
  unfold selectPreemptable
  refine Same.ite ?_ ?_
  · exact Same.refl _ _
  · split
    · refine Same.ite ?_ ?_
      · exact Same.refl _ _
      · refine Same.comp (same_resumeOrDrop _ _ _) (by decide) ?_
        exact Same.refl _ _
    · refine Same.comp (same_selectBy _ _ _ _ _) (by decide) ?_
      exact Same.refl _ _

theorem same_onTrigger (x0 : Nat) (x1 : Frame) (s0 : State) : Same [.regs, .glb, .frg, .tal, .gbk, .phs, .ldg, .fab, .dp, .low] s0 (onTrigger x0 x1 s0) := by
  unfold onTrigger
  split
  rename_i a1 s2 e4
  have h3 : Same [.regs, .glb, .frg, .tal, .gbk, .phs, .ldg, .fab, .dp, .low] s0 s2 := by
    refine Same.of2 e4 ?_
    refine Same.comp (same_acceptPair _ _) (by decide) ?_
    exact Same.refl _ _
  extract_lets +onlyGivenNames -merge -underBinder v5 v6 v7 s8 s10
  clear_value v5
  clear_value v6
  clear_value v7
  have h9 : Same [.regs, .glb, .frg, .tal, .gbk, .phs, .ldg, .fab, .dp, .low] s0 s8 := by
    unfold s8
    refine Same.comp (same_bump _ _ _) (by decide) ?_
    exact h3
  clear_value s8
  have h11 : Same [.regs, .glb, .frg, .tal, .gbk, .phs, .ldg, .fab, .dp, .low] s0 s10 := by
    unfold s10
    refine Same.comp (same_actTrigger _ _) (by decide) ?_
    exact h3
  clear_value s10
  refine Same.ite ?_ ?_
  · exact h3
  · refine Same.ite ?_ ?_
    · refine Same.ite ?_ ?_
      · refine Same.comp (same_relay _ _ _ _ _) (by decide) ?_
        exact h9
      · exact h9
    · refine Same.ite ?_ ?_
      · exact h3
      · refine Same.ite ?_ ?_
        · refine Same.comp (same_relay _ _ _ _ _) (by decide) ?_
          exact h11
        · exact h11

theorem same_selectNext (x0 : Nat) (s0 : State) : Same [.regs, .glb, .tal, .gbk, .fab, .prt, .dp, .tab, .fry, .tmg, .low, .mid] s0 (selectNext x0 s0) := by
  unfold selectNext
  extract_lets +onlyGivenNames -merge -underBinder s1 v3 s4 v6 v7
  have h2 : Same [.regs, .glb, .tal, .gbk, .fab, .prt, .dp, .tab, .fry, .tmg, .low, .mid] s0 s1 := by
    unfold s1
    refine Same.comp (same_noteHolds _ _) (by decide) ?_
    exact Same.refl _ _
  clear_value s1
  clear_value v3
  have h5 : Same [.regs, .glb, .tal, .gbk, .fab, .prt, .dp, .tab, .fry, .tmg, .low, .mid] s0 s4 := by
    unfold s4
    refine Same.ite ?_ ?_
    · refine Same.comp (same_preempt _ _) (by decide) ?_
      exact h2
    · exact h2
  clear_value s4
  clear_value v6
  clear_value v7
  refine Same.ite ?_ ?_
  · refine Same.comp (same_sendMpacket _ _) (by decide) ?_
    exact h2
  · refine Same.ite ?_ ?_
    · refine Same.ite ?_ ?_
      · exact h5
      · refine Same.ite ?_ ?_
        · refine Same.comp (same_selectBy _ _ _ _ _) (by decide) ?_
          exact h5
        · refine Same.comp (same_selectPreemptable _ _) (by decide) ?_
          exact h5
    · refine Same.ite ?_ ?_
      · exact h2
      · split
        · refine Same.ite ?_ ?_
          · exact h2
          · refine Same.comp (same_resumeOrDrop _ _ _) (by decide) ?_
            exact h2
        · refine Same.comp (same_selectBy _ _ _ _ _) (by decide) ?_
          exact h2

theorem same_finishTables (s0 : State) : Same [.regs, .clk, .glb, .tal, .gbk, .tim, .phs, .ldg, .fab, .hlt, .dp, .tab, .fry, .tmg, .free] s0 (finishTables s0) := by
  unfold finishTables
  extract_lets +onlyGivenNames -merge -underBinder s1 s3 v6 s7 s9
  have h2 : Same [.regs, .clk, .glb, .tal, .gbk, .tim, .phs, .ldg, .fab, .hlt, .dp, .tab, .fry, .tmg, .free] s0 s1 := by
    unfold s1
    refine Same.comp (same_tableWrites _) (by decide) ?_
    exact Same.refl _ _
  clear_value s1
  have h4 : Same [.regs, .clk, .glb, .tal, .gbk, .tim, .phs, .ldg, .fab, .hlt, .dp, .tab, .fry, .tmg, .free] s0 s3 := by
    unfold s3
    refine Same.foldl (fun _ _ h5 => ?_) ?_
    · refine Same.comp (same_moveToEnd _ _ _ _ _) (by decide) ?_
      exact h5
    exact h2
  clear_value s3
  clear_value v6
  have h8 : Same [.regs, .clk, .glb, .tal, .gbk, .tim, .phs, .ldg, .fab, .hlt, .dp, .tab, .fry, .tmg, .free] s0 s7 := by
    unfold s7
    refine Same.set_tab (by decide) ?_
    exact h4
  clear_value s7
  have h10 : Same [.regs, .clk, .glb, .tal, .gbk, .tim, .phs, .ldg, .fab, .hlt, .dp, .tab, .fry, .tmg, .free] s0 s9 := by
    unfold s9
    refine Same.foldl (fun _ _ h11 => ?_) ?_
    · split
      · extract_lets +onlyGivenNames -merge -underBinder s12
        have h13 : Same [.regs, .clk, .glb, .tal, .gbk, .tim, .phs, .ldg, .fab, .hlt, .dp, .tab, .fry, .tmg, .free] s0 s12 := by
          unfold s12
          refine Same.comp (same_tblComplete _ _) (by decide) ?_
          exact h11
        clear_value s12
        refine Same.foldl (fun _ _ h14 => ?_) ?_
        · refine Same.comp (same_moveToEnd _ _ _ _ _) (by decide) ?_
          exact h14
        exact h13
      · exact h11
    exact h8
  clear_value s9
  refine Same.comp (same_tmplComplete _) (by decide) ?_
  exact h10

theorem same_onHello (x0 : Nat) (x1 : Frame) (s0 : State) : Same [.regs, .glb, .tal, .gbk, .fab, .dp, .free] s0 (onHello x0 x1 s0) := by
  unfold onHello
  extract_lets +onlyGivenNames -merge -underBinder v1 v2 v3 s4 s6
  clear_value v1
  clear_value v2
  clear_value v3
  have h5 : Same [.regs, .glb, .tal, .gbk, .fab, .dp, .free] s0 s4 := by
    unfold s4
    refine Same.comp (same_putFabPort _ _ _) (by decide) ?_
    exact Same.refl _ _
  clear_value s4
  have h7 : Same [.regs, .glb, .tal, .gbk, .fab, .dp, .free] s0 s6 := by
    unfold s6
    refine Same.ite ?_ ?_
    · refine Same.comp (same_startHello _ _) (by decide) ?_
      exact h5
    · exact h5
  clear_value s6
  refine Same.comp (same_fabSend _ _ _ _) (by decide) ?_
  exact h7

theorem same_writeFabCmd (x0 : Nat) (s0 : State) : Same [.regs, .glb, .frg, .tal, .gbk, .phs, .ldg, .fab, .dp, .free, .low] s0 (writeFabCmd x0 s0) := by
  unfold writeFabCmd
  extract_lets +onlyGivenNames -merge -underBinder v1
  clear_value v1
  refine Same.ite ?_ ?_
  · exact Same.refl _ _
  · refine Same.ite ?_ ?_
    · refine Same.comp (same_freeCells _) (by decide) ?_
      refine Same.comp (same_takeoverOp _) (by decide) ?_
      exact Same.refl _ _
    · refine Same.ite ?_ ?_
      · refine Same.comp (same_stepDownOp _) (by decide) ?_
        exact Same.refl _ _
      · refine Same.ite ?_ ?_
        · refine Same.comp (same_freeCells _) (by decide) ?_
          refine Same.comp (same_sendTriggerOp _) (by decide) ?_
          exact Same.refl _ _
        · refine Same.ite ?_ ?_
          · refine Same.comp (same_keySwitchOp _) (by decide) ?_
            exact Same.refl _ _
          · refine Same.ite ?_ ?_
            · refine Same.comp (same_rehelloOp _ _) (by decide) ?_
              exact Same.refl _ _
            · refine Same.comp (same_fput_top _ _ _ (Or.inl (by decide))) (by decide) ?_
              exact Same.refl _ _

theorem Same.keepPending {T : List Part} {s t : State} (h : Same T s t) : Same T s { t with pending := s.pending } :=
  ⟨fun p n => by cases p <;> first | rfl | exact h.part _ n, h.wf⟩

/-- A command whose effect stays within `T` stays within `T` once the device has settled, where `T` holds what settling
touches. -/
theorem same_after {T : List Part} {f : State → State} {s : State}
    (m : [Part.regs, Part.glb, Part.hif, Part.tal, Part.gbk, Part.hlt].all (fun p => T.contains p) = true)
    (h : Same T s (f s)) : Same T s (after f s) := by
  unfold after
  exact Same.keepPending (Same.comp (same_settle _) m h)

theorem same_idleClock (s0 : State) : Same [.regs, .clk, .glb, .hif, .tal, .gbk, .tim, .phs, .ldg, .fab, .por, .hlt, .prt, .dp, .tab, .tmg, .free, .mid] s0 (idleClock s0) := by
  unfold idleClock
  refine Same.ite (Same.refl _ _) ?_
  exact same_after (by decide) (Same.comp (same_passTime _ _) (by decide) (Same.refl _ _))

theorem same_tblInOrder (x0 : Nat) (s0 : State) : Same [.regs, .clk, .glb, .tal, .gbk, .tim, .phs, .ldg, .fab, .hlt, .dp, .tab, .tmg, .free] s0 (tblInOrder x0 s0) := by
  unfold tblInOrder
  split
  · refine Same.comp (same_tblComplete _ _) (by decide) ?_
    refine Same.ite ?_ ?_
    · exact Same.refl _ _
    · refine Same.ite ?_ ?_
      · refine Same.comp (same_stagesNow _) (by decide) ?_
        exact Same.refl _ _
      · refine Same.comp (same_tableWrites _) (by decide) ?_
        exact Same.refl _ _
  · exact Same.refl _ _

theorem same_voteFront (x0 : Nat) (x1 : VoteFaults) (s0 : State) : Same [.regs, .glb, .tal, .gbk, .fab, .hlt, .dp, .fry, .tmg] s0 (voteFront x0 x1 s0) := by
  unfold voteFront
  split
  · exact Same.refl _ _
  · extract_lets +onlyGivenNames -merge -underBinder v1
    clear_value v1
    refine Same.ite ?_ ?_
    · exact Same.refl _ _
    · refine Same.comp (same_freeCells _) (by decide) ?_
      refine Same.comp (same_votePass _ _ _ _) (by decide) ?_
      refine Same.comp (same_putPipe _ _ _) (by decide) ?_
      refine Same.set_tmg (by decide) ?_
      exact Same.refl _ _

theorem same_judgeLink (x0 : Nat) (s0 : State) : Same [.regs, .glb, .tal, .gbk, .fab, .pin, .prt, .dp, .tmg, .free, .mid] s0 (judgeLink x0 s0) := by
  unfold judgeLink
  extract_lets +onlyGivenNames -merge -underBinder v1 v2 v3 s4 v6
  clear_value v1
  clear_value v2
  clear_value v3
  have h5 : Same [.regs, .glb, .tal, .gbk, .fab, .pin, .prt, .dp, .tmg, .free, .mid] s0 s4 := by
    unfold s4
    refine Same.ite ?_ ?_
    · exact Same.refl _ _
    · refine Same.comp (same_failReceptions _ _) (by decide) ?_
      exact Same.refl _ _
  clear_value s4
  clear_value v6
  refine Same.ite ?_ ?_
  · refine Same.comp (same_putPort _ _ _) (by decide) ?_
    exact Same.refl _ _
  · refine Same.ite ?_ ?_
    · refine Same.comp (same_reportDown _ _) (by decide) ?_
      exact Same.refl _ _
    · refine Same.ite ?_ ?_
      · refine Same.ite ?_ ?_
        · refine Same.comp (same_reportUp _ _) (by decide) ?_
          exact Same.refl _ _
        · refine Same.comp (same_reportDown _ _) (by decide) ?_
          exact Same.refl _ _
      · refine Same.comp (same_putPort _ _ _) (by decide) ?_
        exact h5

theorem same_holdPort (x0 : Nat) (s0 : State) : Same [.regs, .glb, .tal, .gbk, .fab, .pin, .prt, .dp, .tmg, .free, .low, .mid] s0 (holdPort x0 s0) := by
  unfold holdPort
  extract_lets +onlyGivenNames -merge -underBinder s1 s3 s5 v8 s9 s11
  have h2 : Same [.regs, .glb, .tal, .gbk, .fab, .pin, .prt, .dp, .tmg, .free, .low, .mid] s0 s1 := by
    unfold s1
    refine Same.comp (same_forBits _ _ _) (by decide) ?_
    exact Same.refl _ _
  clear_value s1
  have h4 : Same [.regs, .glb, .tal, .gbk, .fab, .pin, .prt, .dp, .tmg, .free, .low, .mid] s0 s3 := by
    unfold s3
    refine Same.comp (same_raise _ _ _ _ _) (by decide) ?_
    refine Same.comp (same_dropPortQueues _ _ _ _) (by decide) ?_
    exact h2
  clear_value s3
  have h6 : Same [.regs, .glb, .tal, .gbk, .fab, .pin, .prt, .dp, .tmg, .free, .low, .mid] s0 s5 := by
    unfold s5
    refine same_abortTx_h (by decide) (fun _ _ h7 => ?_) ?_
    · refine Same.ite ?_ ?_
      · refine Same.comp (same_bump _ _ _) (by decide) ?_
        exact h7
      · refine Same.comp (same_bump _ _ _) (by decide) ?_
        exact h7
    exact h4
  clear_value s5
  clear_value v8
  have h10 : Same [.regs, .glb, .tal, .gbk, .fab, .pin, .prt, .dp, .tmg, .free, .low, .mid] s0 s9 := by
    unfold s9
    refine Same.comp (same_putPort _ _ _) (by decide) ?_
    exact h6
  clear_value s9
  have h12 : Same [.regs, .glb, .tal, .gbk, .fab, .pin, .prt, .dp, .tmg, .free, .low, .mid] s0 s11 := by
    unfold s11
    refine Same.comp (same_judgeLink _ _) (by decide) ?_
    exact h10
  clear_value s11
  refine Same.ite ?_ ?_
  · exact Same.refl _ _
  · refine Same.ite ?_ ?_
    · exact h6
    · refine Same.comp (same_verifyUpdate _ _) (by decide) ?_
      refine Same.comp (same_fput_hi _ _ _ (Or.inl (by simp only [F.PRT_STATUS_TRAINING]; omega))) (by decide) ?_
      refine Same.comp (same_fput_hi _ _ _ (Or.inl (by simp only [F.PRT_STATUS_AN_DONE]; omega))) (by decide) ?_
      refine Same.comp (same_fabLinkDown _ _) (by decide) ?_
      refine Same.comp (same_failReceptions _ _) (by decide) ?_
      exact h12

theorem same_judgeAll (s0 : State) : Same [.regs, .glb, .tal, .gbk, .fab, .pin, .prt, .dp, .tmg, .free, .mid] s0 (judgeAll s0) := by
  unfold judgeAll
  refine Same.foldl (fun _ _ h1 => ?_) ?_
  · refine Same.comp (same_judgeLink _ _) (by decide) ?_
    refine Same.ite ?_ ?_
    · exact h1
    · refine Same.comp (same_fput_hi _ _ _ (Or.inl (by simp only [F.PRT_STATUS_TRAINING]; omega))) (by decide) ?_
      exact h1
  exact Same.refl _ _

theorem same_discardForging (x0 : Nat) (s0 : State) : Same [.regs, .glb, .frg, .tal, .gbk, .phs, .ldg, .fab, .pin, .prt, .dp, .tmg, .free, .base, .act, .low, .mid] s0 (discardForging x0 s0) := by
  unfold discardForging
  extract_lets +onlyGivenNames -merge -underBinder s1 s3 v5 v6 v7
  have h2 : Same [.regs, .glb, .frg, .tal, .gbk, .phs, .ldg, .fab, .pin, .prt, .dp, .tmg, .free, .base, .act, .low, .mid] s0 s1 := by
    unfold s1
    refine Same.comp (same_emptyPath _) (by decide) ?_
    exact Same.refl _ _
  clear_value s1
  have h4 : Same [.regs, .glb, .frg, .tal, .gbk, .phs, .ldg, .fab, .pin, .prt, .dp, .tmg, .free, .base, .act, .low, .mid] s0 s3 := by
    unfold s3
    refine Same.comp (same_verifyAll _) (by decide) ?_
    refine Same.comp (same_loadRegs _ _ _) (by decide) ?_
    exact h2
  clear_value s3
  clear_value v6
  clear_value v7
  refine Same.comp (same_judgeAll _) (by decide) ?_
  refine Same.comp (same_setBase _ _) (by decide) ?_
  exact Same.upd (h4) rfl (fun p n => by cases p <;> first | exact absurd (by decide) n | rfl)

theorem same_linkChange (x0 : Nat) (x1 : LinkCond) (s0 : State) : Same [.regs, .glb, .tal, .gbk, .fab, .pin, .prt, .dp, .tmg, .free, .mid] s0 (linkChange x0 x1 s0) := by
  unfold linkChange
  extract_lets +onlyGivenNames -merge -underBinder v1 v2 s3
  clear_value v1
  clear_value v2
  have h4 : Same [.regs, .glb, .tal, .gbk, .fab, .pin, .prt, .dp, .tmg, .free, .mid] s0 s3 := by
    unfold s3
    refine Same.comp (same_judgeLink _ _) (by decide) ?_
    refine Same.comp (same_showCond _ _) (by decide) ?_
    refine Same.comp (same_putPort _ _ _) (by decide) ?_
    exact Same.refl _ _
  clear_value s3
  refine Same.ite ?_ ?_
  · refine Same.comp (same_raise _ _ _ _ _) (by decide) ?_
    refine Same.comp (same_setInt_hi _ _ _ (Or.inl (by simp only [A.PRT_INT_STAT]; omega))) (by decide) ?_
    exact h4
  · exact h4

theorem same_beginPort (x0 : Nat) (s0 : State) : Same [.regs, .glb, .tal, .gbk, .fab, .pin, .prt, .dp, .tmg, .free, .mid] s0 (beginPort x0 s0) := by
  unfold beginPort
  refine Same.comp (same_judgeLink _ _) (by decide) ?_
  refine Same.comp (same_startTraining _ _) (by decide) ?_
  refine Same.comp (same_showCond _ _) (by decide) ?_
  exact Same.refl _ _

theorem same_enterWaking (s0 : State) : Same [.regs, .glb, .frg, .tal, .gbk, .fab, .pin, .prt, .dp, .tmg, .free, .base, .low, .mid] s0 (enterWaking s0) := by
  unfold enterWaking
  extract_lets +onlyGivenNames -merge -underBinder s1 v3 s4
  have h2 : Same [.regs, .glb, .frg, .tal, .gbk, .fab, .pin, .prt, .dp, .tmg, .free, .base, .low, .mid] s0 s1 := by
    unfold s1
    refine Same.comp (same_loadAdmit _) (by decide) ?_
    exact Same.refl _ _
  clear_value s1
  have h5 : Same [.regs, .glb, .frg, .tal, .gbk, .fab, .pin, .prt, .dp, .tmg, .free, .base, .low, .mid] s0 s4 := by
    unfold s4
    refine Same.set_glb (by decide) (Or.inl (by decide)) (Or.inr rfl) ?_
    exact h2
  clear_value s4
  refine Same.comp (same_judgeAll _) (by decide) ?_
  refine Same.comp (same_fabricWake _) (by decide) ?_
  exact h5

theorem same_dropLinks (s0 : State) : Same [.regs, .mem, .glb, .frg, .hif, .tal, .gbk, .tim, .ldg, .fab, .por, .dry, .pin, .prt, .dp, .tab, .tmg, .free, .base, .act, .low, .mid] s0 (dropLinks s0) := by
  unfold dropLinks
  extract_lets +onlyGivenNames -merge -underBinder s1
  have h2 : Same [.regs, .mem, .glb, .frg, .hif, .tal, .gbk, .tim, .ldg, .fab, .por, .dry, .pin, .prt, .dp, .tab, .tmg, .free, .base, .act, .low, .mid] s0 s1 := by
    unfold s1
    refine Same.foldl (fun _ _ h3 => ?_) ?_
    · refine Same.comp (same_linkChange _ _ _) (by decide) ?_
      exact h3
    exact Same.refl _ _
  clear_value s1
  refine Same.ite ?_ ?_
  · exact Same.refl _ _
  · refine Same.comp (same_freeCells _) (by decide) ?_
    refine Same.ite ?_ ?_
    · refine Same.comp (same_hostLoss _ _) (by decide) ?_
      exact h2
    · exact h2

theorem same_leaveDiag (s0 : State) : Same [.regs, .glb, .frg, .tal, .gbk, .phs, .ldg, .fab, .hlt, .pin, .prt, .dp, .tmg, .free, .base, .act, .low, .mid] s0 (leaveDiag s0) := by
  unfold leaveDiag
  extract_lets +onlyGivenNames -merge -underBinder v1 s2
  clear_value v1
  have h3 : Same [.regs, .glb, .frg, .tal, .gbk, .phs, .ldg, .fab, .hlt, .pin, .prt, .dp, .tmg, .free, .base, .act, .low, .mid] s0 s2 := by
    unfold s2
    refine Same.comp (same_fput_top _ _ _ (Or.inl (by decide))) (by decide) ?_
    refine Same.set_hlt (by decide) ?_
    exact Same.refl _ _
  clear_value s2
  refine Same.ite ?_ ?_
  · refine Same.comp (same_judgeAll _) (by decide) ?_
    refine Same.comp (same_setBase _ _) (by decide) ?_
    exact h3
  · refine Same.comp (same_discardForging _ _) (by decide) ?_
    exact h3

theorem same_refclkLost (x0 : Nat) (s0 : State) : Same [.regs, .mem, .glb, .frg, .hif, .tal, .gbk, .tim, .ldg, .fab, .por, .dry, .pin, .prt, .dp, .tab, .tmg, .free, .base, .act, .low, .mid] s0 (refclkLost x0 s0) := by
  unfold refclkLost
  extract_lets +onlyGivenNames -merge -underBinder s1 s3
  have h2 : Same [.regs, .mem, .glb, .frg, .hif, .tal, .gbk, .tim, .ldg, .fab, .por, .dry, .pin, .prt, .dp, .tab, .tmg, .free, .base, .act, .low, .mid] s0 s1 := by
    unfold s1
    refine Same.comp (same_setClkOk _ _ _) (by decide) ?_
    exact Same.refl _ _
  clear_value s1
  have h4 : Same [.regs, .mem, .glb, .frg, .hif, .tal, .gbk, .tim, .ldg, .fab, .por, .dry, .pin, .prt, .dp, .tab, .tmg, .free, .base, .act, .low, .mid] s0 s3 := by
    unfold s3
    refine Same.comp (same_raise _ _ _ _ _) (by decide) ?_
    refine Same.comp (same_setInt_top _ _ _ (Or.inl (by decide))) (by decide) ?_
    refine Same.comp (same_setClkOk _ _ _) (by decide) ?_
    exact Same.refl _ _
  clear_value s3
  refine Same.ite ?_ ?_
  · exact Same.refl _ _
  · refine Same.ite ?_ ?_
    · refine Same.ite ?_ ?_
      · refine Same.comp (same_hostLoss _ _) (by decide) ?_
        exact h2
      · exact h2
    · refine Same.foldl (fun _ _ h5 => ?_) ?_
      · extract_lets +onlyGivenNames -merge -underBinder v6
        clear_value v6
        refine Same.comp (same_linkChange _ _ _) (by decide) ?_
        exact h5
      exact h4

theorem same_trainingDone (x0 : Nat) (x1 : List Nat) (s0 : State) : Same [.regs, .glb, .tal, .gbk, .fab, .pin, .prt, .dp, .tmg, .free, .mid] s0 (trainingDone x0 x1 s0) := by
  unfold trainingDone
  extract_lets +onlyGivenNames -merge -underBinder v1
  clear_value v1
  refine Same.ite ?_ ?_
  · refine Same.comp (same_judgeLink _ _) (by decide) ?_
    refine Same.comp (same_putPort _ _ _) (by decide) ?_
    exact Same.refl _ _
  · exact Same.refl _ _

theorem same_startQuadrant (x0 : Nat) (s0 : State) : Same [.regs, .glb, .tal, .gbk, .fab, .pin, .prt, .dp, .tmg, .free, .mid] s0 (startQuadrant x0 s0) := by
  unfold startQuadrant
  extract_lets +onlyGivenNames -merge -underBinder v1 s2
  have h3 : Same [.regs, .glb, .tal, .gbk, .fab, .pin, .prt, .dp, .tmg, .free, .mid] s0 s2 := by
    unfold s2
    refine Same.set_glb (by decide) (Or.inr rfl) (Or.inr rfl) ?_
    exact Same.refl _ _
  clear_value s2
  refine Same.foldl (fun _ _ h4 => ?_) ?_
  · refine Same.ite ?_ ?_
    · exact h4
    · refine Same.comp (same_beginPort _ _) (by decide) ?_
      exact h4
  exact h3

theorem same_endDiagOp (s0 : State) : Same [.regs, .glb, .frg, .tal, .gbk, .phs, .ldg, .fab, .hlt, .pin, .prt, .dp, .tmg, .free, .base, .act, .low, .mid] s0 (endDiagOp s0) := by
  unfold endDiagOp
  refine same_glbCmd_h (by decide) (fun y hy t e => ?_) (Same.refl _ _)
  split at e
  · exact Option.some.inj e ▸ Same.comp (same_leaveDiag _) (by decide) hy
  · cases e

theorem same_jtagOp (x0 : Nat) (x1 : Option Nat) (x2 : Bool) (s0 : State) : Same [.regs, .mem, .glb, .frg, .hif, .tal, .gbk, .tim, .ldg, .fab, .por, .dry, .pin, .prt, .dp, .tab, .tmg, .free, .base, .act, .low, .mid] s0 (jtagOp x0 x1 x2 s0) := by
  unfold jtagOp
  extract_lets +onlyGivenNames -merge -underBinder v1 v2 v3 s4
  clear_value v1
  clear_value v3
  have h5 : Same [.regs, .mem, .glb, .frg, .hif, .tal, .gbk, .tim, .ldg, .fab, .por, .dry, .pin, .prt, .dp, .tab, .tmg, .free, .base, .act, .low, .mid] s0 s4 := by
    unfold s4
    exact Same.upd (Same.refl _ _) rfl (fun p n => by cases p <;> first | exact absurd (by decide) n | rfl)
  clear_value s4
  refine Same.ite ?_ ?_
  · refine Same.comp (same_dropLinks _) (by decide) ?_
    exact h5
  · exact h5

theorem same_absorb (s0 : State) : Same [.regs, .glb, .tal, .gbk, .fab, .pin, .prt, .dp, .tmg, .free, .mid] s0 (absorb s0) := by
  unfold absorb
  refine Same.foldl (fun _ _ h1 => ?_) ?_
  · extract_lets +onlyGivenNames -merge -underBinder v2
    clear_value v2
    refine Same.ite ?_ ?_
    · exact h1
    · refine Same.comp (same_judgeLink _ _) (by decide) ?_
      refine Same.comp (same_fput_hi _ _ _ (Or.inl (by simp only [F.PRT_STATUS_ABSORBED]; omega))) (by decide) ?_
      exact h1
  exact Same.refl _ _

theorem same_writeFab (x0 : Nat) (x1 : Nat) (s0 : State) : Same [.regs, .glb, .frg, .tal, .gbk, .phs, .ldg, .fab, .dp, .free, .low, .mid] s0 (writeFab x0 x1 s0) := by
  unfold writeFab
  refine Same.ite ?_ ?_
  · refine Same.comp (same_writeFabCmd _ _) (by decide) ?_
    exact Same.refl _ _
  · refine Same.ite ?_ ?_
    · refine Same.comp (same_writeFabSelf _ _) (by decide) ?_
      exact Same.refl _ _
    · refine Same.ite ?_ ?_
      · refine Same.comp (same_writeFabPort _ _ _) (by decide) ?_
        exact Same.refl _ _
      · refine Same.comp (same_writeRw _ _ _) (by decide) ?_
        exact Same.refl _ _

theorem same_anResolved (x0 : Nat) (x1 : Nat) (s0 : State) : Same [.regs, .glb, .tal, .gbk, .fab, .pin, .prt, .dp, .tmg, .free, .mid] s0 (anResolved x0 x1 s0) := by
  unfold anResolved
  extract_lets +onlyGivenNames -merge -underBinder v1
  clear_value v1
  refine Same.ite ?_ ?_
  · exact Same.refl _ _
  · refine Same.ite ?_ ?_
    · refine Same.ite ?_ ?_
      · refine Same.ite ?_ ?_
        · refine Same.comp (same_judgeLink _ _) (by decide) ?_
          refine Same.comp (same_startTraining _ _) (by decide) ?_
          refine Same.comp (same_fput_hi _ _ _ (Or.inl (by simp only [F.PRT_STATUS_MODE_ERR_CAUSE]; omega))) (by decide) ?_
          refine Same.comp (same_fput_hi _ _ _ (Or.inl (by simp only [F.PRT_STATUS_MODE_ERR]; omega))) (by decide) ?_
          exact Same.refl _ _
        · exact Same.refl _ _
      · refine Same.ite ?_ ?_
        · exact Same.refl _ _
        · refine Same.comp (same_judgeLink _ _) (by decide) ?_
          refine Same.comp (same_setModeErr _ _ _) (by decide) ?_
          exact Same.refl _ _
    · refine Same.ite ?_ ?_
      · exact Same.refl _ _
      · refine Same.ite ?_ ?_
        · refine Same.comp (same_anMismatch _ _ _) (by decide) ?_
          exact Same.refl _ _
        · refine Same.comp (same_judgeLink _ _) (by decide) ?_
          refine Same.comp (same_fput_hi _ _ _ (Or.inl (by simp only [F.PRT_STATUS_AN_DONE]; omega))) (by decide) ?_
          exact Same.refl _ _

theorem same_warmOp (s0 : State) : Same [.regs, .mem, .clk, .glb, .frg, .hif, .tal, .gbk, .tim, .phs, .ldg, .fab, .por, .dry, .hlt, .pin, .prt, .dp, .tab, .fry, .tmg, .free, .base, .rst, .act, .low, .mid] s0 (warmOp s0) := by
  unfold warmOp
  extract_lets +onlyGivenNames -merge -underBinder s1 s3 s5 v7 s8 s10 v12
  have h2 : Same [.regs, .mem, .clk, .glb, .frg, .hif, .tal, .gbk, .tim, .phs, .ldg, .fab, .por, .dry, .hlt, .pin, .prt, .dp, .tab, .fry, .tmg, .free, .base, .rst, .act, .low, .mid] s0 s1 := by
    unfold s1
    refine Same.comp (same_placeAll _ _) (by decide) ?_
    refine Same.comp (same_finishTables _) (by decide) ?_
    refine Same.comp (same_harvestReset _) (by decide) ?_
    exact Same.refl _ _
  clear_value s1
  have h4 : Same [.regs, .mem, .clk, .glb, .frg, .hif, .tal, .gbk, .tim, .phs, .ldg, .fab, .por, .dry, .hlt, .pin, .prt, .dp, .tab, .fry, .tmg, .free, .base, .rst, .act, .low, .mid] s0 s3 := by
    unfold s3
    refine Same.ite ?_ ?_
    · refine Same.comp (same_leaveDiag _) (by decide) ?_
      exact h2
    · exact h2
  clear_value s3
  have h6 : Same [.regs, .mem, .clk, .glb, .frg, .hif, .tal, .gbk, .tim, .phs, .ldg, .fab, .por, .dry, .hlt, .pin, .prt, .dp, .tab, .fry, .tmg, .free, .base, .rst, .act, .low, .mid] s0 s5 := by
    unfold s5
    refine Same.comp (same_warmLoader _) (by decide) ?_
    exact h4
  clear_value s5
  clear_value v7
  have h9 : Same [.regs, .mem, .clk, .glb, .frg, .hif, .tal, .gbk, .tim, .phs, .ldg, .fab, .por, .dry, .hlt, .pin, .prt, .dp, .tab, .fry, .tmg, .free, .base, .rst, .act, .low, .mid] s0 s8 := by
    unfold s8
    refine Same.comp (same_porterReset _) (by decide) ?_
    refine Same.comp (same_draymanReset _) (by decide) ?_
    refine Same.comp (same_fabricReset _) (by decide) ?_
    refine Same.comp (same_purge _) (by decide) ?_
    exact h6
  clear_value s8
  have h11 : Same [.regs, .mem, .clk, .glb, .frg, .hif, .tal, .gbk, .tim, .phs, .ldg, .fab, .por, .dry, .hlt, .pin, .prt, .dp, .tab, .fry, .tmg, .free, .base, .rst, .act, .low, .mid] s0 s10 := by
    unfold s10
    refine Same.comp (same_warmRegs _) (by decide) ?_
    refine Same.comp (same_clearMailbox _) (by decide) ?_
    exact h9
  clear_value s10
  refine Same.ite ?_ ?_
  · exact Same.refl _ _
  · refine Same.comp (same_raise _ _ _ _ _) (by decide) ?_
    refine Same.set_glb (by decide) (Or.inr rfl) (Or.inl (by decide)) ?_
    exact h11

theorem same_firstByte (s0 : State) : Same [.regs, .glb, .frg, .tal, .gbk, .phs, .ldg, .fab, .hlt, .pin, .prt, .dp, .tab, .fry, .tmg, .free, .base, .act, .low, .mid] s0 (firstByte s0) := by
  unfold firstByte
  refine Same.comp (same_dropTables _) (by decide) ?_
  refine Same.comp (same_discardForging _ _) (by decide) ?_
  exact Same.refl _ _

theorem same_releasePort (x0 : Nat) (s0 : State) : Same [.regs, .glb, .tal, .gbk, .fab, .pin, .prt, .dp, .tmg, .free, .mid] s0 (releasePort x0 s0) := by
  unfold releasePort
  refine Same.comp (same_beginPort _ _) (by decide) ?_
  refine Same.comp (same_absorb _) (by decide) ?_
  refine Same.comp (same_takeMode _ _) (by decide) ?_
  exact Same.refl _ _

theorem same_enterDiagOp (s0 : State) : Same [.regs, .glb, .tal, .gbk, .fab, .pin, .prt, .dp, .tmg, .free, .base, .low, .mid] s0 (enterDiagOp s0) := by
  unfold enterDiagOp
  refine same_glbCmd_h (by decide) (fun y hy t e => ?_) (Same.refl _ _)
  split at e
  · refine Option.some.inj e ▸ ?_
    refine Same.comp (same_judgeAll _) (by decide) (Same.comp (same_setBase _ _) (by decide) ?_)
    exact Same.set_glb (by decide) (Or.inr rfl) (Or.inr rfl) (Same.comp (same_emptyPath _) (by decide) (Same.comp (same_fput _ _ _) (by decide) hy))
  · cases e

theorem same_releaseReset (x0 : Nat) (s0 : State) : Same [.regs, .glb, .tal, .gbk, .fab, .pin, .prt, .dp, .tmg, .free, .low, .mid] s0 (releaseReset x0 s0) := by
  unfold releaseReset
  extract_lets +onlyGivenNames -merge -underBinder v1 s2
  clear_value v1
  have h3 : Same [.regs, .glb, .tal, .gbk, .fab, .pin, .prt, .dp, .tmg, .free, .low, .mid] s0 s2 := by
    unfold s2
    refine Same.comp (same_rput _ _ _) (by decide) ?_
    exact Same.refl _ _
  clear_value s2
  refine Same.ite ?_ ?_
  · exact Same.refl _ _
  · refine Same.ite ?_ ?_
    · refine Same.comp (same_releasePort _ _) (by decide) ?_
      exact h3
    · exact h3

theorem same_startSlot (x0 : Nat) (x1 : Option Nat) (s0 : State) : Same [.regs, .glb, .frg, .tal, .gbk, .phs, .ldg, .fab, .hlt, .pin, .prt, .dp, .tab, .fry, .tmg, .free, .base, .act, .low, .mid] s0 (startSlot x0 x1 s0) := by
  unfold startSlot
  extract_lets +onlyGivenNames -merge -underBinder v1 s2
  clear_value v1
  have h3 : Same [.regs, .glb, .frg, .tal, .gbk, .phs, .ldg, .fab, .hlt, .pin, .prt, .dp, .tab, .fry, .tmg, .free, .base, .act, .low, .mid] s0 s2 := by
    unfold s2
    refine Same.comp (same_openLoad _ _) (by decide) ?_
    exact Same.refl _ _
  clear_value s2
  refine Same.comp (same_firstByte _) (by decide) ?_
  refine Same.comp (same_rput_lo _ _ _ (by decide)) (by decide) ?_
  exact h3

theorem same_resumeOp (s0 : State) : Same [.regs, .glb, .frg, .tal, .gbk, .fab, .pin, .prt, .dp, .tmg, .free, .base, .low, .mid] s0 (resumeOp s0) := by
  unfold resumeOp
  refine same_glbCmd_h (by decide) (fun y hy t e => ?_) (Same.refl _ _)
  split at e
  · exact Option.some.inj e ▸ Same.comp (same_setBase _ _) (by decide) hy
  · split at e
    · exact Option.some.inj e ▸ Same.comp (same_enterWaking _) (by decide) hy
    · cases e

theorem same_startPorts (s0 : State) : Same [.regs, .glb, .tal, .gbk, .fab, .pin, .prt, .dp, .tmg, .free, .mid] s0 (startPorts s0) := by
  unfold startPorts
  extract_lets +onlyGivenNames -merge -underBinder v1 s2 s4 s8 s11
  have h3 : Same [.regs, .glb, .tal, .gbk, .fab, .pin, .prt, .dp, .tmg, .free, .mid] s0 s2 := by
    unfold s2
    refine Same.set_glb (by decide) (Or.inr rfl) (Or.inr rfl) ?_
    exact Same.refl _ _
  clear_value s2
  have h5 : Same [.regs, .glb, .tal, .gbk, .fab, .pin, .prt, .dp, .tmg, .free, .mid] s0 s4 := by
    unfold s4
    refine Same.foldl (fun _ _ h6 => ?_) ?_
    · extract_lets +onlyGivenNames -merge -underBinder v7
      clear_value v7
      refine Same.comp (same_putPort _ _ _) (by decide) ?_
      exact h6
    exact h3
  clear_value s4
  have h9 : Same [.regs, .glb, .tal, .gbk, .fab, .pin, .prt, .dp, .tmg, .free, .mid] s0 s8 := by
    unfold s8
    refine Same.comp (same_absorb _) (by decide) ?_
    refine Same.foldl (fun _ _ h10 => ?_) ?_
    · refine Same.ite ?_ ?_
      · exact h10
      · refine Same.comp (same_takeMode _ _) (by decide) ?_
        exact h10
    exact h5
  clear_value s8
  have h12 : Same [.regs, .glb, .tal, .gbk, .fab, .pin, .prt, .dp, .tmg, .free, .mid] s0 s11 := by
    unfold s11
    refine Same.foldl (fun _ _ h13 => ?_) ?_
    · refine Same.ite ?_ ?_
      · exact h13
      · refine Same.comp (same_beginPort _ _) (by decide) ?_
        exact h13
    exact h9
  clear_value s11
  refine Same.comp (same_startQuadrant _ _) (by decide) ?_
  exact h12

theorem same_setSafe (x0 : Nat) (s0 : State) : Same [.regs, .glb, .frg, .tal, .gbk, .phs, .ldg, .fab, .hlt, .pin, .prt, .dp, .tmg, .free, .base, .act, .low, .mid] s0 (setSafe x0 s0) := by
  unfold setSafe
  extract_lets +onlyGivenNames -merge -underBinder v1 s2 s4 s6
  clear_value v1
  have h3 : Same [.regs, .glb, .frg, .tal, .gbk, .phs, .ldg, .fab, .hlt, .pin, .prt, .dp, .tmg, .free, .base, .act, .low, .mid] s0 s2 := by
    unfold s2
    refine Same.comp (same_forBits_lo _ _ _ (by decide)) (by decide) ?_
    exact Same.refl _ _
  clear_value s2
  have h5 : Same [.regs, .glb, .frg, .tal, .gbk, .phs, .ldg, .fab, .hlt, .pin, .prt, .dp, .tmg, .free, .base, .act, .low, .mid] s0 s4 := by
    unfold s4
    refine Same.comp (same_raise _ _ _ _ _) (by decide) ?_
    refine Same.comp (same_setInt_top _ _ _ (Or.inr (by decide))) (by decide) ?_
    exact h3
  clear_value s4
  have h7 : Same [.regs, .glb, .frg, .tal, .gbk, .phs, .ldg, .fab, .hlt, .pin, .prt, .dp, .tmg, .free, .base, .act, .low, .mid] s0 s6 := by
    unfold s6
    refine Same.ite ?_ ?_
    · refine Same.comp (same_leaveDiag _) (by decide) ?_
      exact h5
    · exact h5
  clear_value s6
  refine Same.ite ?_ ?_
  · exact Same.refl _ _
  · refine Same.ite ?_ ?_
    · exact h7
    · refine Same.comp (same_safeDrop _) (by decide) ?_
      exact h7

theorem same_enterSafeOp (s0 : State) : Same [.regs, .glb, .frg, .tal, .gbk, .phs, .ldg, .fab, .hlt, .pin, .prt, .dp, .tmg, .free, .base, .act, .low, .mid] s0 (enterSafeOp s0) := by
  unfold enterSafeOp
  refine same_glbCmd_h (by decide) (fun y hy t e => ?_) (Same.refl _ _)
  split at e
  · exact Option.some.inj e ▸ Same.comp (same_setSafe _ _) (by decide) hy
  · cases e

theorem same_startLast (x0 : Nat) (s0 : State) : Same [.regs, .glb, .frg, .tal, .gbk, .phs, .ldg, .fab, .hlt, .pin, .prt, .dp, .tab, .fry, .tmg, .free, .base, .act, .low, .mid] s0 (startLast x0 s0) := by
  unfold startLast
  extract_lets +onlyGivenNames -merge -underBinder s1
  have h2 : Same [.regs, .glb, .frg, .tal, .gbk, .phs, .ldg, .fab, .hlt, .pin, .prt, .dp, .tab, .fry, .tmg, .free, .base, .act, .low, .mid] s0 s1 := by
    unfold s1
    refine Same.comp (same_startSlot _ _ _) (by decide) ?_
    exact Same.refl _ _
  clear_value s1
  refine Same.ite ?_ ?_
  · exact h2
  · refine same_failWith_h (by decide) (fun _ _ h3 => ?_) ?_
    · exact h3
    exact h2

theorem same_monMove (x0 : Bool) (x1 : Nat) (x2 : Nat) (x3 : Int) (s0 : State) : Same [.regs, .glb, .frg, .tal, .gbk, .phs, .ldg, .fab, .hlt, .pin, .prt, .dp, .tmg, .free, .base, .act, .low, .mid] s0 (monMove x0 x1 x2 x3 s0) := by
  unfold monMove
  extract_lets +onlyGivenNames -merge -underBinder v1 v2 s3
  clear_value v1
  clear_value v2
  have h4 : Same [.regs, .glb, .frg, .tal, .gbk, .phs, .ldg, .fab, .hlt, .pin, .prt, .dp, .tmg, .free, .base, .act, .low, .mid] s0 s3 := by
    unfold s3
    refine Same.comp (same_showMon _) (by decide) ?_
    refine Same.comp (same_putMon _ _ _ _) (by decide) ?_
    exact Same.refl _ _
  clear_value s3
  refine Same.ite ?_ ?_
  · exact Same.refl _ _
  · refine Same.ite ?_ ?_
    · refine Same.comp (same_raise _ _ _ _ _) (by decide) ?_
      exact h4
    · refine Same.ite ?_ ?_
      · refine Same.comp (same_raise _ _ _ _ _) (by decide) ?_
        refine Same.comp (same_bump _ _ _) (by decide) ?_
        refine Same.comp (same_setInt_top _ _ _ (Or.inl (by decide))) (by decide) ?_
        exact h4
      · refine Same.comp (same_setSafe _ _) (by decide) ?_
        refine Same.comp (same_raise _ _ _ _ _) (by decide) ?_
        refine Same.comp (same_bump _ _ _) (by decide) ?_
        refine Same.comp (same_setInt_top _ _ _ (Or.inl (by decide))) (by decide) ?_
        exact h4

theorem same_writePortRst (x0 : Nat) (x1 : Nat) (s0 : State) : Same [.regs, .glb, .tal, .gbk, .fab, .pin, .prt, .dp, .tmg, .free, .low, .mid] s0 (writePortRst x0 x1 s0) := by
  unfold writePortRst
  extract_lets +onlyGivenNames -merge -underBinder v1 s2
  clear_value v1
  have h3 : Same [.regs, .glb, .tal, .gbk, .fab, .pin, .prt, .dp, .tmg, .free, .low, .mid] s0 s2 := by
    unfold s2
    refine Same.foldl (fun _ _ h4 => ?_) ?_
    · refine Same.ite ?_ ?_
      · refine Same.comp (same_holdPort _ _) (by decide) ?_
        exact h4
      · exact h4
    exact Same.refl _ _
  clear_value s2
  refine Same.comp (same_freeCells _) (by decide) ?_
  refine Same.foldl (fun _ _ h5 => ?_) ?_
  · refine Same.ite ?_ ?_
    · exact h5
    · refine Same.comp (same_releaseReset _ _) (by decide) ?_
      exact h5
  exact h3

theorem same_activate (x0 : Forging) (s0 : State) : Same [.regs, .glb, .frg, .tal, .gbk, .tim, .phs, .ldg, .fab, .hlt, .pin, .prt, .dp, .tab, .tmg, .free, .base, .act, .low, .mid] s0 (activate x0 s0) := by
  unfold activate
  extract_lets +onlyGivenNames -merge -underBinder v1 s2 v4 v5 v6 v7 s8 s10 s12 s15 s18 s20 s22 s24 s26 s28
  clear_value v1
  have h3 : Same [.regs, .glb, .frg, .tal, .gbk, .tim, .phs, .ldg, .fab, .hlt, .pin, .prt, .dp, .tab, .tmg, .free, .base, .act, .low, .mid] s0 s2 := by
    unfold s2
    refine Same.comp (same_loadRegs _ _ _) (by decide) ?_
    exact Same.refl _ _
  clear_value s2
  clear_value v5
  clear_value v6
  clear_value v7
  have h9 : Same [.regs, .glb, .frg, .tal, .gbk, .tim, .phs, .ldg, .fab, .hlt, .pin, .prt, .dp, .tab, .tmg, .free, .base, .act, .low, .mid] s0 s8 := by
    unfold s8
    exact Same.upd (h3) rfl (fun p n => by cases p <;> first | exact absurd (by decide) n | rfl)
  clear_value s8
  have h11 : Same [.regs, .glb, .frg, .tal, .gbk, .tim, .phs, .ldg, .fab, .hlt, .pin, .prt, .dp, .tab, .tmg, .free, .base, .act, .low, .mid] s0 s10 := by
    unfold s10
    refine Same.comp (same_fillBank _ _ _) (by decide) ?_
    refine Same.comp (same_clearBank _ _) (by decide) ?_
    exact h9
  clear_value s10
  have h13 : Same [.regs, .glb, .frg, .tal, .gbk, .tim, .phs, .ldg, .fab, .hlt, .pin, .prt, .dp, .tab, .tmg, .free, .base, .act, .low, .mid] s0 s12 := by
    unfold s12
    refine Same.foldl (fun _ _ h14 => ?_) ?_
    · refine Same.comp (same_placeEntry _ _ _ _ _ _) (by decide) ?_
      exact h14
    exact h11
  clear_value s12
  have h16 : Same [.regs, .glb, .frg, .tal, .gbk, .tim, .phs, .ldg, .fab, .hlt, .pin, .prt, .dp, .tab, .tmg, .free, .base, .act, .low, .mid] s0 s15 := by
    unfold s15
    refine Same.foldl (fun _ _ h17 => ?_) ?_
    · refine Same.comp (same_shaperReset _ _) (by decide) ?_
      exact h17
    refine Same.comp (same_clearForLoad _) (by decide) ?_
    exact h13
  clear_value s15
  have h19 : Same [.regs, .glb, .frg, .tal, .gbk, .tim, .phs, .ldg, .fab, .hlt, .pin, .prt, .dp, .tab, .tmg, .free, .base, .act, .low, .mid] s0 s18 := by
    unfold s18
    refine Same.ite ?_ ?_
    · refine Same.comp (same_raise _ _ _ _ _) (by decide) ?_
      refine Same.comp (same_setInt_top _ _ _ (Or.inl (by decide))) (by decide) ?_
      exact h16
    · exact h16
  clear_value s18
  have h21 : Same [.regs, .glb, .frg, .tal, .gbk, .tim, .phs, .ldg, .fab, .hlt, .pin, .prt, .dp, .tab, .tmg, .free, .base, .act, .low, .mid] s0 s20 := by
    unfold s20
    refine Same.comp (same_verifyAll _) (by decide) ?_
    exact h19
  clear_value s20
  have h23 : Same [.regs, .glb, .frg, .tal, .gbk, .tim, .phs, .ldg, .fab, .hlt, .pin, .prt, .dp, .tab, .tmg, .free, .base, .act, .low, .mid] s0 s22 := by
    unfold s22
    refine Same.comp (same_timCtlChanged _ _) (by decide) ?_
    exact h21
  clear_value s22
  have h25 : Same [.regs, .glb, .frg, .tal, .gbk, .tim, .phs, .ldg, .fab, .hlt, .pin, .prt, .dp, .tab, .tmg, .free, .base, .act, .low, .mid] s0 s24 := by
    unfold s24
    refine Same.comp (same_chooseSource _) (by decide) ?_
    refine Same.ite ?_ ?_
    · refine Same.comp (same_setRate _ _) (by decide) ?_
      exact h23
    · refine Same.comp (same_startPhase _) (by decide) ?_
      exact h23
  clear_value s24
  have h27 : Same [.regs, .glb, .frg, .tal, .gbk, .tim, .phs, .ldg, .fab, .hlt, .pin, .prt, .dp, .tab, .tmg, .free, .base, .act, .low, .mid] s0 s26 := by
    unfold s26
    refine Same.comp (same_showBases _) (by decide) ?_
    refine Same.comp (same_resolveBank _ _ _) (by decide) ?_
    exact h25
  clear_value s26
  have h29 : Same [.regs, .glb, .frg, .tal, .gbk, .tim, .phs, .ldg, .fab, .hlt, .pin, .prt, .dp, .tab, .tmg, .free, .base, .act, .low, .mid] s0 s28 := by
    unfold s28
    refine Same.comp (same_raise _ _ _ _ _) (by decide) ?_
    exact h27
  clear_value s28
  refine Same.comp (same_enterWaking _) (by decide) ?_
  refine Same.comp (same_startPorts _) (by decide) ?_
  refine Same.comp (same_setBase _ _) (by decide) ?_
  exact h29

theorem same_monitorCrit (x0 : Bool) (x1 : Nat) (x2 : Int) (s0 : State) : Same [.regs, .glb, .frg, .tal, .gbk, .phs, .ldg, .fab, .hlt, .pin, .prt, .dp, .tmg, .free, .base, .act, .low, .mid] s0 (monitorCrit x0 x1 x2 s0) := by
  unfold monitorCrit
  extract_lets +onlyGivenNames -merge -underBinder v1 s2 v4
  clear_value v1
  have h3 : Same [.regs, .glb, .frg, .tal, .gbk, .phs, .ldg, .fab, .hlt, .pin, .prt, .dp, .tmg, .free, .base, .act, .low, .mid] s0 s2 := by
    unfold s2
    refine Same.comp (same_noteCrit _ _ _ _) (by decide) ?_
    exact Same.refl _ _
  clear_value s2
  clear_value v4
  refine Same.ite ?_ ?_
  · refine Same.ite ?_ ?_
    · exact Same.refl _ _
    · refine Same.comp (same_monMove _ _ _ _ _) (by decide) ?_
      refine Same.comp (same_noteCrit _ _ _ _) (by decide) ?_
      exact Same.refl _ _
  · refine Same.ite ?_ ?_
    · exact Same.refl _ _
    · refine Same.ite ?_ ?_
      · refine Same.comp (same_markAll _ _) (by decide) ?_
        exact h3
      · refine Same.comp (same_monMove _ _ _ _ _) (by decide) ?_
        exact h3

theorem same_writeGlbCtl (x0 : Nat) (s0 : State) :
    Same [.regs, .glb, .frg, .tal, .gbk, .phs, .ldg, .fab, .hlt, .pin, .prt, .dp, .tmg, .free, .base, .act, .low, .mid] s0 (writeGlbCtl x0 s0) := by
  unfold writeGlbCtl
  iterate 8
    split
    · first
        | exact Same.refl _ _
        | exact Same.comp (same_drainOp _) (by decide) (Same.refl _ _)
        | exact Same.comp (same_resumeOp _) (by decide) (Same.refl _ _)
        | exact Same.comp (same_endWakingOp _) (by decide) (Same.refl _ _)
        | exact Same.comp (same_enterSafeOp _) (by decide) (Same.refl _ _)
        | exact Same.comp (same_clearSafeOp _) (by decide) (Same.refl _ _)
        | exact Same.comp (same_enterDiagOp _) (by decide) (Same.refl _ _)
        | exact Same.comp (same_endDiagOp _) (by decide) (Same.refl _ _)
  exact same_glbCmd_h (by decide) (fun _ _ _ e => by cases e) (Same.refl _ _)

theorem same_pollVolts (x0 : List (Nat × Nat)) (s0 : State) : Same [.regs, .glb, .frg, .tal, .gbk, .phs, .ldg, .fab, .hlt, .pin, .prt, .dp, .tmg, .free, .base, .act, .low, .mid] s0 (pollVolts x0 s0) := by
  unfold pollVolts
  refine Same.foldl (fun _ _ h1 => ?_) ?_
  · refine Same.comp (same_monMove _ _ _ _ _) (by decide) ?_
    refine Same.comp (same_noteVolt _ _ _) (by decide) ?_
    exact h1
  exact Same.refl _ _

theorem same_failLoad (x0 : Nat) (s0 : State) : Same [.regs, .glb, .frg, .tal, .gbk, .phs, .ldg, .fab, .hlt, .pin, .prt, .dp, .tab, .fry, .tmg, .free, .base, .act, .low, .mid] s0 (failLoad x0 s0) := by
  unfold failLoad
  refine same_failWith_h (by decide) (fun _ _ h1 => ?_) ?_
  · refine Same.comp (same_startLast _ _) (by decide) ?_
    exact h1
  exact Same.refl _ _

theorem same_ostlerRestart (s0 : State) : Same [.regs, .glb, .frg, .hif, .tal, .gbk, .phs, .ldg, .fab, .hlt, .pin, .prt, .dp, .tab, .fry, .tmg, .free, .base, .act, .low, .mid] s0 (ostlerRestart s0) := by
  unfold ostlerRestart
  extract_lets +onlyGivenNames -merge -underBinder s1 s3 v6 s7
  have h2 : Same [.regs, .glb, .frg, .hif, .tal, .gbk, .phs, .ldg, .fab, .hlt, .pin, .prt, .dp, .tab, .fry, .tmg, .free, .base, .act, .low, .mid] s0 s1 := by
    unfold s1
    refine Same.comp (same_mbxTimeout _) (by decide) ?_
    exact Same.refl _ _
  clear_value s1
  have h4 : Same [.regs, .glb, .frg, .hif, .tal, .gbk, .phs, .ldg, .fab, .hlt, .pin, .prt, .dp, .tab, .fry, .tmg, .free, .base, .act, .low, .mid] s0 s3 := by
    unfold s3
    refine Same.foldl (fun _ _ h5 => ?_) ?_
    · refine Same.comp (same_otpBroken _ _) (by decide) ?_
      exact h5
    exact h2
  clear_value s3
  clear_value v6
  have h8 : Same [.regs, .glb, .frg, .hif, .tal, .gbk, .phs, .ldg, .fab, .hlt, .pin, .prt, .dp, .tab, .fry, .tmg, .free, .base, .act, .low, .mid] s0 s7 := by
    unfold s7
    refine Same.comp (same_raise _ _ _ _ _) (by decide) ?_
    refine Same.set_hif (by decide) ?_
    exact h4
  clear_value s7
  refine Same.ite ?_ ?_
  · refine Same.comp (same_freeCells _) (by decide) ?_
    refine Same.comp (same_failLoad _ _) (by decide) ?_
    exact h8
  · exact h8

theorem same_writeHif (x0 : Nat) (x1 : Nat) (s0 : State) : Same [.regs, .glb, .frg, .hif, .tal, .gbk, .phs, .ldg, .fab, .hlt, .pin, .prt, .dp, .tab, .fry, .tmg, .free, .base, .act, .low, .mid] s0 (writeHif x0 x1 s0) := by
  unfold writeHif
  refine Same.ite ?_ ?_
  · refine Same.ite ?_ ?_
    · refine Same.comp (same_ostlerRestart _) (by decide) ?_
      exact Same.refl _ _
    · exact Same.refl _ _
  · refine Same.ite ?_ ?_
    · refine Same.comp (same_mbxDoorbell _ _ _ _) (by decide) ?_
      exact Same.refl _ _
    · refine Same.ite ?_ ?_
      · refine Same.comp (same_accErr _ _ _ _) (by decide) ?_
        refine Same.comp (same_fput_hi _ _ _ (Or.inl (by decide))) (by decide) ?_
        exact Same.refl _ _
      · refine Same.comp (same_writeRw _ _ _) (by decide) ?_
        exact Same.refl _ _

theorem same_pollTemps (x0 : List (Nat × Int)) (s0 : State) : Same [.regs, .glb, .frg, .tal, .gbk, .phs, .ldg, .fab, .hlt, .pin, .prt, .dp, .tmg, .free, .base, .act, .low, .mid] s0 (pollTemps x0 s0) := by
  unfold pollTemps
  extract_lets +onlyGivenNames -merge -underBinder v1 s2
  clear_value v1
  have h3 : Same [.regs, .glb, .frg, .tal, .gbk, .phs, .ldg, .fab, .hlt, .pin, .prt, .dp, .tmg, .free, .base, .act, .low, .mid] s0 s2 := by
    unfold s2
    refine Same.comp (same_markAll _ _) (by decide) ?_
    exact Same.refl _ _
  clear_value s2
  refine Same.foldl (fun _ _ h4 => ?_) ?_
  · extract_lets +onlyGivenNames -merge -underBinder s5
    have h6 : Same [.regs, .glb, .frg, .tal, .gbk, .phs, .ldg, .fab, .hlt, .pin, .prt, .dp, .tmg, .free, .base, .act, .low, .mid] s0 s5 := by
      unfold s5
      refine Same.comp (same_noteTemp _ _ _) (by decide) ?_
      exact h4
    clear_value s5
    refine Same.ite ?_ ?_
    · exact h6
    · refine Same.comp (same_monMove _ _ _ _ _) (by decide) ?_
      exact h6
  exact h3

theorem same_passLoad (x0 : Load) (x1 : Forging) (s0 : State) : Same [.regs, .glb, .frg, .tal, .gbk, .tim, .phs, .ldg, .fab, .hlt, .pin, .prt, .dp, .tab, .tmg, .free, .base, .act, .low, .mid] s0 (passLoad x0 x1 s0) := by
  unfold passLoad
  extract_lets +onlyGivenNames -merge -underBinder v1 s2 s4
  have h3 : Same [.regs, .glb, .frg, .tal, .gbk, .tim, .phs, .ldg, .fab, .hlt, .pin, .prt, .dp, .tab, .tmg, .free, .base, .act, .low, .mid] s0 s2 := by
    unfold s2
    refine Same.comp (same_setInt_lo _ _ _ (by decide)) (by decide) ?_
    refine Same.comp (same_frgResult _ _) (by decide) ?_
    refine Same.set_frg (by decide) (Or.inr rfl) ?_
    exact Same.refl _ _
  clear_value s2
  have h5 : Same [.regs, .glb, .frg, .tal, .gbk, .tim, .phs, .ldg, .fab, .hlt, .pin, .prt, .dp, .tab, .tmg, .free, .base, .act, .low, .mid] s0 s4 := by
    unfold s4
    refine Same.comp (same_setFrgState _ _) (by decide) ?_
    exact h3
  clear_value s4
  refine Same.ite ?_ ?_
  · refine Same.comp (same_shadowReady _ _) (by decide) ?_
    exact h3
  · refine Same.comp (same_activate _ _) (by decide) ?_
    split
    · refine Same.comp (same_fput_lo _ _ _ (by decide)) (by decide) ?_
      refine Same.comp (same_slotResult _ _ _) (by decide) ?_
      exact h5
    · exact h5

theorem same_verifyEnd (s0 : State) : Same [.regs, .glb, .frg, .tal, .gbk, .tim, .phs, .ldg, .fab, .hlt, .pin, .prt, .dp, .tab, .fry, .tmg, .free, .base, .act, .low, .mid] s0 (verifyEnd s0) := by
  unfold verifyEnd
  split
  · exact Same.refl _ _
  · refine Same.ite ?_ ?_
    · exact Same.refl _ _
    · refine Same.ite ?_ ?_
      · refine Same.comp (same_failLoad _ _) (by decide) ?_
        exact Same.refl _ _
      · split
        · refine Same.comp (same_failLoad _ _) (by decide) ?_
          exact Same.refl _ _
        · refine Same.comp (same_passLoad _ _ _) (by decide) ?_
          exact Same.refl _ _

theorem same_judgeMonitors (s0 : State) : Same [.regs, .glb, .frg, .tal, .gbk, .phs, .ldg, .fab, .hlt, .pin, .prt, .dp, .tmg, .free, .base, .act, .low, .mid] s0 (judgeMonitors s0) := by
  unfold judgeMonitors
  extract_lets +onlyGivenNames -merge -underBinder v1
  clear_value v1
  refine Same.comp (same_pollVolts _ _) (by decide) ?_
  refine Same.comp (same_pollTemps _ _) (by decide) ?_
  refine Same.set_hlt (by decide) ?_
  exact Same.refl _ _

theorem same_lastByte (x0 : Option Nat) (s0 : State) : Same [.regs, .glb, .frg, .tal, .gbk, .phs, .ldg, .fab, .hlt, .pin, .prt, .dp, .tab, .fry, .tmg, .free, .base, .act, .low, .mid] s0 (lastByte x0 s0) := by
  unfold lastByte
  split
  · exact Same.refl _ _
  · extract_lets +onlyGivenNames -merge -underBinder s1 s3
    have h2 : Same [.regs, .glb, .frg, .tal, .gbk, .phs, .ldg, .fab, .hlt, .pin, .prt, .dp, .tab, .fry, .tmg, .free, .base, .act, .low, .mid] s0 s1 := by
      unfold s1
      refine Same.comp (same_setFrgState _ _) (by decide) ?_
      refine Same.comp (same_setInt_lo _ _ _ (by decide)) (by decide) ?_
      exact Same.refl _ _
    clear_value s1
    have h4 : Same [.regs, .glb, .frg, .tal, .gbk, .phs, .ldg, .fab, .hlt, .pin, .prt, .dp, .tab, .fry, .tmg, .free, .base, .act, .low, .mid] s0 s3 := by
      unfold s3
      refine Same.ite ?_ ?_
      · exact h2
      · refine Same.comp (same_setBase _ _) (by decide) ?_
        exact h2
    clear_value s3
    split
    · refine Same.comp (same_failLoad _ _) (by decide) ?_
      exact h4
    · refine Same.ite ?_ ?_
      · refine Same.comp (same_failLoad _ _) (by decide) ?_
        exact h4
      · refine Same.ite ?_ ?_
        · refine Same.comp (same_failLoad _ _) (by decide) ?_
          exact h4
        · exact h4

theorem same_writeGlb (x0 : Nat) (x1 : Nat) (s0 : State) : Same [.regs, .mem, .clk, .glb, .frg, .hif, .tal, .gbk, .tim, .phs, .ldg, .fab, .por, .dry, .hlt, .pin, .prt, .dp, .tab, .fry, .tmg, .free, .base, .rst, .act, .low, .mid] s0 (writeGlb x0 x1 s0) := by
  unfold writeGlb
  refine Same.ite ?_ ?_
  · refine Same.comp (same_writeGlbCtl _ _) (by decide) ?_
    exact Same.refl _ _
  · refine Same.ite ?_ ?_
    · refine Same.ite ?_ ?_
      · refine Same.comp (same_warmOp _) (by decide) ?_
        exact Same.refl _ _
      · exact Same.refl _ _
    · refine Same.ite ?_ ?_
      · refine Same.comp (same_hearthResets _ _) (by decide) ?_
        exact Same.refl _ _
      · refine Same.ite ?_ ?_
        · refine Same.comp (same_writePortRst _ _ _) (by decide) ?_
          exact Same.refl _ _
        · refine Same.ite ?_ ?_
          · refine Same.comp (same_admitRetune _ _ _ _) (by decide) ?_
            exact Same.refl _ _
          · refine Same.ite ?_ ?_
            · refine Same.comp (same_admitRetune _ _ _ _) (by decide) ?_
              exact Same.refl _ _
            · refine Same.ite ?_ ?_
              · refine Same.comp (same_vecEoi _ _) (by decide) ?_
                exact Same.refl _ _
              · refine Same.comp (same_writeRw _ _ _) (by decide) ?_
                exact Same.refl _ _

theorem same_startBoot (x0 : Nat) (x1 : Option Nat) (s0 : State) : Same [.regs, .glb, .frg, .tal, .gbk, .phs, .ldg, .fab, .hlt, .pin, .prt, .dp, .tab, .fry, .tmg, .free, .base, .act, .low, .mid] s0 (startBoot x0 x1 s0) := by
  unfold startBoot
  extract_lets +onlyGivenNames -merge -underBinder s1
  have h2 : Same [.regs, .glb, .frg, .tal, .gbk, .phs, .ldg, .fab, .hlt, .pin, .prt, .dp, .tab, .fry, .tmg, .free, .base, .act, .low, .mid] s0 s1 := by
    unfold s1
    refine Same.comp (same_startSlot _ _ _) (by decide) ?_
    exact Same.refl _ _
  clear_value s1
  refine Same.ite ?_ ?_
  · exact h2
  · refine Same.comp (same_failLoad _ _) (by decide) ?_
    exact h2

theorem same_monitorPoll (x0 : Readings) (s0 : State) : Same [.regs, .glb, .frg, .tal, .gbk, .phs, .ldg, .fab, .hlt, .pin, .prt, .dp, .tmg, .free, .base, .act, .low, .mid] s0 (monitorPoll x0 s0) := by
  unfold monitorPoll
  refine Same.ite ?_ ?_
  · exact Same.refl _ _
  · refine Same.comp (same_pollProcs _ _) (by decide) ?_
    refine Same.comp (same_pollVolts _ _) (by decide) ?_
    refine Same.comp (same_pollTemps _ _) (by decide) ?_
    exact Same.refl _ _

theorem same_acceptBytes (x0 : Load) (x1 : List Byte) (s0 : State) : Same [.regs, .glb, .frg, .tal, .gbk, .phs, .ldg, .fab, .hlt, .pin, .prt, .dp, .tab, .fry, .tmg, .free, .base, .act, .low, .mid] s0 (acceptBytes x0 x1 s0) := by
  unfold acceptBytes
  extract_lets +onlyGivenNames -merge -underBinder v1 v2 s3 v5 s6 v8 s9
  clear_value v1
  clear_value v2
  have h4 : Same [.regs, .glb, .frg, .tal, .gbk, .phs, .ldg, .fab, .hlt, .pin, .prt, .dp, .tab, .fry, .tmg, .free, .base, .act, .low, .mid] s0 s3 := by
    unfold s3
    refine Same.ite ?_ ?_
    · refine Same.comp (same_firstByte _) (by decide) ?_
      exact Same.refl _ _
    · exact Same.refl _ _
  clear_value s3
  have h7 : Same [.regs, .glb, .frg, .tal, .gbk, .phs, .ldg, .fab, .hlt, .pin, .prt, .dp, .tab, .fry, .tmg, .free, .base, .act, .low, .mid] s0 s6 := by
    unfold s6
    refine Same.comp (same_rput_lo _ _ _ (by decide)) (by decide) ?_
    refine Same.set_frg (by decide) (Or.inr rfl) ?_
    exact h4
  clear_value s6
  clear_value v8
  have h10 : Same [.regs, .glb, .frg, .tal, .gbk, .phs, .ldg, .fab, .hlt, .pin, .prt, .dp, .tab, .fry, .tmg, .free, .base, .act, .low, .mid] s0 s9 := by
    unfold s9
    refine Same.ite ?_ ?_
    · refine Same.comp (same_placeArrived _ _ _) (by decide) ?_
      exact h7
    · exact h7
  clear_value s9
  refine Same.ite ?_ ?_
  · refine Same.comp (same_lastByte _ _) (by decide) ?_
    exact h10
  · split
    · refine Same.comp (same_failLoad _ _) (by decide) ?_
      exact h10
    · exact h10

theorem same_warmDone (s0 : State) : Same [.regs, .glb, .frg, .tal, .gbk, .tim, .phs, .ldg, .fab, .hlt, .pin, .prt, .dp, .tab, .tmg, .free, .base, .rst, .act, .low, .mid] s0 (warmDone s0) := by
  unfold warmDone
  extract_lets +onlyGivenNames -merge -underBinder s1 v3 s4 s6
  have h2 : Same [.regs, .glb, .frg, .tal, .gbk, .tim, .phs, .ldg, .fab, .hlt, .pin, .prt, .dp, .tab, .tmg, .free, .base, .rst, .act, .low, .mid] s0 s1 := by
    unfold s1
    refine Same.comp (same_judgeMonitors _) (by decide) ?_
    refine Same.comp (same_purge _) (by decide) ?_
    exact Same.refl _ _
  clear_value s1
  have h5 : Same [.regs, .glb, .frg, .tal, .gbk, .tim, .phs, .ldg, .fab, .hlt, .pin, .prt, .dp, .tab, .tmg, .free, .base, .rst, .act, .low, .mid] s0 s4 := by
    unfold s4
    refine Same.set_glb (by decide) (Or.inr rfl) (Or.inl (by decide)) ?_
    exact h2
  clear_value s4
  have h7 : Same [.regs, .glb, .frg, .tal, .gbk, .tim, .phs, .ldg, .fab, .hlt, .pin, .prt, .dp, .tab, .tmg, .free, .base, .rst, .act, .low, .mid] s0 s6 := by
    unfold s6
    refine Same.ite ?_ ?_
    · refine Same.foldl (fun _ _ h8 => ?_) ?_
      · refine Same.ite ?_ ?_
        · refine Same.comp (same_fabLinkUp _ _) (by decide) ?_
          exact h8
        · exact h8
      refine Same.comp (same_enterWaking _) (by decide) ?_
      exact h5
    · exact h5
  clear_value s6
  refine Same.ite ?_ ?_
  · exact Same.refl _ _
  · refine Same.comp (same_setInt_top _ _ _ (Or.inr (by decide))) (by decide) ?_
    exact h7

theorem same_loadPortOp (x0 : Nat) (x1 : Nat) (s0 : State) : Same [.regs, .glb, .frg, .tal, .gbk, .phs, .ldg, .fab, .hlt, .pin, .prt, .dp, .tab, .fry, .tmg, .free, .base, .act, .low, .mid] s0 (loadPortOp x0 x1 s0) := by
  unfold loadPortOp
  extract_lets +onlyGivenNames -merge -underBinder v1
  split
  · extract_lets +onlyGivenNames -merge -underBinder v2
    clear_value v2
    refine Same.ite ?_ ?_
    · unfold v1
      refine Same.comp (same_accErr _ _ _ _) (by decide) ?_
      exact Same.refl _ _
    · refine Same.ite ?_ ?_
      · refine Same.comp (same_failLoad _ _) (by decide) ?_
        unfold v1
        refine Same.comp (same_accErr _ _ _ _) (by decide) ?_
        exact Same.refl _ _
      · refine Same.comp (same_acceptBytes _ _ _) (by decide) ?_
        exact Same.refl _ _
  · unfold v1
    refine Same.comp (same_accErr _ _ _ _) (by decide) ?_
    exact Same.refl _ _

theorem same_bootSelect (s0 : State) : Same [.regs, .glb, .frg, .tal, .gbk, .phs, .ldg, .fab, .hlt, .pin, .prt, .dp, .tab, .fry, .tmg, .free, .base, .act, .low, .mid] s0 (bootSelect s0) := by
  unfold bootSelect
  extract_lets +onlyGivenNames -merge -underBinder s1
  have h2 : Same [.regs, .glb, .frg, .tal, .gbk, .phs, .ldg, .fab, .hlt, .pin, .prt, .dp, .tab, .fry, .tmg, .free, .base, .act, .low, .mid] s0 s1 := by
    unfold s1
    refine Same.comp (same_readHeaders _) (by decide) ?_
    exact Same.refl _ _
  clear_value s1
  split
  · refine Same.comp (same_startBoot _ _ _) (by decide) ?_
    exact h2
  · extract_lets +onlyGivenNames -merge -underBinder s3
    have h4 : Same [.regs, .glb, .frg, .tal, .gbk, .phs, .ldg, .fab, .hlt, .pin, .prt, .dp, .tab, .fry, .tmg, .free, .base, .act, .low, .mid] s0 s3 := by
      unfold s3
      refine Same.comp (same_frgResult _ _) (by decide) ?_
      exact h2
    clear_value s3
    refine Same.ite ?_ ?_
    · exact h4
    · refine Same.comp (same_raise _ _ _ _ _) (by decide) ?_
      exact h4

theorem same_bootFlashOp (s0 : State) : Same [.regs, .glb, .frg, .tal, .gbk, .phs, .ldg, .fab, .hlt, .pin, .prt, .dp, .tab, .fry, .tmg, .free, .base, .rst, .act, .low, .mid] s0 (bootFlashOp s0) := by
  unfold bootFlashOp
  extract_lets +onlyGivenNames -merge -underBinder v1
  refine Same.ite ?_ ?_
  · refine Same.comp (same_freeCells _) (by decide) ?_
    refine Same.comp (same_bootSelect _) (by decide) ?_
    refine Same.comp (same_frgResult _ _) (by decide) ?_
    refine Same.set_glb (by decide) (Or.inr rfl) (Or.inl (by decide)) ?_
    exact Same.refl _ _
  · refine Same.comp (same_frgResult _ _) (by decide) ?_
    exact Same.refl _ _

theorem same_writeFrgCtl (x0 : Nat) (s0 : State) : Same [.regs, .glb, .frg, .tal, .gbk, .phs, .ldg, .fab, .por, .dry, .hlt, .pin, .prt, .dp, .tab, .fry, .tmg, .free, .base, .rst, .act, .low, .mid] s0 (writeFrgCtl x0 s0) := by
  unfold writeFrgCtl
  refine Same.ite ?_ ?_
  · exact Same.refl _ _
  · refine Same.ite ?_ ?_
    · refine Same.comp (same_fullLoadOp _) (by decide) ?_
      exact Same.refl _ _
    · refine Same.ite ?_ ?_
      · refine Same.comp (same_shadowLoadOp _) (by decide) ?_
        exact Same.refl _ _
      · refine Same.ite ?_ ?_
        · refine Same.comp (same_freeCells _) (by decide) ?_
          refine Same.comp (same_abortOp _) (by decide) ?_
          exact Same.refl _ _
        · refine Same.ite ?_ ?_
          · refine Same.comp (same_armOp _ _ _) (by decide) ?_
            exact Same.refl _ _
          · refine Same.ite ?_ ?_
            · refine Same.comp (same_disarmOp _) (by decide) ?_
              exact Same.refl _ _
            · refine Same.ite ?_ ?_
              · refine Same.comp (same_armOp _ _ _) (by decide) ?_
                exact Same.refl _ _
              · refine Same.ite ?_ ?_
                · refine Same.comp (same_flushOldOp _) (by decide) ?_
                  exact Same.refl _ _
                · refine Same.ite ?_ ?_
                  · refine Same.comp (same_bootFlashOp _) (by decide) ?_
                    exact Same.refl _ _
                  · refine Same.comp (same_frgResult _ _) (by decide) ?_
                    exact Same.refl _ _

theorem same_writeFrg (x0 : Nat) (x1 : Nat) (s0 : State) : Same [.regs, .glb, .frg, .tal, .gbk, .phs, .ldg, .fab, .por, .dry, .hlt, .pin, .prt, .dp, .tab, .fry, .tmg, .free, .base, .rst, .act, .low, .mid] s0 (writeFrg x0 x1 s0) := by
  unfold writeFrg
  refine Same.ite ?_ ?_
  · refine Same.comp (same_writeFrgCtl _ _) (by decide) ?_
    exact Same.refl _ _
  · refine Same.ite ?_ ?_
    · refine Same.comp (same_freeCells _) (by decide) ?_
      refine Same.comp (same_loadPortOp _ _ _) (by decide) ?_
      exact Same.refl _ _
    · refine Same.comp (same_writeRw _ _ _) (by decide) ?_
      exact Same.refl _ _

theorem same_regWrite (x0 : Nat) (x1 : Nat) (s0 : State) : Same [.regs, .mem, .clk, .glb, .frg, .hif, .tal, .gbk, .tim, .phs, .ldg, .fab, .por, .dry, .hlt, .pin, .prt, .dp, .tab, .fry, .tmg, .free, .base, .rst, .act, .low, .mid] s0 (regWrite x0 x1 s0) := by
  unfold regWrite
  refine Same.ite ?_ ?_
  · refine Same.comp (same_writeGlb _ _ _) (by decide) ?_
    exact Same.refl _ _
  · refine Same.ite ?_ ?_
    · refine Same.comp (same_writeFrg _ _ _) (by decide) ?_
      exact Same.refl _ _
    · refine Same.ite ?_ ?_
      · refine Same.comp (same_writeHif _ _ _) (by decide) ?_
        exact Same.refl _ _
      · refine Same.ite ?_ ?_
        · refine Same.comp (same_writePrt _ _ _) (by decide) ?_
          exact Same.refl _ _
        · refine Same.ite ?_ ?_
          · refine Same.comp (same_writeRw _ _ _) (by decide) ?_
            exact Same.refl _ _
          · refine Same.ite ?_ ?_
            · refine Same.comp (same_writeTbl _ _ _) (by decide) ?_
              exact Same.refl _ _
            · refine Same.ite ?_ ?_
              · refine Same.comp (same_writeFry _ _ _) (by decide) ?_
                exact Same.refl _ _
              · refine Same.ite ?_ ?_
                · refine Same.comp (same_writeTm _ _ _) (by decide) ?_
                  exact Same.refl _ _
                · refine Same.ite ?_ ?_
                  · refine Same.comp (same_writeLdg _ _ _) (by decide) ?_
                    exact Same.refl _ _
                  · refine Same.ite ?_ ?_
                    · refine Same.comp (same_writePhs _ _ _) (by decide) ?_
                      exact Same.refl _ _
                    · refine Same.ite ?_ ?_
                      · refine Same.comp (same_writeTim _ _ _) (by decide) ?_
                        exact Same.refl _ _
                      · refine Same.ite ?_ ?_
                        · refine Same.comp (same_writeFab _ _ _) (by decide) ?_
                          exact Same.refl _ _
                        · refine Same.ite ?_ ?_
                          · refine Same.comp (same_writePor _ _ _) (by decide) ?_
                            exact Same.refl _ _
                          · refine Same.ite ?_ ?_
                            · refine Same.comp (same_writeDry _ _ _) (by decide) ?_
                              exact Same.refl _ _
                            · refine Same.ite ?_ ?_
                              · refine Same.comp (same_writeTal _ _ _) (by decide) ?_
                                exact Same.refl _ _
                              · refine Same.ite ?_ ?_
                                · refine Same.comp (same_writeGbk _ _ _) (by decide) ?_
                                  exact Same.refl _ _
                                · refine Same.ite ?_ ?_
                                  · refine Same.comp (same_writeHlt _ _ _) (by decide) ?_
                                    exact Same.refl _ _
                                  · refine Same.comp (same_writePin _ _ _) (by decide) ?_
                                    exact Same.refl _ _

theorem same_dwordWrite (x0 : Nat) (x1 : Nat) (x2 : Nat) (s0 : State) : Same [.regs, .mem, .clk, .glb, .frg, .hif, .tal, .gbk, .tim, .phs, .ldg, .fab, .por, .dry, .hlt, .pin, .prt, .dp, .tab, .fry, .tmg, .free, .base, .rst, .act, .low, .mid] s0 (dwordWrite x0 x1 x2 s0) := by
  unfold dwordWrite
  refine Same.ite ?_ ?_
  · exact Same.refl _ _
  · refine Same.ite ?_ ?_
    · refine Same.ite ?_ ?_
      · refine Same.comp (same_accErr _ _ _ _) (by decide) ?_
        exact Same.refl _ _
      · refine Same.ite ?_ ?_
        · refine Same.comp (same_accErr _ _ _ _) (by decide) ?_
          exact Same.refl _ _
        · refine Same.ite ?_ ?_
          · refine Same.comp (same_accErr _ _ _ _) (by decide) ?_
            exact Same.refl _ _
          · refine Same.comp (same_regWrite _ _ _) (by decide) ?_
            exact Same.refl _ _
    · refine Same.comp (same_accErr _ _ _ _) (by decide) ?_
      exact Same.refl _ _

theorem same_devWrite (x0 x1 : Nat) (s0 : State) : Same [.regs, .mem, .clk, .glb, .frg, .hif, .tal, .gbk, .tim, .phs, .ldg, .fab, .por, .dry, .hlt, .pin, .prt, .dp, .tab, .fry, .tmg, .free, .base, .rst, .act, .low, .mid] s0 (devWrite x0 x1 s0).2 := by
  unfold devWrite
  refine Same.ite2 (Same.refl _ _) ?_
  exact Same.comp (same_dwordWrite x0 15 x1 s0) (by decide) (Same.refl _ _)

theorem same_copyWord (x0 : Nat) (x1 : Move) (x2 : Nat) (s0 : State) : Same [.regs, .mem, .clk, .glb, .frg, .hif, .tal, .gbk, .tim, .phs, .ldg, .fab, .por, .dry, .hlt, .pin, .prt, .dp, .tab, .fry, .tmg, .free, .base, .rst, .act, .low, .mid] s0 (copyWord x0 x1 x2 s0).2 := by
  unfold copyWord
  extract_lets +onlyGivenNames -merge -underBinder v1 v2
  clear_value v1
  clear_value v2
  split
  rename_i a3 a4 s5 e7
  have h6 : Same [.regs, .mem, .clk, .glb, .frg, .hif, .tal, .gbk, .tim, .phs, .ldg, .fab, .por, .dry, .hlt, .pin, .prt, .dp, .tab, .fry, .tmg, .free, .base, .rst, .act, .low, .mid] s0 s5 := by
    refine Same.of3 e7 ?_
    refine Same.ite3 ?_ ?_
    · exact Same.refl _ _
    · refine Same.ite3 ?_ ?_
      · refine Same.comp (same_devRead _ _) (by decide) ?_
        exact Same.refl _ _
      · exact Same.refl _ _
  extract_lets +onlyGivenNames -merge -underBinder v8
  clear_value v8
  refine Same.ite2 ?_ ?_
  · exact h6
  · refine Same.ite2 ?_ ?_
    · refine Same.comp (same_devWrite _ _ _) (by decide) ?_
      exact h6
    · refine Same.comp (same_putErr _ _ _) (by decide) ?_
      refine Same.comp (same_memWrite _ _ _) (by decide) ?_
      exact h6

theorem same_copyWords (x0 : Nat) (x1 : Move) (x2 x3 : Nat) (s0 : State) :
    Same [.regs, .mem, .clk, .glb, .frg, .hif, .tal, .gbk, .tim, .phs, .ldg, .fab, .por, .dry, .hlt, .pin, .prt, .dp, .tab, .fry, .tmg, .free, .base, .rst, .act, .low, .mid] s0 (copyWords x0 x1 x2 x3 s0).2.2 := by
  induction x2 generalizing x3 s0 with
  | zero => exact Same.refl _ _
  | succ n ih =>
    unfold copyWords
    split
    rename_i a1 s2 e4
    have h3 : Same [.regs, .mem, .clk, .glb, .frg, .hif, .tal, .gbk, .tim, .phs, .ldg, .fab, .por, .dry, .hlt, .pin, .prt, .dp, .tab, .fry, .tmg, .free, .base, .rst, .act, .low, .mid] s0 s2 := Same.of2 e4 (Same.comp (same_copyWord _ _ _ _) (by decide) (Same.refl _ _))
    refine Same.ite3 h3 (Same.ite3 h3 ?_)
    exact Same.comp (ih _ _) (by decide) h3

theorem same_moveOp (x0 : Nat) (x1 : List Nat) (s0 : State) : Same [.regs, .mem, .clk, .glb, .frg, .hif, .tal, .gbk, .tim, .phs, .ldg, .fab, .por, .dry, .hlt, .pin, .prt, .dp, .tab, .fry, .tmg, .free, .base, .rst, .act, .low, .mid] s0 (moveOp x0 x1 s0) := by
  unfold moveOp
  extract_lets +onlyGivenNames -merge -underBinder v1 v2 v3 s4 v6
  clear_value v1
  clear_value v2
  clear_value v3
  have h5 : Same [.regs, .mem, .clk, .glb, .frg, .hif, .tal, .gbk, .tim, .phs, .ldg, .fab, .por, .dry, .hlt, .pin, .prt, .dp, .tab, .fry, .tmg, .free, .base, .rst, .act, .low, .mid] s0 s4 := by
    unfold s4
    refine Same.comp (same_errTaken _ _) (by decide) ?_
    exact Same.refl _ _
  clear_value s4
  clear_value v6
  refine Same.ite ?_ ?_
  · exact Same.refl _ _
  · split
    rename_i a7 a8 s9 e11
    have h10 : Same [.regs, .mem, .clk, .glb, .frg, .hif, .tal, .gbk, .tim, .phs, .ldg, .fab, .por, .dry, .hlt, .pin, .prt, .dp, .tab, .fry, .tmg, .free, .base, .rst, .act, .low, .mid] s0 s9 := by
      refine Same.of3 e11 ?_
      refine Same.comp (same_copyWords _ _ _ _ _) (by decide) ?_
      refine Same.comp (same_putErr _ _ _) (by decide) ?_
      exact h5
    extract_lets +onlyGivenNames -merge -underBinder s12
    have h13 : Same [.regs, .mem, .clk, .glb, .frg, .hif, .tal, .gbk, .tim, .phs, .ldg, .fab, .por, .dry, .hlt, .pin, .prt, .dp, .tab, .fry, .tmg, .free, .base, .rst, .act, .low, .mid] s0 s12 := by
      unfold s12
      refine Same.comp (same_bumpN _ _ _ _) (by decide) ?_
      exact h10
    clear_value s12
    refine Same.ite ?_ ?_
    · split
      rename_i a14 s15 e17
      have h16 : Same [.regs, .mem, .clk, .glb, .frg, .hif, .tal, .gbk, .tim, .phs, .ldg, .fab, .por, .dry, .hlt, .pin, .prt, .dp, .tab, .fry, .tmg, .free, .base, .rst, .act, .low, .mid] s0 s15 := by
        refine Same.of2 e17 ?_
        refine Same.comp (same_haltRemain _ _ _ _) (by decide) ?_
        exact h13
      refine Same.comp (same_errHalt _ _ _) (by decide) ?_
      refine Same.comp (same_rput_top _ _ _ (Or.inl (by simp only [A.DRY_ERR_REMAIN]; omega))) (by decide) ?_
      exact h16
    · refine Same.ite ?_ ?_
      · refine Same.comp (same_errNext _ _) (by decide) ?_
        exact h13
      · exact h13


/-- A command keeps to `T` when its effect does, `T` holds what settling changes, and the device held changes nothing. -/
theorem command_same {T : List Part} {c : Instr} {s t : State} {f : State → State}
    (m : [Part.regs, Part.glb, Part.hif, Part.tal, Part.gbk, Part.hlt].all (fun p => T.contains p) = true)
    (k : ∀ x, Same T s x → Same T s (f x)) (h : command c s f = .next t) : Same T s t := by
  unfold command at h
  split at h
  · cases hh : held s
    · rw [hh] at h
      rw [← Host.Outcome.next.inj h]
      exact same_after m (k _ (Same.refl _ _))
    · rw [hh] at h
      rw [← Host.Outcome.next.inj h]
      exact Same.refl _ _
  · exact absurd h (by simp)

theorem pinCommand_same {T : List Part} {c : Instr} {s t : State} {f : State → State}
    (m : [Part.regs, Part.glb, Part.hif, Part.tal, Part.gbk, Part.hlt].all (fun p => T.contains p) = true)
    (k : ∀ x, Same T s x → Same T s (f x)) (h : pinCommand c s f = .next t) : Same T s t := by
  unfold pinCommand at h
  split at h
  · rw [← Host.Outcome.next.inj h]
    exact same_after m (k _ (Same.refl _ _))
  · exact absurd h (by simp)

theorem hostCmd_same {T : List Part} {c : Instr} {a : Nat} {s t : State} {f : State → State}
    (m : [Part.regs, Part.glb, Part.hif, Part.tal, Part.gbk, Part.hlt, Part.mid].all (fun p => T.contains p) = true)
    (k : ∀ x, Same T s x → Same T s (f x)) (h : hostCmd c a s f = .next t) : Same T s t := by
  refine command_same (Same.all_sub m (by decide)) (fun x hx => ?_) h
  exact Same.ite hx (Same.ite (Same.comp (same_accErr _ _ _ _) (Same.all_sub m (by decide)) hx) (k _ hx))

theorem hostRead_same {T : List Part} {c : Instr} {s t : State} {f : State → State}
    (m : [Part.regs, Part.glb, Part.hif, Part.tal, Part.gbk, Part.hlt].all (fun p => T.contains p) = true)
    (k : ∀ x, Same T s x → Same T s (f x)) (h : hostRead c s f = .next t) : Same T s t := by
  refine command_same m (fun x hx => ?_) h
  have hm : Part.hif ∈ T := List.contains_iff_mem.1 (List.all_eq_true.1 m Part.hif (by decide))
  exact Same.ite (Same.set_hif hm hx) (k _ hx)

theorem timed_same {T : List Part} {c : Instr} {dt : Nat} {s t : State} {f : State → State}
    (m : [Part.clk, Part.dp, Part.fab, Part.free, Part.gbk, Part.glb, Part.hif, Part.hlt, Part.ldg, Part.mid, Part.phs, Part.por, Part.prt, Part.regs, Part.tab, Part.tal, Part.tim, Part.tmg].all (fun p => T.contains p) = true)
    (k : ∀ x, Same T s x → Same T s (f x)) (h : timed c dt s f = .next t) : Same T s t := by
  refine command_same (Same.all_sub m (by decide)) (fun x hx => k _ ?_) h
  exact Same.comp (same_passTime _ _) (Same.all_sub m (by decide)) hx

end Machine
end Sys2Proof
end

