-- ==== Sys2Proof/Laws/Meanings.lean ====
section
/-! SUPPORT. Laws/Meanings.lean: for the meaning of every command, which parts of the state it may change when it answers a
next state. -/
namespace Sys2Proof
namespace Machine

theorem touch_MbxCompletion (x0 : Nat) (x1 : Bool) (s0 : State) {t : State} (h : execMbxCompletion x0 x1 s0 = .next t) : Same [.regs, .clk, .glb, .hif, .tal, .gbk, .tim, .phs, .ldg, .fab, .por, .hlt, .prt, .dp, .tab, .tmg, .free, .mid] s0 t := by
  unfold execMbxCompletion at h
  refine timed_same (by decide) (fun _ h1 => ?_) h
  refine Same.comp (same_mbxComplete _ _) (by decide) ?_
  exact h1

theorem touch_EventRaise (x0 : Nat) (x1 : Nat) (x2 : Nat) (x3 : Nat) (x4 : Nat) (s0 : State) {t : State} (h : execEventRaise x0 x1 x2 x3 x4 s0 = .next t) : Same [.regs, .clk, .glb, .hif, .tal, .gbk, .tim, .phs, .ldg, .fab, .por, .hlt, .prt, .dp, .tab, .tmg, .free, .mid] s0 t := by
  unfold execEventRaise at h
  refine timed_same (by decide) (fun _ h1 => ?_) h
  refine Same.comp (same_raise _ _ _ _ _) (by decide) ?_
  exact h1

theorem touch_MoverInsertion (x0 : Nat) (x1 : Nat) (x2 : Nat) (s0 : State) {t : State} (h : execMoverInsertion x0 x1 x2 s0 = .next t) : Same [.regs, .clk, .glb, .hif, .tal, .gbk, .tim, .phs, .ldg, .fab, .por, .hlt, .prt, .dp, .tab, .tmg, .free, .mid] s0 t := by
  unfold execMoverInsertion at h
  refine timed_same (by decide) (fun _ h1 => ?_) h
  refine Same.comp (same_moverStep _ _ _) (by decide) ?_
  refine Same.comp (same_tableWrites _) (by decide) ?_
  exact h1

theorem touch_KeySwitch (s0 : State) {t : State} (h : execKeySwitch s0 = .next t) : Same [.regs, .glb, .hif, .tal, .gbk, .fab, .hlt, .mid] s0 t := by
  unfold execKeySwitch at h
  refine hostCmd_same (by decide) (fun _ h1 => ?_) h
  refine Same.comp (same_keySwitchOp _) (by decide) ?_
  exact h1

theorem touch_LinkHoldExpiry (x0 : Nat) (x1 : Nat) (s0 : State) {t : State} (h : execLinkHoldExpiry x0 x1 s0 = .next t) : Same [.regs, .clk, .glb, .hif, .tal, .gbk, .tim, .phs, .ldg, .fab, .por, .hlt, .pin, .prt, .dp, .tab, .tmg, .free, .mid] s0 t := by
  unfold execLinkHoldExpiry at h
  refine timed_same (by decide) (fun _ h1 => ?_) h
  refine Same.comp (same_freeCells _) (by decide) ?_
  refine Same.comp (same_judgeLink _ _) (by decide) ?_
  exact h1

theorem touch_MsixUnmask (x0 : PciAccess) (s0 : State) {t : State} (h : execMsixUnmask x0 s0 = .next t) : Same [.regs, .glb, .hif, .tal, .gbk, .hlt, .mid] s0 t := by
  unfold execMsixUnmask at h
  refine command_same (by decide) (fun _ h1 => ?_) h
  refine Same.comp (same_pciAccess _ _) (by decide) ?_
  exact h1

theorem touch_JtagClamp (s0 : State) {t : State} (h : execJtagClamp s0 = .next t) : Same [.regs, .mem, .glb, .frg, .hif, .tal, .gbk, .tim, .ldg, .fab, .por, .dry, .hlt, .pin, .prt, .dp, .tab, .tmg, .free, .base, .act, .low, .mid] s0 t := by
  unfold execJtagClamp at h
  refine pinCommand_same (by decide) (fun _ h1 => ?_) h
  refine Same.comp (same_jtagOp _ _ _ _) (by decide) ?_
  exact h1

theorem touch_WarmResetComplete (x0 : Nat) (s0 : State) {t : State} (h : execWarmResetComplete x0 s0 = .next t) : Same [.regs, .clk, .glb, .frg, .hif, .tal, .gbk, .tim, .phs, .ldg, .fab, .por, .hlt, .pin, .prt, .dp, .tab, .tmg, .free, .base, .rst, .act, .low, .mid] s0 t := by
  unfold execWarmResetComplete at h
  refine timed_same (by decide) (fun _ h1 => ?_) h
  refine Same.comp (same_freeCells _) (by decide) ?_
  refine Same.comp (same_warmDone _) (by decide) ?_
  exact h1

theorem touch_RefclkRestored (x0 : Nat) (x1 : Nat) (s0 : State) {t : State} (h : execRefclkRestored x0 x1 s0 = .next t) : Same [.regs, .clk, .glb, .hif, .tal, .gbk, .tim, .phs, .ldg, .fab, .por, .hlt, .prt, .dp, .tab, .tmg, .free, .mid] s0 t := by
  unfold execRefclkRestored at h
  refine timed_same (by decide) (fun _ h1 => ?_) h
  refine Same.comp (same_refclkRestored _ _) (by decide) ?_
  exact h1

theorem touch_ShadowLoad (s0 : State) {t : State} (h : execShadowLoad s0 = .next t) : Same [.regs, .glb, .frg, .hif, .tal, .gbk, .ldg, .hlt, .tab, .act, .low, .mid] s0 t := by
  unfold execShadowLoad at h
  refine hostCmd_same (by decide) (fun _ h1 => ?_) h
  refine Same.comp (same_shadowLoadOp _) (by decide) ?_
  exact h1

theorem touch_PorQuery (s0 : State) {t : State} (h : execPorQuery s0 = .next t) : Same [.regs, .glb, .hif, .tal, .gbk, .por, .hlt, .mid] s0 t := by
  unfold execPorQuery at h
  refine hostCmd_same (by decide) (fun _ h1 => ?_) h
  refine Same.comp (same_porStart _ _ _ _) (by decide) ?_
  exact h1

theorem touch_TalRdSelWrite (x0 : Word) (s0 : State) {t : State} (h : execTalRdSelWrite x0 s0 = .next t) : Same [.regs, .glb, .hif, .tal, .gbk, .hlt, .mid] s0 t := by
  unfold execTalRdSelWrite at h
  refine hostCmd_same (by decide) (fun _ h1 => ?_) h
  refine Same.comp (same_captureCounter _ _) (by decide) ?_
  exact h1

theorem touch_ChannelEnable (x0 : DataChan) (s0 : State) {t : State} (h : execChannelEnable x0 s0 = .next t) : Same [.regs, .glb, .hif, .tal, .gbk, .dry, .hlt, .low, .mid] s0 t := by
  unfold execChannelEnable at h
  refine hostCmd_same (by decide) (fun _ h1 => ?_) h
  refine Same.comp (same_enableChan _ _) (by decide) ?_
  exact h1

theorem touch_PhsMsgPost (x0 : Word) (s0 : State) {t : State} (h : execPhsMsgPost x0 s0 = .next t) : Same [.regs, .glb, .hif, .tal, .gbk, .phs, .ldg, .hlt, .mid] s0 t := by
  unfold execPhsMsgPost at h
  refine hostCmd_same (by decide) (fun _ h1 => ?_) h
  refine Same.comp (same_msgPost _ _) (by decide) ?_
  exact h1

theorem touch_FabPortCfgWrite (x0 : Nat) (x1 : Word) (s0 : State) {t : State} (h : execFabPortCfgWrite x0 x1 s0 = .next t) : Same [.regs, .glb, .hif, .tal, .gbk, .fab, .hlt, .dp, .free, .mid] s0 t := by
  unfold execFabPortCfgWrite at h
  refine hostCmd_same (by decide) (fun _ h1 => ?_) h
  refine Same.comp (same_writeFabPort _ _ _) (by decide) ?_
  exact h1

theorem touch_PpsOutSecond (x0 : Nat) (s0 : State) {t : State} (h : execPpsOutSecond x0 s0 = .next t) : Same [.regs, .clk, .glb, .hif, .tal, .gbk, .tim, .phs, .ldg, .fab, .por, .hlt, .prt, .dp, .tab, .tmg, .free, .mid] s0 t := by
  unfold execPpsOutSecond at h
  refine timed_same (by decide) (fun _ h1 => ?_) h
  refine Same.comp (same_ppsOutSecond _) (by decide) ?_
  exact h1

theorem touch_FabSelfWrite (x0 : Word) (s0 : State) {t : State} (h : execFabSelfWrite x0 s0 = .next t) : Same [.regs, .glb, .hif, .tal, .gbk, .fab, .hlt, .mid] s0 t := by
  unfold execFabSelfWrite at h
  refine hostCmd_same (by decide) (fun _ h1 => ?_) h
  refine Same.comp (same_writeFabSelf _ _) (by decide) ?_
  exact h1

theorem touch_ErrandEnd (x0 : Nat) (x1 : Nat) (s0 : State) {t : State} (h : execErrandEnd x0 x1 s0 = .next t) : Same [.regs, .clk, .glb, .hif, .tal, .gbk, .tim, .phs, .ldg, .fab, .por, .hlt, .prt, .dp, .tab, .tmg, .free, .mid] s0 t := by
  unfold execErrandEnd at h
  refine timed_same (by decide) (fun _ h1 => ?_) h
  refine same_errStep_h (by decide) (fun _ _ h2 => ?_) ?_
  · refine Same.comp (same_endOp _ _) (by decide) ?_
    exact h2
  exact h1

theorem touch_TimSmpPost (x0 : Word) (s0 : State) {t : State} (h : execTimSmpPost x0 s0 = .next t) : Same [.regs, .glb, .hif, .tal, .gbk, .tim, .phs, .hlt, .mid] s0 t := by
  unfold execTimSmpPost at h
  refine hostCmd_same (by decide) (fun _ h1 => ?_) h
  refine Same.comp (same_smpPost _ _) (by decide) ?_
  exact h1

theorem touch_ShaperRateWrite (x0 : ShaperTarget) (x1 : Bool) (x2 : Word) (s0 : State) {t : State} (h : execShaperRateWrite x0 x1 x2 s0 = .next t) : Same [.regs, .glb, .hif, .tal, .gbk, .hlt, .tmg, .low, .mid] s0 t := by
  unfold execShaperRateWrite at h
  refine hostCmd_same (by decide) (fun _ h1 => ?_) h
  refine Same.comp (same_writeShaper _ _ _ _) (by decide) ?_
  exact h1

theorem touch_OstlerSilent (x0 : Nat) (s0 : State) {t : State} (h : execOstlerSilent x0 s0 = .next t) : Same [.regs, .clk, .glb, .hif, .tal, .gbk, .tim, .phs, .ldg, .fab, .por, .hlt, .prt, .dp, .tab, .tmg, .free, .mid] s0 t := by
  unfold execOstlerSilent at h
  refine timed_same (by decide) (fun _ h1 => ?_) h
  refine Same.ite ?_ ?_
  · refine Same.comp (same_setSilent _) (by decide) ?_
    exact h1
  · exact h1

theorem touch_OtpKeyHash (x0 : Nat) (x1 : Nat) (s0 : State) {t : State} (h : execOtpKeyHash x0 x1 s0 = .next t) : Same [.regs, .glb, .hif, .tal, .gbk, .hlt, .mid] s0 t := by
  unfold execOtpKeyHash at h
  refine hostCmd_same (by decide) (fun _ h1 => ?_) h
  refine Same.comp (same_mbxDoorbell _ _ _ _) (by decide) ?_
  exact h1

theorem touch_LedgerLineBoundary (x0 : Nat) (x1 : Nat) (s0 : State) {t : State} (h : execLedgerLineBoundary x0 x1 s0 = .next t) : Same [.regs, .clk, .glb, .hif, .tal, .gbk, .tim, .phs, .ldg, .fab, .por, .hlt, .prt, .dp, .tab, .tmg, .free, .mid] s0 t := by
  unfold execLedgerLineBoundary at h
  refine timed_same (by decide) (fun _ h1 => ?_) h
  refine Same.comp (same_lineChange _ _) (by decide) ?_
  exact h1

theorem touch_PorFree (x0 : Nat) (s0 : State) {t : State} (h : execPorFree x0 s0 = .next t) : Same [.regs, .glb, .hif, .tal, .gbk, .por, .hlt, .mid] s0 t := by
  unfold execPorFree at h
  refine hostCmd_same (by decide) (fun _ h1 => ?_) h
  refine Same.comp (same_porStart _ _ _ _) (by decide) ?_
  exact h1

theorem touch_HelloTimer (x0 : Nat) (x1 : Nat) (s0 : State) {t : State} (h : execHelloTimer x0 x1 s0 = .next t) : Same [.regs, .clk, .glb, .hif, .tal, .gbk, .tim, .phs, .ldg, .fab, .por, .hlt, .prt, .dp, .tab, .tmg, .free, .mid] s0 t := by
  unfold execHelloTimer at h
  refine timed_same (by decide) (fun _ h1 => ?_) h
  refine Same.ite ?_ ?_
  · refine Same.comp (same_freeCells _) (by decide) ?_
    refine Same.comp (same_sendHello _ _) (by decide) ?_
    exact h1
  · exact h1

theorem touch_WakeTimerExpiry (x0 : Nat) (s0 : State) {t : State} (h : execWakeTimerExpiry x0 s0 = .next t) : Same [.regs, .clk, .glb, .hif, .tal, .gbk, .tim, .phs, .ldg, .fab, .por, .hlt, .prt, .dp, .tab, .tmg, .free, .base, .mid] s0 t := by
  unfold execWakeTimerExpiry at h
  refine timed_same (by decide) (fun _ h1 => ?_) h
  refine Same.ite ?_ ?_
  · refine Same.comp (same_endWake _) (by decide) ?_
    exact h1
  · exact h1

theorem touch_CoreRefclkLost (x0 : Nat) (s0 : State) {t : State} (h : execCoreRefclkLost x0 s0 = .next t) : Same [.regs, .clk, .glb, .hif, .tal, .gbk, .tim, .phs, .ldg, .fab, .por, .hlt, .prt, .dp, .tab, .tmg, .free, .rst, .mid] s0 t := by
  unfold execCoreRefclkLost at h
  refine timed_same (by decide) (fun _ h1 => ?_) h
  extract_lets +onlyGivenNames -merge -underBinder v2
  refine Same.ite ?_ ?_
  · exact h1
  · refine Same.comp (same_raise _ _ _ _ _) (by decide) ?_
    refine Same.set_glb (by decide) (Or.inr rfl) (Or.inl (by decide)) ?_
    exact h1

theorem touch_HostLinkUp (x0 : Nat) (x1 : Nat) (x2 : Nat) (x3 : PcieCfg) (s0 : State) {t : State} (h : execHostLinkUp x0 x1 x2 x3 s0 = .next t) : Same [.regs, .clk, .glb, .hif, .tal, .gbk, .tim, .phs, .ldg, .fab, .por, .hlt, .prt, .dp, .tab, .tmg, .free, .mid] s0 t := by
  unfold execHostLinkUp at h
  refine timed_same (by decide) (fun _ h1 => ?_) h
  refine Same.comp (same_hostLinkUp _ _ _ _) (by decide) ?_
  exact h1

theorem touch_Hello (x0 : Nat) (s0 : State) {t : State} (h : execHello x0 s0 = .next t) : Same [.regs, .clk, .glb, .hif, .tal, .gbk, .tim, .phs, .ldg, .fab, .por, .hlt, .prt, .dp, .tab, .tmg, .free, .mid] s0 t := by
  unfold execHello at h
  refine timed_same (by decide) (fun _ h1 => ?_) h
  refine same_handleHead_h (by decide) (fun _ _ _ h2 => ?_) ?_
  · refine Same.comp (same_onHello _ _ _) (by decide) ?_
    exact h2
  exact h1

theorem touch_Drain (s0 : State) {t : State} (h : execDrain s0 = .next t) : Same [.regs, .glb, .hif, .tal, .gbk, .hlt, .dp, .tmg, .base, .low, .mid] s0 t := by
  unfold execDrain at h
  refine hostCmd_same (by decide) (fun _ h1 => ?_) h
  refine Same.comp (same_drainOp _) (by decide) ?_
  exact h1

theorem touch_BootFlash (s0 : State) {t : State} (h : execBootFlash s0 = .next t) : Same [.regs, .glb, .frg, .hif, .tal, .gbk, .phs, .ldg, .fab, .hlt, .pin, .prt, .dp, .tab, .fry, .tmg, .free, .base, .rst, .act, .low, .mid] s0 t := by
  unfold execBootFlash at h
  refine hostCmd_same (by decide) (fun _ h1 => ?_) h
  refine Same.comp (same_bootFlashOp _) (by decide) ?_
  exact h1

theorem touch_TblCmdComplete (x0 : Nat) (x1 : Nat) (s0 : State) {t : State} (h : execTblCmdComplete x0 x1 s0 = .next t) : Same [.regs, .clk, .glb, .hif, .tal, .gbk, .tim, .phs, .ldg, .fab, .por, .hlt, .prt, .dp, .tab, .tmg, .free, .mid] s0 t := by
  unfold execTblCmdComplete at h
  refine timed_same (by decide) (fun _ h1 => ?_) h
  refine Same.comp (same_tblInOrder _ _) (by decide) ?_
  exact h1

theorem touch_GbkClearAll (s0 : State) {t : State} (h : execGbkClearAll s0 = .next t) : Same [.regs, .glb, .hif, .tal, .gbk, .hlt, .mid] s0 t := by
  unfold execGbkClearAll at h
  refine hostCmd_same (by decide) (fun _ h1 => ?_) h
  refine Same.comp (same_gbkClearAllOp _) (by decide) ?_
  exact h1

theorem touch_TblNoteW3Read (x0 : Nat) (s0 : State) {t : State} (h : execTblNoteW3Read x0 s0 = .next t) : Same [.regs, .glb, .hif, .tal, .gbk, .hlt, .tab] s0 t := by
  unfold execTblNoteW3Read at h
  refine hostRead_same (by decide) (fun _ h1 => ?_) h
  refine Same.comp (same_notePop _ _) (by decide) ?_
  exact h1

theorem touch_GpioPulseEnd (x0 : Nat) (x1 : Nat) (s0 : State) {t : State} (h : execGpioPulseEnd x0 x1 s0 = .next t) : Same [.regs, .clk, .glb, .hif, .tal, .gbk, .tim, .phs, .ldg, .fab, .por, .hlt, .pin, .prt, .dp, .tab, .tmg, .free, .mid] s0 t := by
  unfold execGpioPulseEnd at h
  refine timed_same (by decide) (fun _ h1 => ?_) h
  refine Same.comp (same_gpioPulseEnd _ _) (by decide) ?_
  exact h1

theorem touch_LdgBaseSubWrite (x0 : Nat) (x1 : Word) (s0 : State) {t : State} (h : execLdgBaseSubWrite x0 x1 s0 = .next t) : Same [.regs, .glb, .hif, .tal, .gbk, .ldg, .hlt, .mid] s0 t := by
  unfold execLdgBaseSubWrite at h
  refine hostCmd_same (by decide) (fun _ h1 => ?_) h
  refine Same.comp (same_writeBaseSub _ _ _) (by decide) ?_
  exact h1

theorem touch_CorePllHoldoverExpiry (x0 : Nat) (s0 : State) {t : State} (h : execCorePllHoldoverExpiry x0 s0 = .next t) : Same [.regs, .clk, .glb, .frg, .hif, .tal, .gbk, .tim, .phs, .ldg, .fab, .por, .dry, .hlt, .pin, .prt, .dp, .tab, .fry, .tmg, .free, .base, .rst, .act, .low, .mid] s0 t := by
  unfold execCorePllHoldoverExpiry at h
  refine timed_same (by decide) (fun _ h1 => ?_) h
  refine Same.ite ?_ ?_
  · refine Same.comp (same_coldReset _) (by decide) ?_
    exact h1
  · exact h1

theorem touch_StepRel (x0 : Bool) (s0 : State) {t : State} (h : execStepRel x0 s0 = .next t) : Same [.regs, .glb, .hif, .tal, .gbk, .tim, .phs, .ldg, .hlt, .mid] s0 t := by
  unfold execStepRel at h
  refine hostCmd_same (by decide) (fun _ h1 => ?_) h
  refine Same.comp (same_stepRelOp _ _) (by decide) ?_
  exact h1

theorem touch_TblInsert (x0 : Nat) (x1 : Nat) (x2 : Nat) (x3 : Bool) (s0 : State) {t : State} (h : execTblInsert x0 x1 x2 x3 s0 = .next t) : Same [.regs, .glb, .hif, .tal, .gbk, .hlt, .tab, .free, .mid] s0 t := by
  unfold execTblInsert at h
  refine hostCmd_same (by decide) (fun _ h1 => ?_) h
  refine Same.comp (same_tblIssue _ _ _ _ _ _) (by decide) ?_
  exact h1

theorem touch_WaitTimeout (x0 : Nat) (x1 : Nat) (s0 : State) {t : State} (h : execWaitTimeout x0 x1 s0 = .next t) : Same [.regs, .clk, .glb, .hif, .tal, .gbk, .tim, .phs, .ldg, .fab, .por, .dry, .hlt, .pin, .prt, .dp, .tab, .tmg, .free, .low, .mid] s0 t := by
  unfold execWaitTimeout at h
  refine timed_same (by decide) (fun _ h1 => ?_) h
  refine Same.comp (same_waitTimeout _ _) (by decide) ?_
  exact h1

theorem touch_TblLookup (x0 : Nat) (x1 : Nat) (x2 : Nat) (x3 : Bool) (s0 : State) {t : State} (h : execTblLookup x0 x1 x2 x3 s0 = .next t) : Same [.regs, .glb, .hif, .tal, .gbk, .hlt, .tab, .free, .mid] s0 t := by
  unfold execTblLookup at h
  refine hostCmd_same (by decide) (fun _ h1 => ?_) h
  refine Same.comp (same_tblIssue _ _ _ _ _ _) (by decide) ?_
  exact h1

theorem touch_OtpRevoke (x0 : Nat) (x1 : Nat) (s0 : State) {t : State} (h : execOtpRevoke x0 x1 s0 = .next t) : Same [.regs, .glb, .hif, .tal, .gbk, .hlt, .mid] s0 t := by
  unfold execOtpRevoke at h
  refine hostCmd_same (by decide) (fun _ h1 => ?_) h
  refine Same.comp (same_mbxDoorbell _ _ _ _) (by decide) ?_
  exact h1

theorem touch_TemperDrainTimeout (x0 : Nat) (s0 : State) {t : State} (h : execTemperDrainTimeout x0 s0 = .next t) : Same [.regs, .clk, .glb, .frg, .hif, .tal, .gbk, .tim, .phs, .ldg, .fab, .por, .dry, .hlt, .prt, .dp, .tab, .tmg, .free, .act, .low, .mid] s0 t := by
  unfold execTemperDrainTimeout at h
  refine timed_same (by decide) (fun _ h1 => ?_) h
  refine Same.ite ?_ ?_
  · refine Same.comp (same_temperTimeout _) (by decide) ?_
    exact h1
  · exact h1

theorem touch_HarvestComplete (x0 : Nat) (s0 : State) {t : State} (h : execHarvestComplete x0 s0 = .next t) : Same [.regs, .mem, .clk, .glb, .hif, .tal, .gbk, .tim, .phs, .ldg, .fab, .por, .dry, .hlt, .prt, .dp, .tab, .tmg, .free, .mid] s0 t := by
  unfold execHarvestComplete at h
  refine timed_same (by decide) (fun _ h1 => ?_) h
  refine Same.comp (same_harvestWrite _) (by decide) ?_
  exact h1

theorem touch_ErrandFence (x0 : Nat) (x1 : Nat) (s0 : State) {t : State} (h : execErrandFence x0 x1 s0 = .next t) : Same [.regs, .clk, .glb, .hif, .tal, .gbk, .tim, .phs, .ldg, .fab, .por, .dry, .hlt, .prt, .dp, .tab, .tmg, .free, .mid] s0 t := by
  unfold execErrandFence at h
  refine timed_same (by decide) (fun _ h1 => ?_) h
  refine same_errStep_h (by decide) (fun _ _ h2 => ?_) ?_
  · refine Same.comp (same_fenceStep _ _) (by decide) ?_
    exact h2
  exact h1

theorem touch_MmFragmentReceived (x0 : Nat) (x1 : Nat) (x2 : Fragment) (s0 : State) {t : State} (h : execMmFragmentReceived x0 x1 x2 s0 = .next t) : Same [.regs, .clk, .glb, .hif, .tal, .gbk, .tim, .phs, .ldg, .fab, .por, .hlt, .pin, .prt, .dp, .tab, .tmg, .free, .mid] s0 t := by
  unfold execMmFragmentReceived at h
  refine timed_same (by decide) (fun _ h1 => ?_) h
  refine Same.comp (same_freeCells _) (by decide) ?_
  refine Same.comp (same_fragmentReceived _ _ _) (by decide) ?_
  exact h1

theorem touch_Takeover (s0 : State) {t : State} (h : execTakeover s0 = .next t) : Same [.regs, .glb, .hif, .tal, .gbk, .fab, .hlt, .dp, .mid] s0 t := by
  unfold execTakeover at h
  refine hostCmd_same (by decide) (fun _ h1 => ?_) h
  refine Same.comp (same_freeCells _) (by decide) ?_
  refine Same.comp (same_takeoverOp _) (by decide) ?_
  exact h1

theorem touch_LatchPhase (s0 : State) {t : State} (h : execLatchPhase s0 = .next t) : Same [.regs, .glb, .hif, .tal, .gbk, .hlt, .mid] s0 t := by
  unfold execLatchPhase at h
  refine hostCmd_same (by decide) (fun _ h1 => ?_) h
  refine Same.comp (same_latchPhaseOp _) (by decide) ?_
  exact h1

theorem touch_UpstreamCandidateExpiry (x0 : Nat) (x1 : Nat) (s0 : State) {t : State} (h : execUpstreamCandidateExpiry x0 x1 s0 = .next t) : Same [.regs, .clk, .glb, .hif, .tal, .gbk, .tim, .phs, .ldg, .fab, .por, .hlt, .prt, .dp, .tab, .tmg, .free, .mid] s0 t := by
  unfold execUpstreamCandidateExpiry at h
  refine timed_same (by decide) (fun _ h1 => ?_) h
  refine Same.ite ?_ ?_
  · refine Same.comp (same_chooseUp _) (by decide) ?_
    exact h1
  · exact h1

theorem touch_Poisoned (x0 : Bool) (x1 : Nat) (s0 : State) {t : State} (h : execPoisoned x0 x1 s0 = .next t) : Same [.regs, .glb, .hif, .tal, .gbk, .hlt, .mid] s0 t := by
  unfold execPoisoned at h
  refine hostCmd_same (by decide) (fun _ h1 => ?_) h
  refine Same.comp (same_aerPoisoned _) (by decide) ?_
  refine Same.comp (same_accErr _ _ _ _) (by decide) ?_
  exact h1

theorem touch_CopyBist (x0 : Nat) (x1 : Nat) (x2 : Bool) (s0 : State) {t : State} (h : execCopyBist x0 x1 x2 s0 = .next t) : Same [.regs, .clk, .glb, .hif, .tal, .gbk, .tim, .phs, .ldg, .fab, .por, .hlt, .prt, .dp, .tab, .tmg, .free, .mid] s0 t := by
  unfold execCopyBist at h
  refine timed_same (by decide) (fun _ h1 => ?_) h
  refine Same.comp (same_copyBist _ _ _) (by decide) ?_
  exact h1

theorem touch_TrackerLossTimeout (x0 : Nat) (x1 : Bool) (s0 : State) {t : State} (h : execTrackerLossTimeout x0 x1 s0 = .next t) : Same [.regs, .clk, .glb, .hif, .tal, .gbk, .tim, .phs, .ldg, .fab, .por, .hlt, .prt, .dp, .tab, .tmg, .free, .mid] s0 t := by
  unfold execTrackerLossTimeout at h
  refine timed_same (by decide) (fun _ h1 => ?_) h
  refine Same.comp (same_trackerLoss _ _) (by decide) ?_
  exact h1

theorem touch_DrainTimeout (x0 : Nat) (s0 : State) {t : State} (h : execDrainTimeout x0 s0 = .next t) : Same [.regs, .clk, .glb, .hif, .tal, .gbk, .tim, .phs, .ldg, .fab, .por, .hlt, .prt, .dp, .tab, .tmg, .free, .base, .low, .mid] s0 t := by
  unfold execDrainTimeout at h
  refine timed_same (by decide) (fun _ h1 => ?_) h
  refine Same.ite ?_ ?_
  · refine Same.comp (same_drainFlush _) (by decide) ?_
    exact h1
  · exact h1

theorem touch_UnassignedRead (x0 : Nat) (x1 : Nat) (s0 : State) {t : State} (h : execUnassignedRead x0 x1 s0 = .next t) : Same [.regs, .glb, .hif, .tal, .gbk, .tim, .hlt, .pin, .tab, .low, .mid] s0 t := by
  unfold execUnassignedRead at h
  refine hostRead_same (by decide) (fun _ h1 => ?_) h
  split
  rename_i a2 s3 e5
  have h4 : Same [.regs, .glb, .hif, .tal, .gbk, .tim, .hlt, .pin, .tab, .low, .mid] s0 s3 := by
    refine Same.of2 e5 ?_
    refine Same.comp (same_dwordRead _ _ _) (by decide) ?_
    exact h1
  refine Same.comp (same_answer _ _) (by decide) ?_
  exact h4

theorem touch_PauseTimerExpiry (x0 : Nat) (x1 : Nat) (s0 : State) {t : State} (h : execPauseTimerExpiry x0 x1 s0 = .next t) : Same [.regs, .clk, .glb, .hif, .tal, .gbk, .tim, .phs, .ldg, .fab, .por, .hlt, .prt, .dp, .tab, .tmg, .free, .mid] s0 t := by
  unfold execPauseTimerExpiry at h
  refine timed_same (by decide) (fun _ h1 => ?_) h
  extract_lets +onlyGivenNames -merge -underBinder v2
  clear_value v2
  refine Same.ite ?_ ?_
  · exact h1
  · refine Same.comp (same_putPort _ _ _) (by decide) ?_
    exact h1

theorem touch_ClearSafe (s0 : State) {t : State} (h : execClearSafe s0 = .next t) : Same [.regs, .glb, .hif, .tal, .gbk, .hlt, .dp, .tmg, .base, .low, .mid] s0 t := by
  unfold execClearSafe at h
  refine hostCmd_same (by decide) (fun _ h1 => ?_) h
  refine Same.comp (same_clearSafeOp _) (by decide) ?_
  exact h1

theorem touch_PpsInEdge (x0 : Nat) (s0 : State) {t : State} (h : execPpsInEdge x0 s0 = .next t) : Same [.regs, .clk, .glb, .hif, .tal, .gbk, .tim, .phs, .ldg, .fab, .por, .hlt, .prt, .dp, .tab, .tmg, .free, .mid] s0 t := by
  unfold execPpsInEdge at h
  refine timed_same (by decide) (fun _ h1 => ?_) h
  refine Same.comp (same_ppsInEdge _) (by decide) ?_
  exact h1

theorem touch_SwitchDomain (x0 : Bool) (s0 : State) {t : State} (h : execSwitchDomain x0 s0 = .next t) : Same [.regs, .glb, .hif, .tal, .gbk, .tim, .hlt, .mid] s0 t := by
  unfold execSwitchDomain at h
  refine hostCmd_same (by decide) (fun _ h1 => ?_) h
  refine Same.comp (same_switchOp _ _) (by decide) ?_
  exact h1

theorem touch_MonitorCrit (x0 : Nat) (x1 : Bool) (x2 : Nat) (x3 : Int) (s0 : State) {t : State} (h : execMonitorCrit x0 x1 x2 x3 s0 = .next t) : Same [.regs, .clk, .glb, .frg, .hif, .tal, .gbk, .tim, .phs, .ldg, .fab, .por, .hlt, .pin, .prt, .dp, .tab, .tmg, .free, .base, .act, .low, .mid] s0 t := by
  unfold execMonitorCrit at h
  refine timed_same (by decide) (fun _ h1 => ?_) h
  refine Same.comp (same_freeCells _) (by decide) ?_
  refine Same.comp (same_monitorCrit _ _ _ _) (by decide) ?_
  exact h1

theorem touch_DmaReadError (x0 : Nat) (x1 : DryChan) (s0 : State) {t : State} (h : execDmaReadError x0 x1 s0 = .next t) : Same [.regs, .clk, .glb, .hif, .tal, .gbk, .tim, .phs, .ldg, .fab, .por, .dry, .hlt, .prt, .dp, .tab, .tmg, .free, .mid] s0 t := by
  unfold execDmaReadError at h
  refine timed_same (by decide) (fun _ h1 => ?_) h
  split
  · refine Same.comp (same_fetchDesc _ _ _) (by decide) ?_
    exact h1
  · refine Same.comp (same_txReadError _ _) (by decide) ?_
    exact h1
  · refine Same.comp (same_errReadError _ _) (by decide) ?_
    exact h1

theorem touch_GbkRdSeqWrite (x0 : Word) (s0 : State) {t : State} (h : execGbkRdSeqWrite x0 s0 = .next t) : Same [.regs, .glb, .hif, .tal, .gbk, .hlt, .mid] s0 t := by
  unfold execGbkRdSeqWrite at h
  refine hostCmd_same (by decide) (fun _ h1 => ?_) h
  refine Same.comp (same_captureRecord _ _) (by decide) ?_
  exact h1

theorem touch_GpioEdge (x0 : Nat) (x1 : Nat) (s0 : State) {t : State} (h : execGpioEdge x0 x1 s0 = .next t) : Same [.regs, .clk, .glb, .hif, .tal, .gbk, .tim, .phs, .ldg, .fab, .por, .hlt, .prt, .dp, .tab, .tmg, .free, .mid] s0 t := by
  unfold execGpioEdge at h
  refine timed_same (by decide) (fun _ h1 => ?_) h
  refine Same.comp (same_gpioEdge _ _) (by decide) ?_
  exact h1

theorem touch_StepDown (s0 : State) {t : State} (h : execStepDown s0 = .next t) : Same [.regs, .glb, .hif, .tal, .gbk, .fab, .hlt, .mid] s0 t := by
  unfold execStepDown at h
  refine hostCmd_same (by decide) (fun _ h1 => ?_) h
  refine Same.comp (same_stepDownOp _) (by decide) ?_
  exact h1

theorem touch_SetCycle (s0 : State) {t : State} (h : execSetCycle s0 = .next t) : Same [.regs, .glb, .hif, .tal, .gbk, .phs, .hlt, .mid] s0 t := by
  unfold execSetCycle at h
  refine hostCmd_same (by decide) (fun _ h1 => ?_) h
  refine Same.comp (same_setCycleOp _) (by decide) ?_
  exact h1

theorem touch_HostLinkLoss (x0 : HostLoss) (s0 : State) {t : State} (h : execHostLinkLoss x0 s0 = .next t) : Same [.regs, .mem, .glb, .frg, .hif, .tal, .gbk, .tim, .ldg, .fab, .por, .dry, .hlt, .dp, .tab, .base, .act, .low, .mid] s0 t := by
  unfold execHostLinkLoss at h
  refine command_same (by decide) (fun _ h1 => ?_) h
  refine Same.comp (same_hostLoss _ _) (by decide) ?_
  exact h1

theorem touch_FrgLoadPortWrite (x0 : Word) (s0 : State) {t : State} (h : execFrgLoadPortWrite x0 s0 = .next t) : Same [.regs, .glb, .frg, .hif, .tal, .gbk, .phs, .ldg, .fab, .hlt, .pin, .prt, .dp, .tab, .fry, .tmg, .free, .base, .act, .low, .mid] s0 t := by
  unfold execFrgLoadPortWrite at h
  refine hostCmd_same (by decide) (fun _ h1 => ?_) h
  refine Same.comp (same_freeCells _) (by decide) ?_
  refine Same.comp (same_loadPortOp _ _ _) (by decide) ?_
  exact h1

theorem touch_OstlerRestart (s0 : State) {t : State} (h : execOstlerRestart s0 = .next t) : Same [.regs, .glb, .frg, .hif, .tal, .gbk, .phs, .ldg, .fab, .hlt, .pin, .prt, .dp, .tab, .fry, .tmg, .free, .base, .act, .low, .mid] s0 t := by
  unfold execOstlerRestart at h
  refine hostCmd_same (by decide) (fun _ h1 => ?_) h
  refine Same.comp (same_ostlerRestart _) (by decide) ?_
  exact h1

theorem touch_ChannelDisable (x0 : DataChan) (s0 : State) {t : State} (h : execChannelDisable x0 s0 = .next t) : Same [.regs, .glb, .hif, .tal, .gbk, .dry, .hlt, .dp, .tmg, .mid] s0 t := by
  unfold execChannelDisable at h
  refine hostCmd_same (by decide) (fun _ h1 => ?_) h
  refine Same.comp (same_disableChan _ _) (by decide) ?_
  exact h1

theorem touch_FullLoad (s0 : State) {t : State} (h : execFullLoad s0 = .next t) : Same [.regs, .glb, .frg, .hif, .tal, .gbk, .hlt, .low, .mid] s0 t := by
  unfold execFullLoad at h
  refine hostCmd_same (by decide) (fun _ h1 => ?_) h
  refine Same.comp (same_fullLoadOp _) (by decide) ?_
  exact h1

theorem touch_AutonegResolved (x0 : Nat) (x1 : Nat) (x2 : Nat) (s0 : State) {t : State} (h : execAutonegResolved x0 x1 x2 s0 = .next t) : Same [.regs, .clk, .glb, .hif, .tal, .gbk, .tim, .phs, .ldg, .fab, .por, .hlt, .pin, .prt, .dp, .tab, .tmg, .free, .mid] s0 t := by
  unfold execAutonegResolved at h
  refine timed_same (by decide) (fun _ h1 => ?_) h
  refine Same.comp (same_freeCells _) (by decide) ?_
  refine Same.comp (same_anResolved _ _ _) (by decide) ?_
  exact h1

theorem touch_TmplRead (x0 : Nat) (s0 : State) {t : State} (h : execTmplRead x0 s0 = .next t) : Same [.regs, .glb, .hif, .tal, .gbk, .hlt, .fry, .mid] s0 t := by
  unfold execTmplRead at h
  refine hostCmd_same (by decide) (fun _ h1 => ?_) h
  refine Same.comp (same_tmplIssue _ _ _) (by decide) ?_
  exact h1

theorem touch_I2cDataRead (x0 : Nat) (s0 : State) {t : State} (h : execI2cDataRead x0 s0 = .next t) : Same [.regs, .glb, .hif, .tal, .gbk, .hlt, .pin] s0 t := by
  unfold execI2cDataRead at h
  refine hostRead_same (by decide) (fun _ h1 => ?_) h
  split
  rename_i a2 s3 e5
  have h4 : Same [.regs, .glb, .hif, .tal, .gbk, .hlt, .pin] s0 s3 := by
    refine Same.of2 e5 ?_
    refine Same.comp (same_i2cPop _ _) (by decide) ?_
    exact h1
  extract_lets +onlyGivenNames -merge -underBinder v6
  clear_value v6
  refine Same.set_hif (by decide) ?_
  exact h4

theorem touch_QuadrantTrainingStart (x0 : Nat) (x1 : Nat) (s0 : State) {t : State} (h : execQuadrantTrainingStart x0 x1 s0 = .next t) : Same [.regs, .clk, .glb, .hif, .tal, .gbk, .tim, .phs, .ldg, .fab, .por, .hlt, .pin, .prt, .dp, .tab, .tmg, .free, .mid] s0 t := by
  unfold execQuadrantTrainingStart at h
  refine timed_same (by decide) (fun _ h1 => ?_) h
  refine Same.ite ?_ ?_
  · refine Same.comp (same_freeCells _) (by decide) ?_
    refine Same.comp (same_startQuadrant _ _) (by decide) ?_
    exact h1
  · exact h1

theorem touch_Spare (x0 : Nat) (s0 : State) {t : State} (h : execSpare x0 s0 = .next t) : Same [.regs, .glb, .hif, .tal, .gbk, .hlt, .mid] s0 t := by
  unfold execSpare at h
  refine hostCmd_same (by decide) (fun _ h1 => ?_) h
  refine Same.comp (same_spareBank _ _) (by decide) ?_
  exact h1

theorem touch_D3hotEntry (s0 : State) {t : State} (h : execD3hotEntry s0 = .next t) : Same [.regs, .glb, .hif, .tal, .gbk, .hlt] s0 t := by
  unfold execD3hotEntry at h
  refine command_same (by decide) (fun _ h1 => ?_) h
  extract_lets +onlyGivenNames -merge -underBinder v2
  clear_value v2
  refine Same.set_hif (by decide) ?_
  exact h1

theorem touch_EndWaking (s0 : State) {t : State} (h : execEndWaking s0 = .next t) : Same [.regs, .glb, .hif, .tal, .gbk, .hlt, .dp, .tmg, .base, .low, .mid] s0 t := by
  unfold execEndWaking at h
  refine hostCmd_same (by decide) (fun _ h1 => ?_) h
  refine Same.comp (same_endWakingOp _) (by decide) ?_
  exact h1

theorem touch_PoolDisable (x0 : Nat) (s0 : State) {t : State} (h : execPoolDisable x0 s0 = .next t) : Same [.regs, .mem, .glb, .hif, .tal, .gbk, .por, .hlt, .mid] s0 t := by
  unfold execPoolDisable at h
  refine hostCmd_same (by decide) (fun _ h1 => ?_) h
  refine Same.comp (same_disablePool _ _) (by decide) ?_
  exact h1

theorem touch_GlbWakeMsWrite (x0 : Word) (s0 : State) {t : State} (h : execGlbWakeMsWrite x0 s0 = .next t) : Same [.regs, .glb, .hif, .tal, .gbk, .hlt, .low, .mid] s0 t := by
  unfold execGlbWakeMsWrite at h
  refine hostCmd_same (by decide) (fun _ h1 => ?_) h
  refine Same.comp (same_writeRw_lo _ _ _ (by decide)) (by decide) ?_
  refine Same.comp (same_keepInForce _ _) (by decide) ?_
  exact h1

theorem touch_ErrandStart (x0 : Nat) (s0 : State) {t : State} (h : execErrandStart x0 s0 = .next t) : Same [.regs, .glb, .hif, .tal, .gbk, .dry, .hlt, .mid] s0 t := by
  unfold execErrandStart at h
  refine hostCmd_same (by decide) (fun _ h1 => ?_) h
  refine Same.comp (same_errStart _ _) (by decide) ?_
  exact h1

theorem touch_SupplyRecovered (x0 : Nat) (x1 : Bool) (s0 : State) {t : State} (h : execSupplyRecovered x0 x1 s0 = .next t) : Same [.regs, .clk, .glb, .hif, .tal, .gbk, .tim, .phs, .ldg, .fab, .por, .hlt, .prt, .dp, .tab, .tmg, .free, .rst, .low, .mid] s0 t := by
  unfold execSupplyRecovered at h
  refine pinCommand_same (by decide) (fun _ h1 => ?_) h
  extract_lets +onlyGivenNames -merge -underBinder s2 v4
  have h3 : Same [.regs, .clk, .glb, .hif, .tal, .gbk, .tim, .phs, .ldg, .fab, .por, .hlt, .prt, .dp, .tab, .tmg, .free, .rst, .low, .mid] s0 s2 := by
    unfold s2
    refine Same.comp (same_passFree _ _) (by decide) ?_
    exact h1
  clear_value s2
  refine Same.ite ?_ ?_
  · refine Same.comp (same_startUp _) (by decide) ?_
    refine Same.comp (same_forBits_lo _ _ _ (by decide)) (by decide) ?_
    refine Same.set_glb (by decide) (Or.inr rfl) (Or.inl (by decide)) ?_
    exact h3
  · exact h3

theorem touch_HarvestStart (x0 : Bool) (s0 : State) {t : State} (h : execHarvestStart x0 s0 = .next t) : Same [.regs, .glb, .hif, .tal, .gbk, .hlt, .mid] s0 t := by
  unfold execHarvestStart at h
  refine hostCmd_same (by decide) (fun _ h1 => ?_) h
  refine Same.comp (same_harvestStart _ _) (by decide) ?_
  exact h1

theorem touch_Rollback (s0 : State) {t : State} (h : execRollback s0 = .next t) : Same [.regs, .glb, .frg, .hif, .tal, .gbk, .ldg, .hlt, .low, .mid] s0 t := by
  unfold execRollback at h
  refine hostCmd_same (by decide) (fun _ h1 => ?_) h
  refine Same.comp (same_armOp _ _ _) (by decide) ?_
  exact h1

theorem touch_UtcOffsetSet (x0 : Word) (s0 : State) {t : State} (h : execUtcOffsetSet x0 s0 = .next t) : Same [.regs, .glb, .hif, .tal, .gbk, .hlt, .mid] s0 t := by
  unfold execUtcOffsetSet at h
  refine hostCmd_same (by decide) (fun _ h1 => ?_) h
  refine Same.comp (same_writeUtcOffset _ _) (by decide) ?_
  exact h1

theorem touch_StreamGateLineStart (x0 : Nat) (x1 : Nat) (s0 : State) {t : State} (h : execStreamGateLineStart x0 x1 s0 = .next t) : Same [.regs, .clk, .glb, .hif, .tal, .gbk, .tim, .phs, .ldg, .fab, .por, .hlt, .prt, .dp, .tab, .tmg, .free, .mid] s0 t := by
  unfold execStreamGateLineStart at h
  refine timed_same (by decide) (fun _ h1 => ?_) h
  refine Same.comp (same_gateLineStart _ _ _) (by decide) ?_
  refine Same.comp (same_gateLineStart _ _ _) (by decide) ?_
  exact h1

theorem touch_TblDelete (x0 : Nat) (x1 : Nat) (x2 : Nat) (x3 : Bool) (s0 : State) {t : State} (h : execTblDelete x0 x1 x2 x3 s0 = .next t) : Same [.regs, .glb, .hif, .tal, .gbk, .hlt, .tab, .free, .mid] s0 t := by
  unfold execTblDelete at h
  refine hostCmd_same (by decide) (fun _ h1 => ?_) h
  refine Same.comp (same_tblIssue _ _ _ _ _ _) (by decide) ?_
  exact h1

theorem touch_Bar2Write (x0 : Nat) (s0 : State) {t : State} (h : execBar2Write x0 s0 = .next t) : Same [.regs, .glb, .hif, .tal, .gbk, .hlt, .mid] s0 t := by
  unfold execBar2Write at h
  refine hostCmd_same (by decide) (fun _ h1 => ?_) h
  refine Same.comp (same_accErr _ _ _ _) (by decide) ?_
  exact h1

theorem touch_AvsStatus (x0 : Nat) (x1 : Nat) (s0 : State) {t : State} (h : execAvsStatus x0 x1 s0 = .next t) : Same [.regs, .glb, .hif, .tal, .gbk, .hlt, .mid] s0 t := by
  unfold execAvsStatus at h
  refine hostCmd_same (by decide) (fun _ h1 => ?_) h
  refine Same.comp (same_mbxDoorbell _ _ _ _) (by decide) ?_
  exact h1

theorem touch_TimedActionArm (x0 : Nat) (x1 : Word) (s0 : State) {t : State} (h : execTimedActionArm x0 x1 s0 = .next t) : Same [.regs, .glb, .hif, .tal, .gbk, .phs, .hlt, .mid] s0 t := by
  unfold execTimedActionArm at h
  refine hostCmd_same (by decide) (fun _ h1 => ?_) h
  refine Same.ite ?_ ?_
  · refine Same.comp (same_lockedWrite _ _) (by decide) ?_
    exact h1
  · refine Same.comp (same_writeTaCtl _ _ _) (by decide) ?_
    exact h1

theorem touch_FunctionLevelReset (s0 : State) {t : State} (h : execFunctionLevelReset s0 = .next t) : Same [.regs, .mem, .glb, .frg, .hif, .tal, .gbk, .tim, .ldg, .fab, .por, .dry, .hlt, .dp, .tab, .base, .act, .low, .mid] s0 t := by
  unfold execFunctionLevelReset at h
  refine command_same (by decide) (fun _ h1 => ?_) h
  refine Same.comp (same_functionReset _) (by decide) ?_
  exact h1

theorem touch_MonitorPoll (x0 : Nat) (x1 : Readings) (s0 : State) {t : State} (h : execMonitorPoll x0 x1 s0 = .next t) : Same [.regs, .clk, .glb, .frg, .hif, .tal, .gbk, .tim, .phs, .ldg, .fab, .por, .hlt, .pin, .prt, .dp, .tab, .tmg, .free, .base, .act, .low, .mid] s0 t := by
  unfold execMonitorPoll at h
  refine timed_same (by decide) (fun _ h1 => ?_) h
  refine Same.comp (same_freeCells _) (by decide) ?_
  refine Same.comp (same_monitorPoll _ _) (by decide) ?_
  exact h1

theorem touch_HthExcCapRead (x0 : Nat) (s0 : State) {t : State} (h : execHthExcCapRead x0 s0 = .next t) : Same [.regs, .glb, .hif, .tal, .gbk, .hlt] s0 t := by
  unfold execHthExcCapRead at h
  refine hostRead_same (by decide) (fun _ h1 => ?_) h
  refine Same.comp (same_excCapRead _ _) (by decide) ?_
  exact h1

theorem touch_Snapshot (x0 : Word) (s0 : State) {t : State} (h : execSnapshot x0 s0 = .next t) : Same [.regs, .glb, .hif, .tal, .gbk, .hlt, .mid] s0 t := by
  unfold execSnapshot at h
  refine hostCmd_same (by decide) (fun _ h1 => ?_) h
  refine Same.comp (same_takeSnapshot _ _ _) (by decide) ?_
  exact h1

theorem touch_RefclkLost (x0 : Nat) (x1 : Nat) (s0 : State) {t : State} (h : execRefclkLost x0 x1 s0 = .next t) : Same [.regs, .mem, .clk, .glb, .frg, .hif, .tal, .gbk, .tim, .phs, .ldg, .fab, .por, .dry, .hlt, .pin, .prt, .dp, .tab, .tmg, .free, .base, .act, .low, .mid] s0 t := by
  unfold execRefclkLost at h
  refine timed_same (by decide) (fun _ h1 => ?_) h
  refine Same.comp (same_freeCells _) (by decide) ?_
  refine Same.comp (same_refclkLost _ _) (by decide) ?_
  exact h1

theorem touch_TalClear (x0 : Word) (s0 : State) {t : State} (h : execTalClear x0 s0 = .next t) : Same [.regs, .glb, .hif, .tal, .gbk, .hlt, .mid] s0 t := by
  unfold execTalClear at h
  refine hostCmd_same (by decide) (fun _ h1 => ?_) h
  refine Same.comp (same_clearGroups _ _) (by decide) ?_
  exact h1

theorem touch_KeySwitchInstant (x0 : Nat) (s0 : State) {t : State} (h : execKeySwitchInstant x0 s0 = .next t) : Same [.regs, .clk, .glb, .hif, .tal, .gbk, .tim, .phs, .ldg, .fab, .por, .hlt, .prt, .dp, .tab, .tmg, .free, .mid] s0 t := by
  unfold execKeySwitchInstant at h
  refine timed_same (by decide) (fun _ h1 => ?_) h
  refine Same.comp (same_keySwitchDue _) (by decide) ?_
  exact h1

theorem touch_BankSpared (x0 : Nat) (x1 : Nat) (s0 : State) {t : State} (h : execBankSpared x0 x1 s0 = .next t) : Same [.regs, .clk, .glb, .hif, .tal, .gbk, .tim, .phs, .ldg, .fab, .por, .hlt, .prt, .dp, .tab, .tmg, .free, .mid] s0 t := by
  unfold execBankSpared at h
  refine timed_same (by decide) (fun _ h1 => ?_) h
  refine Same.comp (same_bankSpared _ _) (by decide) ?_
  exact h1

theorem touch_MacControlFrame (x0 : Nat) (x1 : Nat) (s0 : State) {t : State} (h : execMacControlFrame x0 x1 s0 = .next t) : Same [.regs, .clk, .glb, .hif, .tal, .gbk, .tim, .phs, .ldg, .fab, .por, .hlt, .prt, .dp, .tab, .tmg, .free, .mid] s0 t := by
  unfold execMacControlFrame at h
  refine timed_same (by decide) (fun _ h1 => ?_) h
  split
  · extract_lets +onlyGivenNames -merge -underBinder v2
    clear_value v2
    refine Same.ite ?_ ?_
    · exact h1
    · refine Same.comp (same_macControl _ _ _) (by decide) ?_
      refine Same.comp (same_putPort _ _ _) (by decide) ?_
      exact h1
  · exact h1

theorem touch_PhaseWrap (x0 : Nat) (s0 : State) {t : State} (h : execPhaseWrap x0 s0 = .next t) : Same [.regs, .clk, .glb, .hif, .tal, .gbk, .tim, .phs, .ldg, .fab, .por, .hlt, .prt, .dp, .tab, .tmg, .free, .mid] s0 t := by
  unfold execPhaseWrap at h
  refine timed_same (by decide) (fun _ h1 => ?_) h
  refine same_withValid_h (by decide) (fun _ h2 => ?_) ?_
  · refine Same.comp (same_phaseWrap _) (by decide) ?_
    exact h2
  exact h1

theorem touch_MainsLossTimeout (x0 : Nat) (x1 : Nat) (s0 : State) {t : State} (h : execMainsLossTimeout x0 x1 s0 = .next t) : Same [.regs, .clk, .glb, .hif, .tal, .gbk, .tim, .phs, .ldg, .fab, .por, .hlt, .prt, .dp, .tab, .tmg, .free, .mid] s0 t := by
  unfold execMainsLossTimeout at h
  refine timed_same (by decide) (fun _ h1 => ?_) h
  refine same_withValid_h (by decide) (fun _ h2 => ?_) ?_
  · refine Same.comp (same_mainsLoss _ _) (by decide) ?_
    exact h2
  exact h1

theorem touch_ChannelStopped (x0 : Nat) (x1 : DryChan) (s0 : State) {t : State} (h : execChannelStopped x0 x1 s0 = .next t) : Same [.regs, .clk, .glb, .hif, .tal, .gbk, .tim, .phs, .ldg, .fab, .por, .dry, .hlt, .prt, .dp, .tab, .tmg, .free, .mid] s0 t := by
  unfold execChannelStopped at h
  refine timed_same (by decide) (fun _ h1 => ?_) h
  refine Same.comp (same_chanStopped _ _) (by decide) ?_
  exact h1

theorem touch_BootFlashSelect (x0 : Nat) (s0 : State) {t : State} (h : execBootFlashSelect x0 s0 = .next t) : Same [.regs, .clk, .glb, .frg, .hif, .tal, .gbk, .tim, .phs, .ldg, .fab, .por, .hlt, .pin, .prt, .dp, .tab, .fry, .tmg, .free, .base, .rst, .act, .low, .mid] s0 t := by
  unfold execBootFlashSelect at h
  refine timed_same (by decide) (fun _ h1 => ?_) h
  extract_lets +onlyGivenNames -merge -underBinder v2 s3
  have h4 : Same [.regs, .clk, .glb, .frg, .hif, .tal, .gbk, .tim, .phs, .ldg, .fab, .por, .hlt, .pin, .prt, .dp, .tab, .fry, .tmg, .free, .base, .rst, .act, .low, .mid] s0 s3 := by
    unfold s3
    refine Same.set_glb (by decide) (Or.inr rfl) (Or.inl (by decide)) ?_
    exact h1
  clear_value s3
  refine Same.ite ?_ ?_
  · exact h1
  · refine Same.ite ?_ ?_
    · refine Same.comp (same_freeCells _) (by decide) ?_
      refine Same.comp (same_bootSelect _) (by decide) ?_
      exact h4
    · exact h4

theorem touch_VerificationComplete (x0 : Nat) (s0 : State) {t : State} (h : execVerificationComplete x0 s0 = .next t) : Same [.regs, .clk, .glb, .frg, .hif, .tal, .gbk, .tim, .phs, .ldg, .fab, .por, .hlt, .pin, .prt, .dp, .tab, .fry, .tmg, .free, .base, .act, .low, .mid] s0 t := by
  unfold execVerificationComplete at h
  refine timed_same (by decide) (fun _ h1 => ?_) h
  refine Same.comp (same_freeCells _) (by decide) ?_
  refine Same.comp (same_verifyEnd _) (by decide) ?_
  exact h1

theorem touch_HbLossTimeout (x0 : Nat) (s0 : State) {t : State} (h : execHbLossTimeout x0 s0 = .next t) : Same [.regs, .clk, .glb, .hif, .tal, .gbk, .tim, .phs, .ldg, .fab, .por, .hlt, .prt, .dp, .tab, .tmg, .free, .mid] s0 t := by
  unfold execHbLossTimeout at h
  refine timed_same (by decide) (fun _ h1 => ?_) h
  refine Same.comp (same_hbLoss _) (by decide) ?_
  exact h1

theorem touch_ErrandWait (x0 : Nat) (x1 : Nat) (s0 : State) {t : State} (h : execErrandWait x0 x1 s0 = .next t) : Same [.regs, .clk, .glb, .hif, .tal, .gbk, .tim, .phs, .ldg, .fab, .por, .dry, .hlt, .pin, .prt, .dp, .tab, .tmg, .free, .low, .mid] s0 t := by
  unfold execErrandWait at h
  refine timed_same (by decide) (fun _ h1 => ?_) h
  refine same_errStep_h (by decide) (fun _ _ h2 => ?_) ?_
  · refine Same.comp (same_waitOp _ _ _) (by decide) ?_
    exact h2
  exact h1

theorem touch_LinkTrainingComplete (x0 : Nat) (x1 : Training) (s0 : State) {t : State} (h : execLinkTrainingComplete x0 x1 s0 = .next t) : Same [.regs, .clk, .glb, .hif, .tal, .gbk, .tim, .phs, .ldg, .fab, .por, .hlt, .pin, .prt, .dp, .tab, .tmg, .free, .mid] s0 t := by
  unfold execLinkTrainingComplete at h
  refine timed_same (by decide) (fun _ h1 => ?_) h
  refine Same.comp (same_freeCells _) (by decide) ?_
  refine Same.comp (same_trainingDone _ _ _) (by decide) ?_
  exact h1

theorem touch_DescriptorFetch (x0 : Nat) (x1 : DataChan) (x2 : Bool) (s0 : State) {t : State} (h : execDescriptorFetch x0 x1 x2 s0 = .next t) : Same [.regs, .clk, .glb, .hif, .tal, .gbk, .tim, .phs, .ldg, .fab, .por, .dry, .hlt, .prt, .dp, .tab, .tmg, .free, .mid] s0 t := by
  unfold execDescriptorFetch at h
  refine timed_same (by decide) (fun _ h1 => ?_) h
  refine Same.comp (same_fetchDesc _ _ _) (by decide) ?_
  exact h1

theorem touch_TblAge (x0 : Nat) (x1 : Nat) (x2 : Nat) (x3 : Bool) (s0 : State) {t : State} (h : execTblAge x0 x1 x2 x3 s0 = .next t) : Same [.regs, .glb, .hif, .tal, .gbk, .hlt, .tab, .free, .mid] s0 t := by
  unfold execTblAge at h
  refine hostCmd_same (by decide) (fun _ h1 => ?_) h
  refine Same.comp (same_tblIssue _ _ _ _ _ _) (by decide) ?_
  exact h1

theorem touch_FrgAbort (s0 : State) {t : State} (h : execFrgAbort s0 = .next t) : Same [.regs, .glb, .frg, .hif, .tal, .gbk, .ldg, .fab, .hlt, .dp, .tab, .base, .act, .low, .mid] s0 t := by
  unfold execFrgAbort at h
  refine hostCmd_same (by decide) (fun _ h1 => ?_) h
  refine Same.comp (same_freeCells _) (by decide) ?_
  refine Same.comp (same_abortOp _) (by decide) ?_
  exact h1

theorem touch_UnalignedRead (x0 : Nat) (x1 : Nat) (s0 : State) {t : State} (h : execUnalignedRead x0 x1 s0 = .next t) : Same [.regs, .glb, .hif, .tal, .gbk, .hlt, .mid] s0 t := by
  unfold execUnalignedRead at h
  refine hostRead_same (by decide) (fun _ h1 => ?_) h
  refine Same.comp (same_answer _ _) (by decide) ?_
  refine Same.comp (same_accErr _ _ _ _) (by decide) ?_
  exact h1

theorem touch_HearthReset (x0 : Nat) (s0 : State) {t : State} (h : execHearthReset x0 s0 = .next t) : Same [.regs, .glb, .hif, .tal, .gbk, .hlt, .dp, .tmg, .rst, .low, .mid] s0 t := by
  unfold execHearthReset at h
  refine hostCmd_same (by decide) (fun _ h1 => ?_) h
  refine Same.comp (same_hearthResets _ _) (by decide) ?_
  exact h1

theorem touch_RxRoomAllocation (x0 : Nat) (x1 : Nat) (s0 : State) {t : State} (h : execRxRoomAllocation x0 x1 s0 = .next t) : Same [.regs, .mem, .clk, .glb, .hif, .tal, .gbk, .tim, .phs, .ldg, .fab, .por, .dry, .hlt, .prt, .dp, .tab, .tmg, .free, .mid] s0 t := by
  unfold execRxRoomAllocation at h
  refine timed_same (by decide) (fun _ h1 => ?_) h
  refine Same.comp (same_roomAllocation _ _) (by decide) ?_
  exact h1

theorem touch_FlushOld (s0 : State) {t : State} (h : execFlushOld s0 = .next t) : Same [.regs, .glb, .frg, .hif, .tal, .gbk, .fab, .por, .dry, .hlt, .dp, .tmg, .act, .low, .mid] s0 t := by
  unfold execFlushOld at h
  refine hostCmd_same (by decide) (fun _ h1 => ?_) h
  refine Same.comp (same_flushOldOp _) (by decide) ?_
  exact h1

theorem touch_SupplyBrownout (x0 : Nat) (s0 : State) {t : State} (h : execSupplyBrownout x0 s0 = .next t) : Same [.regs, .clk, .glb, .frg, .hif, .tal, .gbk, .tim, .phs, .ldg, .fab, .por, .dry, .hlt, .pin, .prt, .dp, .tab, .fry, .tmg, .free, .base, .rst, .act, .low, .mid] s0 t := by
  unfold execSupplyBrownout at h
  refine pinCommand_same (by decide) (fun _ h1 => ?_) h
  extract_lets +onlyGivenNames -merge -underBinder s2 v4
  have h3 : Same [.regs, .clk, .glb, .frg, .hif, .tal, .gbk, .tim, .phs, .ldg, .fab, .por, .dry, .hlt, .pin, .prt, .dp, .tab, .fry, .tmg, .free, .base, .rst, .act, .low, .mid] s0 s2 := by
    unfold s2
    refine Same.comp (same_coldReset _) (by decide) ?_
    refine Same.comp (same_passFree _ _) (by decide) ?_
    exact h1
  clear_value s2
  refine Same.set_glb (by decide) (Or.inr rfl) (Or.inl (by decide)) ?_
  exact h3

theorem touch_JtagExtestTrain (s0 : State) {t : State} (h : execJtagExtestTrain s0 = .next t) : Same [.regs, .mem, .glb, .frg, .hif, .tal, .gbk, .tim, .ldg, .fab, .por, .dry, .hlt, .pin, .prt, .dp, .tab, .tmg, .free, .base, .act, .low, .mid] s0 t := by
  unfold execJtagExtestTrain at h
  refine pinCommand_same (by decide) (fun _ h1 => ?_) h
  refine Same.comp (same_jtagOp _ _ _ _) (by decide) ?_
  exact h1

theorem touch_EnterDiag (s0 : State) {t : State} (h : execEnterDiag s0 = .next t) : Same [.regs, .glb, .hif, .tal, .gbk, .fab, .hlt, .pin, .prt, .dp, .tmg, .free, .base, .low, .mid] s0 t := by
  unfold execEnterDiag at h
  refine hostCmd_same (by decide) (fun _ h1 => ?_) h
  refine Same.comp (same_enterDiagOp _) (by decide) ?_
  exact h1

theorem touch_JoinQueueDelivery (x0 : Nat) (s0 : State) {t : State} (h : execJoinQueueDelivery x0 s0 = .next t) : Same [.regs, .clk, .glb, .hif, .tal, .gbk, .tim, .phs, .ldg, .fab, .por, .hlt, .prt, .dp, .tab, .tmg, .free, .mid] s0 t := by
  unfold execJoinQueueDelivery at h
  refine timed_same (by decide) (fun _ h1 => ?_) h
  split
  · extract_lets +onlyGivenNames -merge -underBinder v2
    clear_value v2
    refine Same.ite ?_ ?_
    · refine Same.comp (same_freeCells _) (by decide) ?_
      refine Same.comp (same_admitPlanned _ _) (by decide) ?_
      refine Same.set_fab (by decide) ?_
      exact h1
    · exact h1
  · exact h1

theorem touch_BankWithdrawn (x0 : Nat) (x1 : Nat) (s0 : State) {t : State} (h : execBankWithdrawn x0 x1 s0 = .next t) : Same [.regs, .clk, .glb, .hif, .tal, .gbk, .tim, .phs, .ldg, .fab, .por, .hlt, .prt, .dp, .tab, .tmg, .free, .mid] s0 t := by
  unfold execBankWithdrawn at h
  refine timed_same (by decide) (fun _ h1 => ?_) h
  refine Same.comp (same_bankWithdrawn _ _) (by decide) ?_
  exact h1

theorem touch_FragmentEntryExpiry (x0 : Nat) (x1 : Nat) (x2 : Nat) (x3 : Nat) (s0 : State) {t : State} (h : execFragmentEntryExpiry x0 x1 x2 x3 s0 = .next t) : Same [.regs, .clk, .glb, .hif, .tal, .gbk, .tim, .phs, .ldg, .fab, .por, .hlt, .prt, .dp, .tab, .tmg, .free, .mid] s0 t := by
  unfold execFragmentEntryExpiry at h
  refine timed_same (by decide) (fun _ h1 => ?_) h
  refine Same.comp (same_fragExpire _ _) (by decide) ?_
  exact h1

theorem touch_LogPlacement (x0 : Nat) (s0 : State) {t : State} (h : execLogPlacement x0 s0 = .next t) : Same [.regs, .clk, .glb, .hif, .tal, .gbk, .tim, .phs, .ldg, .fab, .por, .hlt, .prt, .dp, .tab, .tmg, .free, .mid] s0 t := by
  unfold execLogPlacement at h
  refine timed_same (by decide) (fun _ h1 => ?_) h
  refine Same.ite ?_ ?_
  · refine Same.comp (same_placeNext _) (by decide) ?_
    exact h1
  · exact h1

theorem touch_Disarm (s0 : State) {t : State} (h : execDisarm s0 = .next t) : Same [.regs, .glb, .frg, .hif, .tal, .gbk, .fab, .hlt, .low, .mid] s0 t := by
  unfold execDisarm at h
  refine hostCmd_same (by decide) (fun _ h1 => ?_) h
  refine Same.comp (same_disarmOp _) (by decide) ?_
  exact h1

theorem touch_TxDescriptorComplete (x0 : Nat) (x1 : Nat) (s0 : State) {t : State} (h : execTxDescriptorComplete x0 x1 s0 = .next t) : Same [.regs, .mem, .clk, .glb, .hif, .tal, .gbk, .tim, .phs, .ldg, .fab, .por, .dry, .hlt, .prt, .dp, .tab, .tmg, .free, .mid] s0 t := by
  unfold execTxDescriptorComplete at h
  refine timed_same (by decide) (fun _ h1 => ?_) h
  refine Same.comp (same_txComplete _ _) (by decide) ?_
  exact h1

theorem touch_ReturnQueueRecord (x0 : Nat) (s0 : State) {t : State} (h : execReturnQueueRecord x0 s0 = .next t) : Same [.regs, .clk, .glb, .hif, .tal, .gbk, .tim, .phs, .ldg, .fab, .por, .dry, .hlt, .prt, .dp, .tab, .tmg, .free, .mid] s0 t := by
  unfold execReturnQueueRecord at h
  refine timed_same (by decide) (fun _ h1 => ?_) h
  refine Same.comp (same_returnRecord _) (by decide) ?_
  exact h1

theorem touch_PoolEnable (x0 : Nat) (x1 : Bool) (s0 : State) {t : State} (h : execPoolEnable x0 x1 s0 = .next t) : Same [.regs, .glb, .hif, .tal, .gbk, .por, .hlt, .mid] s0 t := by
  unfold execPoolEnable at h
  refine hostCmd_same (by decide) (fun _ h1 => ?_) h
  refine Same.comp (same_enablePool _ _ _) (by decide) ?_
  exact h1

theorem touch_RxCopyHandover (x0 : Nat) (x1 : Nat) (s0 : State) {t : State} (h : execRxCopyHandover x0 x1 s0 = .next t) : Same [.regs, .clk, .glb, .hif, .tal, .gbk, .tim, .phs, .ldg, .fab, .por, .dry, .hlt, .prt, .dp, .tab, .tmg, .free, .mid] s0 t := by
  unfold execRxCopyHandover at h
  refine timed_same (by decide) (fun _ h1 => ?_) h
  refine Same.comp (same_copyHandover _ _) (by decide) ?_
  exact h1

theorem touch_FrameReceiveEnd (x0 : Nat) (x1 : Nat) (x2 : Bool) (s0 : State) {t : State} (h : execFrameReceiveEnd x0 x1 x2 s0 = .next t) : Same [.regs, .clk, .glb, .hif, .tal, .gbk, .tim, .phs, .ldg, .fab, .por, .hlt, .prt, .dp, .tab, .tmg, .free, .mid] s0 t := by
  unfold execFrameReceiveEnd at h
  refine timed_same (by decide) (fun _ h1 => ?_) h
  split
  · refine Same.comp (same_freeCells _) (by decide) ?_
    refine Same.comp (same_receiveEnd _ _ _ _) (by decide) ?_
    exact h1
  · exact h1

theorem touch_OstlerBeat (x0 : Nat) (s0 : State) {t : State} (h : execOstlerBeat x0 s0 = .next t) : Same [.regs, .clk, .glb, .hif, .tal, .gbk, .tim, .phs, .ldg, .fab, .por, .hlt, .prt, .dp, .tab, .tmg, .free, .mid] s0 t := by
  unfold execOstlerBeat at h
  refine timed_same (by decide) (fun _ h1 => ?_) h
  refine Same.comp (same_ostlerBeat _) (by decide) ?_
  exact h1

theorem touch_TimeInterval (x0 : Nat) (s0 : State) {t : State} (h : execTimeInterval x0 s0 = .next t) : Same [.regs, .clk, .glb, .hif, .tal, .gbk, .tim, .phs, .ldg, .fab, .por, .hlt, .prt, .dp, .tab, .tmg, .free, .mid] s0 t := by
  unfold execTimeInterval at h
  refine timed_same (by decide) (fun _ h1 => ?_) h
  refine Same.ite ?_ ?_
  · refine Same.comp (same_freeCells _) (by decide) ?_
    refine Same.comp (same_sendTime _) (by decide) ?_
    exact h1
  · exact h1

theorem touch_HelloAck (x0 : Nat) (s0 : State) {t : State} (h : execHelloAck x0 s0 = .next t) : Same [.regs, .clk, .glb, .hif, .tal, .gbk, .tim, .phs, .ldg, .fab, .por, .hlt, .prt, .dp, .tab, .tmg, .free, .mid] s0 t := by
  unfold execHelloAck at h
  refine timed_same (by decide) (fun _ h1 => ?_) h
  refine same_handleHead_h (by decide) (fun _ _ _ h2 => ?_) ?_
  · refine Same.comp (same_onHelloAck _ _ _) (by decide) ?_
    exact h2
  exact h1

theorem touch_C22Write (x0 : Nat) (x1 : Nat) (s0 : State) {t : State} (h : execC22Write x0 x1 s0 = .next t) : Same [.regs, .glb, .hif, .tal, .gbk, .hlt, .pin, .mid] s0 t := by
  unfold execC22Write at h
  refine hostCmd_same (by decide) (fun _ h1 => ?_) h
  refine Same.comp (same_mdioStart _ _ _ _ _) (by decide) ?_
  exact h1

theorem touch_Resume (s0 : State) {t : State} (h : execResume s0 = .next t) : Same [.regs, .glb, .frg, .hif, .tal, .gbk, .fab, .hlt, .pin, .prt, .dp, .tmg, .free, .base, .low, .mid] s0 t := by
  unfold execResume at h
  refine hostCmd_same (by decide) (fun _ h1 => ?_) h
  refine Same.comp (same_resumeOp _) (by decide) ?_
  exact h1

theorem touch_GlbVecEoiWrite (x0 : Word) (s0 : State) {t : State} (h : execGlbVecEoiWrite x0 s0 = .next t) : Same [.regs, .glb, .hif, .tal, .gbk, .hlt, .low, .mid] s0 t := by
  unfold execGlbVecEoiWrite at h
  refine hostCmd_same (by decide) (fun _ h1 => ?_) h
  refine Same.comp (same_vecEoi _ _) (by decide) ?_
  exact h1

theorem touch_TimedActionFire (x0 : Nat) (x1 : Nat) (s0 : State) {t : State} (h : execTimedActionFire x0 x1 s0 = .next t) : Same [.regs, .clk, .glb, .hif, .tal, .gbk, .tim, .phs, .ldg, .fab, .por, .hlt, .pin, .prt, .dp, .tab, .tmg, .free, .mid] s0 t := by
  unfold execTimedActionFire at h
  refine timed_same (by decide) (fun _ h1 => ?_) h
  refine Same.ite ?_ ?_
  · refine Same.comp (same_taFire _ _) (by decide) ?_
    exact h1
  · exact h1

theorem touch_VerifyTimerExpiry (x0 : Nat) (x1 : Nat) (s0 : State) {t : State} (h : execVerifyTimerExpiry x0 x1 s0 = .next t) : Same [.regs, .clk, .glb, .hif, .tal, .gbk, .tim, .phs, .ldg, .fab, .por, .hlt, .prt, .dp, .tab, .tmg, .free, .mid] s0 t := by
  unfold execVerifyTimerExpiry at h
  refine timed_same (by decide) (fun _ h1 => ?_) h
  refine Same.comp (same_verifyTimer _ _) (by decide) ?_
  exact h1

theorem touch_HearthResetComplete (x0 : Nat) (x1 : Nat) (s0 : State) {t : State} (h : execHearthResetComplete x0 x1 s0 = .next t) : Same [.regs, .clk, .glb, .hif, .tal, .gbk, .tim, .phs, .ldg, .fab, .por, .hlt, .prt, .dp, .tab, .tmg, .free, .rst, .mid] s0 t := by
  unfold execHearthResetComplete at h
  refine timed_same (by decide) (fun _ h1 => ?_) h
  extract_lets +onlyGivenNames -merge -underBinder v2
  refine Same.set_glb (by decide) (Or.inr rfl) (Or.inl (by decide)) ?_
  exact h1

theorem touch_RcRegisterRead (x0 : Nat) (x1 : Nat) (s0 : State) {t : State} (h : execRcRegisterRead x0 x1 s0 = .next t) : Same [.regs, .glb, .hif, .tal, .gbk, .tim, .hlt, .pin, .tab, .low, .mid] s0 t := by
  unfold execRcRegisterRead at h
  refine hostRead_same (by decide) (fun _ h1 => ?_) h
  split
  rename_i a2 s3 e5
  have h4 : Same [.regs, .glb, .hif, .tal, .gbk, .tim, .hlt, .pin, .tab, .low, .mid] s0 s3 := by
    refine Same.of2 e5 ?_
    refine Same.comp (same_dwordRead _ _ _) (by decide) ?_
    exact h1
  refine Same.comp (same_answer _ _) (by decide) ?_
  exact h4

theorem touch_SpillBatch (x0 : Nat) (s0 : State) {t : State} (h : execSpillBatch x0 s0 = .next t) : Same [.regs, .mem, .clk, .glb, .hif, .tal, .gbk, .tim, .phs, .ldg, .fab, .por, .dry, .hlt, .prt, .dp, .tab, .tmg, .free, .mid] s0 t := by
  unfold execSpillBatch at h
  refine timed_same (by decide) (fun _ h1 => ?_) h
  refine Same.comp (same_spillBatch _) (by decide) ?_
  exact h1

theorem touch_JtagExtest (s0 : State) {t : State} (h : execJtagExtest s0 = .next t) : Same [.regs, .mem, .glb, .frg, .hif, .tal, .gbk, .tim, .ldg, .fab, .por, .dry, .hlt, .pin, .prt, .dp, .tab, .tmg, .free, .base, .act, .low, .mid] s0 t := by
  unfold execJtagExtest at h
  refine pinCommand_same (by decide) (fun _ h1 => ?_) h
  refine Same.comp (same_jtagOp _ _ _ _) (by decide) ?_
  exact h1

theorem touch_DelayReq (x0 : Nat) (s0 : State) {t : State} (h : execDelayReq x0 s0 = .next t) : Same [.regs, .clk, .glb, .hif, .tal, .gbk, .tim, .phs, .ldg, .fab, .por, .hlt, .prt, .dp, .tab, .tmg, .free, .mid] s0 t := by
  unfold execDelayReq at h
  refine timed_same (by decide) (fun _ h1 => ?_) h
  refine same_handleHead_h (by decide) (fun _ _ _ h2 => ?_) ?_
  · refine Same.comp (same_onDelayReq _ _ _) (by decide) ?_
    exact h2
  exact h1

theorem touch_Vote (x0 : Nat) (x1 : Nat) (x2 : VoteFaults) (s0 : State) {t : State} (h : execVote x0 x1 x2 s0 = .next t) : Same [.regs, .clk, .glb, .hif, .tal, .gbk, .tim, .phs, .ldg, .fab, .por, .hlt, .prt, .dp, .tab, .fry, .tmg, .free, .mid] s0 t := by
  unfold execVote at h
  refine timed_same (by decide) (fun _ h1 => ?_) h
  refine Same.comp (same_voteFront _ _ _) (by decide) ?_
  refine Same.comp (same_tableWrites _) (by decide) ?_
  exact h1

theorem touch_ErrandLoop (x0 : Nat) (x1 : Nat) (s0 : State) {t : State} (h : execErrandLoop x0 x1 s0 = .next t) : Same [.regs, .clk, .glb, .hif, .tal, .gbk, .tim, .phs, .ldg, .fab, .por, .dry, .hlt, .prt, .dp, .tab, .tmg, .free, .mid] s0 t := by
  unfold execErrandLoop at h
  refine timed_same (by decide) (fun _ h1 => ?_) h
  refine same_errStep_h (by decide) (fun _ _ h2 => ?_) ?_
  · refine Same.comp (same_loopOp _ _ _) (by decide) ?_
    exact h2
  exact h1

theorem touch_Realign (s0 : State) {t : State} (h : execRealign s0 = .next t) : Same [.regs, .glb, .hif, .tal, .gbk, .phs, .hlt, .mid] s0 t := by
  unfold execRealign at h
  refine hostCmd_same (by decide) (fun _ h1 => ?_) h
  refine Same.comp (same_realignOp _) (by decide) ?_
  exact h1

theorem touch_MbxTimeout (x0 : Nat) (s0 : State) {t : State} (h : execMbxTimeout x0 s0 = .next t) : Same [.regs, .clk, .glb, .hif, .tal, .gbk, .tim, .phs, .ldg, .fab, .por, .hlt, .prt, .dp, .tab, .tmg, .free, .mid] s0 t := by
  unfold execMbxTimeout at h
  refine timed_same (by decide) (fun _ h1 => ?_) h
  refine Same.ite ?_ ?_
  · refine Same.comp (same_mbxTimeout _) (by decide) ?_
    exact h1
  · exact h1

theorem touch_QueueSelection (x0 : Nat) (x1 : Nat) (s0 : State) {t : State} (h : execQueueSelection x0 x1 s0 = .next t) : Same [.regs, .clk, .glb, .hif, .tal, .gbk, .tim, .phs, .ldg, .fab, .por, .hlt, .prt, .dp, .tab, .fry, .tmg, .free, .low, .mid] s0 t := by
  unfold execQueueSelection at h
  refine timed_same (by decide) (fun _ h1 => ?_) h
  refine Same.ite ?_ ?_
  · exact h1
  · refine Same.comp (same_freeCells _) (by decide) ?_
    refine Same.comp (same_selectNext _ _) (by decide) ?_
    refine Same.comp (same_tableWrites _) (by decide) ?_
    exact h1

theorem touch_Latch (s0 : State) {t : State} (h : execLatch s0 = .next t) : Same [.regs, .glb, .hif, .tal, .gbk, .hlt, .mid] s0 t := by
  unfold execLatch at h
  refine hostCmd_same (by decide) (fun _ h1 => ?_) h
  refine Same.comp (same_latchTimeOp _) (by decide) ?_
  exact h1

theorem touch_PorAlloc (x0 : Nat) (x1 : Nat) (s0 : State) {t : State} (h : execPorAlloc x0 x1 s0 = .next t) : Same [.regs, .glb, .hif, .tal, .gbk, .por, .hlt, .mid] s0 t := by
  unfold execPorAlloc at h
  refine hostCmd_same (by decide) (fun _ h1 => ?_) h
  refine Same.comp (same_porStart _ _ _ _) (by decide) ?_
  exact h1

theorem touch_DryStop (x0 : DryChan) (s0 : State) {t : State} (h : execDryStop x0 s0 = .next t) : Same [.regs, .glb, .hif, .tal, .gbk, .hlt, .mid] s0 t := by
  unfold execDryStop at h
  refine hostCmd_same (by decide) (fun _ h1 => ?_) h
  refine Same.comp (same_stopChan _ _) (by decide) ?_
  exact h1

theorem touch_AvsStep (x0 : Nat) (s0 : State) {t : State} (h : execAvsStep x0 s0 = .next t) : Same [.regs, .clk, .glb, .hif, .tal, .gbk, .tim, .phs, .ldg, .fab, .por, .hlt, .prt, .dp, .tab, .tmg, .free, .mid] s0 t := by
  unfold execAvsStep at h
  refine timed_same (by decide) (fun _ h1 => ?_) h
  refine Same.comp (same_avsStep _) (by decide) ?_
  exact h1

theorem touch_QspiDone (x0 : Nat) (x1 : List Byte) (s0 : State) {t : State} (h : execQspiDone x0 x1 s0 = .next t) : Same [.regs, .clk, .glb, .frg, .hif, .tal, .gbk, .tim, .phs, .ldg, .fab, .por, .hlt, .pin, .prt, .dp, .tab, .tmg, .free, .mid] s0 t := by
  unfold execQspiDone at h
  refine timed_same (by decide) (fun _ h1 => ?_) h
  refine Same.comp (same_qspiDone _ _) (by decide) ?_
  exact h1

theorem touch_GbkClear (s0 : State) {t : State} (h : execGbkClear s0 = .next t) : Same [.regs, .glb, .hif, .tal, .gbk, .hlt, .mid] s0 t := by
  unfold execGbkClear at h
  refine hostCmd_same (by decide) (fun _ h1 => ?_) h
  refine Same.comp (same_gbkClearOp _) (by decide) ?_
  exact h1

theorem touch_PorShare (x0 : Nat) (s0 : State) {t : State} (h : execPorShare x0 s0 = .next t) : Same [.regs, .glb, .hif, .tal, .gbk, .por, .hlt, .mid] s0 t := by
  unfold execPorShare at h
  refine hostCmd_same (by decide) (fun _ h1 => ?_) h
  refine Same.comp (same_porStart _ _ _ _) (by decide) ?_
  exact h1

theorem touch_C22Read (x0 : Nat) (x1 : Nat) (s0 : State) {t : State} (h : execC22Read x0 x1 s0 = .next t) : Same [.regs, .glb, .hif, .tal, .gbk, .hlt, .pin, .mid] s0 t := by
  unfold execC22Read at h
  refine hostCmd_same (by decide) (fun _ h1 => ?_) h
  refine Same.comp (same_mdioStart _ _ _ _ _) (by decide) ?_
  exact h1

theorem touch_TemperCommit (x0 : Nat) (s0 : State) {t : State} (h : execTemperCommit x0 s0 = .next t) : Same [.regs, .clk, .glb, .frg, .hif, .tal, .gbk, .tim, .phs, .ldg, .fab, .por, .hlt, .prt, .dp, .tab, .tmg, .free, .act, .low, .mid] s0 t := by
  unfold execTemperCommit at h
  refine timed_same (by decide) (fun _ h1 => ?_) h
  split
  · refine Same.comp (same_commitArmed _ _) (by decide) ?_
    exact h1
  · exact h1

theorem touch_RxCopyComplete (x0 : Nat) (x1 : Nat) (s0 : State) {t : State} (h : execRxCopyComplete x0 x1 s0 = .next t) : Same [.regs, .mem, .clk, .glb, .hif, .tal, .gbk, .tim, .phs, .ldg, .fab, .por, .dry, .hlt, .prt, .dp, .tab, .tmg, .free, .mid] s0 t := by
  unfold execRxCopyComplete at h
  refine timed_same (by decide) (fun _ h1 => ?_) h
  refine Same.comp (same_copyComplete _ _) (by decide) ?_
  exact h1

theorem touch_Ping (x0 : Nat) (x1 : Nat) (s0 : State) {t : State} (h : execPing x0 x1 s0 = .next t) : Same [.regs, .glb, .hif, .tal, .gbk, .hlt, .mid] s0 t := by
  unfold execPing at h
  refine hostCmd_same (by decide) (fun _ h1 => ?_) h
  refine Same.comp (same_mbxDoorbell _ _ _ _) (by decide) ?_
  exact h1

theorem touch_LedStream (x0 : Nat) (s0 : State) {t : State} (h : execLedStream x0 s0 = .next t) : Same [.regs, .clk, .glb, .hif, .tal, .gbk, .tim, .phs, .ldg, .fab, .por, .hlt, .pin, .prt, .dp, .tab, .tmg, .free, .mid] s0 t := by
  unfold execLedStream at h
  refine timed_same (by decide) (fun _ h1 => ?_) h
  refine Same.comp (same_ledStream _) (by decide) ?_
  exact h1

theorem touch_MdioDone (x0 : Nat) (x1 : Bool) (x2 : Nat) (s0 : State) {t : State} (h : execMdioDone x0 x1 x2 s0 = .next t) : Same [.regs, .clk, .glb, .hif, .tal, .gbk, .tim, .phs, .ldg, .fab, .por, .hlt, .pin, .prt, .dp, .tab, .tmg, .free, .mid] s0 t := by
  unfold execMdioDone at h
  refine timed_same (by decide) (fun _ h1 => ?_) h
  refine Same.comp (same_mdioDone _ _ _) (by decide) ?_
  exact h1

theorem touch_EndDiag (s0 : State) {t : State} (h : execEndDiag s0 = .next t) : Same [.regs, .glb, .frg, .hif, .tal, .gbk, .phs, .ldg, .fab, .hlt, .pin, .prt, .dp, .tmg, .free, .base, .act, .low, .mid] s0 t := by
  unfold execEndDiag at h
  refine hostCmd_same (by decide) (fun _ h1 => ?_) h
  refine Same.comp (same_endDiagOp _) (by decide) ?_
  exact h1

theorem touch_EnterSafe (s0 : State) {t : State} (h : execEnterSafe s0 = .next t) : Same [.regs, .glb, .frg, .hif, .tal, .gbk, .phs, .ldg, .fab, .hlt, .pin, .prt, .dp, .tmg, .free, .base, .act, .low, .mid] s0 t := by
  unfold execEnterSafe at h
  refine hostCmd_same (by decide) (fun _ h1 => ?_) h
  refine Same.comp (same_enterSafeOp _) (by decide) ?_
  exact h1

theorem touch_I2cDone (x0 : Nat) (x1 : Nat) (x2 : Nat) (x3 : List Byte) (s0 : State) {t : State} (h : execI2cDone x0 x1 x2 x3 s0 = .next t) : Same [.regs, .clk, .glb, .hif, .tal, .gbk, .tim, .phs, .ldg, .fab, .por, .hlt, .pin, .prt, .dp, .tab, .tmg, .free, .mid] s0 t := by
  unfold execI2cDone at h
  refine timed_same (by decide) (fun _ h1 => ?_) h
  refine Same.comp (same_i2cDone _ _ _ _) (by decide) ?_
  exact h1

theorem touch_MsgLossTimeout (x0 : Nat) (s0 : State) {t : State} (h : execMsgLossTimeout x0 s0 = .next t) : Same [.regs, .clk, .glb, .hif, .tal, .gbk, .tim, .phs, .ldg, .fab, .por, .hlt, .prt, .dp, .tab, .tmg, .free, .mid] s0 t := by
  unfold execMsgLossTimeout at h
  refine timed_same (by decide) (fun _ h1 => ?_) h
  refine same_withValid_h (by decide) (fun _ h2 => ?_) ?_
  · refine Same.comp (same_msgLoss _) (by decide) ?_
    exact h2
  exact h1

theorem touch_C45Read (x0 : Nat) (x1 : Nat) (x2 : Nat) (s0 : State) {t : State} (h : execC45Read x0 x1 x2 s0 = .next t) : Same [.regs, .glb, .hif, .tal, .gbk, .hlt, .pin, .mid] s0 t := by
  unfold execC45Read at h
  refine hostCmd_same (by decide) (fun _ h1 => ?_) h
  refine Same.comp (same_mdioStart _ _ _ _ _) (by decide) ?_
  exact h1

theorem touch_CacheSpill (x0 : Nat) (x1 : Nat) (s0 : State) {t : State} (h : execCacheSpill x0 x1 s0 = .next t) : Same [.regs, .mem, .clk, .glb, .hif, .tal, .gbk, .tim, .phs, .ldg, .fab, .por, .dry, .hlt, .prt, .dp, .tab, .tmg, .free, .mid] s0 t := by
  unfold execCacheSpill at h
  refine timed_same (by decide) (fun _ h1 => ?_) h
  refine Same.comp (same_spillCache _ _) (by decide) ?_
  exact h1

theorem touch_ScrubAccess (x0 : Nat) (x1 : EccWord) (x2 : Nat) (s0 : State) {t : State} (h : execScrubAccess x0 x1 x2 s0 = .next t) : Same [.regs, .clk, .glb, .hif, .tal, .gbk, .tim, .phs, .ldg, .fab, .por, .dry, .hlt, .prt, .dp, .tab, .tmg, .free, .mid] s0 t := by
  unfold execScrubAccess at h
  refine timed_same (by decide) (fun _ h1 => ?_) h
  refine Same.comp (same_scrubWord _ _ _) (by decide) ?_
  exact h1

theorem touch_WarmReset (s0 : State) {t : State} (h : execWarmReset s0 = .next t) : Same [.regs, .mem, .clk, .glb, .frg, .hif, .tal, .gbk, .tim, .phs, .ldg, .fab, .por, .dry, .hlt, .pin, .prt, .dp, .tab, .fry, .tmg, .free, .base, .rst, .act, .low, .mid] s0 t := by
  unfold execWarmReset at h
  refine hostCmd_same (by decide) (fun _ h1 => ?_) h
  refine Same.comp (same_warmOp _) (by decide) ?_
  exact h1

theorem touch_QspiCommand (x0 : Word) (s0 : State) {t : State} (h : execQspiCommand x0 s0 = .next t) : Same [.regs, .glb, .hif, .tal, .gbk, .hlt, .pin, .mid] s0 t := by
  unfold execQspiCommand at h
  refine hostCmd_same (by decide) (fun _ h1 => ?_) h
  refine Same.comp (same_qspiStart _ _) (by decide) ?_
  exact h1

theorem touch_SendTrigger (s0 : State) {t : State} (h : execSendTrigger s0 = .next t) : Same [.regs, .glb, .frg, .hif, .tal, .gbk, .phs, .ldg, .fab, .hlt, .dp, .low, .mid] s0 t := by
  unfold execSendTrigger at h
  refine hostCmd_same (by decide) (fun _ h1 => ?_) h
  refine Same.comp (same_freeCells _) (by decide) ?_
  refine Same.comp (same_sendTriggerOp _) (by decide) ?_
  exact h1

theorem touch_BistRun (x0 : Nat) (s0 : State) {t : State} (h : execBistRun x0 s0 = .next t) : Same [.regs, .glb, .hif, .tal, .gbk, .hlt, .low, .mid] s0 t := by
  unfold execBistRun at h
  refine hostCmd_same (by decide) (fun _ h1 => ?_) h
  refine Same.comp (same_bistRun _ _) (by decide) ?_
  exact h1

theorem touch_CacheRefill (x0 : Nat) (x1 : Nat) (s0 : State) {t : State} (h : execCacheRefill x0 x1 s0 = .next t) : Same [.regs, .clk, .glb, .hif, .tal, .gbk, .tim, .phs, .ldg, .fab, .por, .dry, .hlt, .prt, .dp, .tab, .tmg, .free, .mid] s0 t := by
  unfold execCacheRefill at h
  refine timed_same (by decide) (fun _ h1 => ?_) h
  refine Same.comp (same_refillCache _ _) (by decide) ?_
  exact h1

theorem touch_BistComplete (x0 : Nat) (x1 : Nat) (s0 : State) {t : State} (h : execBistComplete x0 x1 s0 = .next t) : Same [.regs, .clk, .glb, .hif, .tal, .gbk, .tim, .phs, .ldg, .fab, .por, .hlt, .prt, .dp, .tab, .tmg, .free, .mid] s0 t := by
  unfold execBistComplete at h
  refine timed_same (by decide) (fun _ h1 => ?_) h
  refine Same.comp (same_bistComplete _ _) (by decide) ?_
  exact h1

theorem touch_ArmCommit (s0 : State) {t : State} (h : execArmCommit s0 = .next t) : Same [.regs, .glb, .frg, .hif, .tal, .gbk, .ldg, .hlt, .low, .mid] s0 t := by
  unfold execArmCommit at h
  refine hostCmd_same (by decide) (fun _ h1 => ?_) h
  refine Same.comp (same_armOp _ _ _) (by decide) ?_
  exact h1

theorem touch_ErrandMove (x0 : Nat) (x1 : Nat) (s0 : State) {t : State} (h : execErrandMove x0 x1 s0 = .next t) : Same [.regs, .mem, .clk, .glb, .frg, .hif, .tal, .gbk, .tim, .phs, .ldg, .fab, .por, .dry, .hlt, .pin, .prt, .dp, .tab, .fry, .tmg, .free, .base, .rst, .act, .low, .mid] s0 t := by
  unfold execErrandMove at h
  refine timed_same (by decide) (fun _ h1 => ?_) h
  refine same_errStep_h (by decide) (fun _ _ h2 => ?_) ?_
  · refine Same.comp (same_moveOp _ _ _) (by decide) ?_
    exact h2
  exact h1

theorem touch_Unfence (x0 : Nat) (s0 : State) {t : State} (h : execUnfence x0 s0 = .next t) : Same [.regs, .glb, .hif, .tal, .gbk, .hlt, .mid] s0 t := by
  unfold execUnfence at h
  refine hostCmd_same (by decide) (fun _ h1 => ?_) h
  refine Same.comp (same_unfenceOp _ _) (by decide) ?_
  exact h1

theorem touch_JtagHighz (s0 : State) {t : State} (h : execJtagHighz s0 = .next t) : Same [.regs, .mem, .glb, .frg, .hif, .tal, .gbk, .tim, .ldg, .fab, .por, .dry, .hlt, .pin, .prt, .dp, .tab, .tmg, .free, .base, .act, .low, .mid] s0 t := by
  unfold execJtagHighz at h
  refine pinCommand_same (by decide) (fun _ h1 => ?_) h
  refine Same.comp (same_jtagOp _ _ _ _) (by decide) ?_
  exact h1

theorem touch_TblRead (x0 : Nat) (x1 : Nat) (x2 : Nat) (x3 : Bool) (s0 : State) {t : State} (h : execTblRead x0 x1 x2 x3 s0 = .next t) : Same [.regs, .glb, .hif, .tal, .gbk, .hlt, .tab, .free, .mid] s0 t := by
  unfold execTblRead at h
  refine hostCmd_same (by decide) (fun _ h1 => ?_) h
  refine Same.comp (same_tblIssue _ _ _ _ _ _) (by decide) ?_
  exact h1

theorem touch_VerifyMpacketReceived (x0 : Nat) (x1 : Nat) (s0 : State) {t : State} (h : execVerifyMpacketReceived x0 x1 s0 = .next t) : Same [.regs, .clk, .glb, .hif, .tal, .gbk, .tim, .phs, .ldg, .fab, .por, .hlt, .prt, .dp, .tab, .tmg, .free, .mid] s0 t := by
  unfold execVerifyMpacketReceived at h
  refine timed_same (by decide) (fun _ h1 => ?_) h
  refine Same.comp (same_verifyReceived _ _) (by decide) ?_
  exact h1

theorem touch_TmRegionWrite (x0 : Nat) (x1 : Word) (s0 : State) {t : State} (h : execTmRegionWrite x0 x1 s0 = .next t) : Same [.regs, .glb, .hif, .tal, .gbk, .hlt, .low, .mid] s0 t := by
  unfold execTmRegionWrite at h
  refine hostCmd_same (by decide) (fun _ h1 => ?_) h
  refine Same.comp (same_writeRegion _ _ _) (by decide) ?_
  exact h1

theorem touch_LedgerStart (x0 : Nat) (x1 : Nat) (s0 : State) {t : State} (h : execLedgerStart x0 x1 s0 = .next t) : Same [.regs, .clk, .glb, .hif, .tal, .gbk, .tim, .phs, .ldg, .fab, .por, .hlt, .prt, .dp, .tab, .tmg, .free, .mid] s0 t := by
  unfold execLedgerStart at h
  refine timed_same (by decide) (fun _ h1 => ?_) h
  refine Same.ite ?_ ?_
  · refine Same.comp (same_lineChange _ _) (by decide) ?_
    exact h1
  · exact h1

theorem touch_C45Write (x0 : Nat) (x1 : Nat) (x2 : Nat) (s0 : State) {t : State} (h : execC45Write x0 x1 x2 s0 = .next t) : Same [.regs, .glb, .hif, .tal, .gbk, .hlt, .pin, .mid] s0 t := by
  unfold execC45Write at h
  refine hostCmd_same (by decide) (fun _ h1 => ?_) h
  refine Same.comp (same_mdioStart _ _ _ _ _) (by decide) ?_
  exact h1

theorem touch_TcamScrub (x0 : Nat) (x1 : Nat) (x2 : Bool) (x3 : Nat) (x4 : Bool) (x5 : Bool) (s0 : State) {t : State} (h : execTcamScrub x0 x1 x2 x3 x4 x5 s0 = .next t) : Same [.regs, .clk, .glb, .hif, .tal, .gbk, .tim, .phs, .ldg, .fab, .por, .hlt, .prt, .dp, .tab, .tmg, .free, .mid] s0 t := by
  unfold execTcamScrub at h
  refine timed_same (by decide) (fun _ h1 => ?_) h
  refine Same.ite ?_ ?_
  · refine Same.comp (same_tcamRepaired _ _ _) (by decide) ?_
    exact h1
  · exact h1

theorem touch_JtagIdcode (s0 : State) {t : State} (h : execJtagIdcode s0 = .next t) : Same [.regs, .mem, .glb, .frg, .hif, .tal, .gbk, .tim, .ldg, .fab, .por, .dry, .hlt, .pin, .prt, .dp, .tab, .tmg, .free, .base, .act, .low, .mid] s0 t := by
  unfold execJtagIdcode at h
  refine pinCommand_same (by decide) (fun _ h1 => ?_) h
  refine Same.comp (same_jtagOp _ _ _ _) (by decide) ?_
  exact h1

theorem touch_TblFlush (x0 : Nat) (x1 : Nat) (x2 : Nat) (x3 : Bool) (s0 : State) {t : State} (h : execTblFlush x0 x1 x2 x3 s0 = .next t) : Same [.regs, .glb, .hif, .tal, .gbk, .hlt, .tab, .free, .mid] s0 t := by
  unfold execTblFlush at h
  refine hostCmd_same (by decide) (fun _ h1 => ?_) h
  refine Same.comp (same_tblIssue _ _ _ _ _ _) (by decide) ?_
  exact h1

theorem touch_TmplWrite (x0 : Nat) (s0 : State) {t : State} (h : execTmplWrite x0 s0 = .next t) : Same [.regs, .glb, .hif, .tal, .gbk, .hlt, .fry, .mid] s0 t := by
  unfold execTmplWrite at h
  refine hostCmd_same (by decide) (fun _ h1 => ?_) h
  refine Same.comp (same_tmplIssue _ _ _) (by decide) ?_
  exact h1

theorem touch_TxFrameRead (x0 : Nat) (x1 : Nat) (s0 : State) {t : State} (h : execTxFrameRead x0 x1 s0 = .next t) : Same [.regs, .clk, .glb, .hif, .tal, .gbk, .tim, .phs, .ldg, .fab, .por, .dry, .hlt, .prt, .dp, .tab, .tmg, .free, .mid] s0 t := by
  unfold execTxFrameRead at h
  refine timed_same (by decide) (fun _ h1 => ?_) h
  refine Same.comp (same_readFrame _ _) (by decide) ?_
  exact h1

theorem touch_TransmitEnd (x0 : Nat) (x1 : Nat) (s0 : State) {t : State} (h : execTransmitEnd x0 x1 s0 = .next t) : Same [.regs, .clk, .glb, .hif, .tal, .gbk, .tim, .phs, .ldg, .fab, .por, .hlt, .pin, .prt, .dp, .tab, .tmg, .free, .mid] s0 t := by
  unfold execTransmitEnd at h
  refine timed_same (by decide) (fun _ h1 => ?_) h
  refine Same.comp (same_transmitEnd _ _) (by decide) ?_
  exact h1

theorem touch_CoreRefclkRestored (x0 : Nat) (s0 : State) {t : State} (h : execCoreRefclkRestored x0 s0 = .next t) : Same [.regs, .clk, .glb, .frg, .hif, .tal, .gbk, .tim, .phs, .ldg, .fab, .por, .dry, .hlt, .pin, .prt, .dp, .tab, .fry, .tmg, .free, .base, .rst, .act, .low, .mid] s0 t := by
  unfold execCoreRefclkRestored at h
  refine pinCommand_same (by decide) (fun _ h1 => ?_) h
  extract_lets +onlyGivenNames -merge -underBinder s2 s4 v6 v7
  have h3 : Same [.regs, .clk, .glb, .frg, .hif, .tal, .gbk, .tim, .phs, .ldg, .fab, .por, .dry, .hlt, .pin, .prt, .dp, .tab, .fry, .tmg, .free, .base, .rst, .act, .low, .mid] s0 s2 := by
    unfold s2
    refine Same.comp (same_passFree _ _) (by decide) ?_
    exact h1
  clear_value s2
  have h5 : Same [.regs, .clk, .glb, .frg, .hif, .tal, .gbk, .tim, .phs, .ldg, .fab, .por, .dry, .hlt, .pin, .prt, .dp, .tab, .fry, .tmg, .free, .base, .rst, .act, .low, .mid] s0 s4 := by
    unfold s4
    refine Same.ite ?_ ?_
    · refine Same.comp (same_coldReset _) (by decide) ?_
      exact h3
    · exact h3
  clear_value s4
  refine Same.ite ?_ ?_
  · refine Same.comp (same_startUp _) (by decide) ?_
    refine Same.comp (same_forBits_lo _ _ _ (by decide)) (by decide) ?_
    refine Same.set_glb (by decide) (Or.inr rfl) (Or.inl (by decide)) ?_
    exact h5
  · refine Same.ite ?_ ?_
    · refine Same.comp (same_forBits_top _ _ _ (Or.inl (by decide))) (by decide) ?_
      refine Same.set_glb (by decide) (Or.inr rfl) (Or.inl (by decide)) ?_
      exact h5
    · exact h5

theorem touch_PortResetRelease (x0 : Nat) (s0 : State) {t : State} (h : execPortResetRelease x0 s0 = .next t) : Same [.regs, .glb, .hif, .tal, .gbk, .fab, .hlt, .pin, .prt, .dp, .tmg, .free, .low, .mid] s0 t := by
  unfold execPortResetRelease at h
  refine hostCmd_same (by decide) (fun _ h1 => ?_) h
  refine Same.comp (same_freeCells _) (by decide) ?_
  refine Same.comp (same_releaseReset _ _) (by decide) ?_
  exact h1

theorem touch_I2cDataWrite (x0 : Nat) (x1 : Word) (s0 : State) {t : State} (h : execI2cDataWrite x0 x1 s0 = .next t) : Same [.regs, .glb, .hif, .tal, .gbk, .hlt, .pin, .mid] s0 t := by
  unfold execI2cDataWrite at h
  refine hostCmd_same (by decide) (fun _ h1 => ?_) h
  refine Same.comp (same_i2cPush _ _ _) (by decide) ?_
  exact h1

theorem touch_Trigger (x0 : Nat) (s0 : State) {t : State} (h : execTrigger x0 s0 = .next t) : Same [.regs, .clk, .glb, .frg, .hif, .tal, .gbk, .tim, .phs, .ldg, .fab, .por, .hlt, .prt, .dp, .tab, .tmg, .free, .low, .mid] s0 t := by
  unfold execTrigger at h
  refine timed_same (by decide) (fun _ h1 => ?_) h
  refine same_handleHead_h (by decide) (fun _ _ _ h2 => ?_) ?_
  · refine Same.comp (same_onTrigger _ _ _) (by decide) ?_
    exact h2
  exact h1

theorem touch_MeterBackgroundRefresh (x0 : Nat) (x1 : Nat) (x2 : Nat) (s0 : State) {t : State} (h : execMeterBackgroundRefresh x0 x1 x2 s0 = .next t) : Same [.regs, .clk, .glb, .hif, .tal, .gbk, .tim, .phs, .ldg, .fab, .por, .hlt, .prt, .dp, .tab, .tmg, .free, .mid] s0 t := by
  unfold execMeterBackgroundRefresh at h
  refine timed_same (by decide) (fun _ h1 => ?_) h
  refine Same.comp (same_meterRefresh _ _ _) (by decide) ?_
  exact h1

theorem touch_Clk10mMeasurement (x0 : Nat) (s0 : State) {t : State} (h : execClk10mMeasurement x0 s0 = .next t) : Same [.regs, .clk, .glb, .hif, .tal, .gbk, .tim, .phs, .ldg, .fab, .por, .hlt, .prt, .dp, .tab, .tmg, .free, .mid] s0 t := by
  unfold execClk10mMeasurement at h
  refine timed_same (by decide) (fun _ h1 => ?_) h
  refine Same.comp (same_clk10mMeasure _) (by decide) ?_
  exact h1

theorem touch_LinkConditionChange (x0 : Nat) (x1 : Nat) (x2 : LinkCond) (s0 : State) {t : State} (h : execLinkConditionChange x0 x1 x2 s0 = .next t) : Same [.regs, .clk, .glb, .hif, .tal, .gbk, .tim, .phs, .ldg, .fab, .por, .hlt, .pin, .prt, .dp, .tab, .tmg, .free, .mid] s0 t := by
  unfold execLinkConditionChange at h
  refine timed_same (by decide) (fun _ h1 => ?_) h
  refine Same.comp (same_freeCells _) (by decide) ?_
  refine Same.comp (same_linkChange _ _ _) (by decide) ?_
  exact h1

theorem touch_FrameArrival (x0 : Nat) (x1 : Nat) (x2 : Bool) (x3 : List Byte) (s0 : State) {t : State} (h : execFrameArrival x0 x1 x2 x3 s0 = .next t) : Same [.regs, .clk, .glb, .hif, .tal, .gbk, .tim, .phs, .ldg, .fab, .por, .hlt, .pin, .prt, .dp, .tab, .tmg, .free, .mid] s0 t := by
  unfold execFrameArrival at h
  refine timed_same (by decide) (fun _ h1 => ?_) h
  refine Same.comp (same_frameStart _ _ _ _) (by decide) ?_
  exact h1

theorem touch_TemperRelease (x0 : Nat) (s0 : State) {t : State} (h : execTemperRelease x0 s0 = .next t) : Same [.regs, .clk, .glb, .frg, .hif, .tal, .gbk, .tim, .phs, .ldg, .fab, .por, .hlt, .prt, .dp, .tab, .tmg, .free, .act, .low, .mid] s0 t := by
  unfold execTemperRelease at h
  refine timed_same (by decide) (fun _ h1 => ?_) h
  refine Same.ite ?_ ?_
  · refine Same.comp (same_releaseOld _) (by decide) ?_
    exact h1
  · exact h1

theorem touch_OtpImageKey (x0 : Nat) (x1 : Nat) (s0 : State) {t : State} (h : execOtpImageKey x0 x1 s0 = .next t) : Same [.regs, .glb, .hif, .tal, .gbk, .hlt, .mid] s0 t := by
  unfold execOtpImageKey at h
  refine hostCmd_same (by decide) (fun _ h1 => ?_) h
  refine Same.comp (same_mbxDoorbell _ _ _ _) (by decide) ?_
  exact h1

theorem touch_ErrandSignal (x0 : Nat) (x1 : Nat) (s0 : State) {t : State} (h : execErrandSignal x0 x1 s0 = .next t) : Same [.regs, .mem, .clk, .glb, .hif, .tal, .gbk, .tim, .phs, .ldg, .fab, .por, .dry, .hlt, .prt, .dp, .tab, .tmg, .free, .mid] s0 t := by
  unfold execErrandSignal at h
  refine timed_same (by decide) (fun _ h1 => ?_) h
  refine same_errStep_h (by decide) (fun _ _ h2 => ?_) ?_
  · refine Same.comp (same_signalOp _ _ _) (by decide) ?_
    exact h2
  exact h1

theorem touch_ResumeChannel (x0 : DryChan) (s0 : State) {t : State} (h : execResumeChannel x0 s0 = .next t) : Same [.regs, .glb, .hif, .tal, .gbk, .dry, .hlt, .mid] s0 t := by
  unfold execResumeChannel at h
  refine hostCmd_same (by decide) (fun _ h1 => ?_) h
  refine Same.comp (same_resumeChan _ _) (by decide) ?_
  exact h1

theorem touch_HitScan (x0 : Nat) (x1 : Nat) (x2 : Nat) (x3 : Bool) (s0 : State) {t : State} (h : execHitScan x0 x1 x2 x3 s0 = .next t) : Same [.regs, .glb, .hif, .tal, .gbk, .hlt, .tab, .free, .mid] s0 t := by
  unfold execHitScan at h
  refine hostCmd_same (by decide) (fun _ h1 => ?_) h
  refine Same.comp (same_tblIssue _ _ _ _ _ _) (by decide) ?_
  exact h1

theorem touch_SetAbs (s0 : State) {t : State} (h : execSetAbs s0 = .next t) : Same [.regs, .glb, .hif, .tal, .gbk, .tim, .phs, .ldg, .hlt, .mid] s0 t := by
  unfold execSetAbs at h
  refine hostCmd_same (by decide) (fun _ h1 => ?_) h
  refine Same.comp (same_setAbsOp _) (by decide) ?_
  exact h1

theorem touch_PortReset (x0 : Nat) (s0 : State) {t : State} (h : execPortReset x0 s0 = .next t) : Same [.regs, .glb, .hif, .tal, .gbk, .fab, .hlt, .pin, .prt, .dp, .tmg, .free, .low, .mid] s0 t := by
  unfold execPortReset at h
  refine hostCmd_same (by decide) (fun _ h1 => ?_) h
  refine Same.comp (same_freeCells _) (by decide) ?_
  refine Same.comp (same_holdPort _ _) (by decide) ?_
  exact h1

theorem touch_FenceCopy (x0 : Nat) (x1 : Nat) (s0 : State) {t : State} (h : execFenceCopy x0 x1 s0 = .next t) : Same [.regs, .glb, .hif, .tal, .gbk, .hlt, .mid] s0 t := by
  unfold execFenceCopy at h
  refine hostCmd_same (by decide) (fun _ h1 => ?_) h
  refine Same.comp (same_fenceOp _ _ _) (by decide) ?_
  exact h1

theorem touch_JtagExtestPulse (s0 : State) {t : State} (h : execJtagExtestPulse s0 = .next t) : Same [.regs, .mem, .glb, .frg, .hif, .tal, .gbk, .tim, .ldg, .fab, .por, .dry, .hlt, .pin, .prt, .dp, .tab, .tmg, .free, .base, .act, .low, .mid] s0 t := by
  unfold execJtagExtestPulse at h
  refine pinCommand_same (by decide) (fun _ h1 => ?_) h
  refine Same.comp (same_jtagOp _ _ _ _) (by decide) ?_
  exact h1

theorem touch_DecisionPassStart (x0 : Nat) (x1 : Nat) (s0 : State) {t : State} (h : execDecisionPassStart x0 x1 s0 = .next t) : Same [.regs, .clk, .glb, .hif, .tal, .gbk, .tim, .phs, .ldg, .fab, .por, .hlt, .prt, .dp, .tab, .tmg, .free, .mid] s0 t := by
  unfold execDecisionPassStart at h
  refine timed_same (by decide) (fun _ h1 => ?_) h
  refine Same.comp (same_takeFrame _ _) (by decide) ?_
  exact h1

theorem touch_DrainComplete (x0 : Nat) (s0 : State) {t : State} (h : execDrainComplete x0 s0 = .next t) : Same [.regs, .clk, .glb, .hif, .tal, .gbk, .tim, .phs, .ldg, .fab, .por, .hlt, .prt, .dp, .tab, .tmg, .free, .base, .mid] s0 t := by
  unfold execDrainComplete at h
  refine timed_same (by decide) (fun _ h1 => ?_) h
  refine Same.ite ?_ ?_
  · refine Same.comp (same_quiesce _) (by decide) ?_
    exact h1
  · exact h1

theorem touch_RespondMpacketReceived (x0 : Nat) (x1 : Nat) (s0 : State) {t : State} (h : execRespondMpacketReceived x0 x1 s0 = .next t) : Same [.regs, .clk, .glb, .hif, .tal, .gbk, .tim, .phs, .ldg, .fab, .por, .hlt, .prt, .dp, .tab, .tmg, .free, .mid] s0 t := by
  unfold execRespondMpacketReceived at h
  refine timed_same (by decide) (fun _ h1 => ?_) h
  refine Same.comp (same_respondReceived _ _) (by decide) ?_
  exact h1

theorem touch_TmplCmdComplete (x0 : Nat) (s0 : State) {t : State} (h : execTmplCmdComplete x0 s0 = .next t) : Same [.regs, .clk, .glb, .hif, .tal, .gbk, .tim, .phs, .ldg, .fab, .por, .hlt, .prt, .dp, .tab, .fry, .tmg, .free, .mid] s0 t := by
  unfold execTmplCmdComplete at h
  refine timed_same (by decide) (fun _ h1 => ?_) h
  refine Same.comp (same_tmplComplete _) (by decide) ?_
  exact h1

theorem touch_ColdReset (x0 : Bool) (s0 : State) {t : State} (h : execColdReset x0 s0 = .next t) : Same [.regs, .clk, .glb, .frg, .hif, .tal, .gbk, .tim, .phs, .ldg, .fab, .por, .dry, .hlt, .pin, .prt, .dp, .tab, .fry, .tmg, .base, .rst, .act, .low, .mid] s0 t := by
  unfold execColdReset at h
  refine pinCommand_same (by decide) (fun _ h1 => ?_) h
  extract_lets +onlyGivenNames -merge -underBinder s2 v4 s5
  have h3 : Same [.regs, .clk, .glb, .frg, .hif, .tal, .gbk, .tim, .phs, .ldg, .fab, .por, .dry, .hlt, .pin, .prt, .dp, .tab, .fry, .tmg, .base, .rst, .act, .low, .mid] s0 s2 := by
    unfold s2
    refine Same.comp (same_coldReset _) (by decide) ?_
    exact h1
  clear_value s2
  have h6 : Same [.regs, .clk, .glb, .frg, .hif, .tal, .gbk, .tim, .phs, .ldg, .fab, .por, .dry, .hlt, .pin, .prt, .dp, .tab, .fry, .tmg, .base, .rst, .act, .low, .mid] s0 s5 := by
    unfold s5
    refine Same.set_glb (by decide) (Or.inr rfl) (Or.inl (by decide)) ?_
    exact h3
  clear_value s5
  refine Same.comp (same_forBits_lo _ _ _ (by decide)) (by decide) ?_
  exact h6

theorem touch_KixonFrameCheck (x0 : Nat) (s0 : State) {t : State} (h : execKixonFrameCheck x0 s0 = .next t) : Same [.regs, .clk, .glb, .hif, .tal, .gbk, .tim, .phs, .ldg, .fab, .por, .hlt, .prt, .dp, .tab, .tmg, .free, .mid] s0 t := by
  unfold execKixonFrameCheck at h
  refine timed_same (by decide) (fun _ h1 => ?_) h
  refine Same.comp (same_freeCells _) (by decide) ?_
  refine Same.comp (same_checkHead _) (by decide) ?_
  exact h1

theorem touch_JtagSamplePreload (x0 : List Bool) (s0 : State) {t : State} (h : execJtagSamplePreload x0 s0 = .next t) : Same [.regs, .mem, .glb, .frg, .hif, .tal, .gbk, .tim, .ldg, .fab, .por, .dry, .hlt, .pin, .prt, .dp, .tab, .tmg, .free, .base, .act, .low, .mid] s0 t := by
  unfold execJtagSamplePreload at h
  refine pinCommand_same (by decide) (fun _ h1 => ?_) h
  extract_lets +onlyGivenNames -merge -underBinder s2 v4
  have h3 : Same [.regs, .mem, .glb, .frg, .hif, .tal, .gbk, .tim, .ldg, .fab, .por, .dry, .hlt, .pin, .prt, .dp, .tab, .tmg, .free, .base, .act, .low, .mid] s0 s2 := by
    unfold s2
    refine Same.comp (same_jtagOp _ _ _ _) (by decide) ?_
    exact h1
  clear_value s2
  clear_value v4
  refine Same.set_pin (by decide) ?_
  exact h3

theorem touch_RegisterWrite (x0 : Nat) (x1 : Nat) (x2 : Word) (s0 : State) {t : State} (h : execRegisterWrite x0 x1 x2 s0 = .next t) : Same [.regs, .mem, .clk, .glb, .frg, .hif, .tal, .gbk, .tim, .phs, .ldg, .fab, .por, .dry, .hlt, .pin, .prt, .dp, .tab, .fry, .tmg, .free, .base, .rst, .act, .low, .mid] s0 t := by
  unfold execRegisterWrite at h
  refine hostCmd_same (by decide) (fun _ h1 => ?_) h
  refine Same.comp (same_dwordWrite _ _ _ _) (by decide) ?_
  exact h1

theorem touch_DelayResp (x0 : Nat) (s0 : State) {t : State} (h : execDelayResp x0 s0 = .next t) : Same [.regs, .clk, .glb, .hif, .tal, .gbk, .tim, .phs, .ldg, .fab, .por, .hlt, .prt, .dp, .tab, .tmg, .free, .mid] s0 t := by
  unfold execDelayResp at h
  refine timed_same (by decide) (fun _ h1 => ?_) h
  refine same_handleHead_h (by decide) (fun _ _ _ h2 => ?_) ?_
  · refine Same.comp (same_onDelayResp _ _ _) (by decide) ?_
    exact h2
  exact h1

theorem touch_PorterDmaErr (x0 : Nat) (x1 : Nat) (s0 : State) {t : State} (h : execPorterDmaErr x0 x1 s0 = .next t) : Same [.regs, .clk, .glb, .hif, .tal, .gbk, .tim, .phs, .ldg, .fab, .por, .hlt, .prt, .dp, .tab, .tmg, .free, .mid] s0 t := by
  unfold execPorterDmaErr at h
  refine timed_same (by decide) (fun _ h1 => ?_) h
  refine Same.comp (same_porterError _ _) (by decide) ?_
  exact h1

theorem touch_TriggerRepeat (x0 : Nat) (s0 : State) {t : State} (h : execTriggerRepeat x0 s0 = .next t) : Same [.regs, .clk, .glb, .hif, .tal, .gbk, .tim, .phs, .ldg, .fab, .por, .hlt, .prt, .dp, .tab, .tmg, .free, .mid] s0 t := by
  unfold execTriggerRepeat at h
  refine timed_same (by decide) (fun _ h1 => ?_) h
  split
  · refine Same.ite ?_ ?_
    · refine Same.comp (same_freeCells _) (by decide) ?_
      refine Same.comp (same_sendTrigCopy _) (by decide) ?_
      exact h1
    · exact h1
  · exact h1

theorem touch_PpsOutPulseEnd (x0 : Nat) (s0 : State) {t : State} (h : execPpsOutPulseEnd x0 s0 = .next t) : Same [.regs, .clk, .glb, .hif, .tal, .gbk, .tim, .phs, .ldg, .fab, .por, .hlt, .prt, .dp, .tab, .tmg, .free, .mid] s0 t := by
  unfold execPpsOutPulseEnd at h
  refine timed_same (by decide) (fun _ h1 => ?_) h
  refine Same.comp (same_ppsOutEnd _) (by decide) ?_
  exact h1

theorem touch_QueueSample (x0 : Nat) (s0 : State) {t : State} (h : execQueueSample x0 s0 = .next t) : Same [.regs, .clk, .glb, .hif, .tal, .gbk, .tim, .phs, .ldg, .fab, .por, .hlt, .prt, .dp, .tab, .tmg, .free, .mid] s0 t := by
  unfold execQueueSample at h
  refine timed_same (by decide) (fun _ h1 => ?_) h
  refine Same.comp (same_sampleQueues _) (by decide) ?_
  exact h1

theorem touch_Heartbeat (x0 : Nat) (s0 : State) {t : State} (h : execHeartbeat x0 s0 = .next t) : Same [.regs, .clk, .glb, .hif, .tal, .gbk, .tim, .phs, .ldg, .fab, .por, .hlt, .prt, .dp, .tab, .tmg, .free, .mid] s0 t := by
  unfold execHeartbeat at h
  refine timed_same (by decide) (fun _ h1 => ?_) h
  refine Same.comp (same_hostHead _ _) (by decide) ?_
  exact h1

theorem touch_TimeFrame (x0 : Nat) (s0 : State) {t : State} (h : execTimeFrame x0 s0 = .next t) : Same [.regs, .clk, .glb, .hif, .tal, .gbk, .tim, .phs, .ldg, .fab, .por, .hlt, .prt, .dp, .tab, .tmg, .free, .mid] s0 t := by
  unfold execTimeFrame at h
  refine timed_same (by decide) (fun _ h1 => ?_) h
  refine same_handleHead_h (by decide) (fun _ _ _ h2 => ?_) ?_
  · refine Same.comp (same_onTime _ _ _) (by decide) ?_
    exact h2
  exact h1

theorem touch_MainsEdge (x0 : Nat) (x1 : Nat) (x2 : EdgeLevels) (s0 : State) {t : State} (h : execMainsEdge x0 x1 x2 s0 = .next t) : Same [.regs, .clk, .glb, .hif, .tal, .gbk, .tim, .phs, .ldg, .fab, .por, .hlt, .prt, .dp, .tab, .tmg, .free, .mid] s0 t := by
  unfold execMainsEdge at h
  refine timed_same (by decide) (fun _ h1 => ?_) h
  refine Same.ite ?_ ?_
  · refine same_withValid_h (by decide) (fun _ h2 => ?_) ?_
    · refine Same.comp (same_mainsEdge _ _) (by decide) ?_
      exact h2
    exact h1
  · exact h1

theorem touch_WaitComplete (x0 : Nat) (x1 : Nat) (s0 : State) {t : State} (h : execWaitComplete x0 x1 s0 = .next t) : Same [.regs, .clk, .glb, .hif, .tal, .gbk, .tim, .phs, .ldg, .fab, .por, .dry, .hlt, .pin, .prt, .dp, .tab, .tmg, .free, .low, .mid] s0 t := by
  unfold execWaitComplete at h
  refine timed_same (by decide) (fun _ h1 => ?_) h
  refine Same.comp (same_waitComplete _ _) (by decide) ?_
  exact h1

theorem touch_PorCmdComplete (x0 : Nat) (s0 : State) {t : State} (h : execPorCmdComplete x0 s0 = .next t) : Same [.regs, .clk, .glb, .hif, .tal, .gbk, .tim, .phs, .ldg, .fab, .por, .hlt, .prt, .dp, .tab, .tmg, .free, .mid] s0 t := by
  unfold execPorCmdComplete at h
  refine timed_same (by decide) (fun _ h1 => ?_) h
  refine Same.comp (same_porComplete _) (by decide) ?_
  exact h1

theorem touch_Rehello (x0 : Nat) (s0 : State) {t : State} (h : execRehello x0 s0 = .next t) : Same [.regs, .glb, .hif, .tal, .gbk, .fab, .hlt, .dp, .free, .mid] s0 t := by
  unfold execRehello at h
  refine hostCmd_same (by decide) (fun _ h1 => ?_) h
  refine Same.comp (same_rehelloOp _ _) (by decide) ?_
  exact h1

theorem touch_SummaryTimer (x0 : Nat) (x1 : Nat) (s0 : State) {t : State} (h : execSummaryTimer x0 x1 s0 = .next t) : Same [.regs, .clk, .glb, .hif, .tal, .gbk, .tim, .phs, .ldg, .fab, .por, .hlt, .prt, .dp, .tab, .tmg, .free, .mid] s0 t := by
  unfold execSummaryTimer at h
  refine timed_same (by decide) (fun _ h1 => ?_) h
  refine Same.ite ?_ ?_
  · refine Same.comp (same_placeSummary _ _) (by decide) ?_
    exact h1
  · exact h1

theorem touch_ResetNRise (x0 : Nat) (s0 : State) {t : State} (h : execResetNRise x0 s0 = .next t) : Same [.regs, .clk, .glb, .hif, .tal, .gbk, .tim, .phs, .ldg, .fab, .por, .hlt, .prt, .dp, .tab, .tmg, .free, .rst, .mid] s0 t := by
  unfold execResetNRise at h
  refine pinCommand_same (by decide) (fun _ h1 => ?_) h
  extract_lets +onlyGivenNames -merge -underBinder s2 v4
  have h3 : Same [.regs, .clk, .glb, .hif, .tal, .gbk, .tim, .phs, .ldg, .fab, .por, .hlt, .prt, .dp, .tab, .tmg, .free, .rst, .mid] s0 s2 := by
    unfold s2
    refine Same.comp (same_passFree _ _) (by decide) ?_
    exact h1
  clear_value s2
  refine Same.comp (same_startUp _) (by decide) ?_
  refine Same.set_glb (by decide) (Or.inr rfl) (Or.inl (by decide)) ?_
  exact h3

theorem touch_RxIntModTimer (x0 : Nat) (x1 : Nat) (s0 : State) {t : State} (h : execRxIntModTimer x0 x1 s0 = .next t) : Same [.regs, .clk, .glb, .hif, .tal, .gbk, .tim, .phs, .ldg, .fab, .por, .dry, .hlt, .prt, .dp, .tab, .tmg, .free, .mid] s0 t := by
  unfold execRxIntModTimer at h
  refine timed_same (by decide) (fun _ h1 => ?_) h
  refine Same.comp (same_rxTimer _ _) (by decide) ?_
  exact h1

theorem touch_I2cStart (x0 : Nat) (x1 : Word) (s0 : State) {t : State} (h : execI2cStart x0 x1 s0 = .next t) : Same [.regs, .glb, .hif, .tal, .gbk, .hlt, .pin, .mid] s0 t := by
  unfold execI2cStart at h
  refine hostCmd_same (by decide) (fun _ h1 => ?_) h
  refine Same.comp (same_i2cStart _ _ _) (by decide) ?_
  exact h1

theorem touch_HarvestAbort (s0 : State) {t : State} (h : execHarvestAbort s0 = .next t) : Same [.regs, .glb, .hif, .tal, .gbk, .hlt, .mid] s0 t := by
  unfold execHarvestAbort at h
  refine hostCmd_same (by decide) (fun _ h1 => ?_) h
  refine Same.comp (same_harvestAbort _) (by decide) ?_
  exact h1

theorem touch_TxtsRecordRead (s0 : State) {t : State} (h : execTxtsRecordRead s0 = .next t) : Same [.regs, .glb, .hif, .tal, .gbk, .tim, .hlt] s0 t := by
  unfold execTxtsRecordRead at h
  refine hostRead_same (by decide) (fun _ h1 => ?_) h
  refine Same.comp (same_txtsPop _) (by decide) ?_
  exact h1

theorem touch_GetVersion (x0 : Nat) (x1 : Nat) (s0 : State) {t : State} (h : execGetVersion x0 x1 s0 = .next t) : Same [.regs, .glb, .hif, .tal, .gbk, .hlt, .mid] s0 t := by
  unfold execGetVersion at h
  refine hostCmd_same (by decide) (fun _ h1 => ?_) h
  refine Same.comp (same_mbxDoorbell _ _ _ _) (by decide) ?_
  exact h1

theorem touch_KixonHostMessage (x0 : Nat) (s0 : State) {t : State} (h : execKixonHostMessage x0 s0 = .next t) : Same [.regs, .clk, .glb, .hif, .tal, .gbk, .tim, .phs, .ldg, .fab, .por, .hlt, .prt, .dp, .tab, .tmg, .free, .mid] s0 t := by
  unfold execKixonHostMessage at h
  refine timed_same (by decide) (fun _ h1 => ?_) h
  refine Same.comp (same_hostHead _ _) (by decide) ?_
  exact h1

theorem touch_TblUpdate (x0 : Nat) (x1 : Nat) (x2 : Nat) (x3 : Bool) (s0 : State) {t : State} (h : execTblUpdate x0 x1 x2 x3 s0 = .next t) : Same [.regs, .glb, .hif, .tal, .gbk, .hlt, .tab, .free, .mid] s0 t := by
  unfold execTblUpdate at h
  refine hostCmd_same (by decide) (fun _ h1 => ?_) h
  refine Same.comp (same_tblIssue _ _ _ _ _ _) (by decide) ?_
  exact h1

theorem touch_TimCtlWrite (x0 : Word) (s0 : State) {t : State} (h : execTimCtlWrite x0 s0 = .next t) : Same [.regs, .glb, .hif, .tal, .gbk, .tim, .phs, .hlt, .mid] s0 t := by
  unfold execTimCtlWrite at h
  refine hostCmd_same (by decide) (fun _ h1 => ?_) h
  refine Same.comp (same_writeTimCtl _ _) (by decide) ?_
  exact h1

theorem touch_DelayReqTimer (x0 : Nat) (x1 : Nat) (s0 : State) {t : State} (h : execDelayReqTimer x0 x1 s0 = .next t) : Same [.regs, .clk, .glb, .hif, .tal, .gbk, .tim, .phs, .ldg, .fab, .por, .hlt, .prt, .dp, .tab, .tmg, .free, .mid] s0 t := by
  unfold execDelayReqTimer at h
  refine timed_same (by decide) (fun _ h1 => ?_) h
  refine Same.ite ?_ ?_
  · refine Same.comp (same_freeCells _) (by decide) ?_
    refine Same.comp (same_sendDelayReq _ _) (by decide) ?_
    exact h1
  · exact h1

theorem touch_SlotLastByteArrived (x0 : Nat) (s0 : State) {t : State} (h : execSlotLastByteArrived x0 s0 = .next t) : Same [.regs, .clk, .glb, .frg, .hif, .tal, .gbk, .tim, .phs, .ldg, .fab, .por, .hlt, .pin, .prt, .dp, .tab, .fry, .tmg, .free, .base, .act, .low, .mid] s0 t := by
  unfold execSlotLastByteArrived at h
  refine timed_same (by decide) (fun _ h1 => ?_) h
  split
  · refine Same.ite ?_ ?_
    · refine Same.comp (same_freeCells _) (by decide) ?_
      refine Same.comp (same_lastByte _ _) (by decide) ?_
      refine Same.comp (same_placeArrived _ _ _) (by decide) ?_
      refine Same.comp (same_rput_lo _ _ _ (by decide)) (by decide) ?_
      exact h1
    · exact h1
  · exact h1

theorem touch_DescriptorsPosted (x0 : DataChan) (x1 : Word) (s0 : State) {t : State} (h : execDescriptorsPosted x0 x1 s0 = .next t) : Same [.regs, .glb, .hif, .tal, .gbk, .hlt, .low, .mid] s0 t := by
  unfold execDescriptorsPosted at h
  refine hostCmd_same (by decide) (fun _ h1 => ?_) h
  refine Same.comp (same_postDescriptors _ _ _) (by decide) ?_
  exact h1

theorem touch_OtpRaiseSecver (x0 : Nat) (x1 : Nat) (s0 : State) {t : State} (h : execOtpRaiseSecver x0 x1 s0 = .next t) : Same [.regs, .glb, .hif, .tal, .gbk, .hlt, .mid] s0 t := by
  unfold execOtpRaiseSecver at h
  refine hostCmd_same (by decide) (fun _ h1 => ?_) h
  refine Same.comp (same_mbxDoorbell _ _ _ _) (by decide) ?_
  exact h1

theorem touch_TblWrite (x0 : Nat) (x1 : Nat) (x2 : Nat) (x3 : Bool) (s0 : State) {t : State} (h : execTblWrite x0 x1 x2 x3 s0 = .next t) : Same [.regs, .glb, .hif, .tal, .gbk, .hlt, .tab, .free, .mid] s0 t := by
  unfold execTblWrite at h
  refine hostCmd_same (by decide) (fun _ h1 => ?_) h
  refine Same.comp (same_tblIssue _ _ _ _ _ _) (by decide) ?_
  exact h1

theorem touch_JtagBypass (s0 : State) {t : State} (h : execJtagBypass s0 = .next t) : Same [.regs, .mem, .glb, .frg, .hif, .tal, .gbk, .tim, .ldg, .fab, .por, .dry, .hlt, .pin, .prt, .dp, .tab, .tmg, .free, .base, .act, .low, .mid] s0 t := by
  unfold execJtagBypass at h
  refine pinCommand_same (by decide) (fun _ h1 => ?_) h
  refine Same.comp (same_jtagOp _ _ _ _) (by decide) ?_
  exact h1

end Machine
end Sys2Proof
end

