-- ==== Sys2Proof/Laws/Settle.lean ====
section
/-! SUPPORT. Laws/Settle.lean: what each part of settling establishes and what it leaves: the recorded mode, ALERT_N, and the
ACTIVE bits of the vectors whose condition is 1. -/
namespace Sys2Proof
namespace Machine

/-! ### The mode and ALERT_N depend on nothing settling writes -/

theorem modeOf_settledFrom {s t : State} (h : SettledFrom s t) : modeOf t = modeOf s := by
  have e1 := h.reg A.GLB_SAFE_CAUSE (by decide)
  have e2 := h.reg A.HLT_FENCE (by decide)
  have e3 := h.reg A.HLT_BANK_MAP (by decide)
  unfold modeOf safeLatch condDegraded anyFenced sparesExhausted condHoldover condTempering
  rw [e1, e2, e3, h.glb_base, h.hif_ostlerSilent, h.phs, h.tim, h.frg]

theorem alertWanted_settledFrom {s t : State} (h : SettledFrom s t) : alertWanted t = alertWanted s := by
  have e1 := h.reg A.GLB_SAFE_CAUSE (by decide)
  have e2 := h.reg A.HLT_FENCE (by decide)
  have e3 := h.reg A.HLT_BANK_MAP (by decide)
  have e4 := h.reg A.HLT_ALERT_CTL (by decide)
  unfold alertWanted tempWarn voltWarn anyFenced sparesExhausted safeLatch
  rw [e1, e2, e3, e4, h.hif_ostlerSilent, h.hlt_tempState, h.hlt_voltState]

theorem msixEnabled_settledFrom {s t : State} (h : SettledFrom s t) : msixEnabled t = msixEnabled s := by
  unfold msixEnabled fbit
  rw [fget_congr (h.reg F.HIF_LINK_MSIX_EN.addr (by decide))]

/-- A mode change leaves the recorded mode the mode of the state. -/
theorem modeChange_shown (s : State) : (modeChange s).glb.shown = modeOf s := by
  unfold modeChange
  dsimp only
  split
  · symm; assumption
  · rw [raise_glb, setInt_glb]

/-- ALERT_N follows its sources. -/
theorem alertPin_alert (s : State) : (alertPin s).hlt.alert = alertWanted s := by
  unfold alertPin
  dsimp only
  split
  · symm; assumption
  · split
    · rw [bump_hlt]
    · rfl

theorem alertPin_shown (s : State) : (alertPin s).glb.shown = s.glb.shown := by
  unfold alertPin
  dsimp only
  split
  · rfl
  · split
    · rw [bump_glb]
    · rfl

/-! ### Signalling -/

theorem sendMsg_regs (v : Nat) (s : State) : (sendMsg v s).regs = s.regs := by
  unfold sendMsg; split <;> rfl
theorem sendMsg_glb (v : Nat) (s : State) : (sendMsg v s).glb = s.glb := by
  unfold sendMsg; split <;> rfl
theorem sendMsg_hlt (v : Nat) (s : State) : (sendMsg v s).hlt = s.hlt := by
  unfold sendMsg; split <;> rfl

theorem signal_glb (s : State) (v : Nat) : (signal s v).glb = s.glb := by
  unfold signal; split
  · rfl
  · rw [sendMsg_glb, forBits_glb]
theorem signal_hlt (s : State) (v : Nat) : (signal s v).hlt = s.hlt := by
  unfold signal; split
  · rfl
  · rw [sendMsg_hlt, forBits_hlt]

theorem signals_glb (l : List Nat) (s : State) : (l.foldl signal s).glb = s.glb := by
  induction l generalizing s with
  | nil => rfl
  | cons v t ih => rw [List.foldl_cons, ih, signal_glb]
theorem signals_hlt (l : List Nat) (s : State) : (l.foldl signal s).hlt = s.hlt := by
  induction l generalizing s with
  | nil => rfl
  | cons v t ih => rw [List.foldl_cons, ih, signal_hlt]

theorem deliver_glb (s : State) : (deliver s).glb = s.glb := by
  unfold deliver; split
  · exact signals_glb _ s
  · rfl
theorem deliver_hlt (s : State) : (deliver s).hlt = s.hlt := by
  unfold deliver; split
  · exact signals_hlt _ s
  · rfl

theorem mem_sdel {α : Type} (m : List (Nat × α)) (k : Nat) (e : Nat × α) : e ∈ sdel m k ↔ e ∈ m ∧ e.1 ≠ k := by
  induction m with
  | nil => simp [sdel]
  | cons x t ih =>
    obtain ⟨k', v⟩ := x
    by_cases hk : k' = k
    · subst hk
      rw [show sdel ((k', v) :: t) k' = sdel t k' by simp [sdel], ih, List.mem_cons]
      constructor
      · exact fun ⟨h1, h2⟩ => ⟨Or.inr h1, h2⟩
      · rintro ⟨rfl | h1, h2⟩
        · exact absurd rfl h2
        · exact ⟨h1, h2⟩
    · rw [show sdel ((k', v) :: t) k = (k', v) :: sdel t k by simp [sdel, hk], List.mem_cons, List.mem_cons, ih]
      constructor
      · rintro (rfl | ⟨h1, h2⟩)
        · exact ⟨Or.inl rfl, hk⟩
        · exact ⟨Or.inr h1, h2⟩
      · rintro ⟨rfl | h1, h2⟩
        · exact Or.inl rfl
        · exact Or.inr ⟨h1, h2⟩

theorem mem_sins {α : Type} (m : List (Nat × α)) (k : Nat) (v : α) (e : Nat × α) :
    e ∈ sins m k v ↔ e = (k, v) ∨ e ∈ m := by
  induction m with
  | nil => simp [sins]
  | cons x t ih =>
    obtain ⟨k', w⟩ := x
    by_cases hk : k < k'
    · simp [sins, hk]
    · rw [show sins ((k', w) :: t) k v = (k', w) :: sins t k v by simp [sins, hk], List.mem_cons, List.mem_cons, ih]
      tauto

/-- The entries of other keys are those that were there. -/
theorem mem_sput_ne {α : Type} [DecidableEq α] (d : Nat → α) (m : List (Nat × α)) (k : Nat) (v : α) (e : Nat × α)
    (h : e.1 ≠ k) : e ∈ sput d m k v ↔ e ∈ m := by
  unfold sput
  split
  · rw [mem_sdel]; exact ⟨fun x => x.1, fun x => ⟨x, h⟩⟩
  · rw [mem_sins, mem_sdel]
    constructor
    · rintro (rfl | x)
      · exact absurd rfl h
      · exact x.1
    · exact fun x => Or.inr ⟨x, h⟩

/-- The address of a vector word is no interrupt status register. -/
theorem sourceAt_vector (k : Nat) (h : k < 4) : sourceAt (A.GLB_VEC_ACTIVE k) = none := by
  have : k = 0 ∨ k = 1 ∨ k = 2 ∨ k = 3 := by omega
  rcases this with rfl | rfl | rfl | rfl <;> decide

/-- Nor an interrupt enable register. -/
theorem sourceAt_enable {a n : Nat} (h : sourceAt a = some n) (k : Nat) (hk : k < 4) : A.GLB_VEC_ACTIVE k ≠ a + 4 := by
  have : k = 0 ∨ k = 1 ∨ k = 2 ∨ k = 3 := by omega
  intro e
  rcases this with rfl | rfl | rfl | rfl
  all_goals
    simp only [A.GLB_VEC_ACTIVE] at e
    obtain rfl := Nat.eq_sub_of_add_eq e.symm
    rw [show sourceAt _ = none by decide] at h
    exact absurd h (by simp)

/-- Setting a vector's ACTIVE bit leaves the set of lines that are 1. -/
theorem mem_linesUp_forBits (k m : Nat) (hk : k < 4) (s : State) (n : Nat) :
    n ∈ linesUp (forBits (A.GLB_VEC_ACTIVE k) m s) ↔ n ∈ linesUp s := by
  have key : ∀ e : Nat × BitVec 32, lineOf (forBits (A.GLB_VEC_ACTIVE k) m s) e = lineOf s e := by
    intro e
    unfold lineOf
    cases h : sourceAt e.1 with
    | none => rfl
    | some j =>
      have e2 : (forBits (A.GLB_VEC_ACTIVE k) m s).regs
          = sput regReset s.regs (A.GLB_VEC_ACTIVE k) (BitVec.ofNat 32 (rget s (A.GLB_VEC_ACTIVE k) ||| m)) := rfl
      have e1 : ∀ (v : BitVec 32), sget (fun _ => (0 : BitVec 32)) (sput regReset s.regs (A.GLB_VEC_ACTIVE k) v) (e.1 + 4)
          = sget (fun _ => (0 : BitVec 32)) s.regs (e.1 + 4) :=
        fun v => sget_any_sput_ne _ _ _ (sourceAt_enable h k hk)
      dsimp only
      rw [e2, e1]
  unfold linesUp
  simp only [List.mem_filterMap, key]
  constructor
  · rintro ⟨e, he, hn⟩
    have : e.1 ≠ A.GLB_VEC_ACTIVE k := by
      intro hh
      unfold lineOf at hn
      rw [hh, sourceAt_vector k hk] at hn
      exact absurd hn (by simp)
    exact ⟨e, (mem_sput_ne _ _ _ _ _ this).1 he, hn⟩
  · rintro ⟨e, he, hn⟩
    have : e.1 ≠ A.GLB_VEC_ACTIVE k := by
      intro hh
      unfold lineOf at hn
      rw [hh, sourceAt_vector k hk] at hn
      exact absurd hn (by simp)
    exact ⟨e, (mem_sput_ne _ _ _ _ _ this).2 he, hn⟩

theorem linesUp_congr {s t : State} (h : t.regs = s.regs) : linesUp t = linesUp s := by
  unfold linesUp
  rw [h]
  congr 1
  funext e
  unfold lineOf
  rw [h]

/-- The number of a source (R175). -/
theorem sourceAt_lt {a n : Nat} (h : sourceAt a = some n) : n < 512 := by
  have step : ∀ {c : Prop} [Decidable c] {x : Nat} {o : Option Nat}, (if c then some x else o) = some n →
      (c → x < 512) → (o = some n → n < 512) → n < 512 := by
    intro c _ x o e h1 h2
    by_cases hc : c
    · rw [if_pos hc] at e; exact Option.some.inj e ▸ h1 hc
    · rw [if_neg hc] at e; exact h2 e
  unfold sourceAt at h
  iterate 20
    refine step h (fun _ => by omega) ?_
    clear h
    intro h
  exact absurd h (by simp)

theorem linesUp_lt {s : State} {n : Nat} (h : n ∈ linesUp s) : n < 512 := by
  obtain ⟨e, -, he⟩ := List.mem_filterMap.1 h
  unfold lineOf at he
  cases hs : sourceAt e.1 with
  | none => rw [hs] at he; cases he
  | some m =>
    rw [hs] at he
    dsimp only at he
    split at he
    · cases he
    · cases he; exact sourceAt_lt hs

/-- A register of the vector map is none that settling writes. -/
theorem vecMap_settleRegs {k : Nat} (h : k < 128) : A.HIF_VEC_MAP k ∉ settleRegs := by
  simp only [settleRegs, List.mem_cons, List.not_mem_nil, or_false, not_or]
  unfold A.HIF_VEC_MAP A.GLB_INT_STAT A.GBK_INT_STAT A.GLB_VEC_ACTIVE
  omega

theorem vector_word (v : Nat) (h : v < 128) : v / 32 < 4 := by omega

/-- Signalling leaves the vectors whose condition is 1. -/
theorem mem_vectorsUp_signal {v : Nat} (hv : v < 128) (s : State) (w : Nat) :
    w ∈ vectorsUp (signal s v) ↔ w ∈ vectorsUp s := by
  have f := settledFrom_signal s hv
  have hm : ∀ n, n < 512 → vectorOf (signal s v) n = vectorOf s n := by
    intro n hn
    unfold vectorOf
    rw [f.reg _ (vecMap_settleRegs (by omega))]
  have hl : ∀ n, n ∈ linesUp (signal s v) ↔ n ∈ linesUp s := by
    intro n
    unfold signal
    split
    · rfl
    · rw [linesUp_congr (sendMsg_regs _ _)]
      exact mem_linesUp_forBits _ _ (vector_word v hv) s n
  unfold vectorsUp
  simp only [List.mem_map]
  constructor
  · rintro ⟨n, hn, rfl⟩
    exact ⟨n, (hl n).1 hn, (hm n (linesUp_lt hn)).symm⟩
  · rintro ⟨n, hn, rfl⟩
    exact ⟨n, (hl n).2 hn, hm n (linesUp_lt hn)⟩

/-- An ACTIVE bit that is 1 stays 1 when another vector is signalled, and the vector signalled is active. -/
theorem vecActive_signal {v w : Nat} (hv : v < 128) (s : State) (h : vecActive s w = true ∨ w = v) :
    vecActive (signal s v) w = true := by
  unfold signal
  split
  · rcases h with h | rfl
    · exact h
    · assumption
  · have e : ∀ (u : State) (x : Nat), rget (sendMsg x u) (A.GLB_VEC_ACTIVE (w / 32)) = rget u (A.GLB_VEC_ACTIVE (w / 32)) :=
      fun u x => rget_congr (sendMsg_regs x u) _
    unfold vecActive bitAt
    rw [e]
    by_cases ha : A.GLB_VEC_ACTIVE (v / 32) = A.GLB_VEC_ACTIVE (w / 32)
    · unfold forBits
      rw [ha, rget_rput_same, Nat.testBit_mod_two_pow, Nat.testBit_or]
      have hb : w % 32 < 32 := Nat.mod_lt _ (by decide)
      rcases h with h | rfl
      · unfold vecActive bitAt at h
        simp [h, hb]
      · simp [hb]
    · rw [rget_forBits_ne _ _ ha]
      rcases h with h | rfl
      · exact h
      · exact absurd rfl ha

end Machine
end Sys2Proof
end

