-- ==== Sys2Proof/Laws/Rest.lean ====
section
/-! SUPPORT. Laws/Rest.lean: the end of every command leaves a device at rest, and what the three shapes of a command leave of
a register. -/
namespace Sys2Proof
namespace Machine

/-- Signalling vectors changes no condition. -/
theorem mem_vectorsUp_signals (l : List Nat) (s : State) (h : ∀ v ∈ l, v < 128) (w : Nat) :
    w ∈ vectorsUp (l.foldl signal s) ↔ w ∈ vectorsUp s := by
  induction l generalizing s with
  | nil => rfl
  | cons v t ih => rw [List.foldl_cons, ih _ (fun w hw => h w (by simp [hw])), mem_vectorsUp_signal (h v (by simp))]
/-- The vectors signalled are active, and those that were remain so. -/
theorem vecActive_signals (l : List Nat) (s : State) (h : ∀ v ∈ l, v < 128) (w : Nat) (hw : vecActive s w = true ∨ w ∈ l) :
   vecActive (l.foldl signal s) w = true := by
  induction l generalizing s with
  | nil => simpa using hw
  | cons v t ih =>
    rw [List.foldl_cons]
    apply ih _ (fun w hw => h w (by simp [hw]))
    rcases hw with hw | hw
    · exact Or.inl (vecActive_signal (h v (by simp)) s (Or.inl hw))
    · rcases List.mem_cons.1 hw with rfl | hw
      · exact Or.inl (vecActive_signal (h w (by simp)) s (Or.inr rfl))
      · exact Or.inr hw

/-- What the end of every command leaves is at rest. -/
theorem settled_settle (s : State) : Settled (settle s) := by
  have f := settledFrom_settle s
  refine ⟨?_, ?_, ?_⟩
  · rw [modeOf_settledFrom f]
    unfold settle
    rw [deliver_glb, alertPin_shown, modeChange_shown, modeOf_settledFrom (settledFrom_driveOutputs s)]
  · rw [alertWanted_settledFrom f]
    unfold settle
    rw [deliver_hlt, alertPin_alert, alertWanted_settledFrom (settledFrom_modeChange _),
      alertWanted_settledFrom (settledFrom_driveOutputs s)]
  · intro hm v hv
    unfold settle at *
    generalize alertPin (modeChange (driveOutputs s)) = u at *
    have hu : msixEnabled u = true := by rw [← msixEnabled_settledFrom (settledFrom_deliver u)]; exact hm
    unfold deliver at *
    rw [if_pos hu] at *
    exact vecActive_signals _ u (vectorsUp_lt u) v (Or.inr ((mem_vectorsUp_signals _ u (vectorsUp_lt u) v).1 hv))

/-- The queue has no part in it. -/
theorem settled_pending {s : State} (h : Settled s) (p : List Instr) : Settled { s with pending := p } := h

/-- A register that the effect of a host command, the end of every command and a refused access leave keeps its value. -/
theorem rget_hostCmd {c : Instr} {a : Nat} {s t : State} {f : State → State} {r : Nat} (h : hostCmd c a s f = .next t)
  (h1 : r ∉ settleRegs) (h3 : r ∉ [A.HIF_ACC_ERR_STAT, A.HIF_ACC_ERR_ADDR, A.HIF_ACC_ERR_COUNT, A.HIF_INT_STAT])
  (hf : rget (f s) r = rget s r) : rget t r = rget s r := by
  unfold hostCmd command at h
  split at h
  · injection h with h; subst h
    split
    · rfl
    · rw [(settledFrom_after _ s).reg r h1]
      split
      · rfl
      · split
        · apply rget_accErr
          simp only [accRegs, List.mem_cons, List.not_mem_nil, or_false, not_or, settleRegs] at *
          simp [h1, h3, show F.HIF_ACC_ERR_COUNT_COUNT.addr = A.HIF_ACC_ERR_COUNT from rfl]
        · exact hf
  · cases h
/-- The same of a host read. -/
theorem rget_hostRead {c : Instr} {s t : State} {f : State → State} {r : Nat} (h : hostRead c s f = .next t)
  (h1 : r ∉ settleRegs) 
  (hf : rget (f s) r = rget s r) : rget t r = rget s r := by
  unfold hostRead command at h
  split at h
  · injection h with h; subst h
    split
    · rfl
    · rw [(settledFrom_after _ s).reg r h1]
      split
      · rfl
      · exact hf
  · cases h
/-- The same of a command of the device or of the outside. -/
theorem rget_command {c : Instr} {s t : State} {f : State → State} {r : Nat} (h : command c s f = .next t)
  (h1 : r ∉ settleRegs) 
  (hf : rget (f s) r = rget s r) : rget t r = rget s r := by
  unfold command at h
  split at h
  · injection h with h; subst h
    split
    · rfl
    · rw [(settledFrom_after _ s).reg r h1]
      exact hf
  · cases h

end Machine
end Sys2Proof
end

