-- ==== Sys2Proof/Tests/Slice0.lean ====
section
/-! SUPPORT. Tests/Slice0.lean: operands the device does not have, states that meet the hypotheses of every statement, and
worked examples of the spec. -/
namespace Sys2Proof
namespace Tests
open Machine
-- One theorem at a time: elaborated at once, the kernel's evaluations of so many small states take too many threads.
set_option Elab.async false
-- A clause's witness names every operand of its command, those the hypotheses leave free too.
set_option linter.unusedVariables false

/-! ### Operands the device does not have (WellFormed) -/

/-- Operands at the edge of what the device has: clocks 0 to 5, hearths 0 to 3, ports 0 to 75. -/
def edge_resets : List Instr :=
  [.refclkLost 0 5, .refclkRestored 0 5, .hearthReset 15,
   .hearthResetComplete 0 3, .portReset 75, .portResetRelease 75]
/-- The same commands with one operand beyond that edge. -/
def beyond_resets : List Instr :=
  [.refclkLost 0 6, .refclkRestored 0 6, .hearthReset 16,
   .hearthResetComplete 0 4, .portReset 76, .portResetRelease 76]
theorem test_wellFormed_resets : edge_resets.all wellFormed = true ∧ beyond_resets.all (fun c => !wellFormed c) = true := by decide +kernel

/-- Operands at the edge of what the device has: Ethernet ports 0 to 71, the mode field of four bits, fragment counts of two, at most eight lanes of 22-bit taps. -/
def edge_ports : List Instr :=
  [.frameArrival 0 71 false [], .frameReceiveEnd 0 71 false, .macControlFrame 0 71,
   .pauseTimerExpiry 0 71, .verifyMpacketReceived 0 71, .respondMpacketReceived 0 71,
   .verifyTimerExpiry 0 71, .linkConditionChange 0 71 ⟨true, true, true, true, false, false⟩, .linkHoldExpiry 0 71,
   .ledgerLineBoundary 0 71, .ledgerStart 0 71, .ldgBaseSubWrite 71 0,
   .helloTimer 0 71, .delayReqTimer 0 71, .upstreamCandidateExpiry 0 71,
   .fabPortCfgWrite 71 0, .linkTrainingComplete 0 ⟨71, [4194303, 1, 2, 3, 4, 5, 6, 7]⟩, .autonegResolved 0 71 15,
   .mmFragmentReceived 0 71 ⟨true, 3, 3, [], true, true, false⟩, .rehello 127, .queueSelection 0 75,
   .transmitEnd 0 75]
/-- The same commands with one operand beyond that edge. -/
def beyond_ports : List Instr :=
  [.frameArrival 0 72 false [], .frameReceiveEnd 0 72 false, .macControlFrame 0 72,
   .pauseTimerExpiry 0 72, .verifyMpacketReceived 0 72, .respondMpacketReceived 0 72,
   .verifyTimerExpiry 0 72, .linkConditionChange 0 72 ⟨true, true, true, true, false, false⟩, .linkHoldExpiry 0 72,
   .ledgerLineBoundary 0 72, .ledgerStart 0 72, .ldgBaseSubWrite 72 0,
   .helloTimer 0 72, .delayReqTimer 0 72, .upstreamCandidateExpiry 0 72,
   .fabPortCfgWrite 72 0, .linkTrainingComplete 0 ⟨72, []⟩, .linkTrainingComplete 0 ⟨71, [4194304]⟩,
   .linkTrainingComplete 0 ⟨71, [0, 1, 2, 3, 4, 5, 6, 7, 8]⟩, .autonegResolved 0 72 15, .autonegResolved 0 71 16,
   .mmFragmentReceived 0 72 ⟨true, 3, 3, [], true, true, false⟩, .mmFragmentReceived 0 71 ⟨true, 4, 0, [], true, true, false⟩, .mmFragmentReceived 0 71 ⟨true, 0, 4, [], true, true, false⟩,
   .rehello 128, .queueSelection 0 76, .transmitEnd 0 76]
theorem test_wellFormed_ports : edge_ports.all wellFormed = true ∧ beyond_ports.all (fun c => !wellFormed c) = true := by decide +kernel

/-- Operands at the edge of what the device has: hearths 0 to 3, contexts 0 to 3, table numbers of eight bits, fragment sets and ways, meters, templates, TCAM rows. -/
def edge_hearths : List Instr :=
  [.decisionPassStart 0 3, .vote 0 3 ⟨true, true, true, false, some 16383⟩, .tblRead 3 255 3 false,
   .tblWrite 3 255 3 false, .tblLookup 3 255 3 false, .tblInsert 3 255 3 false,
   .tblUpdate 3 255 3 false, .tblDelete 3 255 3 false, .hitScan 3 255 3 false,
   .tblAge 3 255 3 false, .tblFlush 3 255 3 false, .tblCmdComplete 0 3,
   .moverInsertion 0 3 8, .tblNoteW3Read 3, .hthExcCapRead 3,
   .fragmentEntryExpiry 0 3 2047 3, .tmplRead 511, .tmplWrite 511,
   .meterBackgroundRefresh 0 3 32767]
/-- The same commands with one operand beyond that edge. -/
def beyond_hearths : List Instr :=
  [.decisionPassStart 0 4, .vote 0 4 ⟨true, true, true, false, some 16383⟩, .vote 0 3 ⟨true, true, true, false, some 16384⟩,
   .tblRead 4 255 3 false, .tblRead 3 256 3 false, .tblRead 3 255 4 false,
   .tblWrite 4 255 3 false, .tblWrite 3 256 3 false, .tblWrite 3 255 4 false,
   .tblLookup 4 255 3 false, .tblLookup 3 256 3 false, .tblLookup 3 255 4 false,
   .tblInsert 4 255 3 false, .tblInsert 3 256 3 false, .tblInsert 3 255 4 false,
   .tblUpdate 4 255 3 false, .tblUpdate 3 256 3 false, .tblUpdate 3 255 4 false,
   .tblDelete 4 255 3 false, .tblDelete 3 256 3 false, .tblDelete 3 255 4 false,
   .hitScan 4 255 3 false, .hitScan 3 256 3 false, .hitScan 3 255 4 false,
   .tblAge 4 255 3 false, .tblAge 3 256 3 false, .tblAge 3 255 4 false,
   .tblFlush 4 255 3 false, .tblFlush 3 256 3 false, .tblFlush 3 255 4 false,
   .tblCmdComplete 0 4, .moverInsertion 0 4 8, .moverInsertion 0 3 9,
   .tblNoteW3Read 4, .hthExcCapRead 4, .fragmentEntryExpiry 0 4 2047 3,
   .fragmentEntryExpiry 0 3 2048 3, .fragmentEntryExpiry 0 3 2047 4, .tmplRead 512,
   .tmplWrite 512, .meterBackgroundRefresh 0 4 32767, .meterBackgroundRefresh 0 3 32768]
theorem test_wellFormed_hearths : edge_hearths.all wellFormed = true ∧ beyond_hearths.all (fun c => !wellFormed c) = true := by decide +kernel

/-- Operands at the edge of what the device has: ports 0 to 76, the queues each has, and the region and limit registers. -/
def edge_trafficManager : List Instr :=
  [.shaperRateWrite (.port 76) false 0, .shaperRateWrite (.queue 75 15) false 0, .shaperRateWrite (.queue 76 63) false 0,
   .tmRegionWrite 0xE0008 0, .tmRegionWrite 0xE1004 0, .tmRegionWrite 0xE12E4 0,
   .tmRegionWrite 0xF48E4 0]
/-- The same commands with one operand beyond that edge. -/
def beyond_trafficManager : List Instr :=
  [.shaperRateWrite (.port 77) false 0, .shaperRateWrite (.queue 75 16) false 0, .shaperRateWrite (.queue 76 64) false 0,
   .shaperRateWrite (.queue 77 0) false 0, .tmRegionWrite 0xE0004 0, .tmRegionWrite 0xE0010 0,
   .tmRegionWrite 0xE1000 0, .tmRegionWrite 0xE1008 0, .tmRegionWrite 0xE1300 0,
   .tmRegionWrite 0xE1304 0, .tmRegionWrite 0xE12E8 0, .tmRegionWrite 0xF4900 0,
   .tmRegionWrite 0xF4904 0]
theorem test_wellFormed_trafficManager : edge_trafficManager.all wellFormed = true ∧ beyond_trafficManager.all (fun c => !wellFormed c) = true := by decide +kernel

/-- Operands at the edge of what the device has: gates 0 to 4,095, pulse sources 0 and 1, action slots 0 to 31, pins 0 to 15. -/
def edge_time : List Instr :=
  [.streamGateLineStart 0 4095, .mainsEdge 0 1 ⟨0, 0⟩, .mainsLossTimeout 0 1,
   .timedActionArm 31 0, .timedActionFire 0 31, .gpioPulseEnd 0 15,
   .gpioEdge 0 15]
/-- The same commands with one operand beyond that edge. -/
def beyond_time : List Instr :=
  [.streamGateLineStart 0 4096, .mainsEdge 0 2 ⟨0, 0⟩, .mainsLossTimeout 0 2,
   .timedActionArm 32 0, .timedActionFire 0 32, .gpioPulseEnd 0 16,
   .gpioEdge 0 16]
theorem test_wellFormed_time : edge_time.all wellFormed = true ∧ beyond_time.all (fun c => !wellFormed c) = true := by decide +kernel

/-- Operands at the edge of what the device has: pools 0 to 7, owners 0 to 15, the return queue as target 8. -/
def edge_porter : List Instr :=
  [.porAlloc 7 15, .porFree 15, .porShare 15,
   .poolEnable 7 false, .poolDisable 7, .cacheRefill 0 7,
   .cacheSpill 0 7, .porterDmaErr 0 8]
/-- The same commands with one operand beyond that edge. -/
def beyond_porter : List Instr :=
  [.porAlloc 8 15, .porAlloc 7 16, .porFree 16,
   .porShare 16, .poolEnable 8 false, .poolDisable 8,
   .cacheRefill 0 8, .cacheSpill 0 8, .porterDmaErr 0 9]
theorem test_wellFormed_porter : edge_porter.all wellFormed = true ∧ beyond_porter.all (fun c => !wellFormed c) = true := by decide +kernel

/-- Operands at the edge of what the device has: rings and channels 0 to 63, errands 0 to 15 (R617). -/
def edge_drydock : List Instr :=
  [.channelEnable (.rx 63), .descriptorsPosted (.rx 63) 0, .descriptorFetch 0 (.rx 63) false,
   .channelDisable (.rx 63), .channelEnable (.tx 63), .descriptorsPosted (.tx 63) 0,
   .descriptorFetch 0 (.tx 63) false, .channelDisable (.tx 63), .dryStop (.rx 63),
   .channelStopped 0 (.rx 63), .resumeChannel (.rx 63), .dmaReadError 0 (.rx 63),
   .dryStop (.tx 63), .channelStopped 0 (.tx 63), .resumeChannel (.tx 63),
   .dmaReadError 0 (.tx 63), .dryStop (.err 15), .channelStopped 0 (.err 15),
   .resumeChannel (.err 15), .dmaReadError 0 (.err 15), .rxCopyHandover 0 63,
   .rxRoomAllocation 0 63, .rxCopyComplete 0 63, .rxIntModTimer 0 63,
   .txFrameRead 0 63, .txDescriptorComplete 0 63, .errandStart 15,
   .errandMove 0 15, .errandLoop 0 15, .errandWait 0 15,
   .waitComplete 0 15, .waitTimeout 0 15, .errandSignal 0 15,
   .errandFence 0 15, .errandEnd 0 15]
/-- The same commands with one operand beyond that edge. -/
def beyond_drydock : List Instr :=
  [.channelEnable (.rx 64), .descriptorsPosted (.rx 64) 0, .descriptorFetch 0 (.rx 64) false,
   .channelDisable (.rx 64), .channelEnable (.tx 64), .descriptorsPosted (.tx 64) 0,
   .descriptorFetch 0 (.tx 64) false, .channelDisable (.tx 64), .dryStop (.rx 64),
   .channelStopped 0 (.rx 64), .resumeChannel (.rx 64), .dmaReadError 0 (.rx 64),
   .dryStop (.tx 64), .channelStopped 0 (.tx 64), .resumeChannel (.tx 64),
   .dmaReadError 0 (.tx 64), .dryStop (.err 16), .channelStopped 0 (.err 16),
   .resumeChannel (.err 16), .dmaReadError 0 (.err 16), .rxCopyHandover 0 64,
   .rxRoomAllocation 0 64, .rxCopyComplete 0 64, .rxIntModTimer 0 64,
   .txFrameRead 0 64, .txDescriptorComplete 0 64, .errandStart 16,
   .errandMove 0 16, .errandLoop 0 16, .errandWait 0 16,
   .waitComplete 0 16, .waitTimeout 0 16, .errandSignal 0 16,
   .errandFence 0 16, .errandEnd 0 16]
theorem test_wellFormed_drydock : edge_drydock.all wellFormed = true ∧ beyond_drydock.all (fun c => !wellFormed c) = true := by decide +kernel

/-- Operands at the edge of what the device has: event codes of 16 bits and their 32-bit fields; mailbox tags of eight bits and lengths of five. -/
def edge_records : List Instr :=
  [.eventRaise 0 65535 4294967295 4294967295 4294967295, .summaryTimer 0 65535, .ping 255 31,
   .getVersion 255 31, .avsStatus 255 31, .otpKeyHash 255 31,
   .otpRevoke 255 31, .otpImageKey 255 31, .otpRaiseSecver 255 31]
/-- The same commands with one operand beyond that edge. -/
def beyond_records : List Instr :=
  [.eventRaise 0 65536 4294967295 4294967295 4294967295, .eventRaise 0 65535 4294967296 4294967295 4294967295, .eventRaise 0 65535 4294967295 4294967296 4294967295,
   .eventRaise 0 65535 4294967295 4294967295 4294967296, .summaryTimer 0 65536, .ping 256 31,
   .ping 255 32, .getVersion 256 31, .getVersion 255 32,
   .avsStatus 256 31, .avsStatus 255 32, .otpKeyHash 256 31,
   .otpKeyHash 255 32, .otpRevoke 256 31, .otpRevoke 255 32,
   .otpImageKey 256 31, .otpImageKey 255 32, .otpRaiseSecver 256 31,
   .otpRaiseSecver 255 32]
theorem test_wellFormed_records : edge_records.all wellFormed = true ∧ beyond_records.all (fun c => !wellFormed c) = true := by decide +kernel

/-- Operands at the edge of what the device has: vectors 0 to 127; DWORDs of BAR0 and BAR2 (R156), four byte enables; the settings a PCI Express link can have. -/
def edge_host : List Instr :=
  [.msixUnmask (.unmask (some 127)), .msixUnmask (.tableRead 511), .msixUnmask (.tableWrite 511 1),
   .msixUnmask (.pbaRead 3), .msixUnmask (.cfgRead (.bar 5)), .msixUnmask (.cfgWrite (.capabilities 9) 0),
   .msixUnmask (.pageSlot 8191), .msixUnmask (.pageDword 16383), .rcRegisterRead 0xFFFFFC 15,
   .unassignedRead 0xFFFFFC 15, .registerWrite 0xFFFFFC 15 0, .unalignedRead 0xFFFFFC 1,
   .bar2Write 0xFFFC, .poisoned true 0xFFFC, .poisoned false 0xFFFFFC,
   .hostLinkUp 0 5 8 ⟨true, false, true, 512, 4096⟩]
/-- The same commands with one operand beyond that edge. -/
def beyond_host : List Instr :=
  [.msixUnmask (.unmask (some 128)), .msixUnmask (.tableRead 512), .msixUnmask (.tableWrite 512 1),
   .msixUnmask (.pbaRead 4), .msixUnmask (.cfgRead (.bar 6)), .msixUnmask (.cfgWrite (.capabilities 10) 0),
   .msixUnmask (.pageSlot 8192), .msixUnmask (.pageDword 16384), .rcRegisterRead 0x1000000 15,
   .rcRegisterRead 2 15, .rcRegisterRead 0xFFFFFC 16, .unassignedRead 0x1000000 15,
   .unassignedRead 2 15, .unassignedRead 0xFFFFFC 16, .registerWrite 0x1000000 15 0,
   .registerWrite 2 15 0, .registerWrite 0xFFFFFC 16 0, .unalignedRead 0x1000000 1,
   .unalignedRead 2 1, .unalignedRead 0xFFFFFC 0, .unalignedRead 0xFFFFFC 2,
   .unalignedRead 0xFFFFFC 1025, .bar2Write 0x10000, .bar2Write 2,
   .poisoned true 0x10000, .poisoned false 0x1000000, .poisoned false 1,
   .hostLinkUp 0 0 8 ⟨true, false, true, 512, 4096⟩, .hostLinkUp 0 6 8 ⟨true, false, true, 512, 4096⟩, .hostLinkUp 0 5 3 ⟨true, false, true, 512, 4096⟩,
   .hostLinkUp 0 5 16 ⟨true, false, true, 512, 4096⟩, .hostLinkUp 0 5 8 ⟨true, false, true, 1024, 512⟩, .hostLinkUp 0 5 8 ⟨true, false, true, 256, 8192⟩]
theorem test_wellFormed_host : edge_host.all wellFormed = true ∧ beyond_host.all (fun c => !wellFormed c) = true := by decide +kernel

/-- Operands at the edge of what the device has: copies 0 to 2, ECC words, banks 0 to 63, as many readings as there are monitors (R716), BIST targets. -/
def edge_health : List Instr :=
  [.fenceCopy 3 2, .unfence 3, .copyBist 0 3 false,
   .scrubAccess 0 ⟨4, 15, 255, 0xFFFFF⟩ 3, .tcamScrub 0 3 false 16383 false false, .spare 63,
   .bankSpared 0 63, .bankWithdrawn 0 63, .monitorPoll 0 ⟨List.replicate 16 none, List.replicate 12 none, List.replicate 32 none⟩,
   .monitorCrit 0 true 11 0, .monitorCrit 0 false 15 0, .bistRun 31,
   .bistComplete 0 31]
/-- The same commands with one operand beyond that edge. -/
def beyond_health : List Instr :=
  [.fenceCopy 4 2, .fenceCopy 3 3, .unfence 4,
   .copyBist 0 4 false, .scrubAccess 0 ⟨5, 0, 0, 0⟩ 3, .scrubAccess 0 ⟨0, 16, 0, 0⟩ 3,
   .scrubAccess 0 ⟨0, 0, 256, 0⟩ 3, .scrubAccess 0 ⟨0, 0, 0, 0x100000⟩ 3, .scrubAccess 0 ⟨4, 15, 255, 0xFFFFF⟩ 4,
   .tcamScrub 0 4 false 16383 false false, .tcamScrub 0 3 false 16384 false false, .spare 64,
   .bankSpared 0 64, .bankWithdrawn 0 64, .monitorPoll 0 ⟨List.replicate 15 none, List.replicate 12 none, List.replicate 32 none⟩,
   .monitorPoll 0 ⟨List.replicate 16 none, List.replicate 13 none, List.replicate 32 none⟩, .monitorPoll 0 ⟨List.replicate 16 none, List.replicate 12 none, List.replicate 31 none⟩, .monitorCrit 0 true 12 0,
   .monitorCrit 0 false 16 0, .bistRun 32, .bistComplete 0 32]
theorem test_wellFormed_health : edge_health.all wellFormed = true ∧ beyond_health.all (fun c => !wellFormed c) = true := by decide +kernel

/-- Operands at the edge of what the device has: 256 bytes of QSPI data, two I2C buses and 32 bytes of their data, PHYs, devices and registers of MDIO, quadrants 0 to 3. -/
def edge_pins : List Instr :=
  [.qspiDone 0 (List.replicate 256 0), .i2cStart 1 0, .i2cDataWrite 1 0,
   .i2cDataRead 1, .i2cDone 0 1 5 (List.replicate 32 0), .c22Write 31 31,
   .c22Read 31 31, .c45Write 31 31 65535, .c45Read 31 31 65535,
   .mdioDone 0 false 65535, .quadrantTrainingStart 0 3]
/-- The same commands with one operand beyond that edge. -/
def beyond_pins : List Instr :=
  [.qspiDone 0 (List.replicate 257 0), .i2cStart 2 0, .i2cDataWrite 2 0,
   .i2cDataRead 2, .i2cDone 0 2 5 (List.replicate 32 0), .i2cDone 0 1 6 (List.replicate 32 0),
   .i2cDone 0 1 5 (List.replicate 33 0), .c22Write 32 31, .c22Write 31 32,
   .c22Read 32 31, .c22Read 31 32, .c45Write 32 31 65535,
   .c45Write 31 32 65535, .c45Write 31 31 65536, .c45Read 32 31 65535,
   .c45Read 31 32 65535, .c45Read 31 31 65536, .mdioDone 0 false 65536,
   .quadrantTrainingStart 0 4]
theorem test_wellFormed_pins : edge_pins.all wellFormed = true ∧ beyond_pins.all (fun c => !wellFormed c) = true := by decide +kernel

/-! ### Small states that meet the statements' hypotheses -/

/-- A device in base RUN, its clocks running and valid, its function a bus master. -/
def live : State :=
  { State.reset with
    glb := { Glb.cold with base := bRun, started := true }
    hif := { Hif.cold with busMaster := true }
    tim := { Tim.cold with running := true, valid := true }
    phs := { Phs.cold with running := true, valid := true }
    frg := { Frg.cold with active := some default } }
def atBase (b : Nat) (s : State) : State := { s with glb := { s.glb with base := b } }
def at' (n : Nat) (s : State) : State := { s with clk := n }
def puts (l : List (Nat × Nat)) (s : State) : State := l.foldl (fun s e => rput e.1 e.2 s) s
def fputs (l : List (Fld × Nat)) (s : State) : State := l.foldl (fun s e => fput e.1 e.2 s) s
/-- Flash whose slot A holds the header and the directory of an image that wakes: a 128-byte header, five directory entries. -/
def bootFlash : List (Nat × Byte) :=
  let entry (t o n : Nat) : List Nat := [t, 0, 0, 0, o % 256, o / 256, 0, 0, n % 256, n / 256, 0, 0] ++ List.replicate 36 0
  let head : List Nat := [0x41, 0x46, 0x52, 0x47, 1, 0, 128, 0, 1, 0, 0xFF, 0xFF, 0, 0, 0, 0, 0x80, 3, 0, 0, 5, 0, 1] ++ List.replicate 105 0
  let bytes := head ++ entry 2 384 16 ++ entry 3 448 16 ++ entry 5 512 16 ++ entry 6 576 16 ++ entry 15 640 256
  (List.range bytes.length).map (fun i => (0x10000 + i, BitVec.ofNat 8 (bytes.getD i 0)))
/-- Port 3 with its mode at 10 Gb/s, or another, and the rest of it as `f` makes it. -/
def port3 (f : PortSt → PortSt) (s : State) : State := putPort 3 (f { PortSt.cold with mode := 1 }) s
/-- Port 3 with its link up. -/
def up3 : State := fputs [(F.PRT_STATUS_LINK_UP 3, 1)] (port3 (fun x => x) live)
def goodCond : LinkCond :=
  { signal := true, blockLock := true, alignLock := true, fecLock := true, localFault := false, remoteFault := false }
def frame3 : Frame := newFrame (List.replicate 64 0) 3
def copy0 : Copy := plainCopy 0 64 0
/-- The egress port 3 in the middle of a frame. -/
def sending (pre : Bool) (len : Nat) : Sending :=
  { copy := copy0, queue := 0, out := [List.replicate len 0], len := len, sent := 0, fromClk := 0, pre := pre, invert := false
    stamp := 0, overrun := false, bank := 0, frag := 0, group := none }
def send3 (pre : Bool) (len : Nat) (s : State) : State :=
  putTx 3 { cur := some (sending pre len), susp := none, freeClk := 0, last := [] } s
/-- A ledger of port 3 in both banks. -/
def ledger3 (gates : Nat) (start : Option Int) (s : State) : State :=
  let l : Ledger := { bank := { mode := 1, cycle := 1, base := 0, initGates := gates, initHold := false,
                                lines := [{ gates := gates, dur := 100, hold := false }] }, start := start, late := false, waits := false }
  { s with ldg := { s.ldg with ledgers := [(6, l), (7, l)] } }
/-- A device that is a fabric member of role `r`. -/
def inFabric (r : Nat) : State := { live with frg := { live.frg with active := some { (default : Forging) with role := r } } }
/-- A Kixon frame of type `t` that came in at port 3, `b` its bytes from the 32nd on. -/
def kixon (t : Nat) (b : List Nat) : Frame :=
  { newFrame ((List.replicate 15 0 ++ [t] ++ List.replicate 16 0 ++ b ++ List.replicate 60 0).map (BitVec.ofNat 8)) 3 with whole := true }
def withKixon (f : Frame) (s : State) : State := putFrame 0 f { s with fab := { s.fab with passed := [0] } }
def withFab (p : Nat) (x : FabPort) (s : State) : State := { s with fab := { s.fab with ports := sput fabDefault s.fab.ports p x } }
def cmdOf (op table h : Nat) : TblCmd := { op := op, table := table, h := h, bank := false, clk := 0, next := 0, span := 0 }
def withCmd (op table h : Nat) (s : State) : State :=
  { s with tab := { s.tab with cmds := [(3, cmdOf op table h)], turn := some 3 } }
/-- Errand 15 in state `st` at instruction `pc` of the program that host memory holds at 0. -/
def errand (st pc : Nat) (b : List Nat) : State :=
  fputs [(fState (.err 15), st), (F.DRY_ERR_STATUS_PC 15, pc)] (memWrite (32 * pc) (b.map (BitVec.ofNat 8)) live)
/-- A transmit descriptor that ends a frame it does not begin, and one that holds a frame of `n` bytes whole, at address 0. -/
def endDesc : TxDesc := { addr := 0, bytes := List.replicate 63 0 ++ [0x20], read := false, kind := 0, remain := 0 }
def frameDesc (n : Nat) : TxDesc :=
  let l := [BitVec.ofNat 8 n, BitVec.ofNat 8 (n / 256)]
  { endDesc with bytes := List.replicate 8 0 ++ l ++ List.replicate 14 0 ++ l ++ List.replicate 37 0 ++ [0x60] }
/-- A copy of two bytes, or of none, on its way into rooms of pool 7. -/
def work (data : List Byte) (rooms : List Nat) : RxWork :=
  { copy := copy0, data := data, head := 0, owners := 1, pool := 7, size := 2048, need := 1, rooms := rooms, written := 0, wrote := 0 }
def withTx (x : TxChan) (s : State) : State := fputs [(fState (.tx 63), stRunning)] (putTxCh 63 x s)
def withRx (x : RxChan) (s : State) : State := putRx 63 x s
/-- The same with the quadrants of front ports let go. -/
def woken : State := { live with glb := { live.glb with quadrants := 4 } }
/-- Port 3 with its link up and preemption enabled. -/
def merge3 (v : Nat) : State :=
  fputs [(F.PRT_PREEMPT_EN 3, 1), (F.PRT_PREEMPT_STATUS_VERIFY_STATE 3, v), (F.PRT_PREEMPT_STATUS_ACTIVE 3, 1)] up3
def fragment3 (start : Bool) : Fragment :=
  { start := start, frameCount := 3, fragCount := 3, bytes := [1, 2], last := false, crcOk := true, codeError := false }
/-- A pass over frame 0 that entered at clock 0 and has come through its stages. -/
def pass0 : Pass := { newPass 0 0 false none none with stage := 5 }
/-- The clock 490 of that pass, over frame `f`. -/
def voting (f : Frame) (l : List (Nat × Nat)) : State := at' 490 (puts l (putFrame 0 f (putPipe 0 [pass0] live)))
/-- A learning write waits for the mover, over a table that has room, and over one whose buckets for it are full. -/
def learn0 : Learn := { hearth := 0, bd := 0, mac := 0, kind := 0, dest := 3, egress := false }
def learning : State := { live with tab := { live.tab with mover := [(0, [learn0])] } }
def fullBuckets : State :=
  (waysOf 55129 ++ waysOf 5930).foldl (fun s i => putEntry tFdb 0 0 i [5, 0, 2 ^ 31, 0] s) learning
/-- Only the way's place among four matters of the way that the mover tries first. -/
theorem findChain_mod (s : State) (h t : Nat) (p : HashSpec) (rot n : Nat) (front : List (Nat × List Nat)) (seen : List Nat) :
    findChain s h t p (rot % 4) n front seen = findChain s h t p rot n front seen := by
  induction n generalizing front seen with
  | zero => rfl
  | succ n ih => simp only [findChain, chainStep, Nat.add_mod_mod, ih]
/-- Whichever way the mover tries first, a chain of one move frees a way of the full buckets. -/
theorem chainFound : (findChain fullBuckets 0 tFdb { buckets := 65536, seed0 := 0x9E3779B9, seed1 := 0x7F4A7C15, keyWords := 2 }
    (Config.moverWay fullBuckets.free) (maxMoves fullBuckets) [(55129, []), (5930, [])] [55129, 5930]).isSome = true := by
  have every : ∀ r, r < 4 → (findChain fullBuckets 0 tFdb
      { buckets := 65536, seed0 := 0x9E3779B9, seed1 := 0x7F4A7C15, keyWords := 2 }
      r (maxMoves fullBuckets) [(55129, []), (5930, [])] [55129, 5930]).isSome = true := by decide +kernel
  rw [← findChain_mod]
  exact every _ (Nat.mod_lt _ (by decide))
/-- A harvest of group 19 of which `n` counters are written. -/
def harvest19 (n : Nat) (header : Bool) : Harvest :=
  { mask := 2 ^ 19, addr := 0, snapSeq := 1, snapWords := List.replicate 7 0, source := 1, clk := 0, overtaken := 0, written := n
    header := header }
def harvesting (n : Nat) (header : Bool) : State := { live with clk := 1000, tal := { live.tal with harvest := some (harvest19 n header) } }
/-- A log of one record, an input queue of one event. -/
def record0 : GbkRecord :=
  { seq := 0, code := 0x0105, sev := 1, unset := false, summary := false, unit := 3, time := List.replicate 12 0, arg0 := 1, arg1 := 2
    put := 0 }
def logged : State := { live with clk := 1, gbk := { live.gbk with log := [record0] } }

theorem elapsedNow {s : State} (h : held s = false) : Elapsed 0 s s := ⟨h, passTime_zero s⟩
theorem hostReady {s : State} {a : Nat} (h : held s = false ∧ s.hif.d3hot = false ∧ resetBusy s a = false) : HostReady s a := h
def wresetPinSuppliesAndCoreClock_0 : State := { State.reset with glb := { Glb.cold with heldPin := true } }
def wresetPinSuppliesAndCoreClock_2 : State := { State.reset with glb := { Glb.cold with heldSupply := true } }
def wresetPinSuppliesAndCoreClock_4 : State := { State.reset with clk := 140000, glb := { Glb.cold with coreLost := some 0 } }
def wresetPinSuppliesAndCoreClock_5 : State := { State.reset with clk := 139999, glb := { Glb.cold with coreLost := some 0 } }
def wwarmAndFunctionResets_1 : State := { live with glb := { live.glb with warmBusy := true } }
def wforgingLoadsOpenAndTakeBytes_2 : State := { live with frg := { live.frg with load := some { shadow := false, slot := none, other := none, bytes := [] } } }
def wforgingLoadsOpenAndTakeBytes_3 : State := { State.reset with glb := { Glb.cold with started := true, bootDue := true }, frg := { Frg.cold with flash := bootFlash } }
def wforgingLoadsOpenAndTakeBytes_4 : State := { State.reset with glb := { Glb.cold with started := true, bootDue := true }, frg := { Frg.cold with flash := bootFlash } }
def wforgingLoadsOpenAndTakeBytes_5 : State := puts [(A.FRG_LOAD_LEN, 1000)] (fputs [(F.FRG_STATUS_STATE, frgReceiving)] (atBase bDormant ({ live with frg := { live.frg with load := some { shadow := false, slot := none, other := none, bytes := [] } } })))
def wforgingLoadsEnd_0 : State := fputs [(F.FRG_STATUS_STATE, frgReceiving)] ({ live with frg := { live.frg with load := some { shadow := false, slot := some 0, other := none, bytes := List.replicate 128 0 } } })
def wforgingLoadsEnd_1 : State := fputs [(F.FRG_STATUS_STATE, frgVerifying)] ({ live with frg := { live.frg with load := some { shadow := false, slot := none, other := none, bytes := [] } } })
def wtemperingCommandsAndCommit_0 : State := fputs [(F.FRG_STATUS_STATE, frgShadowReady), (F.FRG_TEMPER_CTL_HEARTH_MASK, 15)] (puts [(A.FRG_COMMIT_CYCLE_HI, 1)] ({ live with frg := { live.frg with tempering := true } }))
def wtemperingCommandsAndCommit_1 : State := fputs [(F.FRG_STATUS_STATE, frgPartial), (F.FRG_TEMPER_CTL_HEARTH_MASK, 15)] (puts [(A.FRG_COMMIT_CYCLE_HI, 1)] ({ live with frg := { live.frg with tempering := true, onBank1 := [0] } }))
def wtemperingCommandsAndCommit_2 : State := { live with frg := { live.frg with tempering := true, armed := some { mask := [0], instant := 0, bank := 1, fromState := frgShadowReady, clk := 0, now := false, trigger := none } } }
def wtemperingCommandsAndCommit_3 : State := fputs [(F.FRG_STATUS_STATE, frgDraining)] live
def wtemperingCommandsAndCommit_4 : State := { live with frg := { live.frg with tempering := true, armed := some { mask := [0], instant := 0, bank := 1, fromState := frgShadowReady, clk := 0, now := false, trigger := none } } }
def wtemperingCommandsAndCommit_5 : State := fputs [(F.FRG_STATUS_STATE, frgDraining)] live
def wtemperingCommandsAndCommit_6 : State := at' 100000000000 (putFrame 0 { newFrame [] 3 with tagger := some 0, gen := 1 } (fputs [(F.FRG_STATUS_STATE, frgDraining)] { live with frg := { live.frg with tempering := true } }))
def wmodeCommandsMoveTheBaseState_1 : State := putFrame 0 (newFrame [] 3) (putQueue 0 [{ plainCopy 0 64 0 with mgmt := false }] (atBase bDraining live))
def wtimersMoveTheBaseState_0 : State := at' 1000000000000 (atBase bWaking live)
def wtimersMoveTheBaseState_2 : State := at' 1000000000000 (putFrame 0 (newFrame [] 3) (putQueue 0 [{ plainCopy 0 64 0 with mgmt := false }] (atBase bDraining live)))
def whearthAndPortResets_1 : State := { live with glb := { live.glb with hearthRst := [3] } }
def whearthAndPortResets_3 : State := puts [(A.GLB_PORT_RST_0 + 8, 2048)] live
def whearthAndPortResets_4 : State := { live with clk := 70000000, glb := { live.glb with quadrants := 3 } }
def wportsReceiveFrames_1 : State := putFrame 0 frame3 (port3 (fun x => { x with rx := [0] }) up3)
def wportsReceiveFrames_2 : State := fputs [(F.PRT_MAC_CFG_PAUSE_RX_EN 3, 1)] (port3 (fun x => { x with ctl := some ([1, 0x80, 0xC2, 0, 0, 1, 0, 0, 0, 0, 0, 0, 0x88, 8, 0, 1, 0, 9] ++ List.replicate 46 0) }) up3)
def wportsReceiveFrames_3 : State := at' 1000000 (port3 (fun x => { x with quanta := 1 }) up3)
def wlinksFollowTheirConditions_1 : State := at' 1000000000 (port3 (fun x => { x with cond := goodCond, holdClk := some 0 }) woken)
def wlinksFollowTheirConditions_2 : State := port3 (fun x => { x with anEn := true }) woken
def wlinksFollowTheirConditions_3 : State := fputs [(F.PRT_STATUS_AN_DONE 3, 1)] (port3 (fun x => { x with anEn := true, ltEn := true }) woken)
def wdecisionPathsTakeAndVote_0 : State := putFrame 0 frame3 (putRecirc 0 [(0, none)] live)
def wdecisionPathsTakeAndVote_1 : State := putFrame 0 frame3 (putIngress 3 [0] live)
def wdecisionPathsTakeAndVote_3 : State := voting { frame3 with kixon := true } []
def wdecisionPathsTakeAndVote_5 : State := voting frame3 [(A.HLT_FENCE_CFG, 1)]
def wportsTransmitByTheCalendar_0 : State := port3 (fun x => { x with mpk := [0] }) up3
def wportsTransmitByTheCalendar_1 : State := putFrame 0 { frame3 with whole := true } (putQueue (qkey 3 0) [copy0] (fputs [(F.PRT_STATUS_LINK_UP 3, 1)] (port3 (fun x => x) ({ live with frg := { live.frg with bank0 := some { (default : Forging) with content := { (default : Content) with calendars := List.replicate 76 [16, 0] } } } }))))
def wportsTransmitByTheCalendar_2 : State := at' 1000000 (putFrame 0 { frame3 with whole := true } (send3 false 64 up3))
def wportsTransmitByTheCalendar_3 : State := fputs [(F.TM_QGATED_GATED 3, 0xFFFF)] (ledger3 0 none (putFrame 0 frame3 (send3 false 64 up3)))
def wportsTransmitByTheCalendar_4 : State := fputs [(F.TM_QGATED_GATED 3, 0xFFFF)] (ledger3 0 (some 0) (putFrame 0 frame3 (send3 true 1000 (merge3 0))))
def wgatesAndLedgerBases_0 : State := { live with ldg := { live.ldg with gates := [(8191, { words := [2 ^ 31 + 2 ^ 29 + 1, 0, 0, 0, 1] ++ List.replicate 11 0 ++ [2 ^ 31, 100], start := some 0, late := false, waits := false, occ := 0, bytes := 7 })] } }
def wgatesAndLedgerBases_1 : State := fputs [(F.FRG_STATUS_STATE, frgArmed)] live
def wphaseReferencesAreFollowed_0 : State := fputs [(F.PHS_STATUS_NONE, 1)] live
def wphaseReferencesAreFollowed_2 : State := fputs [(F.PHS_STATUS_NONE, 0), (F.PHS_STATUS_SRC_USED, 1), (F.PHS_STATUS_LOCKED, 1)] { live with phs := { live.phs with acc := 2 ^ 71 } }
def wphaseReferencesAreFollowed_3 : State := at' 1000000000000 { live with phs := { live.phs with mainsB := { last := some 0, period := some 28000000, run := 5, gap := false } } }
def wphaseReferencesAreFollowed_4 : State := fputs [(F.PHS_STATUS_NONE, 1)] live
def wphaseReferencesAreFollowed_5 : State := at' 1000000000000 (setQual 2 true { live with phs := { live.phs with msg := [(0, 0, 0)] } })
def wphaseCommandsAndTheWrap_2 : State := fputs [(F.PHS_CTL_SRC_PRI, 1)] (setQual 1 true live)
def wphaseCommandsAndTheWrap_3 : State := { live with clk := 7, phs := { live.phs with acc := 2 ^ 72, setPending := true } }
def wtimedActionsArmAndFire_1 : State := fputs [(F.PHS_TA_CTL_ARM 31, 1), (F.PHS_TA_CTL_KIND 31, 4)] live
def wtimedActionsArmAndFire_2 : State := { live with pin := { live.pin with pulses := [(15, { high := true, ends := 0 })] } }
def wtimedActionsRepeat_0 : State := fputs [(F.PHS_TA_CTL_ARM 31, 1), (F.PHS_TA_CTL_KIND 31, 4)] live
def wtimedActionsRepeat_1 : State := fputs [(F.PHS_TA_CTL_ARM 31, 1), (F.PHS_TA_CTL_REPEAT 31, 1)] { live with phs := { live.phs with acc := 2 ^ 73 } }
def wtrackersFollowTheirSamples_1 : State := at' 1000000000000 (fputs [(F.TIM_STATUS_STATE_B, 2)] { live with tim := { live.tim with trkB := { f := 0, count := 1, last := some 0, used := true } } })
def wtrackersFollowTheirSamples_2 : State := fputs [(F.TIM_STATUS_STATE_B, 2)] live
def wstepsOfDeviceTime_0 : State := puts [(A.TIM_STEP_NS, 999999999)] { live with tim := { live.tim with t := 999999999 * timeUnit } }
def wstepsOfDeviceTime_1 : State := puts [(A.TIM_STEP_NS, 1000000000)] live
def wpulsesAndStamps_0 : State := fputs [(F.TIM_CTL_PPS_IN_EN, 1)] (puts [(A.TIM_PPS_IN_ADJ, 0)] { live with tim := { live.tim with t := timeMod - 1 } })
def wpulsesAndStamps_1 : State := fputs [(F.TIM_CTL_PPS_OUT_EN, 1)] { live with tim := { live.tim with t := secUnits } }
def wpulsesAndStamps_2 : State := { live with clk := 100000000000, tim := { live.tim with ppsHigh := true } }
def wpulsesAndStamps_3 : State := { live with tim := { live.tim with txts := [(1, 2, 3)] } }
def wkixonFramesAndTheHandshake_0 : State := putFrame 0 (kixon 1 []) { inFabric 2 with fab := { live.fab with rx := [0] } }
def wkixonFramesAndTheHandshake_1 : State := withKixon (kixon 1 []) (inFabric 2)
def wkixonFramesAndTheHandshake_2 : State := fputs [(F.FAB_PORT_STATUS_STATE 3, 1)] (withKixon (kixon 2 []) (inFabric 2))
def wkixonFramesAndTheHandshake_3 : State := at' 140000000 (fputs [(F.FAB_PORT_STATUS_STATE 71, 1), (F.FAB_PORT_CFG_EN 71, 1)] (inFabric 1))
def wkixonFramesAndTheHandshake_4 : State := fputs [(F.FAB_PORT_STATUS_STATE 71, 2), (F.FAB_PORT_CFG_EN 71, 1)] (inFabric 1)
def wkixonFramesAndTheHandshake_5 : State := withKixon (kixon 3 []) (inFabric 2)
def wkixonFramesAndTheHandshake_6 : State := withKixon (kixon 4 []) (withFab 3 { fabDefault 0 with reqSent := some (0, 0) } (inFabric 2))
def wkixonFramesAndTheHandshake_7 : State := fputs [(F.FAB_PORT_CFG_EN 71, 1)] (inFabric 1)
def wfabricTimeTriggersAndHeartbeats_0 : State := at' 1000000000000 (fputs [(F.FAB_STATUS_KEEPER_STATE, 2)] (inFabric 1))
def wfabricTimeTriggersAndHeartbeats_1 : State := withKixon (kixon 0x10 []) (inFabric 2)
def wfabricTimeTriggersAndHeartbeats_3 : State := withKixon (kixon 0x11 [0, 0, 0, 0, 0, 0, 0, 0, 0, 0, 0, 1]) { inFabric 2 with fab := { live.fab with standing := some (0, 0), lastTrig := some 0 } }
def wfabricTimeTriggersAndHeartbeats_4 : State := withKixon (kixon 0x23 []) (inFabric 2)
def wfabricTimeTriggersAndHeartbeats_6 : State := withKixon (kixon 0x20 []) (fputs [(F.FAB_STATUS_KEEPER_STATE, 2)] (inFabric 1))
def wfabricTimeTriggersAndHeartbeats_7 : State := putFrame 0 (kixon 0x20 []) { inFabric 1 with fab := { live.fab with join := [0] } }
def wkeeperCommands_1 : State := fputs [(F.FAB_STATUS_KEEPER_STATE, 2)] (inFabric 1)
def wkeeperCommands_2 : State := fputs [(F.FAB_STATUS_KEEPER_STATE, 2), (F.FAB_TRIG_CTL_KIND, 5)] (inFabric 1)
def wkeeperCommands_3 : State := { inFabric 1 with clk := 1400000, fab := { live.fab with trig := some { payload := [], left := 1, clk := 0 } } }
def wkeeperCommands_4 : State := { inFabric 1 with fab := { live.fab with keyStandby := some default } }
def wkeeperCommands_5 : State := { inFabric 1 with fab := { live.fab with keyStandby := some default, keySwitch := [0] } }
def wkeeperCommands_6 : State := fputs [(F.FAB_SELF_DEVICE_ID, 0xFFFF)] (inFabric 2)
def wtableCommandsAreIssuedAndCompleted_3 : State := fputs [(F.TBL_INDEX_INDEX 3, 16383)] (withCmd 1 tTcam 3 live)
def wtableCommandsAreIssuedAndCompleted_4 : State := fputs [(F.TBL_INDEX_INDEX 3, 4095)] (withCmd 2 tBd 3 live)
def wtableCommandsAreIssuedAndCompleted_5 : State := puts [(A.TBL_DATA 3 2, 2 ^ 31)] (withCmd 4 tFdb 0 live)
def wtableCommandsAreIssuedAndCompleted_6 : State := putEntry tFdb 0 0 220516 [0, 0, 2 ^ 31, 0] (puts [(A.TBL_DATA 3 2, 2 ^ 31)] (withCmd 4 tFdb 0 live))
def wtableCommandsAreIssuedAndCompleted_7 : State := putEntry tFdb 0 0 220516 [0, 0, 2 ^ 31, 0] (withCmd 6 tFdb 0 live)
def wtableCommandsAreIssuedAndCompleted_8 : State := fputs [(F.TBL_INDEX_INDEX 3, 220516)] (putEntry tFdb 0 0 220516 [0, 0, 2 ^ 31, 0] (withCmd 8 tFdb 0 live))
def wmoversNotesAndTemplates_0 : State := putEntry tFdb 0 0 220516 [0, 0, 2 ^ 31, 0] learning
def wmoversNotesAndTemplates_5 : State := { live with dp := { live.dp with frags := [(8192 * 3 + 4 * 2047 + 3, { key := [], saved := [], written := 0, expires := 0 })] } }
def wmoversNotesAndTemplates_7 : State := { live with fry := { live.fry with cmd := some (2, 511) } }
def wmoversNotesAndTemplates_8 : State := { live with fry := { live.fry with cmd := some (1, 511) } }
def wshapersRegionsAndSamples_2 : State := at' 1000000000 (fputs [(F.TM_SAMPLE_CFG_PERIOD_US, 7)] live)
def wporterCommandsMoveOwners_1 : State := { fputs [(F.POR_POOL_CTL_EN 7, 1), (F.POR_POOL_COUNT_COUNT 7, 6), (F.POR_CMD_ARG_ARG, 15)] (puts [(A.POR_CMD_HANDLE, 7 * 2 ^ 29 + 5)] live) with por := { live.por with cmd := some (1, 7, 15), masks := [], caches := [(7, [7 * 2 ^ 29 + 5])] } }
def wporterCommandsMoveOwners_2 : State := { fputs [(F.POR_POOL_CTL_EN 7, 0), (F.POR_POOL_COUNT_COUNT 7, 6), (F.POR_CMD_ARG_ARG, 1)] (puts [(A.POR_CMD_HANDLE, 7 * 2 ^ 29 + 5)] live) with por := { live.por with cmd := some (2, 0, 15), masks := [(5, 0x8000)], caches := [(7, [7 * 2 ^ 29 + 5])] } }
def wporterCommandsMoveOwners_3 : State := { fputs [(F.POR_POOL_CTL_EN 7, 0), (F.POR_POOL_COUNT_COUNT 7, 6), (F.POR_CMD_ARG_ARG, 1)] (puts [(A.POR_CMD_HANDLE, 7 * 2 ^ 29 + 5)] live) with por := { live.por with cmd := some (2, 0, 15), masks := [], caches := [(7, [7 * 2 ^ 29 + 5])] } }
def wporterCommandsMoveOwners_4 : State := { fputs [(F.POR_POOL_CTL_EN 7, 1), (F.POR_POOL_COUNT_COUNT 7, 6), (F.POR_CMD_ARG_ARG, 1)] (puts [(A.POR_CMD_HANDLE, 7 * 2 ^ 29 + 5)] live) with por := { live.por with cmd := some (4, 0, 15), masks := [(5, 0x8000)], caches := [(7, [7 * 2 ^ 29 + 5])] } }
def wshareAddsOwners_0 : State := { fputs [(F.POR_POOL_CTL_EN 7, 1), (F.POR_POOL_COUNT_COUNT 7, 6), (F.POR_CMD_ARG_ARG, 7)] (puts [(A.POR_CMD_HANDLE, 7 * 2 ^ 29 + 5)] live) with por := { live.por with cmd := some (3, 0, 15), masks := [(5, 0x8000)], caches := [(7, [7 * 2 ^ 29 + 5])] } }
def wpoolsCachesAndReturns_1 : State := fputs [(F.POR_POOL_CTL_EN 7, 1)] live
def wpoolsCachesAndReturns_2 : State := puts [(A.POR_RING_TAIL 7, 40)] (fputs [(F.POR_POOL_CTL_EN 7, 1)] live)
def wpoolsCachesAndReturns_3 : State := putCache 7 (List.range 48) (fputs [(F.POR_POOL_CTL_EN 7, 1)] live)
def wpoolsCachesAndReturns_4 : State := putOver 7 [9] (fputs [(F.POR_POOL_CTL_EN 7, 1)] live)
def wpoolsCachesAndReturns_5 : State := { fputs [(F.POR_RET_CTL_EN, 1), (F.POR_POOL_COUNT_COUNT 0, 1)] (puts [(A.POR_RET_TAIL, 1)] live) with por := { live.por with masks := [(0, 1)] } }
def wpoolsCachesAndReturns_6 : State := puts [(A.POR_RING_TAIL 7, 40)] (fputs [(F.POR_POOL_CTL_EN 7, 1)] live)
def wpoolsCachesAndReturns_7 : State := fputs [(F.POR_RET_CTL_EN, 1)] (puts [(A.POR_RET_TAIL, 1)] live)
def wchannelsRunStopAndResume_2 : State := fputs [(fState (.rx 63), 1)] (puts [(dryBase (.rx 63) + 0x1C, 1)] (withRx { rxDefault 0 with atFirst := true } live))
def wchannelsRunStopAndResume_3 : State := puts [(dryBase (.tx 63) + 0x1C, 1)] (withTx { txChDefault 0 with atFirst := true } live)
def wchannelsRunStopAndResume_4 : State := puts [(dryBase (.tx 63) + 0x1C, 1)] (withTx { txChDefault 0 with atFirst := true } live)
def wchannelsRunStopAndResume_5 : State := fputs [(fState (.err 15), stWaiting)] live
def wchannelsRunStopAndResume_6 : State := fputs [(fState (.rx 63), stStopping)] live
def wchannelsRunStopAndResume_7 : State := fputs [(fState (.err 15), stStopping)] live
def wchannelsRunStopAndResume_8 : State := fputs [(fState (.err 15), stStopped)] live
def wchannelsRunStopAndResume_9 : State := fputs [(fState (.tx 63), stHalted)] live
def wframesCrossTheDrayman_0 : State := putFrame 0 { frame3 with whole := true } (putQueue (qkey 76 63) [copy0] (fputs [(fEn (.rx 63), 1), (fState (.rx 63), 1), (F.POR_RX_CFG_POOLS 63, 1), (F.POR_POOL_CTL_EN 0, 1), (F.POR_POOL_SIZE_BYTES 0, 2048)] (puts [(dryBase (.rx 63) + 0x1C, 1)] live)))
def wframesCrossTheDrayman_1 : State := withRx { rxDefault 0 with work := some (work [1, 2] [9]) } live
def wframesCrossTheDrayman_2 : State := putCache 7 [9] (fputs [(F.POR_POOL_CTL_EN 7, 1)] (withRx { rxDefault 0 with work := some (work [1, 2] []) } live))
def wframesCrossTheDrayman_3 : State := putFrame 0 { frame3 with whole := true } (withRx { rxDefault 0 with work := some (work [] [9]), ahead := [(0, 0)] } live)
def wframesCrossTheDrayman_4 : State := at' 7000 (fputs [(F.DRY_RX_INT_MOD_INT_USEC 63, 5)] (withRx { rxDefault 0 with since := some 0, count := 1 } live))
def wframesCrossTheDrayman_5 : State := withTx { txChDefault 0 with ahead := [frameDesc 300] } live
def wframesCrossTheDrayman_6 : State := withTx { txChDefault 0 with ahead := [frameDesc 14] } live
def wframesCrossTheDrayman_7 : State := withTx { txChDefault 0 with ahead := [endDesc] } live
def wframesCrossTheDrayman_8 : State := withTx { txChDefault 0 with ahead := [{ endDesc with read := true }] } live
def wframesCrossTheDrayman_9 : State := withTx { txChDefault 0 with ahead := [frameDesc 14] } live
def werrandsRunTheirInstructions_1 : State := errand stRunning 0 [0x21, 0, 0, 0, 4]
def werrandsRunTheirInstructions_2 : State := errand stRunning 1 [2, 0, 0, 0, 1]
def werrandsRunTheirInstructions_5 : State := at' 1400 (putErr 15 { errDefault 0 with waitClk := some 0 } (memWrite 20 [1] (errand stWaiting 0 [3])))
def wcountersAreLatchedClearedAndHarvested_2 : State := puts [(A.TAL_HV_MASK, 2 ^ 19), (A.TAL_HV_LIMIT, 64 + 8 * groupSize 19)] live
def wtheGuestbookKeepsItsRecords_0 : State := fputs [(F.GBK_RL_RATE_RATE (severityOf 0xFFFF), 0xFFFF)] live
def wtheGuestbookKeepsItsRecords_1 : State := { live with gbk := { live.gbk with queue := [{ code := 0x0105, unit := 3, arg0 := 1, arg1 := 2, unset := false, time := List.replicate 12 0, clk := 0 }] } }
def wtheGuestbookKeepsItsRecords_2 : State := { live with clk := 1000000000000, gbk := { live.gbk with suppressed := [(0x0105, { count := 3, first := 0, last := 0 })] } }
def wtheGuestbookKeepsItsRecords_6 : State := fputs [(F.GBK_SPILL_CTL_EN, 1), (F.GBK_SPILL_CTL_MIN_SEV, 0)] logged
def wtheMailboxCarriesCommands_1 : State := { live with hif := { live.hif with mbxCmd := some (opPing, 255, 16, List.replicate 16 0, 0) } }
def wtheMailboxCarriesCommands_2 : State := { live with hif := { live.hif with mbxCmd := some (opPing, 255, 16, List.replicate 16 0, 0) } }
def wtheMailboxCarriesCommands_3 : State := { live with hif := { live.hif with mbxCmd := some (opOtpKeyHash, 255, 13, List.replicate 16 0, 0) } }
def wtheMailboxCarriesCommands_4 : State := at' 1000000000000 ({ live with hif := { live.hif with mbxCmd := some (opPing, 255, 16, List.replicate 16 0, 0) } })
def wregisterAccessesAndVectors_9 : State := fputs [(F.HIF_LINK_MSIX_EN, 1)] { live with hif := { live.hif with pba := [127] } }
def wvotersBanksAndBist_1 : State := puts [(A.HLT_FENCE, 0xA000), (A.HLT_FENCE_STATUS, 0x2000)] live
def wvotersBanksAndBist_2 : State := puts [(A.HLT_FENCE, 0xA000), (A.HLT_FENCE_STATUS, 0x2000)] live
def wvotersBanksAndBist_7 : State := { live with clk := 24576, hlt := { live.hlt with sparing := [{ bank := 63, spare := 3, clk := 0 }] } }
def wvotersBanksAndBist_8 : State := { live with hlt := { live.hlt with withdrawing := [63] } }
def wvotersBanksAndBist_10 : State := fputs [(F.HLT_BIST_STATUS_STATE, 1)] (atBase bDiagnostic live)
def wserialControllersRunTheirCommands_1 : State := { live with pin := { live.pin with qspi := some 3 } }
def wserialControllersRunTheirCommands_2 : State := fputs [(F.PIN_I2C_CFG_EN 1, 1)] (setI2c 1 { i2cOf live 1 with tx := [7] } live)
def wserialControllersRunTheirCommands_3 : State := setI2c 1 { i2cOf live 1 with tx := [7], cmd := some (1, 1, 1) } live
def wserialControllersRunTheirCommands_5 : State := setI2c 1 { i2cOf live 1 with rx := [7] } live
def wserialControllersRunTheirCommands_7 : State := { live with pin := { live.pin with mdio := some (1, 2, 3, 4) } }
def wclocksLedsAndJtag_4 : State := fputs [(F.PIN_LED_CFG_EN, 1), (F.PIN_LED_CFG_INVERT, 0)] live
def wgpioEdgesAreKept_0 : State := puts [(A.PIN_GPIO_DIR, 0), (A.PIN_GPIO_EDGE_EN, 0x8000)] live
def wgpioEdgesAreKept_1 : State := puts [(A.PIN_GPIO_DIR, 0x8000), (A.PIN_GPIO_EDGE_EN, 0x8000)] live
/-- The hypotheses of `Obligations.ResetPinSuppliesAndCoreClock` are met, clause by clause. -/
theorem test_witness_ResetPinSuppliesAndCoreClock :
    (∃ (dt : Nat) (s : State), s.glb.heldPin = true ∧ s.glb.heldSupply = false ∧ s.glb.heldClock = false ∧ s.glb.started = false) ∧
    (∃ (dt : Nat) (s : State), held s = false) ∧
    (∃ (dt : Nat) (s : State), s.glb.heldSupply = true ∧ s.glb.heldClock = false ∧ s.glb.started = false) ∧
    (∃ (dt : Nat) (s : State), held s = false ∧ (passTime dt s).glb.coreLost = none) ∧
    (∃ (dt : Nat) (c : Nat) (s : State), held s = false ∧ (passTime dt s).glb.coreLost = some c ∧ c + 140000 ≤ (passTime dt s).clk) ∧
    (∃ (dt : Nat) (c : Nat) (s : State), held s = false ∧ (passTime dt s).glb.coreLost = some c ∧ (passTime dt s).clk < c + 140000 ∧ (passTime dt s).glb.heldClock = false) :=
  ⟨⟨0, wresetPinSuppliesAndCoreClock_0, by decide +kernel⟩,
   ⟨0, live, by decide +kernel⟩,
   ⟨0, wresetPinSuppliesAndCoreClock_2, by decide +kernel⟩,
   ⟨0, live, by decide +kernel⟩,
   ⟨0, _, wresetPinSuppliesAndCoreClock_4, by decide +kernel, rfl, by decide +kernel⟩,
   ⟨0, _, wresetPinSuppliesAndCoreClock_5, by decide +kernel, rfl, by decide +kernel⟩⟩

/-- The hypotheses of `Obligations.WarmAndFunctionResets` are met, clause by clause. -/
theorem test_witness_WarmAndFunctionResets :
    (∃ (s : State), HostReady s A.GLB_RESET ∧ s.glb.warmBusy = false) ∧
    (∃ (dt : Nat) (s : State), held s = false ∧ (passTime dt s).glb.warmBusy = true) ∧
    (∃ (s : State), held s = false) ∧
    (∃ (cause : HostLoss) (s : State), held s = false ∧ (cause = .d3hotToD0 → s.hif.d3hot = true)) ∧
    (∃ (s : State), held s = false) ∧
    (∃ (dt : Nat) (speed : Nat) (width : Nat) (cfg : PcieCfg) (s : State), wellFormed (.hostLinkUp dt speed width cfg) = true ∧ held s = false) :=
  ⟨⟨live, hostReady (by decide +kernel), by decide +kernel⟩,
   ⟨0, wwarmAndFunctionResets_1, by decide +kernel⟩,
   ⟨live, by decide +kernel⟩,
   ⟨.perst, live, by decide +kernel⟩,
   ⟨live, by decide +kernel⟩,
   ⟨0, 5, 8, { msixEn := true, fnMask := false, busMaster := true, mps := 256, mrrs := 512 }, live, by decide +kernel⟩⟩

/-- The hypotheses of `Obligations.ForgingLoadsOpenAndTakeBytes` are met, clause by clause. -/
theorem test_witness_ForgingLoadsOpenAndTakeBytes :
    (∃ (s : State), HostReady s A.FRG_CTL ∧ frgState s = frgIdle ∧ (s.glb.base = bDormant ∨ s.glb.base = bQuiesced)) ∧
    (∃ (s : State), HostReady s A.FRG_CTL ∧ frgState s = frgIdle ∧ s.glb.base = bRun ∧ safeLatch s = false) ∧
    (∃ (s : State), HostReady s A.FRG_CTL ∧ s.frg.load.isSome = true) ∧
    (∃ (s : State) (k : Nat) (rest : List Nat), HostReady s A.FRG_CTL ∧ frgState s = frgIdle ∧ (s.glb.base = bDormant ∨ s.glb.base = bQuiesced) ∧ bootOrder (readHeaders s) = k :: rest ∧ slotDirOk (startSlot k rest.head? (readHeaders s)) = true) ∧
    (∃ (dt : Nat) (s : State) (k : Nat) (rest : List Nat), held s = false ∧ (passTime dt s).glb.bootDue = true ∧ frgState (passTime dt s) = frgIdle ∧ (passTime dt s).glb.base = bDormant ∧ bootOrder (readHeaders (passTime dt s)) = k :: rest ∧ slotDirOk (startSlot k rest.head? (readHeaders (passTime dt s))) = true) ∧
    (∃ (value : Word) (l : Load) (s : State), HostReady s (A.FRG_LOAD_PORT 0) ∧ s.frg.load = some l ∧ loadShut s l = false ∧ frgState s = frgReceiving ∧ l.slot = none ∧ l.bytes.length + 4 < 128 ∧ l.bytes.length + 4 < rget s A.FRG_LOAD_LEN) :=
  ⟨⟨atBase bQuiesced live, hostReady (by decide +kernel), by decide +kernel⟩,
   ⟨live, hostReady (by decide +kernel), by decide +kernel⟩,
   ⟨wforgingLoadsOpenAndTakeBytes_2, hostReady (by decide +kernel), by decide +kernel⟩,
   ⟨wforgingLoadsOpenAndTakeBytes_3, 0, [], hostReady (by decide +kernel), by decide +kernel⟩,
   ⟨0, wforgingLoadsOpenAndTakeBytes_4, 0, [], by decide +kernel⟩,
   ⟨0, _, wforgingLoadsOpenAndTakeBytes_5, hostReady (by decide +kernel), rfl, rfl, by decide +kernel, rfl, by decide +kernel⟩⟩

/-- The hypotheses of `Obligations.ForgingLoadsEnd` are met, clause by clause. -/
theorem test_witness_ForgingLoadsEnd :
    (∃ (dt : Nat) (l : Load) (s : State), held s = false ∧ (passTime dt s).frg.load = some l ∧ frgState (passTime dt s) = frgReceiving ∧ l.slot.isSome = true ∧ l.shadow = false ∧ 128 ≤ l.bytes.length ∧ dirEnd l.bytes ≤ l.bytes.length) ∧
    (∃ (dt : Nat) (l : Load) (s : State), held s = false ∧ (passTime dt s).frg.load = some l ∧ l.slot = none ∧ frgState (passTime dt s) = frgVerifying ∧ ostlerUp (passTime dt s) = true) :=
  ⟨⟨0, _, wforgingLoadsEnd_0, by decide +kernel, rfl, by decide +kernel, rfl, rfl, by decide +kernel⟩,
   ⟨0, _, wforgingLoadsEnd_1, by decide +kernel, rfl, rfl, by decide +kernel⟩⟩

/-- The hypotheses of `Obligations.TemperingCommandsAndCommit` are met, clause by clause. -/
theorem test_witness_TemperingCommandsAndCommit :
    (∃ (s : State), HostReady s A.FRG_CTL ∧ (frgState s = frgShadowReady ∨ frgState s = frgPartial) ∧ armMask s false (shadowBank s) ≠ [] ∧ phaseInstant s + fget s F.LDG_COMMIT_MARGIN_PU ≤ instantAt s A.FRG_COMMIT_CYCLE_HI) ∧
    (∃ (s : State), HostReady s A.FRG_CTL ∧ (frgState s = frgPartial ∨ frgState s = frgDraining) ∧ armMask s true (rollbackBank s) ≠ [] ∧ phaseInstant s + fget s F.LDG_COMMIT_MARGIN_PU ≤ instantAt s A.FRG_COMMIT_CYCLE_HI) ∧
    (∃ (a : Armed) (s : State), HostReady s A.FRG_CTL ∧ s.frg.armed = some a ∧ a.fromState < 16) ∧
    (∃ (s : State), HostReady s A.FRG_CTL ∧ frgState s = frgDraining) ∧
    (∃ (dt : Nat) (a : Armed) (s : State), held s = false ∧ commitDue (passTime dt s) = some a) ∧
    (∃ (dt : Nat) (s : State), held s = false ∧ barrierMet (passTime dt s) = true) ∧
    (∃ (dt : Nat) (s : State), held s = false ∧ drainLate (passTime dt s) = true) :=
  ⟨⟨wtemperingCommandsAndCommit_0, hostReady (by decide +kernel), by decide +kernel⟩,
   ⟨wtemperingCommandsAndCommit_1, hostReady (by decide +kernel), by decide +kernel⟩,
   ⟨_, wtemperingCommandsAndCommit_2, hostReady (by decide +kernel), rfl, by decide +kernel⟩,
   ⟨wtemperingCommandsAndCommit_3, hostReady (by decide +kernel), by decide +kernel⟩,
   ⟨0, _, wtemperingCommandsAndCommit_4, by decide +kernel, rfl⟩,
   ⟨0, wtemperingCommandsAndCommit_5, by decide +kernel⟩,
   ⟨0, wtemperingCommandsAndCommit_6, by decide +kernel⟩⟩

/-- The hypotheses of `Obligations.ModeCommandsMoveTheBaseState` are met, clause by clause. -/
theorem test_witness_ModeCommandsMoveTheBaseState :
    (∃ (s : State), HostReady s A.GLB_CTL ∧ s.glb.base = bRun ∧ frgState s = frgIdle) ∧
    (∃ (s : State), HostReady s A.GLB_CTL ∧ s.glb.base = bDraining ∧ drained s = false ∧ drainOver s = false) ∧
    (∃ (s : State), HostReady s A.GLB_CTL ∧ s.glb.base = bQuiesced) ∧
    (∃ (s : State), HostReady s A.GLB_CTL ∧ s.glb.base = bWaking ∧ wakeOver s = false) ∧
    (∃ (s : State), HostReady s A.GLB_CTL ∧ SteadyBase s ∧ (s.glb.base = bWaking ∨ s.glb.base = bRun ∨ s.glb.base = bDraining ∨ s.glb.base = bQuiesced)) ∧
    (∃ (s : State), HostReady s A.GLB_CTL ∧ SteadyBase s ∧ tempWarn s = false ∧ voltWarn s = false) ∧
    (∃ (s : State), HostReady s A.GLB_CTL ∧ (s.glb.base = bDormant ∨ s.glb.base = bQuiesced)) ∧
    (∃ (s : State), HostReady s A.GLB_CTL ∧ s.glb.base = bDiagnostic) :=
  ⟨⟨live, hostReady (by decide +kernel), by decide +kernel⟩,
   ⟨wmodeCommandsMoveTheBaseState_1, hostReady (by decide +kernel), by decide +kernel⟩,
   ⟨atBase bQuiesced live, hostReady (by decide +kernel), by decide +kernel⟩,
   ⟨atBase bWaking live, hostReady (by decide +kernel), by decide +kernel⟩,
   ⟨live, hostReady (by decide +kernel), by decide +kernel⟩,
   ⟨live, hostReady (by decide +kernel), by decide +kernel⟩,
   ⟨atBase bQuiesced live, hostReady (by decide +kernel), by decide +kernel⟩,
   ⟨atBase bDiagnostic live, hostReady (by decide +kernel), by decide +kernel⟩⟩

/-- The hypotheses of `Obligations.TimersMoveTheBaseState` are met, clause by clause. -/
theorem test_witness_TimersMoveTheBaseState :
    (∃ (dt : Nat) (s : State), held s = false ∧ wakeOver (passTime dt s) = true) ∧
    (∃ (dt : Nat) (s : State), held s = false ∧ (passTime dt s).glb.base = bDraining ∧ drained (passTime dt s) = true) ∧
    (∃ (dt : Nat) (s : State), held s = false ∧ (passTime dt s).glb.base = bDraining ∧ drained (passTime dt s) = false ∧ drainOver (passTime dt s) = true) ∧
    (∃ (value : Word) (s : State), HostReady s A.GLB_WAKE_MS) :=
  ⟨⟨0, wtimersMoveTheBaseState_0, by decide +kernel⟩,
   ⟨0, atBase bDraining live, by decide +kernel⟩,
   ⟨0, wtimersMoveTheBaseState_2, by decide +kernel⟩,
   ⟨0, live, hostReady (by decide +kernel)⟩⟩

/-- The hypotheses of `Obligations.HearthAndPortResets` are met, clause by clause. -/
theorem test_witness_HearthAndPortResets :
    (∃ (mask : Nat) (s : State), mask < 16 ∧ HostReady s A.GLB_HRST ∧ s.glb.warmBusy = false) ∧
    (∃ (dt : Nat) (h : Nat) (s : State) (u : State), h < 4 ∧ Elapsed dt s u) ∧
    (∃ (p : Nat) (s : State), p < 76 ∧ HostReady s (A.GLB_PORT_RST_0 + 4 * (p / 32)) ∧ portHeld s p = false) ∧
    (∃ (p : Nat) (s : State), p < 76 ∧ HostReady s (A.GLB_PORT_RST_0 + 4 * (p / 32)) ∧ portHeld s p = true) ∧
    (∃ (dt : Nat) (q : Nat) (s : State) (u : State), q < 4 ∧ Elapsed dt s u ∧ 0 < q ∧ q = u.glb.quadrants ∧ u.glb.quadClk + 50 * clocksPerMs ≤ u.clk ∧ powered u = true) :=
  ⟨⟨15, live, by decide +kernel, hostReady (by decide +kernel), by decide +kernel⟩,
   ⟨0, 3, whearthAndPortResets_1, whearthAndPortResets_1, by decide +kernel, elapsedNow (by decide +kernel)⟩,
   ⟨75, live, by decide +kernel, hostReady (by decide +kernel), by decide +kernel⟩,
   ⟨75, whearthAndPortResets_3, by decide +kernel, hostReady (by decide +kernel), by decide +kernel⟩,
   ⟨0, 3, whearthAndPortResets_4, whearthAndPortResets_4, by decide +kernel, elapsedNow (by decide +kernel), by decide +kernel⟩⟩

/-- The hypotheses of `Obligations.PortsReceiveFrames` are met, clause by clause. -/
theorem test_witness_PortsReceiveFrames :
    (∃ (dt : Nat) (p : Nat) (bytes : List Byte) (s : State) (u : State), p < 72 ∧ Elapsed dt s u ∧ takes u p = true) ∧
    (∃ (dt : Nat) (p : Nat) (i : Nat) (e : Bool) (f : Frame) (s : State) (u : State), p < 72 ∧ Elapsed dt s u ∧ (portSt u p).rx.getLast? = some i ∧ frameOf u i = some f) ∧
    (∃ (dt : Nat) (p : Nat) (b : List Byte) (s : State) (u : State), p < 72 ∧ Elapsed dt s u ∧ (portSt u p).ctl = some b ∧ controlArriving u p = false ∧ beAt b 14 2 = 1 ∧ beAt b 0 6 = 0x0180C2000001 ∧ fbit u (F.PRT_MAC_CFG_PAUSE_RX_EN p) = true) ∧
    (∃ (dt : Nat) (p : Nat) (s : State) (u : State), p < 72 ∧ Elapsed dt s u ∧ paused u p = false) :=
  ⟨⟨0, 3, List.replicate 64 0, up3, up3, by decide +kernel, elapsedNow (by decide +kernel), by decide +kernel⟩,
   ⟨0, 3, 0, false, frame3, wportsReceiveFrames_1, wportsReceiveFrames_1, by decide +kernel, elapsedNow (by decide +kernel), by decide +kernel⟩,
   ⟨0, 3, _, wportsReceiveFrames_2, wportsReceiveFrames_2, by decide +kernel, elapsedNow (by decide +kernel), rfl, by decide +kernel, rfl, rfl, by decide +kernel⟩,
   ⟨0, 3, wportsReceiveFrames_3, wportsReceiveFrames_3, by decide +kernel, elapsedNow (by decide +kernel), by decide +kernel⟩⟩

/-- The hypotheses of `Obligations.MacMergeFollowsItsMpackets` are met, clause by clause. -/
theorem test_witness_MacMergeFollowsItsMpackets :
    (∃ (dt : Nat) (p : Nat) (g : Fragment) (s : State) (u : State), p < 72 ∧ g.frameCount < 4 ∧ g.fragCount < 4 ∧ Elapsed dt s u ∧ takes u p = true ∧ fbit u (F.PRT_PREEMPT_EN p) = true ∧ g.start = true ∧ g.last = false ∧ g.crcOk = true ∧ (portSt u p).reasm = none) ∧
    (∃ (dt : Nat) (p : Nat) (g : Fragment) (s : State) (u : State), p < 72 ∧ g.frameCount < 4 ∧ g.fragCount < 4 ∧ Elapsed dt s u ∧ takes u p = true ∧ fbit u (F.PRT_PREEMPT_EN p) = true ∧ g.start = false) ∧
    (∃ (dt : Nat) (p : Nat) (s : State) (u : State), p < 72 ∧ Elapsed dt s u ∧ takes u p = true ∧ fbit u (F.PRT_PREEMPT_EN p) = true) ∧
    (∃ (dt : Nat) (p : Nat) (s : State) (u : State), p < 72 ∧ Elapsed dt s u ∧ takes u p = true ∧ fbit u (F.PRT_PREEMPT_EN p) = true ∧ verifyState u p = 2) ∧
    (∃ (dt : Nat) (p : Nat) (s : State) (u : State), p < 72 ∧ Elapsed dt s u ∧ verifyState u p = 2 ∧ (portSt u p).verifyClk + verifyTime u p ≤ u.clk) :=
  ⟨⟨0, 3, fragment3 true, merge3 0, merge3 0, by decide +kernel, by decide +kernel, by decide +kernel, elapsedNow (by decide +kernel), by decide +kernel⟩,
   ⟨0, 3, fragment3 false, merge3 0, merge3 0, by decide +kernel, by decide +kernel, by decide +kernel, elapsedNow (by decide +kernel), by decide +kernel⟩,
   ⟨0, 3, merge3 0, merge3 0, by decide +kernel, elapsedNow (by decide +kernel), by decide +kernel⟩,
   ⟨0, 3, merge3 2, merge3 2, by decide +kernel, elapsedNow (by decide +kernel), by decide +kernel⟩,
   ⟨0, 3, at' 1000000000 (merge3 2), at' 1000000000 (merge3 2), by decide +kernel, elapsedNow (by decide +kernel), by decide +kernel⟩⟩

/-- The hypotheses of `Obligations.LinksFollowTheirConditions` are met, clause by clause. -/
theorem test_witness_LinksFollowTheirConditions :
    (∃ (dt : Nat) (p : Nat) (c : LinkCond) (s : State) (u : State), p < 72 ∧ Elapsed dt s u) ∧
    (∃ (dt : Nat) (p : Nat) (s : State) (u : State), p < 72 ∧ Elapsed dt s u ∧ linkHolds u p = true ∧ linkUp u p = false ∧ (portSt u p).holdClk.getD u.clk + holdTime u p ≤ u.clk) ∧
    (∃ (dt : Nat) (p : Nat) (m : Nat) (s : State) (u : State), p < 72 ∧ m < 16 ∧ Elapsed dt s u ∧ linkAble u p = true ∧ (portSt u p).anEn = true ∧ fbit u (F.PRT_STATUS_AN_DONE p) = false ∧ linkUp u p = false ∧ (portSt u p).mode ≠ 8) ∧
    (∃ (dt : Nat) (p : Nat) (taps : List Nat) (s : State) (u : State), wellFormed (.linkTrainingComplete dt ⟨p, taps⟩) = true ∧ Elapsed dt s u ∧ linkAble u p = true ∧ (portSt u p).ltEn = true ∧ fbit u (F.PRT_STATUS_AN_DONE p) = true ∧ linkUp u p = false) :=
  ⟨⟨0, 71, goodCond, live, live, by decide +kernel, elapsedNow (by decide +kernel)⟩,
   ⟨0, 3, wlinksFollowTheirConditions_1, wlinksFollowTheirConditions_1, by decide +kernel, elapsedNow (by decide +kernel), by decide +kernel⟩,
   ⟨0, 3, 15, wlinksFollowTheirConditions_2, wlinksFollowTheirConditions_2, by decide +kernel, by decide +kernel, elapsedNow (by decide +kernel), by decide +kernel⟩,
   ⟨0, 3, [1, 2], wlinksFollowTheirConditions_3, wlinksFollowTheirConditions_3, by decide +kernel, elapsedNow (by decide +kernel), by decide +kernel⟩⟩

/-- The hypotheses of `Obligations.DecisionPathsTakeAndVote` are met, clause by clause. -/
theorem test_witness_DecisionPathsTakeAndVote :
    (∃ (dt : Nat) (h : Nat) (i : Nat) (again : Option Pass) (rest : List (Nat × Option Pass)) (s : State) (u : State), h < 4 ∧ Elapsed dt s u ∧ canTake u h = true ∧ recircOf u h = (i, again) :: rest) ∧
    (∃ (dt : Nat) (h : Nat) (p : Nat) (i : Nat) (rest : List Nat) (f : Frame) (s : State) (u : State), h < 4 ∧ Elapsed dt s u ∧ canTake u h = true ∧ recircOf u h = [] ∧ (robinOrder u h).find? (fun p => ingressOf u p != []) = some p ∧ ingressOf u p = i :: rest ∧ frameOf u i = some f) ∧
    (∃ (dt : Nat) (h : Nat) (x : VoteFaults) (p : Pass) (rest : List Pass) (s : State) (u : State) (w : State), h < 4 ∧ votersOk x = true ∧ Elapsed dt s u ∧ tableWrites u = w ∧ pipeOf w h = p :: rest ∧ 5 ≤ p.stage ∧ p.entry + 490 ≤ w.clk ∧ voteMissed w h = false) ∧
    (∃ (dt : Nat) (h : Nat) (p : Pass) (rest : List Pass) (f : Frame) (s : State) (u : State) (w : State), h < 4 ∧ Elapsed dt s u ∧ tableWrites u = w ∧ pipeOf w h = p :: rest ∧ 5 ≤ p.stage ∧ p.entry + 490 ≤ w.clk ∧ voteMissed w h = false ∧ p.two = none ∧ fencedNow w h = false ∧ frameOf w p.frame = some f ∧ f.kixon = true ∧ f.srcPort ≠ 76 ∧ w.fab.rx.length < 256) ∧
    (∃ (dt : Nat) (h : Nat) (p : Pass) (rest : List Pass) (f : Frame) (s : State) (u : State) (w : State) (v : State), h < 4 ∧ Elapsed dt s u ∧ tableWrites u = w ∧ pipeOf w h = p :: rest ∧ 5 ≤ p.stage ∧ p.entry + 490 ≤ w.clk ∧ voteMissed w h = false ∧ p.two = none ∧ fencedNow w h = false ∧ frameOf w p.frame = some f ∧ f.kixon = false ∧ putPipe h rest { w with tmg := { w.tmg with lastVote := (w.clk, h) } } = v ∧ f.spoilt = false ∧ readsPoison v p = false) ∧
    (∃ (dt : Nat) (h : Nat) (x : VoteFaults) (p : Pass) (rest : List Pass) (s : State) (u : State) (w : State), h < 4 ∧ Elapsed dt s u ∧ tableWrites u = w ∧ pipeOf w h = p :: rest ∧ 5 ≤ p.stage ∧ p.entry + 490 ≤ w.clk ∧ voteMissed w h = false ∧ p.two = none ∧ fencedNow w h = false ∧ fenceThresh w = 1 ∧ x = { noFaults with ok1 := false }) :=
  ⟨⟨0, 0, 0, none, [], wdecisionPathsTakeAndVote_0, wdecisionPathsTakeAndVote_0, by decide +kernel, elapsedNow (by decide +kernel), by decide +kernel⟩,
   ⟨0, 0, 3, 0, [], frame3, wdecisionPathsTakeAndVote_1, wdecisionPathsTakeAndVote_1, by decide +kernel, elapsedNow (by decide +kernel), by decide +kernel⟩,
   ⟨0, 0, { noFaults with ok1 := false, tcamParity := some 16383 }, pass0, [], voting frame3 [], voting frame3 [], _, by decide +kernel, by decide +kernel, elapsedNow (by decide +kernel), rfl, rfl, by decide +kernel, by decide +kernel, rfl⟩,
   ⟨0, 0, pass0, [], { frame3 with kixon := true, taken := 1 }, wdecisionPathsTakeAndVote_3, wdecisionPathsTakeAndVote_3, _, by decide +kernel, elapsedNow (by decide +kernel), rfl, rfl, by decide +kernel, by decide +kernel, rfl, by decide +kernel, rfl, rfl, by decide +kernel⟩,
   ⟨0, 0, pass0, [], { frame3 with taken := 1 }, voting frame3 [], voting frame3 [], tableWrites (voting frame3 []), putPipe 0 [] { tableWrites (voting frame3 []) with tmg := { (tableWrites (voting frame3 [])).tmg with lastVote := ((tableWrites (voting frame3 [])).clk, 0) } }, by decide +kernel, elapsedNow (by decide +kernel), by decide +kernel⟩,
   ⟨0, 0, { noFaults with ok1 := false }, pass0, [], wdecisionPathsTakeAndVote_5, wdecisionPathsTakeAndVote_5, _, by decide +kernel, elapsedNow (by decide +kernel), rfl, rfl, by decide +kernel, by decide +kernel, rfl, by decide +kernel, rfl, rfl, by decide +kernel⟩⟩

/-- The hypotheses of `Obligations.PortsTransmitByTheCalendar` are met, clause by clause. -/
theorem test_witness_PortsTransmitByTheCalendar :
    (∃ (dt : Nat) (p : Nat) (s : State) (u : State) (w : State), p < 72 ∧ Elapsed dt s u ∧ selectMissed u p = false ∧ tableWrites u = w ∧ txIdle w p = true ∧ txOpen w p = true ∧ localLoop w p = false ∧ (portSt w p).mpk ≠ []) ∧
    (∃ (dt : Nat) (p : Nat) (i : Nat) (q : Nat) (c : Copy) (rest : List Copy) (f : Frame) (s : State) (u : State) (v : State) (w : State), p < 76 ∧ Elapsed dt s u ∧ selectMissed u p = false ∧ noteHolds p (tableWrites u) = v ∧ txIdle v p = true ∧ (portSt v p).mpk = [] ∧ preemptActive v p = false ∧ (txOf v p).susp = none ∧ scan (calendarNow v p) (fget v (F.TM_CAL_STATUS_PTR_X p)) (eligible v p) = some (i, q) ∧ fput (F.TM_CAL_STATUS_PTR_X p) ((i + 1) % (calendarNow v p).length) v = w ∧ queueOf w (qkey p q) = c :: rest ∧ frameOf w c.frame = some f ∧ (planCopy w p c (copyBase w c)).fate = 0) ∧
    (∃ (dt : Nat) (p : Nat) (x : Sending) (f : Frame) (s : State) (u : State) (w : State), p < 72 ∧ Elapsed dt s u ∧ tableWrites u = w ∧ (txOf w p).cur = some x ∧ frameOf w x.copy.frame = some f ∧ onWire w p x = false ∧ f.whole = true) ∧
    (∃ (dt : Nat) (p : Nat) (x : Sending) (s : State) (u : State), p < 72 ∧ Elapsed dt s u ∧ (txOf u p).cur = some x ∧ x.pre = false ∧ gatedQ u p x.queue = true ∧ bitAt (portLedgerIn u p x.bank).1 x.queue = false ∧ onWire u p x = true ∧ x.overrun = false) ∧
    (∃ (dt : Nat) (p : Nat) (d : Nat) (x : Sending) (s : State) (u : State), p < 72 ∧ Elapsed dt s u ∧ (portLedger u p).2.2.2 = true ∧ (txOf u p).cur = some x ∧ x.pre = true ∧ preemptActive u p = true ∧ onWire u p x = true ∧ paused u p = false ∧ cutPoint u p x = some d ∧ ((portLedgerIn u p x.bank).2.1 = true ∨ gatedQ u p x.queue = true ∧ bitAt (portLedgerIn u p x.bank).1 x.queue = false)) :=
  ⟨⟨0, 3, wportsTransmitByTheCalendar_0, wportsTransmitByTheCalendar_0, _, by decide +kernel, elapsedNow (by decide +kernel), by decide +kernel, rfl, rfl, rfl, rfl, by decide +kernel⟩,
   ⟨0, 3, 1, 0, copy0, [], { frame3 with whole := true }, wportsTransmitByTheCalendar_1, wportsTransmitByTheCalendar_1, noteHolds 3 wportsTransmitByTheCalendar_1, fput (F.TM_CAL_STATUS_PTR_X 3) 0 (noteHolds 3 wportsTransmitByTheCalendar_1), by decide +kernel, elapsedNow (by decide +kernel), by decide +kernel⟩,
   ⟨0, 3, sending false 64, { frame3 with whole := true }, wportsTransmitByTheCalendar_2, wportsTransmitByTheCalendar_2, _, by decide +kernel, elapsedNow (by decide +kernel), rfl, rfl, rfl, rfl, by decide +kernel⟩,
   ⟨0, 3, sending false 64, wportsTransmitByTheCalendar_3, wportsTransmitByTheCalendar_3, by decide +kernel, elapsedNow (by decide +kernel), by decide +kernel⟩,
   ⟨0, 3, 60, sending true 1000, wportsTransmitByTheCalendar_4, wportsTransmitByTheCalendar_4, by decide +kernel, elapsedNow (by decide +kernel), by decide +kernel⟩⟩

/-- The hypotheses of `Obligations.GatesAndLedgerBases` are met, clause by clause. -/
theorem test_witness_GatesAndLedgerBases :
    (∃ (dt : Nat) (g : Nat) (b : Nat) (occ : Nat) (s : State) (u : State), g < 4096 ∧ b < 2 ∧ Elapsed dt s u ∧ gateValid (gateOf u g b).words = true ∧ (gateAt (gateOf u g b) (ledgerNow u (gateMode (gateOf u g b).words))).2.2.2 = occ ∧ occ ≠ 0 ∧ occ ≠ (gateOf u g b).occ) ∧
    (∃ (p : Nat) (v : Word) (s : State), p < 72 ∧ HostReady s (A.LDG_BASE_SUB p) ∧ (frgState s = frgShadowReady ∨ frgState s = frgArmed)) ∧
    (∃ (p : Nat) (v : Word) (s : State), p < 72 ∧ HostReady s (A.LDG_BASE_SUB p) ∧ frgState s < 3) :=
  ⟨⟨0, 4095, 1, 1, wgatesAndLedgerBases_0, wgatesAndLedgerBases_0, by decide +kernel, by decide +kernel, elapsedNow (by decide +kernel), by decide +kernel⟩,
   ⟨71, 0, wgatesAndLedgerBases_1, by decide +kernel, hostReady (by decide +kernel), by decide +kernel⟩,
   ⟨71, 0, live, by decide +kernel, hostReady (by decide +kernel), by decide +kernel⟩⟩

/-- The hypotheses of `Obligations.PhaseReferencesAreFollowed` are met, clause by clause. -/
theorem test_witness_PhaseReferencesAreFollowed :
    (∃ (dt : Nat) (x : Nat) (low : Nat) (high : Nat) (s : State) (u : State), x < 2 ∧ Elapsed dt s u ∧ u.phs.running = true ∧ deglitched u low high = true ∧ srcUsed u ≠ some x) ∧
    (∃ (dt : Nat) (x : Nat) (low : Nat) (high : Nat) (s : State) (u : State), x < 2 ∧ Elapsed dt s u ∧ deglitched u low high = false) ∧
    (∃ (dt : Nat) (x : Nat) (low : Nat) (high : Nat) (s : State) (u : State), x < 2 ∧ Elapsed dt s u ∧ u.phs.running = true ∧ deglitched u low high = true ∧ srcUsed u = some x ∧ fbit u F.PHS_STATUS_LOCKED = true ∧ edgeWin u < (mainsError u x).natAbs) ∧
    (∃ (dt : Nat) (x : Nat) (l : Nat) (p : Nat) (s : State) (u : State), x < 2 ∧ Elapsed dt s u ∧ (mainsIn u x).last = some l ∧ (mainsIn u x).period = some p ∧ l + max 1 (fget u F.PHS_QUAL_CFG_LOSS_CYCLES) * p ≤ u.clk) ∧
    (∃ (v : Word) (m : Nat) (s : State), HostReady s A.PHS_MSG_POST ∧ bitAt v.toNat 0 = true ∧ s.phs.running = true ∧ msgFromFabric s = false ∧ ((rget s A.PHS_MSG_SEC_HI % 65536) * 2 ^ 32 + rget s A.PHS_MSG_SEC_LO) * secUnits + rget s A.PHS_MSG_NS % 2 ^ 30 * timeUnit = m ∧ m ≤ s.tim.t ∧ s.tim.t ≤ m + 100000000 * timeUnit ∧ srcUsed s ≠ some 2) ∧
    (∃ (dt : Nat) (a : Nat) (b : Nat) (c : Nat) (s : State) (u : State), Elapsed dt s u ∧ u.phs.msg.head? = some (a, b, c) ∧ srcQual u 2 = true ∧ c + max 1 (fget u F.PHS_MSG_LOSS_MS_MS) * clocksPerMs ≤ u.clk) :=
  ⟨⟨0, 1, 1000000000, 1000000000, wphaseReferencesAreFollowed_0, wphaseReferencesAreFollowed_0, by decide +kernel, elapsedNow (by decide +kernel), by decide +kernel⟩,
   ⟨0, 1, 0, 0, live, live, by decide +kernel, elapsedNow (by decide +kernel), by decide +kernel⟩,
   ⟨0, 1, 1000000000, 1000000000, wphaseReferencesAreFollowed_2, wphaseReferencesAreFollowed_2, by decide +kernel, elapsedNow (by decide +kernel), by decide +kernel⟩,
   ⟨0, 1, 0, 28000000, wphaseReferencesAreFollowed_3, wphaseReferencesAreFollowed_3, by decide +kernel, elapsedNow (by decide +kernel), by decide +kernel⟩,
   ⟨1, 0, wphaseReferencesAreFollowed_4, hostReady (by decide +kernel), by decide +kernel⟩,
   ⟨0, 0, 0, 0, wphaseReferencesAreFollowed_5, wphaseReferencesAreFollowed_5, elapsedNow (by decide +kernel), by decide +kernel⟩⟩

/-- The hypotheses of `Obligations.PhaseCommandsAndTheWrap` are met, clause by clause. -/
theorem test_witness_PhaseCommandsAndTheWrap :
    (∃ (s : State), HostReady s A.PHS_CMD) ∧
    (∃ (s : State), HostReady s A.PHS_CMD ∧ (List.range 32).any (taArmed s) = false ∧ fget s F.FRG_STATUS_STATE ≠ 4) ∧
    (∃ (s : State), HostReady s A.PHS_CMD ∧ (realignTarget s).isSome = true) ∧
    (∃ (dt : Nat) (s : State) (u : State), Elapsed dt s u ∧ u.phs.running = true ∧ phaseInstant u / 2 ^ 24 ≠ u.phs.wrapCycle ∧ srcQual u 3 = false) :=
  ⟨⟨live, hostReady (by decide +kernel)⟩,
   ⟨live, hostReady (by decide +kernel), by decide +kernel⟩,
   ⟨wphaseCommandsAndTheWrap_2, hostReady (by decide +kernel), by decide +kernel⟩,
   ⟨0, wphaseCommandsAndTheWrap_3, wphaseCommandsAndTheWrap_3, elapsedNow (by decide +kernel), by decide +kernel⟩⟩

/-- The hypotheses of `Obligations.TimedActionsArmAndFire` are met, clause by clause. -/
theorem test_witness_TimedActionsArmAndFire :
    (∃ (k : Nat) (v : Word) (s : State), k < 32 ∧ HostReady s (A.PHS_TA_CTL k) ∧ fabricSlot s k = false ∧ (bitAt v.toNat 31 = true → s.phs.valid = true → phaseInstant s ≤ taInstant s k)) ∧
    (∃ (dt : Nat) (k : Nat) (s : State) (u : State), k < 32 ∧ Elapsed dt s u ∧ taDue u k = true ∧ (List.range k).any (taDue u) = false ∧ fget u (F.PHS_TA_CTL_REPEAT k) = 0) ∧
    (∃ (dt : Nat) (pin : Nat) (j : Nat) (x : Pulse) (s : State) (u : State), pin < 16 ∧ Elapsed dt s u ∧ u.pin.pulses.find? (fun e => e.1 == pin) = some (j, x) ∧ x.ends ≤ u.clk) :=
  ⟨⟨31, 0x80000004, live, by decide +kernel, hostReady (by decide +kernel), by decide +kernel⟩,
   ⟨0, 31, wtimedActionsArmAndFire_1, wtimedActionsArmAndFire_1, by decide +kernel, elapsedNow (by decide +kernel), by decide +kernel⟩,
   ⟨0, 15, 15, { high := true, ends := 0 }, wtimedActionsArmAndFire_2, wtimedActionsArmAndFire_2, by decide +kernel, elapsedNow (by decide +kernel), by decide +kernel⟩⟩

/-- The hypotheses of `Obligations.TimedActionsRepeat` are met, clause by clause. -/
theorem test_witness_TimedActionsRepeat :
    (∃ (dt : Nat) (k : Nat) (s : State) (u : State), k < 32 ∧ Elapsed dt s u ∧ taDue u k = true ∧ (List.range k).any (taDue u) = false ∧ fget u (F.PHS_TA_CTL_REPEAT k) = 0) ∧
    (∃ (dt : Nat) (k : Nat) (n : Nat) (j : Nat) (s : State) (u : State), k < 32 ∧ Elapsed dt s u ∧ taDue u k = true ∧ (List.range k).any (taDue u) = false ∧ fget u (F.PHS_TA_CTL_REPEAT k) = n ∧ n ≠ 0 ∧ phaseInstant u < taInstant u k + (j + 1) * n * 2 ^ 24 ∧ (j ≠ 0 → taInstant u k + j * n * 2 ^ 24 ≤ phaseInstant u)) :=
  ⟨⟨0, 31, wtimedActionsRepeat_0, wtimedActionsRepeat_0, by decide +kernel, elapsedNow (by decide +kernel), by decide +kernel⟩,
   ⟨0, 31, 1, 2, wtimedActionsRepeat_1, wtimedActionsRepeat_1, by decide +kernel, elapsedNow (by decide +kernel), by decide +kernel⟩⟩

/-- The hypotheses of `Obligations.TrackersFollowTheirSamples` are met, clause by clause. -/
theorem test_witness_TrackersFollowTheirSamples :
    (∃ (v : Word) (d : Nat) (m : Nat) (s : State), HostReady s A.TIM_SMP_POST ∧ bitAt v.toNat 0 = true ∧ bits v.toNat 1 1 = d ∧ (d = 0 → fget s F.TIM_CTL_SRC_A = 0) ∧ (d = 1 → fbit s F.TIM_CTL_DUAL = true) ∧ s.tim.valid = true ∧ fullTime s (rget s A.TIM_SMP_SEC_LO) (rget s A.TIM_SMP_NS % 2 ^ 30) = m ∧ m ≤ s.tim.t ∧ s.tim.t ≤ m + secUnits ∧ s.tim.stepT = none ∧ trkState s d ≠ 2 ∧ s.tim.lost = false) ∧
    (∃ (dt : Nat) (c : Nat) (b : Bool) (s : State) (u : State), Elapsed dt s u ∧ (trk u (b2n b)).last = some c ∧ c + lossClocks u ≤ u.clk ∧ trkState u (b2n b) ≠ 0) ∧
    (∃ (b : Bool) (s : State), HostReady s A.TIM_CMD ∧ b2n b ≠ gov s ∧ trkState s (b2n b) = 2) ∧
    (∃ (dt : Nat) (s : State) (u : State), Elapsed dt s u) :=
  ⟨⟨1, 0, 0, live, hostReady (by decide +kernel), by decide +kernel⟩,
   ⟨0, 0, true, wtrackersFollowTheirSamples_1, wtrackersFollowTheirSamples_1, elapsedNow (by decide +kernel), by decide +kernel⟩,
   ⟨true, wtrackersFollowTheirSamples_2, hostReady (by decide +kernel), by decide +kernel⟩,
   ⟨0, live, live, elapsedNow (by decide +kernel)⟩⟩

/-- The hypotheses of `Obligations.DeviceTimeCommands` are met, clause by clause. -/
theorem test_witness_DeviceTimeCommands :
    (∃ (s : State), HostReady s A.TIM_CMD) ∧
    (∃ (v : Word) (s : State), HostReady s A.TIM_CTL) ∧
    (∃ (v : Word) (s : State), HostReady s A.TIM_UTC_OFFSET) :=
  ⟨⟨live, hostReady (by decide +kernel)⟩,
   ⟨0xFFFFFFFF, live, hostReady (by decide +kernel)⟩,
   ⟨0xFFFFFFFF, live, hostReady (by decide +kernel)⟩⟩

/-- The hypotheses of `Obligations.StepsOfDeviceTime` are met, clause by clause. -/
theorem test_witness_StepsOfDeviceTime :
    (∃ (c : Instr) (x : Int) (s : State), (c, x) ∈ [(Instr.setAbs, Int.ofNat (timeAt s A.TIM_STEP_SEC_HI)), (.stepRel false, Int.ofNat s.tim.t + Int.ofNat (timeAt s A.TIM_STEP_SEC_HI)), (.stepRel true, Int.ofNat s.tim.t - Int.ofNat (timeAt s A.TIM_STEP_SEC_HI))] ∧ HostReady s A.TIM_CMD ∧ rget s A.TIM_STEP_NS % 2 ^ 30 < 1000000000 ∧ 0 ≤ x ∧ x < Int.ofNat timeMod) ∧
    (∃ (c : Instr) (s : State), c ∈ [Instr.setAbs, .stepRel false, .stepRel true] ∧ HostReady s A.TIM_CMD ∧ 1000000000 ≤ rget s A.TIM_STEP_NS % 2 ^ 30) ∧
    (∃ (neg : Bool) (x : Int) (s : State), HostReady s A.TIM_CMD ∧ x = (if neg = true then Int.ofNat s.tim.t - Int.ofNat (timeAt s A.TIM_STEP_SEC_HI) else Int.ofNat s.tim.t + Int.ofNat (timeAt s A.TIM_STEP_SEC_HI)) ∧ (x < 0 ∨ Int.ofNat timeMod ≤ x)) :=
  ⟨⟨.stepRel true, 0, wstepsOfDeviceTime_0, by decide +kernel, hostReady (by decide +kernel), by decide +kernel⟩,
   ⟨.setAbs, wstepsOfDeviceTime_1, by decide +kernel, hostReady (by decide +kernel), by decide +kernel⟩,
   ⟨true, -(Int.ofNat timeUnit), puts [(A.TIM_STEP_NS, 1)] live, hostReady (by decide +kernel), by decide +kernel⟩⟩

/-- The hypotheses of `Obligations.PulsesAndStamps` are met, clause by clause. -/
theorem test_witness_PulsesAndStamps :
    (∃ (dt : Nat) (s : State) (u : State), Elapsed dt s u ∧ fbit u F.TIM_CTL_PPS_IN_EN = true ∧ rget u A.TIM_PPS_IN_ADJ = 0 ∧ u.tim.t < timeMod) ∧
    (∃ (dt : Nat) (s : State) (u : State), Elapsed dt s u ∧ fbit u F.TIM_CTL_PPS_OUT_EN = true ∧ u.tim.valid = true ∧ u.tim.ppsSec < timeSec u.tim.t) ∧
    (∃ (dt : Nat) (s : State) (u : State), Elapsed dt s u ∧ u.tim.ppsHigh = true ∧ u.tim.ppsClk + clampN (fget u F.TIM_PPS_CFG_WIDTH_MS) 1 999 * clocksPerMs ≤ u.clk) ∧
    (∃ (x : Nat × Nat × Nat) (rest : List (Nat × Nat × Nat)) (s : State), held s = false ∧ s.hif.d3hot = false ∧ s.tim.txts = x :: rest) :=
  ⟨⟨0, wpulsesAndStamps_0, wpulsesAndStamps_0, elapsedNow (by decide +kernel), by decide +kernel⟩,
   ⟨0, wpulsesAndStamps_1, wpulsesAndStamps_1, elapsedNow (by decide +kernel), by decide +kernel⟩,
   ⟨0, wpulsesAndStamps_2, wpulsesAndStamps_2, elapsedNow (by decide +kernel), by decide +kernel⟩,
   ⟨(1, 2, 3), [], wpulsesAndStamps_3, by decide +kernel⟩⟩

/-- The hypotheses of `Obligations.KixonFramesAndTheHandshake` are met, clause by clause. -/
theorem test_witness_KixonFramesAndTheHandshake :
    (∃ (dt : Nat) (i : Nat) (rest : List Nat) (f : Frame) (s : State) (u : State), Elapsed dt s u ∧ u.fab.rx = i :: rest ∧ frameOf u i = some f ∧ f.whole = true ∧ f.bad = false ∧ f.srcPort < 72 ∧ kixonOn u = true) ∧
    (∃ (dt : Nat) (i : Nat) (f : Frame) (s : State) (u : State), Elapsed dt s u ∧ kixonOn u = true ∧ headFrame u (· == 0x01) = some (i, f) ∧ fabState u f.srcPort ≠ 2) ∧
    (∃ (dt : Nat) (i : Nat) (f : Frame) (s : State) (u : State), Elapsed dt s u ∧ kixonOn u = true ∧ headFrame u (· == 0x02) = some (i, f) ∧ f.srcPort < 72 ∧ fabState u f.srcPort = 1 ∧ beAt f.bytes 32 8 = (fabPort u f.srcPort).nonce) ∧
    (∃ (dt : Nat) (p : Nat) (s : State) (u : State), p < 72 ∧ Elapsed dt s u ∧ isFabricPort u p = true ∧ fabState u p = 1 ∧ (fabPort u p).helloClk + 100 * clocksPerMs ≤ u.clk) ∧
    (∃ (dt : Nat) (p : Nat) (s : State) (u : State), p < 72 ∧ Elapsed dt s u ∧ delayReqDue u p = true) ∧
    (∃ (dt : Nat) (i : Nat) (f : Frame) (s : State) (u : State), Elapsed dt s u ∧ headFrame u (· == 0x03) = some (i, f) ∧ kixonOn u = true ∧ cellsFree u 1 = true) ∧
    (∃ (dt : Nat) (i : Nat) (t1 : Nat) (d1 : Int) (d : Int) (f : Frame) (s : State) (u : State), Elapsed dt s u ∧ kixonOn u = true ∧ headFrame u (· == 0x04) = some (i, f) ∧ (fabPort u f.srcPort).reqSent = some (t1, d1) ∧ beAt f.bytes 32 2 = (fabPort u f.srcPort).reqId % 65536 ∧ elapsed16 f.stamp t1 (f.stepSum - d1) ≤ 100000000 * 65536 ∧ (elapsed16 f.stamp t1 (f.stepSum - d1) - (Int.ofNat (stampAt16 f.bytes 52) - Int.ofNat (stampAt16 f.bytes 40))) / 2 = d ∧ 0 ≤ d ∧ (fabPort u f.srcPort).measured = none) ∧
    (∃ (p : Nat) (s : State), p < 128 ∧ HostReady s A.FAB_CMD ∧ isFabricPort s p = true) :=
  ⟨⟨0, 0, [], kixon 1 [], wkixonFramesAndTheHandshake_0, wkixonFramesAndTheHandshake_0, elapsedNow (by decide +kernel), by decide +kernel⟩,
   ⟨0, 0, kixon 1 [], wkixonFramesAndTheHandshake_1, wkixonFramesAndTheHandshake_1, elapsedNow (by decide +kernel), by decide +kernel⟩,
   ⟨0, 0, kixon 2 [], wkixonFramesAndTheHandshake_2, wkixonFramesAndTheHandshake_2, elapsedNow (by decide +kernel), by decide +kernel⟩,
   ⟨0, 71, wkixonFramesAndTheHandshake_3, wkixonFramesAndTheHandshake_3, by decide +kernel, elapsedNow (by decide +kernel), by decide +kernel⟩,
   ⟨0, 71, wkixonFramesAndTheHandshake_4, wkixonFramesAndTheHandshake_4, by decide +kernel, elapsedNow (by decide +kernel), by decide +kernel⟩,
   ⟨0, 0, kixon 3 [], wkixonFramesAndTheHandshake_5, wkixonFramesAndTheHandshake_5, elapsedNow (by decide +kernel), by decide +kernel⟩,
   ⟨0, 0, 0, 0, 0, kixon 4 [], wkixonFramesAndTheHandshake_6, wkixonFramesAndTheHandshake_6, elapsedNow (by decide +kernel), by decide +kernel⟩,
   ⟨71, wkixonFramesAndTheHandshake_7, by decide +kernel, hostReady (by decide +kernel), by decide +kernel⟩⟩

/-- The hypotheses of `Obligations.FabricTimeTriggersAndHeartbeats` are met, clause by clause. -/
theorem test_witness_FabricTimeTriggersAndHeartbeats :
    (∃ (dt : Nat) (s : State) (u : State), Elapsed dt s u ∧ kixonOn u = true ∧ activeKeeper u = true ∧ u.fab.timeClk + Machine.timeInterval u ≤ u.clk) ∧
    (∃ (dt : Nat) (i : Nat) (f : Frame) (s : State) (u : State), Elapsed dt s u ∧ kixonOn u = true ∧ headFrame u (· == 0x10) = some (i, f) ∧ activeKeeper u = false ∧ u.fab.standing = none) ∧
    (∃ (dt : Nat) (p : Nat) (s : State) (u : State), p < 72 ∧ Elapsed dt s u ∧ upCandidate u p = none) ∧
    (∃ (dt : Nat) (i : Nat) (k : Nat) (id : Nat) (f : Frame) (s : State) (u : State), Elapsed dt s u ∧ kixonOn u = true ∧ headFrame u (· == 0x11) = some (i, f) ∧ activeKeeper u = false ∧ u.fab.standing = some (beAt f.bytes 32 4, beAt f.bytes 36 2) ∧ u.fab.lastTrig = some k ∧ beAt ((f.bytes.drop 32).take 32) 8 4 = id ∧ k < id) ∧
    (∃ (dt : Nat) (i : Nat) (f : Frame) (s : State) (u : State), Elapsed dt s u ∧ kixonOn u = true ∧ headFrame u (· == 0x23) = some (i, f) ∧ activeKeeper u = false ∧ u.fab.standing = none) ∧
    (∃ (dt : Nat) (s : State) (u : State), Elapsed dt s u ∧ member u = true ∧ kixonOn u = true ∧ activeKeeper u = false ∧ u.fab.hbLost = false ∧ u.fab.hbClk + max 1 (fget u F.FAB_HB_LOSS_MS_MS) * clocksPerMs ≤ u.clk) ∧
    (∃ (dt : Nat) (i : Nat) (f : Frame) (s : State) (u : State), Elapsed dt s u ∧ kixonOn u = true ∧ headFrame u (fun t => decide (0x20 ≤ t)) = some (i, f) ∧ beAt f.bytes 15 1 = 0x20 ∧ activeKeeper u = true ∧ u.fab.join.length < 2048) ∧
    (∃ (dt : Nat) (i : Nat) (rest : List Nat) (s : State) (u : State), Elapsed dt s u ∧ u.fab.join = i :: rest ∧ kixonToken u = true) :=
  ⟨⟨0, wfabricTimeTriggersAndHeartbeats_0, wfabricTimeTriggersAndHeartbeats_0, elapsedNow (by decide +kernel), by decide +kernel⟩,
   ⟨0, 0, kixon 0x10 [], wfabricTimeTriggersAndHeartbeats_1, wfabricTimeTriggersAndHeartbeats_1, elapsedNow (by decide +kernel), by decide +kernel⟩,
   ⟨0, 71, live, live, by decide +kernel, elapsedNow (by decide +kernel), by decide +kernel⟩,
   ⟨0, 0, 0, 1, kixon 0x11 [0, 0, 0, 0, 0, 0, 0, 0, 0, 0, 0, 1], wfabricTimeTriggersAndHeartbeats_3, wfabricTimeTriggersAndHeartbeats_3, elapsedNow (by decide +kernel), by decide +kernel⟩,
   ⟨0, 0, kixon 0x23 [], wfabricTimeTriggersAndHeartbeats_4, wfabricTimeTriggersAndHeartbeats_4, elapsedNow (by decide +kernel), by decide +kernel⟩,
   ⟨0, at' 1000000000000 (inFabric 2), at' 1000000000000 (inFabric 2), elapsedNow (by decide +kernel), by decide +kernel⟩,
   ⟨0, 0, kixon 0x20 [], wfabricTimeTriggersAndHeartbeats_6, wfabricTimeTriggersAndHeartbeats_6, elapsedNow (by decide +kernel), by decide +kernel⟩,
   ⟨0, 0, [], wfabricTimeTriggersAndHeartbeats_7, wfabricTimeTriggersAndHeartbeats_7, elapsedNow (by decide +kernel), by decide +kernel⟩⟩

/-- The hypotheses of `Obligations.KeeperCommands` are met, clause by clause. -/
theorem test_witness_KeeperCommands :
    (∃ (s : State), HostReady s A.FAB_CMD ∧ roleOf s = 1 ∧ activeKeeper s = false) ∧
    (∃ (s : State), HostReady s A.FAB_CMD ∧ activeKeeper s = true) ∧
    (∃ (k : Nat) (s : State), HostReady s A.FAB_CMD ∧ activeKeeper s = true ∧ fget s F.FAB_TRIG_CTL_KIND = k ∧ 1 ≤ k ∧ k ≤ 5 ∧ (k ≠ 5 → phaseInstant s + fget s F.FAB_TRIG_LEAD_PU ≤ instantAt s A.FAB_TRIG_CYCLE_HI) ∧ s.fab.trig = none) ∧
    (∃ (dt : Nat) (x : TrigSend) (s : State) (u : State), Elapsed dt s u ∧ u.fab.trig = some x ∧ x.clk + clocksPerMs ≤ u.clk) ∧
    (∃ (s : State), HostReady s A.FAB_CMD ∧ s.fab.keyStandby.isSome = true) ∧
    (∃ (dt : Nat) (x : Nat) (s : State) (u : State), Elapsed dt s u ∧ u.fab.keySwitch.find? (fun y => decide (y ≤ phaseInstant u)) = some x ∧ u.fab.keyStandby.isSome = true) ∧
    (∃ (v : Word) (s : State), HostReady s A.FAB_SELF ∧ s.frg.active.isSome = true ∧ roleOf s = 2 ∧ fget s F.FAB_SELF_DEVICE_ID = 0xFFFF ∧ s.fab.selfSet = false ∧ 2 ≤ v.toNat % 65536 ∧ v.toNat % 65536 ≤ 2047) ∧
    (∃ (p : Nat) (v : Word) (s : State), p < 72 ∧ HostReady s (A.FAB_PORT_CFG p)) :=
  ⟨⟨inFabric 1, hostReady (by decide +kernel), by decide +kernel⟩,
   ⟨wkeeperCommands_1, hostReady (by decide +kernel), by decide +kernel⟩,
   ⟨5, wkeeperCommands_2, hostReady (by decide +kernel), by decide +kernel⟩,
   ⟨0, { payload := [], left := 1, clk := 0 }, wkeeperCommands_3, wkeeperCommands_3, elapsedNow (by decide +kernel), by decide +kernel⟩,
   ⟨wkeeperCommands_4, hostReady (by decide +kernel), by decide +kernel⟩,
   ⟨0, 0, wkeeperCommands_5, wkeeperCommands_5, elapsedNow (by decide +kernel), by decide +kernel⟩,
   ⟨2047, wkeeperCommands_6, hostReady (by decide +kernel), by decide +kernel⟩,
   ⟨71, 1, inFabric 2, by decide +kernel, hostReady (by decide +kernel)⟩⟩

/-- The hypotheses of `Obligations.TableCommandsAreIssuedAndCompleted` are met, clause by clause. -/
theorem test_witness_TableCommandsAreIssuedAndCompleted :
    (∃ (c : Nat) (table : Nat) (h : Nat) (op : Nat) (bank : Bool) (i : Instr) (s : State), c < 4 ∧ table < 256 ∧ h < 4 ∧ HostReady s (A.TBL_CMD c) ∧ fbit s (F.TBL_STATUS_BUSY c) = false ∧ (i, op) ∈ [(Instr.tblRead c table h bank, 1), (.tblWrite c table h bank, 2), (.tblLookup c table h bank, 3), (.tblInsert c table h bank, 4), (.tblUpdate c table h bank, 5), (.tblDelete c table h bank, 6), (.hitScan c table h bank, 7), (.tblAge c table h bank, 8), (.tblFlush c table h bank, 9)]) ∧
    (∃ (dt : Nat) (c : Nat) (r : Nat) (x : TblCmd) (s : State) (u : State) (w : State) (v : State), c < 4 ∧ Elapsed dt s u ∧ tableWrites u = w ∧ runningCmd w c = some x ∧ (u.tab.cmds.find? (fun e => e.1 == c)).map (fun e => e.2.op) = some x.op ∧ x.op ∉ [1, 3, 4, 7] ∧ tblDo c x.op x.table x.h x.bank x w = (r, v)) ∧
    (∃ (dt : Nat) (c : Nat) (r : Nat) (x : TblCmd) (s : State) (u : State) (v : State), c < 4 ∧ Elapsed dt s u ∧ runningCmd u c = some x ∧ x.op = 7 ∧ tblDo c 7 x.table x.h x.bank x u = (r, v)) ∧
    (∃ (dt : Nat) (c : Nat) (i : Nat) (x : TblCmd) (s : State) (u : State) (w : State), c < 4 ∧ Elapsed dt s u ∧ stagesNow u = w ∧ runningCmd w c = some x ∧ (u.tab.cmds.find? (fun e => e.1 == c)).map (fun e => e.2.op) = some x.op ∧ x.op = 1 ∧ w.frg.active.isSome = true ∧ tableOk w x.table x.h = true ∧ fget w (F.TBL_INDEX_INDEX c) = i ∧ i < tableSize w x.table x.h) ∧
    (∃ (dt : Nat) (c : Nat) (i : Nat) (x : TblCmd) (d : List Nat) (s : State) (u : State) (w : State), c < 4 ∧ Elapsed dt s u ∧ tableWrites u = w ∧ runningCmd w c = some x ∧ (u.tab.cmds.find? (fun e => e.1 == c)).map (fun e => e.2.op) = some x.op ∧ x.op = 2 ∧ w.frg.active.isSome = true ∧ tableOk w x.table x.h = true ∧ x.table ∉ [tGate, tTcam, tMeter, tGroup, tFlood] ∧ fget w (F.TBL_INDEX_INDEX c) = i ∧ i < tableSize w x.table x.h ∧ dataWords w c (imageWords w x.table x.h) = d ∧ imageOk w x.table x.h i d = true) ∧
    (∃ (dt : Nat) (c : Nat) (i : Nat) (b0 : Nat) (b1 : Nat) (x : TblCmd) (p : HashSpec) (d : List Nat) (s : State) (u : State) (w : State), c < 4 ∧ Elapsed dt s u ∧ tableWrites u = w ∧ runningCmd w c = some x ∧ (u.tab.cmds.find? (fun e => e.1 == c)).map (fun e => e.2.op) = some x.op ∧ x.op = 4 ∧ w.frg.active.isSome = true ∧ tableOk w x.table x.h = true ∧ x.table ≤ 8 ∧ dataWords w c (imageWords w x.table x.h) = d ∧ imageOk w x.table x.h 0 d = true ∧ findKey w x.h x.table (dataKey w c x.table x.h) = none ∧ hashSpec w x.h x.table = some p ∧ candidates p (dataKey w c x.table x.h) = (b0, b1) ∧ (waysOf b0 ++ waysOf b1).find? (fun i => !imageValid x.table (entryAt w x.table x.h 0 i)) = some i) ∧
    (∃ (dt : Nat) (c : Nat) (i : Nat) (x : TblCmd) (d : List Nat) (s : State) (u : State) (w : State), c < 4 ∧ Elapsed dt s u ∧ tableWrites u = w ∧ runningCmd w c = some x ∧ (u.tab.cmds.find? (fun e => e.1 == c)).map (fun e => e.2.op) = some x.op ∧ x.op = 4 ∧ w.frg.active.isSome = true ∧ tableOk w x.table x.h = true ∧ x.table ≤ 8 ∧ dataWords w c (imageWords w x.table x.h) = d ∧ imageOk w x.table x.h 0 d = true ∧ findKey w x.h x.table (dataKey w c x.table x.h) = some i) ∧
    (∃ (dt : Nat) (c : Nat) (i : Nat) (x : TblCmd) (s : State) (u : State) (w : State), c < 4 ∧ Elapsed dt s u ∧ tableWrites u = w ∧ runningCmd w c = some x ∧ (u.tab.cmds.find? (fun e => e.1 == c)).map (fun e => e.2.op) = some x.op ∧ x.op = 6 ∧ w.frg.active.isSome = true ∧ tableOk w x.table x.h = true ∧ x.table ≤ 8 ∧ findKey w x.h x.table (dataKey w c x.table x.h) = some i) ∧
    (∃ (dt : Nat) (c : Nat) (i : Nat) (x : TblCmd) (s : State) (u : State) (w : State), c < 4 ∧ Elapsed dt s u ∧ tableWrites u = w ∧ runningCmd w c = some x ∧ (u.tab.cmds.find? (fun e => e.1 == c)).map (fun e => e.2.op) = some x.op ∧ x.op = 8 ∧ x.table = tFdb ∧ w.frg.active.isSome = true ∧ fget w (F.TBL_INDEX_INDEX c) = i ∧ i < tableSize w tFdb x.h ∧ bitAt (ew (entryAt w tFdb x.h 0 i) 2) 31 = true ∧ bitAt (ew (entryAt w tFdb x.h 0 i) 2) 24 = false ∧ bitAt (ew (entryAt w tFdb x.h 0 i) 2) 25 = false) :=
  ⟨⟨3, 255, 3, 9, true, .tblFlush 3 255 3 true, live, by decide +kernel, by decide +kernel, by decide +kernel, hostReady (by decide +kernel), by decide +kernel⟩,
   ⟨0, 3, (tblDo 3 8 tTcam 3 false (cmdOf 8 tTcam 3) (withCmd 8 tTcam 3 live)).1, cmdOf 8 tTcam 3, withCmd 8 tTcam 3 live, withCmd 8 tTcam 3 live, withCmd 8 tTcam 3 live, (tblDo 3 8 tTcam 3 false (cmdOf 8 tTcam 3) (withCmd 8 tTcam 3 live)).2, by decide +kernel, elapsedNow (by decide +kernel), by decide +kernel⟩,
   ⟨0, 3, (tblDo 3 7 tFdb 3 false (cmdOf 7 tFdb 3) (withCmd 7 tFdb 3 live)).1, cmdOf 7 tFdb 3, withCmd 7 tFdb 3 live, withCmd 7 tFdb 3 live, (tblDo 3 7 tFdb 3 false (cmdOf 7 tFdb 3) (withCmd 7 tFdb 3 live)).2, by decide +kernel, elapsedNow (by decide +kernel), by decide +kernel⟩,
   ⟨0, 3, 16383, cmdOf 1 tTcam 3, wtableCommandsAreIssuedAndCompleted_3, wtableCommandsAreIssuedAndCompleted_3, fputs [(F.TBL_INDEX_INDEX 3, 16383)] (withCmd 1 tTcam 3 live), by decide +kernel, elapsedNow (by decide +kernel), by decide +kernel⟩,
   ⟨0, 3, 4095, cmdOf 2 tBd 3, [0, 0, 0, 0], wtableCommandsAreIssuedAndCompleted_4, wtableCommandsAreIssuedAndCompleted_4, fputs [(F.TBL_INDEX_INDEX 3, 4095)] (withCmd 2 tBd 3 live), by decide +kernel, elapsedNow (by decide +kernel), by decide +kernel⟩,
   ⟨0, 3, 220516, 55129, 5930, cmdOf 4 tFdb 0, { buckets := 65536, seed0 := 0x9E3779B9, seed1 := 0x7F4A7C15, keyWords := 2 }, [0, 0, 2 ^ 31, 0], wtableCommandsAreIssuedAndCompleted_5, wtableCommandsAreIssuedAndCompleted_5, puts [(A.TBL_DATA 3 2, 2 ^ 31)] (withCmd 4 tFdb 0 live), by decide +kernel, elapsedNow (by decide +kernel), by decide +kernel⟩,
   ⟨0, 3, 220516, cmdOf 4 tFdb 0, [0, 0, 2 ^ 31, 0], wtableCommandsAreIssuedAndCompleted_6, wtableCommandsAreIssuedAndCompleted_6, putEntry tFdb 0 0 220516 [0, 0, 2 ^ 31, 0] (puts [(A.TBL_DATA 3 2, 2 ^ 31)] (withCmd 4 tFdb 0 live)), by decide +kernel, elapsedNow (by decide +kernel), by decide +kernel⟩,
   ⟨0, 3, 220516, cmdOf 6 tFdb 0, wtableCommandsAreIssuedAndCompleted_7, wtableCommandsAreIssuedAndCompleted_7, putEntry tFdb 0 0 220516 [0, 0, 2 ^ 31, 0] (withCmd 6 tFdb 0 live), by decide +kernel, elapsedNow (by decide +kernel), by decide +kernel⟩,
   ⟨0, 3, 220516, cmdOf 8 tFdb 0, wtableCommandsAreIssuedAndCompleted_8, wtableCommandsAreIssuedAndCompleted_8, fputs [(F.TBL_INDEX_INDEX 3, 220516)] (putEntry tFdb 0 0 220516 [0, 0, 2 ^ 31, 0] (withCmd 8 tFdb 0 live)), by decide +kernel, elapsedNow (by decide +kernel), by decide +kernel⟩⟩

/-- The hypotheses of `Obligations.MoversNotesAndTemplates` are met, clause by clause. -/
theorem test_witness_MoversNotesAndTemplates :
    (∃ (dt : Nat) (h : Nat) (l : Learn) (rest : List Learn) (s : State) (u : State) (w : State), h < 4 ∧ Elapsed dt s u ∧ tableWrites u = w ∧ lget w.tab.mover h = l :: rest ∧ jobOf w h tFdb = none ∧ (findKey w h tFdb (fdbKey l.bd l.mac)).isSome = true) ∧
    (∃ (dt : Nat) (h : Nat) (i : Nat) (b0 : Nat) (b1 : Nat) (p : HashSpec) (l : Learn) (rest : List Learn) (s : State) (u : State) (w : State), h < 4 ∧ Elapsed dt s u ∧ tableWrites u = w ∧ lget w.tab.mover h = l :: rest ∧ jobOf w h tFdb = none ∧ findKey w h tFdb (fdbKey l.bd l.mac) = none ∧ hashSpec w h tFdb = some p ∧ candidates p (fdbKey l.bd l.mac) = (b0, b1) ∧ (waysOf b0 ++ waysOf b1).find? (fun i => !imageValid tFdb (entryAt w tFdb h 0 i)) = some i) ∧
    (∃ (dt : Nat) (h : Nat) (f : Nat) (b0 : Nat) (b1 : Nat) (p : HashSpec) (path : List Nat) (l : Learn) (rest : List Learn) (s : State) (u : State) (w : State), h < 4 ∧ Elapsed dt s u ∧ tableWrites u = w ∧ lget w.tab.mover h = l :: rest ∧ jobOf w h tFdb = none ∧ findKey w h tFdb (fdbKey l.bd l.mac) = none ∧ hashSpec w h tFdb = some p ∧ candidates p (fdbKey l.bd l.mac) = (b0, b1) ∧ (waysOf b0 ++ waysOf b1).find? (fun i => !imageValid tFdb (entryAt w tFdb h 0 i)) = none ∧ findChain w h tFdb p (Config.moverWay w.free) (maxMoves w) [(b0, []), (b1, [])] [b0, b1] = some (f, path)) ∧
    (∃ (h : Nat) (s : State), h < 4 ∧ held s = false ∧ s.hif.d3hot = false) ∧
    (∃ (h : Nat) (s : State), h < 4 ∧ held s = false ∧ s.hif.d3hot = false) ∧
    (∃ (dt : Nat) (h : Nat) (set : Nat) (way : Nat) (e : FragEntry) (s : State) (u : State), h < 4 ∧ set < 2048 ∧ way < 4 ∧ Elapsed dt s u ∧ fragAt u (8192 * h + 4 * set + way) = some e ∧ e.expires ≤ u.clk) ∧
    (∃ (i : Nat) (op : Nat) (c : Instr) (s : State), i < 512 ∧ HostReady s A.FRY_TMPL_CMD ∧ fbit s F.FRY_TMPL_STATUS_BUSY = false ∧ (c, op) ∈ [(Instr.tmplRead i, 1), (.tmplWrite i, 2)]) ∧
    (∃ (dt : Nat) (i : Nat) (w : List Nat) (s : State) (u : State), Elapsed dt s u ∧ u.fry.cmd = some (2, i) ∧ u.frg.active.isSome = true ∧ (List.range 16).map (fun k => rget u (A.FRY_TMPL_DATA k)) = w ∧ templateOk w = true) ∧
    (∃ (dt : Nat) (i : Nat) (s : State) (u : State), Elapsed dt s u ∧ u.fry.cmd = some (1, i) ∧ u.frg.active.isSome = true) ∧
    (∃ (dt : Nat) (h : Nat) (m : Nat) (s : State) (u : State), h < 4 ∧ m < 32768 ∧ Elapsed dt s u) :=
  ⟨⟨0, 0, learn0, [], wmoversNotesAndTemplates_0, wmoversNotesAndTemplates_0, putEntry tFdb 0 0 220516 [0, 0, 2 ^ 31, 0] learning, by decide +kernel, elapsedNow (by decide +kernel), by decide +kernel⟩,
   ⟨0, 0, 220516, 55129, 5930, { buckets := 65536, seed0 := 0x9E3779B9, seed1 := 0x7F4A7C15, keyWords := 2 }, learn0, [], learning, learning, learning, by decide +kernel, elapsedNow (by decide +kernel), by decide +kernel⟩,
   ⟨0, 0, (Option.get _ chainFound).1, 55129, 5930, { buckets := 65536, seed0 := 0x9E3779B9, seed1 := 0x7F4A7C15, keyWords := 2 }, (Option.get _ chainFound).2, learn0, [], fullBuckets, fullBuckets, fullBuckets, by decide +kernel, elapsedNow (by decide +kernel), by decide +kernel, by decide +kernel, by decide +kernel, by decide +kernel, by decide +kernel, by decide +kernel, by decide +kernel, (Option.some_get chainFound).symm⟩,
   ⟨3, live, by decide +kernel⟩,
   ⟨3, live, by decide +kernel⟩,
   ⟨0, 3, 2047, 3, { key := [], saved := [], written := 0, expires := 0 }, wmoversNotesAndTemplates_5, wmoversNotesAndTemplates_5, by decide +kernel, by decide +kernel, by decide +kernel, elapsedNow (by decide +kernel), by decide +kernel⟩,
   ⟨511, 2, .tmplWrite 511, live, by decide +kernel, hostReady (by decide +kernel), by decide +kernel⟩,
   ⟨0, 511, List.replicate 16 0, wmoversNotesAndTemplates_7, wmoversNotesAndTemplates_7, elapsedNow (by decide +kernel), by decide +kernel⟩,
   ⟨0, 511, wmoversNotesAndTemplates_8, wmoversNotesAndTemplates_8, elapsedNow (by decide +kernel), by decide +kernel⟩,
   ⟨0, 3, 32767, live, live, by decide +kernel, by decide +kernel, elapsedNow (by decide +kernel)⟩⟩

/-- The hypotheses of `Obligations.ShapersRegionsAndSamples` are met, clause by clause. -/
theorem test_witness_ShapersRegionsAndSamples :
    (∃ (g : ShaperTarget) (b : Bool) (v : Word) (s : State), shaperTargetOk g = true ∧ HostReady s (shaperReg b g)) ∧
    (∃ (a : Nat) (v : Word) (s : State), regionAddr a = true ∧ HostReady s a) ∧
    (∃ (dt : Nat) (us : Nat) (s : State) (u : State), Elapsed dt s u ∧ fget u F.TM_SAMPLE_CFG_PERIOD_US = us ∧ us ≠ 0 ∧ u.tmg.sampleClk + us * clocksPerUs ≤ u.clk) :=
  ⟨⟨.queue 76 63, true, 1, live, by decide +kernel, hostReady (by decide +kernel)⟩,
   ⟨0xE0008, 1, live, by decide +kernel, hostReady (by decide +kernel)⟩,
   ⟨0, 7, wshapersRegionsAndSamples_2, wshapersRegionsAndSamples_2, elapsedNow (by decide +kernel), by decide +kernel⟩⟩

/-- The hypotheses of `Obligations.PorterCommandsMoveOwners` are met, clause by clause. -/
theorem test_witness_PorterCommandsMoveOwners :
    (∃ (op : Nat) (pool : Nat) (owner : Nat) (c : Instr) (s : State), HostReady s A.POR_CMD ∧ s.por.cmd = none ∧ pool < 8 ∧ owner < 16 ∧ (c, op) ∈ [(Instr.porAlloc pool owner, 1), (.porFree owner, 2), (.porShare owner, 3), (.porQuery, 4)]) ∧
    (∃ (dt : Nat) (k : Nat) (o : Nat) (x : Nat) (rest : List Nat) (s : State) (u : State), k < 8 ∧ o < 16 ∧ Elapsed dt s u ∧ u.por.cmd = some (1, k, o) ∧ poolTurn u k = true ∧ poolEn u k = true ∧ fget u F.POR_CMD_ARG_ARG ≠ 0 ∧ popcount 16 (fget u F.POR_CMD_ARG_ARG) ≤ 4 ∧ cacheOf u k = x :: rest) ∧
    (∃ (dt : Nat) (o : Nat) (x : Nat) (s : State) (u : State), o < 16 ∧ Elapsed dt s u ∧ u.por.cmd = some (2, 0, o) ∧ rget u A.POR_CMD_HANDLE = x ∧ poolTurn u (handlePool x) = true ∧ handleFits u x = true ∧ roomMask u x ≠ 0 ∧ bitAt (roomMask u x) o = true) ∧
    (∃ (dt : Nat) (o : Nat) (x : Nat) (s : State) (u : State), o < 16 ∧ Elapsed dt s u ∧ u.por.cmd = some (2, 0, o) ∧ rget u A.POR_CMD_HANDLE = x ∧ poolTurn u (handlePool x) = true ∧ handleFits u x = true ∧ roomMask u x = 0) ∧
    (∃ (dt : Nat) (o : Nat) (x : Nat) (s : State) (u : State), Elapsed dt s u ∧ u.por.cmd = some (4, 0, o) ∧ rget u A.POR_CMD_HANDLE = x ∧ poolTurn u (handlePool x) = true ∧ handleValid u x = true) :=
  ⟨⟨3, 7, 15, .porShare 15, live, hostReady (by decide +kernel), by decide +kernel⟩,
   ⟨0, 7, 15, 7 * 2 ^ 29 + 5, [], wporterCommandsMoveOwners_1, wporterCommandsMoveOwners_1, by decide +kernel, by decide +kernel, elapsedNow (by decide +kernel), by decide +kernel⟩,
   ⟨0, 15, 7 * 2 ^ 29 + 5, wporterCommandsMoveOwners_2, wporterCommandsMoveOwners_2, by decide +kernel, elapsedNow (by decide +kernel), by decide +kernel⟩,
   ⟨0, 15, 7 * 2 ^ 29 + 5, wporterCommandsMoveOwners_3, wporterCommandsMoveOwners_3, by decide +kernel, elapsedNow (by decide +kernel), by decide +kernel⟩,
   ⟨0, 15, 7 * 2 ^ 29 + 5, wporterCommandsMoveOwners_4, wporterCommandsMoveOwners_4, elapsedNow (by decide +kernel), by decide +kernel⟩⟩

/-- The hypotheses of `Obligations.ShareAddsOwners` are met, clause by clause. -/
theorem test_witness_ShareAddsOwners :
    (∃ (dt : Nat) (o : Nat) (x : Nat) (m : Nat) (a : Nat) (s : State) (u : State), o < 16 ∧ Elapsed dt s u ∧ u.por.cmd = some (3, 0, o) ∧ rget u A.POR_CMD_HANDLE = x ∧ poolTurn u (handlePool x) = true ∧ roomMask u x = m ∧ m < 2 ^ 16 ∧ fget u F.POR_CMD_ARG_ARG = a) :=
  ⟨0, 15, 7 * 2 ^ 29 + 5, 32768, 7, wshareAddsOwners_0, wshareAddsOwners_0, by decide +kernel, elapsedNow (by decide +kernel), by decide +kernel⟩

/-- The hypotheses of `Obligations.PoolsCachesAndReturns` are met, clause by clause. -/
theorem test_witness_PoolsCachesAndReturns :
    (∃ (k : Nat) (init : Bool) (s : State), k < 8 ∧ HostReady s (A.POR_POOL_CTL k) ∧ poolEn s k = false) ∧
    (∃ (k : Nat) (s : State), k < 8 ∧ HostReady s (A.POR_POOL_CTL k) ∧ poolEn s k = true) ∧
    (∃ (dt : Nat) (k : Nat) (n : Nat) (s : State) (u : State), k < 8 ∧ Elapsed dt s u ∧ refillDue u k = true ∧ readGrant u porterReq = true ∧ min 32 (ringLevel u k) = n) ∧
    (∃ (dt : Nat) (k : Nat) (s : State) (u : State), k < 8 ∧ Elapsed dt s u ∧ spillDue u k = true ∧ writeGrant u porterReq = true ∧ overOf u k = []) ∧
    (∃ (dt : Nat) (k : Nat) (x : Nat) (rest : List Nat) (s : State) (u : State), k < 8 ∧ Elapsed dt s u ∧ spillDue u k = true ∧ writeGrant u porterReq = true ∧ overOf u k = x :: rest) ∧
    (∃ (dt : Nat) (x : Nat) (o : Nat) (b : List Byte) (rest : List (List Byte)) (s : State) (u : State), Elapsed dt s u ∧ fbit u F.POR_RET_CTL_EN = true ∧ (if u.por.records = [] ∧ retDue u = true ∧ readGrant u porterReq = true then retRead u else u.por.records) = b :: rest ∧ leAt b 0 4 = x ∧ poolTurn u (handlePool x) = true ∧ bitAt (leAt b 4 1) 7 = false ∧ leAt b 4 1 % 16 = o ∧ handleFits u x = true ∧ bitAt (roomMask u x) o = true) ∧
    (∃ (dt : Nat) (k : Nat) (s : State) (u : State), k < 8 ∧ Elapsed dt s u ∧ refillDue u k = true) ∧
    (∃ (dt : Nat) (s : State) (u : State), Elapsed dt s u ∧ retDue u = true) :=
  ⟨⟨7, true, live, by decide +kernel, hostReady (by decide +kernel), by decide +kernel⟩,
   ⟨7, wpoolsCachesAndReturns_1, by decide +kernel, hostReady (by decide +kernel), by decide +kernel⟩,
   ⟨0, 7, 32, wpoolsCachesAndReturns_2, wpoolsCachesAndReturns_2, by decide +kernel, elapsedNow (by decide +kernel), by decide +kernel⟩,
   ⟨0, 7, wpoolsCachesAndReturns_3, wpoolsCachesAndReturns_3, by decide +kernel, elapsedNow (by decide +kernel), by decide +kernel⟩,
   ⟨0, 7, 9, [], wpoolsCachesAndReturns_4, wpoolsCachesAndReturns_4, by decide +kernel, elapsedNow (by decide +kernel), by decide +kernel⟩,
   ⟨0, 0, 0, List.replicate 8 0, [], wpoolsCachesAndReturns_5, wpoolsCachesAndReturns_5, elapsedNow (by decide +kernel), by decide +kernel⟩,
   ⟨0, 7, wpoolsCachesAndReturns_6, wpoolsCachesAndReturns_6, by decide +kernel, elapsedNow (by decide +kernel), by decide +kernel⟩,
   ⟨0, wpoolsCachesAndReturns_7, wpoolsCachesAndReturns_7, elapsedNow (by decide +kernel), by decide +kernel⟩⟩

/-- The hypotheses of `Obligations.ChannelsRunStopAndResume` are met, clause by clause. -/
theorem test_witness_ChannelsRunStopAndResume :
    (∃ (ch : DataChan) (s : State), dataChanOk ch = true ∧ HostReady s (dryCtl (chanOf ch)) ∧ chanEn s (chanOf ch) = false ∧ chanState s (chanOf ch) = stDisabled) ∧
    (∃ (ch : DataChan) (v : Word) (s : State), dataChanOk ch = true ∧ HostReady s (dryBase (chanOf ch) + 0x1C)) ∧
    (∃ (dt : Nat) (c : Nat) (n : Nat) (k : Nat) (a : Nat) (s : State) (u : State), c < 64 ∧ Elapsed dt s u ∧ fetchDue u (.rx c) = true ∧ readGrant u (chanReq (.rx c)) = true ∧ aheadOf u (.rx c) = (n, k, a) ∧ (atFirst u (.rx c) = true ∨ (a ≠ 0 ∧ a % 64 = 0))) ∧
    (∃ (dt : Nat) (c : Nat) (n : Nat) (k : Nat) (a : Nat) (s : State) (u : State), c < 64 ∧ Elapsed dt s u ∧ fetchDue u (.tx c) = true ∧ readGrant u (chanReq (.tx c)) = true ∧ aheadOf u (.tx c) = (n, k, a) ∧ (atFirst u (.tx c) = true ∨ (a ≠ 0 ∧ a % 64 = 0))) ∧
    (∃ (dt : Nat) (n : Nat) (k : Nat) (a : Nat) (ch : DataChan) (s : State) (u : State), dataChanOk ch = true ∧ Elapsed dt s u ∧ fetchDue u ch = true ∧ aheadOf u ch = (n, k, a) ∧ (atFirst u ch = true ∨ (a ≠ 0 ∧ a % 64 = 0))) ∧
    (∃ (ch : DryChan) (s : State), dryChanOk ch = true ∧ HostReady s (dryCtl ch) ∧ (chanState s ch = stRunning ∨ chanState s ch = stWaiting)) ∧
    (∃ (dt : Nat) (ch : DataChan) (s : State) (u : State), dataChanOk ch = true ∧ Elapsed dt s u ∧ chanState u (chanOf ch) = stStopping ∧ atBoundary u (chanOf ch) = true) ∧
    (∃ (dt : Nat) (e : Nat) (s : State) (u : State), e < 16 ∧ Elapsed dt s u ∧ chanState u (.err e) = stStopping ∧ atBoundary u (.err e) = true) ∧
    (∃ (ch : DryChan) (s : State), dryChanOk ch = true ∧ HostReady s (dryCtl ch) ∧ chanState s ch = stStopped) ∧
    (∃ (ch : DataChan) (s : State), dataChanOk ch = true ∧ HostReady s (dryCtl (chanOf ch)) ∧ chanState s (chanOf ch) = stHalted) ∧
    (∃ (ch : DataChan) (s : State), dataChanOk ch = true ∧ HostReady s (dryCtl (chanOf ch)) ∧ chanEn s (chanOf ch) = true) :=
  ⟨⟨.tx 63, live, by decide +kernel, hostReady (by decide +kernel), by decide +kernel⟩,
   ⟨.tx 63, 65536, live, by decide +kernel, hostReady (by decide +kernel)⟩,
   ⟨0, 63, 0, 1, 0, wchannelsRunStopAndResume_2, wchannelsRunStopAndResume_2, by decide +kernel, elapsedNow (by decide +kernel), by decide +kernel⟩,
   ⟨0, 63, 0, 1, 0, wchannelsRunStopAndResume_3, wchannelsRunStopAndResume_3, by decide +kernel, elapsedNow (by decide +kernel), by decide +kernel⟩,
   ⟨0, 0, 1, 0, .tx 63, wchannelsRunStopAndResume_4, wchannelsRunStopAndResume_4, by decide +kernel, elapsedNow (by decide +kernel), by decide +kernel⟩,
   ⟨.err 15, wchannelsRunStopAndResume_5, by decide +kernel, hostReady (by decide +kernel), by decide +kernel⟩,
   ⟨0, .rx 63, wchannelsRunStopAndResume_6, wchannelsRunStopAndResume_6, by decide +kernel, elapsedNow (by decide +kernel), by decide +kernel⟩,
   ⟨0, 15, wchannelsRunStopAndResume_7, wchannelsRunStopAndResume_7, by decide +kernel, elapsedNow (by decide +kernel), by decide +kernel⟩,
   ⟨.err 15, wchannelsRunStopAndResume_8, by decide +kernel, hostReady (by decide +kernel), by decide +kernel⟩,
   ⟨.tx 63, wchannelsRunStopAndResume_9, by decide +kernel, hostReady (by decide +kernel), by decide +kernel⟩,
   ⟨.tx 63, fputs [(fEn (.tx 63), 1)] live, by decide +kernel, hostReady (by decide +kernel), by decide +kernel⟩⟩

/-- The hypotheses of `Obligations.FramesCrossTheDrayman` are met, clause by clause. -/
theorem test_witness_FramesCrossTheDrayman :
    (∃ (dt : Nat) (r : Nat) (k : Nat) (z : Nat) (n : Nat) (c : Copy) (rest : List Copy) (s : State) (u : State), r < 64 ∧ Elapsed dt s u ∧ chanEn u (.rx r) = true ∧ handPaced u r = true ∧ wholeHead u r = some (c, rest) ∧ starved u r = false ∧ roomsFor u r (headroom u r + (hostBytes u c).length) = some (k, z, n) ∧ chanState u (.rx r) = stRunning ∧ (rxCh u r).work = none ∧ dmaOn u = true ∧ ceilDiv n 6 ≤ held32 u (.rx r)) ∧
    (∃ (dt : Nat) (r : Nat) (x : Nat) (i : Nat) (o : Nat) (n : Nat) (w : RxWork) (s : State) (u : State), r < 64 ∧ Elapsed dt s u ∧ (rxCh u r).work = some w ∧ w.written < w.data.length ∧ writeGrant u (chanReq (.rx r)) = true ∧ roomSpot w = (i, o) ∧ w.rooms[i]? = some x ∧ burstLen (writeSize u) (roomAddr u x + o) (min (w.data.length - w.written) (w.size - o)) = n) ∧
    (∃ (dt : Nat) (r : Nat) (x : Nat) (o : Nat) (n : Nat) (rest : List Nat) (w : RxWork) (s : State) (u : State), r < 64 ∧ Elapsed dt s u ∧ (rxCh u r).work = some w ∧ w.written < w.data.length ∧ writeGrant u (chanReq (.rx r)) = true ∧ roomSpot w = (w.rooms.length, o) ∧ w.pool < 8 ∧ poolTurn u w.pool = true ∧ poolEn u w.pool = true ∧ cacheOf u w.pool = x :: rest ∧ burstLen (writeSize u) (roomAddr u x + o) (min (w.data.length - w.written) (w.size - o)) = n) ∧
    (∃ (dt : Nat) (r : Nat) (n : Nat) (e : Nat × List Byte) (w : RxWork) (s : State) (u : State), r < 64 ∧ Elapsed dt s u ∧ (rxCh u r).work = some w ∧ w.data.length ≤ w.written ∧ w.need ≤ w.rooms.length ∧ ceilDiv w.need 6 = n ∧ n ≤ (rxCh u r).ahead.length ∧ writeGrant u (chanReq (.rx r)) = true ∧ (descWrites u w n (rxCh u r).ahead).getD w.wrote (0, []) = e) ∧
    (∃ (dt : Nat) (r : Nat) (c : Nat) (s : State) (u : State), r < 64 ∧ Elapsed dt s u ∧ (rxCh u r).since = some c ∧ fget u (F.DRY_RX_INT_MOD_INT_USEC r) ≠ 0 ∧ c + fget u (F.DRY_RX_INT_MOD_INT_USEC r) * 1400 ≤ u.clk) ∧
    (∃ (dt : Nat) (c : Nat) (a : Nat) (n : Nat) (d : TxDesc) (b : List Byte) (s : State) (u : State), c < 64 ∧ Elapsed dt s u ∧ txWorks u c = true ∧ (txCh u c).skip = false ∧ txNext u c = some d ∧ txWaits u c d = false ∧ txKind u c d = 0 ∧ (txCh u c).part.length < segTotal d.bytes ∧ readGrant u (chanReq (.tx c)) = true ∧ segSpot u (usedSegs d.bytes) (txCh u c).part.length = (a, n) ∧ (txCh u c).part ++ memRead u a (burstLen (readSize u) a n) = b ∧ b.length < segTotal d.bytes) ∧
    (∃ (dt : Nat) (c : Nat) (a : Nat) (n : Nat) (d : TxDesc) (b : List Byte) (f : TxFrame) (s : State) (u : State), c < 64 ∧ Elapsed dt s u ∧ txWorks u c = true ∧ (txCh u c).skip = false ∧ txNext u c = some d ∧ txWaits u c d = false ∧ txKind u c d = 0 ∧ (txCh u c).part.length < segTotal d.bytes ∧ readGrant u (chanReq (.tx c)) = true ∧ segSpot u (usedSegs d.bytes) (txCh u c).part.length = (a, n) ∧ (txCh u c).part ++ memRead u a (burstLen (readSize u) a n) = b ∧ b.length = segTotal d.bytes ∧ descEop d = true ∧ (txCh u c).frame.getD { head := d.bytes, descs := 0, body := [], kind := 0, cells := 0, lost := false } = f ∧ leAt f.head 8 2 = f.body.length + b.length) ∧
    (∃ (dt : Nat) (c : Nat) (k : Nat) (d : TxDesc) (s : State) (u : State), c < 64 ∧ Elapsed dt s u ∧ txWorks u c = true ∧ (txCh u c).skip = false ∧ txNext u c = some d ∧ txKind u c d = k ∧ k ≠ 0 ∧ descEop d = true) ∧
    (∃ (dt : Nat) (c : Nat) (d : TxDesc) (rest : List TxDesc) (s : State) (u : State), c < 64 ∧ Elapsed dt s u ∧ (txCh u c).ahead = d :: rest ∧ writeGrant u (chanReq (.tx c)) = true ∧ (freeing d).all (fun g => poolTurn u (handlePool g.lo)) = true) ∧
    (∃ (dt : Nat) (c : Nat) (d : TxDesc) (s : State) (u : State), c < 64 ∧ Elapsed dt s u ∧ txNext u c = some d ∧ segDue u c = true) :=
  ⟨⟨0, 63, 0, 2048, 1, copy0, [], wframesCrossTheDrayman_0, wframesCrossTheDrayman_0, by decide +kernel, elapsedNow (by decide +kernel), by decide +kernel⟩,
   ⟨0, 63, 9, 0, 0, 2, work [1, 2] [9], wframesCrossTheDrayman_1, wframesCrossTheDrayman_1, by decide +kernel, elapsedNow (by decide +kernel), by decide +kernel⟩,
   ⟨0, 63, 9, 0, 2, [], work [1, 2] [], wframesCrossTheDrayman_2, wframesCrossTheDrayman_2, by decide +kernel, elapsedNow (by decide +kernel), by decide +kernel⟩,
   ⟨0, 63, 1, (descWrites wframesCrossTheDrayman_3 (work [] [9]) 1 [(0, 0)]).getD 0 (0, []), work [] [9], wframesCrossTheDrayman_3, wframesCrossTheDrayman_3, by decide +kernel, elapsedNow (by decide +kernel), by decide +kernel⟩,
   ⟨0, 63, 0, wframesCrossTheDrayman_4, wframesCrossTheDrayman_4, by decide +kernel, elapsedNow (by decide +kernel), by decide +kernel⟩,
   ⟨0, 63, 0, 300, frameDesc 300, List.replicate 256 0, wframesCrossTheDrayman_5, wframesCrossTheDrayman_5, by decide +kernel, elapsedNow (by decide +kernel), by decide +kernel⟩,
   ⟨0, 63, 0, 14, frameDesc 14, List.replicate 14 0, { head := (frameDesc 14).bytes, descs := 0, body := [], kind := 0, cells := 0, lost := false }, wframesCrossTheDrayman_6, wframesCrossTheDrayman_6, by decide +kernel, elapsedNow (by decide +kernel), by decide +kernel⟩,
   ⟨0, 63, 5, endDesc, wframesCrossTheDrayman_7, wframesCrossTheDrayman_7, by decide +kernel, elapsedNow (by decide +kernel), by decide +kernel⟩,
   ⟨0, 63, { endDesc with read := true }, [], wframesCrossTheDrayman_8, wframesCrossTheDrayman_8, by decide +kernel, elapsedNow (by decide +kernel), by decide +kernel⟩,
   ⟨0, 63, frameDesc 14, wframesCrossTheDrayman_9, wframesCrossTheDrayman_9, by decide +kernel, elapsedNow (by decide +kernel), by decide +kernel⟩⟩

/-- The hypotheses of `Obligations.ErrandsRunTheirInstructions` are met, clause by clause. -/
theorem test_witness_ErrandsRunTheirInstructions :
    (∃ (e : Nat) (s : State), e < 16 ∧ HostReady s (A.DRY_ERR_CTL e) ∧ chanState s (.err e) ∈ [stDisabled, stStopped, stHalted, stDone]) ∧
    (∃ (dt : Nat) (e : Nat) (k : Nat) (n : Nat) (w : List Nat) (m : Move) (s : State) (u : State), e < 16 ∧ Elapsed dt s u ∧ errWorks u e = true ∧ errWords u e = w ∧ instrOk u e w = true ∧ bits (ew w 0) 0 4 = opMove ∧ moveOf w (errIter u e) = m ∧ m.src ≠ 1 ∧ m.dst = 0 ∧ errGrant e u = true ∧ (errSt u e).moved = k ∧ moveBurst u m k = n) ∧
    (∃ (dt : Nat) (e : Nat) (w : List Nat) (s : State) (u : State), e < 16 ∧ Elapsed dt s u ∧ chanState u (.err e) = stRunning ∧ dmaOn u = true ∧ errWords u e = w ∧ instrOk u e w = true ∧ bits (ew w 0) 0 4 = opLoop) ∧
    (∃ (dt : Nat) (e : Nat) (ok : Bool) (w : List Nat) (s : State) (u : State) (v : State), e < 16 ∧ Elapsed dt s u ∧ chanState u (.err e) = stRunning ∧ dmaOn u = true ∧ errWords u e = w ∧ instrOk u e w = true ∧ bits (ew w 0) 0 4 = opWait ∧ bits (ew w 0) 4 2 ≠ 0 ∧ waitLook w u = (ok, false, v)) ∧
    (∃ (dt : Nat) (e : Nat) (w : List Nat) (s : State) (u : State) (v : State), e < 16 ∧ Elapsed dt s u ∧ chanState u (.err e) = stWaiting ∧ dmaOn u = true ∧ errWords u e = w ∧ bits (ew w 0) 4 2 ≠ 0 ∧ waitLook w u = (true, false, v)) ∧
    (∃ (dt : Nat) (e : Nat) (c : Nat) (w : List Nat) (s : State) (u : State), e < 16 ∧ Elapsed dt s u ∧ chanState u (.err e) = stWaiting ∧ errWords u e = w ∧ (errSt u e).waitClk = some c ∧ ew w 5 ≠ 0 ∧ c + ew w 5 * clocksPerUs ≤ u.clk ∧ (bits (ew w 0) 4 2 = 0 ∨ (waitLook w u).1 = false)) ∧
    (∃ (dt : Nat) (e : Nat) (w : List Nat) (s : State) (u : State), e < 16 ∧ Elapsed dt s u ∧ chanState u (.err e) = stRunning ∧ dmaOn u = true ∧ errWords u e = w ∧ instrOk u e w = true ∧ bits (ew w 0) 0 4 = opSignal ∧ errGrant e u = true) ∧
    (∃ (dt : Nat) (e : Nat) (w : List Nat) (s : State) (u : State), e < 16 ∧ Elapsed dt s u ∧ chanState u (.err e) = stRunning ∧ dmaOn u = true ∧ errWords u e = w ∧ instrOk u e w = true ∧ bits (ew w 0) 0 4 = opFence ∧ errGrant e u = true) :=
  ⟨⟨15, live, by decide +kernel, hostReady (by decide +kernel), by decide +kernel⟩,
   ⟨0, 15, 0, 1, [0x21, 4, 0, 0, 0, 0, 0, 0], moveOf [0x21, 4, 0, 0, 0, 0, 0, 0] 0, werrandsRunTheirInstructions_1, werrandsRunTheirInstructions_1, by decide +kernel, elapsedNow (by decide +kernel), by decide +kernel⟩,
   ⟨0, 15, [2, 1, 0, 0, 0, 0, 0, 0], werrandsRunTheirInstructions_2, werrandsRunTheirInstructions_2, by decide +kernel, elapsedNow (by decide +kernel), by decide +kernel⟩,
   ⟨0, 15, true, [0x13, 0, 0, 0, 0, 0, 0, 0], errand stRunning 0 [0x13], errand stRunning 0 [0x13], errand stRunning 0 [0x13], by decide +kernel, elapsedNow (by decide +kernel), by decide +kernel⟩,
   ⟨0, 15, [0x13, 0, 0, 0, 0, 0, 0, 0], errand stWaiting 0 [0x13], errand stWaiting 0 [0x13], errand stWaiting 0 [0x13], by decide +kernel, elapsedNow (by decide +kernel), by decide +kernel⟩,
   ⟨0, 15, 0, [3, 0, 0, 0, 0, 1, 0, 0], werrandsRunTheirInstructions_5, werrandsRunTheirInstructions_5, by decide +kernel, elapsedNow (by decide +kernel), by decide +kernel⟩,
   ⟨0, 15, [4, 0, 0, 0, 0, 0, 0, 0], errand stRunning 0 [4], errand stRunning 0 [4], by decide +kernel, elapsedNow (by decide +kernel), by decide +kernel⟩,
   ⟨0, 15, [5, 0, 0, 0, 0, 0, 0, 0], errand stRunning 0 [5], errand stRunning 0 [5], by decide +kernel, elapsedNow (by decide +kernel), by decide +kernel⟩⟩

/-- The hypotheses of `Obligations.EndStopsTheErrand` are met, clause by clause. -/
theorem test_witness_EndStopsTheErrand :
    (∃ (dt : Nat) (e : Nat) (w : List Nat) (s : State) (u : State), e < 16 ∧ Elapsed dt s u ∧ chanState u (.err e) = stRunning ∧ dmaOn u = true ∧ errWords u e = w ∧ instrOk u e w = true ∧ bits (ew w 0) 0 4 = opEnd) :=
  ⟨0, 15, [6, 0, 0, 0, 0, 0, 0, 0], errand stRunning 0 [6], errand stRunning 0 [6], by decide +kernel, elapsedNow (by decide +kernel), by decide +kernel⟩

/-- The hypotheses of `Obligations.CountersAreLatchedClearedAndHarvested` are met, clause by clause. -/
theorem test_witness_CountersAreLatchedClearedAndHarvested :
    (∃ (m : Word) (s : State), HostReady s A.TAL_SNAP_CMD ∧ (s.tal.live.map Prod.fst).Nodup ∧ selector m.toNat ≠ 0 ∧ s.tal.snapClk ≠ some s.clk) ∧
    (∃ (m : Word) (s : State), HostReady s A.TAL_CLEAR) ∧
    (∃ (s : State), HostReady s A.TAL_HV_CMD ∧ s.tal.harvest = none ∧ selector (rget s A.TAL_HV_MASK) ≠ 0 ∧ 64 + 8 * selCount (rget s A.TAL_HV_MASK) ≤ rget s A.TAL_HV_LIMIT ∧ s.hif.busMaster = true) ∧
    (∃ (s : State), HostReady s A.TAL_HV_CMD ∧ s.tal.harvest.isSome = true) ∧
    (∃ (dt : Nat) (n : Nat) (h : Harvest) (s : State) (u : State), Elapsed dt s u ∧ u.tal.harvest = some h ∧ writeGrant u tallyReq = true ∧ h.written < selCount h.mask ∧ burstLen (writeSize u) (h.addr + 64 + 8 * h.written) (8 * (harvestGathered h u.clk - h.written)) / 8 = n) ∧
    (∃ (dt : Nat) (h : Harvest) (s : State) (u : State), Elapsed dt s u ∧ u.tal.harvest = some h ∧ writeGrant u tallyReq = true ∧ selCount h.mask ≤ h.written ∧ h.header = false) ∧
    (∃ (dt : Nat) (h : Harvest) (s : State) (u : State), Elapsed dt s u ∧ u.tal.harvest = some h ∧ writeGrant u tallyReq = true ∧ selCount h.mask ≤ h.written ∧ h.header = true) ∧
    (∃ (v : Word) (g : Nat) (i : Nat) (s : State), HostReady s A.TAL_RD_SEL ∧ bits v.toNat 27 5 = g ∧ bits v.toNat 0 20 = i ∧ g ≤ 28 ∧ i < groupSize g) :=
  ⟨⟨0x04000000, bump 26 47 live, hostReady (by decide +kernel), by decide +kernel⟩,
   ⟨0x04000000, bump 26 47 live, hostReady (by decide +kernel)⟩,
   ⟨wcountersAreLatchedClearedAndHarvested_2, hostReady (by decide +kernel), by decide +kernel⟩,
   ⟨harvesting 0 false, hostReady (by decide +kernel), by decide +kernel⟩,
   ⟨0, 15, harvest19 0 false, harvesting 0 false, harvesting 0 false, elapsedNow (by decide +kernel), by decide +kernel⟩,
   ⟨0, harvest19 15 false, harvesting 15 false, harvesting 15 false, elapsedNow (by decide +kernel), by decide +kernel⟩,
   ⟨0, harvest19 15 true, harvesting 15 true, harvesting 15 true, elapsedNow (by decide +kernel), by decide +kernel⟩,
   ⟨0xE000000F, 28, 15, bump 28 15 live, hostReady (by decide +kernel), by decide +kernel⟩⟩

/-- The hypotheses of `Obligations.TheGuestbookKeepsItsRecords` are met, clause by clause. -/
theorem test_witness_TheGuestbookKeepsItsRecords :
    (∃ (dt : Nat) (code : Nat) (unit : Nat) (a : Nat) (b : Nat) (s : State) (u : State), code < 65536 ∧ unit < 2 ^ 32 ∧ a < 2 ^ 32 ∧ b < 2 ^ 32 ∧ Elapsed dt s u ∧ fgetInForce u (F.GBK_RL_RATE_RATE (severityOf code)) = 0xFFFF ∧ u.gbk.queue.length < 60) ∧
    (∃ (dt : Nat) (e : GbkEvent) (rest : List GbkEvent) (s : State) (u : State), Elapsed dt s u ∧ u.gbk.queue = e :: rest ∧ writerFree u = true ∧ u.gbk.suppressed.any (fun x => summaryDue u x.2) = false ∧ u.gbk.log.length < logSlots ∧ u.gbk.log.countP (fun x => x.sev != 3) < logMinor) ∧
    (∃ (dt : Nat) (code : Nat) (p : Suppressed) (s : State) (u : State), code < 65536 ∧ Elapsed dt s u ∧ sget suppressedDefault u.gbk.suppressed code = p ∧ summaryNext u code = true ∧ writerFree u = true ∧ u.gbk.log.length < logSlots ∧ u.gbk.log.countP (fun x => x.sev != 3) < logMinor) ∧
    (∃ (v : Word) (s : State), HostReady s A.GBK_RD_SEQ) ∧
    (∃ (s : State), HostReady s A.GBK_CMD) ∧
    (∃ (s : State), HostReady s A.GBK_CMD) ∧
    (∃ (dt : Nat) (r : GbkRecord) (rest : List GbkRecord) (s : State) (u : State), Elapsed dt s u ∧ spillRecords u = r :: rest ∧ writeGrant u spillReq = true) :=
  ⟨⟨0, 65535, 3, 1, 2, wtheGuestbookKeepsItsRecords_0, wtheGuestbookKeepsItsRecords_0, by decide +kernel, by decide +kernel, by decide +kernel, by decide +kernel, elapsedNow (by decide +kernel), by decide +kernel⟩,
   ⟨0, { code := 0x0105, unit := 3, arg0 := 1, arg1 := 2, unset := false, time := List.replicate 12 0, clk := 0 }, [], wtheGuestbookKeepsItsRecords_1, wtheGuestbookKeepsItsRecords_1, elapsedNow (by decide +kernel), by decide +kernel⟩,
   ⟨0, 261, { count := 3, first := 0, last := 0 }, wtheGuestbookKeepsItsRecords_2, wtheGuestbookKeepsItsRecords_2, by decide +kernel, elapsedNow (by decide +kernel), by decide +kernel⟩,
   ⟨0, logged, hostReady (by decide +kernel)⟩,
   ⟨logged, hostReady (by decide +kernel)⟩,
   ⟨logged, hostReady (by decide +kernel)⟩,
   ⟨0, record0, [], wtheGuestbookKeepsItsRecords_6, wtheGuestbookKeepsItsRecords_6, elapsedNow (by decide +kernel), by decide +kernel⟩⟩

/-- The hypotheses of `Obligations.TheMailboxCarriesCommands` are met, clause by clause. -/
theorem test_witness_TheMailboxCarriesCommands :
    (∃ (tag : Nat) (len : Nat) (op : Nat) (c : Instr) (s : State), tag < 256 ∧ len < 32 ∧ HostReady s A.HIF_MBX_CMD ∧ fbit s F.HIF_MBX_STATUS_BUSY = false ∧ (c, op) ∈ [(Instr.ping tag len, 0x0001), (.getVersion tag len, 0x0002), (.avsStatus tag len, 0x0003), (.otpKeyHash tag len, 0x0010), (.otpRevoke tag len, 0x0011), (.otpImageKey tag len, 0x0012), (.otpRaiseSecver tag len, 0x0013)]) ∧
    (∃ (dt : Nat) (op : Nat) (tag : Nat) (len : Nat) (c : Nat) (r : Nat) (ok : Bool) (w : List Nat) (rsp : List Nat) (s : State) (u : State) (v : State), Elapsed dt s u ∧ u.hif.restarting = false ∧ u.hif.mbxOld = [] ∧ u.hif.mbxCmd = some (op, tag, len, w, c) ∧ mbxRun op len w ok u = (r, rsp, v)) ∧
    (∃ (dt : Nat) (tag : Nat) (len : Nat) (c : Nat) (ok : Bool) (w : List Nat) (s : State) (u : State), Elapsed dt s u ∧ u.hif.restarting = false ∧ u.hif.mbxOld = [] ∧ u.hif.mbxCmd = some (opPing, tag, len, w, c) ∧ w.length = 16 ∧ len ≤ 16) ∧
    (∃ (dt : Nat) (tag : Nat) (c : Nat) (w : List Nat) (s : State) (u : State), Elapsed dt s u ∧ u.hif.restarting = false ∧ u.hif.mbxOld = [] ∧ u.hif.mbxCmd = some (opOtpKeyHash, tag, 13, w, c) ∧ slotHash u (w.headD 0 % 2) = none ∧ otpTooHotOrCold u = false) ∧
    (∃ (dt : Nat) (s : State) (u : State), Elapsed dt s u ∧ mbxLate u = true) ∧
    (∃ (dt : Nat) (s : State) (u : State), Elapsed dt s u) ∧
    (∃ (dt : Nat) (s : State) (u : State), Elapsed dt s u ∧ u.hif.beatClk + 100 * clocksPerMs ≤ u.clk) ∧
    (∃ (s : State), HostReady s A.HIF_OSTLER_CTL) :=
  ⟨⟨255, 31, 19, .otpRaiseSecver 255 31, live, by decide +kernel, by decide +kernel, hostReady (by decide +kernel), by decide +kernel⟩,
   ⟨0, opPing, 255, 16, 0, (mbxRun opPing 16 (List.replicate 16 0) true wtheMailboxCarriesCommands_1).1, true, List.replicate 16 0, (mbxRun opPing 16 (List.replicate 16 0) true wtheMailboxCarriesCommands_1).2.1, wtheMailboxCarriesCommands_1, wtheMailboxCarriesCommands_1, (mbxRun opPing 16 (List.replicate 16 0) true wtheMailboxCarriesCommands_1).2.2, elapsedNow (by decide +kernel), by decide +kernel⟩,
   ⟨0, 255, 16, 0, true, List.replicate 16 0, wtheMailboxCarriesCommands_2, wtheMailboxCarriesCommands_2, elapsedNow (by decide +kernel), by decide +kernel⟩,
   ⟨0, 255, 0, List.replicate 16 0, wtheMailboxCarriesCommands_3, wtheMailboxCarriesCommands_3, elapsedNow (by decide +kernel), by decide +kernel⟩,
   ⟨0, wtheMailboxCarriesCommands_4, wtheMailboxCarriesCommands_4, elapsedNow (by decide +kernel), by decide +kernel⟩,
   ⟨0, live, live, elapsedNow (by decide +kernel)⟩,
   ⟨0, at' 140000000 live, at' 140000000 live, elapsedNow (by decide +kernel), by decide +kernel⟩,
   ⟨live, hostReady (by decide +kernel)⟩⟩

/-- The hypotheses of `Obligations.RegisterAccessesAndVectors` are met, clause by clause. -/
theorem test_witness_RegisterAccessesAndVectors :
    (∃ (a : Nat) (v : Word) (s : State), HostReady s 0 ∧ 0x80000 ≤ a ∧ a < 0xC0000 ∧ a % 4 = 0 ∧ (regAt a).isSome = true ∧ resetBusy s a = false) ∧
    (∃ (a : Nat) (be : Nat) (v : Word) (s : State), HostReady s 0 ∧ barAddr a = true ∧ narrow be = true ∧ (regAt a).isSome = true) ∧
    (∃ (a : Nat) (v : Word) (s : State), HostReady s 0 ∧ barAddr a = true ∧ regAt a = none) ∧
    (∃ (a : Nat) (be : Nat) (d : RegDef) (s : State), held s = false ∧ s.hif.d3hot = false ∧ a < 0x1B0000 ∧ a % 4 = 0 ∧ be < 16 ∧ (be = 15 ∨ narrow be = true) ∧ regAt a = some d ∧ a ∉ settleRegs) ∧
    (∃ (a : Nat) (be : Nat) (s : State), held s = false ∧ s.hif.d3hot = false ∧ barAddr a = true ∧ be < 16 ∧ (be = 15 ∨ narrow be = true) ∧ regAt a = none) ∧
    (∃ (a : Nat) (n : Nat) (s : State), held s = false ∧ s.hif.d3hot = false ∧ wellFormed (.unalignedRead a n) = true) ∧
    (∃ (o : Nat) (s : State), HostReady s 0 ∧ userAddr o = true) ∧
    (∃ (b : Bool) (o : Nat) (s : State), HostReady s 0 ∧ wellFormed (.poisoned b o) = true) ∧
    (∃ (v : Word) (s : State), HostReady s A.GLB_VEC_EOI ∧ msixEnabled s = false) ∧
    (∃ (n : Nat) (a : PciAccess) (s : State), n < 128 ∧ held s = false ∧ s.hif.d3hot = false ∧ n ∉ s.hif.unmasked ∧ n ∈ s.hif.pba ∧ msixEnabled s = true ∧ fbit s F.HIF_LINK_FN_MASK = false ∧ a ∈ [PciAccess.unmask (some n), .tableWrite (4 * n + 3) 0]) ∧
    (∃ (k : Nat) (s : State), k < 512 ∧ k % 4 = 3 ∧ held s = false ∧ s.hif.d3hot = false) ∧
    (∃ (k : Nat) (s : State), k < 512 ∧ held s = false ∧ s.hif.d3hot = false) ∧
    (∃ (k : Nat) (s : State), k < 4 ∧ held s = false ∧ s.hif.d3hot = false) ∧
    (∃ (n : Nat) (s : State), n < 8192 ∧ held s = false ∧ s.hif.d3hot = false) ∧
    (∃ (s : State), held s = false) ∧
    (∃ (r : CfgReg) (s : State), held s = false ∧ wellFormed (.msixUnmask (.cfgRead r)) = true) :=
  ⟨⟨A.HTH_EXC_CAP 3, 1, live, hostReady (by decide +kernel), by decide +kernel⟩,
   ⟨A.GLB_WAKE_MS, 1, 0, live, hostReady (by decide +kernel), by decide +kernel⟩,
   ⟨0xFFFFFC, 0, live, hostReady (by decide +kernel), by decide +kernel⟩,
   ⟨A.HTH_EXC_CAP 3, 1, ((regAt (A.HTH_EXC_CAP 3)).getD ⟨0, 0, 0, 0, 0, 0, 0, 0, 0, 0, 0⟩), live, by decide +kernel⟩,
   ⟨0xFFFFFC, 15, live, by decide +kernel⟩,
   ⟨0xFFFFFC, 1, live, by decide +kernel⟩,
   ⟨0xFFFC, live, hostReady (by decide +kernel), by decide +kernel⟩,
   ⟨true, 0xFFFC, live, hostReady (by decide +kernel), by decide +kernel⟩,
   ⟨127, live, hostReady (by decide +kernel), by decide +kernel⟩,
   ⟨127, .unmask (some 127), wregisterAccessesAndVectors_9, by decide +kernel⟩,
   ⟨511, live, by decide +kernel⟩,
   ⟨511, live, by decide +kernel⟩,
   ⟨3, live, by decide +kernel⟩,
   ⟨8191, live, by decide +kernel⟩,
   ⟨live, by decide +kernel⟩,
   ⟨.msixControl, live, by decide +kernel⟩⟩

/-- The hypotheses of `Obligations.VotersBanksAndBist` are met, clause by clause. -/
theorem test_witness_VotersBanksAndBist :
    (∃ (h : Nat) (c : Nat) (s : State), h < 4 ∧ c < 3 ∧ HostReady s A.HLT_FENCE_CMD ∧ fencedNow s h = false) ∧
    (∃ (h : Nat) (s : State), h < 4 ∧ HostReady s A.HLT_FENCE_CMD ∧ fencedNow s h = true ∧ bits (rget s A.HLT_FENCE_STATUS) (4 * h) 2 = 2) ∧
    (∃ (dt : Nat) (h : Nat) (ok : Bool) (s : State) (u : State), h < 4 ∧ Elapsed dt s u ∧ fencedNow u h = true ∧ ostlerUp u = true) ∧
    (∃ (dt : Nat) (w : EccWord) (s : State) (u : State), eccOk w = true ∧ Elapsed dt s u) ∧
    (∃ (dt : Nat) (n : Nat) (w : EccWord) (s : State) (u : State), eccOk w = true ∧ (n = 2 ∨ n = 3) ∧ Elapsed dt s u ∧ bitAt (rget u A.HLT_ECC_CAP) 31 = false) ∧
    (∃ (dt : Nat) (h : Nat) (row : Nat) (b : Bool) (p : Bool) (x : Bool) (s : State) (u : State), h < 4 ∧ row < 16384 ∧ Elapsed dt s u) ∧
    (∃ (b : Nat) (s : State), b < 64 ∧ HostReady s A.HLT_BANK_CMD ∧ s.hlt.sparing.any (fun x => x.bank == b) = false ∧ b ∉ s.hlt.withdrawing ∧ bankGone s b = false) ∧
    (∃ (dt : Nat) (b : Nat) (x : Sparing) (s : State) (u : State), b < 64 ∧ Elapsed dt s u ∧ u.hlt.sparing.find? (fun x => x.bank == b) = some x ∧ x.spare < 4 ∧ x.clk + 24576 ≤ u.clk) ∧
    (∃ (dt : Nat) (b : Nat) (s : State) (u : State), b < 64 ∧ Elapsed dt s u ∧ b ∈ u.hlt.withdrawing ∧ cellsUsed u + cellsWithdrawn u + 6144 ≤ 393216) ∧
    (∃ (g : Nat) (s : State), g < 32 ∧ HostReady s A.HLT_BIST_CTL ∧ s.glb.base = bDiagnostic ∧ fget s F.HLT_BIST_STATUS_STATE ≠ 1) ∧
    (∃ (dt : Nat) (f : Nat) (s : State) (u : State), f < 32 ∧ Elapsed dt s u ∧ fget u F.HLT_BIST_STATUS_STATE = 1) :=
  ⟨⟨3, 2, live, by decide +kernel, by decide +kernel, hostReady (by decide +kernel), by decide +kernel⟩,
   ⟨3, wvotersBanksAndBist_1, by decide +kernel, hostReady (by decide +kernel), by decide +kernel⟩,
   ⟨0, 3, false, wvotersBanksAndBist_2, wvotersBanksAndBist_2, by decide +kernel, elapsedNow (by decide +kernel), by decide +kernel⟩,
   ⟨0, { cls := 4, hearth := 15, table := 255, index := 0xFFFFF }, live, live, by decide +kernel, elapsedNow (by decide +kernel)⟩,
   ⟨0, 3, { cls := 4, hearth := 15, table := 255, index := 0xFFFFF }, live, live, by decide +kernel, by decide +kernel, elapsedNow (by decide +kernel), by decide +kernel⟩,
   ⟨0, 3, 16383, true, true, true, live, live, by decide +kernel, by decide +kernel, elapsedNow (by decide +kernel)⟩,
   ⟨63, live, by decide +kernel, hostReady (by decide +kernel), by decide +kernel⟩,
   ⟨0, 63, { bank := 63, spare := 3, clk := 0 }, wvotersBanksAndBist_7, wvotersBanksAndBist_7, by decide +kernel, elapsedNow (by decide +kernel), by decide +kernel⟩,
   ⟨0, 63, wvotersBanksAndBist_8, wvotersBanksAndBist_8, by decide +kernel, elapsedNow (by decide +kernel), by decide +kernel⟩,
   ⟨31, atBase bDiagnostic live, by decide +kernel, hostReady (by decide +kernel), by decide +kernel⟩,
   ⟨0, 31, wvotersBanksAndBist_10, wvotersBanksAndBist_10, by decide +kernel, elapsedNow (by decide +kernel), by decide +kernel⟩⟩

/-- The hypotheses of `Obligations.MonitorsAndTheCoreVoltage` are met, clause by clause. -/
theorem test_witness_MonitorsAndTheCoreVoltage :
    (∃ (dt : Nat) (r : Readings) (s : State) (u : State), readingsOk r = true ∧ Elapsed dt s u ∧ ostlerUp u = true) ∧
    (∃ (dt : Nat) (k : Nat) (v : Int) (s : State) (u : State), k < 12 ∧ Elapsed dt s u ∧ monState u true k ≠ 2 ∧ voltNext u (monState u true k) k v.toNat = 2) ∧
    (∃ (dt : Nat) (s : State) (u : State), Elapsed dt s u ∧ (∀ c, u.hlt.avsClk = some c → c + 10 * clocksPerMs ≤ u.clk)) :=
  ⟨⟨0, { temps := List.replicate 16 (some 4000), volts := List.replicate 12 none, procs := List.replicate 32 (some 1000) }, live, live, by decide +kernel, elapsedNow (by decide +kernel), by decide +kernel⟩,
   ⟨0, 11, 0, live, live, by decide +kernel, elapsedNow (by decide +kernel), by decide +kernel⟩,
   ⟨0, live, live, elapsedNow (by decide +kernel), fun _ h => nomatch h⟩⟩

/-- The hypotheses of `Obligations.SerialControllersRunTheirCommands` are met, clause by clause. -/
theorem test_witness_SerialControllersRunTheirCommands :
    (∃ (v : Word) (s : State), HostReady s A.PIN_QSPI_CMD ∧ fbit s F.PIN_QSPI_STATUS_BUSY = false ∧ loaderReads s = false ∧ bits v.toNat 15 9 ≤ 256) ∧
    (∃ (dt : Nat) (v : Nat) (data : List Byte) (s : State) (u : State), data.length ≤ 256 ∧ Elapsed dt s u ∧ u.pin.qspi = some v) ∧
    (∃ (i : Nat) (v : Word) (s : State), i < 2 ∧ HostReady s (A.PIN_I2C_CMD i) ∧ fbit s (F.PIN_I2C_STATUS_BUSY i) = false ∧ bitAt v.toNat 0 = true ∧ fbit s (F.PIN_I2C_CFG_EN i) = true ∧ bits v.toNat 16 6 ≤ 32 ∧ bits v.toNat 8 6 ≤ 32 ∧ bits v.toNat 16 6 ≤ (i2cOf s i).tx.length) ∧
    (∃ (dt : Nat) (i : Nat) (a : Nat) (w : Nat) (n : Nat) (data : List Byte) (s : State) (u : State), i < 2 ∧ data.length ≤ 32 ∧ Elapsed dt s u ∧ (i2cOf u i).cmd = some (a, w, n)) ∧
    (∃ (i : Nat) (v : Word) (s : State), i < 2 ∧ HostReady s (A.PIN_I2C_DATA i) ∧ fbit s (F.PIN_I2C_STATUS_BUSY i) = false ∧ (i2cOf s i).tx.length < 32) ∧
    (∃ (i : Nat) (b : Byte) (rest : List Byte) (s : State), i < 2 ∧ held s = false ∧ s.hif.d3hot = false ∧ (i2cOf s i).rx = b :: rest) ∧
    (∃ (op : Nat) (phy : Nat) (dev : Nat) (reg : Nat) (c : Instr) (s : State), phy < 32 ∧ dev < 32 ∧ reg < 65536 ∧ (op < 2 → reg < 32) ∧ HostReady s A.PIN_MDIO_CMD ∧ fbit s F.PIN_MDIO_STATUS_BUSY = false ∧ (c, op) ∈ [(Instr.c22Write phy reg, 0), (.c22Read phy reg, 1), (.c45Write phy dev reg, 2), (.c45Read phy dev reg, 3)]) ∧
    (∃ (dt : Nat) (op : Nat) (a : Nat) (b : Nat) (c : Nat) (d : Nat) (no : Bool) (s : State) (u : State), d < 65536 ∧ Elapsed dt s u ∧ u.pin.mdio = some (op, a, b, c)) :=
  ⟨⟨0, live, hostReady (by decide +kernel), by decide +kernel⟩,
   ⟨0, 3, List.replicate 256 0, wserialControllersRunTheirCommands_1, wserialControllersRunTheirCommands_1, by decide +kernel, elapsedNow (by decide +kernel), by decide +kernel⟩,
   ⟨1, 0x00010001, wserialControllersRunTheirCommands_2, by decide +kernel, hostReady (by decide +kernel), by decide +kernel⟩,
   ⟨0, 1, 1, 1, 1, [9], wserialControllersRunTheirCommands_3, wserialControllersRunTheirCommands_3, by decide +kernel, by decide +kernel, elapsedNow (by decide +kernel), by decide +kernel⟩,
   ⟨1, 0, live, by decide +kernel, hostReady (by decide +kernel), by decide +kernel⟩,
   ⟨1, 7, [], wserialControllersRunTheirCommands_5, by decide +kernel⟩,
   ⟨3, 31, 31, 65535, .c45Read 31 31 65535, live, by decide +kernel, by decide +kernel, by decide +kernel, by decide +kernel, hostReady (by decide +kernel), by decide +kernel⟩,
   ⟨0, 1, 2, 3, 4, 65535, false, wserialControllersRunTheirCommands_7, wserialControllersRunTheirCommands_7, by decide +kernel, elapsedNow (by decide +kernel), by decide +kernel⟩⟩

/-- The hypotheses of `Obligations.ClocksLedsAndJtag` are met, clause by clause. -/
theorem test_witness_ClocksLedsAndJtag :
    (∃ (dt : Nat) (k : Nat) (s : State) (u : State), k < 5 ∧ Elapsed dt s u ∧ clkOk u k = true) ∧
    (∃ (dt : Nat) (k : Nat) (s : State) (u : State), k < 5 ∧ Elapsed dt s u ∧ clkOk u k = false) ∧
    (∃ (dt : Nat) (s : State) (u : State), Elapsed dt s u ∧ clkOk u 5 = true) ∧
    (∃ (dt : Nat) (s : State) (u : State), Elapsed dt s u ∧ clkOk u 5 = false) ∧
    (∃ (dt : Nat) (s : State) (u : State), Elapsed dt s u ∧ ledDue u = true ∧ fbit u F.PIN_LED_CFG_INVERT = false) ∧
    (∃ (pins : List Bool) (c : Instr) (n : Nat) (s : State), (c, n) ∈ [(Instr.jtagBypass, 0), (.jtagIdcode, 1), (.jtagSamplePreload pins, 2)]) ∧
    (∃ (c : Instr) (n : Nat) (s : State), (c, n) ∈ [(Instr.jtagExtest, 3), (.jtagExtestPulse, 4), (.jtagExtestTrain, 5), (.jtagHighz, 6), (.jtagClamp, 7)]) :=
  ⟨⟨0, 4, setClkOk 4 true live, setClkOk 4 true live, by decide +kernel, elapsedNow (by decide +kernel), by decide +kernel⟩,
   ⟨0, 4, setClkOk 4 false live, setClkOk 4 false live, by decide +kernel, elapsedNow (by decide +kernel), by decide +kernel⟩,
   ⟨0, setClkOk 5 true live, setClkOk 5 true live, elapsedNow (by decide +kernel), by decide +kernel⟩,
   ⟨0, setClkOk 5 false live, setClkOk 5 false live, elapsedNow (by decide +kernel), by decide +kernel⟩,
   ⟨0, wclocksLedsAndJtag_4, wclocksLedsAndJtag_4, elapsedNow (by decide +kernel), by decide +kernel⟩,
   ⟨[true, false], .jtagSamplePreload [true, false], 2, live, by decide +kernel⟩,
   ⟨.jtagClamp, 7, live, by decide +kernel⟩⟩

/-- The hypotheses of `Obligations.GpioEdgesAreKept` are met, clause by clause. -/
theorem test_witness_GpioEdgesAreKept :
    (∃ (dt : Nat) (n : Nat) (s : State) (u : State), n < 16 ∧ Elapsed dt s u ∧ bitAt (rget u A.PIN_GPIO_DIR) n = false ∧ bitAt (rget u A.PIN_GPIO_EDGE_EN) n = true) ∧
    (∃ (dt : Nat) (n : Nat) (s : State) (u : State), n < 16 ∧ Elapsed dt s u ∧ (bitAt (rget u A.PIN_GPIO_DIR) n = true ∨ bitAt (rget u A.PIN_GPIO_EDGE_EN) n = false)) :=
  ⟨⟨0, 15, wgpioEdgesAreKept_0, wgpioEdgesAreKept_0, by decide +kernel, elapsedNow (by decide +kernel), by decide +kernel⟩,
   ⟨0, 15, wgpioEdgesAreKept_1, wgpioEdgesAreKept_1, by decide +kernel, elapsedNow (by decide +kernel), by decide +kernel⟩⟩


/-! ### The statements over all commands -/

def answersNext : Host.Outcome State Fault Refusal → Bool
  | .next _ => true
  | _ => false
theorem exists_next (o : Host.Outcome State Fault Refusal) (h : answersNext o = true) : ∃ t, o = .next t := by
  cases o with
  | next t => exact ⟨t, rfl⟩
  | _ => cases h
/-- A device held in cold reset: its core clock is lost. -/
def heldNow : State := { live with glb := { live.glb with heldClock := true } }
/-- The commands of `Obligations.HostCommandsKeepOtherRegisters` with what each writes. -/
def hostCommandRows (v : Word) (h i j k : Nat) (d : DryChan) (a : PciAccess) (b : Bool) : List (Instr × List Nat) :=
  [
      (Instr.glbWakeMsWrite v, [A.GLB_WAKE_MS]),
      (.glbVecEoiWrite v, []),
      (.msixUnmask a, [A.HIF_LINK]),
      (.latch, [A.TIM_CMD_STATUS, A.TIM_LAT_SEC_HI, A.TIM_LAT_SEC_LO, A.TIM_LAT_NS, A.TIM_LAT_FRAC]),
      (.utcOffsetSet v, [A.TIM_UTC_OFFSET]),
      (.txtsRecordRead, []),
      (.latchPhase, [A.PHS_CMD_STATUS, A.PHS_LAT_SEC_HI, A.PHS_LAT_SEC_LO, A.PHS_LAT_NS, A.PHS_LAT_FRAC, A.PHS_LAT_CYCLE_HI,
        A.PHS_LAT_CYCLE_LO, A.PHS_LAT_PHASE]),
      (.setCycle, [A.PHS_CMD_STATUS]),
      (.tblNoteW3Read h, []),
      (.hthExcCapRead h, [A.HTH_EXC_CAP h]),
      (.tblRead i j h b, [A.TBL_STATUS i]),
      (.tmplRead i, [A.FRY_TMPL_STATUS]),
      (.porAlloc i j, [A.POR_CMD_STATUS]),
      (.porFree i, [A.POR_CMD_STATUS]),
      (.porShare i, [A.POR_CMD_STATUS]),
      (.porQuery, [A.POR_CMD_STATUS]),
      (.dryStop d, [dryBase d + 8]),
      (.talClear v, []),
      (.talRdSelWrite v, [A.TAL_RD_SEL, A.TAL_RD_HI, A.TAL_RD_LO]),
      (.gbkRdSeqWrite v, A.GBK_RD_SEQ :: A.GBK_RD_STATUS :: (List.range 8).map A.GBK_RD_W),
      (.gbkClear, []),
      (.gbkClearAll, []),
      (.ping i j, [A.HIF_MBX_STATUS]),
      (.fabSelfWrite v, [A.FAB_SELF]),
      (.unfence h, [A.HLT_FENCE, A.HLT_FENCE_STATUS]),
      (.i2cDataRead i, [A.PIN_I2C_STATUS i]),
      (.i2cDataWrite i v, [A.PIN_I2C_STATUS i]),
      (.c22Read j k, [A.PIN_MDIO_STATUS])]

/-- The hypotheses of `Obligations.AnEmptyQueueLetsAClockPass` are met, held and not held. -/
theorem test_witness_AnEmptyQueueLetsAClockPass :
    (∃ s : State, s.pending = [] ∧ held s = true) ∧ (∃ s : State, s.pending = [] ∧ held s = false) :=
  ⟨⟨heldNow, rfl, by decide +kernel⟩, ⟨State.reset, rfl, by decide +kernel⟩⟩

/-- The hypotheses of `Obligations.WellFormedCommandsComplete` are met, well formed and not. -/
theorem test_witness_WellFormedCommandsComplete :
    (∃ c : Instr, wellFormed c = true) ∧ (∃ c : Instr, wellFormed c = false) :=
  ⟨⟨.portReset 75, by decide +kernel⟩, ⟨.portReset 76, by decide +kernel⟩⟩

/-- The hypothesis of `Obligations.CommandsKeepTheQueue`, `Obligations.CommandsTouchOnlyTheirParts` and, with a device that is
not held, of `Obligations.AlertFollowsItsSources` is met. -/
theorem test_witness_CommandsKeepTheQueue : ∃ (c : Instr) (s t : State), held s = false ∧ exec c s = .next t :=
  ⟨.gbkClear, live, (exists_next (exec .gbkClear live) (by decide +kernel)).choose, by decide +kernel,
    (exists_next (exec .gbkClear live) (by decide +kernel)).choose_spec⟩

/-- The hypotheses of `Obligations.AHeldDeviceTakesPinsOnly` are met. -/
theorem test_witness_AHeldDeviceTakesPinsOnly :
    ∃ (c : Instr) (s : State), held s = true ∧ wellFormed c = true :=
  ⟨.gbkClear, heldNow, by decide +kernel, by decide +kernel⟩

/-- The hypotheses of `Obligations.EveryStepSettles`, `Obligations.EveryStepKeepsMemoryCanonical` and
`Obligations.EveryStepKeepsALegalBaseState` are met together. -/
theorem test_witness_EveryStepSettles :
    ∃ s t : State, Settled s ∧ memWf s.mem = true ∧
      s.glb.base ∈ [bDormant, bLoading, bVerifying, bWaking, bRun, bDraining, bQuiesced, bDiagnostic] ∧ step s = .next t := by
  obtain ⟨t, ht⟩ := exists_next (step { State.reset with pending := [.gbkClear] }) (by decide +kernel)
  refine ⟨_, t, ?_, ?_, ?_, ht⟩
  · unfold Settled
    decide +kernel
  · decide +kernel
  · decide +kernel

/-- Each command of `Obligations.HostCommandsKeepOtherRegisters` answers a next state on a device in base RUN. -/
theorem test_witness_HostCommandsKeepOtherRegisters :
    (hostCommandRows 1 3 1 3 31 (.err 15) (.unmask (some 127)) true).all (fun e => answersNext (exec e.1 live)) = true := by decide +kernel

/-- The hypotheses of `Obligations.MemoryKeepsWhatIsWritten` are met, at the end of the address space. -/
theorem test_witness_MemoryKeepsWhatIsWritten :
    ∃ (a : Nat) (l : List Byte) (s : State) (x : Nat), l.length ≤ 2 ^ 64 ∧
      (∀ i, i < l.length → x % 2 ^ 64 ≠ (a + i) % 2 ^ 64) ∧ memWf s.mem = true :=
  ⟨2 ^ 64 - 1, [7, 0], live, 1, by decide +kernel, by decide +kernel, by decide +kernel⟩

/-- The hypotheses of `Obligations.ReadsLeaveWritableFields` are met, by a full read and by a narrow one. -/
theorem test_witness_ReadsLeaveWritableFields : ∀ be ∈ [15, 12],
    ∃ (a : Nat) (d : RegDef) (s : State), wellFormed (.rcRegisterRead a be) = true ∧ regAt a = some d ∧ d.rc ≠ 0 ∧
      held s = false ∧ s.hif.d3hot = false ∧ (be = fullBe ∨ narrow be = true) := by
  intro be hb
  have h : (regAt (A.HTH_EXC_CAP 3)).any (fun d => d.rc != 0) = true := by decide +kernel
  rcases hd : regAt (A.HTH_EXC_CAP 3) with _ | d
  · rw [hd] at h
    cases h
  · rw [hd] at h
    refine ⟨A.HTH_EXC_CAP 3, d, live, ?_, hd, by simpa using h, by decide +kernel, by decide +kernel, ?_⟩ <;>
      · simp only [List.mem_cons, List.mem_nil_iff, or_false] at hb
        rcases hb with rfl | rfl <;> decide +kernel


/-! ### Worked examples of the spec, and single commands -/

/-- 00_scope.md: the block of port 17 starts at 0x4_4400 and that of hearth H2 at 0xA_0000. -/
theorem test_register_blocks : A.PRT_STATUS 17 = 0x44400 + 4 ∧ A.PRT_STATUS 71 = 0x51C00 + 4 ∧ A.HTH_EXC_CAP 2 = 0xA0000 + 0x114 := by decide
/-- 01_architecture.md: ports 32 and 47 are owned by H2, port 48 is the first of H3. -/
theorem test_port_owners : ownerOf 32 = 2 ∧ ownerOf 47 = 2 ∧ ownerOf 48 = 3 := by decide
/-- 01_architecture.md: frames of 64, 1,518 and 10,240 bytes take 1, 6 and 40 cells. -/
theorem test_cells : cellsFor 64 = 1 ∧ cellsFor 1518 = 6 ∧ cellsFor 10240 = 40 ∧ cellsFor 1000 = 4 := by decide
/-- 07_tables_learning.md: an entry of kind ACTION keyed on 16 bytes takes 64 bytes. -/
theorem test_entry_bytes : entryBytes { kind := 0, keyBytes := 16, buckets := 4096, base := 0, seed0 := 0, seed1 := 0 } = 64 := by decide
/-- 08_ferry.md: the check nibble of TEID bits 0x2F1A307 under key 7 is 5. -/
theorem test_check_nibble : checkNibble 7 0x2F1A3070 = 5 := by decide
/-- 09_queues_policing.md: a depth of 1,000 cells falls in bin 10, a delay of 15,000 ns at base 8 in bin 6. -/
theorem test_sample_bins : sampleBin 0 1000 = 10 ∧ sampleBin 8 15000 = 6 ∧ sampleBin 8 511 = 1 ∧ sampleBin 8 4194304 = 15 := by decide +kernel
/-- 10_phase_ledger.md: BASE (4,000,000, 8,388,608), K = 4, R = (5,000,000, 12,000,000) and a margin of 262,144 pu give
S = (5,000,004, 8,388,608), late. -/
theorem test_ledger_start :
    resolveStart (4000000 * 2 ^ 24 + 8388608) (4 * 2 ^ 24) (5000000 * 2 ^ 24 + 12000000) 262144
      = (5000004 * 2 ^ 24 + 8388608, true) := by decide +kernel
/-- 17_guestbook.md: the record of LINK_DOWN on port 40 with SEQ 0x1A2F at 1,712,000,100 s, 250,000,050 ns and a UTC offset of
37 reads, byte by byte, as its table gives it. -/
theorem test_guestbook_record :
    let s := puts [(A.TIM_UTC_OFFSET, 37)]
      { live with tim := { live.tim with t := (1712000100 * 1000000000 + 250000050) * timeUnit } }
    (recordTime s).1 = false ∧
      recordBytes { seq := 0x1A2F, code := 0x0302, sev := 1, unset := false, summary := false, unit := 40,
                    time := (recordTime s).2, arg0 := 0, arg1 := 0, put := 0 } false =
        [0x2F, 0x1A, 0, 0, 2, 3, 1, 0x28, 0xE8, 7, 4, 1, 0x13, 0x22, 0x17, 0, 0xB2, 0xB2, 0xE6, 0x0E, 0, 0, 0, 0, 0, 0, 0, 0, 0, 0, 0, 0x80] := by
  decide +kernel

/-- The state a command leaves, or the state itself where it stops. -/
def after (c : Instr) (s : State) : State := match exec c s with | .next t => t | _ => s
/-- 04_host_interface.md: a narrow read of the upper half of FRG_INT_STAT clears VERIFIED and COMMITTED, and logs nothing. -/
theorem test_narrow_read_clears :
    let t := after (.rcRegisterRead A.FRG_INT_STAT 12) (puts [(A.FRG_INT_STAT, 10)] live)
    A.FRG_INT_STAT = 0x10060 ∧ rget t A.FRG_INT_STAT = 0 ∧ rget t A.HIF_ACC_ERR_STAT = 0 ∧ t.hif.readData = [0] := by
  decide +kernel
/-- R762: IDCODE reads 0x1972_4A3B. -/
theorem test_jtag_idcode : (after .jtagIdcode live).pin.jtagData = 0x19724A3B := by decide +kernel
/-- R760: an enabled edge of input pin 15 is kept in PIN_GPIO_EDGE. -/
theorem test_gpio_edge :
    bitAt (rget (after (.gpioEdge 0 15) (puts [(A.PIN_GPIO_EDGE_EN, 0x8000)] live)) A.PIN_GPIO_EDGE) 15 = true := by decide +kernel

end Tests
end Sys2Proof
end

section
/-! PROOF. What a read of a register does to the register itself (R18, R19): its RC fields keep what has occurred in the core
clock of the read and clear otherwise, its other bits stay. -/
namespace Sys2Proof
namespace Machine

/-! ### The register tables -/

/-- The register tables of the blocks, and the empty one of the addresses behind them (R16). -/
def blockTables : List (List RegDef) :=
  [regsGLB, regsFRG, regsHIF, regsPRT, regsHTH, regsTBL, regsFRY, regsTM, regsLDG, regsPHS, regsTIM, regsFAB, regsPOR, regsDRY,
    regsTAL, regsGBK, regsHLT, regsPIN, []]

theorem regsOfBlock_mem_blockTables (a : Nat) : regsOfBlock a ∈ blockTables := by
  unfold regsOfBlock
  iterate 18 refine iteInduction (motive := (· ∈ blockTables)) (fun _ => by simp [blockTables]) (fun _ => ?_)
  simp [blockTables]

/-- An assigned address has a register of one of the tables. -/
theorem exists_blockTable_of_regAt {a : Nat} {d : RegDef} (hd : regAt a = some d) : ∃ l ∈ blockTables, d ∈ l :=
  ⟨_, regsOfBlock_mem_blockTables a, List.mem_of_find?_eq_some hd⟩

/-- RC fields lie in the 32 bits of their register. -/
theorem rc_lt_of_regAt {a : Nat} {d : RegDef} (hd : regAt a = some d) : d.rc < 2 ^ 32 := by
  have table : ∀ l ∈ blockTables, ∀ r ∈ l, r.rc < 2 ^ 32 := by decide +kernel
  obtain ⟨l, hl, hdl⟩ := exists_blockTable_of_regAt hd
  exact table l hl d hdl

/-- No register of the tables has both RC and RW fields: all that R19 asks of them follows. -/
theorem rw_eq_zero_of_rc_ne_zero {a : Nat} {d : RegDef} (hd : regAt a = some d) (hrc : d.rc ≠ 0) : d.rw = 0 := by
  have table : ∀ l ∈ blockTables, ∀ r ∈ l, r.rc ≠ 0 → r.rw = 0 := by decide +kernel
  obtain ⟨l, hl, hdl⟩ := exists_blockTable_of_regAt hd
  exact table l hl d hdl hrc

/-! ### Reads of a register -/

theorem rget_setI2c_ne {i b : Nat} (x : I2c) (s : State) (h : A.PIN_I2C_STATUS i ≠ b) :
    rget (setI2c i x s) b = rget s b := by
  unfold setI2c
  rw [rget_fput_ne _ _ h, rget_fput_ne _ _ h]
  split <;> rfl

/-- A read clears the RC fields of its register, but for what has occurred in the same core clock, and leaves its other bits
(R18); the records and bytes that some reads remove stand elsewhere. -/
theorem rget_regRead_same {a : Nat} {d : RegDef} (s : State) (hd : regAt a = some d) :
    rget (regRead a s).2 a = (rget s a &&& (full ^^^ d.rc)) ||| (sget freshDefault s.fresh a &&& d.rc) := by
  have lt : (rget s a &&& (full ^^^ d.rc)) ||| (sget freshDefault s.fresh a &&& d.rc) < 2 ^ 32 :=
    Nat.or_lt_two_pow (Nat.and_le_left.trans_lt (rget_lt s a)) (Nat.and_le_right.trans_lt (rc_lt_of_regAt hd))
  have put := (rget_rput_same a _ s).trans (Nat.mod_eq_of_lt lt)
  unfold regRead
  simp only [hd]
  split_ifs with htx hnote hi2c0 hi2c1
  · exact put
  · exact put
  · exact (rget_setI2c_ne _ _ (by rw [hi2c0]; decide)).trans put
  · exact (rget_setI2c_ne _ _ (by rw [hi2c1]; decide)).trans put
  · exact put

/-- A full or narrow read of an assigned address is a read of the register there (R18, R163). -/
theorem dwordRead_snd_of_regAt {a be : Nat} {d : RegDef} (s : State) (hd : regAt a = some d)
    (hbe : be = fullBe ∨ narrow be = true) : (dwordRead a be s).2 = (regRead a s).2 := by
  simp [dwordRead, hbe, hd]

/-- When the bits of a 32-bit mask `m` are cleared and those of `k` put in their place, the bits under `m` are those of `k`. -/
theorem clear_or_keep_and_mask {x k m : Nat} (hm : m < 2 ^ 32) : ((x &&& (full ^^^ m)) ||| (k &&& m)) &&& m = k &&& m := by
  have inFull : full &&& m = m := by
    rw [show full = 2 ^ 32 - 1 from rfl, Nat.and_comm, Nat.and_two_pow_sub_one_eq_mod, Nat.mod_eq_of_lt hm]
  rw [Nat.and_or_distrib_right, Nat.and_assoc, Nat.and_xor_distrib_right, inFull, Nat.and_self, Nat.xor_self, Nat.and_zero,
    Nat.zero_or, Nat.and_assoc, Nat.and_self]

/-! ### RC_REGISTER_READ (R18, R19) -/

/-- What RC_REGISTER_READ leaves: the state after the register's read and the answer, settled. -/
theorem exec_rcRegisterRead_next {a be : Nat} {s : State} (w : wellFormed (.rcRegisterRead a be) = true)
    (hheld : held s = false) (hd3 : s.hif.d3hot = false) :
    exec (.rcRegisterRead a be) s = .next (after (fun u => answer [(dwordRead a be u).1] (dwordRead a be u).2) s) :=
  hostRead_next _ w hheld hd3

/-- Settles O15: the read clears the RC fields by `rget_regRead_same`, and no RC register of the tables has an RW bit. -/
theorem readsLeaveWritableFields : Obligations.ReadsLeaveWritableFields := by
  unfold Obligations.ReadsLeaveWritableFields
  intro a be d s w hd hrc hheld hd3 hbe
  refine ⟨_, exec_rcRegisterRead_next w hheld hd3, ?_, fun hset => ?_⟩
  · rw [rw_eq_zero_of_rc_ne_zero hd hrc, Nat.and_zero, Nat.and_zero]
  · have read := rget_regRead_same s hd
    rw [← dwordRead_snd_of_regAt s hd hbe] at read
    rw [rget_after _ s hset]
    exact (congrArg (· &&& d.rc) read).trans (clear_or_keep_and_mask (rc_lt_of_regAt hd))

end Machine
end Sys2Proof
end

section
/-! PROOF. Timed actions repeat (R486): what firing a slot does to the slot's own registers. -/
namespace Sys2Proof
namespace Machine

/-! ### Fields that share a register -/

/-- A field above another leaves the lower one as it was. -/
theorem bits_setBits_below {n lo w v lo' w' : Nat} (h : lo' + w' ≤ lo) :
    bits (setBits n lo w v) lo' w' = bits n lo' w' := by
  have split : setBits n lo w v = 2 ^ lo * ((n >>> (lo + w)) * 2 ^ w + v % 2 ^ w) + n % 2 ^ lo := by
    unfold setBits
    ring
  refine Nat.eq_of_testBit_eq fun i => ?_
  unfold bits
  simp only [Nat.testBit_mod_two_pow, Nat.testBit_shiftRight]
  by_cases hi : i < w'
  · have below : lo' + i < lo := by omega
    rw [split, Nat.testBit_two_pow_mul_add _ (Nat.mod_lt _ (Nat.two_pow_pos lo)), if_pos below, Nat.testBit_mod_two_pow]
    simp [below]
  · simp [hi]

theorem fget_fput_below {f g : Fld} (v : Nat) (s : State) (ha : f.addr = g.addr) (hlo : g.lo + g.width ≤ f.lo)
    (hf : f.lo ≤ 32) : fget (fput f v s) g = fget s g := by
  unfold fget fput
  rw [ha, rget_rput_same, bits_mod _ _ _ (hlo.trans hf), bits_setBits_below hlo]

theorem rget_forBits_congr {s t : State} {r : Nat} (a m : Nat) (h : rget s r = rget t r) :
    rget (forBits a m s) r = rget (forBits a m t) r := by
  by_cases ha : a = r
  · subst ha
    unfold forBits
    rw [rget_rput_same, rget_rput_same, h]
  · rw [rget_forBits_ne _ _ ha, rget_forBits_ne _ _ ha, h]

/-- Status bits set in a register come on top of those its field holds. -/
theorem fget_forBits (f : Fld) (m : Nat) (s : State) (h : f.lo + f.width ≤ 32) :
    fget (forBits f.addr m s) f = fget s f ||| bits m f.lo f.width := by
  unfold fget forBits
  rw [rget_rput_same, bits_mod _ _ _ h]
  unfold bits
  rw [Nat.shiftRight_or_distrib, Nat.or_mod_two_pow]

theorem rget_keepFresh (f : Fld) (g : Nat → Nat) (s : State) (r : Nat) : rget (keepFresh f g s) r = rget s r := rfl

theorem fget_faddSat_same (f : Fld) (n : Nat) (s : State) (h : f.lo + f.width ≤ 32) :
    fget (faddSat f n s) f = min (fget s f + n) (2 ^ f.width - 1) := by
  have fits : min (fget s f + n) (2 ^ f.width - 1) < 2 ^ f.width :=
    (min_le_right _ _).trans_lt (Nat.sub_lt (Nat.two_pow_pos _) one_pos)
  unfold faddSat
  exact (fget_fput_same _ _ _ h).trans (Nat.mod_eq_of_lt fits)

theorem fget_faddSat_below {f g : Fld} (n : Nat) (s : State) (ha : f.addr = g.addr) (hlo : g.lo + g.width ≤ f.lo)
    (hf : f.lo ≤ 32) : fget (faddSat f n s) g = fget s g :=
  (fget_fput_below _ _ ha hlo hf).trans (fget_congr (rget_keepFresh _ _ s _))

/-! ### The slots' registers -/

/-- A register of one of the 32 timed-action slots. -/
def TaReg (r : Nat) : Prop := 0x120100 ≤ r ∧ r < 0x120500

theorem TaReg.not_mem_settleRegs {r : Nat} (h : TaReg r) : r ∉ settleRegs := by
  have outside : ∀ a ∈ settleRegs, a < 0x120100 ∨ 0x120500 ≤ a := by decide
  intro hr
  have := outside r hr
  unfold TaReg at h
  omega

theorem taReg_ctl {k : Nat} (hk : k < 32) : TaReg (A.PHS_TA_CTL k) := by
  unfold TaReg A.PHS_TA_CTL; omega
theorem taReg_status {k : Nat} (hk : k < 32) : TaReg (A.PHS_TA_STATUS k) := by
  unfold TaReg A.PHS_TA_STATUS; omega
theorem status_ne_ctl (k : Nat) : A.PHS_TA_STATUS k ≠ A.PHS_TA_CTL k := by
  unfold A.PHS_TA_STATUS A.PHS_TA_CTL; omega

/-- The registers that hold the instant of slot `k`: its cycle's two and its phase's. -/
def instantRegs (k : Nat) : List Nat := [A.PHS_TA_CYCLE_HI k, A.PHS_TA_CYCLE_HI k + 4, A.PHS_TA_CYCLE_HI k + 8]

theorem taReg_of_mem_instantRegs {k r : Nat} (hk : k < 32) (h : r ∈ instantRegs k) : TaReg r := by
  simp only [instantRegs, A.PHS_TA_CYCLE_HI, List.mem_cons, List.not_mem_nil, or_false] at h
  unfold TaReg
  omega

theorem status_ne_of_mem_instantRegs {k r : Nat} (h : r ∈ instantRegs k) : A.PHS_TA_STATUS k ≠ r := by
  simp only [instantRegs, A.PHS_TA_CYCLE_HI, List.mem_cons, List.not_mem_nil, or_false] at h
  unfold A.PHS_TA_STATUS
  omega

theorem taInstant_congr {s t : State} {k : Nat} (h : ∀ r ∈ instantRegs k, rget t r = rget s r) :
    taInstant t k = taInstant s k := by
  unfold taInstant instantAt
  rw [h _ (by simp [instantRegs]), h _ (by simp [instantRegs]), h _ (by simp [instantRegs])]

theorem taArmed_congr {s t : State} {k : Nat} (h : rget t (A.PHS_TA_CTL k) = rget s (A.PHS_TA_CTL k)) :
    taArmed t k = taArmed s k := by
  unfold taArmed fbit
  rw [fget_congr (f := F.PHS_TA_CTL_ARM k) h]

theorem taArmed_disarmed (k : Nat) (s : State) : taArmed (fput (F.PHS_TA_CTL_ARM k) 0 s) k = false := by
  have clear : fget (fput (F.PHS_TA_CTL_ARM k) 0 s) (F.PHS_TA_CTL_ARM k) = 0 :=
    fget_fput_same _ _ s (le_refl 32)
  unfold taArmed fbit
  rw [clear]
  rfl

/-! ### The action of a slot leaves the slots' registers -/

theorem rget_overtake {r : Nat} (m : Nat) (s : State) (h : r < 0x180000) : rget (overtake m s) r = rget s r := by
  have event : r ≠ A.GBK_INT_STAT := by unfold A.GBK_INT_STAT; omega
  have int : A.TAL_INT_STAT ≠ r := by unfold A.TAL_INT_STAT; omega
  unfold overtake
  split
  · rfl
  · split
    · rfl
    · split
      · unfold talEvent
        rw [rget_raise _ _ _ _ _ event, rget_setInt_ne _ _ int, rget_bump]
        rfl
      · rfl

theorem rget_latchTime {r a : Nat} (x : Nat) (s : State) (h : r < a) : rget (latchTime a x s) r = rget s r := by
  unfold latchTime
  rw [rget_rput_ne _ _ (by omega), rget_rput_ne _ _ (by omega), rget_rput_ne _ _ (by omega), rget_rput_ne _ _ (by omega)]

theorem rget_latchInstant {r a : Nat} (x : Nat) (s : State) (h : r < a) : rget (latchInstant a x s) r = rget s r := by
  unfold latchInstant
  rw [rget_rput_ne _ _ (by omega), rget_rput_ne _ _ (by omega), rget_rput_ne _ _ (by omega)]

/-- A snapshot writes registers of the Tally and the Guestbook only. -/
theorem rget_takeSnapshot {r : Nat} (mask src : Nat) (s : State) (h : r < 0x180000) :
    rget (takeSnapshot mask src s) r = rget s r := by
  have far : ∀ {a}, 0x180000 ≤ a → a ≠ r := fun ha => by omega
  unfold takeSnapshot
  extract_lets m again fresh s1 t s2 s3 s4
  have h1 : rget s1 r = rget s r := by
    unfold s1
    split
    · rfl
    · exact rget_overtake _ _ h
  have h3 : rget s3 r = rget s1 r := by
    unfold s3
    split
    · rw [rget_rput_ne _ _ (far (by decide)), rget_forBits_ne _ _ (far (by decide))]
      rfl
    · rw [rget_rput_ne _ _ (far (by decide)), rget_rput_ne _ _ (far (by decide)), rget_rput_ne _ _ (far (by decide))]
      rfl
  have h4 : rget s4 r = rget s3 r :=
    (rget_latchInstant _ _ (h.trans_le (by decide))).trans (rget_latchTime _ _ (h.trans_le (by decide)))
  split
  · rfl
  · exact (rget_setInt_ne _ _ (far (by decide))).trans (h4.trans (h3.trans h1))

theorem rget_gpioPulse (pin us : Nat) (high : Bool) (s : State) (r : Nat) :
    rget (gpioPulse pin high us s) r = rget s r := by
  unfold gpioPulse
  split <;> rfl

/-- Whatever a slot does when it fires, it writes no slot's register (R483). -/
theorem rget_taAction {r : Nat} (k : Nat) (s : State) (h : TaReg r) : rget (taAction k s) r = rget s r := by
  obtain ⟨hlo, hhi⟩ := h
  unfold taAction
  dsimp only
  split_ifs
  · exact rget_takeSnapshot _ _ _ (by omega)
  · exact rget_takeSnapshot _ _ _ (by omega)
  · exact rget_gpioPulse _ _ _ _ _
  · exact rget_raise _ _ _ _ _ (by unfold A.GBK_INT_STAT; omega)
  · exact rget_setInt_ne _ _ (by unfold A.PHS_INT_STAT; omega)
  · rfl

/-! ### Firing (R484) -/

/-- Slot `k` has fired and acted, and its repetition is still to come. -/
def taActed (k : Nat) (s : State) : State :=
  taForget k (taAction k (forBits (A.PHS_TA_STATUS k) 1 (forBits A.PHS_TA_FIRED (2 ^ k) s)))

/-- A slot that has acted is disarmed or repeats (R486). -/
theorem taFire_eq (k : Nat) (s : State) :
    taFire k s = if fget (taActed k s) (F.PHS_TA_CTL_REPEAT k) = 0 then fput (F.PHS_TA_CTL_ARM k) 0 (taActed k s)
      else taRepeat k (fget (taActed k s) (F.PHS_TA_CTL_REPEAT k)) (phaseInstant (taActed k s)) (taActed k s) := rfl

theorem phaseInstant_taActed (k : Nat) (s : State) : phaseInstant (taActed k s) = phaseInstant s := by
  have acts : ∀ u, (taAction k u).phs = u.phs := fun u => (same_taAction k u).part .phs (by decide)
  have acc : (taActed k s).phs.acc = s.phs.acc := by
    change (taAction k _).phs.acc = _
    rw [acts, forBits_phs, forBits_phs]
  unfold phaseInstant
  rw [acc]

/-- Firing sets status bits; the slots' other registers stay. -/
theorem rget_taActed {r k : Nat} (s : State) (h : TaReg r) :
    rget (taActed k s) r = rget (forBits (A.PHS_TA_STATUS k) 1 s) r := by
  have fired : A.PHS_TA_FIRED ≠ r := by
    unfold TaReg at h
    unfold A.PHS_TA_FIRED
    omega
  exact (rget_taAction k _ h).trans (rget_forBits_congr _ _ (rget_forBits_ne _ s fired))

/-- A register of the slot other than its status. -/
theorem rget_taActed_ne {r k : Nat} (s : State) (h : TaReg r) (hs : A.PHS_TA_STATUS k ≠ r) :
    rget (taActed k s) r = rget s r := (rget_taActed s h).trans (rget_forBits_ne _ s hs)

theorem fget_taActed_status {k : Nat} {f : Fld} (s : State) (hk : k < 32) (ha : f.addr = A.PHS_TA_STATUS k)
    (h : f.lo + f.width ≤ 32) : fget (taActed k s) f = fget s f ||| bits 1 f.lo f.width := by
  rw [fget_congr (t := taActed k s) (s := forBits f.addr 1 s) (by rw [ha]; exact rget_taActed s (taReg_status hk))]
  exact fget_forBits f 1 s h

theorem missed_taActed {k : Nat} (s : State) (hk : k < 32) :
    fget (taActed k s) (F.PHS_TA_STATUS_MISSED k) = fget s (F.PHS_TA_STATUS_MISSED k) :=
  (fget_taActed_status s hk rfl (le_refl 32)).trans (Nat.or_zero _)

theorem fired_taActed {k : Nat} (s : State) (hk : k < 32) : fget (taActed k s) (F.PHS_TA_STATUS_FIRED k) = 1 := by
  rw [fget_taActed_status s hk rfl (by simp [F.PHS_TA_STATUS_FIRED])]
  have bit : fget s (F.PHS_TA_STATUS_FIRED k) < 2 := Nat.mod_lt _ two_pos
  have one : bits 1 (F.PHS_TA_STATUS_FIRED k).lo (F.PHS_TA_STATUS_FIRED k).width = 1 := rfl
  rw [one]
  interval_cases fget s (F.PHS_TA_STATUS_FIRED k) <;> rfl

theorem repeat_taActed {k : Nat} (s : State) (hk : k < 32) :
    fget (taActed k s) (F.PHS_TA_CTL_REPEAT k) = fget s (F.PHS_TA_CTL_REPEAT k) :=
  fget_congr (rget_taActed_ne s (taReg_ctl hk) (status_ne_ctl k))

theorem taArmed_taActed {k : Nat} (s : State) (hk : k < 32) : taArmed (taActed k s) k = taArmed s k :=
  taArmed_congr (rget_taActed_ne s (taReg_ctl hk) (status_ne_ctl k))

theorem taInstant_taActed {k : Nat} (s : State) (hk : k < 32) : taInstant (taActed k s) k = taInstant s k :=
  taInstant_congr (fun _ hr => rget_taActed_ne s (taReg_of_mem_instantRegs hk hr) (status_ne_of_mem_instantRegs hr))

theorem taFire_of_repeat_zero {k : Nat} {s : State} (hk : k < 32) (hn : fget s (F.PHS_TA_CTL_REPEAT k) = 0) :
    taFire k s = fput (F.PHS_TA_CTL_ARM k) 0 (taActed k s) := by
  rw [taFire_eq, if_pos ((repeat_taActed s hk).trans hn)]

theorem taFire_of_repeat {k n : Nat} {s : State} (hk : k < 32) (hr : fget s (F.PHS_TA_CTL_REPEAT k) = n) (hn : n ≠ 0) :
    taFire k s = taRepeat k n (phaseInstant s) (taActed k s) := by
  rw [taFire_eq, repeat_taActed s hk, hr, if_neg hn, phaseInstant_taActed]

/-! ### The next instant of a repeating slot (R486) -/

/-- The cycle of instant `y` is put in the two registers of slot `k` that hold it. -/
def putCycle (k y : Nat) (s : State) : State :=
  rput (A.PHS_TA_CYCLE_HI k) (y / 2 ^ 56) (rput (A.PHS_TA_CYCLE_LO k) (y / 2 ^ 24 % 2 ^ 32) s)

theorem rget_putCycle_ne {r k : Nat} (y : Nat) (s : State) (hi : A.PHS_TA_CYCLE_HI k ≠ r)
    (lo : A.PHS_TA_CYCLE_LO k ≠ r) : rget (putCycle k y s) r = rget s r := (rget_rput_ne _ _ hi).trans (rget_rput_ne _ s lo)

theorem fget_status_putCycle {k : Nat} {f : Fld} (y : Nat) (s : State) (ha : f.addr = A.PHS_TA_STATUS k) :
    fget (putCycle k y s) f = fget s f :=
  fget_congr (rget_putCycle_ne y s (by rw [ha]; unfold A.PHS_TA_CYCLE_HI A.PHS_TA_STATUS; omega)
    (by rw [ha]; unfold A.PHS_TA_CYCLE_LO A.PHS_TA_STATUS; omega))

/-- An instant with the phase of the one that stands is read back when its cycle is put. -/
theorem taInstant_putCycle {k y : Nat} (s : State) (hy : y < 2 ^ 64) (hp : y % 2 ^ 24 = taInstant s k % 2 ^ 24) :
    taInstant (putCycle k y s) k = y := by
  have hi : rget (putCycle k y s) (A.PHS_TA_CYCLE_HI k) = y / 2 ^ 56 % 2 ^ 32 := rget_rput_same _ _ _
  have lo : rget (putCycle k y s) (A.PHS_TA_CYCLE_HI k + 4) = y / 2 ^ 24 % 2 ^ 32 % 2 ^ 32 := by
    have at4 : A.PHS_TA_CYCLE_HI k + 4 = A.PHS_TA_CYCLE_LO k := by unfold A.PHS_TA_CYCLE_HI A.PHS_TA_CYCLE_LO; omega
    rw [at4]
    exact (rget_rput_ne _ _ (by rw [← at4]; omega)).trans (rget_rput_same _ _ s)
  have ph : rget (putCycle k y s) (A.PHS_TA_CYCLE_HI k + 8) = rget s (A.PHS_TA_CYCLE_HI k + 8) :=
    rget_putCycle_ne y s (by omega) (by unfold A.PHS_TA_CYCLE_HI A.PHS_TA_CYCLE_LO; omega)
  unfold taInstant instantAt at hp ⊢
  rw [hi, lo, ph]
  omega

/-- The number of periods `p` that an instant `x` moves on to come ahead of `now`. -/
theorem periods_to_pass {now x p j : Nat} (ahead : now < x + (j + 1) * p) (reached : j ≠ 0 → x + j * p ≤ now) :
    (if now < x + p then 1 else (now - x) / p + 1) = j + 1 := by
  rcases Nat.eq_zero_or_pos j with rfl | hj
  · rw [if_pos (by simpa using ahead)]
  · have here := reached hj.ne'
    have first : p ≤ j * p := Nat.le_mul_of_pos_left p hj
    rw [if_neg (by omega)]
    refine congrArg (· + 1) (Nat.div_eq_of_lt_le ?_ ?_) <;> omega

theorem taRepeat_eq {k n j now : Nat} {s : State} (ahead : now < taInstant s k + (j + 1) * n * 2 ^ 24)
    (reached : j ≠ 0 → taInstant s k + j * n * 2 ^ 24 ≤ now) :
    taRepeat k n now s = faddSat (F.PHS_TA_STATUS_MISSED k) j
      (putCycle k ((taInstant s k + (j + 1) * n * 2 ^ 24) % 2 ^ 64) s) := by
  have periods := periods_to_pass (p := n * 2 ^ 24) (j := j) (by rwa [← Nat.mul_assoc]) (by rwa [← Nat.mul_assoc])
  unfold taRepeat
  dsimp only
  rw [periods, Nat.add_sub_cancel]
  rfl

section
variable {k n j now : Nat} {s : State} (ahead : now < taInstant s k + (j + 1) * n * 2 ^ 24)
  (reached : j ≠ 0 → taInstant s k + j * n * 2 ^ 24 ≤ now)
include ahead reached

theorem taInstant_taRepeat : taInstant (taRepeat k n now s) k = (taInstant s k + (j + 1) * n * 2 ^ 24) % 2 ^ 64 := by
  rw [taRepeat_eq ahead reached,
    taInstant_congr (fun _ hr => rget_faddSat_ne _ _ (status_ne_of_mem_instantRegs hr))]
  exact taInstant_putCycle s (Nat.mod_lt _ (by decide)) (by omega)

theorem taArmed_taRepeat : taArmed (taRepeat k n now s) k = taArmed s k := by
  rw [taRepeat_eq ahead reached]
  exact taArmed_congr ((rget_faddSat_ne _ _ (status_ne_ctl k)).trans (rget_putCycle_ne _ s
    (by unfold A.PHS_TA_CYCLE_HI A.PHS_TA_CTL; omega) (by unfold A.PHS_TA_CYCLE_LO A.PHS_TA_CTL; omega)))

theorem fired_taRepeat : fget (taRepeat k n now s) (F.PHS_TA_STATUS_FIRED k) = fget s (F.PHS_TA_STATUS_FIRED k) := by
  rw [taRepeat_eq ahead reached]
  have below (v : State) : fget (faddSat (F.PHS_TA_STATUS_MISSED k) j v) (F.PHS_TA_STATUS_FIRED k)
      = fget v (F.PHS_TA_STATUS_FIRED k) :=
    fget_faddSat_below _ _ rfl (show 0 + 1 ≤ 16 by decide) (show 16 ≤ 32 by decide)
  exact (below _).trans (fget_status_putCycle _ s rfl)

theorem missed_taRepeat : fget (taRepeat k n now s) (F.PHS_TA_STATUS_MISSED k)
    = min (fget s (F.PHS_TA_STATUS_MISSED k) + j) (2 ^ 16 - 1) := by
  rw [taRepeat_eq ahead reached, fget_faddSat_same _ _ _ (le_refl 32), fget_status_putCycle _ s rfl]
  rfl

end

/-! ### TIMED_ACTION_FIRE -/

theorem taArmed_of_taDue {s : State} {k : Nat} (h : taDue s k = true) : taArmed s k = true := by
  unfold taDue at h
  simp only [Bool.and_eq_true] at h
  obtain ⟨⟨_, armed⟩, _⟩ := h
  exact armed

theorem wellFormed_timedActionFire {dt k : Nat} (hk : k < 32) : wellFormed (.timedActionFire dt k) = true :=
  decide_eq_true hk

theorem exec_timedActionFire (dt k : Nat) (s : State) : exec (.timedActionFire dt k) s = execTimedActionFire dt k s := rfl

/-- The effect of TIMED_ACTION_FIRE: the slot fires if it is due and no lower one is (R487). -/
def fireIfFirst (k : Nat) (u : State) : State :=
  if taDue u k ∧ ¬ (List.range k).any (taDue u) then taFire k u else u

theorem fireIfFirst_of_first {k : Nat} {u : State} (due : taDue u k = true)
    (lowest : (List.range k).any (taDue u) = false) : fireIfFirst k u = taFire k u :=
  if_pos ⟨due, by simp [lowest]⟩

theorem execTimedActionFire_next {dt k : Nat} {s : State} (hk : k < 32) (hheld : held s = false) :
    execTimedActionFire dt k s = .next (after (fun v => fireIfFirst k (passTime dt v)) s) :=
  timed_next _ (wellFormed_timedActionFire hk) hheld

/-- A slot that is due, none lower being due with it, fires, and the device settles. -/
theorem settledFrom_timedActionFire {dt k : Nat} {s u : State} (hk : k < 32) (he : Elapsed dt s u)
    (due : taDue u k = true) (lowest : (List.range k).any (taDue u) = false) :
    ∃ t, exec (.timedActionFire dt k) s = .next t ∧ SettledFrom (taFire k u) t := by
  obtain ⟨hheld, rfl⟩ := he
  have fires := settledFrom_after (fun v => fireIfFirst k (passTime dt v)) s
  rw [fireIfFirst_of_first due lowest] at fires
  exact ⟨_, (exec_timedActionFire dt k s).trans (execTimedActionFire_next hk hheld), fires⟩

section
variable {k : Nat} {v t : State} (hk : k < 32) (h : SettledFrom v t)
include hk h

theorem taArmed_settledFrom : taArmed t k = taArmed v k :=
  taArmed_congr (h.reg _ (taReg_ctl hk).not_mem_settleRegs)

theorem taInstant_settledFrom : taInstant t k = taInstant v k :=
  taInstant_congr (fun _ hr => h.reg _ (taReg_of_mem_instantRegs hk hr).not_mem_settleRegs)

theorem taStatus_settledFrom {f : Fld} (ha : f.addr = A.PHS_TA_STATUS k) : fget t f = fget v f :=
  h.fget (ha ▸ (taReg_status hk).not_mem_settleRegs)

end

/-- Settles O34: with REPEAT 0 the firing clears ARM (`taFire_of_repeat_zero`), with REPEAT n it puts the next instant ahead
of the clock and counts those passed over (`taFire_of_repeat`). -/
theorem timedActionsRepeat : Obligations.TimedActionsRepeat := by
  unfold Obligations.TimedActionsRepeat
  constructor
  · intro dt k s u hk he due lowest hn
    obtain ⟨t, ht, settled⟩ := settledFrom_timedActionFire hk he due lowest
    rw [taFire_of_repeat_zero hk hn] at settled
    refine ⟨t, ht, ?_, ?_⟩
    · rw [taArmed_settledFrom hk settled]
      exact taArmed_disarmed _ _
    · rw [taStatus_settledFrom hk settled rfl, fget_fput_ne _ _ (status_ne_ctl k).symm, missed_taActed u hk]
  · intro dt k n j s u hk he due lowest hr hn ahead reached
    obtain ⟨t, ht, settled⟩ := settledFrom_timedActionFire hk he due lowest
    rw [taFire_of_repeat hk hr hn] at settled
    rw [← taInstant_taActed u hk] at ahead reached
    refine ⟨t, ht, ?_, ?_, ?_, ?_⟩
    · rw [taArmed_settledFrom hk settled, taArmed_taRepeat ahead reached, taArmed_taActed u hk, taArmed_of_taDue due]
    · rw [taStatus_settledFrom hk settled rfl, fired_taRepeat ahead reached, fired_taActed u hk]
    · rw [taInstant_settledFrom hk settled, taInstant_taRepeat ahead reached, taInstant_taActed u hk]
    · rw [taStatus_settledFrom hk settled rfl, missed_taRepeat ahead reached, missed_taActed u hk]

end Machine
end Sys2Proof
end

section
/-! PROOF. Steps of device time (R523, R524): what a step sets, and what follows it that leaves device time as the step set it. -/
namespace Sys2Proof
namespace Machine

/-! ### What leaves device time, its registers and its counters -/

/-- The registers of device time but for TIM_INT_STAT. -/
def TimReg (r : Nat) : Prop := 0x130004 ≤ r ∧ r < 0x140000

theorem TimReg.not_mem_settleRegs {r : Nat} (h : TimReg r) : r ∉ settleRegs := by
  unfold TimReg at h
  simp only [settleRegs, List.mem_cons, List.not_mem_nil, or_false, not_or]
  unfold A.GLB_INT_STAT A.GBK_INT_STAT A.GLB_VEC_ACTIVE
  omega

theorem timReg_status : TimReg A.TIM_STATUS := by unfold TimReg A.TIM_STATUS; omega
theorem timReg_cmdStatus : TimReg A.TIM_CMD_STATUS := by unfold TimReg A.TIM_CMD_STATUS; omega
theorem not_timReg_phsStatus : ¬ TimReg A.PHS_STATUS := by unfold TimReg A.PHS_STATUS; omega
theorem not_timReg_phsIntStat : ¬ TimReg A.PHS_INT_STAT := by unfold TimReg A.PHS_INT_STAT; omega
theorem not_timReg_ldgIntStat : ¬ TimReg A.LDG_INT_STAT := by unfold TimReg A.LDG_INT_STAT; omega
theorem not_timReg_timIntStat : ¬ TimReg A.TIM_INT_STAT := by unfold TimReg A.TIM_INT_STAT; omega

/-- `t` keeps the device time of `s`, and what its registers and its counters (group 19) show of it. -/
structure TimeKept (s t : State) : Prop where
  tim : t.tim = s.tim
  reg : ∀ r, TimReg r → rget t r = rget s r
  ctr : ∀ i < 15, ctr t 19 i = ctr s 19 i

theorem TimeKept.refl (s : State) : TimeKept s s := ⟨rfl, fun _ _ => rfl, fun _ _ => rfl⟩

theorem TimeKept.trans {s t u : State} (h : TimeKept s t) (k : TimeKept t u) : TimeKept s u :=
  ⟨k.tim.trans h.tim, fun r hr => (k.reg r hr).trans (h.reg r hr), fun i hi => (k.ctr i hi).trans (h.ctr i hi)⟩

theorem TimeKept.ite {s a b : State} {c : Prop} [Decidable c] (h : TimeKept s a) (k : TimeKept s b) :
    TimeKept s (if c then a else b) := by split <;> assumption

theorem TimeKept.foldl {α : Type} {s : State} {f : State → α → State} (l : List α) (h : ∀ u a, TimeKept u (f u a)) :
    TimeKept s (l.foldl f s) := by
  induction l generalizing s with
  | nil => exact TimeKept.refl s
  | cons a l ih => exact (h s a).trans ih

theorem TimeKept.fget {s t : State} (h : TimeKept s t) {f : Fld} (hf : TimReg f.addr) : fget t f = fget s f :=
  fget_congr (h.reg _ hf)

theorem TimeKept.trkState {s t : State} (h : TimeKept s t) (d : Nat) : trkState t d = trkState s d := by
  unfold Machine.trkState
  rw [h.fget (f := F.TIM_STATUS_STATE_A) timReg_status, h.fget (f := F.TIM_STATUS_STATE_B) timReg_status]

theorem SettledFrom.timeKept {u t : State} (h : SettledFrom u t) : TimeKept u t :=
  ⟨h.tim, fun r hr => h.reg r hr.not_mem_settleRegs,
    fun i hi => h.ctr 19 i (by decide) (lt_of_lt_of_le (Nat.add_lt_add_left hi _) (by decide))⟩

theorem EventOnly.timeKept {s t : State} (h : EventOnly s t) : TimeKept s t :=
  ⟨h.tim, fun r hr => h.reg r (by rintro rfl; unfold TimReg A.GBK_INT_STAT at hr; omega),
    fun i hi => h.ctr 19 i (by decide) (lt_of_lt_of_le (Nat.add_lt_add_left hi _) (by decide))⟩

theorem timeKept_phs (s : State) (p : Phs) : TimeKept s { s with phs := p } := ⟨rfl, fun _ _ => rfl, fun _ _ => rfl⟩
theorem timeKept_ldg (s : State) (l : Ldg) : TimeKept s { s with ldg := l } := ⟨rfl, fun _ _ => rfl, fun _ _ => rfl⟩

theorem timeKept_rput {a : Nat} (v : Nat) (s : State) (h : ¬ TimReg a) : TimeKept s (rput a v s) :=
  ⟨rput_tim a v s, fun _ hr => rget_rput_ne v s (fun e => h (e ▸ hr)), fun i _ => ctr_congr (by rw [rput_tal]) 19 i⟩

theorem timeKept_fput {f : Fld} (v : Nat) (s : State) (h : ¬ TimReg f.addr) : TimeKept s (fput f v s) :=
  timeKept_rput _ s h

theorem timeKept_setInt {a : Nat} (i : Nat) (s : State) (h : ¬ TimReg a) : TimeKept s (setInt a i s) :=
  ⟨setInt_tim a i s, fun _ hr => rget_setInt_ne i s (fun e => h (e ▸ hr)), fun j _ => ctr_congr (by rw [setInt_tal]) 19 j⟩

/-- A counter of a group before that of device time. -/
theorem timeKept_bump {g i : Nat} (s : State) (h : groupBase g + i < groupBase 19) : TimeKept s (bump g i s) :=
  ⟨bump_tim g i s, fun r _ => rget_bump g i s r, fun _ _ => ctr_bumpN_ne 1 s (by omega)⟩

theorem timeKept_raise (c u a b : Nat) (s : State) : TimeKept s (raise c u a b s) := (eventOnly_raise c u a b s).timeKept

/-- An interrupt that comes with its event. -/
theorem timeKept_raise_setInt {r : Nat} (c u a b i : Nat) (s : State) (h : ¬ TimReg r) :
    TimeKept s (raise c u a b (setInt r i s)) := (timeKept_setInt i s h).trans (timeKept_raise c u a b _)

/-! ### NOMINAL qualifies (R444) -/

theorem timeKept_setRate (r : Nat) (s : State) : TimeKept s (setRate r s) := (timeKept_phs s _).trans (timeKept_phs _ _)

theorem timeKept_setQual (i : Nat) (b : Bool) (s : State) : TimeKept s (setQual i b s) :=
  timeKept_rput _ s not_timReg_phsStatus

theorem timeKept_fput_phsStatus {f : Fld} (v : Nat) (s : State) (hf : f.addr = A.PHS_STATUS) : TimeKept s (fput f v s) :=
  timeKept_fput v s (hf ▸ not_timReg_phsStatus)

theorem timeKept_chooseSource (s : State) : TimeKept s (chooseSource s) := by
  unfold chooseSource
  extract_lets +onlyGivenNames -merge -underBinder old new p unlocked
  have h1 : TimeKept s unlocked :=
    ((timeKept_phs s _).trans (timeKept_fput_phsStatus 0 _ rfl)).trans (timeKept_fput_phsStatus 0 _ rfl)
  clear_value old new unlocked
  refine .ite (.refl s) ?_
  split
  next =>
    extract_lets +onlyGivenNames -merge -underBinder noSource
    have h2 : TimeKept s noSource := h1.trans (timeKept_fput_phsStatus 1 _ rfl)
    extract_lets +onlyGivenNames -merge -underBinder lost e
    refine .ite ?_ h2
    exact (((h2.trans (timeKept_phs _ _)).trans (timeKept_setRate _ _)).trans
      (timeKept_setInt 1 _ not_timReg_phsIntStat)).trans ((timeKept_bump _ (by decide)).trans (timeKept_raise _ _ _ _ _))
  next i =>
    extract_lets +onlyGivenNames -merge -underBinder used
    have h2 : TimeKept s used := (h1.trans (timeKept_fput_phsStatus 0 _ rfl)).trans (timeKept_fput_phsStatus i _ rfl)
    clear_value used
    split
    · exact h2.trans (timeKept_raise_setInt _ _ _ _ _ _ not_timReg_phsIntStat)
    · refine .ite ?_ h2
      exact (h2.trans (timeKept_phs _ _)).trans (timeKept_raise_setInt _ _ _ _ _ _ not_timReg_phsIntStat)

theorem timeKept_nominalQualify (s : State) : TimeKept s (nominalQualify s) := by
  unfold nominalQualify
  exact .ite (.ite ((timeKept_setQual 3 true s).trans (timeKept_chooseSource _)) (timeKept_setQual 3 true s)) (.refl s)

/-! ### Starts that wait for a valid time base (R464) -/

theorem timeKept_lateStart (u a : Nat) (s : State) : TimeKept s (lateStart u a s) :=
  timeKept_raise_setInt _ _ _ _ _ s not_timReg_ldgIntStat

theorem timeKept_resolveLedger (p b : Nat) (s : State) : TimeKept s (resolveLedger p b s) := by
  unfold resolveLedger
  dsimp only
  split_ifs
  · exact .refl s
  · exact (timeKept_ldg s _).trans (timeKept_lateStart p 0 _)
  · exact timeKept_ldg s _
  · exact timeKept_ldg s _

theorem timeKept_resolveGate (g b : Nat) (s : State) : TimeKept s (resolveGate g b s) := by
  unfold resolveGate
  dsimp only
  split_ifs
  · exact .refl s
  · exact (timeKept_ldg s _).trans (timeKept_lateStart noUnit g _)
  · exact timeKept_ldg s _
  · exact timeKept_ldg s _

theorem timeKept_resolveWaiting (s : State) : TimeKept s (resolveWaiting s) := by
  unfold resolveWaiting
  refine TimeKept.trans (.foldl _ fun u e => ?_) (.foldl _ fun u e => ?_)
  · exact .ite (timeKept_resolveLedger _ _ u) (.refl u)
  · exact .ite (timeKept_resolveGate _ _ u) (.refl u)

/-! ### A tracker enters IDLE (R510) -/

theorem setTrk_tim (d : Nat) (k : Tracker) (s : State) : ∃ a b, (setTrk d k s).tim = { s.tim with trkA := a, trkB := b } := by
  unfold setTrk
  split
  · exact ⟨_, _, rfl⟩
  · exact ⟨_, _, rfl⟩

theorem rget_setTrk (d : Nat) (k : Tracker) (s : State) (r : Nat) : rget (setTrk d k s) r = rget s r := by
  unfold setTrk
  split <;> rfl

theorem setTrkState_tim (d v : Nat) (s : State) : (setTrkState d v s).tim = s.tim := fput_tim _ _ s

theorem rget_setTrkState_ne {r : Nat} (d v : Nat) (s : State) (h : A.TIM_STATUS ≠ r) :
    rget (setTrkState d v s) r = rget s r := by
  unfold setTrkState
  split
  · exact rget_fput_ne v s h
  · exact rget_fput_ne v s h

theorem trkState_congr {s t : State} (h : rget t A.TIM_STATUS = rget s A.TIM_STATUS) (d : Nat) :
    trkState t d = trkState s d := by
  unfold trkState
  rw [fget_congr (f := F.TIM_STATUS_STATE_A) h, fget_congr (f := F.TIM_STATUS_STATE_B) h]

theorem trkState_setTrkState_same (d v : Nat) (s : State) : trkState (setTrkState d v s) d = v % 4 := by
  unfold trkState setTrkState
  split
  · exact fget_fput_same _ v s (by decide)
  · exact fget_fput_same _ v s (by decide)

/-- STATE_B lies above STATE_A. -/
theorem trkState_zero_setTrkState_one (v : Nat) (s : State) : trkState (setTrkState 1 v s) 0 = trkState s 0 :=
  fget_fput_below (f := F.TIM_STATUS_STATE_B) (g := F.TIM_STATUS_STATE_A) v s rfl (by decide) (by decide)

/-- LOCKED lies above the states of both trackers. -/
theorem trkState_fput_locked (v : Nat) (s : State) (d : Nat) : trkState (fput F.TIM_STATUS_LOCKED v s) d = trkState s d := by
  unfold trkState
  rw [fget_fput_below (f := F.TIM_STATUS_LOCKED) (g := F.TIM_STATUS_STATE_A) v s rfl (by decide) (by decide),
    fget_fput_below (f := F.TIM_STATUS_LOCKED) (g := F.TIM_STATUS_STATE_B) v s rfl (by decide) (by decide)]

/-- Tracker `d` has gone to IDLE, and LOCKED is still to follow if it governs. -/
def restarted (d : Nat) (s : State) : State := setTrkState d 0 (setTrk d { trk s d with count := 0 } s)

/-- The errors of the governing tracker's last samples are forgotten. -/
def forgetErrors (s : State) : State := { s with tim := { s.tim with recent := [] } }

theorem idleTrk_eq (d : Nat) (s : State) :
    idleTrk d s = if gov (restarted d s) = d then fput F.TIM_STATUS_LOCKED 0 (forgetErrors (restarted d s))
      else restarted d s := rfl

/-- Of device time, going to IDLE changes the trackers and the errors last accepted only. -/
theorem idleTrk_tim (d : Nat) (s : State) :
    ∃ a b r, (idleTrk d s).tim = { s.tim with trkA := a, trkB := b, recent := r } := by
  obtain ⟨a, b, htrk⟩ := setTrk_tim d { trk s d with count := 0 } s
  have h : (restarted d s).tim = { s.tim with trkA := a, trkB := b } := (setTrkState_tim d 0 _).trans htrk
  rw [idleTrk_eq]
  split
  · exact ⟨a, b, [], (fput_tim _ _ _).trans (congrArg (fun x : Tim => { x with recent := [] }) h)⟩
  · exact ⟨a, b, s.tim.recent, h⟩

theorem rget_idleTrk_ne {r : Nat} (d : Nat) (s : State) (h : A.TIM_STATUS ≠ r) : rget (idleTrk d s) r = rget s r := by
  have hr : rget (restarted d s) r = rget s r := (rget_setTrkState_ne d 0 _ h).trans (rget_setTrk d _ s r)
  rw [idleTrk_eq]
  split
  · exact (rget_fput_ne 0 _ h).trans hr
  · exact hr

theorem trkState_idleTrk (d : Nat) (s : State) (d' : Nat) : trkState (idleTrk d s) d' = trkState (restarted d s) d' := by
  rw [idleTrk_eq]
  split
  · exact trkState_fput_locked 0 (forgetErrors (restarted d s)) d'
  · rfl

theorem trkState_idleTrk_same (d : Nat) (s : State) : trkState (idleTrk d s) d = 0 :=
  (trkState_idleTrk d s d).trans (trkState_setTrkState_same d 0 _)

theorem trkState_zero_idleTrk_one (s : State) : trkState (idleTrk 1 s) 0 = trkState s 0 :=
  ((trkState_idleTrk 1 s 0).trans (trkState_zero_setTrkState_one 0 _)).trans (trkState_congr (rget_setTrk 1 _ s _) 0)

/-! ### A step of device time (R523, R524) -/

/-- Device time stands at `t`, is valid, and the change is in the cumulative step sum; PPS_OUT and CLK10M_OUT take up from there. -/
def timeMoved (t : Nat) (s : State) : State :=
  { s with tim := { s.tim with t := t, stepSum := s.tim.stepSum + (Int.ofNat t - Int.ofNat s.tim.t), stepT := some t
                               valid := true, ppsSec := timeSec t, outFall := t + highLeft s
                               outRise := ceilDiv (t + halfTick) (2 * halfTick) * (2 * halfTick) } }

/-- Both trackers are IDLE. -/
def bothIdle (s : State) : State := idleTrk 1 (idleTrk 0 s)

/-- bias is 0 from this core clock on. -/
def biasCleared (s : State) : State := { s with tim := { s.tim with bias := 0, biasClk := s.clk } }

/-- The step is made and counted; its events, NOMINAL and the starts that waited for a valid time are still to come. -/
def stepped (t : Nat) (s : State) : State := bump 19 7 (biasCleared (bothIdle (pushHist (timeMoved t s))))

/-- A step of `d` is reported, and if it is the `first`, what waits for a valid time goes on (R444, R464). -/
def stepReported (first : Bool) (d : Int) (s : State) : State :=
  let ns := d / Int.ofNat timeUnit
  let s := if first then raise 0x0A01 (gov s) (puLow ns) (puHigh ns) (setInt A.TIM_INT_STAT 0 s) else s
  let s := raise 0x0A07 (gov s) (puLow ns) (puHigh ns) s
  resolveWaiting (if first then nominalQualify s else s)

theorem stepTime_eq (t : Nat) (s : State) :
    stepTime t s = stepReported (!s.tim.valid) (Int.ofNat t - Int.ofNat s.tim.t) (stepped t s) := by
  unfold stepTime stepReported stepped biasCleared bothIdle timeMoved
  rfl

theorem timeKept_stepReported (first : Bool) (d : Int) (s : State) : TimeKept s (stepReported first d s) := by
  unfold stepReported
  extract_lets ns s1 s2
  have h1 : TimeKept s s1 := .ite (timeKept_raise_setInt _ _ _ _ _ s not_timReg_timIntStat) (.refl s)
  have h2 : TimeKept s s2 := h1.trans (timeKept_raise _ _ _ _ s1)
  exact (TimeKept.ite (h2.trans (timeKept_nominalQualify s2)) h2).trans (timeKept_resolveWaiting _)

/-- What follows the step keeps device time. -/
theorem timeKept_stepTime (t : Nat) (s : State) : TimeKept (stepped t s) (stepTime t s) := by
  rw [stepTime_eq]
  exact timeKept_stepReported _ _ _

theorem rget_biasCleared (s : State) (r : Nat) : rget (biasCleared s) r = rget s r := rfl
theorem biasCleared_tal (s : State) : (biasCleared s).tal = s.tal := rfl
theorem biasCleared_tim (s : State) : (biasCleared s).tim = { s.tim with bias := 0, biasClk := s.clk } := rfl
theorem rget_timeMoved (t : Nat) (s : State) (r : Nat) : rget (timeMoved t s) r = rget s r := rfl
theorem timeMoved_tal (t : Nat) (s : State) : (timeMoved t s).tal = s.tal := rfl
theorem rget_pushHist (s : State) (r : Nat) : rget (pushHist s) r = rget s r := rfl
theorem pushHist_tal (s : State) : (pushHist s).tal = s.tal := rfl
theorem pushHist_tim (s : State) : (pushHist s).tim = s.tim := rfl

/-- What a step sets in device time. -/
theorem stepped_tim (t : Nat) (s : State) : (stepped t s).tim.t = t ∧
    (stepped t s).tim.stepSum = s.tim.stepSum + (Int.ofNat t - Int.ofNat s.tim.t) ∧
    (stepped t s).tim.valid = true ∧ (stepped t s).tim.bias = 0 := by
  obtain ⟨a, b, r, h0⟩ := idleTrk_tim 0 (pushHist (timeMoved t s))
  obtain ⟨a', b', r', h1⟩ := idleTrk_tim 1 (idleTrk 0 (pushHist (timeMoved t s)))
  have idle : (bothIdle (pushHist (timeMoved t s))).tim = { (timeMoved t s).tim with trkA := a', trkB := b', recent := r' } := by
    rw [bothIdle, h1, h0, pushHist_tim]
  rw [stepped, bump_tim, biasCleared_tim, idle]
  exact ⟨rfl, rfl, rfl, rfl⟩

theorem rget_stepped (t : Nat) (s : State) (r : Nat) :
    rget (stepped t s) r = rget (bothIdle (pushHist (timeMoved t s))) r := by
  rw [stepped, rget_bump, rget_biasCleared]

theorem rget_stepped_ne {r : Nat} (t : Nat) (s : State) (h : A.TIM_STATUS ≠ r) : rget (stepped t s) r = rget s r := by
  rw [rget_stepped, bothIdle, rget_idleTrk_ne 1 _ h, rget_idleTrk_ne 0 _ h, rget_pushHist, rget_timeMoved]

theorem trkState_stepped (t : Nat) (s : State) : trkState (stepped t s) 0 = 0 ∧ trkState (stepped t s) 1 = 0 := by
  have idle := trkState_congr (rget_stepped t s A.TIM_STATUS)
  rw [idle, idle]
  exact ⟨(trkState_zero_idleTrk_one _).trans (trkState_idleTrk_same 0 _), trkState_idleTrk_same 1 _⟩

theorem steps_stepped (t : Nat) (s : State) : ctr (stepped t s) 19 7 = (ctr s 19 7 + 1) % 2 ^ 64 := by
  have idle (d : Nat) (u : State) : (idleTrk d u).tal = u.tal := (same_idleTrk d u).part .tal (by decide)
  have before : (biasCleared (bothIdle (pushHist (timeMoved t s)))).tal = s.tal := by
    rw [biasCleared_tal, bothIdle, idle, idle, pushHist_tal, timeMoved_tal]
  rw [stepped, bump, ctr_bumpN_same, ctr_congr (congrArg Tal.live before)]

/-! ### SET_ABS and STEP_REL (R523) -/

theorem exec_setAbs (s : State) : exec .setAbs s = hostCmd .setAbs A.TIM_CMD s setAbsOp := rfl
theorem exec_stepRel (neg : Bool) (s : State) : exec (.stepRel neg) s = hostCmd (.stepRel neg) A.TIM_CMD s (stepRelOp neg) := rfl

theorem settledFrom_setAbs {s : State} (h : HostReady s A.TIM_CMD) :
    ∃ t, exec .setAbs s = .next t ∧ SettledFrom (setAbsOp s) t := by
  obtain ⟨hheld, hd3, hbusy⟩ := h
  exact ⟨_, (exec_setAbs s).trans (hostCmd_next _ rfl hheld hd3 hbusy), settledFrom_after _ _⟩

theorem settledFrom_stepRel {s : State} (neg : Bool) (h : HostReady s A.TIM_CMD) :
    ∃ t, exec (.stepRel neg) s = .next t ∧ SettledFrom (stepRelOp neg s) t := by
  obtain ⟨hheld, hd3, hbusy⟩ := h
  exact ⟨_, (exec_stepRel neg s).trans (hostCmd_next _ rfl hheld hd3 hbusy), settledFrom_after _ _⟩

/-- The device time that STEP_REL asks for, before it is judged. -/
def stepRelTarget (neg : Bool) (s : State) : Int :=
  if neg = true then Int.ofNat s.tim.t - Int.ofNat (timeAt s A.TIM_STEP_SEC_HI)
  else Int.ofNat s.tim.t + Int.ofNat (timeAt s A.TIM_STEP_SEC_HI)

theorem stepRelTarget_false (s : State) :
    stepRelTarget false s = Int.ofNat s.tim.t + Int.ofNat (timeAt s A.TIM_STEP_SEC_HI) := if_neg Bool.false_ne_true

theorem stepRelTarget_true (s : State) :
    stepRelTarget true s = Int.ofNat s.tim.t - Int.ofNat (timeAt s A.TIM_STEP_SEC_HI) := if_pos rfl

/-- A refused step: BAD_VALUE. -/
def stepRefused (s : State) : State := fput F.TIM_CMD_STATUS_RESULT 2 s

/-- A step taken: RESULT is 0 and device time moves. -/
def stepTaken (t : Nat) (s : State) : State := stepTime t (fput F.TIM_CMD_STATUS_RESULT 0 s)

theorem setAbsOp_eq (s : State) : setAbsOp s =
    if 1000000000 ≤ rget s A.TIM_STEP_NS % 2 ^ 30 then stepRefused s else stepTaken (timeAt s A.TIM_STEP_SEC_HI) s := rfl

theorem stepRelOp_eq (neg : Bool) (s : State) : stepRelOp neg s =
    if 1000000000 ≤ rget s A.TIM_STEP_NS % 2 ^ 30 ∨ stepRelTarget neg s < 0 ∨ Int.ofNat timeMod ≤ stepRelTarget neg s
    then stepRefused s else stepTaken (stepRelTarget neg s).toNat s := rfl

section
variable {s : State} {neg : Bool}

theorem setAbsOp_of_ns_lt (hns : rget s A.TIM_STEP_NS % 2 ^ 30 < 1000000000) :
    setAbsOp s = stepTaken (timeAt s A.TIM_STEP_SEC_HI) s := by
  rw [setAbsOp_eq, if_neg hns.not_ge]

theorem setAbsOp_of_ns_ge (hns : 1000000000 ≤ rget s A.TIM_STEP_NS % 2 ^ 30) : setAbsOp s = stepRefused s := by
  rw [setAbsOp_eq, if_pos hns]

theorem stepRelOp_of_in_range (hns : rget s A.TIM_STEP_NS % 2 ^ 30 < 1000000000) (hpos : 0 ≤ stepRelTarget neg s)
    (hlt : stepRelTarget neg s < Int.ofNat timeMod) : stepRelOp neg s = stepTaken (stepRelTarget neg s).toNat s := by
  rw [stepRelOp_eq, if_neg (by rintro (h | h | h); exacts [hns.not_ge h, hpos.not_gt h, hlt.not_ge h])]

theorem stepRelOp_of_ns_ge (neg : Bool) (hns : 1000000000 ≤ rget s A.TIM_STEP_NS % 2 ^ 30) :
    stepRelOp neg s = stepRefused s := by
  rw [stepRelOp_eq, if_pos (Or.inl hns)]

theorem stepRelOp_of_out_of_range (h : stepRelTarget neg s < 0 ∨ Int.ofNat timeMod ≤ stepRelTarget neg s) :
    stepRelOp neg s = stepRefused s := by
  rw [stepRelOp_eq, if_pos (Or.inr h)]

end

/-- A step to `x`, by any of the three commands that ask for one, is taken when `x` is a device time. -/
theorem settledFrom_step {c : Instr} {x : Int} {s : State}
    (hc : (c, x) ∈ [(Instr.setAbs, Int.ofNat (timeAt s A.TIM_STEP_SEC_HI)), (.stepRel false, stepRelTarget false s),
      (.stepRel true, stepRelTarget true s)])
    (hready : HostReady s A.TIM_CMD) (hns : rget s A.TIM_STEP_NS % 2 ^ 30 < 1000000000) (hpos : 0 ≤ x)
    (hlt : x < Int.ofNat timeMod) : ∃ t, exec c s = .next t ∧ SettledFrom (stepTaken x.toNat s) t := by
  simp only [List.mem_cons, Prod.mk.injEq, List.not_mem_nil, or_false] at hc
  rcases hc with ⟨rfl, rfl⟩ | ⟨rfl, rfl⟩ | ⟨rfl, rfl⟩
  · have abs := settledFrom_setAbs hready
    rwa [setAbsOp_of_ns_lt hns] at abs
  · have add := settledFrom_stepRel false hready
    rwa [stepRelOp_of_in_range hns hpos hlt] at add
  · have sub := settledFrom_stepRel true hready
    rwa [stepRelOp_of_in_range hns hpos hlt] at sub

/-- Nanoseconds of 10⁹ or more refuse all three commands. -/
theorem settledFrom_badNs {c : Instr} {s : State} (hc : c ∈ [Instr.setAbs, .stepRel false, .stepRel true])
    (hready : HostReady s A.TIM_CMD) (hns : 1000000000 ≤ rget s A.TIM_STEP_NS % 2 ^ 30) :
    ∃ t, exec c s = .next t ∧ SettledFrom (stepRefused s) t := by
  simp only [List.mem_cons, List.not_mem_nil, or_false] at hc
  rcases hc with rfl | rfl | rfl
  · rw [← setAbsOp_of_ns_ge hns]
    exact settledFrom_setAbs hready
  · rw [← stepRelOp_of_ns_ge false hns]
    exact settledFrom_stepRel false hready
  · rw [← stepRelOp_of_ns_ge true hns]
    exact settledFrom_stepRel true hready

/-- What a settled device shows of a step that was taken. -/
theorem settledFrom_stepTaken {n : Nat} {s t : State} (h : SettledFrom (stepTaken n s) t) :
    t.tim.t = n ∧ t.tim.stepSum = s.tim.stepSum + (Int.ofNat n - Int.ofNat s.tim.t) ∧
      t.clk = s.clk ∧ t.tim.valid = true ∧ t.tim.bias = 0 ∧ trkState t 0 = 0 ∧ trkState t 1 = 0 ∧
      fget t F.TIM_CMD_STATUS_RESULT = 0 ∧ ctr t 19 7 = (ctr s 19 7 + 1) % 2 ^ 64 ∧ t.dp = s.dp ∧ t.tab = s.tab := by
  let u := fput F.TIM_CMD_STATUS_RESULT 0 s
  have same : Same [.regs, .tal, .gbk, .tim, .phs, .ldg] u (stepTaken n s) := same_stepTime n u
  have kept : TimeKept (stepped n u) t := (timeKept_stepTime n u).trans h.timeKept
  obtain ⟨ht, hsum, hvalid, hbias⟩ := stepped_tim n u
  obtain ⟨hA, hB⟩ := trkState_stepped n u
  have result : fget (stepped n u) F.TIM_CMD_STATUS_RESULT = 0 :=
    (fget_congr (rget_stepped_ne n u (by decide))).trans (fget_fput_same F.TIM_CMD_STATUS_RESULT 0 s (by decide))
  have steps : ctr u 19 7 = ctr s 19 7 := ctr_congr (by rw [fput_tal]) 19 7
  rw [kept.tim]
  refine ⟨ht, ?_, ?_, hvalid, hbias, ?_, ?_, ?_, ?_, ?_, ?_⟩
  · rw [hsum, fput_tim]
  · rw [h.clk, same.part .clk (by decide), fput_clk]
  · rw [kept.trkState, hA]
  · rw [kept.trkState, hB]
  · rw [kept.fget timReg_cmdStatus, result]
  · rw [kept.ctr 7 (by decide), steps_stepped, steps]
  · rw [h.dp, same.part .dp (by decide), fput_dp]
  · rw [h.tab, same.part .tab (by decide), fput_tab]

/-- What a settled device shows of a step that was refused. -/
theorem settledFrom_stepRefused {s t : State} (h : SettledFrom (stepRefused s) t) :
    fget t F.TIM_CMD_STATUS_RESULT = 2 ∧ t.tim = s.tim := by
  refine ⟨?_, h.tim.trans (fput_tim _ _ s)⟩
  exact (h.timeKept.fget timReg_cmdStatus).trans (fget_fput_same F.TIM_CMD_STATUS_RESULT 2 s (by decide))

/-- Settles O37: the commands are equations into `stepTaken` and `stepRefused`; a step sets what R523 and R524 say
(`stepped_tim`, `trkState_stepped`, `steps_stepped`), and what follows it keeps that (`timeKept_stepTime`). -/
theorem stepsOfDeviceTime : Obligations.StepsOfDeviceTime := by
  unfold Obligations.StepsOfDeviceTime
  refine ⟨?_, ?_, ?_⟩
  · intro c x s hc hready hns hpos hlt
    rw [← stepRelTarget_false, ← stepRelTarget_true] at hc
    obtain ⟨t, ht, settled⟩ := settledFrom_step hc hready hns hpos hlt
    obtain ⟨time, sum, rest⟩ := settledFrom_stepTaken settled
    have target : Int.ofNat x.toNat = x := Int.toNat_of_nonneg hpos
    rw [target] at sum
    exact ⟨t, ht, by rw [time, target], sum, rest⟩
  · intro c s hc hready hns
    obtain ⟨t, ht, settled⟩ := settledFrom_badNs hc hready hns
    exact ⟨t, ht, settledFrom_stepRefused settled⟩
  · intro neg x s hready hx hout
    rw [← stepRelTarget] at hx
    subst hx
    obtain ⟨t, ht, settled⟩ := settledFrom_stepRel neg hready
    rw [stepRelOp_of_out_of_range hout] at settled
    exact ⟨t, ht, settledFrom_stepRefused settled⟩

end Machine
end Sys2Proof
end

section
/-! PROOF. SHARE of the Porter (R607): what a command that completes writes (R609), and what a share sets or leaves. -/
namespace Sys2Proof
namespace Machine

/-! ### Fields above another in a register -/

/-- Above the field that is set, a register keeps its bits. -/
theorem setBits_shiftRight (n lo w v : Nat) : setBits n lo w v >>> (lo + w) = n >>> (lo + w) := by
  have field : v % 2 ^ w * 2 ^ lo + n % 2 ^ lo < 2 ^ (lo + w) := by
    calc v % 2 ^ w * 2 ^ lo + n % 2 ^ lo
        < v % 2 ^ w * 2 ^ lo + 2 ^ lo := Nat.add_lt_add_left (Nat.mod_lt n (Nat.two_pow_pos lo)) _
      _ = (v % 2 ^ w + 1) * 2 ^ lo := (Nat.succ_mul _ _).symm
      _ ≤ 2 ^ w * 2 ^ lo := Nat.mul_le_mul_right _ (Nat.mod_lt v (Nat.two_pow_pos w))
      _ = 2 ^ (lo + w) := by rw [← pow_add, Nat.add_comm]
  rw [Nat.shiftRight_eq_div_pow (setBits n lo w v)]
  unfold setBits
  rw [Nat.add_assoc, Nat.add_comm, Nat.add_mul_div_right _ _ (Nat.two_pow_pos _), Nat.div_eq_of_lt field, Nat.zero_add]

theorem bits_setBits_above {n lo w v lo' w' : Nat} (h : lo + w ≤ lo') :
    bits (setBits n lo w v) lo' w' = bits n lo' w' := by
  obtain ⟨k, rfl⟩ := Nat.exists_eq_add_of_le h
  unfold bits
  rw [Nat.shiftRight_add _ (lo + w), setBits_shiftRight, ← Nat.shiftRight_add]

theorem fget_fput_above {f g : Fld} (v : Nat) (s : State) (ha : f.addr = g.addr) (hlo : f.lo + f.width ≤ g.lo)
    (hg : g.lo + g.width ≤ 32) : fget (fput f v s) g = fget s g := by
  unfold fget fput
  rw [ha, rget_rput_same, bits_mod _ _ _ hg, bits_setBits_above hlo]

/-! ### Registers of the Porter -/

/-- A register of the Porter from POR_CMD_RESULT on: beside the result of a command, none that the end of a command writes. -/
def PorReg (r : Nat) : Prop := A.POR_CMD_RESULT ≤ r ∧ r < 0x160000

theorem PorReg.not_mem_settleRegs {r : Nat} (h : PorReg r) : r ∉ settleRegs := by
  have outside : ∀ a ∈ settleRegs, a < A.POR_CMD_RESULT ∨ 0x160000 ≤ a := by decide
  intro hr
  have := outside r hr
  unfold PorReg at h
  omega

theorem PorReg.ne_intStat {r : Nat} (h : PorReg r) : A.POR_INT_STAT ≠ r := ne_of_lt (lt_of_lt_of_le (by decide) h.1)
theorem PorReg.ne_cmdStatus {r : Nat} (h : PorReg r) : A.POR_CMD_STATUS ≠ r := ne_of_lt (lt_of_lt_of_le (by decide) h.1)
theorem PorReg.ne_gbkIntStat {r : Nat} (h : PorReg r) : r ≠ A.GBK_INT_STAT := ne_of_lt (h.2.trans_le (by decide))

theorem porReg_cmdResult : PorReg A.POR_CMD_RESULT := ⟨le_refl _, by decide⟩

theorem handlePool_lt (x : Nat) : handlePool x < 8 := Nat.mod_lt _ (by decide)

theorem cmdResult_ne_poolFirst (k : Nat) : A.POR_CMD_RESULT ≠ A.POR_POOL_FIRST k := by
  unfold A.POR_CMD_RESULT A.POR_POOL_FIRST
  omega

theorem porReg_poolFirst (x : Nat) : PorReg (A.POR_POOL_FIRST (handlePool x)) := by
  have := handlePool_lt x
  unfold PorReg A.POR_POOL_FIRST A.POR_CMD_RESULT
  omega

/-! ### A command of the Porter completes (R609, R612) -/

/-- Pool `k` takes the operation of the command, and no command waits any longer. -/
def cmdTaken (k : Nat) (s : State) : State := usePool k 1 { s with por := { s.por with cmd := none } }

theorem cmdTaken_cmd (k : Nat) (s : State) : (cmdTaken k s).por.cmd = none := rfl
theorem cmdTaken_masks (k : Nat) (s : State) : (cmdTaken k s).por.masks = s.por.masks := rfl
theorem cmdTaken_caches (k : Nat) (s : State) : (cmdTaken k s).por.caches = s.por.caches := rfl
theorem rget_cmdTaken (k : Nat) (s : State) (r : Nat) : rget (cmdTaken k s) r = rget s r := rfl
theorem fget_cmdTaken (k : Nat) (s : State) (f : Fld) : fget (cmdTaken k s) f = fget s f := rfl

/-- The result `r` is written, BUSY is cleared and CMD_DONE set. -/
def cmdDone (r : Nat) (s : State) : State :=
  setInt A.POR_INT_STAT 0 (fput F.POR_CMD_STATUS_BUSY 0 (fput F.POR_CMD_STATUS_RESULT r s))

/-- A command that is an operation on a pool, in a core clock in which the pool takes one. -/
theorem porComplete_of_turn {op pool owner : Nat} {s : State} (hcmd : s.por.cmd = some (op, pool, owner)) (hlo : 1 ≤ op)
    (hhi : op ≤ 4) (turn : poolTurn s (porPool op pool s) = true) :
    porComplete s = cmdDone (porApply op pool owner (cmdTaken (porPool op pool s) s)).1
      (porApply op pool owner (cmdTaken (porPool op pool s) s)).2 := by
  unfold porComplete
  simp only [hcmd, hlo, hhi, turn, decide_true, Bool.and_self, not_true_eq_false, and_false, if_false, if_true]
  rfl

theorem cmdDone_por (r : Nat) (s : State) : (cmdDone r s).por = s.por := by simp [cmdDone]

theorem rget_cmdDone {a : Nat} (r : Nat) (s : State) (h : PorReg a) : rget (cmdDone r s) a = rget s a :=
  (rget_setInt_ne _ _ h.ne_intStat).trans
    ((rget_fput_ne _ _ h.ne_cmdStatus).trans (rget_fput_ne _ _ h.ne_cmdStatus))

theorem busy_cmdDone (r : Nat) (s : State) : fget (cmdDone r s) F.POR_CMD_STATUS_BUSY = 0 :=
  (fget_congr (rget_setInt_ne _ _ (by decide))).trans (fget_fput_same _ _ _ (by decide))

theorem result_cmdDone {r : Nat} (s : State) (hr : r < 2 ^ 8) : fget (cmdDone r s) F.POR_CMD_STATUS_RESULT = r := by
  have written : fget (fput F.POR_CMD_STATUS_RESULT r s) F.POR_CMD_STATUS_RESULT = r % 2 ^ 8 :=
    fget_fput_same _ _ _ (by decide)
  calc fget (cmdDone r s) F.POR_CMD_STATUS_RESULT
      = fget (fput F.POR_CMD_STATUS_BUSY 0 (fput F.POR_CMD_STATUS_RESULT r s)) F.POR_CMD_STATUS_RESULT :=
        fget_congr (rget_setInt_ne _ _ (by decide))
    _ = fget (fput F.POR_CMD_STATUS_RESULT r s) F.POR_CMD_STATUS_RESULT := fget_fput_above _ _ rfl (by decide) (by decide)
    _ = r := written.trans (Nat.mod_eq_of_lt hr)

theorem exec_porCmdComplete (dt : Nat) (s : State) : exec (.porCmdComplete dt) s = execPorCmdComplete dt s := rfl

theorem settledFrom_porCmdComplete {dt : Nat} {s u : State} (he : Elapsed dt s u) :
    ∃ t, exec (.porCmdComplete dt) s = .next t ∧ SettledFrom (porComplete u) t := by
  obtain ⟨hheld, rfl⟩ := he
  exact ⟨_, (exec_porCmdComplete dt s).trans (timed_next porComplete rfl hheld),
    settledFrom_after (fun v => porComplete (passTime dt v)) s⟩

/-! ### Owner masks (R591) -/

theorem roomMask_congr {s t : State} {x : Nat} (hmasks : t.por.masks = s.por.masks)
    (hfirst : rget t (A.POR_POOL_FIRST (handlePool x)) = rget s (A.POR_POOL_FIRST (handlePool x))) :
    roomMask t x = roomMask s x := by
  unfold roomMask slotOf poolFirst
  rw [hmasks, fget_congr (f := F.POR_POOL_FIRST_FIRST (handlePool x)) hfirst]

theorem roomMask_putMask_same (x m : Nat) (s : State) : roomMask (putMask x m s) x = m % 65536 := sget_sput_same _ _ _

/-! ### The outcomes of a share (R607) -/

/-- Owner `o` may share the room of handle `x` with the owners `a`. -/
def ShareAllowed (s : State) (x o a : Nat) : Prop :=
  handleValid s x = true ∧ bitAt (roomMask s x) o = true ∧ a ≠ 0 ∧ popcount 16 (roomMask s x ||| a) ≤ 4

/-- The result of a share that is not allowed. -/
def shareFailure (s : State) (x o : Nat) : Nat :=
  if handleValid s x = false then porBadHandle else if roomMask s x = 0 then porDoubleFree
  else if bitAt (roomMask s x) o = false then porNotOwner else porBadOwners

/-- What a share that is allowed does: the mask takes the owners `a` in, and the share is counted. -/
def roomShared (x a : Nat) (s : State) : State := poolCtr (handlePool x) 8 (putMask x (roomMask s x ||| a) s)

/-- What a share that is not allowed does: it is reported, and a handle that is not valid is counted and recorded too. -/
def shareRejected (x o : Nat) (s : State) : State :=
  setInt A.POR_INT_STAT 2 (if handleValid s x then s else (badHandle x o s).2)

theorem shareAllowed_cmdTaken {k x o a : Nat} {s : State} :
    ShareAllowed (cmdTaken k s) x o a ↔ ShareAllowed s x o a := Iff.rfl

theorem shareFailure_cmdTaken (k x o : Nat) (s : State) : shareFailure (cmdTaken k s) x o = shareFailure s x o := rfl

theorem mask_ne_zero_of_owner {m o : Nat} (h : bitAt m o = true) : m ≠ 0 := by
  rintro rfl
  simp [bitAt] at h

theorem shareRoom_of_allowed {s : State} {x o a : Nat} (h : ShareAllowed s x o a) :
    shareRoom x o a s = (porOk, roomShared x a s) := by
  obtain ⟨valid, owner, named, few⟩ := h
  have room := mask_ne_zero_of_owner owner
  simp [shareRoom, roomShared, valid, owner, named, room, Nat.not_lt.2 few]

theorem shareRoom_of_not_allowed {s : State} {x o a : Nat} (h : ¬ ShareAllowed s x o a) :
    shareRoom x o a s = (shareFailure s x o, shareRejected x o s) := by
  unfold shareRoom shareFailure shareRejected
  by_cases valid : handleValid s x = true
  · by_cases free : roomMask s x = 0
    · simp [valid, free]
    · by_cases owner : bitAt (roomMask s x) o = true
      · have owners : a = 0 ∨ 4 < popcount 16 (roomMask s x ||| a) := by
          by_contra hn
          push Not at hn
          exact h ⟨valid, owner, hn⟩
        simp [valid, free, owner, owners]
      · simp [valid, free, owner]
  · simp [valid, badHandle]

theorem shareFailure_ne_porOk (s : State) (x o : Nat) : shareFailure s x o ≠ porOk := by
  unfold shareFailure
  split_ifs <;> decide

theorem shareFailure_lt (s : State) (x o : Nat) : shareFailure s x o < 2 ^ 8 := by
  unfold shareFailure
  split_ifs <;> decide

theorem badHandle_por (x o : Nat) (s : State) : (badHandle x o s).2.por = s.por :=
  (raise_por _ _ _ _ _).trans (bump_por _ _ s)

theorem rget_badHandle {r : Nat} (x o : Nat) (s : State) (h : r ≠ A.GBK_INT_STAT) :
    rget (badHandle x o s).2 r = rget s r := (rget_raise _ _ _ _ _ h).trans (rget_bump _ _ s r)

theorem shareRejected_por (x o : Nat) (s : State) : (shareRejected x o s).por = s.por := by
  unfold shareRejected
  rw [setInt_por]
  split
  · rfl
  · exact badHandle_por x o s

theorem rget_shareRejected {r : Nat} (x o : Nat) (s : State) (h : PorReg r) :
    rget (shareRejected x o s) r = rget s r := by
  unfold shareRejected
  rw [rget_setInt_ne _ _ h.ne_intStat]
  split
  · rfl
  · exact rget_badHandle x o s h.ne_gbkIntStat

theorem roomMask_roomShared (x a : Nat) (s : State) : roomMask (roomShared x a s) x = (roomMask s x ||| a) % 65536 :=
  roomMask_putMask_same x (roomMask s x ||| a) s

/-! ### SHARE completes -/

/-- The state a SHARE that is allowed leaves: the new mask is written to POR_CMD_RESULT. -/
def shareAnswered (x a : Nat) (s : State) : State := rput A.POR_CMD_RESULT (roomMask (roomShared x a s) x) (roomShared x a s)

section
variable {pool o x a : Nat} {s : State} (hx : rget s A.POR_CMD_HANDLE = x) (ha : fget s F.POR_CMD_ARG_ARG = a)
include hx ha

theorem porApply_share {e : Nat × State} (he : shareRoom x o a s = e) :
    porApply 3 pool o s = (e.1, if e.1 = porOk then rput A.POR_CMD_RESULT (roomMask e.2 x) e.2 else e.2) := by
  subst hx ha he
  rfl

theorem porApply_share_of_allowed (h : ShareAllowed s x o a) : porApply 3 pool o s = (porOk, shareAnswered x a s) :=
  porApply_share hx ha (shareRoom_of_allowed h)

theorem porApply_share_of_not_allowed (h : ¬ ShareAllowed s x o a) :
    porApply 3 pool o s = (shareFailure s x o, shareRejected x o s) := by
  rw [porApply_share hx ha (shareRoom_of_not_allowed h), if_neg (shareFailure_ne_porOk s x o)]

end

theorem roomMask_shareAnswered (x a : Nat) (s : State) :
    roomMask (shareAnswered x a s) x = (roomMask s x ||| a) % 65536 := by
  have masks : (shareAnswered x a s).por.masks = (roomShared x a s).por.masks := congrArg Por.masks (rput_por _ _ _)
  have first : rget (shareAnswered x a s) (A.POR_POOL_FIRST (handlePool x))
      = rget (roomShared x a s) (A.POR_POOL_FIRST (handlePool x)) := rget_rput_ne _ _ (cmdResult_ne_poolFirst _)
  exact (roomMask_congr masks first).trans (roomMask_roomShared x a s)

theorem result_shareAnswered (x a : Nat) (s : State) :
    rget (shareAnswered x a s) A.POR_CMD_RESULT = (roomMask s x ||| a) % 65536 := by
  unfold shareAnswered
  rw [rget_rput_same, roomMask_roomShared]
  exact Nat.mod_mod_of_dvd' (by decide)

section
variable {o x a : Nat} {u : State} (hcmd : u.por.cmd = some (3, 0, o)) (hx : rget u A.POR_CMD_HANDLE = x)
  (turn : poolTurn u (handlePool x) = true)
include hcmd hx turn

theorem porComplete_share :
    porComplete u = cmdDone (porApply 3 0 o (cmdTaken (handlePool x) u)).1 (porApply 3 0 o (cmdTaken (handlePool x) u)).2 := by
  subst hx
  exact porComplete_of_turn hcmd (by decide) (by decide) turn

theorem porComplete_share_of_allowed (ha : fget u F.POR_CMD_ARG_ARG = a) (h : ShareAllowed u x o a) :
    porComplete u = cmdDone porOk (shareAnswered x a (cmdTaken (handlePool x) u)) := by
  rw [porComplete_share hcmd hx turn, porApply_share_of_allowed ((rget_cmdTaken _ u _).trans hx)
    ((fget_cmdTaken _ u _).trans ha) (shareAllowed_cmdTaken.2 h)]

theorem porComplete_share_of_not_allowed (ha : fget u F.POR_CMD_ARG_ARG = a) (h : ¬ ShareAllowed u x o a) :
    porComplete u = cmdDone (shareFailure u x o) (shareRejected x o (cmdTaken (handlePool x) u)) := by
  rw [porComplete_share hcmd hx turn, porApply_share_of_not_allowed ((rget_cmdTaken _ u _).trans hx)
    ((fget_cmdTaken _ u _).trans ha) (mt shareAllowed_cmdTaken.1 h), shareFailure_cmdTaken]

end

section
variable {t : State}

/-- After a SHARE that is allowed the mask and POR_CMD_RESULT hold the owners before it and the new ones. -/
theorem settledFrom_shareAnswered {x a m : Nat} {v : State}
    (h : SettledFrom (cmdDone porOk (shareAnswered x a v)) t) (hm : roomMask v x ||| a = m) (hlt : m < 2 ^ 16) :
    fget t F.POR_CMD_STATUS_RESULT = porOk ∧ roomMask t x = m ∧ rget t A.POR_CMD_RESULT = m := by
  have fits : (roomMask v x ||| a) % 65536 = m := hm ▸ Nat.mod_eq_of_lt (hm ▸ hlt)
  have kept {r : Nat} (hr : PorReg r) : rget t r = rget (shareAnswered x a v) r :=
    (h.reg r hr.not_mem_settleRegs).trans (rget_cmdDone _ _ hr)
  have masks : t.por.masks = (shareAnswered x a v).por.masks := congrArg Por.masks (h.por.trans (cmdDone_por _ _))
  refine ⟨(h.fget (by decide)).trans (result_cmdDone _ (by decide)), ?_, ?_⟩
  · rw [roomMask_congr masks (kept (porReg_poolFirst x)), roomMask_shareAnswered, fits]
  · rw [kept porReg_cmdResult, result_shareAnswered, fits]

/-- A SHARE that is not allowed leaves the masks, the caches and POR_CMD_RESULT. -/
theorem settledFrom_shareRejected {r x o k : Nat} {u : State}
    (h : SettledFrom (cmdDone r (shareRejected x o (cmdTaken k u))) t) :
    t.por.cmd = none ∧ t.por.masks = u.por.masks ∧ t.por.caches = u.por.caches ∧
      rget t A.POR_CMD_RESULT = rget u A.POR_CMD_RESULT := by
  have por : t.por = (cmdTaken k u).por := h.por.trans ((cmdDone_por _ _).trans (shareRejected_por _ _ _))
  refine ⟨por ▸ cmdTaken_cmd k u, por ▸ cmdTaken_masks k u, por ▸ cmdTaken_caches k u, ?_⟩
  calc rget t A.POR_CMD_RESULT
      = rget (cmdDone r (shareRejected x o (cmdTaken k u))) A.POR_CMD_RESULT :=
        h.reg _ porReg_cmdResult.not_mem_settleRegs
    _ = rget (shareRejected x o (cmdTaken k u)) A.POR_CMD_RESULT := rget_cmdDone _ _ porReg_cmdResult
    _ = rget (cmdTaken k u) A.POR_CMD_RESULT := rget_shareRejected _ _ _ porReg_cmdResult
    _ = rget u A.POR_CMD_RESULT := rget_cmdTaken _ _ _

end

/-- Settles O46: the command completes as `shareAnswered` when the share is allowed, which puts the new mask in the room's
slot and in POR_CMD_RESULT, and as `shareRejected` when it is not, which leaves the masks, the caches and POR_CMD_RESULT. -/
theorem shareAddsOwners : Obligations.ShareAddsOwners := by
  unfold Obligations.ShareAddsOwners
  intro dt o x m a s u _ he hcmd hx turn hm hlt ha
  subst hm
  have argument : a < 2 ^ 16 := ha ▸ Nat.mod_lt _ (by decide)
  obtain ⟨t, ht, settled⟩ := settledFrom_porCmdComplete he
  have kept := same_porComplete u
  refine ⟨t, ht, ?_, settled.mem.trans (kept.part .mem (by decide)), settled.dp.trans (kept.part .dp (by decide)),
    settled.tab.trans (kept.part .tab (by decide)), ?_, ?_⟩
  · rw [settled.fget (by decide), porComplete_share hcmd hx turn]
    exact busy_cmdDone _ _
  · intro valid owner named few
    rw [porComplete_share_of_allowed hcmd hx turn ha ⟨valid, owner, named, few⟩] at settled
    exact settledFrom_shareAnswered settled rfl (Nat.or_lt_two_pow hlt argument)
  · intro refused
    rw [porComplete_share_of_not_allowed hcmd hx turn ha refused] at settled
    obtain ⟨cmd, masks, caches, result⟩ := settledFrom_shareRejected settled
    exact ⟨cmd, masks, caches, result,
      (settled.fget (by decide)).trans (result_cmdDone _ (shareFailure_lt u x o))⟩

end Machine
end Sys2Proof
end

section
/-! PROOF. END of an errand (R646): the instruction that stops its errand, and what it leaves alone. -/
namespace Sys2Proof
namespace Machine

/-! ### Registers of the Drayman -/

/-- The end of a command writes no register of the Drayman by itself. -/
theorem not_mem_settleRegs_of_dryBlock {r : Nat} (h : dryBlock r = true) : r ∉ settleRegs := by
  have outside : ∀ a ∈ settleRegs, dryBlock a = false := by decide
  exact fun hr => Bool.false_ne_true ((outside r hr).symm.trans h)

/-- The registers of errand `e` lie in the Drayman's block. -/
theorem dryBlock_errandReg {e o : Nat} (he : e < 16) (ho : o < 0x40) : dryBlock (dryBase (.err e) + o) = true := by
  unfold dryBlock dryBase A.DRY_ERR_CFG
  simp only [decide_eq_true_eq]
  omega

/-! ### A channel's state and its interrupts -/

theorem chanState_congr {s t : State} {ch : DryChan} (h : rget t (dryBase ch + 8) = rget s (dryBase ch + 8)) :
    chanState t ch = chanState s ch := fget_congr (f := fState ch) h

theorem chanState_setChan {ch : DryChan} {st : Nat} (s : State) (h : st < 8) : chanState (setChan ch st s) ch = st :=
  (fget_fput_same (fState ch) st s (by decide : 0 + 3 ≤ 32)).trans (Nat.mod_eq_of_lt h)

theorem chanState_chanInt (ch : DryChan) (i : Nat) (s : State) : chanState (chanInt ch i s) ch = chanState s ch :=
  chanState_congr (rget_setInt_ne i s (by omega))

theorem bitAt_chanInt {i : Nat} (ch : DryChan) (s : State) (h : i < 32) :
    bitAt (rget (chanInt ch i s) (dryBase ch + 0x28)) i = true := testBit_forBits _ i s h

/-! ### The instruction in progress -/

theorem errWorks_of_running {e : Nat} {s : State} (running : chanState s (.err e) = stRunning) (dma : dmaOn s = true) :
    errWorks s e = true := by
  simp [errWorks, running, dma]

/-- An errand at work carries out an instruction that may run. -/
theorem errStep_of_allowed {e op : Nat} {act : List Nat → State → State} {s : State} (works : errWorks s e = true)
    (allowed : instrOk s e (errWords s e) = true) (hop : bits (ew (errWords s e) 0) 0 4 = op) :
    errStep e op act s = act (errWords s e) s := by
  simp [errStep, works, allowed, hop]

/-! ### END (R646) -/

theorem chanState_endOp (e : Nat) (s : State) : chanState (endOp e s) (.err e) = stDone :=
  calc chanState (endOp e s) (.err e)
      = chanState (chanInt (.err e) 0 (setChan (.err e) stDone s)) (.err e) := chanState_congr (rget_bump _ _ _ _)
    _ = chanState (setChan (.err e) stDone s) (.err e) := chanState_chanInt _ _ _
    _ = stDone := chanState_setChan s (by decide)

theorem complete_endOp (e : Nat) (s : State) : bitAt (rget (endOp e s) (dryBase (.err e) + 0x28)) 0 = true := by
  unfold endOp
  rw [rget_bump]
  exact bitAt_chanInt _ _ (by decide)

theorem wellFormed_errandEnd {dt e : Nat} (he : e < 16) : wellFormed (.errandEnd dt e) = true := decide_eq_true he

theorem exec_errandEnd (dt e : Nat) (s : State) : exec (.errandEnd dt e) s = execErrandEnd dt e s := rfl

/-- An errand that runs and has come to an END ends, and the device settles. -/
theorem settledFrom_errandEnd {dt e : Nat} {s u : State} (he : e < 16) (elapsed : Elapsed dt s u)
    (works : errWorks u e = true) (allowed : instrOk u e (errWords u e) = true)
    (hop : bits (ew (errWords u e) 0) 0 4 = opEnd) :
    ∃ t, exec (.errandEnd dt e) s = .next t ∧ SettledFrom (endOp e u) t := by
  obtain ⟨hheld, rfl⟩ := elapsed
  have ends := settledFrom_after (fun v => errStep e opEnd (fun _ s => endOp e s) (passTime dt v)) s
  rw [errStep_of_allowed works allowed hop] at ends
  exact ⟨_, (exec_errandEnd dt e s).trans (timed_next _ (wellFormed_errandEnd he) hheld), ends⟩

/-- Settles O51: the command answers the state that `endOp` leaves, settled; `endOp` writes DONE and COMPLETE, which lie in
the Drayman's block and so stay as the device settles, and beside registers it changes a counter only (`same_endOp`). -/
theorem endStopsTheErrand : Obligations.EndStopsTheErrand := by
  unfold Obligations.EndStopsTheErrand
  intro dt e w s u he elapsed running dma hw allowed hop
  subst hw
  obtain ⟨t, ht, settled⟩ := settledFrom_errandEnd he elapsed (errWorks_of_running running dma) allowed hop
  have reg : ∀ o < 0x40, rget t (dryBase (.err e) + o) = rget (endOp e u) (dryBase (.err e) + o) := fun o ho =>
    settled.reg _ (not_mem_settleRegs_of_dryBlock (dryBlock_errandReg he ho))
  have kept := same_endOp e u
  refine ⟨t, ht, ?_, ?_, settled.mem.trans (kept.part .mem (by decide)), settled.dp.trans (kept.part .dp (by decide)),
    settled.tab.trans (kept.part .tab (by decide)), settled.por.trans (kept.part .por (by decide))⟩
  · exact (chanState_congr (reg 8 (by decide))).trans (chanState_endOp e u)
  · rw [reg 0x28 (by decide)]
    exact complete_endOp e u

end Machine
end Sys2Proof
end

section
/-! PROOF. ALERT_N (R720): what its sources are in the registers and the monitors, and that every command leaves the pin as
they ask. -/
namespace Sys2Proof
namespace Machine

/-! ### Bits under a mask -/

theorem and_ne_zero_iff_exists_bitAt (n m : Nat) : n &&& m ≠ 0 ↔ ∃ i, bitAt m i = true ∧ bitAt n i = true := by
  constructor
  · intro h
    obtain ⟨i, hi⟩ := Nat.exists_testBit_of_ne_zero h
    rw [Nat.testBit_and, Bool.and_eq_true] at hi
    exact ⟨i, hi.2, hi.1⟩
  · rintro ⟨i, hm, hn⟩ zero
    have bit : (n &&& m).testBit i = true := by rw [Nat.testBit_and, Bool.and_eq_true]; exact ⟨hn, hm⟩
    rw [zero, Nat.zero_testBit] at bit
    cases bit

theorem and_eq_mask_iff_forall_bitAt (n m : Nat) : n &&& m = m ↔ ∀ i, bitAt m i = true → bitAt n i = true := by
  simp [Nat.eq_iff_testBit_eq, bitAt]

theorem lt_of_bitAt {m w i : Nat} (hm : m < 2 ^ w) (h : bitAt m i = true) : i < w :=
  (Nat.pow_lt_pow_iff_right (by decide)).1 ((Nat.ge_two_pow_of_testBit h).trans_lt hm)

/-- The mask of GLB_COND.FENCED holds the fence bit of each hearth's field of HLT_FENCE. -/
theorem bitAt_fenceMask (i : Nat) : bitAt 0x8888 i = true ↔ ∃ h, h < 4 ∧ i = 4 * h + 3 := by
  constructor
  · intro hi
    have only : ∀ i < 16, bitAt 0x8888 i = true → ∃ h, h < 4 ∧ i = 4 * h + 3 := by decide
    exact only i (lt_of_bitAt (by decide) hi) hi
  · have each : ∀ h < 4, bitAt 0x8888 (4 * h + 3) = true := by decide
    rintro ⟨h, hh, rfl⟩
    exact each h hh

/-- The mask of GLB_COND.SPARES_EXHAUSTED holds the bit of each spare's field of HLT_BANK_MAP that says it is in use. -/
theorem bitAt_spareMask (i : Nat) : bitAt 0x80808080 i = true ↔ ∃ q, q < 4 ∧ i = 8 * q + 7 := by
  constructor
  · intro hi
    have only : ∀ i < 32, bitAt 0x80808080 i = true → ∃ q, q < 4 ∧ i = 8 * q + 7 := by decide
    exact only i (lt_of_bitAt (by decide) hi) hi
  · have each : ∀ q < 4, bitAt 0x80808080 (8 * q + 7) = true := by decide
    rintro ⟨q, hq, rfl⟩
    exact each q hq

/-! ### The sources of ALERT_N (R720) -/

theorem anyFenced_iff (s : State) :
    anyFenced s = true ↔ ∃ h, h < 4 ∧ bitAt (rget s A.HLT_FENCE) (4 * h + 3) = true := by
  simp only [anyFenced, bne_iff_ne, and_ne_zero_iff_exists_bitAt, bitAt_fenceMask]
  constructor
  · rintro ⟨_, ⟨h, hh, rfl⟩, fenced⟩
    exact ⟨h, hh, fenced⟩
  · rintro ⟨h, hh, fenced⟩
    exact ⟨_, ⟨h, hh, rfl⟩, fenced⟩

theorem sparesExhausted_iff (s : State) :
    sparesExhausted s = true ↔ ∀ q, q < 4 → bitAt (rget s A.HLT_BANK_MAP) (8 * q + 7) = true := by
  simp only [sparesExhausted, beq_iff_eq, and_eq_mask_iff_forall_bitAt, bitAt_spareMask]
  constructor
  · intro all q hq
    exact all _ ⟨q, hq, rfl⟩
  · rintro all _ ⟨q, hq, rfl⟩
    exact all q hq

theorem monitorWarn_iff (s : State) :
    (tempWarn s || voltWarn s) = true ↔ ∃ e, (e ∈ s.hlt.tempState ∨ e ∈ s.hlt.voltState) ∧ e.2 ≠ 0 := by
  unfold tempWarn voltWarn
  rw [← List.any_append, List.any_eq_true]
  simp only [List.mem_append, bne_iff_ne]

theorem safeLatch_iff (s : State) : safeLatch s = true ↔ rget s A.GLB_SAFE_CAUSE ≠ 0 := bne_iff_ne

theorem alertWanted_iff (s : State) :
    alertWanted s = true ↔
      (bitAt (rget s A.HLT_ALERT_CTL) 0 = true ∧ ∃ e, (e ∈ s.hlt.tempState ∨ e ∈ s.hlt.voltState) ∧ e.2 ≠ 0) ∨
      (bitAt (rget s A.HLT_ALERT_CTL) 1 = true ∧ ∃ h, h < 4 ∧ bitAt (rget s A.HLT_FENCE) (4 * h + 3) = true) ∨
      (bitAt (rget s A.HLT_ALERT_CTL) 2 = true ∧ ∀ q, q < 4 → bitAt (rget s A.HLT_BANK_MAP) (8 * q + 7) = true) ∨
      (bitAt (rget s A.HLT_ALERT_CTL) 3 = true ∧ s.hif.ostlerSilent = true) ∨ rget s A.GLB_SAFE_CAUSE ≠ 0 := by
  rw [← monitorWarn_iff, ← anyFenced_iff, ← sparesExhausted_iff, ← safeLatch_iff]
  simp only [alertWanted, Bool.or_eq_true, Bool.and_eq_true, or_assoc]

/-! ### A device at rest after every command -/

theorem settled_after (f : State → State) (s : State) : Settled (after f s) :=
  settled_pending (settled_settle (f s)) s.pending

/-- A device that is not held settles at the end of every command, from whatever state. -/
theorem settled_of_exec {c : Instr} {s t : State} (free : held s = false) (h : exec c s = .next t) : Settled t := by
  rcases exec_settling h with ⟨_, stuck⟩ | ⟨f, rfl⟩
  · rw [free] at stuck
    cases stuck
  · exact settled_after f s

/-- Settles O14: every command leaves the device at rest (`settled_of_exec`), so ALERT_N is what `alertWanted` asks, and
`alertWanted_iff` says what that is. -/
theorem alertFollowsItsSources : Obligations.AlertFollowsItsSources := by
  unfold Obligations.AlertFollowsItsSources
  intro c s t free h
  obtain ⟨_, follows, _⟩ := settled_of_exec free h
  rw [follows]
  exact alertWanted_iff t

end Machine
end Sys2Proof
end

section
/-! PROOF. Rising edges at GPIO pins (R760): what an edge sets, what makes it do nothing, and what it leaves alone. -/
namespace Sys2Proof
namespace Machine

/-! ### Status bits set in a register -/

/-- The register holds its bits and the bits set. -/
theorem rget_forBits_same (a : Nat) {m : Nat} (s : State) (hm : m < 2 ^ 32) :
    rget (forBits a m s) a = rget s a ||| m := by
  unfold forBits
  rw [rget_rput_same]
  exact Nat.mod_eq_of_lt (Nat.or_lt_two_pow (rget_lt s a) hm)

/-! ### An edge that is kept and an edge that is not -/

/-- The edge at GPIO `n` is kept: its bit of PIN_GPIO_EDGE is set, and with it PIN_INT_STAT.GPIO. -/
def edgeKept (n : Nat) (s : State) : State := setInt A.PIN_INT_STAT 0 (forBits A.PIN_GPIO_EDGE (2 ^ n) s)

theorem gpioEdge_of_enabled_input {n : Nat} {s : State} (input : bitAt (rget s A.PIN_GPIO_DIR) n = false)
    (enabled : bitAt (rget s A.PIN_GPIO_EDGE_EN) n = true) : gpioEdge n s = edgeKept n s :=
  if_neg (by simp [input, enabled])

theorem gpioEdge_of_output_or_disabled {n : Nat} {s : State}
    (h : bitAt (rget s A.PIN_GPIO_DIR) n = true ∨ bitAt (rget s A.PIN_GPIO_EDGE_EN) n = false) : gpioEdge n s = s :=
  if_pos (h.imp_right fun disabled => by simp [disabled])

theorem rget_edgeKept_ne {n r : Nat} (s : State) (hedge : r ≠ A.PIN_GPIO_EDGE) (hint : r ≠ A.PIN_INT_STAT) :
    rget (edgeKept n s) r = rget s r :=
  (rget_setInt_ne 0 _ hint.symm).trans (rget_forBits_ne _ s hedge.symm)

theorem pinGpioEdge_edgeKept {n : Nat} (s : State) (hn : n < 16) :
    rget (edgeKept n s) A.PIN_GPIO_EDGE = rget s A.PIN_GPIO_EDGE ||| 2 ^ n :=
  (rget_setInt_ne 0 _ (by decide)).trans (rget_forBits_same _ s (Nat.pow_lt_pow_right (by decide) (by omega)))

theorem pinIntStat_edgeKept (n : Nat) (s : State) :
    rget (edgeKept n s) A.PIN_INT_STAT = rget s A.PIN_INT_STAT ||| 1 :=
  calc rget (edgeKept n s) A.PIN_INT_STAT
      = rget (forBits A.PIN_GPIO_EDGE (2 ^ n) s) A.PIN_INT_STAT ||| 1 := rget_forBits_same _ _ (by decide)
    _ = rget s A.PIN_INT_STAT ||| 1 := congrArg (· ||| 1) (rget_forBits_ne _ s (by decide))

/-! ### GPIO_EDGE -/

theorem wellFormed_gpioEdge {dt n : Nat} (hn : n < 16) : wellFormed (.gpioEdge dt n) = true := decide_eq_true hn

theorem exec_gpioEdge (dt n : Nat) (s : State) : exec (.gpioEdge dt n) s = execGpioEdge dt n s := rfl

/-- The command answers the state that `gpioEdge` leaves, settled. -/
theorem settledFrom_gpioEdge {dt n : Nat} {s u : State} (hn : n < 16) (elapsed : Elapsed dt s u) :
    ∃ t, exec (.gpioEdge dt n) s = .next t ∧ SettledFrom (gpioEdge n u) t := by
  obtain ⟨hheld, rfl⟩ := elapsed
  exact ⟨_, (exec_gpioEdge dt n s).trans (timed_next (gpioEdge n) (wellFormed_gpioEdge hn) hheld),
    settledFrom_after (fun v => gpioEdge n (passTime dt v)) s⟩

/-- Settles O60: an edge at an enabled input is kept (`gpioEdge_of_enabled_input`), any other changes nothing
(`gpioEdge_of_output_or_disabled`); settling writes neither PIN_GPIO_EDGE nor PIN_INT_STAT. -/
theorem gpioEdgesAreKept : Obligations.GpioEdgesAreKept := by
  unfold Obligations.GpioEdgesAreKept
  constructor
  · intro dt n s u hn elapsed input enabled
    obtain ⟨t, ht, settled⟩ := settledFrom_gpioEdge hn elapsed
    rw [gpioEdge_of_enabled_input input enabled] at settled
    refine ⟨t, ht, ?_, ?_, ?_, ?_⟩
    · exact (settled.reg _ (by decide)).trans (pinGpioEdge_edgeKept u hn)
    · exact (settled.reg _ (by decide)).trans (pinIntStat_edgeKept n u)
    · intro r hr hedge hint
      exact (settled.reg r hr).trans (rget_edgeKept_ne u hedge hint)
    · exact settled.dp.trans (by simp [edgeKept])
  · intro dt n s u hn elapsed ignored
    obtain ⟨t, ht, settled⟩ := settledFrom_gpioEdge hn elapsed
    rw [gpioEdge_of_output_or_disabled ignored] at settled
    exact ⟨t, ht, settled.reg, settled.pin⟩

end Machine
end Sys2Proof
end

section
/-! PROOF. What every command is: the frame it runs in, and what follows of that for all of them. -/
namespace Sys2Proof
namespace Machine

/-! ### The two forms of a command -/

/-- The commands of the reset pin, the supplies, the return of the core clock and the JTAG port (R140, R742, R747, R762). -/
def atPins : Instr → Bool
  | .coldReset _ | .resetNRise _ | .supplyBrownout _ | .supplyRecovered _ _ | .coreRefclkRestored _ | .jtagBypass
  | .jtagIdcode | .jtagSamplePreload _ | .jtagExtest | .jtagExtestPulse | .jtagExtestTrain | .jtagHighz | .jtagClamp => true
  | _ => false

/-- Every command runs in the frame of commands that a held device does not take, or is one of the pins' and runs in theirs. -/
theorem exec_shape (c : Instr) (s : State) :
    (∃ f, exec c s = command c s f) ∨ (atPins c = true ∧ ∃ f, exec c s = pinCommand c s f) := by
  cases c
  case coldReset | resetNRise | supplyBrownout | supplyRecovered | coreRefclkRestored | jtagBypass | jtagIdcode | jtagSamplePreload
      | jtagExtest | jtagExtestPulse | jtagExtestTrain | jtagHighz | jtagClamp => exact Or.inr ⟨rfl, _, rfl⟩
  all_goals exact Or.inl ⟨_, rfl⟩

theorem pinCommand_illFormed {c : Instr} {s : State} (f : State → State) (w : wellFormed c = false) :
    pinCommand c s f = .fault .illFormed := by
  simp [pinCommand, w]

/-- Settles O5: both frames answer a next state exactly when the operands are well formed. -/
theorem wellFormedCommandsComplete : Obligations.WellFormedCommandsComplete := by
  unfold Obligations.WellFormedCommandsComplete
  intro c s
  rcases exec_shape c s with ⟨f, e⟩ | ⟨-, f, e⟩ <;> rw [e]
  · refine ⟨fun w => ?_, command_illFormed f⟩
    cases h : held s
    · exact ⟨_, command_next f w h⟩
    · exact ⟨_, command_held f w h⟩
  · exact ⟨fun w => ⟨_, pinCommand_next f w⟩, pinCommand_illFormed f⟩

/-- Settles O6: a command does nothing or puts back the queue that it found (`exec_settling`). -/
theorem commandsKeepTheQueue : Obligations.CommandsKeepTheQueue := by
  unfold Obligations.CommandsKeepTheQueue
  intro c s t h
  rcases exec_settling h with ⟨rfl, -⟩ | ⟨f, rfl⟩ <;> rfl

/-- A held device takes none but the pins' commands. -/
theorem exec_of_held {c : Instr} {s : State} (pins : atPins c = false) (h : held s = true) (w : wellFormed c = true) :
    exec c s = .next s := by
  rcases exec_shape c s with ⟨f, e⟩ | ⟨p, -⟩
  · exact e.trans (command_held f w h)
  · rw [pins] at p
    cases p

/-- Settles O7: the commands that the statement leaves out are those of `atPins`. -/
theorem aHeldDeviceTakesPinsOnly : Obligations.AHeldDeviceTakesPinsOnly := by
  unfold Obligations.AHeldDeviceTakesPinsOnly
  intro c s h w
  split
  iterate 13 trivial
  next =>
    refine exec_of_held ?_ h w
    unfold atPins
    split <;> simp_all

/-! ### Steps -/

/-- A step is a command or a clock that passes, from the state with the queue's rest. -/
theorem step_cases {s t : State} (h : step s = .next t) :
    (∃ c rest, s.pending = c :: rest ∧ exec c { s with pending := rest } = .next t) ∨ (s.pending = [] ∧ t = idleClock s) := by
  unfold step at h
  split at h
  next e => exact Or.inr ⟨e, (Host.Outcome.next.inj h).symm⟩
  next c rest e => exact Or.inl ⟨c, rest, e, h⟩

theorem settled_of_settling {s t : State} (rest : Settled s) (h : Settling s t) : Settled t := by
  rcases h with ⟨rfl, -⟩ | ⟨f, rfl⟩
  · exact rest
  · exact settled_after f s

/-- Settles O8: whatever a step does, it leaves the device as it was or settled. -/
theorem everyStepSettles : Obligations.EveryStepSettles := by
  unfold Obligations.EveryStepSettles
  intro s t rest h
  rcases step_cases h with ⟨c, q, -, run⟩ | ⟨-, rfl⟩
  · exact settled_of_settling (settled_pending rest q) (exec_settling run)
  · exact settled_of_settling rest (idleClock_settling s)

/-- Settles O1, by the definition of a step. -/
theorem stepRunsTheFrontCommand : Obligations.StepRunsTheFrontCommand := fun _ _ _ => rfl

end Machine
end Sys2Proof
end

section
/-! PROOF. The clock, and the state after reset. -/
namespace Sys2Proof
namespace Machine

/-! ### The core clock -/

theorem le_clk_runDue (limit n : Nat) (s : State) : s.clk ≤ (runDue limit n s).clk := by
  induction n generalizing s with
  | zero => exact Nat.le_refl _
  | succ n ih =>
    unfold runDue
    split
    · exact Nat.le_refl _
    · split
      · exact Nat.le_refl _
      · refine Nat.le_trans ?_ (ih _)
        rw [(same_runStage _ _ _).part .clk (by decide), passClocks_clk]
        exact Nat.le_add_right _ _

/-- Stages of places below that of the clock after `c` take place by clock `c`. -/
theorem clk_runDue_le {limit c : Nat} (hc : limit ≤ 16 * c + 16) (n : Nat) {s : State} (h : s.clk ≤ c) :
    (runDue limit n s).clk ≤ c := by
  induction n generalizing s with
  | zero => exact h
  | succ n ih =>
    unfold runDue
    split
    · exact h
    · split
      · exact h
      · refine ih ?_
        rw [(same_runStage _ _ _).part .clk (by decide), passClocks_clk]
        omega

theorem runDue_clk {limit : Nat} (n : Nat) {s : State} (h : limit ≤ 16 * s.clk + 16) : (runDue limit n s).clk = s.clk :=
  Nat.le_antisymm (clk_runDue_le h n (Nat.le_refl _)) (le_clk_runDue limit n s)

@[simp] theorem stagesNow_clk (s : State) : (stagesNow s).clk = s.clk := runDue_clk _ (Nat.le_refl _)

@[simp] theorem tableWrites_clk (s : State) : (tableWrites s).clk = s.clk := runDue_clk _ (by omega)

theorem elapse_clk (dt : Nat) (s : State) : (elapse dt s).clk = s.clk + dt := by
  unfold elapse
  rw [passClocks_clk]
  have := clk_runDue_le (limit := 16 * (s.clk + dt)) (by omega) (stagesLeft s) (Nat.le_add_right s.clk dt)
  omega

theorem pauseCount_clk (dt p : Nat) (s : State) : (pauseCount dt p s).clk = s.clk := by
  unfold pauseCount
  extract_lets x n lost a b u seen v
  have hu : u.clk = s.clk := by simp [u]
  have hv : v.clk = s.clk := by simp [v, hu]
  split
  · rfl
  · split
    · rw [raise_clk, setInt_clk, hv]
    · exact hv

theorem pauseCounts_clk (dt : Nat) (s : State) : (pauseCounts dt s).clk = s.clk := by
  unfold pauseCounts
  generalize s.prt.filter _ = l
  induction l generalizing s with
  | nil => rfl
  | cons e l ih => rw [List.foldl_cons, ih, pauseCount_clk]

/-- Each core clock that passes is counted. -/
theorem passTime_clk (dt : Nat) (s : State) : (passTime dt s).clk = s.clk + dt := by
  unfold passTime
  split
  next h => rw [h, Nat.add_zero]
  next =>
    rw [(same_beginClock _).part .clk (by decide), elapse_clk, (same_patternCounts _ _).part .clk (by decide), pauseCounts_clk,
      (same_endClock _).part .clk (by decide), stagesNow_clk, (same_unstarve _).part .clk (by decide)]

/-- Settles O2: an empty queue makes a step the idle clock, which is `passTime 1`, settled, where the device is not held. -/
theorem anEmptyQueueLetsAClockPass : Obligations.AnEmptyQueueLetsAClockPass := by
  unfold Obligations.AnEmptyQueueLetsAClockPass
  intro s empty
  have run : step s = .next (idleClock s) := by
    unfold step
    rw [empty]
  refine ⟨_, run, ?_⟩
  unfold idleClock
  cases h : held s
  · refine ⟨empty, nofun, fun _ => ⟨settledFrom_after _ s, ?_, settled_after _ s⟩⟩
    exact (after_clk _ s).trans (passTime_clk 1 s)
  · exact ⟨empty, fun _ => rfl, nofun⟩

/-! ### The state after reset -/

theorem rget_reset_of_ne {r : Nat} (h : r ≠ A.GLB_RST_CAUSE) : rget State.reset r = (regReset r).toNat :=
  congrArg BitVec.toNat (if_neg (Ne.symm h))

/-- Settles O3: `State.reset` lists GLB_RST_CAUSE only, and its parts are the first ones. -/
theorem stateAfterReset : Obligations.StateAfterReset := by
  unfold Obligations.StateAfterReset
  refine ⟨rfl, by decide +kernel, rfl, rfl, by decide +kernel, fun r h => rget_reset_of_ne h, rfl, rfl, rfl, rfl, rfl, rfl, rfl, rfl, fun g i => rfl, ?_,
    ?_, rfl, rfl⟩
  · decide +kernel
  · decide +kernel

/-- Settles O4, from the state after reset itself: no vector is asked for and no memory is listed. -/
theorem resetMeetsTheInvariants : Obligations.ResetMeetsTheInvariants := by
  unfold Obligations.ResetMeetsTheInvariants
  exact ⟨⟨by decide +kernel, by decide +kernel, by decide +kernel⟩, by decide, by decide⟩

end Machine
end Sys2Proof
end

section
/-! PROOF. The frame of every command, and host memory. -/
namespace Sys2Proof
namespace Machine

/-- What a command changes lies in the parts that `touches` names for it, and host memory keeps its form: each meaning's own
frame (Laws/Meanings.lean) lies within those parts. -/
theorem same_exec {c : Instr} {s t : State} (h : exec c s = .next t) : Same (touches c) s t := by
  cases c with
  | coldReset _ => exact (touch_ColdReset _ _ h).mono rfl
  | resetNRise _ => exact (touch_ResetNRise _ _ h).mono rfl
  | supplyBrownout _ => exact (touch_SupplyBrownout _ _ h).mono rfl
  | supplyRecovered _ _ => exact (touch_SupplyRecovered _ _ _ h).mono rfl
  | refclkLost _ _ => exact (touch_RefclkLost _ _ _ h).mono rfl
  | refclkRestored _ _ => exact (touch_RefclkRestored _ _ _ h).mono rfl
  | coreRefclkLost _ => exact (touch_CoreRefclkLost _ _ h).mono rfl
  | corePllHoldoverExpiry _ => exact (touch_CorePllHoldoverExpiry _ _ h).mono rfl
  | bootFlashSelect _ => exact (touch_BootFlashSelect _ _ h).mono rfl
  | verificationComplete _ => exact (touch_VerificationComplete _ _ h).mono rfl
  | fullLoad => exact (touch_FullLoad _ h).mono rfl
  | shadowLoad => exact (touch_ShadowLoad _ h).mono rfl
  | frgAbort => exact (touch_FrgAbort _ h).mono rfl
  | armCommit => exact (touch_ArmCommit _ h).mono rfl
  | disarm => exact (touch_Disarm _ h).mono rfl
  | rollback => exact (touch_Rollback _ h).mono rfl
  | flushOld => exact (touch_FlushOld _ h).mono rfl
  | bootFlash => exact (touch_BootFlash _ h).mono rfl
  | frgLoadPortWrite _ => exact (touch_FrgLoadPortWrite _ _ h).mono rfl
  | temperCommit _ => exact (touch_TemperCommit _ _ h).mono rfl
  | temperRelease _ => exact (touch_TemperRelease _ _ h).mono rfl
  | temperDrainTimeout _ => exact (touch_TemperDrainTimeout _ _ h).mono rfl
  | drain => exact (touch_Drain _ h).mono rfl
  | resume => exact (touch_Resume _ h).mono rfl
  | endWaking => exact (touch_EndWaking _ h).mono rfl
  | enterSafe => exact (touch_EnterSafe _ h).mono rfl
  | clearSafe => exact (touch_ClearSafe _ h).mono rfl
  | enterDiag => exact (touch_EnterDiag _ h).mono rfl
  | endDiag => exact (touch_EndDiag _ h).mono rfl
  | wakeTimerExpiry _ => exact (touch_WakeTimerExpiry _ _ h).mono rfl
  | glbWakeMsWrite _ => exact (touch_GlbWakeMsWrite _ _ h).mono rfl
  | drainComplete _ => exact (touch_DrainComplete _ _ h).mono rfl
  | drainTimeout _ => exact (touch_DrainTimeout _ _ h).mono rfl
  | warmReset => exact (touch_WarmReset _ h).mono rfl
  | warmResetComplete _ => exact (touch_WarmResetComplete _ _ h).mono rfl
  | hearthReset _ => exact (touch_HearthReset _ _ h).mono rfl
  | hearthResetComplete _ _ => exact (touch_HearthResetComplete _ _ _ h).mono rfl
  | portReset _ => exact (touch_PortReset _ _ h).mono rfl
  | portResetRelease _ => exact (touch_PortResetRelease _ _ h).mono rfl
  | functionLevelReset => exact (touch_FunctionLevelReset _ h).mono rfl
  | hostLinkLoss _ => exact (touch_HostLinkLoss _ _ h).mono rfl
  | d3hotEntry => exact (touch_D3hotEntry _ h).mono rfl
  | frameArrival _ _ _ _ => exact (touch_FrameArrival _ _ _ _ _ h).mono rfl
  | frameReceiveEnd _ _ _ => exact (touch_FrameReceiveEnd _ _ _ _ h).mono rfl
  | macControlFrame _ _ => exact (touch_MacControlFrame _ _ _ h).mono rfl
  | pauseTimerExpiry _ _ => exact (touch_PauseTimerExpiry _ _ _ h).mono rfl
  | mmFragmentReceived _ _ _ => exact (touch_MmFragmentReceived _ _ _ _ h).mono rfl
  | verifyMpacketReceived _ _ => exact (touch_VerifyMpacketReceived _ _ _ h).mono rfl
  | respondMpacketReceived _ _ => exact (touch_RespondMpacketReceived _ _ _ h).mono rfl
  | verifyTimerExpiry _ _ => exact (touch_VerifyTimerExpiry _ _ _ h).mono rfl
  | linkConditionChange _ _ _ => exact (touch_LinkConditionChange _ _ _ _ h).mono rfl
  | linkHoldExpiry _ _ => exact (touch_LinkHoldExpiry _ _ _ h).mono rfl
  | autonegResolved _ _ _ => exact (touch_AutonegResolved _ _ _ _ h).mono rfl
  | linkTrainingComplete _ _ => exact (touch_LinkTrainingComplete _ _ _ h).mono rfl
  | decisionPassStart _ _ => exact (touch_DecisionPassStart _ _ _ h).mono rfl
  | vote _ _ _ => exact (touch_Vote _ _ _ _ h).mono rfl
  | queueSelection _ _ => exact (touch_QueueSelection _ _ _ h).mono rfl
  | transmitEnd _ _ => exact (touch_TransmitEnd _ _ _ h).mono rfl
  | ledgerLineBoundary _ _ => exact (touch_LedgerLineBoundary _ _ _ h).mono rfl
  | ledgerStart _ _ => exact (touch_LedgerStart _ _ _ h).mono rfl
  | streamGateLineStart _ _ => exact (touch_StreamGateLineStart _ _ _ h).mono rfl
  | ldgBaseSubWrite _ _ => exact (touch_LdgBaseSubWrite _ _ _ h).mono rfl
  | mainsEdge _ _ _ => exact (touch_MainsEdge _ _ _ _ h).mono rfl
  | mainsLossTimeout _ _ => exact (touch_MainsLossTimeout _ _ _ h).mono rfl
  | phsMsgPost _ => exact (touch_PhsMsgPost _ _ h).mono rfl
  | msgLossTimeout _ => exact (touch_MsgLossTimeout _ _ h).mono rfl
  | phaseWrap _ => exact (touch_PhaseWrap _ _ h).mono rfl
  | latchPhase => exact (touch_LatchPhase _ h).mono rfl
  | setCycle => exact (touch_SetCycle _ h).mono rfl
  | realign => exact (touch_Realign _ h).mono rfl
  | timedActionArm _ _ => exact (touch_TimedActionArm _ _ _ h).mono rfl
  | timedActionFire _ _ => exact (touch_TimedActionFire _ _ _ h).mono rfl
  | gpioPulseEnd _ _ => exact (touch_GpioPulseEnd _ _ _ h).mono rfl
  | timSmpPost _ => exact (touch_TimSmpPost _ _ h).mono rfl
  | trackerLossTimeout _ _ => exact (touch_TrackerLossTimeout _ _ _ h).mono rfl
  | latch => exact (touch_Latch _ h).mono rfl
  | stepRel _ => exact (touch_StepRel _ _ h).mono rfl
  | setAbs => exact (touch_SetAbs _ h).mono rfl
  | switchDomain _ => exact (touch_SwitchDomain _ _ h).mono rfl
  | timCtlWrite _ => exact (touch_TimCtlWrite _ _ h).mono rfl
  | clk10mMeasurement _ => exact (touch_Clk10mMeasurement _ _ h).mono rfl
  | ppsInEdge _ => exact (touch_PpsInEdge _ _ h).mono rfl
  | ppsOutSecond _ => exact (touch_PpsOutSecond _ _ h).mono rfl
  | ppsOutPulseEnd _ => exact (touch_PpsOutPulseEnd _ _ h).mono rfl
  | txtsRecordRead => exact (touch_TxtsRecordRead _ h).mono rfl
  | utcOffsetSet _ => exact (touch_UtcOffsetSet _ _ h).mono rfl
  | kixonFrameCheck _ => exact (touch_KixonFrameCheck _ _ h).mono rfl
  | hello _ => exact (touch_Hello _ _ h).mono rfl
  | helloAck _ => exact (touch_HelloAck _ _ h).mono rfl
  | helloTimer _ _ => exact (touch_HelloTimer _ _ _ h).mono rfl
  | delayReqTimer _ _ => exact (touch_DelayReqTimer _ _ _ h).mono rfl
  | delayReq _ => exact (touch_DelayReq _ _ h).mono rfl
  | delayResp _ => exact (touch_DelayResp _ _ h).mono rfl
  | timeInterval _ => exact (touch_TimeInterval _ _ h).mono rfl
  | timeFrame _ => exact (touch_TimeFrame _ _ h).mono rfl
  | upstreamCandidateExpiry _ _ => exact (touch_UpstreamCandidateExpiry _ _ _ h).mono rfl
  | trigger _ => exact (touch_Trigger _ _ h).mono rfl
  | keySwitchInstant _ => exact (touch_KeySwitchInstant _ _ h).mono rfl
  | heartbeat _ => exact (touch_Heartbeat _ _ h).mono rfl
  | hbLossTimeout _ => exact (touch_HbLossTimeout _ _ h).mono rfl
  | kixonHostMessage _ => exact (touch_KixonHostMessage _ _ h).mono rfl
  | joinQueueDelivery _ => exact (touch_JoinQueueDelivery _ _ h).mono rfl
  | takeover => exact (touch_Takeover _ h).mono rfl
  | stepDown => exact (touch_StepDown _ h).mono rfl
  | sendTrigger => exact (touch_SendTrigger _ h).mono rfl
  | triggerRepeat _ => exact (touch_TriggerRepeat _ _ h).mono rfl
  | keySwitch => exact (touch_KeySwitch _ h).mono rfl
  | rehello _ => exact (touch_Rehello _ _ h).mono rfl
  | fabSelfWrite _ => exact (touch_FabSelfWrite _ _ h).mono rfl
  | fabPortCfgWrite _ _ => exact (touch_FabPortCfgWrite _ _ _ h).mono rfl
  | tblRead _ _ _ _ => exact (touch_TblRead _ _ _ _ _ h).mono rfl
  | tblWrite _ _ _ _ => exact (touch_TblWrite _ _ _ _ _ h).mono rfl
  | tblLookup _ _ _ _ => exact (touch_TblLookup _ _ _ _ _ h).mono rfl
  | tblInsert _ _ _ _ => exact (touch_TblInsert _ _ _ _ _ h).mono rfl
  | tblUpdate _ _ _ _ => exact (touch_TblUpdate _ _ _ _ _ h).mono rfl
  | tblDelete _ _ _ _ => exact (touch_TblDelete _ _ _ _ _ h).mono rfl
  | hitScan _ _ _ _ => exact (touch_HitScan _ _ _ _ _ h).mono rfl
  | tblAge _ _ _ _ => exact (touch_TblAge _ _ _ _ _ h).mono rfl
  | tblFlush _ _ _ _ => exact (touch_TblFlush _ _ _ _ _ h).mono rfl
  | tblCmdComplete _ _ => exact (touch_TblCmdComplete _ _ _ h).mono rfl
  | moverInsertion _ _ _ => exact (touch_MoverInsertion _ _ _ _ h).mono rfl
  | tblNoteW3Read _ => exact (touch_TblNoteW3Read _ _ h).mono rfl
  | hthExcCapRead _ => exact (touch_HthExcCapRead _ _ h).mono rfl
  | fragmentEntryExpiry _ _ _ _ => exact (touch_FragmentEntryExpiry _ _ _ _ _ h).mono rfl
  | tmplRead _ => exact (touch_TmplRead _ _ h).mono rfl
  | tmplWrite _ => exact (touch_TmplWrite _ _ h).mono rfl
  | tmplCmdComplete _ => exact (touch_TmplCmdComplete _ _ h).mono rfl
  | meterBackgroundRefresh _ _ _ => exact (touch_MeterBackgroundRefresh _ _ _ _ h).mono rfl
  | shaperRateWrite _ _ _ => exact (touch_ShaperRateWrite _ _ _ _ h).mono rfl
  | tmRegionWrite _ _ => exact (touch_TmRegionWrite _ _ _ h).mono rfl
  | queueSample _ => exact (touch_QueueSample _ _ h).mono rfl
  | porAlloc _ _ => exact (touch_PorAlloc _ _ _ h).mono rfl
  | porFree _ => exact (touch_PorFree _ _ h).mono rfl
  | porShare _ => exact (touch_PorShare _ _ h).mono rfl
  | porQuery => exact (touch_PorQuery _ h).mono rfl
  | porCmdComplete _ => exact (touch_PorCmdComplete _ _ h).mono rfl
  | poolEnable _ _ => exact (touch_PoolEnable _ _ _ h).mono rfl
  | poolDisable _ => exact (touch_PoolDisable _ _ h).mono rfl
  | cacheRefill _ _ => exact (touch_CacheRefill _ _ _ h).mono rfl
  | cacheSpill _ _ => exact (touch_CacheSpill _ _ _ h).mono rfl
  | returnQueueRecord _ => exact (touch_ReturnQueueRecord _ _ h).mono rfl
  | porterDmaErr _ _ => exact (touch_PorterDmaErr _ _ _ h).mono rfl
  | channelEnable _ => exact (touch_ChannelEnable _ _ h).mono rfl
  | descriptorsPosted _ _ => exact (touch_DescriptorsPosted _ _ _ h).mono rfl
  | descriptorFetch _ _ _ => exact (touch_DescriptorFetch _ _ _ _ h).mono rfl
  | dryStop _ => exact (touch_DryStop _ _ h).mono rfl
  | channelStopped _ _ => exact (touch_ChannelStopped _ _ _ h).mono rfl
  | resumeChannel _ => exact (touch_ResumeChannel _ _ h).mono rfl
  | channelDisable _ => exact (touch_ChannelDisable _ _ h).mono rfl
  | rxCopyHandover _ _ => exact (touch_RxCopyHandover _ _ _ h).mono rfl
  | rxRoomAllocation _ _ => exact (touch_RxRoomAllocation _ _ _ h).mono rfl
  | rxCopyComplete _ _ => exact (touch_RxCopyComplete _ _ _ h).mono rfl
  | rxIntModTimer _ _ => exact (touch_RxIntModTimer _ _ _ h).mono rfl
  | txFrameRead _ _ => exact (touch_TxFrameRead _ _ _ h).mono rfl
  | txDescriptorComplete _ _ => exact (touch_TxDescriptorComplete _ _ _ h).mono rfl
  | dmaReadError _ _ => exact (touch_DmaReadError _ _ _ h).mono rfl
  | errandStart _ => exact (touch_ErrandStart _ _ h).mono rfl
  | errandMove _ _ => exact (touch_ErrandMove _ _ _ h).mono rfl
  | errandLoop _ _ => exact (touch_ErrandLoop _ _ _ h).mono rfl
  | errandWait _ _ => exact (touch_ErrandWait _ _ _ h).mono rfl
  | waitComplete _ _ => exact (touch_WaitComplete _ _ _ h).mono rfl
  | waitTimeout _ _ => exact (touch_WaitTimeout _ _ _ h).mono rfl
  | errandSignal _ _ => exact (touch_ErrandSignal _ _ _ h).mono rfl
  | errandFence _ _ => exact (touch_ErrandFence _ _ _ h).mono rfl
  | errandEnd _ _ => exact (touch_ErrandEnd _ _ _ h).mono rfl
  | snapshot _ => exact (touch_Snapshot _ _ h).mono rfl
  | talClear _ => exact (touch_TalClear _ _ h).mono rfl
  | harvestStart _ => exact (touch_HarvestStart _ _ h).mono rfl
  | harvestAbort => exact (touch_HarvestAbort _ h).mono rfl
  | harvestComplete _ => exact (touch_HarvestComplete _ _ h).mono rfl
  | talRdSelWrite _ => exact (touch_TalRdSelWrite _ _ h).mono rfl
  | eventRaise _ _ _ _ _ => exact (touch_EventRaise _ _ _ _ _ _ h).mono rfl
  | summaryTimer _ _ => exact (touch_SummaryTimer _ _ _ h).mono rfl
  | logPlacement _ => exact (touch_LogPlacement _ _ h).mono rfl
  | gbkRdSeqWrite _ => exact (touch_GbkRdSeqWrite _ _ h).mono rfl
  | gbkClear => exact (touch_GbkClear _ h).mono rfl
  | gbkClearAll => exact (touch_GbkClearAll _ h).mono rfl
  | spillBatch _ => exact (touch_SpillBatch _ _ h).mono rfl
  | ping _ _ => exact (touch_Ping _ _ _ h).mono rfl
  | getVersion _ _ => exact (touch_GetVersion _ _ _ h).mono rfl
  | avsStatus _ _ => exact (touch_AvsStatus _ _ _ h).mono rfl
  | otpKeyHash _ _ => exact (touch_OtpKeyHash _ _ _ h).mono rfl
  | otpRevoke _ _ => exact (touch_OtpRevoke _ _ _ h).mono rfl
  | otpImageKey _ _ => exact (touch_OtpImageKey _ _ _ h).mono rfl
  | otpRaiseSecver _ _ => exact (touch_OtpRaiseSecver _ _ _ h).mono rfl
  | mbxCompletion _ _ => exact (touch_MbxCompletion _ _ _ h).mono rfl
  | mbxTimeout _ => exact (touch_MbxTimeout _ _ h).mono rfl
  | ostlerBeat _ => exact (touch_OstlerBeat _ _ h).mono rfl
  | ostlerSilent _ => exact (touch_OstlerSilent _ _ h).mono rfl
  | ostlerRestart => exact (touch_OstlerRestart _ h).mono rfl
  | glbVecEoiWrite _ => exact (touch_GlbVecEoiWrite _ _ h).mono rfl
  | msixUnmask _ => exact (touch_MsixUnmask _ _ h).mono rfl
  | rcRegisterRead _ _ => exact (touch_RcRegisterRead _ _ _ h).mono rfl
  | unassignedRead _ _ => exact (touch_UnassignedRead _ _ _ h).mono rfl
  | unalignedRead _ _ => exact (touch_UnalignedRead _ _ _ h).mono rfl
  | bar2Write _ => exact (touch_Bar2Write _ _ h).mono rfl
  | poisoned _ _ => exact (touch_Poisoned _ _ _ h).mono rfl
  | registerWrite _ _ _ => exact (touch_RegisterWrite _ _ _ _ h).mono rfl
  | fenceCopy _ _ => exact (touch_FenceCopy _ _ _ h).mono rfl
  | unfence _ => exact (touch_Unfence _ _ h).mono rfl
  | copyBist _ _ _ => exact (touch_CopyBist _ _ _ _ h).mono rfl
  | scrubAccess _ _ _ => exact (touch_ScrubAccess _ _ _ _ h).mono rfl
  | tcamScrub _ _ _ _ _ _ => exact (touch_TcamScrub _ _ _ _ _ _ _ h).mono rfl
  | spare _ => exact (touch_Spare _ _ h).mono rfl
  | bankSpared _ _ => exact (touch_BankSpared _ _ _ h).mono rfl
  | bankWithdrawn _ _ => exact (touch_BankWithdrawn _ _ _ h).mono rfl
  | monitorPoll _ _ => exact (touch_MonitorPoll _ _ _ h).mono rfl
  | monitorCrit _ _ _ _ => exact (touch_MonitorCrit _ _ _ _ _ h).mono rfl
  | avsStep _ => exact (touch_AvsStep _ _ h).mono rfl
  | bistRun _ => exact (touch_BistRun _ _ h).mono rfl
  | bistComplete _ _ => exact (touch_BistComplete _ _ _ h).mono rfl
  | qspiCommand _ => exact (touch_QspiCommand _ _ h).mono rfl
  | qspiDone _ _ => exact (touch_QspiDone _ _ _ h).mono rfl
  | i2cStart _ _ => exact (touch_I2cStart _ _ _ h).mono rfl
  | i2cDone _ _ _ _ => exact (touch_I2cDone _ _ _ _ _ h).mono rfl
  | i2cDataWrite _ _ => exact (touch_I2cDataWrite _ _ _ h).mono rfl
  | i2cDataRead _ => exact (touch_I2cDataRead _ _ h).mono rfl
  | c22Write _ _ => exact (touch_C22Write _ _ _ h).mono rfl
  | c22Read _ _ => exact (touch_C22Read _ _ _ h).mono rfl
  | c45Write _ _ _ => exact (touch_C45Write _ _ _ _ h).mono rfl
  | c45Read _ _ _ => exact (touch_C45Read _ _ _ _ h).mono rfl
  | mdioDone _ _ _ => exact (touch_MdioDone _ _ _ _ h).mono rfl
  | gpioEdge _ _ => exact (touch_GpioEdge _ _ _ h).mono rfl
  | ledStream _ => exact (touch_LedStream _ _ h).mono rfl
  | jtagBypass => exact (touch_JtagBypass _ h).mono rfl
  | jtagIdcode => exact (touch_JtagIdcode _ h).mono rfl
  | jtagSamplePreload _ => exact (touch_JtagSamplePreload _ _ h).mono rfl
  | jtagExtest => exact (touch_JtagExtest _ h).mono rfl
  | jtagExtestPulse => exact (touch_JtagExtestPulse _ h).mono rfl
  | jtagExtestTrain => exact (touch_JtagExtestTrain _ h).mono rfl
  | jtagHighz => exact (touch_JtagHighz _ h).mono rfl
  | jtagClamp => exact (touch_JtagClamp _ h).mono rfl
  | slotLastByteArrived _ => exact (touch_SlotLastByteArrived _ _ h).mono rfl
  | quadrantTrainingStart _ _ => exact (touch_QuadrantTrainingStart _ _ _ h).mono rfl
  | hostLinkUp _ _ _ _ => exact (touch_HostLinkUp _ _ _ _ _ h).mono rfl
  | coreRefclkRestored _ => exact (touch_CoreRefclkRestored _ _ h).mono rfl

/-- Settles O11: the frame of every command (`same_exec`). -/
theorem commandsTouchOnlyTheirParts : Obligations.CommandsTouchOnlyTheirParts := fun _ _ _ h => (same_exec h).part

/-- Settles O9: no command and no clock takes the canonical form from host memory. -/
theorem everyStepKeepsMemoryCanonical : Obligations.EveryStepKeepsMemoryCanonical := by
  unfold Obligations.EveryStepKeepsMemoryCanonical
  intro s t wf h
  rcases step_cases h with ⟨c, q, -, run⟩ | ⟨-, rfl⟩
  · exact (same_exec run).wf wf
  · exact (same_idleClock s).wf wf

end Machine
end Sys2Proof
end

section
/-! PROOF. The base state stays one of the eight: every operation of the model that moves it puts one of them there, and every
other leaves it, by its frame. -/
namespace Sys2Proof
namespace Machine

/-- The base state is one of the eight (R124). -/
def LegalBase (s : State) : Prop :=
  s.glb.base ∈ [bDormant, bLoading, bVerifying, bWaking, bRun, bDraining, bQuiesced, bDiagnostic]

theorem LegalBase.congr {s t : State} (h : LegalBase s) (e : t.glb.base = s.glb.base) : LegalBase t := by
  unfold LegalBase
  rwa [e]

/-- What does not touch the base state keeps it legal. -/
theorem Same.legal {T : List Part} {s t : State} (k : Same T s t) (n : T.contains Part.base = false) (h : LegalBase s) :
    LegalBase t :=
  .congr h (k.part .base (by simpa using n))

theorem LegalBase.ite {s t : State} {c : Prop} [Decidable c] (h : LegalBase s) (k : LegalBase t) :
    LegalBase (if c then s else t) := by
  split <;> assumption

theorem LegalBase.foldl {α : Type} {s : State} {f : State → α → State} {l : List α}
    (k : ∀ y a, LegalBase y → LegalBase (f y a)) (h : LegalBase s) : LegalBase (l.foldl f s) := by
  induction l generalizing s with
  | nil => exact h
  | cons a l ih => exact ih (k s a h)

/-! ### Operations that put a legal base state in place -/

theorem legalBase_setBase {b : Nat}
    (hb : b ∈ [bDormant, bLoading, bVerifying, bWaking, bRun, bDraining, bQuiesced, bDiagnostic]) (s : State) :
    LegalBase (setBase b s) :=
  (same_modeChange _).legal rfl hb

theorem legalBase_endWake (s : State) : LegalBase (endWake s) :=
  (same_setInt_top _ _ _ (Or.inr (by decide))).legal rfl (legalBase_setBase (by decide) s)

theorem legalBase_quiesce (s : State) : LegalBase (quiesce s) :=
  (same_setInt_top _ _ _ (Or.inr (by decide))).legal rfl (legalBase_setBase (by decide) s)

theorem legalBase_drainFlush (s : State) : LegalBase (drainFlush s) := legalBase_quiesce _

theorem legalBase_discardForging {b : Nat}
    (hb : b ∈ [bDormant, bLoading, bVerifying, bWaking, bRun, bDraining, bQuiesced, bDiagnostic]) (s : State) :
    LegalBase (discardForging b s) :=
  (same_judgeAll _).legal rfl (legalBase_setBase hb _)

theorem legalBase_enterWaking (s : State) : LegalBase (enterWaking s) := by
  unfold enterWaking
  extract_lets u g v
  have hv : LegalBase v := show bWaking ∈ _ by decide
  exact (same_judgeAll _).legal rfl ((same_fabricWake _).legal rfl hv)

theorem legalBase_leaveDiag (s : State) : LegalBase (leaveDiag s) :=
  .ite ((same_judgeAll _).legal rfl (legalBase_setBase (by decide) _)) (legalBase_discardForging (by decide) _)

theorem legalBase_firstByte (s : State) : LegalBase (firstByte s) :=
  (same_dropTables _).legal rfl (legalBase_discardForging (by decide) s)

theorem legalBase_startSlot (k : Nat) (other : Option Nat) (s : State) : LegalBase (startSlot k other s) := legalBase_firstByte _

theorem legalBase_activate (f : Forging) (s : State) : LegalBase (activate f s) := legalBase_enterWaking _

theorem legalBase_coldReset (s : State) : LegalBase (coldReset s) :=
  show bDormant ∈ _ by decide

/-! ### Operations that take another -/

theorem legalBase_slotFailed {next : Nat → State → State} {l : Load} {r : Nat} {s : State}
    (k : ∀ n y, LegalBase y → LegalBase (next n y)) (h : LegalBase s) : LegalBase (slotFailed l r next s) := by
  unfold slotFailed
  split
  · exact h
  · extract_lets u
    have hu : LegalBase u := (same_raise _ _ _ _ _).legal rfl ((same_slotResult _ _ _).legal rfl h)
    split
    · exact k _ _ hu
    · exact (same_raise _ _ _ _ _).legal rfl hu

/-- A command of GLB_CTL, taken or refused. -/
theorem legalBase_glbCmd {f : State → Option State} {s : State}
    (k : ∀ y t, LegalBase y → f y = some t → LegalBase t) (h : LegalBase (autoBase s)) : LegalBase (glbCmd f s) := by
  unfold glbCmd
  extract_lets u
  split
  next t e => exact (same_freeCells _).legal rfl ((same_glbResult _ _).legal rfl (k u t h e))
  next => exact (same_glbResult _ _).legal rfl h

/-! ### Operations that keep a legal base state -/

theorem legalBase_endLoad (x0 : Nat) {s0 : State} (h0 : LegalBase s0) : LegalBase (endLoad x0 s0) := by
  unfold endLoad
  split
  · exact h0
  · extract_lets v1 s2 v4
    have h3 : LegalBase s2 := (same_setFrgState _ _).legal rfl ((same_frgResult _ _).legal rfl ((same_rput_lo _ _ _ (by decide)).legal rfl (.congr h0 rfl)))
    clear_value s2
    exact .ite ((same_clearBank _ _).legal rfl (.congr h3 rfl)) (.ite (legalBase_setBase (by decide) _) h3)

theorem legalBase_failWith {next : Nat → State → State} {r : Nat} {s : State} (k : ∀ n y, LegalBase y → LegalBase (next n y))
    (h : LegalBase s) : LegalBase (failWith next r s) := by
  unfold failWith
  split
  · exact h
  · exact legalBase_slotFailed k ((same_failRecords _ _).legal rfl (legalBase_endLoad _ h))

theorem legalBase_abortOp {s0 : State} (h0 : LegalBase s0) : LegalBase (abortOp s0) := by
  unfold abortOp
  exact .ite (legalBase_endLoad _ h0) (.ite ((same_frgResult _ _).legal rfl ((same_discardShadow _).legal rfl h0)) ((same_frgResult _ _).legal rfl h0))

theorem legalBase_autoBase {s0 : State} (h0 : LegalBase s0) : LegalBase (autoBase s0) := by
  unfold autoBase
  exact .ite (legalBase_endWake _) (.ite (.ite (legalBase_quiesce _) (.ite (legalBase_drainFlush _) h0)) h0)

theorem legalBase_clearSafeOp {s0 : State} (h0 : LegalBase s0) : LegalBase (clearSafeOp s0) := by
  unfold clearSafeOp
  extract_lets s1 v3 s4
  have h2 : LegalBase s1 := legalBase_autoBase h0
  clear_value s1
  have h5 : LegalBase s4 := (same_glbResult _ _).legal rfl ((same_rput_lo _ _ _ (by decide)).legal rfl h2)
  clear_value s4
  exact .ite ((same_glbResult _ _).legal rfl h2) (.ite ((same_raise _ _ _ _ _).legal rfl h5) h5)

theorem legalBase_warmLoader {s0 : State} (h0 : LegalBase s0) : LegalBase (warmLoader s0) := by
  unfold warmLoader
  extract_lets s1
  have h2 : LegalBase s1 := (same_resetRollback _).legal rfl h0
  clear_value s1
  exact .ite (legalBase_endLoad _ h2) h2

theorem legalBase_functionReset {s0 : State} (h0 : LegalBase s0) : LegalBase (functionReset s0) := by
  unfold functionReset
  extract_lets s1 s3 v5 s6 s8 s10 s13 v15 s16
  have h2 : LegalBase s1 := (same_clearMailbox _).legal rfl ((same_harvestReset _).legal rfl h0)
  clear_value s1
  have h4 : LegalBase s3 := (same_porterReset _).legal rfl ((same_draymanReset _).legal rfl h2)
  clear_value s3
  have h7 : LegalBase s6 := (same_fput_top _ _ _ (Or.inl (by decide))).legal rfl (.congr h4 rfl)
  clear_value s6
  have h9 : LegalBase s8 := .ite (legalBase_abortOp h7) h7
  clear_value s8
  have h11 : LegalBase s10 := by
    unfold s10
    refine LegalBase.foldl (fun _ _ h12 => ?_) ?_
    · exact (same_rput _ _ _).legal rfl h12
    exact h9
  clear_value s10
  have h14 : LegalBase s13 := (same_rput_hi _ _ _ (Or.inl (by decide))).legal rfl ((same_resetRegs _ _).legal rfl h11)
  clear_value s13
  have h17 : LegalBase s16 := .congr h14 rfl
  clear_value s16
  exact (same_freeCells _).legal rfl ((same_raise _ _ _ _ _).legal rfl ((same_forBits_lo _ _ _ (by decide)).legal rfl h17))

theorem legalBase_drainOp {s0 : State} (h0 : LegalBase s0) : LegalBase (drainOp s0) := by
  unfold drainOp
  extract_lets s1 v3
  have h2 : LegalBase s1 := legalBase_autoBase h0
  clear_value s1
  have draining : LegalBase { s1 with glb := { s1.glb with base := bDraining, drainClk := s1.clk } } := show bDraining ∈ _ by decide
  exact .ite ((same_glbResult _ _).legal rfl h2) (.ite ((same_glbResult _ _).legal rfl h2) ((same_glbResult _ _).legal rfl ((same_fput_lo _ _ _ (by decide)).legal rfl draining)))

theorem legalBase_hostLoss (x0 : HostLoss) {s0 : State} (h0 : LegalBase s0) : LegalBase (hostLoss x0 s0) := by
  unfold hostLoss
  extract_lets s1 v3 s4 v6
  have h2 : LegalBase s1 := legalBase_functionReset ((same_raise _ _ _ _ _).legal rfl h0)
  clear_value s1
  have h5 : LegalBase s4 := .congr h2 rfl
  clear_value s4
  exact .ite h0 (.ite h2 (.ite (.congr h5 rfl) h5))

theorem legalBase_dropLinks {s0 : State} (h0 : LegalBase s0) : LegalBase (dropLinks s0) := by
  unfold dropLinks
  extract_lets s1
  have h2 : LegalBase s1 := by
    unfold s1
    refine LegalBase.foldl (fun _ _ h3 => ?_) ?_
    · exact (same_linkChange _ _ _).legal rfl h3
    exact h0
  clear_value s1
  exact .ite h0 ((same_freeCells _).legal rfl (.ite (legalBase_hostLoss _ h2) h2))

theorem legalBase_refclkLost (x0 : Nat) {s0 : State} (h0 : LegalBase s0) : LegalBase (refclkLost x0 s0) := by
  unfold refclkLost
  extract_lets s1 s3
  have h2 : LegalBase s1 := (same_setClkOk _ _ _).legal rfl h0
  clear_value s1
  have h4 : LegalBase s3 := (same_raise _ _ _ _ _).legal rfl ((same_setInt_top _ _ _ (Or.inl (by decide))).legal rfl ((same_setClkOk _ _ _).legal rfl h0))
  clear_value s3
  refine .ite ?_ ?_
  · exact h0
  · refine .ite ?_ ?_
    · exact .ite (legalBase_hostLoss _ h2) h2
    · refine LegalBase.foldl (fun _ _ h5 => ?_) ?_
      · extract_lets v6
        exact (same_linkChange _ _ _).legal rfl h5
      exact h4

theorem legalBase_jtagOp (x0 : Nat) (x1 : Option Nat) (x2 : Bool) {s0 : State} (h0 : LegalBase s0) : LegalBase (jtagOp x0 x1 x2 s0) := by
  unfold jtagOp
  extract_lets v1 v2 v3 s4
  have h5 : LegalBase s4 := .congr h0 rfl
  clear_value s4
  exact .ite (legalBase_dropLinks h5) h5

theorem legalBase_warmOp {s0 : State} (h0 : LegalBase s0) : LegalBase (warmOp s0) := by
  unfold warmOp
  extract_lets s1 s3 s5 v7 s8 s10 v12
  have h2 : LegalBase s1 := (same_placeAll _ _).legal rfl ((same_finishTables _).legal rfl ((same_harvestReset _).legal rfl h0))
  clear_value s1
  have h4 : LegalBase s3 := .ite (legalBase_leaveDiag _) h2
  clear_value s3
  have h6 : LegalBase s5 := legalBase_warmLoader h4
  clear_value s5
  have h9 : LegalBase s8 := (same_porterReset _).legal rfl ((same_draymanReset _).legal rfl ((same_fabricReset _).legal rfl ((same_purge _).legal rfl h6)))
  clear_value s8
  have h11 : LegalBase s10 := (same_warmRegs _).legal rfl ((same_clearMailbox _).legal rfl h9)
  clear_value s10
  exact .ite h0 ((same_raise _ _ _ _ _).legal rfl (.congr h11 rfl))

theorem legalBase_setSafe (x0 : Nat) {s0 : State} (h0 : LegalBase s0) : LegalBase (setSafe x0 s0) := by
  unfold setSafe
  extract_lets v1 s2 s4 s6
  have h3 : LegalBase s2 := (same_forBits_lo _ _ _ (by decide)).legal rfl h0
  clear_value s2
  have h5 : LegalBase s4 := (same_raise _ _ _ _ _).legal rfl ((same_setInt_top _ _ _ (Or.inr (by decide))).legal rfl h3)
  clear_value s4
  have h7 : LegalBase s6 := .ite (legalBase_leaveDiag _) h5
  clear_value s6
  exact .ite h0 (.ite h7 ((same_safeDrop _).legal rfl h7))

theorem legalBase_startLast (x0 : Nat) (s0 : State) : LegalBase (startLast x0 s0) := by
  unfold startLast
  extract_lets s1
  have h2 : LegalBase s1 := legalBase_startSlot _ _ _
  clear_value s1
  refine .ite ?_ ?_
  · exact h2
  · refine legalBase_failWith (fun _ _ h3 => ?_) ?_
    · exact h3
    exact h2

theorem legalBase_monMove (x0 : Bool) (x1 : Nat) (x2 : Nat) (x3 : Int) {s0 : State} (h0 : LegalBase s0) : LegalBase (monMove x0 x1 x2 x3 s0) := by
  unfold monMove
  extract_lets v1 v2 s3
  have h4 : LegalBase s3 := (same_showMon _).legal rfl ((same_putMon _ _ _ _).legal rfl h0)
  clear_value s3
  exact .ite h0 (.ite ((same_raise _ _ _ _ _).legal rfl h4) (.ite ((same_raise _ _ _ _ _).legal rfl ((same_bump _ _ _).legal rfl ((same_setInt_top _ _ _ (Or.inl (by decide))).legal rfl h4))) (legalBase_setSafe _ ((same_raise _ _ _ _ _).legal rfl ((same_bump _ _ _).legal rfl ((same_setInt_top _ _ _ (Or.inl (by decide))).legal rfl h4))))))

theorem legalBase_monitorCrit (x0 : Bool) (x1 : Nat) (x2 : Int) {s0 : State} (h0 : LegalBase s0) : LegalBase (monitorCrit x0 x1 x2 s0) := by
  unfold monitorCrit
  extract_lets v1 s2 v4
  have h3 : LegalBase s2 := (same_noteCrit _ _ _ _).legal rfl h0
  clear_value s2
  exact .ite (.ite h0 (legalBase_monMove _ _ _ _ ((same_noteCrit _ _ _ _).legal rfl h0))) (.ite h0 (.ite ((same_markAll _ _).legal rfl h3) (legalBase_monMove _ _ _ _ h3)))

theorem legalBase_pollVolts (x0 : List (Nat × Nat)) {s0 : State} (h0 : LegalBase s0) : LegalBase (pollVolts x0 s0) := by
  unfold pollVolts
  refine LegalBase.foldl (fun _ _ h1 => ?_) ?_
  · exact legalBase_monMove _ _ _ _ ((same_noteVolt _ _ _).legal rfl h1)
  exact h0

theorem legalBase_failLoad (x0 : Nat) {s0 : State} (h0 : LegalBase s0) : LegalBase (failLoad x0 s0) := by
  unfold failLoad
  refine legalBase_failWith (fun _ _ _ => ?_) ?_
  · exact legalBase_startLast _ _
  exact h0

theorem legalBase_ostlerRestart {s0 : State} (h0 : LegalBase s0) : LegalBase (ostlerRestart s0) := by
  unfold ostlerRestart
  extract_lets s1 s3 v6 s7
  have h2 : LegalBase s1 := (same_mbxTimeout _).legal rfl h0
  clear_value s1
  have h4 : LegalBase s3 := by
    unfold s3
    refine LegalBase.foldl (fun _ _ h5 => ?_) ?_
    · exact (same_otpBroken _ _).legal rfl h5
    exact h2
  clear_value s3
  have h8 : LegalBase s7 := (same_raise _ _ _ _ _).legal rfl (.congr h4 rfl)
  clear_value s7
  exact .ite ((same_freeCells _).legal rfl (legalBase_failLoad _ h8)) h8

theorem legalBase_writeHif (x0 x1 : Nat) {s0 : State} (h0 : LegalBase s0) : LegalBase (writeHif x0 x1 s0) := by
  unfold writeHif
  exact .ite (.ite (legalBase_ostlerRestart h0) h0) (.ite ((same_mbxDoorbell _ _ _ _).legal rfl h0) (.ite ((same_accErr _ _ _ _).legal rfl ((same_fput_hi _ _ _ (Or.inl (by decide))).legal rfl h0)) ((same_writeRw _ _ _).legal rfl h0)))

theorem legalBase_pollTemps (x0 : List (Nat × Int)) {s0 : State} (h0 : LegalBase s0) : LegalBase (pollTemps x0 s0) := by
  unfold pollTemps
  extract_lets v1 s2
  have h3 : LegalBase s2 := (same_markAll _ _).legal rfl h0
  clear_value s2
  refine LegalBase.foldl (fun _ _ h4 => ?_) ?_
  · extract_lets s5
    have h6 : LegalBase s5 := (same_noteTemp _ _ _).legal rfl h4
    clear_value s5
    exact .ite h6 (legalBase_monMove _ _ _ _ h6)
  exact h3

theorem legalBase_passLoad (x0 : Load) (x1 : Forging) {s0 : State} (h0 : LegalBase s0) : LegalBase (passLoad x0 x1 s0) := by
  unfold passLoad
  extract_lets v1 s2 s4
  have h3 : LegalBase s2 := (same_setInt_lo _ _ _ (by decide)).legal rfl ((same_frgResult _ _).legal rfl (.congr h0 rfl))
  clear_value s2
  refine .ite ?_ ?_
  · exact (same_shadowReady _ _).legal rfl h3
  · exact legalBase_activate _ _

theorem legalBase_verifyEnd {s0 : State} (h0 : LegalBase s0) : LegalBase (verifyEnd s0) := by
  unfold verifyEnd
  split
  · exact h0
  · refine .ite ?_ ?_
    · exact h0
    · refine .ite ?_ ?_
      · exact legalBase_failLoad _ h0
      · split
        · exact legalBase_failLoad _ h0
        · exact legalBase_passLoad _ _ h0

theorem legalBase_judgeMonitors {s0 : State} (h0 : LegalBase s0) : LegalBase (judgeMonitors s0) := by
  unfold judgeMonitors
  extract_lets v1
  exact legalBase_pollVolts _ (legalBase_pollTemps _ (.congr h0 rfl))

theorem legalBase_lastByte (x0 : Option Nat) {s0 : State} (h0 : LegalBase s0) : LegalBase (lastByte x0 s0) := by
  unfold lastByte
  split
  · exact h0
  · extract_lets s1 s3
    have h2 : LegalBase s1 := (same_setFrgState _ _).legal rfl ((same_setInt_lo _ _ _ (by decide)).legal rfl h0)
    clear_value s1
    have h4 : LegalBase s3 := .ite h2 (legalBase_setBase (by decide) _)
    clear_value s3
    split
    · exact legalBase_failLoad _ h4
    · exact .ite (legalBase_failLoad _ h4) (.ite (legalBase_failLoad _ h4) h4)

theorem legalBase_endWakingOp {s : State} (h : LegalBase s) : LegalBase (endWakingOp s) :=
  legalBase_glbCmd (fun y _ _ e => by
    split at e
    · exact Option.some.inj e ▸ legalBase_endWake y
    · cases e) (legalBase_autoBase h)

theorem legalBase_endDiagOp {s : State} (h : LegalBase s) : LegalBase (endDiagOp s) :=
  legalBase_glbCmd (fun y _ _ e => by
    split at e
    · exact Option.some.inj e ▸ legalBase_leaveDiag y
    · cases e) (legalBase_autoBase h)

theorem legalBase_enterDiagOp {s : State} (h : LegalBase s) : LegalBase (enterDiagOp s) :=
  legalBase_glbCmd (fun y _ _ e => by
    split at e
    · exact Option.some.inj e ▸ (same_judgeAll _).legal rfl (legalBase_setBase (by decide) _)
    · cases e) (legalBase_autoBase h)

theorem legalBase_resumeOp {s : State} (h : LegalBase s) : LegalBase (resumeOp s) :=
  legalBase_glbCmd (fun y _ _ e => by
    split at e
    · exact Option.some.inj e ▸ legalBase_setBase (by decide) y
    · split at e
      · exact Option.some.inj e ▸ legalBase_enterWaking y
      · cases e) (legalBase_autoBase h)

theorem legalBase_enterSafeOp {s : State} (h : LegalBase s) : LegalBase (enterSafeOp s) :=
  legalBase_glbCmd (fun y _ hy e => by
    split at e
    · exact Option.some.inj e ▸ legalBase_setSafe _ hy
    · cases e) (legalBase_autoBase h)

theorem legalBase_writeGlbCtl (cmd : Nat) {s : State} (h : LegalBase s) : LegalBase (writeGlbCtl cmd s) := by
  unfold writeGlbCtl
  repeat' split
  · exact h
  · exact legalBase_drainOp h
  · exact legalBase_resumeOp h
  · exact legalBase_endWakingOp h
  · exact legalBase_enterSafeOp h
  · exact legalBase_clearSafeOp h
  · exact legalBase_enterDiagOp h
  · exact legalBase_endDiagOp h
  · exact legalBase_glbCmd (fun _ _ _ e => nomatch e) (legalBase_autoBase h)

theorem legalBase_writeGlb (x0 x1 : Nat) {s0 : State} (h0 : LegalBase s0) : LegalBase (writeGlb x0 x1 s0) := by
  unfold writeGlb
  exact .ite (legalBase_writeGlbCtl _ h0) (.ite (.ite (legalBase_warmOp h0) h0) (.ite ((same_hearthResets _ _).legal rfl h0) (.ite ((same_writePortRst _ _ _).legal rfl h0) (.ite ((same_admitRetune _ _ _ _).legal rfl h0) (.ite ((same_admitRetune _ _ _ _).legal rfl h0) (.ite ((same_vecEoi _ _).legal rfl h0) ((same_writeRw _ _ _).legal rfl h0)))))))

theorem legalBase_startBoot (x0 : Nat) (x1 : Option Nat) (s0 : State) : LegalBase (startBoot x0 x1 s0) := by
  unfold startBoot
  extract_lets s1
  have h2 : LegalBase s1 := legalBase_startSlot _ _ _
  clear_value s1
  exact .ite h2 (legalBase_failLoad _ h2)

theorem legalBase_monitorPoll (x0 : Readings) {s0 : State} (h0 : LegalBase s0) : LegalBase (monitorPoll x0 s0) := by
  unfold monitorPoll
  exact .ite h0 ((same_pollProcs _ _).legal rfl (legalBase_pollVolts _ (legalBase_pollTemps _ h0)))

theorem legalBase_acceptBytes (x0 : Load) (x1 : List Byte) {s0 : State} (h0 : LegalBase s0) : LegalBase (acceptBytes x0 x1 s0) := by
  unfold acceptBytes
  extract_lets v1 v2 s3 v5 s6 v8 s9
  have h4 : LegalBase s3 := .ite (legalBase_firstByte _) h0
  clear_value s3
  have h7 : LegalBase s6 := (same_rput_lo _ _ _ (by decide)).legal rfl (.congr h4 rfl)
  clear_value s6
  have h10 : LegalBase s9 := .ite ((same_placeArrived _ _ _).legal rfl h7) h7
  clear_value s9 v8
  refine .ite ?_ ?_
  · exact legalBase_lastByte _ h10
  · split
    · exact legalBase_failLoad _ h10
    · exact h10

theorem legalBase_warmDone {s0 : State} (h0 : LegalBase s0) : LegalBase (warmDone s0) := by
  unfold warmDone
  extract_lets s1 v3 s4 s6
  have h2 : LegalBase s1 := legalBase_judgeMonitors ((same_purge _).legal rfl h0)
  clear_value s1
  have h5 : LegalBase s4 := .congr h2 rfl
  clear_value s4
  have h7 : LegalBase s6 := by
    unfold s6
    refine .ite ?_ ?_
    · refine LegalBase.foldl (fun _ _ h8 => ?_) ?_
      · exact .ite ((same_fabLinkUp _ _).legal rfl h8) h8
      exact legalBase_enterWaking _
    · exact h5
  clear_value s6
  exact .ite h0 ((same_setInt_top _ _ _ (Or.inr (by decide))).legal rfl h7)

theorem legalBase_loadPortOp (x0 x1 : Nat) {s0 : State} (h0 : LegalBase s0) : LegalBase (loadPortOp x0 x1 s0) := by
  unfold loadPortOp
  extract_lets v1
  split
  · extract_lets v2
    refine .ite ?_ ?_
    · unfold v1
      exact (same_accErr _ _ _ _).legal rfl h0
    · refine .ite ?_ ?_
      · refine legalBase_failLoad _ ?_
        unfold v1
        exact (same_accErr _ _ _ _).legal rfl h0
      · exact legalBase_acceptBytes _ _ h0
  · unfold v1
    exact (same_accErr _ _ _ _).legal rfl h0

theorem legalBase_bootSelect {s0 : State} (h0 : LegalBase s0) : LegalBase (bootSelect s0) := by
  unfold bootSelect
  extract_lets s1
  have h2 : LegalBase s1 := (same_readHeaders _).legal rfl h0
  clear_value s1
  split
  · exact legalBase_startBoot _ _ _
  · have h4 := (same_frgResult ((slotSteps s1 1).getD frgOk) s1).legal rfl h2
    exact .ite h4 ((same_raise _ _ _ _ _).legal rfl h4)

theorem legalBase_bootFlashOp {s0 : State} (h0 : LegalBase s0) : LegalBase (bootFlashOp s0) := by
  unfold bootFlashOp
  extract_lets v1
  exact .ite ((same_freeCells _).legal rfl (legalBase_bootSelect ((same_frgResult _ _).legal rfl (.congr h0 rfl)))) ((same_frgResult _ _).legal rfl h0)

theorem legalBase_writeFrgCtl (x0 : Nat) {s0 : State} (h0 : LegalBase s0) : LegalBase (writeFrgCtl x0 s0) := by
  unfold writeFrgCtl
  exact .ite h0 (.ite ((same_fullLoadOp _).legal rfl h0) (.ite ((same_shadowLoadOp _).legal rfl h0) (.ite ((same_freeCells _).legal rfl (legalBase_abortOp h0)) (.ite ((same_armOp _ _ _).legal rfl h0) (.ite ((same_disarmOp _).legal rfl h0) (.ite ((same_armOp _ _ _).legal rfl h0) (.ite ((same_flushOldOp _).legal rfl h0) (.ite (legalBase_bootFlashOp h0) ((same_frgResult _ _).legal rfl h0)))))))))

theorem legalBase_writeFrg (x0 x1 : Nat) {s0 : State} (h0 : LegalBase s0) : LegalBase (writeFrg x0 x1 s0) := by
  unfold writeFrg
  exact .ite (legalBase_writeFrgCtl _ h0) (.ite ((same_freeCells _).legal rfl (legalBase_loadPortOp _ _ h0)) ((same_writeRw _ _ _).legal rfl h0))

theorem legalBase_regWrite (x0 x1 : Nat) {s0 : State} (h0 : LegalBase s0) : LegalBase (regWrite x0 x1 s0) := by
  unfold regWrite
  exact .ite (legalBase_writeGlb _ _ h0) (.ite (legalBase_writeFrg _ _ h0) (.ite (legalBase_writeHif _ _ h0) (.ite ((same_writePrt _ _ _).legal rfl h0) (.ite ((same_writeRw _ _ _).legal rfl h0) (.ite ((same_writeTbl _ _ _).legal rfl h0) (.ite ((same_writeFry _ _ _).legal rfl h0) (.ite ((same_writeTm _ _ _).legal rfl h0) (.ite ((same_writeLdg _ _ _).legal rfl h0) (.ite ((same_writePhs _ _ _).legal rfl h0) (.ite ((same_writeTim _ _ _).legal rfl h0) (.ite ((same_writeFab _ _ _).legal rfl h0) (.ite ((same_writePor _ _ _).legal rfl h0) (.ite ((same_writeDry _ _ _).legal rfl h0) (.ite ((same_writeTal _ _ _).legal rfl h0) (.ite ((same_writeGbk _ _ _).legal rfl h0) (.ite ((same_writeHlt _ _ _).legal rfl h0) ((same_writePin _ _ _).legal rfl h0)))))))))))))))))

theorem legalBase_dwordWrite (x0 x1 x2 : Nat) {s0 : State} (h0 : LegalBase s0) : LegalBase (dwordWrite x0 x1 x2 s0) := by
  unfold dwordWrite
  exact .ite h0 (.ite (.ite ((same_accErr _ _ _ _).legal rfl h0) (.ite ((same_accErr _ _ _ _).legal rfl h0) (.ite ((same_accErr _ _ _ _).legal rfl h0) (legalBase_regWrite _ _ h0)))) ((same_accErr _ _ _ _).legal rfl h0))

theorem legalBase_devWrite (a v : Nat) {s : State} (h : LegalBase s) : LegalBase (devWrite a v s).2 := by
  unfold devWrite
  split
  · exact h
  · exact legalBase_dwordWrite _ _ _ h

theorem legalBase_copyWord (e : Nat) (m : Move) (o : Nat) {s : State} (h : LegalBase s) : LegalBase (copyWord e m o s).2 := by
  unfold copyWord
  extract_lets a b
  split
  next v bad u read =>
  have hu : LegalBase u := by
    split at read
    · cases read; exact h
    · split at read
      · have last : (devRead (a % 2 ^ 24) s).2.2 = u := congrArg (fun p => p.2.2) read
        exact last ▸ (same_devRead _ s).legal rfl h
      · cases read; exact h
  split
  · exact hu
  · split
    · exact legalBase_devWrite _ _ hu
    · exact (same_putErr _ _ _).legal rfl ((same_memWrite _ _ _).legal rfl hu)

theorem legalBase_copyWords (e : Nat) (m : Move) (n k : Nat) {s : State} (h : LegalBase s) :
    LegalBase (copyWords e m n k s).2.2 := by
  induction n generalizing k s with
  | zero => exact h
  | succ n ih =>
    unfold copyWords
    have ht := legalBase_copyWord e m (moveOffset m k) h
    split
    next bad t copied =>
    rw [copied] at ht
    split
    · exact ht
    · split
      · exact ht
      · exact ih (k + 1) ht

theorem legalBase_haltRemain (m : Move) (k n : Nat) {s : State} (h : LegalBase s) : LegalBase (haltRemain m k n s).2 := by
  unfold haltRemain
  split <;> exact h

theorem legalBase_moveOp (e : Nat) (w : List Nat) {s : State} (h : LegalBase s) : LegalBase (moveOp e w s) := by
  unfold moveOp
  extract_lets m k n u
  split
  · exact h
  · have hu : LegalBase u := (same_errTaken _ _).legal rfl h
    have ht := legalBase_copyWords e m n k ((same_putErr e { errSt u e with words := w, moved := k + n } u).legal rfl hu)
    split
    next k' bad t copied =>
    rw [copied] at ht
    extract_lets v
    have hv : LegalBase v := (same_bumpN _ _ _ _).legal rfl ht
    split
    · have hr := legalBase_haltRemain m k' (k + n) hv
      split
      next r x left =>
      rw [left] at hr
      exact (same_errHalt _ _ _).legal rfl ((same_rput_top _ _ _ (Or.inl (by simp only [A.DRY_ERR_REMAIN]; omega))).legal rfl hr)
    · exact .ite ((same_errNext _ _).legal rfl hv) hv

/-! ### Commands and steps -/

section
variable {c : Instr} {s t : State} {f : State → State}

theorem legalBase_command (run : command c s f = .next t) (h : LegalBase s) (k : LegalBase (f s)) :
    LegalBase t := by
  unfold command at run
  split at run
  · cases hh : held s
    · rw [hh] at run
      exact Host.Outcome.next.inj run ▸ k.congr (after_glb_base f s)
    · rw [hh] at run
      exact Host.Outcome.next.inj run ▸ h
  · cases run

theorem legalBase_pinCommand (run : pinCommand c s f = .next t) (k : LegalBase (f s)) :
    LegalBase t := by
  unfold pinCommand at run
  split at run
  · exact Host.Outcome.next.inj run ▸ k.congr (after_glb_base f s)
  · cases run

theorem legalBase_hostCmd {a : Nat} (run : hostCmd c a s f = .next t) (h : LegalBase s)
    (k : LegalBase (f s)) : LegalBase t :=
  legalBase_command run h (.ite h (.ite ((same_accErr _ _ _ _).legal rfl h) k))

theorem legalBase_timed {dt : Nat} (run : timed c dt s f = .next t) (h : LegalBase s)
    (k : ∀ u, LegalBase u → LegalBase (f u)) : LegalBase t :=
  legalBase_command run h (k _ ((same_passTime dt s).legal rfl h))

end

theorem legalBase_errStep {e op : Nat} {f : List Nat → State → State} {s : State} (k : ∀ w, LegalBase (f w s))
    (h : LegalBase s) : LegalBase (errStep e op f s) :=
  .ite h (.ite ((same_errHalt _ _ _).legal rfl h) (.ite (k _) h))

/-- No command takes the base state out of the eight. -/
theorem legalBase_exec {c : Instr} {s t : State} (h : LegalBase s) (run : exec c s = .next t) : LegalBase t := by
  cases c with
  | coldReset byPin =>
    dsimp only [exec, execColdReset] at run
    refine legalBase_pinCommand run ?_
    exact (same_forBits_lo _ _ _ (by decide)).legal rfl (.congr (legalBase_coldReset s) rfl)
  | supplyBrownout dt =>
    dsimp only [exec, execSupplyBrownout] at run
    refine legalBase_pinCommand run ?_
    exact .congr (legalBase_coldReset (passFree dt s)) rfl
  | coreRefclkRestored dt =>
    dsimp only [exec, execCoreRefclkRestored] at run
    refine legalBase_pinCommand run ?_
    have hu : LegalBase (if pllOver (passFree dt s) then coldReset (passFree dt s) else passFree dt s) :=
      .ite (legalBase_coldReset _) ((same_passFree dt s).legal rfl h)
    exact .ite ((same_startUp _).legal rfl ((same_forBits_lo _ _ _ (by decide)).legal rfl (.congr hu rfl)))
      (.ite ((same_forBits_top _ _ _ (Or.inl (by decide))).legal rfl (.congr hu rfl)) hu)
  | corePllHoldoverExpiry dt =>
    dsimp only [exec, execCorePllHoldoverExpiry] at run
    exact legalBase_timed run h fun _ hu => .ite (legalBase_coldReset _) hu
  | refclkLost dt k =>
    dsimp only [exec, execRefclkLost] at run
    exact legalBase_timed run h fun _ hu => (same_freeCells _).legal rfl (legalBase_refclkLost _ hu)
  | jtagBypass =>
    dsimp only [exec, execJtagBypass] at run
    exact legalBase_pinCommand run (legalBase_jtagOp _ _ _ h)
  | jtagIdcode =>
    dsimp only [exec, execJtagIdcode] at run
    exact legalBase_pinCommand run (legalBase_jtagOp _ _ _ h)
  | jtagSamplePreload pins =>
    dsimp only [exec, execJtagSamplePreload] at run
    refine legalBase_pinCommand run ?_
    exact .congr (legalBase_jtagOp 2 none false h) rfl
  | jtagExtest =>
    dsimp only [exec, execJtagExtest] at run
    exact legalBase_pinCommand run (legalBase_jtagOp _ _ _ h)
  | jtagExtestPulse =>
    dsimp only [exec, execJtagExtestPulse] at run
    exact legalBase_pinCommand run (legalBase_jtagOp _ _ _ h)
  | jtagExtestTrain =>
    dsimp only [exec, execJtagExtestTrain] at run
    exact legalBase_pinCommand run (legalBase_jtagOp _ _ _ h)
  | jtagHighz =>
    dsimp only [exec, execJtagHighz] at run
    exact legalBase_pinCommand run (legalBase_jtagOp _ _ _ h)
  | jtagClamp =>
    dsimp only [exec, execJtagClamp] at run
    exact legalBase_pinCommand run (legalBase_jtagOp _ _ _ h)
  | bootFlashSelect dt =>
    dsimp only [exec, execBootFlashSelect] at run
    refine legalBase_timed run h fun u hu => ?_
    have taken : LegalBase { u with glb := { u.glb with bootDue := false } } := hu
    exact .ite hu (.ite ((same_freeCells _).legal rfl (legalBase_bootSelect taken)) taken)
  | slotLastByteArrived dt =>
    dsimp only [exec, execSlotLastByteArrived] at run
    refine legalBase_timed run h fun u hu => ?_
    split
    · exact .ite ((same_freeCells _).legal rfl (legalBase_lastByte _ ((same_placeArrived _ _ _).legal rfl
        ((same_rput_lo _ _ _ (by decide)).legal rfl hu)))) hu
    · exact hu
  | verificationComplete dt =>
    dsimp only [exec, execVerificationComplete] at run
    exact legalBase_timed run h fun _ hu => (same_freeCells _).legal rfl (legalBase_verifyEnd hu)
  | frgAbort =>
    dsimp only [exec, execFrgAbort] at run
    exact legalBase_hostCmd run h ((same_freeCells _).legal rfl (legalBase_abortOp h))
  | bootFlash =>
    dsimp only [exec, execBootFlash] at run
    exact legalBase_hostCmd run h (legalBase_bootFlashOp h)
  | frgLoadPortWrite v =>
    dsimp only [exec, execFrgLoadPortWrite] at run
    exact legalBase_hostCmd run h ((same_freeCells _).legal rfl (legalBase_loadPortOp _ _ h))
  | drain =>
    dsimp only [exec, execDrain] at run
    exact legalBase_hostCmd run h (legalBase_drainOp h)
  | resume =>
    dsimp only [exec, execResume] at run
    exact legalBase_hostCmd run h (legalBase_resumeOp h)
  | endWaking =>
    dsimp only [exec, execEndWaking] at run
    exact legalBase_hostCmd run h (legalBase_endWakingOp h)
  | enterSafe =>
    dsimp only [exec, execEnterSafe] at run
    exact legalBase_hostCmd run h (legalBase_enterSafeOp h)
  | clearSafe =>
    dsimp only [exec, execClearSafe] at run
    exact legalBase_hostCmd run h (legalBase_clearSafeOp h)
  | enterDiag =>
    dsimp only [exec, execEnterDiag] at run
    exact legalBase_hostCmd run h (legalBase_enterDiagOp h)
  | endDiag =>
    dsimp only [exec, execEndDiag] at run
    exact legalBase_hostCmd run h (legalBase_endDiagOp h)
  | wakeTimerExpiry dt =>
    dsimp only [exec, execWakeTimerExpiry] at run
    exact legalBase_timed run h fun _ hu => .ite (legalBase_endWake _) hu
  | drainComplete dt =>
    dsimp only [exec, execDrainComplete] at run
    exact legalBase_timed run h fun _ hu => .ite (legalBase_quiesce _) hu
  | drainTimeout dt =>
    dsimp only [exec, execDrainTimeout] at run
    exact legalBase_timed run h fun _ hu => .ite (legalBase_drainFlush _) hu
  | warmReset =>
    dsimp only [exec, execWarmReset] at run
    exact legalBase_hostCmd run h (legalBase_warmOp h)
  | warmResetComplete dt =>
    dsimp only [exec, execWarmResetComplete] at run
    exact legalBase_timed run h fun _ hu => (same_freeCells _).legal rfl (legalBase_warmDone hu)
  | functionLevelReset =>
    dsimp only [exec, execFunctionLevelReset] at run
    exact legalBase_command run h (legalBase_functionReset h)
  | hostLinkLoss cause =>
    dsimp only [exec, execHostLinkLoss] at run
    exact legalBase_command run h (legalBase_hostLoss cause h)
  | ostlerRestart =>
    dsimp only [exec, execOstlerRestart] at run
    exact legalBase_hostCmd run h (legalBase_ostlerRestart h)
  | registerWrite a be v =>
    dsimp only [exec, execRegisterWrite] at run
    exact legalBase_hostCmd run h (legalBase_dwordWrite a be _ h)
  | monitorPoll dt r =>
    dsimp only [exec, execMonitorPoll] at run
    exact legalBase_timed run h fun _ hu => (same_freeCells _).legal rfl (legalBase_monitorPoll r hu)
  | monitorCrit dt volt k v =>
    dsimp only [exec, execMonitorCrit] at run
    exact legalBase_timed run h fun _ hu => (same_freeCells _).legal rfl (legalBase_monitorCrit volt k v hu)
  | errandMove dt e =>
    dsimp only [exec, execErrandMove] at run
    exact legalBase_timed run h fun _ hu => legalBase_errStep (fun w => legalBase_moveOp e w hu) hu
  | _ => exact (same_exec run).legal rfl h

/-- Settles O10: no command (`legalBase_exec`) and no clock takes the base state out of the eight. -/
theorem everyStepKeepsALegalBaseState : Obligations.EveryStepKeepsALegalBaseState := by
  unfold Obligations.EveryStepKeepsALegalBaseState
  intro s t legal h
  rcases step_cases h with ⟨c, q, -, run⟩ | ⟨-, rfl⟩
  · exact legalBase_exec (s := { s with pending := q }) legal run
  · exact (same_idleClock s).legal rfl legal

end Machine
end Sys2Proof
end

section
/-! PROOF. Host memory; cold reset. -/
namespace Sys2Proof
namespace Machine

/-- Settles O13, from the rules of a byte written and a byte beside it (Laws/Ops.lean). -/
theorem memoryKeepsWhatIsWritten : Obligations.MemoryKeepsWhatIsWritten := by
  unfold Obligations.MemoryKeepsWhatIsWritten
  intro a l s hl
  refine ⟨?_, fun x hx => memByte_memWrite_ne a x l s fun i hi => (hx i hi).symm, memWf_memWrite a l s⟩
  refine List.ext_getElem (by simp [memRead]) fun i hi hi' => ?_
  simp only [memRead, List.getElem_map, List.getElem_range]
  rw [memByte_memWrite_at a l s hl i hi']

/-! ### Cold reset -/

/-- A state whose mode, ALERT_N and vectors are those last recorded settles as it is, but for the list of driven outputs. -/
theorem settle_of_still {u : State} (mode : modeOf (driveOutputs u) = u.glb.shown)
    (alert : alertWanted (driveOutputs u) = u.hlt.alert) (masked : msixEnabled (driveOutputs u) = false) : settle u = driveOutputs u := by
  have hm : modeChange (driveOutputs u) = driveOutputs u := if_pos mode
  have ha : alertPin (driveOutputs u) = driveOutputs u := if_pos alert
  have hd : deliver (driveOutputs u) = driveOutputs u := if_neg (by rw [masked]; exact Bool.false_ne_true)
  unfold settle
  rw [hm, ha, hd]

/-- What a cold reset leaves, before it settles. -/
def coldState (byPin : Bool) (s : State) : State :=
  forBits A.GLB_RST_CAUSE (if byPin then 2 else 1) { coldReset s with glb := { (coldReset s).glb with heldPin := true } }

theorem rget_coldState_ne (byPin : Bool) (s : State) {r : Nat} (h : r ≠ A.GLB_RST_CAUSE) :
    rget (coldState byPin s) r = (regReset r).toNat :=
  rget_forBits_ne _ _ h.symm

theorem rget_coldState_same (byPin : Bool) (s : State) :
    rget (coldState byPin s) A.GLB_RST_CAUSE = if byPin then 2 else 1 := by
  have cleared : ∀ g, rget { coldReset s with glb := g } A.GLB_RST_CAUSE = 0 := fun _ => rfl
  refine (rget_rput_same _ _ _).trans ?_
  rw [cleared]
  cases byPin <;> rfl

theorem msixEnabled_coldState (byPin : Bool) (s : State) : msixEnabled (coldState byPin s) = false := by
  unfold msixEnabled fbit fget
  rw [rget_coldState_ne byPin s (by decide)]
  decide

theorem alertWanted_coldState (byPin : Bool) (s : State) : alertWanted (coldState byPin s) = false := by
  have fence : rget (coldState byPin s) A.HLT_FENCE = 0 := (rget_coldState_ne byPin s (by decide)).trans (by decide)
  have map : rget (coldState byPin s) A.HLT_BANK_MAP = 0 := (rget_coldState_ne byPin s (by decide)).trans (by decide)
  have safe : rget (coldState byPin s) A.GLB_SAFE_CAUSE = 0 := (rget_coldState_ne byPin s (by decide)).trans (by decide)
  have temps : (coldState byPin s).hlt.tempState = [] := rfl
  have volts : (coldState byPin s).hlt.voltState = [] := rfl
  have ostler : (coldState byPin s).hif.ostlerSilent = false := rfl
  simp [alertWanted, tempWarn, voltWarn, anyFenced, sparesExhausted, safeLatch, fence, map, safe, temps, volts, ostler]

theorem modeOf_of_dormant {s : State} (h : s.glb.base = bDormant) : modeOf s = bDormant := by
  simp [modeOf, h, bDormant, bRun]

theorem settle_coldState (byPin : Bool) (s : State) : settle (coldState byPin s) = driveOutputs (coldState byPin s) := by
  cases byPin <;> exact settle_of_still (modeOf_of_dormant rfl) (alertWanted_coldState _ s) (msixEnabled_coldState _ s)

theorem exec_coldReset (byPin : Bool) (s : State) :
    exec (.coldReset byPin) s = .next { driveOutputs (coldState byPin s) with pending := s.pending } := by
  rw [← settle_coldState]
  rfl

/-- Settles O16: after a cold reset nothing is left to settle (`settle_coldState`), so the state is the cold one. -/
theorem coldResetKeepsOnlyOtp : Obligations.ColdResetKeepsOnlyOtp := by
  unfold Obligations.ColdResetKeepsOnlyOtp
  intro byPin s
  refine ⟨_, exec_coldReset byPin s, rfl, rfl, rfl, rfl, rfl, rfl, rfl, rfl, rfl, rfl, rfl, rfl, rfl, rfl, rfl, rfl, rfl, rfl,
    rfl, rfl, rfl, rfl, rfl, rfl, rfl, rfl, rfl, rfl, rfl, rfl, rfl, rfl, rfl, rfl, rget_coldState_same byPin s,
    fun r h => rget_coldState_ne byPin s h⟩

end Machine
end Sys2Proof
end

section
/-! PROOF. What a command answers, and the resets of the pins, the supplies and the core clock. -/
namespace Sys2Proof
namespace Machine

/-! ### The state that a command answers -/

section
variable {c : Instr} {s : State} {f : State → State}

/-- A command of the clocks or the outside, to a device that is not held. -/
theorem timed_settles {dt : Nat} {u : State} (e : exec c s = timed c dt s f) (w : wellFormed c = true) (h : Elapsed dt s u) :
    ∃ t, exec c s = .next t ∧ SettledFrom (f u) t := by
  obtain ⟨free, rfl⟩ := h
  exact ⟨_, e.trans (timed_next f w free), settledFrom_after (fun v => f (passTime dt v)) s⟩

/-- A host write to a device that takes it. -/
theorem hostCmd_settles {a : Nat} (e : exec c s = hostCmd c a s f) (w : wellFormed c = true) (h : HostReady s a) :
    ∃ t, exec c s = .next t ∧ SettledFrom (f s) t := by
  obtain ⟨free, awake, idle⟩ := h
  exact ⟨_, e.trans (hostCmd_next f w free awake idle), settledFrom_after f s⟩

theorem command_settles (e : exec c s = command c s f) (w : wellFormed c = true) (free : held s = false) :
    ∃ t, exec c s = .next t ∧ SettledFrom (f s) t :=
  ⟨_, e.trans (command_next f w free), settledFrom_after f s⟩

theorem pinCommand_settles (e : exec c s = pinCommand c s f) (w : wellFormed c = true) :
    ∃ t, exec c s = .next t ∧ SettledFrom (f s) t :=
  ⟨_, e.trans (pinCommand_next f w), settledFrom_after f s⟩

end

/-! ### Registers and fields through writes -/

/-- Fields `f` and `g` share no bit. -/
abbrev Apart (f g : Fld) : Prop :=
  f.addr ≠ g.addr ∨ (g.lo + g.width ≤ f.lo ∧ f.lo ≤ 32) ∨ (f.lo + f.width ≤ g.lo ∧ g.lo + g.width ≤ 32)

/-- A field keeps its value when another that shares no bit with it is written. -/
theorem fget_fput_apart {f g : Fld} (v : Nat) (s : State) (h : Apart f g) : fget (fput f v s) g = fget s g := by
  by_cases ha : f.addr = g.addr
  · rcases h with h | ⟨below, fits⟩ | ⟨above, fits⟩
    · exact absurd ha h
    · exact fget_fput_below v s ha below fits
    · exact fget_fput_above v s ha above fits
  · exact fget_fput_ne v s ha

theorem fget_forBits_ne {a : Nat} {f : Fld} (m : Nat) (s : State) (h : a ≠ f.addr) : fget (forBits a m s) f = fget s f :=
  fget_congr (rget_forBits_ne m s h)

theorem fget_setInt_ne {a : Nat} {f : Fld} (i : Nat) (s : State) (h : a ≠ f.addr) : fget (setInt a i s) f = fget s f :=
  fget_forBits_ne _ s h

/-! ### Held, and started -/

theorem held_of_pin {s : State} (h : s.glb.heldPin = true) : held s = true := by simp [held, h]
theorem held_of_supply {s : State} (h : s.glb.heldSupply = true) : held s = true := by simp [held, h]
theorem held_of_clock {s : State} (h : s.glb.heldClock = true) : held s = true := by simp [held, h]

theorem passFree_of_held {s : State} (dt : Nat) (h : held s = true) : passFree dt s = s := if_pos h
theorem passFree_of_free {s : State} (dt : Nat) (h : held s = false) : passFree dt s = passTime dt s := if_neg (by simp [h])

/-- A start, before it is recorded: the base clocks are right, device time runs, a boot is due. -/
def starting (s : State) : State :=
  fput F.PIN_CLK_STATUS_PORCH_OK 1 (fput F.PIN_CLK_STATUS_SD_OK 0xF (gradeThresholds { s with
    glb := { s.glb with started := true, bootDue := true }
    tim := { s.tim with running := true }
    hif := { s.hif with beatClk := s.clk } }))

/-- A device that nothing holds and that has not started yet starts. -/
theorem startUp_of_ready {s : State} (free : held s = false) (fresh : s.glb.started = false) :
    startUp s = raise 0x0002 noUnit (rget (starting s) A.GLB_RST_CAUSE) 0 (starting s) :=
  if_neg (by simp [free, fresh])

theorem rget_gradeThresholds {r : Nat} (s : State) (h : A.HLT_TEMP_THR ≠ r) (h' : A.HLT_TEMP_LOW_THR ≠ r) :
    rget (gradeThresholds s) r = rget s r := by
  unfold gradeThresholds
  split <;> rw [rget_rput_ne _ _ h, rget_rput_ne _ _ h']

theorem starting_glb (s : State) : (starting s).glb = { s.glb with started := true, bootDue := true } := by
  unfold starting
  rw [fput_glb, fput_glb]
  exact (same_gradeThresholds _).part .glb (by decide)

theorem starting_tim (s : State) : (starting s).tim = { s.tim with running := true } := by
  unfold starting
  rw [fput_tim, fput_tim]
  exact (same_gradeThresholds _).part .tim (by decide)

theorem rget_starting_cause (s : State) : rget (starting s) A.GLB_RST_CAUSE = rget s A.GLB_RST_CAUSE := by
  unfold starting
  rw [rget_fput_ne _ _ (by decide), rget_fput_ne _ _ (by decide), rget_gradeThresholds _ (by decide) (by decide)]
  rfl

/-- What a start does not touch. -/
theorem same_starting (s : State) : Same [.regs, .glb, .tim, .hif, .rst] s (starting s) := by
  refine (same_fput_top _ _ _ (Or.inl (by decide))).comp (by decide) ?_
  refine (same_fput_top _ _ _ (Or.inl (by decide))).comp (by decide) ?_
  refine (same_gradeThresholds _).comp (by decide) ?_
  exact (Same.refl _ s).upd rfl (fun p n => by cases p <;> simp at n <;> rfl)

/-- What a started device shows. -/
structure Started (s t : State) : Prop where
  free : held t = false
  started : t.glb.started = true
  bootDue : t.glb.bootDue = true
  running : t.tim.running = true
  sdOk : fget t F.PIN_CLK_STATUS_SD_OK = 15
  porchOk : fget t F.PIN_CLK_STATUS_PORCH_OK = 1
  cause : rget t A.GLB_RST_CAUSE = rget s A.GLB_RST_CAUSE
  same : Same [.regs, .glb, .tim, .hif, .rst, .tal, .gbk] s t

theorem started_startUp {s : State} (free : held s = false) (fresh : s.glb.started = false) : Started s (startUp s) := by
  rw [startUp_of_ready free fresh]
  have glb := (raise_glb 0x0002 noUnit (rget (starting s) A.GLB_RST_CAUSE) 0 (starting s)).trans (starting_glb s)
  refine ⟨?_, ?_, ?_, ?_, ?_, ?_, ?_, ?_⟩
  · unfold held at free ⊢
    rw [glb]
    exact free
  · rw [glb]
  · rw [glb]
  · rw [raise_tim, starting_tim]
  · rw [fget_raise _ _ _ _ _ (by decide)]
    exact (fget_fput_apart _ _ (by decide)).trans (fget_fput_same _ _ _ (by decide))
  · rw [fget_raise _ _ _ _ _ (by decide)]
    exact fget_fput_same _ _ _ (by decide)
  · rw [rget_raise _ _ _ _ _ (by decide), rget_starting_cause]
  · exact (same_raise _ _ _ _ _).comp (by decide) ((same_starting s).mono (by decide))

theorem Started.settled {s u t : State} (h : Started s u) (st : SettledFrom u t) :
    held t = false ∧ t.glb.started = true ∧ t.glb.bootDue = true ∧ t.tim.running = true ∧
      fget t F.PIN_CLK_STATUS_SD_OK = 15 ∧ fget t F.PIN_CLK_STATUS_PORCH_OK = 1 ∧
      rget t A.GLB_RST_CAUSE = rget s A.GLB_RST_CAUSE :=
  ⟨st.held.trans h.free, st.glb_started.trans h.started, st.glb_bootDue.trans h.bootDue, by rw [st.tim, h.running],
    (st.fget (by decide)).trans h.sdOk, (st.fget (by decide)).trans h.porchOk, (st.reg _ (by decide)).trans h.cause⟩

/-! ### RESET_N, the supplies and CLK_REF -/

theorem pllOver_of_lost {s : State} {c : Nat} (h : s.glb.coreLost = some c) : pllOver s = decide (c + 140000 ≤ s.clk) := by
  unfold pllOver
  rw [h]
  rfl

/-- The clock has been away: CORE_LOST_SEEN is bit 7 of PIN_CLK_STATUS. -/
theorem coreLostSeen_forBits (s : State) : fget (forBits A.PIN_CLK_STATUS 128 s) F.PIN_CLK_STATUS_CORE_LOST_SEEN = 1 := by
  rw [show A.PIN_CLK_STATUS = F.PIN_CLK_STATUS_CORE_LOST_SEEN.addr from rfl, fget_forBits _ _ _ (by decide)]
  have bit : fget s F.PIN_CLK_STATUS_CORE_LOST_SEEN < 2 := Nat.mod_lt _ (by decide)
  interval_cases fget s F.PIN_CLK_STATUS_CORE_LOST_SEEN <;> rfl

/-- Settles O17, by what each command's effect is: a start (`started_startUp`), a cold reset, or the clock's loss noted and ended. -/
theorem resetPinSuppliesAndCoreClock : Obligations.ResetPinSuppliesAndCoreClock := by
  unfold Obligations.ResetPinSuppliesAndCoreClock
  refine ⟨?_, ?_, ?_, ?_, ?_, ?_⟩
  · intro dt s pin supply clock fresh
    obtain ⟨t, run, st⟩ := pinCommand_settles (c := .resetNRise dt) (s := s) rfl rfl
    rw [passFree_of_held dt (held_of_pin pin)] at st
    have up := started_startUp (s := { s with glb := { s.glb with heldPin := false } }) (by simp [held, supply, clock]) fresh
    obtain ⟨free, started, due, running, sd, porch, cause⟩ := up.settled st
    exact ⟨t, run, free, started, due, running, st.clk.trans (up.same.part .clk (by decide)), sd, porch, cause,
      st.mem.trans (up.same.part .mem (by decide)), st.dp.trans (up.same.part .dp (by decide)),
      st.tab.trans (up.same.part .tab (by decide))⟩
  · intro dt s free
    obtain ⟨t, run, st⟩ := pinCommand_settles (c := .supplyBrownout dt) (s := s) rfl rfl
    exact ⟨t, run, st.glb_heldSupply, held_of_supply st.glb_heldSupply, st.glb_base, st.clk, st.dp, st.tab,
      congrArg Frg.active st.frg⟩
  · intro dt s supply clock fresh
    obtain ⟨t, run, st⟩ := pinCommand_settles (c := .supplyRecovered dt true) (s := s) rfl rfl
    rw [passFree_of_held dt (held_of_supply supply), if_pos supply] at st
    have up := started_startUp (s := forBits A.GLB_RST_CAUSE 1 { s with glb := { s.glb with heldSupply := false, heldPin := false } })
      (by simp [held, clock]) fresh
    obtain ⟨free, started, -, running, -, -, cause⟩ := up.settled st
    refine ⟨t, run, free, started, running, ?_, st.mem.trans (up.same.part .mem (by decide))⟩
    rw [cause]
    exact testBit_forBits A.GLB_RST_CAUSE 0 _ (by decide)
  · intro dt s free lost
    obtain ⟨t, run, st⟩ := timed_settles (c := .coreRefclkLost dt) (f := fun u =>
      if u.glb.coreLost.isSome then u else raise 0x0FC2 noUnit 0 0 { u with glb := { u.glb with coreLost := some u.clk } })
      rfl rfl ⟨free, rfl⟩
    rw [if_neg (by simp [lost])] at st
    refine ⟨t, run, ?_, ?_, ?_⟩
    · rw [st.glb_coreLost, raise_glb]
    · rw [st.held]
      unfold held
      rw [raise_glb]
    · rw [st.dp, raise_dp]
  · intro dt c s free lost late
    obtain ⟨t, run, st⟩ := timed_settles (c := .corePllHoldoverExpiry dt) (f := fun u =>
      if pllOver u then coldReset u else u) rfl rfl ⟨free, rfl⟩
    rw [if_pos (by rw [pllOver_of_lost lost]; exact decide_eq_true late)] at st
    have clock : t.glb.heldClock = true := st.glb_heldClock.trans (by simp [coldReset, lost])
    exact ⟨t, run, held_of_clock clock, clock, st.glb_base, st.clk, st.dp, st.tab⟩
  · intro dt c s free lost inTime unheld
    obtain ⟨t, run, st⟩ := pinCommand_settles (c := .coreRefclkRestored dt) (s := s) rfl rfl
    have running : pllOver (passTime dt s) = false := (pllOver_of_lost lost).trans (by simpa using inTime)
    simp only [passFree_of_free dt free, running, unheld, lost, Option.isSome_some, Bool.false_eq_true, if_false, if_true] at st
    refine ⟨t, run, ?_, ?_, ?_, ?_, ?_⟩
    · rw [st.glb_coreLost, forBits_glb]
    · rw [st.fget (by decide), coreLostSeen_forBits]
    · rw [st.clk, forBits_clk]
    · rw [st.dp, forBits_dp]
    · rw [st.tab, forBits_tab]

end Machine
end Sys2Proof
end

section
/-! PROOF. Warm and function-level resets, and the link to the host. -/
namespace Sys2Proof
namespace Machine

/-! ### What the operations leave of the parts they change -/

theorem Same.resets {T : List Part} {s t : State} (k : Same T s t) (n : T.contains Part.rst = false) : resetsOf t = resetsOf s :=
  k.part .rst (by simpa using n)

theorem warmBusy_of_resets {s t : State} (h : resetsOf t = resetsOf s) : t.glb.warmBusy = s.glb.warmBusy :=
  congrArg (fun r => r.1) h

theorem warmToWaking_of_resets {s t : State} (h : resetsOf t = resetsOf s) : t.glb.warmToWaking = s.glb.warmToWaking :=
  congrArg (fun r => r.2.1) h

theorem enterWaking_base (s : State) : (enterWaking s).glb.base = bWaking := by
  unfold enterWaking
  rw [(same_judgeAll _).part .base (by decide), (same_fabricWake _).part .base (by decide)]

theorem setBase_base (b : Nat) (s : State) : (setBase b s).glb.base = b := (same_modeChange _).part .base (by decide)

/-- A load that ends is no longer open. -/
theorem endLoad_load (r : Nat) (s : State) : (endLoad r s).frg.load = none := by
  unfold endLoad
  split
  next h => exact h
  next l h =>
    extract_lets g u v
    have closed : u.frg.load = none := by
      simp only [u]
      rw [(same_setFrgState _ _).part .frg (by decide), (same_frgResult _ _).part .frg (by decide), rput_frg]
    split
    · rw [(same_clearBank _ _).part .frg (by decide)]
      exact closed
    · split
      · rw [(same_setBase _ _).part .frg (by decide), (same_clearBank _ _).part .frg (by decide)]
        exact closed
      · exact closed

/-- What gives up a load leaves none open. -/
theorem warmLoader_load (s : State) : (warmLoader s).frg.load = none := by
  unfold warmLoader
  extract_lets u
  split
  · exact endLoad_load _ _
  next h => simpa using h

/-! ### Warm reset -/

theorem warmOp_spec {s : State} (idle : s.glb.warmBusy = false) :
    (warmOp s).glb.warmBusy = true ∧ (warmOp s).glb.hearthRst = [] ∧ (warmOp s).frg.load = none := by
  unfold warmOp
  rw [if_neg (by simp [idle])]
  extract_lets u1 u2 u3 on u4 u5 g
  have closed : u5.frg.load = none := by
    simp only [u5, u4]
    rw [(same_warmRegs _).part .frg (by decide), (same_clearMailbox _).part .frg (by decide), (same_porterReset _).part .frg (by decide),
      (same_draymanReset _).part .frg (by decide), (same_fabricReset _).part .frg (by decide), (same_purge _).part .frg (by decide)]
    exact warmLoader_load u2
  clear_value u5
  refine ⟨?_, ?_, ?_⟩
  · rw [raise_glb]
  · rw [raise_glb]
  · rw [raise_frg]
    exact closed

theorem warmDone_spec {s : State} (busy : s.glb.warmBusy = true) :
    (warmDone s).glb.warmBusy = false ∧ (s.glb.warmToWaking = true → (warmDone s).glb.base = bWaking) := by
  unfold warmDone
  rw [if_neg (by simp [busy])]
  extract_lets u g v w
  have resets : resetsOf u = resetsOf s := ((same_judgeMonitors _).resets rfl).trans ((same_purge _).resets rfl)
  have links (x : State) : Same [.regs, .glb, .tal, .gbk, .fab, .dp, .free] x
      ((List.range 72).foldl (fun s p => if linkUp s p then fabLinkUp p s else s) x) :=
    Same.foldl (fun y p hy => Same.ite ((same_fabLinkUp p y).comp (by decide) hy) hy) (Same.refl _ x)
  refine ⟨?_, fun waking => ?_⟩
  · rw [setInt_glb]
    have done : resetsOf v = resetsOf w := by
      simp only [w]
      split
      · rw [(links _).resets rfl, (same_enterWaking _).resets rfl]
      · rfl
    exact (warmBusy_of_resets done).symm
  · rw [setInt_glb]
    have asked : v.glb.warmToWaking = true := (warmToWaking_of_resets resets).trans waking
    simp only [w]
    rw [if_pos asked, (links _).part .base (by decide), enterWaking_base]

/-! ### The function's reset -/

theorem same_clearVectors (s : State) :
    Same [.regs, .low, .mid] s ((List.range 4).foldl (fun s k => rput (A.GLB_VEC_ACTIVE k) 0 s) s) :=
  Same.foldl (fun _ _ h => (same_rput _ _ _).comp (by decide) h) (Same.refl _ s)

/-- What a reset of the function leaves of the function. -/
structure FunctionReset (t : State) : Prop where
  mbxCmd : t.hif.mbxCmd = none
  d3hot : t.hif.d3hot = false
  busMaster : t.hif.busMaster = false
  unmasked : t.hif.unmasked = []
  txts : t.tim.txts = []
  link : rget t A.HIF_LINK = 0

theorem functionReset_functionReset (s : State) : FunctionReset (functionReset s) := by
  unfold functionReset
  extract_lets u1 u2 tim u3 u4 u5 u6 g u7
  have mbx : u2.hif.mbxCmd = none := by
    simp only [u2]
    rw [(same_porterReset _).part .hif (by decide), (same_draymanReset _).part .hif (by decide)]
    rfl
  have txts : u3.tim.txts = [] := by
    simp only [u3, fput_tim, tim]
  have mbx3 : u3.hif.mbxCmd = none := by
    simp only [u3, fput_hif]
    exact mbx
  clear_value u3
  have mbx4 : u4.hif.mbxCmd = none := by
    simp only [u4]
    split
    · rw [(same_abortOp _).part .hif (by decide)]
      exact mbx3
    · exact mbx3
  have txts4 : u4.tim.txts = [] := by
    simp only [u4]
    split
    · rw [(same_abortOp _).part .tim (by decide)]
      exact txts
    · exact txts
  clear_value u4
  have mbx6 : u6.hif.mbxCmd = none := by
    simp only [u6, u5]
    rw [rput_hif, (same_resetRegs _ _).part .hif (by decide), (same_clearVectors _).part .hif (by decide)]
    exact mbx4
  have txts6 : u6.tim.txts = [] := by
    simp only [u6, u5]
    rw [rput_tim, (same_resetRegs _ _).part .tim (by decide), (same_clearVectors _).part .tim (by decide)]
    exact txts4
  have link6 : rget u6 A.HIF_LINK = 0 := rget_rput_same _ _ _
  clear_value u6
  refine ⟨?_, ?_, ?_, ?_, ?_, ?_⟩
  · rw [freeCells_hif, raise_hif, forBits_hif]
    exact mbx6
  · rw [freeCells_hif, raise_hif, forBits_hif]
  · rw [freeCells_hif, raise_hif, forBits_hif]
  · rw [freeCells_hif, raise_hif, forBits_hif]
  · rw [freeCells_tim, raise_tim, forBits_tim]
    exact txts6
  · rw [rget_freeCells, rget_raise _ _ _ _ _ (by decide), rget_forBits_ne _ _ (by decide)]
    exact link6

theorem hostLoss_reset {cause : HostLoss} {s : State} (asleep : cause = .d3hotToD0 → s.hif.d3hot = true) :
    FunctionReset (hostLoss cause s) ∧ (cause ≠ .d3hotToD0 → (hostLoss cause s).hif.dlActive = false) := by
  unfold hostLoss
  rw [if_neg (fun h => h.2 (asleep h.1))]
  extract_lets u g v w
  obtain ⟨mbx, d3, bus, unmasked, txts, link⟩ : FunctionReset u := functionReset_functionReset _
  clear_value u
  split
  next h => exact ⟨⟨mbx, d3, bus, unmasked, txts, link⟩, fun n => absurd h n⟩
  next =>
    split
    · exact ⟨⟨mbx, d3, bus, unmasked, txts, link⟩, fun _ => rfl⟩
    · exact ⟨⟨mbx, d3, bus, unmasked, txts, link⟩, fun _ => rfl⟩

/-! ### The link comes up -/

/-- The registers that show a link that is up, as the host has configured it. -/
def linkShown (speed width : Nat) (c : PcieCfg) (s : State) : State :=
  fput F.PIN_CLK_STATUS_PCIE_OK 1 (fput F.HIF_LINK_MSIX_EN (b2n c.msixEn) (fput F.HIF_LINK_FN_MASK (b2n c.fnMask)
    (fput F.HIF_LINK_LINK_UP 1 (fput F.HIF_LINK_SPEED speed (fput F.HIF_LINK_WIDTH width s)))))

theorem sendPending_hif (s : State) : ∃ p q, (sendPending s).hif = { s.hif with pba := p, sent := q } := by
  unfold sendPending
  split
  · exact ⟨_, _, rfl⟩
  · exact ⟨_, _, rfl⟩

theorem sendPending_regs (s : State) : (sendPending s).regs = s.regs := by
  unfold sendPending
  split <;> rfl

/-- The function as the host configures it (R154, R180, R619). -/
def linkConfigured (c : PcieCfg) (s : State) : State :=
  { s with hif := { s.hif with busMaster := c.busMaster, mps := c.mps, mrrs := c.mrrs, dlActive := true } }

theorem linkConfigured_regs (c : PcieCfg) (s : State) : (linkConfigured c s).regs = s.regs := rfl

theorem hostLinkUp_eq (speed width : Nat) (c : PcieCfg) (s : State) :
    hostLinkUp speed width c s = sendPending (linkConfigured c (linkShown speed width c s)) := rfl

theorem rget_hostLinkUp (speed width : Nat) (c : PcieCfg) (s : State) (r : Nat) :
    rget (hostLinkUp speed width c s) r = rget (linkShown speed width c s) r := by
  rw [hostLinkUp_eq]
  exact rget_congr ((sendPending_regs _).trans (linkConfigured_regs c _)) r

theorem linkShown_dp (speed width : Nat) (c : PcieCfg) (s : State) : (linkShown speed width c s).dp = s.dp := by
  simp [linkShown]

/-- The fields of HIF_LINK lie apart. -/
theorem fget_linkShown {speed width : Nat} (c : PcieCfg) (s : State) (hs : speed < 16) (hw : width < 64) :
    fget (linkShown speed width c s) F.HIF_LINK_LINK_UP = 1 ∧ fget (linkShown speed width c s) F.HIF_LINK_SPEED = speed ∧
      fget (linkShown speed width c s) F.HIF_LINK_WIDTH = width ∧
      fget (linkShown speed width c s) F.HIF_LINK_MSIX_EN = b2n c.msixEn ∧
      fget (linkShown speed width c s) F.HIF_LINK_FN_MASK = b2n c.fnMask ∧
      fget (linkShown speed width c s) F.PIN_CLK_STATUS_PCIE_OK = 1 := by
  have bit (b : Bool) : b2n b % 2 = b2n b := by cases b <;> rfl
  unfold linkShown
  simp (disch := decide) only [fget_fput_apart, fget_fput_same]
  simp only [F.HIF_LINK_LINK_UP, F.HIF_LINK_SPEED, F.HIF_LINK_WIDTH, F.HIF_LINK_MSIX_EN, F.HIF_LINK_FN_MASK,
    F.PIN_CLK_STATUS_PCIE_OK]
  exact ⟨rfl, Nat.mod_eq_of_lt hs, Nat.mod_eq_of_lt hw, bit _, bit _, rfl⟩

theorem link_bounds {dt speed width : Nat} {cfg : PcieCfg} (w : wellFormed (.hostLinkUp dt speed width cfg) = true) :
    speed < 16 ∧ width < 64 := by
  simp only [wellFormed, Bool.and_eq_true, decide_eq_true_eq, List.contains_iff_mem, List.mem_cons, List.not_mem_nil, or_false] at w
  omega

/-- Settles O18: what each reset leaves (`warmOp_spec`, `warmDone_spec`, `functionReset_functionReset`, `hostLoss_reset`), and what
the link's registers show. -/
theorem warmAndFunctionResets : Obligations.WarmAndFunctionResets := by
  unfold Obligations.WarmAndFunctionResets
  refine ⟨?_, ?_, ?_, ?_, ?_, ?_⟩
  · intro s ready idle
    obtain ⟨t, run, st⟩ := hostCmd_settles (c := .warmReset) (f := warmOp) rfl rfl ready
    obtain ⟨busy, hearths, load⟩ := warmOp_spec idle
    exact ⟨t, run, st.glb_warmBusy.trans busy, st.glb_hearthRst.trans hearths, (congrArg Frg.load st.frg).trans load⟩
  · intro dt s free busy
    obtain ⟨t, run, st⟩ := timed_settles (c := .warmResetComplete dt) (f := fun u => freeCells (warmDone u)) rfl rfl ⟨free, rfl⟩
    obtain ⟨done, waking⟩ := warmDone_spec busy
    refine ⟨t, run, ?_, fun asked => ?_⟩
    · rw [st.glb_warmBusy, freeCells_glb, done]
    · rw [st.glb_base, freeCells_glb, waking asked]
  · intro s free
    obtain ⟨t, run, st⟩ := command_settles (c := .functionLevelReset) (f := functionReset) rfl rfl free
    obtain ⟨mbx, d3, bus, unmasked, txts, -⟩ := functionReset_functionReset s
    have same := same_functionReset s
    exact ⟨t, run, st.hif_mbxCmd.trans mbx, st.hif_d3hot.trans d3, st.hif_busMaster.trans bus, st.hif_unmasked.trans unmasked,
      (congrArg Tim.txts st.tim).trans txts, st.phs.trans (same.part .phs (by decide)), st.fry.trans (same.part .fry (by decide)),
      st.pin.trans (same.part .pin (by decide)), st.prt.trans (same.part .prt (by decide))⟩
  · intro cause s free asleep
    obtain ⟨t, run, st⟩ := command_settles (c := .hostLinkLoss cause) (f := hostLoss cause) rfl rfl free
    obtain ⟨⟨mbx, d3, bus, unmasked, txts, link⟩, down⟩ := hostLoss_reset asleep
    have same := same_hostLoss cause s
    have dark (f : Fld) (h : f.addr = A.HIF_LINK) : fget t f = 0 := by
      unfold fget
      rw [h, st.reg _ (by decide), link]
      simp [bits]
    exact ⟨t, run, st.hif_mbxCmd.trans mbx, st.hif_d3hot.trans d3, st.hif_busMaster.trans bus, st.hif_unmasked.trans unmasked,
      (congrArg Tim.txts st.tim).trans txts, st.phs.trans (same.part .phs (by decide)), st.fry.trans (same.part .fry (by decide)),
      st.pin.trans (same.part .pin (by decide)), st.prt.trans (same.part .prt (by decide)),
      fun n => ⟨st.hif_dlActive.trans (down n), dark _ rfl, dark _ rfl, dark _ rfl⟩⟩
  · intro s free
    obtain ⟨t, run, st⟩ := command_settles (c := .d3hotEntry) (f := fun u => { u with hif := { u.hif with d3hot := true } }) rfl rfl free
    exact ⟨t, run, st.hif_d3hot, st.mem, st.dp, st.tab, st.frg, fun r hr => (st.reg r hr).trans (rget_congr rfl r)⟩
  · intro dt speed width cfg s w free
    obtain ⟨t, run, st⟩ := timed_settles (c := .hostLinkUp dt speed width cfg) (f := hostLinkUp speed width cfg) rfl w ⟨free, rfl⟩
    obtain ⟨p, q, hif⟩ := sendPending_hif (linkConfigured cfg (linkShown speed width cfg (passTime dt s)))
    obtain ⟨hspeed, hwidth⟩ := link_bounds w
    obtain ⟨up, sp, wd, en, mask, pcie⟩ := fget_linkShown cfg (passTime dt s) hspeed hwidth
    have fields (f : Fld) (h : f.addr ∉ settleRegs) : fget t f = fget (linkShown speed width cfg (passTime dt s)) f :=
      (st.fget h).trans (fget_congr (rget_hostLinkUp speed width cfg _ _))
    rw [hostLinkUp_eq] at st
    refine ⟨t, run, (fields _ (by decide)).trans up, (fields _ (by decide)).trans sp, (fields _ (by decide)).trans wd,
      (fields _ (by decide)).trans en, (fields _ (by decide)).trans mask, (fields _ (by decide)).trans pcie, ?_, ?_, ?_, ?_, ?_⟩
    · rw [st.hif_busMaster, hif, linkConfigured]
    · rw [st.hif_mps, hif, linkConfigured]
    · rw [st.hif_mrrs, hif, linkConfigured]
    · rw [st.hif_dlActive, hif, linkConfigured]
    · rw [st.dp, (same_sendPending _).part .dp (by decide), linkConfigured, linkShown_dp]

end Machine
end Sys2Proof
end

section
/-! PROOF. Proofs/HostFrames.lean: the registers that host commands acting at once leave as they are (O12). -/
namespace Sys2Proof
namespace Machine

/-! ### Operations that write listed registers only -/

/-- The registers that an access error writes. -/
def errorRegs : List Nat := [A.HIF_ACC_ERR_STAT, A.HIF_ACC_ERR_ADDR, A.HIF_ACC_ERR_COUNT, A.HIF_INT_STAT]

/-- From `s` to `t` no register changes but those of `L`, those of an access error and those the end of a command writes. -/
def Writes (L : List Nat) (s t : State) : Prop :=
  ∀ r, r ∉ settleRegs → r ∉ errorRegs → r ∉ L → rget t r = rget s r

namespace Writes
variable {L : List Nat} {s t u : State}

theorem of_regs (h : t.regs = s.regs) : Writes L s t := fun r _ _ _ => rget_congr h r

theorem refl (s : State) : Writes L s s := of_regs rfl

theorem trans (h : Writes L s t) (h' : Writes L t u) : Writes L s u :=
  fun r a b c => (h' r a b c).trans (h r a b c)

theorem regs {t : State} (w : Writes L s u) (h : t.regs = u.regs) : Writes L s t := w.trans (of_regs h)

theorem rput {a v : Nat} (w : Writes L s u) (ha : a ∈ L) : Writes L s (rput a v u) := by
  intro r x y c
  have ne : a ≠ r := fun e => c (e ▸ ha)
  rw [rget_rput_ne _ _ ne, w r x y c]

theorem rput_settle {a v : Nat} (w : Writes L s u) (ha : a ∈ settleRegs) : Writes L s (Machine.rput a v u) := by
  intro r x y c
  have ne : a ≠ r := fun e => x (e ▸ ha)
  rw [rget_rput_ne _ _ ne, w r x y c]

theorem fput {f : Fld} {v : Nat} (w : Writes L s u) (ha : f.addr ∈ L) : Writes L s (fput f v u) := by
  intro r x y c
  have ne : f.addr ≠ r := fun e => c (e ▸ ha)
  rw [rget_fput_ne _ _ ne, w r x y c]

theorem raise {c k a b : Nat} (w : Writes L s u) : Writes L s (raise c k a b u) := by
  intro r x y z
  have ne : r ≠ A.GBK_INT_STAT := fun e => x (e ▸ by decide)
  rw [rget_raise _ _ _ _ _ ne, w r x y z]

theorem bumpN {g i n : Nat} (w : Writes L s u) : Writes L s (bumpN g i n u) := w.regs (by simp)

theorem accErr {b : Bool} {k off : Nat} (w : Writes L s u) : Writes L s (accErr b k off u) := by
  intro r hs he hl
  rw [← w r hs he hl]
  apply rget_accErr
  intro hr
  simp only [accRegs, List.mem_cons, List.not_mem_nil, or_false] at hr
  simp only [errorRegs, List.mem_cons, List.not_mem_nil, or_false, not_or] at he
  obtain ⟨h1, h2, h3, h4⟩ := he
  rcases hr with h | h | h | h | h
  · exact h1 h
  · exact h2 h
  · exact h3 h
  · exact h4 h
  · exact hs (h ▸ by decide)

theorem foldl {β : Type} {f : State → β → State} (h : ∀ s x, Writes L s (f s x)) (l : List β) (s : State) :
    Writes L s (l.foldl f s) := by
  induction l generalizing s with
  | nil => exact refl s
  | cons x l ih => exact (h s x).trans (ih _)

end Writes

/-! ### The operations -/

variable (s : State)

theorem Writes.lockedWrite {s : State} {L : List Nat} {u : State} {a : Nat} (w : Writes L s u) : Writes L s (lockedWrite a u) := w.accErr

theorem writes_wakeMs (v : Nat) : Writes [A.GLB_WAKE_MS] s (writeRw A.GLB_WAKE_MS v (keepInForce A.GLB_WAKE_MS s)) :=
  .rput (.of_regs rfl) (.head _)

theorem writes_vecEoi (v : Nat) : Writes [] s (vecEoi v s) := by
  have hn : bits v 0 7 / 32 < 4 := by
    have : bits v 0 7 < 128 := by simpa [bits] using Nat.mod_lt v (by decide : 0 < 128)
    omega
  refine (Writes.refl s).rput_settle ?_
  generalize bits v 0 7 / 32 = n at hn
  interval_cases n <;> decide

theorem Writes.sendPending {s : State} {L : List Nat} {u : State} (w : Writes L s u) : Writes L s (sendPending u) :=
  w.regs (sendPending_regs u)

theorem writes_unmask (v : Option Nat) : Writes [A.HIF_LINK] s (unmask v s) := by
  unfold unmask
  split
  · exact .sendPending (.fput (.refl s) (.head _))
  · split
    · exact .refl s
    · exact Writes.sendPending (.of_regs rfl)

theorem writes_tablePut (k v : Nat) : Writes [A.HIF_LINK] s (tablePut k v s) := by
  unfold tablePut
  split
  · split
    · exact .of_regs rfl
    · exact writes_unmask s _
  · exact .of_regs rfl

theorem writes_cfgPut (r : CfgReg) (v : Nat) : Writes [A.HIF_LINK] s (cfgPut r v s) := by
  cases r
  case msixControl =>
    exact .sendPending (.fput (.fput (.refl s) (.head _)) (.head _))
  all_goals exact .of_regs rfl

theorem writes_pciAccess (a : PciAccess) : Writes [A.HIF_LINK] s (pciAccess a s) := by
  unfold pciAccess
  extract_lets _ shown
  have view (l : List Nat) : Writes [A.HIF_LINK] s (shown l) := .of_regs rfl
  clear_value shown
  cases a <;> dsimp only
  case unmask v => exact writes_unmask s v
  case tableWrite k v => split; exacts [.refl s, writes_tablePut s _ _]
  case cfgRead r => exact view _
  case cfgWrite r v => exact writes_cfgPut s r _
  all_goals split <;> exact view _

theorem writes_latchTime {L : List Nat} (a t : Nat) (h0 : a ∈ L) (h4 : a + 4 ∈ L) (h8 : a + 8 ∈ L) (h12 : a + 12 ∈ L) :
    Writes L s (latchTime a t s) :=
  .rput (.rput (.rput (.rput (.refl s) h0) h4) h8) h12

theorem writes_latchInstant {L : List Nat} (a x : Nat) (h0 : a ∈ L) (h4 : a + 4 ∈ L) (h8 : a + 8 ∈ L) :
    Writes L s (latchInstant a x s) :=
  .rput (.rput (.rput (.refl s) h0) h4) h8

theorem writes_latchTimeOp :
    Writes [A.TIM_CMD_STATUS, A.TIM_LAT_SEC_HI, A.TIM_LAT_SEC_LO, A.TIM_LAT_NS, A.TIM_LAT_FRAC] s (latchTimeOp s) :=
  (writes_latchTime s A.TIM_LAT_SEC_HI _ (by decide) (by decide) (by decide) (by decide)).fput (by decide)

theorem writes_latchPhaseOp :
    Writes [A.PHS_CMD_STATUS, A.PHS_LAT_SEC_HI, A.PHS_LAT_SEC_LO, A.PHS_LAT_NS, A.PHS_LAT_FRAC, A.PHS_LAT_CYCLE_HI,
      A.PHS_LAT_CYCLE_LO, A.PHS_LAT_PHASE] s (latchPhaseOp s) := by
  unfold latchPhaseOp
  have instant := writes_latchInstant s A.PHS_LAT_CYCLE_HI (phaseInstant s) (L := [A.PHS_CMD_STATUS, A.PHS_LAT_SEC_HI, A.PHS_LAT_SEC_LO,
    A.PHS_LAT_NS, A.PHS_LAT_FRAC, A.PHS_LAT_CYCLE_HI, A.PHS_LAT_CYCLE_LO, A.PHS_LAT_PHASE]) (by decide) (by decide) (by decide)
  have time := writes_latchTime (latchInstant A.PHS_LAT_CYCLE_HI (phaseInstant s) s) A.PHS_LAT_SEC_HI s.tim.t (L := [A.PHS_CMD_STATUS,
    A.PHS_LAT_SEC_HI, A.PHS_LAT_SEC_LO, A.PHS_LAT_NS, A.PHS_LAT_FRAC, A.PHS_LAT_CYCLE_HI, A.PHS_LAT_CYCLE_LO, A.PHS_LAT_PHASE])
    (by decide) (by decide) (by decide) (by decide)
  exact (instant.trans time).fput (by decide)

theorem writes_setCycleOp : Writes [A.PHS_CMD_STATUS] s (setCycleOp s) := by
  unfold setCycleOp
  split
  · exact (Writes.refl s).fput (.head _)
  · exact .fput (.fput (.of_regs rfl) (.head _)) (.head _)

theorem writes_writeUtcOffset (v : Nat) : Writes [A.TIM_UTC_OFFSET] s (writeUtcOffset v s) :=
  .raise (.rput (.refl s) (.head _))

theorem writes_tblTake {L : List Nat} (c : Nat) : Writes L s (tblTake c s) := by
  unfold tblTake
  split <;> exact .of_regs rfl

theorem writes_tblIssue (op t h : Nat) (bank : Bool) (c : Nat) : Writes [A.TBL_STATUS c] s (tblIssue op t h bank c s) := by
  unfold tblIssue
  split
  · exact .lockedWrite (.fput (.refl s) (.head _))
  · extract_lets u
    have w : Writes [A.TBL_STATUS c] s u :=
      Writes.regs (u := fput (F.TBL_STATUS_OVERRUN c) 0 (fput (F.TBL_STATUS_BUSY c) 1 s))
        (.fput (.fput (.refl s) (.head _)) (.head _)) rfl
    clear_value u
    split
    · exact w.trans (writes_tblTake _ _)
    · exact w

theorem writes_tmplIssue (op i : Nat) : Writes [A.FRY_TMPL_STATUS] s (tmplIssue op i s) := by
  unfold tmplIssue
  split
  · exact .lockedWrite (.fput (.refl s) (.head _))
  · exact Writes.regs (u := fput F.FRY_TMPL_STATUS_OVERRUN 0 (fput F.FRY_TMPL_STATUS_BUSY 1 s))
      (.fput (.fput (.refl s) (.head _)) (.head _)) rfl

theorem writes_porStart (op pool owner : Nat) : Writes [A.POR_CMD_STATUS] s (porStart op pool owner s) := by
  unfold porStart
  split
  · exact .lockedWrite (.fput (.refl s) (.head _))
  · exact .fput (.fput (.of_regs rfl) (.head _)) (.head _)

theorem writes_stopChan (d : DryChan) : Writes [dryBase d + 8] s (stopChan d s) := by
  unfold stopChan
  dsimp only
  split
  · exact (Writes.refl s).fput (.head _)
  · exact .refl s

theorem writes_captureCounter (v : Nat) : Writes [A.TAL_RD_SEL, A.TAL_RD_HI, A.TAL_RD_LO] s (captureCounter v s) := by
  unfold captureCounter
  extract_lets g i ok n u
  exact .rput (.rput (.rput (.refl s) (by decide)) (by decide)) (by decide)

theorem writes_captureRecord (v : Nat) :
    Writes (A.GBK_RD_SEQ :: A.GBK_RD_STATUS :: (List.range 8).map A.GBK_RD_W) s (captureRecord v s) := by
  have words (l : List Byte) (u : State) :
      Writes (A.GBK_RD_SEQ :: A.GBK_RD_STATUS :: (List.range 8).map A.GBK_RD_W) u (putWords (A.GBK_RD_W 0) l u) := by
    intro r _ _ hr
    unfold putWords
    have step (k : Nat) (hk : k ∈ List.range 8) (x : State) : rget (rput (A.GBK_RD_W 0 + 4 * k) (leAt l (4 * k) 4) x) r = rget x r := by
      refine rget_rput_ne _ _ fun e => hr ?_
      refine .tail _ (.tail _ (List.mem_map.2 ⟨k, hk, ?_⟩))
      simp only [A.GBK_RD_W] at e ⊢
      omega
    generalize List.range 8 = ks at step
    induction ks generalizing u with
    | nil => rfl
    | cons k ks ih =>
      rw [List.foldl_cons, ih _ (fun k hk => step k (.tail _ hk)), step k (.head _)]
  unfold captureRecord
  extract_lets u
  have w : Writes (A.GBK_RD_SEQ :: A.GBK_RD_STATUS :: (List.range 8).map A.GBK_RD_W) s u := (Writes.refl s).rput (.head _)
  clear_value u
  split
  · exact (w.trans (words _ _)).fput (.tail _ (.head _))
  · exact w.fput (.tail _ (.head _))

theorem writes_missSpill {L : List Nat} (r : GbkRecord) : Writes L s (missSpill r s) := by
  unfold missSpill
  split
  · exact (Writes.of_regs rfl).bumpN
  · exact .refl s

theorem writes_clearLog {L : List Nat} (op : Nat) (want : GbkRecord → Bool) : Writes L s (clearLog op want s) := by
  unfold clearLog
  extract_lets p gone u _ v
  have w : Writes L s v := (Writes.foldl (fun x r => writes_missSpill x r) gone s).trans (.of_regs rfl)
  clear_value v
  exact w.bumpN.raise

theorem writes_mbxDoorbell (op tag len : Nat) : Writes [A.HIF_MBX_STATUS] s (mbxDoorbell op tag len s) := by
  unfold mbxDoorbell
  split
  · exact .accErr (.fput (.refl s) (.head _))
  · exact .fput (.fput (.of_regs rfl) (.head _)) (.head _)

theorem writes_writeFabSelf (v : Nat) : Writes [A.FAB_SELF] s (writeFabSelf v s) := by
  unfold writeFabSelf
  extract_lets id
  split
  · exact (Writes.refl s).rput (.head _)
  · split
    · exact .fput (.of_regs rfl) (.head _)
    · exact (Writes.refl s).lockedWrite

theorem writes_fenceResult {L : List Nat} {u : State} (w : Writes L s u) (r : Nat) (h : A.HLT_FENCE_STATUS ∈ L) : Writes L s (fenceResult r u) := w.rput h

theorem writes_unfenceOp (h : Nat) : Writes [A.HLT_FENCE, A.HLT_FENCE_STATUS] s (unfenceOp h s) := by
  unfold unfenceOp
  split
  · exact writes_fenceResult s (.refl s) _ (by decide)
  · split
    · exact writes_fenceResult s (.refl s) _ (by decide)
    · exact .raise (.bumpN (writes_fenceResult s (.rput (.refl s) (by decide)) _ (by decide)))

theorem writes_setI2c (i : Nat) (x : I2c) : Writes [A.PIN_I2C_STATUS i] s (setI2c i x s) := by
  unfold setI2c
  extract_lets _ u
  have w : Writes [A.PIN_I2C_STATUS i] s u := by unfold u; split <;> exact .of_regs rfl
  clear_value u
  exact .fput (.fput w (.head _)) (.head _)

/-- A byte is read from the receive FIFO of controller `i` (R756). -/
def i2cTake (i : Nat) (s : State) : State :=
  { (i2cPop i s).2 with hif := { (i2cPop i s).2.hif with readData := [(i2cPop i s).1] } }

theorem writes_i2cTake (i : Nat) : Writes [A.PIN_I2C_STATUS i] s (i2cTake i s) :=
  Writes.regs (u := (i2cPop i s).2) (writes_setI2c s i _) rfl

theorem writes_i2cPush (i v : Nat) : Writes [A.PIN_I2C_STATUS i] s (i2cPush i v s) := by
  unfold i2cPush
  dsimp only
  split
  · exact .lockedWrite (.fput (.refl s) (.head _))
  · split
    · exact (Writes.refl s).lockedWrite
    · exact writes_setI2c s i _

theorem writes_mdioStart (op phy reg c45 : Nat) : Writes [A.PIN_MDIO_STATUS] s (mdioStart op phy reg c45 s) := by
  unfold mdioStart
  split
  · exact .lockedWrite (.fput (.refl s) (.head _))
  · exact .fput (.fput (.of_regs rfl) (.head _)) (.head _)

/-! ### The commands -/

variable {s}

theorem writes_of_hostCmd {c : Instr} {a : Nat} {t : State} {f : State → State} {L : List Nat} (e : exec c s = hostCmd c a s f) (run : exec c s = .next t)
    (w : Writes L s (f s)) : Writes L s t := fun r h n l => rget_hostCmd (e ▸ run) h n (w r h n l)

theorem writes_of_hostRead {c : Instr} {t : State} {f : State → State} {L : List Nat} (e : exec c s = hostRead c s f) (run : exec c s = .next t)
    (w : Writes L s (f s)) : Writes L s t := fun r h n l => rget_hostRead (e ▸ run) h (w r h n l)

theorem writes_of_command {c : Instr} {t : State} {f : State → State} {L : List Nat} (e : exec c s = command c s f) (run : exec c s = .next t)
    (w : Writes L s (f s)) : Writes L s t := fun r h n l => rget_command (e ▸ run) h (w r h n l)

/-- Settles O12: each command is one operation on the state, which writes the registers named for it (`Writes`). -/
theorem hostCommandsKeepOtherRegisters : Obligations.HostCommandsKeepOtherRegisters := by
  unfold Obligations.HostCommandsKeepOtherRegisters
  intro v h i j k d a b c L s t listed run r hs hl he
  suffices Writes L s t from this r hs he hl
  clear r hs hl he
  simp only [List.mem_cons, List.not_mem_nil, or_false, Prod.mk.injEq] at listed
  rcases listed with ⟨rfl, rfl⟩ | ⟨rfl, rfl⟩ | ⟨rfl, rfl⟩ | ⟨rfl, rfl⟩ | ⟨rfl, rfl⟩ | ⟨rfl, rfl⟩ | ⟨rfl, rfl⟩ | ⟨rfl, rfl⟩ |
    ⟨rfl, rfl⟩ | ⟨rfl, rfl⟩ | ⟨rfl, rfl⟩ | ⟨rfl, rfl⟩ | ⟨rfl, rfl⟩ | ⟨rfl, rfl⟩ | ⟨rfl, rfl⟩ | ⟨rfl, rfl⟩ | ⟨rfl, rfl⟩ |
    ⟨rfl, rfl⟩ | ⟨rfl, rfl⟩ | ⟨rfl, rfl⟩ | ⟨rfl, rfl⟩ | ⟨rfl, rfl⟩ | ⟨rfl, rfl⟩ | ⟨rfl, rfl⟩ | ⟨rfl, rfl⟩ | ⟨rfl, rfl⟩ |
    ⟨rfl, rfl⟩ | ⟨rfl, rfl⟩
  · exact writes_of_hostCmd (f := fun s => writeRw A.GLB_WAKE_MS v.toNat (keepInForce A.GLB_WAKE_MS s)) rfl run (writes_wakeMs s _)
  · exact writes_of_hostCmd (f := vecEoi v.toNat) rfl run (writes_vecEoi s _)
  · exact writes_of_command (f := pciAccess a) rfl run (writes_pciAccess s _)
  · exact writes_of_hostCmd (f := latchTimeOp) rfl run (writes_latchTimeOp s)
  · exact writes_of_hostCmd (f := writeUtcOffset v.toNat) rfl run (writes_writeUtcOffset s _)
  · exact writes_of_hostRead (f := txtsPop) rfl run (.of_regs rfl)
  · exact writes_of_hostCmd (f := latchPhaseOp) rfl run (writes_latchPhaseOp s)
  · exact writes_of_hostCmd (f := setCycleOp) rfl run (writes_setCycleOp s)
  · exact writes_of_hostRead (f := notePop h) rfl run (.of_regs rfl)
  · exact writes_of_hostRead (f := excCapRead h) rfl run (.rput (.of_regs rfl) (.head _))
  · exact writes_of_hostCmd (f := tblIssue 1 j h b i) rfl run (writes_tblIssue s _ _ _ _ _)
  · exact writes_of_hostCmd (f := tmplIssue 1 i) rfl run (writes_tmplIssue s _ _)
  · exact writes_of_hostCmd (f := porStart 1 i j) rfl run (writes_porStart s _ _ _)
  · exact writes_of_hostCmd (f := porStart 2 0 i) rfl run (writes_porStart s _ _ _)
  · exact writes_of_hostCmd (f := porStart 3 0 i) rfl run (writes_porStart s _ _ _)
  · exact writes_of_hostCmd (f := porStart 4 0 0) rfl run (writes_porStart s _ _ _)
  · exact writes_of_hostCmd (f := stopChan d) rfl run (writes_stopChan s d)
  · exact writes_of_hostCmd (f := clearGroups (selector v.toNat)) rfl run (.of_regs rfl)
  · exact writes_of_hostCmd (f := captureCounter v.toNat) rfl run (writes_captureCounter s _)
  · exact writes_of_hostCmd (f := captureRecord v.toNat) rfl run (writes_captureRecord s _)
  · exact writes_of_hostCmd (f := gbkClearOp) rfl run (writes_clearLog s _ _)
  · exact writes_of_hostCmd (f := gbkClearAllOp) rfl run (writes_clearLog s _ _)
  · exact writes_of_hostCmd (f := mbxDoorbell opPing i j) rfl run (writes_mbxDoorbell s _ _ _)
  · exact writes_of_hostCmd (f := writeFabSelf v.toNat) rfl run (writes_writeFabSelf s _)
  · exact writes_of_hostCmd (f := unfenceOp h) rfl run (writes_unfenceOp s h)
  · exact writes_of_hostRead (f := i2cTake i) rfl run (writes_i2cTake s i)
  · exact writes_of_hostCmd (f := i2cPush i v.toNat) rfl run (writes_i2cPush s _ _)
  · exact writes_of_hostCmd (f := mdioStart 1 j k 0) rfl run (writes_mdioStart s _ _ _ _)

end Machine
end Sys2Proof
end

section
/-! PROOF. Proofs/Loader.lean: the loader's state and how loads begin (O19). -/
namespace Sys2Proof
namespace Machine

/-! ### A register that one value stands for

`loadRegs` rewrites every register from the list that holds them. A register that no Forging sets keeps its value there if the
list holds it once, as it does after any write. -/

/-- Register `a` has one value in the list of registers. -/
def OneValue (a : Nat) (s : State) : Prop := ∀ e ∈ s.regs, e.1 = a → e.2.toNat = rget s a

theorem OneValue.of_regs {a : Nat} {s t : State} (h : OneValue a s) (e : t.regs = s.regs) : OneValue a t := by
  intro x hx hxa
  rw [rget_congr e]
  exact h x (e ▸ hx) hxa

theorem oneValue_rput_same (a v : Nat) (s : State) : OneValue a (rput a v s) := by
  intro e he hea
  simp only [rput, sput] at he
  split at he
  · rw [mem_sdel] at he
    exact absurd hea he.2
  · rw [mem_sins, mem_sdel] at he
    rcases he with rfl | ⟨-, h⟩
    · unfold rget rput
      rw [sget_sput_same]
    · exact absurd hea h

theorem OneValue.rput {a b v : Nat} {s : State} (h : OneValue a s) (ne : b ≠ a) : OneValue a (rput b v s) := by
  intro e he hea
  rw [rget_rput_ne _ _ ne]
  simp only [Machine.rput, sput] at he
  split at he
  · rw [mem_sdel] at he
    exact h e he.1 hea
  · rw [mem_sins, mem_sdel] at he
    rcases he with rfl | ⟨he, -⟩
    · exact absurd hea ne
    · exact h e he hea

theorem OneValue.fput {a : Nat} {f : Fld} {v : Nat} {s : State} (h : OneValue a s) (ne : f.addr ≠ a) : OneValue a (fput f v s) :=
  h.rput ne

theorem oneValue_fput_same (f : Fld) (v : Nat) (s : State) : OneValue f.addr (fput f v s) := oneValue_rput_same _ _ _

theorem OneValue.foldl {a : Nat} {β : Type} {f : State → β → State} (k : ∀ s x, OneValue a s → OneValue a (f s x)) (l : List β)
    {s : State} (h : OneValue a s) : OneValue a (l.foldl f s) := by
  induction l generalizing s with
  | nil => exact h
  | cons x l ih => exact ih (k s x h)

/-- A fold of writes that each leave register `a` at its value leaves it. -/
theorem rget_foldl_rput {β : Type} {a : Nat} {addr : β → Nat} {val : State → β → Nat} (l : List β) {n : Nat} {s : State}
    (hs : rget s a = n) (h : ∀ t, rget t a = n → ∀ x ∈ l, addr x = a → val t x % 2 ^ 32 = n) :
    rget (l.foldl (fun s x => rput (addr x) (val s x) s) s) a = n := by
  induction l generalizing s with
  | nil => exact hs
  | cons x l ih =>
    refine ih ?_ (fun t ht y hy => h t ht y (.tail _ hy))
    by_cases e : addr x = a
    · subst e
      rw [rget_rput_same]
      exact h s hs x (.head _) rfl
    · rw [rget_rput_ne _ _ e]
      exact hs

/-- A register that no Forging sets keeps its value where registers are loaded. -/
theorem rget_loadRegs {a : Nat} {s : State} (p : Nat → Bool) (vals : List (Nat × Nat)) (one : OneValue a s)
    (mask : forgingMask a = 0) : rget (loadRegs p vals s) a = rget s a := by
  have full_and (n : Nat) (h : n < 2 ^ 32) : n &&& (full ^^^ 0) = n := by
    rw [show full ^^^ 0 = 2 ^ 32 - 1 from rfl, Nat.and_two_pow_sub_one_eq_mod, Nat.mod_eq_of_lt h]
  have small : rget s a < 2 ^ 32 := BitVec.isLt _
  unfold loadRegs
  apply rget_foldl_rput
  · apply rget_foldl_rput
    · rfl
    · rintro t - e he rfl
      rw [mask, full_and _ e.2.isLt, one e (List.mem_of_mem_filter he) rfl, Nat.mod_eq_of_lt small]
  · rintro t ht e - rfl
    rw [mask, ht, full_and _ small, Nat.and_zero, Nat.or_zero, Nat.mod_eq_of_lt small]

/-! ### The loader's state under the operations -/

/-- Parts `T` leave the loader's status register. -/
theorem Same.frgStatus {T : List Part} {s t : State} (h : Same T s t) (n : Part.low ∉ T) :
    rget t A.FRG_STATUS = rget s A.FRG_STATUS := h.rget_low n (by decide)

theorem frgState_congr {s t : State} (h : rget t A.FRG_STATUS = rget s A.FRG_STATUS) : frgState t = frgState s := fget_congr h

theorem oneValue_returnCharges {a : Nat} (ha : a < 0x80000) (p q : Nat) (c : Copy) {s : State} (h : OneValue a s) :
    OneValue a (returnCharges p q c s) := by
  unfold returnCharges
  extract_lets _ u v w x
  have hu : OneValue a u := h.of_regs rfl
  clear_value u
  have hv : OneValue a v := hu.fput (by simp only [F.TM_Q_DEPTH_DEPTH]; omega)
  have hw : OneValue a w := hv.fput (by simp only [F.TM_PORT_USED_USED]; omega)
  have hx : OneValue a x := hw.fput (by simp only [F.TM_SHARED_USED_CELLS]; omega)
  exact hx.fput (by simp only [F.TM_MGMT_USED_CELLS]; omega)

theorem oneValue_dropQueued {a : Nat} (ha : a < 0x80000) (k : Nat) (f : Copy → Bool) {s : State} (h : OneValue a s) :
    OneValue a (dropQueued k f (fun _ s => s) s) := by
  unfold dropQueued
  extract_lets l u
  have hu : OneValue a u := h.of_regs rfl
  clear_value u
  exact hu.foldl (fun _ c k => oneValue_returnCharges ha _ _ c k) _

theorem oneValue_emptyPath {a : Nat} (ha : a < 0x80000) {s : State} (h : OneValue a s) : OneValue a (emptyPath s) := by
  unfold emptyPath
  extract_lets ks u v
  have hu : OneValue a u := h.foldl (fun _ k hs => oneValue_dropQueued ha k _ hs) _
  clear_value u
  have hv : OneValue a v := by
    unfold v
    refine OneValue.foldl (fun x p hs => ?_) _ hu
    exact hs.of_regs (putPort_regs _ _ _)
  clear_value v
  exact hv.of_regs (freeCells_regs _)

/-- What a Forging given up leaves of the loader's part (R82). -/
def emptiedFrg (f : Frg) : Frg :=
  { f with bank0 := none, bank1 := none, active := none, onBank1 := [], oldBank := 0, tempering := false
           armed := none, timingNew := false, admitFrom := none }

theorem discardForging_frg (b : Nat) (s : State) : (discardForging b s).frg = emptiedFrg s.frg := by
  unfold discardForging
  extract_lets u v
  have hv : v.frg = s.frg := by
    simp only [v]
    rw [(same_verifyAll _).part .frg (by decide), (same_loadRegs _ _ _).part .frg (by decide), (same_emptyPath _).part .frg (by decide)]
  clear_value v
  rw [(same_judgeAll _).part .frg (by decide), (same_setBase _ _).part .frg (by decide), ← hv]
  rfl

theorem discardForging_base (b : Nat) (s : State) : (discardForging b s).glb.base = b := by
  unfold discardForging
  rw [(same_judgeAll _).part .base (by decide), setBase_base]

theorem discardForging_status (b : Nat) {s : State} (one : OneValue A.FRG_STATUS s) :
    rget (discardForging b s) A.FRG_STATUS = rget s A.FRG_STATUS := by
  unfold discardForging
  extract_lets u v
  have hu : rget u A.FRG_STATUS = rget s A.FRG_STATUS := (same_emptyPath s).frgStatus (by decide)
  have ou : OneValue A.FRG_STATUS u := oneValue_emptyPath (by decide) one
  clear_value u
  have hv : rget v A.FRG_STATUS = rget s A.FRG_STATUS := by
    simp only [v]
    rw [(same_verifyAll _).frgStatus (by decide), rget_loadRegs _ _ ou (by decide), hu]
  clear_value v
  rw [(same_judgeAll _).frgStatus (by decide), (same_setBase _ _).frgStatus (by decide)]
  exact hv

theorem firstByte_frg (s : State) : (firstByte s).frg = emptiedFrg s.frg := by
  unfold firstByte
  rw [(same_dropTables _).part .frg (by decide), discardForging_frg]

theorem firstByte_base (s : State) : (firstByte s).glb.base = bLoading := by
  unfold firstByte
  rw [(same_dropTables _).part .base (by decide), discardForging_base]

theorem firstByte_status {s : State} (one : OneValue A.FRG_STATUS s) : rget (firstByte s) A.FRG_STATUS = rget s A.FRG_STATUS := by
  unfold firstByte
  rw [(same_dropTables _).frgStatus (by decide), discardForging_status _ one]

/-! ### Loads open -/

theorem frgState_setFrgState {v : Nat} (s : State) (h : v < 16) : frgState (setFrgState v s) = v := by
  rw [frgState, setFrgState, fget_fput_same _ _ _ (by decide)]
  exact Nat.mod_eq_of_lt h

theorem frgResult_result (r : Nat) (s : State) : fget (frgResult r s) F.FRG_STATUS_RESULT = r % 256 :=
  fget_fput_same _ _ _ (by decide)

theorem setFrgState_result (v : Nat) (s : State) : fget (setFrgState v s) F.FRG_STATUS_RESULT = fget s F.FRG_STATUS_RESULT :=
  fget_fput_apart _ _ (by decide)

theorem openLoad_load (l : Load) (s : State) : (openLoad l s).frg = { s.frg with load := some l } := by
  simp [openLoad, setFrgState]

theorem openLoad_count (l : Load) (s : State) : rget (openLoad l s) A.FRG_LOAD_COUNT = 0 := rget_rput_same _ _ _

theorem openLoad_status (l : Load) (s : State) :
    rget (openLoad l s) A.FRG_STATUS = rget (setFrgState frgReceiving { s with frg := { s.frg with load := some l } }) A.FRG_STATUS :=
  rget_rput_ne _ _ (by decide)

theorem openLoad_result (l : Load) (s : State) : fget (openLoad l s) F.FRG_STATUS_RESULT = fget s F.FRG_STATUS_RESULT :=
  (fget_congr (openLoad_status l s)).trans ((setFrgState_result _ _).trans (fget_congr rfl))

theorem openLoad_state (l : Load) (s : State) : frgState (openLoad l s) = frgReceiving :=
  (frgState_congr (openLoad_status l s)).trans (frgState_setFrgState _ (by decide))

theorem oneValue_openLoad (l : Load) (s : State) : OneValue A.FRG_STATUS (openLoad l s) :=
  (oneValue_fput_same _ _ _ : OneValue A.FRG_STATUS (setFrgState frgReceiving _)).rput (by decide)

theorem startSlot_frg (k : Nat) (o : Option Nat) (s : State) :
    (startSlot k o s).frg = emptiedFrg { s.frg with load := some { shadow := false, slot := some k, other := o, bytes := flashRead s (slotOffset k) (hdTotal (slotHeader s k)) } } := by
  unfold startSlot
  extract_lets n u
  rw [firstByte_frg, rput_frg, openLoad_load]

theorem startSlot_base (k : Nat) (o : Option Nat) (s : State) : (startSlot k o s).glb.base = bLoading := firstByte_base _

theorem startSlot_state (k : Nat) (o : Option Nat) (s : State) : frgState (startSlot k o s) = frgReceiving := by
  unfold startSlot
  extract_lets n u
  have hu : frgState u = frgReceiving := openLoad_state _ _
  have ou : OneValue A.FRG_STATUS u := oneValue_openLoad _ _
  clear_value u
  rw [frgState_congr (firstByte_status (ou.rput (by decide))), frgState_congr (rget_rput_ne _ _ (by decide)), hu]

/-! ### The boot -/

theorem slotSteps_congr {s t : State} (h : t.frg.flash = s.frg.flash) (k : Nat) :
    slotSteps t k = slotSteps s k ∧ slotHeader t k = slotHeader s k := by
  have header : slotHeader t k = slotHeader s k := by simp only [slotHeader, flashRead, h]
  exact ⟨by rw [slotSteps, slotSteps, header], header⟩

theorem bootOrder_congr {s t : State} (h : t.frg.flash = s.frg.flash) : bootOrder t = bootOrder s := by
  unfold bootOrder
  simp only [slotSteps_congr h]

theorem slotDirOk_congr {s t : State} (h : t.frg.load = s.frg.load) : slotDirOk t = slotDirOk s := by
  unfold slotDirOk
  rw [h]

theorem startSlot_load_congr {s t : State} (h : t.frg.flash = s.frg.flash) (k : Nat) (o : Option Nat) :
    (startSlot k o t).frg.load = (startSlot k o s).frg.load := by
  rw [startSlot_frg, startSlot_frg]
  simp only [emptiedFrg, flashRead, h, (slotSteps_congr h k).2]

theorem bootDue_of_resets {s t : State} (h : resetsOf t = resetsOf s) : t.glb.bootDue = s.glb.bootDue :=
  congrArg (fun r => r.2.2.2.2.1) h

/-- What the boot of slot `k` leaves of the device. -/
structure Booted (k : Nat) (t : State) : Prop where
  load : ∃ l, t.frg.load = some l ∧ l.slot = some k ∧ l.shadow = false
  state : frgState t = frgReceiving
  active : t.frg.active = none
  base : t.glb.base = bLoading

/-- The boot begins with the first slot in boot order, whose directory is whole; `s` and `u` have the same flash. -/
theorem booted_bootSelect {s u : State} {k : Nat} {rest : List Nat} (flash : u.frg = s.frg)
    (order : bootOrder (readHeaders s) = k :: rest) (dir : slotDirOk (startSlot k rest.head? (readHeaders s)) = true) :
    Booted k (bootSelect u) ∧ resetsOf (bootSelect u) = resetsOf u := by
  have same : (readHeaders u).frg = (readHeaders s).frg := by
    rw [(same_readHeaders u).part .frg (by decide), (same_readHeaders s).part .frg (by decide), flash]
  have order' : bootOrder (readHeaders u) = k :: rest := (bootOrder_congr (congrArg Frg.flash same)).trans order
  have dir' : slotDirOk (startSlot k rest.head? (readHeaders u)) = true :=
    (slotDirOk_congr (startSlot_load_congr (congrArg Frg.flash same) _ _)).trans dir
  have rst : resetsOf (startSlot k rest.head? (readHeaders u)) = resetsOf u := by
    rw [(same_startSlot _ _ _).resets (by decide), (same_readHeaders u).resets (by decide)]
  unfold bootSelect startBoot
  simp only [order', dir', if_true]
  refine ⟨⟨?_, startSlot_state _ _ _, ?_, startSlot_base _ _ _⟩, rst⟩
  · exact ⟨_, congrArg Frg.load (startSlot_frg _ _ _), rfl, rfl⟩
  · rw [startSlot_frg]
    rfl

theorem Booted.settled {k : Nat} {u t : State} (h : Booted k u) (st : SettledFrom (freeCells u) t) : Booted k t := by
  have frg : t.frg = u.frg := st.frg.trans ((same_freeCells u).part .frg (by decide))
  obtain ⟨load, state, active, base⟩ := h
  exact ⟨frg ▸ load, (frgState_congr ((st.reg _ (by decide)).trans (rget_freeCells _ _))).trans state, frg ▸ active,
    st.glb_base.trans ((congrArg Glb.base (freeCells_glb u)).trans base)⟩

/-! ### Loads end early -/

theorem endLoad_spec {r : Nat} {l : Load} {s : State} (h : s.frg.load = some l) :
    frgState (endLoad r s) = frgIdle ∧ fget (endLoad r s) F.FRG_STATUS_RESULT = r % 256 ∧
      (endLoad r s).frg.active = s.frg.active := by
  unfold endLoad
  split
  next e => exact absurd (h.symm.trans e) (by simp)
  next l' e =>
  obtain rfl : l = l' := Option.some.inj (h.symm.trans e)
  extract_lets g u v
  have frg : u.frg = { s.frg with load := none } := by simp [u, g, setFrgState, frgResult]
  have act : u.frg.active = s.frg.active := by rw [frg]
  have state : frgState u = frgIdle := frgState_setFrgState _ (by decide)
  have result : fget u F.FRG_STATUS_RESULT = r % 256 := (setFrgState_result _ _).trans (frgResult_result _ _)
  clear_value u
  have status {T : List Part} {x y : State} (hx : Same T x y) (n : Part.low ∉ T) (e : rget x A.FRG_STATUS = rget u A.FRG_STATUS) :
      frgState y = frgIdle ∧ fget y F.FRG_STATUS_RESULT = r % 256 :=
    have e' := (hx.frgStatus n).trans e
    ⟨(frgState_congr e').trans state, (fget_congr e').trans result⟩
  split
  · obtain ⟨a, b⟩ := status (same_clearBank (shadowBank u) { u with frg := v }) (by decide) rfl
    refine ⟨a, b, ?_⟩
    rw [(same_clearBank _ _).part .frg (by decide)]
    exact act
  · split
    · obtain ⟨a, b⟩ := status (same_setBase bDormant (clearBank 0 u)) (by decide) ((same_clearBank 0 u).frgStatus (by decide))
      refine ⟨a, b, ?_⟩
      rw [(same_setBase _ _).part .frg (by decide), (same_clearBank _ _).part .frg (by decide), frg]
    · exact ⟨state, result, by rw [frg]⟩

/-! ### Bytes arrive -/

/-- The load's part after bytes that complete no step. -/
theorem acceptBytes_short {l : Load} {new : List Byte} {s : State} (short : (l.bytes ++ new).length < 128)
    (more : (l.bytes ++ new).length < rget s A.FRG_LOAD_LEN) :
    acceptBytes l new s = rput A.FRG_LOAD_COUNT (l.bytes ++ new).length
      { (if l.bytes = [] ∧ ¬ l.shadow then firstByte s else s) with
        frg := { (if l.bytes = [] ∧ ¬ l.shadow then firstByte s else s).frg with load := some { l with bytes := l.bytes ++ new } } } := by
  unfold acceptBytes
  extract_lets len b _ _ s2 failed s3 _
  have none : failed = none := by
    simp only [failed, earlySteps]
    rw [if_pos short]
  have placed (k : Nat) (x : State) : placeArrived k b x = x := by
    unfold placeArrived
    rw [if_pos (lt_of_lt_of_le short (le_max_left _ _))]
  have last : s3 = s2 := by
    simp only [s3, placed, ite_self]
  rw [if_neg (not_le.2 more), none, last]

/-! ### The obligation -/

theorem fullLoadOp_taken {s : State} (idle : frgState s = frgIdle) (base : s.glb.base = bDormant ∨ s.glb.base = bQuiesced) :
    fullLoadOp s = openLoad { shadow := false, slot := none, other := none, bytes := [] } (frgResult frgOk s) :=
  if_pos ⟨idle, base⟩

/-- A tempering begins beside the active Forging (R85). -/
def temperBegun (s : State) : State :=
  { s with frg := { s.frg with oldBank := bankOf s 0, tempering := true, timingNew := false } }

theorem shadowLoadOp_taken {s : State} (idle : frgState s = frgIdle) (base : s.glb.base = bRun) (safe : safeLatch s = false) :
    shadowLoadOp s = openLoad { shadow := true, slot := none, other := none, bytes := [] }
      (clearBank (1 - bankOf s 0) (frgResult frgOk (temperBegun s))) :=
  if_pos ⟨idle, base, by simp [safe]⟩

theorem abortOp_open {s : State} (isOpen : s.frg.load.isSome = true) : abortOp s = endLoad frgAborted s := if_pos isOpen

/-- The boot is no longer due. -/
def bootTaken (s : State) : State := { s with glb := { s.glb with bootDue := false } }

theorem bootFlashOp_taken {s : State} (idle : frgState s = frgIdle) (base : s.glb.base = bDormant ∨ s.glb.base = bQuiesced) :
    bootFlashOp s = freeCells (bootSelect (frgResult frgOk (bootTaken s))) := if_pos ⟨idle, base⟩

/-- The boot that is due after a cold reset (R87). -/
def dueBoot (s : State) : State :=
  if ¬ s.glb.bootDue then s
  else if frgState (bootTaken s) = frgIdle ∧ (bootTaken s).glb.base = bDormant then freeCells (bootSelect (bootTaken s)) else bootTaken s

theorem dueBoot_taken {s : State} (due : s.glb.bootDue = true) (idle : frgState s = frgIdle) (base : s.glb.base = bDormant) :
    dueBoot s = freeCells (bootSelect (bootTaken s)) := by
  have idle' : frgState (bootTaken s) = frgIdle := (frgState_congr (rget_congr rfl _)).trans idle
  rw [dueBoot, if_neg (by simp [due]), if_pos ⟨idle', base⟩]

theorem length_leBytes_four (v : Nat) : (leBytes 4 v).length = 4 := by simp [leBytes]

theorem loadPortOp_taken {a v : Nat} {l : Load} {s : State} (load : s.frg.load = some l) (shut : loadShut s l = false)
    (state : frgState s = frgReceiving) (slot : l.slot = none) (room : l.bytes.length + 4 < rget s A.FRG_LOAD_LEN) :
    loadPortOp a v s = acceptBytes l (leBytes 4 v) s := by
  unfold loadPortOp
  dsimp only
  rw [load]
  dsimp only
  rw [if_neg (by simp [state, slot, shut]), if_neg (by omega), List.take_of_length_le (by rw [length_leBytes_four]; omega)]


/-- FULL_LOAD opens a load with no bytes (R83). -/
theorem fullLoadOp_spec {s : State} (idle : frgState s = frgIdle) (base : s.glb.base = bDormant ∨ s.glb.base = bQuiesced) :
    (fullLoadOp s).frg = { s.frg with load := some { shadow := false, slot := none, other := none, bytes := [] } } ∧
      fget (fullLoadOp s) F.FRG_STATUS_RESULT = frgOk ∧ rget (fullLoadOp s) A.FRG_LOAD_COUNT = 0 := by
  rw [fullLoadOp_taken idle base]
  refine ⟨?_, (openLoad_result _ _).trans (frgResult_result _ _), openLoad_count _ _⟩
  rw [openLoad_load, frgResult, fput_frg]

/-- SHADOW_LOAD opens a load with no bytes, and a tempering (R85). -/
theorem shadowLoadOp_spec {s : State} (idle : frgState s = frgIdle) (base : s.glb.base = bRun) (safe : safeLatch s = false) :
    (shadowLoadOp s).frg =
        { (temperBegun s).frg with load := some { shadow := true, slot := none, other := none, bytes := [] } } ∧
      fget (shadowLoadOp s) F.FRG_STATUS_RESULT = frgOk ∧ rget (shadowLoadOp s) A.FRG_LOAD_COUNT = 0 ∧
      (shadowLoadOp s).glb.base = s.glb.base ∧ (shadowLoadOp s).dp = s.dp := by
  rw [shadowLoadOp_taken idle base safe]
  have same := (same_openLoad { shadow := true, slot := none, other := none, bytes := [] } _).comp (T := [.regs, .ldg, .tab, .frg, .low])
    (by decide) ((same_clearBank (1 - bankOf s 0) _).comp (by decide) ((same_frgResult frgOk (temperBegun s)).mono (by decide)))
  have status := (same_clearBank (1 - bankOf s 0) (frgResult frgOk (temperBegun s))).frgStatus (by decide)
  refine ⟨?_, ?_, openLoad_count _ _, same.part .base (by decide), same.part .dp (by decide)⟩
  · rw [openLoad_load, (same_clearBank _ _).part .frg (by decide), frgResult, fput_frg]
  · exact (openLoad_result _ _).trans ((fget_congr status).trans (frgResult_result _ _))

/-- A word at the load port that completes no step (R91). -/
theorem loadPortOp_spec {a v : Nat} {l : Load} {s : State} (load : s.frg.load = some l) (shut : loadShut s l = false)
    (state : frgState s = frgReceiving) (slot : l.slot = none) (short : l.bytes.length + 4 < 128)
    (room : l.bytes.length + 4 < rget s A.FRG_LOAD_LEN) :
    (loadPortOp a v s).frg.load = some { l with bytes := l.bytes ++ leBytes 4 v } ∧
      rget (loadPortOp a v s) A.FRG_LOAD_COUNT = l.bytes.length + 4 ∧
      (l.shadow = true → (loadPortOp a v s).frg.active = s.frg.active ∧ (loadPortOp a v s).glb.base = s.glb.base) ∧
      (l.shadow = false → l.bytes = [] → (loadPortOp a v s).frg.active = none ∧ (loadPortOp a v s).frg.bank0 = none ∧
        (loadPortOp a v s).frg.bank1 = none ∧ (loadPortOp a v s).glb.base = bLoading) := by
  have len : (l.bytes ++ leBytes 4 v).length = l.bytes.length + 4 := by
    rw [List.length_append, length_leBytes_four]
  rw [loadPortOp_taken load shut state slot room, acceptBytes_short (len ▸ short) (len ▸ room), len, rput_frg, rput_glb, rget_rput_same]
  refine ⟨rfl, by omega, ?_, ?_⟩
  · intro shadow
    rw [if_neg (by simp [shadow])]
    exact ⟨rfl, rfl⟩
  · intro full first
    rw [if_pos ⟨first, by simp [full]⟩, firstByte_frg]
    refine ⟨rfl, rfl, rfl, ?_⟩
    dsimp only
    exact firstByte_base s

/-- Settles O19: each load opens with `openLoad`, the boot by `booted_bootSelect`, and the bytes of a word join it (`loadPortOp_spec`). -/
theorem forgingLoadsOpenAndTakeBytes : Obligations.ForgingLoadsOpenAndTakeBytes := by
  unfold Obligations.ForgingLoadsOpenAndTakeBytes
  refine ⟨?_, ?_, ?_, ?_, ?_, ?_⟩
  · intro s ready idle base
    obtain ⟨t, run, st⟩ := hostCmd_settles (c := .fullLoad) (f := fullLoadOp) rfl rfl ready
    obtain ⟨frg, result, count⟩ := fullLoadOp_spec idle base
    have same := same_fullLoadOp s
    rw [← st.frg] at frg
    exact ⟨t, run, by rw [frg], (st.fget (by decide)).trans result, (st.reg _ (by decide)).trans count, by rw [frg],
      st.glb_base.trans (same.part .base (by decide)), st.dp.trans (same.part .dp (by decide)),
      st.tab.trans (same.part .tab (by decide))⟩
  · intro s ready idle base safe
    obtain ⟨t, run, st⟩ := hostCmd_settles (c := .shadowLoad) (f := shadowLoadOp) rfl rfl ready
    obtain ⟨frg, result, count, base', dp⟩ := shadowLoadOp_spec idle base safe
    rw [← st.frg] at frg
    exact ⟨t, run, by rw [frg], by rw [frg]; rfl, by rw [frg]; rfl, by rw [frg]; rfl, (st.fget (by decide)).trans result,
      (st.reg _ (by decide)).trans count, by rw [frg]; rfl, st.glb_base.trans base', st.dp.trans dp⟩
  · intro s ready isOpen
    obtain ⟨t, run, st⟩ := hostCmd_settles (c := .frgAbort) (f := fun s => freeCells (abortOp s)) rfl rfl ready
    rw [abortOp_open isOpen] at st
    obtain ⟨l, load⟩ := Option.isSome_iff_exists.1 isOpen
    obtain ⟨state, result, active⟩ := endLoad_spec (r := frgAborted) load
    have frg := st.frg.trans ((same_freeCells _).part .frg (by decide))
    have status : rget t A.FRG_STATUS = rget (endLoad frgAborted s) A.FRG_STATUS := (st.reg _ (by decide)).trans (rget_freeCells _ _)
    exact ⟨t, run, (congrArg Frg.load frg).trans (endLoad_load _ _), (frgState_congr status).trans state,
      (fget_congr status).trans result, (congrArg Frg.active frg).trans active⟩
  · intro s k rest ready idle base order dir
    obtain ⟨t, run, st⟩ := hostCmd_settles (c := .bootFlash) (f := bootFlashOp) rfl rfl ready
    rw [bootFlashOp_taken idle base] at st
    have frg : (frgResult frgOk (bootTaken s)).frg = s.frg := by rw [frgResult, fput_frg, bootTaken]
    obtain ⟨booted, -⟩ := booted_bootSelect frg order dir
    obtain ⟨⟨l, load, slot, full⟩, state, active, base'⟩ := booted.settled st
    exact ⟨t, l, run, load, slot, full, state, active, base'⟩
  · intro dt s k rest free due idle base order dir
    obtain ⟨t, run, st⟩ := timed_settles (c := .bootFlashSelect dt) (f := dueBoot) rfl rfl ⟨free, rfl⟩
    rw [dueBoot_taken due idle base] at st
    have frg : (bootTaken (passTime dt s)).frg = (passTime dt s).frg := by rw [bootTaken]
    obtain ⟨booted, rst⟩ := booted_bootSelect frg order dir
    obtain ⟨⟨l, load, slot, -⟩, state, -, base'⟩ := booted.settled st
    refine ⟨t, l, run, ?_, load, slot, state, base'⟩
    rw [st.glb_bootDue, freeCells_glb, bootDue_of_resets rst, bootTaken]
  · intro value l s ready load shut state slot short room
    obtain ⟨t, run, st⟩ := hostCmd_settles (c := .frgLoadPortWrite value) (a := A.FRG_LOAD_PORT 0)
      (f := fun s => freeCells (loadPortOp (A.FRG_LOAD_PORT 0) value.toNat s)) rfl rfl ready
    obtain ⟨joined, count, shadow, full⟩ := loadPortOp_spec (a := A.FRG_LOAD_PORT 0) (v := value.toNat) load shut state slot short room
    have frg := st.frg.trans (freeCells_frg _)
    have base := st.glb_base.trans (congrArg Glb.base (freeCells_glb _))
    exact ⟨t, run, by rw [frg]; exact joined, ((st.reg _ (by decide)).trans (rget_freeCells _ _)).trans count, by rw [frg, base]; exact shadow,
      by rw [frg, base]; exact full⟩

end Machine
end Sys2Proof
end

section
/-! PROOF. Proofs/LoadsEnd.lean: how loads end (O20). -/
namespace Sys2Proof
namespace Machine

/-! ### Banks and the active Forging -/

theorem fillBank_frg (b : Nat) (f : Forging) (s : State) : (fillBank b f s).frg = (putBank b (some f) s).frg := by
  unfold fillBank
  rw [(same_fillTables _ _ _).part .frg (by decide), (same_clearBank _ _).part .frg (by decide)]

theorem bankForging_putBank {b : Nat} (f : Option Forging) (s : State) : bankForging (putBank b f s) b = f := by
  unfold bankForging putBank
  split <;> rfl

theorem putBank_active (b : Nat) (f : Option Forging) (s : State) : (putBank b f s).frg.active = s.frg.active := by
  unfold putBank
  split <;> rfl

theorem putBank_oldBank (b : Nat) (f : Option Forging) (s : State) : (putBank b f s).frg.oldBank = s.frg.oldBank := by
  unfold putBank
  split <;> rfl

theorem putBank_admitFrom (b : Nat) (f : Option Forging) (s : State) : (putBank b f s).frg.admitFrom = s.frg.admitFrom := by
  unfold putBank
  split <;> rfl

theorem putBank_load (b : Nat) (f : Option Forging) (s : State) : (putBank b f s).frg.load = s.frg.load := by
  unfold putBank
  split <;> rfl

theorem bankForging_congr {s t : State} (h : t.frg = s.frg) (b : Nat) : bankForging t b = bankForging s b := by
  unfold bankForging
  rw [h]

theorem shadowBank_congr {s t : State} (h : t.frg.oldBank = s.frg.oldBank) : shadowBank t = shadowBank s := by
  unfold shadowBank
  rw [h]

/-! ### A Forging becomes active -/

/-- The admission registers stand as the active Forging has them already. -/
theorem enterWaking_loader {f : Forging} {s : State} (active : s.frg.active = some f) (taken : s.frg.admitFrom = some f) :
    (enterWaking s).frg = s.frg ∧ rget (enterWaking s) A.FRG_STATUS = rget s A.FRG_STATUS := by
  have loaded : loadAdmit s = s := by
    unfold loadAdmit
    rw [active]
    exact if_pos taken
  unfold enterWaking
  rw [loaded]
  extract_lets _ _ u
  have hu : u.frg = s.frg := rfl
  have ru : rget u A.FRG_STATUS = rget s A.FRG_STATUS := rget_congr rfl _
  clear_value u
  constructor
  · rw [(same_judgeAll _).part .frg (by decide), (same_fabricWake _).part .frg (by decide), hu]
  · rw [(same_judgeAll _).frgStatus (by decide), (same_fabricWake _).frgStatus (by decide), ru]

/-- The parts that a Forging that becomes active changes once its bank is filled. -/
def fillingParts : List Part :=
  [.regs, .glb, .tal, .gbk, .tim, .phs, .ldg, .fab, .hlt, .pin, .prt, .dp, .tab, .tmg, .free, .base, .mid]

/-- A Forging that becomes active is the active one, and leaves the loader's status. -/
theorem activate_loader (f : Forging) {s : State} (one : OneValue A.FRG_STATUS s) :
    (activate f s).frg.active = some f ∧ (activate f s).frg.load = s.frg.load ∧
      rget (activate f s) A.FRG_STATUS = rget s A.FRG_STATUS := by
  unfold activate
  extract_lets +onlyGivenNames -merge -underBinder v1 s2 v4 v5 v6 v7 s8 s10 s12 s15 s18 s20 s22 s24 s26 s28
  clear_value v1
  have r2 : rget s2 A.FRG_STATUS = rget s A.FRG_STATUS := rget_loadRegs _ _ one (by decide)
  have f2 : s2.frg.load = s.frg.load := congrArg Frg.load ((same_loadRegs _ _ _).part .frg (by decide))
  clear_value s2
  have r8 : rget s8 A.FRG_STATUS = rget s A.FRG_STATUS := (rget_congr rfl _).trans r2
  have a8 : s8.frg.active = some f := rfl
  have d8 : s8.frg.admitFrom = some f := rfl
  have l8 : s8.frg.load = s.frg.load := f2
  clear_value s8
  have r10 : rget s10 A.FRG_STATUS = rget s A.FRG_STATUS := by
    unfold s10
    rw [(same_fillBank _ _ _).frgStatus (by decide), (same_clearBank _ _).frgStatus (by decide), r8]
  have f10 : s10.frg = (putBank 0 (some f) (clearBank 1 s8)).frg := fillBank_frg _ _ _
  have c8 : (clearBank 1 s8).frg = s8.frg := (same_clearBank _ _).part .frg (by decide)
  have a10 : s10.frg.active = some f := by rw [f10, putBank_active, c8, a8]
  have d10 : s10.frg.admitFrom = some f := by rw [f10, putBank_admitFrom, c8, d8]
  have l10 : s10.frg.load = s.frg.load := by rw [f10, putBank_load, c8, l8]
  clear_value s10
  have h12 : Same fillingParts s10 s12 := by
    unfold s12
    exact Same.foldl (fun _ _ h => (same_placeEntry _ _ _ _ _ _).comp (by decide) h) (Same.refl _ _)
  clear_value s12
  have h15 : Same fillingParts s10 s15 := by
    unfold s15
    exact Same.foldl (fun _ _ h => (same_shaperReset _ _).comp (by decide) h) ((same_clearForLoad _).comp (by decide) h12)
  clear_value s15
  have h18 : Same fillingParts s10 s18 := by
    unfold s18
    exact Same.ite ((same_raise _ _ _ _ _).comp (by decide) ((same_setInt_top _ _ _ (Or.inl (by decide))).comp (by decide) h15)) h15
  clear_value s18
  have h20 : Same fillingParts s10 s20 := (same_verifyAll _).comp (by decide) h18
  clear_value s20
  have h22 : Same fillingParts s10 s22 := (same_timCtlChanged _ _).comp (by decide) h20
  clear_value s22
  have h24 : Same fillingParts s10 s24 := by
    unfold s24
    exact (same_chooseSource _).comp (by decide)
      (Same.ite ((same_setRate _ _).comp (by decide) h22) ((same_startPhase _).comp (by decide) h22))
  clear_value s24
  have h26 : Same fillingParts s10 s26 := (same_showBases _).comp (by decide) ((same_resolveBank _ _ _).comp (by decide) h24)
  clear_value s26
  have h28 : Same fillingParts s10 s28 := (same_raise _ _ _ _ _).comp (by decide) h26
  clear_value s28
  have h : Same fillingParts s10 (startPorts (setBase bWaking s28)) :=
    (same_startPorts _).comp (by decide) ((same_setBase _ _).comp (by decide) h28)
  have frg := h.part .frg (by decide)
  obtain ⟨frg', status⟩ := enterWaking_loader (frg ▸ a10) (frg ▸ d10)
  refine ⟨?_, ?_, ?_⟩
  · rw [frg', frg, a10]
  · rw [frg', frg, l10]
  · rw [status, h.frgStatus (by decide), r10]

theorem activate_base (f : Forging) (s : State) : (activate f s).glb.base = bWaking := by
  unfold activate
  extract_lets
  exact enterWaking_base _

/-! ### A shadow stands ready -/

/-- The key set of a shadow waits for the switch where it is another than the active one (R566). -/
def standBy (k : Option KeySet) (s : State) : State :=
  match k with
  | some k => if (s.fab.keyActive.map KeySet.id) = some k.id then s else { s with fab := { s.fab with keyStandby := some k } }
  | none => s

theorem standBy_loader (k : Option KeySet) (s : State) : (standBy k s).frg = s.frg ∧ (standBy k s).regs = s.regs := by
  unfold standBy
  split
  · split <;> exact ⟨rfl, rfl⟩
  · exact ⟨rfl, rfl⟩

/-- The shadow's bank is filled and its number shown. -/
def shadowFilled (f : Forging) (s : State) : State :=
  rput64 A.FRG_SHD_ID_HI A.FRG_SHD_ID_LO f.seq (setFrgState frgShadowReady (showBases (fillBank (shadowBank s) f s)))

theorem shadowReady_eq (f : Forging) (s : State) : shadowReady f s = standBy f.content.keys (shadowFilled f s) := rfl

theorem shadowFilled_frg (f : Forging) (s : State) : (shadowFilled f s).frg = (putBank (shadowBank s) (some f) s).frg := by
  rw [shadowFilled, rput64, rput_frg, rput_frg, setFrgState, fput_frg, (same_showBases _).part .frg (by decide), fillBank_frg]

theorem shadowFilled_state (f : Forging) (s : State) : frgState (shadowFilled f s) = frgShadowReady := by
  rw [shadowFilled, rput64, frgState_congr (rget_rput_ne _ _ (by decide)), frgState_congr (rget_rput_ne _ _ (by decide))]
  exact frgState_setFrgState _ (by decide)

theorem shadowReady_spec (f : Forging) (s : State) :
    frgState (shadowReady f s) = frgShadowReady ∧ bankForging (shadowReady f s) (shadowBank (shadowReady f s)) = some f ∧
      (shadowReady f s).frg.active = s.frg.active ∧ (shadowReady f s).frg.load = s.frg.load := by
  rw [shadowReady_eq]
  obtain ⟨frg, regs⟩ := standBy_loader f.content.keys (shadowFilled f s)
  rw [shadowFilled_frg] at frg
  refine ⟨(frgState_congr (rget_congr regs _)).trans (shadowFilled_state f s), ?_, ?_, ?_⟩
  · rw [bankForging_congr frg, shadowBank_congr ((congrArg Frg.oldBank frg).trans (putBank_oldBank _ _ _)), bankForging_putBank]
  · rw [frg, putBank_active]
  · rw [frg, putBank_load]

/-! ### Verification begins and ends -/

theorem lastByte_whole {l : Load} {s : State} (load : s.frg.load = some l) (full : l.shadow = false) (long : 128 ≤ l.bytes.length)
    (dir : dirEnd l.bytes ≤ l.bytes.length) :
    lastByte none s = setBase bVerifying (setFrgState frgVerifying (setInt A.FRG_INT_STAT 0 s)) := by
  unfold lastByte
  rw [load]
  dsimp only
  rw [if_neg (by omega), if_neg (by omega), if_neg (by simp [full])]

/-- The last byte of a slot has been read (R88). -/
def slotRead (s : State) : State :=
  match s.frg.load with
  | some l =>
    if frgState s = frgReceiving ∧ l.slot.isSome then
      freeCells (lastByte none (placeArrived 0 l.bytes (rput A.FRG_LOAD_COUNT l.bytes.length s)))
    else s
  | none => s

theorem slotRead_spec {l : Load} {s : State} (load : s.frg.load = some l) (state : frgState s = frgReceiving)
    (slot : l.slot.isSome = true) (full : l.shadow = false) (long : 128 ≤ l.bytes.length) (dir : dirEnd l.bytes ≤ l.bytes.length) :
    frgState (slotRead s) = frgVerifying ∧ (slotRead s).glb.base = bVerifying ∧ (slotRead s).frg.load = some l := by
  unfold slotRead
  rw [load]
  dsimp only
  rw [if_pos ⟨state, slot⟩]
  have placed : (placeArrived 0 l.bytes (rput A.FRG_LOAD_COUNT l.bytes.length s)).frg = s.frg := by
    rw [(same_placeArrived _ _ _).part .frg (by decide), rput_frg]
  rw [lastByte_whole (by rw [placed, load]) full long dir]
  refine ⟨?_, ?_, ?_⟩
  · rw [frgState_congr (rget_freeCells _ _), frgState_congr ((same_setBase _ _).frgStatus (by decide))]
    exact frgState_setFrgState _ (by decide)
  · rw [freeCells_glb, setBase_base]
  · rw [freeCells_frg, (same_setBase _ _).part .frg (by decide), setFrgState, fput_frg, setInt_frg, placed, load]

theorem failLoad_host {r : Nat} {l : Load} {s : State} (load : s.frg.load = some l) (slot : l.slot = none) :
    failLoad r s = failRecords r (endLoad r s) := by
  unfold failLoad failWith
  rw [load]
  dsimp only
  unfold slotFailed
  rw [slot]

theorem failRecords_status (r : Nat) (s : State) : rget (failRecords r s) A.FRG_STATUS = rget s A.FRG_STATUS := by
  unfold failRecords
  rw [rget_raise _ _ _ _ _ (by decide), rget_setInt_ne _ _ (by decide)]

theorem failRecords_frg (r : Nat) (s : State) : (failRecords r s).frg = s.frg := (same_failRecords r s).part .frg (by decide)

/-- The load is closed and its interrupt set (R82). -/
def loadClosed (s : State) : State := setInt A.FRG_INT_STAT 1 (frgResult frgOk { s with frg := { s.frg with load := none } })

theorem loadClosed_frg (s : State) : (loadClosed s).frg = { s.frg with load := none } := by
  rw [loadClosed, setInt_frg, frgResult, fput_frg]

theorem passLoad_shadow {l : Load} {f : Forging} {s : State} (shadow : l.shadow = true) :
    passLoad l f s = shadowReady f (loadClosed s) := if_pos shadow

theorem passLoad_full {l : Load} {f : Forging} {s : State} (full : l.shadow = false) (slot : l.slot = none) :
    passLoad l f s = activate f (setFrgState frgIdle (loadClosed s)) := by
  unfold passLoad loadClosed
  dsimp only
  rw [if_neg (by simp [full]), slot]

theorem verifyEnd_failed {l : Load} {s : State} {r : Nat} (load : s.frg.load = some l) (state : frgState s = frgVerifying)
    (up : ostlerUp s = true) (v : verifyImage s l.shadow l.slot l.bytes = .inl r) : verifyEnd s = failLoad r s := by
  unfold verifyEnd
  rw [load]
  dsimp only
  rw [if_neg (by simp [state]), if_neg (by simp [up]), v]

theorem verifyEnd_passed {l : Load} {s : State} {f : Forging} (load : s.frg.load = some l) (state : frgState s = frgVerifying)
    (up : ostlerUp s = true) (v : verifyImage s l.shadow l.slot l.bytes = .inr f) : verifyEnd s = passLoad l f s := by
  unfold verifyEnd
  rw [load]
  dsimp only
  rw [if_neg (by simp [state]), if_neg (by simp [up]), v]

/-- Settles O20: the last byte (`slotRead_spec`), and the three ends of verification: `failRecords` after `endLoad`,
`shadowReady_spec` and `activate_loader`. -/
theorem forgingLoadsEnd : Obligations.ForgingLoadsEnd := by
  unfold Obligations.ForgingLoadsEnd
  constructor
  · intro dt l s free load state slot full long dir
    obtain ⟨t, run, st⟩ := timed_settles (c := .slotLastByteArrived dt) (f := slotRead) rfl rfl ⟨free, rfl⟩
    obtain ⟨verifying, base, load'⟩ := slotRead_spec load state slot full long dir
    exact ⟨t, run, (frgState_congr (st.reg _ (by decide))).trans verifying, st.glb_base.trans base,
      (congrArg Frg.load st.frg).trans load'⟩
  · intro dt l s free load slot state up
    obtain ⟨t, run, st⟩ := timed_settles (c := .verificationComplete dt) (f := fun s => freeCells (verifyEnd s)) rfl rfl ⟨free, rfl⟩
    have frg := st.frg.trans (freeCells_frg _)
    have base := st.glb_base.trans (congrArg Glb.base (freeCells_glb _))
    have status := (st.reg A.FRG_STATUS (by decide)).trans (rget_freeCells _ _)
    clear st
    generalize passTime dt s = u at *
    cases v : verifyImage u l.shadow l.slot l.bytes with
    | inl r =>
      rw [verifyEnd_failed load state up v, failLoad_host load slot, failRecords_frg] at frg
      rw [verifyEnd_failed load state up v, failLoad_host load slot, failRecords_status] at status
      obtain ⟨idle, result, active⟩ := endLoad_spec (r := r) load
      exact ⟨t, run, (congrArg Frg.load frg).trans (endLoad_load _ _), (frgState_congr status).trans idle,
        (fget_congr status).trans result, (congrArg Frg.active frg).trans active⟩
    | inr f =>
      rw [verifyEnd_passed load state up v] at frg base status
      cases sh : l.shadow with
      | true =>
        rw [passLoad_shadow sh] at frg status
        obtain ⟨ready, bank, active, closed⟩ := shadowReady_spec f (loadClosed u)
        rw [loadClosed_frg] at active closed
        refine ⟨t, run, (congrArg Frg.load frg).trans closed, (frgState_congr status).trans ready, ?_,
          (congrArg Frg.active frg).trans active⟩
        rw [bankForging_congr frg, shadowBank_congr (congrArg Frg.oldBank frg), bank]
      | false =>
        rw [passLoad_full sh slot] at frg base status
        have one : OneValue A.FRG_STATUS (setFrgState frgIdle (loadClosed u)) := oneValue_fput_same _ _ _
        obtain ⟨active, closed, same⟩ := activate_loader f one
        refine ⟨t, run, ?_, ?_, ?_, ?_⟩
        · rw [frg, closed, setFrgState, fput_frg, loadClosed_frg]
        · exact (frgState_congr (status.trans same)).trans (frgState_setFrgState _ (by decide))
        · rw [frg, active]
        · rw [base, activate_base]

end Machine
end Sys2Proof
end

section
/-! PROOF. Proofs/Tempering.lean: the commands and events of a tempering (O21). -/
namespace Sys2Proof
namespace Machine

/-! ### Hearths are armed -/

/-- What an armed commit or rollback in time leaves. -/
theorem armOp_taken {roll : Bool} {b : Nat} {s : State} (bank : (if roll then rollbackBank s else shadowBank s) = b)
    (may : (if roll then frgState s == frgPartial || frgState s == frgDraining else frgState s == frgShadowReady || frgState s == frgPartial) = true)
    (some : armMask s roll b ≠ []) (early : phaseInstant s + fget s F.LDG_COMMIT_MARGIN_PU ≤ instantAt s A.FRG_COMMIT_CYCLE_HI) :
    (armOp roll none s).frg = { s.frg with armed := Option.some { mask := armMask s roll b, instant := instantAt s A.FRG_COMMIT_CYCLE_HI, bank := b, fromState := frgState s, clk := s.clk, now := false, trigger := none } } ∧
      (armOp roll none s).dp = s.dp ∧ (armOp roll none s).tab = s.tab := by
  have same := same_armOp roll none s
  refine ⟨?_, same.part .dp (by decide), same.part .tab (by decide)⟩
  have late : decide (instantAt s A.FRG_COMMIT_CYCLE_HI < phaseInstant s + fget s F.LDG_COMMIT_MARGIN_PU) = false :=
    decide_eq_false (not_lt.2 early)
  unfold armOp
  simp only [bank, may, some, late, not_true, false_or, if_false, false_and, Bool.false_eq_true]
  rw [(same_resolveArmed _ _ _).part .frg (by decide), setFrgState, fput_frg, frgResult, fput_frg]

theorem disarmOp_taken {a : Armed} {s : State} (armed : s.frg.armed = some a) :
    disarmOp s = forgetArmed 32 (setFrgState a.fromState (frgResult frgOk { s with frg := { s.frg with armed := none } })) := by
  unfold disarmOp
  rw [armed]

/-! ### A tempering ends -/

/-- The tempering is over: the bank that no hearth runs is empty. -/
structure Ended (s t : State) : Prop where
  idle : frgState t = frgIdle
  closed : t.frg.tempering = false
  empty : bankForging t (1 - bankOf t 0) = none
  banks : t.frg.onBank1 = s.frg.onBank1
  timeout : t.frg.timeoutDone = s.frg.timeoutDone

theorem bankOf_congr {s t : State} (h : t.frg.onBank1 = s.frg.onBank1) (k : Nat) : bankOf t k = bankOf s k := by
  unfold bankOf
  rw [h]

theorem Ended.of_frg {s t u : State} (h : Ended s t) (frg : u.frg = t.frg) (status : rget u A.FRG_STATUS = rget t A.FRG_STATUS) :
    Ended s u := by
  obtain ⟨idle, closed, empty, banks, timeout⟩ := h
  refine ⟨(frgState_congr status).trans idle, ?_, ?_, ?_, ?_⟩
  · rw [frg, closed]
  · rw [bankOf_congr (congrArg Frg.onBank1 frg), bankForging_congr frg, empty]
  · rw [frg, banks]
  · rw [frg, timeout]

theorem putBank_onBank1 (b : Nat) (f : Option Forging) (s : State) : (putBank b f s).frg.onBank1 = s.frg.onBank1 := by
  unfold putBank
  split <;> rfl

theorem putBank_timeoutDone (b : Nat) (f : Option Forging) (s : State) : (putBank b f s).frg.timeoutDone = s.frg.timeoutDone := by
  unfold putBank
  split <;> rfl

/-- The shadow's number is taken from view. -/
def shadowHidden (s : State) : State := rput64 A.FRG_SHD_ID_HI A.FRG_SHD_ID_LO 0 (fput F.FRG_STATUS_DRAIN_LATE 0 s)

/-- The loader's part is put back as it is outside a tempering. -/
def temperOver (s : State) : State := { s with frg := { s.frg with tempering := false, armed := none, timingNew := false } }

theorem dropBank_eq (b : Nat) (s : State) : dropBank b s = setFrgState frgIdle (temperOver (shadowHidden (putBank b none s))) := rfl

theorem shadowHidden_frg (s : State) : (shadowHidden s).frg = s.frg := by
  rw [shadowHidden, rput64, rput_frg, rput_frg, fput_frg]

theorem dropBank_frg (b : Nat) (s : State) :
    (dropBank b s).frg = { (putBank b none s).frg with tempering := false, armed := none, timingNew := false } := by
  rw [dropBank_eq, setFrgState, fput_frg, temperOver, shadowHidden_frg]

theorem ended_dropBank (s : State) : Ended s (dropBank (1 - bankOf s 0) s) := by
  have frg := dropBank_frg (1 - bankOf s 0) s
  have banks : (dropBank (1 - bankOf s 0) s).frg.onBank1 = s.frg.onBank1 := by rw [frg, putBank_onBank1]
  refine ⟨frgState_setFrgState _ (by decide), by rw [frg], ?_, banks, by rw [frg, putBank_timeoutDone]⟩
  rw [bankOf_congr banks, bankForging, frg]
  exact bankForging_putBank none s

theorem ended_releaseOld (s : State) : Ended s (releaseOld s) := by
  refine (ended_dropBank s).of_frg ?_ ?_
  · rw [releaseOld, raise_frg, setInt_frg]
  · rw [releaseOld, rget_raise _ _ _ _ _ (by decide), rget_setInt_ne _ _ (by decide)]

/-- The parts that the drop of the old generation's frames changes. -/
def flushParts : List Part := [.regs, .tal, .gbk, .fab, .por, .dry, .dp, .tmg]

/-- FLUSH_OLD drops the old generation's frames and releases the old bank. -/
theorem flushOld_releases {P : State → Prop} {s : State} (h : ∀ x, x.frg = s.frg → P (releaseOld x)) : P (flushOld s) := by
  unfold flushOld
  extract_lets +onlyGivenNames -merge -underBinder v1 v2 s3 s6 v8 v9 s10 s12 v14 s15 s17
  apply h
  clear_value v1 v2
  have h3 : Same flushParts s s3 := by
    unfold s3
    exact same_dropEverywhere_h (by decide) (fun _ _ _ h => h) (Same.refl _ _)
  clear_value s3
  have h6 : Same flushParts s s6 := (same_dropUnderway _ _).comp (by decide) h3
  clear_value s6 v8 v9
  have f10 : s10.frg = s.frg := h6.part .frg (by decide)
  clear_value s10
  have f12 : s12.frg = s.frg := (freeCells_frg _).trans f10
  clear_value s12 v14
  have f15 : s15.frg = s.frg := f12
  clear_value s15
  simp only [s17, raise_frg, faddSat_frg, f15]

theorem ended_flushOld (s : State) : Ended s (flushOld s) := by
  refine flushOld_releases fun x frg => ?_
  obtain ⟨idle, closed, empty, banks, timeout⟩ := ended_releaseOld x
  exact ⟨idle, closed, empty, banks.trans (congrArg Frg.onBank1 frg), timeout.trans (congrArg Frg.timeoutDone frg)⟩

theorem Ended.settled {s u t : State} (h : Ended s u) (st : SettledFrom u t) : Ended s t := h.of_frg st.frg (st.reg _ (by decide))

/-- The drain timeout has been seen. -/
def timeoutSeen (s : State) : State := setInt A.FRG_INT_STAT 6 { s with frg := { s.frg with timeoutDone := true } }

theorem timeoutSeen_frg (s : State) : (timeoutSeen s).frg = { s.frg with timeoutDone := true } := setInt_frg _ _ _

theorem timeoutSeen_policy (s : State) : fbit (timeoutSeen s) F.FRG_TEMPER_CTL_DRAIN_POLICY = fbit s F.FRG_TEMPER_CTL_DRAIN_POLICY := by
  unfold fbit timeoutSeen
  rw [fget_setInt_ne _ _ (by decide)]
  rfl

theorem temperTimeout_waits {s : State} (policy : fbit s F.FRG_TEMPER_CTL_DRAIN_POLICY = true) :
    temperTimeout s = fput F.FRG_STATUS_DRAIN_LATE 1 (timeoutSeen s) := if_pos ((timeoutSeen_policy s).trans policy)

theorem temperTimeout_flushes {s : State} (policy : fbit s F.FRG_TEMPER_CTL_DRAIN_POLICY = false) :
    temperTimeout s = flushOld (timeoutSeen s) := if_neg fun h => Bool.false_ne_true (policy.symm.trans ((timeoutSeen_policy s).symm.trans h))

/-! ### Hearths commit -/

theorem bankOf_setBank {h b k : Nat} (hb : b < 2) (hk : k < 4) (s : State) :
    bankOf (setBank h b s) k = if k = h then b else bankOf s k := by
  have two : b = 0 ∨ b = 1 := by omega
  unfold bankOf setBank
  rcases two with rfl | rfl
  · by_cases e : k = h <;> simp [e, b2n]
  · by_cases e : k = h <;> simp [e, b2n, hk]
    omega

theorem commitHearth_frg (b h : Nat) (s : State) : (commitHearth b h s).frg = (setBank h b s).frg := by
  unfold commitHearth
  extract_lets u v
  have hv : v.frg = u.frg := by
    have k : Same [.regs] u v := Same.foldl (fun y p hy => by
      split
      · exact (same_fput_top _ _ _ (Or.inl (by simp only [F.TM_CAL_STATUS_PTR_X]; omega))).comp (by decide) ((same_fput_top _ _ _ (Or.inl (by simp only [F.TM_CAL_STATUS_PTR_P]; omega))).comp (by decide) hy)
      · exact hy) (Same.refl _ _)
    exact k.part .frg (by decide)
  clear_value v
  rw [raise_frg, hv]

/-- The hearths of a mask commit; the others stay. -/
theorem commitHearths {b : Nat} (mask : List Nat) (s : State) :
    (b < 2 → ∀ k, k < 4 → bankOf (mask.foldl (fun s h => commitHearth b h s) s) k = if mask.contains k then b else bankOf s k) ∧
      (mask.foldl (fun s h => commitHearth b h s) s).frg.bank0 = s.frg.bank0 ∧
      (mask.foldl (fun s h => commitHearth b h s) s).frg.bank1 = s.frg.bank1 ∧
      (mask.foldl (fun s h => commitHearth b h s) s).frg.armed = s.frg.armed := by
  induction mask generalizing s with
  | nil => exact ⟨fun _ _ _ => rfl, rfl, rfl, rfl⟩
  | cons h mask ih =>
    obtain ⟨banks, zero, one, armed⟩ := ih (commitHearth b h s)
    have frg := commitHearth_frg b h s
    rw [frg] at zero one armed
    refine ⟨fun hb k hk => ?_, zero, one, armed⟩
    rw [List.foldl_cons, banks hb k hk, bankOf_congr (congrArg Frg.onBank1 frg), bankOf_setBank hb hk]
    by_cases e : k = h
    · simp [e]
    · simp [e]

/-- What a commit reads of the loader's part: the armed hearths, the hearths on bank 1 and the two banks. -/
def committed (s : State) : Option Armed × List Nat × Option Forging × Option Forging :=
  (s.frg.armed, s.frg.onBank1, s.frg.bank0, s.frg.bank1)

theorem committed_congr {s t : State} (h : t.frg = s.frg) : committed t = committed s := by
  unfold committed
  rw [h]

theorem committed_timingOf (b : Nat) (s : State) : committed (timingOf b s) = committed s := by
  unfold timingOf
  extract_lets new
  split
  · split
    · rfl
    · rw [committed_congr ((same_loadTiming _ _).part .frg (by decide))]
      rfl
  · rfl

/-- The hearths of the mask have committed, and the commit's time is kept. -/
def hearthsMoved (a : Armed) (s : State) : State :=
  a.mask.foldl (fun s h => commitHearth a.bank h s)
    (forgetArmed 32 (timingOf a.bank { s with frg := { s.frg with armed := none } }))

theorem hearthsMoved_spec (a : Armed) (s : State) :
    (hearthsMoved a s).frg.armed = none ∧
      (a.bank < 2 → ∀ h, h < 4 → bankOf (hearthsMoved a s) h = if a.mask.contains h then a.bank else bankOf s h) ∧
      (hearthsMoved a s).frg.bank0 = s.frg.bank0 ∧ (hearthsMoved a s).frg.bank1 = s.frg.bank1 := by
  unfold hearthsMoved
  have kept : committed (forgetArmed 32 (timingOf a.bank { s with frg := { s.frg with armed := none } })) =
      (none, s.frg.onBank1, s.frg.bank0, s.frg.bank1) := committed_timingOf _ _
  generalize forgetArmed 32 _ = u at kept
  obtain ⟨armed, onBank1, zero, one⟩ : u.frg.armed = none ∧ u.frg.onBank1 = s.frg.onBank1 ∧ u.frg.bank0 = s.frg.bank0 ∧
    u.frg.bank1 = s.frg.bank1 := by simpa only [committed, Prod.mk.injEq] using kept
  obtain ⟨banks, zero', one', armed'⟩ := commitHearths (b := a.bank) a.mask u
  refine ⟨armed'.trans armed, fun hb h hh => ?_, zero'.trans zero, one'.trans one⟩
  rw [banks hb h hh, bankOf_congr onBank1]

theorem committed_commitArmed (a : Armed) (s : State) : committed (commitArmed a s) = committed (hearthsMoved a s) := by
  unfold commitArmed
  extract_lets g u v f w x _ y
  have hv : v = hearthsMoved a s := rfl
  clear_value v
  have hw : committed w = committed (hearthsMoved a s) := by rw [← hv]; rfl
  clear_value w
  have hx : committed x = committed (hearthsMoved a s) := by
    simp only [x]
    rw [committed_congr (setInt_frg _ _ _)]
    split
    · rw [committed_congr (setInt_frg _ _ _), hw]
    · rw [committed_congr (fput_frg _ _ _), hw]
  clear_value x
  have hy : committed y = committed (hearthsMoved a s) := by
    simp only [y]
    split
    · rw [setFrgState, committed_congr (fput_frg _ _ _), hx]
    · rw [committed_congr ((same_recheckPorts _).part .frg (by decide)), setFrgState, committed_congr (fput_frg _ _ _)]
      exact hx
  clear_value y
  rw [committed_congr (freeCells_frg _), committed_congr ((same_showBases _).part .frg (by decide)),
    committed_congr ((same_dropTooLongAll _ _).part .frg (by decide)), hy]

/-- An armed commit that is due (R107). -/
theorem commitArmed_spec (a : Armed) (s : State) :
    (commitArmed a s).frg.armed = none ∧
      (a.bank < 2 → ∀ h, h < 4 → bankOf (commitArmed a s) h = if a.mask.contains h then a.bank else bankOf s h) ∧
      (commitArmed a s).frg.bank0 = s.frg.bank0 ∧ (commitArmed a s).frg.bank1 = s.frg.bank1 := by
  obtain ⟨armed, onBank1, zero, one⟩ : (commitArmed a s).frg.armed = (hearthsMoved a s).frg.armed ∧
      (commitArmed a s).frg.onBank1 = (hearthsMoved a s).frg.onBank1 ∧ (commitArmed a s).frg.bank0 = (hearthsMoved a s).frg.bank0 ∧
      (commitArmed a s).frg.bank1 = (hearthsMoved a s).frg.bank1 := by
    simpa only [committed, Prod.mk.injEq] using committed_commitArmed a s
  obtain ⟨armed', banks, zero', one'⟩ := hearthsMoved_spec a s
  refine ⟨armed.trans armed', fun hb h hh => ?_, zero.trans zero', one.trans one'⟩
  rw [bankOf_congr onBank1, banks hb h hh]

/-- The commit that is due is made (R107). -/
def temperCommitOp (s : State) : State := match commitDue s with | some a => commitArmed a s | none => s

theorem forgingsOf_congr {s t : State} (h : t.frg = { s.frg with armed := t.frg.armed }) : forgingsOf t = forgingsOf s := by
  unfold forgingsOf
  rw [h]

/-- Settles O21: arming (`armOp_taken`), the commit (`commitArmed_spec`), and the three ends of a tempering (`Ended`). -/
theorem temperingCommandsAndCommit : Obligations.TemperingCommandsAndCommit := by
  unfold Obligations.TemperingCommandsAndCommit
  refine ⟨?_, ?_, ?_, ?_, ?_, ?_, ?_⟩
  · intro s ready state mask early
    obtain ⟨t, run, st⟩ := hostCmd_settles (c := .armCommit) (f := armOp false none) rfl rfl ready
    obtain ⟨frg, dp, tab⟩ := armOp_taken (roll := false) (b := shadowBank s) rfl (by simpa using state) mask early
    rw [← st.frg] at frg
    exact ⟨t, run, by rw [frg], forgingsOf_congr (by rw [frg]), st.dp.trans dp, st.tab.trans tab⟩
  · intro s ready state mask early
    obtain ⟨t, run, st⟩ := hostCmd_settles (c := .rollback) (f := armOp true none) rfl rfl ready
    obtain ⟨frg, dp, tab⟩ := armOp_taken (roll := true) (b := rollbackBank s) rfl (by simpa using state) mask early
    rw [← st.frg] at frg
    exact ⟨t, run, by rw [frg], forgingsOf_congr (by rw [frg]), st.dp.trans dp, st.tab.trans tab⟩
  · intro a s ready armed small
    obtain ⟨t, run, st⟩ := hostCmd_settles (c := .disarm) (f := disarmOp) rfl rfl ready
    have same := same_disarmOp s
    have dp := st.dp.trans (same.part .dp (by decide))
    have tab := st.tab.trans (same.part .tab (by decide))
    rw [disarmOp_taken armed] at st
    have status := (st.reg A.FRG_STATUS (by decide)).trans (rget_congr rfl _)
    have frg := st.frg.trans ((same_forgetArmed 32 _).part .frg (by decide))
    rw [setFrgState, fput_frg, frgResult, fput_frg] at frg
    exact ⟨t, run, by rw [frg], (frgState_congr status).trans (frgState_setFrgState _ small),
      (fget_congr status).trans ((setFrgState_result _ _).trans (frgResult_result _ _)), forgingsOf_congr (by rw [frg]), dp, tab⟩
  · intro s ready state
    obtain ⟨t, run, st⟩ := hostCmd_settles (c := .flushOld) (f := flushOldOp) rfl rfl ready
    rw [show flushOldOp s = flushOld (frgResult frgOk s) from if_pos state] at st
    obtain ⟨idle, closed, empty, banks, -⟩ := (ended_flushOld (frgResult frgOk s)).settled st
    exact ⟨t, run, idle, closed, empty, banks.trans (congrArg Frg.onBank1 (fput_frg _ _ _))⟩
  · intro dt a s free due
    obtain ⟨t, run, st⟩ := timed_settles (c := .temperCommit dt) (f := temperCommitOp) rfl rfl ⟨free, rfl⟩
    rw [show temperCommitOp (passTime dt s) = commitArmed a (passTime dt s) by rw [temperCommitOp, due]] at st
    obtain ⟨armed, banks, zero, one⟩ := commitArmed_spec a (passTime dt s)
    have frg := st.frg
    refine ⟨t, run, by rw [frg, armed], fun hb h hh => ?_, by rw [frg, zero], by rw [frg, one]⟩
    rw [bankOf_congr (congrArg Frg.onBank1 frg), banks hb h hh]
  · intro dt s free met
    obtain ⟨t, run, st⟩ := timed_settles (c := .temperRelease dt) (f := fun s => if barrierMet s then releaseOld s else s) rfl rfl
      ⟨free, rfl⟩
    rw [if_pos met] at st
    obtain ⟨idle, closed, empty, banks, -⟩ := (ended_releaseOld (passTime dt s)).settled st
    exact ⟨t, run, idle, closed, empty, banks, st.dp.trans ((same_releaseOld _).part .dp (by decide))⟩
  · intro dt s free late
    obtain ⟨t, run, st⟩ := timed_settles (c := .temperDrainTimeout dt) (f := fun s => if drainLate s then temperTimeout s else s) rfl
      rfl ⟨free, rfl⟩
    rw [if_pos late] at st
    cases policy : fbit (passTime dt s) F.FRG_TEMPER_CTL_DRAIN_POLICY with
    | true =>
      rw [temperTimeout_waits policy] at st
      have frg := st.frg.trans ((fput_frg _ _ _).trans (timeoutSeen_frg _))
      refine ⟨t, run, by rw [frg], fun _ => ⟨?_, by rw [frg], ?_⟩, fun h => absurd h (by simp)⟩
      · exact (st.fget (by decide)).trans (fget_fput_same _ _ _ (by decide))
      · rw [st.dp, fput_dp, timeoutSeen, setInt_dp]
    | false =>
      rw [temperTimeout_flushes policy] at st
      obtain ⟨idle, closed, -, -, timeout⟩ := (ended_flushOld (timeoutSeen (passTime dt s))).settled st
      exact ⟨t, run, timeout.trans (congrArg Frg.timeoutDone (timeoutSeen_frg _)), fun h => absurd h (by simp), fun _ => ⟨idle, closed⟩⟩

end Machine
end Sys2Proof
end

section
/-! PROOF. Proofs/Modes.lean: the commands of GLB_CTL (O22). -/
namespace Sys2Proof
namespace Machine

/-! ### What the links' judgement leaves of GLB's part

A link that comes up sends a HELLO, and its frame draws on the admission budgets; nothing else of GLB's part changes. -/

/-- From `s` to `t` the admission budgets alone change in GLB's part. -/
def BudgetsOnly (s t : State) : Prop :=
  t.glb = { s.glb with admitLevel := t.glb.admitLevel, admitSeen := t.glb.admitSeen }

namespace BudgetsOnly
variable {T : List Part} {s x y : State}

theorem refl (s : State) : BudgetsOnly s s := rfl

theorem trans (h : BudgetsOnly s x) (k : BudgetsOnly x y) : BudgetsOnly s y := by
  unfold BudgetsOnly at *
  rw [k, h]

theorem of_glb (h : BudgetsOnly s x) (e : y.glb = x.glb) : BudgetsOnly s y := h.trans (by rw [BudgetsOnly, e])

theorem comp (k : Same T x y) (n : Part.glb ∉ T) (h : BudgetsOnly s x) : BudgetsOnly s y := h.of_glb (k.part .glb n)

theorem foldl {β : Type} {f : State → β → State} (k : ∀ x b, BudgetsOnly x (f x b)) (l : List β) (s : State) :
    BudgetsOnly s (l.foldl f s) := by
  induction l generalizing s with
  | nil => exact refl s
  | cons b l ih => exact (k s b).trans (ih _)

/-- What is seen of the budgets, and what they hold, are theirs. -/
theorem seen (l : List Nat) (s : State) : BudgetsOnly s { s with glb := { s.glb with admitSeen := l } } := rfl

theorem level (l : List (Nat × Bucket)) (s : State) : BudgetsOnly s { s with glb := { s.glb with admitLevel := l } } := rfl

end BudgetsOnly

theorem budgets_admitBudget (k h : Nat) (s : State) : BudgetsOnly s (admitBudget k h s).2 := by
  unfold admitBudget
  extract_lets rate r g u v
  have hu : BudgetsOnly s u := .level _ s
  clear_value u
  have hv : BudgetsOnly s v := hu.of_glb (by rw [setInt_glb, faddSat_glb])
  clear_value v
  split
  · exact .refl s
  · split
    · exact hu
    · split
      · exact hv.comp (same_suppress _ _) (by decide)
      · exact (hv.trans (.seen _ v)).of_glb (raise_glb _ _ _ _ _)

theorem budgets_admitPlanned (x : Planned) (s : State) : BudgetsOnly s (admitPlanned x s) := by
  obtain ⟨port, q, c⟩ := x
  unfold admitPlanned
  dsimp only
  split
  · have h := budgets_admitBudget (reasonClass c.reason) c.hearth s
    split
    · exact h.comp (same_admitCopy _ _ _ _) (by decide)
    · exact h
  · exact .comp (same_admitCopy _ _ _ _) (by decide) (.refl s)

theorem budgets_fabQueue (ps : List Nat) (f : Frame) (s : State) : BudgetsOnly s (fabQueue ps f s) := by
  unfold fabQueue
  split
  · exact .refl s
  · exact BudgetsOnly.trans (.comp (same_addFrame _ _) (by decide) (.refl s)) (.foldl (fun x b => budgets_admitPlanned b x) _ _)

theorem budgets_sendHello (p : Nat) (s : State) : BudgetsOnly s (sendHello p s) := by
  unfold sendHello
  extract_lets x
  exact BudgetsOnly.trans (.comp (same_putFabPort _ _ _) (by decide) (.refl s)) (budgets_fabQueue _ _ _)

theorem budgets_startHello (p : Nat) (s : State) : BudgetsOnly s (startHello p s) := by
  unfold startHello
  extract_lets n u _ v
  have hv : BudgetsOnly s v := .comp (same_putFabPort _ _ _) (by decide) (BudgetsOnly.of_glb (.refl s) rfl)
  clear_value v
  exact .comp (same_chooseUp _) (by decide) (BudgetsOnly.trans (hv.of_glb (fput_glb _ _ _)) (budgets_sendHello p _))

theorem budgets_reportUp (p : Nat) (s : State) : BudgetsOnly s (reportUp p s) := by
  unfold reportUp
  extract_lets _ u v w
  have hu : BudgetsOnly s u := .comp (same_putPort _ _ _) (by decide) (.refl s)
  clear_value u
  have hv : BudgetsOnly s v := hu.of_glb (by rw [fput_glb, fput_glb])
  clear_value v
  have hw : BudgetsOnly s w := hv.of_glb (by rw [raise_glb, setInt_glb])
  clear_value w
  have hx : BudgetsOnly s (verifyUpdate p w) := hw.comp (same_verifyUpdate _ _) (by decide)
  unfold fabLinkUp
  split
  · exact hx.trans (budgets_startHello p _)
  · exact hx

theorem budgets_judgeLink (p : Nat) (s : State) : BudgetsOnly s (judgeLink p s) := by
  unfold judgeLink
  extract_lets holds x since u
  have hu : BudgetsOnly s u := by
    unfold u
    split
    · exact .refl s
    · exact .comp (same_failReceptions _ _) (by decide) (.refl s)
  clear_value u
  split
  · exact .comp (same_putPort _ _ _) (by decide) (.refl s)
  · split
    · exact .comp (same_reportDown _ _) (by decide) (.refl s)
    · split
      · split
        · exact budgets_reportUp p s
        · exact .comp (same_reportDown _ _) (by decide) (.refl s)
      · exact hu.comp (same_putPort _ _ _) (by decide)

theorem budgets_judgeAll (s : State) : BudgetsOnly s (judgeAll s) := by
  refine .foldl (fun x p => ?_) _ _
  split
  · exact budgets_judgeLink p x
  · exact BudgetsOnly.trans (BudgetsOnly.of_glb (.refl x) (fput_glb _ _ _)) (budgets_judgeLink p _)

/-! ### A command of GLB_CTL -/

/-- A command finds the base state as it is where no timer has moved it. -/
theorem autoBase_steady {s : State} (h : SteadyBase s) : autoBase s = s := by
  obtain ⟨wake, drain⟩ := h
  unfold autoBase
  rw [if_neg (by simp [wake])]
  split
  next b =>
    obtain ⟨here, late⟩ := drain b
    rw [if_neg (by simp [here]), if_neg (by simp [late])]
  next => rfl

theorem steadyBase_of_ne {s : State} (w : s.glb.base ≠ bWaking) (d : s.glb.base ≠ bDraining) : SteadyBase s :=
  ⟨by simp [wakeOver, w], fun h => absurd h d⟩

theorem steadyBase_of_eq {s : State} {b : Nat} (h : s.glb.base = b) (w : b ≠ bWaking) (d : b ≠ bDraining) : SteadyBase s :=
  steadyBase_of_ne (h ▸ w) (h ▸ d)

theorem glbCmd_taken {f : State → Option State} {s u : State} (steady : SteadyBase s) (h : f s = some u) :
    glbCmd f s = freeCells (glbResult glbOk u) := by
  unfold glbCmd
  rw [autoBase_steady steady]
  simp only [h]

/-- What an accepted command shows. -/
theorem accepted_of_settled {u t : State} (st : SettledFrom (freeCells (glbResult glbOk u)) t) :
    t.glb.base = u.glb.base ∧ fget t F.GLB_CTL_STATUS_RESULT = glbOk ∧ t.frg = u.frg ∧
      rget t A.GLB_SAFE_CAUSE = rget u A.GLB_SAFE_CAUSE ∧ t.glb.diagFromQuiesced = u.glb.diagFromQuiesced := by
  refine ⟨?_, ?_, ?_, ?_, ?_⟩
  · rw [st.glb_base, freeCells_glb, glbResult, fput_glb]
  · rw [st.fget (by decide), fget_congr (rget_freeCells _ _), glbResult, fget_fput_same _ _ _ (by decide)]
    rfl
  · rw [st.frg, freeCells_frg, glbResult, fput_frg]
  · rw [st.reg _ (by decide), rget_freeCells, glbResult, rget_fput_ne _ _ (by decide)]
  · rw [st.glb_diagFromQuiesced, freeCells_glb, glbResult, fput_glb]

/-! ### The operations -/

/-- The drain begins now (R130). -/
def drainBegun (s : State) : State := { s with glb := { s.glb with base := bDraining, drainClk := s.clk } }

theorem drainOp_taken {s : State} (run : s.glb.base = bRun) (idle : frgState s = frgIdle) :
    drainOp s = glbResult glbOk (fput F.GLB_CTL_STATUS_DRAIN_TIMED_OUT 0 (drainBegun s)) := by
  unfold drainOp
  rw [autoBase_steady (steadyBase_of_eq run (by decide) (by decide))]
  dsimp only
  rw [if_neg (by simp [run]), if_neg (by simp [idle])]
  rfl

theorem endWake_base (s : State) : (endWake s).glb.base = bRun := by rw [endWake, setInt_glb, setBase_base]

theorem safeCause_forBits (s : State) : bitAt (rget (forBits A.GLB_SAFE_CAUSE (2 ^ 2) s) A.GLB_SAFE_CAUSE) 2 = true :=
  testBit_forBits A.GLB_SAFE_CAUSE 2 s (by decide)

theorem setSafe_host (s : State) :
    bitAt (rget (setSafe 2 s) A.GLB_SAFE_CAUSE) 2 = true ∧ (setSafe 2 s).glb.base = s.glb.base := by
  unfold setSafe
  split
  next h => exact ⟨h, rfl⟩
  next =>
    extract_lets was u v w
    have hu : bitAt (rget u A.GLB_SAFE_CAUSE) 2 = true := safeCause_forBits s
    have bu : u.glb.base = s.glb.base := congrArg Glb.base (forBits_glb _ _ _)
    clear_value u
    have hv : rget v A.GLB_SAFE_CAUSE = rget u A.GLB_SAFE_CAUSE := by
      simp only [v]
      rw [rget_raise _ _ _ _ _ (by decide), rget_setInt_ne _ _ (by decide)]
    have bv : v.glb.base = s.glb.base := by
      simp only [v]
      rw [raise_glb, setInt_glb, bu]
    clear_value v
    have hw : w = v := if_neg (fun h => absurd h.2 (by decide))
    rw [hw]
    split
    · rw [hv]
      exact ⟨hu, bv⟩
    · rw [(same_safeDrop v).rget_low (by decide) (by decide), hv, (same_safeDrop v).part .glb (by decide)]
      exact ⟨hu, bv⟩

theorem safeLatch_of_bit {s : State} {b : Nat} (h : bitAt (rget s A.GLB_SAFE_CAUSE) b = true) : safeLatch s = true := by
  unfold safeLatch
  by_contra e
  have zero : rget s A.GLB_SAFE_CAUSE = 0 := by simpa using e
  rw [zero] at h
  simp [bitAt] at h

/-- The latch is cleared, and recorded where it was set (R136). -/
def safeCleared (s : State) : State :=
  if safeLatch s then raise 0x0008 noUnit 0 0 (glbResult glbOk (rput A.GLB_SAFE_CAUSE 0 s)) else glbResult glbOk (rput A.GLB_SAFE_CAUSE 0 s)

theorem clearSafeOp_taken {s : State} (steady : SteadyBase s) (temp : tempWarn s = false) (volt : voltWarn s = false) :
    clearSafeOp s = safeCleared s := by
  unfold clearSafeOp
  rw [autoBase_steady steady]
  dsimp only
  rw [if_neg (by simp [temp, volt])]
  rfl

theorem safeCleared_spec (s : State) :
    rget (safeCleared s) A.GLB_SAFE_CAUSE = 0 ∧ fget (safeCleared s) F.GLB_CTL_STATUS_RESULT = glbOk ∧ (safeCleared s).glb = s.glb ∧
      (safeCleared s).dp = s.dp := by
  have cause : rget (glbResult glbOk (rput A.GLB_SAFE_CAUSE 0 s)) A.GLB_SAFE_CAUSE = 0 := by
    rw [glbResult, rget_fput_ne _ _ (by decide), rget_rput_same, Nat.zero_mod]
  have result : fget (glbResult glbOk (rput A.GLB_SAFE_CAUSE 0 s)) F.GLB_CTL_STATUS_RESULT = glbOk := fget_fput_same _ _ _ (by decide)
  unfold safeCleared
  split
  · exact ⟨(rget_raise _ _ _ _ _ (by decide)).trans cause, (fget_congr (rget_raise _ _ _ _ _ (by decide))).trans result,
      by simp [glbResult], by simp [glbResult]⟩
  · exact ⟨cause, result, by simp [glbResult], by simp [glbResult]⟩

/-- A diagnostic run is opened from the base state that `q` tells (R138). -/
def diagEntered (q : Bool) (s : State) : State :=
  judgeAll (setBase bDiagnostic
    { emptyPath (fput F.GLB_CTL_STATUS_DIAG_DESTRUCTIVE 0 s) with
      glb := { (emptyPath (fput F.GLB_CTL_STATUS_DIAG_DESTRUCTIVE 0 s)).glb with diagFromQuiesced := q } })

theorem modeChange_diag (s : State) : (modeChange s).glb.diagFromQuiesced = s.glb.diagFromQuiesced :=
  (settledFrom_modeChange s).glb_diagFromQuiesced

theorem setBase_diag (b : Nat) (s : State) : (setBase b s).glb.diagFromQuiesced = s.glb.diagFromQuiesced := modeChange_diag _

theorem diagEntered_spec (q : Bool) (s : State) :
    (diagEntered q s).glb.base = bDiagnostic ∧ (diagEntered q s).glb.diagFromQuiesced = q := by
  unfold diagEntered
  constructor
  · rw [(same_judgeAll _).part .base (by decide), setBase_base]
  · rw [budgets_judgeAll, setBase_diag]

/-- The BIST that runs is stopped. -/
def bistStopped (s : State) : State :=
  fput F.HLT_BIST_STATUS_STATE (if fget s F.HLT_BIST_STATUS_STATE = 1 then 0 else fget s F.HLT_BIST_STATUS_STATE)
    { s with hlt := { s.hlt with bistTarget := 0 } }

theorem bistStopped_destructive (s : State) :
    fbit (bistStopped s) F.GLB_CTL_STATUS_DIAG_DESTRUCTIVE = fbit s F.GLB_CTL_STATUS_DIAG_DESTRUCTIVE := by
  unfold fbit bistStopped
  rw [fget_fput_apart _ _ (by decide)]
  exact congrArg (· == 1) (fget_congr rfl)

theorem bistStopped_from (s : State) : (bistStopped s).glb = s.glb := by rw [bistStopped, fput_glb]

theorem leaveDiag_eq (s : State) : leaveDiag s =
    if (bistStopped s).glb.diagFromQuiesced ∧ ¬ fbit (bistStopped s) F.GLB_CTL_STATUS_DIAG_DESTRUCTIVE then
      judgeAll (setBase bQuiesced (bistStopped s))
    else discardForging bDormant (bistStopped s) := rfl

theorem leaveDiag_quiesced {s : State} (h : s.glb.diagFromQuiesced = true ∧ fbit s F.GLB_CTL_STATUS_DIAG_DESTRUCTIVE = false) :
    (leaveDiag s).glb.base = bQuiesced := by
  rw [leaveDiag_eq, if_pos (by rw [bistStopped_from, bistStopped_destructive]; simp [h])]
  rw [(same_judgeAll _).part .base (by decide), setBase_base]

theorem leaveDiag_dormant {s : State} (h : s.glb.diagFromQuiesced = false ∨ fbit s F.GLB_CTL_STATUS_DIAG_DESTRUCTIVE = true) :
    (leaveDiag s).glb.base = bDormant ∧ (leaveDiag s).frg.active = none := by
  rw [leaveDiag_eq, if_neg (by rw [bistStopped_from, bistStopped_destructive]; rcases h with h | h <;> simp [h])]
  exact ⟨discardForging_base _ _, by rw [discardForging_frg]; rfl⟩

/-! ### The obligation -/

/-- Settles O22: no timer moves the base state before the command (`autoBase_steady`), and each command is one operation. -/
theorem modeCommandsMoveTheBaseState : Obligations.ModeCommandsMoveTheBaseState := by
  unfold Obligations.ModeCommandsMoveTheBaseState
  refine ⟨?_, ?_, ?_, ?_, ?_, ?_, ?_, ?_⟩
  · intro s ready run idle
    obtain ⟨t, go, st⟩ := hostCmd_settles (c := .drain) (f := drainOp) rfl rfl ready
    rw [drainOp_taken run idle] at st
    refine ⟨t, go, ?_, ?_, ?_, ?_, ?_, ?_⟩
    · rw [st.glb_base, glbResult, fput_glb, fput_glb, drainBegun]
    · rw [st.glb_drainClk, glbResult, fput_glb, fput_glb, drainBegun]
    · exact (st.fget (by decide)).trans (fget_fput_same _ _ _ (by decide))
    · rw [st.fget (by decide), glbResult, fget_fput_apart _ _ (by decide), fget_fput_same _ _ _ (by decide)]
      rfl
    · rw [st.dp, glbResult, fput_dp, fput_dp, drainBegun]
    · rw [st.tab, glbResult, fput_tab, fput_tab, drainBegun]
  · intro s ready base here late
    obtain ⟨t, go, st⟩ := hostCmd_settles (c := .resume) (f := resumeOp) rfl rfl ready
    have tab := st.tab.trans ((same_resumeOp s).part .tab (by decide))
    have steady : SteadyBase s := ⟨by simp [wakeOver, base, bDraining, bWaking], fun _ => ⟨here, late⟩⟩
    rw [resumeOp, glbCmd_taken (u := setBase bRun s) steady (if_pos base)] at st
    obtain ⟨base', result, -⟩ := accepted_of_settled st
    exact ⟨t, go, base'.trans (setBase_base _ _), result, tab⟩
  · intro s ready base
    obtain ⟨t, go, st⟩ := hostCmd_settles (c := .resume) (f := resumeOp) rfl rfl ready
    have tab := st.tab.trans ((same_resumeOp s).part .tab (by decide))
    have taken : (if s.glb.base = bDraining then some (setBase bRun s) else if s.glb.base = bQuiesced then some (enterWaking s) else none) =
        some (enterWaking s) := by rw [if_neg (by rw [base]; decide), if_pos base]
    rw [resumeOp, glbCmd_taken (steadyBase_of_eq base (by decide) (by decide)) taken] at st
    obtain ⟨base', result, -⟩ := accepted_of_settled st
    exact ⟨t, go, base'.trans (enterWaking_base _), result, tab⟩
  · intro s ready base wake
    obtain ⟨t, go, st⟩ := hostCmd_settles (c := .endWaking) (f := endWakingOp) rfl rfl ready
    have tab := st.tab.trans ((same_endWakingOp s).part .tab (by decide))
    have steady : SteadyBase s := ⟨wake, fun h => absurd (base.symm.trans h) (by decide)⟩
    rw [endWakingOp, glbCmd_taken (u := endWake s) steady (if_pos base)] at st
    obtain ⟨base', result, -⟩ := accepted_of_settled st
    exact ⟨t, go, base'.trans (endWake_base _), result, tab⟩
  · intro s ready steady base
    obtain ⟨t, go, st⟩ := hostCmd_settles (c := .enterSafe) (f := enterSafeOp) rfl rfl ready
    have tab := st.tab.trans ((same_enterSafeOp s).part .tab (by decide))
    rw [enterSafeOp, glbCmd_taken (u := setSafe 2 s) steady (if_pos base)] at st
    obtain ⟨base', result, -, cause, -⟩ := accepted_of_settled st
    obtain ⟨bit, stays⟩ := setSafe_host s
    rw [← cause] at bit
    exact ⟨t, go, safeLatch_of_bit bit, bit, base'.trans stays, result, tab⟩
  · intro s ready steady temp volt
    obtain ⟨t, go, st⟩ := hostCmd_settles (c := .clearSafe) (f := clearSafeOp) rfl rfl ready
    have tab := st.tab.trans ((same_clearSafeOp s).part .tab (by decide))
    rw [clearSafeOp_taken steady temp volt] at st
    obtain ⟨cause, result, glb, dp⟩ := safeCleared_spec s
    refine ⟨t, go, ?_, (st.fget (by decide)).trans result, st.glb_base.trans (congrArg Glb.base glb), st.dp.trans dp, tab⟩
    rw [safeLatch, st.reg _ (by decide), cause]
    rfl
  · intro s ready base
    obtain ⟨t, go, st⟩ := hostCmd_settles (c := .enterDiag) (f := enterDiagOp) rfl rfl ready
    have tab := st.tab.trans ((same_enterDiagOp s).part .tab (by decide))
    have steady : SteadyBase s := by
      rcases base with b | b <;> exact steadyBase_of_eq b (by decide) (by decide)
    rw [enterDiagOp, glbCmd_taken (u := diagEntered (s.glb.base == bQuiesced) s) steady (if_pos base)] at st
    obtain ⟨base', result, -, -, diag⟩ := accepted_of_settled st
    obtain ⟨entered, came⟩ := diagEntered_spec (s.glb.base == bQuiesced) s
    exact ⟨t, go, base'.trans entered, diag.trans came, result, tab⟩
  · intro s ready base
    obtain ⟨t, go, st⟩ := hostCmd_settles (c := .endDiag) (f := endDiagOp) rfl rfl ready
    have tab := st.tab.trans ((same_endDiagOp s).part .tab (by decide))
    rw [endDiagOp, glbCmd_taken (u := leaveDiag s) (steadyBase_of_eq base (by decide) (by decide)) (if_pos base)] at st
    obtain ⟨base', result, frg, -⟩ := accepted_of_settled st
    refine ⟨t, go, result, fun h => ⟨base'.trans (leaveDiag_quiesced h), tab⟩, fun h => ?_⟩
    obtain ⟨dormant, none⟩ := leaveDiag_dormant h
    exact ⟨base'.trans dormant, by rw [frg, none]⟩

end Machine
end Sys2Proof
end

section
/-! PROOF. Proofs/Timers.lean: what ends WAKING and DRAINING with time (O23). -/
namespace Sys2Proof
namespace Machine

/-! ### Lists by number -/

theorem sget_mem_or {α : Type} (d : Nat → α) (m : List (Nat × α)) (k : Nat) : sget d m k = d k ∨ (k, sget d m k) ∈ m := by
  induction m with
  | nil => exact .inl rfl
  | cons e m ih =>
    obtain ⟨j, v⟩ := e
    unfold sget
    split
    next h =>
      subst h
      exact .inr (.head _)
    next => exact ih.imp_right (.tail _)

theorem lget_mem_or {α : Type} (m : List (Nat × List α)) (k : Nat) : lget m k = [] ∨ (k, lget m k) ∈ m := sget_mem_or _ m k

/-- What holds of each list holds of the list of a number. -/
theorem lget_all {α : Type} {p : α → Bool} {m : List (Nat × List α)} (h : ∀ e ∈ m, e.2.all p = true) (k : Nat) :
    (lget m k).all p = true := by
  rcases lget_mem_or m k with e | e
  · rw [e]
    rfl
  · exact h _ e

theorem lget_lput {α : Type} [DecidableEq α] (m : List (Nat × List α)) (j k : Nat) (l : List α) :
    lget (lput m j l) k = if j = k then l else lget m k := sget_sput _ _ _ _

theorem lget_eq_nil {α : Type} {m : List (Nat × List α)} {k : Nat} (h : k ∉ m.map Prod.fst) : lget m k = [] := by
  rcases lget_mem_or m k with e | e
  · exact e
  · exact absurd (List.mem_map_of_mem e) h

/-! ### Frames of management -/

/-- What makes a frame a Kixon frame stands in `t` as in `s`: the role, the fabric's type and address, and its ports. -/
structure FabricSame (s t : State) : Prop where
  frg : t.frg = s.frg
  reg : ∀ r, 0x140000 ≤ r → r < 0x142000 → rget t r = rget s r

theorem isFabricPort_congr {s t : State} (h : FabricSame s t) (p : Nat) : isFabricPort t p = isFabricPort s p := by
  have role : roleOf t = roleOf s := by rw [roleOf, roleOf, h.frg]
  unfold isFabricPort member
  rw [role]
  by_cases hp : p < 72
  · have en : fbit t (F.FAB_PORT_CFG_EN p) = fbit s (F.FAB_PORT_CFG_EN p) :=
      congrArg (· == 1) (fget_congr (h.reg _ (by simp only [F.FAB_PORT_CFG_EN]; omega) (by simp only [F.FAB_PORT_CFG_EN]; omega)))
    rw [en]
  · simp [hp]

theorem isKixon_congr {s t : State} (h : FabricSame s t) (f : Frame) : isKixon t f = isKixon s f := by
  have role : roleOf t = roleOf s := by rw [roleOf, roleOf, h.frg]
  have etype : fget t F.FAB_ETYPE_ETYPE = fget s F.FAB_ETYPE_ETYPE := fget_congr (h.reg _ (by decide) (by decide))
  unfold isKixon member
  rw [role, etype, isFabricPort_congr h, h.reg A.FAB_MAC_LO (by decide) (by decide), h.reg A.FAB_MAC_HI (by decide) (by decide)]

/-- The frames of `t` are those of `s` in `live`. -/
def FramesKept (live : List Nat) (s t : State) : Prop := t.dp.frames = s.dp.frames.filter (fun e => live.contains e.1)

theorem frameOf_kept {live : List Nat} {s t : State} (h : FramesKept live s t) (i : Nat) :
    frameOf t i = if i ∈ live then frameOf s i else none := by
  unfold frameOf
  rw [h, List.find?_filter]
  split
  next mem =>
    congr 2
    funext e
    by_cases he : e.1 = i
    · simp [he, mem]
    · simp [he]
  next mem =>
    rw [List.find?_eq_none.2, Option.map_none]
    intro e _
    by_cases he : e.1 = i
    · simp [he, mem]
    · simp [he]

theorem fifoMgmt_kept {live : List Nat} {s t : State} (frames : FramesKept live s t) (fab : FabricSame s t) {i : Nat}
    (h : fifoMgmt s i = true) : fifoMgmt t i = true := by
  unfold fifoMgmt at *
  rw [frameOf_kept frames]
  by_cases mem : i ∈ live
  · rw [if_pos mem]
    cases f : frameOf s i with
    | none => rfl
    | some f =>
      rw [f] at h
      dsimp only at h ⊢
      rw [isKixon_congr fab, h]
  · rw [if_neg mem]

theorem isMgmt_kept {live : List Nat} {s t : State} (frames : FramesKept live s t) {c : Copy} (mem : c.frame ∈ live)
    (h : isMgmt s c = true) : isMgmt t c = true := by
  unfold isMgmt at *
  rw [frameOf_kept frames, if_pos mem, h]

theorem isMgmt_congr {s t : State} (h : t.dp.frames = s.dp.frames) (c : Copy) : isMgmt t c = isMgmt s c := by
  unfold isMgmt frameOf
  rw [h]

theorem frame_live {s : State} {k : Nat} {c : Copy} (h : c ∈ queueOf s k) : c.frame ∈ liveFrames s := by
  have mem : (k, queueOf s k) ∈ s.dp.queues := by
    rcases lget_mem_or s.dp.queues k with e | e
    · rw [queueOf, e] at h
      cases h
    · exact e
  unfold liveFrames bodyRefs
  simp only [List.mem_append, List.mem_flatten, List.mem_map, exists_exists_and_eq_and]
  exact .inr (.inl (.inr ⟨_, mem, _, h, rfl⟩))

/-! ### Copies are dropped from the queues -/

theorem returnCharges_dp (p q : Nat) (c : Copy) (s : State) : (returnCharges p q c s).dp = s.dp :=
  (same_returnCharges p q c s).part .dp (by decide)

theorem dropQueued_dp {count : Copy → State → State} (hc : ∀ c s, (count c s).dp = s.dp) (k : Nat) (f : Copy → Bool) (s : State) :
    (dropQueued k f count s).dp = { s.dp with queues := lput s.dp.queues k ((queueOf s k).filter (fun c => !f c)) } := by
  have fold (l : List Copy) (x : State) : (l.foldl (fun s c => count c (returnCharges (qport k) (qnum k) c s)) x).dp = x.dp := by
    induction l generalizing x with
    | nil => rfl
    | cons c l ih => rw [List.foldl_cons, ih, hc, returnCharges_dp]
  exact fold _ _

/-- The frames stand, and each queue named has lost the copies that `f` names. -/
structure QueuesCut (f : Nat → Copy → Bool) (ks : List Nat) (s t : State) : Prop where
  frames : t.dp.frames = s.dp.frames
  sub : ∀ k, ∀ c ∈ queueOf t k, c ∈ queueOf s k
  cut : ∀ k ∈ ks, ∀ c ∈ queueOf t k, f k c = false

theorem queuesCut_foldl (f : Nat → Copy → Bool) (ks : List Nat) (s : State) :
    QueuesCut f ks s (ks.foldl (fun s k => dropQueued k (f k) (fun _ s => s) s) s) := by
  induction ks generalizing s with
  | nil => exact ⟨rfl, fun _ _ h => h, fun _ h => absurd h List.not_mem_nil⟩
  | cons j ks ih =>
    obtain ⟨frames, sub, cut⟩ := ih (dropQueued j (f j) (fun _ s => s) s)
    have dp := dropQueued_dp (count := fun _ s => s) (fun _ _ => rfl) j (f j) s
    have queue (k : Nat) : queueOf (dropQueued j (f j) (fun _ s => s) s) k =
        if j = k then (queueOf s j).filter (fun c => !f j c) else queueOf s k := by
      unfold queueOf
      rw [dp, lget_lput]
      rfl
    refine ⟨frames.trans (by rw [dp]), fun k c hc => ?_, fun k hk c hc => ?_⟩
    · have h := sub k c hc
      rw [queue] at h
      split at h
      next e => exact e ▸ List.mem_of_mem_filter h
      next => exact h
    · by_cases e : j = k
      · have h := sub k c hc
        rw [queue, if_pos e] at h
        simpa [e] using List.of_mem_filter h
      · exact cut k ((List.mem_cons.1 hk).resolve_left (Ne.symm e)) c hc

/-- Every queue has lost the copies that `f` names. -/
theorem dropEverywhere_cuts (f : Nat → Copy → Bool) (s : State) {k : Nat} {c : Copy}
    (h : c ∈ queueOf (dropEverywhere f (fun _ _ s => s) s) k) : f k c = false := by
  obtain ⟨-, sub, cut⟩ := queuesCut_foldl f (s.dp.queues.map Prod.fst) s
  by_cases hk : k ∈ s.dp.queues.map Prod.fst
  · exact cut k hk c h
  · have none := sub k c h
    rw [queueOf, lget_eq_nil hk] at none
    cases none

theorem dropEverywhere_frames (f : Nat → Copy → Bool) (s : State) :
    (dropEverywhere f (fun _ _ s => s) s).dp.frames = s.dp.frames := (queuesCut_foldl f _ s).frames

/-- From `s` to `t` the frames on the wires alone change in the data path. -/
def WiresOnly (s t : State) : Prop := t.dp = { s.dp with tx := t.dp.tx }

theorem WiresOnly.trans {s t u : State} (h : WiresOnly s t) (k : WiresOnly t u) : WiresOnly s u := by
  unfold WiresOnly at *
  rw [k, h]

theorem wiresOnly_putTx (p : Nat) (x : Tx) {s t : State} (h : WiresOnly s t) : WiresOnly s (putTx p x t) := h.trans rfl

theorem wiresOnly_returnCharges (p q : Nat) (c : Copy) (s : State) : WiresOnly s (returnCharges p q c s) := by
  rw [WiresOnly, returnCharges_dp]

theorem wiresOnly_dropSuspended (p : Nat) (f : Copy → Bool) (s : State) : WiresOnly s (dropSuspended p f s) := by
  unfold dropSuspended
  split
  · split
    · exact wiresOnly_putTx _ _ (wiresOnly_returnCharges _ _ _ _)
    · rfl
  · rfl

theorem wiresOnly_dropSending (f : State → Copy → Bool) (s : State) : WiresOnly s (dropSending f s) := by
  unfold dropSending
  generalize s.dp.tx.map Prod.fst = ps
  induction ps generalizing s with
  | nil => rfl
  | cons p ps ih =>
    rw [List.foldl_cons]
    refine WiresOnly.trans ?_ (ih _)
    extract_lets _ u
    have hu : WiresOnly s u := by
      unfold u
      split
      · split
        · exact wiresOnly_putTx _ _ (wiresOnly_returnCharges _ _ _ _)
        · rfl
      · rfl
    clear_value u
    exact hu.trans (wiresOnly_dropSuspended _ _ _)

/-! ### The drain timeout -/

/-- The queues and the wires are free of all but management frames. -/
def drainCut (s : State) : State :=
  dropSending (fun s c => !isMgmt s c) (dropEverywhere (fun k c => decide (k < 1216) && !isMgmt s c) (fun _ _ s => s) s)

/-- The FIFOs and the paths are free of all but management frames. -/
def drainKept (s : State) : State :=
  { s with dp := { s.dp with
    ingress := (s.dp.ingress.map (fun e => (e.1, e.2.filter (fifoMgmt s)))).filter (fun e => e.2 != [])
    host := (s.dp.host.map (fun e => (e.1, e.2.filter (fifoMgmt s)))).filter (fun e => e.2 != [])
    recirc := (s.dp.recirc.map (fun e => (e.1, e.2.filter (fun x => fifoMgmt s x.1)))).filter (fun e => e.2 != [])
    pipe := (s.dp.pipe.map (fun e => (e.1, e.2.filter (passMgmt s)))).filter (fun e => e.2 != []) } }

/-- The drain ends by its timeout: `n` frames were dropped (R133). -/
def drainLateEnd (n : Nat) (s : State) : State :=
  quiesce (raise 0x0009 noUnit n 0 (faddSat F.GLB_DRAIN_FLUSHED_FLUSHED n (fput F.GLB_CTL_STATUS_DRAIN_TIMED_OUT 1 s)))

theorem drainFlush_eq (s : State) : drainFlush s =
    drainLateEnd (s.dp.frames.length - (freeCells (drainKept (drainCut s))).dp.frames.length) (freeCells (drainKept (drainCut s))) := rfl

theorem quiesce_base (s : State) : (quiesce s).glb.base = bQuiesced := by rw [quiesce, setInt_glb, setBase_base]

theorem rget_quiesce {r : Nat} (s : State) (h : r ∉ settleRegs) : rget (quiesce s) r = rget s r := by
  have ne : A.GLB_INT_STAT ≠ r := fun e => h (e ▸ by decide)
  rw [quiesce, rget_setInt_ne _ _ ne, setBase, (settledFrom_modeChange _).reg _ h]
  exact rget_congr rfl r

theorem drainLateEnd_spec (n : Nat) (s : State) :
    (drainLateEnd n s).dp = s.dp ∧ (drainLateEnd n s).frg = s.frg ∧ (drainLateEnd n s).glb.base = bQuiesced ∧
      fget (drainLateEnd n s) F.GLB_CTL_STATUS_DRAIN_TIMED_OUT = 1 ∧
      ∀ r, 0x140000 ≤ r → r < 0x142000 → rget (drainLateEnd n s) r = rget s r := by
  unfold drainLateEnd
  refine ⟨?_, ?_, quiesce_base _, ?_, fun r lo hi => ?_⟩
  · rw [(same_quiesce _).part .dp (by decide), raise_dp, faddSat_dp, fput_dp]
  · rw [(same_quiesce _).part .frg (by decide), raise_frg, faddSat_frg, fput_frg]
  · rw [fget_congr (rget_quiesce _ (by decide)), fget_congr (rget_raise _ _ _ _ _ (by decide)),
      fget_congr (rget_faddSat_ne _ _ (by decide)), fget_fput_same _ _ _ (by decide)]
    rfl
  · have high (a : Nat) (h : a < 0x140000 ∨ 0x142000 ≤ a) : a ≠ r := by omega
    rw [rget_quiesce _ (by simp only [settleRegs, List.mem_cons, List.not_mem_nil, or_false, A.GLB_INT_STAT, A.GBK_INT_STAT, A.GLB_VEC_ACTIVE]; omega),
      rget_raise _ _ _ _ _ (high _ (.inr (by decide))).symm, rget_faddSat_ne _ _ (high _ (.inl (by decide))),
      rget_fput_ne _ _ (high _ (.inl (by decide)))]

/-- After the drain timeout the ingress FIFOs, the FIFOs of the host and the queues hold management frames only. -/
structure MgmtOnly (t : State) : Prop where
  ingress : ∀ p, (ingressOf t p).all (fifoMgmt t) = true
  host : ∀ h, (hostFifo t h).all (fifoMgmt t) = true
  queues : ∀ k, k < 1216 → (queueOf t k).all (isMgmt t) = true

/-- A list whose entries are filtered holds what passes. -/
theorem filtered_all {p q : Nat → Bool} (hpq : ∀ i, p i = true → q i = true) (m : List (Nat × List Nat)) :
    ∀ e ∈ (m.map (fun e => (e.1, e.2.filter p))).filter (fun e => e.2 != []), e.2.all q = true := by
  intro e he
  obtain ⟨x, -, rfl⟩ := List.mem_map.1 (List.mem_of_mem_filter he)
  rw [List.all_eq_true]
  exact fun i hi => hpq i (List.of_mem_filter hi)

theorem mgmtOnly_drained {s t : State} (dp : t.dp = (freeCells (drainKept (drainCut s))).dp) (fab : FabricSame (drainCut s) t) :
    MgmtOnly t := by
  have wires := wiresOnly_dropSending (fun s c => !isMgmt s c)
    (dropEverywhere (fun k c => decide (k < 1216) && !isMgmt s c) (fun _ _ s => s) s)
  have frames : FramesKept (liveFrames (drainKept (drainCut s))) (drainCut s) t := congrArg Dp.frames dp
  have ingress : t.dp.ingress = (drainKept (drainCut s)).dp.ingress := by
    rw [dp]
    rfl
  have host : t.dp.host = (drainKept (drainCut s)).dp.host := by
    rw [dp]
    rfl
  have queues : t.dp.queues = (drainCut s).dp.queues := by
    rw [dp]
    rfl
  have fifo (i : Nat) : fifoMgmt (drainCut s) i = true → fifoMgmt t i = true := fifoMgmt_kept frames fab
  refine ⟨fun p => ?_, fun h => ?_, fun k hk => ?_⟩
  · rw [ingressOf, ingress]
    exact lget_all (filtered_all fifo _) p
  · rw [hostFifo, host]
    exact lget_all (filtered_all fifo _) h
  · rw [List.all_eq_true]
    intro c hc
    rw [queueOf, queues] at hc
    have mgmt : isMgmt s c = true := by
      have cut := dropEverywhere_cuts _ s (k := k) (c := c) ((congrArg Dp.queues wires) ▸ hc)
      simpa [hk] using cut
    have same : (drainCut s).dp.frames = s.dp.frames := (congrArg Dp.frames wires).trans (dropEverywhere_frames _ s)
    exact isMgmt_kept frames (frame_live (s := drainKept (drainCut s)) hc) ((isMgmt_congr same c).trans mgmt)

theorem drainFlush_spec (s : State) :
    (drainFlush s).glb.base = bQuiesced ∧ fget (drainFlush s) F.GLB_CTL_STATUS_DRAIN_TIMED_OUT = 1 ∧
      (drainFlush s).dp = (freeCells (drainKept (drainCut s))).dp ∧ FabricSame (drainCut s) (drainFlush s) := by
  rw [drainFlush_eq]
  obtain ⟨dp, frg, base, out, reg⟩ := drainLateEnd_spec
    (s.dp.frames.length - (freeCells (drainKept (drainCut s))).dp.frames.length) (freeCells (drainKept (drainCut s)))
  refine ⟨base, out, dp, frg.trans (freeCells_frg _), fun r lo hi => ?_⟩
  rw [reg r lo hi, rget_freeCells]
  exact rget_congr rfl r

/-! ### The obligation -/

/-- The low half of a write that takes 16 bits (R129). -/
theorem fget_wakeMs (v : Nat) (s : State) :
    fget (writeRw A.GLB_WAKE_MS v (keepInForce A.GLB_WAKE_MS s)) F.GLB_WAKE_MS_WAKE_MS = v % 65536 := by
  have mask : rwMask A.GLB_WAKE_MS = 2 ^ 16 - 1 := by decide
  unfold fget writeRw
  dsimp only
  rw [mask]
  generalize keepInForce A.GLB_WAKE_MS s = u
  rw [show F.GLB_WAKE_MS_WAKE_MS.addr = A.GLB_WAKE_MS from rfl, rget_rput_same]
  apply Nat.eq_of_testBit_eq
  intro i
  have low : i < 16 → (full ^^^ (2 ^ 16 - 1)).testBit i = false := by
    intro h
    interval_cases i <;> decide
  show (bits _ 0 16).testBit i = (v % 2 ^ 16).testBit i
  unfold bits
  rw [Nat.shiftRight_zero, Nat.testBit_mod_two_pow, Nat.testBit_mod_two_pow, Nat.testBit_mod_two_pow, Nat.testBit_or,
    Nat.testBit_and, Nat.testBit_and, Nat.testBit_two_pow_sub_one]
  by_cases h : i < 16
  · rw [low h]
    simp [h, show i < 32 by omega]
  · simp [h]

/-- Settles O23: the timers move the base state through `endWake`, `quiesce` and `drainFlush`, whose cut leaves management frames
only (`mgmtOnly_drained`). -/
theorem timersMoveTheBaseState : Obligations.TimersMoveTheBaseState := by
  unfold Obligations.TimersMoveTheBaseState
  refine ⟨?_, ?_, ?_, ?_⟩
  · intro dt s free wake
    obtain ⟨t, run, st⟩ := timed_settles (c := .wakeTimerExpiry dt) (f := fun s => if wakeOver s then endWake s else s) rfl rfl
      ⟨free, rfl⟩
    rw [if_pos wake] at st
    have same := same_endWake (passTime dt s)
    exact ⟨t, run, st.glb_base.trans (endWake_base _), st.dp.trans (same.part .dp (by decide)),
      st.tab.trans (same.part .tab (by decide)), st.frg.trans (same.part .frg (by decide))⟩
  · intro dt s free base left
    obtain ⟨t, run, st⟩ := timed_settles (c := .drainComplete dt)
      (f := fun s => if s.glb.base = bDraining ∧ drained s then quiesce s else s) rfl rfl ⟨free, rfl⟩
    rw [if_pos ⟨base, left⟩] at st
    have same := same_quiesce (passTime dt s)
    exact ⟨t, run, st.glb_base.trans (quiesce_base _), st.dp.trans (same.part .dp (by decide)),
      st.tab.trans (same.part .tab (by decide)), st.frg.trans (same.part .frg (by decide))⟩
  · intro dt s free base left late
    obtain ⟨t, run, st⟩ := timed_settles (c := .drainTimeout dt)
      (f := fun s => if s.glb.base = bDraining ∧ ¬ drained s ∧ drainOver s then drainFlush s else s) rfl rfl ⟨free, rfl⟩
    rw [if_pos ⟨base, by simp [left], late⟩] at st
    obtain ⟨quiesced, out, dp, fab⟩ := drainFlush_spec (passTime dt s)
    have same := same_drainFlush (passTime dt s)
    have fab' : FabricSame (drainCut (passTime dt s)) t := ⟨st.frg.trans fab.frg, fun r lo hi => by
      rw [st.reg r (by simp only [settleRegs, List.mem_cons, List.not_mem_nil, or_false, A.GLB_INT_STAT, A.GBK_INT_STAT, A.GLB_VEC_ACTIVE]; omega),
        fab.reg r lo hi]⟩
    obtain ⟨ingress, host, queues⟩ := mgmtOnly_drained (st.dp.trans dp) fab'
    exact ⟨t, run, st.glb_base.trans quiesced, (st.fget (by decide)).trans out, ingress, host, queues,
      st.tab.trans (same.part .tab (by decide)), st.frg.trans (same.part .frg (by decide))⟩
  · intro value s ready
    obtain ⟨t, run, st⟩ := hostCmd_settles (c := .glbWakeMsWrite value)
      (f := fun s => writeRw A.GLB_WAKE_MS value.toNat (keepInForce A.GLB_WAKE_MS s)) rfl rfl ready
    refine ⟨t, run, (st.fget (by decide)).trans (fget_wakeMs _ _), st.glb_base, st.dp, st.tab, fun r hr hs => ?_⟩
    rw [st.reg r hs]
    exact (rget_rput_ne _ _ (Ne.symm hr)).trans (rget_congr rfl r)

end Machine
end Sys2Proof
end

section
/-! PROOF. Proofs/PartResets.lean: the resets of a hearth and of a port, and the power-up of the quadrants (O24). -/
namespace Sys2Proof
namespace Machine

/-! ### A hearth's reset -/

/-- From `s` to `t` the decision paths and the FIFOs from the host and from recirculation stand. -/
structure PathsKept (s t : State) : Prop where
  pipe : t.dp.pipe = s.dp.pipe
  recirc : t.dp.recirc = s.dp.recirc
  host : t.dp.host = s.dp.host

namespace PathsKept
variable {s t u : State}

theorem of_dp (h : t.dp = s.dp) : PathsKept s t := ⟨by rw [h], by rw [h], by rw [h]⟩

theorem trans (h : PathsKept s t) (k : PathsKept t u) : PathsKept s u :=
  ⟨k.pipe.trans h.pipe, k.recirc.trans h.recirc, k.host.trans h.host⟩

theorem foldl {β : Type} {f : State → β → State} (k : ∀ x b, PathsKept x (f x b)) (l : List β) (s : State) :
    PathsKept s (l.foldl f s) := by
  induction l generalizing s with
  | nil => exact of_dp rfl
  | cons b l ih => exact (k s b).trans (ih _)

end PathsKept

theorem pathsKept_dropPortQueues (p g i : Nat) (s : State) : PathsKept s (dropPortQueues p g i s) := by
  refine .foldl (fun x q => ?_) _ _
  have dp := dropQueued_dp (count := fun _ s => bump g i s) (fun _ s => bumpN_dp _ _ _ s) (qkey p q) (fun _ => true) x
  exact ⟨by rw [dp], by rw [dp], by rw [dp]⟩

theorem pathsKept_abortTx {cnt : Sending → State → State} (hc : ∀ x s, (cnt x s).dp = s.dp) (p : Nat) (s : State) :
    PathsKept s (abortTx p cnt s) := by
  unfold abortTx
  extract_lets t l u
  have hu : PathsKept s u := ⟨rfl, rfl, rfl⟩
  clear_value u
  exact hu.trans (.foldl (fun x e => .of_dp ((hc _ _).trans (returnCharges_dp _ _ _ _))) _ _)

/-- The queues and transmitters of hearth `h`'s ports are emptied. -/
def hearthPortsCut (h : Nat) (s : State) : State :=
  (portsOf h ++ [72 + h]).foldl (fun s p =>
    abortTx p (fun _ s => bump 11 (4 * p) s) (dropPortQueues p 11 (4 * p) (putIngress p [] s))) s

theorem pathsKept_hearthPortsCut (h : Nat) (s : State) : PathsKept s (hearthPortsCut h s) := by
  unfold hearthPortsCut
  refine .foldl (fun x p => ?_) _ _
  have ingress : PathsKept x (putIngress p [] x) := ⟨rfl, rfl, rfl⟩
  exact (ingress.trans (pathsKept_dropPortQueues _ _ _ _)).trans (pathsKept_abortTx (fun _ s => bumpN_dp _ _ _ s) _ _)

theorem same_hearthPortsCut (h : Nat) (s : State) : Same [.regs, .tal, .dp, .tmg] s (hearthPortsCut h s) := by
  unfold hearthPortsCut
  refine Same.foldl (fun x p hx => ?_) (Same.refl _ _)
  exact same_abortTx_h (by decide) (fun _ _ hy => (same_bump _ _ _).comp (by decide) hy)
    ((same_dropPortQueues _ _ _ _).comp (by decide) ((same_putIngress _ _ _).comp (by decide) hx))

/-- Hearth `h` is held in reset, and the record of it made. -/
def hearthHeld (h : Nat) (s : State) : State :=
  raise 0x0004 h 0 0 (forBits A.GLB_RST_CAUSE (2 ^ (4 + h))
    { s with glb := { s.glb with hearthRst := if s.glb.hearthRst.contains h then s.glb.hearthRst else s.glb.hearthRst ++ [h] } })

theorem resetHearth_eq (h : Nat) (s : State) :
    resetHearth h s = hearthPortsCut h (putPipe h [] (putRecirc h [] (putHostFifo h [] (hearthHeld h s)))) := rfl

theorem hearthHeld_dp (h : Nat) (s : State) : (hearthHeld h s).dp = s.dp := by rw [hearthHeld, raise_dp, forBits_dp]

theorem hearthHeld_rst (h : Nat) (s : State) :
    (hearthHeld h s).glb.hearthRst = if s.glb.hearthRst.contains h then s.glb.hearthRst else s.glb.hearthRst ++ [h] := by
  rw [hearthHeld, raise_glb, forBits_glb]

theorem resetHearth_rst (h k : Nat) (s : State) :
    k ∈ (resetHearth h s).glb.hearthRst ↔ k ∈ s.glb.hearthRst ∨ k = h := by
  have glb : (resetHearth h s).glb = (hearthHeld h s).glb := by
    rw [resetHearth_eq, (same_hearthPortsCut h _).part .glb (by decide), putPipe_glb, putRecirc_glb, putHostFifo_glb]
  rw [glb, hearthHeld_rst]
  by_cases e : s.glb.hearthRst.contains h = true
  · rw [if_pos e]
    have mem : h ∈ s.glb.hearthRst := by simpa using e
    exact ⟨.inl, fun hk => hk.elim id (fun hk => hk ▸ mem)⟩
  · rw [if_neg e, List.mem_append, List.mem_singleton]

/-- The paths into hearth `k` are empty, or as they were. -/
def PathsOf (k : Nat) (cut : Prop) (s t : State) : Prop :=
  (cut → pipeOf t k = [] ∧ recircOf t k = [] ∧ hostFifo t k = []) ∧
    (¬ cut → pipeOf t k = pipeOf s k ∧ recircOf t k = recircOf s k ∧ hostFifo t k = hostFifo s k)

theorem resetHearth_paths (h k : Nat) (s : State) : PathsOf k (h = k) s (resetHearth h s) := by
  have kept := pathsKept_hearthPortsCut h (putPipe h [] (putRecirc h [] (putHostFifo h [] (hearthHeld h s))))
  have dp := hearthHeld_dp h s
  rw [← resetHearth_eq] at kept
  have pipe : pipeOf (resetHearth h s) k = if h = k then [] else pipeOf s k := by
    rw [pipeOf, kept.pipe, show (putPipe h [] (putRecirc h [] (putHostFifo h [] (hearthHeld h s)))).dp.pipe = lput s.dp.pipe h [] by rw [← dp]; rfl,
      lget_lput, pipeOf]
  have recirc : recircOf (resetHearth h s) k = if h = k then [] else recircOf s k := by
    rw [recircOf, kept.recirc, show (putPipe h [] (putRecirc h [] (putHostFifo h [] (hearthHeld h s)))).dp.recirc = lput s.dp.recirc h [] by rw [← dp]; rfl,
      lget_lput, recircOf]
  have host : hostFifo (resetHearth h s) k = if h = k then [] else hostFifo s k := by
    rw [hostFifo, kept.host, show (putPipe h [] (putRecirc h [] (putHostFifo h [] (hearthHeld h s)))).dp.host = lput s.dp.host h [] by rw [← dp]; rfl,
      lget_lput, hostFifo]
  exact ⟨fun e => by rw [pipe, recirc, host, if_pos e, if_pos e, if_pos e]; exact ⟨rfl, rfl, rfl⟩,
    fun e => by rw [pipe, recirc, host, if_neg e, if_neg e, if_neg e]; exact ⟨rfl, rfl, rfl⟩⟩

/-- The hearths of a mask are put into reset one by one. -/
def hearthsReset (mask : Nat) (l : List Nat) (s : State) : State :=
  l.foldl (fun s h => if bitAt mask h then resetHearth h s else s) s

theorem hearthsReset_rst (mask k : Nat) (l : List Nat) (s : State) :
    k ∈ (hearthsReset mask l s).glb.hearthRst ↔ k ∈ s.glb.hearthRst ∨ (k ∈ l ∧ bitAt mask k = true) := by
  induction l generalizing s with
  | nil => simp [hearthsReset]
  | cons h l ih =>
    refine (ih _).trans ?_
    beta_reduce
    by_cases e : bitAt mask h = true
    · rw [if_pos e, resetHearth_rst, List.mem_cons]
      constructor
      · rintro ((mem | rfl) | ⟨mem, bit⟩)
        · exact .inl mem
        · exact .inr ⟨.inl rfl, e⟩
        · exact .inr ⟨.inr mem, bit⟩
      · rintro (mem | ⟨rfl | mem, bit⟩)
        · exact .inl (.inl mem)
        · exact .inl (.inr rfl)
        · exact .inr ⟨mem, bit⟩
    · rw [if_neg e, List.mem_cons]
      refine or_congr_right ⟨fun hk => ⟨.inr hk.1, hk.2⟩, fun hk => ⟨hk.1.resolve_left ?_, hk.2⟩⟩
      rintro rfl
      exact e hk.2

theorem hearthsReset_empty {mask k : Nat} (bit : bitAt mask k = true) (l : List Nat) (s : State)
    (h : k ∈ l ∨ (pipeOf s k = [] ∧ recircOf s k = [] ∧ hostFifo s k = [])) :
    pipeOf (hearthsReset mask l s) k = [] ∧ recircOf (hearthsReset mask l s) k = [] ∧ hostFifo (hearthsReset mask l s) k = [] := by
  induction l generalizing s with
  | nil => exact h.resolve_left List.not_mem_nil
  | cons j l ih =>
    refine ih _ ?_
    beta_reduce
    obtain ⟨cut, kept⟩ := resetHearth_paths j k s
    by_cases e : j = k
    · subst e
      rw [if_pos bit]
      exact .inr (cut rfl)
    · rcases h with mem | empty
      · exact .inl ((List.mem_cons.1 mem).resolve_left (Ne.symm e))
      · split
        · obtain ⟨pipe, recirc, host⟩ := kept e
          exact .inr ⟨pipe.trans empty.1, recirc.trans empty.2.1, host.trans empty.2.2⟩
        · exact .inr empty

theorem hearthResets_taken {mask : Nat} {s : State} (idle : s.glb.warmBusy = false) :
    hearthResets mask s = freeCells (hearthsReset mask (List.range 4) s) := if_neg (by simp [idle])

/-! ### A port's reset -/

theorem bitAt_eq_bits (n i : Nat) : bitAt n i = (bits n i 1 == 1) := by
  unfold bitAt bits
  rw [Nat.testBit_eq_decide_div_mod_eq, Nat.shiftRight_eq_div_pow, Nat.pow_one]
  exact (beq_eq_decide _ _).symm

theorem portRst_low {p : Nat} (hp : p < 76) :
    A.GLB_PORT_RST_0 + 4 * (p / 32) < 0x20000 ∧ A.GLB_PORT_RST_0 + 4 * (p / 32) ∉ followRegs := by
  have h : p / 32 < 3 := by omega
  generalize p / 32 = k at h
  interval_cases k <;> decide

theorem Same.portHeld {T : List Part} {s t : State} {p : Nat} (h : Same T s t) (n : Part.low ∉ T) (hp : p < 76) :
    portHeld t p = portHeld s p := by
  unfold Machine.portHeld
  rw [h.rget_low n (portRst_low hp)]

/-- The register that holds port `p`, after the end of a command. -/
theorem SettledFrom.portHeld {s t : State} {p : Nat} (st : SettledFrom s t) (hp : p < 76) : portHeld t p = portHeld s p := by
  unfold Machine.portHeld
  rw [st.reg _ (fun h => (portRst_low hp).2 (List.mem_append_left _ h))]

/-- A port in reset drops what it holds (R142). -/
def portDropped (p : Nat) (s : State) : State :=
  let s := raise 0x0005 p 0 0 (dropPortQueues p 11 (4 * p) s)
  let s := abortTx p (fun x s => if x.pre ∨ 71 < p then bump 11 (4 * p) s else bump 0 (24 * p + 12) s) s
  if 71 < p then s
  else
    let s := putPort p { portSt s p with quanta := 0 } s
    let s := judgeLink p s
    verifyUpdate p (fput (F.PRT_STATUS_TRAINING p) 0 (fput (F.PRT_STATUS_AN_DONE p) 0 (fabLinkDown p (failReceptions p s))))

theorem holdPort_taken {p : Nat} {s : State} (free : portHeld s p = false) :
    holdPort p s = portDropped p (setInt (A.GLB_PORT_RST_0 + 4 * (p / 32)) (p % 32) s) := if_neg (by simp [free])

theorem same_portDropped (p : Nat) (s : State) :
    Same [.regs, .glb, .tal, .gbk, .fab, .pin, .prt, .dp, .tmg, .free, .mid] s (portDropped p s) := by
  unfold portDropped
  extract_lets u v _ w x
  have hu : Same [.regs, .glb, .tal, .gbk, .fab, .pin, .prt, .dp, .tmg, .free, .mid] s u :=
    (same_raise _ _ _ _ _).comp (by decide) ((same_dropPortQueues _ _ _ _).mono (by decide))
  clear_value u
  have hv : Same [.regs, .glb, .tal, .gbk, .fab, .pin, .prt, .dp, .tmg, .free, .mid] s v :=
    same_abortTx_h (by decide)
      (fun _ _ hy => Same.ite ((same_bump _ _ _).comp (by decide) hy) ((same_bump _ _ _).comp (by decide) hy)) hu
  clear_value v
  have hw : Same [.regs, .glb, .tal, .gbk, .fab, .pin, .prt, .dp, .tmg, .free, .mid] s w := (same_putPort _ _ _).comp (by decide) hv
  clear_value w
  have hx : Same [.regs, .glb, .tal, .gbk, .fab, .pin, .prt, .dp, .tmg, .free, .mid] s x := (same_judgeLink _ _).comp (by decide) hw
  clear_value x
  refine Same.ite hv ((same_verifyUpdate _ _).comp (by decide) ?_)
  refine (same_fput_hi _ _ _ (Or.inl (by simp only [F.PRT_STATUS_TRAINING]; omega))).comp (by decide) ?_
  refine (same_fput_hi _ _ _ (Or.inl (by simp only [F.PRT_STATUS_AN_DONE]; omega))).comp (by decide) ?_
  exact (same_fabLinkDown _ _).comp (by decide) ((same_failReceptions _ _).comp (by decide) hx)

theorem portHeld_setInt (p : Nat) (s : State) : portHeld (setInt (A.GLB_PORT_RST_0 + 4 * (p / 32)) (p % 32) s) p = true :=
  testBit_forBits _ _ _ (Nat.mod_lt _ (by decide))

/-- The bit that holds port `p` is cleared. -/
def holdCleared (p : Nat) (s : State) : State :=
  rput (A.GLB_PORT_RST_0 + 4 * (p / 32)) (setBits (rget s (A.GLB_PORT_RST_0 + 4 * (p / 32))) (p % 32) 1 0) s

theorem portHeld_holdCleared (p : Nat) (s : State) : portHeld (holdCleared p s) p = false := by
  unfold portHeld holdCleared
  rw [rget_rput_same, bitAt_eq_bits, bits_mod _ _ _ (by have := Nat.mod_lt p (by decide : 0 < 32); omega), bits_setBits_same]
  rfl

theorem releaseReset_taken {p : Nat} {s : State} (here : portHeld s p = true) :
    releaseReset p s = if p < 72 then releasePort p (holdCleared p s) else holdCleared p s := by
  unfold releaseReset
  rw [if_neg (by simp [here])]
  rfl

theorem same_releaseEnd (p : Nat) (s : State) :
    Same [.regs, .glb, .tal, .gbk, .fab, .pin, .prt, .dp, .tmg, .free, .mid] s (if p < 72 then releasePort p s else s) :=
  Same.ite (same_releasePort _ _) (Same.refl _ _)

/-! ### The quadrants power up -/

theorem budgets_beginPort (p : Nat) (s : State) : BudgetsOnly s (beginPort p s) := by
  unfold beginPort
  exact BudgetsOnly.trans (.comp (same_startTraining _ _) (by decide) (.comp (same_showCond _ _) (by decide) (.refl s)))
    (budgets_judgeLink p _)

/-- Quadrant `q` is the last that began. -/
def quadrantBegun (q : Nat) (s : State) : State := { s with glb := { s.glb with quadrants := q + 1, quadClk := s.clk } }

theorem budgets_startQuadrant (q : Nat) (s : State) : BudgetsOnly (quadrantBegun q s) (startQuadrant q s) := by
  refine .foldl (fun x i => ?_) _ _
  split
  · exact .refl x
  · exact budgets_beginPort _ x

/-! ### The obligation -/

/-- Settles O24: each reset is one operation, and what it leaves of the parts stands in the lemmas above. -/
theorem hearthAndPortResets : Obligations.HearthAndPortResets := by
  unfold Obligations.HearthAndPortResets
  refine ⟨?_, ?_, ?_, ?_, ?_⟩
  · intro mask s small ready idle
    obtain ⟨t, run, st⟩ := hostCmd_settles (c := .hearthReset mask) (f := hearthResets mask) rfl (decide_eq_true small) ready
    have same := same_hearthResets mask s
    have base := st.glb_base.trans (same.part .base (by decide))
    have tab := st.tab.trans (same.part .tab (by decide))
    rw [hearthResets_taken idle] at st
    have rst : t.glb.hearthRst = (hearthsReset mask (List.range 4) s).glb.hearthRst := by rw [st.glb_hearthRst, freeCells_glb]
    refine ⟨t, run, fun h hh bit => ?_, fun h bit => ?_, base, tab⟩
    · obtain ⟨pipe, recirc, host⟩ := hearthsReset_empty bit (List.range 4) s (.inl (List.mem_range.2 hh))
      refine ⟨?_, ?_, ?_, ?_⟩
      · rw [rst, hearthsReset_rst]
        exact .inr ⟨List.mem_range.2 hh, bit⟩
      · rw [pipeOf, st.dp]
        exact pipe
      · rw [recircOf, st.dp]
        exact recirc
      · rw [hostFifo, st.dp]
        exact host
    · rw [rst, hearthsReset_rst, bit]
      simp
  · rintro dt h s u hh ⟨free, rfl⟩
    obtain ⟨t, run, st⟩ := timed_settles (c := .hearthResetComplete dt h)
      (f := fun s => { s with glb := { s.glb with hearthRst := s.glb.hearthRst.filter (· != h) } }) rfl (decide_eq_true hh) ⟨free, rfl⟩
    exact ⟨t, run, st.glb_hearthRst, st.dp, st.tab⟩
  · intro p s hp ready free
    obtain ⟨t, run, st⟩ := hostCmd_settles (c := .portReset p) (f := fun s => freeCells (holdPort p s)) rfl (decide_eq_true hp) ready
    rw [holdPort_taken free] at st
    have same := same_portDropped p (setInt (A.GLB_PORT_RST_0 + 4 * (p / 32)) (p % 32) s)
    refine ⟨t, run, ?_, ?_⟩
    · rw [st.portHeld hp, (same_freeCells _).portHeld (by decide) hp, same.portHeld (by decide) hp, portHeld_setInt]
    · rw [st.glb_base, freeCells_glb, same.part .base (by decide), setInt_glb]
  · intro p s hp ready here
    obtain ⟨t, run, st⟩ := hostCmd_settles (c := .portResetRelease p) (f := fun s => freeCells (releaseReset p s)) rfl
      (decide_eq_true hp) ready
    rw [releaseReset_taken here] at st
    have same := same_releaseEnd p (holdCleared p s)
    refine ⟨t, run, ?_, ?_⟩
    · rw [st.portHeld hp, (same_freeCells _).portHeld (by decide) hp, same.portHeld (by decide) hp, portHeld_holdCleared]
    · rw [st.glb_base, freeCells_glb, same.part .base (by decide), holdCleared, rput_glb]
  · rintro dt q s u hq ⟨free, rfl⟩ pos next late power
    obtain ⟨t, run, st⟩ := timed_settles (c := .quadrantTrainingStart dt q) (f := fun s =>
      if 0 < q ∧ q = s.glb.quadrants ∧ s.glb.quadClk + 50 * clocksPerMs ≤ s.clk ∧ powered s then freeCells (startQuadrant q s)
      else s) rfl (decide_eq_true hq) ⟨free, rfl⟩
    rw [if_pos ⟨pos, next, late, power⟩] at st
    have kept := budgets_startQuadrant q (passTime dt s)
    refine ⟨t, run, ?_, ?_⟩
    · rw [st.glb_quadrants, freeCells_glb, kept, quadrantBegun]
    · rw [st.glb_quadClk, freeCells_glb, kept, quadrantBegun]

end Machine
end Sys2Proof
end

section
/-! PROOF. Proofs/Reception.lean: frames and MAC Control frames at a front port (O25). -/
namespace Sys2Proof
namespace Machine

/-! ### The counters of the front ports -/

theorem le_foldl_add (l : List Nat) (a : Nat) : a ≤ l.foldl (· + ·) a := by
  induction l generalizing a with
  | nil => exact Nat.le_refl a
  | cons b l ih => exact Nat.le_trans (Nat.le_add_right a b) (ih (a + b))

/-- Every other group lies above the counters of the ports. -/
theorem portCounters_le {g : Nat} (h : 0 < g) : 1728 ≤ groupBase g := by
  obtain ⟨k, rfl⟩ : ∃ k, g = k + 1 := ⟨g - 1, by omega⟩
  exact le_foldl_add _ _

/-- From `s` to `t` no counter of a front port changes. -/
def PortCtrsKept (s t : State) : Prop := ∀ i, i < 1728 → ctr t 0 i = ctr s 0 i

namespace PortCtrsKept
variable {T : List Part} {s t u : State}

theorem of_tal (h : t.tal = s.tal) : PortCtrsKept s t := fun _ _ => ctr_congr (by rw [h]) _ _

theorem refl (s : State) : PortCtrsKept s s := of_tal rfl

theorem trans (h : PortCtrsKept s t) (k : PortCtrsKept t u) : PortCtrsKept s u := fun i hi => (k i hi).trans (h i hi)

theorem of_same (h : Same T s t) (n : Part.tal ∉ T) : PortCtrsKept s t := of_tal (h.part .tal n)

theorem bumpN {g : Nat} (i n : Nat) (s : State) (hg : 0 < g) : PortCtrsKept s (bumpN g i n s) := fun j hj =>
  ctr_bumpN_ne n s (by have := portCounters_le hg; rw [show groupBase 0 = 0 from rfl]; omega)

theorem raise (c w a b : Nat) (s : State) : PortCtrsKept s (raise c w a b s) := fun i hi =>
  (eventOnly_raise c w a b s).ctr 0 i (by decide) (by
    have : 1728 ≤ groupBase 28 := portCounters_le (by decide)
    rw [show groupBase 0 = 0 from rfl]
    omega)

theorem settled (st : SettledFrom s t) : PortCtrsKept s t := fun i hi => st.ctr 0 i (by decide) (by
  have : 1728 ≤ groupBase 27 := portCounters_le (by decide)
  rw [show groupBase 0 = 0 from rfl]
  omega)

end PortCtrsKept

theorem noCell_dp (p : Nat) (s : State) : (noCell p s).dp = s.dp := by rw [noCell, raise_dp, setInt_dp, bump, bumpN_dp]

theorem portCtrs_noCell (p : Nat) (s : State) : PortCtrsKept s (noCell p s) := by
  unfold noCell
  exact (PortCtrsKept.bumpN _ _ s (by decide)).trans ((PortCtrsKept.of_tal (setInt_tal _ _ _)).trans (.raise _ _ _ _ _))

theorem portCtrs_takeCells (i n : Nat) (s : State) : PortCtrsKept s (takeCells i n s) := by
  unfold takeCells
  split
  · exact .refl s
  · split
    · exact .refl s
    · split
      · exact .of_same (same_putFrame _ _ _) (by decide)
      · split
        · exact .of_same (same_putFrame _ _ _) (by decide)
        · exact (PortCtrsKept.of_same (same_dropFrame _ _ _) (by decide)).trans (portCtrs_noCell _ _)

/-! ### Frames by number -/

theorem find?_sins {α : Type} (m : List (Nat × α)) (k : Nat) (v : α) (h : ∀ e ∈ m, e.1 ≠ k) :
    (sins m k v).find? (fun e => e.1 == k) = some (k, v) := by
  induction m with
  | nil => simp [sins]
  | cons e m ih =>
    obtain ⟨j, w⟩ := e
    have ne : j ≠ k := h _ (.head _)
    unfold sins
    split
    · simp
    · rw [List.find?_cons_of_neg (by simpa using ne)]
      exact ih (fun e he => h e (.tail _ he))

theorem frameOf_putFrame (i : Nat) (f : Frame) (s : State) : frameOf (putFrame i f s) i = some f := by
  unfold frameOf putFrame
  rw [find?_sins _ _ _ (fun e he => ((mem_sdel _ _ _).1 he).2)]
  rfl

theorem portSt_putPort (p : Nat) (x : PortSt) (s : State) : portSt (putPort p x s) p = x := sget_sput_same _ _ _

theorem portSt_congr {s t : State} (h : t.prt = s.prt) (p : Nat) : portSt t p = portSt s p := by rw [portSt, h, portSt]

/-- What decides whether a frame is dropped at its end. -/
def macFacts (f : Frame) : Nat × Bool × Bool := (f.rxLen, f.fcsOk, f.stopped)

theorem macDrop_congr {f g : Frame} (h : macFacts g = macFacts f) (e : Bool) : macDrop g e = macDrop f e := by
  simp only [macFacts, Prod.mk.injEq] at h
  obtain ⟨len, fcs, stopped⟩ := h
  rw [macDrop, macDrop, len, fcs, stopped]

theorem frameOf_dropFrame (i : Nat) (f : Frame) (s : State) : frameOf (dropFrame i f s) i = some { f with bad := true } :=
  frameOf_putFrame _ _ _

/-- A frame whose cells are taken keeps what decides its end. -/
theorem takeCells_frame {i : Nat} {f : Frame} {s : State} (n : Nat) (h : frameOf s i = some f) :
    ∃ g, frameOf (takeCells i n s) i = some g ∧ macFacts g = macFacts f := by
  unfold takeCells
  rw [h]
  dsimp only
  split
  · exact ⟨f, h, rfl⟩
  · split
    · exact ⟨_, frameOf_putFrame _ _ _, rfl⟩
    · split
      · exact ⟨_, frameOf_putFrame _ _ _, rfl⟩
      · refine ⟨{ f with taken := 0, bad := true }, ?_, rfl⟩
        rw [frameOf, noCell_dp]
        exact frameOf_dropFrame _ _ _

/-! ### The end of a reception -/

/-- Frame `i` is no longer being received, and has the cells it needs. -/
def receptionOver (p i : Nat) (f : Frame) (s : State) : State :=
  takeCells i (cellsFor f.bytes.length - f.taken) (putPort p { portSt s p with rx := (portSt s p).rx.filter (· != i) } s)

/-- The reception of frame `i`, now `g`, is counted (R216). -/
def countEnd (p i : Nat) (e : Bool) (g : Frame) (s : State) : State :=
  match macDrop g e with
  | some k =>
    let s := bump 0 (24 * p + k) s
    let s := if g.bad then s else dropFrame i { g with whole := true } s
    if g.bytes == [] && !g.bad then putPort p { portSt s p with ctl := none } s else s
  | none =>
    let s := bumpN 0 (24 * p + 1) g.rxLen (bump 0 (24 * p) s)
    if g.bad then s else putFrame i { g with whole := true } s

theorem receiveEnd_eq {p i : Nat} {f g : Frame} {e : Bool} {s : State} (h : frameOf s i = some f)
    (hg : frameOf (receptionOver p i f s) i = some g) : receiveEnd p i e s = countEnd p i e g (receptionOver p i f s) := by
  have found : frameOf (putPort p { portSt s p with rx := (portSt s p).rx.filter (· != i) } s) i = some f := h
  unfold receiveEnd
  dsimp only
  rw [found]
  unfold receptionOver at hg
  dsimp only
  rw [hg]
  rfl

theorem countEnd_counts {p i : Nat} {g : Frame} {e : Bool} {s : State} (hp : p < 72) :
    match macDrop g e with
    | some k => ctr (countEnd p i e g s) 0 (24 * p + k) = (ctr s 0 (24 * p + k) + 1) % 2 ^ 64
    | none => ctr (countEnd p i e g s) 0 (24 * p) = (ctr s 0 (24 * p) + 1) % 2 ^ 64 ∧
        ctr (countEnd p i e g s) 0 (24 * p + 1) = (ctr s 0 (24 * p + 1) + g.rxLen) % 2 ^ 64 := by
  unfold countEnd
  cases drop : macDrop g e with
  | some k =>
    dsimp only
    have small : k ≤ 6 := by
      unfold macDrop at drop
      grind
    have dropped (x : State) : PortCtrsKept x (if g.bad then x else dropFrame i { g with whole := true } x) := by
      split
      · exact .refl x
      · exact .of_same (same_dropFrame _ _ _) (by decide)
    have freed (x : State) : PortCtrsKept x (if g.bytes == [] && !g.bad then putPort p { portSt x p with ctl := none } x else x) := by
      split
      · exact .of_tal (putPort_tal _ _ _)
      · exact .refl x
    rw [freed _ _ (by omega), dropped _ _ (by omega)]
    exact ctr_bumpN_same _ _ _ _
  | none =>
    dsimp only
    have kept (x : State) : PortCtrsKept x (if g.bad then x else putFrame i { g with whole := true } x) := by
      split
      · exact .refl x
      · exact .of_same (same_putFrame _ _ _) (by decide)
    rw [kept _ _ (by omega), kept _ _ (by omega)]
    constructor
    · rw [ctr_bumpN_ne _ _ (by omega)]
      exact ctr_bumpN_same _ _ _ _
    · rw [ctr_bumpN_same, bump, ctr_bumpN_ne _ _ (by omega)]

/-- A frame is counted as received, or by the reason it is dropped for (R216). -/
theorem receiveEnd_counts {p i : Nat} {f : Frame} {e : Bool} {s : State} (hp : p < 72) (h : frameOf s i = some f) :
    match macDrop f e with
    | some k => ctr (receiveEnd p i e s) 0 (24 * p + k) = (ctr s 0 (24 * p + k) + 1) % 2 ^ 64
    | none => ctr (receiveEnd p i e s) 0 (24 * p) = (ctr s 0 (24 * p) + 1) % 2 ^ 64 ∧
        ctr (receiveEnd p i e s) 0 (24 * p + 1) = (ctr s 0 (24 * p + 1) + f.rxLen) % 2 ^ 64 := by
  have found : frameOf (putPort p { portSt s p with rx := (portSt s p).rx.filter (· != i) } s) i = some f := h
  obtain ⟨g, hg, facts⟩ := takeCells_frame (cellsFor f.bytes.length - f.taken) found
  have kept : PortCtrsKept s (receptionOver p i f s) := (PortCtrsKept.of_tal (putPort_tal _ _ _)).trans (portCtrs_takeCells _ _ _)
  have len : g.rxLen = f.rxLen := congrArg Prod.fst facts
  have counts := countEnd_counts (i := i) (g := g) (e := e) (s := receptionOver p i f s) hp
  rw [receiveEnd_eq h hg, ← macDrop_congr facts e, ← len]
  cases drop : macDrop g e with
  | some k =>
    have small : k ≤ 6 := by
      unfold macDrop at drop
      grind
    rw [drop] at counts
    dsimp only at counts ⊢
    rw [counts, kept _ (by omega)]
  | none =>
    rw [drop] at counts
    dsimp only at counts ⊢
    rw [counts.1, counts.2, kept _ (by omega), kept _ (by omega)]
    exact ⟨rfl, rfl⟩

/-! ### A frame begins -/

/-- The frame that a reception of `b` makes, as it is received. -/
def arrivalOf (p : Nat) (b : List Byte) (pre : Bool) (stamp : Nat) (step : Int) (phase : Nat) (s : State) : Frame :=
  { newFrame (b.take (clampN (fget s (F.PRT_MAC_CFG_MAX_LEN p)) 64 10240)) p with
    fcsOk := fcsRight b, rxLen := b.length, stopped := decide (clampN (fget s (F.PRT_MAC_CFG_MAX_LEN p)) 64 10240 < b.length)
    began := s.clk, taken := min 1 b.length, preemptable := pre, stamp := stamp, stepSum := step, phase := phase }

/-- The frame as it enters the buffer: without bytes where it is a MAC Control frame or finds no cell. -/
def storedArrival (b : List Byte) (f : Frame) (s : State) : Frame :=
  if beAt b 12 2 == 0x8808 then { f with bytes := [], taken := 0 } else if cellsFree s 1 then f else { f with bytes := [], taken := 0, bad := true }

/-- The frame joins those being received at port `p`. -/
def arrivalNoted (p : Nat) (b : List Byte) (f : Frame) (s : State) : State :=
  let u := (addFrame f s).2
  let v := putPort p { portSt u p with rx := s.dp.next :: (portSt u p).rx, ctl := if beAt b 12 2 == 0x8808 then some b else (portSt u p).ctl } u
  { v with pin := { v.pin with activity := sput (fun _ => 0) v.pin.activity p (v.clk + 1) } }

/-- What a frame noted does: it enters the ingress FIFO, or finds no cell. -/
def arrivalTaken (p : Nat) (b : List Byte) (room : Bool) (i : Nat) (s : State) : State :=
  if beAt b 12 2 == 0x8808 then s
  else if ¬ room then noCell p s
  else if s.glb.hearthRst.contains (ownerOf p) then s
  else putIngress p (ingressOf s p ++ [i]) s

theorem arrive_eq (p : Nat) (b : List Byte) (pre : Bool) (stamp : Nat) (step : Int) (phase : Nat) (s : State) :
    (arrive p b pre stamp step phase s).2 = arrivalTaken p b (cellsFree s 1) s.dp.next
      (arrivalNoted p b (storedArrival b (arrivalOf p b pre stamp step phase s) s) s) := by
  have split (w : State) : ((if beAt b 12 2 == 0x8808 then (s.dp.next, w)
      else if ¬ cellsFree s 1 then (s.dp.next, noCell p w)
      else if w.glb.hearthRst.contains (ownerOf p) then (s.dp.next, w)
      else (s.dp.next, putIngress p (ingressOf w p ++ [s.dp.next]) w)) : Nat × State).2 = arrivalTaken p b (cellsFree s 1) s.dp.next w := by
    unfold arrivalTaken
    split
    · rfl
    · split
      · rfl
      · split <;> rfl
  exact split (arrivalNoted p b (storedArrival b (arrivalOf p b pre stamp step phase s) s) s)

theorem arrivalNoted_spec (p : Nat) (b : List Byte) (f : Frame) (s : State) :
    (portSt (arrivalNoted p b f s) p).rx = s.dp.next :: (portSt s p).rx ∧
      (arrivalNoted p b f s).dp.frames = s.dp.frames ++ [(s.dp.next, f)] ∧
      ingressOf (arrivalNoted p b f s) p = ingressOf s p ∧ (arrivalNoted p b f s).glb = s.glb :=
  ⟨congrArg PortSt.rx (portSt_putPort _ _ _), rfl, rfl, rfl⟩

theorem arrivalTaken_spec (p : Nat) (b : List Byte) (room : Bool) (i : Nat) (s : State) :
    portSt (arrivalTaken p b room i s) p = portSt s p ∧ (arrivalTaken p b room i s).dp.frames = s.dp.frames := by
  unfold arrivalTaken
  split
  · exact ⟨rfl, rfl⟩
  · split
    · exact ⟨portSt_congr (by rw [noCell, raise_prt, setInt_prt, bump, bumpN_prt]) p, by rw [noCell_dp]⟩
    · split <;> exact ⟨rfl, rfl⟩

theorem arrivalTaken_enters {p : Nat} {b : List Byte} {i : Nat} {s : State} (data : beAt b 12 2 ≠ 0x8808)
    (free : s.glb.hearthRst.contains (ownerOf p) = false) :
    ingressOf (arrivalTaken p b true i s) p = ingressOf s p ++ [i] := by
  unfold arrivalTaken
  rw [if_neg (by simpa using data), if_neg (by simp), if_neg (by rw [free]; decide)]
  exact (lget_lput _ _ _ _).trans (if_pos rfl)

theorem storedArrival_spec (p : Nat) (b : List Byte) (pre : Bool) (stamp : Nat) (step : Int) (phase : Nat) (s : State) :
    (storedArrival b (arrivalOf p b pre stamp step phase s) s).srcPort = p ∧
      (storedArrival b (arrivalOf p b pre stamp step phase s) s).preemptable = pre ∧
      (storedArrival b (arrivalOf p b pre stamp step phase s) s).rxLen = b.length ∧
      (storedArrival b (arrivalOf p b pre stamp step phase s) s).fcsOk = fcsRight b := by
  unfold storedArrival
  split
  · exact ⟨rfl, rfl, rfl, rfl⟩
  · split <;> exact ⟨rfl, rfl, rfl, rfl⟩

theorem frameStart_express {p : Nat} {b : List Byte} {s : State} (h : takes s p = true) :
    frameStart p true b s = (arrive p b false (rxStamp s p) s.tim.stepSum (phaseInstant s) s).2 := by
  unfold frameStart
  rw [if_neg (by simp [h]), if_neg (by simp), if_neg (by simp)]
  rfl

/-! ### PAUSE -/

/-- A PAUSE frame taken in has loaded the timer of port `p` (R224). -/
def pauseLoaded (p : Nat) (b : List Byte) (s : State) : State :=
  loadPause p (beAt b 16 2) (bump 0 (24 * p + 7) (putPort p { portSt s p with ctl := none } s))

theorem macControl_pause {p : Nat} {b : List Byte} {s : State} (op : beAt b 14 2 = 1) (dest : beAt b 0 6 = 0x0180C2000001)
    (en : fbit s (F.PRT_MAC_CFG_PAUSE_RX_EN p) = true) :
    macControl p b (putPort p { portSt s p with ctl := none } s) = pauseLoaded p b s := by
  have en' : fbit (bump 0 (24 * p + 7) (putPort p { portSt s p with ctl := none } s)) (F.PRT_MAC_CFG_PAUSE_RX_EN p) = true :=
    (congrArg (· == 1) (fget_congr (rget_congr rfl _))).trans en
  unfold macControl pauseLoaded
  dsimp only
  rw [if_pos ⟨op, dest⟩, if_pos en']

theorem loadPause_spec (p q : Nat) (s : State) :
    (portSt (loadPause p q s) p).quanta = q ∧ (portSt (loadPause p q s) p).pauseClk = s.clk ∧
      (portSt (loadPause p q s) p).ctl = (portSt s p).ctl := by
  unfold loadPause
  dsimp only
  rw [portSt_putPort]
  exact ⟨rfl, rfl, rfl⟩

theorem pauseLoaded_spec (p : Nat) (b : List Byte) (s : State) :
    ((portSt (pauseLoaded p b s) p).quanta = beAt b 16 2 ∧ (portSt (pauseLoaded p b s) p).pauseClk = s.clk ∧
      (portSt (pauseLoaded p b s) p).ctl = none) ∧
      ctr (pauseLoaded p b s) 0 (24 * p + 7) = (ctr s 0 (24 * p + 7) + 1) % 2 ^ 64 := by
  unfold pauseLoaded
  obtain ⟨quanta, clk, ctl⟩ := loadPause_spec p (beAt b 16 2) (bump 0 (24 * p + 7) (putPort p { portSt s p with ctl := none } s))
  rw [quanta, clk, ctl, bump, portSt_congr (bumpN_prt 0 (24 * p + 7) 1 _) p, portSt_putPort]
  refine ⟨⟨rfl, rfl, rfl⟩, ?_⟩
  exact (ctr_congr (congrArg Tal.live (putPort_tal _ _ _)) _ _).trans (ctr_bumpN_same _ _ _ _)

/-! ### The obligation -/

/-- Settles O25: a frame that begins (`arrive_eq`), one that ends (`receiveEnd_counts`), and the pause timer. -/
theorem portsReceiveFrames : Obligations.PortsReceiveFrames := by
  unfold Obligations.PortsReceiveFrames
  refine ⟨?_, ?_, ?_, ?_⟩
  · rintro dt p bytes s u hp ⟨free, rfl⟩ taking
    obtain ⟨t, run, st⟩ := timed_settles (c := .frameArrival dt p true bytes) (f := frameStart p true bytes) rfl (decide_eq_true hp)
      ⟨free, rfl⟩
    rw [frameStart_express taking, arrive_eq] at st
    generalize passTime dt s = u at *
    obtain ⟨src, pre, len, fcs⟩ := storedArrival_spec p bytes false (rxStamp u p) u.tim.stepSum (phaseInstant u) u
    generalize storedArrival bytes (arrivalOf p bytes false (rxStamp u p) u.tim.stepSum (phaseInstant u) u) u = f at *
    obtain ⟨rx, frames, ingress, glb⟩ := arrivalNoted_spec p bytes f u
    obtain ⟨port, frames'⟩ := arrivalTaken_spec p bytes (cellsFree u 1) u.dp.next (arrivalNoted p bytes f u)
    refine ⟨t, f, run, ?_, ?_, src, pre, len, fcs, fun room data rst => ?_⟩
    · rw [portSt_congr st.prt, port, rx]
    · rw [st.dp, frames', frames]
      exact List.mem_append_right _ (.head _)
    · rw [ingressOf, st.dp, ← ingressOf, room, arrivalTaken_enters data (by rw [glb, rst]), ingress]
  · rintro dt p i e f s u hp ⟨free, rfl⟩ oldest found
    obtain ⟨t, run, st⟩ := timed_settles (c := .frameReceiveEnd dt p e) (f := fun s => match (portSt s p).rx.getLast? with
      | some i => freeCells (receiveEnd p i e s)
      | none => s) rfl (decide_eq_true hp) ⟨free, rfl⟩
    rw [oldest] at st
    have kept : PortCtrsKept (receiveEnd p i e (passTime dt s)) t :=
      (PortCtrsKept.of_tal (freeCells_tal _)).trans (.settled st)
    have counts := receiveEnd_counts (e := e) hp found
    refine ⟨t, run, ?_⟩
    cases drop : macDrop f e with
    | some k =>
      have small : k ≤ 6 := by
        unfold macDrop at drop
        grind
      rw [drop] at counts
      exact (kept _ (by omega)).trans counts
    | none =>
      rw [drop] at counts
      exact ⟨(kept _ (by omega)).trans counts.1, (kept _ (by omega)).trans counts.2⟩
  · rintro dt p b s u hp ⟨free, rfl⟩ here whole op dest en
    obtain ⟨t, run, st⟩ := timed_settles (c := .macControlFrame dt p) (f := fun s => match (portSt s p).ctl with
      | some b => if controlArriving s p then s else macControl p b (putPort p { portSt s p with ctl := none } s)
      | none => s) rfl (decide_eq_true hp) ⟨free, rfl⟩
    rw [here] at st
    dsimp only at st
    rw [if_neg (by simp [whole]), macControl_pause op dest en] at st
    obtain ⟨port, counts⟩ := pauseLoaded_spec p b (passTime dt s)
    rw [← portSt_congr st.prt p] at port
    obtain ⟨quanta, clk, ctl⟩ := port
    exact ⟨t, run, quanta, clk, ctl, ((PortCtrsKept.settled st) _ (by omega)).trans counts⟩
  · rintro dt p s u hp ⟨free, rfl⟩ done
    obtain ⟨t, run, st⟩ := timed_settles (c := .pauseTimerExpiry dt p) (f := fun s =>
      if paused s p then s else putPort p { portSt s p with quanta := 0, lossSeen := false } s) rfl (decide_eq_true hp) ⟨free, rfl⟩
    rw [if_neg (by simp [done])] at st
    have port := (portSt_congr st.prt p).trans (portSt_putPort _ _ _)
    exact ⟨t, run, by rw [port], by rw [port], st.dp.trans (putPort_dp _ _ _), st.tab.trans (putPort_tab _ _ _)⟩

end Machine
end Sys2Proof
end

section
/-! PROOF. Proofs/MacMerge.lean: the MAC merge sublayer of a front port (O26). -/
namespace Sys2Proof
namespace Machine

/-! ### The registers of the front ports -/

/-- Register `r` lies in the blocks of the front ports. -/
def PrtReg (r : Nat) : Prop := 0x40000 ≤ r ∧ r < 0x80000

theorem PrtReg.not_mem_settleRegs {r : Nat} (h : PrtReg r) : r ∉ settleRegs := by
  have outside : ∀ a ∈ settleRegs, a < 0x40000 ∨ 0x80000 ≤ a := by decide
  intro hr
  have := outside r hr
  unfold PrtReg at h
  omega

theorem PrtReg.ne_gbk {r : Nat} (h : PrtReg r) : r ≠ A.GBK_INT_STAT := by
  unfold PrtReg at h
  unfold A.GBK_INT_STAT
  omega

theorem prtReg_preempt {p : Nat} (h : p < 72) : PrtReg (A.PRT_PREEMPT_STATUS p) := by
  unfold PrtReg A.PRT_PREEMPT_STATUS
  omega

theorem prtReg_int {p : Nat} (h : p < 72) : PrtReg (A.PRT_INT_STAT p) := by
  unfold PrtReg A.PRT_INT_STAT
  omega

/-! ### Verification (R236) -/

theorem verifyState_setVerify {v : Nat} (p : Nat) (s : State) (h : v < 8) : verifyState (setVerify p v s) p = v := by
  have apart : Apart (F.PRT_PREEMPT_STATUS_ACTIVE p) (F.PRT_PREEMPT_STATUS_VERIFY_STATE p) :=
    Or.inr (Or.inl ⟨show 0 + 3 ≤ 3 by decide, show 3 ≤ 32 by decide⟩)
  unfold verifyState setVerify
  rw [fget_fput_apart _ _ apart, fget_fput_same _ _ _ (show 0 + 3 ≤ 32 by decide)]
  exact Nat.mod_eq_of_lt h

theorem active_setVerify (p v : Nat) (s : State) : fget (setVerify p v s) (F.PRT_PREEMPT_STATUS_ACTIVE p) = b2n (v == 3 || v == 5) := by
  unfold setVerify
  rw [fget_fput_same _ _ _ (show 3 + 1 ≤ 32 by decide)]
  cases v == 3 || v == 5 <;> rfl

/-- Verification has ended in state `v`, with an event of code `code` (R236, R237). -/
def verifyOver (code p v : Nat) (s : State) : State := raise code p 0 0 (setInt (A.PRT_INT_STAT p) 2 (setVerify p v s))

theorem preempt_ne_int (p : Nat) : A.PRT_INT_STAT p ≠ A.PRT_PREEMPT_STATUS p := by
  unfold A.PRT_INT_STAT A.PRT_PREEMPT_STATUS
  omega

theorem preempt_verifyOver {p : Nat} (code v : Nat) (s : State) (hp : p < 72) :
    rget (verifyOver code p v s) (A.PRT_PREEMPT_STATUS p) = rget (setVerify p v s) (A.PRT_PREEMPT_STATUS p) := by
  unfold verifyOver
  rw [rget_raise _ _ _ _ _ (prtReg_preempt hp).ne_gbk, rget_setInt_ne _ _ (preempt_ne_int p)]

theorem verifyState_verifyOver {p v : Nat} (code : Nat) (s : State) (hp : p < 72) (h : v < 8) :
    verifyState (verifyOver code p v s) p = v :=
  (fget_congr (preempt_verifyOver code v s hp)).trans (verifyState_setVerify p s h)

theorem active_verifyOver {p : Nat} (code v : Nat) (s : State) (hp : p < 72) :
    fget (verifyOver code p v s) (F.PRT_PREEMPT_STATUS_ACTIVE p) = b2n (v == 3 || v == 5) :=
  (fget_congr (preempt_verifyOver code v s hp)).trans (active_setVerify p v s)

theorem int_verifyOver {p : Nat} (code v : Nat) (s : State) (hp : p < 72) :
    bitAt (rget (verifyOver code p v s) (A.PRT_INT_STAT p)) 2 = true := by
  unfold verifyOver
  rw [rget_raise _ _ _ _ _ (prtReg_int hp).ne_gbk]
  exact testBit_forBits _ 2 _ (by decide)

theorem respondTaken_waits {p : Nat} {s : State} (taking : takes s p = true) (en : fbit s (F.PRT_PREEMPT_EN p) = true)
    (waits : verifyState s p = 2) : respondReceived p s = verifyOver 0x0305 p 3 s := by
  unfold respondReceived respondTaken
  rw [if_pos taking, if_neg (by simp [en]), if_pos waits]
  rfl

/-! ### The counter of fragments -/

/-- The end of a reception counts none of what port `p` counts from its eighth counter on. -/
theorem ctr_countEnd {p i k : Nat} {g : Frame} {e : Bool} {s : State} (hp : p < 72) (low : 7 ≤ k) (high : k < 24) :
    ctr (countEnd p i e g s) 0 (24 * p + k) = ctr s 0 (24 * p + k) := by
  unfold countEnd
  cases drop : macDrop g e with
  | some n =>
    dsimp only
    have small : n ≤ 6 := by
      unfold macDrop at drop
      grind
    have dropped (x : State) : PortCtrsKept x (if g.bad then x else dropFrame i { g with whole := true } x) := by
      split
      · exact .refl x
      · exact .of_same (same_dropFrame _ _ _) (by decide)
    have freed (x : State) : PortCtrsKept x (if g.bytes == [] && !g.bad then putPort p { portSt x p with ctl := none } x else x) := by
      split
      · exact .of_tal (putPort_tal _ _ _)
      · exact .refl x
    rw [freed _ _ (by omega), dropped _ _ (by omega)]
    exact ctr_bumpN_ne _ _ (by omega)
  | none =>
    dsimp only
    have kept (x : State) : PortCtrsKept x (if g.bad then x else putFrame i { g with whole := true } x) := by
      split
      · exact .refl x
      · exact .of_same (same_putFrame _ _ _) (by decide)
    rw [kept _ _ (by omega), ctr_bumpN_ne _ _ (by omega)]
    exact ctr_bumpN_ne _ _ (by omega)

theorem ctr_receiveEnd {p i k : Nat} {e : Bool} {s : State} (hp : p < 72) (low : 7 ≤ k) (high : k < 24) :
    ctr (receiveEnd p i e s) 0 (24 * p + k) = ctr s 0 (24 * p + k) := by
  cases h : frameOf s i with
  | none =>
    have gone : frameOf (putPort p { portSt s p with rx := (portSt s p).rx.filter (· != i) } s) i = none := h
    unfold receiveEnd
    dsimp only
    rw [gone]
    dsimp only
    rw [gone]
    exact PortCtrsKept.of_tal (putPort_tal _ _ _) _ (by omega)
  | some f =>
    have found : frameOf (putPort p { portSt s p with rx := (portSt s p).rx.filter (· != i) } s) i = some f := h
    obtain ⟨g, hg, -⟩ := takeCells_frame (cellsFor f.bytes.length - f.taken) found
    have kept : PortCtrsKept s (receptionOver p i f s) :=
      (PortCtrsKept.of_tal (putPort_tal _ _ _)).trans (portCtrs_takeCells _ _ _)
    rw [receiveEnd_eq h hg, ctr_countEnd hp low high, kept _ (by omega)]

theorem portCtrs_arrive (p : Nat) (b : List Byte) (pre : Bool) (stamp : Nat) (step : Int) (phase : Nat) (s : State) :
    PortCtrsKept s (arrive p b pre stamp step phase s).2 := by
  rw [arrive_eq]
  refine (PortCtrsKept.of_tal (t := arrivalNoted p b (storedArrival b (arrivalOf p b pre stamp step phase s) s) s) rfl).trans ?_
  unfold arrivalTaken
  split
  · exact .refl _
  · split
    · exact portCtrs_noCell _ _
    · split
      · exact .refl _
      · exact .of_tal rfl

theorem ctr_reasmError {p : Nat} (s : State) (hp : p < 72) : ctr (reasmError p s) 0 (24 * p + 17) = ctr s 0 (24 * p + 17) := by
  unfold reasmError bump
  rw [ctr_bumpN_ne _ _ (by omega)]
  exact PortCtrsKept.of_tal (putPort_tal _ _ _) _ (by omega)

theorem ctr_reassembled {p : Nat} (r : Reasm) (s : State) (hp : p < 72) :
    ctr (reassembled p r s) 0 (24 * p + 17) = ctr s 0 (24 * p + 17) := by
  unfold reassembled
  dsimp only
  rw [ctr_receiveEnd hp (by decide) (by decide), portCtrs_arrive _ _ _ _ _ _ _ _ (by omega)]
  exact PortCtrsKept.of_tal (putPort_tal _ _ _) _ (by omega)

theorem ctr_reasmStep {p : Nat} (r : Reasm) (g : Fragment) (s : State) (hp : p < 72) :
    ctr (reasmStep p r g s) 0 (24 * p + 17) = ctr s 0 (24 * p + 17) := by
  unfold reasmStep
  dsimp only
  split
  · exact ctr_reassembled _ _ hp
  · split
    · exact ctr_reasmError _ hp
    · exact PortCtrsKept.of_tal (putPort_tal _ _ _) _ (by omega)

/-- A fragment that is not the first of its frame is counted (R232). -/
theorem ctr_fragmentReceived_later {p : Nat} {g : Fragment} {s : State} (hp : p < 72) (taking : takes s p = true)
    (en : fbit s (F.PRT_PREEMPT_EN p) = true) (later : g.start = false) :
    ctr (fragmentReceived p g s) 0 (24 * p + 17) = (ctr s 0 (24 * p + 17) + 1) % 2 ^ 64 := by
  unfold fragmentReceived
  rw [if_neg (by simp [taking]), if_neg (by simp [en]), if_neg (by simp [later])]
  have counted : ctr (bump 0 (24 * p + 17) s) 0 (24 * p + 17) = (ctr s 0 (24 * p + 17) + 1) % 2 ^ 64 := ctr_bumpN_same _ _ _ _
  generalize bump 0 (24 * p + 17) s = w at counted
  dsimp only
  split
  · rw [ctr_reasmError _ hp, counted]
  · split
    · rw [ctr_reasmError _ hp, counted]
    · rw [ctr_reasmStep _ _ _ hp, counted]

/-! ### A reassembly begins -/

/-- The reassembly that a first fragment opens (R232). -/
def reasmOf (p : Nat) (g : Fragment) (s : State) : Reasm :=
  { bytes := [] ++ g.bytes, codeError := false || g.codeError, frameCount := g.frameCount % 4, nextFrag := (3 + 1) % 4
    stamp := rxStamp s p, stepSum := s.tim.stepSum, phase := phaseInstant s }

theorem fragmentReceived_first {p : Nat} {g : Fragment} {s : State} (taking : takes s p = true)
    (en : fbit s (F.PRT_PREEMPT_EN p) = true) (first : g.start = true) (more : g.last = false) (intact : g.crcOk = true)
    (idle : (portSt s p).reasm = none) :
    fragmentReceived p g s = putPort p { portSt s p with reasm := some (reasmOf p g s) } s := by
  unfold fragmentReceived
  rw [if_neg (by simp [taking]), if_neg (by simp [en]), if_pos first, idle]
  dsimp only
  rw [if_neg (by simp)]
  unfold reasmStep
  dsimp only
  rw [if_neg (by simp [more]), if_neg (by simp [intact])]
  rfl

/-! ### The obligation -/

/-- Settles O26: a fragment (`fragmentReceived_first`, `ctr_fragmentReceived_later`), the answers and the verify timer. -/
theorem macMergeFollowsItsMpackets : Obligations.MacMergeFollowsItsMpackets := by
  unfold Obligations.MacMergeFollowsItsMpackets
  refine ⟨?_, ?_, ?_, ?_, ?_⟩
  · rintro dt p g s u hp hc hg ⟨free, rfl⟩ taking en first more intact idle
    obtain ⟨t, run, st⟩ := timed_settles (c := .mmFragmentReceived dt p g) (f := fun s => freeCells (fragmentReceived p g s))
      rfl (by simp [wellFormed, hp, hc, hg]) ⟨free, rfl⟩
    rw [fragmentReceived_first taking en first more intact idle] at st
    have port := (portSt_congr (st.prt.trans ((same_freeCells _).part .prt (by decide))) p).trans (portSt_putPort _ _ _)
    exact ⟨t, _, run, congrArg PortSt.reasm port, rfl, Nat.mod_eq_of_lt hc, rfl⟩
  · rintro dt p g s u hp hc hg ⟨free, rfl⟩ taking en later
    obtain ⟨t, run, st⟩ := timed_settles (c := .mmFragmentReceived dt p g) (f := fun s => freeCells (fragmentReceived p g s))
      rfl (by simp [wellFormed, hp, hc, hg]) ⟨free, rfl⟩
    have kept : PortCtrsKept (fragmentReceived p g (passTime dt s)) t :=
      (PortCtrsKept.of_tal (freeCells_tal _)).trans (.settled st)
    exact ⟨t, run, (kept _ (by omega)).trans (ctr_fragmentReceived_later hp taking en later)⟩
  · rintro dt p s u hp ⟨free, rfl⟩ taking en
    obtain ⟨t, run, st⟩ := timed_settles (c := .verifyMpacketReceived dt p) (f := verifyReceived p) rfl (decide_eq_true hp) ⟨free, rfl⟩
    unfold verifyReceived verifyTaken at st
    rw [if_pos taking, if_pos en] at st
    have port := (portSt_congr st.prt p).trans (portSt_putPort _ _ _)
    exact ⟨t, run, congrArg PortSt.mpk port, st.tab.trans (putPort_tab _ _ _)⟩
  · rintro dt p s u hp ⟨free, rfl⟩ taking en waits
    obtain ⟨t, run, st⟩ := timed_settles (c := .respondMpacketReceived dt p) (f := respondReceived p) rfl (decide_eq_true hp) ⟨free, rfl⟩
    have frame := same_respondReceived p (passTime dt s)
    rw [respondTaken_waits taking en waits] at st frame
    refine ⟨t, run, ?_, ?_, ?_, st.dp.trans (frame.part .dp (by decide)), st.tab.trans (frame.part .tab (by decide))⟩
    · exact (st.fget (prtReg_preempt hp).not_mem_settleRegs).trans (verifyState_verifyOver _ _ hp (by decide))
    · exact (st.fget (prtReg_preempt hp).not_mem_settleRegs).trans (active_verifyOver _ _ _ hp)
    · rw [st.reg _ (prtReg_int hp).not_mem_settleRegs]
      exact int_verifyOver _ _ _ hp
  · rintro dt p s u hp ⟨free, rfl⟩ waits late
    obtain ⟨t, run, st⟩ := timed_settles (c := .verifyTimerExpiry dt p) (f := verifyTimer p) rfl (decide_eq_true hp) ⟨free, rfl⟩
    have tab := st.tab.trans ((same_verifyTimer p _).part .tab (by decide))
    unfold verifyTimer at st
    dsimp only at st
    rw [if_neg (by omega)] at st
    refine ⟨t, run, tab, ?_⟩
    split
    next again =>
      rw [if_pos again] at st
      have port := (portSt_congr st.prt p).trans (portSt_putPort _ _ _)
      refine ⟨congrArg PortSt.mpk port, congrArg PortSt.verifySent port, congrArg PortSt.verifyClk port, ?_⟩
      exact (st.fget (prtReg_preempt hp).not_mem_settleRegs).trans ((fget_congr (rget_putPort _ _ _ _)).trans waits)
    next limit =>
      rw [if_neg limit] at st
      exact ⟨(st.fget (prtReg_preempt hp).not_mem_settleRegs).trans (verifyState_verifyOver _ _ hp (by decide)),
        (st.fget (prtReg_preempt hp).not_mem_settleRegs).trans (active_verifyOver _ _ _ hp)⟩

end Machine
end Sys2Proof
end

section
/-! PROOF. Proofs/Links.lean: the links of the front ports (O27). -/
namespace Sys2Proof
namespace Machine

/-! ### What a port keeps while its link is judged -/

/-- From `s` to `t` port `p` keeps its conditions. -/
def CondKept (p : Nat) (s t : State) : Prop := (portSt t p).cond = (portSt s p).cond

namespace CondKept
variable {T : List Part} {p : Nat} {s t u : State}

theorem of_prt (h : t.prt = s.prt) : CondKept p s t := congrArg PortSt.cond (portSt_congr h p)

theorem of_same (h : Same T s t) (n : Part.prt ∉ T) : CondKept p s t := of_prt (h.part .prt n)

theorem trans (h : CondKept p s t) (k : CondKept p t u) : CondKept p s u := Eq.trans k h

theorem put {x : PortSt} (h : x.cond = (portSt s p).cond) : CondKept p s (putPort p x s) :=
  (congrArg PortSt.cond (portSt_putPort _ _ _)).trans h

theorem foldl {β : Type} {f : State → β → State} (k : ∀ x b, CondKept p x (f x b)) (l : List β) (s : State) :
    CondKept p s (l.foldl f s) := by
  induction l generalizing s with
  | nil => exact of_prt rfl
  | cons b l ih => exact (k s b).trans (ih _)

end CondKept

theorem condKept_arrive (p : Nat) (b : List Byte) (pre : Bool) (stamp : Nat) (step : Int) (phase : Nat) (s : State) :
    CondKept p s (arrive p b pre stamp step phase s).2 := by
  rw [arrive_eq]
  have noted (f : Frame) : CondKept p s (arrivalNoted p b f s) := 
    Eq.trans (b := PortSt.cond _) (congrArg PortSt.cond (sget_sput_same (d := portDefault) s.prt p _)) rfl
  refine CondKept.trans (noted (storedArrival b (arrivalOf p b pre stamp step phase s) s)) ?_
  exact congrArg PortSt.cond (arrivalTaken_spec _ _ _ _ _).1

theorem condKept_countEnd (p i : Nat) (e : Bool) (g : Frame) (s : State) : CondKept p s (countEnd p i e g s) := by
  unfold countEnd
  split
  next k _ =>
    dsimp only
    have counted : CondKept p s (bump 0 (24 * p + k) s) := .of_prt (bumpN_prt _ _ _ _)
    have dropped (x : State) : CondKept p x (if g.bad then x else dropFrame i { g with whole := true } x) := by
      split
      · exact .of_prt rfl
      · exact .of_same (same_dropFrame _ _ _) (by decide)
    have freed (x : State) : CondKept p x (if g.bytes == [] && !g.bad then putPort p { portSt x p with ctl := none } x else x) := by
      split
      · exact .put rfl
      · exact .of_prt rfl
    exact (counted.trans (dropped _)).trans (freed _)
  next =>
    have counted : CondKept p s (bumpN 0 (24 * p + 1) g.rxLen (bump 0 (24 * p) s)) :=
      .of_prt ((bumpN_prt _ _ _ _).trans (bumpN_prt _ _ _ _))
    refine counted.trans ?_
    split
    · exact .of_prt rfl
    · exact .of_same (same_putFrame _ _ _) (by decide)

theorem condKept_receiveEnd (p i : Nat) (e : Bool) (s : State) : CondKept p s (receiveEnd p i e s) := by
  have ended : CondKept p s (putPort p { portSt s p with rx := (portSt s p).rx.filter (· != i) } s) := .put rfl
  cases h : frameOf s i with
  | none =>
    have gone : frameOf (putPort p { portSt s p with rx := (portSt s p).rx.filter (· != i) } s) i = none := h
    unfold receiveEnd
    dsimp only
    rw [gone]
    dsimp only
    rw [gone]
    exact ended
  | some f =>
    have found : frameOf (putPort p { portSt s p with rx := (portSt s p).rx.filter (· != i) } s) i = some f := h
    obtain ⟨g, hg, -⟩ := takeCells_frame (cellsFor f.bytes.length - f.taken) found
    rw [receiveEnd_eq h hg]
    exact (ended.trans (.of_same (same_takeCells _ _ _) (by decide))).trans (condKept_countEnd _ _ _ _ _)

theorem condKept_failReceptions (p : Nat) (s : State) : CondKept p s (failReceptions p s) := by
  unfold failReceptions
  extract_lets w v
  have opened : CondKept p s w := by
    unfold w
    split
    · exact condKept_arrive _ _ _ _ _ _ _
    · exact .of_prt rfl
  have failed : CondKept p w v := by
    refine CondKept.foldl (fun x i => ?_) _ _
    split
    · exact (CondKept.of_same (same_putFrame _ _ _) (by decide)).trans (condKept_receiveEnd _ _ _ _)
    · exact .of_prt rfl
  exact (opened.trans failed).trans (.put rfl)

theorem setVerify_prt (p v : Nat) (s : State) : (setVerify p v s).prt = s.prt := by rw [setVerify, fput_prt, fput_prt]

/-- What verification does not touch of a port (R236). -/
theorem verifyUpdate_port (p : Nat) (s : State) :
    (portSt (verifyUpdate p s) p).cond = (portSt s p).cond ∧ (portSt (verifyUpdate p s) p).trained = (portSt s p).trained ∧
      (portSt (verifyUpdate p s) p).taps = (portSt s p).taps := by
  have set (v : Nat) : portSt (setVerify p v s) p = portSt s p := portSt_congr (setVerify_prt p v s) p
  unfold verifyUpdate
  dsimp only
  split
  · rw [set]; exact ⟨rfl, rfl, rfl⟩
  · split
    · rw [set]; exact ⟨rfl, rfl, rfl⟩
    · split
      · rw [set]; exact ⟨rfl, rfl, rfl⟩
      · split
        · unfold sendVerify
          dsimp only
          rw [portSt_putPort, portSt_putPort]
          exact ⟨rfl, rfl, rfl⟩
        · exact ⟨rfl, rfl, rfl⟩

/-! ### The link is reported (R212 to R214) -/

/-- The link of port `p` shows up, before verification and the fabric hear of it. -/
def shownUp (p : Nat) (s : State) : State :=
  raise 0x0301 p 0 0 (setInt (A.PRT_INT_STAT p) 0 (fput (F.PRT_STATUS_TRAINING p) 0 (fput (F.PRT_STATUS_LINK_UP p) 1
    (putPort p { portSt s p with holdClk := none } s))))

theorem reportUp_eq (p : Nat) (s : State) : reportUp p s = fabLinkUp p (verifyUpdate p (shownUp p s)) := rfl

theorem shownUp_prt (p : Nat) (s : State) : (shownUp p s).prt = (putPort p { portSt s p with holdClk := none } s).prt := by
  rw [shownUp, raise_prt, setInt_prt, fput_prt, fput_prt]

/-- A link that comes up leaves the port its conditions and what training settled. -/
theorem reportUp_port (p : Nat) (s : State) :
    (portSt (reportUp p s) p).cond = (portSt s p).cond ∧ (portSt (reportUp p s) p).trained = (portSt s p).trained ∧
      (portSt (reportUp p s) p).taps = (portSt s p).taps := by
  obtain ⟨cond, trained, taps⟩ := verifyUpdate_port p (shownUp p s)
  have shown : portSt (shownUp p s) p = { portSt s p with holdClk := none } :=
    (portSt_congr (shownUp_prt p s) p).trans (portSt_putPort _ _ _)
  rw [reportUp_eq, portSt_congr ((same_fabLinkUp p _).part .prt (by decide)) p, cond, trained, taps, shown]
  exact ⟨rfl, rfl, rfl⟩

theorem condKept_reportDown (p : Nat) (s : State) : CondKept p s (reportDown p s) := by
  unfold reportDown
  extract_lets _ w v x y z
  have waits : CondKept p s (putPort p { portSt s p with holdClk := none } s) := .put rfl
  have failed : CondKept p s w := waits.trans (condKept_failReceptions _ _)
  have shown : CondKept p w v := .of_prt ((bumpN_prt _ _ _ _).trans (fput_prt _ _ _))
  have told : CondKept p v x := .of_prt ((raise_prt _ _ _ _ _).trans (setInt_prt _ _ _))
  have queues : CondKept p x y := by
    unfold y
    split
    · exact .of_prt rfl
    · exact .of_same (same_dropPortQueues _ _ _ _) (by decide)
  have cut : CondKept p y z := .of_same (same_abortTx_h (T := [.regs, .tal, .dp, .tmg]) (by decide)
    (fun _ _ h => Same.comp (same_bumpN _ _ _ _) (by decide) h) (Same.refl _ _)) (by decide)
  have verified : CondKept p z (verifyUpdate p z) := (verifyUpdate_port p z).1
  have fabric : CondKept p (verifyUpdate p z) (fabLinkDown p (verifyUpdate p z)) := .of_same (same_fabLinkDown _ _) (by decide)
  have begun (a : State) : CondKept p a (startTraining p a) := by
    have kept (x : State) (v : Nat) : CondKept p x (fput (F.PRT_STATUS_AN_DONE p) 0 (fput (F.PRT_STATUS_TRAINING p) v x)) :=
      .of_prt ((fput_prt _ _ _).trans (fput_prt _ _ _))
    unfold startTraining
    dsimp only
    refine CondKept.trans ?_ (kept _ _)
    exact .put rfl
  exact ((((((failed.trans shown).trans told).trans queues).trans cut).trans verified).trans fabric).trans (begun _)

theorem condKept_judgeLink (p : Nat) (s : State) : CondKept p s (judgeLink p s) := by
  unfold judgeLink
  dsimp only
  split
  · exact .put rfl
  · split
    · exact condKept_reportDown p s
    · split
      · split
        · exact (reportUp_port p s).1
        · exact condKept_reportDown p s
      · split
        · exact .put rfl
        · exact (condKept_failReceptions p s).trans (.put rfl)

theorem linkAble_of_linkHolds {s : State} {p : Nat} (h : linkHolds s p = true) : linkAble s p = true := by
  unfold linkHolds at h
  simp only [Bool.and_eq_true] at h
  exact h.1.1.1.1.1.1.1

/-- A link that is down comes up or stays down: the port's registers and its conditions tell no more. -/
theorem judgeLink_of_down {p : Nat} {s : State} (down : linkUp s p = false) :
    judgeLink p s = reportUp p s ∨ ∃ c, judgeLink p s = putPort p { portSt s p with holdClk := c } s := by
  unfold judgeLink
  dsimp only
  split
  · exact Or.inr ⟨_, rfl⟩
  next differs =>
    have holds : linkHolds s p = true := by
      rw [down] at differs
      exact Bool.eq_true_of_not_eq_false differs
    rw [if_neg (by simp [linkAble_of_linkHolds holds]), holds]
    split
    · exact Or.inl rfl
    · exact Or.inr ⟨_, rfl⟩

theorem judgeLink_held {p : Nat} {s : State} (holds : linkHolds s p = true) (down : linkUp s p = false)
    (time : (portSt s p).holdClk.getD s.clk + holdTime s p ≤ s.clk) : judgeLink p s = reportUp p s := by
  unfold judgeLink
  dsimp only
  rw [if_neg (by simp [holds, down]), if_neg (by simp [linkAble_of_linkHolds holds]), if_pos time, if_pos holds]

/-! ### The status register of a port -/

theorem prtReg_status {p : Nat} (h : p < 72) : PrtReg (A.PRT_STATUS p) := by
  unfold PrtReg A.PRT_STATUS
  omega

theorem prtReg_mid {r : Nat} (h : PrtReg r) : 0x20000 ≤ r ∧ r < 0x80000 := ⟨Nat.le_trans (by decide) h.1, h.2⟩

theorem preempt_ne_status (p : Nat) : A.PRT_PREEMPT_STATUS p ≠ A.PRT_STATUS p := by
  unfold A.PRT_PREEMPT_STATUS A.PRT_STATUS
  omega

theorem status_verifyUpdate (p : Nat) (s : State) : rget (verifyUpdate p s) (A.PRT_STATUS p) = rget s (A.PRT_STATUS p) := by
  have set (v : Nat) : rget (setVerify p v s) (A.PRT_STATUS p) = rget s (A.PRT_STATUS p) := by
    unfold setVerify
    rw [rget_fput_ne _ _ (preempt_ne_status p), rget_fput_ne _ _ (preempt_ne_status p)]
  unfold verifyUpdate
  dsimp only
  split
  · exact set _
  · split
    · exact set _
    · split
      · exact set _
      · split
        · unfold sendVerify
          rw [rget_putPort, rget_putPort, set]
        · rfl

/-- A link that comes up shows so in the port's status, which the fabric and verification leave alone. -/
theorem status_reportUp {p : Nat} (s : State) (hp : p < 72) :
    rget (reportUp p s) (A.PRT_STATUS p) =
      rget (fput (F.PRT_STATUS_TRAINING p) 0 (fput (F.PRT_STATUS_LINK_UP p) 1 s)) (A.PRT_STATUS p) := by
  have int : A.PRT_INT_STAT p ≠ A.PRT_STATUS p := by
    unfold A.PRT_INT_STAT A.PRT_STATUS
    omega
  rw [reportUp_eq, (same_fabLinkUp p _).rget_mid (by decide) (prtReg_mid (prtReg_status hp)), status_verifyUpdate, shownUp,
    rget_raise _ _ _ _ _ (prtReg_status hp).ne_gbk, rget_setInt_ne _ _ int]
  exact rget_congr rfl _

theorem linkUp_reportUp {p : Nat} (s : State) (hp : p < 72) : linkUp (reportUp p s) p = true := by
  have apart : Apart (F.PRT_STATUS_TRAINING p) (F.PRT_STATUS_LINK_UP p) :=
    Or.inr (Or.inl ⟨show 0 + 1 ≤ 1 by decide, show 1 ≤ 32 by decide⟩)
  have up : fget (reportUp p s) (F.PRT_STATUS_LINK_UP p) = 1 := by
    rw [fget_congr (status_reportUp s hp), fget_fput_apart _ _ apart, fget_fput_same _ _ _ (show 0 + 1 ≤ 32 by decide)]
    rfl
  unfold linkUp fbit
  rw [if_pos hp, up]
  rfl

theorem anDone_reportUp {p : Nat} (s : State) (hp : p < 72) :
    fget (reportUp p s) (F.PRT_STATUS_AN_DONE p) = fget s (F.PRT_STATUS_AN_DONE p) := by
  have training : Apart (F.PRT_STATUS_TRAINING p) (F.PRT_STATUS_AN_DONE p) :=
    Or.inr (Or.inr ⟨show 1 + 1 ≤ 4 by decide, show 4 + 1 ≤ 32 by decide⟩)
  have up : Apart (F.PRT_STATUS_LINK_UP p) (F.PRT_STATUS_AN_DONE p) :=
    Or.inr (Or.inr ⟨show 0 + 1 ≤ 4 by decide, show 4 + 1 ≤ 32 by decide⟩)
  rw [fget_congr (status_reportUp s hp), fget_fput_apart _ _ training, fget_fput_apart _ _ up]

/-! ### Auto-negotiation (R198) -/

theorem anDone_resolved {p : Nat} {s : State} (hp : p < 72) (down : linkUp s p = false) :
    fget (judgeLink p (fput (F.PRT_STATUS_AN_DONE p) 1 s)) (F.PRT_STATUS_AN_DONE p) = 1 := by
  have set : fget (fput (F.PRT_STATUS_AN_DONE p) 1 s) (F.PRT_STATUS_AN_DONE p) = 1 :=
    fget_fput_same _ _ _ (show 4 + 1 ≤ 32 by decide)
  have apart : Apart (F.PRT_STATUS_AN_DONE p) (F.PRT_STATUS_LINK_UP p) :=
    Or.inr (Or.inl ⟨show 0 + 1 ≤ 4 by decide, show 4 ≤ 32 by decide⟩)
  have still : linkUp (fput (F.PRT_STATUS_AN_DONE p) 1 s) p = false := by
    rw [← down]
    unfold linkUp fbit
    rw [fget_fput_apart _ _ apart]
  obtain up | ⟨c, waits⟩ := judgeLink_of_down still
  · rw [up, anDone_reportUp _ hp, set]
  · rw [waits]
    exact (fget_congr (rget_putPort _ _ _ _)).trans set

theorem ctr_anMismatch {p mode : Nat} {s : State} (hp : p < 72) :
    ctr (anMismatch p mode s) 0 (24 * p + 20) = (ctr s 0 (24 * p + 20) + 1) % 2 ^ 64 := by
  have counted : ctr (setInt (A.PRT_INT_STAT p) 4 (bump 0 (24 * p + 20) s)) 0 (24 * p + 20) = (ctr s 0 (24 * p + 20) + 1) % 2 ^ 64 :=
    (ctr_congr (congrArg Tal.live (setInt_tal _ _ _)) _ _).trans (ctr_bumpN_same _ _ _ _)
  unfold anMismatch
  dsimp only
  generalize setInt (A.PRT_INT_STAT p) 4 (bump 0 (24 * p + 20) s) = w at counted ⊢
  have told (c : Bool) (x : PortSt) : PortCtrsKept w (if c then raise 0x0304 p mode 0 (putPort p x w) else w) := by
    split
    · exact (PortCtrsKept.of_tal (putPort_tal _ _ _)).trans (.raise _ _ _ _ _)
    · exact .refl w
  exact (told _ _ _ (by omega)).trans counted

/-! ### The obligation -/

/-- Settles O27: the conditions (`condKept_judgeLink`), the hold time (`linkUp_reportUp`), auto-negotiation and training. -/
theorem linksFollowTheirConditions : Obligations.LinksFollowTheirConditions := by
  unfold Obligations.LinksFollowTheirConditions
  refine ⟨?_, ?_, ?_, ?_⟩
  · rintro dt p c s u hp ⟨free, rfl⟩
    obtain ⟨t, run, st⟩ := timed_settles (c := .linkConditionChange dt p c) (f := fun s => freeCells (linkChange p c s))
      rfl (decide_eq_true hp) ⟨free, rfl⟩
    generalize passTime dt s = u at st
    have judged (x : PortSt) : CondKept p (putPort p x u) (judgeLink p (showCond p (putPort p x u))) :=
      (CondKept.of_same (same_showCond _ _) (by decide)).trans (condKept_judgeLink _ _)
    have changed : CondKept p (putPort p { portSt u p with cond := c } u) (linkChange p c u) := by
      unfold linkChange
      dsimp only
      split
      · exact (judged _).trans (.of_prt ((raise_prt _ _ _ _ _).trans (setInt_prt _ _ _)))
      · exact judged _
    refine ⟨t, run, ?_⟩
    rw [portSt_congr (st.prt.trans ((same_freeCells _).part .prt (by decide))) p, changed, portSt_putPort]
  · rintro dt p s u hp ⟨free, rfl⟩ holds down time
    obtain ⟨t, run, st⟩ := timed_settles (c := .linkHoldExpiry dt p) (f := fun s => freeCells (judgeLink p s))
      rfl (decide_eq_true hp) ⟨free, rfl⟩
    rw [judgeLink_held holds down time] at st
    refine ⟨t, run, ?_⟩
    have status : rget t (A.PRT_STATUS p) = rget (reportUp p (passTime dt s)) (A.PRT_STATUS p) :=
      (st.reg _ (prtReg_status hp).not_mem_settleRegs).trans (rget_freeCells _ _)
    have same : linkUp t p = linkUp (reportUp p (passTime dt s)) p := by
      unfold linkUp fbit
      rw [fget_congr (f := F.PRT_STATUS_LINK_UP p) status]
    rw [same, linkUp_reportUp _ hp]
  · rintro dt p m s u hp hm ⟨free, rfl⟩ able an undone down other
    obtain ⟨t, run, st⟩ := timed_settles (c := .autonegResolved dt p m) (f := fun s => freeCells (anResolved p m s))
      rfl (by simp [wellFormed, hp, hm]) ⟨free, rfl⟩
    have parts := able
    unfold linkAble at parts
    simp only [Bool.and_eq_true, Bool.not_eq_true'] at parts
    obtain ⟨⟨⟨⟨⟨power, -⟩, open_⟩, -⟩, absent⟩, -⟩ := parts
    unfold anResolved at st
    dsimp only at st
    rw [if_neg (by simp [power, open_, absent]), if_neg other, if_neg (by simp [able, an, undone])] at st
    refine ⟨t, run, ?_⟩
    split
    next equal =>
      rw [if_neg (by simp [equal])] at st
      rw [st.fget (prtReg_status hp).not_mem_settleRegs, fget_congr (rget_freeCells _ _), anDone_resolved hp down]
    next differs =>
      rw [if_pos differs] at st
      have kept : PortCtrsKept (anMismatch p m (passTime dt s)) t := (PortCtrsKept.of_tal (freeCells_tal _)).trans (.settled st)
      rw [kept _ (by omega), ctr_anMismatch hp]
  · rintro dt p taps s u wf ⟨free, rfl⟩ able lt an down
    obtain ⟨t, run, st⟩ := timed_settles (c := .linkTrainingComplete dt ⟨p, taps⟩) (f := fun s => freeCells (trainingDone p taps s))
      rfl wf ⟨free, rfl⟩
    unfold trainingDone at st
    dsimp only at st
    rw [if_pos ⟨able, lt, an⟩] at st
    have still (x : PortSt) : linkUp (putPort p x (passTime dt s)) p = false := down
    have port := portSt_congr (st.prt.trans ((same_freeCells _).part .prt (by decide))) p
    refine ⟨t, run, ?_⟩
    obtain up | ⟨c, waits⟩ := judgeLink_of_down (still _)
    · obtain ⟨-, trained, settled⟩ := reportUp_port p (putPort p { portSt (passTime dt s) p with trained := true, taps := taps } (passTime dt s))
      rw [port, up, trained, settled, portSt_putPort]
      exact ⟨rfl, rfl⟩
    · rw [port, waits, portSt_putPort, portSt_putPort]
      exact ⟨rfl, rfl⟩

end Machine
end Sys2Proof
end

section
/-! PROOF. Proofs/Votes.lean: the votes of the decision paths (O28). -/
namespace Sys2Proof
namespace Machine

/-- The last pass of a hearth's decision path, all its stages run, for frame 0. -/
def lastPass : Pass := { newPass 0 0 false none none with stage := 5 }

/-- A whole Kixon frame of port 3. -/
def fabricFrame : Frame := { newFrame (List.replicate 64 0) 3 with kixon := true, taken := 1 }

/-- A DORMANT device with that frame on the decision path of hearth 0, its vote due. -/
def dormantVote : State :=
  { State.reset with clk := 490, dp := { State.reset.dp with frames := [(0, fabricFrame)], pipe := [(0, [lastPass])] } }

/-- In DORMANT no Kixon frame reaches the Keeper's FIFO. -/
theorem voteFront_dormant : (voteFront 0 noFaults (tableWrites dormantVote)).fab.rx = [] := by decide +kernel

/-- Refutes O28: its fourth clause lets a Kixon frame of a front port reach the Keeper's FIFO in every base state, but in
DORMANT, as in every base state in which Kixon does not run, the frame is let go and the FIFO is as before. -/
theorem not_decisionPathsTakeAndVote : ¬ Obligations.DecisionPathsTakeAndVote := by
  unfold Obligations.DecisionPathsTakeAndVote
  rintro ⟨-, -, -, kixonFrames, -, -⟩
  have free : Elapsed 0 dormantVote dormantVote := ⟨by decide +kernel, rfl⟩
  obtain ⟨t, run, -, rx⟩ := kixonFrames 0 0 lastPass [] fabricFrame dormantVote dormantVote (tableWrites dormantVote) (by decide) free rfl
    (by decide +kernel) (by decide) (by decide +kernel) (by decide +kernel) rfl (by decide +kernel) (by decide +kernel) rfl (by decide)
    (by decide +kernel)
  obtain ⟨t', run', st⟩ := timed_settles (c := .vote 0 0 noFaults) (f := fun s => voteFront 0 noFaults (tableWrites s)) rfl rfl free
  obtain rfl : t = t' := Host.Outcome.next.inj (run.symm.trans run')
  rw [st.fab, voteFront_dormant] at rx
  exact absurd rx.symm (by simp)

end Machine
end Sys2Proof
end

section
/-! PROOF. Proofs/Admission.lean: what the admission of copies adds to the queues and leaves of the registers. -/
namespace Sys2Proof
namespace Machine

/-! ### Queues only grow -/

/-- From `s` to `t` queue `k` keeps its copies and may have more behind them. -/
def QueueGrows (k : Nat) (s t : State) : Prop := ∃ l, queueOf t k = queueOf s k ++ l

namespace QueueGrows
variable {k : Nat} {s t u : State}

theorem of_dp (h : t.dp = s.dp) : QueueGrows k s t := ⟨[], by rw [queueOf, h, List.append_nil]; rfl⟩

theorem trans (h : QueueGrows k s t) (g : QueueGrows k t u) : QueueGrows k s u := by
  obtain ⟨l, hl⟩ := h
  obtain ⟨m, hm⟩ := g
  exact ⟨l ++ m, by rw [hm, hl, List.append_assoc]⟩

end QueueGrows

theorem queueOf_putQueue (j k : Nat) (l : List Copy) (s : State) :
    queueOf (putQueue j l s) k = if j = k then l else queueOf s k := lget_lput _ _ _ _

theorem enqueue_eq (p q : Nat) (c : Copy) (sh pool : Nat) (s : State) :
    ∃ u d, u.dp = s.dp ∧ enqueue p q c sh pool s = putQueue (qkey p q) (queueOf u (qkey p q) ++ [d]) u := by
  unfold enqueue
  extract_lets k d w x y z v u
  refine ⟨u, _, ?_, rfl⟩
  have hv : v.dp = s.dp := by
    unfold v z y x w
    rw [bumpN_dp, bump, bumpN_dp, fput_dp, fput_dp, fput_dp, fmax_dp, fput_dp]
  unfold u
  split
  · rw [setInt_dp, bump, bumpN_dp, hv]
  · exact hv

theorem queueGrows_enqueue (k p q : Nat) (c : Copy) (sh pool : Nat) (s : State) : QueueGrows k s (enqueue p q c sh pool s) := by
  obtain ⟨u, d, dp, e⟩ := enqueue_eq p q c sh pool s
  rw [e]
  refine (QueueGrows.of_dp dp).trans ?_
  unfold QueueGrows
  rw [queueOf_putQueue]
  split
  next same => exact ⟨[d], by rw [same]⟩
  next => exact ⟨[], (List.append_nil _).symm⟩

theorem queueGrows_refuse (k : Nat) (c : Copy) (g i : Nat) (s : State) : QueueGrows k s (refuse c g i s) :=
  .of_dp ((same_refuse _ _ _ _).part .dp (by decide))

theorem queueGrows_admitCopy (k p q : Nat) (c : Copy) (s : State) : QueueGrows k s (admitCopy p q c s).2 := by
  unfold admitCopy
  extract_lets src mgmt
  clear_value src mgmt
  split
  · exact queueGrows_refuse _ _ _ _ _
  · split
    · exact queueGrows_refuse _ _ _ _ _
    · split
      · exact queueGrows_refuse _ _ _ _ _
      · split
        · exact queueGrows_refuse _ _ _ _ _
        · split
          · exact queueGrows_enqueue _ _ _ _ _ _ _
          · split
            · exact .of_dp ((same_mirrorDrop _ _).part .dp (by decide))
            · exact .of_dp (by rw [raise_dp, setInt_dp, bump, bumpN_dp])

theorem queueGrows_admitPlanned (k : Nat) (x : Planned) (s : State) : QueueGrows k s (admitPlanned x s) := by
  obtain ⟨port, q, c⟩ := x
  unfold admitPlanned
  dsimp only
  split
  · have budget : QueueGrows k s (admitBudget (reasonClass c.reason) c.hearth s).2 := .of_dp ((same_admitBudget _ _ _).part .dp (by decide))
    split
    · exact budget.trans (queueGrows_admitCopy _ _ _ _ _)
    · exact budget
  · exact queueGrows_admitCopy _ _ _ _ _

theorem queueGrows_admitAll (k : Nat) (l : List Planned) (s : State) : QueueGrows k s (admitAll l s) := by
  unfold admitAll
  generalize inPortOrder l = m
  induction m generalizing s with
  | nil => exact .of_dp rfl
  | cons x m ih => exact (queueGrows_admitPlanned k x s).trans (ih _)

/-! ### Registers that admission leaves alone -/

/-- Register `r` is none that admission of a copy to queue `q` of port `p` writes. -/
structure Beside (r p q : Nat) : Prop where
  depth : A.TM_Q_DEPTH p q ≠ r
  mark : A.TM_Q_WATERMARK p q ≠ r
  used : A.TM_PORT_USED p ≠ r

/-- Register `r` is none of the whole device's that admission writes. -/
structure BesideAll (r : Nat) : Prop where
  shared : A.TM_SHARED_USED ≠ r
  mgmt : A.TM_MGMT_USED ≠ r
  int : A.TM_INT_STAT ≠ r
  gbk : A.GBK_INT_STAT ≠ r
  glb : A.GLB_INT_STAT ≠ r
  drop : ∀ k, k < 8 → A.GLB_ADMIT_DROP k ≠ r

theorem rget_enqueue {r p q : Nat} (c : Copy) (sh pool : Nat) (s : State) (h : Beside r p q) (a : BesideAll r) :
    rget (enqueue p q c sh pool s) r = rget s r := by
  unfold enqueue
  extract_lets k d w x y z v u
  have hv : rget v r = rget s r := by
    have hz : rget v r = rget z r := rget_congr (by rw [bumpN_regs, bump, bumpN_regs]) r
    rw [hz]
    unfold z y x w
    rw [rget_fput_ne _ _ a.mgmt, rget_fput_ne _ _ a.shared, rget_fput_ne _ _ h.used, rget_fmax_ne _ _ h.mark, rget_fput_ne _ _ h.depth]
  have hu : rget u r = rget v r := by
    unfold u
    split
    · rw [rget_setInt_ne _ _ a.int]
      exact rget_congr (by rw [bump, bumpN_regs]) r
    · rfl
  exact hu.trans hv

theorem rget_mirrorDrop {r : Nat} (m : Nat) (s : State) (a : BesideAll r) : rget (mirrorDrop m s) r = rget s r := by
  unfold mirrorDrop
  rw [rget_raise _ _ _ _ _ a.gbk.symm, rget_setInt_ne _ _ a.int]
  exact rget_congr (by rw [bump, bumpN_regs]) r

theorem rget_refuse {r : Nat} (c : Copy) (g i : Nat) (s : State) (a : BesideAll r) : rget (refuse c g i s) r = rget s r := by
  unfold refuse
  split
  · exact rget_mirrorDrop _ _ a
  · exact rget_congr (by rw [bump, bumpN_regs]) r

theorem rget_admitCopy {r p q : Nat} (c : Copy) (s : State) (h : Beside r p q) (a : BesideAll r) :
    rget (admitCopy p q c s).2 r = rget s r := by
  unfold admitCopy
  extract_lets src mgmt
  clear_value src mgmt
  split
  · exact rget_refuse _ _ _ _ a
  · split
    · exact rget_refuse _ _ _ _ a
    · split
      · exact rget_refuse _ _ _ _ a
      · split
        · exact rget_refuse _ _ _ _ a
        · split
          · exact rget_enqueue _ _ _ _ h a
          · split
            · exact rget_mirrorDrop _ _ a
            · rw [rget_raise _ _ _ _ _ a.gbk.symm, rget_setInt_ne _ _ a.int]
              exact rget_congr (by rw [bump, bumpN_regs]) r

theorem rget_withGlb (s : State) (g : Glb) (r : Nat) : rget { s with glb := g } r = rget s r := rfl

theorem rget_admitBudget {r : Nat} (k h : Nat) (s : State) (a : BesideAll r) : rget (admitBudget k h s).2 r = rget s r := by
  unfold admitBudget
  extract_lets rate b g u v
  have same : u.regs = s.regs := rfl
  clear_value u
  have hu : rget u r = rget s r := rget_congr same r
  have hv : rget v r = rget s r := by
    unfold v
    rw [rget_setInt_ne _ _ a.glb, rget_faddSat_ne _ _ (a.drop _ (Nat.mod_lt _ (by decide))), hu]
  clear_value v
  split
  · rfl
  · split
    · exact hu
    · split
      · exact ((eventOnly_suppress _ v).reg r a.gbk.symm).trans hv
      · dsimp only
        rw [rget_raise _ _ _ _ _ a.gbk.symm, rget_withGlb, hv]

theorem rget_admitPlanned {r : Nat} (x : Planned) (s : State) (h : Beside r x.1 x.2.1) (a : BesideAll r) :
    rget (admitPlanned x s) r = rget s r := by
  obtain ⟨port, q, c⟩ := x
  unfold admitPlanned
  dsimp only at h ⊢
  split
  next host =>
    subst host
    split
    · rw [rget_admitCopy _ _ h a, rget_admitBudget _ _ _ a]
    · exact rget_admitBudget _ _ _ a
  next => exact rget_admitCopy _ _ h a

theorem mem_of_mem_inPortOrder {l : List Planned} {x : Planned} (h : x ∈ inPortOrder l) : x ∈ l := by
  unfold inPortOrder at h
  obtain ⟨m, hm, hx⟩ := List.mem_flatten.mp h
  obtain ⟨p, -, rfl⟩ := List.mem_map.mp hm
  exact (List.mem_filter.mp hx).1

theorem rget_admitAll {r : Nat} {l : List Planned} (s : State) (h : ∀ x ∈ l, Beside r x.1 x.2.1) (a : BesideAll r) :
    rget (admitAll l s) r = rget s r := by
  unfold admitAll
  have ordered : ∀ x ∈ inPortOrder l, Beside r x.1 x.2.1 := fun x hx => h x (mem_of_mem_inPortOrder hx)
  generalize inPortOrder l = m at ordered
  induction m generalizing s with
  | nil => rfl
  | cons x m ih =>
    exact (ih _ (fun y hy => ordered y (.tail _ hy))).trans (rget_admitPlanned x s (ordered x (.head _)) a)

/-! ### Mirror copies -/

theorem physQueue_lt (s : State) {p : Nat} (v : Nat) (h : p ≠ 76) : physQueue s p v < 16 := by
  unfold physQueue
  rw [if_neg h]
  exact Nat.mod_lt _ (by decide)

/-- Where copies may stand: a queue of a port, or one of the host's. -/
def Placed (x : Planned) : Prop := x.1 = 76 ∨ x.1 < 76 ∧ x.2.1 < 16

theorem rget_mirrorTake (m : Nat) (s : State) (r : Nat) : rget (mirrorTake m s).2 r = rget s r := by
  unfold mirrorTake
  dsimp only
  split
  · exact rget_congr (by rw [bump, bumpN_regs]) r
  · exact rget_congr (by rw [bump, bumpN_regs]) r

theorem mirrorCopy_spec {r : Nat} (m : Nat) (c : Copy) (s : State) (a : BesideAll r) :
    (∀ x ∈ (mirrorCopy m c s).1, Placed x) ∧ rget (mirrorCopy m c s).2 r = rget s r := by
  unfold mirrorCopy
  extract_lets kind
  split
  · exact ⟨fun x hx => absurd hx (by simp), rfl⟩
  · have taken := rget_mirrorTake m s r
    generalize mirrorTake m s = y at taken
    obtain ⟨take, u⟩ := y
    dsimp only at taken ⊢
    split
    · exact ⟨fun x hx => absurd hx (by simp), taken⟩
    · split
      · refine ⟨fun x hx => ?_, taken⟩
        rw [List.mem_singleton.mp hx]
        exact Or.inl rfl
      · split
        · exact ⟨fun x hx => absurd hx (by simp), (rget_mirrorDrop _ _ a).trans taken⟩
        next inside =>
          refine ⟨fun x hx => ?_, taken⟩
          rw [List.mem_singleton.mp hx]
          have low : fget u (F.TM_MIR_CFG_DEST_PORT m) < 72 := by omega
          exact Or.inr ⟨Nat.lt_of_lt_of_le low (by decide), physQueue_lt _ _ (by omega)⟩

end Machine
end Sys2Proof
end

section
/-! PROOF. Proofs/Transmission.lean: the transmitters of the ports (O29). -/
namespace Sys2Proof
namespace Machine

/-! ### Transmitters and their ports -/

theorem regs_of_same {T : List Part} {s t : State} (h : Same T s t) (n : Part.regs ∉ T) : t.regs = s.regs :=
  congrArg Prod.fst (h.part .regs n)

theorem txOf_putTx (p : Nat) (x : Tx) (s : State) : txOf (putTx p x s) p = x := sget_sput_same _ _ _

theorem putTx_ctr (p : Nat) (x : Tx) (s : State) (g i : Nat) : ctr (putTx p x s) g i = ctr s g i := rfl

theorem putTx_tab (p : Nat) (x : Tx) (s : State) : (putTx p x s).tab = s.tab := rfl

theorem putTx_prt (p : Nat) (x : Tx) (s : State) : (putTx p x s).prt = s.prt := rfl

theorem txOf_congr {s t : State} (h : t.dp.tx = s.dp.tx) (p : Nat) : txOf t p = txOf s p := by rw [txOf, h, txOf]

theorem txOf_freeCells (s : State) (p : Nat) : txOf (freeCells s) p = txOf s p := rfl

theorem portRate_congr {s t : State} (h : t.prt = s.prt) (p : Nat) : portRate t p = portRate s p := by
  unfold portRate
  rw [portSt_congr h p]

theorem portBank_congr {s t : State} (h : t.frg = s.frg) (p : Nat) : portBank t p = portBank s p := by
  unfold portBank bankOf
  rw [h]

theorem putQueue_tx (k : Nat) (l : List Copy) (s : State) : (putQueue k l s).dp.tx = s.dp.tx := rfl

theorem noteHold_tx (p q : Nat) (s : State) : (noteHold p q s).dp.tx = s.dp.tx := by
  unfold noteHold
  split
  · rfl
  · split
    · rw [putQueue_tx, bump, bumpN_dp]
    · rfl

theorem noteHolds_tx (p : Nat) (s : State) : (noteHolds p s).dp.tx = s.dp.tx := by
  unfold noteHolds
  split
  · generalize List.range 16 = l
    induction l generalizing s with
    | nil => rfl
    | cons q l ih => exact (ih _).trans (noteHold_tx p q s)
  · rfl

/-! ### An mPacket is sent (R236) -/

theorem sendMpacket_spec {p : Nat} {s : State} (idle : txIdle s p = true) (free : localLoop s p = false) :
    (portSt (sendMpacket p s) p).mpk = (portSt s p).mpk.drop 1 ∧ (txOf (sendMpacket p s) p).freeClk = s.clk + wireClocks (portRate s p) 84 ∧
      (txOf (sendMpacket p s) p).cur = none := by
  unfold txIdle at idle
  simp only [Bool.and_eq_true, Option.isNone_iff_eq_none] at idle
  have looped (x : PortSt) (y : Tx) : localLoop (putTx p y (putPort p { portSt s p with mpk := x.mpk.drop 1 } s)) p = false := by
    rw [← free]
    rfl
  unfold sendMpacket
  dsimp only
  rw [if_neg (by rw [looped]; decide), txOf_putTx]
  exact ⟨congrArg PortSt.mpk (portSt_putPort _ _ _), rfl, idle.1⟩

/-! ### The head of a queue goes onto the wire (R389, R404) -/

/-- The state in which the transmitter takes the copy: it has left its queue and its counts, shapers and mirror are served. -/
def servedHead (p q : Nat) (c : Copy) (rest : List Copy) (plan : TxPlan) (past : Bool) (s : State) : State :=
  let u := chargeShapers p q c (wireTotal plan.out) (noteSojourn (qkey p q) c (leaveQueue (qkey p q) c rest s))
  let v := egressMirror p c plan.carried (encapCounts p c plan.out u)
  if past then bump 16 (5 * qkey p q + 1) v else v

/-- The frame that goes onto the wire from `s`. -/
def sendingOf (p q : Nat) (c : Copy) (f : Frame) (plan : TxPlan) (pre past : Bool) (g : Option Nat) (s : State) : Sending :=
  { copy := c, queue := q, out := plan.out, len := wireTotal plan.out - 20, sent := 0, fromClk := s.clk, pre := pre
    invert := plan.fate == 4 || f.bad, stamp := txStamp s p, overrun := past, bank := portBank s p, frag := 3, group := g }

/-- The transmitter of port `p` takes `x`. -/
def takeUp (p : Nat) (x : Sending) (n : Nat) (s : State) : State :=
  putTx p { txOf s p with cur := some x, freeClk := s.clk + wireClocks (portRate s p) n } { s with tmg := { s.tmg with lastSel := (s.clk, p) } }

theorem sendHead_eq {p q : Nat} {c : Copy} {rest : List Copy} {f : Frame} {s : State} (pre : Bool) (head : queueOf s (qkey p q) = c :: rest)
    (found : frameOf s c.frame = some f) (fate : (planCopy s p c (copyBase s c)).fate = 0) :
    ∃ g, sendHead p q pre s = takeUp p
      (sendingOf p q c f (finalPlan p c f s).1 pre (windowOk s p q c).2 g
        (servedHead p q c rest (finalPlan p c f s).1 (windowOk s p q c).2 (finalPlan p c f s).2))
      (wireTotal (finalPlan p c f s).1.out)
      (servedHead p q c rest (finalPlan p c f s).1 (windowOk s p q c).2 (finalPlan p c f s).2) := by
  unfold sendHead
  rw [head]
  dsimp only
  rw [found]
  dsimp only
  rw [fate, if_neg (by simp)]
  exact ⟨_, rfl⟩

theorem servedHead_frame (p q : Nat) (c : Copy) (rest : List Copy) (plan : TxPlan) (past : Bool) (s : State) :
    Same [.regs, .glb, .tal, .gbk, .dp, .tab, .tmg, .fry] s (servedHead p q c rest plan past s) := by
  have served : Same [.regs, .glb, .tal, .gbk, .dp, .tab, .tmg, .fry] s (egressMirror p c plan.carried (encapCounts p c plan.out
      (chargeShapers p q c (wireTotal plan.out) (noteSojourn (qkey p q) c (leaveQueue (qkey p q) c rest s))))) :=
    .comp (same_egressMirror _ _ _ _) (by decide) (.comp (same_encapCounts _ _ _ _) (by decide)
      (.comp (same_chargeShapers _ _ _ _ _) (by decide) (.comp (same_noteSojourn _ _ _) (by decide)
        (.comp (same_leaveQueue _ _ _ _) (by decide) (.refl _ s)))))
  unfold servedHead
  dsimp only
  split
  · exact .comp (same_bumpN _ _ _ _) (by decide) served
  · exact served

theorem queueGrows_egressMirror (k p : Nat) (c : Copy) (b : List Byte) (s : State) : QueueGrows k s (egressMirror p c b s) := by
  unfold egressMirror
  split
  · exact .of_dp rfl
  · dsimp only
    exact (QueueGrows.of_dp ((same_mirrorCopy _ _ _).part .dp (by decide))).trans (queueGrows_admitAll _ _ _)

theorem queueOf_leaveQueue (k : Nat) (c : Copy) (rest : List Copy) (s : State) : queueOf (leaveQueue k c rest s) k = rest := by
  have dp : (leaveQueue k c rest s).dp = (putQueue k rest s).dp := by rw [leaveQueue, bumpN_dp, bump, bumpN_dp]
  rw [queueOf, dp, ← queueOf, queueOf_putQueue, if_pos rfl]

theorem queueOf_servedHead (p q : Nat) (c : Copy) (rest : List Copy) (plan : TxPlan) (past : Bool) (s : State) :
    ∃ l, queueOf (servedHead p q c rest plan past s) (qkey p q) = rest ++ l := by
  have charged (n : Nat) : (chargeShapers p q c n (noteSojourn (qkey p q) c (leaveQueue (qkey p q) c rest s))).dp =
      (leaveQueue (qkey p q) c rest s).dp := by
    have sojourn := (same_noteSojourn (qkey p q) c (leaveQueue (qkey p q) c rest s)).part .dp (by decide)
    have shaped := (same_chargeShapers p q c n (noteSojourn (qkey p q) c (leaveQueue (qkey p q) c rest s))).part .dp (by decide)
    exact Eq.trans shaped sojourn
  unfold servedHead
  extract_lets u v
  have hu : u.dp = (leaveQueue (qkey p q) c rest s).dp := charged _
  clear_value u
  have tunnel : (encapCounts p c plan.out u).dp = u.dp := (same_encapCounts _ _ _ _).part .dp (by decide)
  have left : QueueGrows (qkey p q) (leaveQueue (qkey p q) c rest s) v :=
    (QueueGrows.of_dp (tunnel.trans hu)).trans (queueGrows_egressMirror _ _ _ _ _)
  clear_value v
  have counted : QueueGrows (qkey p q) v (if past then bump 16 (5 * qkey p q + 1) v else v) := by
    split
    · exact .of_dp (bumpN_dp _ _ _ _)
    · exact .of_dp rfl
  obtain ⟨l, hl⟩ := left.trans counted
  exact ⟨l, by rw [hl, queueOf_leaveQueue]⟩

/-! ### The calendar's pointer -/

theorem besideAll_calStatus (p : Nat) : BesideAll (A.TM_CAL_STATUS p) := by
  unfold A.TM_CAL_STATUS
  constructor
  · unfold A.TM_SHARED_USED; omega
  · unfold A.TM_MGMT_USED; omega
  · unfold A.TM_INT_STAT; omega
  · unfold A.GBK_INT_STAT; omega
  · unfold A.GLB_INT_STAT; omega
  · intro k hk
    unfold A.GLB_ADMIT_DROP
    omega

theorem beside_calStatus {p : Nat} (hp : p < 76) {x : Planned} (h : Placed x) : Beside (A.TM_CAL_STATUS p) x.1 x.2.1 := by
  unfold Placed at h
  constructor
  · unfold A.TM_Q_DEPTH A.TM_CAL_STATUS; omega
  · unfold A.TM_Q_WATERMARK A.TM_CAL_STATUS; omega
  · unfold A.TM_PORT_USED A.TM_CAL_STATUS; omega

theorem pointer_egressMirror {p : Nat} (hp : p < 76) (c : Copy) (b : List Byte) (s : State) :
    rget (egressMirror p c b s) (A.TM_CAL_STATUS p) = rget s (A.TM_CAL_STATUS p) := by
  unfold egressMirror
  split
  · rfl
  · dsimp only
    obtain ⟨placed, kept⟩ := mirrorCopy_spec (fget s (F.TM_PORT_CFG_EMIRROR_SESSION p)) { c with base := some b, ipForm := false } s
      (besideAll_calStatus p)
    rw [rget_admitAll _ (fun x hx => beside_calStatus hp (placed x hx)) (besideAll_calStatus p), kept]

theorem pointer_noteSojourn {p q : Nat} (hp : p < 76) (hq : q < 16) (c : Copy) (s : State) :
    rget (noteSojourn (qkey p q) c s) (A.TM_CAL_STATUS p) = rget s (A.TM_CAL_STATUS p) := by
  have apart : (F.TM_Q_SOJ_MAX_NS (qport (qkey p q)) (qnum (qkey p q))).addr ≠ A.TM_CAL_STATUS p := by
    unfold qport qnum qkey F.TM_Q_SOJ_MAX_NS A.TM_CAL_STATUS
    rw [if_neg (by omega), if_neg (by omega)]
    dsimp only
    omega
  unfold noteSojourn
  exact rget_fmax_ne _ _ apart

theorem pointer_servedHead {p q : Nat} (hp : p < 76) (hq : q < 16) (c : Copy) (rest : List Copy) (plan : TxPlan) (past : Bool) (s : State) :
    rget (servedHead p q c rest plan past s) (A.TM_CAL_STATUS p) = rget s (A.TM_CAL_STATUS p) := by
  have left : (leaveQueue (qkey p q) c rest s).regs = s.regs := regs_of_same (same_leaveQueue _ _ _ _) (by decide)
  have charged (n : Nat) (u : State) : (chargeShapers p q c n u).regs = u.regs := regs_of_same (same_chargeShapers _ _ _ _ _) (by decide)
  have tunnel (o : List (List Byte)) (u : State) : (encapCounts p c o u).regs = u.regs := regs_of_same (same_encapCounts _ _ _ _) (by decide)
  unfold servedHead
  extract_lets u v
  have hv : rget v (A.TM_CAL_STATUS p) = rget s (A.TM_CAL_STATUS p) := by
    unfold v u
    rw [pointer_egressMirror hp, rget_congr (tunnel _ _), rget_congr (charged _ _), pointer_noteSojourn hp hq, rget_congr left]
  clear_value v
  split
  · exact (rget_congr (bumpN_regs _ _ _ _) _).trans hv
  · exact hv

/-! ### A frame's end (R404) -/

theorem portCtrs_event {s t : State} (h : EventOnly s t) : PortCtrsKept s t := fun i hi => h.ctr 0 i (by decide) (by
  have : 1728 ≤ groupBase 28 := portCounters_le (by decide)
  rw [show groupBase 0 = 0 from rfl]
  omega)

theorem portCtrs_admitBudget (k h : Nat) (s : State) : PortCtrsKept s (admitBudget k h s).2 := by
  unfold admitBudget
  extract_lets rate b g u v
  have same : u.tal = s.tal := rfl
  clear_value u
  have hu : PortCtrsKept s u := .of_tal same
  have hv : PortCtrsKept s v := hu.trans (.of_tal ((setInt_tal _ _ _).trans (faddSat_tal _ _ _)))
  clear_value v
  split
  · exact .refl s
  · split
    · exact hu
    · split
      · exact hv.trans (portCtrs_event (eventOnly_suppress _ _))
      · have seen : PortCtrsKept v { v with glb := { v.glb with admitSeen := v.glb.admitSeen ++ [k] } } := .of_tal (withGlb_tal _ _)
        exact hv.trans (seen.trans (.raise _ _ _ _ _))

theorem portCtrs_notify (h kind : Nat) (l : Learn) (s : State) : PortCtrsKept s (notify h kind l s) := by
  have budget : PortCtrsKept s (admitBudget 6 h s).2 := portCtrs_admitBudget 6 h s
  unfold notify
  split
  · generalize admitBudget 6 h s = x at budget
    obtain ⟨ok, u⟩ := x
    dsimp only at budget ⊢
    split
    · exact budget
    · split
      · exact budget.trans ((PortCtrsKept.bumpN _ _ _ (by decide)).trans ((PortCtrsKept.of_tal (setInt_tal _ _ _)).trans (.raise _ _ _ _ _)))
      · split
        · exact budget.trans (.of_tal (setInt_tal A.TBL_INT_STAT (4 + h) u))
        · exact budget
  · exact .refl s

theorem portCtrs_fdbCtr (h i : Nat) (s : State) : PortCtrsKept s (fdbCtr h i s) := .bumpN _ _ _ (by decide)

theorem portCtrs_learnKnown (h i : Nat) (l : Learn) (s : State) : PortCtrsKept s (learnKnown h i l s) := by
  have written (w : List Nat) : PortCtrsKept s (learnWrite h i w s) := .of_same (same_learnWrite _ _ _ _) (by decide)
  unfold learnKnown
  dsimp only
  split
  · exact written _
  · split
    · exact (written _).trans ((portCtrs_fdbCtr _ _ _).trans (.raise _ _ _ _ _))
    · exact (written _).trans ((portCtrs_fdbCtr _ _ _).trans (portCtrs_notify _ _ _ _))

theorem portCtrs_learnIn (h : Nat) (l : Learn) (s : State) : PortCtrsKept s (learnIn h l s).2 := by
  unfold learnIn
  split
  · exact portCtrs_learnKnown _ _ _ _
  · split
    · exact .refl s
    · dsimp only
      split
      · exact (PortCtrsKept.of_same (same_putEntry _ _ _ _ _ _) (by decide)).trans
          ((portCtrs_fdbCtr _ _ _).trans (portCtrs_notify _ _ _ _))
      · refine (portCtrs_fdbCtr h 4 s).trans ?_
        unfold moverAdd
        dsimp only
        split
        · exact portCtrs_fdbCtr _ _ _
        · exact .of_tal rfl

theorem portCtrs_egressLearn (p : Nat) (c : Copy) (s : State) : PortCtrsKept s (egressLearn p c s) := by
  unfold egressLearn
  dsimp only
  split
  · split
    · exact PortCtrsKept.trans (.of_tal rfl) (portCtrs_learnIn _ _ _)
    · exact .refl s
  · exact .refl s

theorem portCtrs_pushTxStamp (port tag x : Nat) (s : State) : PortCtrsKept s (pushTxStamp port tag x s) := by
  unfold pushTxStamp
  split
  · exact (PortCtrsKept.bumpN _ _ _ (by decide)).trans ((PortCtrsKept.of_tal (setInt_tal _ _ _)).trans (.raise _ _ _ _ _))
  · have kept : PortCtrsKept s (bump 19 11 { s with tim := { s.tim with txts := s.tim.txts ++ [(port, tag, x)] } }) :=
      PortCtrsKept.trans (.of_tal rfl) (.bumpN _ _ _ (by decide))
    dsimp only
    split
    · exact kept.trans (.of_tal (setInt_tal _ _ _))
    · exact kept

/-- The frames sent are counted (R407). -/
theorem ctr_sentOk {p : Nat} (x : Sending) (f : Frame) (s : State) (hp : p < 72) :
    ctr (sentOk p x f s) 0 (24 * p + 10) = (ctr s 0 (24 * p + 10) + x.out.length) % 2 ^ 64 := by
  unfold sentOk
  extract_lets n u v w
  have hu : ctr u 0 (24 * p + 10) = (ctr s 0 (24 * p + 10) + x.out.length) % 2 ^ 64 := by
    unfold u
    rw [ctr_bumpN_ne _ _ (by omega), ctr_bumpN_same]
  have hv : PortCtrsKept u v := by
    unfold v
    split
    · exact (PortCtrsKept.bumpN _ _ _ (by decide)).trans (.bumpN _ _ _ (by decide))
    · exact .refl u
  have hw : PortCtrsKept v w := by
    unfold w
    split
    · exact portCtrs_pushTxStamp _ _ _ _
    · exact .refl v
  exact ((hv.trans (hw.trans (portCtrs_egressLearn _ _ _))) _ (by omega)).trans hu

/-- A frame that ends with a bad check is counted (R407). -/
theorem ctr_sentBad {p : Nat} (x : Sending) (s : State) (hp : p < 72) :
    ctr (sentBad p x s) 0 (24 * p + 23) = (ctr s 0 (24 * p + 23) + 1) % 2 ^ 64 := by
  have counted : ctr (egressLearn p x.copy (bump 0 (24 * p + 23) s)) 0 (24 * p + 23) = (ctr s 0 (24 * p + 23) + 1) % 2 ^ 64 :=
    (portCtrs_egressLearn p x.copy _ _ (by omega)).trans (ctr_bumpN_same _ _ _ _)
  unfold sentBad
  dsimp only
  split
  · exact (ctr_bumpN_ne _ _ (by omega)).trans counted
  · exact counted

/-- The transmitter of port `p` when it has let frame `f` of `x` go. -/
def freedTx (p : Nat) (x : Sending) (f : Frame) (s : State) : Tx :=
  let short := f.stopped || (f.bad && !f.whole)
  let bad := x.invert || f.bad || f.stopped
  let free := if short then min (txOf s p).freeClk (s.clk + wireClocks (portRate s p) 12) else (txOf s p).freeClk
  { txOf s p with cur := none, freeClk := free, last := if p < 72 then x.out.map (macFrame bad) else (txOf s p).last }

/-- Port `p`, where it is a front port, has been active in this clock. -/
def noteActive (p : Nat) (s : State) : State :=
  { s with pin := { s.pin with activity := if p < 72 then sput (fun _ => 0) s.pin.activity p (s.clk + 1) else s.pin.activity } }

/-- Frame `f` of `x` has left port `p`, and is not counted yet. -/
def sentOff (p : Nat) (x : Sending) (f : Frame) (s : State) : State :=
  noteActive p (returnCharges p x.queue x.copy (putTx p (freedTx p x f s) s))

theorem noteActive_dp (p : Nat) (s : State) : (noteActive p s).dp = s.dp := rfl

theorem noteActive_tal (p : Nat) (s : State) : (noteActive p s).tal = s.tal := rfl

theorem transmitEnd_eq {p : Nat} {x : Sending} {f : Frame} {s : State} (sends : (txOf (tableWrites s) p).cur = some x)
    (found : frameOf (tableWrites s) x.copy.frame = some f) (gone : onWire (tableWrites s) p x = false) (whole : f.whole = true) :
    transmitEnd p s = freeCells (if 71 < p then reenter p x (sentOff p x f (tableWrites s))
      else if x.invert || f.bad || f.stopped then sentBad p x (sentOff p x f (tableWrites s))
      else sentOk p x f (sentOff p x f (tableWrites s))) := by
  unfold transmitEnd
  generalize tableWrites s = w at *
  dsimp only
  rw [sends]
  dsimp only
  rw [found]
  dsimp only
  rw [if_neg (by simp [gone, whole])]
  rfl

theorem sentOff_spec (p : Nat) (x : Sending) (f : Frame) (s : State) :
    (txOf (sentOff p x f s) p).cur = none ∧ PortCtrsKept s (sentOff p x f s) := by
  have free : (freedTx p x f s).cur = none := rfl
  unfold sentOff
  generalize freedTx p x f s = y at free
  constructor
  · rw [txOf_congr (congrArg Dp.tx (noteActive_dp p _)) p, txOf_congr (congrArg Dp.tx (returnCharges_dp p x.queue x.copy _)) p, txOf_putTx, free]
  · refine PortCtrsKept.trans ?_ (.of_tal (noteActive_tal p _))
    exact PortCtrsKept.trans (t := putTx p y s) (.of_tal rfl) (.of_same (same_returnCharges p x.queue x.copy _) (by decide))

/-! ### Lines of the ledger (R461 to R463) -/

theorem lt_of_gatedQ {s : State} {p q : Nat} (h : gatedQ s p q = true) : q < 16 := by
  unfold gatedQ at h
  simp only [Bool.and_eq_true, decide_eq_true_eq] at h
  by_contra large
  have small : fget s (F.TM_QGATED_GATED p) < 2 ^ 16 := Nat.mod_lt _ (show 0 < 2 ^ 16 by decide)
  rw [bitAt, Nat.testBit_lt_two_pow (Nat.lt_of_lt_of_le small (Nat.pow_le_pow_right (by decide) (by omega)))] at h
  exact absurd h.2 (by decide)

theorem preempt_cuts {p d : Nat} {x : Sending} {s : State} (sends : (txOf s p).cur = some x) (pre : x.pre = true)
    (active : preemptActive s p = true) (wire : onWire s p x = true) (runs : paused s p = false) (cut : cutPoint s p x = some d) :
    ∃ n c, preempt p s = putTx p { txOf s p with cur := none, susp := some { x with sent := x.sent + d, frag := n }, freeClk := c } s := by
  unfold preempt
  dsimp only
  rw [sends]
  dsimp only
  rw [if_neg (by simp [pre, active, wire, runs]), cut]
  exact ⟨_, _, rfl⟩

/-! ### A queue is picked (R389) -/

theorem scan_lt {cal : List Nat} {ptr i q : Nat} {ok : Nat → Bool} (h : scan cal ptr ok = some (i, q)) : q < 16 := by
  unfold scan at h
  obtain ⟨k, -, found⟩ := List.exists_of_findSome?_eq_some h
  dsimp only at found
  split at found
  next holds =>
    obtain ⟨-, rfl⟩ := Prod.mk.inj (Option.some.inj found)
    exact holds.1
  next => exact absurd found (by simp)

theorem selectNext_mpacket {p : Nat} {s : State} (hp : p < 72) (idle : txIdle (noteHolds p s) p = true) (opened : txOpen (noteHolds p s) p = true)
    (waits : (portSt (noteHolds p s) p).mpk ≠ []) : selectNext p s = sendMpacket p (noteHolds p s) := by
  unfold selectNext
  dsimp only
  rw [if_pos ⟨hp, idle, opened, waits⟩]

theorem selectNext_calendar {p i q : Nat} {s v : State} (noted : noteHolds p s = v) (idle : txIdle v p = true) (quiet : (portSt v p).mpk = [])
    (plain : preemptActive v p = false) (whole : (txOf v p).susp = none)
    (pick : scan (calendarNow v p) (fget v (F.TM_CAL_STATUS_PTR_X p)) (eligible v p) = some (i, q)) :
    selectNext p s = sendHead p q false (fput (F.TM_CAL_STATUS_PTR_X p) ((i + 1) % (calendarNow v p).length) v) := by
  unfold txIdle at idle
  simp only [Bool.and_eq_true, Option.isNone_iff_eq_none, decide_eq_true_eq] at idle
  unfold selectNext
  rw [noted]
  dsimp only
  rw [if_neg (by simp [quiet]), if_neg (by simp [plain]), if_neg (by rw [idle.1]; simp [idle.2]), whole]
  dsimp only
  unfold selectBy
  dsimp only
  rw [pick]

/-! ### What the noted holds leave alone -/

theorem txIdle_noteHolds (p : Nat) (s : State) : txIdle (noteHolds p s) p = txIdle s p := by
  unfold txIdle
  rw [txOf_congr (noteHolds_tx p s) p, show (noteHolds p s).clk = s.clk from (same_noteHolds p s).part .clk (by decide)]

theorem txOpen_congr {s t : State} (r : t.regs = s.regs) (x : t.prt = s.prt) (p : Nat) : txOpen t p = txOpen s p := by
  unfold txOpen linkUp fbit
  rw [fget_congr (rget_congr r _), portSt_congr x p]

theorem localLoop_congr {s t : State} (r : t.regs = s.regs) (g : t.glb = s.glb) (p : Nat) : localLoop t p = localLoop s p := by
  unfold localLoop loopKind
  rw [fget_congr (rget_congr r _), g]

/-! ### The obligation -/

/-- Settles O29: the choice of what is sent (`selectNext_mpacket`, `selectNext_calendar` with `sendHead_eq`), a frame's end
(`transmitEnd_eq`), and the lines of the ledger. -/
theorem portsTransmitByTheCalendar : Obligations.PortsTransmitByTheCalendar := by
  unfold Obligations.PortsTransmitByTheCalendar
  refine ⟨?_, ?_, ?_, ?_, ?_⟩
  · rintro dt p s u w hp ⟨free, rfl⟩ missed written idle opened looped waits
    obtain ⟨t, run, st⟩ := timed_settles (c := .queueSelection dt p)
      (f := fun s => if selectMissed s p then s else freeCells (selectNext p (tableWrites s))) rfl (decide_eq_true (by omega)) ⟨free, rfl⟩
    have held := same_noteHolds p w
    have regs : (noteHolds p w).regs = w.regs := regs_of_same held (by decide)
    have prt : (noteHolds p w).prt = w.prt := held.part .prt (by decide)
    have clk : (noteHolds p w).clk = w.clk := held.part .clk (by decide)
    rw [if_neg (by simp [missed]), written, selectNext_mpacket hp ((txIdle_noteHolds p w).trans idle) ((txOpen_congr regs prt p).trans opened)
      (by rw [portSt_congr prt p]; exact waits)] at st
    obtain ⟨mpk, freeClk, cur⟩ := sendMpacket_spec ((txIdle_noteHolds p w).trans idle) ((localLoop_congr regs (held.part .glb (by decide)) p).trans looped)
    rw [portSt_congr prt p] at mpk
    rw [portRate_congr prt p, clk] at freeClk
    have tx : txOf t p = txOf (sendMpacket p (noteHolds p w)) p :=
      (txOf_congr (congrArg Dp.tx st.dp) p).trans (txOf_freeCells _ p)
    refine ⟨t, run, ?_, ?_, ?_⟩
    · rw [portSt_congr (st.prt.trans (freeCells_prt _)) p, mpk]
    · rw [tx, freeClk]
    · rw [tx, cur]
  · rintro dt p i q c rest f s u v w hp ⟨free, rfl⟩ missed noted idle quiet plain whole pick moved head found fate
    obtain ⟨t, run, st⟩ := timed_settles (c := .queueSelection dt p)
      (f := fun s => if selectMissed s p then s else freeCells (selectNext p (tableWrites s))) rfl (decide_eq_true hp) ⟨free, rfl⟩
    obtain ⟨g, sent⟩ := sendHead_eq false head found fate
    rw [if_neg (by simp [missed]), selectNext_calendar noted idle quiet plain whole pick, moved, sent] at st
    have hq := scan_lt pick
    have planned := same_finalPlan p c f w
    generalize (finalPlan p c f w).1 = plan at st
    generalize (finalPlan p c f w).2 = y at st planned
    have served := servedHead_frame p q c rest plan (windowOk w p q c).2 y
    obtain ⟨l, queue⟩ := queueOf_servedHead p q c rest plan (windowOk w p q c).2 y
    have pointer := pointer_servedHead hp hq c rest plan (windowOk w p q c).2 y
    generalize servedHead p q c rest plan (windowOk w p q c).2 y = z at st served queue pointer
    have clk : z.clk = w.clk := Eq.trans (served.part .clk (by decide)) (planned.part .clk (by decide))
    have frg : z.frg = w.frg := Eq.trans (served.part .frg (by decide)) (planned.part .frg (by decide))
    have status : rget t (A.TM_CAL_STATUS p) = rget w (A.TM_CAL_STATUS p) := by
      have outside : A.TM_CAL_STATUS p ∉ settleRegs := by
        have low : ∀ a ∈ settleRegs, a < 0xE1018 ∨ 0x140000 ≤ a := by decide
        intro mem
        have := low _ mem
        unfold A.TM_CAL_STATUS at this
        omega
      rw [st.reg _ outside, rget_freeCells]
      exact Eq.trans pointer (rget_congr (regs_of_same planned (by decide)) _)
    refine ⟨t, sendingOf p q c f plan false (windowOk w p q c).2 g z, l, run, ?_, rfl, rfl, clk, portBank_congr frg p, ?_, ?_⟩
    · rw [txOf_congr (congrArg Dp.tx st.dp) p, txOf_freeCells, takeUp, txOf_putTx]
    · rw [← queue, queueOf, st.dp]
      rfl
    · rw [fget_congr (f := F.TM_CAL_STATUS_PTR_X p) status, ← moved, fget_fput_same _ _ _ (show 0 + 12 ≤ 32 by decide)]
      rfl
  · rintro dt p x f s u w hp ⟨free, rfl⟩ rfl sends found gone whole
    obtain ⟨t, run, st⟩ := timed_settles (c := .transmitEnd dt p) (f := transmitEnd p) rfl (decide_eq_true (by omega)) ⟨free, rfl⟩
    rw [transmitEnd_eq sends found gone whole, if_neg (by omega)] at st
    obtain ⟨cur, counts⟩ := sentOff_spec p x f (tableWrites (passTime dt s))
    have kept (y : State) : PortCtrsKept y (freeCells y) := .of_tal (freeCells_tal y)
    have bad : (x.invert || f.bad || f.stopped) = true ↔ x.invert = true ∨ f.bad = true ∨ f.stopped = true := by
      rw [Bool.or_eq_true, Bool.or_eq_true, or_assoc]
    refine ⟨t, run, ?_⟩
    rw [txOf_congr (congrArg Dp.tx st.dp) p, txOf_freeCells]
    by_cases fails : (x.invert || f.bad || f.stopped) = true
    · rw [if_pos fails] at st ⊢
      rw [if_pos (bad.mp fails), ((kept _).trans (.settled st)) _ (by omega), ctr_sentBad _ _ hp, counts _ (by omega)]
      exact ⟨(congrArg Tx.cur (txOf_congr (congrArg Dp.tx ((same_sentBad _ _ _).part .dp (by decide))) p)).trans cur, rfl⟩
    · rw [if_neg fails] at st ⊢
      rw [if_neg (fun h => fails (bad.mpr h)), ((kept _).trans (.settled st)) _ (by omega), ctr_sentOk _ _ _ hp, counts _ (by omega)]
      exact ⟨(congrArg Tx.cur (txOf_congr (congrArg Dp.tx ((same_sentOk _ _ _ _).part .dp (by decide))) p)).trans cur, rfl⟩
  · rintro dt p x s u hp ⟨free, rfl⟩ sends express gated closed wire fresh
    obtain ⟨t, run, st⟩ := timed_settles (c := .ledgerLineBoundary dt p) (f := lineChange p) rfl (decide_eq_true hp) ⟨free, rfl⟩
    generalize passTime dt s = u at *
    unfold lineChange at st
    rw [sends] at st
    dsimp only at st
    rw [if_neg (by simp [express]), if_pos ⟨by rw [gated, closed, wire]; rfl, by simp [fresh]⟩] at st
    have hq := lt_of_gatedQ gated
    refine ⟨t, run, ?_, ?_, ?_, ?_⟩
    · rw [txOf_congr (congrArg Dp.tx st.dp) p, txOf_putTx]
    · have small : groupBase 16 + (5 * qkey p x.queue + 4) < groupBase 27 := by
        have : groupBase 16 + 6400 ≤ groupBase 27 := by decide
        unfold qkey
        omega
      rw [st.ctr 16 _ (by decide) small]
      rw [putTx_ctr, ctr_congr (congrArg Tal.live (setInt_tal A.LDG_INT_STAT 3 _)) 16, bump, ctr_bumpN_same]
    · rw [st.tab, putTx_tab, setInt_tab, bump, bumpN_tab]
    · rw [st.prt, putTx_prt, setInt_prt, bump, bumpN_prt]
  · rintro dt p d x s u hp ⟨free, rfl⟩ begun sends pre active wire runs cut asked
    obtain ⟨t, run, st⟩ := timed_settles (c := .ledgerStart dt p)
      (f := fun s => if (portLedger s p).2.2.2 then lineChange p s else s) rfl (decide_eq_true hp) ⟨free, rfl⟩
    generalize passTime dt s = u at *
    rw [if_pos begun] at st
    obtain ⟨n, c, off⟩ := preempt_cuts sends pre active wire runs cut
    have tx : txOf (preempt p u) p = { txOf u p with cur := none, susp := some { x with sent := x.sent + d, frag := n }, freeClk := c } := by
      rw [off, txOf_putTx]
    have frame : Same [.dp, .tal] u (lineChange p u) ∧ (lineChange p u).dp = (preempt p u).dp := by
      unfold lineChange
      rw [sends]
      dsimp only
      rw [if_pos pre]
      have cutOff : (txOf (preempt p u) p).cur.isNone = true := by rw [tx]; rfl
      have off : Same [.dp, .tal] u (preempt p u) := (same_preempt p u).mono (by decide)
      split
      · exact ⟨.comp (same_bumpN _ _ _ _) (by decide) off, bumpN_dp _ _ _ _⟩
      next open_ =>
        rw [if_pos]
        · exact ⟨off, rfl⟩
        · obtain held | ⟨gated, closed⟩ := asked
          · exact held
          · exact absurd ⟨by rw [gated, closed, wire]; rfl, cutOff⟩ open_
    obtain ⟨same, dp⟩ := frame
    have last : txOf t p = txOf (preempt p u) p := txOf_congr (congrArg Dp.tx (st.dp.trans dp)) p
    refine ⟨t, { x with sent := x.sent + d, frag := n }, run, ?_, ?_, rfl, rfl, rfl, rfl, ?_, ?_⟩
    · rw [last, tx]
    · rw [last, tx]
    · exact st.tab.trans (same.part .tab (by decide))
    · exact st.prt.trans (same.part .prt (by decide))

end Machine
end Sys2Proof
end

section
/-! PROOF. Proofs/Gates.lean: stream gates and the bases of the shadow ledgers (O30). -/
namespace Sys2Proof
namespace Machine

/-! ### Stream gates (R476) -/

theorem gateOf_putGate (g b c : Nat) (x : StreamGate) (s : State) :
    gateOf (putGate g b x s) g c = if b = c then x else gateOf s g c := by
  unfold gateOf putGate
  rw [sget_sput]
  by_cases h : b = c
  · rw [if_pos (by omega), if_pos h]
  · rw [if_neg (by omega), if_neg h]

/-- A gate's line begins or goes on: the clocks stay, and no other bank of the gate changes. -/
theorem gateLineStart_frame (g b : Nat) (s : State) :
    (gateLineStart g b s).tim = s.tim ∧ (gateLineStart g b s).phs = s.phs ∧ (gateLineStart g b s).dp = s.dp ∧
      (gateLineStart g b s).tab = s.tab := by
  unfold gateLineStart
  dsimp only
  split <;> exact ⟨rfl, rfl, rfl, rfl⟩

theorem gateOf_gateLineStart_other {g b c : Nat} (s : State) (h : b ≠ c) : gateOf (gateLineStart g b s) g c = gateOf s g c := by
  unfold gateLineStart
  dsimp only
  split
  · rfl
  · rw [gateOf_putGate, if_neg h]

theorem ledgerNow_congr {s t : State} (x : t.tim = s.tim) (y : t.phs = s.phs) (m : Nat) : ledgerNow t m = ledgerNow s m := by
  unfold ledgerNow phaseInstant
  rw [x, y]

theorem gateLineStart_enters {g b occ : Nat} {s : State} (valid : gateValid (gateOf s g b).words = true)
    (line : (gateAt (gateOf s g b) (ledgerNow s (gateMode (gateOf s g b).words))).2.2.2 = occ) (some_ : occ ≠ 0)
    (other : occ ≠ (gateOf s g b).occ) : gateLineStart g b s = putGate g b { gateOf s g b with occ := occ, bytes := 0 } s := by
  unfold gateLineStart
  dsimp only
  rw [line, if_neg (by simp [some_, other, valid])]

/-- Both banks of a gate are looked at, and the one that has entered another occurrence forgets its octets. -/
theorem gateOf_bothBanks {g b occ : Nat} {s : State} (hb : b < 2) (valid : gateValid (gateOf s g b).words = true)
    (line : (gateAt (gateOf s g b) (ledgerNow s (gateMode (gateOf s g b).words))).2.2.2 = occ) (some_ : occ ≠ 0)
    (other : occ ≠ (gateOf s g b).occ) :
    gateOf (gateLineStart g 1 (gateLineStart g 0 s)) g b = { gateOf s g b with occ := occ, bytes := 0 } := by
  obtain rfl | rfl : b = 0 ∨ b = 1 := by omega
  · rw [gateOf_gateLineStart_other _ (by decide), gateLineStart_enters valid line some_ other, gateOf_putGate, if_pos rfl]
  · obtain ⟨tim, phs, -, -⟩ := gateLineStart_frame g 0 s
    have same : gateOf (gateLineStart g 0 s) g 1 = gateOf s g 1 := gateOf_gateLineStart_other s (by decide)
    have now := ledgerNow_congr tim phs
    rw [gateLineStart_enters (s := gateLineStart g 0 s) (occ := occ) (by rw [same, valid]) (by rw [same, now, line]) some_
      (by rw [same]; exact other), gateOf_putGate, if_pos rfl, same]

/-! ### The base of a shadow ledger (R467) -/

theorem ldgBaseSub_ne_int (p : Nat) : A.LDG_INT_STAT ≠ A.LDG_BASE_SUB p := by
  unfold A.LDG_INT_STAT A.LDG_BASE_SUB
  omega

theorem ldgBaseSub_ne_gbk {p : Nat} (hp : p < 72) : A.LDG_BASE_SUB p ≠ A.GBK_INT_STAT := by
  unfold A.GBK_INT_STAT A.LDG_BASE_SUB
  omega

theorem ldgBaseSub_not_settle {p : Nat} (hp : p < 72) : A.LDG_BASE_SUB p ∉ settleRegs := by
  have outside : ∀ a ∈ settleRegs, a < 0x101000 ∨ 0x110000 ≤ a := by decide
  intro mem
  have := outside _ mem
  unfold A.LDG_BASE_SUB at this
  omega

theorem rget_lateStart {r : Nat} (u a : Nat) (s : State) (int : A.LDG_INT_STAT ≠ r) (gbk : r ≠ A.GBK_INT_STAT) :
    rget (lateStart u a s) r = rget s r := by
  unfold lateStart
  rw [rget_raise _ _ _ _ _ gbk, rget_setInt_ne _ _ int]

theorem rget_resolveLedger {r : Nat} (p b : Nat) (s : State) (int : A.LDG_INT_STAT ≠ r) (gbk : r ≠ A.GBK_INT_STAT) :
    rget (resolveLedger p b s) r = rget s r := by
  have put (l : Ledger) : rget (putLedger p b l s) r = rget s r := rget_congr rfl r
  unfold resolveLedger
  dsimp only
  split
  · rfl
  · split
    · split
      · rw [rget_lateStart _ _ _ int gbk, put]
      · exact put _
    · exact put _

theorem baseSub_writeBaseSub {p v : Nat} {s : State} (hp : p < 72) (shadow : frgState s = 3 ∨ frgState s = 4) :
    rget (writeBaseSub p v s) (A.LDG_BASE_SUB p) = v % 2 ^ 30 := by
  have gbk := ldgBaseSub_ne_gbk hp
  have written : rget (rput (A.LDG_BASE_SUB p) (v % 2 ^ 30) s) (A.LDG_BASE_SUB p) = v % 2 ^ 30 := by
    rw [rget_rput_same]
    exact Nat.mod_eq_of_lt (Nat.lt_trans (Nat.mod_lt _ (by decide)) (by decide))
  have put (b : Nat) (l : Ledger) (u : State) : rget (putLedger p b l u) (A.LDG_BASE_SUB p) = rget u (A.LDG_BASE_SUB p) := rget_congr rfl _
  unfold frgState at shadow
  unfold writeBaseSub
  dsimp only
  rw [if_pos (shadow.imp_right Or.inl)]
  generalize rput (A.LDG_BASE_SUB p) (v % 2 ^ 30) s = u at written ⊢
  split
  · rw [put, written]
  · rw [rget_resolveLedger _ _ _ (ldgBaseSub_ne_int p) gbk, put, written]

theorem writeBaseSub_refused {p v : Nat} {s : State} (none_ : frgState s < 3) : writeBaseSub p v s = setInt A.LDG_INT_STAT 1 s := by
  unfold frgState at none_
  unfold writeBaseSub
  dsimp only
  rw [if_neg (by omega)]

/-! ### The obligation -/

/-- Settles O30: the gates (`gateOf_bothBanks`), and the write that is taken or refused. -/
theorem gatesAndLedgerBases : Obligations.GatesAndLedgerBases := by
  unfold Obligations.GatesAndLedgerBases
  refine ⟨?_, ?_, ?_⟩
  · rintro dt g b occ s u hg hb ⟨free, rfl⟩ valid line some_ other
    obtain ⟨t, run, st⟩ := timed_settles (c := .streamGateLineStart dt g) (f := fun s => gateLineStart g 1 (gateLineStart g 0 s))
      rfl (decide_eq_true hg) ⟨free, rfl⟩
    generalize passTime dt s = u at *
    obtain ⟨-, -, dp₀, tab₀⟩ := gateLineStart_frame g 0 u
    obtain ⟨-, -, dp₁, tab₁⟩ := gateLineStart_frame g 1 (gateLineStart g 0 u)
    refine ⟨t, run, ?_, st.dp.trans (dp₁.trans dp₀), st.tab.trans (tab₁.trans tab₀)⟩
    rw [gateOf, st.ldg, ← gateOf, gateOf_bothBanks hb valid line some_ other]
  · rintro p v s hp ready shadow
    obtain ⟨t, run, st⟩ := hostCmd_settles (c := .ldgBaseSubWrite p v) (f := writeBaseSub p v.toNat) rfl (decide_eq_true hp) ready
    have frame := same_writeBaseSub p v.toNat s
    refine ⟨t, run, ?_, st.dp.trans (frame.part .dp (by decide)), st.tab.trans (frame.part .tab (by decide)),
      st.frg.trans (frame.part .frg (by decide))⟩
    rw [st.reg _ (ldgBaseSub_not_settle hp), baseSub_writeBaseSub hp shadow]
  · rintro p v s hp ready none_
    obtain ⟨t, run, st⟩ := hostCmd_settles (c := .ldgBaseSubWrite p v) (f := writeBaseSub p v.toNat) rfl (decide_eq_true hp) ready
    rw [writeBaseSub_refused none_] at st
    refine ⟨t, run, ?_, st.ldg.trans (setInt_ldg _ _ _), st.dp.trans (setInt_dp _ _ _), st.tab.trans (setInt_tab _ _ _), fun r int out => ?_⟩
    · rw [st.reg _ (by decide)]
      exact testBit_forBits _ 1 _ (by decide)
    · rw [st.reg _ out, rget_setInt_ne _ _ int.symm]

end Machine
end Sys2Proof
end

section
/-! PROOF. Proofs/PhaseReferences.lean: the references of the phase clock (O31). -/
namespace Sys2Proof
namespace Machine

/-! ### What the loop leaves of its references -/

/-- From `s` to `t` the references of the phase clock, and the counters of what they bring, stay as they are. -/
structure RefsKept (s t : State) : Prop where
  mainsA : t.phs.mainsA = s.phs.mainsA
  mainsB : t.phs.mainsB = s.phs.mainsB
  msg : t.phs.msg = s.phs.msg
  ctrs : ∀ i, i < 5 → ctr t 18 i = ctr s 18 i

namespace RefsKept
variable {T : List Part} {s t u : State}

theorem refl (s : State) : RefsKept s s := ⟨rfl, rfl, rfl, fun _ _ => rfl⟩

theorem trans (h : RefsKept s t) (k : RefsKept t u) : RefsKept s u :=
  ⟨k.mainsA.trans h.mainsA, k.mainsB.trans h.mainsB, k.msg.trans h.msg, fun i hi => (k.ctrs i hi).trans (h.ctrs i hi)⟩

theorem of_phs_tal (h : t.phs = s.phs) (k : t.tal = s.tal) : RefsKept s t :=
  ⟨by rw [h], by rw [h], by rw [h], fun _ _ => ctr_congr (by rw [k]) _ _⟩

theorem raise (c w a b : Nat) (s : State) : RefsKept s (raise c w a b s) :=
  ⟨by rw [raise_phs], by rw [raise_phs], by rw [raise_phs], fun i hi => (eventOnly_raise c w a b s).ctr 18 i (by decide) (by
    have : groupBase 18 + 5 ≤ groupBase 28 := by decide
    omega)⟩

theorem setInt (a i : Nat) (s : State) : RefsKept s (setInt a i s) := of_phs_tal (setInt_phs _ _ _) (setInt_tal _ _ _)

theorem rput (a v : Nat) (s : State) : RefsKept s (rput a v s) := of_phs_tal (rput_phs _ _ _) (rput_tal _ _ _)

theorem fput (f : Fld) (v : Nat) (s : State) : RefsKept s (fput f v s) := of_phs_tal (fput_phs _ _ _) (fput_tal _ _ _)

theorem forBits (a m : Nat) (s : State) : RefsKept s (forBits a m s) := of_phs_tal (forBits_phs _ _ _) (forBits_tal _ _ _)

/-- A counter of the phase clock that is none of its references'. -/
theorem bump {i : Nat} (s : State) (h : 5 ≤ i) : RefsKept s (bump 18 i s) :=
  ⟨by rw [Machine.bump, bumpN_phs], by rw [Machine.bump, bumpN_phs], by rw [Machine.bump, bumpN_phs],
    fun j hj => ctr_bumpN_ne _ _ (by omega)⟩

/-- What the clock itself holds is no reference's. -/
theorem clock {p : Phs} (a : p.mainsA = s.phs.mainsA) (b : p.mainsB = s.phs.mainsB) (m : p.msg = s.phs.msg) :
    RefsKept s { s with phs := p } := ⟨a, b, m, fun _ _ => rfl⟩

theorem foldl {β : Type} {f : State → β → State} (k : ∀ x b, RefsKept x (f x b)) (l : List β) (s : State) :
    RefsKept s (l.foldl f s) := by
  induction l generalizing s with
  | nil => exact refl s
  | cons b l ih => exact (k s b).trans (ih _)

theorem ite {c : Prop} [Decidable c] (h : c → RefsKept s t) (k : ¬ c → RefsKept s u) : RefsKept s (if c then t else u) := by
  split
  next yes => exact h yes
  next no => exact k no

end RefsKept

theorem refs_noteError (i : Nat) (e : Int) (s : State) : RefsKept s (noteError i e s) := by
  have noted (l : List (Nat × Int)) : RefsKept s { s with phs := { s.phs with errs := l } } := .clock rfl rfl rfl
  have set (far : Bool) (u : State) : RefsKept u (setFar i far u) := .rput _ _ _
  unfold noteError
  extract_lets _ u far v
  have hu : RefsKept s u := noted _
  clear_value u
  have hv : RefsKept u v := set _ _
  clear_value v
  exact .ite (fun _ => hu) (fun _ => .ite (fun _ => (hu.trans hv).trans ((RefsKept.setInt _ _ _).trans (.raise _ _ _ _ _)))
    (fun _ => hu.trans hv))

theorem refs_pushHist (s : State) : RefsKept s (pushHist s) := by
  unfold pushHist
  exact .clock rfl rfl rfl

theorem refs_setRate (r : Nat) (s : State) : RefsKept s (setRate r s) := by
  have rated (n : Nat) : RefsKept s { s with phs := { s.phs with rate := n } } := .clock rfl rfl rfl
  unfold setRate
  exact (rated _).trans (refs_pushHist _)

theorem refs_chooseSource (s : State) : RefsKept s (chooseSource s) := by
  have fresh (l : List Nat) : RefsKept s { s with phs := { s.phs with recent := l } } := .clock rfl rfl rfl
  have lost (b : Bool) (x : State) : RefsKept x { x with phs := { x.phs with lost := b } } := .clock rfl rfl rfl
  unfold chooseSource
  extract_lets +onlyGivenNames -merge -underBinder old new clock u
  have hu : RefsKept s u := (fresh _).trans ((RefsKept.fput _ _ _).trans (.fput _ _ _))
  clear_value old new clock u
  refine .ite (fun _ => .refl s) (fun _ => ?_)
  split
  · extract_lets +onlyGivenNames -merge -underBinder v slow w e
    have hv : RefsKept s v := hu.trans (.fput _ _ _)
    clear_value v
    have hw : RefsKept v w := (lost _ _).trans (refs_setRate _ _)
    clear_value slow w e
    exact .ite (fun _ => (hv.trans hw).trans ((RefsKept.setInt _ _ _).trans ((RefsKept.bump _ (by decide)).trans (.raise _ _ _ _ _))))
      (fun _ => hv)
  · extract_lets +onlyGivenNames -merge -underBinder v
    have hv : RefsKept s v := hu.trans ((RefsKept.fput _ _ _).trans (.fput _ _ _))
    clear_value v
    split
    · exact hv.trans ((RefsKept.setInt _ _ _).trans (.raise _ _ _ _ _))
    · exact .ite (fun _ => hv.trans ((lost _ _).trans ((RefsKept.setInt _ _ _).trans (.raise _ _ _ _ _)))) (fun _ => hv)

theorem refs_noteSample (e : Nat) (s : State) : RefsKept s (noteSample e s) := by
  have noted (l m : List Nat) : RefsKept s { s with phs := { s.phs with recent := l, rates := m } } := .clock rfl rfl rfl
  unfold noteSample
  exact (noted _ _).trans (.fput _ _ _)

theorem refs_clearError (i : Nat) (s : State) : RefsKept s (clearError i s) := by
  have noted (l : List (Nat × Int)) : RefsKept s { s with phs := { s.phs with errs := l } } := .clock rfl rfl rfl
  unfold clearError setFar
  exact (noted _).trans (.rput _ _ _)

theorem refs_judgeFar (s : State) : RefsKept s (judgeFar s) :=
  (refs_noteError _ _ _).trans ((refs_noteError _ _ _).trans (refs_chooseSource _))

theorem refs_phaseSet (q num den : Nat) (s : State) : RefsKept s (phaseSet q num den s) := by
  have moved (x : State) : RefsKept x (setInstant q x) := .clock rfl rfl rfl
  have began : RefsKept s { s with phs := { s.phs with fint := 0, recent := [] } } := .clock rfl rfl rfl
  unfold phaseSet
  extract_lets _ u
  have hu : RefsKept s u := began.trans ((moved _).trans (refs_setRate _ _))
  clear_value u
  exact hu.trans ((RefsKept.rput _ _ _).trans ((RefsKept.fput _ _ _).trans (refs_noteSample _ _)))

theorem refs_taLate (k now : Nat) (s : State) : RefsKept s (taLate k now s) := by
  have soon (l : List (Nat × Nat)) (x : State) : RefsKept x { x with phs := { x.phs with taNow := l } } := .clock rfl rfl rfl
  unfold taLate
  refine .ite (fun _ => (RefsKept.fput _ _ _).trans ((RefsKept.forBits _ _ _).trans (.raise _ _ _ _ _))) (fun _ => ?_)
  dsimp only
  exact ((RefsKept.forBits _ _ _).trans (.rput _ _ _)).trans ((soon _ _).trans ((RefsKept.setInt _ _ _).trans (.raise _ _ _ _ _)))

theorem refs_taLateAll (lo now : Nat) (s : State) : RefsKept s (taLateAll lo now s) :=
  .foldl (fun x k => .ite (fun _ => refs_taLate k now x) (fun _ => .refl x)) _ s

theorem refs_phaseRealign (i : Nat) (e : Int) (q num den : Nat) (s : State) : RefsKept s (phaseRealign i e q num den s) := by
  have valid (x : State) : RefsKept x { x with phs := { x.phs with valid := true } } := .clock rfl rfl rfl
  have ended (x : State) : RefsKept x { x with phs := { x.phs with realignPending := false } } := .clock rfl rfl rfl
  have begun (x : State) : RefsKept x { x with phs := { x.phs with recent := [0] } } := .clock rfl rfl rfl
  unfold phaseRealign
  extract_lets p first _ a b c _ d f _ g
  have ha : RefsKept s a := (ended s).trans (refs_phaseSet _ _ _ _)
  clear_value a
  have hb : RefsKept a b := .fput _ _ _
  clear_value b
  have hc : RefsKept b c := (refs_clearError _ _).trans ((RefsKept.setInt _ _ _).trans (.raise _ _ _ _ _))
  clear_value c
  have hd : RefsKept c d :=
    .ite (fun _ => (valid c).trans ((RefsKept.setInt _ _ _).trans ((RefsKept.raise _ _ _ _ _).trans (refs_judgeFar _)))) (fun _ => .refl c)
  clear_value d
  have hf : RefsKept d f := refs_chooseSource d
  clear_value f
  have hg : RefsKept f g := (begun f).trans (.fput _ _ _)
  clear_value g
  have all := ((((ha.trans hb).trans hc).trans hd).trans hf).trans hg
  exact .ite (fun _ => all.trans (refs_taLateAll _ _ _))
    (fun _ => .ite (fun _ => all.trans (refs_taLateAll _ _ _)) (fun _ => all))

theorem refs_phaseLock (i q num den : Nat) (s : State) : RefsKept s (phaseLock i q num den s) := by
  have valid (x : State) : RefsKept x { x with phs := { x.phs with valid := true } } := .clock rfl rfl rfl
  unfold phaseLock
  extract_lets a _ b c
  have ha : RefsKept s a := refs_phaseSet _ _ _ _
  clear_value a
  have hb : RefsKept a b := (valid a).trans (.setInt _ _ _)
  clear_value b
  have hc : RefsKept b c := (refs_clearError _ _).trans ((RefsKept.raise _ _ _ _ _).trans (refs_judgeFar _))
  clear_value c
  exact ((ha.trans hb).trans hc).trans (refs_taLateAll _ _ _)

theorem refs_loopUpdate (e : Int) (num den : Nat) (s : State) : RefsKept s (loopUpdate e num den s) := by
  have int_ (x : State) (n : Int) : RefsKept x { x with phs := { x.phs with fint := n } } := .clock rfl rfl rfl
  unfold loopUpdate
  split
  extract_lets lim fint raw adj slew _ a b
  have ha : RefsKept s a := (int_ _ _).trans (refs_setRate _ _)
  clear_value a
  have hb : RefsKept a b := (RefsKept.rput _ _ _).trans (.fput _ _ _)
  clear_value b
  have counted : RefsKept b (if slew then bump 18 8 b else b) := .ite (fun _ => .bump _ (by decide)) (fun _ => .refl b)
  exact ((ha.trans hb).trans counted).trans (refs_noteSample _ _)

theorem refs_phaseSample (i : Nat) (e : Int) (q num den : Nat) (s : State) : RefsKept s (phaseSample i e q num den s) := by
  unfold phaseSample
  extract_lets a b
  have ha : RefsKept s a := refs_noteError _ _ _
  clear_value a
  have hb : RefsKept a b := refs_chooseSource _
  clear_value b
  exact .ite (fun _ => ha.trans (refs_phaseRealign _ _ _ _ _ _)) (fun _ => .ite
    (fun _ => .ite (fun _ => (ha.trans hb).trans (refs_loopUpdate _ _ _ _)) (fun _ => (ha.trans hb).trans (refs_phaseLock _ _ _ _ _)))
    (fun _ => ha.trans hb))

theorem refs_resolveLedger (p b : Nat) (s : State) : RefsKept s (resolveLedger p b s) := by
  have put (l : Ledger) : RefsKept s (putLedger p b l s) := .of_phs_tal rfl rfl
  unfold resolveLedger lateStart
  dsimp only
  refine .ite (fun _ => .refl s) (fun _ => .ite (fun _ => .ite (fun _ => ?_) (fun _ => put _)) (fun _ => put _))
  exact (put _).trans ((RefsKept.setInt _ _ _).trans (.raise _ _ _ _ _))

theorem refs_resolveGate (g b : Nat) (s : State) : RefsKept s (resolveGate g b s) := by
  have put (x : StreamGate) : RefsKept s (putGate g b x s) := .of_phs_tal rfl rfl
  unfold resolveGate lateStart
  dsimp only
  refine .ite (fun _ => .refl s) (fun _ => .ite (fun _ => .ite (fun _ => ?_) (fun _ => put _)) (fun _ => put _))
  exact (put _).trans ((RefsKept.setInt _ _ _).trans (.raise _ _ _ _ _))

theorem refs_resolveWaiting (s : State) : RefsKept s (resolveWaiting s) :=
  (RefsKept.foldl (fun x _ => .ite (fun _ => refs_resolveLedger _ _ x) (fun _ => .refl x)) _ s).trans
    (.foldl (fun x _ => .ite (fun _ => refs_resolveGate _ _ x) (fun _ => .refl x)) _ _)

/-- A clock that becomes valid resolves what waited for it, which leaves the references alone. -/
theorem refs_withValid (f : State → State) (s : State) : RefsKept (f s) (withValid f s) :=
  .ite (fun _ => refs_resolveWaiting _) (fun _ => .refl _)

theorem refs_settled {s t : State} (st : SettledFrom s t) : RefsKept s t :=
  ⟨by rw [st.phs], by rw [st.phs], by rw [st.phs], fun i hi => st.ctr 18 i (by decide) (by
    have : groupBase 18 + 5 ≤ groupBase 27 := by decide
    omega)⟩

end Machine
end Sys2Proof
end

section
/-! PROOF. Proofs/PhaseInputs.lean: mains edges, message samples and lost inputs of the phase clock (O31). -/
namespace Sys2Proof
namespace Machine

/-! ### Qualified inputs -/

theorem srcQual_eq (s : State) {i : Nat} (h : i < 4) : srcQual s i = bitAt (fget s F.PHS_STATUS_QUAL) i := by
  unfold srcQual fget bits bitAt
  rw [Nat.testBit_mod_two_pow, Nat.testBit_shiftRight, show decide (i < F.PHS_STATUS_QUAL.width) = true from decide_eq_true h, Bool.true_and]
  rfl

theorem srcQual_setQual (i : Nat) (b : Bool) (s : State) (h : i < 4) : srcQual (setQual i b s) i = b := by
  unfold srcQual setQual
  rw [bitAt_eq_bits, rget_rput_same, bits_mod _ _ _ (by omega), bits_setBits_same]
  cases b <;> rfl

/-- From `s` to `t` the inputs stay qualified as they are. -/
def QualKept (s t : State) : Prop := fget t F.PHS_STATUS_QUAL = fget s F.PHS_STATUS_QUAL

namespace QualKept
variable {s t u : State}

theorem trans (h : QualKept s t) (k : QualKept t u) : QualKept s u := Eq.trans k h

theorem of_regs (h : t.regs = s.regs) : QualKept s t := fget_congr (rget_congr h _)

theorem srcQual (h : QualKept s t) {i : Nat} (hi : i < 4) : srcQual t i = srcQual s i := by
  rw [srcQual_eq t hi, srcQual_eq s hi, h]

end QualKept

theorem qual_fput {f : Fld} (v : Nat) (s : State) (h : Apart f F.PHS_STATUS_QUAL) : QualKept s (fput f v s) := fget_fput_apart _ _ h

theorem qual_event {a : Nat} (c w x y i : Nat) (s : State) (h : a ≠ A.PHS_STATUS) : QualKept s (raise c w x y (setInt a i s)) :=
  (fget_raise _ _ _ _ _ (by decide)).trans (fget_setInt_ne _ _ h)

theorem qual_setRate (r : Nat) (s : State) : QualKept s (setRate r s) := .of_regs (regs_of_same (same_setRate r s) (by decide))

/-- The choice of a source qualifies none (R445). -/
theorem qual_chooseSource (s : State) : QualKept s (chooseSource s) := by
  have phs (p : Phs) (x : State) : QualKept x { x with phs := p } := .of_regs rfl
  unfold chooseSource
  extract_lets +onlyGivenNames -merge -underBinder old new clock u
  have hu : QualKept s u := (phs _ s).trans ((qual_fput _ _ (by decide)).trans (qual_fput _ _ (by decide)))
  clear_value old new clock u
  split
  · exact phs s.phs s
  · split
    · extract_lets +onlyGivenNames -merge -underBinder v slow w e
      have hv : QualKept s v := hu.trans (qual_fput _ _ (by decide))
      clear_value v
      have hw : QualKept v w := (phs _ v).trans (qual_setRate _ _)
      clear_value slow w e
      split
      · refine (hv.trans hw).trans (QualKept.trans (t := setInt A.PHS_INT_STAT 1 w) (fget_setInt_ne _ _ (by decide)) ?_)
        exact (QualKept.of_regs (bumpN_regs 18 7 1 _)).trans (fget_raise _ _ _ _ _ (by decide))
      · exact hv
    · extract_lets +onlyGivenNames -merge -underBinder v
      have hv : QualKept s v := hu.trans ((qual_fput _ _ (by decide)).trans (qual_fput _ _ (by decide)))
      clear_value v
      split
      · exact hv.trans (qual_event _ _ _ _ _ _ (by decide))
      · split
        · exact hv.trans ((phs _ v).trans (qual_event _ _ _ _ _ _ (by decide)))
        · exact hv

theorem rget_resolveGate {r : Nat} (g b : Nat) (s : State) (int : A.LDG_INT_STAT ≠ r) (gbk : r ≠ A.GBK_INT_STAT) :
    rget (resolveGate g b s) r = rget s r := by
  have put (x : StreamGate) : rget (putGate g b x s) r = rget s r := rget_congr rfl r
  unfold resolveGate
  dsimp only
  split
  · rfl
  · split
    · split
      · rw [rget_lateStart _ _ _ int gbk, put]
      · exact put _
    · exact put _

theorem rget_foldl {β : Type} {r : Nat} {f : State → β → State} (k : ∀ x b, rget (f x b) r = rget x r) (l : List β) (s : State) :
    rget (l.foldl f s) r = rget s r := by
  induction l generalizing s with
  | nil => rfl
  | cons b l ih => exact (ih _).trans (k s b)

theorem rget_resolveWaiting {r : Nat} (s : State) (int : A.LDG_INT_STAT ≠ r) (gbk : r ≠ A.GBK_INT_STAT) :
    rget (resolveWaiting s) r = rget s r := by
  unfold resolveWaiting
  refine (rget_foldl (fun x b => ?_) _ _).trans (rget_foldl (fun x b => ?_) _ s)
  · split
    · exact rget_resolveGate _ _ _ int gbk
    · rfl
  · split
    · exact rget_resolveLedger _ _ _ int gbk
    · rfl

theorem rget_withValid {r : Nat} (f : State → State) (s : State) (int : A.LDG_INT_STAT ≠ r) (gbk : r ≠ A.GBK_INT_STAT) :
    rget (withValid f s) r = rget (f s) r := by
  unfold withValid
  dsimp only
  split
  · exact rget_resolveWaiting _ int gbk
  · rfl

theorem qual_withValid (f : State → State) (s : State) : QualKept (f s) (withValid f s) :=
  fget_congr (rget_withValid f s (by decide) (by decide))

theorem same_withValid (f : State → State) (s : State) : Same [.regs, .tal, .gbk, .ldg] (f s) (withValid f s) := by
  unfold withValid
  dsimp only
  split
  · exact same_resolveWaiting _
  · exact .refl _ _

theorem qual_settled {s t : State} (st : SettledFrom s t) : QualKept s t := st.fget (by decide)

/-! ### Mains inputs (R440) -/

theorem mainsIn_setMains (x : Nat) (m : MainsIn) (s : State) : mainsIn (setMains x m s) x = m := by
  unfold mainsIn setMains
  split <;> rfl

theorem RefsKept.mainsIn {s t : State} (h : RefsKept s t) (x : Nat) : mainsIn t x = mainsIn s x := by
  unfold Machine.mainsIn
  rw [h.mainsA, h.mainsB]

theorem mainsIn_setQual (i : Nat) (b : Bool) (s : State) (x : Nat) : mainsIn (setQual i b s) x = mainsIn s x := by
  unfold mainsIn setQual
  rw [rput_phs]

theorem mainsAccept_last (x : Nat) (s : State) : (mainsIn (mainsAccept x s) x).last = some s.clk := by
  have put (p : Option Nat) (r : Nat) (g : Bool) :
      (mainsIn (setMains x { last := some s.clk, period := p, run := r, gap := g } s) x).last = some s.clk :=
    congrArg MainsIn.last (mainsIn_setMains _ _ _)
  unfold mainsAccept
  extract_lets m
  split
  · exact put _ _ _
  · extract_lets sep missing
    clear_value missing
    split
    · exact put _ _ _
    · split
      · split
        · rw [mainsIn_setQual]
          exact put _ _ _
        · exact put _ _ _
      · rw [mainsIn_setQual]
        exact put _ _ _

theorem ctr_mainsAccept (x : Nat) (s : State) (g i : Nat) : ctr (mainsAccept x s) g i = ctr s g i :=
  ctr_congr (congrArg Tal.live ((same_mainsAccept x s).part .tal (by decide))) _ _

/-- An edge of an input that is not in use is taken as the input's last one (R440). -/
theorem mainsEdge_other {x : Nat} {s : State} (hx : x < 2) (running : s.phs.running = true) (other : srcUsed s ≠ some x) :
    (mainsIn (mainsEdge x s) x).last = some s.clk ∧ ctr (mainsEdge x s) 18 x = (ctr s 18 x + 1) % 2 ^ 64 := by
  have used : srcUsed (bump 18 x s) = srcUsed s := by
    have regs : (bump 18 x s).regs = s.regs := bumpN_regs 18 x 1 s
    unfold srcUsed fbit
    rw [fget_congr (rget_congr regs _), fget_congr (rget_congr regs _)]
  unfold mainsEdge
  rw [if_neg (by simp [running])]
  dsimp only
  rw [if_neg (by rw [used]; exact fun h => other h.1)]
  have last := mainsAccept_last x (bump 18 x s)
  have counts : ctr (mainsAccept x (bump 18 x s)) 18 x = (ctr s 18 x + 1) % 2 ^ 64 := by
    rw [ctr_mainsAccept, bump, ctr_bumpN_same]
  generalize mainsError (bump 18 x s) x = e
  rw [bump, bumpN_clk, ← bump] at last
  generalize mainsAccept x (bump 18 x s) = u at last counts
  have chosen := refs_chooseSource u
  generalize chooseSource u = v at chosen
  split
  next q _ =>
    have all := chosen.trans (refs_phaseSample x e ((Int.ofNat (phaseInstant v) - e) % 2 ^ 64).toNat q 1 v)
    rw [all.mainsIn, all.ctrs _ (by omega)]
    exact ⟨last, counts⟩
  next =>
    rw [chosen.mainsIn, chosen.ctrs _ (by omega)]
    exact ⟨last, counts⟩

/-- An edge of the source in use that lies outside its window is an outlier (R447). -/
theorem mainsEdge_outlier {x : Nat} {s : State} (running : s.phs.running = true) (used : srcUsed s = some x)
    (locked : fbit s F.PHS_STATUS_LOCKED = true) (far : edgeWin s < (mainsError s x).natAbs) :
    mainsEdge x s = bump 18 (2 + x) (bump 18 x s) := by
  unfold mainsEdge
  rw [if_neg (by simp [running])]
  exact if_pos ⟨used, locked, far⟩

theorem mainsLoss_due {x l p : Nat} {s : State} (last : (mainsIn s x).last = some l) (period : (mainsIn s x).period = some p)
    (late : l + max 1 (fget s F.PHS_QUAL_CFG_LOSS_CYCLES) * p ≤ s.clk) :
    mainsLoss x s = chooseSource (setQual x false (setMains x { mainsIn s x with run := 0 } s)) := by
  unfold mainsLoss
  dsimp only
  rw [last, period]
  exact if_pos late

/-! ### Messages (R441, R442) -/

theorem msgLoss_due {a b c : Nat} {s : State} (head : s.phs.msg.head? = some (a, b, c)) (qual : srcQual s 2 = true)
    (late : c + max 1 (fget s F.PHS_MSG_LOSS_MS_MS) * clocksPerMs ≤ s.clk) : msgLoss s = chooseSource (setQual 2 false s) := by
  unfold msgLoss
  rw [head]
  exact if_pos ⟨qual, late⟩

/-- The state with sample `(q, t)` counted and kept, before the loop hears of it. -/
def sampleKept (q t : Nat) (s : State) : State :=
  let u := bump 18 4 s
  { u with phs := { u.phs with msg := ((t, q, u.clk) :: u.phs.msg).take 2 } }

theorem sampleKept_spec (q t : Nat) (s : State) :
    (sampleKept q t s).phs.msg.head? = some (t, q, s.clk) ∧ ctr (sampleKept q t s) 18 4 = (ctr s 18 4 + 1) % 2 ^ 64 :=
  ⟨rfl, ctr_bumpN_same 18 4 1 s⟩

theorem refs_setQual (i : Nat) (b : Bool) (s : State) : RefsKept s (setQual i b s) := .rput _ _ _

/-- A sample whose time is not past, and that no source in use judges, is kept and counted (R442). -/
theorem msgSample_kept {q t : Nat} {s : State} (past : t ≤ s.tim.t) (soon : s.tim.t ≤ t + 100000000 * timeUnit)
    (other : srcUsed s ≠ some 2) : RefsKept (sampleKept q t s) (msgSample q t s) := by
  unfold msgSample
  extract_lets now p e u prev _ v far
  rw [if_neg (by omega), if_neg (fun h => other h.1)]
  have kept : RefsKept (sampleKept q t s) v := .refl v
  clear_value v prev
  have alone : RefsKept v (chooseSource (noteError 2 e v)) := (refs_noteError _ _ _).trans (refs_chooseSource _)
  split
  · exact kept.trans alone
  · extract_lets dt dq ok w
    have hw : RefsKept v w := refs_setQual _ _ _
    clear_value ok w
    split
    · exact (kept.trans hw).trans (refs_phaseSample _ _ _ _ _ _)
    · exact (kept.trans hw).trans ((refs_noteError _ _ _).trans (refs_chooseSource _))

/-! ### The obligation -/

/-- Settles O31: the edges of a mains input, its loss, and the samples of messages and their loss. -/
theorem phaseReferencesAreFollowed : Obligations.PhaseReferencesAreFollowed := by
  unfold Obligations.PhaseReferencesAreFollowed
  refine ⟨?_, ?_, ?_, ?_, ?_, ?_⟩
  · rintro dt x low high s u hx ⟨free, rfl⟩ running stood other
    obtain ⟨t, run, st⟩ := timed_settles (c := .mainsEdge dt x ⟨low, high⟩)
      (f := fun s => if deglitched s low high then withValid (mainsEdge x) s else s) rfl (decide_eq_true hx) ⟨free, rfl⟩
    rw [if_pos stood] at st
    obtain ⟨last, counts⟩ := mainsEdge_other hx running other
    have kept := (refs_withValid (mainsEdge x) _).trans (refs_settled st)
    exact ⟨t, run, by rw [kept.mainsIn, last], by rw [kept.ctrs _ (by omega), counts]⟩
  · rintro dt x low high s u hx ⟨free, rfl⟩ bounced
    obtain ⟨t, run, st⟩ := timed_settles (c := .mainsEdge dt x ⟨low, high⟩)
      (f := fun s => if deglitched s low high then withValid (mainsEdge x) s else s) rfl (decide_eq_true hx) ⟨free, rfl⟩
    rw [if_neg (by simp [bounced])] at st
    exact ⟨t, run, st.phs, (refs_settled st).ctrs _ (by omega)⟩
  · rintro dt x low high s u hx ⟨free, rfl⟩ running stood used locked far
    obtain ⟨t, run, st⟩ := timed_settles (c := .mainsEdge dt x ⟨low, high⟩)
      (f := fun s => if deglitched s low high then withValid (mainsEdge x) s else s) rfl (decide_eq_true hx) ⟨free, rfl⟩
    generalize passTime dt s = u at *
    have phs : (mainsEdge x u).phs = u.phs := by
      rw [mainsEdge_outlier running used locked far, bump, bumpN_phs, bump, bumpN_phs]
    have same : withValid (mainsEdge x) u = mainsEdge x u := by
      unfold withValid
      dsimp only
      rw [phs, if_neg (fun h => h.2 h.1)]
    rw [if_pos stood, same] at st
    have kept := refs_settled st
    refine ⟨t, run, st.phs.trans phs, ?_, ?_⟩
    · rw [kept.ctrs _ (by omega), mainsEdge_outlier running used locked far, bump, ctr_bumpN_ne _ _ (by omega), bump, ctr_bumpN_same]
    · rw [kept.ctrs _ (by omega), mainsEdge_outlier running used locked far, bump, ctr_bumpN_same, bump, ctr_bumpN_ne _ _ (by omega)]
  · rintro dt x l p s u hx ⟨free, rfl⟩ last period late
    obtain ⟨t, run, st⟩ := timed_settles (c := .mainsLossTimeout dt x) (f := withValid (mainsLoss x)) rfl (decide_eq_true hx) ⟨free, rfl⟩
    generalize passTime dt s = u at *
    have waits := same_withValid (mainsLoss x) u
    have lost := same_mainsLoss x u
    have quals := (qual_withValid (mainsLoss x) u).trans (qual_settled st)
    have refs := (refs_withValid (mainsLoss x) u).trans (refs_settled st)
    rw [mainsLoss_due last period late] at quals refs
    refine ⟨t, run, ?_, ?_, ?_, ?_⟩
    · rw [((qual_chooseSource _).trans quals).srcQual (by omega), srcQual_setQual _ _ _ (by omega)]
    · rw [((refs_chooseSource _).trans refs).mainsIn, mainsIn_setQual, mainsIn_setMains]
    · exact st.dp.trans ((lost.part .dp (by decide)).trans (waits.part .dp (by decide)))
    · exact st.tab.trans ((lost.part .tab (by decide)).trans (waits.part .tab (by decide)))
  · rintro v m s ready go running own rfl past soon other
    obtain ⟨t, run, st⟩ := hostCmd_settles (c := .phsMsgPost v) (f := msgPost v.toNat) rfl rfl ready
    unfold msgPost at st
    dsimp only at st
    rw [if_neg (by simp [go, running]), if_neg (by simp [own])] at st
    have kept := (msgSample_kept (q := instantAt s A.PHS_MSG_CYCLE_HI) past soon other).trans ((refs_withValid _ s).trans (refs_settled st))
    obtain ⟨head, counts⟩ := sampleKept_spec (instantAt s A.PHS_MSG_CYCLE_HI)
      (((rget s A.PHS_MSG_SEC_HI % 65536) * 2 ^ 32 + rget s A.PHS_MSG_SEC_LO) * secUnits + rget s A.PHS_MSG_NS % 2 ^ 30 * timeUnit) s
    exact ⟨t, run, by rw [kept.msg, head], by rw [kept.ctrs _ (by decide), counts]⟩
  · rintro dt a b c s u ⟨free, rfl⟩ head qual late
    obtain ⟨t, run, st⟩ := timed_settles (c := .msgLossTimeout dt) (f := withValid msgLoss) rfl rfl ⟨free, rfl⟩
    generalize passTime dt s = u at *
    have waits := same_withValid msgLoss u
    have lost := same_msgLoss u
    have quals := (qual_withValid msgLoss u).trans (qual_settled st)
    have refs := (refs_withValid msgLoss u).trans (refs_settled st)
    rw [msgLoss_due head qual late] at quals refs
    refine ⟨t, run, ?_, ?_, ?_, ?_⟩
    · exact ((refs_setQual 2 false u).trans ((refs_chooseSource _).trans refs)).msg
    · rw [((qual_chooseSource _).trans quals).srcQual (by decide), srcQual_setQual _ _ _ (by decide)]
    · exact st.dp.trans ((lost.part .dp (by decide)).trans (waits.part .dp (by decide)))
    · exact st.tab.trans ((lost.part .tab (by decide)).trans (waits.part .tab (by decide)))

end Machine
end Sys2Proof
end

section
/-! PROOF. Proofs/PhaseCommands.lean: the phase clock's commands and its wrap (O32). -/
namespace Sys2Proof
namespace Machine

/-! ### What the choice of a source leaves of the clock -/

theorem rget_withPhs (s : State) (p : Phs) (r : Nat) : rget { s with phs := p } r = rget s r := rfl

/-- From `s` to `t` the phase clock's instant, its wraps and what waits for one stay. -/
structure InstantKept (s t : State) : Prop where
  acc : t.phs.acc = s.phs.acc
  wrapCycle : t.phs.wrapCycle = s.phs.wrapCycle
  wrapClk : t.phs.wrapClk = s.phs.wrapClk
  setPending : t.phs.setPending = s.phs.setPending
  realignPending : t.phs.realignPending = s.phs.realignPending

namespace InstantKept
variable {s t u : State}

theorem of_phs (h : t.phs = s.phs) : InstantKept s t := ⟨by rw [h], by rw [h], by rw [h], by rw [h], by rw [h]⟩

theorem trans (h : InstantKept s t) (k : InstantKept t u) : InstantKept s u :=
  ⟨k.acc.trans h.acc, k.wrapCycle.trans h.wrapCycle, k.wrapClk.trans h.wrapClk, k.setPending.trans h.setPending,
    k.realignPending.trans h.realignPending⟩

theorem clock {p : Phs} (a : p.acc = s.phs.acc) (b : p.wrapCycle = s.phs.wrapCycle) (c : p.wrapClk = s.phs.wrapClk)
    (d : p.setPending = s.phs.setPending) (e : p.realignPending = s.phs.realignPending) : InstantKept s { s with phs := p } := ⟨a, b, c, d, e⟩

end InstantKept

theorem setRate_instant (n : Nat) (s : State) : InstantKept s (setRate n s) := by
  have rated (k : Nat) : InstantKept s { s with phs := { s.phs with rate := k } } := .clock rfl rfl rfl rfl rfl
  have noted (x : State) : InstantKept x (pushHist x) := by
    unfold pushHist
    exact .clock rfl rfl rfl rfl rfl
  unfold setRate
  exact (rated _).trans (noted _)

theorem told_phs (c w x y a i : Nat) (s : State) : (raise c w x y (setInt a i s)).phs = s.phs := by rw [raise_phs, setInt_phs]

theorem rget_told {r a : Nat} (c w x y i : Nat) (s : State) (int : a ≠ r) (gbk : r ≠ A.GBK_INT_STAT) :
    rget (raise c w x y (setInt a i s)) r = rget s r := by
  rw [rget_raise _ _ _ _ _ gbk, rget_setInt_ne _ _ int]

theorem setFar_instant (i : Nat) (b : Bool) (s : State) : InstantKept s (setFar i b s) := .of_phs (rput_phs _ _ _)

theorem qual_setFar {i : Nat} (b : Bool) (s : State) (h : i < 4) : QualKept s (setFar i b s) :=
  qual_fput (f := ⟨A.PHS_STATUS, 12 + i, 1⟩) (b2n b) s (Or.inr (Or.inl ⟨Nat.le_add_right 12 i, show 12 + i ≤ 32 by omega⟩))

/-- What holds of a state and survives each thing that noting an error does holds when it is noted. -/
theorem noteError_induct {P : State → Prop} (i : Nat) (e : Int) (s : State) (errs : ∀ l, P { s with phs := { s.phs with errs := l } })
    (far : ∀ b x, P x → P (setFar i b x)) (told : ∀ c w a b j x, P x → P (raise c w a b (setInt A.PHS_INT_STAT j x))) :
    P (noteError i e s) := by
  unfold noteError
  extract_lets _ u isFar v
  have hu : P u := errs _
  clear_value u
  have hv : P v := far _ _ hu
  clear_value v
  split
  · exact hu
  · split
    · exact told _ _ _ _ _ _ hv
    · exact hv

/-- Registers that neither the choice of a source nor an error noted writes. -/
structure OffStatus (r : Nat) : Prop where
  status : A.PHS_STATUS ≠ r
  int : A.PHS_INT_STAT ≠ r
  gbk : r ≠ A.GBK_INT_STAT

theorem noteError_instant (i : Nat) (e : Int) (s : State) : InstantKept s (noteError i e s) :=
  noteError_induct i e s (fun _ => ⟨rfl, rfl, rfl, rfl, rfl⟩) (fun b x h => h.trans (setFar_instant i b x))
    (fun _ _ _ _ _ _ h => h.trans (.of_phs (told_phs _ _ _ _ _ _ _)))

theorem noteError_qual {i : Nat} (e : Int) (s : State) (hi : i < 4) : QualKept s (noteError i e s) :=
  noteError_induct i e s (fun _ => .of_regs rfl) (fun b x h => h.trans (qual_setFar b x hi))
    (fun _ _ _ _ _ _ h => h.trans (qual_event _ _ _ _ _ _ (by decide)))

theorem rget_noteError {r : Nat} (i : Nat) (e : Int) (s : State) (off : OffStatus r) : rget (noteError i e s) r = rget s r :=
  noteError_induct (P := fun t => rget t r = rget s r) i e s (fun _ => rget_withPhs s _ r)
    (fun _ _ h => (rget_rput_ne _ _ off.status).trans h) (fun _ _ _ _ _ _ h => (rget_told _ _ _ _ _ _ off.int off.gbk).trans h)

/-- What holds of a state and survives each thing that the choice of a source does holds when it is chosen. -/
theorem chooseSource_induct {P : State → Prop} (s : State) (base : P s) (phs : ∀ (x : State) l b, P x → P { x with phs := { x.phs with recent := l, lost := b } })
    (status : ∀ f v x, f ∈ [F.PHS_STATUS_LOCKED, F.PHS_STATUS_SLEWING, F.PHS_STATUS_NONE, F.PHS_STATUS_SRC_USED] → P x → P (fput f v x))
    (rate : ∀ n x, P x → P (setRate n x)) (count : ∀ x, P x → P (bump 18 7 x)) (int : ∀ j x, P x → P (setInt A.PHS_INT_STAT j x))
    (told : ∀ c w a b x, P x → P (raise c w a b x)) : P (chooseSource s) := by
  unfold chooseSource
  extract_lets +onlyGivenNames -merge -underBinder old new clock u
  have hu : P u := status _ _ _ (by simp) (status _ _ _ (by simp) (phs s [] s.phs.lost base))
  clear_value old new clock u
  split
  · exact base
  · split
    · extract_lets +onlyGivenNames -merge -underBinder v slow w e
      have hv : P v := status _ _ _ (by simp) hu
      clear_value v
      have hw : P w := rate _ _ (phs v v.phs.recent true hv)
      clear_value slow w e
      split
      · exact told _ _ _ _ _ (count _ (int _ _ hw))
      · exact hv
    · extract_lets +onlyGivenNames -merge -underBinder v
      have hv : P v := status _ _ _ (by simp) (status _ _ _ (by simp) hu)
      clear_value v
      split
      · exact told _ _ _ _ _ (int _ _ hv)
      · split
        · exact told _ _ _ _ _ (int _ _ (phs v v.phs.recent false hv))
        · exact hv

theorem chooseSource_instant (s : State) : InstantKept s (chooseSource s) :=
  chooseSource_induct s (.of_phs rfl) (fun _ _ _ h => h.trans ⟨rfl, rfl, rfl, rfl, rfl⟩) (fun _ _ _ _ h => h.trans (.of_phs (fput_phs _ _ _)))
    (fun _ _ h => h.trans (setRate_instant _ _)) (fun _ h => h.trans (.of_phs (bumpN_phs _ _ _ _)))
    (fun _ _ h => h.trans (.of_phs (setInt_phs _ _ _))) (fun _ _ _ _ _ h => h.trans (.of_phs (raise_phs _ _ _ _ _)))

theorem rget_chooseSource {r : Nat} (s : State) (off : OffStatus r) : rget (chooseSource s) r = rget s r := by
  refine chooseSource_induct (P := fun t => rget t r = rget s r) s rfl (fun x l b h => ?_) (fun f v x mem h => ?_) (fun n x h => ?_)
    (fun x h => ?_) (fun j x h => ?_) (fun c w a b x h => ?_)
  · rw [rget_withPhs, h]
  · have addr : f.addr ≠ r := by
      simp only [List.mem_cons, List.not_mem_nil, or_false] at mem
      obtain rfl | rfl | rfl | rfl := mem <;> exact off.status
    rw [rget_fput_ne _ _ addr, h]
  · rw [rget_congr (regs_of_same (same_setRate _ _) (by decide)) r, h]
  · rw [bump, rget_congr (bumpN_regs 18 7 1 x) r, h]
  · rw [rget_setInt_ne _ _ off.int, h]
  · rw [rget_raise _ _ _ _ _ off.gbk, h]

/-! ### The source in use (R445) -/

theorem srcUsed_congr {s t : State} (h : rget t A.PHS_STATUS = rget s A.PHS_STATUS) : srcUsed t = srcUsed s := by
  unfold srcUsed fbit
  rw [fget_congr (f := F.PHS_STATUS_NONE) h, fget_congr (f := F.PHS_STATUS_SRC_USED) h]

theorem srcUsed_none (s : State) : srcUsed (fput F.PHS_STATUS_NONE 1 s) = none := by
  unfold srcUsed fbit
  rw [fget_fput_same _ _ _ (by decide)]
  rfl

theorem srcUsed_some {i : Nat} (s : State) (h : i < 4) : srcUsed (fput F.PHS_STATUS_SRC_USED i (fput F.PHS_STATUS_NONE 0 s)) = some i := by
  unfold srcUsed fbit
  rw [fget_fput_apart _ _ (by decide), fget_fput_same _ _ _ (by decide), if_neg (by decide), fget_fput_same _ _ _ (by decide)]
  exact congrArg some (Nat.mod_eq_of_lt h)

theorem srcChoice_spec {s : State} {i : Nat} (h : srcChoice s = some i) : srcQual s i = true ∧ i < 4 := by
  have field (f : Fld) (w : f.width = 2) : fget s f < 4 := by
    unfold fget bits
    rw [w]
    exact Nat.mod_lt _ (by decide)
  unfold srcChoice at h
  dsimp only at h
  split at h
  next ok =>
    obtain rfl := Option.some.inj h
    exact ⟨(Bool.and_eq_true_iff.mp ok).1, field _ rfl⟩
  next =>
    split at h
    next ok =>
      obtain rfl := Option.some.inj h
      exact ⟨(Bool.and_eq_true_iff.mp (Bool.and_eq_true_iff.mp ok).2).1, field _ rfl⟩
    next => exact absurd h (by simp)

/-- The source in use is the one that was chosen. -/
theorem srcUsed_chooseSource (s : State) : srcUsed (chooseSource s) = srcChoice s := by
  unfold chooseSource
  extract_lets +onlyGivenNames -merge -underBinder old new clock u
  split
  next same => exact same.symm
  next =>
    have chosen : new = srcChoice s := rfl
    clear_value old new clock u
    rw [← chosen]
    split
    next =>
      extract_lets +onlyGivenNames -merge -underBinder v slow w e
      have hv : srcUsed v = none := srcUsed_none u
      have hw : rget w A.PHS_STATUS = rget v A.PHS_STATUS := by
        unfold w
        rw [rget_congr (regs_of_same (same_setRate _ _) (by decide)), rget_withPhs]
      clear_value v slow w e
      split
      · rw [srcUsed_congr (s := v), hv]
        rw [rget_raise _ _ _ _ _ (by decide), bump, rget_congr (bumpN_regs 18 7 1 _), rget_setInt_ne _ _ (by decide), hw]
      · exact hv
    next i _ =>
      extract_lets +onlyGivenNames -merge -underBinder v
      have hv : srcUsed v = some i := srcUsed_some u (srcChoice_spec chosen.symm).2
      have told (c a b x j : Nat) (z : State) : srcUsed (raise c a b x (setInt A.PHS_INT_STAT j z)) = srcUsed z :=
        srcUsed_congr (rget_told _ _ _ _ _ _ (by decide) (by decide))
      clear_value v
      split
      · rw [told, hv]
      · split
        · rw [told, srcUsed_congr (rget_withPhs v _ _), hv]
        · exact hv

/-! ### NOMINAL that is not qualified (R444) -/

theorem realignTarget_qual {s : State} {i : Nat} (h : realignTarget s = some i) : srcQual s i = true := by
  unfold realignTarget at h
  dsimp only at h
  split at h
  next ok =>
    obtain rfl := Option.some.inj h
    exact ok
  next =>
    split at h
    next ok =>
      obtain rfl := Option.some.inj h
      exact (Bool.and_eq_true_iff.mp ok).2
    next => exact absurd h (by simp)

/-- A sample of a source that is not qualified is noted, and the clock goes on. -/
theorem phaseSample_unqualified {i : Nat} (e : Int) (q num den : Nat) {s : State} (hi : i < 4) (off : srcQual s i = false) :
    phaseSample i e q num den s = chooseSource (noteError i e s) := by
  have still : srcQual (noteError i e s) i = false := ((noteError_qual e s hi).srcQual hi).trans off
  have other (h : srcQual (noteError i e s) i = true) : False := by
    rw [still] at h
    exact absurd h (by decide)
  unfold phaseSample
  dsimp only
  rw [if_neg (fun h => other (realignTarget_qual h.2)),
    if_neg (fun h => other (srcChoice_spec ((srcUsed_chooseSource _).symm.trans h)).1)]

theorem nominalSample_instant {s : State} (off : srcQual s 3 = false) : InstantKept s (nominalSample s) := by
  unfold nominalSample
  dsimp only
  rw [phaseSample_unqualified _ _ _ _ (by decide) off]
  exact (noteError_instant _ _ _).trans (chooseSource_instant _)

theorem rget_nominalSample {s : State} {r : Nat} (off : srcQual s 3 = false) (beside : OffStatus r) :
    rget (nominalSample s) r = rget s r := by
  unfold nominalSample
  dsimp only
  rw [phaseSample_unqualified _ _ _ _ (by decide) off, rget_chooseSource _ beside, rget_noteError _ _ _ beside]

/-! ### The wrap (R434, R455) -/

/-- The clock at its wrap, which is noted. -/
def wrapNoted (s : State) : State :=
  let u := rput A.PHS_PERIOD_NS (min ((s.clk - s.phs.wrapClk) * 5 / 7) (2 ^ 32 - 1)) s
  { u with phs := { u.phs with wrapCycle := phaseInstant s / 2 ^ 24, wrapClk := u.clk } }

theorem phaseWrap_eq {s : State} (running : s.phs.running = true) (wraps : phaseInstant s / 2 ^ 24 ≠ s.phs.wrapCycle) :
    phaseWrap s = nominalSample (applySetCycle (wrapNoted s)) := by
  unfold phaseWrap
  dsimp only
  rw [if_neg (fun h => h.elim wraps (fun off => off running))]
  rfl

theorem rget_wrapNoted {s : State} {r : Nat} (h : A.PHS_PERIOD_NS ≠ r) : rget (wrapNoted s) r = rget s r := by
  unfold wrapNoted
  dsimp only
  rw [rget_withPhs, rget_rput_ne _ _ h]

theorem rget_applySetCycle {s : State} {r : Nat} (h : A.PHS_CMD_STATUS ≠ r) (gbk : r ≠ A.GBK_INT_STAT) :
    rget (applySetCycle s) r = rget s r := by
  have moved (a b : Nat) (x : State) : rget (shiftStarts a b x) r = rget x r := rget_congr rfl r
  unfold applySetCycle
  split
  · dsimp only
    rw [rget_raise _ _ _ _ _ gbk, rget_fput_ne _ _ h, moved, rget_withPhs]
  · rfl

/-- A SET_CYCLE that waits gives the clock its cycle; without one the clock goes on (R455). -/
theorem applySetCycle_phs (s : State) :
    (applySetCycle s).phs = if s.phs.setPending = true then
      { s.phs with
        acc := ((rget s A.PHS_SET_CYCLE_HI % 256) * 2 ^ 32 + rget s A.PHS_SET_CYCLE_LO) * 2 ^ 72 + s.phs.acc % 2 ^ 72
        wrapCycle := (rget s A.PHS_SET_CYCLE_HI % 256) * 2 ^ 32 + rget s A.PHS_SET_CYCLE_LO, setPending := false }
      else s.phs := by
  unfold applySetCycle
  split
  · dsimp only
    rw [raise_phs, fput_phs]
    rfl
  · rfl

/-! ### The instant latched (R493) -/

theorem instant_split (x : Nat) : x / 2 ^ 56 % 256 * 2 ^ 56 + x / 2 ^ 24 % 2 ^ 32 * 2 ^ 24 + x % 2 ^ 24 = x % 2 ^ 64 := by omega

theorem instantAt_latchPhaseOp (s : State) : instantAt (latchPhaseOp s) A.PHS_LAT_CYCLE_HI = phaseInstant s % 2 ^ 64 := by
  have kept (r : Nat) (h : r < A.PHS_LAT_SEC_HI) (c : A.PHS_CMD_STATUS ≠ r) :
      rget (latchPhaseOp s) r = rget (latchInstant A.PHS_LAT_CYCLE_HI (phaseInstant s) s) r := by
    unfold latchPhaseOp latchTime
    rw [rget_fput_ne _ _ c, rget_rput_ne _ _ (by omega), rget_rput_ne _ _ (by omega), rget_rput_ne _ _ (by omega), rget_rput_ne _ _ (by omega)]
  unfold instantAt
  rw [kept _ (by decide) (by decide), kept _ (by decide) (by decide), kept _ (by decide) (by decide)]
  unfold latchInstant
  generalize phaseInstant s = x
  rw [rget_rput_same, rget_rput_ne (b := A.PHS_LAT_CYCLE_HI + 4) _ _ (by decide), rget_rput_same,
    rget_rput_ne (b := A.PHS_LAT_CYCLE_HI) _ _ (by decide), rget_rput_ne (b := A.PHS_LAT_CYCLE_HI) _ _ (by decide), rget_rput_same,
    ← instant_split x]
  omega

/-! ### The obligation -/

/-- Settles O32: the commands (`instantAt_latchPhaseOp`), and the wrap (`phaseWrap_eq`, `applySetCycle_phs`). -/
theorem phaseCommandsAndTheWrap : Obligations.PhaseCommandsAndTheWrap := by
  unfold Obligations.PhaseCommandsAndTheWrap
  refine ⟨?_, ?_, ?_, ?_⟩
  · rintro s ready
    obtain ⟨t, run, st⟩ := hostCmd_settles (c := .latchPhase) (f := latchPhaseOp) rfl rfl ready
    have frame := same_latchPhaseOp s
    refine ⟨t, run, ?_, ?_, st.phs.trans (frame.part .phs (by decide)), st.tim.trans (frame.part .tim (by decide)),
      st.dp.trans (frame.part .dp (by decide))⟩
    · rw [← instantAt_latchPhaseOp]
      unfold instantAt
      rw [st.reg _ (by decide), st.reg _ (by decide), st.reg _ (by decide)]
    · rw [st.fget (by decide), latchPhaseOp, fget_fput_same _ _ _ (by decide)]
      rfl
  · rintro s ready idle plain
    obtain ⟨t, run, st⟩ := hostCmd_settles (c := .setCycle) (f := setCycleOp) rfl rfl ready
    rw [setCycleOp, if_neg (by simp [idle, plain])] at st
    refine ⟨t, run, ?_, ?_, ?_⟩
    · rw [st.phs, fput_phs, fput_phs]
    · rw [st.fget (by decide), fget_fput_apart _ _ (by decide), fget_fput_same _ _ _ (by decide)]
      rfl
    · rw [st.fget (by decide), fget_fput_same _ _ _ (by decide)]
      rfl
  · rintro s ready source
    obtain ⟨t, run, st⟩ := hostCmd_settles (c := .realign) (f := realignOp) rfl rfl ready
    rw [realignOp, if_neg (by rw [← Option.not_isSome, source]; decide)] at st
    refine ⟨t, run, ?_, ?_, ?_⟩
    · rw [st.phs, fput_phs, fput_phs]
    · rw [st.fget (by decide), fget_fput_apart _ _ (by decide), fget_fput_same _ _ _ (by decide)]
      rfl
    · rw [st.fget (by decide), fget_fput_same _ _ _ (by decide)]
      rfl
  · rintro dt s u ⟨free, rfl⟩ running wraps off
    obtain ⟨t, run, st⟩ := timed_settles (c := .phaseWrap dt) (f := withValid phaseWrap) rfl rfl ⟨free, rfl⟩
    generalize passTime dt s = u at *
    have still : srcQual (applySetCycle (wrapNoted u)) 3 = false := by
      unfold srcQual at off ⊢
      rw [rget_applySetCycle (by decide) (by decide), rget_wrapNoted (by decide)]
      exact off
    have wrapped := phaseWrap_eq running wraps
    have period : rget t A.PHS_PERIOD_NS = min ((u.clk - u.phs.wrapClk) * 5 / 7) (2 ^ 32 - 1) := by
      rw [st.reg _ (by decide), rget_withValid _ _ (by decide) (by decide), wrapped,
        rget_nominalSample still ⟨by decide, by decide, by decide⟩, rget_applySetCycle (by decide) (by decide), wrapNoted]
      dsimp only
      rw [rget_withPhs, rget_rput_same]
      exact Nat.mod_eq_of_lt (Nat.lt_of_le_of_lt (Nat.min_le_right _ _) (by decide))
    have kept : InstantKept (applySetCycle (wrapNoted u)) t := by
      refine (nominalSample_instant still).trans (.of_phs ?_)
      rw [st.phs, ← wrapped]
      exact (same_withValid phaseWrap u).part .phs (by decide)
    have applied := applySetCycle_phs (wrapNoted u)
    have fields : (wrapNoted u).phs = { u.phs with wrapCycle := phaseInstant u / 2 ^ 24, wrapClk := u.clk } := rfl
    rw [rget_wrapNoted (by decide), rget_wrapNoted (by decide), fields] at applied
    refine ⟨t, run, period, ?_, ?_, ?_⟩
    · rw [kept.wrapClk, applied]
      split <;> rfl
    · rw [kept.setPending, applied]
      split
      next => rfl
      next clear => exact Bool.eq_false_iff.mpr clear
    · rw [kept.acc, kept.wrapCycle, applied]
      split
      · rfl
      · exact ⟨rfl, rfl⟩

end Machine
end Sys2Proof
end

section
/-! PROOF. Proofs/TimedActions.lean: timed actions that are armed and that fire (O33). -/
namespace Sys2Proof
namespace Machine

/-! ### Fields of a masked value -/

theorem bits_and (a b lo w : Nat) : bits (a &&& b) lo w = bits a lo w &&& bits b lo w := by
  unfold bits
  rw [Nat.shiftRight_and_distrib, Nat.and_mod_two_pow]

/-- A field that the mask holds whole keeps its value. -/
theorem bits_and_whole {a b lo w : Nat} (h : bits b lo w = 2 ^ w - 1) : bits (a &&& b) lo w = bits a lo w := by
  rw [bits_and, h, Nat.and_two_pow_sub_one_of_lt_two_pow]
  exact Nat.mod_lt _ (Nat.two_pow_pos w)

/-! ### Arming (R482) -/

/-- Slot `k` with the control word written, before it is armed. -/
def taWritten (k v : Nat) (s : State) : State := taForget k (rput (A.PHS_TA_CTL k) (v &&& 0x43FFFC0F) s)

theorem ctl_not_mem_instantRegs (k : Nat) : ∀ r ∈ instantRegs k, A.PHS_TA_CTL k ≠ r := by
  intro r hr
  simp only [instantRegs, A.PHS_TA_CYCLE_HI, List.mem_cons, List.not_mem_nil, or_false] at hr
  unfold A.PHS_TA_CTL
  omega

theorem rget_taForget (k : Nat) (s : State) (r : Nat) : rget (taForget k s) r = rget s r := rfl

theorem taInstant_taWritten (k v : Nat) (s : State) : taInstant (taWritten k v s) k = taInstant s k :=
  taInstant_congr (fun r hr => (rget_taForget _ _ r).trans (rget_rput_ne _ _ (ctl_not_mem_instantRegs k r hr)))

theorem ctl_taWritten (k v : Nat) (s : State) : rget (taWritten k v s) (A.PHS_TA_CTL k) = (v &&& 0x43FFFC0F) % 2 ^ 32 :=
  (rget_taForget _ _ _).trans (rget_rput_same _ _ _)

theorem phs_taWritten (k v : Nat) (s : State) :
    (taWritten k v s).phs = { s.phs with taNow := s.phs.taNow.filter (fun e => e.1 != k) } := by
  have kept : (rput (A.PHS_TA_CTL k) (v &&& 0x43FFFC0F) s).phs = s.phs := rput_phs _ _ _
  unfold taWritten taForget
  dsimp only
  rw [kept]

/-- A control word that arms a slot whose instant is not past sets ARM and no more; one that does not arm leaves it clear. -/
theorem writeTaCtl_eq {k v : Nat} {s : State} (ahead : bitAt v 31 = true → s.phs.valid = true → phaseInstant s ≤ taInstant s k) :
    writeTaCtl k v s = if bitAt v 31 then fput (F.PHS_TA_CTL_ARM k) 1 (taWritten k v s) else taWritten k v s := by
  unfold writeTaCtl
  change (if bitAt v 31 = true then taArm k (taWritten k v s) else taWritten k v s) = _
  split
  next arms =>
    have phs : (fput (F.PHS_TA_CTL_ARM k) 1 (taWritten k v s)).phs = { s.phs with taNow := s.phs.taNow.filter (fun e => e.1 != k) } :=
      (fput_phs _ _ _).trans (phs_taWritten _ _ _)
    have instant : taInstant (fput (F.PHS_TA_CTL_ARM k) 1 (taWritten k v s)) k = taInstant s k :=
      (taInstant_congr (fun r hr => rget_fput_ne _ _ (ctl_not_mem_instantRegs k r hr))).trans (taInstant_taWritten k v s)
    have now : phaseInstant (fput (F.PHS_TA_CTL_ARM k) 1 (taWritten k v s)) = phaseInstant s := by
      unfold phaseInstant
      rw [phs]
    unfold taArm
    dsimp only
    rw [if_neg]
    rw [phs, instant, now]
    exact fun late => absurd (ahead arms late.1) (by omega)
  next => rfl

theorem armField_apart (k : Nat) {f : Fld} (h : f.lo + f.width ≤ 31) : Apart (F.PHS_TA_CTL_ARM k) f :=
  Or.inr (Or.inl ⟨h, show 31 ≤ 32 by decide⟩)

theorem fget_writeTaCtl {k v : Nat} {s : State} {f : Fld} (ahead : bitAt v 31 = true → s.phs.valid = true → phaseInstant s ≤ taInstant s k)
    (a : f.addr = A.PHS_TA_CTL k) (h : f.lo + f.width ≤ 31) (whole : bits 0x43FFFC0F f.lo f.width = 2 ^ f.width - 1) :
    fget (writeTaCtl k v s) f = bits v f.lo f.width := by
  have written : fget (taWritten k v s) f = bits v f.lo f.width := by
    unfold fget
    rw [a, ctl_taWritten, bits_mod _ _ _ (by omega), bits_and_whole whole]
  rw [writeTaCtl_eq ahead]
  split
  · rw [fget_fput_apart _ _ (armField_apart k h), written]
  · exact written

theorem taArmed_writeTaCtl {k v : Nat} {s : State} (ahead : bitAt v 31 = true → s.phs.valid = true → phaseInstant s ≤ taInstant s k) :
    taArmed (writeTaCtl k v s) k = bitAt v 31 := by
  rw [writeTaCtl_eq ahead]
  unfold taArmed fbit
  split
  next arms =>
    rw [fget_fput_same _ _ _ (show 31 + 1 ≤ 32 by decide), arms]
    rfl
  next idle =>
    have clear : fget (taWritten k v s) (F.PHS_TA_CTL_ARM k) = 0 := by
      unfold fget
      rw [show rget (taWritten k v s) (F.PHS_TA_CTL_ARM k).addr = (v &&& 0x43FFFC0F) % 2 ^ 32 from ctl_taWritten k v s]
      change bits ((v &&& 0x43FFFC0F) % 2 ^ 32) 31 1 = 0
      rw [bits_mod _ _ _ (by decide), bits_and]
      exact Nat.and_zero _
    rw [clear, Bool.eq_false_iff.mpr idle]
    rfl

/-! ### Firing (R484) -/

theorem fired_taAction (k : Nat) (s : State) : rget (taAction k s) A.PHS_TA_FIRED = rget s A.PHS_TA_FIRED := by
  unfold taAction
  dsimp only
  split
  · exact rget_takeSnapshot _ _ _ (by decide)
  · split
    · exact rget_gpioPulse _ _ _ _ _
    · split
      · exact rget_raise _ _ _ _ _ (by decide)
      · split
        · exact rget_setInt_ne _ _ (by decide)
        · rfl

theorem fired_ne_status (k : Nat) : A.PHS_TA_STATUS k ≠ A.PHS_TA_FIRED := by
  unfold A.PHS_TA_STATUS A.PHS_TA_FIRED
  omega

theorem fired_taActed_bit {k : Nat} (s : State) (hk : k < 32) : bitAt (rget (taActed k s) A.PHS_TA_FIRED) k = true := by
  unfold taActed
  rw [rget_taForget, fired_taAction, rget_forBits_ne _ _ (fired_ne_status k)]
  exact testBit_forBits A.PHS_TA_FIRED k s hk

theorem taNow_taActed (k : Nat) (s : State) : (taActed k s).phs.taNow = s.phs.taNow.filter (fun e => e.1 != k) := by
  have acts : ∀ u, (taAction k u).phs = u.phs := fun u => (same_taAction k u).part .phs (by decide)
  unfold taActed taForget
  dsimp only
  rw [acts, forBits_phs, forBits_phs]

/-! ### The obligation -/

/-- Settles O33: a slot's control word (`writeTaCtl_eq`), its firing (`taFire_of_repeat_zero`), and the end of a pulse. -/
theorem timedActionsArmAndFire : Obligations.TimedActionsArmAndFire := by
  unfold Obligations.TimedActionsArmAndFire
  refine ⟨?_, ?_, ?_⟩
  · rintro k v s hk ready own ahead
    obtain ⟨t, run, st⟩ := hostCmd_settles (c := .timedActionArm k v)
      (f := fun s => if fabricSlot s k then lockedWrite (A.PHS_TA_CTL k) s else writeTaCtl k v.toNat s) rfl (decide_eq_true hk) ready
    rw [if_neg (by simp [own])] at st
    have outside := (taReg_ctl hk).not_mem_settleRegs
    refine ⟨t, run, ?_, ?_, ?_, ?_, st.dp.trans ((same_writeTaCtl _ _ _).part .dp (by decide))⟩
    · rw [taArmed_settledFrom hk st, taArmed_writeTaCtl ahead]
    · exact (st.fget outside).trans (fget_writeTaCtl ahead rfl (show 0 + 4 ≤ 31 by decide)
        (show bits 0x43FFFC0F 0 4 = 2 ^ 4 - 1 by decide))
    · exact (st.fget outside).trans (fget_writeTaCtl ahead rfl (show 10 + 16 ≤ 31 by decide)
        (show bits 0x43FFFC0F 10 16 = 2 ^ 16 - 1 by decide))
    · rw [st.phs, writeTaCtl_eq ahead]
      split
      · exact (fput_phs _ _ _).trans (phs_taWritten _ _ _)
      · exact phs_taWritten _ _ _
  · rintro dt k s u hk he due lowest once
    obtain ⟨t, run, st⟩ := settledFrom_timedActionFire hk he due lowest
    have frame := same_taFire k u
    have dp := st.dp.trans (frame.part .dp (by decide))
    have tab := st.tab.trans (frame.part .tab (by decide))
    rw [taFire_of_repeat_zero hk once] at st
    have fired : A.PHS_TA_CTL k ≠ A.PHS_TA_FIRED := by
      unfold A.PHS_TA_CTL A.PHS_TA_FIRED
      omega
    refine ⟨t, run, ?_, ?_, ?_, ?_, dp, tab⟩
    · rw [taArmed_settledFrom hk st]
      exact taArmed_disarmed _ _
    · rw [taStatus_settledFrom hk st rfl, fget_fput_ne _ _ (status_ne_ctl k).symm, fired_taActed u hk]
    · rw [st.reg _ (by decide), rget_fput_ne _ _ fired, fired_taActed_bit u hk]
    · rw [st.phs, fput_phs, taNow_taActed]
  · rintro dt pin j x s u hp ⟨free, rfl⟩ found over_
    obtain ⟨t, run, st⟩ := timed_settles (c := .gpioPulseEnd dt pin) (f := gpioPulseEnd pin) rfl (decide_eq_true hp) ⟨free, rfl⟩
    unfold gpioPulseEnd at st
    rw [found] at st
    dsimp only at st
    rw [if_pos over_] at st
    exact ⟨t, run, st.pin, st.dp, st.tab⟩

end Machine
end Sys2Proof
end

section
/-! PROOF. Proofs/Trackers.lean: the trackers of device time and CLK10M_IN (O35). -/
namespace Sys2Proof
namespace Machine

/-! ### What the servo leaves of the trackers -/

/-- From `s` to `t` device time, its trackers and the counters of their samples stay as they are. -/
structure TrackersKept (s t : State) : Prop where
  trkA : t.tim.trkA = s.tim.trkA
  trkB : t.tim.trkB = s.tim.trkB
  time : t.tim.t = s.tim.t
  stateA : fget t F.TIM_STATUS_STATE_A = fget s F.TIM_STATUS_STATE_A
  stateB : fget t F.TIM_STATUS_STATE_B = fget s F.TIM_STATUS_STATE_B
  ctrs : ∀ i, i < 2 → ctr t 19 i = ctr s 19 i

namespace TrackersKept
variable {s t u : State}

theorem refl (s : State) : TrackersKept s s := ⟨rfl, rfl, rfl, rfl, rfl, fun _ _ => rfl⟩

theorem trans (h : TrackersKept s t) (k : TrackersKept t u) : TrackersKept s u :=
  ⟨k.trkA.trans h.trkA, k.trkB.trans h.trkB, k.time.trans h.time, k.stateA.trans h.stateA, k.stateB.trans h.stateB,
    fun i hi => (k.ctrs i hi).trans (h.ctrs i hi)⟩

/-- What the servo, the bias and the measurements hold is no tracker's. -/
theorem servo {q : Tim} (a : q.trkA = s.tim.trkA) (b : q.trkB = s.tim.trkB) (n : q.t = s.tim.t) : TrackersKept s { s with tim := q } :=
  ⟨a, b, n, fget_congr (rget_congr rfl _), fget_congr (rget_congr rfl _), fun _ _ => rfl⟩

theorem of_timeKept (h : TimeKept s t) : TrackersKept s t :=
  ⟨by rw [h.tim], by rw [h.tim], by rw [h.tim], h.fget timReg_status, h.fget timReg_status, fun i hi => h.ctr i (by omega)⟩

/-- A field of the status register that is no tracker's state. -/
theorem status {f : Fld} (v : Nat) (s : State) (a : Apart f F.TIM_STATUS_STATE_A) (b : Apart f F.TIM_STATUS_STATE_B) :
    TrackersKept s (fput f v s) :=
  ⟨by rw [fput_tim], by rw [fput_tim], by rw [fput_tim], fget_fput_apart _ _ a, fget_fput_apart _ _ b,
    fun _ _ => ctr_congr (congrArg Tal.live (fput_tal _ _ _)) _ _⟩

theorem bump {i : Nat} (s : State) (h : 2 ≤ i) : TrackersKept s (bump 19 i s) :=
  ⟨by rw [Machine.bump, bumpN_tim], by rw [Machine.bump, bumpN_tim], by rw [Machine.bump, bumpN_tim],
    fget_congr (rget_congr (bumpN_regs _ _ _ _) _), fget_congr (rget_congr (bumpN_regs _ _ _ _) _), fun _ _ => ctr_bumpN_ne _ _ (by omega)⟩

theorem trk (h : TrackersKept s t) (d : Nat) : trk t d = trk s d := by
  unfold Machine.trk
  rw [h.trkA, h.trkB]

theorem trkState (h : TrackersKept s t) (d : Nat) : trkState t d = trkState s d := by
  unfold Machine.trkState
  rw [h.stateA, h.stateB]

theorem ite {c : Prop} [Decidable c] (h : c → TrackersKept s t) (k : ¬ c → TrackersKept s u) : TrackersKept s (if c then t else u) := by
  split
  next yes => exact h yes
  next no => exact k no

end TrackersKept

theorem told_timeKept (c u a b i : Nat) (s : State) : TimeKept s (raise c u a b (setInt A.TIM_INT_STAT i s)) :=
  timeKept_raise_setInt c u a b i s not_timReg_timIntStat

theorem told_trackers (c u a b i : Nat) (s : State) : TrackersKept s (raise c u a b (setInt A.TIM_INT_STAT i s)) :=
  .of_timeKept (told_timeKept c u a b i s)

theorem trackers_clearLost (s : State) : TrackersKept s (clearLost s) := by
  have found (b : Bool) : TrackersKept s { s with tim := { s.tim with lost := b } } := .servo rfl rfl rfl
  unfold clearLost
  exact .ite (fun _ => (found _).trans (told_trackers _ _ _ _ _ _)) (fun _ => .refl s)

theorem trackers_slewBias (s : State) : TrackersKept s (slewBias s) := by
  unfold slewBias
  exact .servo rfl rfl rfl

theorem trackers_pushHist (s : State) : TrackersKept s (pushHist s) := by
  unfold pushHist
  exact .of_timeKept (timeKept_phs s _)

theorem trackers_setAdj (a : Int) (s : State) : TrackersKept s (setAdj a s) := by
  have adjusted (n : Int) : TrackersKept s { s with tim := { s.tim with adj := n } } := .servo rfl rfl rfl
  unfold setAdj
  exact .ite (fun _ => .refl s) (fun _ => (adjusted a).trans (trackers_pushHist _))

theorem trackers_noteSlew (x : Int) (s : State) : TrackersKept s (noteSlew x s) := .status _ _ (by decide) (by decide)

theorem trackers_servoUpdate (e : Int) (s : State) : TrackersKept s (servoUpdate e s) := by
  have summed (n : Int) : TrackersKept s { s with tim := { s.tim with integ := n } } := .servo rfl rfl rfl
  unfold servoUpdate
  exact .ite (fun _ => (summed _).trans ((trackers_setAdj _ _).trans (trackers_noteSlew _ _))) (fun _ => .refl s)

theorem trackers_followInteg (s : State) : TrackersKept s (followInteg s) := by
  unfold followInteg
  exact .ite (fun _ => (trackers_noteSlew _ _).trans (trackers_setAdj _ _)) (fun _ => .refl s)

theorem trackers_checkLock (x : Int) (s : State) : TrackersKept s (checkLock x s) := by
  have heard (l : List Nat) : TrackersKept s { s with tim := { s.tim with recent := l } } := .servo rfl rfl rfl
  have seen (y : State) : TrackersKept y { y with tim := { y.tim with lockedSeen := true } } := .servo rfl rfl rfl
  have relocked (y : State) : TrackersKept y (relock y) := by
    unfold relock
    extract_lets d thr ok u
    have hu : TrackersKept y u := .status _ _ (by decide) (by decide)
    clear_value ok u
    exact .ite (fun _ => hu.trans ((seen u).trans (told_trackers _ _ _ _ _ _))) (fun _ => hu)
  exact (heard _).trans (relocked _)

theorem trackers_switchTo (d : Nat) (s : State) : TrackersKept s (switchTo d s) := by
  have begun (f : Int) : TrackersKept s { s with tim := { s.tim with bias := f, biasClk := s.clk, recent := [] } } := .servo rfl rfl rfl
  unfold switchTo
  extract_lets f _ u v w
  have hu : TrackersKept s u := begun _
  clear_value u
  have hv : TrackersKept u v := (TrackersKept.status d u (by decide) (by decide)).trans
    ((TrackersKept.status 0 _ (by decide) (by decide)).trans (.bump _ (by decide)))
  clear_value v
  exact ((hu.trans hv).trans (told_trackers _ _ _ _ _ _)).trans (trackers_clearLost _)

theorem trackers_autoSwitch (s : State) : TrackersKept s (autoSwitch s) := by
  unfold autoSwitch
  exact .ite (fun _ => trackers_switchTo _ _) (fun _ => .refl s)

theorem trackers_checkLost (s : State) : TrackersKept s (checkLost s) := by
  have lost (y : State) : TrackersKept y { y with tim := { y.tim with lost := true, lockedSeen := false } } := .servo rfl rfl rfl
  unfold checkLost
  extract_lets k old
  clear_value old
  exact .ite (fun _ => (lost s).trans ((trackers_followInteg _).trans (told_trackers _ _ _ _ _ _))) (fun _ => .refl s)

/-! ### A sample (R510, R513) -/

theorem trk_setTrk (d : Nat) (k : Tracker) (s : State) : trk (setTrk d k s) d = k := by
  unfold trk setTrk
  split <;> rfl

theorem trk_congr {s t : State} (h : t.tim = s.tim) (d : Nat) : trk t d = trk s d := by
  unfold trk
  rw [h]

/-- A sample taken by the tracker of domain `d`, before the servo hears of it. -/
def sampleTaken (d : Nat) (f : Int) (s : State) : State :=
  setJump d false (bump 19 d (setTrkState d (if min ((trk s d).count + 1) 4 = 4 then 2 else 1)
    (setTrk d { f := f, count := min ((trk s d).count + 1) 4, last := some s.clk, used := true } s)))

theorem setJump_tim (d : Nat) (b : Bool) (s : State) : (setJump d b s).tim = s.tim := fput_tim _ _ _

theorem setJump_trackers (d : Nat) (b : Bool) (s : State) : TrackersKept s (setJump d b s) := by
  unfold setJump
  split <;> exact .status _ _ (by decide) (by decide)

theorem setTrk_tal (d : Nat) (k : Tracker) (s : State) : (setTrk d k s).tal = s.tal := by
  unfold setTrk
  split <;> rfl

theorem sampleTaken_spec {d : Nat} (f : Int) (s : State) :
    trk (sampleTaken d f s) d = { f := f, count := min ((trk s d).count + 1) 4, last := some s.clk, used := true } ∧
      trkState (sampleTaken d f s) d = (if 3 ≤ (trk s d).count then 2 else 1) ∧
      ctr (sampleTaken d f s) 19 d = (ctr s 19 d + 1) % 2 ^ 64 := by
  unfold sampleTaken
  generalize hn : min ((trk s d).count + 1) 4 = n
  generalize hv : (if n = 4 then 2 else 1) = v
  have small : v % 4 = if 3 ≤ (trk s d).count then 2 else 1 := by
    rw [← hv]
    split <;> split <;> omega
  generalize hk : ({ f := f, count := n, last := some s.clk, used := true } : Tracker) = k
  have written : trk (setTrk d k s) d = k := trk_setTrk d k s
  have tal : (setTrk d k s).tal = s.tal := setTrk_tal d k s
  generalize setTrk d k s = u at written tal
  refine ⟨?_, ?_, ?_⟩
  · rw [trk_congr (setJump_tim _ _ _), bump, trk_congr (bumpN_tim _ _ _ _), trk_congr (setTrkState_tim _ _ _), written]
  · rw [(setJump_trackers _ _ _).trkState, bump, trkState_congr (rget_congr (bumpN_regs _ _ _ _) _), trkState_setTrkState_same, small]
  · have kept : (setTrkState d v u).tal = s.tal := (fput_tal _ _ _).trans tal
    rw [show ctr (setJump d false (bump 19 d (setTrkState d v u))) 19 d = ctr (bump 19 d (setTrkState d v u)) 19 d from
      ctr_congr (congrArg Tal.live (fput_tal _ _ _)) _ _, bump, ctr_bumpN_same, ctr_congr (congrArg Tal.live kept)]

theorem acceptSample_kept (d : Nat) (e : Int) (s : State) : ∃ f, TrackersKept (sampleTaken d f s) (acceptSample d e s) := by
  unfold acceptSample
  extract_lets k f n u v w
  have taken : v = sampleTaken d f s := rfl
  refine ⟨f, ?_⟩
  rw [← taken]
  clear_value v
  have hw : TrackersKept v w := (trackers_clearLost _).trans (trackers_slewBias _)
  clear_value w
  exact .ite (fun _ => hw.trans ((trackers_servoUpdate _ _).trans (trackers_checkLock _ _))) (fun _ => .refl v)

/-- A sample in time, for a tracker that does not judge it yet, is accepted (R509, R512). -/
theorem timeSample_accepted {d t : Nat} {e : Int} {s : State} (valid : s.tim.valid = true) (past : t ≤ s.tim.t) (soon : s.tim.t ≤ t + secUnits)
    (still : s.tim.stepT = none) (young : trkState s d ≠ 2) (kept : s.tim.lost = false) : timeSample d e t s = acceptSample d e s := by
  unfold timeSample
  dsimp only
  rw [still]
  dsimp only
  rw [if_neg (by simp [valid]; omega), if_neg (by simp [young, kept])]

theorem smpPost_accepted {v d m : Nat} {s : State} (go : bitAt v 0 = true) (domain : bits v 1 1 = d)
    (host : d = 0 → fget s F.TIM_CTL_SRC_A = 0) (dual : d = 1 → fbit s F.TIM_CTL_DUAL = true)
    (time : fullTime s (rget s A.TIM_SMP_SEC_LO) (rget s A.TIM_SMP_NS % 2 ^ 30) = m) (valid : s.tim.valid = true) (past : m ≤ s.tim.t)
    (soon : s.tim.t ≤ m + secUnits) (still : s.tim.stepT = none) (young : trkState s d ≠ 2) (kept : s.tim.lost = false) :
    ∃ e, smpPost v s = acceptSample d e s := by
  have taken : ¬ ((d = 0 ∧ (fget s F.TIM_CTL_SRC_A = 1 ∨ fget s F.TIM_CTL_SRC_A = 2)) ∨ (d = 1 ∧ ¬ fbit s F.TIM_CTL_DUAL = true)) := by
    rintro (⟨a, src⟩ | ⟨b, off⟩)
    · have := host a
      omega
    · exact off (dual b)
  unfold smpPost
  dsimp only
  rw [if_neg (by simp [go]), domain, if_neg taken, time]
  exact ⟨_, timeSample_accepted valid past soon still young kept⟩

/-! ### A loss and a switch (R510, R520, R521) -/

theorem trackerLoss_spec {d c : Nat} {s : State} (last : (trk s d).last = some c) (late : c + lossClocks s ≤ s.clk) (works : trkState s d ≠ 0) :
    TrackersKept (idleTrk d s) (trackerLoss d s) := by
  unfold trackerLoss
  extract_lets k old u
  have isOld : old = true := by
    unfold old k
    rw [last]
    exact decide_eq_true late
  clear_value old
  rw [if_neg (by simp [isOld]), if_neg works]
  exact .ite (fun _ => (trackers_autoSwitch _).trans (trackers_checkLost _)) (fun _ => .refl _)

/-- The state in which domain `d` governs, before the loss of time is taken back. -/
def switched (d : Nat) (f : Int) (s : State) : State :=
  bump 19 6 (fput F.TIM_STATUS_LOCKED 0 (fput F.TIM_STATUS_GOV d { s with tim := { s.tim with bias := f, biasClk := s.clk, recent := [] } }))

theorem switched_spec {d : Nat} (f : Int) (s : State) (hd : d < 2) :
    gov (switched d f s) = d ∧ (switched d f s).tim.bias = f ∧ (switched d f s).tim.t = s.tim.t ∧
      rget (switched d f s) A.TIM_CMD_STATUS = rget s A.TIM_CMD_STATUS ∧ ctr (switched d f s) 19 6 = (ctr s 19 6 + 1) % 2 ^ 64 := by
  have regs (x : State) : (bump 19 6 x).regs = x.regs := bumpN_regs _ _ _ _
  have tim (x : State) : (bump 19 6 x).tim = x.tim := bumpN_tim _ _ _ _
  unfold switched
  generalize hq : ({ s.tim with bias := f, biasClk := s.clk, recent := [] } : Tim) = q
  have withTim (r : Nat) : rget { s with tim := q } r = rget s r := rfl
  refine ⟨?_, ?_, ?_, ?_, ?_⟩
  · unfold gov
    rw [fget_congr (rget_congr (regs _) _), fget_fput_apart _ _ (by decide), fget_fput_same _ _ _ (by decide)]
    exact Nat.mod_eq_of_lt hd
  · rw [tim, fput_tim, fput_tim, ← hq]
  · rw [tim, fput_tim, fput_tim, ← hq]
  · rw [rget_congr (regs _), rget_fput_ne _ _ (by decide), rget_fput_ne _ _ (by decide), withTim]
  · rw [bump, ctr_bumpN_same, ctr_congr (congrArg Tal.live (fput_tal _ _ _)), ctr_congr (congrArg Tal.live (fput_tal _ _ _))]
    rfl

/-- What `switchTo` does to device time's registers after the switch: it tells of it. -/
theorem switchTo_told (d : Nat) (s : State) :
    (switchTo d s).tim.bias = (switched d (trk s d).f s).tim.bias ∧ (switchTo d s).tim.t = (switched d (trk s d).f s).tim.t ∧
      (∀ r, TimReg r → rget (switchTo d s) r = rget (switched d (trk s d).f s) r) ∧
      ctr (switchTo d s) 19 6 = ctr (switched d (trk s d).f s) 19 6 := by
  unfold switchTo
  extract_lets f _ u v w
  have hv : v = switched d (trk s d).f s := rfl
  rw [← hv]
  clear_value v
  have hw : TimeKept v w := told_timeKept _ _ _ _ _ _
  clear_value w
  unfold clearLost
  split
  · have told := told_timeKept 0x0A06 (gov w) (puLow (offNs w.tim.bias)) (puHigh (offNs w.tim.bias)) 5 { w with tim := { w.tim with lost := false } }
    have withTim (q : Tim) (r : Nat) : rget { w with tim := q } r = rget w r := rfl
    refine ⟨?_, ?_, fun r hr => ?_, ?_⟩
    · rw [told.tim, ← hw.tim]
    · rw [told.tim, ← hw.tim]
    · rw [told.reg r hr, withTim, hw.reg r hr]
    · rw [told.ctr 6 (by decide), ← hw.ctr 6 (by decide)]
      rfl
  · exact ⟨by rw [hw.tim], by rw [hw.tim], hw.reg, hw.ctr 6 (by decide)⟩

/-! ### CLK10M_IN (R516) -/

theorem followInteg_clk10m (s : State) : (followInteg s).tim.clk10m = s.tim.clk10m := by
  have history (x : State) : (pushHist x).tim = x.tim := pushHist_tim x
  have adjusted (a : Int) (x : State) : (setAdj a x).tim.clk10m = x.tim.clk10m := by
    unfold setAdj
    split
    · rfl
    · rw [history]
  unfold followInteg
  split
  · rw [adjusted, noteSlew, fput_tim]
  · rfl

theorem clk10mMeasure_spec (s : State) :
    (clk10mMeasure s).tim.clk10m = (if fbit s F.TIM_CTL_CLK10M_IN_EN = true then some s.tim.t else none) ∧ (clk10mMeasure s).tim.t = s.tim.t := by
  unfold clk10mMeasure
  by_cases on : fbit s F.TIM_CTL_CLK10M_IN_EN = true
  · rw [if_neg (by simp [on]), if_pos on]
    dsimp only
    split
    · exact ⟨rfl, rfl⟩
    · split
      · rw [bump, bumpN_tim]
        exact ⟨rfl, rfl⟩
      · split
        · rw [followInteg_clk10m, (trackers_followInteg _).time]
          exact ⟨rfl, rfl⟩
        · exact ⟨rfl, rfl⟩
  · rw [if_pos (by simpa using on), if_neg on]
    exact ⟨rfl, rfl⟩

/-! ### The obligation -/

/-- Settles O35: a sample that is accepted (`acceptSample_kept`), a tracker's loss (`trackerLoss_spec`), the switch
(`switchTo_told`), and the measurement of CLK10M_IN. -/
theorem trackersFollowTheirSamples : Obligations.TrackersFollowTheirSamples := by
  unfold Obligations.TrackersFollowTheirSamples
  refine ⟨?_, ?_, ?_, ?_⟩
  · rintro v d m s ready go domain host dual valid time past soon still young kept
    obtain ⟨t, run, st⟩ := hostCmd_settles (c := .timSmpPost v) (f := smpPost v.toNat) rfl rfl ready
    obtain ⟨e, accepted⟩ := smpPost_accepted go domain host dual time valid past soon still young kept
    rw [accepted] at st
    obtain ⟨f, servo⟩ := acceptSample_kept d e s
    obtain ⟨tracker, state, counts⟩ := sampleTaken_spec (d := d) f s
    have all := servo.trans (.of_timeKept st.timeKept)
    have hd : d < 2 := by
      rw [← domain]
      exact Nat.mod_lt _ (by decide)
    refine ⟨t, run, ?_, ?_, ?_, ?_, ?_⟩
    · rw [all.trk, tracker]
    · rw [all.trk, tracker]
    · rw [all.trk, tracker]
    · rw [all.trkState, state]
    · rw [all.ctrs d hd, counts]
  · rintro dt c b s u ⟨free, rfl⟩ last late works
    obtain ⟨t, run, st⟩ := timed_settles (c := .trackerLossTimeout dt b) (f := trackerLoss (b2n b)) rfl rfl ⟨free, rfl⟩
    have frame := same_trackerLoss (b2n b) (passTime dt s)
    have kept := (trackerLoss_spec last late works).trans (.of_timeKept st.timeKept)
    refine ⟨t, run, ?_, ?_, st.dp.trans (frame.part .dp (by decide)), st.tab.trans (frame.part .tab (by decide))⟩
    · rw [kept.trkState, trkState_idleTrk_same]
    · obtain ⟨a, b', l, tim⟩ := idleTrk_tim (b2n b) (passTime dt s)
      rw [kept.time, tim]
  · rintro b s ready other tracks
    obtain ⟨t, run, st⟩ := hostCmd_settles (c := .switchDomain b) (f := switchOp (b2n b)) rfl rfl ready
    rw [switchOp, if_pos ⟨other, tracks⟩] at st
    obtain ⟨bias, time, regs, counts⟩ := switchTo_told (b2n b) (fput F.TIM_CMD_STATUS_RESULT 0 s)
    obtain ⟨governs, biasIs, timeIs, cmd, countsIs⟩ := switched_spec (trk (fput F.TIM_CMD_STATUS_RESULT 0 s) (b2n b)).f
      (fput F.TIM_CMD_STATUS_RESULT 0 s) (show b2n b < 2 by cases b <;> decide)
    have kept := st.timeKept
    refine ⟨t, run, ?_, ?_, ?_, ?_, ?_⟩
    · rw [← governs]
      exact (kept.fget timReg_status).trans (fget_congr (regs _ timReg_status))
    · rw [kept.tim, bias, biasIs, trk_congr (fput_tim _ _ _)]
    · rw [kept.tim, time, timeIs, fput_tim]
    · rw [kept.fget timReg_cmdStatus, fget_congr (f := F.TIM_CMD_STATUS_RESULT) ((regs _ timReg_cmdStatus).trans cmd), fget_fput_same _ _ _ (by decide)]
      rfl
    · rw [kept.ctr 6 (by decide), counts, countsIs, ctr_congr (congrArg Tal.live (fput_tal _ _ _))]
  · rintro dt s u ⟨free, rfl⟩
    obtain ⟨t, run, st⟩ := timed_settles (c := .clk10mMeasurement dt) (f := clk10mMeasure) rfl rfl ⟨free, rfl⟩
    obtain ⟨edge, time⟩ := clk10mMeasure_spec (passTime dt s)
    exact ⟨t, run, by rw [st.tim, edge], by rw [st.tim, time]⟩

end Machine
end Sys2Proof
end

section
/-! PROOF. Proofs/KeeperFrames.lean: the frames that the fabric block sends, and the registers they leave alone. -/
namespace Sys2Proof
namespace Machine

/-- Register `r` is one of the fabric block's, but its interrupt status. -/
def FabReg (r : Nat) : Prop := 0x140004 ≤ r ∧ r < 0x150000

theorem FabReg.not_mem_settleRegs {r : Nat} (h : FabReg r) : r ∉ settleRegs := by
  have outside : ∀ a ∈ settleRegs, a < 0x140000 ∨ 0x150000 ≤ a := by decide
  intro hr
  have := outside r hr
  unfold FabReg at h
  omega

theorem FabReg.ne_gbk {r : Nat} (h : FabReg r) : r ≠ A.GBK_INT_STAT := by
  unfold FabReg at h
  unfold A.GBK_INT_STAT
  omega

theorem FabReg.ne_int {r : Nat} (h : FabReg r) : A.FAB_INT_STAT ≠ r := by
  unfold FabReg at h
  unfold A.FAB_INT_STAT
  omega

theorem FabReg.besideAll {r : Nat} (h : FabReg r) : BesideAll r := by
  unfold FabReg at h
  constructor
  · unfold A.TM_SHARED_USED; omega
  · unfold A.TM_MGMT_USED; omega
  · unfold A.TM_INT_STAT; omega
  · unfold A.GBK_INT_STAT; omega
  · unfold A.GLB_INT_STAT; omega
  · intro k hk
    unfold A.GLB_ADMIT_DROP
    omega

theorem FabReg.beside {r p q : Nat} (h : FabReg r) (hp : p < 72) (hq : q < 16) : Beside r p q := by
  unfold FabReg at h
  constructor
  · unfold A.TM_Q_DEPTH; omega
  · unfold A.TM_Q_WATERMARK; omega
  · unfold A.TM_PORT_USED; omega

theorem rget_addFrame (f : Frame) (s : State) (r : Nat) : rget (addFrame f s).2 r = rget s r := rfl

theorem rget_fabSend {ps : List Nat} {r : Nat} (type : Nat) (b : List Byte) (s : State) (h : FabReg r) (front : ∀ p ∈ ps, p < 72) :
    rget (fabSend ps type b s) r = rget s r := by
  unfold fabSend fabQueue
  generalize fabFrame s type b = f
  split
  · rfl
  · dsimp only
    rw [rget_admitAll _ (fun x hx => ?_) h.besideAll, rget_addFrame]
    obtain ⟨p, hp, rfl⟩ := List.mem_map.mp hx
    have low := front p hp
    exact h.beside low (physQueue_lt _ _ (by omega))

theorem fabSend_fab (ps : List Nat) (type : Nat) (b : List Byte) (s : State) : (fabSend ps type b s).fab = s.fab :=
  (same_fabQueue _ _ _).part .fab (by decide)

theorem linkedPorts_front (s : State) : ∀ p ∈ linkedPorts s, p < 72 := fun _ hp => List.mem_range.mp (List.mem_filter.mp hp).1

theorem rget_sendTime {r : Nat} (s : State) (h : FabReg r) : rget (sendTime s) r = rget s r := by
  unfold sendTime
  extract_lets _ u
  have same : u.regs = s.regs := rfl
  clear_value u
  split
  rw [rget_fabSend _ _ _ h (linkedPorts_front _), rget_congr same]

theorem sendTime_fab (s : State) : (sendTime s).fab = { s.fab with timeSeq := (s.fab.timeSeq + 1) % 2 ^ 32, timeClk := s.clk } := by
  unfold sendTime
  dsimp only
  rw [fabSend_fab]

theorem rget_sendTrigCopy {r : Nat} (s : State) (h : FabReg r) : rget (sendTrigCopy s) r = rget s r := by
  unfold sendTrigCopy
  split
  · extract_lets _ u
    have same : u.regs = s.regs := rfl
    clear_value u
    rw [rget_fabSend _ _ _ h (linkedPorts_front _), rget_congr same]
  · rfl

theorem sendTrigCopy_fab {x : TrigSend} {s : State} (sends : s.fab.trig = some x) :
    (sendTrigCopy s).fab = { s.fab with trig := if 1 < x.left then some { x with left := x.left - 1, clk := s.clk } else none } := by
  unfold sendTrigCopy
  rw [sends]
  dsimp only
  rw [fabSend_fab]

/-! ### The handshake's registers -/

/-- A register of the fabric block that the choice of the up port does not write. -/
structure OffUp (r : Nat) : Prop where
  fab : FabReg r
  status : A.FAB_STATUS ≠ r
  ports : ∀ p, A.FAB_PORT_STATUS p ≠ r

theorem rget_chooseUp {r : Nat} (s : State) (h : OffUp r) : rget (chooseUp s) r = rget s r := by
  have told (c w a b i : Nat) (x : State) : rget (raise c w a b (setInt A.FAB_INT_STAT i x)) r = rget x r :=
    rget_told _ _ _ _ _ _ h.fab.ne_int h.fab.ne_gbk
  unfold chooseUp
  extract_lets old new u
  have hu : rget u r = rget s r := by
    unfold u
    clear_value old
    cases old with
    | none => rfl
    | some p => exact rget_fput_ne _ _ (h.ports _)
  clear_value new u
  split
  · rfl
  · split
    · dsimp only
      rw [told, rget_fput_ne _ _ (h.ports _), rget_fput_ne _ _ h.status, rget_fput_ne _ _ h.status, hu]
    · rw [told, rget_fput_ne _ _ h.status, rget_fput_ne _ _ h.status, hu]

theorem rget_putFabPort (p : Nat) (x : FabPort) (s : State) (r : Nat) : rget (putFabPort p x s) r = rget s r := rfl

theorem rget_fabDown {r : Nat} (p : Nat) (s : State) (h : OffUp r) : rget (fabDown p s) r = rget s r := by
  unfold fabDown
  extract_lets was _ u v w
  have hu : rget u r = rget s r := rget_putFabPort _ _ _ _
  clear_value u
  have hv : rget v r = rget u r := rget_fput_ne _ _ (h.ports p)
  clear_value v
  have hw : rget w r = rget v r := by
    unfold w
    split
    · exact rget_told _ _ _ _ _ _ h.fab.ne_int h.fab.ne_gbk
    · rfl
  clear_value w
  rw [rget_chooseUp _ h, hw, hv, hu]

theorem rget_startHello {p r : Nat} (s : State) (hp : p < 72) (h : OffUp r) : rget (startHello p s) r = rget s r := by
  unfold startHello
  extract_lets n u _ v
  have same : u.regs = s.regs := rfl
  clear_value u
  have hv : rget v r = rget u r := rget_putFabPort _ _ _ _
  clear_value v
  rw [rget_chooseUp _ h, sendHello, rget_fabSend _ _ _ h.fab (fun q hq => by rw [List.mem_singleton.mp hq]; exact hp), rget_putFabPort,
    rget_fput_ne _ _ (h.ports p), hv, rget_congr same]

end Machine
end Sys2Proof
end

section
/-! PROOF. Proofs/KeeperTriggers.lean: what a trigger's action keeps, and the commands of the Keeper (O41). -/
namespace Sys2Proof
namespace Machine

/-! ### The payload of a trigger (R566) -/

theorem beAt_one (l : List Byte) (k : Nat) : beAt l k 1 = (l.getD k 0).toNat := by
  unfold beAt
  rw [List.range_one, List.foldl_cons, List.foldl_nil, Nat.zero_mul, Nat.zero_add, Nat.add_zero]

theorem beAt_four (l : List Byte) (k : Nat) :
    beAt l k 4 = (((l.getD k 0).toNat * 256 + (l.getD (k + 1) 0).toNat) * 256 + (l.getD (k + 2) 0).toNat) * 256 + (l.getD (k + 3) 0).toNat := by
  unfold beAt
  simp only [List.range_succ_eq_map, List.range_zero, List.map_cons, List.map_nil, List.foldl_cons, List.foldl_nil, Nat.zero_mul, Nat.zero_add,
    Nat.add_zero]

theorem kind_trigPayload {s : State} {k : Nat} (id : Nat) (kind : fget s F.FAB_TRIG_CTL_KIND = k) (low : k < 16) :
    beAt (trigPayload s id) 7 1 % 16 = k := by
  have at7 : (trigPayload s id).getD 7 0 = BitVec.ofNat 8 (b2n (fbit s F.FAB_TRIG_CTL_LATE_POLICY) * 128 + k) := by
    unfold trigPayload
    rw [kind]
    rfl
  rw [beAt_one, at7, BitVec.toNat_ofNat]
  omega

theorem id_trigPayload (s : State) (id : Nat) : beAt (trigPayload s id) 8 4 = id % 2 ^ 32 := by
  have at8 : (trigPayload s id).getD 8 0 = BitVec.ofNat 8 (id / 256 / 256 / 256) := rfl
  have at9 : (trigPayload s id).getD 9 0 = BitVec.ofNat 8 (id / 256 / 256) := rfl
  have at10 : (trigPayload s id).getD 10 0 = BitVec.ofNat 8 (id / 256) := rfl
  have at11 : (trigPayload s id).getD 11 0 = BitVec.ofNat 8 id := rfl
  rw [beAt_four, at8, at9, at10, at11]
  simp only [BitVec.toNat_ofNat]
  omega

/-! ### What a trigger's action keeps -/

/-- A register that no trigger's action writes: it lies in the fabric block, beside the report of the last trigger, and is the
control word of no timed action. -/
structure OffTrigger (r : Nat) : Prop where
  fab : FabReg r
  id : A.FAB_TRIG_LAST_ID ≠ r
  res : A.FAB_TRIG_LAST_RES ≠ r
  slots : ∀ k, A.PHS_TA_CTL k ≠ r

/-- The last trigger known and the registers beside a trigger's action are as before. -/
structure TrigKept (s t : State) : Prop where
  last : t.fab.lastTrig = s.fab.lastTrig
  regs : ∀ r, OffTrigger r → rget t r = rget s r

theorem TrigKept.rfl' (s : State) : TrigKept s s := ⟨rfl, fun _ _ => rfl⟩

theorem TrigKept.trans {s t u : State} (h : TrigKept s t) (k : TrigKept t u) : TrigKept s u :=
  ⟨k.last.trans h.last, fun r hr => (k.regs r hr).trans (h.regs r hr)⟩

theorem TrigKept.of_regs {s t : State} (fab : t.fab = s.fab) (regs : ∀ r, OffTrigger r → rget t r = rget s r) : TrigKept s t :=
  ⟨by rw [fab], regs⟩

theorem OffTrigger.ne_low {r a : Nat} (h : OffTrigger r) (low : a < 0x140004) : a ≠ r := by
  have := h.fab.1
  omega

theorem trig_rput {a : Nat} (v : Nat) (s : State) (low : a < 0x140004) : TrigKept s (rput a v s) :=
  .of_regs (rput_fab _ _ _) (fun _ h => rget_rput_ne _ _ (h.ne_low low))

theorem trig_fput {f : Fld} (v : Nat) (s : State) (low : f.addr < 0x140004) : TrigKept s (fput f v s) :=
  .of_regs (fput_fab _ _ _) (fun _ h => rget_fput_ne _ _ (h.ne_low low))

theorem trig_fput_slot (k v : Nat) (s : State) : TrigKept s (fput (F.PHS_TA_CTL_ARM k) v s) :=
  .of_regs (fput_fab _ _ _) (fun _ h => rget_fput_ne _ _ (h.slots k))

theorem trig_raise (c w x y : Nat) (s : State) : TrigKept s (raise c w x y s) :=
  .of_regs ((same_raise _ _ _ _ _).part .fab (by decide)) (fun _ h => rget_raise _ _ _ _ _ h.fab.ne_gbk)

theorem trig_forBits {a : Nat} (m : Nat) (s : State) (low : a < 0x140004) : TrigKept s (forBits a m s) :=
  .of_regs rfl (fun _ h => rget_forBits_ne _ _ (h.ne_low low))

theorem trig_setInt {a : Nat} (i : Nat) (s : State) (low : a < 0x140004) : TrigKept s (setInt a i s) :=
  trig_forBits _ _ low

theorem trig_latchInstant {a : Nat} (x : Nat) (s : State) (low : a + 8 < 0x140004) : TrigKept s (latchInstant a x s) := by
  unfold latchInstant
  exact ((trig_rput _ _ (by omega)).trans (trig_rput _ _ (by omega))).trans (trig_rput _ _ low)

theorem trig_withPhs (s : State) (p : Phs) : TrigKept s { s with phs := p } := ⟨rfl, fun _ _ => rfl⟩

theorem trig_forgetArmed (k : Nat) (s : State) : TrigKept s (forgetArmed k s) := ⟨rfl, fun _ _ => rfl⟩

theorem trig_noteArmed (id k : Nat) (s : State) : TrigKept s (noteArmed id k s) := ⟨rfl, fun _ _ => rfl⟩

theorem trig_taLate {k : Nat} (now : Nat) (s : State) (hk : k < 32) : TrigKept s (taLate k now s) := by
  have low : A.PHS_TA_LATE k < 0x140004 := by unfold A.PHS_TA_LATE; omega
  have low' : A.PHS_TA_STATUS k < 0x140004 := by unfold A.PHS_TA_STATUS; omega
  unfold taLate
  split
  · exact ((trig_fput_slot k 0 s).trans (trig_forBits _ _ low')).trans (trig_raise _ _ _ _ _)
  · extract_lets d u _ v
    have hu : TrigKept s u := (trig_forBits _ _ low').trans (trig_rput _ _ low)
    clear_value u
    have hv : TrigKept u v := trig_withPhs _ _
    clear_value v
    exact ((hu.trans hv).trans (trig_setInt _ _ (by decide))).trans (trig_raise _ _ _ _ _)

theorem trig_writeTaCtl {k : Nat} (v : Nat) (s : State) (hk : k < 32) : TrigKept s (writeTaCtl k v s) := by
  have written : TrigKept s (taForget k (rput (A.PHS_TA_CTL k) (v &&& 0x43FFFC0F) s)) :=
    TrigKept.trans (.of_regs (rput_fab _ _ _) (fun _ h => rget_rput_ne _ _ (h.slots k))) (trig_withPhs _ _)
  unfold writeTaCtl
  extract_lets u
  have hu : TrigKept s u := written
  clear_value u
  split
  · unfold taArm
    extract_lets w
    have hw : TrigKept s w := hu.trans (trig_fput_slot k 1 u)
    clear_value w
    split
    · exact hw.trans (trig_taLate _ _ hk)
    · exact hw
  · exact hu

theorem trig_resolveLedger (p b : Nat) (s : State) : TrigKept s (resolveLedger p b s) :=
  .of_regs ((same_resolveLedger _ _ _).part .fab (by decide))
    (fun _ h => rget_resolveLedger _ _ _ (h.ne_low (by decide)) h.fab.ne_gbk)

theorem trig_resolveGate (g b : Nat) (s : State) : TrigKept s (resolveGate g b s) :=
  .of_regs ((same_resolveGate _ _ _).part .fab (by decide))
    (fun _ h => rget_resolveGate _ _ _ (h.ne_low (by decide)) h.fab.ne_gbk)

theorem trig_foldl {β : Type} {f : State → β → State} (k : ∀ x b, TrigKept x (f x b)) (l : List β) (s : State) :
    TrigKept s (l.foldl f s) := by
  induction l generalizing s with
  | nil => exact .rfl' s
  | cons b l ih => exact (k s b).trans (ih _)

theorem trig_ite {c : Bool} {s t : State} (h : TrigKept s t) : TrigKept s (if c then t else s) := by
  cases c with
  | false => exact .rfl' s
  | true => exact h

theorem trig_resolveOwned (hs : List Nat) (b : Nat) (s : State) :
    TrigKept s ((List.range 72).foldl (fun s p => if hs.contains (ownerOf p) then resolveLedger p b s else s) s) :=
  trig_foldl (fun x p => trig_ite (trig_resolveLedger p b x)) _ s

theorem trig_resolveArmed (hs : List Nat) (b : Nat) (s : State) : TrigKept s (resolveArmed hs b s) := by
  unfold resolveArmed
  split
  · exact trig_resolveOwned hs b s
  · unfold resolveBank
    refine (trig_resolveOwned hs b s).trans (trig_foldl (fun x k => ?_) _ _)
    split
    · exact trig_resolveGate _ _ _
    · exact .rfl' x

theorem trig_frgResult (r : Nat) (s : State) : TrigKept s (frgResult r s) := trig_fput _ _ (by decide)

theorem trig_setFrgState (r : Nat) (s : State) : TrigKept s (setFrgState r s) := trig_fput _ _ (by decide)

theorem trig_withFrg (s : State) (x : Frg) : TrigKept s { s with frg := x } := ⟨rfl, fun _ _ => rfl⟩

theorem trig_armOp (roll : Bool) (id : Option Nat) (s : State) : TrigKept s (armOp roll id s) := by
  unfold armOp
  extract_lets st b mask may inst now late a _ w
  split
  · exact trig_frgResult _ _
  · split
    · exact trig_frgResult _ _
    · have hw : TrigKept s w :=
        (((trig_withFrg s _).trans (trig_frgResult _ _)).trans (trig_setFrgState _ _)).trans (trig_resolveArmed _ _ _)
      clear_value w
      split
      · exact ((hw.trans (trig_fput _ _ (by decide))).trans (trig_rput _ _ (by decide))).trans (trig_raise _ _ _ _ _)
      · exact hw

theorem trig_disarmOp (s : State) : TrigKept s (disarmOp s) := by
  unfold disarmOp
  split
  · exact (((trig_withFrg s _).trans (trig_frgResult _ _)).trans (trig_setFrgState _ _)).trans (trig_forgetArmed _ _)
  · exact trig_frgResult _ _

theorem trig_swapKeys (s : State) : TrigKept s (swapKeys s) := by
  have swapped (x : Fab) (h : x.lastTrig = s.fab.lastTrig) : TrigKept s { s with fab := x } := ⟨h, fun _ _ => rfl⟩
  unfold swapKeys
  extract_lets _ _ u
  have hu : TrigKept s u := swapped _ rfl
  exact hu.trans (trig_raise _ _ _ _ _)

/-! ### The actions (R570 to R577) -/

theorem trig_trigSnapshot (id inst arg : Nat) (late : Bool) (s : State) : TrigKept s (trigSnapshot id inst arg late s).2 := by
  unfold trigSnapshot
  split
  · exact .rfl' s
  next k found =>
    have hk : k < 32 := by
      obtain ⟨i, hi, rfl⟩ := List.mem_map.mp (List.mem_of_find?_eq_some found)
      have := List.mem_range.mp hi
      omega
    have low : A.PHS_TA_CYCLE_HI k + 8 < 0x140004 := by unfold A.PHS_TA_CYCLE_HI; omega
    have low' : A.PHS_TA_ARG k < 0x140004 := by unfold A.PHS_TA_ARG; omega
    exact (((trig_latchInstant _ _ low).trans (trig_rput _ _ low')).trans (trig_noteArmed _ _ _)).trans (trig_writeTaCtl _ _ hk)

theorem trig_trigCommit (roll : Bool) (id inst arg fseq : Nat) (late : Bool) (s : State) :
    TrigKept s (trigCommit roll id inst arg fseq late s).2 := by
  unfold trigCommit
  split
  · exact .rfl' s
  · extract_lets u v r
    have hu : TrigKept s u :=
      ((trig_latchInstant _ _ (by decide)).trans (trig_fput _ _ (by decide))).trans (trig_fput _ _ (by decide))
    clear_value u
    have hv : TrigKept s v := hu.trans (trig_armOp _ _ _)
    clear_value v
    split
    · exact hv.trans (trig_noteArmed _ _ _)
    · exact hv

theorem trig_trigKeySwitch (inst : Nat) (late : Bool) (s : State) : TrigKept s (trigKeySwitch inst late s).2 := by
  have queued (x : Fab) (h : x.lastTrig = s.fab.lastTrig) : TrigKept s { s with fab := x } := ⟨h, fun _ _ => rfl⟩
  unfold trigKeySwitch
  split
  · exact .rfl' s
  · split
    · split
      · exact .rfl' s
      · exact trig_swapKeys s
    · exact queued _ rfl

theorem trig_trigDisarm (id : Nat) (s : State) : TrigKept s (trigDisarm id s).2 := by
  unfold trigDisarm
  split
  · exact .rfl' s
  next k found =>
    extract_lets _ u
    have hu : TrigKept s u := trig_forgetArmed k s
    clear_value u
    split
    · split
      · split
        · exact hu.trans (trig_disarmOp u)
        · exact hu
      · exact hu
    · split
      · exact (hu.trans (trig_fput_slot _ _ _)).trans (trig_withPhs _ _)
      · exact hu

/-- The report of a trigger's action leaves its number in TRIG_LAST_ID. -/
theorem trigReport_spec (pair : Nat × Nat) (id kind res : Nat) (s : State) :
    rget (trigReport pair id kind res s) A.FAB_TRIG_LAST_ID = id % 2 ^ 32 ∧ TrigKept s (trigReport pair id kind res s) := by
  unfold trigReport
  extract_lets u
  have last : rget u A.FAB_TRIG_LAST_ID = id % 2 ^ 32 := (rget_rput_ne _ _ (by decide)).trans (rget_rput_same _ _ _)
  have hu : TrigKept s u := .of_regs ((rput_fab _ _ _).trans (rput_fab _ _ _))
    (fun r h => (rget_rput_ne _ _ h.res).trans (rget_rput_ne _ _ h.id))
  clear_value u
  have told (c w x y i n : Nat) : rget (raise c w x y (setInt A.FAB_INT_STAT i (bump 21 n u))) A.FAB_TRIG_LAST_ID = id % 2 ^ 32 := by
    rw [rget_told _ _ _ _ _ _ (by decide) (by decide), rget_bump, last]
  have kept (c w x y i n : Nat) : TrigKept u (raise c w x y (setInt A.FAB_INT_STAT i (bump 21 n u))) := by
    have counted : TrigKept u (bump 21 n u) := ⟨rfl, fun _ _ => rget_bump _ _ _ _⟩
    exact (counted.trans (trig_setInt i _ (by decide))).trans (trig_raise _ _ _ _ _)
  split
  · exact ⟨told _ _ _ _ _ _, hu.trans (kept _ _ _ _ _ _)⟩
  · exact ⟨told _ _ _ _ _ _, hu.trans (kept _ _ _ _ _ _)⟩

/-- A trigger of a known kind is the last one known, and reported. -/
theorem actTrigger_spec {b : List Byte} {s : State} (known : ¬ (beAt b 7 1 % 16 = 0 ∨ 5 < beAt b 7 1 % 16)) :
    (actTrigger b s).fab.lastTrig = some (beAt b 8 4) ∧ rget (actTrigger b s) A.FAB_TRIG_LAST_ID = beAt b 8 4 % 2 ^ 32 ∧
      ∀ r, OffTrigger r → rget (actTrigger b s) r = rget s r := by
  unfold actTrigger
  extract_lets kind late id inst arg _ u
  have last : u.fab.lastTrig = some id := rfl
  have regs : u.regs = s.regs := rfl
  clear_value u
  rw [if_neg known]
  have act : TrigKept u (if kind = 1 then trigSnapshot id inst arg late u
      else if kind = 2 then trigCommit false id inst arg (beAt b 24 8) late u
      else if kind = 3 then trigCommit true id inst arg (beAt b 24 8) late u
      else if kind = 4 then trigKeySwitch inst late u
      else trigDisarm arg u).2 := by
    split
    · exact trig_trigSnapshot _ _ _ _ _
    · split
      · exact trig_trigCommit _ _ _ _ _ _ _
      · split
        · exact trig_trigCommit _ _ _ _ _ _ _
        · split
          · exact trig_trigKeySwitch _ _ _
          · exact trig_trigDisarm _ _
  revert act
  generalize (if kind = 1 then trigSnapshot id inst arg late u else _ : Nat × State) = x
  intro act
  obtain ⟨res, v⟩ := x
  obtain ⟨told, kept⟩ := trigReport_spec (beAt b 0 4, beAt b 4 2) id kind res v
  exact ⟨kept.last.trans (act.last.trans last), told, fun r h => (kept.regs r h).trans ((act.regs r h).trans (rget_congr regs r))⟩

end Machine
end Sys2Proof
end

section
/-! PROOF. Proofs/KeeperCommands.lean: the Keeper's commands and the fabric's registers (O41). -/
namespace Sys2Proof
namespace Machine

theorem roleOf_of_activeKeeper {s : State} (active : activeKeeper s = true) : roleOf s = 1 := by
  unfold activeKeeper at active
  rw [Bool.and_eq_true, beq_iff_eq] at active
  exact active.1

/-! ### TAKEOVER and STEP_DOWN (R558, R560) -/

/-- The term that a TAKEOVER takes: one after the highest seen. -/
def nextTerm (s : State) : Nat := match s.fab.maxTerm with | some m => (m + 1) % 2 ^ 32 | none => 1

theorem nextTerm_lt (s : State) : nextTerm s < 2 ^ 32 := by
  unfold nextTerm
  split
  · exact Nat.mod_lt _ (by decide)
  · decide

/-- The registers as TAKEOVER writes them. -/
def takenOver (s : State) : State :=
  rput A.FAB_TRIG_LAST_ID 0 (rput A.FAB_TERM (nextTerm s) (fput F.FAB_STATUS_KEEPER_STATE 2 (fput F.FAB_CMD_STATUS_RESULT 0 s)))

theorem takenOver_spec (s : State) :
    fget (takenOver s) F.FAB_STATUS_KEEPER_STATE = 2 ∧ fget (takenOver s) F.FAB_CMD_STATUS_RESULT = 0 ∧
      rget (takenOver s) A.FAB_TERM = nextTerm s ∧ fget (takenOver s) F.FAB_SELF_DEVICE_ID = fget s F.FAB_SELF_DEVICE_ID ∧
      (takenOver s).fab = s.fab := by
  unfold takenOver
  refine ⟨?_, ?_, ?_, ?_, ?_⟩
  · rw [fget_rput_ne _ _ (by decide), fget_rput_ne _ _ (by decide), fget_fput_same _ _ _ (by decide)]
    rfl
  · rw [fget_rput_ne _ _ (by decide), fget_rput_ne _ _ (by decide), fget_fput_ne _ _ (by decide), fget_fput_same _ _ _ (by decide)]
    rfl
  · rw [rget_rput_ne _ _ (by decide), rget_rput_same, Nat.mod_eq_of_lt (nextTerm_lt s)]
  · rw [fget_rput_ne _ _ (by decide), fget_rput_ne _ _ (by decide), fget_fput_ne _ _ (by decide), fget_fput_ne _ _ (by decide)]
  · rw [rput_fab, rput_fab, fput_fab, fput_fab]

theorem rget_withFab (s : State) (x : Fab) (r : Nat) : rget { s with fab := x } r = rget s r := rfl

theorem takeoverOp_eq {s : State} (role : roleOf s = 1) (standby : activeKeeper s = false) :
    takeoverOp s = sendTime (raise 0x0B08 (ownPair (takenOver s)).2 (ownPair (takenOver s)).1 0
      { takenOver s with fab := { (takenOver s).fab with standing := some (ownPair (takenOver s)), lastTrig := none } }) := by
  unfold takeoverOp
  rw [if_neg (not_not_intro role), if_neg (Bool.eq_false_iff.mp standby)]
  rfl

theorem rget_takeoverOp {r : Nat} {s : State} (role : roleOf s = 1) (standby : activeKeeper s = false) (h : FabReg r) :
    rget (takeoverOp s) r = rget (takenOver s) r := by
  rw [takeoverOp_eq role standby, rget_sendTime _ h, rget_raise _ _ _ _ _ h.ne_gbk, rget_withFab]

theorem takeoverOp_fab {s : State} (role : roleOf s = 1) (standby : activeKeeper s = false) :
    (takeoverOp s).fab.standing = some (nextTerm s, fget s F.FAB_SELF_DEVICE_ID) ∧ (takeoverOp s).fab.lastTrig = none ∧
      (takeoverOp s).fab.timeSeq = (s.fab.timeSeq + 1) % 2 ^ 32 := by
  obtain ⟨-, -, term, self, fab⟩ := takenOver_spec s
  have pair : ownPair (takenOver s) = (nextTerm s, fget s F.FAB_SELF_DEVICE_ID) := by
    unfold ownPair
    rw [term, self]
  rw [takeoverOp_eq role standby, sendTime_fab, (same_raise _ _ _ _ _).part .fab (by decide), pair]
  refine ⟨rfl, rfl, ?_⟩
  rw [← fab]

theorem stepDownOp_eq {s : State} (active : activeKeeper s = true) :
    stepDownOp s = stepDownNow (fput F.FAB_CMD_STATUS_RESULT 0 s) := by
  unfold stepDownOp
  rw [if_neg (not_not_intro (roleOf_of_activeKeeper active)), if_neg (not_not_intro active)]

theorem rget_stepDownNow {r : Nat} (s : State) (h : FabReg r) :
    rget (stepDownNow s) r = rget (fput F.FAB_STATUS_KEEPER_STATE 1 { s with fab := { s.fab with trig := none } }) r := by
  unfold stepDownNow
  split
  rw [rget_raise _ _ _ _ _ h.ne_gbk]

theorem stepDownNow_fab (s : State) : (stepDownNow s).fab = { s.fab with trig := none } := by
  unfold stepDownNow
  split
  rw [(same_raise _ _ _ _ _).part .fab (by decide), fput_fab]

/-! ### SEND_TRIGGER (R566) -/

/-- A trigger that may be sent, with its first copy to send. -/
theorem sendTriggerOp_eq {s : State} (active : activeKeeper s = true)
    (kind : ¬ (fget s F.FAB_TRIG_CTL_KIND = 0 ∨ 5 < fget s F.FAB_TRIG_CTL_KIND))
    (ahead : ¬ (fget s F.FAB_TRIG_CTL_KIND ≠ 5 ∧
      instantAt s A.FAB_TRIG_CYCLE_HI < phaseInstant s + fget s F.FAB_TRIG_LEAD_PU)) (idle : s.fab.trig = none) :
    sendTriggerOp s =
      let b := trigPayload s ((rget s A.FAB_TRIG_LAST_ID + 1) % 2 ^ 32)
      let u := actTrigger b (fput F.FAB_CMD_STATUS_RESULT 0 s)
      sendTrigCopy { u with fab := { u.fab with
        trig := some { payload := b, left := max 1 (fget u F.FAB_TRIG_CTL_REPEAT), clk := u.clk } } } := by
  unfold sendTriggerOp
  dsimp only
  rw [if_neg (not_not_intro (roleOf_of_activeKeeper active)), if_neg (by simp [active, not_or.mp kind]), if_neg ahead,
    if_neg (by simp [idle])]

theorem offTrigger_of {r : Nat} (h : r = A.FAB_CMD_STATUS ∨ r = A.FAB_TRIG_CTL) : OffTrigger r := by
  obtain rfl | rfl := h
  · exact ⟨⟨by decide, by decide⟩, by decide, by decide, fun k => by unfold A.PHS_TA_CTL A.FAB_CMD_STATUS; omega⟩
  · exact ⟨⟨by decide, by decide⟩, by decide, by decide, fun k => by unfold A.PHS_TA_CTL A.FAB_TRIG_CTL; omega⟩

theorem sendTriggerOp_spec {s : State} (active : activeKeeper s = true)
    (kind : ¬ (fget s F.FAB_TRIG_CTL_KIND = 0 ∨ 5 < fget s F.FAB_TRIG_CTL_KIND))
    (ahead : ¬ (fget s F.FAB_TRIG_CTL_KIND ≠ 5 ∧
      instantAt s A.FAB_TRIG_CYCLE_HI < phaseInstant s + fget s F.FAB_TRIG_LEAD_PU)) (idle : s.fab.trig = none) :
    fget (sendTriggerOp s) F.FAB_CMD_STATUS_RESULT = 0 ∧
      (sendTriggerOp s).fab.lastTrig = some ((rget s A.FAB_TRIG_LAST_ID + 1) % 2 ^ 32) ∧
      rget (sendTriggerOp s) A.FAB_TRIG_LAST_ID = (rget s A.FAB_TRIG_LAST_ID + 1) % 2 ^ 32 ∧
      (sendTriggerOp s).fab.trig.isSome = decide (2 ≤ fget s F.FAB_TRIG_CTL_REPEAT) := by
  rw [sendTriggerOp_eq active kind ahead idle]
  extract_lets b u
  have sent := kind_trigPayload ((rget s A.FAB_TRIG_LAST_ID + 1) % 2 ^ 32) rfl (show fget s F.FAB_TRIG_CTL_KIND < 16 by omega)
  have number : beAt b 8 4 = (rget s A.FAB_TRIG_LAST_ID + 1) % 2 ^ 32 :=
    (id_trigPayload _ _).trans (Nat.mod_mod _ _)
  obtain ⟨last, told, kept⟩ : u.fab.lastTrig = some (beAt b 8 4) ∧ rget u A.FAB_TRIG_LAST_ID = beAt b 8 4 % 2 ^ 32 ∧
      ∀ r, OffTrigger r → rget u r = rget (fput F.FAB_CMD_STATUS_RESULT 0 s) r :=
    actTrigger_spec (by rw [sent]; exact kind)
  have repeats : fget u F.FAB_TRIG_CTL_REPEAT = fget s F.FAB_TRIG_CTL_REPEAT :=
    (fget_congr (kept _ (offTrigger_of (.inr rfl)))).trans (fget_fput_ne _ _ (by decide))
  have result : fget u F.FAB_CMD_STATUS_RESULT = 0 :=
    (fget_congr (kept _ (offTrigger_of (.inl rfl)))).trans (fget_fput_same _ _ _ (by decide))
  rw [number] at last told
  clear_value u
  refine ⟨?_, ?_, ?_, ?_⟩
  · rw [fget_congr (rget_sendTrigCopy _ ⟨by decide, by decide⟩), ← result]
    rfl
  · rw [sendTrigCopy_fab rfl]
    exact last
  · rw [rget_sendTrigCopy _ ⟨by decide, by decide⟩, rget_withFab, told, Nat.mod_mod]
  · rw [sendTrigCopy_fab rfl, repeats]
    dsimp only
    by_cases more : 2 ≤ fget s F.FAB_TRIG_CTL_REPEAT
    · rw [if_pos (by omega), decide_eq_true more]
      rfl
    · rw [if_neg (by omega), decide_eq_false more]
      rfl

/-! ### Keys and registers -/

theorem swapKeys_fab (s : State) : (swapKeys s).fab = { s.fab with keyActive := s.fab.keyStandby, keyStandby := s.fab.keyActive } := by
  unfold swapKeys
  exact (same_raise _ _ _ _ _).part .fab (by decide)

theorem rget_swapKeys {r : Nat} (s : State) (h : r ≠ A.GBK_INT_STAT) : rget (swapKeys s) r = rget s r := by
  unfold swapKeys
  extract_lets _ _ u
  have same : u.regs = s.regs := rfl
  rw [rget_raise _ _ _ _ _ h, rget_congr same]

theorem offUp_portCfg {p : Nat} (hp : p < 72) : OffUp (A.FAB_PORT_CFG p) := by
  refine ⟨⟨?_, ?_⟩, ?_, fun q => ?_⟩ <;> unfold A.FAB_PORT_CFG
  · omega
  · omega
  · unfold A.FAB_STATUS
    omega
  · unfold A.FAB_PORT_STATUS
    omega

theorem rget_writeFabPort {p : Nat} (v : Nat) (s : State) (hp : p < 72) :
    rget (writeFabPort p v s) (A.FAB_PORT_CFG p) = rget (writeRw (A.FAB_PORT_CFG p) v s) (A.FAB_PORT_CFG p) := by
  unfold writeFabPort
  extract_lets _ u
  split
  · exact rget_fabDown _ _ (offUp_portCfg hp)
  · split
    · rw [rget_freeCells, rget_startHello _ hp (offUp_portCfg hp)]
    · exact rget_chooseUp _ (offUp_portCfg hp)

/-- A bit that the register's mask holds is the written one. -/
theorem bit_writeRw {a i v : Nat} (s : State) (hi : i < 32) (mask : bitAt (rwMask a) i = true) :
    bitAt (rget (writeRw a v s) a) i = bitAt v i := by
  unfold writeRw
  rw [rget_rput_same]
  unfold bitAt at *
  rw [Nat.testBit_mod_two_pow, Nat.testBit_or, Nat.testBit_and, Nat.testBit_and, Nat.testBit_xor, mask, decide_eq_true hi]
  have whole : full.testBit i = true := by
    rw [show full = 2 ^ 32 - 1 from rfl, Nat.testBit_two_pow_sub_one, decide_eq_true hi]
  simp [whole]

theorem portCfg_mask : ∀ p < 72, bitAt (rwMask (A.FAB_PORT_CFG p)) 0 = true := by decide +kernel

/-- Settles O41: what each command of the Keeper does (`takeoverOp_fab`, `stepDownNow_fab`, `sendTriggerOp_spec`, `swapKeys_fab`) and
the fabric registers it leaves alone. -/
theorem keeperCommands : Obligations.KeeperCommands := by
  have off {r : Nat} (h : FabReg r) := h.not_mem_settleRegs
  have cmd : FabReg A.FAB_CMD_STATUS := ⟨by decide, by decide⟩
  have status : FabReg A.FAB_STATUS := ⟨by decide, by decide⟩
  unfold Obligations.KeeperCommands
  refine ⟨?_, ?_, ?_, ?_, ?_, ?_, ?_, ?_⟩
  · rintro s ready role standby
    obtain ⟨t, run, st⟩ := hostCmd_settles (c := .takeover) (f := fun s => freeCells (takeoverOp s)) rfl rfl ready
    obtain ⟨state, result, term, -, -⟩ := takenOver_spec s
    obtain ⟨standing, last, seq⟩ := takeoverOp_fab role standby
    have fab : t.fab = (takeoverOp s).fab := st.fab.trans ((same_freeCells _).part .fab (by decide))
    have reg {r : Nat} (h : FabReg r) : rget t r = rget (takenOver s) r := by
      rw [st.reg r (off h), rget_freeCells, rget_takeoverOp role standby h]
    have told : rget t A.FAB_TERM = nextTerm s := (reg ⟨by decide, by decide⟩).trans term
    refine ⟨t, run, ?_, ?_, told, ?_, ?_, ?_⟩
    · rw [fget_congr (reg status), state]
    · rw [fget_congr (reg cmd), result]
    · rw [fab, standing, told]
    · rw [fab, last]
    · rw [fab, seq]
  · rintro s ready active
    obtain ⟨t, run, st⟩ := hostCmd_settles (c := .stepDown) (f := stepDownOp) rfl rfl ready
    rw [stepDownOp_eq active] at st
    refine ⟨t, run, ?_, ?_, ?_, ?_⟩
    · rw [st.fget (off status), fget_congr (rget_stepDownNow _ status), fget_fput_same _ _ _ (by decide)]
      rfl
    · rw [st.fget (off cmd), fget_congr (rget_stepDownNow _ cmd), fget_fput_ne _ _ (by decide)]
      exact fget_fput_same _ _ _ (by decide)
    · rw [st.fab, stepDownNow_fab, fput_fab]
    · rw [st.dp, (same_stepDownNow _).part .dp (by decide), fput_dp]
  · rintro k s ready active rfl low high ahead idle
    obtain ⟨t, run, st⟩ := hostCmd_settles (c := .sendTrigger) (f := fun s => freeCells (sendTriggerOp s)) rfl rfl ready
    obtain ⟨result, last, told, copies⟩ := sendTriggerOp_spec active (by omega) (fun h => by have := ahead h.1; omega) idle
    have fab : t.fab = (sendTriggerOp s).fab := st.fab.trans ((same_freeCells _).part .fab (by decide))
    have reg {r : Nat} (h : FabReg r) : rget t r = rget (sendTriggerOp s) r := by rw [st.reg r (off h), rget_freeCells]
    refine ⟨t, run, ?_, ?_, ?_, ?_⟩
    · rw [fget_congr (reg cmd), result]
    · rw [fab, last]
    · rw [reg ⟨by decide, by decide⟩, told]
    · rw [fab, copies]
  · rintro dt x s u he sends wait
    obtain ⟨t, run, st⟩ := timed_settles (c := .triggerRepeat dt) (f := fun s =>
      match s.fab.trig with
      | some x => if x.clk + clocksPerMs ≤ s.clk then freeCells (sendTrigCopy s) else s
      | none => s) rfl rfl he
    rw [sends] at st
    dsimp only at st
    rw [if_pos wait] at st
    have freed : (freeCells (sendTrigCopy u)).fab = (sendTrigCopy u).fab := (same_freeCells _).part .fab (by decide)
    exact ⟨t, run, st.fab.trans (freed.trans (sendTrigCopy_fab sends))⟩
  · rintro s ready standby
    obtain ⟨t, run, st⟩ := hostCmd_settles (c := .keySwitch) (f := keySwitchOp) rfl rfl ready
    unfold keySwitchOp at st
    rw [if_neg (by rw [Option.isNone_eq_false_iff.mpr standby]; decide)] at st
    refine ⟨t, run, ?_, ?_, ?_⟩
    · rw [st.fab, swapKeys_fab, fput_fab]
    · rw [st.fget (off cmd), fget_congr (rget_swapKeys _ (by decide))]
      exact fget_fput_same _ _ _ (by decide)
    · rw [st.dp, (same_swapKeys _).part .dp (by decide), fput_dp]
  · rintro dt x s u he found standby
    obtain ⟨t, run, st⟩ := timed_settles (c := .keySwitchInstant dt) (f := keySwitchDue) rfl rfl he
    unfold keySwitchDue at st
    rw [found] at st
    dsimp only at st
    rw [if_pos standby] at st
    exact ⟨t, run, st.fab.trans (swapKeys_fab _), st.dp.trans ((same_swapKeys _).part .dp (by decide))⟩
  · rintro v s ready loaded role open_ first low high
    obtain ⟨t, run, st⟩ := hostCmd_settles (c := .fabSelfWrite v) (f := writeFabSelf v.toNat) rfl rfl ready
    unfold writeFabSelf at st
    dsimp only at st
    rw [if_neg (by rw [Option.isNone_eq_false_iff.mpr loaded]; decide), if_pos ⟨role, open_, by simp [first], low, high⟩] at st
    refine ⟨t, run, ?_, ?_, ?_⟩
    · rw [st.fget (off ⟨by decide, by decide⟩), fget_fput_same _ _ _ (by decide)]
      exact Nat.mod_mod _ _
    · rw [st.fab, fput_fab]
    · rw [st.dp, fput_dp]
  · rintro p v s hp ready
    obtain ⟨t, run, st⟩ := hostCmd_settles (c := .fabPortCfgWrite p v) (f := writeFabPort p v.toNat) rfl (decide_eq_true hp) ready
    refine ⟨t, run, ?_⟩
    have bit := bit_writeRw (v := v.toNat) s (show 0 < 32 by decide) (portCfg_mask p hp)
    rw [← rget_writeFabPort _ _ hp, ← st.reg _ (off (offUp_portCfg hp).fab)] at bit
    rw [← bit, bitAt_eq_bits]
    rfl

end Machine
end Sys2Proof
end

section
/-! PROOF. Proofs/NotesAndTemplates.lean: the reading of the exception capture (O43). -/
namespace Sys2Proof
namespace Machine

/-- A device whose record of this clock's captures holds 33 bits for the exception capture of hearth 0. -/
def wideCapture : State := { State.reset with fresh := [(A.HTH_EXC_CAP 0, 2 ^ 32)] }

/-- Reading the exception capture leaves the low 32 bits of what was captured in this clock. -/
theorem rget_excCapRead (h : Nat) (s : State) :
    rget (excCapRead h s) (A.HTH_EXC_CAP h) = sget freshDefault s.fresh (A.HTH_EXC_CAP h) % 2 ^ 32 := rget_rput_same _ _ _

/-- Refutes O43: its fifth clause lets the register read back the whole record of this clock's capture, which the model keeps as a
natural number; a record of 2 ^ 32 is cut to the register's 32 bits and reads 0. -/
theorem not_moversNotesAndTemplates : ¬ Obligations.MoversNotesAndTemplates := by
  unfold Obligations.MoversNotesAndTemplates
  rintro ⟨-, -, -, -, captures, -⟩
  have free : held wideCapture = false := by decide +kernel
  obtain ⟨t, run, -, left, -⟩ := captures 0 wideCapture (by decide) free rfl
  have answers : exec (.hthExcCapRead 0) wideCapture = .next (after (excCapRead 0) wideCapture) :=
    hostRead_next (c := .hthExcCapRead 0) (excCapRead 0) rfl free rfl
  obtain rfl : t = after (excCapRead 0) wideCapture := Host.Outcome.next.inj (run.symm.trans answers)
  have st := settledFrom_after (excCapRead 0) wideCapture
  rw [st.reg _ (by decide), rget_excCapRead] at left
  exact absurd left (by decide)

end Machine
end Sys2Proof
end

section
/-! PROOF. Proofs/PorterCommands.lean: the commands of the Porter but SHARE (O45). -/
namespace Sys2Proof
namespace Machine

/-! ### A command is taken (R606) -/

/-- A command written while none is in progress. -/
theorem porStart_idle {op pool owner : Nat} {s : State} (idle : s.por.cmd = none) : porStart op pool owner s =
    fput F.POR_CMD_STATUS_OVERRUN 0 (fput F.POR_CMD_STATUS_BUSY 1 { s with por := { s.por with cmd := some (op, pool, owner) } }) := by
  unfold porStart
  rw [idle]
  rfl

theorem porStart_taken {c : Instr} {op pool owner : Nat} {s : State} (idle : s.por.cmd = none) (ready : HostReady s A.POR_CMD)
    (e : exec c s = hostCmd c A.POR_CMD s (porStart op pool owner)) (w : wellFormed c = true) :
    ∃ t, exec c s = .next t ∧ fget t F.POR_CMD_STATUS_BUSY = 1 ∧ fget t F.POR_CMD_STATUS_OVERRUN = 0 ∧
      t.por = { s.por with cmd := some (op, pool, owner) } ∧ t.mem = s.mem := by
  obtain ⟨t, run, st⟩ := hostCmd_settles e w ready
  rw [porStart_idle idle] at st
  refine ⟨t, run, ?_, ?_, ?_, ?_⟩
  · rw [st.fget (by decide), fget_fput_apart _ _ (by decide), fget_fput_same _ _ _ (by decide)]
    rfl
  · rw [st.fget (by decide), fget_fput_same _ _ _ (by decide)]
    rfl
  · rw [st.por, fput_por, fput_por]
  · rw [st.mem, fput_mem, fput_mem]

/-! ### What completes -/

theorem allocCounters_fit : ∀ k < 8, groupBase 22 + 9 * k < groupBase 27 := by decide

theorem roomMask_cmdTaken (k x : Nat) (s : State) : roomMask (cmdTaken k s) x = roomMask s x := rfl

/-- The first room of the cache of pool `k` is given the owners `m`. -/
def roomAllocated (k m x : Nat) (rest : List Nat) (s : State) : State :=
  rput A.POR_CMD_RESULT x (poolCtr k 0 (putMask x m (putCache k rest s)))

theorem porApply_alloc {k o x : Nat} {rest : List Nat} {s : State} (on : poolEn s k = true) (owners : fget s F.POR_CMD_ARG_ARG ≠ 0)
    (few : popcount 16 (fget s F.POR_CMD_ARG_ARG) ≤ 4) (first : cacheOf s k = x :: rest) :
    porApply 1 k o s = (porOk, roomAllocated k (fget s F.POR_CMD_ARG_ARG) x rest s) := by
  have room : allocRoom k (fget s F.POR_CMD_ARG_ARG) o s =
      (porOk, x, poolCtr k 0 (putMask x (fget s F.POR_CMD_ARG_ARG) (putCache k rest s))) := by
    unfold allocRoom
    rw [if_neg (not_not_intro on), first]
  unfold porApply
  dsimp only
  rw [if_neg (by decide), if_pos rfl, if_neg (by omega), room]
  rfl

theorem poolCtr_por (k i : Nat) (s : State) : (poolCtr k i s).por = s.por := rfl

theorem rget_poolCtr (k i : Nat) (s : State) (r : Nat) : rget (poolCtr k i s) r = rget s r := rget_bump _ _ _ _

theorem rget_putMask (x m : Nat) (s : State) (r : Nat) : rget (putMask x m s) r = rget s r := rfl

theorem rget_returnHandle (x : Nat) (s : State) (r : Nat) : rget (returnHandle x s) r = rget s r := by
  unfold returnHandle
  dsimp only
  split <;> rfl

theorem returnHandle_masks (x : Nat) (s : State) : (returnHandle x s).por.masks = s.por.masks := by
  unfold returnHandle
  dsimp only
  split <;> rfl

/-- A free by one of the room's owners. -/
theorem freeRoom_owner {x o : Nat} {s : State} (fits : handleFits s x = true) (owned : roomMask s x ≠ 0)
    (own : bitAt (roomMask s x) o = true) : (freeRoom x o s).1 = porOk ∧ (freeRoom x o s).2.por.masks = (putMask x (roomMask s x - 2 ^ o) s).por.masks ∧
      ∀ r, rget (freeRoom x o s).2 r = rget s r := by
  unfold freeRoom
  dsimp only
  rw [if_neg (not_not_intro fits), if_neg owned, if_neg (not_not_intro own)]
  refine ⟨rfl, ?_, fun r => ?_⟩
  · split
    · rw [returnHandle_masks, poolCtr_por, poolCtr_por]
    · rw [poolCtr_por]
  · split
    · rw [rget_returnHandle, rget_poolCtr, rget_poolCtr, rget_putMask]
    · rw [rget_poolCtr, rget_putMask]

/-- A room without owners is freed again: the interrupt and a record, and nothing else. -/
def doubleFree (x o : Nat) (s : State) : State := roomRecord 0x0C01 x o 0 (poolCtr (handlePool x) 5 (setInt A.POR_INT_STAT 2 s))

theorem freeRoom_free {x o : Nat} {s : State} (fits : handleFits s x = true) (free : roomMask s x = 0) :
    freeRoom x o s = (porDoubleFree, doubleFree x o s) := by
  unfold freeRoom
  dsimp only
  rw [if_neg (not_not_intro fits), if_pos free, free]
  rfl

theorem doubleFree_por (x o : Nat) (s : State) : (doubleFree x o s).por = s.por := (same_raise _ _ _ _ _).part .por (by decide)

theorem doubleFree_int (x o : Nat) (s : State) : bitAt (rget (doubleFree x o s) A.POR_INT_STAT) 2 = true := by
  unfold doubleFree roomRecord
  rw [rget_raise _ _ _ _ _ (by decide), rget_poolCtr]
  exact testBit_forBits _ _ _ (by decide)

/-- An interrupt bit that stands is not taken back by another. -/
theorem bitAt_setInt {a i : Nat} (j : Nat) {s : State} (hi : i < 32) (set : bitAt (rget s a) i = true) :
    bitAt (rget (setInt a j s) a) i = true := by
  unfold setInt forBits
  unfold bitAt at *
  rw [rget_rput_same, Nat.testBit_mod_two_pow, Nat.testBit_or, set, decide_eq_true hi]
  rfl

theorem cmdDone_int {r i : Nat} (s : State) (hi : i < 32) (set : bitAt (rget s A.POR_INT_STAT) i = true) :
    bitAt (rget (cmdDone r s) A.POR_INT_STAT) i = true := by
  unfold cmdDone
  refine bitAt_setInt 0 hi ?_
  rw [rget_fput_ne _ _ (by decide), rget_fput_ne _ _ (by decide), set]

section
variable {o x : Nat} {u : State} (hx : rget u A.POR_CMD_HANDLE = x) (turn : poolTurn u (handlePool x) = true)
include hx turn

/-- A command over a handle completes: the operation on the device with the command taken, and its result. -/
theorem porComplete_handle {op pool : Nat} {r : Nat × State} (hcmd : u.por.cmd = some (op, pool, o)) (low : 1 ≤ op) (high : op ≤ 4)
    (room : op ≠ 1) (applied : porApply op pool o (cmdTaken (handlePool x) u) = r) : porComplete u = cmdDone r.1 r.2 := by
  have pool' : porPool op pool u = handlePool x := by
    unfold porPool
    rw [if_neg room, hx]
  rw [porComplete_of_turn hcmd low high (by rw [pool']; exact turn), pool', applied]

theorem porComplete_free (hcmd : u.por.cmd = some (2, 0, o)) :
    porComplete u = cmdDone (freeRoom x o (cmdTaken (handlePool x) u)).1 (freeRoom x o (cmdTaken (handlePool x) u)).2 := by
  refine porComplete_handle hx turn hcmd (by decide) (by decide) (by decide) ?_
  rw [← hx]
  rfl

theorem porComplete_query (hcmd : u.por.cmd = some (4, 0, o)) (valid : handleValid u x = true) :
    porComplete u = cmdDone porOk (rput A.POR_CMD_RESULT (roomMask u x) (cmdTaken (handlePool x) u)) := by
  have valid' : handleValid (cmdTaken (handlePool x) u) (rget (cmdTaken (handlePool x) u) A.POR_CMD_HANDLE) = true := by
    rw [rget_cmdTaken, hx]
    exact valid
  refine porComplete_handle hx turn (r := (porOk, rput A.POR_CMD_RESULT (roomMask u x) (cmdTaken (handlePool x) u))) hcmd (by decide) (by decide) (by decide) ?_
  unfold porApply
  dsimp only
  rw [if_neg (by decide), if_neg (by decide), if_neg (by decide), if_neg (by decide), if_pos rfl, if_pos valid', rget_cmdTaken, hx,
    roomMask_cmdTaken]

end

/-- Settles O45: a command is taken (`porStart_taken`), and completes as its operation on the device with the command taken
(`porComplete_handle`). -/
theorem porterCommandsMoveOwners : Obligations.PorterCommandsMoveOwners := by
  unfold Obligations.PorterCommandsMoveOwners
  refine ⟨?_, ?_, ?_, ?_, ?_⟩
  · rintro op pool owner c s ready idle hp ho known
    simp only [List.mem_cons, Prod.mk.injEq, List.not_mem_nil, or_false] at known
    obtain ⟨rfl, rfl⟩ | ⟨rfl, rfl⟩ | ⟨rfl, rfl⟩ | ⟨rfl, rfl⟩ := known
    · exact porStart_taken (pool := pool) (owner := owner) idle ready rfl (by simp [wellFormed, hp, ho])
    · exact porStart_taken (pool := 0) (owner := owner) idle ready rfl (by simp [wellFormed, ho])
    · exact porStart_taken (pool := 0) (owner := owner) idle ready rfl (by simp [wellFormed, ho])
    · exact porStart_taken (pool := 0) (owner := 0) idle ready rfl rfl
  · rintro dt k o x rest s u hk ho he hcmd turn on owners few first
    obtain ⟨t, run, st⟩ := settledFrom_porCmdComplete he
    have completed : porComplete u = cmdDone porOk (roomAllocated k (fget u F.POR_CMD_ARG_ARG) x rest (cmdTaken k u)) := by
      rw [porComplete_of_turn hcmd (by decide) (by decide) turn]
      change cmdDone (porApply 1 k o (cmdTaken k u)).1 (porApply 1 k o (cmdTaken k u)).2 = _
      rw [porApply_alloc (s := cmdTaken k u) (x := x) (rest := rest) on owners few first]
      rfl
    rw [completed] at st
    have por : t.por = (putMask x (fget u F.POR_CMD_ARG_ARG) (putCache k rest (cmdTaken k u))).por := by
      rw [st.por, cmdDone_por, roomAllocated, rput_por, poolCtr_por]
    have regs {r : Nat} (h : PorReg r) : rget t r = rget (roomAllocated k (fget u F.POR_CMD_ARG_ARG) x rest (cmdTaken k u)) r :=
      (st.reg r h.not_mem_settleRegs).trans (rget_cmdDone _ _ h)
    refine ⟨t, run, (st.fget (by decide)).trans (result_cmdDone _ (by decide)), ?_, ?_, ?_,
      (st.fget (by decide)).trans (busy_cmdDone _ _), ?_⟩
    · rw [regs porReg_cmdResult, roomAllocated, rget_rput_same]
    · unfold cacheOf
      rw [por]
      exact (lget_lput u.por.caches k k rest).trans (if_pos rfl)
    · have kept : roomMask t x = roomMask (putMask x (fget u F.POR_CMD_ARG_ARG) (putCache k rest (cmdTaken k u))) x := by
        refine roomMask_congr (congrArg Por.masks por) ?_
        rw [regs (porReg_poolFirst x), roomAllocated, rget_rput_ne _ _ (cmdResult_ne_poolFirst _), rget_poolCtr]
      rw [kept, roomMask_putMask_same]
    · rw [st.ctr _ _ (by decide) (allocCounters_fit k hk)]
      exact ctr_bumpN_same 22 (9 * k + 0) 1 _
  · rintro dt o x s u ho he hcmd hx turn fits owned own
    obtain ⟨t, run, st⟩ := settledFrom_porCmdComplete he
    rw [porComplete_free hx turn hcmd] at st
    obtain ⟨result, masks, regs⟩ := freeRoom_owner (s := cmdTaken (handlePool x) u) (x := x) (o := o) fits owned own
    rw [result] at st
    refine ⟨t, run, (st.fget (by decide)).trans (result_cmdDone _ (by decide)), ?_, (st.fget (by decide)).trans (busy_cmdDone _ _)⟩
    have kept : roomMask t x = roomMask (putMask x (roomMask u x - 2 ^ o) (cmdTaken (handlePool x) u)) x := by
      refine roomMask_congr ?_ ?_
      · rw [st.por, cmdDone_por, masks]
        rfl
      · rw [st.reg _ (porReg_poolFirst x).not_mem_settleRegs, rget_cmdDone _ _ (porReg_poolFirst x), regs, rget_putMask]
    rw [kept, roomMask_putMask_same]
  · rintro dt o x s u ho he hcmd hx turn fits free
    obtain ⟨t, run, st⟩ := settledFrom_porCmdComplete he
    have mem := st.mem.trans ((same_porComplete u).part .mem (by decide))
    rw [porComplete_free hx turn hcmd, freeRoom_free (s := cmdTaken (handlePool x) u) fits free] at st
    have por : t.por = (cmdTaken (handlePool x) u).por := by rw [st.por, cmdDone_por, doubleFree_por]
    refine ⟨t, run, (st.fget (by decide)).trans (result_cmdDone _ (show porDoubleFree < 2 ^ 8 by decide)), ?_, ?_, ?_, ?_, mem⟩
    · rw [st.reg _ (by decide)]
      exact cmdDone_int _ (by decide) (doubleFree_int _ _ _)
    · rw [por, cmdTaken_cmd]
    · rw [por, cmdTaken_masks]
    · rw [por, cmdTaken_caches]
  · rintro dt o x s u he hcmd hx turn valid
    obtain ⟨t, run, st⟩ := settledFrom_porCmdComplete he
    have mem := st.mem.trans ((same_porComplete u).part .mem (by decide))
    rw [porComplete_query hx turn hcmd valid] at st
    have por : t.por = (cmdTaken (handlePool x) u).por := by rw [st.por, cmdDone_por, rput_por]
    refine ⟨t, run, (st.fget (by decide)).trans (result_cmdDone _ (by decide)), ?_, ?_, ?_, ?_, mem⟩
    · rw [st.reg _ porReg_cmdResult.not_mem_settleRegs, rget_cmdDone _ _ porReg_cmdResult, rget_rput_same]
    · rw [por, cmdTaken_cmd]
    · rw [por, cmdTaken_masks]
    · rw [por, cmdTaken_caches]

end Machine
end Sys2Proof
end

section
/-! PROOF. Proofs/DraymanChannels.lean: channels of the Drayman that run, stop and resume (O48). -/
namespace Sys2Proof
namespace Machine

/-! ### Registers of a channel -/

theorem dryBlock_chanReg {ch : DryChan} {o : Nat} (ok : dryChanOk ch = true) (ho : o < 0x40) : dryBlock (dryBase ch + o) = true := by
  unfold dryBlock
  rw [decide_eq_true_iff]
  cases ch with
  | rx c =>
    have hc : c < 64 := of_decide_eq_true ok
    change 0x160000 ≤ A.DRY_RX_CFG c + o ∧ A.DRY_RX_CFG c + o < 0x180000
    unfold A.DRY_RX_CFG
    omega
  | tx c =>
    have hc : c < 64 := of_decide_eq_true ok
    change 0x160000 ≤ A.DRY_TX_CFG c + o ∧ A.DRY_TX_CFG c + o < 0x180000
    unfold A.DRY_TX_CFG
    omega
  | err e =>
    have he : e < 16 := of_decide_eq_true ok
    change 0x160000 ≤ A.DRY_ERR_CFG e + o ∧ A.DRY_ERR_CFG e + o < 0x180000
    unfold A.DRY_ERR_CFG
    omega

theorem ne_of_dryBlock {r a : Nat} (h : dryBlock r = true) (out : dryBlock a = false) : a ≠ r := by
  rintro rfl
  exact Bool.false_ne_true (out.symm.trans h)

theorem dryChanOk_chanOf {ch : DataChan} (ok : dataChanOk ch = true) : dryChanOk (chanOf ch) = true := by
  cases ch <;> exact ok

theorem chanOff_ne (ch : DryChan) {i j : Nat} (h : i ≠ j) : dryBase ch + i ≠ dryBase ch + j := fun e => h (Nat.add_left_cancel e)

section
variable {ch : DryChan} {o : Nat} (st : Nat) (s : State)

theorem rget_setChan (h : 8 ≠ o) : rget (setChan ch st s) (dryBase ch + o) = rget s (dryBase ch + o) :=
  rget_fput_ne _ _ (chanOff_ne ch h)

theorem rget_putKind (h : 8 ≠ o) : rget (fput (fKind ch) st s) (dryBase ch + o) = rget s (dryBase ch + o) :=
  rget_fput_ne _ _ (chanOff_ne ch h)

theorem rget_putEn (h : 4 ≠ o) : rget (fput (fEn ch) st s) (dryBase ch + o) = rget s (dryBase ch + o) :=
  rget_fput_ne _ _ (chanOff_ne ch h)

theorem chanState_putKind : chanState (fput (fKind ch) st s) ch = chanState s ch :=
  fget_fput_below (f := fKind ch) (g := fState ch) st s rfl (show 0 + 3 ≤ 8 by decide) (show 8 ≤ 32 by decide)

theorem chanState_putEn : chanState (fput (fEn ch) st s) ch = chanState s ch := chanState_congr (rget_putEn st s (by decide))

theorem rget_chanInt {i : Nat} (h : 0x28 ≠ o) : rget (chanInt ch i s) (dryBase ch + o) = rget s (dryBase ch + o) :=
  rget_setInt_ne _ _ (chanOff_ne ch h)

theorem rget_dryRaise {r : Nat} (c u a b : Nat) (h : dryBlock r = true) : rget (raise c u a b s) r = rget s r :=
  rget_raise _ _ _ _ _ (ne_of_dryBlock h (by decide)).symm

end

theorem chanEn_congr {s t : State} {ch : DryChan} (h : rget t (dryBase ch + 4) = rget s (dryBase ch + 4)) : chanEn t ch = chanEn s ch := by
  unfold chanEn fbit
  rw [fget_congr (f := fEn ch) h]

theorem chanEn_putEn (ch : DryChan) (v : Nat) (s : State) : chanEn (fput (fEn ch) v s) ch = (v % 2 == 1) := by
  unfold chanEn fbit
  rw [fget_fput_same (fEn ch) v s (show 0 + 1 ≤ 32 by decide)]
  rfl

theorem SettledFrom.dryReg {u t : State} (st : SettledFrom u t) {r : Nat} (h : dryBlock r = true) : rget t r = rget u r :=
  st.reg r (not_mem_settleRegs_of_dryBlock h)

theorem SettledFrom.chanState {u t : State} (st : SettledFrom u t) {ch : DryChan} (ok : dryChanOk ch = true) :
    chanState t ch = Machine.chanState u ch := chanState_congr (st.dryReg (dryBlock_chanReg ok (by decide)))

theorem SettledFrom.chanEn {u t : State} (st : SettledFrom u t) {ch : DryChan} (ok : dryChanOk ch = true) :
    chanEn t ch = Machine.chanEn u ch := chanEn_congr (st.dryReg (dryBlock_chanReg ok (by decide)))

/-! ### What the channels hold -/

theorem rget_setDisabling (ch : DataChan) (b : Bool) (s : State) (r : Nat) : rget (setDisabling ch b s) r = rget s r := by
  cases ch <;> rfl

theorem rget_forgetAhead (ch : DataChan) (s : State) (r : Nat) : rget (forgetAhead ch s) r = rget s r := by
  cases ch <;> rfl

theorem rget_putRx (c : Nat) (x : RxChan) (s : State) (r : Nat) : rget (putRx c x s) r = rget s r := rfl

theorem rxCh_putRx (c : Nat) (x : RxChan) (s : State) : rxCh (putRx c x s) c = x := sget_sput_same _ _ _

theorem txCh_putTxCh (c : Nat) (x : TxChan) (s : State) : txCh (putTxCh c x s) c = x := sget_sput_same _ _ _

theorem errSt_putErr (e : Nat) (x : ErrSt) (s : State) : errSt (putErr e x s) e = x := sget_sput_same _ _ _

theorem rxCh_congr {s t : State} (h : t.dry = s.dry) (c : Nat) : rxCh t c = rxCh s c := by
  unfold rxCh
  rw [h]

theorem txCh_congr {s t : State} (h : t.dry = s.dry) (c : Nat) : txCh t c = txCh s c := by
  unfold txCh
  rw [h]

theorem errSt_congr {s t : State} (h : t.dry = s.dry) (e : Nat) : errSt t e = errSt s e := by
  unfold errSt
  rw [h]

theorem addr64_congr {s t : State} {hi lo : Nat} (h : rget t hi = rget s hi) (l : rget t lo = rget s lo) :
    addr64 t hi lo = addr64 s hi lo := by
  unfold addr64
  rw [h, l]

theorem addr64_lt (s : State) (hi lo : Nat) : addr64 s hi lo < 2 ^ 64 := by
  have := rget_lt s hi
  have := rget_lt s lo
  unfold addr64
  omega

theorem curAddr_setCur {ch : DataChan} {a : Nat} (s : State) (fits : a < 2 ^ 64) : curAddr (setCur ch a s) ch = a := by
  unfold curAddr setCur rput64 addr64
  rw [rget_rput_ne _ _ (chanOff_ne _ (by decide)), rget_rput_same, rget_rput_same]
  omega

theorem rget_setCur {ch : DataChan} {o : Nat} (a : Nat) (s : State) (hi : 0x14 ≠ o) (lo : 0x18 ≠ o) :
    rget (setCur ch a s) (dryBase (chanOf ch) + o) = rget s (dryBase (chanOf ch) + o) :=
  rget_rput64_ne _ _ (chanOff_ne _ hi) (chanOff_ne _ lo)

/-! ### Enabling and posting (R622) -/

/-- The first state of the channel that is enabled. -/
def chanFresh (ch : DataChan) (s : State) : State :=
  match ch with
  | .rx c => putRx c { rxDefault c with atFirst := true } s
  | .tx c => putTxCh c { txChDefault c with atFirst := true } s

theorem rget_chanFresh (ch : DataChan) (s : State) (r : Nat) : rget (chanFresh ch s) r = rget s r := by
  cases ch <;> rfl

theorem atFirst_chanFresh (ch : DataChan) (s : State) : atFirst (chanFresh ch s) ch = true := by
  cases ch with
  | rx c => exact congrArg RxChan.atFirst (rxCh_putRx c _ s)
  | tx c => exact congrArg TxChan.atFirst (txCh_putTxCh c _ s)

theorem atFirst_congr {s t : State} (ch : DataChan) (h : t.dry = s.dry) : atFirst t ch = atFirst s ch := by
  cases ch with
  | rx c => exact congrArg RxChan.atFirst (rxCh_congr h c)
  | tx c => exact congrArg TxChan.atFirst (txCh_congr h c)

/-- The channel's registers as the write of EN = 1 leaves them, before CUR and COMPLETED. -/
def chanOn (ch : DataChan) (s : State) : State :=
  fput (fKind (chanOf ch)) 0 (setChan (chanOf ch) stRunning (fput (fEn (chanOf ch)) 1 s))

/-- The channel's registers as the write of EN = 1 leaves them. -/
def chanEnabled (ch : DataChan) (s : State) : State :=
  let v := setCur ch (addr64 (chanOn ch s) (dryBase (chanOf ch) + 0xC) (dryBase (chanOf ch) + 0x10)) (chanOn ch s)
  rput (dryBase (chanOf ch) + 0x20) (rget (chanOn ch s) (dryBase (chanOf ch) + 0x1C)) v

theorem enableChan_eq {ch : DataChan} {s : State} (off : chanEn s (chanOf ch) = false) (disabled : chanState s (chanOf ch) = stDisabled) :
    enableChan ch s = chanFresh ch (chanEnabled ch s) := by
  unfold enableChan
  dsimp only
  rw [if_neg (Bool.eq_false_iff.mp off), if_neg (not_not_intro disabled)]
  cases ch <;> rfl

theorem rget_chanOn {ch : DataChan} {o : Nat} (s : State) (h4 : 4 ≠ o) (h8 : 8 ≠ o) :
    rget (chanOn ch s) (dryBase (chanOf ch) + o) = rget s (dryBase (chanOf ch) + o) := by
  unfold chanOn
  rw [rget_putKind _ _ h8, rget_setChan _ _ h8, rget_putEn _ _ h4]

theorem rget_chanEnabled {ch : DataChan} {o : Nat} (s : State) (hi : 0x14 ≠ o) (lo : 0x18 ≠ o) (completed : 0x20 ≠ o) :
    rget (chanEnabled ch s) (dryBase (chanOf ch) + o) = rget (chanOn ch s) (dryBase (chanOf ch) + o) := by
  unfold chanEnabled
  rw [rget_rput_ne _ _ (chanOff_ne _ completed), rget_setCur _ _ hi lo]

theorem held32_chanEnabled (ch : DataChan) (s : State) : held32 (chanEnabled ch s) ch = 0 := by
  have completed : rget (chanEnabled ch s) (dryBase (chanOf ch) + 0x20) = rget (chanOn ch s) (dryBase (chanOf ch) + 0x1C) :=
    (rget_rput_same _ _ _).trans (Nat.mod_eq_of_lt (rget_lt _ _))
  unfold held32
  rw [completed, rget_chanEnabled s (by decide) (by decide) (by decide)]
  omega

theorem curAddr_chanEnabled (ch : DataChan) (s : State) :
    curAddr (chanEnabled ch s) ch = addr64 s (dryBase (chanOf ch) + 0xC) (dryBase (chanOf ch) + 0x10) := by
  have same : addr64 (chanOn ch s) (dryBase (chanOf ch) + 0xC) (dryBase (chanOf ch) + 0x10) =
      addr64 s (dryBase (chanOf ch) + 0xC) (dryBase (chanOf ch) + 0x10) :=
    addr64_congr (rget_chanOn s (by decide) (by decide)) (rget_chanOn s (by decide) (by decide))
  rw [← same, ← curAddr_setCur (ch := ch) (chanOn ch s) (addr64_lt (chanOn ch s) _ _)]
  exact addr64_congr (rget_rput_ne _ _ (chanOff_ne _ (by decide))) (rget_rput_ne _ _ (chanOff_ne _ (by decide)))

theorem chanState_chanEnabled (ch : DataChan) (s : State) : chanState (chanEnabled ch s) (chanOf ch) = stRunning := by
  rw [chanState_congr (rget_chanEnabled s (by decide) (by decide) (by decide)), chanOn, chanState_putKind,
    chanState_setChan _ (by decide)]

theorem chanEn_chanEnabled (ch : DataChan) (s : State) : chanEn (chanEnabled ch s) (chanOf ch) = true := by
  have on : rget (chanOn ch s) (dryBase (chanOf ch) + 4) = rget (fput (fEn (chanOf ch)) 1 s) (dryBase (chanOf ch) + 4) :=
    (rget_putKind _ _ (by decide)).trans (rget_setChan _ _ (by decide))
  rw [chanEn_congr (rget_chanEnabled s (by decide) (by decide) (by decide)), chanEn_congr on, chanEn_putEn]
  rfl

/-! ### Descriptors are read (R624) -/

theorem rget_haltChan {ch : DryChan} {o : Nat} (kind arg : Nat) (s : State) (ok : dryChanOk ch = true) (ho : o < 0x40) (int : 0x28 ≠ o) :
    rget (haltChan ch kind arg s) (dryBase ch + o) = rget (fput (fKind ch) kind (setChan ch stHalted s)) (dryBase ch + o) := by
  have inside := dryBlock_chanReg ok ho
  have told (v : State) (h : v = chanInt ch 1 (fput (fKind ch) kind (setChan ch stHalted s))) :
      rget v (dryBase ch + o) = rget (fput (fKind ch) kind (setChan ch stHalted s)) (dryBase ch + o) := by
    rw [h, rget_chanInt _ int]
  unfold haltChan
  cases ch with
  | err e =>
    dsimp only
    rw [rget_dryRaise _ _ _ _ _ inside, rget_bump, told _ rfl]
  | rx c =>
    dsimp only
    rw [rget_dryRaise _ _ _ _ _ inside, told _ rfl]
  | tx c =>
    dsimp only
    rw [rget_dryRaise _ _ _ _ _ inside, told _ rfl]

/-- A channel that halts, and the kind of its error. -/
theorem haltChan_spec {ch : DryChan} {kind arg : Nat} (s : State) (ok : dryChanOk ch = true) (low : kind < 16) :
    chanState (haltChan ch kind arg s) ch = stHalted ∧ fget (haltChan ch kind arg s) (fKind ch) = kind := by
  have reg := rget_haltChan (o := 8) kind arg s ok (by decide) (by decide)
  constructor
  · rw [chanState_congr reg, chanState_putKind, chanState_setChan _ (by decide)]
  · rw [fget_congr (f := fKind ch) reg, fget_fput_same (fKind ch) kind _ (show 8 + 4 ≤ 32 by decide)]
    exact Nat.mod_eq_of_lt low

theorem goodNext {ch : DataChan} {a : Nat} {s : State} (good : atFirst s ch = true ∨ (a ≠ 0 ∧ a % 64 = 0)) :
    ¬ (! atFirst s ch && (a == 0 || a % 64 != 0)) = true := by
  obtain first | ⟨some_, aligned⟩ := good
  · simp [first]
  · simp [some_, aligned]

theorem fetchDesc_granted {ch : DataChan} {n k a : Nat} {s : State} (due : fetchDue s ch = true)
    (grant : readGrant s (chanReq (chanOf ch)) = true) (ahead : aheadOf s ch = (n, k, a))
    (good : atFirst s ch = true ∨ (a ≠ 0 ∧ a % 64 = 0)) :
    fetchDesc ch false s = storeDesc ch a (readTaken (chanReq (chanOf ch)) s) := by
  unfold fetchDesc
  rw [if_neg (not_not_intro due), ahead]
  dsimp only
  rw [if_neg (goodNext good), if_neg Bool.false_ne_true, if_pos grant]

theorem fetchDesc_error {ch : DataChan} {n k a : Nat} {s : State} (due : fetchDue s ch = true) (ahead : aheadOf s ch = (n, k, a))
    (good : atFirst s ch = true ∨ (a ≠ 0 ∧ a % 64 = 0)) : fetchDesc ch true s = haltChan (chanOf ch) 3 (a % 2 ^ 32) s := by
  unfold fetchDesc
  rw [if_neg (not_not_intro due), ahead]
  dsimp only
  rw [if_neg (goodNext good), if_pos rfl]

/-! ### Stopping and going on (R647, R651) -/

/-- A data channel at its boundary, with the interrupt set. -/
def chanRest (ch : DataChan) (s : State) : State :=
  setDisabling ch false (setChan (chanOf ch) (if isDisabling s ch then stDisabled else stStopped) (forgetAhead ch s))

theorem chanStopped_data {ch : DataChan} {s : State} (stopping : chanState s (chanOf ch) = stStopping)
    (boundary : atBoundary s (chanOf ch) = true) : chanStopped (chanOf ch) s = chanRest ch (chanInt (chanOf ch) 2 s) := by
  unfold chanStopped
  rw [if_neg (not_or.mpr ⟨not_not_intro stopping, not_not_intro boundary⟩)]
  cases ch <;> rfl

theorem isDisabling_chanInt (ch : DataChan) (i : Nat) (s : State) : isDisabling (chanInt (chanOf ch) i s) ch = isDisabling s ch := by
  cases ch <;> rfl

theorem chanStopped_err {e : Nat} {s : State} (stopping : chanState s (.err e) = stStopping)
    (boundary : atBoundary s (.err e) = true) : chanStopped (.err e) s =
      setChan (.err e) stStopped (putErr e { errSt (chanInt (.err e) 2 s) e with waitClk := none, words := [] } (chanInt (.err e) 2 s)) := by
  unfold chanStopped
  rw [if_neg (not_or.mpr ⟨not_not_intro stopping, not_not_intro boundary⟩)]

theorem resumeChan_stopped {ch : DryChan} {s : State} (stopped : chanState s ch = stStopped) : resumeChan ch s = setChan ch stRunning s := by
  unfold resumeChan
  cases ch with
  | err e => exact if_pos stopped
  | rx c => exact if_pos stopped
  | tx c => exact if_pos stopped

theorem resumeChan_halted {ch : DataChan} {s : State} (halted : chanState s (chanOf ch) = stHalted) :
    resumeChan (chanOf ch) s = fput (fKind (chanOf ch)) 0 (setChan (chanOf ch) stRunning (forgetAhead ch s)) := by
  have other : ¬ chanState s (chanOf ch) = stStopped := by
    rw [halted]
    decide
  unfold resumeChan
  cases ch with
  | rx c => exact (if_neg other).trans (if_pos halted)
  | tx c => exact (if_neg other).trans (if_pos halted)

/-! ### Disabling (R651) -/

theorem ringDepth_below : ∀ c < 64, A.TM_Q_DEPTH (qport (qkey 76 c)) (qnum (qkey 76 c)) < 0x160000 ∧
    A.TM_PORT_USED (qport (qkey 76 c)) < 0x160000 := by decide

theorem rget_returnCharges {p q r : Nat} (c : Copy) (s : State) (depth : A.TM_Q_DEPTH p q ≠ r) (used : A.TM_PORT_USED p ≠ r)
    (all : A.TM_SHARED_USED ≠ r ∧ A.TM_MGMT_USED ≠ r) : rget (returnCharges p q c s) r = rget s r := by
  unfold returnCharges
  extract_lets _ u v w x
  have hu : rget u r = rget s r := rfl
  clear_value u
  have hv : rget v r = rget u r := rget_fput_ne _ _ depth
  clear_value v
  have hw : rget w r = rget v r := rget_fput_ne _ _ used
  clear_value w
  have hx : rget x r = rget w r := rget_fput_ne _ _ all.1
  clear_value x
  rw [rget_fput_ne _ _ all.2, hx, hw, hv, hu]

theorem rget_ringReturn {c r : Nat} (x : Copy) (s : State) (hc : c < 64) (h : dryBlock r = true) :
    rget (returnCharges (qport (qkey 76 c)) (qnum (qkey 76 c)) x s) r = rget s r := by
  have ⟨depth, used⟩ := ringDepth_below c hc
  have low : 0x160000 ≤ r := (of_decide_eq_true h).1
  exact rget_returnCharges x s (by omega) (by omega) ⟨ne_of_dryBlock h (by decide), ne_of_dryBlock h (by decide)⟩

theorem rget_disabledDrop {c r : Nat} (s : State) (hc : c < 64) (h : dryBlock r = true) : rget (disabledDrop c s) r = rget s r := by
  unfold disabledDrop dropQueued
  dsimp only
  rw [rget_foldl (fun x y => ?_)]
  · rfl
  · split
    · rw [rget_bump, rget_ringReturn _ _ hc h]
    · rw [rget_dryRaise _ _ _ _ _ h, rget_putRx, rget_bump, rget_ringReturn _ _ hc h]

/-- The state in which the write of EN = 0 leaves the channel. -/
def offState (st : Nat) : Nat := if st = stRunning ∨ st = stStopping then stStopping else stDisabled

/-- The channel's registers as the write of EN = 0 leaves them. -/
def chanOff (ch : DataChan) (s : State) : State := setChan (chanOf ch) (offState (chanState s (chanOf ch))) (fput (fEn (chanOf ch)) 0 s)

theorem rget_disableChan {ch : DataChan} {o : Nat} {s : State} (ok : dataChanOk ch = true) (on : chanEn s (chanOf ch) = true)
    (ho : o < 0x40) : rget (disableChan ch s) (dryBase (chanOf ch) + o) = rget (chanOff ch s) (dryBase (chanOf ch) + o) := by
  have inside := dryBlock_chanReg (dryChanOk_chanOf ok) ho
  unfold disableChan
  extract_lets d u st v
  have same : st = chanState s (chanOf ch) := chanState_putEn _ _
  have hv : rget v (dryBase (chanOf ch) + o) = rget (chanOff ch s) (dryBase (chanOf ch) + o) := by
    unfold v chanOff offState
    rw [← same]
    split
    · exact rget_setDisabling _ _ _ _
    · rfl
  clear_value v
  rw [if_neg (not_not_intro on), ← hv]
  cases ch with
  | tx c => rfl
  | rx c =>
    have hc : c < 64 := of_decide_eq_true ok
    dsimp only
    rw [rget_freeCells, rget_disabledDrop _ hc inside, rget_putRx]

theorem chanOff_spec (ch : DataChan) (s : State) : chanEn (chanOff ch s) (chanOf ch) = false ∧
    chanState (chanOff ch s) (chanOf ch) = offState (chanState s (chanOf ch)) := by
  constructor
  · rw [chanOff, chanEn_congr (rget_setChan _ _ (by decide)), chanEn_putEn]
    rfl
  · refine chanState_setChan _ ?_
    unfold offState
    split
    · decide
    · decide

end Machine
end Sys2Proof
end

section
/-! PROOF. Proofs/ChannelCommands.lean: the commands of the Drayman's channels (O48). -/
namespace Sys2Proof
namespace Machine

/-- Settles O48: what each command leaves in the channel's registers (`chanEnabled`, `haltChan_spec`, `chanRest`, `chanOff`) and in
what the channel holds. -/
theorem channelsRunStopAndResume : Obligations.ChannelsRunStopAndResume := by
  unfold Obligations.ChannelsRunStopAndResume
  refine ⟨?_, ?_, ?_, ?_, ?_, ?_, ?_, ?_, ?_, ?_, ?_⟩
  · rintro ch s ok ready off disabled
    obtain ⟨t, run, st⟩ := hostCmd_settles (c := .channelEnable ch) (f := enableChan ch) rfl ok ready
    have mem := st.mem.trans ((same_enableChan ch s).part .mem (by decide))
    rw [enableChan_eq off disabled] at st
    have ok' := dryChanOk_chanOf ok
    have reg {o : Nat} (ho : o < 0x40) : rget t (dryBase (chanOf ch) + o) = rget (chanEnabled ch s) (dryBase (chanOf ch) + o) :=
      (st.dryReg (dryBlock_chanReg ok' ho)).trans (rget_chanFresh _ _ _)
    refine ⟨t, run, ?_, ?_, ?_, ?_, ?_, mem⟩
    · rw [chanEn_congr (reg (by decide)), chanEn_chanEnabled]
    · rw [chanState_congr (reg (by decide)), chanState_chanEnabled]
    · rw [atFirst_congr ch st.dry, atFirst_chanFresh]
    · rw [← held32_chanEnabled ch s]
      unfold held32
      rw [reg (by decide), reg (by decide)]
    · rw [← curAddr_chanEnabled ch s]
      exact addr64_congr (reg (by decide)) (reg (by decide))
  · rintro ch v s ok ready
    obtain ⟨t, run, st⟩ := hostCmd_settles (c := .descriptorsPosted ch v) (f := postDescriptors ch v.toNat) rfl ok ready
    have inside : dryBlock (dryBase (chanOf ch) + 0x1C) = true := dryBlock_chanReg (dryChanOk_chanOf ok) (by decide)
    have frame := same_postDescriptors ch v.toNat s
    refine ⟨t, run, ?_, st.dry.trans (frame.part .dry (by decide)), st.mem.trans (frame.part .mem (by decide))⟩
    rw [st.dryReg inside]
    unfold postDescriptors
    dsimp only
    split
    next far =>
      have outside : dryBase (chanOf ch) + 0x1C ∉ errorRegs := fun h => by
        have apart : ∀ a ∈ errorRegs, dryBlock a = false := by decide
        exact Bool.false_ne_true ((apart _ h).symm.trans inside)
      rw [if_neg (by omega)]
      exact (Writes.lockedWrite (L := []) (fun _ _ _ _ => rfl)) _ (not_mem_settleRegs_of_dryBlock inside) outside (by simp)
    next near =>
      rw [if_pos (by omega), rget_rput_same, Nat.mod_eq_of_lt v.isLt]
  · rintro dt c n k a s u hc he due grant ahead good
    obtain ⟨t, run, st⟩ := timed_settles (c := .descriptorFetch dt (.rx c) false) (f := fetchDesc (.rx c) false) rfl (decide_eq_true hc) he
    have mem := st.mem.trans ((same_fetchDesc (.rx c) false u).part .mem (by decide))
    rw [fetchDesc_granted due grant ahead good] at st
    refine ⟨t, run, ?_, mem⟩
    rw [rxCh_congr st.dry]
    exact congrArg RxChan.ahead (rxCh_putRx c _ _)
  · rintro dt c n k a s u hc he due grant ahead good
    obtain ⟨t, run, st⟩ := timed_settles (c := .descriptorFetch dt (.tx c) false) (f := fetchDesc (.tx c) false) rfl (decide_eq_true hc) he
    have mem := st.mem.trans ((same_fetchDesc (.tx c) false u).part .mem (by decide))
    rw [fetchDesc_granted due grant ahead good] at st
    refine ⟨t, run, ?_, mem⟩
    rw [txCh_congr st.dry]
    exact congrArg TxChan.ahead (txCh_putTxCh c _ _)
  · rintro dt n k a ch s u ok he due ahead good
    obtain ⟨t, run, st⟩ := timed_settles (c := .descriptorFetch dt ch true) (f := fetchDesc ch true) rfl ok he
    rw [fetchDesc_error due ahead good] at st
    have ok' := dryChanOk_chanOf ok
    have frame := same_haltChan (chanOf ch) 3 (a % 2 ^ 32) u
    obtain ⟨halted, kind⟩ := haltChan_spec (kind := 3) (arg := a % 2 ^ 32) u ok' (by decide)
    refine ⟨t, run, ?_, ?_, st.dry.trans (frame.part .dry (by decide)), st.mem.trans (frame.part .mem (by decide))⟩
    · rw [st.chanState ok', halted]
    · rw [fget_congr (f := fKind (chanOf ch)) (st.dryReg (dryBlock_chanReg ok' (by decide))), kind]
  · rintro ch s ok ready runs
    obtain ⟨t, run, st⟩ := hostCmd_settles (c := .dryStop ch) (f := stopChan ch) rfl ok ready
    unfold stopChan at st
    dsimp only at st
    rw [if_pos runs] at st
    refine ⟨t, run, ?_, st.dry.trans (fput_dry _ _ _), st.mem.trans (fput_mem _ _ _)⟩
    rw [st.chanState ok, chanState_setChan _ (by decide)]
  · rintro dt ch s u ok he stopping boundary
    have ok' := dryChanOk_chanOf ok
    obtain ⟨t, run, st⟩ := timed_settles (c := .channelStopped dt (chanOf ch)) (f := chanStopped (chanOf ch)) rfl ok' he
    have mem := st.mem.trans ((same_chanStopped (chanOf ch) u).part .mem (by decide))
    rw [chanStopped_data stopping boundary] at st
    refine ⟨t, run, ?_, ?_, mem⟩
    · rw [st.chanState ok', chanRest, chanState_congr (rget_setDisabling _ _ _ _), isDisabling_chanInt]
      refine chanState_setChan _ ?_
      split
      · decide
      · decide
    · rw [st.dryReg (dryBlock_chanReg ok' (by decide)), chanRest, rget_setDisabling, rget_setChan _ _ (by decide), rget_forgetAhead]
      exact bitAt_chanInt _ _ (by decide)
  · rintro dt e s u hd he stopping boundary
    have ok' : dryChanOk (.err e) = true := decide_eq_true hd
    obtain ⟨t, run, st⟩ := timed_settles (c := .channelStopped dt (.err e)) (f := chanStopped (.err e)) rfl ok' he
    have mem := st.mem.trans ((same_chanStopped (.err e) u).part .mem (by decide))
    rw [chanStopped_err stopping boundary] at st
    refine ⟨t, run, ?_, ?_, mem⟩
    · rw [st.chanState ok', chanState_setChan _ (by decide)]
    · rw [errSt_congr (st.dry.trans (fput_dry _ _ _)), errSt_putErr]
  · rintro ch s ok ready stopped
    obtain ⟨t, run, st⟩ := hostCmd_settles (c := .resumeChannel ch) (f := resumeChan ch) rfl ok ready
    rw [resumeChan_stopped stopped] at st
    refine ⟨t, run, ?_, st.dry.trans (fput_dry _ _ _), st.mem.trans (fput_mem _ _ _)⟩
    rw [st.chanState ok, chanState_setChan _ (by decide)]
  · rintro ch s ok ready halted
    have ok' := dryChanOk_chanOf ok
    obtain ⟨t, run, st⟩ := hostCmd_settles (c := .resumeChannel (chanOf ch)) (f := resumeChan (chanOf ch)) rfl ok' ready
    have mem := st.mem.trans ((same_resumeChan (chanOf ch) s).part .mem (by decide))
    rw [resumeChan_halted halted] at st
    refine ⟨t, run, ?_, ?_, mem⟩
    · rw [st.chanState ok', chanState_putKind, chanState_setChan _ (by decide)]
    · rw [fget_congr (f := fKind (chanOf ch)) (st.dryReg (dryBlock_chanReg ok' (by decide)))]
      exact fget_fput_same (fKind (chanOf ch)) 0 _ (show 8 + 4 ≤ 32 by decide)
  · rintro ch s ok ready on
    have ok' := dryChanOk_chanOf ok
    obtain ⟨t, run, st⟩ := hostCmd_settles (c := .channelDisable ch) (f := disableChan ch) rfl ok ready
    have reg {o : Nat} (ho : o < 0x40) : rget t (dryBase (chanOf ch) + o) = rget (chanOff ch s) (dryBase (chanOf ch) + o) :=
      (st.dryReg (dryBlock_chanReg ok' ho)).trans (rget_disableChan ok on ho)
    obtain ⟨off, state⟩ := chanOff_spec ch s
    refine ⟨t, run, ?_, ?_, st.mem.trans ((same_disableChan ch s).part .mem (by decide))⟩
    · rw [chanEn_congr (reg (by decide)), off]
    · rw [chanState_congr (reg (by decide)), state]
      rfl

end Machine
end Sys2Proof
end

section
/-! PROOF. Proofs/ReceivedCopies.lean: copies that are handed over and written to host memory (O49). -/
namespace Sys2Proof
namespace Machine

/-! ### Host memory reads back what was written -/

theorem memRead_memWrite {a : Nat} {l : List Byte} (s : State) (fits : l.length ≤ 2 ^ 64) : memRead (memWrite a l s) a l.length = l := by
  refine List.ext_getElem (by simp [memRead]) fun i hi hi' => ?_
  simp only [memRead, List.getElem_map, List.getElem_range]
  rw [memByte_memWrite_at a l s fits i hi']

theorem memRead_congr {s t : State} (h : t.mem = s.mem) (a n : Nat) : memRead t a n = memRead s a n := by
  unfold memRead memByte
  rw [h]

theorem burstLen_le (size a n : Nat) : burstLen size a n ≤ n := Nat.min_le_left _ _

/-- A burst of `n` bytes of a copy reads back from where it was written. -/
theorem memRead_burst {a n k : Nat} {l : List Byte} (s : State) (left : n ≤ l.length - k) (small : n ≤ 2 ^ 64) :
    memRead (memWrite a ((l.drop k).take n) s) a n = (l.drop k).take n := by
  have length : ((l.drop k).take n).length = n := by
    rw [List.length_take, List.length_drop, Nat.min_eq_left left]
  have read := memRead_memWrite (a := a) (l := (l.drop k).take n) s (by omega)
  rwa [length] at read

/-- No burst is longer than a page. -/
theorem burstLen_small (size a n : Nat) : burstLen size a n ≤ 2 ^ 64 := by
  unfold burstLen
  omega

/-! ### A copy leaves its queue (R627) -/

theorem queueOf_congr {s t : State} (h : t.dp = s.dp) (k : Nat) : queueOf t k = queueOf s k := by
  unfold queueOf
  rw [h]

theorem handOver_dp (r : Nat) (c : Copy) (rest : List Copy) (s : State) :
    (handOver r c rest s).dp = (leaveQueue (qkey 76 r) c rest s).dp := by
  unfold handOver
  extract_lets n
  generalize leaveQueue (qkey 76 r) c rest s = u
  have sojourn : (noteSojourn (qkey 76 r) c u).dp = u.dp := (same_noteSojourn _ _ _).part .dp (by decide)
  have shaped : (chargeShapers 76 r c n (noteSojourn (qkey 76 r) c u)).dp = (noteSojourn (qkey 76 r) c u).dp :=
    (same_chargeShapers _ _ _ _ _).part .dp (by decide)
  rw [returnCharges_dp, shaped, sojourn]

theorem queueOf_handOver (r : Nat) (c : Copy) (rest : List Copy) (s : State) : queueOf (handOver r c rest s) (qkey 76 r) = rest := by
  rw [queueOf_congr (handOver_dp r c rest s), queueOf_leaveQueue]

theorem rx_settled {u t : State} (st : SettledFrom u t) (r : Nat) : rxCh t r = rxCh u r := rxCh_congr st.dry r

theorem tx_settled {u t : State} (st : SettledFrom u t) (c : Nat) : txCh t c = txCh u c := txCh_congr st.dry c

/-- The write of copy `c` begins, in the rooms that `roomsFor` finds. -/
def beganWork (r k z n : Nat) (c : Copy) (s : State) : RxWork :=
  { copy := c, data := hostBytes s c, head := headroom s r, owners := ringOwners s r, pool := k, size := z, need := n
    rooms := [], written := 0, wrote := 0 }

section
variable {r k z n : Nat} {c : Copy} {rest : List Copy} {s : State}

theorem copyHandover_taken (on : chanEn s (.rx r) = true) (paced : handPaced s r = true) (head : wholeHead s r = some (c, rest))
    (fed : starved s r = false) (rooms : roomsFor s r (headroom s r + (hostBytes s c).length) = some (k, z, n))
    (running : chanState s (.rx r) = stRunning) (free : (rxCh s r).work = none) (dma : dmaOn s = true)
    (holds : ceilDiv n 6 ≤ held32 s (.rx r)) :
    copyHandover r s = putRx r { rxCh s r with work := some (beganWork r k z n c s) } (handOver r c rest s) := by
  have awake : s.hif.d3hot = false := by
    unfold dmaOn at dma
    rw [Bool.and_eq_true, Bool.not_eq_true'] at dma
    exact dma.2
  unfold copyHandover
  rw [if_neg (by simp [on, awake]), if_neg (not_not_intro paced), head]
  dsimp only
  rw [if_neg (Bool.eq_false_iff.mp fed), rooms]
  dsimp only
  rw [if_pos ⟨running, by rw [free]; rfl, dma, holds⟩]
  rfl

end

/-! ### A burst into a room (R603) -/

theorem rxCh_memWrite (a : Nat) (l : List Byte) (s : State) (r : Nat) : rxCh (memWrite a l s) r = rxCh s r :=
  rxCh_congr (memWrite_dry _ _ _) r

theorem roomAddr_congr {s t : State} (x : Nat) (h : t.regs = s.regs) : roomAddr t x = roomAddr s x := by
  have same (r : Nat) : rget t r = rget s r := rget_congr h r
  unfold roomAddr addr64 poolRoom
  simp only [same, fget_congr (same _)]

theorem writeBurst_spec {r i o x n : Nat} {w : RxWork} {s u : State} (spot : roomSpot w = (i, o)) (room : w.rooms[i]? = some x)
    (place : roomAddr s x = roomAddr u x) (size : writeSize s = writeSize u)
    (burst : burstLen (writeSize u) (roomAddr u x + o) (min (w.data.length - w.written) (w.size - o)) = n) :
    (rxCh (writeBurst r w s) r).work = some { w with written := w.written + n } ∧
      memRead (writeBurst r w s) (roomAddr u x + o) n = (w.data.drop w.written).take n ∧ (writeBurst r w s).por = s.por ∧
      (writeBurst r w s).regs = s.regs := by
  unfold writeBurst
  rw [spot]
  dsimp only
  rw [room]
  dsimp only
  rw [place, size, burst]
  have short : n ≤ w.data.length - w.written := by
    rw [← burst]
    exact (burstLen_le _ _ _).trans (Nat.min_le_left _ _)
  refine ⟨?_, memRead_burst _ short (by rw [← burst]; exact burstLen_small _ _ _), memWrite_por _ _ _, memWrite_regs _ _ _⟩
  rw [rxCh_memWrite, rxCh_putRx]

/-! ### The descriptors of a copy (R628) -/

theorem length_leBytes (n v : Nat) : (leBytes n v).length = n := by
  induction n generalizing v with
  | zero => rfl
  | succ n ih => rw [leBytes, List.length_cons, ih]

theorem length_rxDesc (s : State) (w : RxWork) (j n : Nat) : (rxDesc s w j n).length = 56 := by
  have head : (rxHead s w).length = 24 := by
    unfold rxHead stampRecord
    simp only [List.length_append, length_leBytes]
  have first : (if j = 0 then rxHead s w else List.replicate 24 0).length = 24 := by
    split
    · exact head
    · exact List.length_replicate
  unfold rxDesc fitBytes
  simp only [List.length_append, List.length_take, List.length_replicate, length_leBytes, first]
  omega

theorem descWrites_small {s : State} {w : RxWork} {n : Nat} {l : List (Nat × Nat)} {k : Nat} :
    ((descWrites s w n l).getD k (0, [])).2.length ≤ 56 := by
  have bodies : ∀ e ∈ (l.take n).zipIdx.map (fun e => (e.1.1, rxDesc s w e.2 n)), e.2.length = 56 := by
    intro e he
    obtain ⟨x, -, rfl⟩ := List.mem_map.mp he
    exact length_rxDesc _ _ _ _
  have all : ∀ e ∈ descWrites s w n l, e.2.length ≤ 56 := by
    unfold descWrites
    extract_lets d
    intro e he
    split at he
    · obtain ⟨x, hx, rfl⟩ := List.mem_map.mp he
      exact (bodies x hx).le
    · obtain hx | hx := List.mem_append.mp he
      · obtain ⟨x, inside, rfl⟩ := List.mem_map.mp hx
        have := bodies x inside
        simp only [List.length_take]
        omega
      · obtain ⟨x, inside, rfl⟩ := List.mem_map.mp hx
        have := bodies x (List.mem_reverse.mp inside)
        simp only [List.length_drop]
        omega
  rw [List.getD_eq_getElem?_getD]
  cases found : (descWrites s w n l)[k]? with
  | none => exact Nat.zero_le _
  | some e => exact all e (List.mem_of_getElem? found)

theorem rxReport_spec (r : Nat) (s : State) : (rxCh (rxReport r s) r).work = (rxCh s r).work ∧
    (rxCh (rxReport r s) r).ahead = (rxCh s r).ahead ∧ (rxReport r s).tal = s.tal := by
  unfold rxReport
  extract_lets x
  split
  · have kept : rxCh (chanInt (.rx r) 0 (putRx r { x with count := 0, since := none } s)) r = { x with count := 0, since := none } :=
      rxCh_putRx _ _ s
    exact ⟨by rw [kept], by rw [kept], rfl⟩
  · exact ⟨by rw [rxCh_putRx], by rw [rxCh_putRx], rfl⟩

theorem takeDone_tal (ch : DataChan) (n a : Nat) (s : State) : (takeDone ch n a s).tal = s.tal := by
  unfold takeDone setCur rput64
  dsimp only
  rw [rput_tal, rput_tal, rput_tal]

/-- A counter of the same group that is not the one counted. -/
theorem ctr_bumpN_other {g i j : Nat} (n : Nat) (s : State) (h : i ≠ j) : ctr (bumpN g i n s) g j = ctr s g j :=
  ctr_bumpN_ne n s (fun e => h (Nat.add_left_cancel e))

/-- A copy that is complete. -/
theorem copyDone_spec (r n : Nat) (w : RxWork) (s : State) :
    (rxCh (copyDone r n w s) r).work = none ∧ (rxCh (copyDone r n w s) r).ahead = (rxCh s r).ahead.drop n ∧
      ctr (copyDone r n w s) 24 (3 * r) = (ctr s 24 (3 * r) + 1) % 2 ^ 64 ∧
      ctr (copyDone r n w s) 24 (3 * r + 1) = (ctr s 24 (3 * r + 1) + w.data.length) % 2 ^ 64 ∧
      (copyDone r n w s).mem = s.mem := by
  unfold copyDone
  extract_lets x u v
  have tal : u.tal = s.tal := takeDone_tal (.rx r) n _ s
  have mem : u.mem = s.mem := (same_takeDone (.rx r) n _ s).part .mem (by decide)
  clear_value u
  have tal' : v.tal = s.tal := tal
  have mem' : v.mem = s.mem := mem
  have held : rxCh v r = { x with work := none, ahead := x.ahead.drop n } := rxCh_putRx _ _ _
  clear_value v
  obtain ⟨work, ahead, counted⟩ := rxReport_spec r (bumpN 24 (3 * r + 1) w.data.length (bump 24 (3 * r) v))
  have counters : ∀ i, ctr (freeCells (rxReport r (bumpN 24 (3 * r + 1) w.data.length (bump 24 (3 * r) v)))) 24 i =
      ctr (bumpN 24 (3 * r + 1) w.data.length (bump 24 (3 * r) v)) 24 i := fun i => ctr_congr (congrArg Tal.live counted) 24 i
  have freed : (freeCells (rxReport r (bumpN 24 (3 * r + 1) w.data.length (bump 24 (3 * r) v)))).dry =
      (rxReport r (bumpN 24 (3 * r + 1) w.data.length (bump 24 (3 * r) v))).dry := (same_freeCells _).part .dry (by decide)
  have start (i : Nat) : ctr v 24 i = ctr s 24 i := ctr_congr (congrArg Tal.live tal') 24 i
  refine ⟨?_, ?_, ?_, ?_, ?_⟩
  · rw [rxCh_congr freed, work]
    exact congrArg RxChan.work held
  · rw [rxCh_congr freed, ahead]
    exact congrArg RxChan.ahead held
  · rw [counters, ctr_bumpN_other _ _ (by omega), bump, ctr_bumpN_same, start]
  · rw [counters, ctr_bumpN_same, bump, ctr_bumpN_other _ _ (by omega), start]
  · exact Eq.trans ((same_freeCells _).part .mem (by decide)) (Eq.trans ((same_rxReport _ _).part .mem (by decide)) mem')

end Machine
end Sys2Proof
end

section
/-! PROOF. Proofs/TransmittedFrames.lean: frames that are read from host memory and descriptors that complete (O49). -/
namespace Sys2Proof
namespace Machine

/-! ### Counters of the Drayman -/

theorem rxCounters_fit (i : Nat) (h : i < 192) : groupBase 24 + i < groupBase 27 :=
  (Nat.add_lt_add_left h _).trans_le (by decide)

theorem txCounters_fit (i : Nat) (h : i < 256) : groupBase 25 + i < groupBase 27 :=
  (Nat.add_lt_add_left h _).trans_le (by decide)

theorem ctr_txRaise {i : Nat} (c u a b : Nat) (s : State) (h : i < 256) : ctr (raise c u a b s) 25 i = ctr s 25 i :=
  (eventOnly_raise c u a b s).ctr 25 i (by decide) ((txCounters_fit i h).trans_le (by decide))

theorem ctr_noCell {p i : Nat} (s : State) (hp : p < 77) (h : i < 256) : ctr (noCell p s) 25 i = ctr s 25 i := by
  have below : groupBase 11 + 308 ≤ groupBase 25 := by decide
  unfold noCell
  rw [ctr_txRaise _ _ _ _ _ h]
  change ctr (bumpN 11 (4 * p + 3) 1 s) 25 i = _
  exact ctr_bumpN_ne _ _ (Nat.ne_of_lt (lt_of_lt_of_le (Nat.add_lt_add_left (by omega) _) (below.trans (Nat.le_add_right _ _))))

/-! ### A frame is gathered (R632, R633) -/

theorem hostCells_spec (f : TxFrame) (n : Nat) (s : State) :
    (hostCells f n s).1.head = f.head ∧ (hostCells f n s).1.body = f.body ∧
      (∀ i < 256, ctr (hostCells f n s).2 25 i = ctr s 25 i) ∧ (hostCells f n s).2.dry = s.dry := by
  refine ⟨?_, ?_, ?_, (same_hostCells f n s).part .dry (by decide)⟩ <;> unfold hostCells <;> dsimp only
  · split
    · rfl
    · split <;> rfl
  · split
    · rfl
    · split <;> rfl
  · intro i hi
    split
    · rfl
    · split
      · rfl
      · exact ctr_noCell s (by decide) hi

/-- Channel `c` once its frame has ended at descriptor `d`, whose read descriptors become `l`. -/
def frameEnded (c : Nat) (l : List TxDesc) (s : State) : State := putTxCh c { txCh s c with ahead := l, frame := none, part := [] } s

theorem descRead_good {c : Nat} {f : TxFrame} {d : TxDesc} {b : List Byte} {s : State} (last : descEop d = true)
    (length : leAt f.head 8 2 = f.body.length + b.length) : descRead c f d b 0 s =
      hostFrame c { f with descs := f.descs + 1, body := f.body ++ b }
        (frameEnded c (putRead { d with read := true, remain := segTotal d.bytes - b.length } (txCh s c).ahead) s) := by
  have right : ¬ (0 = 0 ∧ descEop d = true ∧ leAt f.head 8 2 ≠ (f.body ++ b).length) := by
    rw [List.length_append, length]
    simp
  unfold descRead
  extract_lets x g kind l
  have sound : kind = 0 := if_neg right
  have body : g = { f with descs := f.descs + 1, body := f.body ++ b } := by
    unfold g
    rw [if_pos rfl]
  clear_value kind g
  subst sound body
  rw [if_pos last, endFrame, if_pos rfl, if_pos rfl, frameEnded]

theorem descRead_bad {c k : Nat} {f : TxFrame} {d : TxDesc} {b : List Byte} {s : State} (last : descEop d = true) (bad : k ≠ 0) :
    ∃ l, descRead c f d b k s = raise 0x0D02 c k (d.addr % 2 ^ 32) (chanInt (.tx c) 3 (txCtr c 2 (frameEnded c l s))) := by
  refine ⟨markKind k (putRead { d with read := true, remain := segTotal d.bytes - b.length } (txCh s c).ahead), ?_⟩
  unfold descRead
  extract_lets x g kind' l
  have same : kind' = k := if_neg (fun h => bad h.1)
  clear_value kind'
  subst same
  rw [if_pos last, if_neg bad]
  exact if_neg bad

theorem hostFrame_spec (c : Nat) (f : TxFrame) (s : State) : (hostFrame c f s).dry = s.dry ∧
    ctr (hostFrame c f s) 25 (4 * c) = (ctr s 25 (4 * c) + 1) % 2 ^ 64 ∧
    ctr (hostFrame c f s) 25 (4 * c + 1) = (ctr s 25 (4 * c + 1) + f.body.length) % 2 ^ 64 := by
  have tal : (hostFrame c f s).tal = (bumpN 25 (4 * c + 1) f.body.length (txCtr c 0 s)).tal := by
    unfold hostFrame
    dsimp only
    split
    · rfl
    · split <;> rfl
  have live := congrArg Tal.live tal
  refine ⟨(same_hostFrame c f s).part .dry (by decide), ?_, ?_⟩
  · rw [ctr_congr live, ctr_bumpN_other _ _ (by omega), txCtr, bump]
    exact ctr_bumpN_same 25 (4 * c + 0) 1 s
  · rw [ctr_congr live, ctr_bumpN_same, txCtr, bump, ctr_bumpN_other _ _ (by omega)]

section
variable {c a n : Nat} {d : TxDesc} {s : State} (works : txWorks s c = true) (whole : (txCh s c).skip = false)
  (next : txNext s c = some d)
include works whole next

/-- The frame of channel `c` that is being gathered, or one that begins at descriptor `d`. -/
def gathered (c : Nat) (d : TxDesc) (s : State) : TxFrame :=
  (txCh s c).frame.getD { head := d.bytes, descs := 0, body := [], kind := 0, cells := 0, lost := false }

theorem readFrame_burst (waits : txWaits s c d = false) (kind : txKind s c d = 0)
    (more : (txCh s c).part.length < segTotal d.bytes) (grant : readGrant s (chanReq (.tx c)) = true)
    (spot : segSpot s (usedSegs d.bytes) (txCh s c).part.length = (a, n)) :
    readFrame c s =
      let b := (txCh s c).part ++ memRead s a (burstLen (readSize s) a n)
      let r := hostCells (gathered c d s) ((gathered c d s).body.length + b.length) (readTaken (chanReq (.tx c)) s)
      if b.length < segTotal d.bytes then putTxCh c { txCh s c with frame := some r.1, part := b } r.2
      else descRead c r.1 d b 0 r.2 := by
  unfold readFrame
  extract_lets x
  rw [if_neg (not_not_intro works), if_neg (Bool.eq_false_iff.mp whole), next]
  dsimp only
  rw [if_neg (Bool.eq_false_iff.mp waits), if_pos ⟨kind, more⟩, if_neg (not_not_intro grant), spot]
  rfl

theorem readFrame_bad (bad : txKind s c d ≠ 0) :
    readFrame c s = descRead c (gathered c d s) d (txCh s c).part (txKind s c d) s := by
  have waits : txWaits s c d = false := by
    unfold txWaits
    rw [beq_eq_false_iff_ne.mpr bad, Bool.and_false, Bool.false_and]
  unfold readFrame
  extract_lets x
  rw [if_neg (not_not_intro works), if_neg (Bool.eq_false_iff.mp whole), next]
  dsimp only
  rw [if_neg (Bool.eq_false_iff.mp waits), if_neg (fun h => bad h.1)]
  rfl

end

/-! ### A descriptor completes (R634) -/

theorem rget_freeRoom {r : Nat} (x o : Nat) (s : State) (int : A.POR_INT_STAT ≠ r) (gbk : r ≠ A.GBK_INT_STAT) :
    rget (freeRoom x o s).2 r = rget s r := by
  unfold freeRoom
  extract_lets k m m' u
  have hu : rget u r = rget s r := (rget_poolCtr _ _ _ _).trans (rget_putMask _ _ _ _)
  clear_value u
  split
  · unfold badHandle roomRecord
    dsimp only
    rw [rget_setInt_ne _ _ int, rget_raise _ _ _ _ _ gbk, rget_poolCtr]
  · split
    · dsimp only
      rw [roomRecord, rget_raise _ _ _ _ _ gbk, rget_poolCtr, rget_setInt_ne _ _ int]
    · split
      · dsimp only
        rw [roomRecord, rget_raise _ _ _ _ _ gbk, rget_poolCtr, rget_setInt_ne _ _ int]
      · dsimp only
        split
        · rw [rget_returnHandle, rget_poolCtr, hu]
        · exact hu

theorem rget_freeSegs {r : Nat} (d : TxDesc) (s : State) (h : dryBlock r = true) : rget (freeSegs d s) r = rget s r := by
  unfold freeSegs
  refine rget_foldl (fun x g => ?_) _ s
  rw [rget_freeRoom _ _ _ (ne_of_dryBlock h (by decide)) (ne_of_dryBlock h (by decide)).symm]
  rfl

theorem leAt_eight_lt (l : List Byte) (k : Nat) : leAt l k 8 < 2 ^ 64 := by
  have small (i : Nat) : (l.getD i 0).toNat < 256 := (l.getD i 0).isLt
  have := small k
  have := small (k + 1)
  have := small (k + 2)
  have := small (k + 3)
  have := small (k + 4)
  have := small (k + 5)
  have := small (k + 6)
  have := small (k + 7)
  unfold leAt
  simp only [List.range_succ_eq_map, List.range_zero, List.map_cons, List.map_nil, List.foldr_cons, List.foldr_nil, Nat.add_zero,
    Nat.succ_eq_add_one, Nat.zero_add, Nat.mul_zero]
  omega

/-- The STATUS word of descriptor `d` as it completes. -/
def doneStatus (d : TxDesc) : Nat :=
  2 ^ 31 + (descStatus d.bytes &&& 0x60000000) + (if d.kind = 0 then 0 else 2 ^ 28 + d.kind * 2 ^ 24) + d.remain % 2 ^ 24

/-- Descriptor `d` is complete, but for its interrupt. -/
def descDone (c : Nat) (d : TxDesc) (s : State) : State :=
  takeDone (.tx c) 1 (leAt d.bytes 0 8) (memWrite (d.addr + 60) (leBytes 4 (doneStatus d)) (freeSegs d s))

theorem completeDesc_eq (c : Nat) (d : TxDesc) (s : State) :
    completeDesc c d s = if bitAt (descCtl d.bytes) 4 then chanInt (.tx c) 0 (descDone c d s) else descDone c d s := rfl

theorem completeDesc_same (c : Nat) (d : TxDesc) (s : State) : (completeDesc c d s).mem = (descDone c d s).mem ∧
    (completeDesc c d s).dry = (descDone c d s).dry ∧
    ∀ o, 0x28 ≠ o → rget (completeDesc c d s) (dryBase (.tx c) + o) = rget (descDone c d s) (dryBase (.tx c) + o) := by
  rw [completeDesc_eq]
  generalize descDone c d s = u
  split
  · exact ⟨rfl, rfl, fun o ho => rget_chanInt u ho⟩
  · exact ⟨rfl, rfl, fun _ _ => rfl⟩

theorem descDone_spec {c : Nat} (d : TxDesc) (s : State) (hc : c < 64) :
    memRead (descDone c d s) (d.addr + 60) 4 = leBytes 4 (doneStatus d) ∧ (descDone c d s).dry = s.dry ∧
      curAddr (descDone c d s) (.tx c) = leAt d.bytes 0 8 ∧
      rget (descDone c d s) (dryBase (.tx c) + 0x20) = (rget s (dryBase (.tx c) + 0x20) + 1) % 2 ^ 32 := by
  have inside : dryBlock (dryBase (.tx c) + 0x20) = true := dryBlock_chanReg (decide_eq_true hc) (by decide)
  have freed : (freeSegs d s).dry = s.dry := (same_freeSegs d s).part .dry (by decide)
  have kept := rget_freeSegs d s inside
  unfold descDone
  generalize freeSegs d s = u at *
  refine ⟨?_, ?_, curAddr_setCur _ (leAt_eight_lt _ _), ?_⟩
  · rw [memRead_congr ((same_takeDone _ _ _ _).part .mem (by decide))]
    exact memRead_memWrite u (by rw [length_leBytes]; decide)
  · exact Eq.trans ((same_takeDone _ _ _ _).part .dry (by decide)) ((memWrite_dry _ _ _).trans freed)
  · unfold takeDone
    dsimp only
    refine (rget_setCur (ch := .tx c) (o := 0x20) _ _ (by decide) (by decide)).trans ((rget_rput_same _ _ _).trans ?_)
    rw [Nat.mod_mod, rget_memWrite]
    exact congrArg (fun v => (v + 1) % 2 ^ 32) kept

end Machine
end Sys2Proof
end

section
/-! PROOF. Proofs/DraymanFrames.lean: frames between host memory and the device (O49). -/
namespace Sys2Proof
namespace Machine

theorem haltChan_int {ch : DryChan} (kind arg : Nat) (s : State) (ok : dryChanOk ch = true) :
    bitAt (rget (haltChan ch kind arg s) (dryBase ch + 0x28)) 1 = true := by
  have inside : dryBlock (dryBase ch + 0x28) = true := dryBlock_chanReg ok (by decide)
  have set := bitAt_chanInt (i := 1) ch (fput (fKind ch) kind (setChan ch stHalted s)) (by decide)
  unfold haltChan
  generalize chanInt ch 1 (fput (fKind ch) kind (setChan ch stHalted s)) = u at *
  cases ch with
  | err e =>
    dsimp only
    rw [rget_dryRaise _ _ _ _ _ inside, rget_bump, set]
  | rx c =>
    dsimp only
    rw [rget_dryRaise _ _ _ _ _ inside, set]
  | tx c =>
    dsimp only
    rw [rget_dryRaise _ _ _ _ _ inside, set]

theorem queueOf_putRx (r : Nat) (x : RxChan) (s : State) (k : Nat) : queueOf (putRx r x s) k = queueOf s k := rfl

/-- What a failed read of a segment of channel `c` leaves of its frame, before the channel halts. -/
theorem txReadError_eq {c : Nat} {d : TxDesc} {s : State} (next : txNext s c = some d) (due : segDue s c = true) :
    ∃ kind l v, kind < 16 ∧ txReadError c s = haltChan (.tx c) kind (d.addr % 2 ^ 32) v ∧
      txCh v c = { txCh s c with ahead := l, frame := none, part := [], skip := !descEop d } := by
  have works : txWorks s c = true := by
    unfold segDue at due
    rw [Bool.and_eq_true, Bool.and_eq_true] at due
    exact due.1.1
  unfold txReadError
  extract_lets x
  rw [if_neg (not_not_intro works), next]
  dsimp only
  rw [if_neg (not_not_intro due)]
  split
  · exact ⟨2, _, _, by decide, rfl, txCh_putTxCh c _ _⟩
  · exact ⟨1, _, _, by decide, rfl, txCh_putTxCh c _ _⟩

theorem writeTaken_por (q : Nat) (s : State) : (writeTaken q s).por = s.por := rfl

theorem putMask_caches (x m : Nat) (s : State) : (putMask x m s).por.caches = s.por.caches := rfl

theorem putCache_caches (k : Nat) (l : List Nat) (s : State) : (putCache k l s).por.caches = lput s.por.caches k l := rfl

theorem usePool_caches (k n : Nat) (s : State) : (usePool k n s).por.caches = s.por.caches := rfl

theorem putMask_masks (x m : Nat) (s : State) : (putMask x m s).por.masks = sput (fun _ => 0) s.por.masks (slotOf s x) (m % 65536) := rfl

theorem putCache_masks (k : Nat) (l : List Nat) (s : State) : (putCache k l s).por.masks = s.por.masks := rfl

theorem usePool_masks (k n : Nat) (s : State) : (usePool k n s).por.masks = s.por.masks := rfl

theorem slotOf_congr {s t : State} (x : Nat) (h : t.regs = s.regs) : slotOf t x = slotOf s x := by
  unfold slotOf poolFirst
  rw [fget_congr (rget_congr h _)]

/-- The next room of a copy is taken from its pool, with the ring's owners. -/
def roomTaken (r x : Nat) (rest : List Nat) (w : RxWork) (s : State) : State :=
  writeTaken (chanReq (.rx r)) (poolCtr w.pool 0 (putMask x w.owners (putCache w.pool rest (usePool w.pool 1 s))))

section
variable (r x : Nat) (rest : List Nat) (w : RxWork) (s : State)

theorem roomTaken_same : Same [.tal, .por, .dry] s (roomTaken r x rest w s) := by
  unfold roomTaken
  exact .comp (same_writeTaken _ _) (by decide) (.comp (same_poolCtr _ _ _) (by decide) (.comp (same_putMask _ _ _) (by decide)
    (.comp (same_putCache _ _ _) (by decide) ((same_usePool _ _ _).mono (by decide)))))

theorem roomTaken_regs : (roomTaken r x rest w s).regs = s.regs := regs_of_same (roomTaken_same r x rest w s) (by decide)

theorem roomTaken_hif : (roomTaken r x rest w s).hif = s.hif := (roomTaken_same r x rest w s).part .hif (by decide)

theorem roomTaken_por : (roomTaken r x rest w s).por = (putMask x w.owners (putCache w.pool rest (usePool w.pool 1 s))).por := by
  unfold roomTaken
  rw [writeTaken_por, poolCtr_por]

theorem roomTaken_caches : (roomTaken r x rest w s).por.caches = lput s.por.caches w.pool rest := by
  rw [roomTaken_por, putMask_caches, putCache_caches, usePool_caches]

theorem roomTaken_masks : (roomTaken r x rest w s).por.masks = (putMask x w.owners s).por.masks := by
  have first : slotOf (putCache w.pool rest (usePool w.pool 1 s)) x = slotOf s x := slotOf_congr x rfl
  rw [roomTaken_por, putMask_masks, putMask_masks, first, putCache_masks, usePool_masks]

theorem writeSize_roomTaken : writeSize (roomTaken r x rest w s) = writeSize s := by
  unfold writeSize
  rw [roomTaken_hif]

end

section
variable {r n : Nat} {w : RxWork} {s : State} (work : (rxCh s r).work = some w) (grant : writeGrant s (chanReq (.rx r)) = true)
include work grant

theorem roomAllocation_burst {i o x : Nat} (more : w.written < w.data.length) (spot : roomSpot w = (i, o)) (room : w.rooms[i]? = some x) :
    roomAllocation r s = writeBurst r w (writeTaken (chanReq (.rx r)) s) := by
  have inside : (roomSpot w).1 < w.rooms.length := by
    rw [spot]
    exact (List.getElem?_eq_some_iff.mp room).1
  unfold roomAllocation
  rw [work]
  dsimp only
  rw [if_neg (by simp [grant]; omega), if_pos ⟨by simp; omega, inside⟩]

theorem roomAllocation_room {o x : Nat} {rest : List Nat} (more : w.written < w.data.length) (spot : roomSpot w = (w.rooms.length, o))
    (turn : poolTurn s w.pool = true) (on : poolEn s w.pool = true) (first : cacheOf s w.pool = x :: rest) :
    roomAllocation r s = writeBurst r { w with rooms := w.rooms ++ [x] } (roomTaken r x rest w s) := by
  have room : allocRoom w.pool w.owners r (usePool w.pool 1 s) =
      (porOk, x, poolCtr w.pool 0 (putMask x w.owners (putCache w.pool rest (usePool w.pool 1 s)))) := by
    unfold allocRoom
    rw [if_neg (not_not_intro (show poolEn (usePool w.pool 1 s) w.pool = true from on)),
      show cacheOf (usePool w.pool 1 s) w.pool = x :: rest from first]
  unfold roomAllocation
  rw [work]
  dsimp only
  rw [if_neg (by simp [grant]; omega), if_neg (by rw [spot]; simp), if_neg (not_not_intro turn), room]
  exact if_pos rfl

/-- The next write to the descriptors of a copy. -/
theorem copyComplete_eq {e : Nat × List Byte} (whole : w.data.length ≤ w.written) (rooms : w.need ≤ w.rooms.length)
    (count : ceilDiv w.need 6 = n) (ahead : n ≤ (rxCh s r).ahead.length)
    (write : (descWrites s w n (rxCh s r).ahead).getD w.wrote (0, []) = e) :
    copyComplete r s =
      let v := memWrite e.1 e.2 (writeTaken (chanReq (.rx r)) s)
      if w.wrote + 1 < (descWrites s w n (rxCh s r).ahead).length then
        putRx r { rxCh s r with work := some { w with wrote := w.wrote + 1 } } v
      else copyDone r n w v := by
  unfold copyComplete
  dsimp only
  rw [work]
  dsimp only
  rw [count, if_neg (by simp [grant]; omega), write]

theorem copyComplete_spec {e : Nat × List Byte} (whole : w.data.length ≤ w.written) (rooms : w.need ≤ w.rooms.length)
    (count : ceilDiv w.need 6 = n) (ahead : n ≤ (rxCh s r).ahead.length)
    (write : (descWrites s w n (rxCh s r).ahead).getD w.wrote (0, []) = e) :
    memRead (copyComplete r s) e.1 e.2.length = e.2 ∧
      (w.wrote + 1 < (descWrites s w n (rxCh s r).ahead).length →
        (rxCh (copyComplete r s) r).work = some { w with wrote := w.wrote + 1 } ∧ (rxCh (copyComplete r s) r).ahead = (rxCh s r).ahead) ∧
      ((descWrites s w n (rxCh s r).ahead).length ≤ w.wrote + 1 → (rxCh (copyComplete r s) r).work = none ∧
        (rxCh (copyComplete r s) r).ahead = (rxCh s r).ahead.drop n ∧
        ctr (copyComplete r s) 24 (3 * r) = (ctr s 24 (3 * r) + 1) % 2 ^ 64 ∧
        ctr (copyComplete r s) 24 (3 * r + 1) = (ctr s 24 (3 * r + 1) + w.data.length) % 2 ^ 64) := by
  have short : e.2.length ≤ 2 ^ 64 := by
    have : e.2.length ≤ 56 := by
      rw [← write]
      exact descWrites_small
    omega
  have read := memRead_memWrite (a := e.1) (l := e.2) (writeTaken (chanReq (.rx r)) s) short
  have held : rxCh (memWrite e.1 e.2 (writeTaken (chanReq (.rx r)) s)) r = rxCh s r := rxCh_memWrite _ _ _ _
  have tal : (memWrite e.1 e.2 (writeTaken (chanReq (.rx r)) s)).tal = s.tal := memWrite_tal _ _ _
  rw [copyComplete_eq work grant whole rooms count ahead write]
  generalize memWrite e.1 e.2 (writeTaken (chanReq (.rx r)) s) = v at *
  dsimp only
  by_cases more : w.wrote + 1 < (descWrites s w n (rxCh s r).ahead).length
  · rw [if_pos more, rxCh_putRx]
    exact ⟨read, fun _ => ⟨rfl, rfl⟩, fun last => absurd more (by omega)⟩
  · rw [if_neg more]
    obtain ⟨free, left, frames, bytes, mem⟩ := copyDone_spec r n w v
    have start (i : Nat) : ctr v 24 i = ctr s 24 i := ctr_congr (congrArg Tal.live tal) 24 i
    refine ⟨(memRead_congr mem _ _).trans read, fun another => absurd another more, fun _ => ⟨free, ?_, ?_, ?_⟩⟩
    · rw [left, held]
    · rw [frames, start]
    · rw [bytes, start]

end

theorem ctr_frameEnded (c : Nat) (l : List TxDesc) (s : State) (g i : Nat) : ctr (frameEnded c l s) g i = ctr s g i := rfl

theorem ctr_readTaken (q : Nat) (s : State) (g i : Nat) : ctr (readTaken q s) g i = ctr s g i := rfl

theorem txCh_readTaken (q : Nat) (s : State) (c : Nat) : txCh (readTaken q s) c = txCh s c := rfl

/-- The last burst of a frame of the right length. -/
theorem readFrame_last {c a n : Nat} {d : TxDesc} {s : State} (hc : c < 64) (works : txWorks s c = true)
    (whole : (txCh s c).skip = false) (next : txNext s c = some d) (waits : txWaits s c d = false) (kind : txKind s c d = 0)
    (more : (txCh s c).part.length < segTotal d.bytes) (grant : readGrant s (chanReq (.tx c)) = true)
    (spot : segSpot s (usedSegs d.bytes) (txCh s c).part.length = (a, n))
    (finished : ((txCh s c).part ++ memRead s a (burstLen (readSize s) a n)).length = segTotal d.bytes) (last : descEop d = true)
    (length : leAt (gathered c d s).head 8 2 =
      (gathered c d s).body.length + ((txCh s c).part ++ memRead s a (burstLen (readSize s) a n)).length) :
    (txCh (readFrame c s) c).frame = none ∧ (txCh (readFrame c s) c).part = [] ∧
      (txCh (readFrame c s) c).ahead = putRead { d with read := true, remain := 0 } (txCh s c).ahead ∧
      ctr (readFrame c s) 25 (4 * c) = (ctr s 25 (4 * c) + 1) % 2 ^ 64 ∧
      ctr (readFrame c s) 25 (4 * c + 1) = (ctr s 25 (4 * c + 1) + ((gathered c d s).body.length +
        ((txCh s c).part ++ memRead s a (burstLen (readSize s) a n)).length)) % 2 ^ 64 := by
  rw [readFrame_burst works whole next waits kind more grant spot]
  generalize (txCh s c).part ++ memRead s a (burstLen (readSize s) a n) = b at *
  dsimp only
  rw [if_neg (by omega)]
  obtain ⟨head, body, counters, dry⟩ :=
    hostCells_spec (gathered c d s) ((gathered c d s).body.length + b.length) (readTaken (chanReq (.tx c)) s)
  generalize hostCells (gathered c d s) ((gathered c d s).body.length + b.length) (readTaken (chanReq (.tx c)) s) = x at *
  obtain ⟨g, v⟩ := x
  dsimp only at head body counters dry ⊢
  rw [descRead_good last (by rw [head, body]; exact length), finished, Nat.sub_self]
  obtain ⟨framed, frames, bytes⟩ := hostFrame_spec c { g with descs := g.descs + 1, body := g.body ++ b }
    (frameEnded c (putRead { d with read := true, remain := 0 } (txCh v c).ahead) v)
  have tx : txCh v c = txCh s c := (txCh_congr dry c).trans (txCh_readTaken _ _ _)
  rw [txCh_congr framed, frames, bytes, ctr_frameEnded, ctr_frameEnded, counters _ (by omega), counters _ (by omega), ctr_readTaken,
    ctr_readTaken, frameEnded, txCh_putTxCh, tx, List.length_append, body, finished]
  exact ⟨rfl, rfl, rfl, rfl, rfl⟩

/-- Settles O49: a copy and its bursts (`copyHandover_taken`, `writeBurst_spec`, `copyDone_spec`), and a frame, its descriptors and
its errors (`readFrame_burst`, `descDone_spec`, `txReadError_eq`). -/
theorem framesCrossTheDrayman : Obligations.FramesCrossTheDrayman := by
  unfold Obligations.FramesCrossTheDrayman
  refine ⟨?_, ?_, ?_, ?_, ?_, ?_, ?_, ?_, ?_, ?_⟩
  · rintro dt r k z n c rest s u hr he on paced head fed rooms running free dma holds
    obtain ⟨t, run, st⟩ := timed_settles (c := .rxCopyHandover dt r) (f := copyHandover r) rfl (decide_eq_true hr) he
    have mem := st.mem.trans ((same_copyHandover r u).part .mem (by decide))
    rw [copyHandover_taken on paced head fed rooms running free dma holds] at st
    refine ⟨t, run, ?_, ?_, mem⟩
    · rw [rx_settled st, rxCh_putRx]
      rfl
    · rw [queueOf_congr st.dp, queueOf_putRx, queueOf_handOver]
  · rintro dt r x i o n w s u hr he work more grant spot room burst
    obtain ⟨t, run, st⟩ := timed_settles (c := .rxRoomAllocation dt r) (f := roomAllocation r) rfl (decide_eq_true hr) he
    rw [roomAllocation_burst work grant more spot room] at st
    obtain ⟨written, read, por, -⟩ := writeBurst_spec (r := r) (s := writeTaken (chanReq (.rx r)) u) (u := u) spot room rfl rfl burst
    refine ⟨t, run, ?_, ?_, st.por.trans por⟩
    · rw [rx_settled st, written]
    · rw [memRead_congr st.mem, read]
  · rintro dt r x o n rest w s u hr he work more grant spot hp turn on first burst
    obtain ⟨t, run, st⟩ := timed_settles (c := .rxRoomAllocation dt r) (f := roomAllocation r) rfl (decide_eq_true hr) he
    rw [roomAllocation_room work grant more spot turn on first] at st
    have regs := roomTaken_regs r x rest w u
    obtain ⟨written, read, por, kept⟩ := writeBurst_spec (r := r) (w := { w with rooms := w.rooms ++ [x] }) (i := w.rooms.length)
      (s := roomTaken r x rest w u) (u := u) spot (by simp) (roomAddr_congr x regs) (writeSize_roomTaken r x rest w u) burst
    refine ⟨t, run, ?_, ?_, ?_, ?_⟩
    · rw [rx_settled st, written]
    · rw [memRead_congr st.mem, read]
    · unfold cacheOf
      rw [st.por, por, roomTaken_caches, lget_lput, if_pos rfl]
    · rw [← roomMask_putMask_same x w.owners u]
      refine roomMask_congr ?_ ?_
      · rw [st.por, por, roomTaken_masks]
      · rw [st.reg _ (porReg_poolFirst x).not_mem_settleRegs, rget_congr kept, rget_congr regs, rget_putMask]
  · rintro dt r n e w s u hr he work whole rooms count ahead grant write
    obtain ⟨t, run, st⟩ := timed_settles (c := .rxCopyComplete dt r) (f := copyComplete r) rfl (decide_eq_true hr) he
    obtain ⟨read, goesOn, ends⟩ := copyComplete_spec work grant whole rooms count ahead write
    refine ⟨t, run, (memRead_congr st.mem _ _).trans read, fun more => ?_, fun last => ?_⟩
    · rw [rx_settled st]
      exact goesOn more
    · rw [rx_settled st, st.ctr _ _ (by decide) (rxCounters_fit _ (by omega)), st.ctr _ _ (by decide) (rxCounters_fit _ (by omega))]
      exact ends last
  · rintro dt r c s u hr he since on late
    obtain ⟨t, run, st⟩ := timed_settles (c := .rxIntModTimer dt r) (f := rxTimer r) rfl (decide_eq_true hr) he
    unfold rxTimer at st
    dsimp only at st
    rw [since] at st
    dsimp only at st
    rw [if_pos ⟨on, late⟩] at st
    have now : rxCh t r = { rxCh u r with count := 0, since := none } := (rx_settled st r).trans (rxCh_putRx r _ u)
    have inside : dryBlock (dryBase (.rx r) + 0x28) = true := dryBlock_chanReg (decide_eq_true hr) (by decide)
    refine ⟨t, run, ?_, ?_, ?_, st.mem⟩
    · rw [now]
    · rw [now]
    · rw [st.dryReg inside]
      exact bitAt_chanInt _ _ (by decide)
  · rintro dt c a n d b s u hc he works whole next waits kind more grant spot rfl unfinished
    obtain ⟨t, run, st⟩ := timed_settles (c := .txFrameRead dt c) (f := readFrame c) rfl (decide_eq_true hc) he
    have mem := st.mem.trans ((same_readFrame c u).part .mem (by decide))
    rw [readFrame_burst works whole next waits kind more grant spot] at st
    dsimp only at st
    rw [if_pos unfinished] at st
    refine ⟨t, run, ?_, ?_, mem⟩
    · rw [tx_settled st, txCh_putTxCh]
    · rw [tx_settled st, txCh_putTxCh]
  · rintro dt c a n d b f s u hc he works whole next waits kind more grant spot rfl finished last rfl length
    obtain ⟨t, run, st⟩ := timed_settles (c := .txFrameRead dt c) (f := readFrame c) rfl (decide_eq_true hc) he
    have mem := st.mem.trans ((same_readFrame c u).part .mem (by decide))
    obtain ⟨frame, part, ahead, frames, bytes⟩ := readFrame_last hc works whole next waits kind more grant spot finished last length
    have now : txCh t c = txCh (readFrame c u) c := tx_settled st c
    refine ⟨t, run, ?_, ?_, ?_, ?_, ?_, mem⟩
    · rw [now, frame]
    · rw [now, part]
    · rw [now, ahead]
    · rw [st.ctr _ _ (by decide) (txCounters_fit _ (by omega)), frames]
    · rw [st.ctr _ _ (by decide) (txCounters_fit _ (by omega)), bytes]
      rfl
  · rintro dt c k d s u hc he works whole next rfl bad last
    obtain ⟨t, run, st⟩ := timed_settles (c := .txFrameRead dt c) (f := readFrame c) rfl (decide_eq_true hc) he
    have mem := st.mem.trans ((same_readFrame c u).part .mem (by decide))
    rw [readFrame_bad works whole next bad] at st
    obtain ⟨l, ended⟩ := descRead_bad (c := c) (f := gathered c d u) (b := (txCh u c).part) (s := u) last bad
    rw [ended] at st
    have inside : dryBlock (dryBase (.tx c) + 0x28) = true := dryBlock_chanReg (decide_eq_true hc) (by decide)
    refine ⟨t, run, ?_, ?_, ?_, ?_, mem⟩
    · rw [txCh_congr (st.dry.trans ((same_raise _ _ _ _ _).part .dry (by decide)))]
      exact congrArg TxChan.frame (txCh_putTxCh c _ u)
    · rw [st.ctr _ _ (by decide) (txCounters_fit _ (by omega)), ctr_txRaise _ _ _ _ _ (by omega)]
      exact ctr_bumpN_same 25 (4 * c + 2) 1 _
    · rw [st.dryReg inside, rget_dryRaise _ _ _ _ _ inside]
      exact bitAt_chanInt _ _ (by decide)
    · exact st.dp.trans ((same_raise _ _ _ _ _).part .dp (by decide))
  · rintro dt c d rest s u hc he ahead grant turns
    obtain ⟨t, run, st⟩ := timed_settles (c := .txDescriptorComplete dt c) (f := txComplete c) rfl (decide_eq_true hc) he
    unfold txComplete at st
    dsimp only at st
    rw [ahead] at st
    dsimp only at st
    rw [if_neg (by simp only [grant, turns]; decide)] at st
    obtain ⟨mem, dry, regs⟩ := completeDesc_same c d (putTxCh c { txCh u c with ahead := rest } (writeTaken (chanReq (.tx c)) u))
    obtain ⟨read, held, cur, counted⟩ := descDone_spec d (putTxCh c { txCh u c with ahead := rest } (writeTaken (chanReq (.tx c)) u)) hc
    have ok : dryChanOk (.tx c) = true := decide_eq_true hc
    have reg {o : Nat} (ho : o < 0x40) (int : 0x28 ≠ o) : rget t (dryBase (.tx c) + o) =
        rget (descDone c d (putTxCh c { txCh u c with ahead := rest } (writeTaken (chanReq (.tx c)) u))) (dryBase (.tx c) + o) :=
      (st.dryReg (dryBlock_chanReg ok ho)).trans (regs o int)
    refine ⟨t, run, ?_, ?_, ?_, ?_⟩
    · rw [txCh_congr (st.dry.trans (dry.trans held)), txCh_putTxCh]
    · rw [← cur]
      exact addr64_congr (reg (by decide) (by decide)) (reg (by decide) (by decide))
    · exact (reg (o := 0x20) (by decide) (by decide)).trans counted
    · rw [memRead_congr (st.mem.trans mem), read]
      rfl
  · rintro dt c d s u hc he next due
    have ok : dryChanOk (.tx c) = true := decide_eq_true hc
    obtain ⟨t, run, st⟩ := timed_settles (c := .dmaReadError dt (.tx c)) (f := txReadError c) rfl ok he
    obtain ⟨kind, l, v, low, failed, held⟩ := txReadError_eq next due
    rw [failed] at st
    have now : txCh t c = txCh v c := txCh_congr (st.dry.trans ((same_haltChan _ _ _ _).part .dry (by decide))) c
    refine ⟨t, run, ?_, ?_, ?_, ?_⟩
    · rw [st.chanState ok, (haltChan_spec v ok low).1]
    · rw [now, held]
    · rw [now, held]
    · rw [st.dryReg (dryBlock_chanReg ok (by decide)), haltChan_int _ _ _ ok]

end Machine
end Sys2Proof
end

section
/-! PROOF. Proofs/ErrandPasses.lean: the passes of an errand's LOOP (O50). -/
namespace Sys2Proof
namespace Machine

/-- A LOOP back to instruction 0 that asks for 2 ^ 33 passes, more than its word has bits for. -/
def wideLoop : List Nat := [opLoop, 2 ^ 33]

/-- Errand 0 at that LOOP, which it holds as the words of its instruction, with 2 ^ 32 - 1 passes made. -/
def lastPassMade : State :=
  let s := { State.reset with hif := { State.reset.hif with busMaster := true } }
  putErr 0 { errDefault 0 with words := wideLoop, loopPc := some 1 }
    (rput (A.DRY_ERR_ITER 0) (2 ^ 32 - 1) (fput (F.DRY_ERR_STATUS_PC 0) 1 (setChan (.err 0) stRunning s)))

/-- The pass counter is cut to its register. -/
theorem errIter_loopOp {e : Nat} {w : List Nat} {s : State} (more : errIter s e + 1 < ew w 1) :
    errIter (loopOp e w s) e = (errIter s e + 1) % 2 ^ 32 := by
  have apart : (F.DRY_ERR_STATUS_PC e).addr ≠ A.DRY_ERR_ITER e := by
    change 0x163008 + 0x40 * e ≠ A.DRY_ERR_ITER e
    unfold A.DRY_ERR_ITER
    omega
  unfold loopOp
  dsimp only
  rw [if_pos more, errIter, rget_bump, rget_fput_ne _ _ apart, rget_rput_same]

/-- Refutes O50: its third clause lets a LOOP count a pass beyond 2 ^ 32 - 1. The model keeps the words of an instruction in
progress as natural numbers; with one that asks for 2 ^ 33 passes, the pass after pass 2 ^ 32 - 1 leaves the errand's counter at 0,
its register having 32 bits. -/
theorem not_errandsRunTheirInstructions : ¬ Obligations.ErrandsRunTheirInstructions := by
  unfold Obligations.ErrandsRunTheirInstructions
  rintro ⟨-, -, loops, -⟩
  have free : Elapsed 0 lastPassMade lastPassMade := ⟨by decide +kernel, rfl⟩
  have works : errWorks lastPassMade 0 = true := by decide +kernel
  have iter : errIter lastPassMade 0 = 2 ^ 32 - 1 := by decide +kernel
  have words : errWords lastPassMade 0 = wideLoop := by decide +kernel
  have ok : instrOk lastPassMade 0 wideLoop = true := by decide +kernel
  obtain ⟨t, run, -, counted⟩ := loops 0 0 wideLoop lastPassMade lastPassMade (by decide) free (by decide +kernel) (by decide +kernel)
    words ok (by decide +kernel)
  obtain ⟨t', run', st⟩ := timed_settles (c := .errandLoop 0 0) (f := errStep 0 opLoop (loopOp 0)) rfl rfl free
  obtain rfl : t = t' := Host.Outcome.next.inj (run.symm.trans run')
  have more : errIter lastPassMade 0 + 1 < ew wideLoop 1 := by
    rw [iter]
    decide
  have step : errStep 0 opLoop (loopOp 0) lastPassMade = loopOp 0 wideLoop lastPassMade := by
    unfold errStep
    dsimp only
    rw [if_neg (not_not_intro works), words, if_neg (not_not_intro ok), if_pos (by decide)]
  rw [if_pos more] at counted
  have left : errIter t 0 = (errIter lastPassMade 0 + 1) % 2 ^ 32 := by
    rw [step] at st
    exact (st.dryReg (r := A.DRY_ERR_ITER 0) (by decide)).trans (errIter_loopOp more)
  rw [counted.2, iter] at left
  exact absurd left (by decide)

end Machine
end Sys2Proof
end

section
/-! PROOF. Proofs/CounterLists.lean: the counters as lists of keys and values, and what an event leaves of them (O52). -/
namespace Sys2Proof
namespace Machine

/-! ### Lists of keys and values -/

section
variable {α : Type} [DecidableEq α] {d : Nat → α}

omit [DecidableEq α] in
theorem sget_skeep (p : Nat → Bool) (m : List (Nat × α)) (k : Nat) : sget d (skeep p m) k = if p k then sget d m k else d k := by
  induction m with
  | nil => simp [skeep, sget]
  | cons e m ih =>
    obtain ⟨j, v⟩ := e
    unfold skeep at *
    by_cases same : j = k
    · subst same
      by_cases keep : p j = true
      · simp [keep, sget]
      · simp [keep, ih]
    · by_cases keep : p j = true
      · simp [keep, sget, same, ih]
      · simp [keep, sget, same, ih]

theorem sputs_cons (m : List (Nat × α)) (e : Nat × α) (l : List (Nat × α)) : sputs d m (e :: l) = sputs d (sput d m e.1 e.2) l := rfl

/-- A key that is not in the list put keeps its value. -/
theorem sget_sputs_absent {l : List (Nat × α)} {k : Nat} (m : List (Nat × α)) (absent : ∀ e ∈ l, e.1 ≠ k) :
    sget d (sputs d m l) k = sget d m k := by
  induction l generalizing m with
  | nil => rfl
  | cons e l ih =>
    rw [sputs_cons, ih _ (fun x hx => absent x (List.mem_cons_of_mem _ hx)),
      sget_sput_ne _ _ (absent e (List.mem_cons_self ..))]

/-- A key that the list puts with one value only has it. -/
theorem sget_sputs_present {l : List (Nat × α)} {k : Nat} {v : α} (m : List (Nat × α)) (same : ∀ e ∈ l, e.1 = k → e.2 = v)
    (present : ∃ e ∈ l, e.1 = k) : sget d (sputs d m l) k = v := by
  induction l generalizing m with
  | nil => exact absurd present (by simp)
  | cons e l ih =>
    have rest : ∀ x ∈ l, x.1 = k → x.2 = v := fun x hx => same x (List.mem_cons_of_mem _ hx)
    rw [sputs_cons]
    by_cases later : ∃ x ∈ l, x.1 = k
    · exact ih _ rest later
    · obtain ⟨x, hx, key⟩ := present
      obtain rfl | hx := List.mem_cons.mp hx
      · rw [sget_sputs_absent _ (fun y hy h => later ⟨y, hy, h⟩), ← key, sget_sput_same, same x (List.mem_cons_self ..) key]
      · exact absurd ⟨x, hx, key⟩ later

omit [DecidableEq α] in
theorem sget_absent {m : List (Nat × α)} {k : Nat} (absent : ∀ e ∈ m, e.1 ≠ k) : sget d m k = d k := by
  induction m with
  | nil => rfl
  | cons e m ih =>
    obtain ⟨j, v⟩ := e
    have other : j ≠ k := absent (j, v) (List.mem_cons_self ..)
    rw [sget, if_neg other]
    exact ih (fun x hx => absent x (List.mem_cons_of_mem _ hx))

omit [DecidableEq α] in
/-- Where no key stands twice, each is read as it stands. -/
theorem sget_of_nodup {m : List (Nat × α)} {e : Nat × α} (once : (m.map Prod.fst).Nodup) (he : e ∈ m) : sget d m e.1 = e.2 := by
  induction m with
  | nil => exact absurd he (by simp)
  | cons x m ih =>
    obtain ⟨j, v⟩ := x
    rw [List.map_cons, List.nodup_cons] at once
    obtain ⟨new, once⟩ := once
    obtain rfl | rest := List.mem_cons.mp he
    · exact if_pos rfl
    · have other : j ≠ e.1 := by
        rintro rfl
        exact new (List.mem_map.mpr ⟨e, rest, rfl⟩)
      rw [sget, if_neg other]
      exact ih once rest

end

/-! ### The groups of counters (R653) -/

theorem groups_apart : ∀ g < 29, ∀ g' < 29, g < g' → groupBase g + groupSize g ≤ groupBase g' := by decide +kernel

/-- A selector selects the counters of the groups whose bits are set. -/
theorem selects_group {g i : Nat} (m : Nat) (hg : g < 29) (hi : i < groupSize g) : selects m (groupBase g + i) = bitAt m g := by
  unfold selects
  by_cases set : bitAt m g = true
  · rw [set, List.any_eq_true]
    exact ⟨g, List.mem_range.mpr hg, by simp [set, hi]⟩
  · rw [Bool.eq_false_iff.mpr set, List.any_eq_false]
    intro g' hg'
    rw [List.mem_range] at hg'
    by_cases same : g' = g
    · subst same
      simp [set]
    · obtain below | above := lt_or_gt_of_ne same
      · have := groups_apart g' hg' g hg below
        simp only [Bool.and_eq_true, decide_eq_true_eq, not_and, not_lt]
        intros
        omega
      · have := groups_apart g hg g' hg' above
        simp only [Bool.and_eq_true, decide_eq_true_eq, not_and, not_lt]
        intros
        omega

theorem bitAt_selector {m g : Nat} (hg : g < 29) : bitAt (selector m) g = bitAt m g := by
  unfold selector bitAt
  rw [Nat.testBit_mod_two_pow, decide_eq_true hg, Bool.true_and]

theorem key_below {g i : Nat} (hg : g < 27) (hi : i < groupSize g) : groupBase g + i < groupBase 27 :=
  (Nat.add_lt_add_left hi _).trans_le (groups_apart g (by omega) 27 (by decide) hg)

/-! ### What an event leaves of the counters -/

/-- The entries of counter `k` are as before. -/
def EntriesKept (k : Nat) (s t : State) : Prop := ∀ e : Nat × Nat, e.1 = k → (e ∈ t.tal.live ↔ e ∈ s.tal.live)

theorem EntriesKept.trans {k : Nat} {s t u : State} (h : EntriesKept k s t) (h' : EntriesKept k t u) : EntriesKept k s u :=
  fun e he => (h' e he).trans (h e he)

theorem EntriesKept.of_live {k : Nat} {s t : State} (h : t.tal.live = s.tal.live) : EntriesKept k s t := fun _ _ => by rw [h]

theorem entries_bump {k g i : Nat} (s : State) (h : k ≠ groupBase g + i) : EntriesKept k s (bump g i s) :=
  fun _ he => mem_sput_ne _ _ _ _ _ (he ▸ h)

theorem entries_gbkCtr {k : Nat} (i : Nat) (s : State) (h : k < groupBase 27) : EntriesKept k s (gbkCtr i s) :=
  entries_bump s (by
    have : groupBase 27 ≤ groupBase 28 := by decide
    exact Nat.ne_of_lt (h.trans_le (this.trans (Nat.le_add_right _ _))))

theorem entries_overflowed {k : Nat} (code : Nat) (s : State) (h : k < groupBase 27) : EntriesKept k s (overflowed code s) := by
  unfold overflowed
  extract_lets u
  have hu : EntriesKept k s u := entries_gbkCtr 11 s h
  clear_value u
  split
  · have set : EntriesKept k (gbkCtr 10 u) (setInt A.GBK_INT_STAT 3 (gbkCtr 10 u)) := .of_live rfl
    exact (hu.trans (entries_gbkCtr 10 u h)).trans set
  · exact hu

theorem entries_enterQueue {k : Nat} (code unit a b : Nat) (s : State) (h : k < groupBase 27) :
    EntriesKept k s (enterQueue code unit a b s) := by
  unfold enterQueue
  extract_lets w e q _ u
  have hu : EntriesKept k s u := .of_live rfl
  clear_value u
  split
  · exact hu
  · exact hu.trans (entries_overflowed _ _ h)

theorem entries_suppress {k : Nat} (code : Nat) (s : State) (h : k < groupBase 27) : EntriesKept k s (suppress code s) := by
  unfold suppress
  extract_lets p p' _
  have kept (x : Gbk) : EntriesKept k s { s with gbk := x } := .of_live rfl
  exact (kept _).trans (entries_gbkCtr 4 _ h)

theorem entries_raise {k : Nat} (code unit a b : Nat) (s : State) (h : k < groupBase 27) : EntriesKept k s (raise code unit a b s) := by
  have kept (x : Gbk) : EntriesKept k s { s with gbk := x } := .of_live rfl
  unfold raise
  dsimp only
  split
  · exact entries_enterQueue _ _ _ _ _ h
  · split
    · exact (kept _).trans (entries_enterQueue _ _ _ _ _ h)
    · exact (kept _).trans (entries_suppress _ _ h)

end Machine
end Sys2Proof
end

section
/-! PROOF. Proofs/CounterReaders.lean: snapshots, clears and harvests of the counters (O52). -/
namespace Sys2Proof
namespace Machine

/-! ### Snapshots and clears (R662, R664) -/

/-- What overtaking a harvest leaves: the counters of the data path, what is latched, and the registers beside the interrupt. -/
structure Overtaken (s t : State) : Prop where
  entries : ∀ k < groupBase 27, EntriesKept k s t
  ctr : ∀ k < groupBase 27, sget ctrDefault t.tal.live k = sget ctrDefault s.tal.live k
  latched : t.tal.latched = s.tal.latched
  relatch : t.tal.relatch = s.tal.relatch
  clk : t.clk = s.clk
  reg : ∀ r, A.TAL_INT_STAT ≠ r → r ≠ A.GBK_INT_STAT → rget t r = rget s r

theorem Overtaken.refl (s : State) : Overtaken s s :=
  ⟨fun _ _ _ _ => Iff.rfl, fun _ _ => rfl, rfl, rfl, rfl, fun _ _ _ => rfl⟩

theorem Overtaken.trans {s t u : State} (h : Overtaken s t) (k : Overtaken t u) : Overtaken s u :=
  ⟨fun j hj => (h.entries j hj).trans (k.entries j hj), fun j hj => (k.ctr j hj).trans (h.ctr j hj), k.latched.trans h.latched,
    k.relatch.trans h.relatch, k.clk.trans h.clk, fun r int gbk => (k.reg r int gbk).trans (h.reg r int gbk)⟩

theorem overtaken_harvest (s : State) (x : Option Harvest) : Overtaken s { s with tal := { s.tal with harvest := x } } :=
  ⟨fun _ _ _ _ => Iff.rfl, fun _ _ => rfl, rfl, rfl, rfl, fun _ _ _ => rfl⟩

theorem overtaken_bump (s : State) : Overtaken s (bump 27 57 s) := by
  have other (k : Nat) (h : k < groupBase 27) : k ≠ groupBase 27 + 57 := Nat.ne_of_lt (h.trans_le (Nat.le_add_right _ _))
  exact ⟨fun k hk => entries_bump s (other k hk), fun k hk => sget_sput_ne _ _ (other k hk).symm, rfl, rfl, rfl,
    fun r _ _ => rget_bump _ _ _ r⟩

theorem overtaken_setInt (i : Nat) (s : State) : Overtaken s (setInt A.TAL_INT_STAT i s) :=
  ⟨fun _ _ _ _ => Iff.rfl, fun _ _ => rfl, rfl, rfl, rfl, fun _ int _ => rget_setInt_ne _ _ int⟩

theorem overtaken_raise (c u a b : Nat) (s : State) : Overtaken s (raise c u a b s) := by
  have event := eventOnly_raise c u a b s
  have zero : groupBase 0 = 0 := rfl
  refine ⟨fun k hk => entries_raise c u a b s hk, fun k hk => ?_, by rw [event.talRest], by rw [event.talRest], by rw [event.rest],
    fun r _ gbk => event.reg r gbk⟩
  have below : groupBase 0 + k < groupBase 28 := by
    rw [zero, Nat.zero_add]
    exact hk.trans_le (by decide)
  have kept : sget ctrDefault (raise c u a b s).tal.live (groupBase 0 + k) = sget ctrDefault s.tal.live (groupBase 0 + k) :=
    event.ctr 0 k (by decide) below
  rwa [zero, Nat.zero_add] at kept

theorem overtake_spec (m : Nat) (s : State) : Overtaken s (overtake m s) := by
  unfold overtake
  split
  · exact .refl s
  · split
    · exact .refl s
    · split
      · exact (((overtaken_harvest s _).trans (overtaken_bump _)).trans (overtaken_setInt 2 _)).trans (overtaken_raise _ _ _ _ _)
      · exact .refl s

/-- The first snapshot of a clock, after it has overtaken a harvest: what is latched and which registers say so. -/
def snapshotLatched (m src : Nat) (s : State) : State :=
  let u := { s with tal := { s.tal with latched := latchGroups m s.tal, snapClk := some s.clk, relatch := s.tal.relatch ||| m } }
  rput A.TAL_SNAP_SRC src (rput A.TAL_SNAP_MASK m (rput A.TAL_SNAP_SEQ ((rget u A.TAL_SNAP_SEQ + 1) % 2 ^ 32) u))

/-- The device time and the phase instant of a snapshot, and its interrupt. -/
def snapshotTimed (s : State) : State :=
  setInt A.TAL_INT_STAT 0 (latchInstant A.TAL_SNAP_CYCLE_HI (phaseInstant s) (latchTime A.TAL_SNAP_SEC_HI s.tim.t s))

theorem takeSnapshot_first {mask src : Nat} {s : State} (some_ : selector mask ≠ 0) (first : s.tal.snapClk ≠ some s.clk) :
    takeSnapshot mask src s = snapshotTimed (snapshotLatched (selector mask) src (overtake (selector mask) s)) := by
  have new : (s.tal.snapClk == some s.clk) = false := beq_eq_false_iff_ne.mpr first
  unfold takeSnapshot
  simp only [new, Bool.false_eq_true, if_false, if_neg some_]
  rfl

theorem snapshotTimed_tal (s : State) : (snapshotTimed s).tal = s.tal := by
  unfold snapshotTimed
  generalize phaseInstant s = x
  have set (v : State) : (setInt A.TAL_INT_STAT 0 v).tal = v.tal := rfl
  rw [set, latchInstant_tal, latchTime_tal]

theorem rget_snapshotTimed {r : Nat} (s : State) (int : A.TAL_INT_STAT ≠ r) (low : r < A.TAL_SNAP_SEC_HI) :
    rget (snapshotTimed s) r = rget s r := by
  unfold snapshotTimed
  rw [rget_setInt_ne _ _ int, rget_latchInstant _ _ (low.trans (by decide)), rget_latchTime _ _ low]

theorem snapshotLatched_tal (m src : Nat) (s : State) : (snapshotLatched m src s).tal =
    { s.tal with latched := latchGroups m s.tal, snapClk := some s.clk, relatch := s.tal.relatch ||| m } := by
  unfold snapshotLatched
  dsimp only
  rw [rput_tal, rput_tal, rput_tal]

theorem snapshotLatched_regs (m src : Nat) (s : State) :
    rget (snapshotLatched m src s) A.TAL_SNAP_SEQ = (rget s A.TAL_SNAP_SEQ + 1) % 2 ^ 32 ∧
      rget (snapshotLatched m src s) A.TAL_SNAP_MASK = m % 2 ^ 32 := by
  unfold snapshotLatched
  extract_lets _ u
  have same : rget u A.TAL_SNAP_SEQ = rget s A.TAL_SNAP_SEQ := rfl
  clear_value u
  constructor
  · rw [rget_rput_ne _ _ (by decide), rget_rput_ne _ _ (by decide), rget_rput_same, same, Nat.mod_mod]
  · rw [rget_rput_ne _ _ (by decide), rget_rput_same]

/-- A selected counter is latched with its value. -/
theorem sget_latchGroups {m k v : Nat} {t : Tal} (chosen : selects m k = true) (once : ∀ e ∈ t.live, e.1 = k → e.2 = v)
    (read : (∀ e ∈ t.live, e.1 ≠ k) → v = 0) : sget ctrDefault (latchGroups m t) k = v := by
  unfold latchGroups
  by_cases present : ∃ e ∈ t.live, e.1 = k
  · obtain ⟨e, he, rfl⟩ := present
    exact sget_sputs_present _ (fun x hx => once x (List.mem_filter.mp hx).1) ⟨e, List.mem_filter.mpr ⟨he, chosen⟩, rfl⟩
  · have absent : ∀ e ∈ t.live, e.1 ≠ k := fun e he h => present ⟨e, he, h⟩
    rw [sget_sputs_absent _ (fun x hx => absent x (List.mem_filter.mp hx).1), sget_skeep, read absent]
    simp [chosen, ctrDefault]

/-- What a clear of the groups `m` puts in place of their counters. -/
def clearedEntries (m : Nat) (t : Tal) : List (Nat × Nat) :=
  ((t.live ++ t.begun).filter (fun e => selects m e.1)).map (fun e => (e.1, countedNow t e.1))

theorem mem_clearedEntries (m : Nat) (t : Tal) (e : Nat × Nat) : e ∈ clearedEntries m t ↔
    (∃ x ∈ t.live ++ t.begun, x.1 = e.1) ∧ selects m e.1 = true ∧ e.2 = countedNow t e.1 := by
  unfold clearedEntries
  rw [List.mem_map]
  constructor
  · rintro ⟨x, hx, rfl⟩
    exact ⟨⟨x, (List.mem_filter.mp hx).1, rfl⟩, (List.mem_filter.mp hx).2, rfl⟩
  · rintro ⟨⟨x, hx, key⟩, chosen, value⟩
    exact ⟨x, List.mem_filter.mpr ⟨hx, by rw [key]; exact chosen⟩, Prod.ext key (by rw [value, key])⟩

/-- A cleared counter is left at what it has counted in this clock. -/
theorem ctr_clearGroups {m g i : Nat} (s : State) (hg : g < 29) (hi : i < groupSize g) :
    ctr (clearGroups m s) g i = if bitAt m g then countedNow s.tal (groupBase g + i) else ctr s g i := by
  have chosen := selects_group m hg hi
  unfold ctr
  generalize groupBase g + i = k at *
  have listed (e : Nat × Nat) : e ∈ clearedEntries m s.tal ↔
      (∃ x ∈ s.tal.live ++ s.tal.begun, x.1 = e.1) ∧ selects m e.1 = true ∧ e.2 = countedNow s.tal e.1 := mem_clearedEntries m s.tal e
  change sget ctrDefault (sputs ctrDefault (skeep (fun k => !selects m k) s.tal.live) (clearedEntries m s.tal)) k = _
  by_cases present : ∃ e ∈ clearedEntries m s.tal, e.1 = k
  · obtain ⟨e, he, rfl⟩ := present
    have picked := ((listed e).mp he).2.1
    rw [chosen] at picked
    rw [if_pos picked]
    exact sget_sputs_present _ (fun x hx key => by rw [((listed x).mp hx).2.2, key]) ⟨e, he, rfl⟩
  · rw [sget_sputs_absent _ (fun e he h => present ⟨e, he, h⟩), sget_skeep, chosen]
    by_cases picked : bitAt m g = true
    · have absent : ∀ e ∈ s.tal.live ++ s.tal.begun, e.1 ≠ k := fun e he h =>
        present ⟨(k, countedNow s.tal k), (listed _).mpr ⟨⟨e, he, h⟩, chosen.trans picked, rfl⟩, rfl⟩
      have live : sget ctrDefault s.tal.live k = 0 := sget_absent (fun e he => absent e (List.mem_append_left _ he))
      have begun : sget ctrDefault s.tal.begun k = 0 := sget_absent (fun e he => absent e (List.mem_append_right _ he))
      rw [if_neg (by simp [picked]), if_pos picked, countedNow, live, begun]
      rfl
    · rw [if_pos (by simp [picked]), if_neg picked]

end Machine
end Sys2Proof
end

section
/-! PROOF. Proofs/Harvests.lean: the counters and their readers (O52). -/
namespace Sys2Proof
namespace Machine

/-! ### The bytes of a harvest (R668, R669) -/

theorem length_harvestHeader (h : Harvest) (s : State) : (harvestHeader h s).length = 60 := by
  unfold harvestHeader
  simp only [List.length_append, length_leBytes, List.length_cons, List.length_nil, List.length_replicate]

theorem length_words (n : Nat) (f : Nat → Nat) : ((List.range n).flatMap (fun i => leBytes 8 (f i))).length = 8 * n := by
  rw [List.length_flatMap]
  simp only [length_leBytes, List.map_const', List.length_range, List.sum_replicate, smul_eq_mul]
  omega

/-- The counters that the reader writes next, `n` of them. -/
def harvestWords (h : Harvest) (n : Nat) (s : State) : List Byte :=
  (List.range n).flatMap (fun i => leBytes 8 (sget ctrDefault s.tal.latched (harvestKey (groupsOf h.mask) (h.written + i))))

theorem harvestData_spec {h : Harvest} {n : Nat} {s : State} (burst : burstLen (writeSize s) (h.addr + 64 + 8 * h.written)
      (8 * (harvestGathered h s.clk - h.written)) / 8 = n) :
    (harvestData h s).tal = { s.tal with harvest := some { h with written := h.written + n } } ∧
      memRead (harvestData h s) (h.addr + 64 + 8 * h.written) (8 * n) = harvestWords h n s := by
  have small : n ≤ 512 := by
    rw [← burst]
    unfold burstLen
    omega
  have length : (harvestWords h n s).length = 8 * n := length_words n _
  unfold harvestData
  dsimp only
  rw [burst]
  refine ⟨memWrite_tal _ _ _, ?_⟩
  have read := memRead_memWrite (a := h.addr + 64 + 8 * h.written) (l := harvestWords h n s)
    { s with tal := { s.tal with harvest := some { h with written := h.written + n } } } (by omega)
  rwa [length] at read

/-- The registers of a harvest that has ended. -/
def harvestClosed (h : Harvest) (s : State) : State :=
  setInt A.TAL_INT_STAT 1 (faddWrap F.TAL_HV_SEQ_SEQ 1 (fput F.TAL_HV_PROGRESS_COUNT h.written
    (fput F.TAL_HV_STATUS_BUSY 0 (fput F.TAL_HV_STATUS_RESULT 0 s))))

theorem harvestClosed_spec (h : Harvest) (s : State) :
    fget (harvestClosed h s) F.TAL_HV_STATUS_BUSY = 0 ∧ fget (harvestClosed h s) F.TAL_HV_STATUS_RESULT = 0 ∧
      bitAt (rget (harvestClosed h s) A.TAL_INT_STAT) 1 = true := by
  have status (f : Fld) (hf : f.addr = A.TAL_HV_STATUS) :
      fget (harvestClosed h s) f = fget (fput F.TAL_HV_STATUS_BUSY 0 (fput F.TAL_HV_STATUS_RESULT 0 s)) f := by
    unfold harvestClosed faddWrap
    rw [fget_setInt_ne _ _ (by rw [hf]; decide), fget_fput_ne _ _ (by rw [hf]; decide), fget_fput_ne _ _ (by rw [hf]; decide)]
  refine ⟨?_, ?_, testBit_forBits _ _ _ (by decide)⟩
  · rw [status _ rfl, fget_fput_same _ _ _ (by decide)]
    rfl
  · rw [status _ rfl, fget_fput_apart _ _ (by decide), fget_fput_same _ _ _ (by decide)]
    rfl

theorem harvestEnd_eq (h : Harvest) (s : State) : harvestEnd h s =
    harvestClosed h (memWrite (h.addr + 60) (leBytes 4 (2 ^ 31)) { s with tal := { s.tal with harvest := none } }) := rfl

theorem harvestClosed_kept (h : Harvest) (s : State) : (harvestClosed h s).tal = s.tal ∧ (harvestClosed h s).mem = s.mem := by
  unfold harvestClosed faddWrap
  have set (v : State) : (setInt A.TAL_INT_STAT 1 v).tal = v.tal ∧ (setInt A.TAL_INT_STAT 1 v).mem = v.mem := ⟨rfl, rfl⟩
  rw [(set _).1, (set _).2]
  exact ⟨by rw [fput_tal, fput_tal, fput_tal, fput_tal], by rw [fput_mem, fput_mem, fput_mem, fput_mem]⟩

section
variable {h : Harvest} {s : State} (reads : s.tal.harvest = some h) (grant : writeGrant s tallyReq = true)
include reads grant

theorem harvestWrite_data (more : h.written < selCount h.mask) : harvestWrite s = harvestData h (writeTaken tallyReq s) := by
  unfold harvestWrite
  rw [reads]
  dsimp only
  rw [if_neg (not_not_intro grant), if_pos more]

theorem harvestWrite_header (whole : selCount h.mask ≤ h.written) (first : h.header = false) : harvestWrite s =
    memWrite h.addr (harvestHeader h (writeTaken tallyReq s))
      { writeTaken tallyReq s with tal := { (writeTaken tallyReq s).tal with harvest := some { h with header := true } } } := by
  unfold harvestWrite
  rw [reads]
  dsimp only
  rw [if_neg (not_not_intro grant), if_neg (by omega), if_neg (Bool.eq_false_iff.mp first)]

theorem harvestWrite_end (whole : selCount h.mask ≤ h.written) (last : h.header = true) :
    harvestWrite s = harvestEnd h (writeTaken tallyReq s) := by
  unfold harvestWrite
  rw [reads]
  dsimp only
  rw [if_neg (not_not_intro grant), if_neg (by omega), if_pos last]

end

/-! ### The harvest begins and is given up (R667, R671) -/

/-- The harvest that begins without a snapshot. -/
def begunHarvest (s : State) : Harvest :=
  { mask := rget s A.TAL_HV_MASK, addr := rget64 s A.TAL_HV_ADDR_HI A.TAL_HV_ADDR_LO, snapSeq := rget s A.TAL_SNAP_SEQ
    snapWords := (List.range 7).map (fun k => rget s (A.TAL_SNAP_SEC_HI + 4 * k)), source := rget s A.TAL_SNAP_SRC, clk := s.clk
    overtaken := 0, written := 0, header := false }

theorem harvestStart_taken {s : State} (idle : s.tal.harvest = none) (some_ : selector (rget s A.TAL_HV_MASK) ≠ 0)
    (room : 64 + 8 * selCount (rget s A.TAL_HV_MASK) ≤ rget s A.TAL_HV_LIMIT) (bus : s.hif.busMaster = true) (awake : s.hif.d3hot = false) :
    harvestStart false s = fput F.TAL_HV_PROGRESS_COUNT 0 (fput F.TAL_HV_STATUS_BUSY 1 (fput F.TAL_HV_STATUS_RESULT 0
      { s with tal := { s.tal with harvest := some (begunHarvest s) } })) := by
  have free : ¬ s.tal.harvest.isSome = true := by
    rw [idle]
    decide
  unfold harvestStart
  dsimp only
  rw [if_neg free, if_neg some_, if_neg (by omega), if_neg (by simp [bus, awake]), if_neg Bool.false_ne_true]
  rfl

/-- The status fields as a harvest's command leaves them. -/
theorem harvestStatus {c b r : Nat} (s : State) (hb : b < 2) (hr : r < 2 ^ F.TAL_HV_STATUS_RESULT.width) :
    fget (fput F.TAL_HV_PROGRESS_COUNT c (fput F.TAL_HV_STATUS_BUSY b (fput F.TAL_HV_STATUS_RESULT r s))) F.TAL_HV_STATUS_BUSY = b ∧
      fget (fput F.TAL_HV_PROGRESS_COUNT c (fput F.TAL_HV_STATUS_BUSY b (fput F.TAL_HV_STATUS_RESULT r s))) F.TAL_HV_STATUS_RESULT = r := by
  constructor
  · rw [fget_fput_ne _ _ (by decide), fget_fput_same _ _ _ (by decide)]
    exact Nat.mod_eq_of_lt hb
  · rw [fget_fput_ne _ _ (by decide), fget_fput_apart _ _ (by decide), fget_fput_same _ _ _ (by decide)]
    exact Nat.mod_eq_of_lt hr

theorem rget64_rput64 {hi lo : Nat} (n : Nat) (s : State) (apart : hi ≠ lo) : rget64 (rput64 hi lo n s) hi lo = n % 2 ^ 64 := by
  unfold rget64 rput64
  rw [rget_rput_ne _ _ apart.symm, rget_rput_same, rget_rput_same]
  omega

theorem rget64_congr {s t : State} {hi lo : Nat} (h : rget t hi = rget s hi) (l : rget t lo = rget s lo) :
    rget64 t hi lo = rget64 s hi lo := by
  unfold rget64
  rw [h, l]

/-- Settles O52: a snapshot (`takeSnapshot_first`, `sget_latchGroups`), a clear (`ctr_clearGroups`), the writes of a harvest
(`harvestData_spec`, `harvestEnd_eq`) and the capture of a counter. -/
theorem countersAreLatchedClearedAndHarvested : Obligations.CountersAreLatchedClearedAndHarvested := by
  unfold Obligations.CountersAreLatchedClearedAndHarvested
  refine ⟨?_, ?_, ?_, ?_, ?_, ?_, ?_, ?_⟩
  · rintro m s ready once some_ first
    obtain ⟨t, run, st⟩ := hostCmd_settles (c := .snapshot m) (f := takeSnapshot m.toNat 1) rfl rfl ready
    rw [takeSnapshot_first some_ first] at st
    obtain ⟨entries, kept, latched, relatch, clk, reg⟩ := overtake_spec (selector m.toNat) s
    generalize overtake (selector m.toNat) s = v at *
    have tal : (snapshotTimed (snapshotLatched (selector m.toNat) 1 v)).tal =
        { v.tal with latched := latchGroups (selector m.toNat) v.tal, snapClk := some v.clk, relatch := v.tal.relatch ||| selector m.toNat } :=
      (snapshotTimed_tal _).trans (snapshotLatched_tal _ _ _)
    have regs := snapshotLatched_regs (selector m.toNat) 1 v
    have told : t.tal = { (snapshotTimed (snapshotLatched (selector m.toNat) 1 v)).tal with live := t.tal.live } := st.talRest
    rw [tal] at told
    have counters (g i : Nat) (hg : g < 27) (hi : i < groupSize g) : ctr t g i = ctr s g i := by
      rw [st.ctr g i hg (key_below hg hi)]
      unfold ctr
      rw [tal]
      exact kept _ (key_below hg hi)
    refine ⟨t, run, ?_, counters, ?_, ?_, ?_, ?_⟩
    · intro g i hg hi chosen
      rw [told]
      refine sget_latchGroups ?_ ?_ ?_
      · rw [selects_group _ (by omega) hi, bitAt_selector (by omega), chosen]
      · intro e he key
        rw [ctr, ← key, ← sget_of_nodup once ((entries _ (key_below hg hi) e key).mp he)]
      · intro absent
        exact sget_absent (fun e he key => absent e ((entries _ (key_below hg hi) e key).mpr he) key)
    · rw [told, clk]
    · rw [st.reg _ (by decide), rget_snapshotTimed _ (by decide) (by decide), regs.1, reg _ (by decide) (by decide)]
    · rw [st.reg _ (by decide), rget_snapshotTimed _ (by decide) (by decide), regs.2]
      exact Nat.mod_eq_of_lt ((Nat.mod_lt _ (by decide)).trans (by decide))
    · rw [told, relatch]
  · rintro m s ready
    obtain ⟨t, run, st⟩ := hostCmd_settles (c := .talClear m) (f := clearGroups (selector m.toNat)) rfl rfl ready
    have frame := same_clearGroups (selector m.toNat) s
    refine ⟨t, run, ?_, ?_, st.dp.trans (frame.part .dp (by decide)), st.tab.trans (frame.part .tab (by decide))⟩
    · intro g i hg hi
      rw [st.ctr g i hg (key_below hg hi), ctr_clearGroups s (by omega) hi, bitAt_selector (by omega)]
    · rw [st.talRest]
      rfl
  · rintro s ready idle some_ room bus
    obtain ⟨t, run, st⟩ := hostCmd_settles (c := .harvestStart false) (f := harvestStart false) rfl rfl ready
    rw [harvestStart_taken idle some_ room bus ready.2.1] at st
    obtain ⟨busy, result⟩ := harvestStatus (c := 0) (b := 1) (r := 0) { s with tal := { s.tal with harvest := some (begunHarvest s) } }
      (by decide) (by decide)
    refine ⟨t, begunHarvest s, run, ?_, rfl, rfl, rfl, rfl, rfl, ?_, ?_, ?_⟩
    · rw [st.talRest]
      dsimp only
      rw [fput_tal, fput_tal, fput_tal]
    · rw [st.fget (by decide), busy]
    · rw [st.fget (by decide), result]
    · rw [st.mem, fput_mem, fput_mem, fput_mem]
  · rintro s ready reads
    obtain ⟨h, reads⟩ := Option.isSome_iff_exists.mp reads
    obtain ⟨t, run, st⟩ := hostCmd_settles (c := .harvestAbort) (f := harvestAbort) rfl rfl ready
    unfold harvestAbort at st
    rw [reads] at st
    dsimp only at st
    obtain ⟨busy, result⟩ := harvestStatus (c := h.written) (b := 0) (r := 4) { s with tal := { s.tal with harvest := none } }
      (by decide) (by decide)
    refine ⟨t, run, ?_, ?_, ?_, ?_⟩
    · rw [st.talRest]
      dsimp only
      rw [fput_tal, fput_tal, fput_tal]
    · rw [st.fget (by decide), busy]
    · rw [st.fget (by decide), result]
    · rw [st.talRest]
      dsimp only
      rw [fput_tal, fput_tal, fput_tal]
  · rintro dt n h s u he reads grant more burst
    obtain ⟨t, run, st⟩ := timed_settles (c := .harvestComplete dt) (f := harvestWrite) rfl rfl he
    rw [harvestWrite_data reads grant more] at st
    obtain ⟨tal, read⟩ := harvestData_spec (s := writeTaken tallyReq u) burst
    refine ⟨t, run, ?_, ?_⟩
    · rw [st.talRest, tal]
    · rw [memRead_congr st.mem, read]
      rfl
  · rintro dt h s u he reads grant whole first
    obtain ⟨t, run, st⟩ := timed_settles (c := .harvestComplete dt) (f := harvestWrite) rfl rfl he
    rw [harvestWrite_header reads grant whole first] at st
    have read := memRead_memWrite (a := h.addr) (l := harvestHeader h (writeTaken tallyReq u))
      { writeTaken tallyReq u with tal := { (writeTaken tallyReq u).tal with harvest := some { h with header := true } } }
      (by rw [length_harvestHeader]; decide)
    rw [length_harvestHeader] at read
    refine ⟨t, run, ?_, ?_⟩
    · rw [st.talRest]
      dsimp only
      rw [memWrite_tal]
    · rw [memRead_congr st.mem, read]
      rfl
  · rintro dt h s u he reads grant whole last
    obtain ⟨t, run, st⟩ := timed_settles (c := .harvestComplete dt) (f := harvestWrite) rfl rfl he
    rw [harvestWrite_end reads grant whole last, harvestEnd_eq] at st
    have read := memRead_memWrite (a := h.addr + 60) (l := leBytes 4 (2 ^ 31))
      { writeTaken tallyReq u with tal := { (writeTaken tallyReq u).tal with harvest := none } } (by rw [length_leBytes]; decide)
    rw [length_leBytes] at read
    have ends : (memWrite (h.addr + 60) (leBytes 4 (2 ^ 31))
      { writeTaken tallyReq u with tal := { (writeTaken tallyReq u).tal with harvest := none } }).tal.harvest = none := by
      rw [memWrite_tal]
    generalize memWrite (h.addr + 60) (leBytes 4 (2 ^ 31))
      { writeTaken tallyReq u with tal := { (writeTaken tallyReq u).tal with harvest := none } } = v at *
    obtain ⟨busy, result, int⟩ := harvestClosed_spec h v
    obtain ⟨tal, mem⟩ := harvestClosed_kept h v
    refine ⟨t, run, ?_, ?_, ?_, ?_, ?_⟩
    · rw [st.talRest]
      dsimp only
      rw [tal, ends]
    · rw [st.fget (by decide), busy]
    · rw [st.fget (by decide), result]
    · rw [memRead_congr (st.mem.trans mem), read]
    · rw [st.reg _ (by decide), int]
  · rintro v g i s ready rfl rfl hg hi
    obtain ⟨t, run, st⟩ := hostCmd_settles (c := .talRdSelWrite v) (f := captureCounter v.toNat) rfl rfl ready
    unfold captureCounter at st
    dsimp only at st
    have ok : (decide (bits v.toNat 27 5 ≤ 28) && decide (bits v.toNat 0 20 < groupSize (bits v.toNat 27 5))) = true := by
      simp [hg, hi]
    rw [ok] at st
    refine ⟨t, run, ?_, ?_, ?_⟩
    · refine (rget64_congr (st.reg _ (by decide)) (st.reg _ (by decide))).trans ((rget64_rput64 _ _ (by decide)).trans ?_)
      rw [if_pos rfl]
      split
      · rfl
      · rfl
    · rw [st.reg _ (by decide), rget_rput64_ne _ _ (by decide) (by decide), rget_rput_same, bitAt_eq_bits, bits_mod _ _ _ (by decide),
        bits_setBits_same]
      rfl
    · rw [st.talRest]
      dsimp only
      rw [rput64, rput_tal, rput_tal, rput_tal]

end Machine
end Sys2Proof
end

section
/-! PROOF. Proofs/MailboxStatus.lean: the mailbox status register when a load fails (O54). -/
namespace Sys2Proof
namespace Machine

/-! ### A register has one value -/

theorem OneValue.setInt {a b : Nat} {s : State} (i : Nat) (h : OneValue a s) (ne : b ≠ a) : OneValue a (setInt b i s) := by
  have fresh : OneValue a { s with fresh := sput freshDefault s.fresh b (sget freshDefault s.fresh b ||| 2 ^ i) } := h.of_regs rfl
  exact fresh.rput ne

theorem OneValue.overflowed {a : Nat} {s : State} (code : Nat) (h : OneValue a s) (ne : A.GBK_INT_STAT ≠ a) : OneValue a (overflowed code s) := by
  have counted (i : Nat) (v : State) (hv : OneValue a v) : OneValue a (gbkCtr i v) := hv.of_regs (bump_regs _ _ _)
  unfold Machine.overflowed
  extract_lets u
  have hu : OneValue a u := counted 11 s h
  clear_value u
  split
  · exact (counted 10 u hu).setInt 3 ne
  · exact hu

theorem OneValue.enterQueue {a : Nat} {s : State} (c u x y : Nat) (h : OneValue a s) (ne : A.GBK_INT_STAT ≠ a) :
    OneValue a (enterQueue c u x y s) := by
  unfold Machine.enterQueue
  extract_lets w e q _ v
  have hv : OneValue a v := h.of_regs rfl
  clear_value v
  split
  · exact hv
  · exact hv.overflowed _ ne

theorem OneValue.raise {a : Nat} {s : State} (c u x y : Nat) (h : OneValue a s) (ne : A.GBK_INT_STAT ≠ a) : OneValue a (raise c u x y s) := by
  have kept (g : Gbk) : OneValue a { s with gbk := g } := h.of_regs rfl
  unfold Machine.raise
  dsimp only
  split
  · exact h.enterQueue _ _ _ _ ne
  · split
    · exact (kept _).enterQueue _ _ _ _ ne
    · exact (kept _).of_regs (bump_regs _ _ _)

/-! ### The status register while a Forging is discarded -/

/-- HIF_MBX_STATUS is as before. -/
abbrev StatusKept (s t : State) : Prop := rget t A.HIF_MBX_STATUS = rget s A.HIF_MBX_STATUS

theorem statusKept_of_same {T : List Part} {s t : State} (h : Same T s t) (n : Part.mid ∉ T) : StatusKept s t := h.rget_mid n (by decide)

theorem statusKept_raise (c u x y : Nat) (s : State) : StatusKept s (raise c u x y s) := rget_raise _ _ _ _ _ (by decide)

/-- A field of a port's register is no field of the mailbox. -/
theorem statusKept_fput {f : Fld} (v : Nat) (s : State) (high : 0x40000 ≤ f.addr) : StatusKept s (fput f v s) := by
  refine rget_fput_ne _ _ ?_
  unfold A.HIF_MBX_STATUS
  omega

theorem statusKept_foldl {β : Type} {f : State → β → State} (k : ∀ x b, StatusKept x (f x b)) (l : List β) (s : State) :
    StatusKept s (l.foldl f s) := rget_foldl k l s

theorem statusKept_putPort (p : Nat) (x : PortSt) (s : State) : StatusKept s (putPort p x s) := rfl

section
variable (p : Nat) (s : State)

theorem portStatus_high : 0x40000 ≤ A.PRT_STATUS p := by
  unfold A.PRT_STATUS
  omega

theorem statusKept_setVerify (v : Nat) : StatusKept s (setVerify p v s) := by
  have high : 0x40000 ≤ A.PRT_PREEMPT_STATUS p := by
    unfold A.PRT_PREEMPT_STATUS
    omega
  unfold setVerify
  exact (statusKept_fput _ _ high).trans (statusKept_fput _ _ high)

theorem statusKept_verifyUpdate : StatusKept s (verifyUpdate p s) := by
  unfold verifyUpdate
  dsimp only
  split
  · exact statusKept_setVerify p s 0
  · split
    · exact statusKept_setVerify p s 1
    · split
      · exact statusKept_setVerify p s 5
      · split
        · exact (statusKept_of_same (same_sendVerify p _) (by decide)).trans (statusKept_setVerify p s 2)
        · rfl

theorem statusKept_verifyAll : StatusKept s (verifyAll s) := statusKept_foldl (fun x p => statusKept_verifyUpdate p x) _ s

theorem statusKept_startTraining : StatusKept s (startTraining p s) := by
  unfold startTraining
  extract_lets x u
  have hu : StatusKept s u := rfl
  clear_value u
  exact (statusKept_fput _ _ (portStatus_high p)).trans ((statusKept_fput _ _ (portStatus_high p)).trans hu)

theorem statusKept_told (c x y z i : Nat) : StatusKept s (raise c x y z (setInt (A.PRT_INT_STAT p) i s)) := by
  refine rget_told _ _ _ _ _ _ ?_ (by decide)
  unfold A.PRT_INT_STAT A.HIF_MBX_STATUS
  omega

theorem statusKept_abortTx (i : Nat) : StatusKept s (abortTx p (fun _ s => bump 0 i s) s) :=
  statusKept_of_same (T := [.regs, .tal, .dp, .tmg])
    (same_abortTx_h (by decide) (fun _ _ h => Same.comp (same_bump _ _ _) (by decide) h) (Same.refl _ _)) (by decide)

theorem statusKept_reportDown : StatusKept s (reportDown p s) := by
  unfold reportDown
  extract_lets _ u v w x y
  have hu : StatusKept s u := Eq.trans (statusKept_of_same (same_failReceptions p _) (by decide)) (statusKept_putPort p _ s)
  clear_value u
  have hv : StatusKept u v := (rget_bump _ _ _ _).trans (statusKept_fput _ _ (portStatus_high p))
  clear_value v
  have hw : StatusKept v w := statusKept_told p v _ _ _ _ _
  clear_value w
  have hx : StatusKept w x := by
    unfold x
    split
    · rfl
    · exact statusKept_of_same (same_dropPortQueues _ _ _ _) (by decide)
  clear_value x
  have hy : StatusKept x y := statusKept_abortTx p x _
  clear_value y
  have hz : StatusKept y (startTraining p (fabLinkDown p (verifyUpdate p y))) :=
    (statusKept_startTraining _ _).trans ((statusKept_of_same (same_fabLinkDown _ _) (by decide)).trans (statusKept_verifyUpdate _ _))
  exact hz.trans (hy.trans (hx.trans (hw.trans (hv.trans hu))))

theorem statusKept_reportUp : StatusKept s (reportUp p s) := by
  unfold reportUp
  extract_lets _ u v w
  have hu : StatusKept s u := rfl
  clear_value u
  have hv : StatusKept u v := (statusKept_fput _ _ (portStatus_high p)).trans (statusKept_fput _ _ (portStatus_high p))
  clear_value v
  have hw : StatusKept v w := statusKept_told p v _ _ _ _ _
  clear_value w
  exact (statusKept_of_same (same_fabLinkUp _ _) (by decide)).trans ((statusKept_verifyUpdate _ _).trans (hw.trans (hv.trans hu)))

theorem statusKept_judgeLink : StatusKept s (judgeLink p s) := by
  unfold judgeLink
  extract_lets holds x since u
  have hu : StatusKept s u := by
    unfold u
    split
    · rfl
    · exact statusKept_of_same (same_failReceptions _ _) (by decide)
  clear_value u
  split
  · rfl
  · split
    · exact statusKept_reportDown p s
    · split
      · split
        · exact statusKept_reportUp p s
        · exact statusKept_reportDown p s
      · exact hu

theorem statusKept_judgeAll : StatusKept s (judgeAll s) := by
  refine statusKept_foldl (fun x p => (statusKept_judgeLink _ _).trans ?_) _ s
  split
  · rfl
  · exact statusKept_fput _ _ (portStatus_high p)

end

theorem statusKept_discardForging (b : Nat) {s : State} (one : OneValue A.HIF_MBX_STATUS s) : StatusKept s (discardForging b s) := by
  unfold discardForging
  extract_lets u v
  have hu : StatusKept s u := statusKept_of_same (same_emptyPath s) (by decide)
  have ou : OneValue A.HIF_MBX_STATUS u := oneValue_emptyPath (by decide) one
  clear_value u
  have hv : StatusKept u v := (statusKept_verifyAll _).trans (rget_loadRegs _ _ ou (by decide))
  clear_value v
  refine (statusKept_judgeAll _).trans ((statusKept_of_same (same_setBase _ _) (by decide)).trans ?_)
  exact hv.trans hu

/-! ### The status register while a load fails (R95) -/

theorem statusKept_startSlot (k : Nat) (o : Option Nat) {s : State} (one : OneValue A.HIF_MBX_STATUS s) : StatusKept s (startSlot k o s) := by
  unfold startSlot
  extract_lets n u
  have hu : StatusKept s u ∧ OneValue A.HIF_MBX_STATUS u := by
    unfold u openLoad setFrgState
    have open_ (x : Frg) : OneValue A.HIF_MBX_STATUS { s with frg := x } := one.of_regs rfl
    exact ⟨(rget_rput_ne _ _ (by decide)).trans (rget_fput_ne _ _ (by decide)), ((open_ _).fput (by decide)).rput (by decide)⟩
  clear_value u
  have written : OneValue A.HIF_MBX_STATUS (rput A.FRG_LOAD_LEN n u) := hu.2.rput (by decide)
  unfold firstByte
  exact (statusKept_of_same (same_dropTables _) (by decide)).trans ((statusKept_discardForging _ written).trans
    ((rget_rput_ne _ _ (by decide)).trans hu.1))

theorem oneValue_modeChange {s : State} (one : OneValue A.HIF_MBX_STATUS s) : OneValue A.HIF_MBX_STATUS (modeChange s) := by
  unfold modeChange
  dsimp only
  split
  · exact one
  · have shown (x : Glb) : OneValue A.HIF_MBX_STATUS { s with glb := x } := one.of_regs rfl
    exact ((shown _).setInt 0 (by decide)).raise _ _ _ _ (by decide)

theorem oneValue_endLoad (r : Nat) {s : State} (one : OneValue A.HIF_MBX_STATUS s) : OneValue A.HIF_MBX_STATUS (endLoad r s) := by
  unfold endLoad
  split
  · exact one
  · extract_lets _ u
    have hu : OneValue A.HIF_MBX_STATUS u := by
      unfold u setFrgState frgResult
      have ended (x : Frg) : OneValue A.HIF_MBX_STATUS { s with frg := x } := one.of_regs rfl
      exact (((ended _).rput (by decide)).fput (by decide)).fput (by decide)
    clear_value u
    split
    · exact hu.of_regs rfl
    · split
      · have based (x : Glb) : OneValue A.HIF_MBX_STATUS { clearBank 0 u with glb := x } := hu.of_regs rfl
        exact oneValue_modeChange (based _)
      · exact hu

theorem oneValue_failRecords (r : Nat) {s : State} (one : OneValue A.HIF_MBX_STATUS s) : OneValue A.HIF_MBX_STATUS (failRecords r s) :=
  (one.setInt 2 (by decide)).raise _ _ _ _ (by decide)

theorem statusKept_failed (r : Nat) (s : State) : StatusKept s (failRecords r (endLoad r s)) :=
  (rget_told _ _ _ _ _ _ (by decide) (by decide)).trans (statusKept_of_same (same_endLoad r s) (by decide))

/-- The failure of slot `k` is recorded. -/
def slotReported (k r : Nat) (s : State) : State := raise 0x0108 k r 0 (slotResult k r s)

theorem statusKept_slotReported (k r : Nat) (s : State) : StatusKept s (slotReported k r s) := by
  refine (statusKept_raise _ _ _ _ _).trans ?_
  unfold slotResult
  split
  · exact rget_fput_ne _ _ (by decide)
  · exact rget_fput_ne _ _ (by decide)

theorem oneValue_slotReported (k r : Nat) {s : State} (one : OneValue A.HIF_MBX_STATUS s) : OneValue A.HIF_MBX_STATUS (slotReported k r s) := by
  refine OneValue.raise _ _ _ _ ?_ (by decide)
  unfold slotResult
  split
  · exact one.fput (by decide)
  · exact one.fput (by decide)

/-- A failed load of a slot goes on as `next` does, from what `slotReported` leaves. -/
theorem statusKept_slotFailed {l : Load} {r : Nat} {next : Nat → State → State} {s : State}
    (on : ∀ k k', StatusKept (slotReported k r s) (next k' (slotReported k r s))) : StatusKept s (slotFailed l r next s) := by
  unfold slotFailed
  split
  · rfl
  next k _ =>
    have told := statusKept_slotReported k r s
    dsimp only
    split
    · exact (on _ _).trans told
    · exact (statusKept_raise _ _ _ _ _).trans told

theorem statusKept_failWith {r : Nat} {next : Nat → State → State} {s : State}
    (on : ∀ k k', StatusKept (slotReported k r (failRecords r (endLoad r s))) (next k' (slotReported k r (failRecords r (endLoad r s))))) :
    StatusKept s (failWith next r s) := by
  unfold failWith
  split
  · rfl
  · exact (statusKept_slotFailed on).trans (statusKept_failed r s)

/-- Where no other slot is tried the failed load ends. -/
theorem statusKept_stopped (r : Nat) (s : State) : StatusKept s (failWith (fun _ s => s) r s) := by
  refine statusKept_failWith (fun k k' => ?_)
  generalize slotReported k r (failRecords r (endLoad r s)) = u
  rfl

theorem statusKept_startLast (k : Nat) {s : State} (one : OneValue A.HIF_MBX_STATUS s) : StatusKept s (startLast k s) := by
  have started := statusKept_startSlot k none one
  unfold startLast
  dsimp only
  split
  · exact started
  · exact (statusKept_stopped _ _).trans started

theorem statusKept_failLoad (r : Nat) {s : State} (one : OneValue A.HIF_MBX_STATUS s) : StatusKept s (failLoad r s) :=
  statusKept_failWith (fun k k' =>
    statusKept_startLast k' (oneValue_slotReported k r (oneValue_failRecords r (oneValue_endLoad r one))))

end Machine
end Sys2Proof
end

section
/-! PROOF. Proofs/Mailbox.lean: the commands of the mailbox (O54). -/
namespace Sys2Proof
namespace Machine

/-! ### The doorbell and the end of a command (R178 to R182) -/

theorem mbxDoorbell_taken {c : Instr} {op tag len : Nat} {s : State} (ready : HostReady s A.HIF_MBX_CMD)
    (idle : fbit s F.HIF_MBX_STATUS_BUSY = false) (e : exec c s = hostCmd c A.HIF_MBX_CMD s (mbxDoorbell op tag len))
    (w : wellFormed c = true) :
    ∃ t, exec c s = .next t ∧ fget t F.HIF_MBX_STATUS_BUSY = 1 ∧ fget t F.HIF_MBX_STATUS_OVERRUN = 0 ∧
      t.hif.mbxCmd = some (op, tag, len, (List.range 16).map (fun k => rget s (A.HIF_MBX_REQ k)), s.clk) ∧ t.dp = s.dp ∧ t.tab = s.tab := by
  obtain ⟨t, run, st⟩ := hostCmd_settles e w ready
  unfold mbxDoorbell at st
  rw [if_neg (by rw [idle]; decide)] at st
  dsimp only at st
  refine ⟨t, run, ?_, ?_, ?_, ?_, ?_⟩
  · rw [st.fget (by decide), fget_fput_apart _ _ (by decide), fget_fput_same _ _ _ (by decide)]
    rfl
  · rw [st.fget (by decide), fget_fput_same _ _ _ (by decide)]
    rfl
  · rw [st.hifRest]
    dsimp only
    rw [fput_hif, fput_hif]
  · rw [st.dp, fput_dp, fput_dp]
  · rw [st.tab, fput_tab, fput_tab]

/-- The response `rsp` in the response registers from number `n` on. -/
def respond (n : Nat) (rsp : List Nat) (s : State) : State := (rsp.zipIdx n).foldl (fun s e => rput (A.HIF_MBX_RSP e.2) e.1 s) s

theorem respond_cons (n v : Nat) (rsp : List Nat) (s : State) :
    respond n (v :: rsp) s = respond (n + 1) rsp (rput (A.HIF_MBX_RSP n) v s) := by
  unfold respond
  rw [List.zipIdx_cons, List.foldl_cons]

theorem rget_respond {r : Nat} (n : Nat) (rsp : List Nat) (s : State) (h : ∀ k, n ≤ k → A.HIF_MBX_RSP k ≠ r) :
    rget (respond n rsp s) r = rget s r := by
  induction rsp generalizing n s with
  | nil => rfl
  | cons v rsp ih => rw [respond_cons, ih _ _ (fun k hk => h k (by omega)), rget_rput_ne _ _ (h n (Nat.le_refl _))]

theorem rsp_injective {i j : Nat} (h : i ≠ j) : A.HIF_MBX_RSP i ≠ A.HIF_MBX_RSP j := by
  unfold A.HIF_MBX_RSP
  omega

theorem rget_respond_word (n k : Nat) (rsp : List Nat) (s : State) (h : k < rsp.length) :
    rget (respond n rsp s) (A.HIF_MBX_RSP (n + k)) = ew rsp k % 2 ^ 32 := by
  induction rsp generalizing n k s with
  | nil => exact absurd h (by simp)
  | cons v rsp ih =>
    rw [respond_cons]
    cases k with
    | zero =>
      rw [rget_respond _ _ _ (fun k hk => rsp_injective (by omega))]
      exact rget_rput_same _ _ _
    | succ k =>
      rw [show n + (k + 1) = n + 1 + k by omega, ih _ _ _ (by simpa using h)]
      rfl

theorem respond_hif (n : Nat) (rsp : List Nat) (s : State) : (respond n rsp s).hif = s.hif := by
  induction rsp generalizing n s with
  | nil => rfl
  | cons v rsp ih => rw [respond_cons, ih, rput_hif]

/-- The mailbox with the response in place, before its status is written. -/
def mbxAnswered (rsp : List Nat) (s : State) : State := respond 0 rsp { s with hif := { s.hif with mbxCmd := none } }

theorem mbxEnd_eq (tag r : Nat) (rsp : List Nat) (s : State) : mbxEnd tag r rsp s =
    setInt A.HIF_INT_STAT 0 (fput F.HIF_MBX_STATUS_BUSY 0 (fput F.HIF_MBX_STATUS_TAG tag (fput F.HIF_MBX_STATUS_RESULT r
      (fput F.HIF_MBX_STATUS_RSP_LEN rsp.length (mbxAnswered rsp s))))) := rfl

theorem mbxEnd_spec (tag r : Nat) (rsp : List Nat) (s : State) :
    (mbxEnd tag r rsp s).hif = { s.hif with mbxCmd := none } ∧ fget (mbxEnd tag r rsp s) F.HIF_MBX_STATUS_BUSY = 0 ∧
      fget (mbxEnd tag r rsp s) F.HIF_MBX_STATUS_TAG = tag % 256 ∧ fget (mbxEnd tag r rsp s) F.HIF_MBX_STATUS_RESULT = r % 256 ∧
      fget (mbxEnd tag r rsp s) F.HIF_MBX_STATUS_RSP_LEN = rsp.length % 32 ∧
      bitAt (rget (mbxEnd tag r rsp s) A.HIF_INT_STAT) 0 = true := by
  have hif : (mbxAnswered rsp s).hif = { s.hif with mbxCmd := none } := respond_hif _ _ _
  rw [mbxEnd_eq]
  generalize mbxAnswered rsp s = u at *
  refine ⟨?_, ?_, ?_, ?_, ?_, testBit_forBits _ _ _ (by decide)⟩
  · have set (v : State) : (setInt A.HIF_INT_STAT 0 v).hif = v.hif := rfl
    rw [set, fput_hif, fput_hif, fput_hif, fput_hif, hif]
  · rw [fget_setInt_ne _ _ (by decide), fget_fput_same _ _ _ (by decide)]
    rfl
  · rw [fget_setInt_ne _ _ (by decide), fget_fput_apart _ _ (by decide), fget_fput_same _ _ _ (by decide)]
    rfl
  · rw [fget_setInt_ne _ _ (by decide), fget_fput_apart _ _ (by decide), fget_fput_apart _ _ (by decide), fget_fput_same _ _ _ (by decide)]
    rfl
  · rw [fget_setInt_ne _ _ (by decide), fget_fput_apart _ _ (by decide), fget_fput_apart _ _ (by decide),
      fget_fput_apart _ _ (by decide), fget_fput_same _ _ _ (by decide)]
    rfl

theorem rget_mbxEnd_rsp {k : Nat} (tag r : Nat) {rsp : List Nat} (s : State) (h : k < rsp.length) (few : k < 16) :
    rget (mbxEnd tag r rsp s) (A.HIF_MBX_RSP k) = ew rsp k % 2 ^ 32 := by
  have status : A.HIF_MBX_STATUS ≠ A.HIF_MBX_RSP k := by
    unfold A.HIF_MBX_STATUS A.HIF_MBX_RSP
    omega
  have int : A.HIF_INT_STAT ≠ A.HIF_MBX_RSP k := by
    unfold A.HIF_INT_STAT A.HIF_MBX_RSP
    omega
  have word := rget_respond_word 0 k rsp { s with hif := { s.hif with mbxCmd := none } } h
  rw [Nat.zero_add] at word
  rw [mbxEnd_eq, rget_setInt_ne _ _ int, rget_fput_ne _ _ status, rget_fput_ne _ _ status, rget_fput_ne _ _ status,
    rget_fput_ne _ _ status]
  exact word

section
variable {op tag len c : Nat} {w : List Nat} {s : State} (up : s.hif.restarting = false) (old : s.hif.mbxOld = [])
  (cmd : s.hif.mbxCmd = some (op, tag, len, w, c))
include up old cmd

theorem mbxComplete_eq (ok : Bool) : mbxComplete ok s = mbxEnd tag (mbxRun op len w ok s).1 (mbxRun op len w ok s).2.1 (mbxRun op len w ok s).2.2 := by
  unfold mbxComplete
  rw [if_neg (Bool.eq_false_iff.mp up), old]
  dsimp only
  rw [cmd]

end

theorem mbxRefusal_ping {len : Nat} {w : List Nat} {s : State} (short : len ≤ 16) : mbxRefusal s opPing len w = none := by
  unfold mbxRefusal
  dsimp only
  rw [if_neg (by decide), if_neg (by simp [mbxLength]; omega), if_neg (by simp [opPing, opOtpKeyHash, opOtpImageKey]),
    if_neg (by simp [opPing, opOtpRevoke]), if_neg (by simp [opPing, opOtpRevoke]), if_neg (by simp [opPing, opOtpRaiseSecver]),
    if_neg (by simp [opPing])]

theorem mbxRun_ping {len : Nat} {w : List Nat} {ok : Bool} {s : State} (short : len ≤ 16) :
    mbxRun opPing len w ok s = (mbxOk, w.take len, s) := by
  unfold mbxRun
  rw [mbxRefusal_ping short]
  exact if_pos rfl

/-- The slot of the key hash that a request names. -/
theorem mbxRefusal_keyHash {w : List Nat} {s : State} (free : slotHash s (w.headD 0 % 2) = none) (mild : otpTooHotOrCold s = false) :
    mbxRefusal s opOtpKeyHash 13 w = none := by
  have taken : ¬ (opOtpKeyHash = opOtpKeyHash ∧ (slotHash s (w.headD 0 % 2)).isSome = true ∨
      opOtpKeyHash = opOtpImageKey ∧ s.hif.imageKey.isSome = true) := by
    rw [free]
    simp [opOtpKeyHash, opOtpImageKey]
  unfold mbxRefusal
  dsimp only
  rw [if_neg (by decide), if_neg (by decide), if_neg taken,
    if_neg (by simp [opOtpKeyHash, opOtpRevoke]), if_neg (by simp [opOtpKeyHash, opOtpRevoke]),
    if_neg (by simp [opOtpKeyHash, opOtpRaiseSecver]), if_neg (by simp [mild])]

theorem mbxRun_keyHash {w : List Nat} {s : State} (free : slotHash s (w.headD 0 % 2) = none) (mild : otpTooHotOrCold s = false) :
    mbxRun opOtpKeyHash 13 w true s = (mbxOk, [], raise 0x0205 noUnit opOtpKeyHash 0
      (setSlotHash (w.headD 0 % 2) (some (wordOctets ((w.drop 1).take 12))) s)) := by
  unfold mbxRun
  rw [mbxRefusal_keyHash free mild]
  dsimp only
  rw [if_neg (by decide), if_neg (by decide), if_neg (by decide), if_pos rfl]
  rfl

theorem slotHash_setSlotHash {j k : Nat} (hj : j < 2) (hk : k < 2) (h : Option (List Byte)) (s : State) :
    slotHash (setSlotHash k h s) j = if j = k then h else slotHash s j := by
  obtain rfl | rfl : k = 0 ∨ k = 1 := by omega
  · obtain rfl | rfl : j = 0 ∨ j = 1 := by omega
    · rfl
    · rfl
  · obtain rfl | rfl : j = 0 ∨ j = 1 := by omega
    · rfl
    · rfl

theorem slotHash_congr {s t : State} (h0 : t.hif.keyHash0 = s.hif.keyHash0) (h1 : t.hif.keyHash1 = s.hif.keyHash1) (k : Nat) :
    slotHash t k = slotHash s k := by
  unfold slotHash
  rw [h0, h1]

/-! ### The Ostler falls silent (R181, R183) -/

theorem setSilent_hif (s : State) : (setSilent s).hif = { s.hif with ostlerSilent := true } := by
  unfold setSilent
  split
  next silent => rw [← silent]
  · exact (same_raise _ _ _ _ _).part .hif (by decide)

theorem rget_setSilent {r : Nat} (s : State) (int : A.HIF_INT_STAT ≠ r) (gbk : r ≠ A.GBK_INT_STAT) : rget (setSilent s) r = rget s r := by
  unfold setSilent
  split
  · rfl
  · rw [rget_raise _ _ _ _ _ gbk, rget_bump, rget_setInt_ne _ _ int]
    rfl

theorem setSilent_int {s : State} (set : bitAt (rget s A.HIF_INT_STAT) 0 = true) : bitAt (rget (setSilent s) A.HIF_INT_STAT) 0 = true := by
  unfold setSilent
  split
  · exact set
  · rw [rget_raise _ _ _ _ _ (by decide), rget_bump]
    exact bitAt_setInt 2 (by decide) set

theorem oneValue_setSilent {s : State} (one : OneValue A.HIF_MBX_STATUS s) : OneValue A.HIF_MBX_STATUS (setSilent s) := by
  unfold setSilent
  split
  · exact one
  · have silent (x : Hif) : OneValue A.HIF_MBX_STATUS { s with hif := x } := one.of_regs rfl
    have told := (silent { s.hif with ostlerSilent := true }).setInt 2 (show A.HIF_INT_STAT ≠ A.HIF_MBX_STATUS by decide)
    exact OneValue.raise _ _ _ _ (told.of_regs (bump_regs _ _ _)) (by decide)

/-- The mailbox with its command given up. -/
def mbxGivenUp (c : Nat × Nat × Nat × List Nat × Nat) (s : State) : State :=
  fput F.HIF_MBX_STATUS_RESULT mbxTimedOut (fput F.HIF_MBX_STATUS_BUSY 0
    { s with hif := { s.hif with mbxCmd := none, mbxOld := s.hif.mbxOld ++ [c] } })

theorem mbxTimeout_eq {c : Nat × Nat × Nat × List Nat × Nat} {s : State} (cmd : s.hif.mbxCmd = some c) :
    mbxTimeout s = setSilent (raise 0x0202 noUnit c.1 c.2.1 (setInt A.HIF_INT_STAT 0 (mbxGivenUp c s))) := by
  unfold mbxTimeout
  rw [cmd]
  rfl

theorem mbxGivenUp_spec (c : Nat × Nat × Nat × List Nat × Nat) (s : State) :
    fget (mbxGivenUp c s) F.HIF_MBX_STATUS_BUSY = 0 ∧ fget (mbxGivenUp c s) F.HIF_MBX_STATUS_RESULT = mbxTimedOut ∧
      OneValue A.HIF_MBX_STATUS (mbxGivenUp c s) ∧
      (mbxGivenUp c s).hif = { s.hif with mbxCmd := none, mbxOld := s.hif.mbxOld ++ [c] } := by
  unfold mbxGivenUp
  refine ⟨?_, ?_, oneValue_fput_same _ _ _, ?_⟩
  · rw [fget_fput_apart _ _ (by decide), fget_fput_same _ _ _ (by decide)]
    rfl
  · rw [fget_fput_same _ _ _ (by decide)]
    rfl
  · rw [fput_hif, fput_hif]

theorem mbxTimeout_spec {c : Nat × Nat × Nat × List Nat × Nat} {s : State} (cmd : s.hif.mbxCmd = some c) :
    fget (mbxTimeout s) F.HIF_MBX_STATUS_BUSY = 0 ∧ fget (mbxTimeout s) F.HIF_MBX_STATUS_RESULT = mbxTimedOut ∧
      OneValue A.HIF_MBX_STATUS (mbxTimeout s) ∧ (mbxTimeout s).hif.mbxCmd = none ∧ (mbxTimeout s).hif.ostlerSilent = true ∧
      bitAt (rget (mbxTimeout s) A.HIF_INT_STAT) 0 = true := by
  obtain ⟨busy, result, one, hif⟩ := mbxGivenUp_spec c s
  rw [mbxTimeout_eq cmd]
  generalize mbxGivenUp c s = u at *
  have kept : StatusKept u (setSilent (raise 0x0202 noUnit c.1 c.2.1 (setInt A.HIF_INT_STAT 0 u))) :=
    (rget_setSilent _ (by decide) (by decide)).trans (rget_told _ _ _ _ _ _ (by decide) (by decide))
  refine ⟨?_, ?_, ?_, ?_, ?_, ?_⟩
  · rw [fget_congr (f := F.HIF_MBX_STATUS_BUSY) kept, busy]
  · rw [fget_congr (f := F.HIF_MBX_STATUS_RESULT) kept, result]
  · exact oneValue_setSilent ((one.setInt 0 (by decide)).raise _ _ _ _ (by decide))
  · rw [setSilent_hif, (same_raise _ _ _ _ _).part .hif (by decide)]
    exact congrArg Hif.mbxCmd hif
  · rw [setSilent_hif]
  · refine setSilent_int ?_
    rw [rget_raise _ _ _ _ _ (by decide)]
    exact testBit_forBits _ _ _ (by decide)

/-! ### A restart (R184) -/

theorem setSlotHash_mbxCmd (k : Nat) (h : Option (List Byte)) (s : State) : (setSlotHash k h s).hif.mbxCmd = s.hif.mbxCmd := by
  unfold setSlotHash
  split
  · rfl
  · rfl

theorem setRevoked_mbxCmd (k : Nat) (s : State) : (setRevoked k s).hif.mbxCmd = s.hif.mbxCmd := by
  unfold setRevoked
  split
  · rfl
  · rfl

theorem otpProgram_mbxCmd (op : Nat) (w : List Nat) (ok : Bool) (s : State) : (otpProgram op w ok s).hif.mbxCmd = s.hif.mbxCmd := by
  unfold otpProgram
  dsimp only
  split
  · exact setSlotHash_mbxCmd _ _ _
  · split
    · split
      · rfl
      · rfl
    · split
      · rfl
      · split
        · exact setRevoked_mbxCmd _ _
        · rfl

theorem otpBroken_mbxCmd (c : Nat × Nat × Nat × List Nat × Nat) (s : State) : (otpBroken c s).hif.mbxCmd = s.hif.mbxCmd := by
  unfold otpBroken
  dsimp only
  split
  · rfl
  · split
    · rfl
    · split
      · exact setSlotHash_mbxCmd _ _ _
      · split
        · rfl
        · exact otpProgram_mbxCmd _ _ _ _

/-- The commands before a restart leave what they have done to OTP. -/
def otpLeft (s : State) : State := s.hif.mbxOld.foldl (fun s c => otpBroken c s) s

theorem otpLeft_spec (s : State) : (otpLeft s).hif.mbxCmd = s.hif.mbxCmd ∧ (otpLeft s).regs = s.regs := by
  have fold (l : List (Nat × Nat × Nat × List Nat × Nat)) (x : State) :
      (l.foldl (fun s c => otpBroken c s) x).hif.mbxCmd = x.hif.mbxCmd ∧ (l.foldl (fun s c => otpBroken c s) x).regs = x.regs := by
    induction l generalizing x with
    | nil => exact ⟨rfl, rfl⟩
    | cons c l ih =>
      obtain ⟨cmd, regs⟩ := ih (otpBroken c x)
      exact ⟨cmd.trans (otpBroken_mbxCmd c x), regs.trans (regs_of_same (same_otpBroken c x) (by decide))⟩
  exact fold _ _

/-- The Ostler restarts: its old commands are forgotten. -/
def ostlerAnew (s : State) : State := raise 0x0204 noUnit 0 0 { s with hif := { s.hif with mbxOld := [], restarting := true } }

theorem ostlerRestart_eq (s : State) : ostlerRestart s =
    if frgState (ostlerAnew (otpLeft (mbxTimeout s))) = frgVerifying then
      freeCells (failLoad frgOstlerTimeout (ostlerAnew (otpLeft (mbxTimeout s))))
    else ostlerAnew (otpLeft (mbxTimeout s)) := rfl

theorem ostlerAnew_hif (s : State) : (ostlerAnew s).hif = { s.hif with mbxOld := [], restarting := true } :=
  (same_raise _ _ _ _ _).part .hif (by decide)

theorem ostlerRestart_hif (s : State) : (ostlerRestart s).hif = (ostlerAnew (otpLeft (mbxTimeout s))).hif := by
  rw [ostlerRestart_eq]
  split
  · exact Eq.trans ((same_freeCells _).part .hif (by decide)) ((same_failLoad _ _).part .hif (by decide))
  · rfl

theorem mbxTimeout_cmd (s : State) : (mbxTimeout s).hif.mbxCmd = none := by
  cases cmd : s.hif.mbxCmd with
  | none =>
    unfold mbxTimeout
    rw [cmd]
    exact cmd
  | some c => exact (mbxTimeout_spec cmd).2.2.2.1

theorem ostlerRestart_result {c : Nat × Nat × Nat × List Nat × Nat} {s : State} (cmd : s.hif.mbxCmd = some c) :
    fget (ostlerRestart s) F.HIF_MBX_STATUS_RESULT = mbxTimedOut := by
  obtain ⟨-, result, one, -, -, -⟩ := mbxTimeout_spec cmd
  obtain ⟨-, regs⟩ := otpLeft_spec (mbxTimeout s)
  have one' : OneValue A.HIF_MBX_STATUS (ostlerAnew (otpLeft (mbxTimeout s))) := by
    have left (x : Hif) : OneValue A.HIF_MBX_STATUS { otpLeft (mbxTimeout s) with hif := x } := one.of_regs regs
    exact (left _).raise _ _ _ _ (by decide)
  have kept : StatusKept (mbxTimeout s) (ostlerAnew (otpLeft (mbxTimeout s))) := (statusKept_raise _ _ _ _ _).trans (rget_congr regs _)
  rw [← result]
  refine fget_congr (f := F.HIF_MBX_STATUS_RESULT) (Eq.trans ?_ kept)
  rw [ostlerRestart_eq]
  generalize ostlerAnew (otpLeft (mbxTimeout s)) = u at *
  split
  · exact (rget_freeCells _ _).trans (statusKept_failLoad _ one')
  · rfl

/-- Settles O54: the doorbell (`mbxDoorbell_taken`), the end of a command (`mbxEnd_spec`), a command given up (`mbxTimeout_spec`) and
a restart, whose failed load leaves the mailbox's status (`statusKept_failLoad`). -/
theorem theMailboxCarriesCommands : Obligations.TheMailboxCarriesCommands := by
  unfold Obligations.TheMailboxCarriesCommands
  refine ⟨?_, ?_, ?_, ?_, ?_, ?_, ?_, ?_⟩
  · rintro tag len op c s ht hl ready idle known
    simp only [List.mem_cons, Prod.mk.injEq, List.not_mem_nil, or_false] at known
    obtain ⟨rfl, rfl⟩ | ⟨rfl, rfl⟩ | ⟨rfl, rfl⟩ | ⟨rfl, rfl⟩ | ⟨rfl, rfl⟩ | ⟨rfl, rfl⟩ | ⟨rfl, rfl⟩ := known
    all_goals exact mbxDoorbell_taken ready idle rfl (by simp [wellFormed, ht, hl])
  · rintro dt op tag len c r ok w rsp s u v he up old cmd ran
    obtain ⟨t, run, st⟩ := timed_settles (c := .mbxCompletion dt ok) (f := mbxComplete ok) rfl rfl he
    rw [mbxComplete_eq up old cmd, ran] at st
    obtain ⟨hif, busy, tagged, result, -, int⟩ := mbxEnd_spec tag r rsp v
    refine ⟨t, run, ?_, ?_, ?_, ?_, ?_⟩
    · rw [st.hifRest]
      exact congrArg Hif.mbxCmd hif
    · rw [st.fget (by decide), busy]
    · rw [st.fget (by decide), tagged]
    · rw [st.fget (by decide), result]
    · rw [st.reg _ (by decide), int]
  · rintro dt tag len c ok w s u he up old cmd whole short
    obtain ⟨t, run, st⟩ := timed_settles (c := .mbxCompletion dt ok) (f := mbxComplete ok) rfl rfl he
    rw [mbxComplete_eq up old cmd, mbxRun_ping short] at st
    dsimp only at st
    obtain ⟨-, -, -, result, length, -⟩ := mbxEnd_spec tag mbxOk (w.take len) u
    have count : (w.take len).length = len := by
      rw [List.length_take, whole, Nat.min_eq_left short]
    refine ⟨t, run, ?_, ?_, ?_⟩
    · rw [st.fget (by decide), result]
      rfl
    · rw [st.fget (by decide), length, count]
      exact Nat.mod_eq_of_lt (by omega)
    · intro k hk
      have outside : ∀ j < 16, A.HIF_MBX_RSP j ∉ settleRegs := by decide
      rw [st.reg _ (outside k (by omega))]
      refine (rget_mbxEnd_rsp tag mbxOk u (by omega) (by omega)).trans ?_
      unfold ew
      rw [List.getD_eq_getElem?_getD, List.getD_eq_getElem?_getD, List.getElem?_take_of_lt hk]
  · rintro dt tag c w s u he up old cmd free mild
    obtain ⟨t, run, st⟩ := timed_settles (c := .mbxCompletion dt true) (f := mbxComplete true) rfl rfl he
    rw [mbxComplete_eq up old cmd, mbxRun_keyHash free mild] at st
    dsimp only at st
    have raised : (raise 0x0205 noUnit opOtpKeyHash 0 (setSlotHash (w.headD 0 % 2) (some (wordOctets ((w.drop 1).take 12))) u)).hif =
      (setSlotHash (w.headD 0 % 2) (some (wordOctets ((w.drop 1).take 12))) u).hif := (same_raise _ _ _ _ _).part .hif (by decide)
    obtain ⟨hif, -, -, result, -, -⟩ := mbxEnd_spec tag mbxOk []
      (raise 0x0205 noUnit opOtpKeyHash 0 (setSlotHash (w.headD 0 % 2) (some (wordOctets ((w.drop 1).take 12))) u))
    rw [raised] at hif
    have slots (k : Nat) (hk : k < 2) : slotHash t k =
        if k = w.headD 0 % 2 then some (wordOctets ((w.drop 1).take 12)) else slotHash u k := by
      rw [← slotHash_setSlotHash hk (Nat.mod_lt _ (by decide))]
      refine slotHash_congr ?_ ?_ k
      · rw [st.hifRest]
        exact (congrArg Hif.keyHash0 hif :)
      · rw [st.hifRest]
        exact (congrArg Hif.keyHash1 hif :)
    refine ⟨t, run, ?_, ?_, ?_⟩
    · rw [st.fget (by decide), result]
      rfl
    · rw [slots _ (Nat.mod_lt _ (by decide)), if_pos rfl]
    · rw [slots _ (by omega), if_neg (by omega)]
  · rintro dt s u he late
    obtain ⟨t, run, st⟩ := timed_settles (c := .mbxTimeout dt) (f := fun s => if mbxLate s then mbxTimeout s else s) rfl rfl he
    rw [if_pos late] at st
    obtain ⟨c, cmd⟩ : ∃ c, u.hif.mbxCmd = some c := by
      unfold mbxLate at late
      split at late
      next cmd => exact ⟨_, cmd⟩
      · exact absurd late (by decide)
    obtain ⟨busy, result, -, free, silent, int⟩ := mbxTimeout_spec cmd
    refine ⟨t, run, ?_, ?_, ?_, ?_, ?_⟩
    · rw [st.hifRest, ← free]
    · rw [st.fget (by decide), busy]
    · rw [st.fget (by decide), result]
    · rw [st.hifRest, ← silent]
    · rw [st.reg _ (by decide), int]
  · rintro dt s u he
    obtain ⟨t, run, st⟩ := timed_settles (c := .ostlerBeat dt) (f := ostlerBeat) rfl rfl he
    have frame := same_ostlerBeat u
    have counted : rget (ostlerBeat u) A.HIF_OSTLER_BEAT = (rget u A.HIF_OSTLER_BEAT + 1) % 2 ^ 32 :=
      (rget_rput_same _ _ _).trans (Nat.mod_mod _ _)
    have clk : (ostlerBeat u).hif.beatClk = u.clk := rput_clk A.HIF_OSTLER_BEAT ((rget u A.HIF_OSTLER_BEAT + 1) % 2 ^ 32) u
    refine ⟨t, run, ?_, ?_, ?_, st.dp.trans (frame.part .dp (by decide)), st.tab.trans (frame.part .tab (by decide))⟩
    · rw [st.reg _ (by decide), counted]
    · rw [st.hifRest, ← clk]
    · rw [st.hifRest]
      rfl
  · rintro dt s u he late
    obtain ⟨t, run, st⟩ := timed_settles (c := .ostlerSilent dt)
      (f := fun s => if s.hif.beatClk + 100 * clocksPerMs ≤ s.clk then setSilent s else s) rfl rfl he
    rw [if_pos late] at st
    have frame := same_setSilent u
    refine ⟨t, run, ?_, st.dp.trans (frame.part .dp (by decide)), st.tab.trans (frame.part .tab (by decide))⟩
    rw [st.hifRest]
    exact congrArg Hif.ostlerSilent (setSilent_hif u)
  · rintro s ready
    obtain ⟨t, run, st⟩ := hostCmd_settles (c := .ostlerRestart) (f := ostlerRestart) rfl rfl ready
    have hif := (ostlerRestart_hif s).trans (ostlerAnew_hif _)
    refine ⟨t, run, ?_, ?_, ?_, ?_⟩
    · rw [st.hifRest]
      exact congrArg Hif.restarting hif
    · rw [st.hifRest]
      exact (congrArg Hif.mbxCmd hif).trans ((otpLeft_spec _).1.trans (mbxTimeout_cmd s))
    · rw [st.hifRest]
      exact congrArg Hif.mbxOld hif
    · intro busy
      obtain ⟨c, cmd⟩ := Option.isSome_iff_exists.mp busy
      rw [st.fget (by decide), ostlerRestart_result cmd]

end Machine
end Sys2Proof
end

section
/-! PROOF. Proofs/Queues.lean: shapers, regions and samples of the traffic manager (O44). -/
namespace Sys2Proof
namespace Machine

/-! ### Shapers and regions (R341, R348, R400) -/

/-- An address of the traffic manager's block. -/
def TmReg (r : Nat) : Prop := 0xE0000 < r ∧ r < 0x100000

theorem TmReg.not_mem_settleRegs {r : Nat} (h : TmReg r) : r ∉ settleRegs := by
  have outside : ∀ a ∈ settleRegs, a ≤ 0xE0000 ∨ 0x100000 ≤ a := by decide
  intro mem
  obtain ⟨lower, upper⟩ := h
  have := outside r mem
  omega

theorem tmReg_shaperReg {g : ShaperTarget} (b : Bool) (ok : shaperTargetOk g = true) : TmReg (shaperReg b g) := by
  unfold TmReg
  cases g with
  | port p =>
    simp only [shaperTargetOk, decide_eq_true_eq] at ok
    simp only [shaperReg, A.TM_PORT_SHP_RATE, A.TM_PORT_SHP_BURST]
    split <;> omega
  | queue p q =>
    simp only [shaperTargetOk, Bool.and_eq_true, decide_eq_true_eq] at ok
    obtain ⟨hp, hq⟩ := ok
    simp only [shaperReg, A.TM_Q_SHP_RATE, A.TM_Q_SHP_BURST]
    split at hq <;> split <;> omega

theorem shaperOf_lt {g : ShaperTarget} (ok : shaperTargetOk g = true) : shaperOf g < 1357 := by
  cases g with
  | port p =>
    simp only [shaperTargetOk, decide_eq_true_eq] at ok
    simp only [shaperOf]
    omega
  | queue p q =>
    simp only [shaperTargetOk, Bool.and_eq_true, decide_eq_true_eq] at ok
    obtain ⟨hp, hq⟩ := ok
    simp only [shaperOf, qkey]
    split at hq <;> omega

theorem qport_qnum_bounds {k : Nat} (h : k < 1280) : qport k < 77 ∧ qnum k < if qport k = 76 then 64 else 16 := by
  unfold qport qnum
  split
  · rw [if_pos rfl]
    omega
  · rw [if_neg (by omega)]
    omega

/-- The registers of a shaper, for its number. -/
theorem tmReg_shaper {i : Nat} (h : i < 1357) (lower : 1280 ≤ i) :
    TmReg (A.TM_PORT_SHP_RATE (i - 1280)) ∧ TmReg (A.TM_PORT_SHP_BURST (i - 1280)) := by
  unfold TmReg A.TM_PORT_SHP_RATE A.TM_PORT_SHP_BURST
  omega

theorem tmReg_queueShaper {i : Nat} (h : i < 1280) :
    TmReg (A.TM_Q_SHP_RATE (qport i) (qnum i)) ∧ TmReg (A.TM_Q_SHP_BURST (qport i) (qnum i)) := by
  obtain ⟨hp, hq⟩ := qport_qnum_bounds h
  unfold TmReg A.TM_Q_SHP_RATE A.TM_Q_SHP_BURST
  split at hq <;> omega

theorem shaperRate_congr {s t : State} {i : Nat} (hi : i < 1357) (h : ∀ r, TmReg r → rget t r = rget s r) :
    shaperRate t i = shaperRate s i := by
  unfold shaperRate
  split
  next queue => exact h _ (tmReg_queueShaper queue).1
  next port => exact h _ (tmReg_shaper hi (Nat.le_of_not_lt port)).1

theorem shaperBurst_congr {s t : State} {i : Nat} (hi : i < 1357) (h : ∀ r, TmReg r → rget t r = rget s r) :
    shaperBurst t i = shaperBurst s i := by
  unfold shaperBurst
  split
  next queue => exact fget_congr (h _ (tmReg_queueShaper queue).2)
  next port => exact fget_congr (h _ (tmReg_shaper hi (Nat.le_of_not_lt port)).2)

theorem shaperReset_shaper (i : Nat) (s : State) : sget shaperDefault (shaperReset i s).tmg.shapers i =
    { level := if bitAt (shaperRate s i) 30 = true then Int.ofNat (shaperBurst s i) * 65536 else 0, stamp := s.clk } :=
  sget_sput_same _ _ _

theorem regionAddr_bounds {a : Nat} (h : regionAddr a = true) : TmReg a := by
  unfold regionAddr at h
  simp only [Bool.or_eq_true, Bool.and_eq_true, beq_iff_eq, decide_eq_true_eq] at h
  unfold TmReg
  omega

theorem rget_keepInForce (a : Nat) (s : State) (r : Nat) : rget (keepInForce a s) r = rget s r := rfl

theorem rget_writeRegion (a v : Nat) (s : State) {r : Nat} (h : r ≠ A.TM_INT_STAT) (h' : r ≠ A.GBK_INT_STAT) :
    rget (writeRegion a v s) r = rget (writeRw a v (keepInForce a s)) r := by
  unfold writeRegion
  dsimp only
  split
  · rw [rget_raise _ _ _ _ _ h', rget_setInt_ne _ _ (Ne.symm h)]
  · rfl

/-! ### Samples of the queues (R401) -/

theorem sampleBin_lt (b v : Nat) : sampleBin b v < 16 := by
  unfold sampleBin
  split
  · decide
  · exact lt_of_le_of_lt (Nat.min_le_left _ _) (by decide)

/-- The counter that a sample of the depth of queue `k` counts in. -/
def depthBin (s : State) (k : Nat) : Nat :=
  32 * k + sampleBin (fget s F.TM_SAMPLE_CFG_DEPTH_BASE) (fget s (F.TM_Q_DEPTH_DEPTH (qport k) (qnum k)))

theorem sampleQueue_regs (k : Nat) (s : State) : (sampleQueue k s).regs = s.regs := regs_of_same (same_sampleQueue k s) (by decide)

theorem depthBin_congr {s t : State} (h : t.regs = s.regs) (k : Nat) : depthBin t k = depthBin s k := by
  unfold depthBin fget rget
  rw [h]

theorem ctr_sampleQueue_other {k i : Nat} (s : State) (h : i / 32 ≠ k) : ctr (sampleQueue k s) 15 i = ctr s 15 i := by
  unfold sampleQueue bump
  dsimp only
  have depth := sampleBin_lt (fget s F.TM_SAMPLE_CFG_DEPTH_BASE) (fget s (F.TM_Q_DEPTH_DEPTH (qport k) (qnum k)))
  refine (ctr_bumpN_other _ _ fun e => h ?_).trans (ctr_bumpN_other _ _ fun e => h (by omega))
  generalize delay : sampleBin (fget s F.TM_SAMPLE_CFG_DELAY_BASE) _ = b at e
  have := delay ▸ sampleBin_lt (fget s F.TM_SAMPLE_CFG_DELAY_BASE) _
  omega

theorem ctr_sampleQueue_own (k : Nat) (s : State) : ctr (sampleQueue k s) 15 (depthBin s k) = (ctr s 15 (depthBin s k) + 1) % 2 ^ 64 := by
  unfold sampleQueue bump depthBin
  dsimp only
  have depth := sampleBin_lt (fget s F.TM_SAMPLE_CFG_DEPTH_BASE) (fget s (F.TM_Q_DEPTH_DEPTH (qport k) (qnum k)))
  rw [ctr_bumpN_other _ _ (by omega), ctr_bumpN_same]

theorem depthBin_div (s : State) (k : Nat) : depthBin s k / 32 = k := by
  have := sampleBin_lt (fget s F.TM_SAMPLE_CFG_DEPTH_BASE) (fget s (F.TM_Q_DEPTH_DEPTH (qport k) (qnum k)))
  unfold depthBin
  omega

theorem ctr_sampled_other {l : List Nat} {i : Nat} (s : State) (h : i / 32 ∉ l) :
    ctr (l.foldl (fun s k => sampleQueue k s) s) 15 i = ctr s 15 i := by
  induction l generalizing s with
  | nil => rfl
  | cons k l ih =>
    rw [List.mem_cons, not_or] at h
    rw [List.foldl_cons, ih _ h.2, ctr_sampleQueue_other _ h.1]

theorem ctr_sampled {l : List Nat} {k : Nat} (s : State) (once : l.Nodup) (h : k ∈ l) :
    ctr (l.foldl (fun s k => sampleQueue k s) s) 15 (depthBin s k) = (ctr s 15 (depthBin s k) + 1) % 2 ^ 64 := by
  induction l generalizing s with
  | nil => exact absurd h List.not_mem_nil
  | cons j l ih =>
    obtain ⟨fresh, once⟩ := List.nodup_cons.mp once
    rw [List.foldl_cons]
    by_cases e : j = k
    · subst e
      rw [ctr_sampled_other _ (by rwa [depthBin_div]), ctr_sampleQueue_own]
    · have rest : k ∈ l := (List.mem_cons.mp h).resolve_left (Ne.symm e)
      have other : ctr (sampleQueue j s) 15 (depthBin s k) = ctr s 15 (depthBin s k) :=
        ctr_sampleQueue_other s (by rw [depthBin_div]; exact Ne.symm e)
      have := ih (sampleQueue j s) once rest
      rwa [depthBin_congr (sampleQueue_regs j s), other] at this

/-- Settles O44: the shaper's level anew (`shaperReset_shaper`), the registers a region's write leaves (`rget_writeRegion`) and the
depths counted, each queue in a bin of its own (`ctr_sampled`). -/
theorem shapersRegionsAndSamples : Obligations.ShapersRegionsAndSamples := by
  unfold Obligations.ShapersRegionsAndSamples
  refine ⟨?_, ?_, ?_⟩
  · rintro g b v s ok ready
    obtain ⟨t, run, st⟩ := hostCmd_settles (c := .shaperRateWrite g b v) (f := writeShaper g b v.toNat) rfl ok ready
    have frame := same_writeShaper g b v.toNat s
    have regs : ∀ r, TmReg r → rget t r = rget (writeRw (shaperReg b g) v.toNat s) r := fun r h => st.reg r h.not_mem_settleRegs
    refine ⟨t, run, regs _ (tmReg_shaperReg b ok), ?_, st.dp.trans (frame.part .dp (by decide)), st.tab.trans (frame.part .tab (by decide))⟩
    have bound := shaperOf_lt ok
    rw [st.tmg, shaperRate_congr bound regs, shaperBurst_congr bound regs]
    exact shaperReset_shaper _ _
  · rintro a v s ok ready
    obtain ⟨t, run, st⟩ := hostCmd_settles (c := .tmRegionWrite a v) (f := writeRegion a v.toNat) rfl ok ready
    have frame := same_writeRegion a v.toNat s
    have block := regionAddr_bounds ok
    have outside : ∀ r ∈ settleRegs, r ≠ A.TM_INT_STAT := by decide
    refine ⟨t, run, ?_, ?_, st.dp.trans (frame.part .dp (by decide)), st.tab.trans (frame.part .tab (by decide))⟩
    · have upper := block.2
      rw [st.reg a block.not_mem_settleRegs,
        rget_writeRegion _ _ _ (Nat.ne_of_gt block.1) (by unfold A.GBK_INT_STAT; omega)]
      exact (rget_rput_same _ _ _).trans (rget_rput_same _ _ _).symm
    · intro r ne int settle
      have gbk : r ≠ A.GBK_INT_STAT := fun e => settle (e ▸ by decide)
      rw [st.reg r settle, rget_writeRegion _ _ _ int gbk, rget_writeRw_ne _ _ (Ne.symm ne), rget_keepInForce]
  · rintro dt us s u he period nonzero due
    obtain ⟨t, run, st⟩ := timed_settles (c := .queueSample dt) (f := sampleQueues) rfl rfl he
    have frame := same_sampleQueues u
    have sampled : sampleQueues u =
        (List.range 1280).foldl (fun s k => sampleQueue k s) { u with tmg := { u.tmg with sampleClk := u.clk } } := by
      unfold sampleQueues
      dsimp only
      rw [period, if_neg (by omega)]
    refine ⟨t, run, ?_, ?_, st.dp.trans (frame.part .dp (by decide)), st.tab.trans (frame.part .tab (by decide))⟩
    · have kept : Same [.tal] { u with tmg := { u.tmg with sampleClk := u.clk } } (sampleQueues u) :=
        sampled ▸ Same.foldl (fun _ _ h => (same_sampleQueue _ _).comp (by decide) h) (Same.refl _ _)
      rw [st.tmg, kept.part .tmg (by decide)]
    · intro k hk
      have := ctr_sampled { u with tmg := { u.tmg with sampleClk := u.clk } } List.nodup_range (List.mem_range.mpr hk)
      rw [← sampled] at this
      exact (st.ctr 15 _ (by decide) (by
        have bin := depthBin_div u k
        exact (Nat.add_lt_add_left (show depthBin u k < 40960 by omega) _).trans_le (by decide))).trans this
end Machine
end Sys2Proof
end

section
/-! PROOF. Proofs/CoreReference.lean: the loss of the PCIe reference clock (O59). -/
namespace Sys2Proof
namespace Machine

/-- A device that has its PCIe reference, with a frame in its buffer that nothing refers to. -/
def orphanFrame : State := setClkOk 5 true { State.reset with dp := { State.reset.dp with frames := [(0, newFrame [] 0)] } }

/-- Refutes O59: its third clause says that the loss of the PCIe reference leaves the data path as it is, for every state. The command
frees the cells of every frame that nothing refers to, so a state with such a frame in its buffer loses it. -/
theorem not_clocksLedsAndJtag : ¬ Obligations.ClocksLedsAndJtag := by
  unfold Obligations.ClocksLedsAndJtag
  rintro ⟨-, -, lost, -⟩
  have free : Elapsed 0 orphanFrame orphanFrame := ⟨by decide +kernel, rfl⟩
  obtain ⟨t, run, -, kept, -⟩ := lost 0 orphanFrame orphanFrame free (by decide +kernel)
  obtain ⟨t', run', st⟩ := timed_settles (c := .refclkLost 0 5) (f := fun s => freeCells (refclkLost 5 s)) rfl rfl free
  obtain rfl : t = t' := Host.Outcome.next.inj (run.symm.trans run')
  have freed : (freeCells (refclkLost 5 orphanFrame)).dp.frames = [] := by decide +kernel
  have frames : (freeCells (refclkLost 5 orphanFrame)).dp.frames = [(0, newFrame [] 0)] := congrArg Dp.frames (st.dp.symm.trans kept)
  rw [freed] at frames
  exact absurd frames (by decide)

end Machine
end Sys2Proof
end

section
/-! PROOF. Proofs/ScrubCapture.lean: what the capture of an uncorrectable word keeps (O56). -/
namespace Sys2Proof
namespace Machine

/-- A copy of a ring in progress, its rooms from pool 0. -/
def strayWork : RxWork :=
  { copy := plainCopy 0 64 0, data := [], head := 0, owners := 0, pool := 0, size := 0, need := 0, rooms := [], written := 0, wrote := 0 }

/-- The word that is the cache of pool 0. -/
def cacheWord : EccWord := { cls := eccHost, hearth := 15, table := 1, index := 0 }

/-- A ring that the device does not have: its bit among the starved rings would stand in the register of the captured address. -/
def strayRing : Nat := 32 * 0x13FF7 + 25

theorem starved_strayRing : A.POR_RX_STARVED (strayRing / 32) = A.HLT_ECC_CAP_ADDR := by decide

/-- A device whose Drayman lists a copy in progress for that ring. -/
def strayCopy : State := putRx strayRing { rxDefault 0 with work := some strayWork } State.reset

/-- The scrubber's count of its passes is another register. -/
theorem rget_scrubWord {r : Nat} (w : EccWord) (s : State) (h : A.HLT_SCRUB_STATUS ≠ r) :
    rget (scrubWord w 2 s) r = rget (eccUncorrectable w (2 == 3) s) r := by
  unfold scrubWord
  extract_lets u
  have same : u = eccUncorrectable w (2 == 3) s := (if_neg (by decide)).trans (if_neg (by decide))
  clear_value u
  subst same
  split
  · rw [rget_bump, rget_rput_ne _ _ h]
  · rfl

/-- Refutes O56: its fifth clause says of every state that the address of a captured word stays in its register. A word of the
Porter's cache that is uncorrectable abandons the copy whose rooms come from it and marks its ring starved; the model's list of
channels may name a ring beyond the 64 that there are, and the bit of that ring lies in HLT_ECC_CAP_ADDR (`starved_strayRing`). -/
theorem not_votersBanksAndBist : ¬ Obligations.VotersBanksAndBist := by
  unfold Obligations.VotersBanksAndBist
  rintro ⟨-, -, -, -, captures, -⟩
  have free : Elapsed 0 strayCopy strayCopy := ⟨by decide +kernel, rfl⟩
  obtain ⟨t, run, -, index, -⟩ := captures 0 2 cacheWord strayCopy strayCopy (by decide) (.inl rfl) free (by decide +kernel)
  obtain ⟨t', run', st⟩ := timed_settles (c := .scrubAccess 0 cacheWord 2) (f := scrubWord cacheWord 2) rfl (by decide) free
  obtain rfl : t = t' := Host.Outcome.next.inj (run.symm.trans run')
  have starved : rget (eccUncorrectable cacheWord (2 == 3) strayCopy) A.HLT_ECC_CAP_ADDR = 2 ^ 25 := by decide +kernel
  rw [st.reg _ (by decide), rget_scrubWord _ _ (by decide), starved] at index
  exact absurd index (by decide)

end Machine
end Sys2Proof
end

section
/-! PROOF. Proofs/MonitorReadings.lean: what a poll of the monitors leaves of its readings (O57). -/
namespace Sys2Proof
namespace Machine

/-- A queue that no port has: the register of its depth would be that of temperature sensor 5. -/
def strayQueue : Nat := 0x5F80

theorem depth_strayQueue : A.TM_Q_DEPTH 0 strayQueue = A.HLT_TEMP 5 := by decide

/-- A suspended frame of that queue. -/
def straySending : Sending :=
  { copy := { plainCopy 0 64 0 with mgmt := false, cells := 7 }, queue := strayQueue, out := [], len := 64, sent := 0, fromClk := 0, pre := true
    invert := false, stamp := 0, overrun := false, bank := 0, frag := 0, group := none }

/-- A device in RUN whose port 0 lists such a frame. -/
def strayTx : State :=
  let s := { State.reset with glb := { State.reset.glb with base := bRun } }
  putTx 0 { txOf s 0 with susp := some straySending } s

/-- A poll in which sensor 5 answers 200 °C and no other sensor answers. -/
def hotPoll : Readings :=
  { temps := (List.replicate 16 none).set 5 (some 20000), volts := List.replicate 12 none, procs := List.replicate 32 none }

/-- Refutes O57: its first clause says of every state that a poll leaves each reading in its register. A critical reading makes SAFE,
which drops the frames that are suspended and takes their cells off the depth of their queues; the model's record of a suspended
frame may name a queue that no port has, whose depth would stand in the register of the reading itself (`depth_strayQueue`). -/
theorem not_monitorsAndTheCoreVoltage : ¬ Obligations.MonitorsAndTheCoreVoltage := by
  unfold Obligations.MonitorsAndTheCoreVoltage
  rintro ⟨polls, -⟩
  have free : Elapsed 0 strayTx strayTx := ⟨by decide +kernel, rfl⟩
  obtain ⟨t, run, temps, -⟩ := polls 0 hotPoll strayTx strayTx (by decide) free (by decide +kernel)
  obtain ⟨t', run', st⟩ := timed_settles (c := .monitorPoll 0 hotPoll) (f := fun s => freeCells (monitorPoll hotPoll s)) rfl (by decide) free
  obtain rfl : t = t' := Host.Outcome.next.inj (run.symm.trans run')
  have lowered : rget (monitorPoll hotPoll strayTx) (A.HLT_TEMP 5) = 20000 - 7 := by decide +kernel
  have reading : rget t (A.HLT_TEMP 5) = ofSigned 16 20000 := temps 5 20000 rfl
  rw [st.reg _ (by decide), rget_freeCells, lowered] at reading
  exact absurd reading (by decide)

end Machine
end Sys2Proof
end

section
/-! PROOF. Proofs/SerialControllers.lean: the flash, I2C and MDIO controllers (O58). -/
namespace Sys2Proof
namespace Machine

/-! ### Registers of the pins' block -/

/-- A register of the pins' block. -/
def PinReg (r : Nat) : Prop := 0x1B0000 ≤ r

theorem PinReg.not_mem_settleRegs {r : Nat} (h : PinReg r) : r ∉ settleRegs := by
  have outside : ∀ a ∈ settleRegs, a < 0x1B0000 := by decide
  intro mem
  have := outside r mem
  unfold PinReg at h
  omega

theorem pinReg_i2cStatus (i : Nat) : PinReg (A.PIN_I2C_STATUS i) := by
  unfold PinReg A.PIN_I2C_STATUS
  omega

theorem i2cStatus_ne_int (i : Nat) : A.PIN_INT_STAT ≠ A.PIN_I2C_STATUS i := by
  unfold A.PIN_INT_STAT A.PIN_I2C_STATUS
  omega

/-! ### The flash controller (R754, R755) -/

theorem qspiStart_taken {v : Nat} {s : State} (idle : fbit s F.PIN_QSPI_STATUS_BUSY = false) (unread : loaderReads s = false)
    (short : bits v 15 9 ≤ 256) : qspiStart v s =
      fput F.PIN_QSPI_STATUS_BUSY 1
        { fput F.PIN_QSPI_STATUS_OVERRUN 0 s with pin := { (fput F.PIN_QSPI_STATUS_OVERRUN 0 s).pin with qspi := some v } } := by
  have still : loaderReads (fput F.PIN_QSPI_STATUS_OVERRUN 0 s) = false := by
    have state : frgState (fput F.PIN_QSPI_STATUS_OVERRUN 0 s) = frgState s := fget_fput_ne _ _ (by decide)
    unfold loaderReads at unread ⊢
    rw [fput_frg, state]
    exact unread
  unfold qspiStart
  dsimp only
  rw [if_neg (by simp [idle]), if_neg (by simp [still]), if_neg (Nat.not_lt.mpr short)]

theorem qspiEnd_spec (r : Nat) (s : State) :
    (qspiEnd r s).pin = { s.pin with qspi := none } ∧ fget (qspiEnd r s) F.PIN_QSPI_STATUS_BUSY = 0 ∧
      fget (qspiEnd r s) F.PIN_QSPI_STATUS_RESULT = r % 256 ∧ bitAt (rget (qspiEnd r s) A.PIN_INT_STAT) 4 = true ∧
      (qspiEnd r s).frg = s.frg := by
  unfold qspiEnd
  refine ⟨?_, ?_, ?_, testBit_forBits _ _ _ (by decide), ?_⟩
  · rw [setInt_pin, fput_pin, fput_pin]
  · rw [fget_setInt_ne _ _ (by decide), fget_fput_same _ _ _ (by decide)]
    rfl
  · rw [fget_setInt_ne _ _ (by decide), fget_fput_apart _ _ (by decide), fget_fput_same _ _ _ (by decide)]
    rfl
  · rw [setInt_frg, fput_frg, fput_frg]

/-- What the flash has answered stands in the buffer. -/
def qspiAnswered (got : List Byte) (s : State) : State := got.zipIdx.foldl (fun s e => putQspiByte e.2 e.1 s) s

theorem same_qspiAnswered (got : List Byte) (s : State) : Same [.regs] s (qspiAnswered got s) :=
  Same.foldl (fun _ _ h => (same_putQspiByte _ _ _).comp (by decide) h) (Same.refl _ _)

/-- A command ends after what it does in the flash, or to the buffer alone where it writes nothing there. -/
theorem qspiDone_ends {v : Nat} (data : List Byte) {s : State} (runs : s.pin.qspi = some v) :
    ∃ u, qspiDone data s = qspiEnd qspiOk u ∧ u.pin = s.pin ∧ (bitAt v 28 = false → bits v 15 9 ≠ 0 → u.frg = s.frg) := by
  unfold qspiDone
  rw [runs]
  dsimp only
  split
  next acts =>
    refine ⟨_, rfl, (same_flashActs _ _ _ _).part .pin (by decide), fun still nonzero => ?_⟩
    rw [still] at acts
    exact absurd acts (by simp [nonzero])
  next => exact ⟨_, rfl, (same_qspiAnswered _ _).part .pin (by decide), fun _ _ => (same_qspiAnswered _ _).part .frg (by decide)⟩

/-! ### The I2C controllers (R756, R757) -/

theorem i2cOf_congr {s t : State} (h : t.pin = s.pin) (i : Nat) : i2cOf t i = i2cOf s i := by
  unfold i2cOf
  rw [h]

theorem i2cOf_setI2c (i : Nat) (x : I2c) (s : State) : i2cOf (setI2c i x s) i = x := by
  unfold setI2c i2cOf
  dsimp only
  by_cases first : i = 0
  · rw [if_pos first, if_pos first, fput_pin, fput_pin]
  · rw [if_neg first, if_neg first, fput_pin, fput_pin]

theorem txLevel_setI2c (i : Nat) (x : I2c) (s : State) :
    fget (setI2c i x s) (F.PIN_I2C_STATUS_TX_LEVEL i) = x.tx.length % 64 :=
  fget_fput_same _ _ _ (show 24 + 6 ≤ 32 by decide)

theorem i2cStart_taken {i v : Nat} {s : State} (idle : fbit s (F.PIN_I2C_STATUS_BUSY i) = false) (start : bitAt v 0 = true)
    (enabled : fbit s (F.PIN_I2C_CFG_EN i) = true) (w : bits v 16 6 ≤ 32) (r : bits v 8 6 ≤ 32) (there : bits v 16 6 ≤ (i2cOf s i).tx.length) :
    i2cStart i v s = fput (F.PIN_I2C_STATUS_BUSY i) 1
      (setI2c i { i2cOf s i with cmd := some (bits v 24 7, bits v 16 6, bits v 8 6) } (fput (F.PIN_I2C_STATUS_OVERRUN i) 0 s)) := by
  unfold i2cStart
  dsimp only
  rw [if_neg (by simp [idle]), if_neg (by simp [start, enabled]), if_neg (by omega)]

theorem i2cEnd_spec (i r : Nat) (s : State) :
    (i2cEnd i r s).pin = s.pin ∧ fget (i2cEnd i r s) (F.PIN_I2C_STATUS_BUSY i) = 0 ∧
      fget (i2cEnd i r s) (F.PIN_I2C_STATUS_RESULT i) = r % 256 := by
  unfold i2cEnd
  refine ⟨?_, ?_, ?_⟩
  · rw [setInt_pin, fput_pin, fput_pin]
  · rw [fget_setInt_ne _ _ (i2cStatus_ne_int i), fget_fput_same _ _ _ (show 0 + 1 ≤ 32 by decide)]
    rfl
  · rw [fget_setInt_ne _ _ (i2cStatus_ne_int i), fget_fput_apart _ _ (.inr (.inr (show 0 + 1 ≤ 8 ∧ 8 + 8 ≤ 32 by decide))),
      fget_fput_same _ _ _ (show 8 + 8 ≤ 32 by decide)]
    rfl

theorem i2cDone_ok {i a w n : Nat} (data : List Byte) {s : State} (runs : (i2cOf s i).cmd = some (a, w, n)) :
    i2cDone i 0 data s =
      i2cEnd i 0 (setI2c i { tx := (i2cOf s i).tx.drop w, rx := ((i2cOf s i).rx ++ data.take n).take 32, cmd := none } s) := by
  unfold i2cDone
  dsimp only
  rw [runs]
  rfl

/-- A byte has been read from the receive FIFO. -/
def i2cRead (i : Nat) (s : State) : State :=
  { (i2cPop i s).2 with hif := { (i2cPop i s).2.hif with readData := [(i2cPop i s).1] } }

theorem i2cPop_eq {i : Nat} {b : Byte} {rest : List Byte} {s : State} (bytes : (i2cOf s i).rx = b :: rest) :
    i2cPop i s = (b.toNat, setI2c i { i2cOf s i with rx := rest } s) := by
  unfold i2cPop
  dsimp only
  rw [bytes, List.headD_cons, List.tail_cons]

theorem i2cOf_withHif (h : Hif) (s : State) (i : Nat) : i2cOf { s with hif := h } i = i2cOf s i := rfl

theorem i2cRead_spec {i : Nat} {b : Byte} {rest : List Byte} {s : State} (bytes : (i2cOf s i).rx = b :: rest) :
    (i2cRead i s).hif.readData = [b.toNat] ∧ i2cOf (i2cRead i s) i = { i2cOf s i with rx := rest } ∧ (i2cRead i s).dp = s.dp := by
  have popped := i2cPop_eq bytes
  have fifo := i2cOf_setI2c i { i2cOf s i with rx := rest } s
  have dp : (setI2c i { i2cOf s i with rx := rest } s).dp = s.dp := (same_setI2c i _ s).part .dp (by decide)
  unfold i2cRead
  rw [popped]
  generalize setI2c i { i2cOf s i with rx := rest } s = t at fifo dp ⊢
  exact ⟨rfl, (i2cOf_withHif _ t i).trans fifo, (withHif_dp t _).trans dp⟩

/-! ### The MDIO controller (R758) -/

theorem mdioStart_taken {op phy reg c45 : Nat} {c : Instr} {s : State} (ready : HostReady s A.PIN_MDIO_CMD)
    (idle : fbit s F.PIN_MDIO_STATUS_BUSY = false) (e : exec c s = hostCmd c A.PIN_MDIO_CMD s (mdioStart op phy reg c45))
    (w : wellFormed c = true) :
    ∃ t, exec c s = .next t ∧ fget t F.PIN_MDIO_STATUS_BUSY = 1 ∧ fget t F.PIN_MDIO_STATUS_OVERRUN = 0 ∧
      t.pin = { s.pin with mdio := some (op, phy, reg, c45) } ∧ t.dp = s.dp := by
  obtain ⟨t, run, st⟩ := hostCmd_settles e w ready
  unfold mdioStart at st
  rw [if_neg (by rw [idle]; decide)] at st
  refine ⟨t, run, ?_, ?_, ?_, ?_⟩
  · rw [st.fget (by decide), fget_fput_apart _ _ (by decide), fget_fput_same _ _ _ (by decide)]
    rfl
  · rw [st.fget (by decide), fget_fput_same _ _ _ (by decide)]
    rfl
  · rw [st.pin, fput_pin, fput_pin]
  · rw [st.dp, fput_dp, fput_dp]

/-- What the frame of operation `op` has left of the answer. -/
def mdioAnswered (op : Nat) (no : Bool) (d : Nat) (s : State) : State :=
  if op % 2 == 1 then fput F.PIN_MDIO_DATA_DATA (if no then 0xFFFF else d) { s with pin := { s.pin with mdio := none } }
  else { s with pin := { s.pin with mdio := none } }

theorem mdioAnswered_spec (op : Nat) (no : Bool) (d : Nat) (s : State) :
    (mdioAnswered op no d s).pin = { s.pin with mdio := none } ∧ fget (mdioAnswered op no d s) F.PIN_MDIO_DATA_DATA =
      if op % 2 = 1 then (if no then 0xFFFF else d) % 65536 else fget s F.PIN_MDIO_DATA_DATA := by
  unfold mdioAnswered
  by_cases reads : op % 2 = 1
  · rw [if_pos (by simp [reads]), if_pos reads, fput_pin, fget_fput_same _ _ _ (by decide)]
    exact ⟨rfl, rfl⟩
  · rw [if_neg (by simp [reads]), if_neg reads]
    exact ⟨rfl, rfl⟩

theorem mdioDone_spec {op a b c : Nat} (no : Bool) (d : Nat) {s : State} (runs : s.pin.mdio = some (op, a, b, c)) :
    (mdioDone no d s).pin = { s.pin with mdio := none } ∧ fget (mdioDone no d s) F.PIN_MDIO_STATUS_BUSY = 0 ∧
      bitAt (rget (mdioDone no d s) A.PIN_INT_STAT) 3 = true ∧
      fget (mdioDone no d s) F.PIN_MDIO_DATA_DATA =
        (if op % 2 = 1 then (if no then 0xFFFF else d) % 65536 else fget s F.PIN_MDIO_DATA_DATA) := by
  have ends : mdioDone no d s = setInt A.PIN_INT_STAT 3 (fput F.PIN_MDIO_STATUS_BUSY 0
      (fput F.PIN_MDIO_STATUS_RESULT (b2n (op % 2 == 1 && no)) (mdioAnswered op no d s))) := by
    unfold mdioDone
    rw [runs]
    rfl
  obtain ⟨pin, data⟩ := mdioAnswered_spec op no d s
  rw [ends]
  refine ⟨?_, ?_, testBit_forBits _ _ _ (by decide), ?_⟩
  · rw [setInt_pin, fput_pin, fput_pin, pin]
  · rw [fget_setInt_ne _ _ (by decide), fget_fput_same _ _ _ (by decide)]
    rfl
  · rw [fget_setInt_ne _ _ (by decide), fget_fput_ne _ _ (by decide), fget_fput_ne _ _ (by decide), data]

/-- Settles O58: each controller's command taken (`qspiStart_taken`, `i2cStart_taken`, `mdioStart_taken`) and its end (`qspiEnd_spec`,
`i2cEnd_spec`, `mdioDone_spec`), and the bytes of the I2C FIFOs (`i2cOf_setI2c`). -/
theorem serialControllersRunTheirCommands : Obligations.SerialControllersRunTheirCommands := by
  unfold Obligations.SerialControllersRunTheirCommands
  refine ⟨?_, ?_, ?_, ?_, ?_, ?_, ?_, ?_⟩
  · rintro v s ready idle unread short
    obtain ⟨t, run, st⟩ := hostCmd_settles (c := .qspiCommand v) (f := qspiStart v.toNat) rfl rfl ready
    rw [qspiStart_taken idle unread short] at st
    refine ⟨t, run, ?_, ?_, ?_, ?_⟩
    · rw [st.pin, fput_pin, fput_pin]
    · rw [st.fget (by decide), fget_fput_same _ _ _ (by decide)]
      rfl
    · rw [st.frg, fput_frg, fput_frg]
    · rw [st.dp, fput_dp, fput_dp]
  · rintro dt v data s u length he runs
    obtain ⟨t, run, st⟩ := timed_settles (c := .qspiDone dt data) (f := qspiDone data) rfl (decide_eq_true length) he
    obtain ⟨w, ends, pin, frg⟩ := qspiDone_ends data runs
    obtain ⟨pinEnd, busy, result, int, frgEnd⟩ := qspiEnd_spec qspiOk w
    rw [ends] at st
    refine ⟨t, run, ?_, ?_, ?_, ?_, fun still nonzero => ?_⟩
    · rw [st.pin, pinEnd, pin]
    · rw [st.fget (by decide), busy]
    · rw [st.fget (by decide), result]
      rfl
    · rw [st.reg _ (by decide), int]
    · rw [st.frg, frgEnd, frg still nonzero]
  · rintro i v s hi ready idle start enabled w r there
    obtain ⟨t, run, st⟩ := hostCmd_settles (c := .i2cStart i v) (f := i2cStart i v.toNat) rfl (decide_eq_true hi) ready
    rw [i2cStart_taken idle start enabled w r there] at st
    refine ⟨t, run, ?_, ?_, ?_⟩
    · rw [i2cOf_congr (st.pin.trans (fput_pin _ _ _)), i2cOf_setI2c]
    · rw [st.fget (pinReg_i2cStatus i).not_mem_settleRegs, fget_fput_same _ _ _ (show 0 + 1 ≤ 32 by decide)]
      rfl
    · rw [st.dp, fput_dp, (same_setI2c _ _ _).part .dp (by decide), fput_dp]
  · rintro dt i a w n data s u hi length he runs
    obtain ⟨t, run, st⟩ := timed_settles (c := .i2cDone dt i 0 data) (f := i2cDone i 0 data) rfl
      (by simp [wellFormed, hi, length]) he
    have frame := same_i2cDone i 0 data u
    have kept := st.dp.trans (frame.part .dp (by decide))
    rw [i2cDone_ok data runs] at st
    obtain ⟨pin, busy, result⟩ := i2cEnd_spec i 0
      (setI2c i { tx := (i2cOf u i).tx.drop w, rx := ((i2cOf u i).rx ++ data.take n).take 32, cmd := none } u)
    have outside := (pinReg_i2cStatus i).not_mem_settleRegs
    exact ⟨t, run, (i2cOf_congr (st.pin.trans pin) i).trans (i2cOf_setI2c _ _ _), (st.fget outside).trans busy,
      (st.fget outside).trans result, kept⟩
  · rintro i v s hi ready idle room
    obtain ⟨t, run, st⟩ := hostCmd_settles (c := .i2cDataWrite i v) (f := i2cPush i v.toNat) rfl (decide_eq_true hi) ready
    unfold i2cPush at st
    dsimp only at st
    rw [if_neg (by simp [idle]), if_neg (Nat.not_le.mpr room)] at st
    refine ⟨t, run, ?_, ?_, ?_⟩
    · rw [i2cOf_congr st.pin, i2cOf_setI2c]
    · rw [st.fget (pinReg_i2cStatus i).not_mem_settleRegs, txLevel_setI2c, List.length_append]
      exact Nat.mod_eq_of_lt (by simp only [List.length_singleton]; omega)
    · rw [st.dp, (same_setI2c _ _ _).part .dp (by decide)]
  · rintro i b rest s hi free awake bytes
    have answers : exec (.i2cDataRead i) s = .next (after (i2cRead i) s) :=
      hostRead_next (c := .i2cDataRead i) (i2cRead i) (decide_eq_true hi) free awake
    have st := settledFrom_after (i2cRead i) s
    obtain ⟨data, left, dp⟩ := i2cRead_spec bytes
    exact ⟨_, answers, by rw [st.hifRest, ← data], (i2cOf_congr st.pin i).trans left, st.dp.trans dp⟩
  · rintro op phy dev reg c s hp hd hr low ready idle known
    simp only [List.mem_cons, Prod.mk.injEq, List.not_mem_nil, or_false] at known
    obtain ⟨rfl, rfl⟩ | ⟨rfl, rfl⟩ | ⟨rfl, rfl⟩ | ⟨rfl, rfl⟩ := known
    · exact mdioStart_taken ready idle rfl (by simp [wellFormed, hp, low])
    · exact mdioStart_taken ready idle rfl (by simp [wellFormed, hp, low])
    · exact mdioStart_taken ready idle rfl (by simp [wellFormed, hp, hd, hr])
    · exact mdioStart_taken ready idle rfl (by simp [wellFormed, hp, hd, hr])
  · rintro dt op a b c d no s u hd he runs
    obtain ⟨t, run, st⟩ := timed_settles (c := .mdioDone dt no d) (f := mdioDone no d) rfl (decide_eq_true hd) he
    obtain ⟨pin, busy, int, data⟩ := mdioDone_spec no d runs
    refine ⟨t, run, st.pin.trans pin, ?_, ?_, ?_⟩
    · rw [st.fget (by decide), busy]
    · rw [st.reg _ (by decide), int]
    · have fits : (if no = true then 0xFFFF else d) < 65536 := by
        split <;> omega
      rw [st.fget (by decide), data, Nat.mod_eq_of_lt fits]

end Machine
end Sys2Proof
end
